-- ==== Sys2Proof/Word.lean ====
section
/-! DEFINITION. The 128-bit register word (R6), the 64-bit sequencer register (R180) and the plainest arithmetic on
them: a bit range of a word, two's complement reading (R14), and little-endian bytes (R12). -/

namespace Sys2Proof

/-- R6: every register is one 128-bit word, or a field within one. -/
abbrev Word := BitVec 128
/-- One byte. -/
abbrev Byte := BitVec 8
/-- A 64-bit register of a site sequencer, and the width of the beat counter (R29). -/
abbrev Word64 := BitVec 64

/-- `w` bits of the number `n` from bit `lo` up. -/
def bitsOf (n lo w : Nat) : Nat := (n >>> lo) % 2 ^ w

/-- Bit `i` of a number. -/
def bitOf (n i : Nat) : Bool := n.testBit i

/-- R14: the two's complement reading of a `w`-bit number. -/
def signedOf (w n : Nat) : Int := if 2 * (n % 2 ^ w) < 2 ^ w then (n % 2 ^ w : Nat) else (n % 2 ^ w : Nat) - (2 ^ w : Nat)

/-- R14: the `w` low bits of an integer, as a two's complement field holds it. -/
def fieldOf (w : Nat) (z : Int) : Nat := (z % (2 ^ w : Nat)).toNat

/-- 1 for true. -/
def b2n (b : Bool) : Nat := if b then 1 else 0

/-- R12: the number a little-endian byte list holds. -/
def leNat : List Byte → Nat
  | [] => 0
  | b :: bs => b.toNat + 256 * leNat bs

/-- R12: `k` little-endian bytes of a number. -/
def leBytes : Nat → Nat → List Byte
  | 0, _ => []
  | k + 1, n => BitVec.ofNat 8 n :: leBytes k (n / 256)

/-- Rounded division to the nearest integer, a half going up: the `round` of the manual's formulas. -/
def roundDiv (a : Int) (b : Nat) : Int := (2 * a + b) / (2 * b : Nat)

/-- Division rounded up. -/
def ceilDiv (a b : Nat) : Nat := (a + b - 1) / b

end Sys2Proof
end

