-- ==== Sys2Proof/Machine/Crc.lean ====
section
/-! DEFINITION. The checks the formats carry: CRC-8 of sync frames (R36), CRC-16 of WRITE_CRC frames (R447) and CRC-32C of
images and records (R13). -/

namespace Sys2Proof.Machine

/-- One bit of a CRC register of width `w` that shifts left (MSB first) with polynomial `poly`. -/
def crcBit (w poly crc : Nat) (b : Bool) : Nat :=
  let top := bitOf crc (w - 1) != b
  let sh := (crc * 2) % 2 ^ w
  if top then sh ^^^ poly else sh

/-- The top `k` bits of a `k`-bit number, most significant first, into an MSB-first CRC. -/
def crcNat (w poly : Nat) : Nat → Nat → Nat → Nat
  | 0, _, crc => crc
  | k + 1, n, crc => crcNat w poly k n (crcBit w poly crc (bitOf n k))

/-- R36: CRC-8 over bits [55:8] of a sync frame, polynomial 0x07, initial value 0. -/
def crc8Frame (f : BitVec 64) : Nat := crcNat 8 0x07 48 (bitsOf f.toNat 8 48) 0

/-- R447: CRC-16 over bytes in the order sent, polynomial 0x1021, initial value 0xFFFF. -/
def crc16 (bs : List Byte) : Nat := bs.foldl (fun c b => crcNat 16 0x1021 8 b.toNat c) 0xFFFF

/-- One bit of the reflected CRC-32C register (R13). -/
def crc32cStep : Nat → Nat → Nat
  | 0, c => c
  | k + 1, c => crc32cStep k (if bitOf c 0 then (c / 2) ^^^ 0x82F63B78 else c / 2)

/-- R13: CRC-32C (Castagnoli) of bytes, initial value all ones, complemented at the end. -/
def crc32c (bs : List Byte) : Nat :=
  (bs.foldl (fun c b => crc32cStep 8 (c ^^^ b.toNat)) 0xFFFFFFFF) ^^^ 0xFFFFFFFF

end Sys2Proof.Machine
end

