-- ==== Sys2Proof/Machine/Codes.lean ====
section
/-! DEFINITION. The codes of the manual by name: trouble-log sources (R484) and codes (R485), event codes (R386, R419,
R507), record kinds (R385) and flags (R383), hold causes (R200), site states (R198), device modes (R490), alert and
interrupt sources (R451, R466), statement status (R186) fault reasons (R187), clause results (R252) and slot states (R235). -/

namespace Sys2Proof.Machine

/-! R484: trouble-log sources. -/
def Src.DEV : Nat := 0x00
def Src.TB : Nat := 0x01
def Src.HK : Nat := 0x02
def Src.LOG : Nat := 0x03
def Src.CP : Nat := 0x04
def Src.MP : Nat := 0x05
def Src.HL : Nat := 0x06
def Src.CL : Nat := 0x07
def Src.SI : Nat := 0x08
def Src.CS : Nat := 0x09
def Src.LX : Nat := 0x0A
def Src.SQ : Nat := 0x0B
def Src.SO : Nat := 0x0C
def Src.PM : Nat := 0x0D
def Src.EE : Nat := 0x0E
def Src.TM : Nat := 0x0F
def Src.CH : Nat := 0x10
def Src.DPS : Nat := 0x11
def Src.WF : Nat := 0x12
def Src.GD : Nat := 0x13
def Src.DL : Nat := 0x14
def Src.CAL : Nat := 0x15
def Src.LG : Nat := 0x16

/-! R485: general codes of the trouble log (table 0x00). -/
def Lc.STATE_REJECT : Nat := 0x01
def Lc.NVM_LOST : Nat := 0x02
def Lc.TIME_INVALID : Nat := 0x03
def Lc.SCHED_PAST : Nat := 0x04
def Lc.REFCLK_LOST : Nat := 0x05
def Lc.REFCLK_INVERTED : Nat := 0x06
def Lc.SYNC_INVERTED : Nat := 0x07
def Lc.SYNC_SLIP : Nat := 0x08
def Lc.SYNC_DOWN : Nat := 0x09
def Lc.SNAPSHOT_MISSED : Nat := 0x0A
def Lc.SNAPSHOT_SKIPPED : Nat := 0x0B
def Lc.SI_BUSY : Nat := 0x0C
def Lc.SITE_STATE : Nat := 0x0D
def Lc.NO_REGION : Nat := 0x0E
def Lc.FB_FULL : Nat := 0x0F
def Lc.CS_UNCORR : Nat := 0x10
def Lc.CS_BUSY : Nat := 0x11
def Lc.NO_MICROCODE : Nat := 0x12
def Lc.TM_BUSY : Nat := 0x13
def Lc.WF_BUSY : Nat := 0x14
def Lc.WF_TABLE : Nat := 0x15
def Lc.DPS_OPEN_HIGH : Nat := 0x16
def Lc.TRIP_ACTIVE : Nat := 0x17
def Lc.CONTACT_BUSY : Nat := 0x18
def Lc.CAL_NONE : Nat := 0x19
def Lc.CAL_BAD : Nat := 0x1A
def Lc.CAL_NVM : Nat := 0x1B
def Lc.LEDGER_FULL : Nat := 0x1C
def Lc.MOD_REVERSED : Nat := 0x1D
def Lc.MOD_BAD : Nat := 0x1E
def Lc.HL_DEGRADED : Nat := 0x1F
def Lc.HL_DOWN : Nat := 0x20
def Lc.SYNC_LOST : Nat := 0x21
def Lc.CLAUSE_SPLIT : Nat := 0x22
def Lc.THROTTLE_ON : Nat := 0x30
def Lc.THROTTLE_OFF : Nat := 0x31
def Lc.SENSOR_FAIL : Nat := 0x32
def Lc.SENSOR_RETIRED : Nat := 0x33
def Lc.SENSOR_RESTORED : Nat := 0x34
def Lc.SUPPLY_WARN : Nat := 0x35
def Lc.SHUTDOWN : Nat := 0x36
/-- Table 0x01: a ledger event code (R386, R419, R507). -/
def Lc.event (c : Nat) : Nat := 0x100 + c
/-- Table 0x02: a syntax-image result (R70). -/
def Lc.image (c : Nat) : Nat := 0x200 + c
/-- Table 0x03: a control-store load result (R226). -/
def Lc.store (c : Nat) : Nat := 0x300 + c
/-- Table 0x04: a clause result (R252). -/
def Lc.clause (c : Nat) : Nat := 0x400 + c
/-- Table 0x05: a region result (R136). -/
def Lc.region (c : Nat) : Nat := 0x500 + c

/-! R386: event codes; 0x40 on are the lane codes of R419, 0x50 on thermal, 0x60 on R507. -/
def Ev.FOLLOW_STALL : Nat := 0x01
def Ev.RESHAPED : Nat := 0x02
def Ev.TENSE_INVALID : Nat := 0x03
def Ev.TENSE_SUBST : Nat := 0x04
def Ev.PM_UNCORR : Nat := 0x05
def Ev.DESC_BAD : Nat := 0x06
def Ev.LEASE_VIOLATION : Nat := 0x07
def Ev.START_LATE : Nat := 0x08
def Ev.UNDERRUN : Nat := 0x09
def Ev.FRAME_OVERSIZE : Nat := 0x0A
def Ev.CLONE_MISMATCH : Nat := 0x0B
def Ev.CLONE_REJOIN : Nat := 0x0C
def Ev.COMMIT_LATE : Nat := 0x0D
def Ev.FC_FULL : Nat := 0x0E
def Ev.USER_HOLD : Nat := 0x0F
def Ev.STMT_FAULT : Nat := 0x10
def Ev.ABANDONED : Nat := 0x11
def Ev.STOPPED : Nat := 0x12
def Ev.COMMA_STARVE : Nat := 0x13
def Ev.TM_NOEVENT : Nat := 0x14
def Ev.TM_CALBAD : Nat := 0x15
def Ev.GUARD_TRIP : Nat := 0x16
def Ev.DPS_SENSE : Nat := 0x17
def Ev.REFCAL_DONE : Nat := 0x18
def Ev.LEDGER_GAP : Nat := 0x19
def Ev.LANE_UP : Nat := 0x40
def Ev.LANE_LOST : Nat := 0x41
def Ev.LANE_SILENT : Nat := 0x42
def Ev.LANE_STEPFAIL : Nat := 0x43
def Ev.LANE_NAK : Nat := 0x44
def Ev.LANE_DOWN : Nat := 0x45
def Ev.ADAPT_REVERT : Nat := 0x46
def Ev.LANE_POLINV : Nat := 0x47
def Ev.THERMAL_PAUSE : Nat := 0x50
def Ev.THERMAL_RESUME : Nat := 0x51
def Ev.SPARE_SWITCH : Nat := 0x60
def Ev.SITE_RETIRED : Nat := 0x61

/-! R385: record kinds. -/
def Kind.PASSFAIL : Nat := 0
def Kind.VOLTAGE : Nat := 1
def Kind.CURRENT : Nat := 2
def Kind.TIME : Nat := 3
def Kind.FREQUENCY : Nat := 4
def Kind.COUNT : Nat := 5
def Kind.BIN : Nat := 6
def Kind.LANE_ERRORS : Nat := 7
def Kind.SNAPSHOT : Nat := 8
def Kind.EVENT : Nat := 9

/-! R383: record flags, as bits of FLAGS. -/
def Flag.FAIL : Nat := 1
def Flag.STALE : Nat := 2
def Flag.TRIPPED : Nat := 4
def Flag.LATE : Nat := 8
def Flag.DEVICE : Nat := 16
def Flag.SAT : Nat := 32
def Flag.GAP : Nat := 64

/-! R200: hold causes, as bit numbers. -/
def Cause.HOST : Nat := 0
def Cause.SYNC : Nat := 1
def Cause.SLIP : Nat := 2
def Cause.STARVE : Nat := 3
def Cause.FRAME : Nat := 4
def Cause.CLONE : Nat := 5
def Cause.FAULT : Nat := 6
def Cause.USER : Nat := 7
def Cause.THERMAL : Nat := 8
def Cause.LEASE : Nat := 9

/-! R198 and SQ_STAT_n.STATE: site states. -/
def Site.EMPTY : Nat := 0
def Site.LOADED : Nat := 1
def Site.ARMED : Nat := 2
def Site.RUNNING : Nat := 3
def Site.HELD : Nat := 4
def Site.TRIPPED : Nat := 5
def Site.RESHAPING : Nat := 6
def Site.RETIRED : Nat := 7

/-! R35: link roles. -/
def Role.ISOLATED : Nat := 0
def Role.LEAF : Nat := 1
def Role.ROOT : Nat := 2

/-! R490: device modes. -/
def Mode.RESET : Nat := 0x0
def Mode.SAFE : Nat := 0x1
def Mode.DISCOVER : Nat := 0x2
def Mode.SHAPE : Nat := 0x3
def Mode.REFCAL : Nat := 0x4
def Mode.STANDBY : Nat := 0x5
def Mode.READY : Nat := 0x6
def Mode.CONTACT : Nat := 0x7
def Mode.RUN : Nat := 0x8
def Mode.THROTTLE : Nat := 0x9
def Mode.SELFTEST : Nat := 0xA
def Mode.SHUTDOWN : Nat := 0xB

/-! R451: alert sources; R466: interrupt sources. -/
def Alert.TIMEBASE : Nat := 0
def Alert.CLAUSE : Nat := 1
def Alert.LEDGER : Nat := 2
def Alert.SNAPSHOT : Nat := 3
def Alert.THERMAL : Nat := 4
def Alert.OTHER : Nat := 5
def Intr.TRIP : Nat := 6
def Intr.SI_DONE : Nat := 7
def Intr.LX_DONE : Nat := 8
def Intr.CAL_DONE : Nat := 9
def Intr.MP_DONE : Nat := 10
def Intr.CONTACT_DONE : Nat := 11
def Intr.SITE_END : Nat := 12
def Intr.SITE_HELD : Nat := 13
def Intr.CLAUSE_DONE : Nat := 14
def Intr.LEASE : Nat := 15
def Intr.LINK : Nat := 16
def Intr.SNAP_TAKEN : Nat := 17

/-! R186: statement status. -/
def St.OK : Nat := 0x00
def St.TIMEOUT : Nat := 0x01
def St.REFUSED : Nat := 0x02
def St.ABORTED : Nat := 0x03
def St.FAIL : Nat := 0x04
def St.ABANDONED : Nat := 0xFF

/-! R187: fault reasons; MICRO is the reason of R207. -/
def Reason.BAD_OP : Nat := 0x01
def Reason.REGION : Nat := 0x02
def Reason.UNCORR : Nat := 0x03
def Reason.STACK : Nat := 0x04
def Reason.OPERAND : Nat := 0x05

/-! R252: clause results; R235: slot states. -/

def Cl.OK : Nat := 0x00
def Cl.ABORTED : Nat := 0x01
def Cl.SPLIT : Nat := 0x02
def Cl.DISCARDED : Nat := 0x03
def Cl.LOST : Nat := 0x04
def Cl.NOT_CL : Nat := 0x10
def Cl.FOREIGN : Nat := 0x11
def Cl.LIMIT : Nat := 0x12
def Cl.FIELD : Nat := 0x13
def Cl.STATE : Nat := 0x14
def Cl.TENSE_RANGE : Nat := 0x15
def Cl.ACT_LIMIT : Nat := 0x16
def Cl.LEAD : Nat := 0x17
def Cl.SYNC : Nat := 0x18
def Cl.CONFLICT : Nat := 0x20
def Cl.WORD_PENDING : Nat := 0x21
def Cl.TENSE_ORDER : Nat := 0x22
def Cl.TENSE_PERIOD : Nat := 0x23
def Cl.TRIPPED : Nat := 0x24
def Cl.TAG_DUP : Nat := 0x25
def Cl.SYNC_FULL : Nat := 0x26

def Slot.FREE : Nat := 0
def Slot.OPEN : Nat := 1
def Slot.PREPARING : Nat := 2
def Slot.PREPARED : Nat := 3
def Slot.DONE : Nat := 4

end Sys2Proof.Machine
end

