-- ==== Sys2Proof/Config.lean ====
section
/-! DEFINITION. What an implementation or the manufacture of a part fixes, and the values the manual leaves open. Every
constant here is opaque: no proof can see a value, so a statement holds whatever it is. -/

namespace Sys2Proof.Config

/-- A value the manual leaves undefined while the machine goes on; the argument is the step's free-value counter
(DESIGN CHOICE, notes/assumptions/1.md). -/
opaque freeValue : Nat → Word
/-- R510: DEV_ID.SERIAL, fixed at manufacture. (DESIGN CHOICE, assumption 7.) -/
opaque serial : Word64
/-- R1, R510: DEV_ID.GRADE, 1 on the S16 grade. (DESIGN CHOICE, assumption 7.) -/
opaque gradeS16 : Bool
/-- R510: DEV_ID.LIDLESS, 1 on the S32L part. (DESIGN CHOICE, assumption 7.) -/
opaque lidless : Bool

/-- R224: the vendor public key (X, Y) held in the device. (DEDUCED, assumption 8.) -/
opaque vendorKey : Nat × Nat

end Sys2Proof.Config
end

