-- ==== Sys2Proof/Machine/SMap.lean ====
section
/-! DEFINITION. Sparse data by key: a list of key and value pairs in one canonical form, keys strictly rising and no
entry equal to what an unlisted key reads as (`d`). Registers, memory and every indexed unit of the block are held so. -/

namespace Sys2Proof.Machine

/-- The value at a key; an unlisted key reads `d k`. -/
def sget {α : Type} (d : Nat → α) : List (Nat × α) → Nat → α
  | [], k => d k
  | (j, a) :: m, k => if k = j then a else sget d m k

/-- Remove every entry of a key. -/
def serase {α : Type} : List (Nat × α) → Nat → List (Nat × α)
  | [], _ => []
  | (j, a) :: m, k => if k = j then serase m k else (j, a) :: serase m k

/-- Put a value at its place in the order of the keys. -/
def sinsert {α : Type} : List (Nat × α) → Nat → α → List (Nat × α)
  | [], k, v => [(k, v)]
  | (j, a) :: m, k, v => if k < j then (k, v) :: (j, a) :: m else if k = j then (k, v) :: m else (j, a) :: sinsert m k v

/-- Write a key: the default value removes the entry, so that equal maps are equal lists. -/
def sset {α : Type} [DecidableEq α] (d : Nat → α) (m : List (Nat × α)) (k : Nat) (v : α) : List (Nat × α) :=
  if v = d k then serase m k else sinsert m k v

/-- The canonical form of a map: keys strictly rising, no entry at its default. -/
def swf {α : Type} [DecidableEq α] (d : Nat → α) : List (Nat × α) → Bool
  | [] => true
  | (j, a) :: m => decide (a ≠ d j) && m.all (fun p => decide (j < p.1)) && swf d m

end Sys2Proof.Machine
end

