-- ==== Sys2Proof/Machine/Reg.lean ====
section
/-! DEFINITION. The registers and fields of the block by the manual's names (R511, R513 and the field tables of every
chapter): `Reg.<register>.<FIELD>` is the place of a field, a word address and a bit range. Reserved bits have no name. -/

namespace Sys2Proof.Machine

/-- A field of a register: the word address (24 bits) and the bit range [hi:lo] (R6, R7). -/
structure Fld where
  addr : Nat
  hi : Nat
  lo : Nat
deriving DecidableEq, Repr

/-- The width of a field. -/
def Fld.width (f : Fld) : Nat := f.hi + 1 - f.lo

end Sys2Proof.Machine

namespace Sys2Proof.Machine.Reg


-- TB_NOW (0x00_1000); spec/02_timebase.md
def TB_NOW.word : Nat := 0x001000
def TB_NOW.BEAT : Fld := ⟨0x001000, 79, 16⟩
def TB_NOW.TICK : Fld := ⟨0x001000, 15, 0⟩

-- TB_CTRL (0x00_1001); spec/02_timebase.md
def TB_CTRL.word : Nat := 0x001001
def TB_CTRL.ROLE : Fld := ⟨0x001001, 31, 30⟩
def TB_CTRL.DEVNUM : Fld := ⟨0x001001, 29, 16⟩
def TB_CTRL.REF_INV_AUTO : Fld := ⟨0x001001, 3, 3⟩
def TB_CTRL.SYNC_INV_AUTO : Fld := ⟨0x001001, 2, 2⟩
def TB_CTRL.UP_EN : Fld := ⟨0x001001, 1, 1⟩
def TB_CTRL.SYNC_EN : Fld := ⟨0x001001, 0, 0⟩

-- TB_STAT (0x00_1002); spec/02_timebase.md
def TB_STAT.word : Nat := 0x001002
def TB_STAT.SLIP : Fld := ⟨0x001002, 31, 31⟩
def TB_STAT.SYNC_LOST : Fld := ⟨0x001002, 30, 30⟩
def TB_STAT.PHASE_BAD : Fld := ⟨0x001002, 29, 29⟩
def TB_STAT.REFCLK_LOST : Fld := ⟨0x001002, 28, 28⟩
def TB_STAT.HOP : Fld := ⟨0x001002, 27, 24⟩
def TB_STAT.LOCK : Fld := ⟨0x001002, 23, 22⟩
def TB_STAT.CNT_VALID : Fld := ⟨0x001002, 21, 21⟩
def TB_STAT.PLL_LOCK : Fld := ⟨0x001002, 20, 20⟩
def TB_STAT.REF_INV : Fld := ⟨0x001002, 19, 19⟩
def TB_STAT.SYNC_INV : Fld := ⟨0x001002, 18, 18⟩
def TB_STAT.SYNC_PHASE : Fld := ⟨0x001002, 10, 0⟩

-- TB_LOAD (0x00_1003); spec/02_timebase.md
def TB_LOAD.word : Nat := 0x001003
def TB_LOAD.BEAT : Fld := ⟨0x001003, 63, 0⟩

-- TB_SYNC_ERR (0x00_1004); spec/02_timebase.md
def TB_SYNC_ERR.word : Nat := 0x001004
def TB_SYNC_ERR.FRAMES_OK : Fld := ⟨0x001004, 95, 64⟩
def TB_SYNC_ERR.CRC_ERR : Fld := ⟨0x001004, 63, 32⟩
def TB_SYNC_ERR.START_ERR : Fld := ⟨0x001004, 31, 0⟩

-- TB_ROOT_CMD (0x00_1005); spec/02_timebase.md
def TB_ROOT_CMD.word : Nat := 0x001005
def TB_ROOT_CMD.KIND : Fld := ⟨0x001005, 55, 52⟩
def TB_ROOT_CMD.BEAT : Fld := ⟨0x001005, 23, 0⟩

-- TB_FOLLOW_CFG_n (0x00_1100 + n); spec/02_timebase.md
def TB_FOLLOW_CFG.word (n : Nat) : Nat := 0x001100 + n
def TB_FOLLOW_CFG.PIN (n : Nat) : Fld := ⟨0x001100 + n, 41, 32⟩
def TB_FOLLOW_CFG.STALL (n : Nat) : Fld := ⟨0x001100 + n, 31, 8⟩
def TB_FOLLOW_CFG.EDGE (n : Nat) : Fld := ⟨0x001100 + n, 3, 2⟩
def TB_FOLLOW_CFG.EN (n : Nat) : Fld := ⟨0x001100 + n, 0, 0⟩

-- TB_FOLLOW_CNT_n (0x00_1140 + n); spec/02_timebase.md
def TB_FOLLOW_CNT.word (n : Nat) : Nat := 0x001140 + n
def TB_FOLLOW_CNT.LAST_EDGE (n : Nat) : Fld := ⟨0x001140 + n, 127, 48⟩
def TB_FOLLOW_CNT.COUNT (n : Nat) : Fld := ⟨0x001140 + n, 47, 0⟩

-- TB_FOLLOW_MATCH_n (0x00_1180 + n); spec/02_timebase.md
def TB_FOLLOW_MATCH.word (n : Nat) : Nat := 0x001180 + n
def TB_FOLLOW_MATCH.TARGET (n : Nat) : Fld := ⟨0x001180 + n, 127, 80⟩
def TB_FOLLOW_MATCH.MATCH_TIME (n : Nat) : Fld := ⟨0x001180 + n, 79, 1⟩
def TB_FOLLOW_MATCH.MATCHED (n : Nat) : Fld := ⟨0x001180 + n, 0, 0⟩

-- SI_CMD (0x00_8000); spec/03_syntax_image.md
def SI_CMD.word : Nat := 0x008000
def SI_CMD.SITE : Fld := ⟨0x008000, 13, 8⟩
def SI_CMD.OP : Fld := ⟨0x008000, 3, 0⟩

-- SI_STAT (0x00_8001); spec/03_syntax_image.md
def SI_STAT.word : Nat := 0x008001
def SI_STAT.IMAGE_ID : Fld := ⟨0x008001, 63, 32⟩
def SI_STAT.RESULT : Fld := ⟨0x008001, 23, 16⟩
def SI_STAT.LAST_OP : Fld := ⟨0x008001, 15, 12⟩
def SI_STAT.DONE : Fld := ⟨0x008001, 1, 1⟩
def SI_STAT.BUSY : Fld := ⟨0x008001, 0, 0⟩

-- SI_ACTIVE (0x00_8002); spec/03_syntax_image.md
def SI_ACTIVE.word : Nat := 0x008002
def SI_ACTIVE.IMAGE_ID : Fld := ⟨0x008002, 127, 96⟩
def SI_ACTIVE.IMAGE_CRC : Fld := ⟨0x008002, 95, 64⟩
def SI_ACTIVE.VERSION : Fld := ⟨0x008002, 63, 48⟩
def SI_ACTIVE.SITES : Fld := ⟨0x008002, 47, 40⟩
def SI_ACTIVE.GLOBAL_CRC : Fld := ⟨0x008002, 31, 0⟩

-- SI_ERR (0x00_8003); spec/03_syntax_image.md
def SI_ERR.word : Nat := 0x008003
def SI_ERR.OFFSET : Fld := ⟨0x008003, 95, 64⟩
def SI_ERR.SECTION : Fld := ⟨0x008003, 63, 48⟩
def SI_ERR.ENTRY : Fld := ⟨0x008003, 47, 32⟩
def SI_ERR.DETAIL : Fld := ⟨0x008003, 31, 0⟩

-- SI_SITE_n (0x00_8100 + n); spec/03_syntax_image.md
def SI_SITE.word (n : Nat) : Nat := 0x008100 + n
def SI_SITE.PART_CRC (n : Nat) : Fld := ⟨0x008100 + n, 127, 96⟩
def SI_SITE.IMAGE_ID (n : Nat) : Fld := ⟨0x008100 + n, 95, 64⟩
def SI_SITE.LANES (n : Nat) : Fld := ⟨0x008100 + n, 63, 32⟩
def SI_SITE.PINS (n : Nat) : Fld := ⟨0x008100 + n, 31, 21⟩
def SI_SITE.DPS (n : Nat) : Fld := ⟨0x008100 + n, 20, 14⟩
def SI_SITE.IN_GROUP (n : Nat) : Fld := ⟨0x008100 + n, 8, 8⟩
def SI_SITE.GROUP (n : Nat) : Fld := ⟨0x008100 + n, 7, 4⟩

-- SI_SPARE_k (0x00_8140 + k); spec/03_syntax_image.md
def SI_SPARE.word (k : Nat) : Nat := 0x008140 + k
def SI_SPARE.VALID (k : Nat) : Fld := ⟨0x008140 + k, 16, 16⟩
def SI_SPARE.CHANNEL (k : Nat) : Fld := ⟨0x008140 + k, 9, 0⟩

-- SI_IMG (0x00_9000 + w, w = 0–4,095); spec/03_syntax_image.md
def SI_IMG.word (w : Nat) : Nat := 0x009000 + w
def SI_IMG.BYTES (w : Nat) : Fld := ⟨0x009000 + w, 127, 0⟩

-- CH_CTRL_c (0x08_0000 + 0x40 × c); spec/04_pin_channel.md
def CH_CTRL.word (c : Nat) : Nat := 0x080000 + 0x40 * c
def CH_CTRL.IDLE (c : Nat) : Fld := ⟨0x080000 + 0x40 * c, 15, 12⟩
def CH_CTRL.DSRC (c : Nat) : Fld := ⟨0x080000 + 0x40 * c, 11, 10⟩
def CH_CTRL.BUS_CONN (c : Nat) : Fld := ⟨0x080000 + 0x40 * c, 9, 9⟩
def CH_CTRL.OUT_ARM (c : Nat) : Fld := ⟨0x080000 + 0x40 * c, 0, 0⟩

-- CH_DRV_c (0x08_0001 + 0x40 × c); spec/04_pin_channel.md
def CH_DRV.word (c : Nat) : Nat := 0x080001 + 0x40 * c
def CH_DRV.TERM (c : Nat) : Fld := ⟨0x080001 + 0x40 * c, 4, 4⟩
def CH_DRV.SLOPE (c : Nat) : Fld := ⟨0x080001 + 0x40 * c, 1, 0⟩

-- CH_LOAD_c (0x08_0002 + 0x40 × c); spec/04_pin_channel.md
def CH_LOAD.word (c : Nat) : Nat := 0x080002 + 0x40 * c
def CH_LOAD.EN (c : Nat) : Fld := ⟨0x080002 + 0x40 * c, 32, 32⟩
def CH_LOAD.ISNK (c : Nat) : Fld := ⟨0x080002 + 0x40 * c, 27, 16⟩
def CH_LOAD.ISRC (c : Nat) : Fld := ⟨0x080002 + 0x40 * c, 11, 0⟩

-- CH_CLAMP_c (0x08_0003 + 0x40 × c); spec/04_pin_channel.md
def CH_CLAMP.word (c : Nat) : Nat := 0x080003 + 0x40 * c
def CH_CLAMP.ILIM (c : Nat) : Fld := ⟨0x080003 + 0x40 * c, 9, 8⟩
def CH_CLAMP.EN_HI (c : Nat) : Fld := ⟨0x080003 + 0x40 * c, 1, 1⟩
def CH_CLAMP.EN_LO (c : Nat) : Fld := ⟨0x080003 + 0x40 * c, 0, 0⟩

-- CH_CMP_c (0x08_0004 + 0x40 × c); spec/04_pin_channel.md
def CH_CMP.word (c : Nat) : Nat := 0x080004 + 0x40 * c
def CH_CMP.HYST (c : Nat) : Fld := ⟨0x080004 + 0x40 * c, 19, 16⟩
def CH_CMP.MASK (c : Nat) : Fld := ⟨0x080004 + 0x40 * c, 0, 0⟩

-- CH_STAT_c (0x08_0005 + 0x40 × c); spec/04_pin_channel.md
def CH_STAT.word (c : Nat) : Nat := 0x080005 + 0x40 * c
def CH_STAT.TRIPPED (c : Nat) : Fld := ⟨0x080005 + 0x40 * c, 31, 31⟩
def CH_STAT.UNRESOLVED (c : Nat) : Fld := ⟨0x080005 + 0x40 * c, 30, 30⟩
def CH_STAT.ARMED (c : Nat) : Fld := ⟨0x080005 + 0x40 * c, 29, 29⟩
def CH_STAT.DRV_INH (c : Nat) : Fld := ⟨0x080005 + 0x40 * c, 28, 28⟩
def CH_STAT.BUS (c : Nat) : Fld := ⟨0x080005 + 0x40 * c, 27, 27⟩
def CH_STAT.CMP_HI (c : Nat) : Fld := ⟨0x080005 + 0x40 * c, 26, 26⟩
def CH_STAT.CMP_LO (c : Nat) : Fld := ⟨0x080005 + 0x40 * c, 25, 25⟩
def CH_STAT.DRIVING (c : Nat) : Fld := ⟨0x080005 + 0x40 * c, 24, 24⟩
def CH_STAT.PASSAGE (c : Nat) : Fld := ⟨0x080005 + 0x40 * c, 23, 23⟩
def CH_STAT.CMP_SUPPR (c : Nat) : Fld := ⟨0x080005 + 0x40 * c, 1, 1⟩
def CH_STAT.CLAMP_HIT (c : Nat) : Fld := ⟨0x080005 + 0x40 * c, 0, 0⟩

-- CH_CAPT_c (0x08_0006 + 0x40 × c); spec/04_pin_channel.md
def CH_CAPT.word (c : Nat) : Nat := 0x080006 + 0x40 * c
def CH_CAPT.STAMP (c : Nat) : Fld := ⟨0x080006 + 0x40 * c, 127, 96⟩
def CH_CAPT.COUNT (c : Nat) : Fld := ⟨0x080006 + 0x40 * c, 95, 64⟩
def CH_CAPT.SAMPLES (c : Nat) : Fld := ⟨0x080006 + 0x40 * c, 63, 0⟩

-- CH_ID_c (0x08_0008 + 0x40 × c); spec/04_pin_channel.md
def CH_ID.word (c : Nat) : Nat := 0x080008 + 0x40 * c
def CH_ID.EE (c : Nat) : Fld := ⟨0x080008 + 0x40 * c, 63, 53⟩
def CH_ID.QUAD (c : Nat) : Fld := ⟨0x080008 + 0x40 * c, 51, 50⟩
def CH_ID.ASSIGNED (c : Nat) : Fld := ⟨0x080008 + 0x40 * c, 49, 49⟩
def CH_ID.SITE (c : Nat) : Fld := ⟨0x080008 + 0x40 * c, 48, 43⟩
def CH_ID.PIN (c : Nat) : Fld := ⟨0x080008 + 0x40 * c, 42, 33⟩
def CH_ID.FUNC (c : Nat) : Fld := ⟨0x080008 + 0x40 * c, 32, 25⟩
def CH_ID.ATTR (c : Nat) : Fld := ⟨0x080008 + 0x40 * c, 24, 17⟩
def CH_ID.LEAD (c : Nat) : Fld := ⟨0x080008 + 0x40 * c, 16, 7⟩
def CH_ID.CPD_SIZE (c : Nat) : Fld := ⟨0x080008 + 0x40 * c, 6, 5⟩
def CH_ID.CPD_KIND (c : Nat) : Fld := ⟨0x080008 + 0x40 * c, 4, 4⟩

-- EE_CFG_e (0x05_0000 + 0x20 × e); spec/05_edge_timing.md
def EE_CFG.word (e : Nat) : Nat := 0x050000 + 0x20 * e
def EE_CFG.USER_OFS (e : Nat) : Fld := ⟨0x050000 + 0x20 * e, 49, 32⟩

-- EE_TWR_e (0x05_0001 + 0x20 × e); spec/05_edge_timing.md
def EE_TWR.word (e : Nat) : Nat := 0x050001 + 0x20 * e
def EE_TWR.TENSE (e : Nat) : Fld := ⟨0x050001 + 0x20 * e, 75, 70⟩
def EE_TWR.ITEM (e : Nat) : Fld := ⟨0x050001 + 0x20 * e, 67, 64⟩
def EE_TWR.DATA (e : Nat) : Fld := ⟨0x050001 + 0x20 * e, 63, 0⟩

-- EE_TRSEL_e (0x05_0002 + 0x20 × e); spec/05_edge_timing.md
def EE_TRSEL.word (e : Nat) : Nat := 0x050002 + 0x20 * e
def EE_TRSEL.BANK (e : Nat) : Fld := ⟨0x050002 + 0x20 * e, 7, 7⟩
def EE_TRSEL.TENSE (e : Nat) : Fld := ⟨0x050002 + 0x20 * e, 5, 0⟩

-- EE_TVA_e (0x05_0003 + 0x20 × e); spec/05_edge_timing.md
def EE_TVA.word (e : Nat) : Nat := 0x050003 + 0x20 * e
def EE_TVA.DATA (e : Nat) : Fld := ⟨0x050003 + 0x20 * e, 127, 96⟩
def EE_TVA.DRV_ON (e : Nat) : Fld := ⟨0x050003 + 0x20 * e, 95, 64⟩
def EE_TVA.VALID (e : Nat) : Fld := ⟨0x050003 + 0x20 * e, 63, 63⟩
def EE_TVA.FORMAT (e : Nat) : Fld := ⟨0x050003 + 0x20 * e, 33, 32⟩
def EE_TVA.PERIOD (e : Nat) : Fld := ⟨0x050003 + 0x20 * e, 31, 0⟩

-- EE_TVB_e (0x05_0004 + 0x20 × e); spec/05_edge_timing.md
def EE_TVB.word (e : Nat) : Nat := 0x050004 + 0x20 * e
def EE_TVB.STB_CLOSE (e : Nat) : Fld := ⟨0x050004 + 0x20 * e, 127, 96⟩
def EE_TVB.STB_OPEN (e : Nat) : Fld := ⟨0x050004 + 0x20 * e, 95, 64⟩
def EE_TVB.DRV_OFF (e : Nat) : Fld := ⟨0x050004 + 0x20 * e, 63, 32⟩
def EE_TVB.RETURN (e : Nat) : Fld := ⟨0x050004 + 0x20 * e, 31, 0⟩

-- EE_TVC_e (0x05_0005 + 0x20 × e); spec/05_edge_timing.md
def EE_TVC.word (e : Nat) : Nat := 0x050005 + 0x20 * e
def EE_TVC.U3 (e : Nat) : Fld := ⟨0x050005 + 0x20 * e, 127, 96⟩
def EE_TVC.U2 (e : Nat) : Fld := ⟨0x050005 + 0x20 * e, 95, 64⟩
def EE_TVC.U1 (e : Nat) : Fld := ⟨0x050005 + 0x20 * e, 63, 32⟩
def EE_TVC.U0 (e : Nat) : Fld := ⟨0x050005 + 0x20 * e, 31, 0⟩

-- EE_DESKEW_e (0x05_0006 + 0x20 × e); spec/05_edge_timing.md
def EE_DESKEW.word (e : Nat) : Nat := 0x050006 + 0x20 * e
def EE_DESKEW.TRACE_DRV (e : Nat) : Fld := ⟨0x050006 + 0x20 * e, 115, 96⟩
def EE_DESKEW.TRACE_RCV (e : Nat) : Fld := ⟨0x050006 + 0x20 * e, 83, 64⟩
def EE_DESKEW.CAL_DRV (e : Nat) : Fld := ⟨0x050006 + 0x20 * e, 51, 32⟩
def EE_DESKEW.CAL_RCV (e : Nat) : Fld := ⟨0x050006 + 0x20 * e, 19, 0⟩

-- EE_STAT_e (0x05_0007 + 0x20 × e); spec/05_edge_timing.md
def EE_STAT.word (e : Nat) : Nat := 0x050007 + 0x20 * e
def EE_STAT.ROLE (e : Nat) : Fld := ⟨0x050007 + 0x20 * e, 31, 30⟩
def EE_STAT.CHANNEL (e : Nat) : Fld := ⟨0x050007 + 0x20 * e, 29, 20⟩
def EE_STAT.TENSE (e : Nat) : Fld := ⟨0x050007 + 0x20 * e, 19, 14⟩
def EE_STAT.RUNNING (e : Nat) : Fld := ⟨0x050007 + 0x20 * e, 13, 13⟩
def EE_STAT.SUBST (e : Nat) : Fld := ⟨0x050007 + 0x20 * e, 0, 0⟩

-- EE_CNT_e (0x05_0008 + 0x20 × e); spec/05_edge_timing.md
def EE_CNT.word (e : Nat) : Nat := 0x050008 + 0x20 * e
def EE_CNT.HOLD_VEC (e : Nat) : Fld := ⟨0x050008 + 0x20 * e, 127, 64⟩
def EE_CNT.SUBST (e : Nat) : Fld := ⟨0x050008 + 0x20 * e, 63, 0⟩

-- PM_STAT (0x04_8000); spec/06_pattern_memory.md
def PM_STAT.word : Nat := 0x048000
def PM_STAT.LAST_RESULT : Fld := ⟨0x048000, 31, 24⟩
def PM_STAT.LAST_INDEX : Fld := ⟨0x048000, 23, 16⟩
def PM_STAT.UNCORR : Fld := ⟨0x048000, 3, 3⟩
def PM_STAT.VIOL_DROP : Fld := ⟨0x048000, 2, 2⟩
def PM_STAT.VIOLATION : Fld := ⟨0x048000, 1, 1⟩
def PM_STAT.READY : Fld := ⟨0x048000, 0, 0⟩

-- PM_VIOL (0x04_8001); spec/06_pattern_memory.md
def PM_VIOL.word : Nat := 0x048001
def PM_VIOL.BEAT : Fld := ⟨0x048001, 127, 64⟩
def PM_VIOL.REGION : Fld := ⟨0x048001, 63, 56⟩
def PM_VIOL.KIND : Fld := ⟨0x048001, 55, 54⟩
def PM_VIOL.ADDR : Fld := ⟨0x048001, 34, 0⟩

-- PM_BW (0x04_8002); spec/06_pattern_memory.md
def PM_BW.word : Nat := 0x048002
def PM_BW.PEAK : Fld := ⟨0x048002, 25, 16⟩
def PM_BW.LOAD : Fld := ⟨0x048002, 9, 0⟩

-- PM_CNT (0x04_8003); spec/06_pattern_memory.md
def PM_CNT.word : Nat := 0x048003
def PM_CNT.CORRECTED : Fld := ⟨0x048003, 127, 96⟩
def PM_CNT.UNCORR : Fld := ⟨0x048003, 95, 64⟩
def PM_CNT.VIOL : Fld := ⟨0x048003, 63, 32⟩
def PM_CNT.DESC_BAD : Fld := ⟨0x048003, 31, 0⟩

-- PM_SIZE (0x04_8004); spec/06_pattern_memory.md
def PM_SIZE.word : Nat := 0x048004
def PM_SIZE.STACK1_OK : Fld := ⟨0x048004, 9, 9⟩
def PM_SIZE.STACK0_OK : Fld := ⟨0x048004, 8, 8⟩
def PM_SIZE.CAP_GIB : Fld := ⟨0x048004, 7, 0⟩

-- PM_RGN_i (0x04_8100 + i); spec/06_pattern_memory.md
def PM_RGN.word (i : Nat) : Nat := 0x048100 + i
def PM_RGN.SIZE (i : Nat) : Fld := ⟨0x048100 + i, 87, 64⟩
def PM_RGN.BASE (i : Nat) : Fld := ⟨0x048100 + i, 54, 32⟩
def PM_RGN.KIND (i : Nat) : Fld := ⟨0x048100 + i, 5, 4⟩
def PM_RGN.VALID (i : Nat) : Fld := ⟨0x048100 + i, 0, 0⟩

-- PM_LEASE_i (0x04_8200 + i); spec/06_pattern_memory.md
def PM_LEASE.word (i : Nat) : Nat := 0x048200 + i
def PM_LEASE.HOLDERS (i : Nat) : Fld := ⟨0x048200 + i, 127, 64⟩
def PM_LEASE.ACQ_BEAT (i : Nat) : Fld := ⟨0x048200 + i, 63, 32⟩
def PM_LEASE.HELD (i : Nat) : Fld := ⟨0x048200 + i, 7, 7⟩
def PM_LEASE.COUNT (i : Nat) : Fld := ⟨0x048200 + i, 6, 0⟩

-- SO_CTRL (0x04_0000); spec/07_scanout.md
def SO_CTRL.word : Nat := 0x040000
def SO_CTRL.PD_IDLE : Fld := ⟨0x040000, 31, 16⟩
def SO_CTRL.STATIC_EN : Fld := ⟨0x040000, 1, 1⟩
def SO_CTRL.PD_EN : Fld := ⟨0x040000, 0, 0⟩

-- SO_STAT (0x04_0001); spec/07_scanout.md
def SO_STAT.word : Nat := 0x040001
def SO_STAT.STACK1 : Fld := ⟨0x040001, 11, 10⟩
def SO_STAT.STACK0 : Fld := ⟨0x040001, 9, 8⟩
def SO_STAT.COMMIT_LATE : Fld := ⟨0x040001, 3, 3⟩
def SO_STAT.UNDERRUN : Fld := ⟨0x040001, 2, 2⟩
def SO_STAT.FC_DROP : Fld := ⟨0x040001, 1, 1⟩
def SO_STAT.START_LATE : Fld := ⟨0x040001, 0, 0⟩

-- SO_FB (0x04_0002); spec/07_scanout.md
def SO_FB.word : Nat := 0x040002
def SO_FB.USED_BLK : Fld := ⟨0x040002, 48, 32⟩
def SO_FB.FREE_BLK : Fld := ⟨0x040002, 16, 0⟩

-- SO_STR_CFG_x (0x04_1000 + 0x10 × x); spec/07_scanout.md
def SO_STR_CFG.word (x : Nat) : Nat := 0x041000 + 0x10 * x
def SO_STR_CFG.FB_VEC (x : Nat) : Fld := ⟨0x041000 + 0x10 * x, 36, 32⟩
def SO_STR_CFG.LB_WM (x : Nat) : Fld := ⟨0x041000 + 0x10 * x, 22, 16⟩
def SO_STR_CFG.FB_WM (x : Nat) : Fld := ⟨0x041000 + 0x10 * x, 11, 8⟩

-- SO_STR_STAT_x (0x04_1001 + 0x10 × x); spec/07_scanout.md
def SO_STR_STAT.word (x : Nat) : Nat := 0x041001 + 0x10 * x
def SO_STR_STAT.FRAME_ID (x : Nat) : Fld := ⟨0x041001 + 0x10 * x, 127, 96⟩
def SO_STR_STAT.TENSE (x : Nat) : Fld := ⟨0x041001 + 0x10 * x, 63, 58⟩
def SO_STR_STAT.DEPTH (x : Nat) : Fld := ⟨0x041001 + 0x10 * x, 57, 56⟩
def SO_STR_STAT.LB_LEVEL (x : Nat) : Fld := ⟨0x041001 + 0x10 * x, 47, 40⟩
def SO_STR_STAT.INC_FILL (x : Nat) : Fld := ⟨0x041001 + 0x10 * x, 39, 36⟩
def SO_STR_STAT.STATE (x : Nat) : Fld := ⟨0x041001 + 0x10 * x, 31, 29⟩
def SO_STR_STAT.ALLOC (x : Nat) : Fld := ⟨0x041001 + 0x10 * x, 7, 7⟩
def SO_STR_STAT.LATE (x : Nat) : Fld := ⟨0x041001 + 0x10 * x, 3, 3⟩
def SO_STR_STAT.UNDERRUN (x : Nat) : Fld := ⟨0x041001 + 0x10 * x, 2, 2⟩
def SO_STR_STAT.OVERSIZE (x : Nat) : Fld := ⟨0x041001 + 0x10 * x, 1, 1⟩
def SO_STR_STAT.START_LATE (x : Nat) : Fld := ⟨0x041001 + 0x10 * x, 0, 0⟩

-- SO_STR_POS_x (0x04_1002 + 0x10 × x); spec/07_scanout.md
def SO_STR_POS.word (x : Nat) : Nat := 0x041002 + 0x10 * x
def SO_STR_POS.VECTOR (x : Nat) : Fld := ⟨0x041002 + 0x10 * x, 127, 80⟩
def SO_STR_POS.FRAMES (x : Nat) : Fld := ⟨0x041002 + 0x10 * x, 79, 48⟩
def SO_STR_POS.BOUNDARY (x : Nat) : Fld := ⟨0x041002 + 0x10 * x, 31, 0⟩

-- SO_STR_CNT_x (0x04_1003 + 0x10 × x); spec/07_scanout.md
def SO_STR_CNT.word (x : Nat) : Nat := 0x041003 + 0x10 * x
def SO_STR_CNT.UNDER_VEC (x : Nat) : Fld := ⟨0x041003 + 0x10 * x, 127, 96⟩
def SO_STR_CNT.LATE (x : Nat) : Fld := ⟨0x041003 + 0x10 * x, 95, 64⟩
def SO_STR_CNT.REPLAY (x : Nat) : Fld := ⟨0x041003 + 0x10 * x, 63, 32⟩
def SO_STR_CNT.FETCHED (x : Nat) : Fld := ⟨0x041003 + 0x10 * x, 31, 0⟩

-- SO_FC_CFG_s (0x04_2000 + 0x10 × s); spec/07_scanout.md
def SO_FC_CFG.word (s : Nat) : Nat := 0x042000 + 0x10 * s
def SO_FC_CFG.BASE (s : Nat) : Fld := ⟨0x042000 + 0x10 * s, 98, 64⟩
def SO_FC_CFG.SIZE (s : Nat) : Fld := ⟨0x042000 + 0x10 * s, 39, 16⟩
def SO_FC_CFG.EN (s : Nat) : Fld := ⟨0x042000 + 0x10 * s, 0, 0⟩

-- SO_FC_PTR_s (0x04_2001 + 0x10 × s); spec/07_scanout.md
def SO_FC_PTR.word (s : Nat) : Nat := 0x042001 + 0x10 * s
def SO_FC_PTR.CAP (s : Nat) : Fld := ⟨0x042001 + 0x10 * s, 95, 64⟩
def SO_FC_PTR.WR (s : Nat) : Fld := ⟨0x042001 + 0x10 * s, 63, 32⟩
def SO_FC_PTR.RD (s : Nat) : Fld := ⟨0x042001 + 0x10 * s, 31, 0⟩

-- SO_FC_CNT_s (0x04_2002 + 0x10 × s); spec/07_scanout.md
def SO_FC_CNT.word (s : Nat) : Nat := 0x042002 + 0x10 * s
def SO_FC_CNT.FAIL_VEC (s : Nat) : Fld := ⟨0x042002 + 0x10 * s, 127, 80⟩
def SO_FC_CNT.WRITTEN (s : Nat) : Fld := ⟨0x042002 + 0x10 * s, 79, 48⟩
def SO_FC_CNT.DROPPED (s : Nat) : Fld := ⟨0x042002 + 0x10 * s, 47, 16⟩

-- SO_SITE_CMD_s (0x04_2003 + 0x10 × s); spec/07_scanout.md
def SO_SITE_CMD.word (s : Nat) : Nat := 0x042003 + 0x10 * s
def SO_SITE_CMD.CLR_FAIL (s : Nat) : Fld := ⟨0x042003 + 0x10 * s, 0, 0⟩

-- SO_SITE_STAT_s (0x04_2004 + 0x10 × s); spec/07_scanout.md
def SO_SITE_STAT.word (s : Nat) : Nat := 0x042004 + 0x10 * s
def SO_SITE_STAT.MISSED (s : Nat) : Fld := ⟨0x042004 + 0x10 * s, 63, 32⟩
def SO_SITE_STAT.IN_STREAM (s : Nat) : Fld := ⟨0x042004 + 0x10 * s, 1, 1⟩
def SO_SITE_STAT.PENDING (s : Nat) : Fld := ⟨0x042004 + 0x10 * s, 0, 0⟩

-- CH_FAILCNT_c (0x08_0007 + 0x40 × c); spec/07_scanout.md
def CH_FAILCNT.word (c : Nat) : Nat := 0x080007 + 0x40 * c
def CH_FAILCNT.FIRST_VEC (c : Nat) : Fld := ⟨0x080007 + 0x40 * c, 127, 80⟩
def CH_FAILCNT.COUNT (c : Nat) : Fld := ⟨0x080007 + 0x40 * c, 63, 0⟩

-- SQ_XREG_n (0x03_1000 + 0x40 × n + k, k = 0–31); spec/08_sequencer.md
def SQ_XREG.word (n k : Nat) : Nat := 0x031000 + 0x40 * n + k
def SQ_XREG.VALUE (n k : Nat) : Fld := ⟨0x031000 + 0x40 * n + k, 127, 0⟩

-- SQ_CTRL_n (0x03_1020 + 0x40 × n); spec/08_sequencer.md
def SQ_CTRL.word (n : Nat) : Nat := 0x031020 + 0x40 * n
def SQ_CTRL.BASE (n : Nat) : Fld := ⟨0x031020 + 0x40 * n, 98, 64⟩
def SQ_CTRL.ENTRY (n : Nat) : Fld := ⟨0x031020 + 0x40 * n, 51, 32⟩
def SQ_CTRL.START (n : Nat) : Fld := ⟨0x031020 + 0x40 * n, 0, 0⟩

-- SQ_CMD_n (0x03_1021 + 0x40 × n); spec/08_sequencer.md
def SQ_CMD.word (n : Nat) : Nat := 0x031021 + 0x40 * n
def SQ_CMD.MASK (n : Nat) : Fld := ⟨0x031021 + 0x40 * n, 25, 16⟩
def SQ_CMD.CMD (n : Nat) : Fld := ⟨0x031021 + 0x40 * n, 3, 0⟩

-- SQ_STAT_n (0x03_1022 + 0x40 × n); spec/08_sequencer.md
def SQ_STAT.word (n : Nat) : Nat := 0x031022 + 0x40 * n
def SQ_STAT.PC (n : Nat) : Fld := ⟨0x031022 + 0x40 * n, 127, 108⟩
def SQ_STAT.SP (n : Nat) : Fld := ⟨0x031022 + 0x40 * n, 107, 103⟩
def SQ_STAT.ST (n : Nat) : Fld := ⟨0x031022 + 0x40 * n, 95, 88⟩
def SQ_STAT.OP (n : Nat) : Fld := ⟨0x031022 + 0x40 * n, 87, 80⟩
def SQ_STAT.FAULT (n : Nat) : Fld := ⟨0x031022 + 0x40 * n, 71, 64⟩
def SQ_STAT.CAUSES (n : Nat) : Fld := ⟨0x031022 + 0x40 * n, 47, 32⟩
def SQ_STAT.FAULTED (n : Nat) : Fld := ⟨0x031022 + 0x40 * n, 8, 8⟩
def SQ_STAT.TOKEN (n : Nat) : Fld := ⟨0x031022 + 0x40 * n, 7, 7⟩
def SQ_STAT.STOPPING (n : Nat) : Fld := ⟨0x031022 + 0x40 * n, 6, 6⟩
def SQ_STAT.CLAUSE (n : Nat) : Fld := ⟨0x031022 + 0x40 * n, 5, 5⟩
def SQ_STAT.WAITING (n : Nat) : Fld := ⟨0x031022 + 0x40 * n, 4, 4⟩
def SQ_STAT.STATE (n : Nat) : Fld := ⟨0x031022 + 0x40 * n, 2, 0⟩

-- SQ_TOKEN_n (0x03_1023 + 0x40 × n); spec/08_sequencer.md
def SQ_TOKEN.word (n : Nat) : Nat := 0x031023 + 0x40 * n
def SQ_TOKEN.VALID (n : Nat) : Fld := ⟨0x031023 + 0x40 * n, 127, 127⟩
def SQ_TOKEN.RESUMABLE (n : Nat) : Fld := ⟨0x031023 + 0x40 * n, 126, 126⟩
def SQ_TOKEN.STMT (n : Nat) : Fld := ⟨0x031023 + 0x40 * n, 115, 96⟩
def SQ_TOKEN.OPCODE (n : Nat) : Fld := ⟨0x031023 + 0x40 * n, 95, 88⟩
def SQ_TOKEN.MWA (n : Nat) : Fld := ⟨0x031023 + 0x40 * n, 79, 64⟩
def SQ_TOKEN.BEAT (n : Nat) : Fld := ⟨0x031023 + 0x40 * n, 63, 0⟩

-- SQ_ACC_n (0x03_1024 + 0x40 × n); spec/08_sequencer.md
def SQ_ACC.word (n : Nat) : Nat := 0x031024 + 0x40 * n
def SQ_ACC.MIN (n : Nat) : Fld := ⟨0x031024 + 0x40 * n, 127, 80⟩
def SQ_ACC.MAX (n : Nat) : Fld := ⟨0x031024 + 0x40 * n, 79, 32⟩
def SQ_ACC.NREC (n : Nat) : Fld := ⟨0x031024 + 0x40 * n, 31, 16⟩
def SQ_ACC.NFAIL (n : Nat) : Fld := ⟨0x031024 + 0x40 * n, 15, 0⟩

-- SQ_CNT_n (0x03_1025 + 0x40 × n); spec/08_sequencer.md
def SQ_CNT.word (n : Nat) : Nat := 0x031025 + 0x40 * n
def SQ_CNT.ISSUED (n : Nat) : Fld := ⟨0x031025 + 0x40 * n, 127, 64⟩
def SQ_CNT.RECORDS (n : Nat) : Fld := ⟨0x031025 + 0x40 * n, 63, 32⟩
def SQ_CNT.HOLDS (n : Nat) : Fld := ⟨0x031025 + 0x40 * n, 31, 0⟩

-- CS window (0x01_0000 + 2m + h); spec/09_control_store.md
def CS.word (m h : Nat) : Nat := 0x010000 + 0x2 * m + h
def CS.HALF (m h : Nat) : Fld := ⟨0x010000 + 0x2 * m + h, 127, 0⟩

-- LX_ENT_op (0x03_0000 + op); spec/09_control_store.md
def LX_ENT.word (op : Nat) : Nat := 0x030000 + op
def LX_ENT.RESUMABLE (op : Nat) : Fld := ⟨0x030000 + op, 17, 17⟩
def LX_ENT.VALID (op : Nat) : Fld := ⟨0x030000 + op, 16, 16⟩
def LX_ENT.ENTRY (op : Nat) : Fld := ⟨0x030000 + op, 15, 0⟩

-- LX_CMD (0x03_0100); spec/09_control_store.md
def LX_CMD.word : Nat := 0x030100
def LX_CMD.SLOT : Fld := ⟨0x030100, 9, 8⟩
def LX_CMD.CMD : Fld := ⟨0x030100, 3, 0⟩

-- LX_SRC (0x03_0101); spec/09_control_store.md
def LX_SRC.word : Nat := 0x030101
def LX_SRC.ADDR : Fld := ⟨0x030101, 98, 64⟩
def LX_SRC.LENGTH : Fld := ⟨0x030101, 20, 0⟩

-- LX_STAT (0x03_0102); spec/09_control_store.md
def LX_STAT.word : Nat := 0x030102
def LX_STAT.IMAGE_ID : Fld := ⟨0x030102, 127, 96⟩
def LX_STAT.RESULT : Fld := ⟨0x030102, 63, 56⟩
def LX_STAT.LAST_CMD : Fld := ⟨0x030102, 55, 52⟩
def LX_STAT.ACTIVE_BANK : Fld := ⟨0x030102, 8, 8⟩
def LX_STAT.DONE : Fld := ⟨0x030102, 1, 1⟩
def LX_STAT.BUSY : Fld := ⟨0x030102, 0, 0⟩

-- LX_VEND (0x03_0103); spec/09_control_store.md
def LX_VEND.word : Nat := 0x030103
def LX_VEND.IMAGE_ID : Fld := ⟨0x030103, 127, 96⟩
def LX_VEND.DIGEST : Fld := ⟨0x030103, 95, 64⟩
def LX_VEND.BASE : Fld := ⟨0x030103, 63, 48⟩
def LX_VEND.WORDS : Fld := ⟨0x030103, 47, 32⟩
def LX_VEND.STATE : Fld := ⟨0x030103, 1, 0⟩

-- LX_BANK_b (0x03_0104 + b); spec/09_control_store.md
def LX_BANK.word (b : Nat) : Nat := 0x030104 + b
def LX_BANK.IMAGE_ID (b : Nat) : Fld := ⟨0x030104 + b, 127, 96⟩
def LX_BANK.DIGEST (b : Nat) : Fld := ⟨0x030104 + b, 95, 64⟩
def LX_BANK.BASE (b : Nat) : Fld := ⟨0x030104 + b, 63, 48⟩
def LX_BANK.WORDS (b : Nat) : Fld := ⟨0x030104 + b, 47, 32⟩
def LX_BANK.USERS (b : Nat) : Fld := ⟨0x030104 + b, 22, 16⟩
def LX_BANK.SLOT (b : Nat) : Fld := ⟨0x030104 + b, 9, 8⟩
def LX_BANK.ACTIVE (b : Nat) : Fld := ⟨0x030104 + b, 2, 2⟩
def LX_BANK.STATE (b : Nat) : Fld := ⟨0x030104 + b, 1, 0⟩

-- LX_CFG (0x03_0106); spec/09_control_store.md
def LX_CFG.word : Nat := 0x030106
def LX_CFG.KSEL : Fld := ⟨0x030106, 3, 2⟩
def LX_CFG.VIEW : Fld := ⟨0x030106, 0, 0⟩

-- LX_CNT (0x03_0107); spec/09_control_store.md
def LX_CNT.word : Nat := 0x030107
def LX_CNT.LOADS_OK : Fld := ⟨0x030107, 127, 96⟩
def LX_CNT.LOADS_FAIL : Fld := ⟨0x030107, 95, 64⟩
def LX_CNT.STARVE : Fld := ⟨0x030107, 63, 32⟩
def LX_CNT.ABANDON : Fld := ⟨0x030107, 31, 0⟩

-- LX_KEYH_j (0x03_0108 + j) and LX_KHV_j (0x03_010B + j); spec/09_control_store.md
def LX_KEYH.word (j : Nat) : Nat := 0x030108 + j
def LX_KEYH.BYTES (j : Nat) : Fld := ⟨0x030108 + j, 127, 0⟩

-- LX_KEYH_j (0x03_0108 + j) and LX_KHV_j (0x03_010B + j); spec/09_control_store.md
def LX_KHV.word (j : Nat) : Nat := 0x03010B + j
def LX_KHV.BYTES (j : Nat) : Fld := ⟨0x03010B + j, 127, 0⟩

-- LX_KEY_k (0x03_0110 + k); spec/09_control_store.md
def LX_KEY.word (k : Nat) : Nat := 0x030110 + k
def LX_KEY.LOST (k : Nat) : Fld := ⟨0x030110 + k, 2, 2⟩
def LX_KEY.STATE (k : Nat) : Fld := ⟨0x030110 + k, 1, 0⟩

-- CL_STAT (0x00_6000); spec/10_clauses.md
def CL_STAT.word : Nat := 0x006000
def CL_STAT.SPLIT_TAG : Fld := ⟨0x006000, 127, 112⟩
def CL_STAT.VETO_TAG : Fld := ⟨0x006000, 111, 96⟩
def CL_STAT.POOL_FREE : Fld := ⟨0x006000, 48, 32⟩
def CL_STAT.OPEN : Fld := ⟨0x006000, 20, 16⟩
def CL_STAT.SPLIT : Fld := ⟨0x006000, 3, 3⟩
def CL_STAT.VETO_SEEN : Fld := ⟨0x006000, 2, 2⟩
def CL_STAT.VETO_IN : Fld := ⟨0x006000, 1, 1⟩
def CL_STAT.VETO_OUT : Fld := ⟨0x006000, 0, 0⟩

-- CL_CFG (0x00_6001); spec/10_clauses.md
def CL_CFG.word : Nat := 0x006001
def CL_CFG.SPLIT_HOLD : Fld := ⟨0x006001, 0, 0⟩

-- CL_CNT (0x00_6002); spec/10_clauses.md
def CL_CNT.word : Nat := 0x006002
def CL_CNT.COMMITTED : Fld := ⟨0x006002, 127, 96⟩
def CL_CNT.ABORTED : Fld := ⟨0x006002, 95, 64⟩
def CL_CNT.REFUSED : Fld := ⟨0x006002, 63, 32⟩
def CL_CNT.SPLIT : Fld := ⟨0x006002, 31, 0⟩

-- CL_CMD_s (0x00_6100 + 0x10 × s); spec/10_clauses.md
def CL_CMD.word (s : Nat) : Nat := 0x006100 + 0x10 * s
def CL_CMD.CMD (s : Nat) : Fld := ⟨0x006100 + 0x10 * s, 3, 0⟩

-- CL_SET_s (0x00_6101 + 0x10 × s); spec/10_clauses.md
def CL_SET.word (s : Nat) : Nat := 0x006101 + 0x10 * s
def CL_SET.FULL_STOP (s : Nat) : Fld := ⟨0x006101 + 0x10 * s, 127, 64⟩
def CL_SET.TAG (s : Nat) : Fld := ⟨0x006101 + 0x10 * s, 47, 32⟩
def CL_SET.MULTI (s : Nat) : Fld := ⟨0x006101 + 0x10 * s, 0, 0⟩

-- CL_VAL_s (0x00_6102 + 0x10 × s); spec/10_clauses.md
def CL_VAL.word (s : Nat) : Nat := 0x006102 + 0x10 * s
def CL_VAL.VALUE (s : Nat) : Fld := ⟨0x006102 + 0x10 * s, 127, 0⟩

-- CL_MASK_s (0x00_6103 + 0x10 × s); spec/10_clauses.md
def CL_MASK.word (s : Nat) : Nat := 0x006103 + 0x10 * s
def CL_MASK.MASK (s : Nat) : Fld := ⟨0x006103 + 0x10 * s, 127, 0⟩

-- CL_ADDR_s (0x00_6104 + 0x10 × s); spec/10_clauses.md
def CL_ADDR.word (s : Nat) : Nat := 0x006104 + 0x10 * s
def CL_ADDR.WORD (s : Nat) : Fld := ⟨0x006104 + 0x10 * s, 23, 0⟩

-- CL_SLOT_STAT_s (0x00_6105 + 0x10 × s); spec/10_clauses.md
def CL_SLOT_STAT.word (s : Nat) : Nat := 0x006105 + 0x10 * s
def CL_SLOT_STAT.PREP_BEAT (s : Nat) : Fld := ⟨0x006105 + 0x10 * s, 127, 96⟩
def CL_SLOT_STAT.DEC_BEAT (s : Nat) : Fld := ⟨0x006105 + 0x10 * s, 95, 64⟩
def CL_SLOT_STAT.ACTIONS (s : Nat) : Fld := ⟨0x006105 + 0x10 * s, 63, 51⟩
def CL_SLOT_STAT.FIRST_BAD (s : Nat) : Fld := ⟨0x006105 + 0x10 * s, 50, 38⟩
def CL_SLOT_STAT.RESULT (s : Nat) : Fld := ⟨0x006105 + 0x10 * s, 31, 24⟩
def CL_SLOT_STAT.SEQ (s : Nat) : Fld := ⟨0x006105 + 0x10 * s, 23, 23⟩
def CL_SLOT_STAT.SITE (s : Nat) : Fld := ⟨0x006105 + 0x10 * s, 22, 17⟩
def CL_SLOT_STAT.STATE (s : Nat) : Fld := ⟨0x006105 + 0x10 * s, 2, 0⟩

-- TM_CFG_t (0x06_0000 + 0x10 × t); spec/11_time_measurement.md
def TM_CFG.word (t : Nat) : Nat := 0x060000 + 0x10 * t
def TM_CFG.TIMEOUT (t : Nat) : Fld := ⟨0x060000 + 0x10 * t, 95, 72⟩
def TM_CFG.GATE (t : Nat) : Fld := ⟨0x060000 + 0x10 * t, 71, 48⟩
def TM_CFG.EVENTS (t : Nat) : Fld := ⟨0x060000 + 0x10 * t, 47, 32⟩
def TM_CFG.POS_ONLY (t : Nat) : Fld := ⟨0x060000 + 0x10 * t, 2, 2⟩
def TM_CFG.MODE (t : Nat) : Fld := ⟨0x060000 + 0x10 * t, 1, 0⟩

-- TM_SRC_t (0x06_0001 + 0x10 × t); spec/11_time_measurement.md
def TM_SRC.word (t : Nat) : Nat := 0x060001 + 0x10 * t
def TM_SRC.STOP (t : Nat) : Fld := ⟨0x060001 + 0x10 * t, 63, 32⟩
def TM_SRC.START (t : Nat) : Fld := ⟨0x060001 + 0x10 * t, 31, 0⟩

-- TM_CMD_t (0x06_0002 + 0x10 × t); spec/11_time_measurement.md
def TM_CMD.word (t : Nat) : Nat := 0x060002 + 0x10 * t
def TM_CMD.N (t : Nat) : Fld := ⟨0x060002 + 0x10 * t, 19, 4⟩
def TM_CMD.CMD (t : Nat) : Fld := ⟨0x060002 + 0x10 * t, 3, 0⟩

-- TM_STAT_t (0x06_0003 + 0x10 × t); spec/11_time_measurement.md
def TM_STAT.word (t : Nat) : Nat := 0x060003 + 0x10 * t
def TM_STAT.SHOTS (t : Nat) : Fld := ⟨0x060003 + 0x10 * t, 95, 80⟩
def TM_STAT.TARGET (t : Nat) : Fld := ⟨0x060003 + 0x10 * t, 79, 64⟩
def TM_STAT.STALE (t : Nat) : Fld := ⟨0x060003 + 0x10 * t, 7, 7⟩
def TM_STAT.NOEVENT (t : Nat) : Fld := ⟨0x060003 + 0x10 * t, 5, 5⟩
def TM_STAT.CAL_BAD (t : Nat) : Fld := ⟨0x060003 + 0x10 * t, 4, 4⟩
def TM_STAT.HOST (t : Nat) : Fld := ⟨0x060003 + 0x10 * t, 3, 3⟩
def TM_STAT.STATE (t : Nat) : Fld := ⟨0x060003 + 0x10 * t, 2, 0⟩

-- TM_RES_t (0x06_0004 + 0x10 × t); spec/11_time_measurement.md
def TM_RES.word (t : Nat) : Nat := 0x060004 + 0x10 * t
def TM_RES.MAX (t : Nat) : Fld := ⟨0x060004 + 0x10 * t, 127, 96⟩
def TM_RES.MIN (t : Nat) : Fld := ⟨0x060004 + 0x10 * t, 95, 64⟩
def TM_RES.MODE (t : Nat) : Fld := ⟨0x060004 + 0x10 * t, 59, 58⟩
def TM_RES.VALID (t : Nat) : Fld := ⟨0x060004 + 0x10 * t, 57, 57⟩
def TM_RES.TRIPPED (t : Nat) : Fld := ⟨0x060004 + 0x10 * t, 56, 56⟩
def TM_RES.STALE (t : Nat) : Fld := ⟨0x060004 + 0x10 * t, 55, 55⟩
def TM_RES.ORDER_REV (t : Nat) : Fld := ⟨0x060004 + 0x10 * t, 54, 54⟩
def TM_RES.BELOW_RES (t : Nat) : Fld := ⟨0x060004 + 0x10 * t, 53, 53⟩
def TM_RES.VALUE (t : Nat) : Fld := ⟨0x060004 + 0x10 * t, 47, 0⟩

-- TM_SELF_t (0x06_0005 + 0x10 × t); spec/11_time_measurement.md
def TM_SELF.word (t : Nat) : Nat := 0x060005 + 0x10 * t
def TM_SELF.M2 (t : Nat) : Fld := ⟨0x060005 + 0x10 * t, 127, 96⟩
def TM_SELF.M1 (t : Nat) : Fld := ⟨0x060005 + 0x10 * t, 95, 64⟩
def TM_SELF.GAIN (t : Nat) : Fld := ⟨0x060005 + 0x10 * t, 63, 32⟩
def TM_SELF.OFFSET (t : Nat) : Fld := ⟨0x060005 + 0x10 * t, 15, 0⟩

-- TM_CNT_t (0x06_0006 + 0x10 × t); spec/11_time_measurement.md
def TM_CNT.word (t : Nat) : Nat := 0x060006 + 0x10 * t
def TM_CNT.MEAS (t : Nat) : Fld := ⟨0x060006 + 0x10 * t, 127, 96⟩
def TM_CNT.SHOTS (t : Nat) : Fld := ⟨0x060006 + 0x10 * t, 95, 64⟩
def TM_CNT.REV (t : Nat) : Fld := ⟨0x060006 + 0x10 * t, 63, 32⟩
def TM_CNT.MISSED (t : Nat) : Fld := ⟨0x060006 + 0x10 * t, 31, 0⟩

-- CH_VIH_c to CH_PMUF_c (0x08_0010 + 0x40 × c + k, k = 0–7); spec/12_levels_pmu.md
def CH_LVL.word (c k : Nat) : Nat := 0x080010 + 0x40 * c + k
def CH_LVL.OUT_SPAN (c k : Nat) : Fld := ⟨0x080010 + 0x40 * c + k, 96, 96⟩
def CH_LVL.OUT (c k : Nat) : Fld := ⟨0x080010 + 0x40 * c + k, 95, 80⟩
def CH_LVL.TRIM (c k : Nat) : Fld := ⟨0x080010 + 0x40 * c + k, 71, 64⟩
def CH_LVL.SPAN (c k : Nat) : Fld := ⟨0x080010 + 0x40 * c + k, 16, 16⟩
def CH_LVL.CODE (c k : Nat) : Fld := ⟨0x080010 + 0x40 * c + k, 15, 0⟩

-- CH_LVLSTAT_c (0x08_0018 + 0x40 × c); spec/12_levels_pmu.md
def CH_LVLSTAT.word (c : Nat) : Nat := 0x080018 + 0x40 * c
def CH_LVLSTAT.PASSAGE (c : Nat) : Fld := ⟨0x080018 + 0x40 * c, 23, 16⟩
def CH_LVLSTAT.DEFER (c : Nat) : Fld := ⟨0x080018 + 0x40 * c, 15, 8⟩
def CH_LVLSTAT.STALE (c : Nat) : Fld := ⟨0x080018 + 0x40 * c, 7, 0⟩

-- CH_PMU_c (0x08_0020 + 0x40 × c); spec/12_levels_pmu.md
def CH_PMU.word (c : Nat) : Nat := 0x080020 + 0x40 * c
def CH_PMU.VCLAMP (c : Nat) : Fld := ⟨0x080020 + 0x40 * c, 11, 11⟩
def CH_PMU.FOFS (c : Nat) : Fld := ⟨0x080020 + 0x40 * c, 10, 10⟩
def CH_PMU.RANGE (c : Nat) : Fld := ⟨0x080020 + 0x40 * c, 7, 4⟩
def CH_PMU.MODE (c : Nat) : Fld := ⟨0x080020 + 0x40 * c, 2, 0⟩

-- CH_PMUSTAT_c (0x08_0021 + 0x40 × c); spec/12_levels_pmu.md
def CH_PMUSTAT.word (c : Nat) : Nat := 0x080021 + 0x40 * c
def CH_PMUSTAT.CONN (c : Nat) : Fld := ⟨0x080021 + 0x40 * c, 31, 31⟩
def CH_PMUSTAT.PASSAGE (c : Nat) : Fld := ⟨0x080021 + 0x40 * c, 30, 30⟩
def CH_PMUSTAT.COMPLY (c : Nat) : Fld := ⟨0x080021 + 0x40 * c, 29, 29⟩
def CH_PMUSTAT.STALE (c : Nat) : Fld := ⟨0x080021 + 0x40 * c, 28, 28⟩
def CH_PMUSTAT.BUSY (c : Nat) : Fld := ⟨0x080021 + 0x40 * c, 27, 27⟩
def CH_PMUSTAT.HOSTRES (c : Nat) : Fld := ⟨0x080021 + 0x40 * c, 1, 1⟩
def CH_PMUSTAT.CLIMIT (c : Nat) : Fld := ⟨0x080021 + 0x40 * c, 0, 0⟩

-- CH_PMURES_c (0x08_0022 + 0x40 × c); spec/12_levels_pmu.md
def CH_PMURES.word (c : Nat) : Nat := 0x080022 + 0x40 * c
def CH_PMURES.BEAT (c : Nat) : Fld := ⟨0x080022 + 0x40 * c, 127, 96⟩
def CH_PMURES.N (c : Nat) : Fld := ⟨0x080022 + 0x40 * c, 95, 80⟩
def CH_PMURES.COMPLY (c : Nat) : Fld := ⟨0x080022 + 0x40 * c, 68, 68⟩
def CH_PMURES.STALE (c : Nat) : Fld := ⟨0x080022 + 0x40 * c, 67, 67⟩
def CH_PMURES.TRIPPED (c : Nat) : Fld := ⟨0x080022 + 0x40 * c, 66, 66⟩
def CH_PMURES.VALID (c : Nat) : Fld := ⟨0x080022 + 0x40 * c, 65, 65⟩
def CH_PMURES.KIND (c : Nat) : Fld := ⟨0x080022 + 0x40 * c, 64, 64⟩
def CH_PMURES.VALUE (c : Nat) : Fld := ⟨0x080022 + 0x40 * c, 47, 0⟩

-- CH_PMUCMD_c (0x08_0023 + 0x40 × c); spec/12_levels_pmu.md
def CH_PMUCMD.word (c : Nat) : Nat := 0x080023 + 0x40 * c
def CH_PMUCMD.N (c : Nat) : Fld := ⟨0x080023 + 0x40 * c, 63, 48⟩
def CH_PMUCMD.SETTLE (c : Nat) : Fld := ⟨0x080023 + 0x40 * c, 47, 16⟩
def CH_PMUCMD.CMD (c : Nat) : Fld := ⟨0x080023 + 0x40 * c, 3, 0⟩

-- CH_PMUCNT_c (0x08_0024 + 0x40 × c); spec/12_levels_pmu.md
def CH_PMUCNT.word (c : Nat) : Nat := 0x080024 + 0x40 * c
def CH_PMUCNT.SAMPLES (c : Nat) : Fld := ⟨0x080024 + 0x40 * c, 127, 96⟩
def CH_PMUCNT.MEAS (c : Nat) : Fld := ⟨0x080024 + 0x40 * c, 95, 64⟩
def CH_PMUCNT.CLIMIT (c : Nat) : Fld := ⟨0x080024 + 0x40 * c, 63, 32⟩
def CH_PMUCNT.PASSAGES (c : Nat) : Fld := ⟨0x080024 + 0x40 * c, 31, 0⟩

-- WF_CTRL_s (0x0A_1000 + 0x10 × s); spec/13_waveform_sources.md
def WF_CTRL.word (s : Nat) : Nat := 0x0A1000 + 0x10 * s
def WF_CTRL.ONCE (s : Nat) : Fld := ⟨0x0A1000 + 0x10 * s, 5, 5⟩
def WF_CTRL.SPAN (s : Nat) : Fld := ⟨0x0A1000 + 0x10 * s, 4, 4⟩
def WF_CTRL.MODE (s : Nat) : Fld := ⟨0x0A1000 + 0x10 * s, 1, 0⟩

-- WF_FREQ_s (0x0A_1001 + 0x10 × s); spec/13_waveform_sources.md
def WF_FREQ.word (s : Nat) : Nat := 0x0A1001 + 0x10 * s
def WF_FREQ.PHASE (s : Nat) : Fld := ⟨0x0A1001 + 0x10 * s, 111, 64⟩
def WF_FREQ.FTW (s : Nat) : Fld := ⟨0x0A1001 + 0x10 * s, 47, 0⟩

-- WF_AMP_s (0x0A_1002 + 0x10 × s); spec/13_waveform_sources.md
def WF_AMP.word (s : Nat) : Nat := 0x0A1002 + 0x10 * s
def WF_AMP.LEN_LOG2 (s : Nat) : Fld := ⟨0x0A1002 + 0x10 * s, 116, 112⟩
def WF_AMP.START (s : Nat) : Fld := ⟨0x0A1002 + 0x10 * s, 111, 96⟩
def WF_AMP.AMPL (s : Nat) : Fld := ⟨0x0A1002 + 0x10 * s, 46, 32⟩
def WF_AMP.OFFSET (s : Nat) : Fld := ⟨0x0A1002 + 0x10 * s, 15, 0⟩

-- WF_STAT_s (0x0A_1003 + 0x10 × s); spec/13_waveform_sources.md
def WF_STAT.word (s : Nat) : Nat := 0x0A1003 + 0x10 * s
def WF_STAT.OFS_TRIM (s : Nat) : Fld := ⟨0x0A1003 + 0x10 * s, 47, 40⟩
def WF_STAT.GAIN_TRIM (s : Nat) : Fld := ⟨0x0A1003 + 0x10 * s, 39, 32⟩
def WF_STAT.PASSAGE (s : Nat) : Fld := ⟨0x0A1003 + 0x10 * s, 31, 31⟩
def WF_STAT.DEFER (s : Nat) : Fld := ⟨0x0A1003 + 0x10 * s, 30, 30⟩
def WF_STAT.CONN (s : Nat) : Fld := ⟨0x0A1003 + 0x10 * s, 29, 29⟩
def WF_STAT.STALE (s : Nat) : Fld := ⟨0x0A1003 + 0x10 * s, 28, 28⟩
def WF_STAT.ROUTED (s : Nat) : Fld := ⟨0x0A1003 + 0x10 * s, 27, 27⟩
def WF_STAT.BUS (s : Nat) : Fld := ⟨0x0A1003 + 0x10 * s, 26, 24⟩
def WF_STAT.OWNED (s : Nat) : Fld := ⟨0x0A1003 + 0x10 * s, 23, 23⟩
def WF_STAT.SITE (s : Nat) : Fld := ⟨0x0A1003 + 0x10 * s, 22, 17⟩
def WF_STAT.TABLE (s : Nat) : Fld := ⟨0x0A1003 + 0x10 * s, 16, 15⟩
def WF_STAT.DONE (s : Nat) : Fld := ⟨0x0A1003 + 0x10 * s, 2, 2⟩
def WF_STAT.CLIP (s : Nat) : Fld := ⟨0x0A1003 + 0x10 * s, 1, 1⟩
def WF_STAT.TLOAD_DONE (s : Nat) : Fld := ⟨0x0A1003 + 0x10 * s, 0, 0⟩

-- WF_TSRC_s (0x0A_1004 + 0x10 × s); spec/13_waveform_sources.md
def WF_TSRC.word (s : Nat) : Nat := 0x0A1004 + 0x10 * s
def WF_TSRC.ADDR (s : Nat) : Fld := ⟨0x0A1004 + 0x10 * s, 98, 64⟩
def WF_TSRC.CRC (s : Nat) : Fld := ⟨0x0A1004 + 0x10 * s, 63, 32⟩

-- WF_TCMD_s (0x0A_1005 + 0x10 × s); spec/13_waveform_sources.md
def WF_TCMD.word (s : Nat) : Nat := 0x0A1005 + 0x10 * s
def WF_TCMD.CMD (s : Nat) : Fld := ⟨0x0A1005 + 0x10 * s, 3, 0⟩

-- WF_CNT_s (0x0A_1006 + 0x10 × s); spec/13_waveform_sources.md
def WF_CNT.word (s : Nat) : Nat := 0x0A1006 + 0x10 * s
def WF_CNT.SAMPLES (s : Nat) : Fld := ⟨0x0A1006 + 0x10 * s, 127, 64⟩
def WF_CNT.CLIPS (s : Nat) : Fld := ⟨0x0A1006 + 0x10 * s, 63, 32⟩
def WF_CNT.PASSAGES (s : Nat) : Fld := ⟨0x0A1006 + 0x10 * s, 31, 0⟩

-- DPS_SET_d (0x0A_0000 + 0x10 × d); spec/14_device_power.md
def DPS_SET.word (d : Nat) : Nat := 0x0A0000 + 0x10 * d
def DPS_SET.DELAY (d : Nat) : Fld := ⟨0x0A0000 + 0x10 * d, 59, 40⟩
def DPS_SET.CONN (d : Nat) : Fld := ⟨0x0A0000 + 0x10 * d, 32, 32⟩
def DPS_SET.SLEW (d : Nat) : Fld := ⟨0x0A0000 + 0x10 * d, 31, 16⟩
def DPS_SET.SET (d : Nat) : Fld := ⟨0x0A0000 + 0x10 * d, 15, 0⟩

-- DPS_CFG_d (0x0A_0001 + 0x10 × d); spec/14_device_power.md
def DPS_CFG.word (d : Nat) : Nat := 0x0A0001 + 0x10 * d
def DPS_CFG.ILIM (d : Nat) : Fld := ⟨0x0A0001 + 0x10 * d, 31, 16⟩
def DPS_CFG.IRANGE (d : Nat) : Fld := ⟨0x0A0001 + 0x10 * d, 5, 4⟩
def DPS_CFG.MSEL (d : Nat) : Fld := ⟨0x0A0001 + 0x10 * d, 3, 3⟩

-- DPS_STAT_d (0x0A_0002 + 0x10 × d); spec/14_device_power.md
def DPS_STAT.word (d : Nat) : Nat := 0x0A0002 + 0x10 * d
def DPS_STAT.TARGET (d : Nat) : Fld := ⟨0x0A0002 + 0x10 * d, 79, 64⟩
def DPS_STAT.ASSIGNED (d : Nat) : Fld := ⟨0x0A0002 + 0x10 * d, 63, 63⟩
def DPS_STAT.SITE (d : Nat) : Fld := ⟨0x0A0002 + 0x10 * d, 62, 57⟩
def DPS_STAT.LEAD (d : Nat) : Fld := ⟨0x0A0002 + 0x10 * d, 56, 51⟩
def DPS_STAT.SIZE (d : Nat) : Fld := ⟨0x0A0002 + 0x10 * d, 50, 46⟩
def DPS_STAT.CONN (d : Nat) : Fld := ⟨0x0A0002 + 0x10 * d, 31, 31⟩
def DPS_STAT.RAMPING (d : Nat) : Fld := ⟨0x0A0002 + 0x10 * d, 30, 30⟩
def DPS_STAT.AT_SET (d : Nat) : Fld := ⟨0x0A0002 + 0x10 * d, 29, 29⟩
def DPS_STAT.COMPLY (d : Nat) : Fld := ⟨0x0A0002 + 0x10 * d, 28, 28⟩
def DPS_STAT.TRIPPED (d : Nat) : Fld := ⟨0x0A0002 + 0x10 * d, 27, 27⟩
def DPS_STAT.HELD_OFF (d : Nat) : Fld := ⟨0x0A0002 + 0x10 * d, 26, 26⟩
def DPS_STAT.STALE (d : Nat) : Fld := ⟨0x0A0002 + 0x10 * d, 25, 25⟩
def DPS_STAT.BUSY (d : Nat) : Fld := ⟨0x0A0002 + 0x10 * d, 24, 24⟩
def DPS_STAT.CHECK (d : Nat) : Fld := ⟨0x0A0002 + 0x10 * d, 23, 20⟩
def DPS_STAT.CHK_DONE (d : Nat) : Fld := ⟨0x0A0002 + 0x10 * d, 2, 2⟩
def DPS_STAT.OPEN_HIGH (d : Nat) : Fld := ⟨0x0A0002 + 0x10 * d, 1, 1⟩
def DPS_STAT.CLIMIT (d : Nat) : Fld := ⟨0x0A0002 + 0x10 * d, 0, 0⟩

-- DPS_RES_d (0x0A_0003 + 0x10 × d); spec/14_device_power.md
def DPS_RES.word (d : Nat) : Nat := 0x0A0003 + 0x10 * d
def DPS_RES.BEAT (d : Nat) : Fld := ⟨0x0A0003 + 0x10 * d, 127, 96⟩
def DPS_RES.N (d : Nat) : Fld := ⟨0x0A0003 + 0x10 * d, 95, 80⟩
def DPS_RES.COMPLY (d : Nat) : Fld := ⟨0x0A0003 + 0x10 * d, 68, 68⟩
def DPS_RES.STALE (d : Nat) : Fld := ⟨0x0A0003 + 0x10 * d, 67, 67⟩
def DPS_RES.TRIPPED (d : Nat) : Fld := ⟨0x0A0003 + 0x10 * d, 66, 66⟩
def DPS_RES.VALID (d : Nat) : Fld := ⟨0x0A0003 + 0x10 * d, 65, 65⟩
def DPS_RES.KIND (d : Nat) : Fld := ⟨0x0A0003 + 0x10 * d, 64, 64⟩
def DPS_RES.VALUE (d : Nat) : Fld := ⟨0x0A0003 + 0x10 * d, 47, 0⟩

-- DPS_CMD_d (0x0A_0004 + 0x10 × d); spec/14_device_power.md
def DPS_CMD.word (d : Nat) : Nat := 0x0A0004 + 0x10 * d
def DPS_CMD.N (d : Nat) : Fld := ⟨0x0A0004 + 0x10 * d, 63, 48⟩
def DPS_CMD.SETTLE (d : Nat) : Fld := ⟨0x0A0004 + 0x10 * d, 47, 16⟩
def DPS_CMD.CMD (d : Nat) : Fld := ⟨0x0A0004 + 0x10 * d, 3, 0⟩

-- DPS_CHK_d (0x0A_0005 + 0x10 × d); spec/14_device_power.md
def DPS_CHK.word (d : Nat) : Nat := 0x0A0005 + 0x10 * d
def DPS_CHK.D_F (d : Nat) : Fld := ⟨0x0A0005 + 0x10 * d, 127, 96⟩
def DPS_CHK.D_S (d : Nat) : Fld := ⟨0x0A0005 + 0x10 * d, 95, 64⟩
def DPS_CHK.V_F1 (d : Nat) : Fld := ⟨0x0A0005 + 0x10 * d, 63, 32⟩
def DPS_CHK.V_S2 (d : Nat) : Fld := ⟨0x0A0005 + 0x10 * d, 31, 0⟩

-- DPS_CNT_d (0x0A_0006 + 0x10 × d); spec/14_device_power.md
def DPS_CNT.word (d : Nat) : Nat := 0x0A0006 + 0x10 * d
def DPS_CNT.RAMPS (d : Nat) : Fld := ⟨0x0A0006 + 0x10 * d, 127, 96⟩
def DPS_CNT.CLIMIT (d : Nat) : Fld := ⟨0x0A0006 + 0x10 * d, 95, 64⟩
def DPS_CNT.SAMPLES (d : Nat) : Fld := ⟨0x0A0006 + 0x10 * d, 63, 32⟩
def DPS_CNT.CHECKS (d : Nat) : Fld := ⟨0x0A0006 + 0x10 * d, 31, 0⟩

-- CH_GWIN_c (0x08_0030 + 0x40 × c); spec/15_guard_protection.md
def CH_GWIN.word (c : Nat) : Nat := 0x080030 + 0x40 * c
def CH_GWIN.PMU_IHI (c : Nat) : Fld := ⟨0x080030 + 0x40 * c, 127, 112⟩
def CH_GWIN.PMU_ILO (c : Nat) : Fld := ⟨0x080030 + 0x40 * c, 111, 96⟩
def CH_GWIN.VTT_ILIM (c : Nat) : Fld := ⟨0x080030 + 0x40 * c, 75, 64⟩
def CH_GWIN.GVH (c : Nat) : Fld := ⟨0x080030 + 0x40 * c, 43, 32⟩
def CH_GWIN.GVL (c : Nat) : Fld := ⟨0x080030 + 0x40 * c, 11, 0⟩

-- CH_GCFG_c (0x08_0031 + 0x40 × c); spec/15_guard_protection.md
def CH_GCFG.word (c : Nat) : Nat := 0x080031 + 0x40 * c
def CH_GCFG.BLANK (c : Nat) : Fld := ⟨0x080031 + 0x40 * c, 20, 16⟩
def CH_GCFG.QUAL (c : Nat) : Fld := ⟨0x080031 + 0x40 * c, 15, 15⟩
def CH_GCFG.LATCH (c : Nat) : Fld := ⟨0x080031 + 0x40 * c, 14, 14⟩
def CH_GCFG.TRIPN_MASK (c : Nat) : Fld := ⟨0x080031 + 0x40 * c, 13, 13⟩
def CH_GCFG.DPS_LINK (c : Nat) : Fld := ⟨0x080031 + 0x40 * c, 12, 12⟩
def CH_GCFG.RATE (c : Nat) : Fld := ⟨0x080031 + 0x40 * c, 11, 10⟩
def CH_GCFG.WIN (c : Nat) : Fld := ⟨0x080031 + 0x40 * c, 9, 9⟩
def CH_GCFG.MODE (c : Nat) : Fld := ⟨0x080031 + 0x40 * c, 7, 6⟩
def CH_GCFG.EN (c : Nat) : Fld := ⟨0x080031 + 0x40 * c, 5, 0⟩

-- CH_GSTAT_c (0x08_0032 + 0x40 × c); spec/15_guard_protection.md
def CH_GSTAT.word (c : Nat) : Nat := 0x080032 + 0x40 * c
def CH_GSTAT.CAUSE (c : Nat) : Fld := ⟨0x080032 + 0x40 * c, 127, 120⟩
def CH_GSTAT.RAW (c : Nat) : Fld := ⟨0x080032 + 0x40 * c, 119, 112⟩
def CH_GSTAT.FILT (c : Nat) : Fld := ⟨0x080032 + 0x40 * c, 111, 104⟩
def CH_GSTAT.UNRES (c : Nat) : Fld := ⟨0x080032 + 0x40 * c, 103, 96⟩
def CH_GSTAT.EFF_MODE (c : Nat) : Fld := ⟨0x080032 + 0x40 * c, 7, 6⟩
def CH_GSTAT.CHECKING (c : Nat) : Fld := ⟨0x080032 + 0x40 * c, 5, 5⟩
def CH_GSTAT.TRIPPED (c : Nat) : Fld := ⟨0x080032 + 0x40 * c, 4, 4⟩
def CH_GSTAT.CHATTER (c : Nat) : Fld := ⟨0x080032 + 0x40 * c, 0, 0⟩

-- CH_GTRIP_c (0x08_0033 + 0x40 × c); spec/15_guard_protection.md
def CH_GTRIP.word (c : Nat) : Nat := 0x080033 + 0x40 * c
def CH_GTRIP.TIME (c : Nat) : Fld := ⟨0x080033 + 0x40 * c, 127, 48⟩
def CH_GTRIP.FIRST (c : Nat) : Fld := ⟨0x080033 + 0x40 * c, 47, 40⟩

-- CH_GCNT_c (0x08_0034 + 0x40 × c); spec/15_guard_protection.md
def CH_GCNT.word (c : Nat) : Nat := 0x080034 + 0x40 * c
def CH_GCNT.TRIPS (c : Nat) : Fld := ⟨0x080034 + 0x40 * c, 127, 96⟩
def CH_GCNT.CHATTER (c : Nat) : Fld := ⟨0x080034 + 0x40 * c, 95, 64⟩
def CH_GCNT.SELFCHK (c : Nat) : Fld := ⟨0x080034 + 0x40 * c, 63, 32⟩
def CH_GCNT.SELF_FAIL (c : Nat) : Fld := ⟨0x080034 + 0x40 * c, 31, 0⟩

-- CH_GCHK_c (0x08_0035 + 0x40 × c); spec/15_guard_protection.md
def CH_GCHK.word (c : Nat) : Nat := 0x080035 + 0x40 * c
def CH_GCHK.V_D (c : Nat) : Fld := ⟨0x080035 + 0x40 * c, 127, 96⟩
def CH_GCHK.REFL (c : Nat) : Fld := ⟨0x080035 + 0x40 * c, 95, 64⟩
def CH_GCHK.V_NB (c : Nat) : Fld := ⟨0x080035 + 0x40 * c, 63, 32⟩
def CH_GCHK.RESULT (c : Nat) : Fld := ⟨0x080035 + 0x40 * c, 7, 0⟩

-- GD_CTRL (0x0A_2000); spec/15_guard_protection.md
def GD_CTRL.word : Nat := 0x0A2000
def GD_CTRL.AUTO_CONTACT : Fld := ⟨0x0A2000, 1, 1⟩
def GD_CTRL.TRIPN_EN : Fld := ⟨0x0A2000, 0, 0⟩

-- GD_STAT (0x0A_2001); spec/15_guard_protection.md
def GD_STAT.word : Nat := 0x0A2001
def GD_STAT.CH_TRIPPED : Fld := ⟨0x0A2001, 106, 96⟩
def GD_STAT.DPS_TRIPPED : Fld := ⟨0x0A2001, 94, 88⟩
def GD_STAT.TRIP_SEEN : Fld := ⟨0x0A2001, 2, 2⟩
def GD_STAT.TRIPN_OUT : Fld := ⟨0x0A2001, 1, 1⟩
def GD_STAT.TRIPN_IN : Fld := ⟨0x0A2001, 0, 0⟩

-- GD_CMD (0x0A_2002); spec/15_guard_protection.md
def GD_CMD.word : Nat := 0x0A2002
def GD_CMD.INDEX : Fld := ⟨0x0A2002, 25, 16⟩
def GD_CMD.CMD : Fld := ⟨0x0A2002, 3, 0⟩

-- GD_CONTACT (0x0A_2003); spec/15_guard_protection.md
def GD_CONTACT.word : Nat := 0x0A2003
def GD_CONTACT.CSETTLE : Fld := ⟨0x0A2003, 127, 108⟩
def GD_CONTACT.DSETTLE : Fld := ⟨0x0A2003, 107, 88⟩
def GD_CONTACT.DIODE_LO : Fld := ⟨0x0A2003, 87, 72⟩
def GD_CONTACT.DIODE_HI : Fld := ⟨0x0A2003, 71, 56⟩
def GD_CONTACT.SHORT_V : Fld := ⟨0x0A2003, 55, 44⟩
def GD_CONTACT.REFL_MIN : Fld := ⟨0x0A2003, 43, 32⟩
def GD_CONTACT.NSAMP : Fld := ⟨0x0A2003, 31, 16⟩
def GD_CONTACT.PHASES : Fld := ⟨0x0A2003, 15, 12⟩
def GD_CONTACT.REFL_EN : Fld := ⟨0x0A2003, 11, 11⟩

-- GD_CSTAT (0x0A_2004); spec/15_guard_protection.md
def GD_CSTAT.word : Nat := 0x0A2004
def GD_CSTAT.START : Fld := ⟨0x0A2004, 127, 96⟩
def GD_CSTAT.END : Fld := ⟨0x0A2004, 95, 64⟩
def GD_CSTAT.FAILS : Fld := ⟨0x0A2004, 63, 48⟩
def GD_CSTAT.DPS_FAILS : Fld := ⟨0x0A2004, 47, 32⟩
def GD_CSTAT.ABORTED : Fld := ⟨0x0A2004, 2, 2⟩
def GD_CSTAT.DONE : Fld := ⟨0x0A2004, 1, 1⟩
def GD_CSTAT.BUSY : Fld := ⟨0x0A2004, 0, 0⟩

-- GD_TRIPMAP_k (0x0A_2010 + k) and GD_DPSMAP (0x0A_2018); spec/15_guard_protection.md
def GD_TRIPMAP.word (k : Nat) : Nat := 0x0A2010 + k
def GD_TRIPMAP.MAP (k : Nat) : Fld := ⟨0x0A2010 + k, 127, 0⟩

-- GD_TRIPMAP_k (0x0A_2010 + k) and GD_DPSMAP (0x0A_2018); spec/15_guard_protection.md
def GD_DPSMAP.word : Nat := 0x0A2018
def GD_DPSMAP.MAP : Fld := ⟨0x0A2018, 127, 0⟩

-- GD_DWIN_d (0x0A_2100 + 4d); spec/15_guard_protection.md
def GD_DWIN.word (d : Nat) : Nat := 0x0A2100 + 0x4 * d
def GD_DWIN.IHI (d : Nat) : Fld := ⟨0x0A2100 + 0x4 * d, 31, 16⟩
def GD_DWIN.ILO (d : Nat) : Fld := ⟨0x0A2100 + 0x4 * d, 15, 0⟩

-- GD_DCFG_d (0x0A_2101 + 4d); spec/15_guard_protection.md
def GD_DCFG.word (d : Nat) : Nat := 0x0A2101 + 0x4 * d
def GD_DCFG.QUAL (d : Nat) : Fld := ⟨0x0A2101 + 0x4 * d, 15, 15⟩
def GD_DCFG.LATCH (d : Nat) : Fld := ⟨0x0A2101 + 0x4 * d, 14, 14⟩
def GD_DCFG.TRIPN_MASK (d : Nat) : Fld := ⟨0x0A2101 + 0x4 * d, 13, 13⟩
def GD_DCFG.CH_LINK (d : Nat) : Fld := ⟨0x0A2101 + 0x4 * d, 12, 12⟩
def GD_DCFG.RATE (d : Nat) : Fld := ⟨0x0A2101 + 0x4 * d, 11, 10⟩
def GD_DCFG.WIN (d : Nat) : Fld := ⟨0x0A2101 + 0x4 * d, 9, 9⟩
def GD_DCFG.MODE (d : Nat) : Fld := ⟨0x0A2101 + 0x4 * d, 7, 6⟩
def GD_DCFG.EN_IL (d : Nat) : Fld := ⟨0x0A2101 + 0x4 * d, 1, 1⟩
def GD_DCFG.EN_IH (d : Nat) : Fld := ⟨0x0A2101 + 0x4 * d, 0, 0⟩

-- GD_DSTAT_d (0x0A_2102 + 4d); spec/15_guard_protection.md
def GD_DSTAT.word (d : Nat) : Nat := 0x0A2102 + 0x4 * d
def GD_DSTAT.CAUSE (d : Nat) : Fld := ⟨0x0A2102 + 0x4 * d, 127, 120⟩
def GD_DSTAT.RAW (d : Nat) : Fld := ⟨0x0A2102 + 0x4 * d, 119, 112⟩
def GD_DSTAT.FILT (d : Nat) : Fld := ⟨0x0A2102 + 0x4 * d, 111, 104⟩
def GD_DSTAT.UNRES (d : Nat) : Fld := ⟨0x0A2102 + 0x4 * d, 103, 96⟩
def GD_DSTAT.EFF_MODE (d : Nat) : Fld := ⟨0x0A2102 + 0x4 * d, 7, 6⟩
def GD_DSTAT.TRIPPED (d : Nat) : Fld := ⟨0x0A2102 + 0x4 * d, 4, 4⟩
def GD_DSTAT.CHATTER (d : Nat) : Fld := ⟨0x0A2102 + 0x4 * d, 0, 0⟩

-- GD_DTRIP_d (0x0A_2103 + 4d); spec/15_guard_protection.md
def GD_DTRIP.word (d : Nat) : Nat := 0x0A2103 + 0x4 * d
def GD_DTRIP.TIME (d : Nat) : Fld := ⟨0x0A2103 + 0x4 * d, 127, 48⟩
def GD_DTRIP.FIRST (d : Nat) : Fld := ⟨0x0A2103 + 0x4 * d, 47, 40⟩

-- CAL_CTRL (0x0C_0000); spec/16_calibration.md
def CAL_CTRL.word : Nat := 0x0C0000
def CAL_CTRL.MIN_EDGES : Fld := ⟨0x0C0000, 127, 112⟩
def CAL_CTRL.WIN : Fld := ⟨0x0C0000, 63, 40⟩
def CAL_CTRL.LSTEP : Fld := ⟨0x0C0000, 39, 32⟩
def CAL_CTRL.TSTEP : Fld := ⟨0x0C0000, 31, 24⟩
def CAL_CTRL.MIN_REF : Fld := ⟨0x0C0000, 23, 16⟩
def CAL_CTRL.CAL_DT : Fld := ⟨0x0C0000, 15, 4⟩
def CAL_CTRL.AUTO : Fld := ⟨0x0C0000, 1, 1⟩
def CAL_CTRL.LIVE_EN : Fld := ⟨0x0C0000, 0, 0⟩

-- CAL_STAT (0x0C_0001); spec/16_calibration.md
def CAL_STAT.word : Nat := 0x0C0001
def CAL_STAT.CHFAIL : Fld := ⟨0x0C0001, 106, 96⟩
def CAL_STAT.DEV_OFS : Fld := ⟨0x0C0001, 74, 64⟩
def CAL_STAT.RESULT : Fld := ⟨0x0C0001, 63, 56⟩
def CAL_STAT.LAST_CMD : Fld := ⟨0x0C0001, 55, 52⟩
def CAL_STAT.NVM_ERR : Fld := ⟨0x0C0001, 3, 3⟩
def CAL_STAT.REJECT : Fld := ⟨0x0C0001, 2, 2⟩
def CAL_STAT.DONE : Fld := ⟨0x0C0001, 1, 1⟩
def CAL_STAT.BUSY : Fld := ⟨0x0C0001, 0, 0⟩

-- CAL_CMD (0x0C_0002); spec/16_calibration.md
def CAL_CMD.word : Nat := 0x0C0002
def CAL_CMD.QMASK : Fld := ⟨0x0C0002, 11, 8⟩
def CAL_CMD.SUBSTRATE : Fld := ⟨0x0C0002, 4, 4⟩
def CAL_CMD.CMD : Fld := ⟨0x0C0002, 3, 0⟩

-- CAL_REF (0x0C_0003); spec/16_calibration.md
def CAL_REF.word : Nat := 0x0C0003
def CAL_REF.CALV_UV : Fld := ⟨0x0C0003, 127, 96⟩
def CAL_REF.CALT_DIV : Fld := ⟨0x0C0003, 73, 64⟩
def CAL_REF.CALT_OFS : Fld := ⟨0x0C0003, 31, 0⟩

-- CAL_Q_q (0x0C_0010 + q); spec/16_calibration.md
def CAL_Q.word (q : Nat) : Nat := 0x0C0010 + q
def CAL_Q.T_NOW (q : Nat) : Fld := ⟨0x0C0010 + q, 127, 112⟩
def CAL_Q.T_LAST (q : Nat) : Fld := ⟨0x0C0010 + q, 111, 96⟩
def CAL_Q.LAST_BEAT (q : Nat) : Fld := ⟨0x0C0010 + q, 95, 64⟩
def CAL_Q.CAUSE (q : Nat) : Fld := ⟨0x0C0010 + q, 7, 5⟩
def CAL_Q.QUEUED (q : Nat) : Fld := ⟨0x0C0010 + q, 4, 4⟩
def CAL_Q.ESTIMATE (q : Nat) : Fld := ⟨0x0C0010 + q, 3, 3⟩
def CAL_Q.STATE (q : Nat) : Fld := ⟨0x0C0010 + q, 2, 0⟩

-- CAL_QCNT_q (0x0C_0014 + q); spec/16_calibration.md
def CAL_QCNT.word (q : Nat) : Nat := 0x0C0014 + q
def CAL_QCNT.CYCLES (q : Nat) : Fld := ⟨0x0C0014 + q, 127, 96⟩
def CAL_QCNT.ACCEPTED (q : Nat) : Fld := ⟨0x0C0014 + q, 95, 64⟩
def CAL_QCNT.REJECTED (q : Nat) : Fld := ⟨0x0C0014 + q, 63, 32⟩
def CAL_QCNT.STEPS (q : Nat) : Fld := ⟨0x0C0014 + q, 31, 0⟩

-- CAL_GRP_k (0x0C_0100 + k); spec/16_calibration.md
def CAL_GRP.word (k : Nat) : Nat := 0x0C0100 + k
def CAL_GRP.GROUP (k : Nat) : Fld := ⟨0x0C0100 + k, 127, 0⟩

-- CAL_CHS_c (0x0C_1000 + c); spec/16_calibration.md
def CAL_CHS.word (c : Nat) : Nat := 0x0C1000 + c
def CAL_CHS.PEND_DRV (c : Nat) : Fld := ⟨0x0C1000 + c, 107, 96⟩
def CAL_CHS.PEND_RCV (c : Nat) : Fld := ⟨0x0C1000 + c, 95, 84⟩
def CAL_CHS.PEND_VOH (c : Nat) : Fld := ⟨0x0C1000 + c, 83, 76⟩
def CAL_CHS.PEND_VOL (c : Nat) : Fld := ⟨0x0C1000 + c, 75, 68⟩
def CAL_CHS.REF_RESULT (c : Nat) : Fld := ⟨0x0C1000 + c, 63, 56⟩
def CAL_CHS.LIVE_T (c : Nat) : Fld := ⟨0x0C1000 + c, 55, 52⟩
def CAL_CHS.LIVE_L (c : Nat) : Fld := ⟨0x0C1000 + c, 51, 48⟩
def CAL_CHS.PAIR_HI (c : Nat) : Fld := ⟨0x0C1000 + c, 39, 39⟩
def CAL_CHS.PAIR_LO (c : Nat) : Fld := ⟨0x0C1000 + c, 38, 38⟩
def CAL_CHS.FIGURE (c : Nat) : Fld := ⟨0x0C1000 + c, 37, 36⟩
def CAL_CHS.STALE_T (c : Nat) : Fld := ⟨0x0C1000 + c, 35, 35⟩
def CAL_CHS.STALE_L (c : Nat) : Fld := ⟨0x0C1000 + c, 34, 34⟩

-- LG_STAT (0x00_3800); spec/17_results.md
def LG_STAT.word : Nat := 0x003800
def LG_STAT.MIGRATING : Fld := ⟨0x003800, 4, 4⟩
def LG_STAT.OVF_EN : Fld := ⟨0x003800, 3, 3⟩
def LG_STAT.FULL : Fld := ⟨0x003800, 2, 2⟩
def LG_STAT.NEAR_FULL : Fld := ⟨0x003800, 1, 1⟩
def LG_STAT.LOST : Fld := ⟨0x003800, 0, 0⟩

-- LG_CFG (0x00_3801); spec/17_results.md
def LG_CFG.word : Nat := 0x003801
def LG_CFG.FULL_HOLD : Fld := ⟨0x003801, 96, 96⟩
def LG_CFG.ALERT_WM : Fld := ⟨0x003801, 95, 64⟩
def LG_CFG.MIG_WM : Fld := ⟨0x003801, 20, 0⟩

-- LG_SEQ (0x00_3802); spec/17_results.md
def LG_SEQ.word : Nat := 0x003802
def LG_SEQ.MIG : Fld := ⟨0x003802, 127, 64⟩
def LG_SEQ.TAIL : Fld := ⟨0x003802, 63, 0⟩

-- LG_HEAD (0x00_3803); spec/17_results.md
def LG_HEAD.word : Nat := 0x003803
def LG_HEAD.HEAD : Fld := ⟨0x003803, 63, 0⟩

-- LG_OVF (0x00_3804); spec/17_results.md
def LG_OVF.word : Nat := 0x003804
def LG_OVF.BASE : Fld := ⟨0x003804, 98, 64⟩
def LG_OVF.SIZE : Fld := ⟨0x003804, 39, 16⟩
def LG_OVF.EN : Fld := ⟨0x003804, 0, 0⟩

-- LG_CMD (0x00_3805); spec/17_results.md
def LG_CMD.word : Nat := 0x003805
def LG_CMD.CMD : Fld := ⟨0x003805, 3, 0⟩

-- LG_SNAP (0x00_3806); spec/17_results.md
def LG_SNAP.word : Nat := 0x003806
def LG_SNAP.BEAT : Fld := ⟨0x003806, 127, 64⟩
def LG_SNAP.TAG : Fld := ⟨0x003806, 47, 32⟩
def LG_SNAP.RECORD : Fld := ⟨0x003806, 1, 1⟩
def LG_SNAP.MULTI : Fld := ⟨0x003806, 0, 0⟩

-- LG_SNAPSTAT (0x00_3807); spec/17_results.md
def LG_SNAPSTAT.word : Nat := 0x003807
def LG_SNAPSTAT.BEAT : Fld := ⟨0x003807, 127, 64⟩
def LG_SNAPSTAT.TAG : Fld := ⟨0x003807, 63, 48⟩
def LG_SNAPSTAT.TAG2 : Fld := ⟨0x003807, 47, 32⟩
def LG_SNAPSTAT.SEQ : Fld := ⟨0x003807, 31, 16⟩
def LG_SNAPSTAT.PENDING : Fld := ⟨0x003807, 15, 12⟩
def LG_SNAPSTAT.LOCKED : Fld := ⟨0x003807, 2, 2⟩
def LG_SNAPSTAT.SKIPPED : Fld := ⟨0x003807, 1, 1⟩
def LG_SNAPSTAT.MISSED : Fld := ⟨0x003807, 0, 0⟩

-- LG_SNAPCFG (0x00_3808); spec/17_results.md
def LG_SNAPCFG.word : Nat := 0x003808
def LG_SNAPCFG.LOCK : Fld := ⟨0x003808, 0, 0⟩

-- LG_CNT (0x00_3809); spec/17_results.md
def LG_CNT.word : Nat := 0x003809
def LG_CNT.WRITTEN : Fld := ⟨0x003809, 127, 80⟩
def LG_CNT.MIGRATED : Fld := ⟨0x003809, 79, 32⟩
def LG_CNT.DROPPED : Fld := ⟨0x003809, 31, 0⟩

-- LG_WIN_j (0x10_0000 + j); spec/17_results.md
def LG_WIN.word (j : Nat) : Nat := 0x100000 + j
def LG_WIN.RECORD (j : Nat) : Fld := ⟨0x100000 + j, 127, 0⟩

-- DL_CTRL_l (0x0B_0000 + 0x100 × l); spec/18_dut_lanes.md
def DL_CTRL.word (l : Nat) : Nat := 0x0B0000 + 0x100 * l
def DL_CTRL.RATE_MASK (l : Nat) : Fld := ⟨0x0B0000 + 0x100 * l, 39, 32⟩
def DL_CTRL.GEN (l : Nat) : Fld := ⟨0x0B0000 + 0x100 * l, 27, 24⟩
def DL_CTRL.RETRIES (l : Nat) : Fld := ⟨0x0B0000 + 0x100 * l, 23, 20⟩
def DL_CTRL.CAP_ON_FAIL (l : Nat) : Fld := ⟨0x0B0000 + 0x100 * l, 19, 19⟩
def DL_CTRL.RETRAIN (l : Nat) : Fld := ⟨0x0B0000 + 0x100 * l, 18, 18⟩
def DL_CTRL.AUTO_POL (l : Nat) : Fld := ⟨0x0B0000 + 0x100 * l, 17, 17⟩
def DL_CTRL.DIRECT_RATE (l : Nat) : Fld := ⟨0x0B0000 + 0x100 * l, 10, 8⟩
def DL_CTRL.MODE (l : Nat) : Fld := ⟨0x0B0000 + 0x100 * l, 1, 0⟩

-- DL_TX_l (0x0B_0001 + 0x100 × l); spec/18_dut_lanes.md
def DL_TX.word (l : Nat) : Nat := 0x0B0001 + 0x100 * l
def DL_TX.ULEN (l : Nat) : Fld := ⟨0x0B0001 + 0x100 * l, 23, 16⟩
def DL_TX.TX_INV (l : Nat) : Fld := ⟨0x0B0001 + 0x100 * l, 15, 15⟩
def DL_TX.TX_PAT (l : Nat) : Fld := ⟨0x0B0001 + 0x100 * l, 14, 12⟩
def DL_TX.DEEMPH (l : Nat) : Fld := ⟨0x0B0001 + 0x100 * l, 10, 8⟩
def DL_TX.AMP (l : Nat) : Fld := ⟨0x0B0001 + 0x100 * l, 3, 0⟩

-- DL_RX_l (0x0B_0002 + 0x100 × l); spec/18_dut_lanes.md
def DL_RX.word (l : Nat) : Nat := 0x0B0002 + 0x100 * l
def DL_RX.IDLE_WORD (l : Nat) : Fld := ⟨0x0B0002 + 0x100 * l, 31, 16⟩
def DL_RX.IDLE_KIND (l : Nat) : Fld := ⟨0x0B0002 + 0x100 * l, 15, 14⟩
def DL_RX.ADAPT (l : Nat) : Fld := ⟨0x0B0002 + 0x100 * l, 13, 13⟩
def DL_RX.RX_INV (l : Nat) : Fld := ⟨0x0B0002 + 0x100 * l, 12, 12⟩
def DL_RX.CHK_PAT (l : Nat) : Fld := ⟨0x0B0002 + 0x100 * l, 10, 8⟩
def DL_RX.LOS_TH (l : Nat) : Fld := ⟨0x0B0002 + 0x100 * l, 2, 0⟩

-- DL_EQSET_l (0x0B_0003 + 0x100 × l); spec/18_dut_lanes.md
def DL_EQSET.word (l : Nat) : Nat := 0x0B0003 + 0x100 * l
def DL_EQSET.EXC_TAP (l : Nat) : Fld := ⟨0x0B0003 + 0x100 * l, 71, 64⟩
def DL_EQSET.EXC_CTLE (l : Nat) : Fld := ⟨0x0B0003 + 0x100 * l, 59, 56⟩
def DL_EQSET.TAPS (l : Nat) : Fld := ⟨0x0B0003 + 0x100 * l, 55, 16⟩
def DL_EQSET.CTLE (l : Nat) : Fld := ⟨0x0B0003 + 0x100 * l, 3, 0⟩

-- DL_TRN_l (0x0B_0004 + 0x100 × l); spec/18_dut_lanes.md
def DL_TRN.word (l : Nat) : Nat := 0x0B0004 + 0x100 * l
def DL_TRN.TRAIN_WIN (l : Nat) : Fld := ⟨0x0B0004 + 0x100 * l, 95, 64⟩
def DL_TRN.EQ_TIME (l : Nat) : Fld := ⟨0x0B0004 + 0x100 * l, 63, 32⟩
def DL_TRN.ACK_WIN (l : Nat) : Fld := ⟨0x0B0004 + 0x100 * l, 31, 0⟩

-- DL_CLK_l (0x0B_0005 + 0x100 × l); spec/18_dut_lanes.md
def DL_CLK.word (l : Nat) : Nat := 0x0B0005 + 0x100 * l
def DL_CLK.REFDIV (l : Nat) : Fld := ⟨0x0B0005 + 0x100 * l, 15, 8⟩
def DL_CLK.CLK_RATE (l : Nat) : Fld := ⟨0x0B0005 + 0x100 * l, 6, 4⟩
def DL_CLK.CLK_EN (l : Nat) : Fld := ⟨0x0B0005 + 0x100 * l, 0, 0⟩

-- DL_UPAT_l (0x0B_0006 + 0x100 × l); spec/18_dut_lanes.md
def DL_UPAT.word (l : Nat) : Nat := 0x0B0006 + 0x100 * l
def DL_UPAT.UPAT (l : Nat) : Fld := ⟨0x0B0006 + 0x100 * l, 127, 0⟩

-- DL_STAT_l (0x0B_0007 + 0x100 × l); spec/18_dut_lanes.md
def DL_STAT.word (l : Nat) : Nat := 0x0B0007 + 0x100 * l
def DL_STAT.UP_BEAT (l : Nat) : Fld := ⟨0x0B0007 + 0x100 * l, 127, 96⟩
def DL_STAT.ATTEMPT (l : Nat) : Fld := ⟨0x0B0007 + 0x100 * l, 71, 67⟩
def DL_STAT.CAP (l : Nat) : Fld := ⟨0x0B0007 + 0x100 * l, 66, 64⟩
def DL_STAT.RATE (l : Nat) : Fld := ⟨0x0B0007 + 0x100 * l, 63, 61⟩
def DL_STAT.PHASE (l : Nat) : Fld := ⟨0x0B0007 + 0x100 * l, 55, 53⟩
def DL_STAT.STATE (l : Nat) : Fld := ⟨0x0B0007 + 0x100 * l, 52, 50⟩
def DL_STAT.LOS (l : Nat) : Fld := ⟨0x0B0007 + 0x100 * l, 31, 31⟩
def DL_STAT.LOL (l : Nat) : Fld := ⟨0x0B0007 + 0x100 * l, 30, 30⟩
def DL_STAT.SYNC (l : Nat) : Fld := ⟨0x0B0007 + 0x100 * l, 29, 29⟩
def DL_STAT.FROZEN (l : Nat) : Fld := ⟨0x0B0007 + 0x100 * l, 28, 28⟩
def DL_STAT.RX_POLINV (l : Nat) : Fld := ⟨0x0B0007 + 0x100 * l, 27, 27⟩
def DL_STAT.POLINV (l : Nat) : Fld := ⟨0x0B0007 + 0x100 * l, 6, 6⟩
def DL_STAT.REVERT (l : Nat) : Fld := ⟨0x0B0007 + 0x100 * l, 5, 5⟩
def DL_STAT.DOWN (l : Nat) : Fld := ⟨0x0B0007 + 0x100 * l, 4, 4⟩
def DL_STAT.NAK (l : Nat) : Fld := ⟨0x0B0007 + 0x100 * l, 3, 3⟩
def DL_STAT.STEPFAIL (l : Nat) : Fld := ⟨0x0B0007 + 0x100 * l, 2, 2⟩
def DL_STAT.SILENT (l : Nat) : Fld := ⟨0x0B0007 + 0x100 * l, 1, 1⟩
def DL_STAT.LOST (l : Nat) : Fld := ⟨0x0B0007 + 0x100 * l, 0, 0⟩

-- DL_EQ_l (0x0B_0008 + 0x100 × l); spec/18_dut_lanes.md
def DL_EQ.word (l : Nat) : Nat := 0x0B0008 + 0x100 * l
def DL_EQ.SNAP_VALID (l : Nat) : Fld := ⟨0x0B0008 + 0x100 * l, 127, 127⟩
def DL_EQ.SNAP_CTLE (l : Nat) : Fld := ⟨0x0B0008 + 0x100 * l, 99, 96⟩
def DL_EQ.SNAP_TAPS (l : Nat) : Fld := ⟨0x0B0008 + 0x100 * l, 95, 56⟩
def DL_EQ.CTLE (l : Nat) : Fld := ⟨0x0B0008 + 0x100 * l, 43, 40⟩
def DL_EQ.TAPS (l : Nat) : Fld := ⟨0x0B0008 + 0x100 * l, 39, 0⟩

-- DL_CNT_l (0x0B_0009 + 0x100 × l); spec/18_dut_lanes.md
def DL_CNT.word (l : Nat) : Nat := 0x0B0009 + 0x100 * l
def DL_CNT.BITS (l : Nat) : Fld := ⟨0x0B0009 + 0x100 * l, 127, 64⟩
def DL_CNT.ERRORS (l : Nat) : Fld := ⟨0x0B0009 + 0x100 * l, 63, 24⟩
def DL_CNT.SYNC_LOSS (l : Nat) : Fld := ⟨0x0B0009 + 0x100 * l, 23, 12⟩
def DL_CNT.TRAINS (l : Nat) : Fld := ⟨0x0B0009 + 0x100 * l, 11, 0⟩

-- MP_CTRL (0x00_4800); spec/19_modules.md
def MP_CTRL.word : Nat := 0x004800
def MP_CTRL.REC_ADDR : Fld := ⟨0x004800, 39, 16⟩
def MP_CTRL.SEL_EN : Fld := ⟨0x004800, 15, 8⟩
def MP_CTRL.AUTO : Fld := ⟨0x004800, 0, 0⟩

-- MP_STAT (0x00_4801); spec/19_modules.md
def MP_STAT.word : Nat := 0x004801
def MP_STAT.DONE_BEAT : Fld := ⟨0x004801, 127, 96⟩
def MP_STAT.RESULT : Fld := ⟨0x004801, 63, 56⟩
def MP_STAT.XFER_DONE : Fld := ⟨0x004801, 3, 3⟩
def MP_STAT.DONE : Fld := ⟨0x004801, 2, 2⟩
def MP_STAT.LIM_VALID : Fld := ⟨0x004801, 1, 1⟩
def MP_STAT.BUSY : Fld := ⟨0x004801, 0, 0⟩

-- MP_XFER (0x00_4802); spec/19_modules.md
def MP_XFER.word : Nat := 0x004802
def MP_XFER.ADDR : Fld := ⟨0x004802, 127, 96⟩
def MP_XFER.LEN : Fld := ⟨0x004802, 92, 80⟩
def MP_XFER.CMD : Fld := ⟨0x004802, 79, 72⟩
def MP_XFER.DIR : Fld := ⟨0x004802, 7, 7⟩
def MP_XFER.SEL : Fld := ⟨0x004802, 6, 4⟩
def MP_XFER.OP : Fld := ⟨0x004802, 3, 0⟩

-- MP_CNT (0x00_4803); spec/19_modules.md
def MP_CNT.word : Nat := 0x004803
def MP_CNT.FRAMES : Fld := ⟨0x004803, 127, 96⟩
def MP_CNT.DISCOVERIES : Fld := ⟨0x004803, 95, 64⟩
def MP_CNT.REVERSED : Fld := ⟨0x004803, 63, 32⟩
def MP_CNT.BAD : Fld := ⟨0x004803, 31, 0⟩

-- MP_TILE (0x00_4804); spec/19_modules.md
def MP_TILE.word : Nat := 0x004804
def MP_TILE.TILE_SN : Fld := ⟨0x004804, 127, 64⟩
def MP_TILE.SUB_OFS : Fld := ⟨0x004804, 63, 32⟩
def MP_TILE.NEEDLES : Fld := ⟨0x004804, 31, 16⟩
def MP_TILE.DIES : Fld := ⟨0x004804, 15, 0⟩

-- MP_SEL_k (0x00_4808 + k); spec/19_modules.md
def MP_SEL.word (k : Nat) : Nat := 0x004808 + k
def MP_SEL.HALF (k : Nat) : Fld := ⟨0x004808 + k, 31, 24⟩
def MP_SEL.LEAD (k : Nat) : Fld := ⟨0x004808 + k, 23, 16⟩
def MP_SEL.LAG (k : Nat) : Fld := ⟨0x004808 + k, 15, 8⟩
def MP_SEL.GAP (k : Nat) : Fld := ⟨0x004808 + k, 7, 0⟩

-- MP_FRM_k (0x00_4810 + k); spec/19_modules.md
def MP_FRM.word (k : Nat) : Nat := 0x004810 + k
def MP_FRM.READ_CMD (k : Nat) : Fld := ⟨0x004810 + k, 39, 32⟩
def MP_FRM.CMD_LANES (k : Nat) : Fld := ⟨0x004810 + k, 31, 30⟩
def MP_FRM.CMD_BITS (k : Nat) : Fld := ⟨0x004810 + k, 29, 24⟩
def MP_FRM.ADDR_LANES (k : Nat) : Fld := ⟨0x004810 + k, 23, 22⟩
def MP_FRM.ADDR_BITS (k : Nat) : Fld := ⟨0x004810 + k, 21, 16⟩
def MP_FRM.DUMMY (k : Nat) : Fld := ⟨0x004810 + k, 15, 8⟩
def MP_FRM.DATA_LANES (k : Nat) : Fld := ⟨0x004810 + k, 7, 6⟩

-- MP_MOD_k (0x00_4818 + k); spec/19_modules.md
def MP_MOD.word (k : Nat) : Nat := 0x004818 + k
def MP_MOD.SERIAL (k : Nat) : Fld := ⟨0x004818 + k, 127, 64⟩
def MP_MOD.LENGTH (k : Nat) : Fld := ⟨0x004818 + k, 63, 48⟩
def MP_MOD.TYPE (k : Nat) : Fld := ⟨0x004818 + k, 47, 40⟩
def MP_MOD.STATUS (k : Nat) : Fld := ⟨0x004818 + k, 39, 32⟩
def MP_MOD.ERR_OFFSET (k : Nat) : Fld := ⟨0x004818 + k, 31, 16⟩
def MP_MOD.REVERSED (k : Nat) : Fld := ⟨0x004818 + k, 1, 1⟩
def MP_MOD.PRESENT (k : Nat) : Fld := ⟨0x004818 + k, 0, 0⟩

-- MP_BUF_w (0x00_4900 + w); spec/19_modules.md
def MP_BUF.word (w : Nat) : Nat := 0x004900 + w
def MP_BUF.BYTES (w : Nat) : Fld := ⟨0x004900 + w, 127, 0⟩

-- MP_LIMDPS_d (0x00_4A00 + d); spec/19_modules.md
def MP_LIMDPS.word (d : Nat) : Nat := 0x004A00 + d
def MP_LIMDPS.BOOSTED (d : Nat) : Fld := ⟨0x004A00 + d, 127, 127⟩
def MP_LIMDPS.SENSE (d : Nat) : Fld := ⟨0x004A00 + d, 121, 121⟩
def MP_LIMDPS.FORCE (d : Nat) : Fld := ⟨0x004A00 + d, 120, 120⟩
def MP_LIMDPS.RFORCE (d : Nat) : Fld := ⟨0x004A00 + d, 119, 104⟩
def MP_LIMDPS.RSENSE (d : Nat) : Fld := ⟨0x004A00 + d, 103, 88⟩
def MP_LIMDPS.IMAX (d : Nat) : Fld := ⟨0x004A00 + d, 63, 32⟩
def MP_LIMDPS.VMAX (d : Nat) : Fld := ⟨0x004A00 + d, 31, 16⟩

-- MP_LIMCH_c (0x00_4C00 + c); spec/19_modules.md
def MP_LIMCH.word (c : Nat) : Nat := 0x004C00 + c
def MP_LIMCH.NEEDLE (c : Nat) : Fld := ⟨0x004C00 + c, 127, 112⟩
def MP_LIMCH.TRACE_DRV (c : Nat) : Fld := ⟨0x004C00 + c, 111, 92⟩
def MP_LIMCH.TRACE_RCV (c : Nat) : Fld := ⟨0x004C00 + c, 91, 72⟩
def MP_LIMCH.IMAX (c : Nat) : Fld := ⟨0x004C00 + c, 63, 32⟩
def MP_LIMCH.VMAX (c : Nat) : Fld := ⟨0x004C00 + c, 31, 16⟩
def MP_LIMCH.VMIN (c : Nat) : Fld := ⟨0x004C00 + c, 15, 0⟩

-- CP_CFG (0x00_4000); spec/20_control_port.md
def CP_CFG.word : Nat := 0x004000
def CP_CFG.DUMMY : Fld := ⟨0x004000, 12, 8⟩
def CP_CFG.LANES : Fld := ⟨0x004000, 1, 0⟩

-- CP_STAT (0x00_4001); spec/20_control_port.md
def CP_STAT.word : Nat := 0x004001
def CP_STAT.LAST : Fld := ⟨0x004001, 15, 8⟩
def CP_STAT.CRC_ERR : Fld := ⟨0x004001, 7, 7⟩
def CP_STAT.STATE_REJECT : Fld := ⟨0x004001, 6, 6⟩
def CP_STAT.HOLE : Fld := ⟨0x004001, 5, 5⟩
def CP_STAT.OVERRUN : Fld := ⟨0x004001, 4, 4⟩
def CP_STAT.FRAME_ERR : Fld := ⟨0x004001, 3, 3⟩

-- CP_ALERT (0x00_4002); spec/20_control_port.md
def CP_ALERT.word : Nat := 0x004002
def CP_ALERT.MASK : Fld := ⟨0x004002, 21, 16⟩
def CP_ALERT.ALERT_OUT : Fld := ⟨0x004002, 6, 6⟩
def CP_ALERT.PEND : Fld := ⟨0x004002, 5, 0⟩

-- CP_CNT (0x00_4003); spec/20_control_port.md
def CP_CNT.word : Nat := 0x004003
def CP_CNT.FRAMES : Fld := ⟨0x004003, 127, 80⟩
def CP_CNT.CRC_ERR : Fld := ⟨0x004003, 79, 56⟩
def CP_CNT.FRAME_ERR : Fld := ⟨0x004003, 55, 32⟩
def CP_CNT.REJECTS : Fld := ⟨0x004003, 31, 0⟩

-- HL_STAT (0x00_5000); spec/21_host_link.md
def HL_STAT.word : Nat := 0x005000
def HL_STAT.DEGRADED : Fld := ⟨0x005000, 9, 9⟩
def HL_STAT.BULK_OFF : Fld := ⟨0x005000, 8, 8⟩
def HL_STAT.LEDGER_WR : Fld := ⟨0x005000, 7, 7⟩
def HL_STAT.UNCORR : Fld := ⟨0x005000, 6, 6⟩
def HL_STAT.VIOL_DROP : Fld := ⟨0x005000, 5, 5⟩
def HL_STAT.OVERRUN : Fld := ⟨0x005000, 4, 4⟩
def HL_STAT.PARTIAL : Fld := ⟨0x005000, 3, 3⟩
def HL_STAT.HOLE : Fld := ⟨0x005000, 2, 2⟩
def HL_STAT.STATE_REJECT : Fld := ⟨0x005000, 1, 1⟩

-- HL_LINK (0x00_5001); spec/21_host_link.md
def HL_LINK.word : Nat := 0x005001
def HL_LINK.POLINV : Fld := ⟨0x005001, 23, 16⟩
def HL_LINK.REVERSED : Fld := ⟨0x005001, 12, 12⟩
def HL_LINK.UP : Fld := ⟨0x005001, 11, 11⟩
def HL_LINK.WIDTH : Fld := ⟨0x005001, 10, 7⟩
def HL_LINK.SPEED : Fld := ⟨0x005001, 2, 0⟩

-- HL_CNT (0x00_5002); spec/21_host_link.md
def HL_CNT.word : Nat := 0x005002
def HL_CNT.RETRAINS : Fld := ⟨0x005002, 127, 96⟩
def HL_CNT.DOWNTRAINS : Fld := ⟨0x005002, 95, 64⟩
def HL_CNT.LINKDOWN : Fld := ⟨0x005002, 63, 32⟩
def HL_CNT.RX_ERR : Fld := ⟨0x005002, 31, 0⟩

-- HL_LAST (0x00_5003); spec/21_host_link.md
def HL_LAST.word : Nat := 0x005003
def HL_LAST.BEAT : Fld := ⟨0x005003, 63, 32⟩
def HL_LAST.CODE : Fld := ⟨0x005003, 25, 24⟩
def HL_LAST.WORD : Fld := ⟨0x005003, 23, 0⟩

-- HL_INT (0x00_5004); spec/21_host_link.md
def HL_INT.word : Nat := 0x005004
def HL_INT.PEND : Fld := ⟨0x005004, 31, 0⟩

-- HL_MSIX_MAP_k (0x00_5008 + k); spec/21_host_link.md
def HL_MSIX_MAP.word (k : Nat) : Nat := 0x005008 + k
def HL_MSIX_MAP.MAP (k : Nat) : Fld := ⟨0x005008 + k, 127, 0⟩

-- HL_BULK_n (0x00_5010 + n); spec/21_host_link.md
def HL_BULK.word (n : Nat) : Nat := 0x005010 + n
def HL_BULK.PTR (n : Nat) : Fld := ⟨0x005010 + n, 103, 64⟩
def HL_BULK.TARGET (n : Nat) : Fld := ⟨0x005010 + n, 4, 4⟩
def HL_BULK.MODE (n : Nat) : Fld := ⟨0x005010 + n, 1, 0⟩

-- HK_CTRL (0x00_2000); spec/22_thermal_log.md
def HK_CTRL.word : Nat := 0x002000
def HK_CTRL.THR_T : Fld := ⟨0x002000, 127, 112⟩
def HK_CTRL.HYST : Fld := ⟨0x002000, 111, 96⟩
def HK_CTRL.REL_ROUNDS : Fld := ⟨0x002000, 95, 80⟩
def HK_CTRL.PAUSE_ROUNDS : Fld := ⟨0x002000, 79, 64⟩
def HK_CTRL.HOLDS : Fld := ⟨0x002000, 15, 12⟩
def HK_CTRL.COOL_EN : Fld := ⟨0x002000, 2, 2⟩
def HK_CTRL.PAUSE_EN : Fld := ⟨0x002000, 1, 1⟩

-- HK_STAT (0x00_2001); spec/22_thermal_log.md
def HK_STAT.word : Nat := 0x002001
def HK_STAT.HOT_T : Fld := ⟨0x002001, 127, 112⟩
def HK_STAT.HOT_SRC : Fld := ⟨0x002001, 111, 104⟩
def HK_STAT.PAUSED : Fld := ⟨0x002001, 103, 96⟩
def HK_STAT.SD_SEQ : Fld := ⟨0x002001, 63, 32⟩
def HK_STAT.SD_VALID : Fld := ⟨0x002001, 7, 7⟩
def HK_STAT.EST : Fld := ⟨0x002001, 6, 6⟩
def HK_STAT.THROTTLED : Fld := ⟨0x002001, 5, 5⟩
def HK_STAT.RATE_HI : Fld := ⟨0x002001, 4, 4⟩
def HK_STAT.SUPPLY_WARN : Fld := ⟨0x002001, 2, 2⟩
def HK_STAT.SENSOR_FAIL : Fld := ⟨0x002001, 1, 1⟩
def HK_STAT.THROTTLE_SEEN : Fld := ⟨0x002001, 0, 0⟩

-- HK_CMD (0x00_2002); spec/22_thermal_log.md
def HK_CMD.word : Nat := 0x002002
def HK_CMD.INDEX : Fld := ⟨0x002002, 12, 8⟩
def HK_CMD.CMD : Fld := ⟨0x002002, 3, 0⟩

-- HK_RATE (0x00_2003); spec/22_thermal_log.md
def HK_RATE.word : Nat := 0x002003
def HK_RATE.LIMIT : Fld := ⟨0x002003, 55, 0⟩

-- HK_CNT (0x00_2004); spec/22_thermal_log.md
def HK_CNT.word : Nat := 0x002004
def HK_CNT.ROUNDS : Fld := ⟨0x002004, 127, 96⟩
def HK_CNT.THROTTLES : Fld := ⟨0x002004, 95, 64⟩
def HK_CNT.PAUSES : Fld := ⟨0x002004, 63, 32⟩
def HK_CNT.FAILS : Fld := ⟨0x002004, 31, 0⟩

-- HK_ORDER_k (0x00_2008 + k); spec/22_thermal_log.md
def HK_ORDER.word (k : Nat) : Nat := 0x002008 + k
def HK_ORDER.SITES (k : Nat) : Fld := ⟨0x002008 + k, 127, 0⟩

-- HK_COOL_k (0x00_2010 + k); spec/22_thermal_log.md
def HK_COOL.word (k : Nat) : Nat := 0x002010 + k
def HK_COOL.SENSOR (k : Nat) : Fld := ⟨0x002010 + k, 47, 40⟩
def HK_COOL.KIND (k : Nat) : Fld := ⟨0x002010 + k, 39, 32⟩
def HK_COOL.VALID (k : Nat) : Fld := ⟨0x002010 + k, 16, 16⟩
def HK_COOL.TEMP (k : Nat) : Fld := ⟨0x002010 + k, 15, 0⟩

-- HK_TS_i (0x00_2020 + i); spec/22_thermal_log.md
def HK_TS.word (i : Nat) : Nat := 0x002020 + i
def HK_TS.EST (i : Nat) : Fld := ⟨0x002020 + i, 127, 112⟩
def HK_TS.LAST_GOOD (i : Nat) : Fld := ⟨0x002020 + i, 111, 96⟩
def HK_TS.GOOD_BEAT (i : Nat) : Fld := ⟨0x002020 + i, 95, 64⟩
def HK_TS.RATE (i : Nat) : Fld := ⟨0x002020 + i, 63, 48⟩
def HK_TS.GROUP (i : Nat) : Fld := ⟨0x002020 + i, 34, 32⟩
def HK_TS.REASON (i : Nat) : Fld := ⟨0x002020 + i, 20, 18⟩
def HK_TS.STATUS (i : Nat) : Fld := ⟨0x002020 + i, 17, 16⟩
def HK_TS.TEMP (i : Nat) : Fld := ⟨0x002020 + i, 15, 0⟩

-- HK_MON_m (0x00_2040 + m); spec/22_thermal_log.md
def HK_MON.word (m : Nat) : Nat := 0x002040 + m
def HK_MON.NOM (m : Nat) : Fld := ⟨0x002040 + m, 63, 48⟩
def HK_MON.VALUE (m : Nat) : Fld := ⟨0x002040 + m, 31, 16⟩
def HK_MON.OUT (m : Nat) : Fld := ⟨0x002040 + m, 1, 1⟩
def HK_MON.WARN (m : Nat) : Fld := ⟨0x002040 + m, 0, 0⟩

-- LOG_STAT (0x00_3000); spec/22_thermal_log.md
def LOG_STAT.word : Nat := 0x003000
def LOG_STAT.TAIL : Fld := ⟨0x003000, 127, 64⟩
def LOG_STAT.DROPPED : Fld := ⟨0x003000, 63, 32⟩
def LOG_STAT.WRAPPED : Fld := ⟨0x003000, 0, 0⟩

-- LOG_CTRL (0x00_3001); spec/22_thermal_log.md
def LOG_CTRL.word : Nat := 0x003001
def LOG_CTRL.COPY : Fld := ⟨0x003001, 8, 8⟩
def LOG_CTRL.NVM_PAGE : Fld := ⟨0x003001, 7, 4⟩
def LOG_CTRL.LOG_PAGE : Fld := ⟨0x003001, 1, 0⟩

-- LOG_CMD (0x00_3002); spec/22_thermal_log.md
def LOG_CMD.word : Nat := 0x003002
def LOG_CMD.CMD : Fld := ⟨0x003002, 3, 0⟩

-- NVM_WIN_w (0x00_3100 + w) and LOG_WIN_j (0x00_3400 + j); spec/22_thermal_log.md
def NVM_WIN.word (w : Nat) : Nat := 0x003100 + w
def NVM_WIN.DATA (w : Nat) : Fld := ⟨0x003100 + w, 127, 0⟩

-- NVM_WIN_w (0x00_3100 + w) and LOG_WIN_j (0x00_3400 + j); spec/22_thermal_log.md
def LOG_WIN.word (j : Nat) : Nat := 0x003400 + j
def LOG_WIN.DATA (j : Nat) : Fld := ⟨0x003400 + j, 127, 0⟩

-- DEV_ID (0x00_0000); spec/23_modes_service.md
def DEV_ID.word : Nat := 0x000000
def DEV_ID.SERIAL : Fld := ⟨0x000000, 127, 64⟩
def DEV_ID.PART : Fld := ⟨0x000000, 63, 48⟩
def DEV_ID.REV : Fld := ⟨0x000000, 47, 40⟩
def DEV_ID.GRADE : Fld := ⟨0x000000, 39, 38⟩
def DEV_ID.LIDLESS : Fld := ⟨0x000000, 37, 37⟩

-- DEV_MODE (0x00_0001); spec/23_modes_service.md
def DEV_MODE.word : Nat := 0x000001
def DEV_MODE.AT : Fld := ⟨0x000001, 127, 64⟩
def DEV_MODE.PENDING : Fld := ⟨0x000001, 12, 12⟩
def DEV_MODE.CUR : Fld := ⟨0x000001, 11, 8⟩
def DEV_MODE.AT_EN : Fld := ⟨0x000001, 4, 4⟩
def DEV_MODE.REQ : Fld := ⟨0x000001, 3, 0⟩

-- DEV_STAT (0x00_0002); spec/23_modes_service.md
def DEV_STAT.word : Nat := 0x000002
def DEV_STAT.MODE_BEAT : Fld := ⟨0x000002, 127, 96⟩
def DEV_STAT.PREV : Fld := ⟨0x000002, 95, 92⟩
def DEV_STAT.CAUSE : Fld := ⟨0x000002, 91, 88⟩
def DEV_STAT.LAST_RESET : Fld := ⟨0x000002, 7, 6⟩
def DEV_STAT.MODE_REJ : Fld := ⟨0x000002, 1, 1⟩
def DEV_STAT.INIT_DONE : Fld := ⟨0x000002, 0, 0⟩

-- DEV_CMD (0x00_0003); spec/23_modes_service.md
def DEV_CMD.word : Nat := 0x000003
def DEV_CMD.CMD : Fld := ⟨0x000003, 3, 0⟩

-- DEV_SVC (0x00_0004); spec/23_modes_service.md
def DEV_SVC.word : Nat := 0x000004
def DEV_SVC.INDEX : Fld := ⟨0x000004, 25, 16⟩
def DEV_SVC.SPARE : Fld := ⟨0x000004, 12, 8⟩
def DEV_SVC.CMD : Fld := ⟨0x000004, 3, 0⟩

-- DEV_SVCSTAT (0x00_0005); spec/23_modes_service.md
def DEV_SVCSTAT.word : Nat := 0x000005
def DEV_SVCSTAT.BEAT : Fld := ⟨0x000005, 127, 96⟩
def DEV_SVCSTAT.INDEX : Fld := ⟨0x000005, 41, 32⟩
def DEV_SVCSTAT.SPARE : Fld := ⟨0x000005, 28, 24⟩
def DEV_SVCSTAT.LAST_CMD : Fld := ⟨0x000005, 23, 20⟩
def DEV_SVCSTAT.RESULT : Fld := ⟨0x000005, 19, 16⟩
def DEV_SVCSTAT.DONE : Fld := ⟨0x000005, 1, 1⟩
def DEV_SVCSTAT.PENDING : Fld := ⟨0x000005, 0, 0⟩

-- DEV_STST (0x00_0006); spec/23_modes_service.md
def DEV_STST.word : Nat := 0x000006
def DEV_STST.BEAT : Fld := ⟨0x000006, 127, 96⟩
def DEV_STST.CH_FAIL : Fld := ⟨0x000006, 95, 85⟩
def DEV_STST.TDC_FAIL : Fld := ⟨0x000006, 84, 74⟩
def DEV_STST.FB : Fld := ⟨0x000006, 73, 72⟩
def DEV_STST.LEDGER : Fld := ⟨0x000006, 71, 70⟩
def DEV_STST.NVM_BAD : Fld := ⟨0x000006, 69, 62⟩
def DEV_STST.ABORTED : Fld := ⟨0x000006, 1, 1⟩
def DEV_STST.DONE : Fld := ⟨0x000006, 0, 0⟩

end Sys2Proof.Machine.Reg
end

