-- ==== Sys2Proof/Machine/RegTable.lean ====
section
/-! DEFINITION. The register table (R511 to R513, R535 and the field tables): for every register word its access classes
field by field and its reset word. A word that no row covers is a hole (R512). -/

namespace Sys2Proof.Machine

/-- The access classes of the table of R8. -/
inductive Acc where
  | rw | ro | wo | w1c | cl | hr
deriving DecidableEq, Repr

/-- One row of the register table: `count` words from `base`, `stride` apart, their fields (high bit, low bit, class;
reserved bits left out) and the reset word of word number `i`. -/
structure RegRow where
  base : Nat
  stride : Nat
  count : Nat
  fields : List (Nat × Nat × Acc)
  rst : Nat → Nat

/-- R469: the group of a temperature sensor. -/
def tsGroup (i : Nat) : Nat := if i < 8 then 0 else if i < 24 then 1 + (i - 8) / 4 else if i < 26 then 5 else 6

/-- R472: the nominal value of a monitor, in mV. -/
def monNominal (m : Nat) : Int :=
  if m ≤ 3 then 750 else if m = 4 then 850 else if m = 5 then 900 else if m ≤ 7 then 1100 else if m ≤ 12 then 1800
  else if m = 13 then 3300 else if m ≤ 17 then 9000 else if m ≤ 21 then -3000 else if m ≤ 25 then 8500
  else if m ≤ 29 then -1500 else if m ≤ 33 then 2500 else if m = 34 then 1200 else 5000

/-- The TB registers. -/
def regRowsTB : List RegRow := [
  ⟨0x001000, 0x1, 1, [(79, 16, .ro), (15, 0, .ro)], fun _ => 0x0⟩,  -- TB_NOW
  ⟨0x001001, 0x1, 1, [(31, 30, .rw), (29, 16, .rw), (3, 3, .rw), (2, 2, .rw), (1, 1, .rw), (0, 0, .rw)], fun _ => 0x4000000F⟩,  -- TB_CTRL
  ⟨0x001002, 0x1, 1, [(31, 31, .w1c), (30, 30, .w1c), (29, 29, .w1c), (28, 28, .w1c), (27, 24, .ro), (23, 22, .ro), (21, 21, .ro), (20, 20, .ro), (19, 19, .ro), (18, 18, .ro), (10, 0, .ro)], fun _ => 0x0⟩,  -- TB_STAT
  ⟨0x001003, 0x1, 1, [(63, 0, .wo)], fun _ => 0x0⟩,  -- TB_LOAD
  ⟨0x001004, 0x1, 1, [(95, 64, .hr), (63, 32, .hr), (31, 0, .hr)], fun _ => 0x0⟩,  -- TB_SYNC_ERR
  ⟨0x001005, 0x1, 1, [(55, 52, .wo), (23, 0, .wo)], fun _ => 0x0⟩,  -- TB_ROOT_CMD
  ⟨0x001100, 0x1, 64, [(41, 32, .cl), (31, 8, .cl), (3, 2, .cl), (0, 0, .cl)], fun _ => 0x4⟩,  -- TB_FOLLOW_CFG
  ⟨0x001140, 0x1, 64, [(127, 48, .hr), (47, 0, .hr)], fun _ => 0x0⟩,  -- TB_FOLLOW_CNT
  ⟨0x001180, 0x1, 64, [(127, 80, .cl), (79, 1, .ro), (0, 0, .ro)], fun _ => 0x0⟩  -- TB_FOLLOW_MATCH
]

/-- The SI registers. -/
def regRowsSI : List RegRow := [
  ⟨0x008000, 0x1, 1, [(13, 8, .wo), (3, 0, .wo)], fun _ => 0x0⟩,  -- SI_CMD
  ⟨0x008001, 0x1, 1, [(63, 32, .ro), (23, 16, .ro), (15, 12, .ro), (1, 1, .w1c), (0, 0, .ro)], fun _ => 0x0⟩,  -- SI_STAT
  ⟨0x008002, 0x1, 1, [(127, 96, .ro), (95, 64, .ro), (63, 48, .ro), (47, 40, .ro), (31, 0, .ro)], fun _ => 0x0⟩,  -- SI_ACTIVE
  ⟨0x008003, 0x1, 1, [(95, 64, .ro), (63, 48, .ro), (47, 32, .ro), (31, 0, .ro)], fun _ => 0x0⟩,  -- SI_ERR
  ⟨0x008100, 0x1, 64, [(127, 96, .ro), (95, 64, .ro), (63, 32, .ro), (31, 21, .ro), (20, 14, .ro), (8, 8, .ro), (7, 4, .ro)], fun _ => 0x0⟩,  -- SI_SITE
  ⟨0x008140, 0x1, 32, [(16, 16, .ro), (9, 0, .ro)], fun _ => 0x0⟩,  -- SI_SPARE
  ⟨0x009000, 0x1, 4096, [(127, 0, .rw)], fun _ => 0x0⟩  -- SI_IMG
]

/-- The CH registers. -/
def regRowsCH : List RegRow := [
  ⟨0x080000, 0x40, 1024, [(15, 12, .cl), (11, 10, .cl), (9, 9, .cl), (0, 0, .cl)], fun _ => 0x1000⟩,  -- CH_CTRL
  ⟨0x080001, 0x40, 1024, [(4, 4, .cl), (1, 0, .cl)], fun _ => 0x0⟩,  -- CH_DRV
  ⟨0x080002, 0x40, 1024, [(32, 32, .cl), (27, 16, .cl), (11, 0, .cl)], fun _ => 0x0⟩,  -- CH_LOAD
  ⟨0x080003, 0x40, 1024, [(9, 8, .cl), (1, 1, .cl), (0, 0, .cl)], fun _ => 0x0⟩,  -- CH_CLAMP
  ⟨0x080004, 0x40, 1024, [(19, 16, .cl), (0, 0, .cl)], fun _ => 0x30000⟩,  -- CH_CMP
  ⟨0x080005, 0x40, 1024, [(31, 31, .ro), (30, 30, .ro), (29, 29, .ro), (28, 28, .ro), (27, 27, .ro), (26, 26, .ro), (25, 25, .ro), (24, 24, .ro), (23, 23, .ro), (1, 1, .w1c), (0, 0, .w1c)], fun _ => 0x50000000⟩,  -- CH_STAT
  ⟨0x080006, 0x40, 1024, [(127, 96, .hr), (95, 64, .hr), (63, 0, .hr)], fun _ => 0x0⟩,  -- CH_CAPT
  ⟨0x080008, 0x40, 1024, [(63, 53, .ro), (51, 50, .ro), (49, 49, .ro), (48, 43, .ro), (42, 33, .ro), (32, 25, .ro), (24, 17, .ro), (16, 7, .ro), (6, 5, .ro), (4, 4, .ro)], fun c => (c) * 2 ^ 53 + (c / 256) * 2 ^ 50 + (c) * 2 ^ 7⟩,  -- CH_ID
  ⟨0x080007, 0x40, 1024, [(127, 80, .hr), (63, 0, .hr)], fun _ => 0xFFFFFFFFFFFF00000000000000000000⟩,  -- CH_FAILCNT
  ⟨0x080010, 0x40, 1024, [(96, 96, .ro), (95, 80, .ro), (71, 64, .ro), (16, 16, .cl), (15, 0, .cl)], fun _ => 0x300000000000000000003000⟩,  -- CH_LVL
  ⟨0x080011, 0x40, 1024, [(96, 96, .ro), (95, 80, .ro), (71, 64, .ro), (16, 16, .cl), (15, 0, .cl)], fun _ => 0x300000000000000000003000⟩,  -- CH_LVL
  ⟨0x080012, 0x40, 1024, [(96, 96, .ro), (95, 80, .ro), (71, 64, .ro), (16, 16, .cl), (15, 0, .cl)], fun _ => 0x300000000000000000003000⟩,  -- CH_LVL
  ⟨0x080013, 0x40, 1024, [(96, 96, .ro), (95, 80, .ro), (71, 64, .ro), (16, 16, .cl), (15, 0, .cl)], fun _ => 0x300000000000000000003000⟩,  -- CH_LVL
  ⟨0x080014, 0x40, 1024, [(96, 96, .ro), (95, 80, .ro), (71, 64, .ro), (16, 16, .cl), (15, 0, .cl)], fun _ => 0x300000000000000000003000⟩,  -- CH_LVL
  ⟨0x080015, 0x40, 1024, [(96, 96, .ro), (95, 80, .ro), (71, 64, .ro), (16, 16, .cl), (15, 0, .cl)], fun _ => 0x300000000000000000003000⟩,  -- CH_LVL
  ⟨0x080016, 0x40, 1024, [(96, 96, .ro), (95, 80, .ro), (71, 64, .ro), (16, 16, .cl), (15, 0, .cl)], fun _ => 0x300000000000000000003000⟩,  -- CH_LVL
  ⟨0x080017, 0x40, 1024, [(96, 96, .ro), (95, 80, .ro), (71, 64, .ro), (16, 16, .cl), (15, 0, .cl)], fun _ => 0x300000000000000000003000⟩,  -- CH_LVL
  ⟨0x080018, 0x40, 1024, [(23, 16, .ro), (15, 8, .ro), (7, 0, .ro)], fun _ => 0x0⟩,  -- CH_LVLSTAT
  ⟨0x080020, 0x40, 1024, [(11, 11, .cl), (10, 10, .cl), (7, 4, .cl), (2, 0, .cl)], fun _ => 0x40⟩,  -- CH_PMU
  ⟨0x080021, 0x40, 1024, [(31, 31, .ro), (30, 30, .ro), (29, 29, .ro), (28, 28, .ro), (27, 27, .ro), (1, 1, .ro), (0, 0, .w1c)], fun _ => 0x0⟩,  -- CH_PMUSTAT
  ⟨0x080022, 0x40, 1024, [(127, 96, .ro), (95, 80, .ro), (68, 68, .ro), (67, 67, .ro), (66, 66, .ro), (65, 65, .ro), (64, 64, .ro), (47, 0, .ro)], fun _ => 0x0⟩,  -- CH_PMURES
  ⟨0x080023, 0x40, 1024, [(63, 48, .wo), (47, 16, .wo), (3, 0, .wo)], fun _ => 0x0⟩,  -- CH_PMUCMD
  ⟨0x080024, 0x40, 1024, [(127, 96, .hr), (95, 64, .hr), (63, 32, .hr), (31, 0, .hr)], fun _ => 0x0⟩,  -- CH_PMUCNT
  ⟨0x080030, 0x40, 1024, [(127, 112, .cl), (111, 96, .cl), (75, 64, .cl), (43, 32, .cl), (11, 0, .cl)], fun _ => 0x7FFF800000000FFF00000FA000000000⟩,  -- CH_GWIN
  ⟨0x080031, 0x40, 1024, [(20, 16, .cl), (15, 15, .cl), (14, 14, .cl), (13, 13, .cl), (12, 12, .cl), (11, 10, .cl), (9, 9, .cl), (7, 6, .cl), (5, 0, .cl)], fun _ => 0x3F⟩,  -- CH_GCFG
  ⟨0x080032, 0x40, 1024, [(127, 120, .ro), (119, 112, .ro), (111, 104, .ro), (103, 96, .ro), (7, 6, .ro), (5, 5, .ro), (4, 4, .ro), (0, 0, .w1c)], fun _ => 0x3F000000000000000000000000⟩,  -- CH_GSTAT
  ⟨0x080033, 0x40, 1024, [(127, 48, .ro), (47, 40, .ro)], fun _ => 0x0⟩,  -- CH_GTRIP
  ⟨0x080034, 0x40, 1024, [(127, 96, .hr), (95, 64, .hr), (63, 32, .hr), (31, 0, .hr)], fun _ => 0x0⟩,  -- CH_GCNT
  ⟨0x080035, 0x40, 1024, [(127, 96, .ro), (95, 64, .ro), (63, 32, .ro), (7, 0, .ro)], fun _ => 0xFF⟩  -- CH_GCHK
]

/-- The EE registers. -/
def regRowsEE : List RegRow := [
  ⟨0x050000, 0x20, 1056, [(49, 32, .cl)], fun _ => 0x0⟩,  -- EE_CFG
  ⟨0x050001, 0x20, 1056, [(75, 70, .cl), (67, 64, .cl), (63, 0, .cl)], fun _ => 0x0⟩,  -- EE_TWR
  ⟨0x050002, 0x20, 1056, [(7, 7, .rw), (5, 0, .rw)], fun _ => 0x0⟩,  -- EE_TRSEL
  ⟨0x050003, 0x20, 1056, [(127, 96, .ro), (95, 64, .ro), (63, 63, .ro), (33, 32, .ro), (31, 0, .ro)], fun _ => 0x0⟩,  -- EE_TVA
  ⟨0x050004, 0x20, 1056, [(127, 96, .ro), (95, 64, .ro), (63, 32, .ro), (31, 0, .ro)], fun _ => 0x0⟩,  -- EE_TVB
  ⟨0x050005, 0x20, 1056, [(127, 96, .ro), (95, 64, .ro), (63, 32, .ro), (31, 0, .ro)], fun _ => 0x0⟩,  -- EE_TVC
  ⟨0x050006, 0x20, 1056, [(115, 96, .ro), (83, 64, .ro), (51, 32, .ro), (19, 0, .ro)], fun _ => 0x0⟩,  -- EE_DESKEW
  ⟨0x050007, 0x20, 1056, [(31, 30, .ro), (29, 20, .ro), (19, 14, .ro), (13, 13, .ro), (0, 0, .w1c)], fun e => (if e < 1024 then 1 else 0) * 2 ^ 30 + (if e < 1024 then e else 0) * 2 ^ 20⟩,  -- EE_STAT
  ⟨0x050008, 0x20, 1056, [(127, 64, .hr), (63, 0, .hr)], fun _ => 0x0⟩  -- EE_CNT
]

/-- The PM registers. -/
def regRowsPM : List RegRow := [
  ⟨0x048000, 0x1, 1, [(31, 24, .ro), (23, 16, .ro), (3, 3, .w1c), (2, 2, .w1c), (1, 1, .w1c), (0, 0, .ro)], fun _ => 0x0⟩,  -- PM_STAT
  ⟨0x048001, 0x1, 1, [(127, 64, .ro), (63, 56, .ro), (55, 54, .ro), (34, 0, .ro)], fun _ => 0x0⟩,  -- PM_VIOL
  ⟨0x048002, 0x1, 1, [(25, 16, .ro), (9, 0, .ro)], fun _ => 0x0⟩,  -- PM_BW
  ⟨0x048003, 0x1, 1, [(127, 96, .hr), (95, 64, .hr), (63, 32, .hr), (31, 0, .hr)], fun _ => 0x0⟩,  -- PM_CNT
  ⟨0x048004, 0x1, 1, [(9, 9, .ro), (8, 8, .ro), (7, 0, .ro)], fun _ => 0x20⟩,  -- PM_SIZE
  ⟨0x048100, 0x1, 256, [(87, 64, .rw), (54, 32, .rw), (5, 4, .rw), (0, 0, .rw)], fun _ => 0x0⟩,  -- PM_RGN
  ⟨0x048200, 0x1, 256, [(127, 64, .ro), (63, 32, .ro), (7, 7, .ro), (6, 0, .ro)], fun _ => 0x0⟩  -- PM_LEASE
]

/-- The SO registers. -/
def regRowsSO : List RegRow := [
  ⟨0x040000, 0x1, 1, [(31, 16, .rw), (1, 1, .rw), (0, 0, .rw)], fun _ => 0x4000003⟩,  -- SO_CTRL
  ⟨0x040001, 0x1, 1, [(11, 10, .ro), (9, 8, .ro), (3, 3, .w1c), (2, 2, .w1c), (1, 1, .w1c), (0, 0, .w1c)], fun _ => 0x0⟩,  -- SO_STAT
  ⟨0x040002, 0x1, 1, [(48, 32, .ro), (16, 0, .ro)], fun _ => 0x10000⟩,  -- SO_FB
  ⟨0x041000, 0x10, 80, [(36, 32, .rw), (22, 16, .rw), (11, 8, .rw)], fun _ => 0x1000200800⟩,  -- SO_STR_CFG
  ⟨0x041001, 0x10, 80, [(127, 96, .ro), (63, 58, .ro), (57, 56, .ro), (47, 40, .ro), (39, 36, .ro), (31, 29, .ro), (7, 7, .ro), (3, 3, .w1c), (2, 2, .w1c), (1, 1, .w1c), (0, 0, .w1c)], fun _ => 0x0⟩,  -- SO_STR_STAT
  ⟨0x041002, 0x10, 80, [(127, 80, .ro), (79, 48, .ro), (31, 0, .ro)], fun _ => 0x0⟩,  -- SO_STR_POS
  ⟨0x041003, 0x10, 80, [(127, 96, .hr), (95, 64, .hr), (63, 32, .hr), (31, 0, .hr)], fun _ => 0x0⟩,  -- SO_STR_CNT
  ⟨0x042000, 0x10, 64, [(98, 64, .rw), (39, 16, .rw), (0, 0, .rw)], fun _ => 0x0⟩,  -- SO_FC_CFG
  ⟨0x042001, 0x10, 64, [(95, 64, .ro), (63, 32, .ro), (31, 0, .rw)], fun _ => 0x0⟩,  -- SO_FC_PTR
  ⟨0x042002, 0x10, 64, [(127, 80, .hr), (79, 48, .hr), (47, 16, .hr)], fun _ => 0x0⟩,  -- SO_FC_CNT
  ⟨0x042003, 0x10, 64, [(0, 0, .wo)], fun _ => 0x0⟩,  -- SO_SITE_CMD
  ⟨0x042004, 0x10, 64, [(63, 32, .ro), (1, 1, .ro), (0, 0, .ro)], fun _ => 0x0⟩  -- SO_SITE_STAT
]

/-- The SQ registers. -/
def regRowsSQ : List RegRow := [
  ⟨0x031000, 0x40, 64, [(127, 0, .rw)], fun _ => 0x0⟩,  -- SQ_XREG
  ⟨0x031001, 0x40, 64, [(127, 0, .rw)], fun _ => 0x0⟩,  -- SQ_XREG
  ⟨0x031002, 0x40, 64, [(127, 0, .rw)], fun _ => 0x0⟩,  -- SQ_XREG
  ⟨0x031003, 0x40, 64, [(127, 0, .rw)], fun _ => 0x0⟩,  -- SQ_XREG
  ⟨0x031004, 0x40, 64, [(127, 0, .rw)], fun _ => 0x0⟩,  -- SQ_XREG
  ⟨0x031005, 0x40, 64, [(127, 0, .rw)], fun _ => 0x0⟩,  -- SQ_XREG
  ⟨0x031006, 0x40, 64, [(127, 0, .rw)], fun _ => 0x0⟩,  -- SQ_XREG
  ⟨0x031007, 0x40, 64, [(127, 0, .rw)], fun _ => 0x0⟩,  -- SQ_XREG
  ⟨0x031008, 0x40, 64, [(127, 0, .rw)], fun _ => 0x0⟩,  -- SQ_XREG
  ⟨0x031009, 0x40, 64, [(127, 0, .rw)], fun _ => 0x0⟩,  -- SQ_XREG
  ⟨0x03100A, 0x40, 64, [(127, 0, .rw)], fun _ => 0x0⟩,  -- SQ_XREG
  ⟨0x03100B, 0x40, 64, [(127, 0, .rw)], fun _ => 0x0⟩,  -- SQ_XREG
  ⟨0x03100C, 0x40, 64, [(127, 0, .rw)], fun _ => 0x0⟩,  -- SQ_XREG
  ⟨0x03100D, 0x40, 64, [(127, 0, .rw)], fun _ => 0x0⟩,  -- SQ_XREG
  ⟨0x03100E, 0x40, 64, [(127, 0, .rw)], fun _ => 0x0⟩,  -- SQ_XREG
  ⟨0x03100F, 0x40, 64, [(127, 0, .rw)], fun _ => 0x0⟩,  -- SQ_XREG
  ⟨0x031010, 0x40, 64, [(127, 0, .rw)], fun _ => 0x0⟩,  -- SQ_XREG
  ⟨0x031011, 0x40, 64, [(127, 0, .rw)], fun _ => 0x0⟩,  -- SQ_XREG
  ⟨0x031012, 0x40, 64, [(127, 0, .rw)], fun _ => 0x0⟩,  -- SQ_XREG
  ⟨0x031013, 0x40, 64, [(127, 0, .rw)], fun _ => 0x0⟩,  -- SQ_XREG
  ⟨0x031014, 0x40, 64, [(127, 0, .rw)], fun _ => 0x0⟩,  -- SQ_XREG
  ⟨0x031015, 0x40, 64, [(127, 0, .rw)], fun _ => 0x0⟩,  -- SQ_XREG
  ⟨0x031016, 0x40, 64, [(127, 0, .rw)], fun _ => 0x0⟩,  -- SQ_XREG
  ⟨0x031017, 0x40, 64, [(127, 0, .rw)], fun _ => 0x0⟩,  -- SQ_XREG
  ⟨0x031018, 0x40, 64, [(127, 0, .rw)], fun _ => 0x0⟩,  -- SQ_XREG
  ⟨0x031019, 0x40, 64, [(127, 0, .rw)], fun _ => 0x0⟩,  -- SQ_XREG
  ⟨0x03101A, 0x40, 64, [(127, 0, .rw)], fun _ => 0x0⟩,  -- SQ_XREG
  ⟨0x03101B, 0x40, 64, [(127, 0, .rw)], fun _ => 0x0⟩,  -- SQ_XREG
  ⟨0x03101C, 0x40, 64, [(127, 0, .rw)], fun _ => 0x0⟩,  -- SQ_XREG
  ⟨0x03101D, 0x40, 64, [(127, 0, .rw)], fun _ => 0x0⟩,  -- SQ_XREG
  ⟨0x03101E, 0x40, 64, [(127, 0, .rw)], fun _ => 0x0⟩,  -- SQ_XREG
  ⟨0x03101F, 0x40, 64, [(127, 0, .rw)], fun _ => 0x0⟩,  -- SQ_XREG
  ⟨0x031020, 0x40, 64, [(98, 64, .cl), (51, 32, .cl), (0, 0, .cl)], fun _ => 0x0⟩,  -- SQ_CTRL
  ⟨0x031021, 0x40, 64, [(25, 16, .wo), (3, 0, .wo)], fun _ => 0x0⟩,  -- SQ_CMD
  ⟨0x031022, 0x40, 64, [(127, 108, .ro), (107, 103, .ro), (95, 88, .ro), (87, 80, .ro), (71, 64, .ro), (47, 32, .ro), (8, 8, .w1c), (7, 7, .ro), (6, 6, .ro), (5, 5, .ro), (4, 4, .ro), (2, 0, .ro)], fun _ => 0x0⟩,  -- SQ_STAT
  ⟨0x031023, 0x40, 64, [(127, 127, .ro), (126, 126, .ro), (115, 96, .ro), (95, 88, .ro), (79, 64, .ro), (63, 0, .ro)], fun _ => 0x0⟩,  -- SQ_TOKEN
  ⟨0x031024, 0x40, 64, [(127, 80, .ro), (79, 32, .ro), (31, 16, .ro), (15, 0, .ro)], fun _ => 0x7FFFFFFFFFFF80000000000000000000⟩,  -- SQ_ACC
  ⟨0x031025, 0x40, 64, [(127, 64, .hr), (63, 32, .hr), (31, 0, .hr)], fun _ => 0x0⟩  -- SQ_CNT
]

/-- The CS registers. -/
def regRowsCS : List RegRow := [
  ⟨0x010000, 0x1, 131072, [(127, 0, .ro)], fun _ => 0x0⟩  -- CS
]

/-- The LX registers. -/
def regRowsLX : List RegRow := [
  ⟨0x030000, 0x1, 256, [(17, 17, .ro), (16, 16, .ro), (15, 0, .ro)], fun _ => 0x0⟩,  -- LX_ENT
  ⟨0x030100, 0x1, 1, [(9, 8, .wo), (3, 0, .wo)], fun _ => 0x0⟩,  -- LX_CMD
  ⟨0x030101, 0x1, 1, [(98, 64, .rw), (20, 0, .rw)], fun _ => 0x0⟩,  -- LX_SRC
  ⟨0x030102, 0x1, 1, [(127, 96, .ro), (63, 56, .ro), (55, 52, .ro), (8, 8, .ro), (1, 1, .w1c), (0, 0, .ro)], fun _ => 0x0⟩,  -- LX_STAT
  ⟨0x030103, 0x1, 1, [(127, 96, .ro), (95, 64, .ro), (63, 48, .ro), (47, 32, .ro), (1, 0, .ro)], fun _ => 0x0⟩,  -- LX_VEND
  ⟨0x030104, 0x1, 2, [(127, 96, .ro), (95, 64, .ro), (63, 48, .ro), (47, 32, .ro), (22, 16, .ro), (9, 8, .ro), (2, 2, .ro), (1, 0, .ro)], fun b => (if b = 0 then 1 else 0) * 2 ^ 2⟩,  -- LX_BANK
  ⟨0x030106, 0x1, 1, [(3, 2, .rw), (0, 0, .rw)], fun _ => 0x0⟩,  -- LX_CFG
  ⟨0x030107, 0x1, 1, [(127, 96, .hr), (95, 64, .hr), (63, 32, .hr), (31, 0, .hr)], fun _ => 0x0⟩,  -- LX_CNT
  ⟨0x030108, 0x1, 3, [(127, 0, .rw)], fun _ => 0x0⟩,  -- LX_KEYH
  ⟨0x03010B, 0x1, 3, [(127, 0, .ro)], fun _ => 0x0⟩,  -- LX_KHV
  ⟨0x030110, 0x1, 4, [(2, 2, .ro), (1, 0, .ro)], fun _ => 0x0⟩  -- LX_KEY
]

/-- The CL registers. -/
def regRowsCL : List RegRow := [
  ⟨0x006000, 0x1, 1, [(127, 112, .ro), (111, 96, .ro), (48, 32, .ro), (20, 16, .ro), (3, 3, .w1c), (2, 2, .w1c), (1, 1, .ro), (0, 0, .ro)], fun _ => 0x1000000000000⟩,  -- CL_STAT
  ⟨0x006001, 0x1, 1, [(0, 0, .rw)], fun _ => 0x1⟩,  -- CL_CFG
  ⟨0x006002, 0x1, 1, [(127, 96, .hr), (95, 64, .hr), (63, 32, .hr), (31, 0, .hr)], fun _ => 0x0⟩,  -- CL_CNT
  ⟨0x006100, 0x10, 16, [(3, 0, .wo)], fun _ => 0x0⟩,  -- CL_CMD
  ⟨0x006101, 0x10, 16, [(127, 64, .rw), (47, 32, .rw), (0, 0, .rw)], fun _ => 0x0⟩,  -- CL_SET
  ⟨0x006102, 0x10, 16, [(127, 0, .wo)], fun _ => 0x0⟩,  -- CL_VAL
  ⟨0x006103, 0x10, 16, [(127, 0, .wo)], fun _ => 0x0⟩,  -- CL_MASK
  ⟨0x006104, 0x10, 16, [(23, 0, .wo)], fun _ => 0x0⟩,  -- CL_ADDR
  ⟨0x006105, 0x10, 16, [(127, 96, .ro), (95, 64, .ro), (63, 51, .ro), (50, 38, .ro), (31, 24, .ro), (23, 23, .ro), (22, 17, .ro), (2, 0, .ro)], fun _ => 0x0⟩  -- CL_SLOT_STAT
]

/-- The TM registers. -/
def regRowsTM : List RegRow := [
  ⟨0x060000, 0x10, 1056, [(95, 72, .cl), (71, 48, .cl), (47, 32, .cl), (2, 2, .cl), (1, 0, .cl)], fun _ => 0x100000000⟩,  -- TM_CFG
  ⟨0x060001, 0x10, 1056, [(63, 32, .cl), (31, 0, .cl)], fun _ => 0x0⟩,  -- TM_SRC
  ⟨0x060002, 0x10, 1056, [(19, 4, .wo), (3, 0, .wo)], fun _ => 0x0⟩,  -- TM_CMD
  ⟨0x060003, 0x10, 1056, [(95, 80, .ro), (79, 64, .ro), (7, 7, .ro), (5, 5, .w1c), (4, 4, .w1c), (3, 3, .ro), (2, 0, .ro)], fun _ => 0x0⟩,  -- TM_STAT
  ⟨0x060004, 0x10, 1056, [(127, 96, .ro), (95, 64, .ro), (59, 58, .ro), (57, 57, .ro), (56, 56, .ro), (55, 55, .ro), (54, 54, .ro), (53, 53, .ro), (47, 0, .ro)], fun _ => 0x0⟩,  -- TM_RES
  ⟨0x060005, 0x10, 1056, [(127, 96, .ro), (95, 64, .ro), (63, 32, .ro), (15, 0, .ro)], fun _ => 0x4000000000000000⟩,  -- TM_SELF
  ⟨0x060006, 0x10, 1056, [(127, 96, .hr), (95, 64, .hr), (63, 32, .hr), (31, 0, .hr)], fun _ => 0x0⟩  -- TM_CNT
]

/-- The WF registers. -/
def regRowsWF : List RegRow := [
  ⟨0x0A1000, 0x10, 32, [(5, 5, .cl), (4, 4, .cl), (1, 0, .cl)], fun _ => 0x0⟩,  -- WF_CTRL
  ⟨0x0A1001, 0x10, 32, [(111, 64, .cl), (47, 0, .cl)], fun _ => 0x0⟩,  -- WF_FREQ
  ⟨0x0A1002, 0x10, 32, [(116, 112, .cl), (111, 96, .cl), (46, 32, .cl), (15, 0, .cl)], fun _ => 0x3000⟩,  -- WF_AMP
  ⟨0x0A1003, 0x10, 32, [(47, 40, .ro), (39, 32, .ro), (31, 31, .ro), (30, 30, .ro), (29, 29, .ro), (28, 28, .ro), (27, 27, .ro), (26, 24, .ro), (23, 23, .ro), (22, 17, .ro), (16, 15, .ro), (2, 2, .w1c), (1, 1, .w1c), (0, 0, .w1c)], fun _ => 0x0⟩,  -- WF_STAT
  ⟨0x0A1004, 0x10, 32, [(98, 64, .rw), (63, 32, .rw)], fun _ => 0x0⟩,  -- WF_TSRC
  ⟨0x0A1005, 0x10, 32, [(3, 0, .wo)], fun _ => 0x0⟩,  -- WF_TCMD
  ⟨0x0A1006, 0x10, 32, [(127, 64, .hr), (63, 32, .hr), (31, 0, .hr)], fun _ => 0x0⟩  -- WF_CNT
]

/-- The DPS registers. -/
def regRowsDPS : List RegRow := [
  ⟨0x0A0000, 0x10, 64, [(59, 40, .cl), (32, 32, .cl), (31, 16, .cl), (15, 0, .cl)], fun _ => 0x3E80000⟩,  -- DPS_SET
  ⟨0x0A0001, 0x10, 64, [(31, 16, .cl), (5, 4, .cl), (3, 3, .cl)], fun _ => 0x9C40030⟩,  -- DPS_CFG
  ⟨0x0A0002, 0x10, 64, [(79, 64, .ro), (63, 63, .ro), (62, 57, .ro), (56, 51, .ro), (50, 46, .ro), (31, 31, .ro), (30, 30, .ro), (29, 29, .ro), (28, 28, .ro), (27, 27, .ro), (26, 26, .ro), (25, 25, .ro), (24, 24, .ro), (23, 20, .ro), (2, 2, .w1c), (1, 1, .w1c), (0, 0, .w1c)], fun d => 0x400000000000 + (d) * 2 ^ 51⟩,  -- DPS_STAT
  ⟨0x0A0003, 0x10, 64, [(127, 96, .ro), (95, 80, .ro), (68, 68, .ro), (67, 67, .ro), (66, 66, .ro), (65, 65, .ro), (64, 64, .ro), (47, 0, .ro)], fun _ => 0x0⟩,  -- DPS_RES
  ⟨0x0A0004, 0x10, 64, [(63, 48, .wo), (47, 16, .wo), (3, 0, .wo)], fun _ => 0x0⟩,  -- DPS_CMD
  ⟨0x0A0005, 0x10, 64, [(127, 96, .ro), (95, 64, .ro), (63, 32, .ro), (31, 0, .ro)], fun _ => 0x0⟩,  -- DPS_CHK
  ⟨0x0A0006, 0x10, 64, [(127, 96, .hr), (95, 64, .hr), (63, 32, .hr), (31, 0, .hr)], fun _ => 0x0⟩  -- DPS_CNT
]

/-- The GD registers. -/
def regRowsGD : List RegRow := [
  ⟨0x0A2000, 0x1, 1, [(1, 1, .rw), (0, 0, .rw)], fun _ => 0x3⟩,  -- GD_CTRL
  ⟨0x0A2001, 0x1, 1, [(106, 96, .ro), (94, 88, .ro), (2, 2, .w1c), (1, 1, .ro), (0, 0, .ro)], fun _ => 0x0⟩,  -- GD_STAT
  ⟨0x0A2002, 0x1, 1, [(25, 16, .wo), (3, 0, .wo)], fun _ => 0x0⟩,  -- GD_CMD
  ⟨0x0A2003, 0x1, 1, [(127, 108, .rw), (107, 88, .rw), (87, 72, .rw), (71, 56, .rw), (55, 44, .rw), (43, 32, .rw), (31, 16, .rw), (15, 12, .rw), (11, 11, .rw)], fun _ => 0xC35009C400000000009604100102800 + (fieldOf 16 (-1200)) * 2 ^ 72 + (fieldOf 16 (-200)) * 2 ^ 56⟩,  -- GD_CONTACT
  ⟨0x0A2004, 0x1, 1, [(127, 96, .ro), (95, 64, .ro), (63, 48, .ro), (47, 32, .ro), (2, 2, .w1c), (1, 1, .w1c), (0, 0, .ro)], fun _ => 0x0⟩,  -- GD_CSTAT
  ⟨0x0A2010, 0x1, 8, [(127, 0, .ro)], fun _ => 0x0⟩,  -- GD_TRIPMAP
  ⟨0x0A2018, 0x1, 1, [(127, 0, .ro)], fun _ => 0x0⟩,  -- GD_DPSMAP
  ⟨0x0A2100, 0x4, 64, [(31, 16, .cl), (15, 0, .cl)], fun _ => 0x7FFF8000⟩,  -- GD_DWIN
  ⟨0x0A2101, 0x4, 64, [(15, 15, .cl), (14, 14, .cl), (13, 13, .cl), (12, 12, .cl), (11, 10, .cl), (9, 9, .cl), (7, 6, .cl), (1, 1, .cl), (0, 0, .cl)], fun _ => 0x3⟩,  -- GD_DCFG
  ⟨0x0A2102, 0x4, 64, [(127, 120, .ro), (119, 112, .ro), (111, 104, .ro), (103, 96, .ro), (7, 6, .ro), (4, 4, .ro), (0, 0, .w1c)], fun _ => 0x3000000000000000000000000⟩,  -- GD_DSTAT
  ⟨0x0A2103, 0x4, 64, [(127, 48, .ro), (47, 40, .ro)], fun _ => 0x0⟩  -- GD_DTRIP
]

/-- The CAL registers. -/
def regRowsCAL : List RegRow := [
  ⟨0x0C0000, 0x1, 1, [(127, 112, .rw), (63, 40, .rw), (39, 32, .rw), (31, 24, .rw), (23, 16, .rw), (15, 4, .rw), (1, 1, .rw), (0, 0, .rw)], fun _ => 0x10000000000000000F424010010812C3⟩,  -- CAL_CTRL
  ⟨0x0C0001, 0x1, 1, [(106, 96, .ro), (74, 64, .ro), (63, 56, .ro), (55, 52, .ro), (3, 3, .w1c), (2, 2, .w1c), (1, 1, .w1c), (0, 0, .ro)], fun _ => 0x0⟩,  -- CAL_STAT
  ⟨0x0C0002, 0x1, 1, [(11, 8, .wo), (4, 4, .wo), (3, 0, .wo)], fun _ => 0x0⟩,  -- CAL_CMD
  ⟨0x0C0003, 0x1, 1, [(127, 96, .rw), (73, 64, .rw), (31, 0, .rw)], fun _ => 0x4C4B400000000A0000000000000000⟩,  -- CAL_REF
  ⟨0x0C0010, 0x1, 4, [(127, 112, .ro), (111, 96, .ro), (95, 64, .ro), (7, 5, .ro), (4, 4, .ro), (3, 3, .ro), (2, 0, .ro)], fun _ => 0x0⟩,  -- CAL_Q
  ⟨0x0C0014, 0x1, 4, [(127, 96, .hr), (95, 64, .hr), (63, 32, .hr), (31, 0, .hr)], fun _ => 0x0⟩,  -- CAL_QCNT
  ⟨0x0C0100, 0x1, 64, [(127, 0, .rw)], fun _ => (2 ^ 128 - 1)⟩,  -- CAL_GRP
  ⟨0x0C1000, 0x1, 1024, [(107, 96, .ro), (95, 84, .ro), (83, 76, .ro), (75, 68, .ro), (63, 56, .ro), (55, 52, .ro), (51, 48, .ro), (39, 39, .ro), (38, 38, .ro), (37, 36, .ro), (35, 35, .ro), (34, 34, .ro)], fun _ => 0xFF00000000000000⟩  -- CAL_CHS
]

/-- The LG registers. -/
def regRowsLG : List RegRow := [
  ⟨0x003800, 0x1, 1, [(4, 4, .ro), (3, 3, .ro), (2, 2, .ro), (1, 1, .ro), (0, 0, .w1c)], fun _ => 0x0⟩,  -- LG_STAT
  ⟨0x003801, 0x1, 1, [(96, 96, .rw), (95, 64, .rw), (20, 0, .rw)], fun _ => 0xC00000000000000080000⟩,  -- LG_CFG
  ⟨0x003802, 0x1, 1, [(127, 64, .ro), (63, 0, .ro)], fun _ => 0x0⟩,  -- LG_SEQ
  ⟨0x003803, 0x1, 1, [(63, 0, .rw)], fun _ => 0x0⟩,  -- LG_HEAD
  ⟨0x003804, 0x1, 1, [(98, 64, .rw), (39, 16, .rw), (0, 0, .rw)], fun _ => 0x0⟩,  -- LG_OVF
  ⟨0x003805, 0x1, 1, [(3, 0, .wo)], fun _ => 0x0⟩,  -- LG_CMD
  ⟨0x003806, 0x1, 1, [(127, 64, .wo), (47, 32, .wo), (1, 1, .wo), (0, 0, .wo)], fun _ => 0x0⟩,  -- LG_SNAP
  ⟨0x003807, 0x1, 1, [(127, 64, .ro), (63, 48, .ro), (47, 32, .ro), (31, 16, .ro), (15, 12, .ro), (2, 2, .ro), (1, 1, .w1c), (0, 0, .w1c)], fun _ => 0x0⟩,  -- LG_SNAPSTAT
  ⟨0x003808, 0x1, 1, [(0, 0, .rw)], fun _ => 0x0⟩,  -- LG_SNAPCFG
  ⟨0x003809, 0x1, 1, [(127, 80, .hr), (79, 32, .hr), (31, 0, .hr)], fun _ => 0x0⟩,  -- LG_CNT
  ⟨0x100000, 0x1, 1048576, [(127, 0, .ro)], fun _ => 0x0⟩  -- LG_WIN
]

/-- The DL registers. -/
def regRowsDL : List RegRow := [
  ⟨0x0B0000, 0x100, 32, [(39, 32, .cl), (27, 24, .cl), (23, 20, .cl), (19, 19, .cl), (18, 18, .cl), (17, 17, .cl), (10, 8, .cl), (1, 0, .cl)], fun _ => 0x1002E0000⟩,  -- DL_CTRL
  ⟨0x0B0001, 0x100, 32, [(23, 16, .cl), (15, 15, .cl), (14, 12, .cl), (10, 8, .cl), (3, 0, .cl)], fun _ => 0x400008⟩,  -- DL_TX
  ⟨0x0B0002, 0x100, 32, [(31, 16, .cl), (15, 14, .cl), (13, 13, .cl), (12, 12, .cl), (10, 8, .cl), (2, 0, .cl)], fun _ => 0x6002⟩,  -- DL_RX
  ⟨0x0B0003, 0x100, 32, [(71, 64, .cl), (59, 56, .cl), (55, 16, .cl), (3, 0, .cl)], fun _ => 0x100200000000000008⟩,  -- DL_EQSET
  ⟨0x0B0004, 0x100, 32, [(95, 64, .cl), (63, 32, .cl), (31, 0, .cl)], fun _ => 0x186A000004E2000002710⟩,  -- DL_TRN
  ⟨0x0B0005, 0x100, 32, [(15, 8, .cl), (6, 4, .cl), (0, 0, .cl)], fun _ => 0x1400⟩,  -- DL_CLK
  ⟨0x0B0006, 0x100, 32, [(127, 0, .cl)], fun _ => 0x0⟩,  -- DL_UPAT
  ⟨0x0B0007, 0x100, 32, [(127, 96, .ro), (71, 67, .ro), (66, 64, .ro), (63, 61, .ro), (55, 53, .ro), (52, 50, .ro), (31, 31, .ro), (30, 30, .ro), (29, 29, .ro), (28, 28, .ro), (27, 27, .ro), (6, 6, .w1c), (5, 5, .w1c), (4, 4, .w1c), (3, 3, .w1c), (2, 2, .w1c), (1, 1, .w1c), (0, 0, .w1c)], fun _ => 0x70000000000000000⟩,  -- DL_STAT
  ⟨0x0B0008, 0x100, 32, [(127, 127, .ro), (99, 96, .ro), (95, 56, .ro), (43, 40, .ro), (39, 0, .ro)], fun _ => 0x0⟩,  -- DL_EQ
  ⟨0x0B0009, 0x100, 32, [(127, 64, .hr), (63, 24, .hr), (23, 12, .hr), (11, 0, .hr)], fun _ => 0x0⟩  -- DL_CNT
]

/-- The MP registers. -/
def regRowsMP : List RegRow := [
  ⟨0x004800, 0x1, 1, [(39, 16, .rw), (15, 8, .rw), (0, 0, .rw)], fun _ => 0xF01⟩,  -- MP_CTRL
  ⟨0x004801, 0x1, 1, [(127, 96, .ro), (63, 56, .ro), (3, 3, .w1c), (2, 2, .w1c), (1, 1, .ro), (0, 0, .ro)], fun _ => 0xFF00000000000000⟩,  -- MP_STAT
  ⟨0x004802, 0x1, 1, [(127, 96, .wo), (92, 80, .wo), (79, 72, .wo), (7, 7, .wo), (6, 4, .wo), (3, 0, .wo)], fun _ => 0x0⟩,  -- MP_XFER
  ⟨0x004803, 0x1, 1, [(127, 96, .hr), (95, 64, .hr), (63, 32, .hr), (31, 0, .hr)], fun _ => 0x0⟩,  -- MP_CNT
  ⟨0x004804, 0x1, 1, [(127, 64, .ro), (63, 32, .ro), (31, 16, .ro), (15, 0, .ro)], fun _ => 0x0⟩,  -- MP_TILE
  ⟨0x004808, 0x1, 8, [(31, 24, .rw), (23, 16, .rw), (15, 8, .rw), (7, 0, .rw)], fun _ => 0x2040408⟩,  -- MP_SEL
  ⟨0x004810, 0x1, 8, [(39, 32, .rw), (31, 30, .rw), (29, 24, .rw), (23, 22, .rw), (21, 16, .rw), (15, 8, .rw), (7, 6, .rw)], fun _ => 0x308180000⟩,  -- MP_FRM
  ⟨0x004818, 0x1, 8, [(127, 64, .ro), (63, 48, .ro), (47, 40, .ro), (39, 32, .ro), (31, 16, .ro), (1, 1, .ro), (0, 0, .ro)], fun _ => 0x0⟩,  -- MP_MOD
  ⟨0x004900, 0x1, 256, [(127, 0, .rw)], fun _ => 0x0⟩,  -- MP_BUF
  ⟨0x004A00, 0x1, 64, [(127, 127, .ro), (121, 121, .ro), (120, 120, .ro), (119, 104, .ro), (103, 88, .ro), (63, 32, .ro), (31, 16, .ro)], fun _ => 0x0⟩,  -- MP_LIMDPS
  ⟨0x004C00, 0x1, 1024, [(127, 112, .ro), (111, 92, .ro), (91, 72, .ro), (63, 32, .ro), (31, 16, .ro), (15, 0, .ro)], fun _ => 0xFFFF0000000000000000000000000000⟩  -- MP_LIMCH
]

/-- The CP registers. -/
def regRowsCP : List RegRow := [
  ⟨0x004000, 0x1, 1, [(12, 8, .rw), (1, 0, .rw)], fun _ => 0x800⟩,  -- CP_CFG
  ⟨0x004001, 0x1, 1, [(15, 8, .ro), (7, 7, .w1c), (6, 6, .w1c), (5, 5, .w1c), (4, 4, .w1c), (3, 3, .w1c)], fun _ => 0x0⟩,  -- CP_STAT
  ⟨0x004002, 0x1, 1, [(21, 16, .rw), (6, 6, .ro), (5, 0, .w1c)], fun _ => 0x0⟩,  -- CP_ALERT
  ⟨0x004003, 0x1, 1, [(127, 80, .hr), (79, 56, .hr), (55, 32, .hr), (31, 0, .hr)], fun _ => 0x0⟩  -- CP_CNT
]

/-- The HL registers. -/
def regRowsHL : List RegRow := [
  ⟨0x005000, 0x1, 1, [(9, 9, .ro), (8, 8, .w1c), (7, 7, .w1c), (6, 6, .w1c), (5, 5, .w1c), (4, 4, .w1c), (3, 3, .w1c), (2, 2, .w1c), (1, 1, .w1c)], fun _ => 0x0⟩,  -- HL_STAT
  ⟨0x005001, 0x1, 1, [(23, 16, .ro), (12, 12, .ro), (11, 11, .ro), (10, 7, .ro), (2, 0, .ro)], fun _ => 0x0⟩,  -- HL_LINK
  ⟨0x005002, 0x1, 1, [(127, 96, .hr), (95, 64, .hr), (63, 32, .hr), (31, 0, .hr)], fun _ => 0x0⟩,  -- HL_CNT
  ⟨0x005003, 0x1, 1, [(63, 32, .ro), (25, 24, .ro), (23, 0, .ro)], fun _ => 0x0⟩,  -- HL_LAST
  ⟨0x005004, 0x1, 1, [(31, 0, .w1c)], fun _ => 0x0⟩,  -- HL_INT
  ⟨0x005008, 0x1, 2, [(127, 0, .rw)], fun k => (leNat ((List.range 16).map (fun i => BitVec.ofNat 8 (16 * k + i))))⟩,  -- HL_MSIX_MAP
  ⟨0x005010, 0x1, 4, [(103, 64, .rw), (4, 4, .rw), (1, 0, .rw)], fun _ => 0x0⟩  -- HL_BULK
]

/-- The HK registers. -/
def regRowsHK : List RegRow := [
  ⟨0x002000, 0x1, 1, [(127, 112, .rw), (111, 96, .rw), (95, 80, .rw), (79, 64, .rw), (15, 12, .rw), (2, 2, .rw), (1, 1, .rw)], fun _ => 0x290401F40064000A0000000000004006⟩,  -- HK_CTRL
  ⟨0x002001, 0x1, 1, [(127, 112, .ro), (111, 104, .ro), (103, 96, .ro), (63, 32, .ro), (7, 7, .ro), (6, 6, .ro), (5, 5, .ro), (4, 4, .ro), (2, 2, .w1c), (1, 1, .w1c), (0, 0, .w1c)], fun _ => 0x0⟩,  -- HK_STAT
  ⟨0x002002, 0x1, 1, [(12, 8, .wo), (3, 0, .wo)], fun _ => 0x0⟩,  -- HK_CMD
  ⟨0x002003, 0x1, 1, [(55, 0, .rw)], fun _ => (0x32326464646464)⟩,  -- HK_RATE
  ⟨0x002004, 0x1, 1, [(127, 96, .hr), (95, 64, .hr), (63, 32, .hr), (31, 0, .hr)], fun _ => 0x0⟩,  -- HK_CNT
  ⟨0x002008, 0x1, 4, [(127, 0, .rw)], fun _ => (2 ^ 128 - 1)⟩,  -- HK_ORDER
  ⟨0x002010, 0x1, 8, [(47, 40, .ro), (39, 32, .ro), (16, 16, .ro), (15, 0, .ro)], fun _ => 0x0⟩,  -- HK_COOL
  ⟨0x002020, 0x1, 28, [(127, 112, .ro), (111, 96, .ro), (95, 64, .ro), (63, 48, .ro), (34, 32, .ro), (20, 18, .ro), (17, 16, .ro), (15, 0, .ro)], fun i => (tsGroup i) * 2 ^ 32⟩,  -- HK_TS
  ⟨0x002040, 0x1, 36, [(63, 48, .ro), (31, 16, .ro), (1, 1, .ro), (0, 0, .w1c)], fun m => (fieldOf 16 (monNominal m)) * 2 ^ 48⟩  -- HK_MON
]

/-- The LOG registers. -/
def regRowsLOG : List RegRow := [
  ⟨0x003000, 0x1, 1, [(127, 64, .ro), (63, 32, .ro), (0, 0, .w1c)], fun _ => 0x0⟩,  -- LOG_STAT
  ⟨0x003001, 0x1, 1, [(8, 8, .rw), (7, 4, .rw), (1, 0, .rw)], fun _ => 0x0⟩,  -- LOG_CTRL
  ⟨0x003002, 0x1, 1, [(3, 0, .wo)], fun _ => 0x0⟩,  -- LOG_CMD
  ⟨0x003100, 0x1, 256, [(127, 0, .ro)], fun _ => 0x0⟩,  -- NVM_WIN
  ⟨0x003400, 0x1, 1024, [(127, 0, .ro)], fun _ => 0x0⟩  -- LOG_WIN
]

/-- The DEV registers. -/
def regRowsDEV : List RegRow := [
  ⟨0x000000, 0x1, 1, [(127, 64, .ro), (63, 48, .ro), (47, 40, .ro), (39, 38, .ro), (37, 37, .ro)], fun _ => 0x1024A10000000000 + (Config.serial.toNat) * 2 ^ 64 + (b2n Config.gradeS16) * 2 ^ 38 + (b2n Config.lidless) * 2 ^ 37⟩,  -- DEV_ID
  ⟨0x000001, 0x1, 1, [(127, 64, .rw), (12, 12, .ro), (11, 8, .ro), (4, 4, .rw), (3, 0, .rw)], fun _ => 0x0⟩,  -- DEV_MODE
  ⟨0x000002, 0x1, 1, [(127, 96, .ro), (95, 92, .ro), (91, 88, .ro), (7, 6, .ro), (1, 1, .w1c), (0, 0, .ro)], fun _ => 0x0⟩,  -- DEV_STAT
  ⟨0x000003, 0x1, 1, [(3, 0, .wo)], fun _ => 0x0⟩,  -- DEV_CMD
  ⟨0x000004, 0x1, 1, [(25, 16, .wo), (12, 8, .wo), (3, 0, .wo)], fun _ => 0x0⟩,  -- DEV_SVC
  ⟨0x000005, 0x1, 1, [(127, 96, .ro), (41, 32, .ro), (28, 24, .ro), (23, 20, .ro), (19, 16, .ro), (1, 1, .w1c), (0, 0, .ro)], fun _ => 0x0⟩,  -- DEV_SVCSTAT
  ⟨0x000006, 0x1, 1, [(127, 96, .ro), (95, 85, .ro), (84, 74, .ro), (73, 72, .ro), (71, 70, .ro), (69, 62, .ro), (1, 1, .w1c), (0, 0, .w1c)], fun _ => 0x0⟩  -- DEV_STST
]

/-- R511: the rows of the block that a word address lies in. -/
def regRowsAt (a : Nat) : List RegRow :=
  if a < 0x001000 then regRowsDEV else if a < 0x002000 then regRowsTB else if a < 0x003000 then regRowsHK
  else if a < 0x003800 then regRowsLOG else if a < 0x003900 then regRowsLG else if a < 0x004000 then []
  else if a < 0x004800 then regRowsCP else if a < 0x005000 then regRowsMP else if a < 0x006000 then regRowsHL
  else if a < 0x008000 then regRowsCL else if a < 0x010000 then regRowsSI else if a < 0x030000 then regRowsCS
  else if a < 0x031000 then regRowsLX else if a < 0x040000 then regRowsSQ else if a < 0x048000 then regRowsSO
  else if a < 0x050000 then regRowsPM else if a < 0x060000 then regRowsEE else if a < 0x070000 then regRowsTM
  else if a < 0x080000 then [] else if a < 0x090000 then regRowsCH else if a < 0x0A0000 then []
  else if a < 0x0A1000 then regRowsDPS else if a < 0x0A2000 then regRowsWF else if a < 0x0A3000 then regRowsGD
  else if a < 0x0B0000 then [] else if a < 0x0C0000 then regRowsDL else if a < 0x100000 then regRowsCAL
  else if a < 0x200000 then regRowsLG else []

/-- The number of the word at `a` within a row, if the row covers it. -/
def RegRow.index (r : RegRow) (a : Nat) : Option Nat :=
  if r.base ≤ a ∧ (a - r.base) % r.stride = 0 ∧ (a - r.base) / r.stride < r.count then some ((a - r.base) / r.stride) else none

/-- The first row of a list that covers `a`, with the word's number in it. -/
def findRow : List RegRow → Nat → Option (RegRow × Nat)
  | [], _ => none
  | r :: rs, a => match r.index a with
    | some i => some (r, i)
    | none => findRow rs a

/-- R512: a word that no table lists is a hole. -/
def isHole (a : Nat) : Bool := (findRow (regRowsAt a) a).isNone

/-- R10, R513: the reset word of a register; a hole reads zero. (DESIGN CHOICE, assumption 6; DESIGN CHOICE, assumption 11.) -/
def resetWord (a : Nat) : Word := match findRow (regRowsAt a) a with
  | some (r, i) => BitVec.ofNat 128 (r.rst i)
  | none => 0

/-- The bits [hi:lo] of a word. -/
def fieldMask (hi lo : Nat) : Word := BitVec.ofNat 128 ((2 ^ (hi + 1 - lo) - 1) * 2 ^ lo)

/-- The bits of a list of fields that belong to an access class. -/
def classMask (c : Acc) : List (Nat × Nat × Acc) → Word
  | [] => 0
  | (hi, lo, a) :: fs => if a = c then fieldMask hi lo ||| classMask c fs else classMask c fs

/-- The bits of the word at `a` that belong to an access class. -/
def accMask (c : Acc) (a : Nat) : Word := match findRow (regRowsAt a) a with
  | some (r, _) => classMask c r.fields
  | none => 0

end Sys2Proof.Machine
end

