-- ==== Sys2Proof/Syntax.lean ====
section
/-! DEFINITION. The commands the block takes, one constructor per row of spec/opcode_table.json, and the shapes of their
operands. A row that is an event of the outside world carries what that world presents (a captured bit, a reading). -/

namespace Sys2Proof

/-- The two ports a direct register write can come through: the control port and BAR0 of the host link (R439, R459). -/
inductive Port where
  | cp | bar0
deriving DecidableEq, Repr

/-- One byte of a bulk write with its byte enable (R464): `none` is a byte not enabled. -/
abbrev ByteLane := Option Byte

/-- What a comparator pair shows at a strobe (R96, R98): the pair at strobe-open, and over the window CMP_HI always 1, CMP_LO never
1, and CMP_LO 1 with CMP_HI 0 throughout; and what a pair under sweep shows beside each (R369). -/
structure Strobe where
  hi : Bool
  lo : Bool
  hiAlways : Bool
  loNever : Bool
  mid : Bool
  sweepHi : Bool
  sweepLo : Bool
deriving DecidableEq, Repr

/-- What a TDC's self-calibration finds (R258): the sums, in ticks, of the 16 raw values over one period and over two. -/
structure TdcCal where
  sum1 : Int
  sum2 : Int
deriving DecidableEq, Repr

/-- What the two steps of a DPS sense check measure on one channel of a gang, in µV (R325). -/
structure SenseStep where
  vf1 : Int
  vs1 : Int
  vf2 : Int
  vs2 : Int
deriving DecidableEq, Repr

/-- What the contact checks measure on one pin (R346, R349, R350): which comparators matched their ties (bits 0 to 5 as R333, 6 CMP_HI,
7 CMP_LO), the diode voltage and the neighbour-test voltages in µV, the reflection VALUE in ticks, and the comparators still unresolved
after the last step. -/
structure ContactObs where
  chan : Fin 1024
  good : BitVec 8
  diode : Int
  neighbour : List Int
  refl : Option Int
  unres : BitVec 8
deriving DecidableEq, Repr

/-- What reference calibration finds on one channel (R360 to R362): step 1 the ADC's gain (2^-20), offset (µV) and noise (LSB RMS); step 2 the
rank of each DAC's excluded set, whether DNL and INL then hold, and the base trims; step 3 the offset of each input pair in µV and
its PO (HA, HB, LA, LB); step 4 the driver legs chosen and their impedance in mΩ; step 5 the loop, receive and shadow times in ticks and the
standard deviation of the loop shots; step 6 the mean reflection VALUE. -/
structure RefObs where
  chan : Fin 1024
  adcGain : Int
  adcOfs : Int
  noise : Nat
  excl : List Nat
  linear : Bool
  trims : List Int
  pairOfs : List Int
  po : List Int
  legs : BitVec 16
  zOut : Nat
  loop : Int
  recv : Int
  shadow : Int
  loopSd : Nat
  refl : Int
deriving DecidableEq, Repr

/-- What a reference run finds (R356, R357, R360): the first reading of CALV in µV, the period of the CALT edges in beats when there are
any, the device offset, the drive and receive terms of the spare engines, the DPS terms (gain, offset, limit trim), the WF trims (offset, gain), and the
channels. -/
structure RefRun where
  calv : Int
  calt : Option Nat
  devOfs : Int
  spares : List (Fin 32 × Int × Int)
  dps : List (Fin 64 × Int × Int × Int)
  wf : List (Fin 32 × Int × Int)
  chans : List RefObs
deriving DecidableEq, Repr

/-- What the transfer phase of a live cycle finds (R368) of one unit: `kind` 0 a channel, 1 a supply, 2 a source; gain and offset, and
for a channel the trims of VIH, VIL, VTT, CLH, CLL and PMUF. -/
structure TransferObs where
  kind : Nat
  unit : Nat
  gain : Int
  ofs : Int
  trims : List Int
deriving DecidableEq, Repr
/-- The coefficients that one update of a lane's adaptation gives (R406): CTLE and TAP1 to TAP5. -/
structure AdaptObs where
  ctle : BitVec 4
  taps : List Int
deriving DecidableEq, Repr
/-- How the write of one non-volatile record ends (R17): for the Q0 and the Q2 copy, nothing when its read-back matched, else the bytes that
the copy was left with. -/
structure NvmEnd where
  q0 : Option (List Byte)
  q2 : Option (List Byte)
deriving DecidableEq, Repr
/-- What the steps of a self-test find (R497): the channels' comparators that matched (as `ContactObs.good`), the self-calibrations of the TDCs, and whether
the march tests of the frame buffer and of the ledger SRAM passed. -/
structure SelfTestObs where
  chans : List (Fin 1024 × BitVec 8)
  tdcs : List (Fin 1056 × TdcCal)
  fb : Bool
  ledger : Bool
deriving DecidableEq, Repr
/-- A configuration write that has an effect of its own (R457, R466): the power state (true for D3hot, false for D0), and MSI-X Enable with the
function mask. -/
inductive CfgWrite where
  | power (d3 : Bool)
  | msix (enable mask : Bool)
deriving DecidableEq, Repr

/-- The commands: one constructor per row of spec/opcode_table.json, in its order. -/
inductive Instr where
  /-- PLL_LOCK (R28). The edge-engine PLL locks to REFCLK and TB_STAT.PLL_LOCK reads 1. -/
  | pllLock
  /-- REFCLK_LOST (R30). REFCLK is absent for 40 ns or the PLL loses lock; outputs go to high impedance, DPS ramp down, the device enters SAFE and CNT_VALID clears. -/
  | refclkLost
  /-- TB_LOAD (R29). A TB_LOAD write in the ROOT or ISOLATED role in SAFE sets the beat counter in the next beat and sets CNT_VALID. -/
  | tbLoad (port : Port) (beat : BitVec 64)
  /-- TB_CTRL_WRITE (R35). A TB_CTRL write sets role, device number and link enables; a change of ROLE is accepted only in RESET, SAFE or DISCOVER, and a ROLE or SYNC_EN change unframes the receiver. -/
  | tbCtrlWrite (port : Port) (w : Word)
  /-- EPOCH_FRAME (R44). A good EPOCH frame sets the beat counter in the LEAF role or is checked against it. -/
  | epochFrame (f : BitVec 64) (off : Fin 64)
  /-- IDLE_FRAME (R44). A good IDLE frame is counted and checked against the beat counter. -/
  | idleFrame (f : BitVec 64) (off : Fin 64)
  /-- COMMIT_FRAME (R246). A COMMIT frame captured intact while LOCKED gives the decision for the clause with its tag. -/
  | commitFrame (f : BitVec 64) (off : Fin 64)
  /-- ABORT_FRAME (R246). An ABORT frame captured intact while LOCKED aborts the prepared clause with its tag. -/
  | abortFrame (f : BitVec 64) (off : Fin 64)
  /-- SNAPSHOT_FRAME (R395). A SNAPSHOT frame captured intact in time schedules a snapshot at its beat. -/
  | snapshotFrame (f : BitVec 64) (off : Fin 64) (record : Bool)
  /-- HOLD_FRAME (R38). A HOLD frame moves every RUNNING site to HELD at its first frame boundary at or after the stated beat. -/
  | holdFrame (f : BitVec 64) (off : Fin 64)
  /-- RELEASE_FRAME (R38). A RELEASE frame returns sites held by HOLD to RUNNING at their first frame boundary at or after its beat. -/
  | releaseFrame (f : BitVec 64) (off : Fin 64)
  /-- RESERVED_FRAME (R37). A good frame of a reserved kind is counted and takes no action. -/
  | reservedFrame (f : BitVec 64) (off : Fin 64)
  /-- BAD_SYNC_FRAME (R41). A frame slot with a bad START or bad CRC is counted and moves the framing state machine. -/
  | badSyncFrame (f : BitVec 64) (off : Fin 64)
  /-- REFCLK_INVERTED (R43). The measured SYNC_IN arrival phase shows an inverted REFCLK; the device inverts its REFCLK input and re-locks. -/
  | refclkInverted (phase : Fin 2048)
  /-- SYNC_FRAME_LAUNCH (R46). In the ROOT role the device launches EPOCH, IDLE or a queued command frame in each 64-beat slot. -/
  | syncFrameLaunch (veto : Bool)
  /-- STATUS_FRAME_LAUNCH (R37). In the LEAF role the device launches an upstream STATUS frame carrying VETO, ALERT, TRIP and LOCKED. -/
  | statusFrameLaunch (trip : Bool)
  /-- TB_ROOT_CMD_HOLD (R53). A TB_ROOT_CMD write of KIND HOLD queues a HOLD frame in the ROOT role. -/
  | tbRootCmdHold (port : Port) (beat : BitVec 24)
  /-- TB_ROOT_CMD_RELEASE (R53). A TB_ROOT_CMD write of KIND RELEASE queues a RELEASE frame in the ROOT role. -/
  | tbRootCmdRelease (port : Port) (beat : BitVec 24)
  /-- FOLLOW_EDGE (R47). An edge of the follow pin's high comparator is counted and stamped by the site's follow counter. -/
  | followEdge (n : Fin 64) (rising : Bool) (tick : BitVec 16)
  /-- FOLLOW_STALL (R48). No edge is counted for STALL beats and a FOLLOW_STALL EVENT record is written. -/
  | followStall (n : Fin 64)
  /-- SI_CMD_LOAD (R73). OP LOAD starts a whole load of the staged syntax image. -/
  | siCmdLoad (port : Port)
  /-- SI_CMD_RESHAPE (R74). OP RESHAPE starts applying a partial image to one site, which enters RESHAPING. -/
  | siCmdReshape (port : Port) (n : Fin 64)
  /-- SI_CMD_CHECK (R79). OP CHECK starts a full validation of the staged image with no effect on the structure. -/
  | siCmdCheck (port : Port)
  /-- SI_CMD_CLEAR (R79). OP CLEAR zeroes the SI_IMG staging window at class 7 of the command beat. -/
  | siCmdClear (port : Port)
  /-- LOAD_COMPLETE (R73). A whole load completes; on SI_OK the new structure replaces the old in one beat. -/
  | loadComplete
  /-- RESHAPE_COMPLETE (R76). A reshape completes; the site takes its new resources or returns to its previous state. -/
  | reshapeComplete
  /-- CHECK_COMPLETE (R79). An image check completes and sets DONE, LAST_OP, RESULT and IMAGE_ID. -/
  | checkComplete
  /-- VECTOR_START (R33). Vector n of a frame starts at T0 plus n periods and its pin-state codes are applied. -/
  | vectorStart (x : Fin 80)
  /-- STROBE (R96). A strobe of a vector evaluates its compare code against the comparator pair. -/
  | strobe (c : Fin 1024) (obs : Strobe) (tick : BitVec 16)
  /-- COMPARATOR_RESOLVED (R99). An unresolved comparator sees its input beyond threshold and resolves. -/
  | comparatorResolved (dps : Bool) (u : Fin 1024) (cmp : Fin 8) (above : Bool)
  /-- CLAMP_HIT (R101). A clamp conducts more than half its limit for 1 µs and CLAMP_HIT is set. -/
  | clampHit (c : Fin 1024)
  /-- BUS_SWITCH_CLOSE (R104). The analog-bus switch closes 20 beats after BUS_CONN became 1. -/
  | busSwitchClose (c : Fin 1024)
  /-- BUS_SWITCH_DZ_END (R104). Twenty beats after the bus switch opened, drive codes stop acting as DZ. -/
  | busSwitchDzEnd (c : Fin 1024)
  /-- EE_TWR_WRITE (R118). A direct write to the tense write port stores one item into both tense banks. -/
  | eeTwrWrite (port : Port) (t : Fin 1056) (w : Word)
  /-- SWITCH_OVER (R125). A spare edge engine takes over a channel, copying tenses and EE_CFG and setting its deskew. -/
  | switchOver
  /-- PM_READY (R132). Both pattern stacks finish training and PM_STAT.READY becomes 1. -/
  | pmReady
  /-- PM_RGN_WRITE (R136). A PM_RGN_i write declares, changes or releases a region, or is refused. -/
  | pmRgnWrite (port : Port) (k : Fin 256) (w : Word)
  /-- BULK_WRITE (R464). A bulk-port write request is taken from the link, lease-checked and written into pattern memory. -/
  | bulkWrite (ch : Fin 4) (offset : BitVec 20) (data : List ByteLane)
  /-- BULK_READ (R464). A bulk-port read request returns pattern memory or ledger data. -/
  | bulkRead (ch : Fin 4) (offset : BitVec 20) (len : Nat)
  /-- DESCRIPTOR_READ (R143). The scan-out engine reads and checks a descriptor, up to eight ahead of play. -/
  | descriptorRead (x : Fin 80)
  /-- FRAME_FETCH_COMPLETE (R155). A frame fetch into a free half of the frame buffer completes. -/
  | frameFetchComplete (x : Fin 80)
  /-- FRAME_BOUNDARY (R171). A stream reaches a frame boundary and performs its ordered boundary actions before starting the next frame. -/
  | frameBoundary (x : Fin 80)
  /-- STREAM_START (R158). Frame 0 of a primed stream starts at its start time or after its frame completes. -/
  | streamStart (x : Fin 80)
  /-- STACK_POWER_DOWN (R165). A stack with no non-refresh request for PD_IDLE beats enters power-down. -/
  | stackPowerDown (k : Fin 2)
  /-- SO_FC_CFG_WRITE (R174). A write to SO_FC_CFG_s configures the fail-capture ring and sets WR and RD to 0. -/
  | soFcCfgWrite (port : Port) (n : Fin 64) (w : Word)
  /-- SO_FC_PTR_WRITE (R174). A write of RD frees ring slots for the device. -/
  | soFcPtrWrite (port : Port) (n : Fin 64) (w : Word)
  /-- CLR_FAIL (R172). SO_SITE_CMD_s.CLR_FAIL returns the site's fail counts to their reset values. -/
  | clrFail (port : Port) (n : Fin 64)
  /-- NOP (R185). Statement NOP does nothing. -/
  | stmtNop (n : Fin 64)
  /-- END (R185). Statement END discards any open clause and waits for the pattern condition. -/
  | stmtEnd (n : Fin 64)
  /-- END_COMPLETE (R23). The pattern condition holds for a site executing END and the site enters LOADED. -/
  | endComplete (n : Fin 64)
  /-- JMP (R185). Statement JMP sets PC to TARGET. -/
  | stmtJmp (n : Fin 64)
  /-- BR (R184). Statement BR branches when Xa and B meet the condition CC. -/
  | stmtBr (n : Fin 64)
  /-- BRS (R185). Statement BRS branches on the status register. -/
  | stmtBrs (n : Fin 64)
  /-- CALL (R185). Statement CALL pushes PC + 1 and jumps to TARGET. -/
  | stmtCall (n : Fin 64)
  /-- RET (R185). Statement RET pops PC from the return stack. -/
  | stmtRet (n : Fin 64)
  /-- LOOP (R185). Statement LOOP decrements Xd and branches while it is not 0. -/
  | stmtLoop (n : Fin 64)
  /-- HOLD (R185). Statement HOLD puts the site into HELD with cause USER. -/
  | stmtHold (n : Fin 64)
  /-- LDI (R185). Statement LDI loads an immediate into Xd or its upper half. -/
  | stmtLdi (n : Fin 64)
  /-- ADD (R184). Statement ADD computes Xa plus B into Xd. -/
  | stmtAdd (n : Fin 64)
  /-- SUB (R184). Statement SUB computes Xa minus B into Xd. -/
  | stmtSub (n : Fin 64)
  /-- AND (R184). Statement AND computes Xa AND B into Xd. -/
  | stmtAnd (n : Fin 64)
  /-- OR (R184). Statement OR computes Xa OR B into Xd. -/
  | stmtOr (n : Fin 64)
  /-- XOR (R184). Statement XOR computes Xa XOR B into Xd. -/
  | stmtXor (n : Fin 64)
  /-- SHL (R184). Statement SHL shifts Xa left by B[6:0] into Xd. -/
  | stmtShl (n : Fin 64)
  /-- SHR (R184). Statement SHR shifts Xa right logically by B[6:0] into Xd. -/
  | stmtShr (n : Fin 64)
  /-- SAR (R184). Statement SAR shifts Xa right arithmetically by B[6:0] into Xd. -/
  | stmtSar (n : Fin 64)
  /-- LDP (R185). Statement LDP loads a program word into Xd. -/
  | stmtLdp (n : Fin 64)
  /-- RDW (R185). Statement RDW reads a register word live into Xd. -/
  | stmtRdw (n : Fin 64)
  /-- NOW (R185). Statement NOW loads the current beat-time into Xd. -/
  | stmtNow (n : Fin 64)
  /-- WAITB (R188). Statement WAITB starts a wait for a target beat. -/
  | stmtWaitb (n : Fin 64)
  /-- WAITB_TARGET (R188). The WAITB target beat arrives and the wait ends. -/
  | waitbTarget (n : Fin 64)
  /-- WAITF (R189). Statement WAITF starts a wait for the follow count to reach a target. -/
  | stmtWaitf (n : Fin 64)
  /-- WAITF_TIMEOUT (R189). The WAITF timeout expires with ST TIMEOUT and Xd 0. -/
  | waitfTimeout (n : Fin 64)
  /-- WAITP (R194). Statement WAITP starts a wait for the site's pattern condition. -/
  | stmtWaitp (n : Fin 64)
  /-- WAITP_COMPLETE (R194). The pattern condition holds; WAITP retires with the fail count and may write a PASSFAIL record. -/
  | waitpComplete (n : Fin 64)
  /-- WAITP_TIMEOUT (R194). The WAITP timeout expires with ST TIMEOUT. -/
  | waitpTimeout (n : Fin 64)
  /-- CLO (R191). Statement CLO opens the site's clause in a free slot. -/
  | stmtClo (n : Fin 64)
  /-- CLO_WAIT_END (R191). A CLO waiting while 16 clauses are open takes a slot that has become free. -/
  | cloWaitEnd (n : Fin 64)
  /-- CLA (R191). Statement CLA stages one action in the open clause. -/
  | stmtCla (n : Fin 64)
  /-- CLT (R191). Statement CLT stages a table of actions from the program. -/
  | stmtClt (n : Fin 64)
  /-- CLC (R192). Statement CLC closes the clause and submits it for prepare. -/
  | stmtClc (n : Fin 64)
  /-- CLC_DECISION (R192). The commit-or-abort decision of a CLC clause is made and CLC retires with its result. -/
  | clcDecision (n : Fin 64)
  /-- CLD (R185). Statement CLD discards the open clause. -/
  | stmtCld (n : Fin 64)
  /-- PLAY (R193). Statement PLAY starts or declines a pattern on the site's stream. -/
  | stmtPlay (n : Fin 64)
  /-- MEAS (R195). Statement MEAS starts a parametric measurement of pins or DPS entries. -/
  | stmtMeas (n : Fin 64)
  /-- TMEAS (R195). Statement TMEAS starts a time measurement on pins. -/
  | stmtTmeas (n : Fin 64)
  /-- LTEST (R418). Statement LTEST starts counting errors on a lane for a duration. -/
  | stmtLtest (n : Fin 64)
  /-- REC (R196). Statement REC writes one record of a permitted kind. -/
  | stmtRec (n : Fin 64)
  /-- BIN (R185). Statement BIN writes a BIN record. -/
  | stmtBin (n : Fin 64)
  /-- ACC (R196). Statement ACC reads the result accumulator into Xd and optionally resets it. -/
  | stmtAcc (n : Fin 64)
  /-- CUSTOMER_OPCODE (R216). A statement with a customer opcode dispatches to the verb in the active customer bank. -/
  | customerOpcode (n : Fin 64)
  /-- SQ_CMD_ARM (R538). Host ARM tests the arm conditions in order and moves a LOADED site to ARMED. -/
  | sqCmdArm (port : Port) (n : Fin 64)
  /-- SQ_CMD_DISARM (R199). Host DISARM returns an ARMED site to LOADED. -/
  | sqCmdDisarm (port : Port) (n : Fin 64)
  /-- SQ_CMD_HOLD (R199). Host HOLD sets hold cause HOST on a RUNNING or HELD site. -/
  | sqCmdHold (port : Port) (n : Fin 64)
  /-- SQ_CMD_RESUME (R201). Host RESUME clears hold causes and a site with none left returns to RUNNING, acting on its token. -/
  | sqCmdResume (port : Port) (n : Fin 64) (mask : BitVec 10)
  /-- SQ_CMD_STOP (R203). Host STOP discards the site's clause and stops statement issue and the stream. -/
  | sqCmdStop (port : Port) (n : Fin 64)
  /-- STOP_COMPLETE (R203). Both sequencer and stream have stopped and the site enters LOADED. -/
  | stopComplete (n : Fin 64)
  /-- COMMA_STARVE (R221). A verb runs 65,536 cycles without a comma check and is stopped with hold cause STARVE. -/
  | commaStarve (n : Fin 64)
  /-- MICROWORD (R208). A verb executes one microword: ALU, destination, command issue and next-address selection. -/
  | microword (n : Fin 64)
  /-- EXT_CLOPEN (R213). Command CLOPEN opens a clause for the dispatching site. -/
  | extClopen (n : Fin 64)
  /-- EXT_CLACT (R213). Command CLACT stages one clause action. -/
  | extClact (n : Fin 64)
  /-- EXT_CLTAB (R213). Command CLTAB stages a table of clause actions. -/
  | extCltab (n : Fin 64)
  /-- EXT_CLCOMMIT (R213). Command CLCOMMIT closes and commits the open clause. -/
  | extClcommit (n : Fin 64)
  /-- EXT_CLDISCARD (R213). Command CLDISCARD discards the open clause. -/
  | extCldiscard (n : Fin 64)
  /-- EXT_RDREG (R213). Command RDREG reads a register word into RESULT. -/
  | extRdreg (n : Fin 64)
  /-- EXT_RDPROG (R213). Command RDPROG reads a program word into RESULT. -/
  | extRdprog (n : Fin 64)
  /-- EXT_REC (R213). Command REC writes a record. -/
  | extRec (n : Fin 64)
  /-- EXT_PLAY (R213). Command PLAY starts or declines a pattern. -/
  | extPlay (n : Fin 64)
  /-- EXT_MEAS (R213). Command MEAS starts a parametric measurement. -/
  | extMeas (n : Fin 64)
  /-- EXT_TMEAS (R213). Command TMEAS starts a time measurement. -/
  | extTmeas (n : Fin 64)
  /-- EXT_LTEST (R213). Command LTEST starts a lane error count. -/
  | extLtest (n : Fin 64)
  /-- EXT_ACC (R213). Command ACC reads the accumulator into RESULT. -/
  | extAcc (n : Fin 64)
  /-- EXT_HOLD (R213). Command HOLD holds the site as the HOLD statement does. -/
  | extHold (n : Fin 64)
  /-- EXT_END (R213). Command END ends the site's program as the END statement does. -/
  | extEnd (n : Fin 64)
  /-- EXT_ARMB (R213). Command ARMB arms a wait for a target beat. -/
  | extArmb (n : Fin 64)
  /-- EXT_ARMF (R213). Command ARMF arms a wait for a follow count with a timeout. -/
  | extArmf (n : Fin 64)
  /-- EXT_ARMP (R213). Command ARMP arms a wait for the pattern condition. -/
  | extArmp (n : Fin 64)
  /-- EXT_PUSHPC (R213). Command PUSHPC pushes an index on the return stack. -/
  | extPushpc (n : Fin 64)
  /-- EXT_POPPC (R213). Command POPPC pops an index from the return stack. -/
  | extPoppc (n : Fin 64)
  /-- EXT_FAULT (R213). Command FAULT makes the site take a fault with the given reason. -/
  | extFault (n : Fin 64)
  /-- LOAD_VENDOR (R225). LX_CMD LOAD_VENDOR starts loading and checking a vendor control-store image. -/
  | loadVendor (port : Port)
  /-- VENDOR_LOAD_DONE (R225). A vendor load completes and, on CS_OK, the image is copied into the vendor area. -/
  | vendorLoadDone
  /-- LOAD_CUSTOMER (R225). LX_CMD LOAD_CUSTOMER starts loading a customer image into the inactive bank. -/
  | loadCustomer (port : Port)
  /-- CUSTOMER_LOAD_DONE (R225). A customer load completes and the inactive bank becomes VALID or INVALID. -/
  | customerLoadDone
  /-- SWAP (R227). LX_CMD SWAP makes the inactive VALID bank active. -/
  | swap (port : Port)
  /-- KEY_WRITE (R228). LX_CMD KEY_WRITE starts storing a key hash into an EMPTY slot. -/
  | keyWrite (port : Port) (w : Word)
  /-- KEY_REVOKE (R228). LX_CMD KEY_REVOKE starts revoking an ACTIVE key slot. -/
  | keyRevoke (port : Port) (w : Word)
  /-- KEY_COMMAND_DONE (R229). A key command's non-volatile write completes and the slot states are derived again. -/
  | keyCommandDone (w : NvmEnd)
  /-- CL_CMD_OPEN (R235). Host OPEN opens a FREE clause slot. -/
  | clCmdOpen (port : Port) (slot : Fin 16)
  /-- CL_CMD_COMMIT (R237). Host COMMIT closes the clause and runs the close, lead and sync checks. -/
  | clCmdCommit (port : Port) (slot : Fin 16)
  /-- CL_CMD_DISCARD (R235). Host DISCARD discards an OPEN clause. -/
  | clCmdDiscard (port : Port) (slot : Fin 16)
  /-- CL_CMD_FREE (R235). Host FREE returns a DONE slot to FREE. -/
  | clCmdFree (port : Port) (slot : Fin 16)
  /-- CL_SET_WRITE (R244). A CL_SET_s write sets full stop, tag and MULTI, rejecting MULTI with tag 0. -/
  | clSetWrite (port : Port) (slot : Fin 16) (w : Word)
  /-- CL_ADDR_WRITE (R236). A CL_ADDR_s write stages an action and runs the staging checks. -/
  | clAddrWrite (port : Port) (slot : Fin 16) (w : Word)
  /-- PREPARE_COMPLETE (R238). Prepare of a clause completes with its checks and the clause enters PREPARED or DONE. -/
  | prepareComplete (slot : Fin 16)
  /-- FULL_STOP (R240). Every prepared clause with this full stop commits its actions. -/
  | fullStop
  /-- DECISION_DEADLINE (R246). Beat F − 64 passes with no intact decision and the prepared multi-device clause aborts. -/
  | decisionDeadline (slot : Fin 16)
  /-- TM_CMD_ARM (R271). Host ARM starts a measurement on one TDC. -/
  | tmCmdArm (port : Port) (t : Fin 1056) (w : Word)
  /-- TM_CMD_CANCEL (R271). Host CANCEL ends a TDC measurement with no result. -/
  | tmCmdCancel (port : Port) (t : Fin 1056)
  /-- TM_SELFCAL (R258). After settling, the TDC self-calibrates and then arms. -/
  | tmSelfcal (t : Fin 1056) (cal : TdcCal)
  /-- TDC_CAPTURE (R256). A qualifying event is captured on a TDC START or STOP input. -/
  | tdcCapture (t : Fin 1056) (input : Fin 2) (tick : BitVec 16)
  /-- TM_TIMEOUT (R266). The measurement timeout expires before N shots complete. -/
  | tmTimeout (t : Fin 1056)
  /-- GATE_END (R263). A FREQUENCY gate closes after GATE beats and the next opens. -/
  | gateEnd (t : Fin 1056)
  /-- DEGLITCH_STEP (R279). Two beats after an upper-segment trigger, the DAC output steps to its new value. -/
  | deglitchStep (c : Fin 1024) (k : Fin 8)
  /-- PASSAGE_SPAN_SWITCH (R281). Twenty ns into a safe-value passage, the DAC switches span and loads the new span's 0 V code. -/
  | passageSpanSwitch (c : Fin 1024) (k : Fin 8)
  /-- PASSAGE_CODE_LOAD (R281). At 1,020 ns into a passage, OUT becomes the new CODE + TRIM. -/
  | passageCodeLoad (c : Fin 1024) (k : Fin 8)
  /-- PASSAGE_END (R281). A safe-value passage ends and any deferred trigger acts. -/
  | passageEnd (c : Fin 1024) (k : Fin 8)
  /-- PMU_CONNECT (R289). The PMU connects 20 ns after a change to a forcing mode. -/
  | pmuConnect (c : Fin 1024)
  /-- PMU_PASSAGE_END (R290). A PMU passage ends and the PMU connects in its new mode, range and value. -/
  | pmuPassageEnd (c : Fin 1024)
  /-- PMU_COMPLIANCE (R288). The PMU reaches a limit; COMPLY, CLIMIT and the counter record it. -/
  | pmuCompliance (c : Fin 1024) (code : BitVec 2)
  /-- PMU_SETTLE_END (R294). The settling time of a pin measurement ends and sample 0 begins. -/
  | pmuSettleEnd (dps : Bool) (u : Fin 1024)
  /-- PMU_SAMPLE_END (R294). An ADC sample ends; after the last, the result is set and the record follows. -/
  | pmuSampleEnd (dps : Bool) (u : Fin 1024) (adc : Int)
  /-- CH_PMUCMD_MEASURE (R298). Host MEASURE starts a measurement of one pin. -/
  | chPmucmdMeasure (port : Port) (c : Fin 1024) (w : Word)
  /-- CH_PMUCMD_CANCEL (R298). Host CANCEL ends a pin measurement with no result. -/
  | chPmucmdCancel (port : Port) (c : Fin 1024)
  /-- WF_SAMPLE (R305). A waveform source outputs a sample and advances its phase accumulator. -/
  | wfSample (k : Fin 32)
  /-- WF_CONNECT (R310). A source leaving OFF connects to its bus 20 ns after the trigger. -/
  | wfConnect (k : Fin 32)
  /-- WF_PASSAGE_END (R310). A waveform-source span passage ends and the source resumes its waveform. -/
  | wfPassageEnd (k : Fin 32)
  /-- WF_TCMD_LOAD (R312). WF_TCMD LOAD starts loading a source table from pattern memory. -/
  | wfTcmdLoad (port : Port) (k : Fin 32)
  /-- WF_TABLE_LOAD_DONE (R312). A table load completes and the table becomes VALID or INVALID. -/
  | wfTableLoadDone (k : Fin 32)
  /-- DPS_DELAY_END (R320). A DPS delay expires and its ramp toward the goal begins. -/
  | dpsDelayEnd (d : Fin 64)
  /-- DPS_RAMP_STEP (R320). Each microsecond the DPS target moves by SLEW toward its goal. -/
  | dpsRampStep (d : Fin 64)
  /-- DPS_SWITCH_OPEN (R321). After a ramp to 0 V the disconnect switch opens once the sense voltage is 50 mV or less. -/
  | dpsSwitchOpen (d : Fin 64) (senseMv : Int)
  /-- DPS_OPEN_HIGH (R321). The switch opens 100 µs after the target reached 0 V with the sense above 50 mV. -/
  | dpsOpenHigh (d : Fin 64)
  /-- DPS_COMPLIANCE (R323). A DPS reaches its current limit; COMPLY, CLIMIT and the counter record it. -/
  | dpsCompliance (d : Fin 64) (code : BitVec 2)
  /-- DPS_CMD_MEASURE (R329). Host MEASURE starts a measurement of one DPS. -/
  | dpsCmdMeasure (port : Port) (d : Fin 64) (w : Word)
  /-- DPS_CMD_CANCEL (R329). Host CANCEL ends a DPS measurement with no result. -/
  | dpsCmdCancel (port : Port) (d : Fin 64)
  /-- DPS_CMD_CHECK (R325). Host CHECK starts a DPS sense check. -/
  | dpsCmdCheck (port : Port) (d : Fin 64)
  /-- SENSE_CHECK_DONE (R325). A sense check completes and classifies the path, holding it off on OPEN or REVERSED. -/
  | senseCheckDone (d : Fin 64) (obs : List SenseStep)
  /-- NEGV_TRIP (R327). The force ball stays below −0.3 V for 10 µs while connected and the DPS trips. -/
  | negvTrip (d : Fin 64)
  /-- SENSE_TRIP (R327). Force and sense differ by more than 0.5 V for 100 µs and the DPS trips. -/
  | senseTrip (d : Fin 64)
  /-- GUARD_TRIP (R338). An enabled resolved guard comparator catches an excursion and the trip latches, taking outputs to high impedance. -/
  | guardTrip (dps : Bool) (u : Fin 1024) (cmp : Fin 6) (tick : BitVec 16)
  /-- BLANK_END (R337). A voltage excursion that lasts past the blank is caught at the end of the mask. -/
  | blankEnd (dps : Bool) (u : Fin 1024) (cmp : Fin 6)
  /-- FILTER_SAMPLE (R340). The majority filter samples every comparator of a channel and updates filtered states. -/
  | filterSample (dps : Bool) (u : Fin 1024) (raw : BitVec 8)
  /-- CLEAR_CH (R343). GD_CMD CLEAR_CH clears the trips of one channel's compound. -/
  | clearCh (port : Port) (c : Fin 1024)
  /-- CLEAR_DPS (R343). GD_CMD CLEAR_DPS clears the trips of one DPS gang. -/
  | clearDps (port : Port) (d : Fin 64)
  /-- CLEAR_SITE (R343). GD_CMD CLEAR_SITE clears the trips of every channel and DPS of a site. -/
  | clearSite (port : Port) (n : Fin 64)
  /-- CLEAR_ALL (R343). GD_CMD CLEAR_ALL clears every clearable cause in the device. -/
  | clearAll (port : Port)
  /-- SELFCHECK (R346). GD_CMD SELFCHECK starts a comparator self-check on one channel. -/
  | selfcheck (port : Port) (c : Fin 1024)
  /-- SELFCHECK_DONE (R346). A self-check ends, resolving the comparators and latching or clearing cause SELF. -/
  | selfcheckDone (c : Fin 1024) (good : BitVec 8)
  /-- CONTACT_RUN (R349). GD_CMD CONTACT_RUN starts the contact checks in CONTACT. -/
  | contactRun (port : Port)
  /-- CONTACT_CHECK_DONE (R349). The contact checks finish, results and PASSFAIL records are written and DONE is set. -/
  | contactCheckDone (obs : List ContactObs)
  /-- REFCAL_RUN (R359). CAL_CMD REFCAL_RUN starts reference calibration of the named quadrants. -/
  | refcalRun (port : Port) (w : Word)
  /-- REFCAL_COMPLETE (R363). Reference calibration completes and the new terms of passing channels take effect. -/
  | refcalComplete (obs : RefRun)
  /-- CAL_ABORT (R359). CAL_CMD ABORT ends a reference run with every term unchanged. -/
  | calAbort (port : Port)
  /-- QCAL (R366). CAL_CMD QCAL triggers a live cycle of the named quadrants. -/
  | qcal (port : Port) (w : Word)
  /-- SAVE (R378). CAL_CMD SAVE starts writing calibration records to non-volatile memory. -/
  | save (port : Port) (w : Word)
  /-- SAVE_DONE (R378). A calibration record write completes or ends with NVM_FAIL. -/
  | saveDone (w : NvmEnd)
  /-- RESTORE (R378). CAL_CMD RESTORE starts reading calibration records. -/
  | restore (port : Port) (w : Word)
  /-- RESTORE_DONE (R378). A restore completes and the record's terms take effect or it fails. -/
  | restoreDone (obs : List (Fin 1024 × List Int))
  /-- LIVE_CYCLE_START (R366). A live calibration cycle of a quadrant starts the beat after its trigger. -/
  | liveCycleStart (q : Fin 4)
  /-- TRANSFER_PHASE_END (R368). The transfer phase ends with new ADC, TRIM, WF and DPS targets; level and timing phases begin. -/
  | transferPhaseEnd (q : Fin 4) (obs : List TransferObs)
  /-- SHADOW_CAPTURE (R371). The shadow capture stamps a data edge of a grouped channel for common-edge statistics. -/
  | shadowCapture (c : Fin 1024) (q : Int) (refs : List (Fin 1024 × Int))
  /-- CALIBRATION_SLOT (R373). In a calibration slot applied terms step toward their targets. -/
  | calibrationSlot (c : Fin 1024)
  /-- LIVE_CYCLE_END (R367). A live cycle ends when its phases end or WIN expires; T_LAST updates. -/
  | liveCycleEnd (q : Fin 4)
  /-- RECORD_WRITE (R387). A record fixed two beats earlier is written to the ledger and TAIL advances. -/
  | recordWrite
  /-- MIGRATION_START (R390). TAIL − MIG reaches MIG_WM and a burst of up to 256 records starts to the ring. -/
  | migrationStart
  /-- MIGRATION_BURST_DONE (R390). A migration burst is complete in memory and MIG advances. -/
  | migrationBurstDone
  /-- LG_HEAD_WRITE (R391). A write of LG_HEAD frees records below the new HEAD. -/
  | lgHeadWrite (port : Port) (w : Word)
  /-- LG_OVF_WRITE (R389). A write of LG_OVF enables or disables the overflow ring and its lease. -/
  | lgOvfWrite (port : Port) (w : Word)
  /-- LG_CMD_CLEAR (R392). LG_CMD CLEAR sets HEAD and MIG to TAIL. -/
  | lgCmdClear (port : Port)
  /-- LG_CMD_RELEASE (R397). LG_CMD RELEASE unlocks the snapshot shadows. -/
  | lgCmdRelease (port : Port)
  /-- LG_SNAP_WRITE (R394). A LG_SNAP write schedules a local or multi-device snapshot. -/
  | lgSnapWrite (port : Port) (w : Word)
  /-- SNAPSHOT (R393). At the snapshot beat every HR field latches into its shadow. -/
  | snapshot
  /-- TRAINING_BLOCK (R409). A lane receiver takes a whole training block and advances its training phase. -/
  | trainingBlock (l : Fin 32) (blk : Word)
  /-- BLOCK_SENT (R411). The lane finishes sending a training block, counting down the switch. -/
  | blockSent (l : Fin 32)
  /-- GAP_END (R411). The 100-beat gap after the switch ends and the next rate begins. -/
  | gapEnd (l : Fin 32)
  /-- EQ_TIME_EXPIRY (R411). EQ_TIME passes in phase EQ and the device sets EQ_DONE. -/
  | eqTimeExpiry (l : Fin 32)
  /-- TRAIN_WIN_EXPIRY (R413). TRAIN_WIN expires and the attempt fails SILENT or STEPFAIL. -/
  | trainWinExpiry (l : Fin 32)
  /-- ACK_WIN_EXPIRY (R413). ACK_WIN expires in phase STEP and the attempt fails. -/
  | ackWinExpiry (l : Fin 32)
  /-- LANE_LOST (R413). LOS holds 101 beats during training and the attempt fails LOST. -/
  | laneLost (l : Fin 32)
  /-- RETRY_GAP_END (R413). After 100 beats of constant 0 the lane restarts training at rate 0 with the next attempt. -/
  | retryGapEnd (l : Fin 32)
  /-- LOS_CHANGE (R404). The loss-of-signal detector asserts or deasserts. -/
  | losChange (l : Fin 32) (on : Bool)
  /-- LOL_CHANGE (R404). The loss-of-lock detector asserts or deasserts. -/
  | lolChange (l : Fin 32) (on : Bool)
  /-- LANE_DOWN (R415). LOS or LOL holds 101 beats in UP and the lane retrains, parks or relocks. -/
  | laneDown (l : Fin 32)
  /-- DIRECT_LOCK (R415). In DIRECT mode LOL stays clear for 100 beats and the lane enters UP. -/
  | directLock (l : Fin 32)
  /-- ADAPT_UPDATE (R406). Every 1,024 UI adaptation updates the equaliser coefficients. -/
  | adaptUpdate (l : Fin 32) (obs : AdaptObs)
  /-- ADAPT_FREEZE (R407). 4,096 consecutive idle UI freeze adaptation and keep a snapshot. -/
  | adaptFreeze (l : Fin 32)
  /-- LTEST_COUNT_END (R418). The lane error count window ends and the LANE_ERRORS record follows. -/
  | ltestCountEnd (l : Fin 32) (bits errs : Nat)
  /-- MP_XFER_XFER (R428). MP_XFER OP XFER runs one module-port frame. -/
  | mpXferXfer (port : Port) (w : Word)
  /-- MP_XFER_DISCOVER (R434). MP_XFER OP DISCOVER starts discovery in DISCOVER. -/
  | mpXferDiscover (port : Port)
  /-- MP_XFER_ABORT (R438). MP_XFER OP ABORT ends a transfer or discovery. -/
  | mpXferAbort (port : Port)
  /-- MP_FRAME_DONE (R437). A module-port frame completes when its select rises. -/
  | mpFrameDone (data : List Byte)
  /-- DISCOVERY_DONE (R434). Discovery ends and the limits table is built and RESULT set. -/
  | discoveryDone
  /-- CP_NOP (R442). A control-port NOP frame collects the previous frame's status. -/
  | cpNop
  /-- CP_WRITE (R445). A control-port WRITE frame writes words with auto-increment. -/
  | cpWrite (addr : BitVec 24) (words : List Word) (partialWord : Bool)
  /-- CP_READ (R444). A control-port READ frame reads words with auto-increment. -/
  | cpRead (addr : BitVec 24) (count : Nat) (partialWord : Bool)
  /-- CP_WRITE_CRC (R447). A WRITE_CRC frame writes 1–16 words all or none under a CRC. -/
  | cpWriteCrc (addr : BitVec 24) (words : List Word) (crc : BitVec 16)
  /-- FRAME_ERR (R449). A control-port frame with an unknown command or broken structure sets FRAME_ERR. -/
  | frameErr
  /-- RESET_N (R453). A low pulse of 1 µs or longer on RESET_N resets the device. -/
  | resetN
  /-- BAR0_READ (R460). A BAR0 read captures register words through the read latch. -/
  | bar0Read (offset : BitVec 28) (len : Nat)
  /-- BAR0_WRITE (R461). A BAR0 write assembles dwords in the write latch and writes a complete word. -/
  | bar0Write (offset : BitVec 28) (dwords : List (Option (BitVec 32)))
  /-- HL_BULK_WRITE (R462). A write of HL_BULK_n sets a bulk channel's mode, target and pointer. -/
  | hlBulkWrite (port : Port) (ch : Fin 4) (w : Word)
  /-- LINK_UP (R458). The PCI Express link trains up at the negotiated rate and width. -/
  | linkUp (speed : BitVec 3) (width : BitVec 4) (reversed : Bool) (polinv : BitVec 8)
  /-- LINK_RECOVERY (R458). The link enters recovery and RETRAINS increments. -/
  | linkRecovery
  /-- LINK_DOWN (R457). The data link goes down; HL state resets, channels close, HL_DOWN is logged. -/
  | linkDown
  /-- HOT_RESET (R457). A hot reset returns configuration space and the HL block to reset values. -/
  | hotReset
  /-- FUNCTION_LEVEL_RESET (R457). A Function Level Reset returns configuration space and the HL block to reset values. -/
  | functionLevelReset
  /-- MSIX_MESSAGE (R466). A pending enabled unmasked interrupt source sends its MSI-X message. -/
  | msixMessage
  /-- HOUSEKEEPING_ROUND (R470). A housekeeping round begins and samples every sensor and monitor. -/
  | housekeepingRound (temps : List (Option Int)) (mons : List Int)
  /-- ROUND_EVALUATION (R470). At the evaluation beat readings are checked and throttle, pause, resume or shutdown actions taken. -/
  | roundEvaluation
  /-- STACK_SELF_REFRESH (R481). After the last DPS opens or 10 ms, the stacks enter self-refresh. -/
  | stackSelfRefresh
  /-- SHUTDOWN_RECORD_DONE (R482). The shutdown record write to non-volatile memory completes. -/
  | shutdownRecordDone (w : NvmEnd)
  /-- HK_CMD_RETIRE (R479). HK_CMD RETIRE takes a failed sensor out of service. -/
  | hkCmdRetire (port : Port) (k : BitVec 5)
  /-- HK_CMD_RESTORE (R479). HK_CMD RESTORE returns a failed or retired sensor to service. -/
  | hkCmdRestore (port : Port) (k : BitVec 5)
  /-- LOG_CMD_CLEAR (R487). LOG_CMD CLEAR empties the trouble log. -/
  | logCmdClear (port : Port)
  /-- LOG_ENTRY_WRITE (R483). A waiting trouble-log entry is written into its slot, or dropped when 2,048 wait. -/
  | logEntryWrite
  /-- MODE_REQ_SAFE (R492). A host request for SAFE is evaluated. -/
  | modeReqSafe (port : Port) (at_ : Option (BitVec 64))
  /-- MODE_REQ_DISCOVER (R494). A host request for DISCOVER is evaluated and clears the structure at entry. -/
  | modeReqDiscover (port : Port) (at_ : Option (BitVec 64))
  /-- MODE_REQ_SHAPE (R492). A host request for SHAPE is evaluated. -/
  | modeReqShape (port : Port) (at_ : Option (BitVec 64))
  /-- MODE_REQ_REFCAL (R492). A host request for REFCAL is evaluated. -/
  | modeReqRefcal (port : Port) (at_ : Option (BitVec 64))
  /-- MODE_REQ_STANDBY (R24). A host request for STANDBY is evaluated. -/
  | modeReqStandby (port : Port) (at_ : Option (BitVec 64))
  /-- MODE_REQ_READY (R492). A host request for READY is evaluated. -/
  | modeReqReady (port : Port) (at_ : Option (BitVec 64))
  /-- MODE_REQ_CONTACT (R492). A host request for CONTACT is evaluated and may start the contact checks. -/
  | modeReqContact (port : Port) (at_ : Option (BitVec 64))
  /-- MODE_REQ_RUN (R475). A host request for RUN enters RUN or THROTTLE. -/
  | modeReqRun (port : Port) (at_ : Option (BitVec 64))
  /-- MODE_REQ_SELFTEST (R497). A host request for SELFTEST starts the self-test. -/
  | modeReqSelftest (port : Port) (at_ : Option (BitVec 64))
  /-- MODE_REQ_FORBIDDEN (R491). A host request for RESET, THROTTLE or SHUTDOWN is always rejected. -/
  | modeReqForbidden (port : Port) (req : BitVec 4) (at_ : Option (BitVec 64))
  /-- SCHEDULED_MODE_REQUEST (R491). A scheduled mode request is evaluated at its beat AT. -/
  | scheduledModeRequest
  /-- DEV_CMD_SOFT_RESET (R499). DEV_CMD SOFT_RESET clears the test blocks and enters SAFE. -/
  | devCmdSoftReset (port : Port)
  /-- DEV_CMD_CANCEL_MODE (R491). DEV_CMD CANCEL_MODE withdraws the pending scheduled mode request. -/
  | devCmdCancelMode (port : Port)
  /-- DEV_SVC_SPARE (R502). DEV_SVC SPARE requests that a spare edge engine take over a channel. -/
  | devSvcSpare (port : Port) (c : BitVec 10) (k : BitVec 5)
  /-- DEV_SVC_RETIRE (R505). DEV_SVC RETIRE retires a site, keeping its resources out of use. -/
  | devSvcRetire (port : Port) (n : BitVec 10)
  /-- DEV_SVC_CANCEL (R501). DEV_SVC CANCEL withdraws a pending substitution before its switch-over. -/
  | devSvcCancel (port : Port)
  /-- SELFTEST_DONE (R497). The self-test steps finish and the device returns to the mode it came from. -/
  | selftestDone (obs : SelfTestObs)
  /-- POWER_ON (R498). The rails first come within range and every block is reset into RESET. -/
  | powerOn
  /-- INIT_DONE (R500). The internal start completes, key and shutdown records are read, and the device enters SAFE. -/
  | initDone
  /-- BROWN_OUT (R520). A rail stays beyond its brown-out threshold for 2 µs; outputs go to high impedance and the device enters RESET. -/
  | brownOut (stackKept : Bool)
  /-- BROWN_OUT_END (R520). Every rail has been back in range for 100 µs with RESET_N high and the device leaves RESET. -/
  | brownOutEnd
  /-- TRST_N (R526). TRST_N low resets the test logic to BYPASS. -/
  | trstN
  /-- JTAG_EXTEST (R526). Instruction EXTEST drives and samples the boundary balls in RESET or SAFE. -/
  | jtagExtest (shift : List Bool) (balls : List Bool)
  /-- JTAG_SAMPLE_PRELOAD (R526). Instruction SAMPLE/PRELOAD samples and preloads the boundary chain. -/
  | jtagSamplePreload (shift : List Bool) (balls : List Bool)
  /-- JTAG_IDCODE (R526). Instruction IDCODE selects the 0xA102_4E93 identification register. -/
  | jtagIdcode
  /-- JTAG_BYPASS (R526). Instruction BYPASS, or any undefined code, selects the bypass register. -/
  | jtagBypass
  /-- REGISTER_WRITE (R535). A direct write to a register with no row of its own is accepted, rejected or dropped as a whole word under its access class. -/
  | registerWrite (port : Port) (addr : BitVec 24) (w : Word)
  /-- RESERVED_OPCODE (R183). A statement whose vendor opcode is reserved, or whose lexicon entry is not VALID, faults with reason BAD_OP and holds the site. -/
  | reservedOpcode (n : Fin 64)
  /-- CHECKER_SYNC (R417). The lane error checker matches n + 32 consecutive bits, or two pattern repetitions, and enters sync, after which only differing bits count as errors. -/
  | checkerSync (l : Fin 32) (bits errs : Nat)
  /-- CHECKER_SYNC_LOSS (R417). 32 or more of 1,024 checked bits differ, the checker leaves sync, increments SYNC_LOSS and resynchronises. -/
  | checkerSyncLoss (l : Fin 32) (bits errs : Nat)
  /-- ADAPT_RESTART (R408). The first UI that breaks an idle run while FROZEN restarts adaptation from the snapshot and opens the comparison window. -/
  | adaptRestart (l : Fin 32)
  /-- VETO_END (R245). At the full stop of a vetoed multi-device clause the device releases VETO_N, clears VETO_OUT, stops setting VETO in STATUS frames and ends the watch on the refused clause. -/
  | vetoEnd (slot : Fin 16)
  /-- CONFIG_WRITE (R457). A PCI Express configuration write, such as a power-state change to D3hot or D0 or an MSI-X function mask change, takes effect in configuration space. -/
  | configWrite (reg : CfgWrite)
  /-- MSIX_TABLE_WRITE (R466). A BAR4 write updates an MSI-X table entry or mask, and unmasking a vector with its pending bit set sends the message. -/
  | msixTableWrite (vec : Fin 32) (field : Fin 4) (v : BitVec 32)
deriving DecidableEq, Repr

end Sys2Proof
end

