-- ==== Sys2Proof/Machine/State.lean ====
section
/-! DEFINITION. The state of the block as plain data. Every register word of the register space lives in `regs` (the live
or active copy), with `shadow` for the shadow copy of CL words (R9) and `held` for the snapshot shadows of HR fields
(R393); what the manual gives the block beside its registers follows block by block. -/

namespace Sys2Proof.Machine

/-- R64: one pin of a site, with its function and attribute. -/
structure Pin where
  chan : Nat
  func : Nat
  attr : Nat
deriving DecidableEq, Repr

/-- R65: a compound, its kind 0 PMU or 1 driver. -/
structure Comp where
  lead : Nat
  size : Nat
  kind : Nat
deriving DecidableEq, Repr

/-- R63 to R67: what the image assigns to a site. -/
structure SiteMap where
  pins : List Pin
  comps : List Comp
  dps : List (Nat × Nat)
  lanes : Nat
deriving DecidableEq, Repr

/-- A structural operation in progress (R72): its OP code, the site of a reshape and the state it held before. -/
structure SiOp where
  op : Nat
  site : Nat
  prev : Nat
deriving DecidableEq, Repr

/-- A ledger record waiting for its write (R387): the beat of the write, the beat its value was fixed in, and the record. -/
structure PendRec where
  due : Nat
  fixed : Nat
  word : Word
deriving DecidableEq, Repr

/-- A scheduled snapshot (R394). -/
structure PendSnap where
  beat : Nat
  tag : Nat
  record : Bool
deriving DecidableEq, Repr

/-- A trouble-log entry waiting for its write (R483), with the class of its event under R49. -/
structure LogWait where
  beat : Nat
  cls : Nat
  word : Word
deriving DecidableEq, Repr

/-- A command frame that the ROOT device has still to launch (R46): KIND and PAYLOAD. -/
structure RootFrame where
  kind : Nat
  payload : Nat
deriving DecidableEq, Repr

/-- R38, R44: a hold with its cause (or a RELEASE) of one site, waiting for its first frame boundary at or after `beat`. -/
structure PendHold where
  site : Nat
  beat : Nat
  cause : Nat
  release : Bool
deriving DecidableEq, Repr

/-- The timebase beside its registers (R29, R41 to R46): runs of good and bad frames, the bit offset of the framing, a counter load
waiting for the next beat, the frames the root has queued, the holds and releases waiting, the last frame launched on SYNC_OUT,
whether REFCLK is present, and the tag and beat[23:0] of the root's snapshots with RECORD. -/
structure TbSt where
  good : Nat
  bad : Nat
  offset : Nat
  load : Option Nat
  queue : List RootFrame
  holds : List PendHold
  syncOut : BitVec 64
  refPresent : Bool
  snapOrigin : List PendSnap
deriving DecidableEq, Repr

/-- What a statement, or a command of a verb, waits for: the long action in progress (R188 to R195). A follow wait keeps the stamp
of a match that came while the site was held, a clause wait its result. `units` counts the units still measuring, the failing records and
whether all have ended. -/
inductive Wait where
  | none
  | beat (target : Nat)
  | follow (xd target timeout : Nat) (hit : Option Nat)
  | pattern (xd timeout : Nat) (rec : Bool)
  | finish
  | clo
  | clc (xd slot : Nat) (fullStop : Nat) (result : Option Nat)
  | units (xd left nfail : Nat) (done : Bool)
deriving DecidableEq, Repr

/-- A command a verb has issued and that is still in execution (R213): the code and its operands A, B and C. -/
structure ExtCmd where
  code : Nat
  a : Word
  b : Word
  c : Word
deriving DecidableEq, Repr

/-- The verb engine of a sequencer (R208 to R221): the statement dispatched, the microword address, the bank it is bound to, V0 to V7,
the loop counter, the flags, the micro return stack, the completion flags, the result, the command latched and whether its execution has
begun, the microwords executed since the last comma check and the beat of that check, the PC the verb leaves, whether its token lets it
resume, whether the next word needs a comma check of its own, whether the statement retires when the command in progress completes, and
the beat a WAIT word last checked its site in. -/
structure Verb where
  running : Bool
  stmt : Word
  upc : Nat
  bank : Nat
  v : List (Nat × Word)
  lc : Nat
  z : Bool
  neg : Bool
  carry : Bool
  ustack : List Nat
  done : Bool
  ok : Bool
  result : Word
  cmd : Option ExtCmd
  busy : Bool
  words : Nat
  checkAt : Nat
  nextPc : Option Nat
  resumable : Bool
  recheck : Bool
  retire : Bool
  waiting : Option Nat
deriving DecidableEq, Repr

/-- A site sequencer beside its registers (R179): the return stack, the wait in progress, whether the site has left RUNNING since it
began, the slot of its open clause and whether that clause outlives the verb that opened it, the verb engine, the vectors failed since the
last PLAY (R194) and whether one of their compares used a threshold under calibration (R376), the region its arm leased, and the BASE and ENTRY taken at its start. -/
structure Seq where
  stack : List Nat
  wait : Wait
  suspended : Bool
  clause : Option Nat
  span : Bool
  verb : Verb
  failBase : Nat
  cmpStale : Bool
  region : Option Nat
  base : Nat
  entry : Nat
deriving DecidableEq, Repr

/-- A strobe window in flight on a channel (R113 to R115): the compare code, the VECTOR, its index in the frame, FRAME_ID, the beat its
vector started in, whether the vector ran under its header tense in place of its own (R122), whether it is a window strobe, and the instants
(in ticks) at which the comparator samples its strobe-open and strobe-close edges. -/
structure Win where
  code : Nat
  vector : Nat
  vif : Nat
  frameId : Nat
  start : Nat
  subst : Bool
  window : Bool
  openAt : Int
  closeAt : Int
deriving DecidableEq, Repr

/-- R93, R95, R113: a transition of the drive lane: the instants (in ticks) at which it is due at the needle and at which the engine launches it, and
the drive level from then on. -/
structure PinEdge where
  needle : Int
  launch : Int
  level : Nat
deriving DecidableEq, Repr

/-- A channel's pin slice beside its registers (R88 to R104): drive memory, the drive level presented at the end of the last
vector (0 high impedance, 1 VIL, 2 VIH, 3 VTT, 4 the off state of R92), the level before that vector and the transitions by which it came about, the
shaped waveform K repeats (0 none, else FORMAT), its data value and its data and return edges, the drive
level at the end of the last vector applied since arming (4 with none), the comparators' raw outputs and unresolved marks, the beats at which the bus
switch closes and drive codes stop acting as DZ, and the strobe windows in flight, oldest first. -/
structure Chan where
  driveMem : Bool
  level : Nat
  before : Nat
  edges : List PinEdge
  shape : Nat
  shapeData : Bool
  shapeAt : Int × Int
  keep : Nat
  rawHi : Bool
  rawLo : Bool
  unresHi : Bool
  unresLo : Bool
  busClose : Option Nat
  busDz : Option Nat
  wins : List Win
deriving DecidableEq, Repr

/-- A pin slice after reset: the driver off, both comparators unresolved (R99). -/
def Chan.init : Chan := ⟨false, 0, 0, [], 0, false, (0, 0), 4, false, false, true, true, none, none, []⟩

/-- R140: a return point of a list: the CALL's address, whether the CALL had END, the list it calls and the passes left. -/
structure RetPt where
  caller : Nat
  fin : Bool
  target : Nat
  left : Nat
deriving DecidableEq, Repr

/-- A descriptor as read (R138), with the first failure of its checks (R143; 0 for none), the nesting depth, and the read position it
was read at. -/
structure Desc where
  addr : Nat
  kind : Nat
  tcol : Bool
  stat : Bool
  fin : Bool
  tense : Nat
  count : Nat
  reps : Nat
  data : Nat
  column : Nat
  frameId : Nat
  err : Nat
  stack : List RetPt
deriving DecidableEq, Repr

/-- A frame in a half of the frame buffer (R155): its descriptor, rows and column as fetched, and the first uncorrectable unit met. -/
structure Half where
  desc : Desc
  rows : List Byte
  col : List Byte
  bad : Option Nat
deriving DecidableEq, Repr

/-- A member's start statement at the barrier of a stream (R162): the site, whether it declined, its list address and start time. -/
structure Gather where
  site : Nat
  declined : Bool
  list : Nat
  start : Option Nat
deriving DecidableEq, Repr

/-- What a stream applies between boundaries: nothing, a frame, a hold frame (R170) or an underrun hold vector (R160). -/
inductive Phase where
  | idle | frame | holdFrame | underrun
deriving DecidableEq, Repr

/-- A stream beside its registers (R151 to R171). Times are in ticks; `vec` counts the vectors begun of the frame or hold vectors in hand, and `lead` is
the length of the hold vector of R123 that is still to be presented before the frame. -/
structure Stream where
  rpos : Nat
  rstack : List RetPt
  rdone : Bool
  queue : List Desc
  inc : Option Half
  cur : Option Half
  left : Nat
  vec : Nat
  lead : Nat
  t0 : Nat
  period : Nat
  endAt : Nat
  phase : Phase
  holds : Nat
  under : Nat
  start : Option Nat
  list : Nat
  members : List Nat
  gather : List Gather
  stop : Option Nat
  vecBase : Nat
  lateSeen : List Nat
  missed : List (Nat × Nat)
  fcFull : List Nat
  substSites : List Nat
  wasPaused : Bool
deriving DecidableEq, Repr

/-- An idle stream. -/
def Stream.init : Stream := ⟨0, [], false, [], none, none, 0, 0, 0, 0, 0, 0, .idle, 0, 0, none, 0, [], [], none, 0, [], [], [], [], false⟩

/-- One action of a clause (R235): word address, value and mask. -/
structure Action where
  addr : Nat
  value : Word
  mask : Word
deriving DecidableEq, Repr

/-- A clause slot beside its registers (R231 to R246): the actions staged, the code of the first refusal at staging, the decision
taken (true to commit), whether a split has been reported, the tense items of the shadow bank as they were before its actions, and the
beat its prepare completed. -/
structure ClSlot where
  acts : List Action
  refused : Option Nat
  dec : Option Bool
  split : Bool
  undo : List (Nat × Nat)
  prep : Nat
deriving DecidableEq, Repr

/-- A FREE slot. -/
def ClSlot.init : ClSlot := ⟨[], none, none, false, [], 0⟩

/-- R245, R246: a multi-device clause that has ended before its full stop and is still watched: its slot, tag and full stop, the decision
taken, whether it was refused at prepare, whether this device vetoes it and the beat it ended in, whether its split has been reported, whether its slot still holds
it in DONE, and the sites it names. -/
structure Watch where
  slot : Nat
  tag : Nat
  fullStop : Nat
  dec : Option Bool
  refused : Bool
  veto : Bool
  since : Nat
  split : Bool
  mine : Bool
  sites : List Nat
deriving DecidableEq, Repr

/-- R247: a decision that the ROOT device has queued: the clause's tag and full stop, and the decision once its first copy is launched. -/
structure RootDec where
  tag : Nat
  fullStop : Nat
  dec : Option Bool
deriving DecidableEq, Repr

/-- A control-store load or a key command in progress (R225, R228): the code of LX_CMD, the key slot and hash as they
were taken, and the state of the area before the load. -/
structure LxOp where
  cmd : Nat
  slot : Nat
  hash : List Word
  prev : Nat
deriving DecidableEq, Repr

/-- R48: a follow counter beside its registers: the beat of its last edge (or of its enable), and whether a stall has been reported
since. -/
structure Follow where
  since : Nat
  stalled : Bool
deriving DecidableEq, Repr

/-- A follow counter after reset. -/
def Follow.init : Follow := ⟨0, false⟩

/-- A committed action waiting for a frame boundary (R166, R167): its site and stream, the full stop, the beat prepare completed,
and whether it has missed its first boundary. -/
structure PendAct where
  site : Nat
  stream : Nat
  fullStop : Nat
  prepared : Nat
  late : Bool
  slot : Nat
  act : Action
deriving DecidableEq, Repr

/-- A measurement of a pin or of a supply in progress (R294, R328): the site whose statement owns it (none for the host's), its
settling and sampling, the sum of the samples, the limits and the sub-index of the record. -/
structure Meas where
  owner : Option Nat
  sampling : Bool
  due : Nat
  total : Nat
  left : Nat
  sum : Int
  stale : Bool
  comply : Bool
  lo : Int
  hi : Int
  sub : Nat
deriving DecidableEq, Repr

/-- A level DAC beside its register (R278 to R282): the analog output in units of 2^-15 V, the beat at which the deglitcher lets it
step, and a passage: its start, the span and code it goes to, and which of its steps have been made. -/
structure Dac where
  analog : Int
  step : Option Nat
  t0 : Option Nat
  span : Nat
  code : Nat
  switched : Bool
  loaded : Bool
deriving DecidableEq, Repr

/-- A level DAC after reset: 0 V in span W (R283). -/
def Dac.init : Dac := ⟨0, none, none, 0, 0x3000, false, false⟩

/-- The PMU of a channel beside its registers (R289, R290): the mode and range in force, the beat at which it connects, the start of a
passage, a deferred trigger, and the beat until which drive codes still act as DZ. -/
structure Pmu where
  mode : Nat
  range : Nat
  connectAt : Option Nat
  t0 : Option Nat
  deferred : Bool
  dzUntil : Nat
deriving DecidableEq, Repr

/-- A PMU after reset. -/
def Pmu.init : Pmu := ⟨0, 4, none, none, false, 0⟩

/-- A waveform source beside its registers (R305 to R310): the phase accumulator, a phase load to come, whether a ONCE pass has
wrapped, the words in force, the beat at which it connects, the passage (its start and old span), a deferred phase load, and the last
output code. -/
structure Wf where
  phase : Nat
  load : Bool
  wrapped : Bool
  ctrl : Word
  freq : Word
  amp : Word
  connectAt : Option Nat
  t0 : Option Nat
  oldSpan : Nat
  deferLoad : Bool
  out : Nat
deriving DecidableEq, Repr

/-- A source after reset (R313): OFF, span W, 0 V. -/
def Wf.init : Wf := ⟨0, false, false, 0, 0, 0x3000, none, none, 0, false, 0x3000⟩

/-- A DPS channel beside its registers (R320 to R327): the target and goal in µV, the end of the delay, the slew in force, the beat of
the next ramp step, the beat its target reached 0 V on the way to a disconnect, the beat a sense check started and its
channels still to check, and the NEGV (bit 0) and SENSE (bit 1) conditions. -/
structure Dps where
  target : Nat
  goal : Nat
  delay : Option Nat
  slew : Nat
  next : Nat
  offAt : Option Nat
  check : Option Nat
  hostCheck : Bool
  cond : Nat
deriving DecidableEq, Repr

/-- A DPS channel after reset: off at 0 V. -/
def Dps.init : Dps := ⟨0, 0, none, 1000, 0, none, none, false, 0⟩

/-- A guard set beside its registers (R340 to R346): the last samples of its filter, newest first, as 8-bit masks (bits 6 and 7 are
CMP_HI and CMP_LO), the filtered states of that pair, one more than the beat of its last latch, and the beat a self-check ends. -/
structure Gd where
  hist : List Nat
  filtCmp : Nat
  lastTrip : Nat
  selfDue : Option Nat
deriving DecidableEq, Repr

/-- A guard set after reset. -/
def Gd.init : Gd := ⟨[], 0, 0, none⟩

/-- The contact checks in progress (R349): the channels and the supplies (leads) checked, the beat step 1 ends and the supplies' checks start,
and the beat the last step ends. -/
structure Contact where
  chans : List Nat
  supplies : List Nat
  settle : Nat
  due : Nat
deriving DecidableEq, Repr

/-- A TDC's measurement in progress (R256 to R268): its owner and limits, N, the end of settling, the beat of its timeout, the words
it took at its arming, the events each input still skips, the instant (in ticks) from which events count, the captures of the
shot in hand, its reference terms once taken, the PERIOD events still to come, the gate in hand (opening beat, first and last event
and count), the shots completed, missing gates, the sum of the shots in 1/256 tick with their least and greatest, and the sums
of FREQUENCY. -/
structure Tdc where
  owner : Option Nat
  lo : Int
  hi : Int
  sub : Nat
  total : Nat
  due : Nat
  timeout : Option Nat
  cfg : Word
  src : Word
  skip0 : Nat
  skip1 : Nat
  from_ : Nat
  cap0 : Option Nat
  cap1 : Option Nat
  terms : Option (Int × Int)
  left : Nat
  gate : Nat
  first : Option Nat
  last : Nat
  count : Nat
  shots : Nat
  missing : Nat
  sum : Int
  least : Int
  greatest : Int
  sumK : Nat
  sumT : Int
  stale : Bool
deriving DecidableEq, Repr

/-- A lane error count in progress (R418): the site, its end, the error count at its start, the limit, and the count it stopped at
when the lane left UP. -/
structure LTest where
  owner : Nat
  due : Nat
  base : Nat
  limit : Nat
  frozen : Option Nat
deriving DecidableEq, Repr

/-- A lane beside its registers (R405 to R415): runs of aligned blocks of each polarity, whether it is aligned, runs of good TRN, ACK
and DONE blocks, whether a good block came in this attempt, EQ_DONE of both ends, the beat phase 1 began, the training
words of the window, its deadline, the countdown, the end of the gap, the next rate, the rates still allowed, the best rate equalised,
the end of the retry gap, the beats LOS and LOL last changed, the end of the last CD-0 block, and the updates left of the
comparison window. -/
structure Lane where
  run : Nat
  runInv : Nat
  aligned : Bool
  trn : Nat
  ack : Nat
  fin : Nat
  anyGood : Bool
  eqOwn : Bool
  eqPeer : Bool
  eqAt : Nat
  trnWord : Word
  deadline : Option Nat
  cd : Nat
  gapEnd : Nat
  next : Option Nat
  mask : Nat
  best : Option Nat
  retryAt : Option Nat
  losAt : Nat
  lolAt : Nat
  swEnd : Option Nat
  cmpLeft : Nat
deriving DecidableEq, Repr

/-- A lane after reset. -/
def Lane.init : Lane := ⟨0, 0, false, 0, 0, 0, false, false, false, 0, 0, none, 0, 0, none, 0, none, none, 0, 0, none, 0⟩

/-- The vectors of a site whose first fail has been counted (R172): VECTOR and the ring entry written, if one was. -/
structure FailMark where
  site : Nat
  vector : Nat
  entry : Option Nat
deriving DecidableEq, Repr

/-- R435: a BOOST entry of a DPS booster: the supply channels it covers and its limits (µA, mV). -/
structure Boost where
  lead : Nat
  size : Nat
  imax : Nat
  vmax : Nat
deriving DecidableEq, Repr

/-- R369: a sweep of one comparator pair: the programmed VOL and the distance from it to VOH (in 2^-15 V), how many strobes of each level
met so far lay above it (64 coarse levels, then 32 about each cluster), and the strobes and hits of the level in hand. -/
structure Sweep where
  vol : Int
  s : Int
  f : List Nat
  count : Nat
  hits : Nat
deriving DecidableEq, Repr

/-- R369, R370: what one comparator (`key` is twice its channel, one more for CMP_LO) does in a live cycle. A member of the quadrant
(`own`) sweeps its shadow pair (stage 0), waits for the hand-over (1), sweeps the other pair (2) and is done (3); a reference member of
another quadrant sweeps once. The crossings found, the correction of the first pair, and whether each result is in. -/
structure LRun where
  key : Nat
  own : Bool
  stage : Nat
  sweep : Sweep
  first : Option (Rat × Rat)
  second : Option (Rat × Rat)
  delta : Option Int
  firstIn : Bool
  secondIn : Bool
deriving DecidableEq, Repr

/-- R371: the common-edge statistics of a channel: the events, the sums of d and of its square, and whether the result is in. -/
structure TRun where
  chan : Nat
  n : Nat
  sum : Rat
  sumSq : Rat
  fin : Bool
deriving DecidableEq, Repr

/-- R366 to R371: a quadrant's live cycle: the start to come (its beat and cause), the cause that is queued, the temperature at its start,
the beats it and its second phase began and the beat its window ends, CAL_CTRL and CAL_GRP as they stood at its start, the first frame
boundary of each stream since the second phase began, the comparators and the channels measured; and, of the terms in
force, whether the substrate step ran for them, whether live corrections went into them, and CALV and CALT_OFS as they were used. -/
structure CalQ where
  pend : Option (Nat × Nat)
  queued : Nat
  tStart : Int
  start : Nat
  measAt : Nat
  winEnd : Nat
  ctrl : Word
  groups : List (Nat × Word)
  counting : List (Nat × Nat)
  levels : List LRun
  times : List TRun
  substrate : Bool
  live : Bool
  calv : Nat
  caltOfs : Int
deriving DecidableEq, Repr

/-- A quadrant that has run nothing. -/
def CalQ.init : CalQ := ⟨none, 0, 0, 0, 0, 0, resetWord 0x0C0000, [], [], [], [], false, false, 0, 0⟩

/-- R354, R361, R362, R373, R377: the terms of a channel beside its registers: the ADC's gain and offset, applied and targets, and the gain at
the last reference calibration; the excluded DAC elements; the targets of the eight TRIMs; the usable pairs (bits HA, HB, LA, LB) and their PO; the
legs; the targets of CAL_DRV and CAL_RCV; DSPLIT, LOOP_REF and the loop time L; the slots the next timing step and the next step of each TRIM still wait;
one more than the beat of the last commit that touched it and of the last slot that acted. -/
structure CalCh where
  gain : Int
  ofs : Int
  gainT : Int
  ofsT : Int
  gainRef : Int
  excl : List Nat
  trimT : List Int
  usable : Nat
  po : List Int
  legs : Nat
  drvT : Int
  rcvT : Int
  dsplit : Nat
  loopRef : Int
  loop : Int
  tWait : Nat
  lWait : List Nat
  touched : Nat
  slotAt : Nat
deriving DecidableEq, Repr

/-- A channel's terms before any calibration. -/
def CalCh.init : CalCh := ⟨0, 0, 0, 0, 0, [0, 0, 0, 0, 0, 0, 0, 0], [0, 0, 0, 0, 0, 0, 0, 0], 0, [0, 0, 0, 0], 0, 0, 0, 0, 0, 0, 0, [0, 0, 0, 0, 0, 0, 0, 0], 0, 0⟩

/-- The terms of a supply (kind 1: gain, offset, limit trim) or a source (kind 2: only targets, what is applied stands in WF_STAT): applied
and targets, and one more than the beat of the last slot. -/
structure CalTerm where
  gain : Int
  ofs : Int
  lim : Int
  gainT : Int
  ofsT : Int
  slotAt : Nat
deriving DecidableEq, Repr

/-- The terms of a supply before any calibration. -/
def CalTerm.init : CalTerm := ⟨0, 0, 0, 0, 0, 0⟩

/-- A calibration command in progress (R359, R378): its code, quadrants, SUBSTRATE, the beat it was accepted in and the earliest
beat of its completion, the CAL_Q STATE and CAUSE of each quadrant before it, and the quadrants a SAVE has still to write. -/
structure CalRun where
  cmd : Nat
  qmask : Nat
  substrate : Bool
  start : Nat
  due : Nat
  prev : List (Nat × Nat)
  left : List Nat
deriving DecidableEq, Repr

/-- The CAL block beside its registers. -/
structure CalSt where
  chs : List (Nat × CalCh)
  dps : List (Nat × CalTerm)
  wf : List (Nat × CalTerm)
  spares : List (Nat × (Int × Int))
  quads : List (Nat × CalQ)
  run : Option CalRun
deriving DecidableEq, Repr

/-- The CAL block after reset. -/
def CalSt.init : CalSt := ⟨[], [], [], [], [], none⟩

/-- What the module port does (R428, R434, R473): a transfer of MP_XFER; a discovery with the selects still to take, the header of the one in
hand once its orientation read is done, with whether it is reversed, and the records that read OK; or a read of the cold-plate
sensors. -/
inductive MpOp where
  | xfer (w : Word)
  | discover (todo : List Nat) (head : Option (List Byte × Bool)) (mods : List (Nat × List Byte))
  | cold
deriving DecidableEq, Repr

/-- A reading of a temperature sensor with the beat and the number of its round (R478). -/
structure GoodRd where
  val : Int
  beat : Nat
  idx : Nat
deriving DecidableEq, Repr

/-- A temperature sensor beside its register (R471, R478): its values, newest first; the last raw reading; the last good reading; the rounds that
the raw reading has been the same, the good reading before that, and the sum and number of the other readings of its group then; the rounds that it
has disagreed, and the good reading before; whether its RATE was above the limit in the last round; whether the last evaluation met a condition of R478;
and the round of its last good value. -/
structure HkSen where
  hist : List Int
  raw : Option Int
  prev : GoodRd
  same : Nat
  sameFrom : GoodRd
  base : Int × Nat
  apart : Nat
  apartFrom : GoodRd
  rateHi : Bool
  met : Bool
  goodIdx : Nat
deriving DecidableEq, Repr

/-- A sensor before any round. -/
def HkSen.init : HkSen := ⟨[], none, ⟨0, 0, 0⟩, 0, ⟨0, 0, 0⟩, (0, 0), 0, ⟨0, 0, 0⟩, false, false, 0⟩

/-- Housekeeping beside its registers (R470 to R480): the sensors; the monitors that lay outside ±10 % in the last round; the number of the round;
the round in hand (its start and readings) and whether its readings have been judged; the source and cause of a shutdown it found; the rounds that have met
the conditions of release; the rounds since THROTTLE was entered; the sites paused, in order; and a cold-plate read that was deferred. -/
structure HkSt where
  sens : List (Nat × HkSen)
  monBad : Nat
  idx : Nat
  round : Option (Nat × List (Option Int) × List Int)
  judged : Bool
  fatal : Option (Nat × Nat)
  calm : Nat
  since : Nat
  paused : List Nat
  cold : Bool
deriving DecidableEq, Repr

/-- Housekeeping after reset. -/
def HkSt.init : HkSt := ⟨[], 0, 0, none, false, none, 0, 0, [], false⟩

/-- A shutdown (R481): its start beat, the record to be written, its SEQ, and the step reached (0 supplies ramp, 1 stacks in self-refresh,
2 record written). -/
structure Shut where
  start : Nat
  body : List Byte
  seq : Nat
  phase : Nat
deriving DecidableEq, Repr

/-- The host link beside its registers (R457 to R466): the read latch; the write latch with its dwords; the power state D3hot; MSI-X
Enable and function mask; the MSI-X table by 4 times the vector plus the field; and what was last sent to the host: BAR0 read data, bulk read data with
its poison mark, and the vectors of messages. -/
structure LinkSt where
  rd : Option (Nat × Word)
  wr : Option (Nat × List (Option (BitVec 32)))
  d3 : Bool
  msixOn : Bool
  msixMask : Bool
  table : List (Nat × BitVec 32)
  data : List (BitVec 32)
  bulk : List Byte × Bool
  sent : List Nat
deriving DecidableEq, Repr

/-- What an MSI-X table field holds after reset: a vector is masked. -/
def msixReset (k : Nat) : BitVec 32 := if k % 4 = 3 then 1 else 0

/-- The host link after reset. -/
def LinkSt.init : LinkSt := ⟨none, none, false, false, false, [], [], ([], false), []⟩

/-- Boundary scan (R526): the instruction, the cells shifted in, what was captured and shifted out, and whether the cells drive the balls. -/
structure Jtag where
  ir : Nat
  cells : List Bool
  captured : List Bool
  drives : Bool
deriving DecidableEq, Repr

/-- R526: the test logic after TRST_N: BYPASS. -/
def Jtag.init : Jtag := ⟨0x3F, [], [], false⟩

/-- The verb engine before any dispatch. -/
def Verb.init : Verb := ⟨false, 0, 0, 0, [], 0, false, false, false, [], true, true, 0, none, false, 0, 0, none, false, false, false, none⟩
/-- A sequencer after reset. -/
def Seq.init : Seq := ⟨[], .none, false, none, false, Verb.init, 0, false, none, 0, 0⟩
/-- A site that no image has given anything (R54). -/
def SiteMap.empty : SiteMap := ⟨[], [], [], 0⟩

/-- A stop with a fault. The manual gives this block no fault that stops it, so there is none to raise (safe). -/
inductive Fault where
  /-- Raised by no meaning: it is here because the outcome type asks for one. Safe. -/
  | unreachable
deriving DecidableEq, Repr

/-- A command with no meaning. -/
inductive Refusal where
  /-- Raised by an arm of Dispatch.lean whose command has no meaning yet. Safe: nothing is claimed of it. -/
  | notModelled (mnemonic : String)
deriving DecidableEq, Repr

/-- The whole machine. -/
structure State where
  /-- The live copy of every register word, by word address (R6, R9); for a CL word the active copy. -/
  regs : List (Nat × Word)
  /-- R9: the shadow copy of CL words. -/
  shadow : List (Nat × Word)
  /-- R393: the snapshot shadows of words with HR fields. -/
  held : List (Nat × Word)
  /-- R131: pattern memory, 32 GiB, as address and byte pairs. -/
  mem : List Host.Cell
  /-- R133: the 32-byte units of pattern memory that hold an uncorrectable error. -/
  uncorr : List Nat
  /-- R29: the beat counter. -/
  beat : Word64
  /-- The model's own: the counter that Config.freeValue is applied to (assumption 1). -/
  freeCtr : Nat
  /-- R35 to R47: the synchronization link beside its registers. -/
  tb : TbSt
  /-- R63 to R67: what the active image gives each site. -/
  maps : List (Nat × SiteMap)
  /-- R61: the clone groups, the leading site and the mask of members. -/
  clones : List (Nat × Nat)
  /-- R62: the routes of the active image, source to bus. -/
  routes : List (Nat × Nat)
  /-- R72: the structural operation in progress. -/
  siOp : Option SiOp
  /-- R433, R435: the needle pad of each channel after a discovery. -/
  pads : List (Nat × Nat)
  /-- R435: the boost entries of the modules found. -/
  boosts : List Boost
  /-- R179: the site sequencers beside their registers. -/
  seqs : List (Nat × Seq)
  /-- R387: the ledger records whose value is fixed and whose write is still to come. -/
  pendRecs : List PendRec
  /-- R388: a gap of the ledger is open. -/
  gap : Bool
  /-- R388: the records dropped since the gap opened. -/
  gapDrops : Nat
  /-- R394: the snapshots scheduled. -/
  snaps : List PendSnap
  /-- R390: the migration burst in flight: the sequence number of its first record and how many records it has. -/
  burst : Option (Nat × Nat)
  /-- R88 to R104: the pin slices beside their registers. -/
  chans : List (Nat × Chan)
  /-- R109: the active bank of tense items, by engine, tense and item. -/
  tenses : List (Nat × Nat)
  /-- R109: the shadow bank of tense items. -/
  tensesShadow : List (Nat × Nat)
  /-- R151: the scan-out streams beside their registers. -/
  streams : List (Nat × Stream)
  /-- R166: committed actions that wait for a frame boundary. -/
  pendActs : List PendAct
  /-- R231: the clause slots beside their registers. -/
  slots : List (Nat × ClSlot)
  /-- R245, R246: the multi-device clauses that are still watched. -/
  watches : List Watch
  /-- R247: the decisions that the ROOT device has queued. -/
  rootQ : List RootDec
  /-- R245, R452: VETO_N is held low by another device. -/
  vetoIn : Bool
  /-- R48: the follow counters beside their registers. -/
  follows : List (Nat × Follow)
  /-- R206: the control store, by bank and word address. -/
  cs : List (Nat × BitVec 256)
  /-- R207: the words of the control store that hold an uncorrectable error. -/
  csBad : List Nat
  /-- R215: the lexicon entries of the two customer banks. -/
  lex : List (Nat × Nat)
  /-- R225, R228: the control-store load or key command in progress. -/
  lxOp : Option LxOp
  /-- R17: the mirrored non-volatile memory, each copy by itself. -/
  nvm : List (Nat × Byte)
  /-- R172: the vectors whose first fail has been counted. -/
  failMarks : List FailMark
  /-- R278: the level DACs beside their registers, eight to a channel. -/
  dacs : List (Nat × Dac)
  /-- R289: the PMUs beside their registers. -/
  pmus : List (Nat × Pmu)
  /-- R305: the waveform sources beside their registers. -/
  wfs : List (Nat × Wf)
  /-- R312: the tables of the waveform sources, by half word. -/
  wfTables : List (Nat × List Host.Cell)
  /-- R312: the table loads in progress: the address and the length. -/
  wfLoads : List (Nat × (Nat × Nat))
  /-- R320: the DPS channels beside their registers. -/
  dpss : List (Nat × Dps)
  /-- R340: the guard sets of the channels beside their registers. -/
  gds : List (Nat × Gd)
  /-- R340: the guard sets of the supplies beside their registers. -/
  dgds : List (Nat × Gd)
  /-- R349: the contact check in progress. -/
  contact : Option Contact
  /-- R339, R452: TRIP_N is held low by another device. -/
  tripIn : Bool
  /-- R294: the PMU measurements in progress. -/
  pmuMeas : List (Nat × Meas)
  /-- R328: the DPS measurements in progress. -/
  dpsMeas : List (Nat × Meas)
  /-- R256: the TDC measurements in progress. -/
  tdcs : List (Nat × Tdc)
  /-- R418: the lane error counts in progress. -/
  ltests : List (Nat × LTest)
  /-- R405: the DUT lanes beside their registers. -/
  lanes : List (Nat × Lane)
  /-- R354 to R378: calibration beside its registers. -/
  cal : CalSt
  /-- R165: the beat of the last request that reached each memory stack. -/
  stackReq : List (Nat × Nat)
  /-- R483: the slots of the trouble log. -/
  logRing : List (Nat × Word)
  /-- R483: the trouble-log entries that wait for their write. -/
  logWait : List LogWait
  /-- R466: the MSI-X messages pending, one bit a vector. -/
  msix : Nat
  /-- R443: the status bits that the control-port frame in hand has gathered for the next. -/
  cpFrame : Nat
  /-- R441: the words the control port returned in the last frame. -/
  cpOut : List Word
  /-- R428: what the module port is doing. -/
  mpOp : Option MpOp
  /-- R435: the limits a tile gives a supply (µA and mV). -/
  tileDps : List (Nat × (Nat × Nat))
  /-- R473: the cold-plate sensors in use: select, address and scale. -/
  cold : List (Nat × Nat × Nat)
  /-- R470 to R480: housekeeping beside its registers. -/
  hk : HkSt
  /-- R481: the shutdown in progress. -/
  shut : Option Shut
  /-- R491: the scheduled mode request. -/
  sched : Option (Nat × Nat)
  /-- R497: the beat a self-test started in. -/
  selfTest : Option Nat
  /-- R497: the march test that has overwritten the ledger ring: where TAIL stood then, and the counter of the free values that the slots not written since hold (assumption 1). -/
  lgMarch : Option (Nat × Nat)
  /-- R520: a supply of the device lies below its brown-out threshold. -/
  brown : Bool
  /-- R457 to R466: the host link beside its registers. -/
  link : LinkSt
  /-- R526: boundary scan. -/
  jtag : Jtag
  /-- The model's own: the commands that wait, first in, first out. -/
  pending : List Instr
deriving DecidableEq, Repr

/-- The machine right after reset: power has come up and the internal start of R500 has not completed. (DESIGN CHOICE, assumption 6.) -/
def State.reset : State :=
  { regs := [], shadow := [], held := [], mem := [], uncorr := [], beat := 0, freeCtr := 2 ^ 20
    tb := ⟨0, 0, 0, none, [], [], 0, true, []⟩
    maps := [], clones := [], routes := [], siOp := none, pads := [], boosts := [], seqs := [], pendRecs := [], gap := false, gapDrops := 0
    snaps := [], burst := none, streams := [], pendActs := [], slots := [], watches := [], rootQ := [], vetoIn := false, follows := [], cs := [], csBad := [], lex := [], lxOp := none, nvm := [], failMarks := [], dacs := [], pmus := [], wfs := [], wfTables := [], wfLoads := []
    dpss := [], gds := [], dgds := [], contact := none, tripIn := false, pmuMeas := [], dpsMeas := [], tdcs := [], ltests := [], lanes := [], cal := CalSt.init, stackReq := []
    chans := [], tenses := [], tensesShadow := [], logRing := [], logWait := [], msix := 0, cpFrame := 0, cpOut := [], mpOp := none, tileDps := [], cold := [], hk := HkSt.init, shut := none
    sched := none, selfTest := none, lgMarch := some (0, 0), brown := false, link := LinkSt.init, jtag := Jtag.init, pending := [] }

end Sys2Proof.Machine
end

