-- ==== Sys2Proof/Machine/Ops.lean ====
section
/-! DEFINITION. The named operations over registers, time, pattern memory, the trouble log, the alert and interrupt lines
and the result ledger. Every meaning is written with these. -/

namespace Sys2Proof.Machine

/-- What a command answers. -/
abbrev Out := Host.Outcome State Fault Refusal

/-! ### Words and fields -/

/-- The nearest integer to `num / den`, a half going away from zero: the rounding of the manual's formulas (DEDUCED, assumption 3). -/
def roundAway (num : Int) (den : Nat) : Int :=
  if den = 0 then 0 else if 0 ≤ num then (2 * num + den) / (2 * den : Nat) else -((-(2 * num) + den) / (2 * den : Nat))

/-- The bits [hi:lo] of a word. -/
def wget (w : Word) (hi lo : Nat) : Nat := bitsOf w.toNat lo (hi + 1 - lo)

/-- A word with its bits [hi:lo] set to the low bits of `v`. -/
def wput (w : Word) (hi lo v : Nat) : Word :=
  (w &&& ~~~(fieldMask hi lo)) ||| (BitVec.ofNat 128 (v % 2 ^ (hi + 1 - lo)) <<< lo)

/-- The field `f` of a word `w` written to (or read from) its register. -/
def Fld.of (f : Fld) (w : Word) : Nat := wget w f.hi f.lo

/-- The live or active value of a register word. (DESIGN CHOICE, assumption 11.) -/
def State.reg (s : State) (a : Nat) : Word := sget resetWord s.regs a

/-- Set the live or active value of a register word. (DESIGN CHOICE, assumption 11.) -/
def State.setReg (s : State) (a : Nat) (w : Word) : State := { s with regs := sset resetWord s.regs a w }

/-- The value of a field. -/
def State.get (s : State) (f : Fld) : Nat := wget (s.reg f.addr) f.hi f.lo

/-- Set a field; the other bits of its word stay. -/
def State.set (s : State) (f : Fld) (v : Nat) : State := s.setReg f.addr (wput (s.reg f.addr) f.hi f.lo v)

/-- A one-bit field as a Bool. -/
def State.flag (s : State) (f : Fld) : Bool := s.get f ≠ 0

/-- A signed field (R14). -/
def State.getS (s : State) (f : Fld) : Int := signedOf f.width (s.get f)

/-- Set a signed field. -/
def State.setS (s : State) (f : Fld) (z : Int) : State := s.set f (fieldOf f.width z)

/-- Add to a wrapping counter. -/
def State.add (s : State) (f : Fld) (k : Nat) : State := s.set f (s.get f + k)

/-- Count one event in a wrapping counter. -/
def State.inc (s : State) (f : Fld) : State := s.add f 1

/-- Count one event in a saturating counter. -/
def State.incSat (s : State) (f : Fld) : State := if s.get f + 1 < 2 ^ f.width then s.inc f else s

/-- R9: the shadow copy of a CL word. (DESIGN CHOICE, assumption 11.) -/
def State.shadowReg (s : State) (a : Nat) : Word := sget resetWord s.shadow a

/-- R9: set the shadow copy of a CL word. -/
def State.setShadow (s : State) (a : Nat) (w : Word) : State := { s with shadow := sset resetWord s.shadow a w }

/-- R393: the snapshot shadow of a word's HR fields. (DESIGN CHOICE, assumption 11.) -/
def State.heldReg (s : State) (a : Nat) : Word := sget resetWord s.held a

/-- Do `f` for every number below `k` in turn. -/
def State.forN (k : Nat) (f : Nat → State → State) (s : State) : State := (List.range k).foldl (fun t i => f i t) s

/-- Do `f` for every element of a list in turn. -/
def State.forL {α : Type} (l : List α) (f : α → State → State) (s : State) : State := l.foldl (fun t a => f a t) s

/-! ### Time -/

/-- The present beat count. -/
def State.now (s : State) : Nat := s.beat.toNat

/-- R29: the beat counter has been set. -/
def State.cntValid (s : State) : Bool := s.flag Reg.TB_STAT.CNT_VALID

/-- The beat count as a record or a log entry holds it: 0 while CNT_VALID is 0 (R483). -/
def State.stampBeat (s : State) : Nat := if s.cntValid then s.now else 0

/-- R37: the nearest beat at or ahead of `now` whose low 24 bits are `b24`. -/
def resolve24 (now b24 : Nat) : Nat := now + (b24 + 2 ^ 24 - now % 2 ^ 24) % 2 ^ 24

/-- The present device mode (R490). -/
def State.mode (s : State) : Nat := s.get Reg.DEV_MODE.CUR

/-- A value the manual leaves undefined, and the counter that makes the next one another (DESIGN CHOICE, assumption 1). -/
def State.freeVal (s : State) : Word := Config.freeValue s.freeCtr
/-- Advance the free-value counter. (DESIGN CHOICE, assumption 1.) -/
def State.bumpFree (s : State) : State := { s with freeCtr := s.freeCtr + 1 }

/-! ### Pattern memory: 32 GiB of bytes (R131) -/

/-- R131: the size of pattern memory. -/
def pmSize : Nat := 2 ^ 35

/-- What a byte of pattern memory reads as before anything has written it (DESIGN CHOICE, assumption 2). -/
def memDefault (_a : Nat) : Byte := 0

/-- The canonical form of pattern memory. (DESIGN CHOICE, assumption 2.) -/
abbrev Memory.wf (m : List Host.Cell) : Prop := swf memDefault m = true

/-- One byte of pattern memory. (DESIGN CHOICE, assumption 2.) -/
def State.byte (s : State) (a : Nat) : Byte := sget memDefault s.mem a

/-- Write one byte of pattern memory; past its end nothing is written (R463). -/
def State.setByte (s : State) (a : Nat) (b : Byte) : State :=
  if a < pmSize then { s with mem := sset memDefault s.mem a b } else s

/-- `k` bytes from an address. -/
def State.bytes (s : State) (a k : Nat) : List Byte := (List.range k).map (fun i => s.byte (a + i))

/-- R12: the little-endian number in `k` bytes from an address. -/
def State.mem16 (s : State) (a : Nat) : Word := BitVec.ofNat 128 (leNat (s.bytes a 16))

/-- Write bytes from an address up. -/
def State.setBytes : State → Nat → List Byte → State
  | s, _, [] => s
  | s, a, b :: bs => (s.setByte a b).setBytes (a + 1) bs

/-- R133: the 32-byte unit that holds an address carries an uncorrectable error. -/
def State.isUncorr (s : State) (a : Nat) : Bool := s.uncorr.contains (a / 32)

/-- An uncorrectable unit among the bytes [a, a + k). -/
def State.anyUncorr (s : State) (a k : Nat) : Bool := s.uncorr.any (fun u => decide (a < 32 * u + 32) && decide (32 * u < a + k))

/-- The address of the first byte of the first uncorrectable unit touched by [a, a + k). (DEDUCED, assumption 27.) -/
def State.firstUncorr (s : State) (a k : Nat) : Nat :=
  (s.uncorr.filter (fun u => decide (a < 32 * u + 32) && decide (32 * u < a + k))).foldl (fun m u => min m (32 * u)) (a + k)

/-- R131: the stacks that the bytes [a, a + k) lie in. -/
def stacksOf (a k : Nat) : List Nat := (List.range 2).filter (fun i => (List.range (ceilDiv k 256 + 1)).any (fun j => min (a + 256 * j) (a + k - 1) / 256 % 2 == i) && k != 0)

/-- R165: a request reaches the stacks of [a, a + k): a stack in power-down becomes active. (DEDUCED, assumption 29.) -/
def State.memReq (s : State) (a k : Nat) : State :=
  s.forL (stacksOf a k) (fun i t =>
    let f := if i = 0 then Reg.SO_STAT.STACK0 else Reg.SO_STAT.STACK1
    let t1 := { t with stackReq := sinsert t.stackReq i t.now }
    if t1.get f = 1 then t1.set f 0 else t1)

/-- R165: a stack that no request has reached for PD_IDLE beats enters power-down. (DEDUCED, assumption 29.) -/
def State.stackDown (s : State) (i : Nat) : State :=
  let f := if i = 0 then Reg.SO_STAT.STACK0 else Reg.SO_STAT.STACK1
  let last := ((s.stackReq.find? (fun p => p.1 == i)).map Prod.snd).getD 0
  if s.flag Reg.SO_CTRL.PD_EN ∧ s.get f = 0 ∧ last + s.get Reg.SO_CTRL.PD_IDLE ≤ s.now then s.set f 1 else s

/-! ### Interrupts and alerts (R451, R466) -/

/-- R466: the map entry of an interrupt source: enabled, and its vector. -/
def State.msixMap (s : State) (src : Nat) : Bool × Nat :=
  let b := wget (s.reg (Reg.HL_MSIX_MAP.word (src / 16))) (8 * (src % 16) + 7) (8 * (src % 16))
  (bitOf b 7, b % 32)

/-- R466: an interrupt source's event. Its PEND bit is set; a bit that rises while its map entry is enabled makes the
mapped vector's message pending. -/
def State.intr (s : State) (src : Nat) : State :=
  let f : Fld := ⟨0x005004, src, src⟩
  if s.flag f then s
  else
    let t := s.set f 1
    let (en, v) := t.msixMap src
    if en then { t with msix := t.msix ||| (1 <<< v) } else t

/-- R451: a rule of the manual raises ALERT_N through source `i`: the pending bit is set, and the interrupt source of the
same number has its event when the bit rises unmasked. -/
def State.alert (s : State) (i : Nat) : State :=
  let f : Fld := ⟨0x004002, i, i⟩
  if s.flag f then s
  else
    let t := s.set f 1
    if i ≠ Alert.CLAUSE ∧ s.flag ⟨0x004002, 16 + i, 16 + i⟩ then t else t.intr i

/-- R451: the device drives ALERT_N low: some pending source is unmasked (CLAUSE has no mask). -/
def State.alertOut (s : State) : Bool :=
  let w := s.reg (Reg.CP_ALERT.word)
  (List.range 6).any (fun i => bitOf (wget w 5 0) i && (i == Alert.CLAUSE || !bitOf (wget w 21 16) i))

/-! ### Trouble log (R483 to R486) -/

/-- R486: DETAIL of an entry about a write: its word address and the index of the unit concerned. -/
def detail (addr idx : Nat) : Nat := (addr % 2 ^ 24) * 2 ^ 16 + idx % 2 ^ 16

/-- R483: the entry as it will stand in its slot. -/
def logWord (beat src code det : Nat) : Word :=
  BitVec.ofNat 128 (beat % 2 ^ 64 * 2 ^ 64 + src % 2 ^ 8 * 2 ^ 56 + code % 2 ^ 16 * 2 ^ 40 + det % 2 ^ 40)

/-- R483: entries wait in the order of beat, class, SOURCE and DETAIL. -/
def LogWait.before (a b : LogWait) : Bool :=
  a.beat < b.beat || (a.beat == b.beat && (a.cls < b.cls || (a.cls == b.cls &&
    (wget a.word 63 56 < wget b.word 63 56 || (wget a.word 63 56 == wget b.word 63 56 && wget a.word 39 0 < wget b.word 39 0)))))

/-- Put a waiting entry in its place. -/
def insertLog (e : LogWait) : List LogWait → List LogWait
  | [] => [e]
  | x :: xs => if e.before x then e :: x :: xs else x :: insertLog e xs

/-- R483: an event of class `cls` enters the trouble log; with 2,048 entries waiting it is dropped and counted. -/
def State.log (s : State) (src code : Nat) (det : Nat := 0) (cls : Nat := 7) : State :=
  if 2048 ≤ s.logWait.length then s.inc Reg.LOG_STAT.DROPPED
  else { s with logWait := insertLog ⟨s.now, cls, logWord s.stampBeat src code det⟩ s.logWait }

/-! ### Reports of a direct write (R443, R445, R461) -/

/-- HL_LAST: the last BAR0 word that was rejected, met a hole or was dropped. -/
def State.hlLast (s : State) (code addr : Nat) : State :=
  ((s.set Reg.HL_LAST.BEAT s.now).set Reg.HL_LAST.CODE code).set Reg.HL_LAST.WORD addr

/-- A write that came through `port` at word `addr` was rejected with STATE_REJECT. (DEDUCED, assumption 12.) -/
def State.reportReject (s : State) (port : Port) (addr : Nat) : State :=
  match port with
  | .cp => { (s.set Reg.CP_STAT.STATE_REJECT 1).inc Reg.CP_CNT.REJECTS with cpFrame := s.cpFrame ||| 0x40 }
  | .bar0 => (s.set Reg.HL_STAT.STATE_REJECT 1).hlLast 1 addr

/-- An access through `port` met a hole at `addr` (R448, R461, R512). (DEDUCED, assumption 12.) -/
def State.reportHole (s : State) (port : Port) (addr : Nat) : State :=
  match port with
  | .cp => { s.set Reg.CP_STAT.HOLE 1 with cpFrame := s.cpFrame ||| 0x20 }
  | .bar0 => (s.set Reg.HL_STAT.HOLE 1).hlLast 2 addr

/-- A rejected write: no field changes, the port reports it and the trouble log takes `code` from block `src`. (DEDUCED, assumption 12.) -/
def State.reject (s : State) (port : Port) (addr src : Nat) (code : Nat := Lc.STATE_REJECT) (idx : Nat := 0) : State :=
  (s.reportReject port addr).log src code (detail addr idx)

/-- R500: a write of the host to the word at `addr`: rejected in RESET, else `run`. (DEDUCED, assumption 12; DESIGN CHOICE, assumption 128.) -/
def State.host (s : State) (port : Port) (addr src idx : Nat) (run : State → State) : State :=
  if s.mode = Mode.RESET then s.reject port addr src Lc.STATE_REJECT idx else run s

/-- R29, R32: why a scheduled beat cannot be taken: the counter is not set, or it lies fewer beats ahead than the lead. -/
def State.schedFault (s : State) (beat lead : Nat) : Option Nat :=
  if !s.cntValid then some Lc.TIME_INVALID else if beat < s.now + lead then some Lc.SCHED_PAST else none

/-! ### Sites -/

/-- R198: the state of a site. -/
def State.siteState (s : State) (n : Nat) : Nat := s.get (Reg.SQ_STAT.STATE n)

/-- The site's sequencer. -/
def State.seq (s : State) (n : Nat) : Seq := sget (fun _ => Seq.init) s.seqs n

/-- Change the site's sequencer. -/
def State.setSeq (s : State) (n : Nat) (q : Seq) : State := { s with seqs := sset (fun _ => Seq.init) s.seqs n q }

/-- Some site is in one of the listed states. -/
def State.anySite (s : State) (l : List Nat) : Bool := (List.range 64).any (fun n => l.contains (s.siteState n))

/-! ### The result ledger (R381 to R388) -/

/-- R384: the statement index a record carries when the device writes it. -/
def State.stmtOf (s : State) (n : Nat) : Nat :=
  if [Site.RUNNING, Site.HELD, Site.TRIPPED].contains (s.siteState n) then s.get (Reg.SQ_STAT.PC n) else 0xFFFFF

/-- R383: the limits of VALUE. -/
def satValue (v : Int) : Int × Bool :=
  if v > 2 ^ 47 - 1 then (2 ^ 47 - 1, true) else if v < -(2 ^ 47 - 1) then (-(2 ^ 47 - 1), true) else (v, false)

/-- R382: the layout of a record. -/
def recWord (site stmt kind flags beat sub value : Nat) : Word :=
  BitVec.ofNat 128 (site % 2 ^ 6 * 2 ^ 122 + stmt % 2 ^ 20 * 2 ^ 102 + kind % 2 ^ 4 * 2 ^ 98 + flags % 2 ^ 8 * 2 ^ 90
    + beat % 2 ^ 32 * 2 ^ 58 + sub % 2 ^ 10 * 2 ^ 48 + value % 2 ^ 48)

/-- R387: records are written in the order of the beat of their value, SITE, events first, SUB. -/
def PendRec.before (a b : PendRec) : Bool :=
  let ka := wget a.word 101 98; let kb := wget b.word 101 98
  let ea := b2n (ka != Kind.EVENT); let eb := b2n (kb != Kind.EVENT)
  let sa := wget a.word 127 122; let sb := wget b.word 127 122
  a.due < b.due || (a.due == b.due && (a.fixed < b.fixed || (a.fixed == b.fixed &&
    (sa < sb || (sa == sb && (ea < eb || (ea == eb && wget a.word 57 48 < wget b.word 57 48)))))))

/-- Put a waiting record in its place. -/
def insertRec (r : PendRec) : List PendRec → List PendRec
  | [] => [r]
  | x :: xs => if r.before x then r :: x :: xs else x :: insertRec r xs

/-- R387: fix a record's value in the present beat; it is written at class 2 two beats later (or at `due`). -/
def State.pushRec (s : State) (w : Word) (due : Nat) (fixed : Nat) : State :=
  { s with pendRecs := insertRec ⟨due, fixed, w⟩ s.pendRecs }

/-- The flags the device adds to a record of site `n` by itself: TRIPPED under R202. -/
def State.siteFlags (s : State) (n : Nat) : Nat := if s.siteState n = Site.TRIPPED then Flag.TRIPPED else 0

/-- A record of kind `kind` for site `n` whose value is fixed now (R382 to R387); `flags` beside TRIPPED and SAT. -/
def State.record (s : State) (n kind flags sub : Nat) (value : Int) : State :=
  let (v, sat) := satValue value
  let fl := flags ||| s.siteFlags n ||| (if sat then Flag.SAT else 0)
  s.pushRec (recWord n (s.stmtOf n) kind fl s.now sub (fieldOf 48 v)) (s.now + 2) s.now

/-- An unsigned-value record: the value keeps its low 48 bits (COUNT, BIN, PASSFAIL fields as REC gives). -/
def State.recordRaw (s : State) (n kind flags sub value : Nat) : State :=
  s.pushRec (recWord n (s.stmtOf n) kind (flags ||| s.siteFlags n) s.now sub value) (s.now + 2) s.now

/-- R386: an EVENT record written by the device for site `n`. -/
def State.event (s : State) (n code value : Nat) (sub : Nat := 0) : State :=
  s.pushRec (recWord n (s.stmtOf n) Kind.EVENT (Flag.DEVICE ||| s.siteFlags n) s.now sub (code % 2 ^ 8 * 2 ^ 40 + value % 2 ^ 40))
    (s.now + 2) s.now

/-- R386: an EVENT record that a statement of the site writes itself: DEVICE is not set. -/
def State.eventStmt (s : State) (n code value : Nat) : State :=
  s.pushRec (recWord n (s.stmtOf n) Kind.EVENT (s.siteFlags n) s.now 0 (code % 2 ^ 8 * 2 ^ 40 + value % 2 ^ 40)) (s.now + 2) s.now

/-- R196, R205: the record counter and the accumulator of a site take in a measurement record its statements wrote. -/
def State.accFold (s : State) (n : Nat) (value : Int) (fail : Bool) : State :=
  let v := (satValue value).1
  let s1 := (s.inc (Reg.SQ_CNT.RECORDS n)).incSat (Reg.SQ_ACC.NREC n)
  let s2 := if fail then s1.incSat (Reg.SQ_ACC.NFAIL n) else s1
  let s3 := if v < s2.getS (Reg.SQ_ACC.MIN n) then s2.setS (Reg.SQ_ACC.MIN n) v else s2
  if s3.getS (Reg.SQ_ACC.MAX n) < v then s3.setS (Reg.SQ_ACC.MAX n) v else s3

end Sys2Proof.Machine
end

