-- ==== Sys2Proof/Machine/Nvm.lean ====
section
/-! DEFINITION. The mirrored non-volatile memory (R17): two copies of 65,536 bytes, on Q0 and on Q2. An erased byte reads 0xFF. -/

namespace Sys2Proof.Machine

/-- A byte of a copy: 0 the Q0 copy, 1 the Q2 copy. (DESIGN CHOICE, assumption 7.) -/
def State.nvmByte (s : State) (copy a : Nat) : Byte := sget (fun _ => 0xFF) s.nvm (copy * 65536 + a % 65536)

/-- Bytes of a copy. -/
def State.nvmBytes (s : State) (copy a k : Nat) : List Byte := (List.range k).map (fun i => s.nvmByte copy (a + i))

/-- Put bytes into a copy. -/
def State.nvmPut : State → Nat → Nat → List Byte → State
  | s, _, _, [] => s
  | s, copy, a, b :: bs => { s with nvm := sset (fun _ => 0xFF) s.nvm (copy * 65536 + a % 65536) b }.nvmPut copy (a + 1) bs

/-- R17: the write of one record, the Q0 copy first; a copy whose read-back failed is left with the bytes that `e` gives, and the Q2 copy
is written only after the Q0 copy has matched. The second component tells whether the write is complete. (DESIGN CHOICE, assumption 85.) -/
def State.nvmWrite (s : State) (a : Nat) (bs : List Byte) (e : NvmEnd) : State × Bool :=
  match e.q0 with
  | some x => (s.nvmPut 0 a (x.take bs.length), false)
  | none =>
    let s1 := s.nvmPut 0 a bs
    match e.q2 with
    | some x => (s1.nvmPut 1 a (x.take bs.length), false)
    | none => (s1.nvmPut 1 a bs, true)

/-- A record whose last four bytes are the CRC-32C of the others (R13). -/
def crcGood (bs : List Byte) : Bool := crc32c (bs.take (bs.length - 4)) == leNat (bs.drop (bs.length - 4))

/-- A record with its CRC behind it. -/
def withCrc (bs : List Byte) : List Byte := bs ++ leBytes 4 (crc32c bs)

/-- Every byte reads the erased value. -/
def erased (bs : List Byte) : Bool := bs.all (· == 0xFF)

/-- R17: the Q0 copy of a record when that copy is good, the Q2 copy otherwise; none when both fail. -/
def State.nvmRecord (s : State) (a k : Nat) (good : List Byte → Bool) : Option (List Byte) :=
  if good (s.nvmBytes 0 a k) then some (s.nvmBytes 0 a k)
  else if good (s.nvmBytes 1 a k) then some (s.nvmBytes 1 a k) else none

end Sys2Proof.Machine
end

