-- ==== Sys2Proof/Machine/Structure.lean ====
section
/-! DEFINITION. The structure that the syntax image gives the device (R54 to R67): which site owns a channel, a supply or a
lane, compounds, gangs, clone groups and spares, read from the site maps. -/

namespace Sys2Proof.Machine

/-- The map of a site. -/
def State.map (s : State) (n : Nat) : SiteMap := sget (fun _ => SiteMap.empty) s.maps n

/-- The site maps, the clone groups and the routes in force become these. -/
def State.setMaps (s : State) (maps : List (Nat × SiteMap)) (clones routes : List (Nat × Nat)) : State :=
  { s with maps := maps, clones := clones, routes := routes }

/-- R65: the channels of a compound. -/
def Comp.members (k : Comp) : List Nat := (List.range k.size).map (fun i => k.lead + i)

/-- R54, R65: every channel a site map owns, compound members included. -/
def SiteMap.chans (m : SiteMap) : List Nat := m.pins.map Pin.chan ++ m.comps.flatMap (fun k => (k.members).drop 1)

/-- R66: every supply channel a site map owns. -/
def SiteMap.supplies (m : SiteMap) : List Nat := m.dps.flatMap (fun p => (List.range p.2).map (fun i => p.1 + i))

/-- R67: every lane a site map owns. -/
def SiteMap.laneList (m : SiteMap) : List Nat := (List.range 32).filter (fun l => bitOf m.lanes l)

/-- R54: the site that owns a channel. -/
def State.chanSite (s : State) (c : Nat) : Option Nat := (s.maps.find? (fun p => p.2.chans.contains c)).map Prod.fst

/-- R54: the site that owns a supply channel. -/
def State.dpsSite (s : State) (d : Nat) : Option Nat := (s.maps.find? (fun p => p.2.supplies.contains d)).map Prod.fst

/-- R54: the site that owns a lane. -/
def State.laneSite (s : State) (l : Nat) : Option Nat := (s.maps.find? (fun p => p.2.laneList.contains l)).map Prod.fst

/-- R55: the channel at a pin index of a site. -/
def State.pinChan (s : State) (n i : Nat) : Option Nat := ((s.map n).pins[i]?).map Pin.chan

/-- R55: the pin count of a site. -/
def State.pinCount (s : State) (n : Nat) : Nat := (s.map n).pins.length

/-- R55: the pin of a channel's site that the channel belongs to (its index, and the pin), the lead's for a member. -/
def State.chanPin (s : State) (c : Nat) : Option (Nat × Pin) :=
  let lead := s.get (Reg.CH_ID.LEAD c)
  match s.chanSite c with
  | none => none
  | some n => ((s.map n).pins.zipIdx.find? (fun p => p.1.chan == lead)).map (fun p => (p.2, p.1))

/-- R64: the function of a channel's pin; an unassigned channel counts as Digital with nothing armed. -/
def State.chanFunc (s : State) (c : Nat) : Nat := s.get (Reg.CH_ID.FUNC c)

/-- R65: the compound that a channel is a member of. -/
def State.compOf (s : State) (c : Nat) : Option Comp :=
  match s.chanSite c with
  | none => none
  | some n => (s.map n).comps.find? (fun k => k.lead ≤ c && c < k.lead + k.size)

/-- R65: the channels of the compound that holds `c`, or `c` alone. -/
def State.compChans (s : State) (c : Nat) : List Nat := match s.compOf c with
  | some k => k.members
  | none => [c]

/-- R65: a compound member that is not its lead. -/
def State.isMember (s : State) (c : Nat) : Bool := match s.compOf c with
  | some k => k.lead != c
  | none => false

/-- R66: the gang (lead, size) that a supply channel belongs to; a single channel is its own. -/
def State.gangOf (s : State) (d : Nat) : Nat × Nat :=
  match s.dpsSite d with
  | none => (d, 1)
  | some n => ((s.map n).dps.find? (fun p => p.1 ≤ d && d < p.1 + p.2)).getD (d, 1)

/-- R66: the channels of the gang of `d`. -/
def State.gangChans (s : State) (d : Nat) : List Nat := (List.range (s.gangOf d).2).map (fun i => (s.gangOf d).1 + i)

/-- R61: the clone group (number and member mask) a site belongs to. -/
def State.groupOf (s : State) (n : Nat) : Option (Nat × Nat) := s.clones.find? (fun g => bitOf g.2 n)

/-- The members of a mask. -/
def maskList (m k : Nat) : List Nat := (List.range k).filter (fun i => bitOf m i)

/-- R151: the stream that feeds a site: its own, or stream 64 + g of its clone group. -/
def State.streamOf (s : State) (n : Nat) : Nat := match s.groupOf n with
  | some g => 64 + g.1
  | none => n

/-- R151: the sites a stream may feed. -/
def State.streamSites (s : State) (x : Nat) : List Nat :=
  if x < 64 then (if (s.groupOf x).isNone then [x] else [])
  else match s.clones.find? (fun g => g.1 + 64 == x) with
    | some g => maskList g.2 64
    | none => []

/-- R62: the bus a waveform source drives, and the reverse. -/
def State.routeOf (s : State) (src : Nat) : Option Nat := (s.routes.find? (fun r => r.1 == src)).map Prod.snd

/-- R60: the engine that serves a channel. -/
def State.engineOf (s : State) (c : Nat) : Nat := s.get (Reg.CH_ID.EE c)

/-- R125: the channel an engine serves: its own, or the one a spare has taken over; none when IDLE or RETIRED. -/
def State.chanOfEngine (s : State) (e : Nat) : Option Nat :=
  let r := s.get (Reg.EE_STAT.ROLE e)
  if r = 1 ∨ r = 2 then some (s.get (Reg.EE_STAT.CHANNEL e)) else none

/-- R303: the site that owns a waveform source, the owner of the pins on its bus. -/
def State.wfSite (s : State) (i : Nat) : Option Nat :=
  match s.routeOf i with
  | none => none
  | some b => (s.maps.find? (fun p => p.2.pins.any (fun q => q.func == 2 && q.chan / 256 == i / 8 && q.attr % 8 == b))).map Prod.fst

/-- The waveform-attached channels on the bus of a source (R302). -/
def State.busChans (s : State) (i : Nat) : List Nat :=
  match s.routeOf i with
  | none => []
  | some b => s.maps.flatMap (fun p => (p.2.pins.filter (fun q => q.func == 2 && q.chan / 256 == i / 8 && q.attr % 8 == b)).map Pin.chan)

/-- The site a CL word belongs to (R9, R191): channel, engine, TDC, supply, source and lane words go to the owner of the unit; follow
and sequencer words to their site. (DEDUCED, assumption 78.) -/
def State.wordSite (s : State) (a : Nat) : Option Nat :=
  if 0x001100 ≤ a ∧ a < 0x001140 then some (a - 0x001100)
  else if 0x001180 ≤ a ∧ a < 0x0011C0 then some (a - 0x001180)
  else if 0x031000 ≤ a ∧ a < 0x032000 then some ((a - 0x031000) / 0x40)
  else if 0x050000 ≤ a ∧ a < 0x058400 then (s.chanOfEngine ((a - 0x050000) / 0x20)).bind s.chanSite
  else if 0x060000 ≤ a ∧ a < 0x064200 then (s.chanOfEngine ((a - 0x060000) / 0x10)).bind s.chanSite
  else if 0x080000 ≤ a ∧ a < 0x090000 then s.chanSite ((a - 0x080000) / 0x40)
  else if 0x0A0000 ≤ a ∧ a < 0x0A0400 then s.dpsSite ((a - 0x0A0000) / 0x10)
  else if 0x0A1000 ≤ a ∧ a < 0x0A1200 then s.wfSite ((a - 0x0A1000) / 0x10)
  else if 0x0A2100 ≤ a ∧ a < 0x0A2200 then s.dpsSite ((a - 0x0A2100) / 4)
  else if 0x0B0000 ≤ a ∧ a < 0x0B2000 then s.laneSite ((a - 0x0B0000) / 0x100)
  else none

end Sys2Proof.Machine
end

