-- ==== Sys2Proof/Machine/Edge.lean ====
section
/-! DEFINITION. Tense memory and edge engines (R112 to R130): items, validity, the timing engines of a stream, the write
port and the view words, and the arithmetic from needle time to launch instant. -/

namespace Sys2Proof.Machine

/-- The key of item `i` of tense `t` of engine `e`. -/
def tenseKey (e t i : Nat) : Nat := e * 384 + t * 6 + i

/-- R116: an item of a tense, in the active bank or the shadow bank. -/
def State.tenseItem (s : State) (shadow : Bool) (e t i : Nat) : Nat :=
  sget (fun _ => 0) (if shadow then s.tensesShadow else s.tenses) (tenseKey e t i)

/-- Store one item in a bank. -/
def State.setItem (s : State) (shadow : Bool) (e t i v : Nat) : State :=
  if shadow then { s with tensesShadow := sset (fun _ => 0) s.tensesShadow (tenseKey e t i) v }
  else { s with tenses := sset (fun _ => 0) s.tenses (tenseKey e t i) v }

/-- A tense by its fields (R116); the U definitions U0 to U3 in order. -/
structure Tense where
  period : Nat
  format : Nat
  drvOn : Nat
  data : Nat
  drvOff : Nat
  ret : Nat
  stbOpen : Nat
  stbClose : Nat
  u : List Nat
  reserved : Nat
deriving DecidableEq, Repr

/-- R116: the six items of a tense taken apart. -/
def Tense.ofItems (it : Nat → Nat) : Tense where
  period := bitsOf (it 0) 0 32
  format := bitsOf (it 0) 32 2
  drvOn := bitsOf (it 1) 0 32
  data := bitsOf (it 1) 32 32
  drvOff := bitsOf (it 2) 32 32
  ret := bitsOf (it 2) 0 32
  stbOpen := bitsOf (it 3) 0 32
  stbClose := bitsOf (it 3) 32 32
  u := [bitsOf (it 4) 0 32, bitsOf (it 4) 32 32, bitsOf (it 5) 0 32, bitsOf (it 5) 32 32]
  reserved := bitsOf (it 0) 34 30

/-- R120: the engine whose tense memory an engine uses: the lead's for a member of a driver compound. -/
def State.tenseEngine (s : State) (e : Nat) : Nat :=
  match s.chanOfEngine e with
  | none => e
  | some c => match s.compOf c with
    | some k => if k.kind = 1 then s.engineOf k.lead else e
    | none => e

/-- The tense `t` of an engine. -/
def State.tense (s : State) (shadow : Bool) (e t : Nat) : Tense := Tense.ofItems (fun i => s.tenseItem shadow (s.tenseEngine e) t i)

/-- R117 rule 1: the least period of the part. -/
def minPeriod : Nat := if Config.gradeS16 then 4096 else 2048

/-- R117 rules 2 to 4 for edges given as signed ticks. -/
def edgesOk (period : Nat) (format : Nat) (drvOn data drvOff ret so sc : Int) : Bool :=
  0 ≤ drvOn && drvOn ≤ data && data < period && 0 ≤ drvOff && drvOff < period
  && (format == 0 || (data < ret && ret < period))
  && 0 ≤ so && so ≤ sc && so < 4 * (period : Int) && sc - so < period

/-- R116: BASE, reserved bits and SHIFT of a U definition. -/
def uBase (u : Nat) : Nat := bitsOf u 28 4
def uReserved (u : Nat) : Nat := bitsOf u 24 4
def uShift (u : Nat) : Int := signedOf 24 (bitsOf u 0 24)

/-- R117: a tense is valid. -/
def Tense.valid (t : Tense) : Bool :=
  minPeriod ≤ t.period
  && edgesOk t.period t.format t.drvOn t.data t.drvOff t.ret t.stbOpen t.stbClose
  && t.u.all (fun u => uBase u ≤ 0xB && uReserved u == 0 &&
      edgesOk t.period t.format (t.drvOn + uShift u) (t.data + uShift u) (t.drvOff + uShift u) (t.ret + uShift u)
        (t.stbOpen + uShift u) (t.stbClose + uShift u))

/-- R119: the channels whose engines time a stream: its pins other than PMU-only ones, or every pin when all are PMU-only. -/
def State.timingPins (s : State) (x : Nat) : List Nat :=
  let pins := (s.streamSites x).flatMap (fun n => (s.map n).pins)
  let t := pins.filter (fun p => p.func != 1)
  (if t.isEmpty then pins else t).map Pin.chan

/-- R119: the timing engines of a stream. -/
def State.timingEngines (s : State) (x : Nat) : List Nat := (s.timingPins x).map (fun c => s.engineOf c)

/-- Every engine of a stream: those of all its pins and of the members of driver compounds. -/
def State.streamEngines (s : State) (x : Nat) : List Nat :=
  (s.streamSites x).flatMap (fun n => (s.map n).chans.map (fun c => s.engineOf c))

/-- R122: tense `t` of the active bank is valid in every timing engine of the stream, with one PERIOD. -/
def State.tenseFits (s : State) (x t : Nat) : Bool :=
  let es := s.timingEngines x
  es.all (fun e => (s.tense false e t).valid && (s.tense false e t).period == (s.tense false (es.headD 0) t).period)

/-- R122, R123: the PERIOD of a tense on a stream. -/
def State.streamPeriod (s : State) (x t : Nat) : Nat := (s.tense false ((s.timingEngines x).headD 0) t).period

/-- R118: why a value for the tense port is out of range. -/
def tenseWriteBad (w : Word) : Bool :=
  let item := wget w 67 64
  let data := wget w 63 0
  item > 5 || wget w 127 76 != 0 || wget w 69 68 != 0
  || (item == 0 && (bitsOf data 34 30 != 0 || bitsOf data 0 32 < minPeriod))
  || ((item == 4 || item == 5) && (uBase (bitsOf data 0 32) > 0xB || uBase (bitsOf data 32 32) > 0xB
      || uReserved (bitsOf data 0 32) != 0 || uReserved (bitsOf data 32 32) != 0))

/-- R118: store the item that a port value names, in the active or the shadow bank. -/
def State.tenseWrite (s : State) (shadow : Bool) (e : Nat) (w : Word) : State :=
  s.setItem shadow e (wget w 75 70) (wget w 67 64) (wget w 63 0)

/-- R130: the tense view words EE_TVA, EE_TVB and EE_TVC of an engine, for the tense and bank of EE_TRSEL. -/
def State.tenseView (s : State) (e which : Nat) : Word :=
  let t := s.tense (s.flag (Reg.EE_TRSEL.BANK e)) e (s.get (Reg.EE_TRSEL.TENSE e))
  match which with
  | 0 => BitVec.ofNat 128 (t.data * 2 ^ 96 + t.drvOn * 2 ^ 64 + b2n t.valid * 2 ^ 63 + t.format * 2 ^ 32 + t.period)
  | 1 => BitVec.ofNat 128 (t.stbClose * 2 ^ 96 + t.stbOpen * 2 ^ 64 + t.drvOff * 2 ^ 32 + t.ret)
  | _ => BitVec.ofNat 128 ((t.u.getD 3 0) * 2 ^ 96 + (t.u.getD 2 0) * 2 ^ 64 + (t.u.getD 1 0) * 2 ^ 32 + t.u.getD 0 0)

/-- R112: cycle, phase and vernier of a tick within its beat. -/
def edgeParts (t : Nat) : Nat × Nat × Nat := (t / 2048, t % 2048 / 32, t % 32)

/-- R105, R113: the needle time (in ticks) of an edge of a vector that starts at `v`, with offset `e`, the shift of a U code in it; the engine of a driver
compound's member runs the lead's tense with the lead's USER_OFS. (DEDUCED, assumption 44.) -/
def State.needleTime (s : State) (eng : Nat) (v : Nat) (e : Int) : Int := v + e + s.getS (Reg.EE_CFG.USER_OFS (s.tenseEngine eng))

/-- R113: the instant (in ticks) at which the engine launches a drive edge due at the needle at `n`. (DEDUCED, assumption 44.) -/
def State.launchTime (s : State) (eng : Nat) (n : Int) : Int :=
  n - (s.get (Reg.EE_DESKEW.TRACE_DRV eng) + s.get (Reg.EE_DESKEW.CAL_DRV eng))

/-- R113: the instant (in ticks) at which the comparator samples a strobe due at the needle at `n`. -/
def State.sampleTime (s : State) (eng : Nat) (n : Int) : Int :=
  n + s.get (Reg.EE_DESKEW.TRACE_RCV eng) + s.get (Reg.EE_DESKEW.CAL_RCV eng)

end Sys2Proof.Machine
end

