-- ==== Sys2Proof/Machine/Slot.lean ====
section
/-! DEFINITION. Clause slots (R232, R234, R235, R242, R252): their registers, the end of a clause with its result, and what a site's
sequencer learns of it. -/

namespace Sys2Proof.Machine

/-- A slot beside its registers. -/
def State.slot (s : State) (k : Nat) : ClSlot := sget (fun _ => ClSlot.init) s.slots k
/-- Change a slot. -/
def State.setSlot (s : State) (k : Nat) (c : ClSlot) : State := { s with slots := sset (fun _ => ClSlot.init) s.slots k c }
/-- R235: the state of a slot. -/
def State.slotState (s : State) (k : Nat) : Nat := s.get (Reg.CL_SLOT_STAT.STATE k)
/-- The clause of a slot is a multi-device one. -/
def State.slotMulti (s : State) (k : Nat) : Bool := s.flag (Reg.CL_SET.MULTI k)
/-- Its tag and its full stop. -/
def State.slotTag (s : State) (k : Nat) : Nat := s.get (Reg.CL_SET.TAG k)
def State.slotFs (s : State) (k : Nat) : Nat := s.get (Reg.CL_SET.FULL_STOP k)
/-- The site that owns a sequencer's slot. -/
def State.slotOwner (s : State) (k : Nat) : Option Nat :=
  if s.flag (Reg.CL_SLOT_STAT.SEQ k) then some (s.get (Reg.CL_SLOT_STAT.SITE k)) else none

/-- R234: the sites that a list of actions names. -/
def State.namedSites (s : State) (acts : List Action) : List Nat := (acts.filterMap (fun x => s.wordSite x.addr)).eraseDups

/-- R234: an open clause in one of the given states names site `n`. -/
def State.clauseNames (s : State) (states : List Nat) (n : Nat) : Bool :=
  (List.range 16).any (fun k => states.contains (s.slotState k) && (s.namedSites (s.slot k).acts).contains n)

/-- R232: the action entries in use. -/
def State.poolUsed (s : State) : Nat :=
  ((List.range 16).map (fun k => if [Slot.OPEN, Slot.PREPARING, Slot.PREPARED].contains (s.slotState k) then (s.slot k).acts.length else 0)).sum
    + s.pendActs.length

/-- R235: a slot becomes FREE. -/
def State.freeSlot (s : State) (k : Nat) : State := (s.setReg (Reg.CL_SLOT_STAT.word k) 0).setSlot k ClSlot.init

/-- R232: the lowest-numbered FREE slot. -/
def State.freeSlotIndex (s : State) : Option Nat := (List.range 16).find? (fun k => s.slotState k == Slot.FREE)

/-- R118, R242: the shadow bank returns to what it held before the clause's first action on it. -/
def State.restoreTenses (s : State) (k : Nat) : State :=
  { s with tensesShadow := (s.slot k).undo.foldl (fun m p => sset (fun _ => 0) m p.1 p.2) s.tensesShadow }

/-- R252, R486: DETAIL of a log entry about a clause. -/
def clauseDetail (slot tag low : Nat) : Nat := slot % 16 * 2 ^ 36 + tag % 2 ^ 16 * 2 ^ 20 + low % 2 ^ 20

/-- R192, R238: the sequencer that waits for the decision of the clause in slot `k` learns its result. -/
def State.tellOwner (s : State) (k result : Nat) : State :=
  match s.slotOwner k with
  | none => s
  | some n => match (s.seq n).wait with
    | .clc xd j fs none => if j = k then s.setSeq n { s.seq n with wait := .clc xd j fs (some result) } else s
    | _ => s

/-- R253: the outcome counter of a result. -/
def State.countResult (s : State) (result : Nat) : State :=
  if result = Cl.OK then s.inc Reg.CL_CNT.COMMITTED
  else if result = Cl.ABORTED ∨ result = Cl.LOST then s.inc Reg.CL_CNT.ABORTED
  else if Cl.NOT_CL ≤ result then s.inc Reg.CL_CNT.REFUSED
  else s

/-- R235, R242, R252: the clause in slot `k` ends with a result: its actions are gone, a host's slot is DONE and a sequencer's FREE. -/
def State.endClause (s : State) (k result : Nat) : State :=
  let c := s.slot k
  let s1 := if result = Cl.OK then s else s.restoreTenses k
  let s2 := if c.dec.isNone then s1.set (Reg.CL_SLOT_STAT.DEC_BEAT k) (s.now % 2 ^ 32) else s1
  let s3 := s2.countResult result
  let s4 := if result = Cl.OK then s3
    else s3.log Src.CL (Lc.clause result) (clauseDetail k (s.slotTag k) (s.get (Reg.CL_SLOT_STAT.FIRST_BAD k))) 5
  match s.slotOwner k with
  | some _ => (s4.tellOwner k result).freeSlot k
  | none => (((s4.set (Reg.CL_SLOT_STAT.RESULT k) result).set (Reg.CL_SLOT_STAT.STATE k) Slot.DONE).setSlot k { c with undo := [] }).intr
      Intr.CLAUSE_DONE

/-- The open clause of a site's sequencer, in its seat and in SQ_STAT.CLAUSE. -/
def State.setOpen (s : State) (n : Nat) (k : Option Nat) (span : Bool) : State :=
  (s.setSeq n { s.seq n with clause := k, span := span }).set (Reg.SQ_STAT.CLAUSE n) (b2n k.isSome)

/-- R191: the open clause of a site is discarded. -/
def State.discardOpen (s : State) (n : Nat) : State :=
  match (s.seq n).clause with
  | none => s
  | some k => (s.endClause k Cl.DISCARDED).setOpen n none false

end Sys2Proof.Machine
end

