-- ==== Sys2Proof/Machine/Site.lean ====
section
/-! DEFINITION. Site states, hold causes and resume tokens (R198 to R203), shared by everything that holds, trips, stops or
starts a site. -/

namespace Sys2Proof.Machine

/-- R198: move a site to a state, with the counter and interrupt sources of R205 and R466. -/
def State.setSite (s : State) (n st : Nat) : State :=
  let old := s.siteState n
  let s1 := s.set (Reg.SQ_STAT.STATE n) st
  let s2 := if st = Site.HELD ∧ old ≠ Site.HELD then s1.inc (Reg.SQ_CNT.HOLDS n) else s1
  let s3 := if (st = Site.HELD ∨ st = Site.TRIPPED) ∧ old ≠ st then s2.intr Intr.SITE_HELD else s2
  if st = Site.LOADED ∧ (old = Site.RUNNING ∨ old = Site.HELD ∨ old = Site.TRIPPED) then s3.intr Intr.SITE_END else s3

/-- R183, R206: the word of the lexicon entry of an opcode. -/
def State.lexEntry (s : State) (op : Nat) : Word := s.reg (Reg.LX_ENT.word op)

/-- R201: the lexicon marks the verb of an opcode as resumable. -/
def State.resumable (s : State) (op : Nat) : Bool := wget (s.lexEntry op) 17 17 = 1

/-- R201, R219: a statement stopped at a comma point leaves its token; `mwa` is the microword address of that point. -/
def State.storeToken (s : State) (n mwa : Nat) : State :=
  let op := s.get (Reg.SQ_STAT.OP n)
  let w : Nat := 2 ^ 127 + b2n (s.resumable op) * 2 ^ 126 + s.get (Reg.SQ_STAT.PC n) * 2 ^ 96 + op % 256 * 2 ^ 88
    + mwa % 65536 * 2 ^ 64 + s.now
  (s.setReg (Reg.SQ_TOKEN.word n) (BitVec.ofNat 128 w)).set (Reg.SQ_STAT.TOKEN n) 1

/-- Clear a site's token. -/
def State.clearToken (s : State) (n : Nat) : State := (s.setReg (Reg.SQ_TOKEN.word n) 0).set (Reg.SQ_STAT.TOKEN n) 0

/-- End the measurement that a statement of a site runs, with no result: the units it has taken become free (R201, R298). (DEDUCED, assumption 62.) -/
def State.cancelUnits (s : State) (n : Nat) : State :=
  let s1 := s.forL ((s.pmuMeas.filter (fun p => p.2.owner == some n)).map Prod.fst) (fun c t => t.set (Reg.CH_PMUSTAT.BUSY c) 0)
  let s3 := s1.forL ((s.tdcs.filter (fun p => p.2.owner == some n)).map Prod.fst) (fun k t => t.set (Reg.TM_STAT.STATE k) 0)
  { s3 with
    pmuMeas := s3.pmuMeas.filter (fun p => p.2.owner != some n)
    dpsMeas := s3.dpsMeas.filter (fun p => p.2.owner != some n)
    tdcs := s3.tdcs.filter (fun p => p.2.owner != some n)
    ltests := s3.ltests.filter (fun p => p.2.owner != n) }

/-- R201: what the sequencer does when its site leaves RUNNING for HELD or TRIPPED: a wait is stopped in place and leaves its token
(every beat of a wait is a comma point, R190); a vendor measurement is stopped within the beat, its token carrying an
address that the manual leaves open; a customer verb runs on to its first comma point. (DEDUCED, assumption 63.) -/
def State.stopIssue (s : State) (n : Nat) : State :=
  let q := s.seq n
  match q.wait with
  | .none => s
  | .units _ _ _ _ =>
    if q.verb.running then s
    else ((s.storeToken n (s.freeVal.toNat % 65536)).bumpFree.cancelUnits n).setSeq n { q with suspended := true }
  | _ =>
    if q.verb.running then s
    else ((s.storeToken n (s.freeVal.toNat % 65536)).bumpFree).setSeq n { q with suspended := true }

/-- R200: set a hold cause. The first cause takes a RUNNING site to HELD. (DEDUCED, assumption 63.) -/
def State.hold (s : State) (n cause : Nat) : State :=
  let c := s.get (Reg.SQ_STAT.CAUSES n)
  let s1 := s.set (Reg.SQ_STAT.CAUSES n) (c ||| 2 ^ cause)
  if s.siteState n = Site.RUNNING then (s1.setSite n Site.HELD).stopIssue n else s1

/-- R191, R198, R220: a guard trip takes a RUNNING or HELD site to TRIPPED and discards its open clause; a RUNNING one stops issue. -/
def State.tripSite (s : State) (n : Nat) : State :=
  if s.siteState n = Site.RUNNING then ((s.discardOpen n).setSite n Site.TRIPPED).stopIssue n
  else if s.siteState n = Site.HELD then (s.discardOpen n).setSite n Site.TRIPPED else s

/-- R195: one of the units that the measuring statement of a site runs has ended. -/
def State.unitDone (s : State) (n : Nat) (fail : Bool) : State :=
  let q := s.seq n
  match q.wait with
  | .units xd left nf done => s.setSeq n { q with wait := .units xd (left - 1) (nf + b2n fail) (done || left ≤ 1) }
  | _ => s

/-! ### X registers and the end of a statement -/

/-- R179: register Xk of a site, X0 reading 0. -/
def State.getX (s : State) (n k : Nat) : Word := if k = 0 then 0 else s.reg (Reg.SQ_XREG.word n k)
/-- R179: write Xk; a write to X0 is discarded. -/
def State.setX (s : State) (n k : Nat) (v : Word) : State := if k = 0 then s else s.setReg (Reg.SQ_XREG.word n k) v
/-- R186: the status register. -/
def State.setSt (s : State) (n st : Nat) : State := s.set (Reg.SQ_STAT.ST n) st
/-- R179: the program counter holds 20 bits. -/
def State.setPc (s : State) (n pc : Nat) : State := s.set (Reg.SQ_STAT.PC n) (pc % 2 ^ 20)
/-- The statement retires: the PC goes to the next one. (DEDUCED, assumption 54.) -/
def State.retire (s : State) (n : Nat) : State := s.setPc n (s.get (Reg.SQ_STAT.PC n) + 1)

/-- R212: the statement of a verb retires; the PC goes where the verb left it. (DEDUCED, assumption 59.) -/
def State.verbRetire (s : State) (n : Nat) : State :=
  let q := s.seq n
  let pc := q.verb.nextPc.getD (s.get (Reg.SQ_STAT.PC n) + 1)
  let s1 := (s.setPc n pc).setSeq n { q with verb := Verb.init }
  if q.span then s1 else s1.discardOpen n

/-- R213: the command of a verb completes with its outcome and result. (DEDUCED, assumption 60.) -/
def State.cmdDone (s : State) (n : Nat) (ok : Bool) (result : Word) : State :=
  let q := s.seq n
  let s1 := s.setSeq n { q with verb := { q.verb with done := true, ok := ok, result := result, cmd := none, busy := false, retire := false } }
  if q.verb.retire then s1.verbRetire n else s1

/-- A wait of a site ends with a value: a statement's goes to Xd with status `st` and the statement retires, a command's completes. -/
def State.finishWait (s : State) (n xd : Nat) (value : Word) (st : Nat) (ok : Bool) : State :=
  let q := s.seq n
  let s1 := s.setSeq n { q with wait := .none }
  if q.verb.running then s1.cmdDone n ok value else ((s1.setX n xd value).setSt n st).retire n

/-- R184, R189, R219: the wait of a site ends with no value (WAITB, ARMB). -/
def State.finishBeat (s : State) (n : Nat) : State :=
  let q := s.seq n
  let s1 := s.setSeq n { q with wait := .none }
  if q.verb.running then s1.cmdDone n true 0 else s1.retire n

/-- R190, R219: at resumption an armed wait of a verb whose event has come completes at once, and so does a follow wait whose match came
while the site was held. -/
def State.resumeWait (s : State) (n : Nat) : State :=
  match (s.seq n).wait with
  | .follow xd _ _ (some stamp) => s.finishWait n xd (BitVec.ofNat 128 stamp) St.OK true
  | .beat t => if t ≤ s.now then s.finishBeat n else s
  | _ => s

/-- R201, R219: what the sequencer does when its site re-enters RUNNING, by its token. -/
def State.resumeSeq (s : State) (n : Nat) : State :=
  let q := s.seq n
  if s.get (Reg.SQ_STAT.TOKEN n) = 0 then s.setSeq n { q with suspended := false }
  else if s.flag (Reg.SQ_TOKEN.RESUMABLE n) then
    ((s.clearToken n).setSeq n { q with suspended := false, verb := { q.verb with recheck := true, words := 0, checkAt := s.now } }).resumeWait n
  else
    let s1 := (s.event n Ev.ABANDONED (s.get (Reg.SQ_TOKEN.MWA n))).inc Reg.LX_CNT.ABANDON
    let s2 := (s1.setSt n St.ABANDONED).setPc n (s.get (Reg.SQ_TOKEN.STMT n) + 1)
    ((s2.clearToken n).cancelUnits n).setSeq n { q with suspended := false, wait := .none, verb := Verb.init }

/-- A stream beside its registers. -/
def State.stream (s : State) (x : Nat) : Stream := sget (fun _ => Stream.init) s.streams x
/-- Change a stream. -/
def State.setStream (s : State) (x : Nat) (q : Stream) : State := { s with streams := sset (fun _ => Stream.init) s.streams x q }
/-- R152: the state of a stream. -/
def State.streamState (s : State) (x : Nat) : Nat := s.get (Reg.SO_STR_STAT.STATE x)
def Str.IDLE : Nat := 0
def Str.PRIMING : Nat := 1
def Str.PLAYING : Nat := 2
def Str.PAUSED : Nat := 3
def Str.STOPPED : Nat := 4

/-- R163: a site is released: its stream, if it is paused, may go on from the next beat. -/
def State.releaseStream (s : State) (n : Nat) : State :=
  let x := s.streamOf n
  if s.streamState x = Str.PAUSED ∧ (s.stream x).start.isNone then s.setStream x { s.stream x with start := some ((s.now + 1) * 65536) } else s

/-- R200: clear hold causes; a HELD site with none left returns to RUNNING. -/
def State.clearCauses (s : State) (n mask : Nat) : State :=
  let c := s.get (Reg.SQ_STAT.CAUSES n)
  let c' := c &&& (0x3FF ^^^ (mask % 1024))
  let s1 := s.set (Reg.SQ_STAT.CAUSES n) c'
  if s.siteState n = Site.HELD ∧ c' = 0 then ((s1.setSite n Site.RUNNING).resumeSeq n).releaseStream n else s1

/-- The causes that RESUME clears (R200): all but SYNC, THERMAL and LEASE. -/
def resumeMask : Nat := 0x3FF - 2 ^ Cause.SYNC - 2 ^ Cause.THERMAL - 2 ^ Cause.LEASE

end Sys2Proof.Machine
end

