-- ==== Sys2Proof/Machine/PatMem.lean ====
section
/-! DEFINITION. Pattern memory regions and leases (R134 to R147), and the reading and checking of descriptors (R138 to
R143). -/

namespace Sys2Proof.Machine

/-! ### Regions -/

/-- R134: a region is declared. -/
def State.rgnValid (s : State) (i : Nat) : Bool := s.flag (Reg.PM_RGN.VALID i)
/-- R134: its kind. -/
def State.rgnKind (s : State) (i : Nat) : Nat := s.get (Reg.PM_RGN.KIND i)
/-- Its first byte and the byte after its last. -/
def State.rgnLo (s : State) (i : Nat) : Nat := s.get (Reg.PM_RGN.BASE i) * 4096
def State.rgnHi (s : State) (i : Nat) : Nat := (s.get (Reg.PM_RGN.BASE i) + s.get (Reg.PM_RGN.SIZE i)) * 4096

/-- R134, R135: the declared region of a kind that holds all of the bytes [a, a + k). -/
def State.regionOf (s : State) (kind a k : Nat) : Option Nat :=
  (List.range 256).find? (fun i => s.rgnValid i && s.rgnKind i == kind && s.rgnLo i ≤ a && a + k ≤ s.rgnHi i)

/-! ### Streams -/

/-- R137: the row length of a stream, from its width. -/
def rowBytes (w : Nat) : Nat := 8 * ceilDiv w 16
/-- R151: the width of a stream. -/
def State.streamWidth (s : State) (x : Nat) : Nat := s.pinCount ((s.streamSites x).headD 64)

/-- R154: the blocks of 64 bytes that a stream's two halves take. -/
def State.fbBlocks (s : State) (x : Nat) : Nat :=
  ceilDiv (2 * s.get (Reg.SO_STR_CFG.FB_VEC x) * 256 * rowBytes (s.streamWidth x)) 64

/-! ### Leases (R144) -/

/-- Whether address `a` lies in region `i`. -/
def State.inRgn (s : State) (i a : Nat) : Bool := s.rgnLo i ≤ a && a < s.rgnHi i

/-- A descriptor, or the frame it names, lies in region `i`. -/
def Desc.inRgn (s : State) (i : Nat) (d : Desc) : Bool :=
  s.inRgn i d.addr || s.inRgn i d.data || (d.tcol && s.inRgn i d.column)

/-- R144: the stream still refers to a PATTERN region: a buffered frame or a descriptor read ahead lies in it, or a list
it will still read does. -/
def State.streamUses (s : State) (x i : Nat) : Bool :=
  let q := s.stream x
  let live := s.streamState x == Str.PRIMING || s.streamState x == Str.PLAYING || s.streamState x == Str.PAUSED
  live && (q.queue.any (fun d => d.inRgn s i)
    || (q.inc.any (fun h => h.desc.inRgn s i)) || (q.cur.any (fun h => h.desc.inRgn s i))
    || (!q.rdone && s.inRgn i q.rpos)
    || q.rstack.any (fun r => (!r.fin && s.inRgn i (r.caller + 32)) || (1 < r.left && s.inRgn i r.target)))

/-- A site between its arm and its return to LOADED (R144). -/
def State.siteLive (s : State) (n : Nat) : Bool :=
  [Site.ARMED, Site.RUNNING, Site.HELD, Site.TRIPPED].contains (s.siteState n)

/-- R144: the site holds a lease on region `i`. -/
def State.holds (s : State) (n i : Nat) : Bool :=
  s.rgnValid i &&
  (match s.rgnKind i with
   | 0 => s.streamUses (s.streamOf n) i
   | 1 => s.siteLive n && (s.seq n).region == some i
   | 2 => s.siteLive n && s.flag (Reg.SO_FC_CFG.EN n) && s.inRgn i (s.get (Reg.SO_FC_CFG.BASE n))
   | _ => false)

/-- R144: the holders of a region. (DEDUCED, assumption 25.) -/
def State.holders (s : State) (i : Nat) : List Nat := (List.range 64).filter (fun n => s.holds n i)

/-- R144: the region is leased. -/
def State.leased (s : State) (i : Nat) : Bool :=
  !(s.holders i).isEmpty ||
    (s.rgnValid i && s.rgnKind i == 3 && s.flag Reg.LG_OVF.EN && s.inRgn i (s.get Reg.LG_OVF.BASE))

/-- The holder mask of a list of sites. -/
def siteMask (l : List Nat) : Nat := l.foldl (fun m n => m ||| 2 ^ n) 0

/-- Bring PM_LEASE_i up to date with the leases in force (R144, R147). (DEDUCED, assumption 25.) -/
def State.refreshLease (s : State) (i : Nat) : State :=
  let l := s.leased i
  let hs := s.holders i
  let acq := if l && !s.flag (Reg.PM_LEASE.HELD i) then s.now else s.get (Reg.PM_LEASE.ACQ_BEAT i)
  s.setReg (Reg.PM_LEASE.word i) (if l ∨ acq ≠ 0 then
    BitVec.ofNat 128 (siteMask hs * 2 ^ 64 + acq % 2 ^ 32 * 2 ^ 32 + b2n l * 2 ^ 7 + hs.length) else 0)

/-- Bring every PM_LEASE word up to date; a region no rule has declared has none. -/
def State.refreshLeases (s : State) : State :=
  s.forN 256 (fun i t => if t.rgnValid i || t.flag (Reg.PM_LEASE.HELD i) then t.refreshLease i else t)

/-- R136: a region write that is refused, and its code. -/
def State.rgnRefusal (s : State) (i : Nat) (w : Word) : Option Nat :=
  let valid := wget w 0 0 = 1
  let base := wget w 54 32; let size := wget w 87 64
  let cur := s.reg (Reg.PM_RGN.word i)
  if w = cur then none
  else if s.leased i then some 1
  else if valid && (List.range 256).any (fun j => j != i && s.rgnValid j &&
      base * 4096 < s.rgnHi j && s.rgnLo j < (base + size) * 4096) then some 2
  else if valid && (size = 0 || 8388608 < base + size) then some 3
  else none

/-- The bits of PM_RGN_i that are fields. -/
def rgnMask : Word := accMask .rw 0x048100

/-- R136: a PM_RGN_i write. -/
def State.rgnWrite (s : State) (port : Port) (i : Nat) (w0 : Word) : State :=
  let w := w0 &&& rgnMask
  let s1 := s.set Reg.PM_STAT.LAST_INDEX i
  match s.rgnRefusal i w with
  | some c => ((s1.set Reg.PM_STAT.LAST_RESULT c).reject port (Reg.PM_RGN.word i) Src.PM (Lc.region c) i)
  | none => ((s1.set Reg.PM_STAT.LAST_RESULT 0).setReg (Reg.PM_RGN.word i) w).refreshLease i

/-- R133: an uncorrectable error is met: counted, and PM_STAT.UNCORR set. (DEDUCED, assumption 27; DESIGN CHOICE, assumption 28.) -/
def State.uncorrMet (s : State) : State := (s.inc Reg.PM_CNT.UNCORR).set Reg.PM_STAT.UNCORR 1

/-! ### Descriptors -/

/-- R138: the field of a descriptor's bytes. -/
def descField (b : Nat) (off hi lo : Nat) : Nat := bitsOf b (8 * off + lo) (hi + 1 - lo)

/-- R138: a descriptor's fields from its 32 bytes as a number. -/
def Desc.ofBytes (addr : Nat) (stack : List RetPt) (b : Nat) : Desc where
  addr := addr
  kind := descField b 0 3 0
  tcol := descField b 0 5 5 = 1
  stat := descField b 0 6 6 = 1
  fin := descField b 0 4 4 = 1
  tense := descField b 1 5 0
  count := descField b 2 11 0 + 1
  reps := descField b 4 23 0
  data := descField b 8 63 0
  column := descField b 16 63 0
  frameId := descField b 24 31 0
  err := 0
  stack := stack

/-- R143: the checks of a descriptor that has been read, in their order; the first failure's reason, 0 for none. -/
def State.descCheck (s : State) (x : Nat) (d : Desc) (bs : List Byte) (uncorr : Bool) : Nat :=
  let b := leNat bs
  let r := rowBytes (s.streamWidth x)
  let bytes := if d.kind = 2 then r else d.count * r
  let pat := fun a k => (s.regionOf 0 a k).isSome
  if crc32c (bs.take 30) % 65536 ≠ descField b 30 15 0 then 0x01
  else if uncorr then 0x02
  else if d.kind = 0 ∨ 4 < d.kind then 0x03
  else if descField b 0 7 7 ≠ 0 ∨ descField b 1 7 6 ≠ 0 ∨ descField b 2 15 12 ≠ 0 ∨ descField b 4 31 24 ≠ 0 ∨ descField b 28 15 0 ≠ 0
      ∨ ((d.kind = 2 ∨ d.kind = 4) ∧ (d.tcol ∨ d.stat)) ∨ (d.kind = 3 ∧ d.stat)
      ∨ (d.kind = 4 ∧ (d.tense ≠ 0 ∨ d.count ≠ 1)) ∨ (d.tcol = false ∧ d.column ≠ 0) then 0x04
  else if d.kind ≠ 4 ∧ d.count < 256 then 0x05
  else if (if d.kind ≤ 2 then d.reps ≠ 0 else d.reps = 0) then 0x06
  else if (if d.kind = 4 then d.data % 32 ≠ 0 else d.data % 64 ≠ 0) ∨ (d.tcol ∧ d.column % 64 ≠ 0) then 0x07
  else if (if d.kind = 4 then !pat d.data 32 else !pat d.data bytes) || (d.tcol && !pat d.column d.count) then 0x08
  else if d.kind = 4 ∧ 3 ≤ d.stack.length then 0x09
  else 0

/-- R143: read the descriptor at `a` for stream `x`: one outside every PATTERN region is not read and fails with REGION. -/
def State.readDesc (s : State) (x a : Nat) (stack : List RetPt) : Desc :=
  if (s.regionOf 0 a 32).isNone then { (Desc.ofBytes a stack 0) with err := 0x08 }
  else
    let bs := s.bytes a 32
    let d := Desc.ofBytes a stack (leNat bs)
    { d with err := s.descCheck x d bs (s.anyUncorr a 32) }

/-- R140: where a stream reads on after the list in hand has ended: a CALL with passes left starts its list again, one without
returns to the list that holds it; none when the outermost list has returned. -/
def returnFrom : List RetPt → Option (Nat × List RetPt)
  | [] => none
  | r :: rs => if 1 < r.left then some (r.target, { r with left := r.left - 1 } :: rs)
    else if r.fin then returnFrom rs else some (r.caller + 32, rs)

/-- R140: the read position after descriptor `d`. -/
def nextRead (d : Desc) (stack : List RetPt) : Option (Nat × List RetPt) :=
  if d.kind = 4 then some (d.data, ⟨d.addr, d.fin, d.data, d.reps⟩ :: stack)
  else if d.fin then returnFrom stack
  else some (d.addr + 32, stack)

/-- R155: the stream reads its next descriptor, up to eight ahead of play; a failing one ends the reading (R143). -/
def State.descRead (s : State) (x : Nat) : State :=
  let q := s.stream x
  if q.rdone ∨ 8 ≤ q.queue.length ∨ q.queue.any (fun d => d.err != 0) then s
  else
    let d := s.readDesc x q.rpos q.rstack
    let s0 := if (s.regionOf 0 q.rpos 32).isSome then s.memReq q.rpos 32 else s
    let s1 := if (s.regionOf 0 q.rpos 32).isSome && s.anyUncorr q.rpos 32 then s0.uncorrMet else s0
    if d.err ≠ 0 then s1.setStream x { q with queue := q.queue ++ [d] }
    else match nextRead d q.rstack with
      | none => s1.setStream x { q with queue := q.queue ++ [d], rdone := true }
      | some (a, st) => s1.setStream x { q with queue := if d.kind = 4 then q.queue else q.queue ++ [d], rpos := a, rstack := st }

/-! ### Lease violations (R145, R146) -/

/-- The regions among 0 to 255 that the bytes [a, a + k) reach. -/
def State.rgnsReached (s : State) (a k : Nat) : List Nat :=
  (List.range 256).filter (fun i => s.rgnValid i && a < s.rgnHi i && s.rgnLo i < a + k)

/-- R145, R146: the reports of a violating write: PM_VIOL takes the first since it was re-armed. -/
def State.violRecord (s : State) (i addr : Nat) : State :=
  let armed := !s.flag Reg.PM_STAT.VIOLATION && !s.flag Reg.PM_STAT.VIOL_DROP
  let s1 := if armed then s.setReg Reg.PM_VIOL.word
      (BitVec.ofNat 128 (s.now % 2 ^ 64 * 2 ^ 64 + i % 256 * 2 ^ 56 + s.rgnKind i % 4 * 2 ^ 54 + addr % 2 ^ 35)) else s
  (s1.inc Reg.PM_CNT.VIOL).log Src.PM (Lc.event Ev.LEASE_VIOLATION) (bitsOf addr 3 32 * 256 + i % 256) 2

/-- R145 step 3: every stream that holds region `i` stops at the end of the frame in play. -/
def State.violStreams (s : State) (i addr : Nat) : State :=
  s.forN 80 (fun x t => if t.streamUses x i then t.setStream x { t.stream x with stop := some addr } else t)

/-- R145 step 4: every site that holds a violated PROGRAM region: LEASE held, its stream stopping too. -/
def State.violSites (s : State) (i addr : Nat) : State :=
  s.forL (s.holders i) (fun n t =>
    if t.rgnKind i = 1 then
      let t1 := if (t.streamState (t.streamOf n) = Str.PRIMING ∨ t.streamState (t.streamOf n) = Str.PLAYING ∨ t.streamState (t.streamOf n) = Str.PAUSED)
        ∧ (t.stream (t.streamOf n)).members.contains n then t.setStream (t.streamOf n) { t.stream (t.streamOf n) with stop := some addr } else t
      t1.hold n Cause.LEASE
    else t)

/-- R464, R133: write enabled bytes as the bulk port does: whole 32-byte units remove an uncorrectable mark; a merge into a marked
unit keeps it. -/
def State.writeLanes : State → Nat → List ByteLane → State
  | s, _, [] => s
  | s, a, none :: bs => s.writeLanes (a + 1) bs
  | s, a, some b :: bs => (s.setByte a b).writeLanes (a + 1) bs

/-- The 32-byte units that [a, a + k) touches. -/
def unitsOf (a k : Nat) : List Nat := if k = 0 then [] else (List.range ((a + k - 1) / 32 - a / 32 + 1)).map (fun i => a / 32 + i)

/-- Unit `u` is wholly covered by the enabled bytes of a write at `a`. -/
def unitCovered (a : Nat) (bs : List ByteLane) (u : Nat) : Bool :=
  (List.range 32).all (fun i => a ≤ 32 * u + i && ((bs[32 * u + i - a]?).getD none).isSome)

/-- Unit `u` has some enabled byte of a write at `a`. -/
def unitTouched (a : Nat) (bs : List ByteLane) (u : Nat) : Bool :=
  (List.range 32).any (fun i => a ≤ 32 * u + i && ((bs[32 * u + i - a]?).getD none).isSome)

/-- R133: a write into memory: the bytes, the marks it removes, and the report of a merge into a marked unit. -/
def State.memWrite (s : State) (a : Nat) (bs : List ByteLane) : State :=
  let us := unitsOf a bs.length
  let merged := us.any (fun u => s.uncorr.contains u && unitTouched a bs u && !unitCovered a bs u)
  let s1 := { (s.memReq a bs.length).writeLanes a bs with uncorr := s.uncorr.filter (fun u => !(us.contains u && unitCovered a bs u)) }
  if merged then s1.uncorrMet else s1

/-- A merge into an uncorrectable unit would happen (HL_STAT.UNCORR under R464). -/
def State.mergesBad (s : State) (a : Nat) (bs : List ByteLane) : Bool :=
  (unitsOf a bs.length).any (fun u => s.uncorr.contains u && unitTouched a bs u && !unitCovered a bs u)

/-- R145, R146: a bulk write of bytes at `a` into pattern memory, leases checked first; the second component tells whether it was
dropped. -/
def State.bulkStore (s : State) (a : Nat) (bs : List ByteLane) : State × Bool :=
  let hit := (s.rgnsReached a bs.length).filter (fun i => s.leased i)
  let prot := hit.filter (fun i => 2 ≤ s.rgnKind i)
  let viol := hit.filter (fun i => s.rgnKind i < 2)
  let first := fun i => max a (s.rgnLo i)
  let s1 := s.forL prot (fun i t => ((t.violRecord i (first i)).set Reg.PM_STAT.VIOL_DROP 1).intr Intr.LEASE)
  let s2 := s1.forL viol (fun i t => ((((t.violRecord i (first i)).set Reg.PM_STAT.VIOLATION 1).intr Intr.LEASE).violStreams i (first i)).violSites i (first i))
  if prot.isEmpty then (s2.memWrite a bs, false) else (s2, true)

end Sys2Proof.Machine
end

