-- ==== Sys2Proof/Machine/Level.lean ====
section
/-! DEFINITION. The pin slice (R86, R99, R102 to R109), its eight level DACs with the deglitcher and the safe-value passage
(R275 to R284) and its PMU: connection, passages and the order of triggers (R285 to R292, R299, R300). -/

namespace Sys2Proof.Machine

/-! ### The slice and CH_STAT -/

/-- A channel's pin slice beside its registers. -/
def State.chan (s : State) (c : Nat) : Chan := sget (fun _ => Chan.init) s.chans c
/-- Change a pin slice. -/
def State.setChan (s : State) (c : Nat) (k : Chan) : State := { s with chans := sset (fun _ => Chan.init) s.chans c k }

/-- R64, R303: the waveform source that drives the bus of a Waveform-attached channel. -/
def State.sourceOf (s : State) (c : Nat) : Option Nat :=
  match s.chanPin c with
  | some (_, p) => if p.func = 2 then (s.routes.find? (fun r => r.1 / 8 == c / 256 && r.2 == p.attr % 8)).map Prod.fst else none
  | none => none

/-- R310: the source on a channel's bus is in passage while the channel's switch is closed. -/
def State.busPassage (s : State) (c : Nat) : Bool :=
  s.flag (Reg.CH_STAT.BUS c) && (match s.sourceOf c with
    | some i => s.flag (Reg.WF_STAT.PASSAGE i)
    | none => false)

/-- R109, R281, R310: a safe-value passage of a level or of the channel's bus suppresses the channel; the contact checks do too (R349). -/
def State.inPassage (s : State) (c : Nat) : Bool :=
  s.get (Reg.CH_LVLSTAT.PASSAGE c) != 0 || s.busPassage c || s.contact.any (fun k => k.chans.contains c)

/-- R359: a reference run keeps the outputs of the channel's quadrant at high impedance. -/
def State.refRunning (s : State) (c : Nat) : Bool := s.get (Reg.CAL_Q.STATE (c / 256)) == 4

/-- CH_STAT as the slice stands (R86, R99, R104, R109): ARMED, DRV_INH, UNRESOLVED, the raw comparators (0 while unresolved), DRIVING
and PASSAGE. -/
def State.refreshChan (s : State) (c : Nat) : State :=
  let k := s.chan c
  let armed := s.flag (Reg.CH_CTRL.OUT_ARM c)
  let pass := s.get (Reg.CH_LVLSTAT.PASSAGE c) != 0 || s.busPassage c
  let on := armed && !s.flag (Reg.CH_STAT.TRIPPED c) && !s.inPassage c && !s.refRunning c
  let w := s.reg (Reg.CH_STAT.word c)
  let w1 := wput (wput (wput w 30 30 (b2n (k.unresHi || k.unresLo))) 29 29 (b2n armed)) 28 28 (b2n (!on))
  let w2 := wput (wput (wput w1 26 26 (b2n (k.rawHi && !k.unresHi))) 25 25 (b2n (k.rawLo && !k.unresLo))) 24 24 (b2n (on && ((k.level != 0 && k.level != 4) || (s.chanFunc c == 3 && s.get (Reg.CH_CTRL.DSRC c) == 1))))
  s.setReg (Reg.CH_STAT.word c) (wput w2 23 23 (b2n pass))

/-- The driver, load and termination of a channel go off. -/
def State.driveOff (s : State) (c : Nat) : State := (s.setChan c { s.chan c with level := 0, edges := [], shape := 0 }).refreshChan c

/-- R103, R104: the bus switch of a channel follows BUS_CONN while the channel is armed and untripped: it closes 20 beats after the change,
and drive codes act as DZ for 20 beats after it opens. -/
def State.busTrigger (s : State) (c : Nat) : State :=
  let want := s.flag (Reg.CH_CTRL.BUS_CONN c) && s.flag (Reg.CH_CTRL.OUT_ARM c) && !s.flag (Reg.CH_STAT.TRIPPED c)
  let k := s.chan c
  if want then
    if s.flag (Reg.CH_STAT.BUS c) ∨ k.busClose.isSome then s
    else (s.setChan c { k with busClose := some (s.now + 20), busDz := none }).driveOff c
  else if s.flag (Reg.CH_STAT.BUS c) ∨ k.busClose.isSome then
    ((s.setChan c { k with busClose := none, busDz := some (s.now + 20) }).set (Reg.CH_STAT.BUS c) 0).refreshChan c
  else s

/-- R102 to R104: whether the bus switch keeps drive codes acting as DZ. -/
def State.busActsDz (s : State) (c : Nat) : Bool :=
  s.flag (Reg.CH_STAT.BUS c) || (s.chan c).busClose.isSome || (s.chan c).busDz.isSome

/-! ### Level DACs -/

/-- R276: the voltage of a code, in units of 2^-15 V. -/
def levelU (span code : Nat) : Int := if span = 1 then (code : Int) - 16384 else 4 * (code : Int) - 49152

/-- R276: the 0 V code of a span. -/
def zeroCode (span : Nat) : Nat := if span = 1 then 0x4000 else 0x3000

/-- R276: OUT is CODE + TRIM, limited to 0 to 65,535. -/
def outCode (code : Nat) (trim : Int) : Nat := (max 0 (min 65535 ((code : Int) + trim))).toNat

/-- A level DAC beside its register. -/
def State.dac (s : State) (c k : Nat) : Dac := sget (fun _ => Dac.init) s.dacs (8 * c + k)
/-- Change a level DAC. -/
def State.setDac (s : State) (c k : Nat) (d : Dac) : State := { s with dacs := sset (fun _ => Dac.init) s.dacs (8 * c + k) d }

/-- R279: OUT takes a code in a span. A change of OUT[15:10] holds the analog output for two beats; any other steps at once. -/
def State.loadOut (s : State) (c k span code : Nat) : State :=
  let d := s.dac c k
  let old := s.get (Reg.CH_LVL.OUT c k)
  let s1 := (s.set (Reg.CH_LVL.OUT c k) code).set (Reg.CH_LVL.OUT_SPAN c k) span
  if d.step.isSome ∨ old / 1024 ≠ code / 1024 then s1.setDac c k { d with step := some (d.step.getD (s.now + 2)) }
  else s1.setDac c k { d with analog := levelU span code }

/-- The PMU of a channel beside its registers. -/
def State.pmu (s : State) (c : Nat) : Pmu := sget (fun _ => Pmu.init) s.pmus c
/-- Change a PMU. -/
def State.setPmu (s : State) (c : Nat) (p : Pmu) : State := { s with pmus := sset (fun _ => Pmu.init) s.pmus c p }

/-- R285: the forcing modes, the FV modes and the FI modes. -/
def isForcing (m : Nat) : Bool := 1 ≤ m && m ≤ 4
def isFV (m : Nat) : Bool := m == 1 || m == 3
def isFI (m : Nat) : Bool := m == 2 || m == 4

/-- R289, R290: the PMU keeps drive codes acting as DZ: a forcing mode in force, or the 20 ns after one. -/
def State.pmuDz (s : State) (c : Nat) : Bool :=
  s.flag (Reg.CH_CTRL.OUT_ARM c) && (isForcing (s.pmu c).mode || s.now < (s.pmu c).dzUntil)

/-- R104, R289, R290: drive codes act as DZ on a pin of function `func`. -/
def State.driveActsDz (s : State) (c func : Nat) : Bool := (func == 2 && s.busActsDz c) || s.pmuDz c

/-- R106: a member of a PMU compound that is not its lead: its driver, load, clamps and comparators are off. -/
def State.pmuMember (s : State) (c : Nat) : Bool := match s.compOf c with
  | some k => k.kind == 0 && k.lead != c
  | none => false

/-- R88: the drive level of the idle state of a channel. -/
def State.idleLevel (s : State) (c : Nat) : Nat :=
  if s.chanFunc c = 1 ∨ s.pmuMember c ∨ s.driveActsDz c (s.chanFunc c) then 0
  else match s.get (Reg.CH_CTRL.IDLE c) with
    | 0 => if (s.chan c).keep = 0 then 4 else (s.chan c).keep
    | 2 => 1 | 3 => 2 | 4 => 3 | _ => 0

/-- R88, R153: an armed channel of a site that receives no vectors presents its idle state. -/
def State.presentIdle (s : State) (c : Nat) : State :=
  match s.chanSite c with
  | none => s
  | some n => if s.flag (Reg.CH_CTRL.OUT_ARM c) ∧ !s.flag (Reg.SO_SITE_STAT.IN_STREAM n)
      then (s.setChan c { s.chan c with level := s.idleLevel c, edges := [] }).refreshChan c else s

/-- R289: CONN as the arm, the trip, the mode, a passage and a connection to come leave it. -/
def State.refreshPmu (s : State) (c : Nat) : State :=
  let p := s.pmu c
  let on := s.flag (Reg.CH_CTRL.OUT_ARM c) && !s.flag (Reg.CH_STAT.TRIPPED c) && p.mode != 0 && p.t0.isNone && p.connectAt.isNone && !s.refRunning c
  let s1 := s.set (Reg.CH_PMUSTAT.CONN c) (b2n on)
  if on then s1 else s1.set (Reg.CH_PMUSTAT.COMPLY c) 0

/-- A measurement of a pin in progress. -/
def State.pmuMeasOf (s : State) (c : Nat) : Option Meas := (s.pmuMeas.find? (fun p => p.1 == c)).map Prod.snd
/-- Set or end the measurement of a pin. -/
def State.setPmuMeas (s : State) (c : Nat) (m : Option Meas) : State :=
  { s with pmuMeas := match m with
    | some x => sinsert s.pmuMeas c x
    | none => serase s.pmuMeas c }

/-- R294: a passage that begins during a sample discards it; sampling starts again at the passage end. -/
def State.measPassage (s : State) (c : Nat) : State :=
  match s.pmuMeasOf c with
  | some m => if m.sampling then s.setPmuMeas c (some { m with sampling := false, due := s.now + 104 }) else s
  | none => s

/-- R290: a PMU passage starts: the PMU disconnects for 104 beats. -/
def State.pmuPassage (s : State) (c : Nat) : State :=
  let p := s.pmu c
  let s1 := if p.t0.isSome then s else s.inc (Reg.CH_PMUCNT.PASSAGES c)
  let s2 := (s1.setPmu c { p with t0 := some s.now, connectAt := none }).set (Reg.CH_PMUSTAT.PASSAGE c) 1
  let s3 := (s2.refreshPmu c).measPassage c
  if isForcing p.mode then s3.driveOff c else s3

/-- R289 to R291: a trigger of CH_PMU: what the change from the mode and range in force to those of the word does. -/
def State.pmuTrigger (s : State) (c : Nat) : State :=
  let p := s.pmu c
  let m := s.get (Reg.CH_PMU.MODE c); let r := s.get (Reg.CH_PMU.RANGE c)
  if p.t0.any (fun t => t != s.now) then s.setPmu c { p with deferred := true }
  else
    let pass := (r != p.range && (isFI m || isFI p.mode)) || (isFV m && isFI p.mode) || (isFI m && isFV p.mode)
    let start := isForcing m && !isForcing p.mode
    let leave := !isForcing m && isForcing p.mode
    let p' := { p with mode := m, range := r, connectAt := if start then some (s.now + 2) else if m = 0 then none else p.connectAt
                       dzUntil := if leave then s.now + 2 else p.dzUntil }
    let s1 := s.setPmu c p'
    let s2 := if start then s1.driveOff c else s1
    if pass then s2.pmuPassage c else s2.refreshPmu c

/-- R278, R281, R282: a trigger of level DAC `k` of a channel: deferred during a passage, a passage when the span changes, else OUT loads.
A PMUF passage is a PMU passage too (R290). -/
def State.levelTrigger (s : State) (c k : Nat) : State :=
  let span := s.get (Reg.CH_LVL.SPAN c k); let code := s.get (Reg.CH_LVL.CODE c k)
  let d := s.dac c k
  if d.t0.isSome ∨ (k = 7 ∧ (s.pmu c).t0.any (fun t => t != s.now)) then
    s.set (Reg.CH_LVLSTAT.DEFER c) (s.get (Reg.CH_LVLSTAT.DEFER c) ||| 2 ^ k)
  else if span ≠ s.get (Reg.CH_LVL.OUT_SPAN c k) then
    let old := s.get (Reg.CH_LVL.OUT_SPAN c k)
    let s1 := s.loadOut c k old (zeroCode old)
    let s2 := s1.setDac c k { s1.dac c k with t0 := some s.now, span := span, code := code, switched := false, loaded := false }
    let s3 := (s2.set (Reg.CH_LVLSTAT.PASSAGE c) (s2.get (Reg.CH_LVLSTAT.PASSAGE c) ||| 2 ^ k)).refreshChan c
    if k = 7 then s3.pmuPassage c else s3
  else s.loadOut c k span (outCode code (s.getS (Reg.CH_LVL.TRIM c k)))

/-- R105, R286: the other channels whose DAC `k` follows a lead's: VIH, VIL and VTT in a driver compound, PMUF in a PMU compound. -/
def State.levelFollowers (s : State) (c k : Nat) : List Nat :=
  match s.compOf c with
  | some m => if m.lead = c ∧ ((m.kind = 1 ∧ k ≤ 2) ∨ (m.kind = 0 ∧ k = 7)) then m.members.drop 1 else []
  | none => []

/-- R278, R300: a level word of a channel has new values: it and the members that follow it take a trigger. -/
def State.levelCommit (s : State) (c k : Nat) : State :=
  let span := s.get (Reg.CH_LVL.SPAN c k); let code := s.get (Reg.CH_LVL.CODE c k)
  (s.levelTrigger c k).forL (s.levelFollowers c k)
    (fun m t => ((t.set (Reg.CH_LVL.SPAN m k) span).set (Reg.CH_LVL.CODE m k) code).levelTrigger m k)

/-- R279: the analog output steps when the deglitcher's hold is over. -/
def State.deglitchStep (s : State) (c k : Nat) : State :=
  let d := s.dac c k
  if d.step.any (fun b => b ≤ s.now) then
    s.setDac c k { d with step := none, analog := levelU (s.get (Reg.CH_LVL.OUT_SPAN c k)) (s.get (Reg.CH_LVL.OUT c k)) }
  else s

/-- R281 at 20 ns: the span switches and OUT becomes its 0 V code. -/
def State.spanSwitch (s : State) (c k : Nat) : State :=
  let d := s.dac c k
  if d.t0.any (fun t => t + 2 ≤ s.now) && !d.switched then
    ((s.set (Reg.CH_LVL.OUT_SPAN c k) d.span).set (Reg.CH_LVL.OUT c k) (zeroCode d.span)).setDac c k
      { d with switched := true, step := none, analog := 0 }
  else s

/-- R281 at 1,020 ns: OUT becomes the new CODE + TRIM. -/
def State.codeLoad (s : State) (c k : Nat) : State :=
  let d := s.dac c k
  if d.t0.any (fun t => t + 102 ≤ s.now) && d.switched && !d.loaded then
    let s1 := s.setDac c k { d with loaded := true }
    s1.loadOut c k d.span (outCode d.code (s.getS (Reg.CH_LVL.TRIM c k)))
  else s

/-- R282: a trigger of a DAC that was deferred acts. -/
def State.actDeferred (s : State) (c k : Nat) : State :=
  if bitOf (s.get (Reg.CH_LVLSTAT.DEFER c)) k then
    (s.set (Reg.CH_LVLSTAT.DEFER c) (s.get (Reg.CH_LVLSTAT.DEFER c) ^^^ 2 ^ k)).levelTrigger c k
  else s

/-- R281, R282 at 1,040 ns: the passage ends, and a deferred trigger acts. -/
def State.passageEnd (s : State) (c k : Nat) : State :=
  let d := s.dac c k
  if d.t0.any (fun t => t + 104 ≤ s.now) && d.loaded then
    let s1 := s.setDac c k { d with t0 := none }
    let s2 := (s1.set (Reg.CH_LVLSTAT.PASSAGE c) (s1.get (Reg.CH_LVLSTAT.PASSAGE c) &&& (0xFF - 2 ^ k))).refreshChan c
    s2.actDeferred c k
  else s

/-- R289: the PMU connects 20 ns after the change to a forcing mode. -/
def State.pmuConnect (s : State) (c : Nat) : State :=
  let p := s.pmu c
  if p.connectAt.any (fun t => t ≤ s.now) then (s.setPmu c { p with connectAt := none }).refreshPmu c else s

/-- R290, R282: a PMU passage ends: the PMU connects as its words stand, and deferred triggers act. -/
def State.pmuPassageEnd (s : State) (c : Nat) : State :=
  let p := s.pmu c
  if p.t0.any (fun t => t + 104 ≤ s.now) then
    let s1 := (s.setPmu c { p with t0 := none, deferred := false }).set (Reg.CH_PMUSTAT.PASSAGE c) 0
    let s2 := s1.refreshPmu c
    let s3 := if p.deferred then s2.pmuTrigger c else s2
    if bitOf (s3.get (Reg.CH_LVLSTAT.PASSAGE c)) 7 then s3 else s3.actDeferred c 7
  else s

/-- R288: the PMU of a channel enters or leaves a limit. -/
def State.pmuCompliance (s : State) (c : Nat) (at_ : Bool) : State :=
  if !s.flag (Reg.CH_PMUSTAT.CONN c) then s
  else if at_ then
    let s1 := if s.flag (Reg.CH_PMUSTAT.COMPLY c) then s
      else ((s.set (Reg.CH_PMUSTAT.COMPLY c) 1).set (Reg.CH_PMUSTAT.CLIMIT c) 1).inc (Reg.CH_PMUCNT.CLIMIT c)
    match s1.pmuMeasOf c with
    | some m => if m.sampling then s1.setPmuMeas c (some { m with comply := true }) else s1
    | none => s1
  else s.set (Reg.CH_PMUSTAT.COMPLY c) 0

/-- R284 to R287, R292: the close checks of a channel, over the values `rd` that its words will have: the code of the refusal is FIELD
(`true`) or LIMIT (`false`). (DEDUCED, assumption 14.) -/
def State.pmuClose (s : State) (rd : Fld → Nat) (c : Nat) : Option Bool :=
  let m := rd (Reg.CH_PMU.MODE c); let span := rd (Reg.CH_LVL.SPAN c 7); let code := rd (Reg.CH_LVL.CODE c 7)
  if isForcing m && (rd (Reg.CH_CTRL.BUS_CONN c) == 1 || rd (Reg.CH_CTRL.DSRC c) == 1) then some true
  else if isFI m && span == 1 then some true
  else
    let lim := s.reg (Reg.MP_LIMCH.word c)
    if wget lim 127 112 = 0xFFFF then some false
    else
      let vmax := signedOf 16 (wget lim 31 16); let imax := wget lim 63 32
      let v := levelU span code - (if rd (Reg.CH_PMU.FOFS c) = 1 then 16384 else 0)
      let fs := (match rd (Reg.CH_PMU.RANGE c) with
        | 0 => 2 | 1 => 20 | 2 => 200 | 3 => 2000 | _ => 32000) * (s.compChans c).length
      if isFV m && vmax * 32768 < v * 1000 then some false
      else if isFI m && (imax : Int) * 32768 < ((code : Int) - 32768).natAbs * fs then some false
      else none

/-- R284, R436: a level's code lies beyond the limits of the needle; with no needle any setting of a level does. (DEDUCED, assumption 14.) -/
def State.levelBeyond (s : State) (c k span code : Nat) : Bool :=
  let lim := s.reg (Reg.MP_LIMCH.word c)
  let v := levelU span code * 1000
  if wget lim 127 112 = 0xFFFF then true
  else if k = 0 ∨ k = 2 ∨ k = 5 then signedOf 16 (wget lim 31 16) * 32768 < v
  else if k = 1 ∨ k = 6 then v < signedOf 16 (wget lim 15 0) * 32768
  else false

end Sys2Proof.Machine
end

