-- ==== Sys2Proof/Machine/Sweep.lean ====
section
/-! DEFINITION. The terms of calibration beside their registers, and the two-cluster histogram of live calibration (R369): what one strobe
adds to a sweep, and what an accepted sweep finds. -/

namespace Sys2Proof.Machine

/-! ### The CAL block beside its registers -/

/-- The terms of a channel. -/
def State.calCh (s : State) (c : Nat) : CalCh := sget (fun _ => CalCh.init) s.cal.chs c
/-- Change them. -/
def State.setCalCh (s : State) (c : Nat) (k : CalCh) : State := { s with cal := { s.cal with chs := sset (fun _ => CalCh.init) s.cal.chs c k } }
/-- The live cycle of a quadrant. -/
def State.calQ (s : State) (q : Nat) : CalQ := sget (fun _ => CalQ.init) s.cal.quads q
/-- Change it. -/
def State.setCalQ (s : State) (q : Nat) (k : CalQ) : State := { s with cal := { s.cal with quads := sset (fun _ => CalQ.init) s.cal.quads q k } }
/-- R374: a commit touches an element of channel `c` in this beat. -/
def State.calTouch (s : State) (c : Nat) : State := s.setCalCh c { s.calCh c with touched := s.now + 1 }

/-! ### A sweep -/

/-- A sweep that begins with the thresholds of a channel as they are programmed. -/
def State.newSweep (s : State) (c : Nat) : Sweep :=
  let v := fun k => levelU (s.get (Reg.CH_LVL.SPAN c k)) (s.get (Reg.CH_LVL.CODE c k))
  ⟨v 4, v 3 - v 4, [], 0, 0⟩

/-- Every level of a sweep has had its strobes. (DEDUCED, assumption 90.) -/
def Sweep.ended (w : Sweep) : Bool := w.f.length == 128

/-- R369: one counted strobe: the pin lay `above` the level in hand or not. -/
def Sweep.strobe (w : Sweep) (above : Bool) : Sweep :=
  let h := w.hits + b2n above
  if w.ended then w
  else if w.count + 1 = (if w.f.length < 64 then 64 else 256) then { w with f := w.f ++ [h], count := 0, hits := 0 }
  else { w with count := w.count + 1, hits := h }

/-- R369: p in 1/2,048: the mean over the coarse levels from VOL to VOH (k from 16 to 47). -/
def Sweep.p (w : Sweep) : Nat := ((w.f.drop 16).take 32).sum

/-- R369: the coarse level nearest to a share given in 1/4,096; the lowest of equals. -/
def Sweep.nearest (w : Sweep) (target : Nat) : Nat :=
  ((List.range 64).foldl (fun (best : Nat × Nat) k =>
    let d := ((64 * w.f.getD k 0 : Nat) - (target : Int)).natAbs
    if d < best.2 then (k, d) else best) (0, 2 ^ 20)).1

/-- R369: the first fine level about coarse level `k`, in 2^-15/3,906 V; the fine levels lie 16 s apart. -/
def Sweep.fineBase (w : Sweep) (k : Nat) : Int := 31 * (126 * w.vol - 63 * w.s + 4 * k * w.s) - 248 * w.s

/-- The fine counts about the low cluster (0) or the high one (1). -/
def Sweep.fine (w : Sweep) (i : Nat) : List Nat := (w.f.drop (64 + 32 * i)).take 32

/-- R369: where a fine sweep first falls through a share in 1/4,096, linearly interpolated, in fine levels. -/
def crossing (t : Rat) : Nat → List Nat → Option Rat
  | j, a :: b :: rest =>
    let x : Rat := (16 * a : Nat); let y : Rat := (16 * b : Nat)
    if y ≤ t ∧ t ≤ x then some (if x = y then (j : Rat) else (j : Rat) + (x - t) / (x - y)) else crossing t (j + 1) (b :: rest)
  | _, _ => none

/-- The distance, in fine levels, over which a fine sweep falls from one share to another; where it does not reach one, its end
stands for it. (DEDUCED, assumption 95.) -/
def fallWidth (fs : List Nat) (up down : Rat) : Rat := (crossing down 0 fs).getD 31 - (crossing up 0 fs).getD 0

/-- R369: what a sweep finds: c_lo and c_hi, in 2^-15/3,906 V, when it is accepted. (DEDUCED, assumption 90.) -/
def Sweep.result (w : Sweep) : Option (Rat × Rat) :=
  let pp : Rat := (2 * w.p : Nat)   -- p in 1/4,096
  let lo := w.fine 0; let hi := w.fine 1
  if !w.ended ∨ w.s ≤ 0 ∨ 10 * w.p < 2048 ∨ 18432 < 10 * w.p then none
  else match crossing ((4096 + pp) / 2) 0 lo, crossing (pp / 2) 0 hi with
    | some a, some b =>
      let u : Rat := (16 * w.s : Int)
      let clo := (w.fineBase (w.nearest (2048 + w.p)) : Rat) + u * a
      let chi := (w.fineBase (w.nearest w.p) : Rat) + u * b
      let wlo := u * fallWidth lo (pp + 9 * (4096 - pp) / 10) (pp + (4096 - pp) / 10)
      let whi := u * fallWidth hi (9 * pp / 10) (pp / 10)
      if 10 * (chi - clo) < (32768 * 3906 : Nat) ∨ chi - clo < 4 * wlo ∨ chi - clo < 4 * whi then none else some (clo, chi)
    | _, _ => none

/-- R369, R370: one counted strobe on a comparator of a cycle, and where its sweep ends, what follows. -/
def LRun.strobe (r : LRun) (above : Bool) : LRun :=
  if r.stage = 1 ∨ 3 ≤ r.stage then r
  else
    let w := r.sweep.strobe above
    if !w.ended then { r with sweep := w }
    else if r.stage = 2 then { r with sweep := w, stage := 3, second := w.result }
    else match w.result with
      | some x => { r with sweep := w, stage := if r.own then 1 else 3, first := some x }
      | none => { r with sweep := w, stage := 3 }

/-- R369: strobes and edges of a stream count from its first frame boundary of a cycle's second phase. -/
def CalQ.counts (k : CalQ) (x beat : Nat) : Bool := k.counting.any (fun p => p.1 == x && p.2 ≤ beat)

/-- R369: a strobe of a vector coded H or L on channel `c`, begun in beat `start`, goes to every cycle that measures the channel. (DESIGN CHOICE, assumption 87.) -/
def State.calStrobe (s : State) (c start : Nat) (o : Strobe) : State :=
  match s.chanSite c with
  | none => s
  | some n => s.forL ((s.cal.quads.filter (fun p => p.2.counts (s.streamOf n) start)).map Prod.fst) (fun q t =>
      let k := t.calQ q
      t.setCalQ q { k with levels := k.levels.map (fun r =>
        if r.key = 2 * c then r.strobe o.sweepHi else if r.key = 2 * c + 1 then r.strobe o.sweepLo else r) })

/-- R376: VOH or VOL of a channel is under calibration: the compares of its site's pattern carry STALE. -/
def State.calCompare (s : State) (n c : Nat) : State :=
  if wget (s.reg (Reg.CH_LVLSTAT.word c)) 4 3 = 0 then s else s.setSeq n { s.seq n with cmpStale := true }

end Sys2Proof.Machine
end

