-- ==== Sys2Proof/Machine/Pins.lean ====
section
/-! DEFINITION. What vectors do at a pin (R88 to R99, R102, R105, R109, R122): drive memory, drive formats, codes, strobes,
compares and captures; and what a failing compare counts (R172 to R174). -/

namespace Sys2Proof.Machine

/-- R94, R116: a U code's base code; every other code is its own. -/
def baseCode (t : Tense) (code : Nat) : Nat := if code < 0xC then code else uBase (t.u.getD (code - 0xC) 0)

/-- R90: a code that compares at the strobe, captures or marks an event. -/
def opensWindow (code : Nat) : Bool := code == 4 || code == 5 || code == 6 || code == 0xA || code == 0xB

/-- R95: the level (1 VIL, 2 VIH) of a data value. -/
def dataLevel (d : Bool) : Nat := if d then 2 else 1

/-- R95: the level at the end of a vector with data value `d`. -/
def endLevel (format : Nat) (d : Bool) : Nat :=
  match format with
  | 0 => dataLevel d
  | 1 => 1
  | 2 => 2
  | _ => dataLevel (!d)

/-- R95: the level before the data edge of a vector that turns the driver on. (DEDUCED, assumption 41.) -/
def preLevel (format : Nat) (mem d : Bool) : Nat :=
  match format with
  | 0 => dataLevel mem
  | 1 => 1
  | 2 => 2
  | _ => dataLevel (!d)

/-- R94: the drive-lane edges of a vector at one pin, as signed ticks from its start, and the drive format. -/
structure DriveEdges where
  format : Nat
  drvOn : Int
  data : Int
  drvOff : Int
  ret : Int

/-- R94, R116: the edges of a tense for a code; a U code shifts them. -/
def Tense.edges (t : Tense) (code : Nat) : DriveEdges :=
  let sh := if code < 0xC then 0 else uShift (t.u.getD (code - 0xC) 0)
  ⟨t.format, t.drvOn + sh, t.data + sh, t.drvOff + sh, t.ret + sh⟩

/-- R91, R93: the last vector applied to the pin left the driver off; so does the want of one since the channel was armed. -/
def Chan.off (k : Chan) : Bool := k.keep == 0 || k.keep == 4

/-- R90, R91, R93, R95: the transitions (offset from the vector's start, level) that a base code makes at a pin. (DEDUCED, assumption 41; DEDUCED, assumption 42.) -/
def codeEdges (k : Chan) (code : Nat) (e : DriveEdges) : List (Int × Nat) :=
  let on := fun (pre : Nat) => if k.off && e.drvOn != e.data then [(e.drvOn, pre)] else []
  let data := fun (d : Bool) => on (preLevel e.format k.driveMem d) ++ (e.data, dataLevel d) :: (if e.format = 0 then [] else [(e.ret, endLevel e.format d)])
  match code with
  | 0 => data false
  | 1 => data true
  | 2 => [(e.drvOff, 0)]
  | 3 => on (dataLevel k.driveMem) ++ [(e.data, 3)]
  | 8 => if k.shape = 0 then [] else [(k.shapeAt.1, dataLevel k.shapeData), (k.shapeAt.2, endLevel k.shape k.shapeData)]
  | 9 => data (!k.driveMem)
  | _ => [(e.drvOff, 4)]

/-- R90, R91, R95: what a base code leaves in a pin slice beside its transitions: drive memory, and the waveform that K repeats. (DEDUCED, assumption 41.) -/
def codeMemory (k : Chan) (code : Nat) (e : DriveEdges) : Chan :=
  let data := fun (d : Bool) => { k with driveMem := d, shape := e.format, shapeData := d, shapeAt := (e.data, e.ret) }
  match code with
  | 0 => data false
  | 1 => data true
  | 8 => k
  | 9 => data (!k.driveMem)
  | _ => { k with shape := 0 }

/-- R113: a transition of engine `eng` in a vector that starts at `v`. (DESIGN CHOICE, assumption 43.) -/
def State.pinEdge (s : State) (eng v : Nat) (p : Int × Nat) : PinEdge :=
  let n := s.needleTime eng v p.1
  ⟨n, s.launchTime eng n, p.2⟩

/-- R90 to R95: a vector that starts at `v` gives a channel the base code `code` with the edges `e`: K starts from the level at the end of the last vector. -/
def State.driveCode (s : State) (c v code : Nat) (e : DriveEdges) : State :=
  let k0 := s.chan c
  let k := if code = 8 then { k0 with level := k0.keep } else k0
  let es := (codeEdges k code e).map (s.pinEdge (s.engineOf c) v)
  let lv := (es.getLast?.map PinEdge.level).getD k.level
  s.setChan c { codeMemory k code e with level := lv, before := k.level, edges := es, keep := lv }

/-- The drive level that a channel presents at the needle at instant `t`. (DESIGN CHOICE, assumption 43.) -/
def Chan.levelAt (k : Chan) (t : Int) : Nat := k.edges.foldl (fun l e => if e.needle ≤ t then e.level else l) k.before

/-- The drive part of a vector's code on one channel: the driver follows it while the channel is armed, and presents it when nothing
inhibits the channel; a driver given to a lane ignores it (R102, R108, R109). (DEDUCED, assumption 42.) -/
def State.drivePin (s : State) (c func v code : Nat) (e : DriveEdges) : State :=
  let lane := func = 3 ∧ s.get (Reg.CH_CTRL.DSRC c) = 1
  let code1 := if s.driveActsDz c func ∧ (code ≤ 1 ∨ code = 3 ∨ code = 8 ∨ code = 9) then 2 else code
  if lane ∨ !s.flag (Reg.CH_CTRL.OUT_ARM c) then s else (s.driveCode c v code1 e).refreshChan c

/-- One pin of a site takes its code of a vector that starts at `v` (R90, R94, R102, R105): a PMU-only pin acts as X; the members of a driver compound
drive with the lead. The instants of its strobe are fixed now (R114). -/
def State.applyPin (s : State) (p : Pin) (code0 tns v : Nat) (w : Win) : State :=
  let eng := s.engineOf p.chan
  let t := s.tense false eng tns
  let code := if p.func = 1 then 7 else baseCode t code0
  let e := t.edges code0
  let s1 := s.drivePin p.chan p.func v code e
  let s2 := match s.compOf p.chan with
    | some k => if k.kind = 1 then s1.forL (k.members.drop 1) (fun m u => u.drivePin m p.func v code e) else s1
    | none => s1
  if opensWindow code then
    let k := s2.chan p.chan
    let sh := e.data - t.data
    let at_ := fun (o : Nat) => s.sampleTime eng (s.needleTime eng v (o + sh))
    let win := { w with code := code, window := t.stbOpen != t.stbClose, openAt := at_ t.stbOpen, closeAt := at_ t.stbClose }
    s2.setChan p.chan { k with wins := k.wins ++ [win] }
  else s2

/-- R137: the code of pin index i in a row of bytes. (DEDUCED, assumption 45.) -/
def rowCode (row : List Byte) (i : Nat) : Nat :=
  let b := ((row[i / 2]?).getD 0).toNat
  if i % 2 = 0 then b % 16 else b / 16

/-- R96: whether a compare code passes against what the pair showed. -/
def comparePass (code : Nat) (window : Bool) (o : Strobe) : Bool :=
  match code with
  | 4 => if window then o.loNever else !o.lo
  | 5 => if window then o.hiAlways else o.hi
  | _ => if window then o.mid else (o.lo && !o.hi)

/-- R173: the length of a fail-capture entry. -/
def fcEntrySize (w : Nat) : Nat := 16 + 16 * ceilDiv w 128

/-- R174: slots of a ring. -/
def State.fcCap (s : State) (n : Nat) : Nat := s.get (Reg.SO_FC_CFG.SIZE n) * 4096 / fcEntrySize (s.pinCount n)

/-- R174: the device writes one ring entry for site `n`, or drops it when the ring is full. The second component is the address
of the entry written. -/
def State.fcWrite (s : State) (n : Nat) (w : Win) (pin : Nat) : State × Option Nat :=
  let e := fcEntrySize (s.pinCount n)
  let cap := s.fcCap n
  let wr := s.get (Reg.SO_FC_PTR.WR n); let rd := s.get (Reg.SO_FC_PTR.RD n)
  let x := s.streamOf n
  if cap = 0 ∨ (wr + 1) % cap = rd then
    let s1 := (s.inc (Reg.SO_FC_CNT.DROPPED n)).set Reg.SO_STAT.FC_DROP 1
    if (s.stream x).fcFull.contains n then (s1, none)
    else ((s1.event n Ev.FC_FULL w.frameId).setStream x { s.stream x with fcFull := n :: (s.stream x).fcFull }, none)
  else
    let a := s.get (Reg.SO_FC_CFG.BASE n) + wr * e
    let head := leBytes 6 w.vector ++ leBytes 2 (w.vif % 4096 + b2n w.subst * 2 ^ 15) ++ leBytes 4 w.frameId ++ leBytes 4 w.start
    let mask := leBytes (e - 16) (2 ^ pin)
    let s1 := s.memWrite a ((head ++ mask).map some)
    ((s1.set (Reg.SO_FC_PTR.WR n) ((wr + 1) % cap)).inc (Reg.SO_FC_CNT.WRITTEN n), some a)

/-- R172: pin `pin` of site `n` (channel `c`) fails in the vector of window `w`. -/
def State.countFail (s : State) (n c pin : Nat) (w : Win) : State :=
  let s1 := s.inc (Reg.CH_FAILCNT.COUNT c)
  let s2 := if s.get (Reg.CH_FAILCNT.FIRST_VEC c) = 2 ^ 48 - 1 then s1.set (Reg.CH_FAILCNT.FIRST_VEC c) w.vector else s1
  match s2.failMarks.find? (fun m => m.site == n && m.vector == w.vector) with
  | some m => match m.entry with
    | some a => s2.memWrite (a + 16 + pin / 8) [some (BitVec.ofNat 8 ((s2.byte (a + 16 + pin / 8)).toNat ||| 2 ^ (pin % 8)))]
    | none => s2
  | none =>
    let s3 := (s2.inc (Reg.SO_FC_CNT.FAIL_VEC n)).setSeq n { s2.seq n with failBase := (s2.seq n).failBase + 1 }
    let (s4, ent) := if s.flag (Reg.SO_FC_CFG.EN n) then s3.fcWrite n w pin else (s3, none)
    { s4 with failMarks := (⟨n, w.vector, ent⟩ :: s4.failMarks).take 512 }

/-- R98: code S at the strobe, in beat `b`: the raw pair into CH_CAPT. -/
def State.capture (s : State) (c b : Nat) (hi lo : Bool) : State :=
  let w := s.get (Reg.CH_CAPT.SAMPLES c)
  ((s.set (Reg.CH_CAPT.SAMPLES c) (w * 4 + b2n hi * 2 + b2n lo)).inc (Reg.CH_CAPT.COUNT c)).set (Reg.CH_CAPT.STAMP c) b

/-- R96, R98: the instant at which a strobe is evaluated: S at its strobe-open edge, any other when its window has closed. -/
def Win.instant (w : Win) : Int := if w.code = 0xA then w.openAt else w.closeAt

/-- R115: the window of a channel that is evaluated next in the present beat: the one of the least instant that has come. (DEDUCED, assumption 46.) -/
def State.dueWin (s : State) (k : Chan) : Option Win :=
  (k.wins.filter (fun (w : Win) => decide (w.instant < (s.now + 1) * 65536))).foldl (fun (m : Option Win) w => match m with
    | some v => if w.instant < v.instant then some w else some v
    | none => some w) none

/-- R96 to R99, R108, R109: the next strobe window of a channel is evaluated against what its comparator pair shows; an
unresolved comparator shows 0. -/
def State.strobe (s : State) (c : Nat) (o0 : Strobe) : State :=
  let k := s.chan c
  match s.dueWin k with
  | none => s
  | some w =>
    let s1 := s.setChan c { k with wins := k.wins.erase w, rawHi := o0.hi, rawLo := o0.lo }
    let hi := o0.hi && !k.unresHi; let lo := o0.lo && !k.unresLo
    let o : Strobe := { o0 with hi := hi, lo := lo, hiAlways := o0.hiAlways && !k.unresHi, loNever := o0.loNever || k.unresLo, mid := o0.mid && !k.unresLo }
    let s2 := s1.refreshChan c
    match s.chanPin c, s.chanSite c with
    | some (i, _), some n =>
      if s.siteState n = Site.TRIPPED ∨ s.flag (Reg.CH_STAT.TRIPPED c) then s2
      else if s.inPassage c then s2.set (Reg.CH_STAT.CMP_SUPPR c) 1
      else if w.code = 0xA then s2.capture c (w.openAt / 65536).toNat hi lo
      else if w.code = 0xB then s2
      else
        let s3 := if w.code = 4 ∨ w.code = 5 then s2.calStrobe c w.start o0 else s2
        let s4 := s3.calCompare n c
        if w.subst then s4.countFail n c i w
        else if s.flag (Reg.CH_CMP.MASK c) ∨ comparePass w.code w.window o then s4
        else s4.countFail n c i w
    | _, _ => s2

end Sys2Proof.Machine
end

