-- ==== Sys2Proof/Machine/Measure.lean ====
section
/-! DEFINITION. Measurements of pins and of supplies (R293 to R298, R328, R329): settling, samples, the mean, results and records. -/

namespace Sys2Proof.Machine

/-- R195: a value against limits; LO above HI is no limit. -/
def beyondLimits (lo hi v : Int) : Bool := lo ≤ hi && (v < lo || hi < v)

/-- R285: the record kind (VOLTAGE or CURRENT) of a PMU mode. -/
def pmuKind (mode : Nat) : Nat := if mode = 1 ∨ mode = 4 then Kind.CURRENT else Kind.VOLTAGE

/-- Start a measurement of a pin: settling from now. (DEDUCED, assumption 67.) -/
def State.pmuStart (s : State) (c : Nat) (owner : Option Nat) (settle total : Nat) (lo hi : Int) (sub : Nat) : State :=
  (s.set (Reg.CH_PMUSTAT.BUSY c) 1).setPmuMeas c (some ⟨owner, false, s.now + settle, total, total, 0, false, false, lo, hi, sub⟩)

/-- The record of a measurement of a statement of site `n`, with its place in the accumulator and in the statement. -/
def State.measRecord (s : State) (n kind flags sub : Nat) (v : Int) (fail : Bool) : State :=
  ((s.record n kind flags sub v).accFold n v fail).unitDone n fail

/-- R294 to R296: the measurement of pin `c` ends with value `v`: CH_PMURES is set and, for a statement, the record written. -/
def State.pmuFinish (s : State) (c : Nat) (m : Meas) (v : Int) (tripped : Bool) : State :=
  let kind := pmuKind (s.pmu c).mode
  let s1 := (s.setPmuMeas c none).set (Reg.CH_PMUSTAT.BUSY c) 0
  let w := s.now % 2 ^ 32 * 2 ^ 96 + (m.total - m.left) % 2 ^ 16 * 2 ^ 80 + b2n m.comply * 2 ^ 68 + b2n m.stale * 2 ^ 67
    + b2n tripped * 2 ^ 66 + 2 ^ 65 + b2n (kind == Kind.CURRENT) * 2 ^ 64 + fieldOf 48 v
  let s2 := (s1.setReg (Reg.CH_PMURES.word c) (BitVec.ofNat 128 w)).inc (Reg.CH_PMUCNT.MEAS c)
  match m.owner with
  | none => s2.set (Reg.CH_PMUSTAT.HOSTRES c) 1
  | some n =>
    let fail := tripped || m.comply || beyondLimits m.lo m.hi v
    let fl := (if fail then Flag.FAIL else 0) + (if m.stale then Flag.STALE else 0) + (if tripped then Flag.TRIPPED else 0)
    (s2.set (Reg.CH_PMUSTAT.HOSTRES c) 0).measRecord n kind fl m.sub v fail

/-- R294: the settling of a pin measurement is over: sample 0 begins, unless a passage keeps the PMU disconnected or calibration
holds its ADC (R296). -/
def State.pmuSettleEnd (s : State) (c : Nat) : State :=
  match s.pmuMeasOf c with
  | none => s
  | some m =>
    if m.sampling ∨ s.now < m.due ∨ (s.pmu c).t0.isSome then s
    else if s.flag (Reg.CH_PMUSTAT.STALE c) then s.setPmuMeas c (some { m with stale := true })
    else s.setPmuMeas c (some { m with sampling := true, due := s.now + 400, comply := m.comply || s.flag (Reg.CH_PMUSTAT.COMPLY c) })

/-- R294, R296: a sample of a pin ends with the reading `adc`, in µV or pA. A sample that fell under calibration is not taken. (DESIGN CHOICE, assumption 68.) -/
def State.pmuSampleEnd (s : State) (c : Nat) (adc : Int) : State :=
  match s.pmuMeasOf c with
  | none => s
  | some m =>
    if !m.sampling ∨ s.now < m.due then s
    else if s.flag (Reg.CH_PMUSTAT.STALE c) then s.setPmuMeas c (some { m with sampling := false, stale := true, due := s.now })
    else
      let m' := { m with sum := m.sum + adc, left := m.left - 1, due := s.now + 400 }
      let s1 := s.inc (Reg.CH_PMUCNT.SAMPLES c)
      if m'.left = 0 then s1.pmuFinish c m' (roundAway m'.sum m'.total) false else s1.setPmuMeas c (some m')

/-- R296: a trip of the channel ends its measurement with the samples completed. -/
def State.pmuMeasTrip (s : State) (c : Nat) : State :=
  match s.pmuMeasOf c with
  | none => s
  | some m => s.pmuFinish c m (roundAway m.sum (m.total - m.left)) true

/-- R298: the MEASURE command of a pin is accepted. (DEDUCED, assumption 66.) -/
def State.pmuCmdOk (s : State) (c : Nat) : Bool :=
  (match s.chanSite c with
   | some n => s.siteState n == Site.LOADED || s.siteState n == Site.ARMED
   | none => false)
  && s.mode != Mode.RESET && s.mode != Mode.SAFE && s.mode != Mode.SHUTDOWN
  && s.flag (Reg.CH_CTRL.OUT_ARM c) && s.get (Reg.CH_PMU.MODE c) != 0 && (s.pmuMeasOf c).isNone

/-- R298: a host measurement of a pin ends with no result. -/
def State.pmuCancel (s : State) (c : Nat) : State :=
  match s.pmuMeasOf c with
  | some m => if m.owner.isNone then (s.setPmuMeas c none).set (Reg.CH_PMUSTAT.BUSY c) 0 else s
  | none => s

/-! ### Supplies (R328, R329) -/

/-- A measurement of a supply in progress. -/
def State.dpsMeasOf (s : State) (d : Nat) : Option Meas := (s.dpsMeas.find? (fun p => p.1 == d)).map Prod.snd
/-- Set or end the measurement of a supply. -/
def State.setDpsMeas (s : State) (d : Nat) (m : Option Meas) : State :=
  { s with dpsMeas := match m with
    | some x => sinsert s.dpsMeas d x
    | none => serase s.dpsMeas d }

/-- The supply beside its registers. -/
def State.dps (s : State) (d : Nat) : Dps := sget (fun _ => Dps.init) s.dpss d
/-- Change a supply. -/
def State.setDps (s : State) (d : Nat) (p : Dps) : State := { s with dpss := sset (fun _ => Dps.init) s.dpss d p }

/-- DPS_STAT.BUSY: a check or a host measurement is in progress. -/
def State.refreshDpsBusy (s : State) (d : Nat) : State :=
  s.set (Reg.DPS_STAT.BUSY d) (b2n ((s.dps d).check.isSome || (s.dpsMeasOf d).any (fun m => m.owner.isNone)))

/-- Start a measurement of a supply. -/
def State.dpsStart (s : State) (d : Nat) (owner : Option Nat) (settle total : Nat) (lo hi : Int) (sub : Nat) : State :=
  (s.setDpsMeas d (some ⟨owner, false, s.now + settle, total, total, 0, false, false, lo, hi, sub⟩)).refreshDpsBusy d

/-- R328: MSEL gives the kind of a supply's record. -/
def State.dpsKind (s : State) (d : Nat) : Nat := if s.flag (Reg.DPS_CFG.MSEL d) then Kind.VOLTAGE else Kind.CURRENT

/-- The end of a supply's measurement with value `v`. -/
def State.dpsFinish (s : State) (d : Nat) (m : Meas) (v : Int) (tripped : Bool) : State :=
  let kind := s.dpsKind d
  let s1 := (s.setDpsMeas d none).refreshDpsBusy d
  let w := s.now % 2 ^ 32 * 2 ^ 96 + (m.total - m.left) % 2 ^ 16 * 2 ^ 80 + b2n m.comply * 2 ^ 68 + b2n m.stale * 2 ^ 67
    + b2n tripped * 2 ^ 66 + 2 ^ 65 + b2n (kind == Kind.CURRENT) * 2 ^ 64 + fieldOf 48 v
  let s2 := s1.setReg (Reg.DPS_RES.word d) (BitVec.ofNat 128 w)
  match m.owner with
  | none => s2
  | some n =>
    let fail := tripped || m.comply || beyondLimits m.lo m.hi v
    let fl := (if fail then Flag.FAIL else 0) + (if m.stale then Flag.STALE else 0) + (if tripped then Flag.TRIPPED else 0)
    s2.measRecord n kind fl m.sub v fail

/-- The settling of a supply's measurement is over. -/
def State.dpsSettleEnd (s : State) (d : Nat) : State :=
  match s.dpsMeasOf d with
  | none => s
  | some m =>
    if m.sampling ∨ s.now < m.due then s
    else if s.flag (Reg.DPS_STAT.STALE d) then s.setDpsMeas d (some { m with stale := true })
    else s.setDpsMeas d (some { m with sampling := true, due := s.now + 400, comply := m.comply || s.flag (Reg.DPS_STAT.COMPLY d) })

/-- A sample of a supply ends with the reading `adc`, in µV or pA (the gang's total for a lead). (DESIGN CHOICE, assumption 68.) -/
def State.dpsSampleEnd (s : State) (d : Nat) (adc : Int) : State :=
  match s.dpsMeasOf d with
  | none => s
  | some m =>
    if !m.sampling ∨ s.now < m.due then s
    else if s.flag (Reg.DPS_STAT.STALE d) then s.setDpsMeas d (some { m with sampling := false, stale := true, due := s.now })
    else
      let m' := { m with sum := m.sum + adc, left := m.left - 1, due := s.now + 400 }
      let s1 := s.inc (Reg.DPS_CNT.SAMPLES d)
      if m'.left = 0 then s1.dpsFinish d m' (roundAway m'.sum m'.total) false else s1.setDpsMeas d (some m')

/-- R328: a trip of the supply ends its measurement. -/
def State.dpsMeasTrip (s : State) (d : Nat) : State :=
  match s.dpsMeasOf d with
  | none => s
  | some m => s.dpsFinish d m (roundAway m.sum (m.total - m.left)) true

end Sys2Proof.Machine
end

