-- ==== Sys2Proof/Machine/Supply.lean ====
section
/-! DEFINITION. Device power supplies (R317 to R331): application of DPS_SET, delay and ramp, the disconnect switch, forced ramps,
the sense check, and what a trip and its clear do to the switch. -/

namespace Sys2Proof.Machine

/-- R319: the goal of a supply's words: SET while CONN is 1, 0 V otherwise, in µV. -/
def State.dpsGoal (s : State) (d : Nat) : Nat := if s.flag (Reg.DPS_SET.CONN d) then s.get (Reg.DPS_SET.SET d) * 125 else 0

/-- R320: TARGET, RAMPING and AT_SET as the supply stands. -/
def State.refreshDps (s : State) (d : Nat) : State :=
  let p := s.dps d
  let ramping := p.delay.isSome || p.target != p.goal
  let at_ := s.flag (Reg.DPS_SET.CONN d) && s.flag (Reg.DPS_STAT.CONN d) && !ramping && p.target == s.get (Reg.DPS_SET.SET d) * 125
  ((s.set (Reg.DPS_STAT.TARGET d) (roundAway p.target 125).toNat).set (Reg.DPS_STAT.RAMPING d) (b2n ramping)).set (Reg.DPS_STAT.AT_SET d) (b2n at_)

/-- R320 step 2: the delay is over: a ramp starts when the target is not at its goal; a disconnect already at 0 V waits for its switch. -/
def State.rampBegin (s : State) (d : Nat) : State :=
  let p := s.dps d
  let s1 := if p.target ≠ p.goal then s.inc (Reg.DPS_CNT.RAMPS d) else s
  let off := p.target = 0 ∧ p.goal = 0 ∧ s.flag (Reg.DPS_STAT.CONN d) ∧ !s.flag (Reg.DPS_SET.CONN d)
  (s1.setDps d { p with delay := none, next := s.now + 100, offAt := if off then some s.now else none }).refreshDps d

/-- R320, R321: DPS_SET of one channel applies now. (DEDUCED, assumption 74.) -/
def State.dpsApply (s : State) (d : Nat) : State :=
  let p := s.dps d
  let conn := s.flag (Reg.DPS_SET.CONN d)
  let delay := s.get (Reg.DPS_SET.DELAY d)
  if s.flag (Reg.DPS_STAT.TRIPPED d) then s
  else
    let s1 := if conn then s.set (Reg.DPS_STAT.CONN d) 1 else s
    let s2 := s1.setDps d { p with goal := s1.dpsGoal d, slew := s1.get (Reg.DPS_SET.SLEW d), offAt := none, delay := some (s.now + delay) }
    if delay = 0 then s2.rampBegin d else s2.refreshDps d

/-- R318: DPS_SET of a lead applies to every channel of its gang. -/
def State.dpsCommit (s : State) (d : Nat) : State :=
  let w := s.reg (Reg.DPS_SET.word d)
  s.forL (s.gangChans d) (fun m t => (t.setReg (Reg.DPS_SET.word m) w).dpsApply m)

/-- R318: DPS_CFG of a lead holds for every channel of its gang. -/
def State.dpsCfgCommit (s : State) (d : Nat) : State :=
  let w := s.reg (Reg.DPS_CFG.word d)
  s.forL (s.gangChans d) (fun m t => t.setReg (Reg.DPS_CFG.word m) w)

/-- R320: the end of a delay; while REFCLK is absent the housekeeping oscillator times a supply (R30). -/
def State.dpsDelayEnd (s : State) (d : Nat) : State :=
  if (s.dps d).delay.any (fun b => decide (b ≤ s.now) || !s.tb.refPresent) then s.rampBegin d else s

/-- R320, R321: one step of a ramp; a target that reaches 0 V on the way to a disconnect starts the wait for the switch. (DEDUCED, assumption 67; DEDUCED, assumption 136.) -/
def State.dpsRampStep (s : State) (d : Nat) : State :=
  let p := s.dps d
  if p.delay.isSome ∨ p.target = p.goal ∨ (s.tb.refPresent ∧ s.now < p.next) then s
  else
    let t := if p.target < p.goal then min p.goal (p.target + p.slew) else max p.goal (p.target - p.slew)
    let off := t = 0 ∧ p.goal = 0 ∧ s.flag (Reg.DPS_STAT.CONN d) ∧ !s.flag (Reg.DPS_SET.CONN d)
    (s.setDps d { p with target := t, next := p.next + 100, offAt := if off then some s.now else none }).refreshDps d

/-- The disconnect switch of a supply opens. -/
def State.dpsOpen (s : State) (d : Nat) : State :=
  ((s.setDps d { s.dps d with offAt := none }).set (Reg.DPS_STAT.CONN d) 0 |>.set (Reg.DPS_STAT.COMPLY d) 0).refreshDps d

/-- R321: the switch opens once the sense voltage is 50 mV or less. -/
def State.dpsSwitchOpen (s : State) (d : Nat) (mv : Int) : State :=
  if (s.dps d).offAt.isSome ∧ mv ≤ 50 then s.dpsOpen d else s

/-- R321: the switch opens at the latest 10,000 beats after the target reached 0 V, with OPEN_HIGH. -/
def State.dpsOpenHigh (s : State) (d : Nat) : State :=
  if (s.dps d).offAt.any (fun b => decide (b + 10000 ≤ s.now) || !s.tb.refPresent) then
    ((s.dpsOpen d).set (Reg.DPS_STAT.OPEN_HIGH d) 1).log Src.DPS Lc.DPS_OPEN_HIGH (detail 0 d)
  else s

/-- R322: the event of R30 and shutdown ramp a supply to 0 V at 1.0 V/ms and take CONN to 0 in both banks. -/
def State.dpsForceOff (s : State) (d : Nat) : State :=
  let a := Reg.DPS_SET.word d
  let s1 := (s.setReg a (wput (s.reg a) 32 32 0)).setShadow a (wput (s.shadowReg a) 32 32 0)
  (s1.setDps d { s1.dps d with goal := 0, slew := 1000, delay := none, offAt := none }).rampBegin d

/-- R323: a supply enters or leaves its current limit. -/
def State.dpsCompliance (s : State) (d : Nat) (at_ : Bool) : State :=
  if !s.flag (Reg.DPS_STAT.CONN d) then s
  else if at_ then
    let s1 := if s.flag (Reg.DPS_STAT.COMPLY d) then s
      else ((s.set (Reg.DPS_STAT.COMPLY d) 1).set (Reg.DPS_STAT.CLIMIT d) 1).inc (Reg.DPS_CNT.CLIMIT d)
    match s1.dpsMeasOf d with
    | some m => if m.sampling then s1.setDpsMeas d (some { m with comply := true }) else s1
    | none => s1
  else s.set (Reg.DPS_STAT.COMPLY d) 0

/-! ### Sense check (R325) -/

/-- R325: the class of one path: 2 LOWZ, 3 OPEN, 4 REVERSED, 1 OK. -/
def senseClass (o : SenseStep) (rforce rsense : Nat) : Nat :=
  let df := o.vf1 - o.vs1; let ds := o.vs2 - o.vf2
  if o.vf1 < 10000 ∨ o.vs2 < 10000 then 2
  else if 2 * o.vs1 < o.vf1 ∨ 2 * o.vf2 < o.vs2 then 3
  else if 2 * ds < df ∧ 2 * rforce < rsense then 4
  else 1

/-- R325: the worst of two results, in the order OPEN, REVERSED, LOWZ, OK. -/
def worseSense (a b : Nat) : Nat :=
  if a = 3 ∨ b = 3 then 3 else if a = 4 ∨ b = 4 then 4 else if a = 2 ∨ b = 2 then 2 else if a = 1 ∨ b = 1 then 1 else 0

/-- R325: a check of supply `d` (the lead of a gang) starts. -/
def State.checkStart (s : State) (d : Nat) (host : Bool) : State :=
  s.forL (s.gangChans d) (fun m t => (t.setDps m { t.dps m with check := some t.now, hostCheck := host }).refreshDpsBusy m)

/-- R325, R326: a check of the gang of `d` ends with what each of its channels showed. -/
def State.checkDone (s : State) (d : Nat) (obs : List SenseStep) : State :=
  let gang := s.gangChans d
  if gang.any (fun m => (s.dps m).check.isNone) ∨ gang.length ≠ obs.length then s
  else
    let rs := (gang.zip obs).map (fun p => senseClass p.2 (s.get (Reg.MP_LIMDPS.RFORCE p.1)) (s.get (Reg.MP_LIMDPS.RSENSE p.1)))
    let worst := rs.foldl worseSense 0
    s.forL (gang.zip obs) (fun p t =>
      let m := p.1; let o := p.2
      let w := fieldOf 32 (o.vf1 - o.vs1) * 2 ^ 96 + fieldOf 32 (o.vs2 - o.vf2) * 2 ^ 64 + fieldOf 32 o.vf1 * 2 ^ 32 + fieldOf 32 o.vs2
      let t1 := (t.setDps m { t.dps m with check := none }).setReg (Reg.DPS_CHK.word m) (BitVec.ofNat 128 w)
      let t2 := ((t1.set (Reg.DPS_STAT.CHECK m) worst).set (Reg.DPS_STAT.CHK_DONE m) 1).inc (Reg.DPS_CNT.CHECKS m)
      (t2.set (Reg.DPS_STAT.HELD_OFF m) (b2n (worst == 3 || worst == 4))).refreshDpsBusy m)

/-- R325: the CHECK command of a supply is accepted. (DEDUCED, assumption 66.) -/
def State.checkCmdOk (s : State) (d : Nat) : Bool :=
  [Mode.STANDBY, Mode.READY, Mode.CONTACT, Mode.RUN].contains s.mode && !s.flag (Reg.DPS_STAT.CONN d) && !s.flag (Reg.DPS_STAT.BUSY d)
  && (match s.dpsSite d with
    | some n => s.siteState n == Site.LOADED || s.siteState n == Site.ARMED
    | none => false)

/-- R329: the MEASURE command of a supply is accepted. (DEDUCED, assumption 66.) -/
def State.dpsCmdOk (s : State) (d : Nat) : Bool :=
  (match s.dpsSite d with
   | some n => s.siteState n == Site.LOADED || s.siteState n == Site.ARMED
   | none => false)
  && s.mode != Mode.RESET && s.mode != Mode.SAFE && s.mode != Mode.SHUTDOWN
  && s.flag (Reg.DPS_STAT.CONN d) && (s.dpsMeasOf d).isNone

/-- R329: a host measurement of a supply ends with no result. -/
def State.dpsCancel (s : State) (d : Nat) : State :=
  match s.dpsMeasOf d with
  | some m => if m.owner.isNone then (s.setDpsMeas d none).refreshDpsBusy d else s
  | none => s

/-! ### Trips (R327) -/

/-- R327: a trip commands the switch open and takes the output stage to 0 V. -/
def State.dpsTripOff (s : State) (d : Nat) : State :=
  let s1 := s.dpsMeasTrip d
  ((s1.setDps d { s1.dps d with target := 0, goal := 0, delay := none, offAt := none }).set (Reg.DPS_STAT.CONN d) 0
    |>.set (Reg.DPS_STAT.COMPLY d) 0).refreshDps d

/-- R327: after its trip is cleared, a supply whose committed CONN is 1 reconnects at 0 V and ramps to SET at SLEW. -/
def State.dpsReconnect (s : State) (d : Nat) : State :=
  if s.flag (Reg.DPS_SET.CONN d) then
    let s1 := s.set (Reg.DPS_STAT.CONN d) 1
    (s1.setDps d { s1.dps d with target := 0, goal := s1.dpsGoal d, slew := s1.get (Reg.DPS_SET.SLEW d), delay := none, offAt := none }).rampBegin d
  else s.refreshDps d

end Sys2Proof.Machine
end

