-- ==== Sys2Proof/Machine/Tdc.lean ====
section
/-! DEFINITION. Time measurement (R254 to R274): sources, settling and self-calibration, events and shots, gates, results and
records. A sender names each qualifying event of a TDC input; the TDC counts the ones its SKIP passes over. -/

namespace Sys2Proof.Machine

/-- The measurement of a TDC in progress. -/
def State.tdc (s : State) (t : Nat) : Option Tdc := (s.tdcs.find? (fun p => p.1 == t)).map Prod.snd
/-- Set or end it. -/
def State.setTdc (s : State) (t : Nat) (m : Option Tdc) : State :=
  { s with tdcs := match m with
    | some x => sinsert s.tdcs t x
    | none => serase s.tdcs t }

/-- R260: the fields of a source. -/
def srcKind (f : Nat) : Nat := bitsOf f 0 3
/-- DESIGN CHOICE, assumption 69. -/
def srcSkip (f : Nat) : Nat := bitsOf f 6 16
def srcPin (f : Nat) : Nat := bitsOf f 22 10
def srcSel (f : Nat) : Nat := bitsOf f 4 2

/-- The START or STOP source of a TM_SRC word. -/
def srcOf (src : Word) (input : Nat) : Nat := if input = 0 then wget src 31 0 else wget src 63 32

/-- R260: a source field that staging refuses. -/
def srcReserved (f : Nat) : Bool := srcKind f == 7 || (srcKind f == 2 && 2 ≤ srcSel f)

/-- R260: the channel whose events a source of TDC `t` takes. -/
def State.srcChan (s : State) (t f : Nat) : Option Nat :=
  match s.chanOfEngine t with
  | none => none
  | some c => if srcKind f = 5 then (s.chanSite c).bind (fun n => s.pinChan n (srcPin f)) else some c

/-- R259: the reference term of a source. -/
def State.srcTerm (s : State) (t f : Nat) : Int :=
  match s.srcChan t f with
  | none => 0
  | some c =>
    let e := s.engineOf c
    if srcKind f = 1 then s.get (Reg.EE_DESKEW.TRACE_DRV e) + s.get (Reg.EE_DESKEW.CAL_DRV e)
    else if 2 ≤ srcKind f ∧ srcKind f ≤ 5 then -((s.get (Reg.EE_DESKEW.TRACE_RCV e) : Int) + s.get (Reg.EE_DESKEW.CAL_RCV e))
    else 0

/-- R260: a comparator source whose comparator is unresolved produces no event. -/
def State.srcSilent (s : State) (t f : Nat) : Bool :=
  if 3 ≤ srcKind f ∧ srcKind f ≤ 5 then
    match s.srcChan t f with
    | some c => if bitOf (srcSel f) 0 then (s.chan c).unresHi else (s.chan c).unresLo
    | none => true
  else srcKind f == 0

/-- R260: a source that takes events only inside strobe windows of vectors coded E of its channel: kind E, and CMP and XCH with WIN. -/
def State.srcShut (s : State) (t f : Nat) (instant : Int) : Bool :=
  (srcKind f == 3 || ((srcKind f == 4 || srcKind f == 5) && bitOf f 3)) && (match s.srcChan t f with
    | some c => !(s.chan c).wins.any (fun w => w.code == 0xB && decide (w.openAt ≤ instant) && decide (instant ≤ w.closeAt))
    | none => true)

/-- R270: the TDC, or a channel whose path terms a source of `src` uses, is under calibration. -/
def State.tdcPaused (s : State) (t : Nat) (src : Word) : Bool :=
  s.flag (Reg.TM_STAT.STALE t) || [0, 1].any (fun i => let f := srcOf src i
    1 ≤ srcKind f && srcKind f ≤ 5 && (match s.srcChan t f with
      | some c => s.flag (Reg.CAL_CHS.STALE_T c)
      | none => false))

/-- R267: the words of a TDC make a measurement possible for pin channel `c` of site `n`. -/
def State.tmOk (s : State) (n c : Nat) (cfg src : Word) : Bool :=
  let mode := wget cfg 1 0
  let a := srcOf src 0; let b := srcOf src 1
  let pmuOnly := fun (x : Nat) => s.chanFunc x == 1
  let xch := fun (f : Nat) => srcKind f != 5 || (match s.pinChan n (srcPin f) with
    | some x => !pmuOnly x
    | none => false)
  let own := fun (f : Nat) => !(1 ≤ srcKind f && srcKind f ≤ 3) || !pmuOnly c
  mode < 3 && (if mode = 0 then srcKind a != 0 && srcKind b != 0 else srcKind a != 0 && srcKind b == 0)
  && (mode != 1 || wget cfg 47 32 != 0) && (mode != 2 || wget cfg 71 48 != 0) && xch a && xch b && own a && own b

/-- Start a measurement on TDC `t`: settling from now. -/
def State.tdcStart (s : State) (t : Nat) (owner : Option Nat) (settle total : Nat) (lo hi : Int) (sub : Nat) : State :=
  let m : Tdc := ⟨owner, lo, hi, sub, total, s.now + settle, none, 0, 0, 0, 0, 0, none, none, none, 0, 0, none, 0, 0, 0, 0, 0, 0, 0, 0, 0, false⟩
  (((s.setTdc t (some m)).set (Reg.TM_STAT.STATE t) 1).set (Reg.TM_STAT.SHOTS t) 0 |>.set (Reg.TM_STAT.TARGET t) total).set
    (Reg.TM_STAT.HOST t) (b2n owner.isNone)

/-- R264: the result's value from the shots completed, in ticks or mHz. -/
def Tdc.value (m : Tdc) : Int :=
  if wget m.cfg 1 0 = 2 then (if 0 < m.sumT then roundAway (m.sumK * 65536 * 100000000000 * 256) m.sumT.toNat else 0)
  else roundAway m.sum (256 * m.shots)

/-- A 32-bit signed field that saturates. -/
def sat32 (z : Int) : Nat := fieldOf 32 (max (-(2 ^ 31)) (min (2 ^ 31 - 1) z))

/-- R264, R268: a measurement of TDC `t` ends with `v`; `failed` beside the limits. TM_RES_t is set and a statement's record written. -/
def State.tdcFinish (s : State) (t : Nat) (m : Tdc) (v : Int) (failed tripped : Bool) : State :=
  let mode := wget m.cfg 1 0
  let rev := v < 0
  let mm := if mode = 2 ∨ m.shots = 0 then 0 else sat32 (roundAway m.greatest 256) * 2 ^ 96 + sat32 (roundAway m.least 256) * 2 ^ 64
  let w := mm + mode * 2 ^ 58 + 2 ^ 57 + b2n tripped * 2 ^ 56 + b2n m.stale * 2 ^ 55 + b2n rev * 2 ^ 54
    + b2n (decide (v.natAbs < 32)) * 2 ^ 53 + fieldOf 48 v
  let s1 := (((s.setTdc t none).setReg (Reg.TM_RES.word t) (BitVec.ofNat 128 w)).set (Reg.TM_STAT.STATE t) 0).inc (Reg.TM_CNT.MEAS t)
  match m.owner with
  | none => s1
  | some n =>
    let fail := failed || tripped || (wget m.cfg 2 2 = 1 && rev) || beyondLimits m.lo m.hi v
    let fl := (if fail then Flag.FAIL else 0) + (if m.stale then Flag.STALE else 0) + (if tripped then Flag.TRIPPED else 0)
    s1.measRecord n (if mode = 2 then Kind.FREQUENCY else Kind.TIME) fl m.sub v fail

/-- R268, R270: a measurement that ends with shots missing. -/
def State.tdcMissing (s : State) (t : Nat) (m : Tdc) : State :=
  if m.stale ∧ m.shots = 0 then s.tdcFinish t m (s.getS (Reg.TM_RES.VALUE t)) true false
  else
    let miss := m.total - m.shots
    let s1 := s.tdcFinish t m m.value true false
    let s2 := (s1.add (Reg.TM_CNT.MISSED t) miss).set (Reg.TM_STAT.NOEVENT t) 1
    match m.owner with
    | some n => s2.event n Ev.TM_NOEVENT miss m.sub
    | none => s2

/-- R258: a self-calibration passes. -/
def selfPasses (k : TdcCal) : Bool := decide ((k.sum1 - 32768).natAbs ≤ 2048) && decide ((k.sum2 - k.sum1 - 32768).natAbs ≤ 1024)

/-- R258: a self-calibration that passed writes M1, M2, GAIN and OFFSET. (DEDUCED, assumption 70.) -/
def State.selfWrite (s : State) (t : Nat) (k : TdcCal) : State :=
  let gain := roundAway (2 ^ 41 * 16) (k.sum2 - k.sum1).toNat
  let ofs := roundAway (2048 * 16 * 2 ^ 30 - gain * k.sum1) (16 * 2 ^ 30)
  let w := fieldOf 32 (roundAway k.sum2 16) * 2 ^ 96 + fieldOf 32 (roundAway k.sum1 16) * 2 ^ 64 + fieldOf 32 gain * 2 ^ 32 + fieldOf 16 ofs
  s.setReg (Reg.TM_SELF.word t) (BitVec.ofNat 128 w)

/-- R258: a self-calibration that failed sets CAL_BAD. -/
def State.selfBad (s : State) (t : Nat) : State :=
  (s.set (Reg.TM_STAT.CAL_BAD t) 1).log Src.TM (Lc.event Ev.TM_CALBAD) (detail 0 t) 2

/-- R258, R266: the self-calibration of TDC `t`, and its arming or its failure. (DEDUCED, assumption 70.) -/
def State.tdcSelfcal (s : State) (t : Nat) (k : TdcCal) : State :=
  match s.tdc t with
  | none => s
  | some m =>
    if s.get (Reg.TM_STAT.STATE t) ≠ 1 ∨ s.now < m.due + 2 then s
    else if selfPasses k then
      let cfg := s.reg (Reg.TM_CFG.word t); let src := s.reg (Reg.TM_SRC.word t)
      let tmo := wget cfg 95 72
      let m' := { m with
        cfg := cfg, src := src, skip0 := srcSkip (srcOf src 0), skip1 := srcSkip (srcOf src 1), from_ := (s.now + 1) * 65536
        timeout := if tmo = 0 then none else some (s.now + tmo), left := wget cfg 47 32, gate := s.now + 1 }
      ((s.selfWrite t k).setTdc t (some m')).set (Reg.TM_STAT.STATE t) 3
    else
      let s2 := (s.selfBad t).tdcFinish t { m with cfg := s.reg (Reg.TM_CFG.word t) } 0 true false
      match m.owner with
      | some n => s2.event n Ev.TM_CALBAD (fieldOf 40 (roundAway k.sum1 16)) m.sub
      | none => s2

/-- R257, R259: the value of an interval between two event instants (in ticks), in 1/256 tick. -/
def State.shotValue (s : State) (t : Nat) (a b : Nat) (terms : Int × Int) : Int :=
  let r0 : Int := (b / 32 * 32 : Nat) - (a / 32 * 32 : Nat)
  let r := if r0 = 0 then (if a ≤ b then 16 else -16) else r0
  roundAway (s.get (Reg.TM_SELF.GAIN t) * r * 256) (2 ^ 30) + 256 * (s.getS (Reg.TM_SELF.OFFSET t) + terms.2 - terms.1)

/-- R261, R264: a shot of INTERVAL or PERIOD with value `v` (1/256 tick) completes at instant `at_`; the last one ends the
measurement. -/
def State.shotDone (s : State) (t : Nat) (m : Tdc) (v : Int) (at_ : Nat) : State :=
  let m' := { m with
    shots := m.shots + 1, sum := m.sum + v, least := if m.shots = 0 then v else min m.least v, greatest := if m.shots = 0 then v else max m.greatest v
    cap0 := none, cap1 := none, terms := none, from_ := at_ + 8192, left := wget m.cfg 47 32
    skip0 := if wget m.cfg 1 0 = 0 then srcSkip (srcOf m.src 0) else 0, skip1 := srcSkip (srcOf m.src 1) }
  let s1 := (s.inc (Reg.TM_CNT.SHOTS t)).set (Reg.TM_STAT.SHOTS t) m'.shots
  let s2 := if v < 0 then s1.inc (Reg.TM_CNT.REV t) else s1
  if m'.total ≤ m'.shots then s2.tdcFinish t m' m'.value false false else s2.setTdc t (some m')

/-- R256, R261 to R263: a qualifying event on an input at tick `tick` of this beat. (DESIGN CHOICE, assumption 69.) -/
def State.tdcCapture (s : State) (t input tick : Nat) : State :=
  match s.tdc t with
  | none => s
  | some m =>
    let at_ := s.now * 65536 + tick
    let mode := wget m.cfg 1 0
    if s.get (Reg.TM_STAT.STATE t) ≠ 3 ∨ s.srcSilent t (srcOf m.src input) ∨ s.srcShut t (srcOf m.src input) at_ ∨ at_ < m.from_ ∨ (mode ≠ 0 ∧ input ≠ 0) then s
    else if s.tdcPaused t m.src then s.setTdc t (some { m with stale := true })
    else if (if input = 0 then m.skip0 else m.skip1) ≠ 0 then
      s.setTdc t (some (if input = 0 then { m with skip0 := m.skip0 - 1 } else { m with skip1 := m.skip1 - 1 }))
    else
      let terms := m.terms.getD (s.srcTerm t (srcOf m.src 0), if mode = 0 then s.srcTerm t (srcOf m.src 1) else s.srcTerm t (srcOf m.src 0))
      let m1 := { m with terms := some terms }
      if mode = 0 then
        let m2 := if input = 0 then { m1 with cap0 := some (m1.cap0.getD at_) } else { m1 with cap1 := some (m1.cap1.getD at_) }
        match m2.cap0, m2.cap1 with
        | some a, some b => s.shotDone t m2 (s.shotValue t a b terms) (max a b)
        | _, _ => s.setTdc t (some m2)
      else if mode = 1 then
        match m1.cap0 with
        | none => s.setTdc t (some { m1 with cap0 := some at_ })
        | some a =>
          if 1 < m1.left then s.setTdc t (some { m1 with left := m1.left - 1 })
          else s.shotDone t m1 (roundAway (s.shotValue t a at_ terms) (wget m.cfg 47 32)) at_
      else
        match m1.first with
        | none => s.setTdc t (some { m1 with first := some at_, last := at_, count := 0 })
        | some _ => s.setTdc t (some { m1 with last := at_, count := m1.count + 1 })

/-- R263: a FREQUENCY gate closes; the next opens at the same boundary, or the measurement ends after N gates. -/
def State.gateEnd (s : State) (t : Nat) : State :=
  match s.tdc t with
  | none => s
  | some m =>
    if s.get (Reg.TM_STAT.STATE t) ≠ 3 ∨ wget m.cfg 1 0 ≠ 2 ∨ s.now < m.gate + wget m.cfg 71 48 then s
    else
      let m' := match m.first with
        | some a => if 0 < m.count then { m with shots := m.shots + 1, sumK := m.sumK + m.count, sumT := m.sumT + s.shotValue t a m.last (0, 0) }
            else { m with missing := m.missing + 1 }
        | none => { m with missing := m.missing + 1 }
      let m2 := { m' with first := none, count := 0, gate := s.now, terms := none }
      let s1 := if m2.shots = m.shots then s else (s.inc (Reg.TM_CNT.SHOTS t)).set (Reg.TM_STAT.SHOTS t) m2.shots
      if m2.shots + m2.missing < m2.total then s1.setTdc t (some m2)
      else if m2.missing = 0 then s1.tdcFinish t m2 m2.value false false
      else s1.tdcMissing t m2

/-- R266, R268: the timeout of a measurement expires. -/
def State.tdcTimeout (s : State) (t : Nat) : State :=
  match s.tdc t with
  | none => s
  | some m => if s.get (Reg.TM_STAT.STATE t) = 3 ∧ m.timeout.any (fun b => b ≤ s.now) then s.tdcMissing t m else s

/-- R269: a trip of a channel ends the measurements of its TDC and of those that take its events through the crossbar. -/
def State.tdcTrip (s : State) (c : Nat) : State :=
  s.forL (s.tdcs.filter (fun p => s.chanOfEngine p.1 == some c || s.srcChan p.1 (srcOf p.2.src 0) == some c || s.srcChan p.1 (srcOf p.2.src 1) == some c))
    (fun p u => u.tdcFinish p.1 { p.2 with cfg := if u.get (Reg.TM_STAT.STATE p.1) = 3 then p.2.cfg else u.reg (Reg.TM_CFG.word p.1) } p.2.value true true)

/-- R271: ARM of a TDC by the host is accepted. -/
def State.tmCmdOk (s : State) (t total : Nat) : Bool :=
  total != 0 && s.mode != Mode.RESET && s.mode != Mode.SAFE && s.mode != Mode.SHUTDOWN && (s.tdc t).isNone
  && (match s.chanOfEngine t with
    | none => false
    | some c => match s.chanSite c with
      | none => false
      | some n => (s.siteState n == Site.LOADED || s.siteState n == Site.ARMED) && s.tmOk n c (s.reg (Reg.TM_CFG.word t)) (s.reg (Reg.TM_SRC.word t)))

/-- R271: a host measurement of a TDC ends with no result. -/
def State.tdcCancel (s : State) (t : Nat) : State :=
  match s.tdc t with
  | some m => if m.owner.isNone then (s.setTdc t none).set (Reg.TM_STAT.STATE t) 0 else s
  | none => s

/-- R271, R298, R329: host measurements of a site's units end when the site is armed or started. -/
def State.cancelHost (s : State) (n : Nat) : State :=
  let s1 := s.forL (s.map n).chans (fun c t => (t.pmuCancel c).tdcCancel (t.engineOf c))
  s1.forL (s.map n).supplies (fun d t => t.dpsCancel d)

end Sys2Proof.Machine
end

