-- ==== Sys2Proof/Machine/Wave.lean ====
section
/-! DEFINITION. Waveform sources (R302 to R316): samples, phase, triggers, connection, span passages and tables. -/

namespace Sys2Proof.Machine

/-- A source beside its registers. -/
def State.wf (s : State) (i : Nat) : Wf := sget (fun _ => Wf.init) s.wfs i
/-- Change a source. -/
def State.setWf (s : State) (i : Nat) (w : Wf) : State := { s with wfs := sset (fun _ => Wf.init) s.wfs i w }

/-! ### The sine of R306 -/

/-- The fixed point of the sine: 2^64. -/
def sinOne : Nat := 2 ^ 64
/-- The angle of quarter-wave index `k` (pi k / 8,192 radians) in that fixed point. -/
def sinAngle (k : Nat) : Nat := 57952155664616982739 * k / 8192

/-- Terms `n` on of the power series of the sine, from a term already made. -/
def sinTerms (th2 : Nat) : Nat → Nat → Int → Int
  | 0, _, _ => 0
  | fuel + 1, n, term =>
    let t := -(term * th2 / sinOne / ((2 * n) * (2 * n + 1) : Nat))
    t + sinTerms th2 fuel (n + 1) t

/-- R306: Q[k] = round(32,767 sin(pi k / 8,192)), for k from 0 to 4,096. -/
def sinQ (k : Nat) : Int :=
  let th := sinAngle k
  let v : Int := th + sinTerms (th * th / sinOne) 14 1 th
  (2 * 32767 * v + sinOne) / (2 * sinOne : Nat)

/-- R306: the waveform value of a phase in SINE mode. -/
def sineValue (p : Nat) : Int :=
  let q := bitsOf p 46 2
  let x0 := bitsOf p 34 12 * 65536 + bitsOf p 18 16
  let x := if q % 2 = 1 then 4096 * 65536 - x0 else x0
  let i := x / 65536; let fr := x % 65536
  let m := sinQ i * 65536 + (if fr = 0 then 0 else (sinQ (i + 1) - sinQ i) * fr)
  let w := roundAway m 65536
  if 2 ≤ q then -w else w

/-- R307: entry `e` of a source's table. -/
def State.wfEntry (s : State) (i e : Nat) : Int :=
  let t := sget (fun _ => ([] : List Host.Cell)) s.wfTables i
  signedOf 16 ((sget memDefault t (2 * e)).toNat + 256 * (sget memDefault t (2 * e + 1)).toNat)

/-- R307: the entry that a phase plays. -/
def arbIndex (amp : Word) (p : Nat) : Nat :=
  let l := wget amp 116 112
  wget amp 111 96 + p / 2 ^ (48 - l)

/-- R308: the output code of a waveform value, and whether the limit altered it. -/
def State.wfCode (s : State) (i : Nat) (amp : Word) (w : Int) : Nat × Bool :=
  let gain := s.getS (Reg.WF_STAT.GAIN_TRIM i)
  let v : Int := wget amp 15 0 + s.getS (Reg.WF_STAT.OFS_TRIM i)
    + roundAway (wget amp 46 32 * (16384 + gain) * w) (16384 * 32768)
  ((max 0 (min 65535 v)).toNat, v < 0 || 65535 < v)

/-- R305 to R308, R310: one sample of a source. -/
def State.wfSample (s : State) (i : Nat) : State :=
  let f := s.wf i
  let mode := wget f.ctrl 1 0
  if mode = 0 then s
  else
    let p := if f.load ∧ 2 ≤ mode then wget f.freq 111 64 % 2 ^ 48 else f.phase
    let wrapped := f.wrapped && !(f.load && decide (2 ≤ mode))
    let once := mode = 3 ∧ wget f.ctrl 5 5 = 1
    let ended := once ∧ wrapped
    let w : Int := if mode = 2 then sineValue p else if mode = 3 ∧ ¬ ended then s.wfEntry i (arbIndex f.amp p) else 0
    let (code, clip) := match f.t0 with
      | some t => if s.now < t + 2 then (zeroCode f.oldSpan, false)
        else if s.now < t + 102 then (zeroCode (wget f.ctrl 4 4), false) else s.wfCode i f.amp w
      | none => s.wfCode i f.amp w
    let nxt := if 2 ≤ mode then p + wget f.freq 47 0 else p
    let s1 := s.setWf i { f with phase := nxt % 2 ^ 48, load := f.load && !decide (2 ≤ mode), wrapped := wrapped || decide (2 ^ 48 ≤ nxt), out := code }
    let s2 := if s1.flag (Reg.WF_STAT.CONN i) then s1.inc (Reg.WF_CNT.SAMPLES i) else s1
    let s3 := if clip then (s2.inc (Reg.WF_CNT.CLIPS i)).set (Reg.WF_STAT.CLIP i) 1 else s2
    if ended then s3.set (Reg.WF_STAT.DONE i) 1 else s3

/-- Bring CH_STAT of the channels on a source's bus up to date. -/
def State.refreshBus (s : State) (i : Nat) : State := s.forL (s.busChans i) (fun c t => t.refreshChan c)

/-- R305, R309, R310: a trigger of a source's words; `load` tells that an action wrote PHASE. -/
def State.wfTrigger (s : State) (i : Nat) (load : Bool) : State :=
  let f := s.wf i
  if f.t0.isSome then (s.setWf i { f with deferLoad := f.deferLoad || load }).set (Reg.WF_STAT.DEFER i) 1
  else
    let ctrl := s.reg (Reg.WF_CTRL.word i)
    let old := wget f.ctrl 1 0; let mode := wget ctrl 1 0
    let spanMoves := wget f.ctrl 4 4 ≠ wget ctrl 4 4
    let routed := (s.routeOf i).isSome
    let f1 := { f with ctrl := ctrl, freq := s.reg (Reg.WF_FREQ.word i), amp := s.reg (Reg.WF_AMP.word i)
                       load := f.load || load || (decide (old ≤ 1) && decide (2 ≤ mode))
                       connectAt := if mode = 0 then none else if old = 0 ∧ routed then some (s.now + 2) else f.connectAt }
    if mode = 0 then (s.setWf i f1).set (Reg.WF_STAT.CONN i) 0
    else if old ≠ 0 ∧ spanMoves then
      (((s.setWf i { f1 with t0 := some s.now, oldSpan := wget f.ctrl 4 4, out := zeroCode (wget f.ctrl 4 4) }).set (Reg.WF_STAT.PASSAGE i) 1).inc
        (Reg.WF_CNT.PASSAGES i)).refreshBus i
    else s.setWf i f1

/-- R310: the source connects 20 ns after it left OFF. -/
def State.wfConnect (s : State) (i : Nat) : State :=
  let f := s.wf i
  if f.connectAt.any (fun t => t ≤ s.now) then (s.setWf i { f with connectAt := none }).set (Reg.WF_STAT.CONN i) 1 else s

/-- R310: a source's span passage ends; a deferred trigger acts. -/
def State.wfPassageEnd (s : State) (i : Nat) : State :=
  let f := s.wf i
  if f.t0.any (fun t => t + 104 ≤ s.now) then
    let s1 := (((s.setWf i { f with t0 := none, deferLoad := false }).set (Reg.WF_STAT.PASSAGE i) 0).refreshBus i)
    if s1.flag (Reg.WF_STAT.DEFER i) then (s1.set (Reg.WF_STAT.DEFER i) 0).wfTrigger i f.deferLoad else s1
  else s

/-- R313: the event of R30 and shutdown disconnect a source at once, its words unchanged. -/
def State.wfOff (s : State) (i : Nat) : State :=
  let f := s.wf i
  ((s.setWf i { f with connectAt := none, t0 := none, deferLoad := false, ctrl := wput f.ctrl 1 0 0 }).set (Reg.WF_STAT.CONN i) 0
    |>.set (Reg.WF_STAT.PASSAGE i) 0 |>.set (Reg.WF_STAT.DEFER i) 0).refreshBus i

/-- R312: a table load completes: VALID when the CRC agrees and no uncorrectable unit was met. -/
def State.wfTableDone (s : State) (i : Nat) : State :=
  match (s.wfLoads.find? (fun p => p.1 == i)).map Prod.snd with
  | none => s
  | some (addr, crc) =>
    let bad := s.anyUncorr addr 131072
    let ok := !bad && crc32c (s.bytes addr 131072) == crc
    let cells := (s.mem.filter (fun p => addr ≤ p.1 && p.1 < addr + 131072)).map (fun p => (p.1 - addr, p.2))
    let s0 := if bad then (s.inc Reg.PM_CNT.UNCORR).set Reg.PM_STAT.UNCORR 1 else s
    let s1 := { s0 with wfLoads := serase s0.wfLoads i, wfTables := sset (fun _ => ([] : List Host.Cell)) s0.wfTables i (if ok then cells else []) }
    let s2 := (s1.set (Reg.WF_STAT.TABLE i) (if ok then 2 else 3)).set (Reg.WF_STAT.TLOAD_DONE i) 1
    if ok then s2 else s2.log Src.WF Lc.WF_TABLE (detail 0 i)

/-- R311: the largest and smallest entries of a source's table, 0 counted where an entry is unlisted. -/
def State.wfExtremes (s : State) (i : Nat) : Int × Int :=
  let t := sget (fun _ => ([] : List Host.Cell)) s.wfTables i
  let es := t.map (fun p => s.wfEntry i (p.1 / 2))
  let few := t.length < 65536
  (es.foldl max (if few then 0 else -32768), es.foldl min (if few then 0 else 32767))

/-- R311: a setting of a source (its words as they would stand) whose extreme output lies beyond the limits of a needle on its bus. -/
def State.wfBeyond (s : State) (i : Nat) (ctrl amp : Word) : Bool :=
  let mode := wget ctrl 1 0; let span := wget ctrl 4 4
  let a : Int := if mode = 2 ∨ mode = 1 then wget amp 46 32 else 0
  let ofs : Int := wget amp 15 0
  let (hi, lo) := s.wfExtremes i
  let top := if mode = 3 then ofs + roundAway (wget amp 46 32 * hi) 32768 else ofs + a
  let bot := if mode = 3 then ofs + roundAway (wget amp 46 32 * lo) 32768 else ofs - a
  let u := fun (z : Int) => if span = 1 then z - 16384 else 4 * z - 49152
  mode != 0 && (s.busChans i).any (fun c =>
    let lim := s.reg (Reg.MP_LIMCH.word c)
    wget lim 127 112 == 0xFFFF || (decide (signedOf 16 (wget lim 31 16) * 32768 < u top * 1000) || decide (u bot * 1000 < signedOf 16 (wget lim 15 0) * 32768)))

end Sys2Proof.Machine
end

