-- ==== Sys2Proof/Machine/Cal.lean ====
section
/-! DEFINITION. Calibration (R354 to R380): reference runs and their terms, live cycles with their level and timing results, the slots that
step the terms, what is STALE, and the records in non-volatile memory. -/

namespace Sys2Proof.Machine

/-! ### Where things lie -/

/-- The channels, supplies and sources of a quadrant. -/
def quadChans (q : Nat) : List Nat := (List.range 256).map (256 * q + ·)
def quadSupplies (q : Nat) : List Nat := (List.range 16).map (16 * q + ·)
def quadSources (q : Nat) : List Nat := (List.range 8).map (8 * q + ·)

/-- A site owns a resource in a quadrant: a channel, a supply or a lane. -/
def State.siteInQuad (s : State) (n q : Nat) : Bool :=
  (s.map n).chans.any (fun c => c / 256 == q) || (s.map n).supplies.any (fun d => d / 16 == q) || (s.map n).laneList.any (fun l => l / 8 == q)

/-- R355: a quadrant is calibrated. -/
def State.calibrated (s : State) (q : Nat) : Bool :=
  let st := s.get (Reg.CAL_Q.STATE q)
  if st = 4 then s.cal.run.any (fun r => (r.prev.getD q (0, 0)).1 != 0) else st != 0

/-- The terms of a supply and of a source. -/
def State.calDps (s : State) (d : Nat) : CalTerm := sget (fun _ => CalTerm.init) s.cal.dps d
def State.setCalDps (s : State) (d : Nat) (k : CalTerm) : State := { s with cal := { s.cal with dps := sset (fun _ => CalTerm.init) s.cal.dps d k } }
def State.calWf (s : State) (i : Nat) : CalTerm := sget (fun _ => CalTerm.init) s.cal.wf i
def State.setCalWf (s : State) (i : Nat) (k : CalTerm) : State := { s with cal := { s.cal with wf := sset (fun _ => CalTerm.init) s.cal.wf i k } }

/-- R365: the group of a channel in a copy of CAL_GRP; 0xFF is none. -/
def groupIn (g : List (Nat × Word)) (c : Nat) : Nat := wget (sget resetWord g (Reg.CAL_GRP.word (c / 16))) (8 * (c % 16) + 7) (8 * (c % 16))

/-- R365: CAL_GRP as it stands. -/
def State.calGroups (s : State) : List (Nat × Word) := s.regs.filter (fun p => Reg.CAL_GRP.word 0 ≤ p.1 && p.1 < Reg.CAL_GRP.word 64)

/-- The other members of a channel's group in a copy of CAL_GRP. -/
def groupMates (g : List (Nat × Word)) (c : Nat) : List Nat :=
  if groupIn g c = 0xFF then [] else (List.range 1024).filter (fun m => m != c && groupIn g m == groupIn g c)

/-! ### STALE and PEND (R376, R380) -/

/-- R376: VOH (0) or VOL (1) of a channel is still being measured in its quadrant's cycle. -/
def State.levelOpen (s : State) (c cmp : Nat) : Bool :=
  s.get (Reg.CAL_Q.STATE (c / 256)) == 3 && (s.calQ (c / 256)).levels.any (fun r =>
    r.own && r.key == 2 * c + cmp && !(r.stage == 3 && r.firstIn && (r.second.isNone || r.secondIn)))

/-- R376: the timing of a channel is still being measured. -/
def State.timeOpen (s : State) (c : Nat) : Bool :=
  s.get (Reg.CAL_Q.STATE (c / 256)) == 3 && (s.calQ (c / 256)).times.any (fun r => r.chan == c && !r.fin)

/-- R376: bit k: level DAC k of a channel is under calibration. -/
def State.staleLevels (s : State) (c : Nat) : Nat :=
  let k := s.calCh c
  let tr := s.get (Reg.CAL_Q.STATE (c / 256)) = 2
  ((List.range 8).filter (fun i => k.trimT.getD i 0 != s.getS (Reg.CH_LVL.TRIM c i)
    || (if i = 3 then s.levelOpen c 0 else if i = 4 then s.levelOpen c 1 else decide tr))).foldl (fun m i => m + 2 ^ i) 0

/-- What CH_LVLSTAT, CAL_CHS and the TDC show of a channel's terms; a measurement that the TDC has in hand becomes STALE (R270). (DEDUCED, assumption 97.) -/
def State.refreshCal (s : State) (c : Nat) : State :=
  let k := s.calCh c
  let e := s.engineOf c
  let drv := k.drvT - s.get (Reg.EE_DESKEW.CAL_DRV e); let rcv := k.rcvT - s.get (Reg.EE_DESKEW.CAL_RCV e)
  let st := s.staleLevels c
  let t := s.timeOpen c || drv != 0 || rcv != 0
  let s1 := (((s.setS (Reg.CAL_CHS.PEND_DRV c) drv).setS (Reg.CAL_CHS.PEND_RCV c) rcv).setS (Reg.CAL_CHS.PEND_VOH c)
    (k.trimT.getD 3 0 - s.getS (Reg.CH_LVL.TRIM c 3))).setS (Reg.CAL_CHS.PEND_VOL c) (k.trimT.getD 4 0 - s.getS (Reg.CH_LVL.TRIM c 4))
  let s2 := ((s1.set (Reg.CH_LVLSTAT.STALE c) st).set (Reg.CAL_CHS.STALE_L c) (b2n (bitOf st 3 || bitOf st 4))).set (Reg.CAL_CHS.STALE_T c) (b2n t)
  let s3 := s2.set (Reg.TM_STAT.STALE e) (b2n t)
  match s3.tdc e with
  | some m => if t ∧ s3.get (Reg.TM_STAT.STATE e) = 3 then s3.setTdc e (some { m with stale := true }) else s3
  | none => s3

/-- R376: WF_STAT.STALE of a source: its applied terms have not reached their targets. -/
def State.refreshWfCal (s : State) (i : Nat) : State :=
  let k := s.calWf i
  s.set (Reg.WF_STAT.STALE i) (b2n (k.ofsT != s.getS (Reg.WF_STAT.OFS_TRIM i) || k.gainT != s.getS (Reg.WF_STAT.GAIN_TRIM i)))

/-- R376: the ADCs of a quadrant's pins and supplies are under calibration, or no longer. -/
def State.adcStale (s : State) (q : Nat) (on : Bool) : State :=
  (s.forL (quadChans q) (fun c t => t.set (Reg.CH_PMUSTAT.STALE c) (b2n on))).forL (quadSupplies q)
    (fun d t => t.set (Reg.DPS_STAT.STALE d) (b2n on))

/-- R276, R278: a TRIM takes a value in this beat, and OUT follows unless the level is in passage (which loads it later). -/
def State.setTrim (s : State) (c i : Nat) (v : Int) : State :=
  let s1 := s.setS (Reg.CH_LVL.TRIM c i) v
  if (s.dac c i).t0.isSome then s1
  else s1.loadOut c i (s.get (Reg.CH_LVL.OUT_SPAN c i)) (outCode (s.get (Reg.CH_LVL.CODE c i)) v)

/-- R373: the timing or a TRIM of a channel has a new target: the first slot after it is the first to act. -/
def State.targetTrim (s : State) (c i : Nat) (v : Int) : State :=
  let k := s.calCh c
  s.setCalCh c { k with trimT := k.trimT.set i v, lWait := k.lWait.set i 0 }

/-! ### Commands -/

/-- R380: a command of CAL_CMD has ended. -/
def State.calEnd (s : State) (cmd result : Nat) : State :=
  let s1 := ((s.set Reg.CAL_STAT.LAST_CMD cmd).set Reg.CAL_STAT.RESULT result).set Reg.CAL_STAT.BUSY 0
  { s1.set Reg.CAL_STAT.DONE 1 with cal := { s1.cal with run := none } }.intr Intr.CAL_DONE

/-- The quadrants of a QMASK. -/
def maskQuads (m : Nat) : List Nat := maskList m 4

/-- R359: what outputs of a quadrant follow when a reference run starts or ends there. -/
def State.quadOutputs (s : State) (q : Nat) : State :=
  let run := s.get (Reg.CAL_Q.STATE q) = 4
  let s1 := s.forL (quadChans q) (fun c t => (t.refreshChan c).refreshPmu c)
  s1.forL (quadSources q) (fun i t => (t.set (Reg.WF_STAT.CONN i)
    (b2n (!decide run && wget (t.wf i).ctrl 1 0 != 0 && (t.wf i).connectAt.isNone && (t.routeOf i).isSome))).refreshBus i)

/-- R359, R378: a reference run (or a RESTORE) can be accepted in one of the `modes`. -/
def State.refcalOk (s : State) (qmask : Nat) (modes : List Nat) : Bool :=
  modes.contains s.mode && s.flag Reg.TB_STAT.PLL_LOCK && s.flag Reg.MP_STAT.LIM_VALID && !s.flag Reg.CAL_STAT.BUSY
  && (List.range 64).all (fun n => !([Site.ARMED, Site.RUNNING, Site.HELD, Site.TRIPPED].contains (s.siteState n))
      || !(maskQuads qmask).any (fun q => s.siteInQuad n q))
  && (maskQuads qmask).all (fun q => (quadSupplies q).all (fun d => !s.flag (Reg.DPS_STAT.CONN d)))

/-- A command that takes time is accepted: a reference run or a RESTORE takes its quadrants to STATE 4. -/
def State.calBegin (s : State) (cmd qmask : Nat) (sub : Bool) (beats cause : Nat) : State :=
  let prev := (List.range 4).map (fun q => (s.get (Reg.CAL_Q.STATE q), s.get (Reg.CAL_Q.CAUSE q)))
  let r : CalRun := ⟨cmd, qmask, sub, s.now, s.now + beats, prev, maskQuads qmask⟩
  let s1 := ({ s with cal := { s.cal with run := some r } }.set Reg.CAL_STAT.BUSY 1).set Reg.CAL_STAT.LAST_CMD cmd
  if cause = 0 then s1
  else s1.forL (maskQuads qmask) (fun q t => (((t.set (Reg.CAL_Q.STATE q) 4).set (Reg.CAL_Q.CAUSE q) cause).quadOutputs q).adcStale q true)

/-- The quadrants of a run leave STATE 4: as before it, or calibrated. -/
def State.calRelease (s : State) (r : CalRun) (fin : Bool) : State :=
  if r.cmd = 1 ∨ r.cmd = 4 then
    s.forL (maskQuads r.qmask) (fun q t =>
      let p := r.prev.getD q (0, 0)
      let t1 := if fin then t.set (Reg.CAL_Q.STATE q) 1 else (t.set (Reg.CAL_Q.STATE q) p.1).set (Reg.CAL_Q.CAUSE q) p.2
      ((t1.quadOutputs q).adcStale q false).forL (quadChans q) (fun c u => u.refreshCal c))
  else s

/-- A run ends with a result and changes no term. -/
def State.calAbandon (s : State) (r : CalRun) (cmd result : Nat) : State := (s.calRelease r false).calEnd cmd result

/-- R359: CAL_CMD with REFCAL_RUN. -/
def State.refcalRun (s : State) (port : Port) (w : Word) : State :=
  let qm := (Reg.CAL_CMD.QMASK).of w
  if s.refcalOk qm [Mode.REFCAL] then s.calBegin 1 qm ((Reg.CAL_CMD.SUBSTRATE).of w = 1) 4698112 4
  else s.reject port Reg.CAL_CMD.word Src.CAL

/-- R359, R379: CAL_CMD with ABORT: a reference run before its last beat ends with every term as it was. (DEDUCED, assumption 96.) -/
def State.calAbort (s : State) (port : Port) : State :=
  match s.cal.run with
  | some r => if r.cmd = 1 ∧ s.now < r.due then s.calAbandon r 5 7 else s.reject port Reg.CAL_CMD.word Src.CAL
  | none => s.reject port Reg.CAL_CMD.word Src.CAL

/-! ### The results of a reference run (R360 to R363) -/

/-- R361: the pair that enters service of two offsets in µV: false A, true B; none when neither is usable. (DEDUCED, assumption 88.) -/
def servicePair (a b : Int) : Option Bool :=
  let ua := a.natAbs ≤ 10000; let ub := b.natAbs ≤ 10000
  if ua ∧ (¬ ub ∨ a.natAbs ≤ b.natAbs) then some false else if ub then some true else none

/-- R362: the path terms of a channel (CAL_DRV, CAL_RCV) from its step 5, and from step 6 when it ran. -/
def refPath (o : RefObs) (devOfs : Int) (sub : Option Int) : Int × Int :=
  let d := o.loop - o.shadow - o.recv
  let r := match sub with
    | some x => o.refl - x
    | none => 0
  let h := roundAway r 2
  (d + devOfs + h, o.recv - devOfs + (r - h))

/-- R362: DSPLIT. -/
def refSplit (o : RefObs) : Nat :=
  let t := o.loop - o.shadow
  let d := o.loop - o.shadow - o.recv
  (if 0 < t then roundAway (65536 * d) t.toNat else 0).toNat % 65536

/-- R113: a path term and a trace term lie within range. -/
def State.pathOk (s : State) (c : Nat) (drv rcv : Int) : Bool :=
  let e := s.engineOf c
  let d := drv + s.get (Reg.EE_DESKEW.TRACE_DRV e); let r := rcv + s.get (Reg.EE_DESKEW.TRACE_RCV e)
  0 ≤ d && d < 2 ^ 20 && 0 ≤ r && r < 2 ^ 20 && 0 ≤ drv && drv < 2 ^ 20 && 0 ≤ rcv && rcv < 2 ^ 20

/-- R360 to R362: REF_RESULT of a channel: the first step it fails, or OK. (DEDUCED, assumption 88.) -/
def State.refResult (s : State) (o : RefObs) (devOfs : Int) (sub : Option Int) : Nat :=
  let p0 := refPath o devOfs none
  let p1 := refPath o devOfs sub
  if 2 ^ 20 < 100 * o.adcGain.natAbs ∨ 5000 < o.adcOfs.natAbs ∨ 6 < o.noise then 1
  else if !o.linear ∨ o.trims.any (fun t => 96 < t.natAbs) then 2
  else if (servicePair (o.pairOfs.getD 0 0) (o.pairOfs.getD 1 0)).isNone ∨ (servicePair (o.pairOfs.getD 2 0) (o.pairOfs.getD 3 0)).isNone then 3
  else if o.zOut < 48000 ∨ 52000 < o.zOut then 4
  else if 16 < o.loopSd ∨ !s.pathOk o.chan p0.1 p0.2 then 5
  else if sub.any (fun x => 655 < (o.refl - x).natAbs) then 6
  else if !s.pathOk o.chan p1.1 p1.2 then 5
  else 0

/-- R276: a TRIM within its register. -/
def trimLimit (z : Int) : Int := max (-127) (min 127 z)

/-- R363: the terms of a channel take effect at once: the TRIMs with their targets, and the path terms with theirs. -/
def State.takeTerms (s : State) (c : Nat) (trims : List Int) (drv rcv : Int) : State :=
  let e := s.engineOf c
  let s1 := (s.set (Reg.EE_DESKEW.CAL_DRV e) drv.toNat).set (Reg.EE_DESKEW.CAL_RCV e) rcv.toNat
  let s2 := s1.forN 8 (fun i t => t.setTrim c i (trims.getD i 0))
  s2.setCalCh c { s2.calCh c with trimT := trims, drvT := drv, rcvT := rcv, tWait := 0, lWait := CalCh.init.lWait }

/-- Base trims with the PO of the pairs in service added to VOH and VOL (R361). -/
def servedTrims (base po : List Int) (hi lo : Bool) : List Int :=
  let t := fun i => base.getD i 0
  [t 0, t 1, t 2, trimLimit (t 3 + po.getD (b2n hi) 0), trimLimit (t 4 + po.getD (2 + b2n lo) 0), t 5, t 6, t 7]

/-- R363: the result of one channel of a reference run: OK gives it its new terms, anything else leaves the old ones. -/
def State.refChannel (s : State) (o : RefObs) (devOfs : Int) (sub : Option Int) : State :=
  let c : Nat := o.chan
  let r := s.refResult o devOfs sub
  let s1 := s.set (Reg.CAL_CHS.REF_RESULT c) r
  if r ≠ 0 then s1
  else
    let hi := (servicePair (o.pairOfs.getD 0 0) (o.pairOfs.getD 1 0)).getD false
    let lo := (servicePair (o.pairOfs.getD 2 0) (o.pairOfs.getD 3 0)).getD false
    let u := fun i => b2n (decide ((o.pairOfs.getD i 0).natAbs ≤ 10000))
    let p := refPath o devOfs sub
    let k := { s1.calCh c with gain := o.adcGain, ofs := o.adcOfs, gainT := o.adcGain, ofsT := o.adcOfs, gainRef := o.adcGain, excl := o.excl
                               usable := u 0 + 2 * u 1 + 4 * u 2 + 8 * u 3, po := o.po, legs := o.legs.toNat, dsplit := refSplit o, loop := o.loop }
    let s2 := (s1.setCalCh c k).takeTerms c (servedTrims o.trims o.po hi lo) p.1 p.2
    ((s2.set (Reg.CAL_CHS.PAIR_HI c) (b2n hi)).set (Reg.CAL_CHS.PAIR_LO c) (b2n lo)).set (Reg.CAL_CHS.FIGURE c) 1

/-- R362: LOOP_REF of the channels of a run: L less the mean of L over every channel that has one. (DEDUCED, assumption 88.) -/
def State.setLoopRefs (s : State) (cs : List Nat) : State :=
  let all := (s.cal.chs.filter (fun p => p.2.loop != 0)).map (fun p => p.2.loop)
  let sum := all.foldl (· + ·) 0
  s.forL cs (fun c t => let k := t.calCh c
    t.setCalCh c { k with loopRef := roundAway (k.loop * all.length - sum) all.length })

/-- R363: a quadrant has new terms: T_LAST, STATE, and REFCAL_DONE for every site that owns a resource in it. -/
def State.quadDone (s : State) (q : Nat) : State :=
  let s1 := (s.set (Reg.CAL_Q.T_LAST q) (s.get (Reg.CAL_Q.T_NOW q))).set (Reg.CAL_Q.LAST_BEAT q) s.now
  s1.forL ((List.range 64).filter (fun n => s.siteInQuad n q)) (fun n t =>
    t.event n Ev.REFCAL_DONE ((t.map n).chans.filter (fun c => !([0, 0xFF].contains (t.get (Reg.CAL_CHS.REF_RESULT c))))).length)

/-- R380: CHFAIL. (DEDUCED, assumption 89.) -/
def State.refreshChfail (s : State) : State :=
  s.set Reg.CAL_STAT.CHFAIL ((List.range 1024).filter (fun c => !([0, 0xFF].contains (s.get (Reg.CAL_CHS.REF_RESULT c))))).length

/-- R360, R363: the terms of spares, supplies and sources that a run found. -/
def State.refOthers (s : State) (qmask : Nat) (o : RefRun) : State :=
  let s1 := { s with cal := { s.cal with spares := o.spares.foldl (fun m (p : Fin 32 × Int × Int) => if bitOf qmask (p.1.val / 8) then sset (fun _ => ((0 : Int), (0 : Int))) m p.1 (p.2.1, p.2.2) else m) s.cal.spares } }
  let s2 := s1.forL o.dps (fun p t => if bitOf qmask (p.1.val / 16)
    then t.setCalDps p.1 { t.calDps p.1 with gain := p.2.1, ofs := p.2.2.1, lim := p.2.2.2, gainT := p.2.1, ofsT := p.2.2.1 } else t)
  s2.forL o.wf (fun p t => if bitOf qmask (p.1.val / 8)
    then ((t.setS (Reg.WF_STAT.OFS_TRIM p.1) p.2.1).setS (Reg.WF_STAT.GAIN_TRIM p.1) p.2.2).setCalWf p.1 { t.calWf p.1 with ofsT := p.2.1, gainT := p.2.2 } |>.refreshWfCal p.1
    else t)

/-- R356, R357, R363: a reference run ends: refused for its references, or with its terms. (DESIGN CHOICE, assumption 87.) -/
def State.refcalComplete (s : State) (o : RefRun) : State :=
  match s.cal.run with
  | none => s
  | some r =>
    let uv := s.get Reg.CAL_REF.CALV_UV
    if r.cmd ≠ 1 then s
    else if uv * 2 < 100 * (o.calv - uv).natAbs then s.calAbandon r 1 1
    else if o.calt ≠ some (s.get Reg.CAL_REF.CALT_DIV) then s.calAbandon r 1 2
    else if s.now < r.due then s
    else if o.devOfs < -1024 ∨ 1023 < o.devOfs then s.calAbandon r 1 3
    else
      let sub := if r.substrate then some (s.getS Reg.MP_TILE.SUB_OFS) else none
      let cs := o.chans.filter (fun x => bitOf r.qmask (x.chan.val / 256))
      let s1 := (s.setS Reg.CAL_STAT.DEV_OFS o.devOfs).forL cs (fun x t => t.refChannel x o.devOfs sub)
      let s2 := (s1.setLoopRefs (cs.map (fun x => x.chan.val))).refOthers r.qmask o
      let s3 := s2.forL (maskQuads r.qmask) (fun q t => (t.setCalQ q { t.calQ q with
        substrate := r.substrate, live := false, calv := uv, caltOfs := s.getS Reg.CAL_REF.CALT_OFS }).quadDone q)
      ((s3.calRelease r true).refreshChfail).calEnd 1 0

/-! ### Live cycles (R366 to R368) -/

/-- R366: a cycle of the quadrant may run. -/
def State.liveOk (s : State) (q : Nat) : Bool :=
  s.flag Reg.CAL_CTRL.LIVE_EN && s.calibrated q && s.get (Reg.CAL_Q.STATE q) != 4
  && [Mode.READY, Mode.CONTACT, Mode.RUN, Mode.THROTTLE].contains s.mode

/-- R366, R372: a trigger of a live cycle: it starts one beat later, or queues behind the cycle in progress; the quadrant's channels
fall back to the reference figure. (DEDUCED, assumption 94.) -/
def State.calTrigger (s : State) (q cause : Nat) : State :=
  if !s.liveOk q then s
  else
    let s1 := s.forL (quadChans q) (fun c t => if t.get (Reg.CAL_CHS.FIGURE c) = 2 then t.set (Reg.CAL_CHS.FIGURE c) 1 else t)
    let k := s1.calQ q
    if s1.get (Reg.CAL_Q.STATE q) = 1 then
      (if k.pend.isSome then s1 else s1.setCalQ q { k with pend := some (s1.now + 1, cause) })
    else (s1.setCalQ q { k with queued := cause }).set (Reg.CAL_Q.QUEUED q) 1

/-- R366: CAL_CMD with QCAL. (DEDUCED, assumption 94.) -/
def State.qcal (s : State) (port : Port) (w : Word) : State :=
  if s.flag Reg.CAL_STAT.BUSY then s.reject port Reg.CAL_CMD.word Src.CAL
  else (s.forL (maskQuads ((Reg.CAL_CMD.QMASK).of w)) (fun q t => t.calTrigger q 2)).calEnd 2 0

/-- R366, R367: the live cycle of a quadrant starts with its transfer phase. -/
def State.liveStart (s : State) (q : Nat) : State :=
  let k := s.calQ q
  match k.pend with
  | none => s
  | some (b, cause) =>
    if s.now < b then s
    else if !s.liveOk q ∨ s.get (Reg.CAL_Q.STATE q) ≠ 1 then s.setCalQ q { k with pend := none }
    else
      let s1 := s.setCalQ q { k with pend := none, tStart := s.getS (Reg.CAL_Q.T_NOW q), start := s.now, ctrl := s.reg Reg.CAL_CTRL.word, groups := s.calGroups, counting := [], levels := [], times := [] }
      let s2 := ((s1.set (Reg.CAL_Q.STATE q) 2).set (Reg.CAL_Q.CAUSE q) cause).adcStale q true
      s2.forL (quadChans q) (fun c t => t.refreshCal c)

/-- A count of results of a quadrant. (DEDUCED, assumption 92.) -/
def State.calResult (s : State) (q : Nat) (ok : Bool) : State :=
  if ok then s.inc (Reg.CAL_QCNT.ACCEPTED q) else (s.inc (Reg.CAL_QCNT.REJECTED q)).set Reg.CAL_STAT.REJECT 1

/-- The DACs that the transfer phase trims, in the order its result gives them (R368). -/
def transferDacs : List Nat := [0, 1, 2, 5, 6, 7]

/-- R368: the transfer result of one unit. -/
def State.transferOne (s : State) (q : Nat) (o : TransferObs) : State :=
  if o.kind = 0 then
    (if o.unit / 256 ≠ q ∨ 1024 ≤ o.unit then s
     else
      let k := s.calCh o.unit
      if 2 ^ 20 < 1000 * (o.gain - k.gainRef).natAbs then s.calResult q false
      else
        let s1 := s.setCalCh o.unit { k with gainT := o.gain, ofsT := o.ofs }
        (s1.forL (transferDacs.zip o.trims) (fun p t => t.targetTrim o.unit p.1 (trimLimit p.2))).calResult q true)
  else if o.kind = 1 then
    (if o.unit / 16 ≠ q ∨ 64 ≤ o.unit then s else s.setCalDps o.unit { s.calDps o.unit with gainT := o.gain, ofsT := o.ofs })
  else
    (if o.unit / 8 ≠ q ∨ 32 ≤ o.unit then s else (s.setCalWf o.unit { s.calWf o.unit with gainT := o.gain, ofsT := o.ofs }).refreshWfCal o.unit)

/-- R368, R369, R371: the transfer phase ends and the level and timing phases begin: every grouped channel of the quadrant is
measured, and its mates elsewhere sweep as references. (DESIGN CHOICE, assumption 87.) -/
def State.transferEnd (s : State) (q : Nat) (obs : List TransferObs) : State :=
  let k := s.calQ q
  if s.get (Reg.CAL_Q.STATE q) ≠ 2 ∨ s.now < k.start + 102400 then s
  else
    let s1 := s.forL obs (fun o t => t.transferOne q o)
    let own := (quadChans q).filter (fun c => groupIn k.groups c != 0xFF)
    let gs := (own.map (groupIn k.groups)).eraseDups
    let refs := (List.range 1024).filter (fun c => c / 256 != q && gs.contains (groupIn k.groups c))
    let run := fun (own : Bool) (c i : Nat) => (⟨2 * c + i, own, 0, s1.newSweep c, none, none, none, false, false⟩ : LRun)
    let k1 := { s1.calQ q with measAt := s.now, winEnd := s.now + (Reg.CAL_CTRL.WIN).of k.ctrl, counting := []
                               levels := own.flatMap (fun c => [run true c 0, run true c 1]) ++ refs.flatMap (fun c => [run false c 0, run false c 1])
                               times := own.map (fun c => ⟨c, 0, 0, 0, false⟩) }
    let s2 := ((s1.setCalQ q k1).set (Reg.CAL_Q.STATE q) 3).adcStale q false
    s2.forL (quadChans q) (fun c t => t.refreshCal c)

/-! ### Level results and the hand-over (R370) -/

/-- The index of the PO of a comparator's pair. -/
def poIndex (cmp : Nat) (pairB : Bool) : Nat := 2 * cmp + b2n pairB

/-- The field of the pair in service. -/
def pairField (c cmp : Nat) : Fld := if cmp = 0 then Reg.CAL_CHS.PAIR_HI c else Reg.CAL_CHS.PAIR_LO c

/-- R370: the hand-over of one comparator: the swept pair enters service, TRIM moves by the difference of the PO, and the other pair's sweep
begins. -/
def State.handOver (s : State) (q : Nat) (r : LRun) : State :=
  let c := r.key / 2; let cmp := r.key % 2; let i := 3 + cmp
  let b := s.flag (pairField c cmp)
  let k := s.calCh c
  let d := k.po.getD (poIndex cmp (!b)) 0 - k.po.getD (poIndex cmp b) 0
  let s1 := (s.set (pairField c cmp) (b2n (!b))).setTrim c i (trimLimit (s.getS (Reg.CH_LVL.TRIM c i) + d))
  let s2 := s1.setCalCh c { k with trimT := k.trimT.set i (trimLimit (k.trimT.getD i 0 + d)) }
  let kq := s2.calQ q
  (s2.setCalQ q { kq with levels := kq.levels.map (fun x => if x.key = r.key then { x with stage := 2, sweep := s2.newSweep c } else x) }).refreshCal c

/-- R370: the hand-overs of one channel that wait. -/
def State.handOvers (s : State) (c : Nat) : State :=
  s.forL ((s.calQ (c / 256)).levels.filter (fun r => r.own && r.stage == 1 && r.key / 2 == c)) (fun r t => t.handOver (c / 256) r)

/-- R369, R370: a frame boundary (or the first frame) of stream `x` in this beat: counting starts where a second phase has begun, and
hand-overs that wait on the stream's channels take place. (DEDUCED, assumption 93.) -/
def State.calBoundary (s : State) (x : Nat) : State :=
  let qs := (s.cal.quads.map Prod.fst).filter (fun q => s.get (Reg.CAL_Q.STATE q) = 3)
  let s1 := s.forL qs (fun q t => let k := t.calQ q
    if k.counting.any (fun p => p.1 == x) then t else t.setCalQ q { k with counting := (x, t.now) :: k.counting })
  let cs := (s.streamSites x).flatMap (fun n => if s.flag (Reg.SO_SITE_STAT.IN_STREAM n) then (s.map n).chans else [])
  s1.forL qs (fun q t => t.forL ((t.calQ q).levels.filter (fun r => r.own && r.stage == 1 && cs.contains (r.key / 2))) (fun r u => u.handOver q r))

/-- R365: the reference members' first crossings for a comparator: members outside the quadrant that were accepted; at the cycle's end,
when they are too few, every accepted member but the channel itself. None when there are fewer than MIN_REF. -/
def CalQ.references (k : CalQ) (q key : Nat) (last : Bool) : Option (List (Rat × Rat)) :=
  let c := key / 2
  let acc := k.levels.filter (fun r => r.key % 2 == key % 2 && r.key / 2 != c && groupIn k.groups (r.key / 2) == groupIn k.groups c && r.first.isSome)
  let out := acc.filter (fun r => r.key / 2 / 256 != q)
  let need := (Reg.CAL_CTRL.MIN_REF).of k.ctrl
  if need ≤ out.length then some (out.filterMap LRun.first)
  else if last ∧ need ≤ acc.length then some (acc.filterMap LRun.first) else none

/-- The nearest integer to a rational, a half away from zero. -/
def roundRat (x : Rat) : Int := roundAway x.num x.den

/-- R370: the correction of a sweep's crossings against the references, in LSB of the span. (DEDUCED, assumption 90.) -/
def levelDelta (x : Rat × Rat) (refs : List (Rat × Rat)) (span : Nat) : Int :=
  let n : Rat := (refs.length : Nat)
  let lo := (refs.map Prod.fst).foldl (· + ·) 0 / n
  let hi := (refs.map Prod.snd).foldl (· + ·) 0 / n
  roundRat ((x.1 - lo + (x.2 - hi)) / 2 / ((3906 * (if span = 1 then 1 else 4) : Nat) : Rat))

/-- R370, R380: the level result of a channel, `code` as LIVE_T is coded. (DEDUCED, assumption 90.) -/
def State.levelResult (s : State) (c code : Nat) : State := (s.set (Reg.CAL_CHS.LIVE_L c) code).calResult (c / 256) (code == 1)

/-- R370: the results of one comparator that can be given now; `last` at the end of the cycle. (DEDUCED, assumption 91.) -/
def State.levelTake (s : State) (q : Nat) (last : Bool) (r : LRun) : State :=
  let c := r.key / 2; let i := 3 + r.key % 2
  let k := s.calQ q
  let span := s.get (Reg.CH_LVL.SPAN c i)
  let put := fun (t : State) (r' : LRun) => let kt := t.calQ q
    t.setCalQ q { kt with levels := kt.levels.map (fun x => if x.key = r.key then r' else x) }
  let refs := k.references q r.key last
  let ready := r.stage ≥ 2 || last
  -- the first pair
  let (s1, r1) :=
    if r.firstIn ∨ !ready then (s, r)
    else match r.first, refs with
      | none, _ => if r.stage = 3 then (s.levelResult c 3, { r with firstIn := true }) else (s.levelResult c 2, { r with firstIn := true })
      | some x, some rs =>
        if r.stage < 2 then (s.levelResult c 2, { r with firstIn := true })
        else
          let d := levelDelta x rs span
          let ch := s.calCh c
          let v := ch.trimT.getD i 0 + d
          (((s.targetTrim c i (trimLimit v)).levelResult c (if v.natAbs ≤ 127 then 1 else 5)), { r with firstIn := true, delta := some d })
      | some _, none => if last then (s.levelResult c 4, { r with firstIn := true }) else (s, r)
  -- the second pair
  let (s2, r2) :=
    if r1.secondIn ∨ !r1.firstIn ∨ (r1.stage ≠ 3 ∧ !last) ∨ r1.first.isNone then (s1, r1)
    else match r1.second, refs, r1.delta with
      | some x, some rs, some d =>
        let ch := s1.calCh c
        let o := poIndex (r.key % 2) (!s1.flag (pairField c (r.key % 2)))
        ((s1.setCalCh c { ch with po := ch.po.set o (ch.po.getD o 0 + levelDelta x rs span - d) }).levelResult c 1, { r1 with secondIn := true })
      | none, _, _ => (s1.levelResult c (if r1.stage = 3 then 3 else 2), { r1 with secondIn := true })
      | some _, _, _ => if last then (s1.levelResult c 4, { r1 with secondIn := true }) else (s1, r1)
  put s2 r2

/-! ### Common-edge statistics (R371, R372) -/

/-- R372: the timing result of a channel from its statistics. -/
def State.timeTake (s : State) (q : Nat) (r : TRun) : State :=
  let c := r.chan
  let k := s.calQ q
  let kt := fun (t : State) => t.setCalQ q { t.calQ q with times := (t.calQ q).times.map (fun x => if x.chan = c then { x with fin := true } else x) }
  let mates := groupMates k.groups c
  let give := fun (t : State) (code : Nat) => (kt (t.set (Reg.CAL_CHS.LIVE_T c) code)).calResult q (code == 1)
  let n : Rat := (r.n : Nat)
  let mean := r.sum / n
  let delta := roundRat mean
  let ch := s.calCh c
  let dd := roundAway (delta * ch.dsplit) 65536
  let drv := (s.get (Reg.EE_DESKEW.CAL_DRV (s.engineOf c)) : Int) + dd
  let rcv := (s.get (Reg.EE_DESKEW.CAL_RCV (s.engineOf c)) : Int) + (delta - dd)
  if mates.length < (Reg.CAL_CTRL.MIN_REF).of k.ctrl then give s 4
  else if r.n < (Reg.CAL_CTRL.MIN_EDGES).of k.ctrl then give s 2
  else if 4096 < r.sumSq / n - mean * mean then give s 3
  else if 655 < delta.natAbs ∨ !s.pathOk c drv rcv then give s 5
  else give ((s.setCalCh c { ch with drvT := drv, rcvT := rcv, tWait := 0 }).set (Reg.CAL_CHS.FIGURE c) 2) 1

/-- R371: one event on channel `c`: q on it and on the members that share it. (DEDUCED, assumption 95.) -/
def State.shadowCapture (s : State) (c : Nat) (qv : Int) (refs : List (Nat × Int)) : State :=
  let q := c / 256
  let k := s.calQ q
  let counting := match s.chanSite c with
    | some n => k.counts (s.streamOf n) s.now
    | none => false
  let mates := (refs.filter (fun p => p.1 != c && groupIn k.groups p.1 == groupIn k.groups c)).eraseDups
  let out := mates.filter (fun p => p.1 / 256 != q)
  let need := (Reg.CAL_CTRL.MIN_REF).of k.ctrl
  let use := if need ≤ out.length then out else mates
  match k.times.find? (fun r => r.chan == c && !r.fin) with
  | none => s
  | some r =>
    if s.get (Reg.CAL_Q.STATE q) ≠ 3 ∨ !counting ∨ use.length < need then s
    else
      let m : Rat := ((use.map (fun p => p.2 - (s.calCh p.1).loopRef)).foldl (· + ·) (0 : Int) : Int) / ((use.length : Nat) : Rat)
      let d : Rat := ((qv - (s.calCh c).loopRef : Int) : Rat) - m
      let r' := { r with n := r.n + 1, sum := r.sum + d, sumSq := r.sumSq + d * d }
      let s1 := s.setCalQ q { k with times := k.times.map (fun x => if x.chan = c then r' else x) }
      if (Reg.CAL_CTRL.MIN_EDGES).of k.ctrl ≤ r'.n then (s1.timeTake q r').refreshCal c else s1

/-! ### The end of a cycle -/

/-- R367: the level phase and the timing phase have both ended. -/
def CalQ.ended (k : CalQ) : Bool := k.levels.all (fun r => !r.own || r.stage == 3) && k.times.all TRun.fin

/-- A cycle leaves its second phase: nothing is measured any more. (DEDUCED, assumption 94.) -/
def State.liveDrop (s : State) (q : Nat) : State :=
  let s1 := ((s.setCalQ q { s.calQ q with levels := [], times := [], counting := [] }).set (Reg.CAL_Q.STATE q) 1).adcStale q false
  s1.forL (quadChans q) (fun c t => t.refreshCal c)

/-- R366: a trigger that was queued starts a further cycle one beat after the end. -/
def State.unqueue (s : State) (q : Nat) : State :=
  if s.flag (Reg.CAL_Q.QUEUED q) then (s.setCalQ q { s.calQ q with pend := some (s.now + 1, (s.calQ q).queued) }).set (Reg.CAL_Q.QUEUED q) 0 else s

/-- R367, R372: a live cycle ends: results still open are given, T_LAST and CYCLES follow; a cycle whose conditions of R366 have gone
ends with nothing. -/
def State.liveEnd (s : State) (q : Nat) : State :=
  let st := s.get (Reg.CAL_Q.STATE q)
  let k := s.calQ q
  if st ≠ 2 ∧ st ≠ 3 then s
  else if !s.liveOk q then (s.liveDrop q).unqueue q
  else if st = 2 ∨ (s.now < k.winEnd ∧ !k.ended) then s
  else
    let s1 := s.forL (k.levels.filter LRun.own) (fun r t => t.levelTake q true r)
    let s2 := s1.forL (k.times.filter (fun r => !r.fin)) (fun r t => t.timeTake q r)
    let s3 := s2.forL ((quadChans q).filter (fun c => groupIn k.groups c == 0xFF)) (fun c t => (t.set (Reg.CAL_CHS.LIVE_T c) 6).set (Reg.CAL_CHS.LIVE_L c) 6)
    let s4 := (((s3.setS (Reg.CAL_Q.T_LAST q) k.tStart).set (Reg.CAL_Q.LAST_BEAT q) s.now).inc (Reg.CAL_QCNT.CYCLES q)).liveDrop q
    (s4.setCalQ q { s4.calQ q with live := true }).unqueue q

/-! ### Slots (R373 to R375) -/

/-- One unit toward a target. -/
def stepTo (a t : Int) : Int := if a < t then a + 1 else if t < a then a - 1 else a

/-- R373: whether beat `b` is the beat of a slot of channel `c`: the beat after a boundary of its stream, else 1 modulo 64. -/
def State.slotBeat (s : State) (c b : Nat) : Bool :=
  match s.chanSite c with
  | some n => if s.flag (Reg.SO_SITE_STAT.IN_STREAM n) then s.get (Reg.SO_STR_POS.BOUNDARY (s.streamOf n)) == (b + 2 ^ 32 - 1) % 2 ^ 32 else b % 64 == 1
  | none => b % 64 == 1

/-- R373, R374: a slot of the channel falls now: in its own beat unless a commit touched it, or in the beat after one that did. -/
def State.slotDue (s : State) (c : Nat) : Bool :=
  let k := s.calCh c
  k.slotAt != s.now + 1 && k.touched != s.now + 1 && (s.slotBeat c s.now || (s.now != 0 && k.touched == s.now && s.slotBeat c (s.now - 1)))

/-- R373: the step of the timing terms, one slot in TSTEP. -/
def State.slotTime (s : State) (c : Nat) : State × Bool :=
  let e := s.engineOf c
  let k := s.calCh c
  let d : Int := s.get (Reg.EE_DESKEW.CAL_DRV e); let r : Int := s.get (Reg.EE_DESKEW.CAL_RCV e)
  if d = k.drvT ∧ r = k.rcvT then (s, false)
  else if k.tWait ≠ 0 then (s.setCalCh c { k with tWait := k.tWait - 1 }, false)
  else (((s.set (Reg.EE_DESKEW.CAL_DRV e) (stepTo d k.drvT).toNat).set (Reg.EE_DESKEW.CAL_RCV e) (stepTo r k.rcvT).toNat).setCalCh c
    { k with tWait := (Reg.CAL_CTRL.TSTEP).of (s.calQ (c / 256)).ctrl - 1 }, true)

/-- R373: the step of one TRIM, one slot in LSTEP. -/
def State.slotTrim (s : State) (c i : Nat) : State × Bool :=
  let k := s.calCh c
  let t := s.getS (Reg.CH_LVL.TRIM c i); let g := k.trimT.getD i 0
  if t = g then (s, false)
  else if k.lWait.getD i 0 ≠ 0 then (s.setCalCh c { k with lWait := k.lWait.set i (k.lWait.getD i 0 - 1) }, false)
  else ((s.setTrim c i (stepTo t g)).setCalCh c { k with lWait := k.lWait.set i ((Reg.CAL_CTRL.LSTEP).of (s.calQ (c / 256)).ctrl - 1) }, true)

/-- R373: the ADC terms of a channel step in every slot. -/
def State.slotAdc (s : State) (c : Nat) : State × Bool :=
  let k := s.calCh c
  (s.setCalCh c { k with gain := stepTo k.gain k.gainT, ofs := stepTo k.ofs k.ofsT }, k.gain != k.gainT || k.ofs != k.ofsT)

/-- R373: the terms of the supplies and sources of a site step in the slot of its lowest channel. (DEDUCED, assumption 93.) -/
def State.slotUnits (s : State) (n : Nat) : State :=
  let s1 := s.forL (s.map n).supplies (fun d t => let k := t.calDps d
    t.setCalDps d { k with gain := stepTo k.gain k.gainT, ofs := stepTo k.ofs k.ofsT })
  s1.forL ((List.range 32).filter (fun i => s.wfSite i == some n)) (fun i t => let k := t.calWf i
    ((t.setS (Reg.WF_STAT.OFS_TRIM i) (stepTo (t.getS (Reg.WF_STAT.OFS_TRIM i)) k.ofsT)).setS (Reg.WF_STAT.GAIN_TRIM i)
      (stepTo (t.getS (Reg.WF_STAT.GAIN_TRIM i)) k.gainT)).refreshWfCal i)

/-- The site whose lowest channel is `c`. -/
def State.lowestOf (s : State) (c : Nat) : Option Nat :=
  (s.chanSite c).bind (fun n => if (s.map n).chans.all (fun m => c ≤ m) then some n else none)

/-- R370, R373: one calibration slot of a channel. (DEDUCED, assumption 91; DEDUCED, assumption 92.) -/
def State.calSlot (s : State) (c : Nat) : State :=
  if !s.slotDue c then s
  else
    let q := c / 256
    let inStream := (s.chanSite c).any (fun n => s.flag (Reg.SO_SITE_STAT.IN_STREAM n))
    let s0 := s.setCalCh c { s.calCh c with slotAt := s.now + 1 }
    let s1 := if inStream then s0 else s0.handOvers c
    let (s2, m2) := s1.slotTime c
    let (s3, m3) := (List.range 8).foldl (fun (p : State × Bool) i => let r := p.1.slotTrim c i; (r.1, p.2 || r.2)) (s2, m2)
    let (s4, m4) := s3.slotAdc c
    let s5 := if m3 || m4 then s4.inc (Reg.CAL_QCNT.STEPS q) else s4
    let s6 := match s5.lowestOf c with
      | some n => s5.slotUnits n
      | none => s5
    let s7 := if s6.get (Reg.CAL_Q.STATE q) = 3 then s6.forL ((s6.calQ q).levels.filter (fun r => r.own && r.key / 2 == c)) (fun r t => t.levelTake q false r) else s6
    s7.refreshCal c

/-- R366, R379: a spare takes over channel `c`: its timing result of the cycle in progress is dropped, and a cycle is triggered. -/
def State.calSpare (s : State) (c : Nat) : State :=
  let q := c / 256
  let k := s.calQ q
  ((s.setCalQ q { k with times := k.times.filter (fun r => r.chan != c) }).refreshCal c).calTrigger q 3

/-! ### Records (R377, R378) -/

/-- Bytes of a signed field. -/
def leInt (k : Nat) (z : Int) : List Byte := leBytes k (fieldOf (8 * k) z)

/-- R377: one channel entry. -/
def State.calEntry (s : State) (c : Nat) : List Byte :=
  let e := s.engineOf c
  let k := s.calCh c
  let hi := s.flag (Reg.CAL_CHS.PAIR_HI c); let lo := s.flag (Reg.CAL_CHS.PAIR_LO c)
  let base := fun i => s.getS (Reg.CH_LVL.TRIM c i) - (if i = 3 then k.po.getD (poIndex 0 hi) 0 else if i = 4 then k.po.getD (poIndex 1 lo) 0 else 0)
  leBytes 3 (s.get (Reg.EE_DESKEW.CAL_DRV e)) ++ leBytes 3 (s.get (Reg.EE_DESKEW.CAL_RCV e)) ++ leBytes 2 k.dsplit ++ leInt 4 k.loopRef
    ++ leBytes 20 ((List.range 8).foldl (fun m i => m + k.excl.getD i 0 % 2 ^ 20 * 2 ^ (20 * i)) 0)
    ++ (List.range 8).flatMap (fun i => leInt 1 (base i))
    ++ leBytes 1 (b2n hi + 2 * b2n lo + 4 * k.usable) ++ leBytes 2 k.legs ++ leBytes 1 (s.get (Reg.CAL_CHS.REF_RESULT c))
    ++ leInt 2 k.gain ++ leInt 2 k.ofs

/-- R377: the calibration record of a quadrant, as the terms in force stand. -/
def State.calRecord (s : State) (q beat : Nat) : List Byte :=
  let k := s.calQ q
  let head := leBytes 4 0x52435844 ++ leBytes 2 0x0100 ++ leBytes 1 q ++ leBytes 1 (b2n k.substrate + 2 * b2n k.live) ++ leBytes 8 beat
    ++ leBytes 2 (s.get (Reg.CAL_Q.T_NOW q)) ++ leBytes 2 0 ++ leBytes 4 k.calv ++ leInt 4 k.caltOfs ++ leInt 4 (s.getS Reg.CAL_STAT.DEV_OFS)
    ++ leBytes 8 (s.get Reg.MP_TILE.TILE_SN) ++ leBytes 24 0
  let spares := (List.range 8).flatMap (fun i => let p := sget (fun _ => ((0 : Int), (0 : Int))) s.cal.spares (8 * q + i); leInt 4 p.1 ++ leInt 4 p.2)
  let dps := (quadSupplies q).flatMap (fun d => let t := s.calDps d; leInt 2 t.gain ++ leInt 2 t.ofs ++ leInt 2 t.lim)
  let wf := (quadSources q).flatMap (fun i => leInt 1 (s.getS (Reg.WF_STAT.OFS_TRIM i)) ++ leInt 1 (s.getS (Reg.WF_STAT.GAIN_TRIM i)) ++ leBytes 2 0)
  withCrc (head ++ spares ++ dps ++ wf ++ (quadChans q).flatMap s.calEntry) ++ leBytes 252 0

/-- R378: CAL_CMD with SAVE. -/
def State.calSave (s : State) (port : Port) (w : Word) : State :=
  let qm := (Reg.CAL_CMD.QMASK).of w
  if !([Mode.RESET, Mode.SAFE, Mode.SHUTDOWN].contains s.mode) && !s.flag Reg.CAL_STAT.BUSY && (maskQuads qm).all s.calibrated
  then s.calBegin 3 qm false 0 0 else s.reject port Reg.CAL_CMD.word Src.CAL

/-- R378: the write of the next record of a SAVE ends. -/
def State.saveDone (s : State) (e : NvmEnd) : State :=
  match s.cal.run with
  | none => s
  | some r =>
    if r.cmd ≠ 3 then s
    else match r.left with
      | [] => s.calEnd 3 0
      | q :: rest =>
        let (s1, ok) := s.nvmWrite (0x3200 * q) (s.calRecord q r.start) e
        if !ok then ((s1.set Reg.CAL_STAT.NVM_ERR 1).log Src.CAL Lc.CAL_NVM (detail 0 q)).calEnd 3 6
        else if rest.isEmpty then s1.calEnd 3 0
        else { s1 with cal := { s1.cal with run := some { r with left := rest } } }

/-- R378: CAL_CMD with RESTORE. (DEDUCED, assumption 96.) -/
def State.calRestore (s : State) (port : Port) (w : Word) : State :=
  let qm := (Reg.CAL_CMD.QMASK).of w
  if s.refcalOk qm [Mode.REFCAL, Mode.STANDBY] then s.calBegin 4 qm false 102400 5 else s.reject port Reg.CAL_CMD.word Src.CAL

/-- A field of a record's bytes. -/
def atBytes (bs : List Byte) (a k : Nat) : Nat := leNat ((bs.drop a).take k)
/-- A signed field of a record's bytes. -/
def atInt (bs : List Byte) (a k : Nat) : Int := signedOf (8 * k) (atBytes bs a k)

/-- R17, R378: the record of a quadrant, its CRC good. -/
def State.calStored (s : State) (q : Nat) : Option (List Byte) := s.nvmRecord (0x3200 * q) 0x3104 crcGood

/-- R378: a record's magic, version and quadrant are right. -/
def recordOk (q : Nat) (bs : List Byte) : Bool := atBytes bs 0 4 == 0x52435844 && atBytes bs 4 2 == 0x0100 && atBytes bs 6 1 == q

/-- R378: the terms of one channel entry take effect as R363 sets out, with fresh PO. -/
def State.restoreChannel (s : State) (bs : List Byte) (c : Nat) (po : List Int) : State :=
  let b := 0x100 + 48 * (c % 256)
  let r := atBytes bs (b + 43) 1
  let s1 := s.set (Reg.CAL_CHS.REF_RESULT c) r
  if r ≠ 0 then s1
  else
    let pairs := atBytes bs (b + 40) 1
    let ex := atBytes bs (b + 12) 20
    let k := { s1.calCh c with
      gain := atInt bs (b + 44) 2, ofs := atInt bs (b + 46) 2, gainT := atInt bs (b + 44) 2, ofsT := atInt bs (b + 46) 2, gainRef := atInt bs (b + 44) 2
      excl := (List.range 8).map (fun i => bitsOf ex (20 * i) 20), usable := bitsOf pairs 2 4, po := po, legs := atBytes bs (b + 41) 2
      dsplit := atBytes bs (b + 6) 2, loopRef := atInt bs (b + 8) 4 }
    let trims := servedTrims ((List.range 8).map (fun i => atInt bs (b + 32 + i) 1)) po (bitOf pairs 0) (bitOf pairs 1)
    let s2 := (s1.setCalCh c k).takeTerms c trims (atBytes bs b 3 % 2 ^ 20 : Nat) (atBytes bs (b + 3) 3 % 2 ^ 20 : Nat)
    ((s2.set (Reg.CAL_CHS.PAIR_HI c) (b2n (bitOf pairs 0))).set (Reg.CAL_CHS.PAIR_LO c) (b2n (bitOf pairs 1))).set (Reg.CAL_CHS.FIGURE c) 1

/-- R378: the record of a quadrant takes effect. -/
def State.restoreQuad (s : State) (q : Nat) (bs : List Byte) (obs : List (Nat × List Int)) : State :=
  let s1 := s.setS Reg.CAL_STAT.DEV_OFS (signedOf 11 (atBytes bs 0x1C 4))
  let s2 := s1.forL (quadChans q) (fun c t => t.restoreChannel bs c (((obs.find? (fun p => p.1 == c)).map Prod.snd).getD [0, 0, 0, 0]))
  let s3 := { s2 with cal := { s2.cal with spares := (List.range 8).foldl (fun m i =>
    sset (fun _ => ((0 : Int), (0 : Int))) m (8 * q + i) (atInt bs (0x40 + 8 * i) 4, atInt bs (0x44 + 8 * i) 4)) s2.cal.spares } }
  let s4 := s3.forL (List.range 16) (fun i t => let b := 0x80 + 6 * i
    t.setCalDps (16 * q + i) { t.calDps (16 * q + i) with gain := atInt bs b 2, ofs := atInt bs (b + 2) 2, lim := atInt bs (b + 4) 2, gainT := atInt bs b 2, ofsT := atInt bs (b + 2) 2 })
  let s5 := s4.forL (List.range 8) (fun i t => let b := 0xE0 + 4 * i
    (((t.setS (Reg.WF_STAT.OFS_TRIM (8 * q + i)) (atInt bs b 1)).setS (Reg.WF_STAT.GAIN_TRIM (8 * q + i)) (atInt bs (b + 1) 1)).setCalWf (8 * q + i)
      { t.calWf (8 * q + i) with ofsT := atInt bs b 1, gainT := atInt bs (b + 1) 1 }).refreshWfCal (8 * q + i))
  (s5.setCalQ q { s5.calQ q with substrate := bitOf (atBytes bs 7 1) 0, live := bitOf (atBytes bs 7 1) 1, calv := atBytes bs 0x14 4, caltOfs := atInt bs 0x18 4 }).quadDone q

/-- R378: a RESTORE ends: all its records are good and of this tile, or nothing changes. (DEDUCED, assumption 96.) -/
def State.restoreDone (s : State) (obs : List (Nat × List Int)) : State :=
  match s.cal.run with
  | none => s
  | some r =>
    if r.cmd ≠ 4 then s
    else
      let qs := maskQuads r.qmask
      let recs := qs.map (fun q => (q, s.calStored q))
      let s1 := s.forL recs (fun p t => if p.2.isNone then t.log Src.CAL Lc.NVM_LOST (detail 0 p.1) else t)
      if recs.any (fun p => !p.2.any (recordOk p.1)) then s1.calAbandon r 4 4
      else if recs.any (fun p => p.2.any (fun bs => atBytes bs 0x20 8 != s.get Reg.MP_TILE.TILE_SN)) then s1.calAbandon r 4 5
      else if s.now < r.due then s
      else
        let s2 := s1.forL recs (fun p t => t.restoreQuad p.1 (p.2.getD []) obs)
        ((s2.calRelease r true).refreshChfail).calEnd 4 0

/-! ### Overtaken (R364) -/

/-- R364: the event of R30 or entry to SHUTDOWN overtakes what calibration has in progress. (DEDUCED, assumption 96.) -/
def State.calOvertake (s : State) : State :=
  let s1 := match s.cal.run with
    | some r => s.calAbandon r r.cmd 7
    | none => s
  s1.forN 4 (fun q t =>
    let k := t.calQ q
    let t0 := (t.setCalQ q { k with pend := none }).set (Reg.CAL_Q.QUEUED q) 0
    if t.get (Reg.CAL_Q.STATE q) = 2 ∨ t.get (Reg.CAL_Q.STATE q) = 3 then
      let t1 := t0.forL (quadChans q) (fun c u => let h := u.calCh c
        u.setCalCh c { h with gainT := h.gain, ofsT := h.ofs, trimT := (List.range 8).map (fun i => u.getS (Reg.CH_LVL.TRIM c i))
                              drvT := u.get (Reg.EE_DESKEW.CAL_DRV (u.engineOf c)), rcvT := u.get (Reg.EE_DESKEW.CAL_RCV (u.engineOf c)) })
      let t2 := t1.forL (quadSupplies q) (fun d u => u.setCalDps d { u.calDps d with gainT := (u.calDps d).gain, ofsT := (u.calDps d).ofs })
      let t3 := t2.forL (quadSources q) (fun i u => (u.setCalWf i { u.calWf i with ofsT := u.getS (Reg.WF_STAT.OFS_TRIM i), gainT := u.getS (Reg.WF_STAT.GAIN_TRIM i) }).refreshWfCal i)
      t3.liveDrop q
    else t0)

/-! ### The rows -/

def execRefcalRun (port : Port) (w : Word) (s : State) : Out := 
  .next (s.host port Reg.CAL_CMD.word Src.CAL 0 (fun t => t.refcalRun port w))
def execQcal (port : Port) (w : Word) (s : State) : Out := 
  .next (s.host port Reg.CAL_CMD.word Src.CAL 0 (fun t => t.qcal port w))
def execSave (port : Port) (w : Word) (s : State) : Out := 
  .next (s.host port Reg.CAL_CMD.word Src.CAL 0 (fun t => t.calSave port w))
def execRestore (port : Port) (w : Word) (s : State) : Out := 
  .next (s.host port Reg.CAL_CMD.word Src.CAL 0 (fun t => t.calRestore port w))
def execCalAbort (port : Port) (s : State) : Out := 
  .next (s.host port Reg.CAL_CMD.word Src.CAL 0 (fun t => t.calAbort port))
def execRefcalComplete (obs : RefRun) (s : State) : Out := .next (s.refcalComplete obs)
def execSaveDone (w : NvmEnd) (s : State) : Out := .next (s.saveDone w)
def execRestoreDone (obs : List (Fin 1024 × List Int)) (s : State) : Out := .next (s.restoreDone (obs.map (fun p => (p.1.val, p.2))))
def execLiveCycleStart (q : Fin 4) (s : State) : Out := .next (s.liveStart q)
def execLiveCycleEnd (q : Fin 4) (s : State) : Out := .next (s.liveEnd q)
def execTransferPhaseEnd (q : Fin 4) (obs : List TransferObs) (s : State) : Out := .next (s.transferEnd q obs)
def execShadowCapture (c : Fin 1024) (q : Int) (refs : List (Fin 1024 × Int)) (s : State) : Out :=
  .next (s.shadowCapture c q (refs.map (fun p => (p.1.val, p.2))))
def execCalibrationSlot (c : Fin 1024) (s : State) : Out := .next (s.calSlot c)

end Sys2Proof.Machine
end

