-- ==== Sys2Proof/Machine/Guard.lean ====
section
/-! DEFINITION. Guard comparators and protection (R333 to R352): trips with their links, the majority filter, resolution,
clearing, self-check and the contact checks. -/

namespace Sys2Proof.Machine

/-- A channel's guard set beside its registers. -/
def State.gd (s : State) (c : Nat) : Gd := sget (fun _ => Gd.init) s.gds c
/-- Change it. -/
def State.setGd (s : State) (c : Nat) (g : Gd) : State := { s with gds := sset (fun _ => Gd.init) s.gds c g }
/-- A supply's guard set beside its registers. -/
def State.dgd (s : State) (d : Nat) : Gd := sget (fun _ => Gd.init) s.dgds d
/-- Change it. -/
def State.setDgd (s : State) (d : Nat) (g : Gd) : State := { s with dgds := sset (fun _ => Gd.init) s.dgds d g }

/-- R65, R334: the channel whose words govern a channel's guards. -/
def State.leadOf (s : State) (c : Nat) : Nat := match s.compOf c with
  | some k => k.lead
  | none => c
/-- R318, R345: the supply whose words govern a supply's. -/
def State.gangLead (s : State) (d : Nat) : Nat := (s.gangOf d).1

/-- R336, R476: the guard mode in force for a unit of a site with the MODE field `m`. -/
def State.effMode (s : State) (site : Option Nat) (m : Nat) : Nat :=
  let md := s.mode
  if md = Mode.RUN ∨ md = Mode.THROTTLE then
    match site with
    | some n =>
      if !([Site.ARMED, Site.RUNNING, Site.HELD, Site.TRIPPED].contains (s.siteState n)) then 1
      else if md = Mode.THROTTLE ∧ bitOf (s.get (Reg.SQ_STAT.CAUSES n)) Cause.THERMAL then 1 else m
    | none => 1
  else if [Mode.REFCAL, Mode.SELFTEST, Mode.READY, Mode.CONTACT].contains md then 1 else 2

/-- R336: EFF_MODE of a channel and of a supply. -/
def State.chEffMode (s : State) (c : Nat) : Nat := s.effMode (s.chanSite c) (s.get (Reg.CH_GCFG.MODE (s.leadOf c)))
def State.dpsEffMode (s : State) (d : Nat) : Nat := s.effMode (s.dpsSite d) (s.get (Reg.GD_DCFG.MODE (s.gangLead d)))

/-- R506: the site of a unit is RETIRED: its latched causes are not clearable and do not pull TRIP_N. -/
def State.siteRetired (s : State) (site : Option Nat) : Bool := site.any (fun n => s.siteState n == Site.RETIRED)

/-- R339, R506: the device pulls TRIP_N low. -/
def State.tripnOut (s : State) : Bool :=
  s.flag Reg.GD_CTRL.TRIPN_EN &&
  ((List.range 1024).any (fun c => s.flag (Reg.CH_GSTAT.TRIPPED c) && !s.flag (Reg.CH_GCFG.TRIPN_MASK (s.leadOf c)) && !s.siteRetired (s.chanSite c))
    || (List.range 64).any (fun d => s.flag (Reg.GD_DSTAT.TRIPPED d) && !s.flag (Reg.GD_DCFG.TRIPN_MASK (s.gangLead d)) && !s.siteRetired (s.dpsSite d)))

/-- R328: the entry of a supply in its site's DPS section. -/
def State.dpsEntry (s : State) (d : Nat) : Nat :=
  match s.dpsSite d with
  | none => 0
  | some n => (((s.map n).dps.zipIdx.find? (fun p => p.1.1 ≤ d && d < p.1.1 + p.1.2)).map Prod.snd).getD 0

/-- R50, R338: the beat-time of a latch, to one phase step (32 ticks). -/
def State.tripTime (s : State) (tick : Nat) : Nat := s.now * 65536 + tick % 65536 / 32 * 32

/-! ### Latching -/

/-- R338 items 1 and 5 for one channel: outputs to high impedance, the cause latched, the first stamp. (DEDUCED, assumption 47.) -/
def State.latchChan (s : State) (c cause tick : Nat) : State :=
  let old := s.get (Reg.CH_GSTAT.CAUSE c)
  let s1 := s.set (Reg.CH_GSTAT.CAUSE c) (old ||| cause)
  let s2 := if old = 0 then s1.setReg (Reg.CH_GTRIP.word c) (BitVec.ofNat 128 (s.tripTime tick % 2 ^ 80 * 2 ^ 48 + cause % 256 * 2 ^ 40)) else s1
  let s3 := ((s2.set (Reg.CH_GSTAT.TRIPPED c) 1).set (Reg.CH_STAT.TRIPPED c) 1).inc (Reg.CH_GCNT.TRIPS c)
  let s4 := (s3.setGd c { s3.gd c with lastTrip := s.now + 1 }).set Reg.GD_STAT.TRIP_SEEN 1
  ((((s4.refreshChan c).busTrigger c).refreshPmu c).pmuMeasTrip c).tdcTrip c

/-- The same for one supply (R327, R345). -/
def State.latchDps (s : State) (d cause tick : Nat) : State :=
  let old := s.get (Reg.GD_DSTAT.CAUSE d)
  let s1 := s.set (Reg.GD_DSTAT.CAUSE d) (old ||| cause)
  let s2 := if old = 0 then s1.setReg (Reg.GD_DTRIP.word d) (BitVec.ofNat 128 (s.tripTime tick % 2 ^ 80 * 2 ^ 48 + cause % 256 * 2 ^ 40)) else s1
  let s3 := (s2.set (Reg.GD_DSTAT.TRIPPED d) 1).set (Reg.DPS_STAT.TRIPPED d) 1
  let s4 := (s3.setDgd d { s3.dgd d with lastTrip := s.now + 1 }).set Reg.GD_STAT.TRIP_SEEN 1
  s4.dpsTripOff d

/-- R338 item 6: the detail of a GUARD_TRIP log entry (R486). (DEDUCED, assumption 71.) -/
def tripDetail (dps : Bool) (u cause : Nat) : Nat := u % 1024 * 2 ^ 16 + b2n dps * 2 ^ 8 + cause % 256

/-- R338: a channel trips with its compound; one record for the lead, a log entry, TRIP_N and the interrupt. (DEDUCED, assumption 71.) -/
def State.tripCompound (s : State) (c cause tick : Nat) : State :=
  let lead := s.leadOf c
  let s0 := match s.chanSite c with
    | some n => s.tripSite n
    | none => s
  let s1 := s0.latchChan c cause tick
  let s2 := s1.forL ((s1.compChans c).filter (· != c)) (fun m t => t.latchChan m 0x80 tick)
  let s3 := (s2.log Src.GD (Lc.event Ev.GUARD_TRIP) (tripDetail false c cause) 1).intr Intr.TRIP
  match s3.chanSite c, s3.chanPin c with
  | some n, some (i, _) => s3.event n Ev.GUARD_TRIP (if c = lead then cause else 0x80) i
  | _, _ => s3

/-- R345: a supply trips with its gang; one record for its entry. -/
def State.tripGang (s : State) (d cause tick : Nat) : State :=
  let s0 := match s.dpsSite d with
    | some n => s.tripSite n
    | none => s
  let s1 := s0.latchDps d cause tick
  let s2 := s1.forL ((s1.gangChans d).filter (· != d)) (fun m t => t.latchDps m 0x80 tick)
  let s3 := (s2.log Src.GD (Lc.event Ev.GUARD_TRIP) (tripDetail true d cause) 1).intr Intr.TRIP
  match s3.dpsSite d with
  | some n => s3.event n Ev.GUARD_TRIP (0x100 + (if d = s3.gangLead d then cause else 0x80)) (s3.dpsEntry d)
  | none => s3

/-- R338: a trip of a channel with cause bits, and what it links: with DPS_LINK every supply of the site trips LINKED. -/
def State.tripChan (s : State) (c cause tick : Nat) : State :=
  let s1 := s.tripCompound c cause tick
  match s1.chanSite c with
  | some n => if s1.flag (Reg.CH_GCFG.DPS_LINK (s1.leadOf c))
      then s1.forL ((s1.map n).dps.map Prod.fst) (fun d t => t.tripGang d 0x80 tick) else s1
  | none => s1

/-- R345: a trip of a supply; with CH_LINK every channel of the site trips LINKED. -/
def State.tripDps (s : State) (d cause tick : Nat) : State :=
  let s1 := s.tripGang d cause tick
  match s1.dpsSite d with
  | some n => if s1.flag (Reg.GD_DCFG.CH_LINK (s1.gangLead d))
      then s1.forL ((s1.map n).pins.map Pin.chan) (fun c t => t.tripCompound c 0x80 tick) else s1
  | none => s1

/-! ### Excursions (R335, R337, R338) -/

/-- R346, R349: the comparators of a channel do not act: a self-check runs, or the contact checks mask its voltage comparators. -/
def State.guardMasked (s : State) (c cmp : Nat) : Bool :=
  (s.gd c).selfDue.isSome || (decide (cmp < 2) && s.contact.any (fun k => k.chans.contains c))

/-- R333, R338: comparator `cmp` of a channel is enabled, resolved and watching. -/
def State.guardActs (s : State) (c cmp : Nat) : Bool :=
  bitOf (s.get (Reg.CH_GCFG.EN (s.leadOf c))) cmp && !bitOf (s.get (Reg.CH_GSTAT.UNRES c)) cmp && !s.guardMasked c cmp
  && (!(cmp == 2 || cmp == 3) || s.flag (Reg.CH_PMUSTAT.CONN c)) && !bitOf (s.get (Reg.CH_GSTAT.CAUSE c)) cmp

/-- R345: comparator IH (0) or IL (1) of a supply is enabled, resolved and not latched. -/
def State.dpsGuardActs (s : State) (d cmp : Nat) : Bool :=
  let l := s.gangLead d
  cmp < 2 && (if cmp = 0 then s.flag (Reg.GD_DCFG.EN_IH l) else s.flag (Reg.GD_DCFG.EN_IL l))
  && !bitOf (s.get (Reg.GD_DSTAT.UNRES d)) cmp && !bitOf (s.get (Reg.GD_DSTAT.CAUSE d)) cmp

/-- R338: an excursion of a channel's comparator is caught by the asynchronous path. (DEDUCED, assumption 47.) -/
def State.guardTrip (s : State) (c cmp tick : Nat) : State :=
  let s1 := s.set (Reg.CH_GSTAT.RAW c) (s.get (Reg.CH_GSTAT.RAW c) ||| 2 ^ cmp)
  if s.guardActs c cmp && !s.flag (Reg.CH_GCFG.QUAL (s.leadOf c)) then s1.tripChan c (2 ^ cmp) tick else s1

/-- R345: an excursion of a supply's comparator. -/
def State.dpsGuardTrip (s : State) (d cmp tick : Nat) : State :=
  if 2 ≤ cmp then s
  else
    let s1 := s.set (Reg.GD_DSTAT.RAW d) (s.get (Reg.GD_DSTAT.RAW d) ||| 2 ^ cmp)
    if s.dpsGuardActs d cmp && !s.flag (Reg.GD_DCFG.QUAL (s.gangLead d)) then s1.tripDps d (2 ^ cmp) tick else s1

/-- R337: the blank ends over a voltage excursion; it acts only in FAST, with a BLANK in force. -/
def State.blankEnd (s : State) (c cmp : Nat) : State :=
  if cmp < 2 ∧ s.chEffMode c = 0 ∧ s.get (Reg.CH_GCFG.BLANK (s.leadOf c)) ≠ 0 then s.guardTrip c cmp 0 else s

/-- R327: NEGV (bit 2) or SENSE (bit 3) trips a connected supply. -/
def State.supplyTrip (s : State) (d bit : Nat) : State :=
  if s.flag (Reg.DPS_STAT.CONN d) then
    (s.setDps d { s.dps d with cond := (s.dps d).cond ||| 2 ^ (bit - 2) }).tripDps d (2 ^ bit) 0
  else s

/-! ### The majority filter (R340 to R342) -/

/-- R340: the sample period in beats. -/
def filterPeriod (rate : Nat) : Nat := 10 ^ rate

/-- How many of the last `w` samples have bit `i` unlike `f`. -/
def disagreeing (hist : List Nat) (w i : Nat) (f : Bool) : Nat := ((hist.take w).filter (fun m => bitOf m i != f)).length

/-- R340: the filtered states after a sample, and how many comparators disagreed without changing. -/
def filterStep (hist : List Nat) (win filt k : Nat) : Nat × Nat :=
  let w := if win = 0 then 5 else 7
  let need := if win = 0 then 3 else 5
  (List.range k).foldl (fun r i =>
    let f := bitOf filt i
    if need ≤ disagreeing hist w i f then (r.1 ^^^ 2 ^ i, r.2)
    else if bitOf (hist.headD 0) i != f then (r.1, r.2 + 1) else r) (filt, 0)

/-- R342: the comparators that one full window of agreeing samples resolves. -/
def windowAgrees (hist : List Nat) (win i : Nat) : Bool :=
  let w := if win = 0 then 5 else 7
  decide (w ≤ hist.length) && ((hist.take w).all (fun m => bitOf m i) || (hist.take w).all (fun m => !bitOf m i))

/-- R99, R342: comparator `cmp` of a channel resolves to state `st`; into the excursion state it trips. -/
def State.resolveChan (s : State) (c cmp : Nat) (st : Bool) : State :=
  if cmp < 6 then
    if bitOf (s.get (Reg.CH_GSTAT.UNRES c)) cmp then
      let s1 := s.set (Reg.CH_GSTAT.UNRES c) (s.get (Reg.CH_GSTAT.UNRES c) ^^^ 2 ^ cmp)
      if st then s1.guardTrip c cmp 0 else s1
    else s
  else
    let k := s.chan c
    let k' := if cmp = 6 then (if k.unresHi then { k with unresHi := false, rawHi := st } else k)
      else (if k.unresLo then { k with unresLo := false, rawLo := st } else k)
    (s.setChan c k').refreshChan c

/-- R342, R345: comparator IH or IL of a supply resolves. -/
def State.resolveDps (s : State) (d cmp : Nat) (st : Bool) : State :=
  if cmp < 2 ∧ bitOf (s.get (Reg.GD_DSTAT.UNRES d)) cmp then
    let s1 := s.set (Reg.GD_DSTAT.UNRES d) (s.get (Reg.GD_DSTAT.UNRES d) ^^^ 2 ^ cmp)
    if st then s1.dpsGuardTrip d cmp 0 else s1
  else s

/-- Whether bit `i` is set in the excursion sense: guard comparators 0 to 5. -/
def State.filterSample (s : State) (c raw : Nat) : State :=
  let lead := s.leadOf c
  if s.now % filterPeriod (s.get (Reg.CH_GCFG.RATE lead)) ≠ 0 then s
  else
    let win := s.get (Reg.CH_GCFG.WIN lead)
    let g := s.gd c
    let hist := (raw :: g.hist).take 7
    let filt0 := s.get (Reg.CH_GSTAT.FILT c) + 64 * g.filtCmp
    let (filt, chat) := filterStep hist win filt0 8
    let s1 := ((s.setGd c { g with hist := hist, filtCmp := filt / 64 }).set (Reg.CH_GSTAT.RAW c) (raw % 64)).set (Reg.CH_GSTAT.FILT c) (filt % 64)
    let s2 := if chat = 0 then s1 else (s1.add (Reg.CH_GCNT.CHATTER c) chat).set (Reg.CH_GSTAT.CHATTER c) 1
    let s3 := s2.forL ((List.range 8).filter (fun i => windowAgrees hist win i)) (fun i t => t.resolveChan c i (bitOf raw i))
    if s3.flag (Reg.CH_GCFG.QUAL lead) then
      s3.forL ((List.range 6).filter (fun i => bitOf filt i && !bitOf filt0 i)) (fun i t => if t.guardActs c i then t.tripChan c (2 ^ i) 0 else t)
    else s3

/-- R345: the filter sample of a supply. Bits 2 and 3 tell whether the NEGV and SENSE conditions hold (R343). (DEDUCED, assumption 72.) -/
def State.dpsFilterSample (s : State) (d raw : Nat) : State :=
  let lead := s.gangLead d
  let s0 := s.setDps d { s.dps d with cond := raw / 4 % 4 }
  if s0.now % filterPeriod (s0.get (Reg.GD_DCFG.RATE lead)) ≠ 0 then s0
  else
    let win := s0.get (Reg.GD_DCFG.WIN lead)
    let g := s0.dgd d
    let hist := (raw % 4 :: g.hist).take 7
    let filt0 := s0.get (Reg.GD_DSTAT.FILT d)
    let (filt, chat) := filterStep hist win filt0 2
    let s1 := ((s0.setDgd d { g with hist := hist }).set (Reg.GD_DSTAT.RAW d) (raw % 4)).set (Reg.GD_DSTAT.FILT d) filt
    let s2 := if chat = 0 then s1 else s1.set (Reg.GD_DSTAT.CHATTER d) 1
    let s3 := s2.forL ((List.range 2).filter (fun i => windowAgrees hist win i)) (fun i t => t.resolveDps d i (bitOf raw i))
    if s3.flag (Reg.GD_DCFG.QUAL lead) then
      s3.forL ((List.range 2).filter (fun i => bitOf filt i && !bitOf filt0 i)) (fun i t => if t.dpsGuardActs d i then t.tripDps d (2 ^ i) 0 else t)
    else s3

/-! ### Clearing (R343, R344) -/

/-- R343: the causes of a channel that are clearable by themselves: filtered into the window and latched before this beat. -/
def State.chClearable (s : State) (c : Nat) : Bool :=
  let cause := s.get (Reg.CH_GSTAT.CAUSE c)
  cause &&& 0x3F &&& s.get (Reg.CH_GSTAT.FILT c) = 0 && !bitOf cause 6 && (s.gd c).lastTrip ≤ s.now && !s.siteRetired (s.chanSite c)

/-- R343: the same for a supply; NEGV and SENSE once their condition has ended. -/
def State.dpsClearable (s : State) (d : Nat) : Bool :=
  let cause := s.get (Reg.GD_DSTAT.CAUSE d)
  cause &&& 3 &&& s.get (Reg.GD_DSTAT.FILT d) = 0 && cause / 4 % 4 &&& (s.dps d).cond = 0 && (s.dgd d).lastTrip ≤ s.now && !s.siteRetired (s.dpsSite d)

/-- The units of a site: channels and supplies. -/
def State.siteChans (s : State) (n : Nat) : List Nat := (s.map n).chans
def State.siteSupplies (s : State) (n : Nat) : List Nat := (s.map n).supplies

/-- R343: LINKED causes of a site may clear: no cause but LINKED is latched in the site outside the units named. -/
def State.linkedFree (s : State) (site : Option Nat) (cs ds : List Nat) : Bool :=
  match site with
  | none => true
  | some n => (s.siteChans n).all (fun c => cs.contains c || s.get (Reg.CH_GSTAT.CAUSE c) &&& 0x7F == 0)
    && (s.siteSupplies n).all (fun d => ds.contains d || s.get (Reg.GD_DSTAT.CAUSE d) &&& 0x7F == 0)

/-- Every cause latched on the named units is clearable. -/
def State.allClearable (s : State) (cs ds : List Nat) : Bool :=
  cs.all (fun c => s.get (Reg.CH_GSTAT.CAUSE c) == 0 || (s.chClearable c && (!bitOf (s.get (Reg.CH_GSTAT.CAUSE c)) 7 || s.linkedFree (s.chanSite c) cs ds)))
  && ds.all (fun d => s.get (Reg.GD_DSTAT.CAUSE d) == 0 || (s.dpsClearable d && (!bitOf (s.get (Reg.GD_DSTAT.CAUSE d)) 7 || s.linkedFree (s.dpsSite d) cs ds)))

/-- R25, R343: a channel's trip is cleared: it presents its committed values. -/
def State.clearChanTrip (s : State) (c : Nat) : State :=
  if s.get (Reg.CH_GSTAT.CAUSE c) = 0 then s
  else
    let s1 := ((s.set (Reg.CH_GSTAT.CAUSE c) 0).set (Reg.CH_GSTAT.TRIPPED c) 0).set (Reg.CH_STAT.TRIPPED c) 0
    (((s1.refreshChan c).busTrigger c).refreshPmu c).presentIdle c

/-- R327, R343: a supply's trip is cleared. -/
def State.clearDpsTrip (s : State) (d : Nat) : State :=
  if s.get (Reg.GD_DSTAT.CAUSE d) = 0 then s
  else (((s.set (Reg.GD_DSTAT.CAUSE d) 0).set (Reg.GD_DSTAT.TRIPPED d) 0).set (Reg.DPS_STAT.TRIPPED d) 0).dpsReconnect d

/-- R198: a TRIPPED site with no trip left goes to HELD with cause HOST. -/
def State.leaveTripped (s : State) (n : Nat) : State :=
  if s.siteState n = Site.TRIPPED ∧ (s.siteChans n).all (fun c => s.get (Reg.CH_GSTAT.CAUSE c) == 0)
      ∧ (s.siteSupplies n).all (fun d => s.get (Reg.GD_DSTAT.CAUSE d) == 0) then
    (s.setSite n Site.HELD).set (Reg.SQ_STAT.CAUSES n) (s.get (Reg.SQ_STAT.CAUSES n) ||| 1)
  else s

/-- The trips of the named units are cleared, and the sites that have none left leave TRIPPED. -/
def State.clearUnits (s : State) (cs ds : List Nat) : State :=
  let s1 := (s.forL cs (fun c t => t.clearChanTrip c)).forL ds (fun d t => t.clearDpsTrip d)
  s1.forN 64 (fun n t => t.leaveTripped n)

/-- R343: a clear command that names some units is all or nothing. -/
def State.clearCmd (s : State) (port : Port) (cs ds : List Nat) (idx : Nat) : State :=
  if s.allClearable cs ds then s.clearUnits cs ds
  else s.reject port Reg.GD_CMD.word Src.GD Lc.TRIP_ACTIVE idx

/-- R343, R344: clear each clearable cause of the named units and leave the others latched. -/
def State.clearWhatCan (s : State) (cs ds : List Nat) : State :=
  let cs1 := cs.filter (fun c => s.get (Reg.CH_GSTAT.CAUSE c) != 0 && s.chClearable c)
  let ds1 := ds.filter (fun d => s.get (Reg.GD_DSTAT.CAUSE d) != 0 && s.dpsClearable d)
  let free := fun (site : Option Nat) => s.linkedFree site cs1 ds1
  s.clearUnits (cs1.filter (fun c => !bitOf (s.get (Reg.CH_GSTAT.CAUSE c)) 7 || free (s.chanSite c)))
    (ds1.filter (fun d => !bitOf (s.get (Reg.GD_DSTAT.CAUSE d)) 7 || free (s.dpsSite d)))

/-- R344: at a frame boundary of a site, the clear of its units with LATCH. -/
def State.latchClear (s : State) (n : Nat) : State :=
  let cs := (s.siteChans n).filter (fun c => s.flag (Reg.CH_GCFG.LATCH (s.leadOf c)) && s.get (Reg.CH_GSTAT.CAUSE c) != 0)
  let ds := (s.siteSupplies n).filter (fun d => s.flag (Reg.GD_DCFG.LATCH (s.gangLead d)) && s.get (Reg.GD_DSTAT.CAUSE d) != 0)
  if cs.isEmpty && ds.isEmpty then s else s.clearWhatCan cs ds

/-! ### Self-check (R346) -/

/-- R346: SELFCHECK of a channel is accepted. -/
def State.selfcheckOk (s : State) (c : Nat) : Bool :=
  (match s.chanSite c with
   | none => true
   | some n => s.siteState n == Site.EMPTY || s.siteState n == Site.LOADED)
  && (!s.flag (Reg.CH_CTRL.OUT_ARM c) || s.flag (Reg.CH_STAT.TRIPPED c)) && s.contact.isNone

/-- R346: every comparator of a channel resolves to the side its tie ends on. -/
def State.resolveAll (s : State) (c : Nat) : State :=
  let k := s.chan c
  ((s.setChan c { k with unresHi := false, unresLo := false, rawHi := false, rawLo := false }).set (Reg.CH_GSTAT.UNRES c) 0
    |>.set (Reg.CH_GSTAT.RAW c) 0).refreshChan c

/-- R346: the outcome of a self-check of a channel. -/
def State.selfOutcome (s : State) (c : Nat) (good : Bool) : State :=
  let s1 := (s.resolveAll c).inc (Reg.CH_GCNT.SELFCHK c)
  if good then
    if s1.siteRetired (s1.chanSite c) then s1
    else if s1.get (Reg.CH_GSTAT.CAUSE c) = 0x40 then (s1.clearChanTrip c).forN 64 (fun n t => t.leaveTripped n)
    else s1.set (Reg.CH_GSTAT.CAUSE c) (s1.get (Reg.CH_GSTAT.CAUSE c) &&& 0xBF)
  else (s1.inc (Reg.CH_GCNT.SELF_FAIL c)).tripChan c 0x40 0

/-- R346: a self-check ends. (DEDUCED, assumption 126.) -/
def State.selfcheckDone (s : State) (c good : Nat) : State :=
  if (s.gd c).selfDue.any (fun b => b ≤ s.now) then
    ((s.setGd c { s.gd c with selfDue := none }).set (Reg.CH_GSTAT.CHECKING c) 0).selfOutcome c (good == 0xFF)
  else s

/-! ### Contact checks (R349 to R351) -/

/-- R349: every assigned channel, the lead of each compound, with no trip latched; and the leads of the assigned supplies. -/
def State.contactChans (s : State) : List Nat :=
  s.maps.flatMap (fun p => (p.2.pins.map Pin.chan).filter (fun c => s.get (Reg.CH_GSTAT.CAUSE c) == 0))
/-- The assigned supplies, one a gang. -/
def State.contactSupplies (s : State) : List Nat := s.maps.flatMap (fun p => p.2.dps.map Prod.fst)

/-- R349: the duration of the checks up to the end of the last step. -/
def State.contactBeats (s : State) : Nat :=
  let m := s.get Reg.GD_CONTACT.DSETTLE + 400 * s.get Reg.GD_CONTACT.NSAMP
  s.get Reg.GD_CONTACT.CSETTLE + 400 + m + m * s.get Reg.GD_CONTACT.PHASES + (if s.flag Reg.GD_CONTACT.REFL_EN then 10380 else 0)

/-- R349: the contact checks start. -/
def State.contactStart (s : State) : State :=
  let cs := s.contactChans
  let s1 := { s with contact := some ⟨cs, s.contactSupplies, s.now + s.get Reg.GD_CONTACT.CSETTLE, s.now + s.contactBeats⟩ }
  let s2 := s1.setReg Reg.GD_CSTAT.word (BitVec.ofNat 128 (s.now % 2 ^ 32 * 2 ^ 96 + (s.get Reg.GD_CSTAT.ABORTED) * 4 + (s.get Reg.GD_CSTAT.DONE) * 2 + 1))
  let s3 := s2.forL cs (fun c t => ((t.set (Reg.CH_GSTAT.CHECKING c) 1).refreshChan c).refreshPmu c)
  s3.forL s.contactSupplies (fun d t => t.checkStart d false)

/-- R350: the RESULT of a pin: the first row that applies. -/
def State.contactResult (s : State) (o : ContactObs) : Nat :=
  let cfg := s.reg Reg.GD_CONTACT.word
  let nb := o.neighbour.any (fun v => (v.natAbs : Int) < wget cfg 55 44 * 1000)
  if o.good ≠ 0xFF then 1
  else if s.get (Reg.CH_GSTAT.CAUSE o.chan) ≠ 0 then 2
  else if o.unres ≠ 0 then 3
  else if o.diode < signedOf 16 (wget cfg 87 72) * 1000 then 4
  else if signedOf 16 (wget cfg 71 56) * 1000 < o.diode then 5
  else if nb then 6
  else if s.flag Reg.GD_CONTACT.REFL_EN && o.refl.any (fun v => v < (wget cfg 43 32 : Int)) then 7
  else 0

/-- The voltage nearest 0 V of a list. -/
def nearestZero : List Int → Int
  | [] => 0
  | [v] => v
  | v :: vs => let r := nearestZero vs; if v.natAbs ≤ r.natAbs then v else r

/-- R349, R350: the results and the record of one pin. (DEDUCED, assumption 73.) -/
def State.contactPin (s : State) (o : ContactObs) : State :=
  let c := o.chan.val
  let res := s.contactResult o
  let s1 := if o.good = 0xFF then (s.resolveAll c).inc (Reg.CH_GCNT.SELFCHK c) else s.selfOutcome c false
  let s2 := s1.set (Reg.CH_GSTAT.UNRES c) (o.unres.toNat % 64)
  let w := fieldOf 32 o.diode * 2 ^ 96 + (match o.refl with
    | some v => fieldOf 32 v
    | none => 0x7FFFFFFF) * 2 ^ 64 + fieldOf 32 (nearestZero o.neighbour) * 2 ^ 32 + res
  let s3 := s2.setReg (Reg.CH_GCHK.word c) (BitVec.ofNat 128 w)
  let s4 := if res = 0 then s3 else s3.add Reg.GD_CSTAT.FAILS 1
  match s4.chanSite c, s4.chanPin c with
  | some n, some (i, _) => s4.recordRaw n Kind.PASSFAIL (Flag.DEVICE ||| (if res = 0 then 0 else Flag.FAIL)) i res
  | _, _ => s4

/-- The channels return to their committed state. -/
def State.contactRelease (s : State) (cs : List Nat) : State :=
  ({ s with contact := none }).forL cs (fun c t => ((((t.set (Reg.CH_GSTAT.CHECKING c) 0).refreshChan c).busTrigger c).refreshPmu c).presentIdle c)

/-- R349: the contact checks are complete: every supply's check has ended and every checked pin has its readings. -/
def State.contactDone (s : State) (obs : List ContactObs) : State :=
  match s.contact with
  | none => s
  | some k =>
    if s.now < k.due ∨ k.supplies.any (fun d => (s.dps d).check.isSome) ∨ k.chans.any (fun c => !obs.any (fun o => o.chan.val == c)) then s
    else
      let mine := obs.filter (fun o => k.chans.contains o.chan.val)
      let s1 := s.contactRelease k.chans
      let skipped := s.maps.flatMap (fun p => (p.2.pins.map Pin.chan).filter (fun c => !k.chans.contains c))
      let s2 := s1.forL mine (fun o t => t.contactPin o)
      let s3 := s2.forL skipped (fun c t =>
        let t1 := (t.set (Reg.CH_GCHK.RESULT c) 2).add Reg.GD_CSTAT.FAILS 1
        match t1.chanSite c, t1.chanPin c with
        | some n, some (i, _) => t1.recordRaw n Kind.PASSFAIL (Flag.DEVICE ||| Flag.FAIL) i 2
        | _, _ => t1)
      let s4 := s3.forL k.supplies (fun d t =>
        let r := t.get (Reg.DPS_STAT.CHECK d)
        if r = 3 ∨ r = 4 then
          let t1 := t.add Reg.GD_CSTAT.DPS_FAILS 1
          match t1.dpsSite d with
          | some n => t1.event n Ev.DPS_SENSE r (t1.dpsEntry d)
          | none => t1
        else t)
      ((s4.set Reg.GD_CSTAT.END (s.now % 2 ^ 32)).set Reg.GD_CSTAT.BUSY 0 |>.set Reg.GD_CSTAT.DONE 1).intr Intr.CONTACT_DONE

/-- R351: leaving CONTACT aborts the checks. -/
def State.contactAbort (s : State) : State :=
  match s.contact with
  | none => s
  | some k =>
    let s1 := s.contactRelease k.chans
    let s2 := s1.forL s1.maps (fun p t => t.forL (p.2.pins.map Pin.chan) (fun c u => u.set (Reg.CH_GCHK.RESULT c) 0xFF))
    let s3 := s2.forL k.supplies (fun d t => t.forL (t.gangChans d) (fun m u => (u.setDps m { u.dps m with check := none }).refreshDpsBusy m))
    (s3.set Reg.GD_CSTAT.BUSY 0).set Reg.GD_CSTAT.ABORTED 1

end Sys2Proof.Machine
end

