-- ==== Sys2Proof/Machine/Image.lean ====
section
/-! DEFINITION. The syntax image as bytes: its layout (R56 to R67) and its validation in the fixed order of R70, with the
location of the first failure (SI_ERR). -/

namespace Sys2Proof.Machine

/-- The first failure of a validation: the code of R70 and what SI_ERR shows of it. -/
structure ImgErr where
  code : Nat
  off : Nat
  sect : Nat
  entry : Nat
  det : Nat
deriving DecidableEq, Repr

/-! R70: result codes. -/
def Si.OK : Nat := 0x00
def Si.MAGIC : Nat := 0x01
def Si.VERSION : Nat := 0x02
def Si.LENGTH : Nat := 0x03
def Si.CRC : Nat := 0x04
def Si.FORMAT : Nat := 0x05
def Si.RANGE : Nat := 0x06
def Si.OVERLAP : Nat := 0x07
def Si.ALIGN : Nat := 0x08
def Si.FUNCTION : Nat := 0x09
def Si.CLONE : Nat := 0x0A
def Si.SPARE : Nat := 0x0B
def Si.ROUTE : Nat := 0x0C
def Si.MODULE : Nat := 0x0D
def Si.LIMIT : Nat := 0x0E

/-- A check that fails with a code at a place. -/
def chk (ok : Bool) (code off : Nat) (sect : Nat := 0) (entry : Nat := 0) (det : Nat := 0) : Option ImgErr :=
  if ok then none else some ⟨code, off, sect, entry, det⟩

/-- The first check of a list that fails. (DEDUCED, assumption 18.) -/
def firstErr (l : List (Option ImgErr)) : Option ImgErr := l.findSome? id

/-- An image: its bytes by offset. -/
abbrev Img := Nat → Nat

/-- The staged image: byte b of SI_IMG (R12, the loading paragraph before R72). -/
def State.img (s : State) : Img := fun b => wget (s.reg (Reg.SI_IMG.word (b / 16))) (8 * (b % 16) + 7) (8 * (b % 16))

/-- A little-endian 16-bit field. -/
def u16 (g : Img) (o : Nat) : Nat := g o + 256 * g (o + 1)
/-- A little-endian 32-bit field. -/
def u32 (g : Img) (o : Nat) : Nat := u16 g o + 65536 * u16 g (o + 2)
/-- Bytes [o, o + k) are all 0. -/
def zeros (g : Img) (o k : Nat) : Bool := (List.range k).all (fun i => g (o + i) == 0)
/-- The first byte of [o, o + k) that is not 0. -/
def firstNonZero (g : Img) (o k : Nat) : Nat := ((List.range k).find? (fun i => g (o + i) != 0)).getD 0 + o
/-- R13 over bytes [o, o + k). -/
def imgCrc (g : Img) (o k : Nat) : Nat := crc32c ((List.range k).map (fun i => BitVec.ofNat 8 (g (o + i))))

/-! R56: header fields. -/
def Img.partialFlag (g : Img) : Bool := bitOf (u16 g 6) 0
def Img.length (g : Img) : Nat := u32 g 8
def Img.id (g : Img) : Nat := u32 g 0x0C
def Img.parts (g : Img) : Nat := u16 g 0x10
/-- R58: the image CRC. -/
def Img.crcField (g : Img) : Nat := u32 g (Img.length g - 4)

/-- R57: a directory entry. -/
structure Part where
  typ : Nat
  site : Nat
  off : Nat
  len : Nat
  pcrc : Nat
deriving DecidableEq, Repr

/-- R57: directory entry i. -/
def Img.part (g : Img) (i : Nat) : Part :=
  let o := 0x20 + 16 * i
  ⟨g o, g (o + 1), u32 g (o + 4), u32 g (o + 8), u32 g (o + 12)⟩

/-- The directory. -/
def Img.dir (g : Img) : List Part := (List.range (Img.parts g)).map (Img.part g)

/-- Round up to a multiple of 16. -/
def up16 (n : Nat) : Nat := (n + 15) / 16 * 16

/-- R70 step 1: the header. -/
def checkHeader (g : Img) : Option ImgErr := firstErr [
  chk (g 0 == 0x44 && g 1 == 0x58 && g 2 == 0x53 && g 3 == 0x49) Si.MAGIC 0,
  chk (u16 g 4 == 0x0100) Si.VERSION 4,
  chk (u16 g 6 < 2) Si.FORMAT 6,
  chk (64 ≤ Img.length g && Img.length g ≤ 65536 && Img.length g % 4 == 0) Si.LENGTH 8,
  chk (1 ≤ Img.parts g && Img.parts g ≤ 65) Si.FORMAT 0x10,
  chk (zeros g 0x12 14) Si.FORMAT (firstNonZero g 0x12 14)]

/-- R70 step 2: the image CRC. -/
def checkCrc (g : Img) : Option ImgErr :=
  chk (imgCrc g 0 (Img.length g - 4) == Img.crcField g) Si.CRC (Img.length g - 4)

/-- R70 step 3, one entry: `prev` is where the part before it ended, `last` the greatest site named so far plus 1. -/
def checkEntry (g : Img) (i prev last : Nat) : Option ImgErr :=
  let o := 0x20 + 16 * i
  let p := Img.part g i
  let glob := !Img.partialFlag g && i == 0
  let fin := Img.length g - 4
  firstErr [
    chk (p.typ == (if glob then 0 else 1)) Si.FORMAT o 0 i,
    chk (if glob then p.site == 0 else last ≤ p.site) Si.FORMAT (o + 1) 0 i p.site,
    chk (u16 g (o + 2) == 0) Si.FORMAT (o + 2) 0 i,
    chk (p.off == up16 prev) Si.FORMAT (o + 4) 0 i,
    chk (p.len % 4 == 0) Si.FORMAT (o + 8) 0 i,
    chk (zeros g prev (min (p.off - prev) 16)) Si.FORMAT (firstNonZero g prev (min (p.off - prev) 16)) 0 i,
    chk (p.off + p.len ≤ fin) Si.LENGTH (o + 8) 0 i,
    chk (imgCrc g p.off p.len == p.pcrc) Si.CRC (o + 12) 0 i]

/-- R70 step 3: the entries from `i` on, then the padding after the last. (DEDUCED, assumption 16.) -/
def checkDir (g : Img) : Nat → Nat → Nat → Nat → Option ImgErr
  | 0, i, prev, _ =>
    let fin := Img.length g - 4
    chk (zeros g prev (fin - prev)) Si.FORMAT (firstNonZero g prev (fin - prev)) 0 (i - 1)
  | k + 1, i, prev, last =>
    match checkEntry g i prev last with
    | some e => some e
    | none =>
      let p := Img.part g i
      checkDir g k (i + 1) (p.off + p.len) (if p.typ == 1 then p.site + 1 else last)

/-- R59: a section: its type, entry count, body offset and header offset. -/
structure Sect where
  typ : Nat
  count : Nat
  body : Nat
  hdr : Nat
deriving DecidableEq, Repr

/-- R59: the entry size of a section type of a global (`false`) or site partition. -/
def entrySize (site : Bool) (typ : Nat) : Option Nat :=
  if site then (if typ = 0x10 then some 8 else if 0x11 ≤ typ ∧ typ ≤ 0x14 then some 4 else none)
  else (if typ = 1 then some 4 else if typ = 2 then some 16 else if typ = 3 then some 4 else none)

/-- R59: the sections that fill [p, e), and a failure of that structure. -/
def sections (g : Img) (site : Bool) : Nat → Nat → Nat → List Sect → List Sect × Option ImgErr
  | 0, p, e, acc => (acc.reverse, chk (p == e) Si.FORMAT p)
  | k + 1, p, e, acc =>
    if p = e then (acc.reverse, none)
    else if e < p + 8 then (acc.reverse, some ⟨Si.FORMAT, p, 0, 0, 0⟩)
    else
      let typ := u16 g p; let cnt := u16 g (p + 2); let blen := u32 g (p + 4)
      let bad := firstErr [
        chk ((entrySize site typ).isSome) Si.FORMAT p typ,
        chk (!acc.any (fun q => q.typ == typ)) Si.FORMAT p typ,
        chk (!site || (acc.isEmpty == (typ == 0x10))) Si.FORMAT p typ,
        chk (blen == cnt * (entrySize site typ).getD 0) Si.FORMAT (p + 4) typ,
        chk (p + 8 + blen ≤ e) Si.FORMAT (p + 4) typ]
      match bad with
      | some er => (acc.reverse, some er)
      | none => sections g site k (p + 8 + blen) e (⟨typ, cnt, p + 8, p⟩ :: acc)

/-- The sections of a partition. -/
def Part.sects (g : Img) (p : Part) : List Sect := (sections g (p.typ == 1) 9 p.off (p.off + p.len) []).1

/-- The section of a type, if the partition has it. -/
def Part.sect (g : Img) (p : Part) (typ : Nat) : Option Sect := (p.sects g).find? (fun q => q.typ == typ)

/-- Offsets of the entries of a section, with their index. -/
def Sect.entries (q : Sect) (size : Nat) : List (Nat × Nat) := (List.range q.count).map (fun i => (i, q.body + size * i))

/-- The entries of a section type of a partition. -/
def Part.entries (g : Img) (p : Part) (typ size : Nat) : List (Nat × Nat) := ((p.sect g typ).map (fun q => q.entries size)).getD []

/-- R63: the pin count of a site partition. -/
def Part.pinCount (g : Img) (p : Part) : Nat := ((p.sect g 0x10).map (fun q => u16 g (q.body + 2))).getD 0

/-- R64 to R67: the site map that a partition defines. -/
def Part.siteMap (g : Img) (p : Part) : SiteMap where
  pins := (p.entries g 0x11 4).map (fun e => ⟨u16 g e.2, g (e.2 + 2), g (e.2 + 3)⟩)
  comps := (p.entries g 0x12 4).map (fun e => ⟨u16 g e.2, g (e.2 + 2), g (e.2 + 3)⟩)
  dps := (p.entries g 0x13 4).map (fun e => (g e.2, g (e.2 + 1)))
  lanes := ((p.entries g 0x14 4).head?.map (fun e => u32 g e.2)).getD 0

/-- R60: the spares (k, channel) of a global partition. -/
def Part.spares (g : Img) (p : Part) : List (Nat × Nat) := (p.entries g 1 4).map (fun e => (g e.2, u16 g (e.2 + 2)))
/-- R61: the clone groups (group, mask). -/
def Part.clones (g : Img) (p : Part) : List (Nat × Nat) :=
  (p.entries g 2 16).map (fun e => (g e.2, u32 g (e.2 + 8) + 2 ^ 32 * u32 g (e.2 + 12)))
/-- R62: the routes (source, bus). -/
def Part.routes (g : Img) (p : Part) : List (Nat × Nat) := (p.entries g 3 4).map (fun e => (g e.2, g (e.2 + 1)))

/-- R70 step 4 for one partition: sections, reserved fields and reserved codes. -/
def checkSections (g : Img) (p : Part) : Option ImgErr :=
  match (sections g (p.typ == 1) 9 p.off (p.off + p.len) []).2 with
  | some e => some e
  | none =>
    if p.typ = 0 then firstErr (
      (p.entries g 1 4).map (fun e => chk (g (e.2 + 1) == 0) Si.FORMAT e.2 1 e.1) ++
      (p.entries g 2 16).map (fun e => chk (zeros g (e.2 + 1) 7) Si.FORMAT e.2 2 e.1) ++
      (p.entries g 3 4).map (fun e => chk (u16 g (e.2 + 2) == 0) Si.FORMAT e.2 3 e.1))
    else
      let pc := p.pinCount g
      firstErr (
      [chk ((p.sect g 0x10).isSome) Si.FORMAT p.off 0x10] ++
      (p.entries g 0x10 8).map (fun e => chk (e.1 == 0 && g e.2 == p.site && g (e.2 + 1) == 0 && u32 g (e.2 + 4) == 0) Si.FORMAT e.2 0x10 e.1) ++
      [chk ((p.sect g 0x10).all (fun q => q.count == 1)) Si.FORMAT p.off 0x10,
       chk (if pc == 0 then (p.sects g).length == 1 else (p.sect g 0x11).any (fun q => q.count == pc)) Si.FORMAT p.off 0x11,
       chk ((p.sect g 0x14).all (fun q => q.count == 1)) Si.FORMAT p.off 0x14] ++
      (p.entries g 0x11 4).map (fun e => chk (g (e.2 + 2) ≤ 3 && (2 ≤ g (e.2 + 2) || g (e.2 + 3) == 0) &&
        (g (e.2 + 2) != 2 || g (e.2 + 3) < 8) && (g (e.2 + 2) != 3 || g (e.2 + 3) < 32)) Si.FORMAT e.2 0x11 e.1) ++
      (p.entries g 0x12 4).map (fun e => chk (g (e.2 + 3) ≤ 1) Si.FORMAT e.2 0x12 e.1) ++
      (p.entries g 0x13 4).map (fun e => chk (u16 g (e.2 + 2) == 0) Si.FORMAT e.2 0x13 e.1))

/-- R70 step 5 for one partition: ranges. (DEDUCED, assumption 16.) -/
def checkRanges (g : Img) (p : Part) : Option ImgErr :=
  if p.typ = 0 then firstErr (
    (p.entries g 1 4).map (fun e => chk (g e.2 < 32 && u16 g (e.2 + 2) < 1024) Si.RANGE e.2 1 e.1) ++
    (p.entries g 2 16).map (fun e => chk (g e.2 < 16) Si.RANGE e.2 2 e.1) ++
    (p.entries g 3 4).map (fun e => chk (g e.2 < 32 && g (e.2 + 1) < 8) Si.RANGE e.2 3 e.1))
  else firstErr (
    [chk (p.site < 64) Si.RANGE p.off 0x10 0 p.site,
     chk (p.pinCount g ≤ 1024) Si.RANGE p.off 0x10 0 (p.pinCount g)] ++
    (p.entries g 0x11 4).map (fun e => chk (u16 g e.2 < 1024) Si.RANGE e.2 0x11 e.1 (u16 g e.2)) ++
    (p.entries g 0x12 4).map (fun e => chk (u16 g e.2 < 1024 && [2, 4, 8].contains (g (e.2 + 2))) Si.RANGE e.2 0x12 e.1 (u16 g e.2)) ++
    (p.entries g 0x13 4).map (fun e => chk (e.1 < 16 && g e.2 < 64 && 1 ≤ g (e.2 + 1) && g (e.2 + 1) ≤ 16) Si.RANGE e.2 0x13 e.1 (g e.2)))

/-- Something an entry of an image claims (a channel, a supply, a lane, a number), and where the entry stands. -/
structure Claim where
  key : Nat
  off : Nat
  sect : Nat
  entry : Nat
deriving DecidableEq, Repr

/-- The claims of the entries of a section of a partition. -/
def Part.claims (g : Img) (p : Part) (typ size : Nat) (keys : Nat → List Nat) : List Claim :=
  (p.entries g typ size).flatMap (fun e => (keys e.2).map (fun k => ⟨k, e.2, typ, e.1⟩))

/-- The first claim of something that is held already, or that an earlier claim names. (DEDUCED, assumption 18.) -/
def firstClash (code : Nat) : List Nat → List Claim → Option ImgErr
  | _, [] => none
  | held, c :: cs => if held.contains c.key then some ⟨code, c.off, c.sect, c.entry, c.key⟩ else firstClash code (c.key :: held) cs

/-- R54: the channels that a site partition claims by its pins, and by its compounds beside their leads; its supplies and lanes. -/
def Part.pinClaims (g : Img) (p : Part) : List Claim := p.claims g 0x11 4 (fun o => [u16 g o])
def Part.compClaims (g : Img) (p : Part) : List Claim := p.claims g 0x12 4 (fun o => ((List.range (g (o + 2))).map (fun i => u16 g o + i)).drop 1)
def Part.dpsClaims (g : Img) (p : Part) : List Claim := p.claims g 0x13 4 (fun o => (List.range (g (o + 1))).map (fun i => g o + i))
def Part.laneClaims (g : Img) (p : Part) : List Claim := p.claims g 0x14 4 (fun o => maskList (u32 g o) 32)

/-- R70 step 6 for one partition: R60 to R62 of a global one, R64 to R66 of a site's. -/
def checkRules (g : Img) (p : Part) : Option ImgErr :=
  if p.typ = 0 then
    firstErr (
    (p.entries g 1 4).map (fun e => chk (u16 g (e.2 + 2) / 256 == g e.2 / 8) Si.SPARE e.2 1 e.1 (u16 g (e.2 + 2))) ++
    [firstClash Si.OVERLAP [] (p.claims g 1 4 (fun o => [g o])), firstClash Si.OVERLAP [] (p.claims g 1 4 (fun o => [u16 g (o + 2)]))] ++
    (p.entries g 2 16).map (fun e => chk (2 ≤ (maskList (u32 g (e.2 + 8) + 2 ^ 32 * u32 g (e.2 + 12)) 64).length) Si.CLONE e.2 2 e.1) ++
    [firstClash Si.CLONE [] (p.claims g 2 16 (fun o => [g o])),
     firstClash Si.CLONE [] (p.claims g 2 16 (fun o => maskList (u32 g (o + 8) + 2 ^ 32 * u32 g (o + 12)) 64)),
     firstClash Si.ROUTE [] (p.claims g 3 4 (fun o => [g o])), firstClash Si.ROUTE [] (p.claims g 3 4 (fun o => [g o / 8 * 8 + g (o + 1)]))])
  else
    let m := p.siteMap g
    let chans := m.pins.map Pin.chan
    firstErr (
    [firstClash Si.OVERLAP [] (p.pinClaims g)] ++
    (p.entries g 0x12 4).map (fun e => firstErr [
      chk (u16 g e.2 % g (e.2 + 2) == 0) Si.ALIGN e.2 0x12 e.1 (u16 g e.2),
      chk (chans.contains (u16 g e.2)) Si.ALIGN e.2 0x12 e.1 (u16 g e.2),
      chk ((m.pins.find? (fun q => q.chan == u16 g e.2)).all (fun q => q.func == 0 || (q.func == 1 && g (e.2 + 3) == 0))) Si.FUNCTION e.2 0x12 e.1 (u16 g e.2)]) ++
    [firstClash Si.OVERLAP chans (p.compClaims g)] ++
    (p.entries g 0x13 4).map (fun e => chk (g e.2 % 16 + g (e.2 + 1) ≤ 16) Si.ALIGN e.2 0x13 e.1 (g e.2)) ++
    [firstClash Si.OVERLAP [] (p.dpsClaims g)] ++
    (p.entries g 0x11 4).map (fun e => chk (g (e.2 + 2) != 3 || (bitOf m.lanes (g (e.2 + 3)) &&
      (m.pins.filter (fun q => q.func == 3 && q.attr == g (e.2 + 3))).length ≤ 4)) Si.FUNCTION e.2 0x11 e.1 (g (e.2 + 3))))

/-- What makes two members of a clone group alike (R61): functions by index, and compounds by pin index. -/
def SiteMap.shape (m : SiteMap) : List (Nat × Nat × Nat) :=
  m.pins.map (fun q => match m.comps.find? (fun k => k.lead == q.chan) with
    | some k => (q.func, k.size, k.kind + 1)
    | none => (q.func, 0, 0))

/-- The analog bus (quadrant and number) of a waveform-attached pin. -/
def Pin.bus (q : Pin) : Option Nat := if q.func = 2 then some (q.chan / 256 * 8 + q.attr % 8) else none

/-- The maps that will be in force: the partitions of the image over (for a partial image) the maps of the other sites. -/
def Img.maps (g : Img) (s : State) : List (Nat × SiteMap) :=
  let mine := ((Img.dir g).filter (fun p => p.typ == 1)).map (fun p => (p.site, p.siteMap g))
  if Img.partialFlag g then mine ++ s.maps.filter (fun q => !mine.any (fun p => p.1 == q.1)) else mine

/-- The clone groups, spares and routes that will be in force: the image's, or (R71) those in force. -/
def Img.clonesOf (g : Img) (s : State) : List (Nat × Nat) := if Img.partialFlag g then s.clones else (Img.part g 0).clones g
def Img.routesOf (g : Img) (s : State) : List (Nat × Nat) := if Img.partialFlag g then s.routes else (Img.part g 0).routes g

/-- The site partitions of an image. -/
def Img.siteParts (g : Img) : List Part := (Img.dir g).filter (fun p => p.typ == 1)

/-- R71: the site maps in force that an image leaves in force: those of the sites it does not name, when it is partial. -/
def Img.others (g : Img) (s : State) : List (Nat × SiteMap) :=
  if Img.partialFlag g then s.maps.filter (fun q => !(Img.siteParts g).any (fun p => p.site == q.1)) else []

/-- R64: the pins on the analog buses, one after another: the bus has a source, and those before on it are fewer than four and of the same site. -/
def busClash (routes : List (Nat × Nat)) : List (Nat × Nat) → List (Nat × Nat × Nat × Nat) → Option ImgErr
  | _, [] => none
  | held, (n, b, off, i) :: us =>
    let same := held.filter (fun v => v.2 == b)
    if routes.any (fun r => r.1 / 8 * 8 + r.2 == b) && decide (same.length < 4) && same.all (fun v => v.1 == n) then busClash routes ((n, b) :: held) us
    else some ⟨Si.FUNCTION, off, 0x11, i, n⟩

/-- R64: the bus conditions of the pins of an image. -/
def checkBuses (g : Img) (s : State) : Option ImgErr :=
  busClash (Img.routesOf g s) ((Img.others g s).flatMap (fun p => p.2.pins.filterMap (fun q => q.bus.map (fun b => (p.1, b)))))
    ((Img.siteParts g).flatMap (fun p => (p.entries g 0x11 4).filterMap (fun e =>
      (Pin.bus ⟨u16 g e.2, g (e.2 + 2), g (e.2 + 3)⟩).map (fun b => (p.site, b, e.2, e.1)))))

/-- R61: every member of every group has the same shape and at least one pin. -/
def checkClones (g : Img) (s : State) : Option ImgErr :=
  let maps := Img.maps g s
  firstErr ((Img.clonesOf g s).zipIdx.map (fun c =>
    let ms := maskList c.1.2 64
    let shapes := ms.map (fun n => (maps.find? (fun p => p.1 == n)).map (fun p => p.2.shape))
    let (off, sect, i) := if Img.partialFlag g then ((((Img.siteParts g).find? (fun p => ms.contains p.site)).map Part.off).getD 0, 0x10, 0)
      else ((((Img.part g 0).entries g 2 16)[c.2]?.map Prod.snd).getD 0, 2, c.2)
    chk (shapes.all (fun q => q.isSome && q == shapes.head?.join)) Si.CLONE off sect i c.1.1))

/-- R70 step 7: rules across partitions and against the structure in force (R54, R61, R64, R71). -/
def checkAcross (g : Img) (s : State) : Option ImgErr :=
  let ps := Img.siteParts g; let os := Img.others g s
  firstErr [
    firstClash Si.OVERLAP (os.flatMap (fun p => p.2.chans)) (ps.flatMap (fun p => p.pinClaims g ++ p.compClaims g)),
    firstClash Si.OVERLAP (os.flatMap (fun p => p.2.supplies)) (ps.flatMap (Part.dpsClaims g)),
    firstClash Si.OVERLAP (os.flatMap (fun p => p.2.laneList)) (ps.flatMap (Part.laneClaims g)),
    checkClones g s, checkBuses g s]

/-- R435: the tile's own IMAX and VMAX of a supply. -/
def State.tileLimit (s : State) (d : Nat) : Nat × Nat := sget (fun _ => (0, 0)) s.tileDps d

/-- R435: the current limit (µA) of the force path of a gang or single supply channel: its booster's where one covers it
whole, else the size times the smallest limit among the members. -/
def State.forceLimit (s : State) (lead size : Nat) : Nat :=
  match s.boosts.find? (fun b => b.lead ≤ lead && lead + size ≤ b.lead + b.size) with
  | some b => b.imax
  | none => size * ((List.range size).map (fun i => (s.tileLimit (lead + i)).1)).foldl min (2 ^ 32 - 1)

/-- R68, R69: the module checks of one site partition. -/
def checkModules (s : State) (g : Img) (p : Part) : Option ImgErr :=
  let pad := fun c => sget (fun _ => 2 ^ 64) s.pads (s.get (Reg.MP_LIMCH.NEEDLE c))
  let comps := p.entries g 0x12 4
  firstErr (
  (p.pinClaims g ++ p.compClaims g).map (fun c => chk (s.get (Reg.MP_LIMCH.NEEDLE c.key) != 0xFFFF) Si.MODULE c.off c.sect c.entry c.key) ++
  comps.map (fun e => chk ((List.range (g (e.2 + 2))).all (fun i => pad (u16 g e.2 + i) == pad (u16 g e.2))) Si.MODULE e.2 0x12 e.1 (u16 g e.2)) ++
  (p.dpsClaims g).map (fun c => chk (s.flag (Reg.MP_LIMDPS.FORCE c.key)) Si.MODULE c.off c.sect c.entry c.key) ++
  comps.map (fun e => chk (g (e.2 + 3) != 0 || g (e.2 + 2) * 32000 ≤ s.get (Reg.MP_LIMCH.IMAX (u16 g e.2))) Si.LIMIT e.2 0x12 e.1 (u16 g e.2)) ++
  (p.entries g 0x13 4).map (fun e => chk (g (e.2 + 1) < 2 || g (e.2 + 1) * 256000 ≤ s.forceLimit (g e.2) (g (e.2 + 1))) Si.LIMIT e.2 0x13 e.1 (g e.2)))

/-- R70: the whole validation, first failure only; `reshape` names the target site of a reshape (R74), which must be the one
partition of a partial image. (DEDUCED, assumption 18.) -/
def validate (s : State) (g : Img) (reshape : Option Nat) : Option ImgErr :=
  match checkHeader g with
  | some e => some e
  | none => match checkCrc g with
  | some e => some e
  | none => match firstErr [
      (match reshape with
       | none => none
       | some n => firstErr [chk (Img.partialFlag g) Si.FORMAT 6, chk (Img.parts g == 1) Si.FORMAT 0x10, chk ((Img.part g 0).site == n) Si.FORMAT 0x21]),
      checkDir g (Img.parts g) 0 (0x20 + 16 * Img.parts g) 0] with
  | some e => some e
  | none =>
    let ds := Img.dir g
    firstErr [firstErr (ds.map (checkSections g)), firstErr (ds.map (checkRanges g)), firstErr (ds.map (checkRules g)), checkAcross g s,
      chk (s.flag Reg.MP_STAT.LIM_VALID) Si.MODULE 0,
      firstErr ((Img.siteParts g).map (checkModules s g))]

end Sys2Proof.Machine
end

