-- ==== Sys2Proof/Machine/Lane.lean ====
section
/-! DEFINITION. DUT serial lanes (R401 to R424): restarts, training blocks and phases, failures and retries, loss, adaptation with
freeze and revert, the checker's counts and LTEST. -/

namespace Sys2Proof.Machine

/-- R402: lane states. -/
def Ln.OFF : Nat := 0
def Ln.TRAIN : Nat := 1
def Ln.UP : Nat := 2
def Ln.PARKED : Nat := 3
def Ln.LOCKING : Nat := 4

/-- A lane beside its registers. -/
def State.lane (s : State) (l : Nat) : Lane := sget (fun _ => Lane.init) s.lanes l
/-- Change a lane. -/
def State.setLane (s : State) (l : Nat) (k : Lane) : State := { s with lanes := sset (fun _ => Lane.init) s.lanes l k }
/-- The state of a lane. -/
def State.laneState (s : State) (l : Nat) : Nat := s.get (Reg.DL_STAT.STATE l)

/-- R419: a lane event: a record of the owning site, and for every code but LANE_UP a log entry. -/
def State.laneEvent (s : State) (l code value : Nat) (cls : Nat := 3) : State :=
  let s1 := match s.laneSite l with
    | some n => s.event n code value l
    | none => s
  if code = Ev.LANE_UP then s1 else s1.log Src.DL (Lc.event code) (detail 0 l) cls

/-- R406: the coefficients start from DL_EQSET. -/
def State.eqStart (s : State) (l : Nat) : State :=
  ((s.set (Reg.DL_EQ.CTLE l) (s.get (Reg.DL_EQSET.CTLE l))).set (Reg.DL_EQ.TAPS l) (s.get (Reg.DL_EQSET.TAPS l))).set (Reg.DL_STAT.FROZEN l) 0

/-- R411: rate `r` begins at phase 0, with its window. -/
def State.rateStart (s : State) (l r : Nat) : State :=
  let k := s.lane l
  let w := s.reg (Reg.DL_TRN.word l)
  let s1 := s.setLane l { k with
    run := 0, runInv := 0, aligned := false, trn := 0, ack := 0, fin := 0, eqOwn := false, eqPeer := false, trnWord := w
    deadline := some (s.now + wget w 95 64), next := none, retryAt := none }
  ((s1.set (Reg.DL_STAT.RATE l) r).set (Reg.DL_STAT.PHASE l) 0).eqStart l

/-- R413: attempt `a` of a training begins at rate 0. -/
def State.attemptStart (s : State) (l a : Nat) : State :=
  let s1 := (s.setLane l { s.lane l with anyGood := false, best := none, swEnd := none }).set (Reg.DL_STAT.ATTEMPT l) a
  (s1.inc (Reg.DL_CNT.TRAINS l)).rateStart l 0

/-- R418: an error count on a lane that leaves UP stops counting. -/
def State.ltestFreeze (s : State) (l : Nat) : State :=
  { s with ltests := s.ltests.map (fun p => if p.1 = l ∧ p.2.frozen.isNone
      then (p.1, { p.2 with frozen := some ((s.get (Reg.DL_CNT.ERRORS l) + 2 ^ 40 - p.2.base) % 2 ^ 40) }) else p) }

/-- A lane enters a state; leaving UP stops an LTEST, and leaving OFF ends an automatic inversion (R405). -/
def State.setLaneState (s : State) (l st : Nat) : State :=
  let old := s.laneState l
  let s1 := if old = Ln.UP ∧ st ≠ Ln.UP then (s.ltestFreeze l).set (Reg.DL_STAT.SYNC l) 0 else s
  let s2 := if old = Ln.OFF ∧ st ≠ Ln.OFF then s1.set (Reg.DL_STAT.RX_POLINV l) 0 else s1
  s2.set (Reg.DL_STAT.STATE l) st

/-- R401, R402: a lane goes OFF. -/
def State.laneStop (s : State) (l : Nat) : State :=
  let s1 := (s.setLaneState l Ln.OFF).setLane l Lane.init
  ((((s1.set (Reg.DL_STAT.PHASE l) 0).set (Reg.DL_STAT.LOS l) 0).set (Reg.DL_STAT.LOL l) 0).set (Reg.DL_STAT.FROZEN l) 0).set (Reg.DL_STAT.SYNC l) 0

/-- R402: a new training, attempt 1, with the cap cleared and every set rate allowed. -/
def State.trainStart (s : State) (l : Nat) : State :=
  let s1 := (s.setLaneState l Ln.TRAIN).set (Reg.DL_STAT.CAP l) 7
  (s1.setLane l { s1.lane l with mask := s1.get (Reg.DL_CTRL.RATE_MASK l) }).attemptStart l 1

/-- R415: LOCKING at DIRECT_RATE. -/
def State.lockStart (s : State) (l : Nat) : State :=
  let s1 := (s.setLaneState l Ln.LOCKING).set (Reg.DL_STAT.RATE l) (s.get (Reg.DL_CTRL.DIRECT_RATE l))
  (s1.setLane l { s1.lane l with lolAt := max (s1.lane l).lolAt s.now }).eqStart l

/-- R402: a restart by the MODE in force. -/
def State.laneRestart (s : State) (l : Nat) : State :=
  match s.get (Reg.DL_CTRL.MODE l) with
  | 1 => s.trainStart l
  | 2 => s.lockStart l
  | _ => s.laneStop l

/-- R401: a lane that loses its site, the event of R30 and shutdown: MODE OFF in both banks. -/
def State.laneOff (s : State) (l : Nat) : State :=
  let a := Reg.DL_CTRL.word l
  ((s.setReg a (wput (s.reg a) 1 0 0)).setShadow a (wput (s.shadowReg a) 1 0 0)).laneStop l

/-- R415: a lane enters UP. -/
def State.laneUp (s : State) (l : Nat) : State :=
  let s1 := (s.setLaneState l Ln.UP).set (Reg.DL_STAT.UP_BEAT l) (s.now % 2 ^ 32)
  let s2 := s1.setLane l { s1.lane l with deadline := none }
  s2.laneEvent l Ev.LANE_UP (s.get (Reg.DL_STAT.RATE l) * 2 ^ 32 + s.get (Reg.DL_STAT.ATTEMPT l) * 2 ^ 24) 2

/-! ### Training -/

/-- R411, R413, R414: the next rate above `r` that the training still allows. -/
def State.nextRate (s : State) (l r : Nat) : Option Nat :=
  (List.range 8).find? (fun k => r < k && bitOf (s.lane l).mask k && k ≤ s.get (Reg.DL_STAT.CAP l))

/-- R411: both ends show EQ_DONE: phase 2 begins. -/
def State.stepStart (s : State) (l : Nat) : State :=
  let k := s.lane l
  let r := s.get (Reg.DL_STAT.RATE l)
  (s.setLane l { k with best := some (max r (k.best.getD 0)), next := s.nextRate l r, ack := 0, fin := 0, deadline := some (s.now + wget k.trnWord 31 0) }).set
    (Reg.DL_STAT.PHASE l) 2

/-- Phase 1 ends once both ends show EQ_DONE. -/
def State.eqCheck (s : State) (l : Nat) : State := if (s.lane l).eqOwn && (s.lane l).eqPeer then s.stepStart l else s

/-- R411: phase 0 ends: 32 consecutive good TRN blocks with LOCKED, and LOL clear. -/
def State.lockCheck (s : State) (l : Nat) : State :=
  let k := s.lane l
  if s.laneState l = Ln.TRAIN ∧ s.get (Reg.DL_STAT.PHASE l) = 0 ∧ 32 ≤ k.trn ∧ !s.flag (Reg.DL_STAT.LOL l) then
    (s.setLane l { k with eqAt := s.now, eqOwn := !s.flag (Reg.DL_RX.ADAPT l), eqPeer := false }).set (Reg.DL_STAT.PHASE l) 1
  else s

/-- R409: the marker and the CRC of a block. -/
def blockMark : Nat := 0x5F3AC0D9
def blockOk (w : Word) : Bool := wget w 127 96 == blockMark && crcNat 16 0x1021 80 (wget w 95 16) 0xFFFF == wget w 15 0

/-- R409, R411: a good block in the phase in force. (DEDUCED, assumption 26.) -/
def State.goodBlock (s : State) (l : Nat) (w : Word) : State :=
  let k := s.lane l
  let typ := wget w 95 92; let rate := wget w 91 88
  match s.get (Reg.DL_STAT.PHASE l) with
  | 0 =>
    let ok := typ = 1 ∧ rate = s.get (Reg.DL_STAT.RATE l) ∧ wget w 83 83 = 1
    (s.setLane l { k with anyGood := true, trn := if ok then k.trn + 1 else 0 }).lockCheck l
  | 1 => (s.setLane l { k with anyGood := true, eqPeer := wget w 82 82 == 1 }).eqCheck l
  | 2 =>
    match k.next with
    | none =>
      let fin := if typ = 6 then k.fin + 1 else k.fin
      let s1 := s.setLane l { k with anyGood := true, fin := fin }
      if 8 ≤ fin then s1.laneUp l else s1
    | some r =>
      if typ = 4 then
        let s1 := s.setLane l { k with anyGood := true, next := none, fin := 0, mask := k.mask &&& (2 ^ r - 1) }
        (s1.set (Reg.DL_STAT.NAK l) 1).laneEvent l Ev.LANE_NAK (r * 2 ^ 32) 2
      else
        let ack := if typ = 3 ∧ rate = r then k.ack + 1 else 0
        let s1 := s.setLane l { k with anyGood := true, ack := ack, cd := 15, deadline := if 8 ≤ ack then none else k.deadline }
        if 8 ≤ ack then s1.set (Reg.DL_STAT.PHASE l) 3 else s1
  | _ => s.setLane l { k with anyGood := true }

/-- R405, R409: a lane takes a whole training block, as it came from the line. (DEDUCED, assumption 26.) -/
def State.trainingBlock (s : State) (l : Nat) (raw : Word) : State :=
  let k := s.lane l
  if s.laneState l ≠ Ln.TRAIN ∨ k.retryAt.isSome then s
  else
    let inv := s.flag (Reg.DL_RX.RX_INV l) != s.flag (Reg.DL_STAT.RX_POLINV l)
    let w := if inv then ~~~raw else raw
    if k.aligned then
      if blockOk w ∧ 1 ≤ wget w 95 92 ∧ wget w 95 92 ≤ 6 ∧ wget w 91 88 ≤ 7 then s.goodBlock l w
      else s.setLane l { k with trn := 0, ack := 0 }
    else if blockOk w then s.setLane l { k with run := k.run + 1, runInv := 0, aligned := decide (3 ≤ k.run) }
    else if s.flag (Reg.DL_CTRL.AUTO_POL l) ∧ blockOk (~~~w) then
      let s1 := s.setLane l { k with runInv := k.runInv + 1, run := 0, aligned := decide (3 ≤ k.runInv) }
      if 3 ≤ k.runInv then
        ((s1.set (Reg.DL_STAT.RX_POLINV l) 1).set (Reg.DL_STAT.POLINV l) 1).laneEvent l Ev.LANE_POLINV 0 2
      else s1
    else s.setLane l { k with run := 0, runInv := 0 }

/-- R411: a block has been sent: the switch counts down, and its last block opens the gap. -/
def State.blockSent (s : State) (l : Nat) : State :=
  let k := s.lane l
  if s.laneState l = Ln.TRAIN ∧ k.retryAt.isNone ∧ s.get (Reg.DL_STAT.PHASE l) = 3 then
    if k.cd = 0 then (s.setLane l { k with gapEnd := s.now + 100, swEnd := some s.now }).set (Reg.DL_STAT.PHASE l) 4
    else s.setLane l { k with cd := k.cd - 1 }
  else s

/-- R411: the gap ends and the next rate begins. -/
def State.gapEnd (s : State) (l : Nat) : State :=
  let k := s.lane l
  if s.laneState l = Ln.TRAIN ∧ k.retryAt.isNone ∧ s.get (Reg.DL_STAT.PHASE l) = 4 ∧ k.gapEnd ≤ s.now then
    match k.next with
    | some r => s.rateStart l r
    | none => s
  else s

/-- R411: EQ_TIME has passed in phase 1. -/
def State.eqTime (s : State) (l : Nat) : State :=
  let k := s.lane l
  if s.laneState l = Ln.TRAIN ∧ k.retryAt.isNone ∧ s.get (Reg.DL_STAT.PHASE l) = 1 ∧ k.eqAt + wget k.trnWord 63 32 ≤ s.now then
    (s.setLane l { k with eqOwn := true }).eqCheck l
  else s

/-- R413: the attempt fails with LOST or STEPFAIL: PARKED when the attempts are used up, else a gap of 100 beats, with the cap. -/
def State.attemptFail (s : State) (l code : Nat) (flag : Fld) : State :=
  let k := s.lane l
  let a := s.get (Reg.DL_STAT.ATTEMPT l)
  let parked := s.get (Reg.DL_CTRL.RETRIES l) + 1 ≤ a
  let v := s.get (Reg.DL_STAT.RATE l) * 2 ^ 32 + a * 2 ^ 24 + s.get (Reg.DL_STAT.PHASE l) * 2 ^ 16 + b2n parked
  let s1 := (s.set flag 1).laneEvent l code v
  if parked then (s1.setLane l { k with deadline := none }).setLaneState l Ln.PARKED
  else
    let s2 := if s1.flag (Reg.DL_CTRL.CAP_ON_FAIL l) then s1.set (Reg.DL_STAT.CAP l) (k.best.getD 0) else s1
    s2.setLane l { k with retryAt := some (s.now + 100), deadline := none }

/-- R413: the window of phases 0 and 1 expires. -/
def State.trainExpiry (s : State) (l : Nat) : State :=
  let k := s.lane l
  if s.laneState l = Ln.TRAIN ∧ s.get (Reg.DL_STAT.PHASE l) ≤ 1 ∧ k.deadline.any (fun b => b ≤ s.now) then
    if s.get (Reg.DL_STAT.RATE l) = 0 ∧ !k.anyGood then
      ((s.set (Reg.DL_STAT.SILENT l) 1).laneEvent l Ev.LANE_SILENT (s.get (Reg.DL_STAT.ATTEMPT l) * 2 ^ 24 + 1)).setLaneState l Ln.PARKED
    else s.attemptFail l Ev.LANE_STEPFAIL (Reg.DL_STAT.STEPFAIL l)
  else s

/-- R413: the window of phase 2 expires. -/
def State.ackExpiry (s : State) (l : Nat) : State :=
  if s.laneState l = Ln.TRAIN ∧ s.get (Reg.DL_STAT.PHASE l) = 2 ∧ (s.lane l).deadline.any (fun b => b ≤ s.now) then
    s.attemptFail l Ev.LANE_STEPFAIL (Reg.DL_STAT.STEPFAIL l)
  else s

/-- R411, R413: LOS has held for 101 beats that count. (DEDUCED, assumption 103.) -/
def State.laneLost (s : State) (l : Nat) : State :=
  let k := s.lane l
  let since := match k.swEnd with
    | some b => max k.losAt (b + 200)
    | none => k.losAt
  if s.laneState l = Ln.TRAIN ∧ k.retryAt.isNone ∧ k.anyGood ∧ s.flag (Reg.DL_STAT.LOS l) ∧ since + 100 ≤ s.now then
    s.attemptFail l Ev.LANE_LOST (Reg.DL_STAT.LOST l)
  else s

/-- R413: the retry gap ends: the next attempt begins. -/
def State.retryGapEnd (s : State) (l : Nat) : State :=
  if s.laneState l = Ln.TRAIN ∧ (s.lane l).retryAt.any (fun b => b ≤ s.now) then s.attemptStart l (s.get (Reg.DL_STAT.ATTEMPT l) + 1) else s

/-! ### Loss, lock, adaptation -/

/-- R404: LOS or LOL changes; a lane that is OFF has no detectors and a PARKED one only LOS. -/
def State.losChange (s : State) (l : Nat) (on : Bool) : State :=
  if s.laneState l = Ln.OFF then s
  else (s.set (Reg.DL_STAT.LOS l) (b2n on)).setLane l { s.lane l with losAt := if s.flag (Reg.DL_STAT.LOS l) = on then (s.lane l).losAt else s.now }
def State.lolChange (s : State) (l : Nat) (on : Bool) : State :=
  if s.laneState l = Ln.OFF ∨ s.laneState l = Ln.PARKED then s
  else ((s.set (Reg.DL_STAT.LOL l) (b2n on)).setLane l { s.lane l with lolAt := if s.flag (Reg.DL_STAT.LOL l) = on then (s.lane l).lolAt else s.now }).lockCheck l

/-- R415: LOS or LOL has held for 101 beats in UP. -/
def State.laneDown (s : State) (l : Nat) : State :=
  let k := s.lane l
  let los := s.flag (Reg.DL_STAT.LOS l); let lol := s.flag (Reg.DL_STAT.LOL l)
  if s.laneState l = Ln.UP ∧ ((los ∧ k.losAt + 100 ≤ s.now) ∨ (lol ∧ k.lolAt + 100 ≤ s.now)) then
    let s1 := (s.set (Reg.DL_STAT.DOWN l) 1).laneEvent l Ev.LANE_DOWN (s.get (Reg.DL_STAT.RATE l) * 2 ^ 32 + b2n lol * 2 + b2n los)
    if s1.get (Reg.DL_CTRL.MODE l) = 2 then s1.lockStart l
    else if s1.get (Reg.DL_CTRL.MODE l) = 1 ∧ s1.flag (Reg.DL_CTRL.RETRAIN l) then s1.trainStart l
    else s1.setLaneState l Ln.PARKED
  else s

/-- R415: LOL has been clear for 100 beats in LOCKING. -/
def State.directLock (s : State) (l : Nat) : State :=
  if s.laneState l = Ln.LOCKING ∧ !s.flag (Reg.DL_STAT.LOL l) ∧ (s.lane l).lolAt + 100 ≤ s.now then s.laneUp l else s

/-- R406: adaptation acts on a lane. -/
def State.adapts (s : State) (l : Nat) : Bool :=
  s.flag (Reg.DL_RX.ADAPT l) && !s.flag (Reg.DL_STAT.FROZEN l) && [Ln.TRAIN, Ln.UP, Ln.LOCKING].contains (s.laneState l)

/-- The tap `i` (0 for TAP1) of a TAPS field. -/
def tapOf (taps i : Nat) : Int := signedOf 8 (bitsOf taps (8 * i) 8)

/-- R408: the coefficients that depart from the snapshot beyond their limits. -/
def State.excursion (s : State) (l ctle taps : Nat) : Nat :=
  let c := if s.get (Reg.DL_EQSET.EXC_CTLE l) < ((ctle : Int) - s.get (Reg.DL_EQ.SNAP_CTLE l)).natAbs then 1 else 0
  (List.range 5).foldl (fun m i => if s.get (Reg.DL_EQSET.EXC_TAP l) < (tapOf taps i - tapOf (s.get (Reg.DL_EQ.SNAP_TAPS l)) i).natAbs
    then m + 2 ^ (i + 1) else m) c

/-- R406, R408: an update of the coefficients, compared with the snapshot while a window runs. -/
def State.adaptUpdate (s : State) (l : Nat) (o : AdaptObs) : State :=
  if !s.adapts l then s
  else
    let ctle := o.ctle.toNat
    let taps := (List.range 5).foldl (fun m i => m + fieldOf 8 (o.taps.getD i 0) * 2 ^ (8 * i)) 0
    let k := s.lane l
    if s.flag (Reg.DL_EQ.SNAP_VALID l) ∧ k.cmpLeft ≠ 0 then
      let e := s.excursion l ctle taps
      if e ≠ 0 then
        let s1 := (s.set (Reg.DL_EQ.CTLE l) (s.get (Reg.DL_EQ.SNAP_CTLE l))).set (Reg.DL_EQ.TAPS l) (s.get (Reg.DL_EQ.SNAP_TAPS l))
        ((s1.set (Reg.DL_STAT.REVERT l) 1).laneEvent l Ev.ADAPT_REVERT e 2).setLane l { k with cmpLeft := 1024 }
      else
        let s1 := ((s.set (Reg.DL_EQ.CTLE l) ctle).set (Reg.DL_EQ.TAPS l) taps).setLane l { k with cmpLeft := k.cmpLeft - 1 }
        if k.cmpLeft = 1 then s1.set (Reg.DL_EQ.SNAP_VALID l) 0 else s1
    else (s.set (Reg.DL_EQ.CTLE l) ctle).set (Reg.DL_EQ.TAPS l) taps

/-- R407: 4,096 idle UI: adaptation freezes and the coefficients are kept. -/
def State.adaptFreeze (s : State) (l : Nat) : State :=
  if !s.adapts l then s
  else
    let s1 := (s.set (Reg.DL_EQ.SNAP_CTLE l) (s.get (Reg.DL_EQ.CTLE l))).set (Reg.DL_EQ.SNAP_TAPS l) (s.get (Reg.DL_EQ.TAPS l))
    ((s1.set (Reg.DL_EQ.SNAP_VALID l) 1).set (Reg.DL_STAT.FROZEN l) 1).setLane l { s1.lane l with cmpLeft := 0 }

/-- R408: the idle run breaks: adaptation restarts from the snapshot, with a comparison window of 1,048,576 UI (1,024 updates). -/
def State.adaptRestart (s : State) (l : Nat) : State :=
  if s.flag (Reg.DL_STAT.FROZEN l) then
    let s1 := (s.set (Reg.DL_EQ.CTLE l) (s.get (Reg.DL_EQ.SNAP_CTLE l))).set (Reg.DL_EQ.TAPS l) (s.get (Reg.DL_EQ.SNAP_TAPS l))
    (s1.set (Reg.DL_STAT.FROZEN l) 0).setLane l { s1.lane l with cmpLeft := 1024 }
  else s

/-! ### Checker and LTEST -/

/-- R417: `bits` more bits were received, `errs` of them differing: out of sync every bit is an error. (DEDUCED, assumption 103.) -/
def State.countBits (s : State) (l bits errs : Nat) : State :=
  if s.laneState l = Ln.UP ∧ s.get (Reg.DL_RX.CHK_PAT l) ≠ 0 then
    (s.add (Reg.DL_CNT.BITS l) bits).add (Reg.DL_CNT.ERRORS l) (if s.flag (Reg.DL_STAT.SYNC l) then min errs bits else bits)
  else s

/-- R417: the checker gains sync. -/
def State.checkerSync (s : State) (l bits errs : Nat) : State :=
  let s1 := s.countBits l bits errs
  if s.laneState l = Ln.UP ∧ s.get (Reg.DL_RX.CHK_PAT l) ≠ 0 then s1.set (Reg.DL_STAT.SYNC l) 1 else s1

/-- R417: the checker loses sync. -/
def State.checkerLoss (s : State) (l bits errs : Nat) : State :=
  let s1 := s.countBits l bits errs
  if s.flag (Reg.DL_STAT.SYNC l) then (s1.set (Reg.DL_STAT.SYNC l) 0).inc (Reg.DL_CNT.SYNC_LOSS l) else s1

/-- R418: an LTEST of a site on a lane starts. -/
def State.ltestStart (s : State) (l n dur limit : Nat) : State :=
  { s with ltests := sinsert s.ltests l ⟨n, s.now + dur, s.get (Reg.DL_CNT.ERRORS l), limit, none⟩ }

/-- R418: an LTEST's count ends, with the bits received since the last report: its record, failing beyond its limit or when the lane left UP. -/
def State.ltestEnd (s : State) (l bits errs : Nat) : State :=
  match (s.ltests.find? (fun p => p.1 == l)).map Prod.snd with
  | none => s.countBits l bits errs
  | some t =>
    let s1 := s.countBits l bits errs
    if s.now < t.due then s1
    else
      let v := t.frozen.getD ((s1.get (Reg.DL_CNT.ERRORS l) + 2 ^ 40 - t.base) % 2 ^ 40)
      let fail := decide (t.limit < v) || t.frozen.isSome
      let s2 := { s1 with ltests := serase s1.ltests l }
      ((s2.record t.owner Kind.LANE_ERRORS (if fail then Flag.FAIL else 0) l v).accFold t.owner v fail).unitDone t.owner fail

/-- R421: the close checks of a lane's words: TRAIN needs rate 0 and a window above EQ_TIME. -/
def laneCloseBad (rd : Fld → Nat) (l : Nat) : Bool :=
  rd (Reg.DL_CTRL.MODE l) == 1 && (!bitOf (rd (Reg.DL_CTRL.RATE_MASK l)) 0 || decide (rd (Reg.DL_TRN.TRAIN_WIN l) ≤ rd (Reg.DL_TRN.EQ_TIME l)))

/-- R403: a rate in kb/s. -/
def rateKbps (r : Nat) : Nat := match r with
  | 0 => 1250000 | 1 => 2500000 | 2 => 5000000 | 3 => 8000000 | 4 => 10312500 | 5 => 16000000 | 6 => 25781250 | _ => 32000000

/-- R103, R420: the companion clock of a lane is above 1.6 GHz. (DEDUCED, assumption 104.) -/
def laneClockFast (rd : Fld → Nat) (l : Nat) : Bool :=
  rd (Reg.DL_CLK.CLK_EN l) == 1 && 1600000 * rd (Reg.DL_CLK.REFDIV l) < rateKbps (rd (Reg.DL_CLK.CLK_RATE l))

end Sys2Proof.Machine
end

