-- ==== Sys2Proof/Machine/Stage.lean ====
section
/-! DEFINITION. The CL words by what they belong to, the checks of a clause action as it is staged (R236) and of a clause as it closes
(R237). A direct write shares the checks that concern one word (R535). -/

namespace Sys2Proof.Machine

/-! ### CL words -/

/-- A CL word by its unit: `k` is the word's place in the unit's block. -/
inductive ClWord where
  | followCfg (n : Nat)
  | followMatch (n : Nat)
  | sqCtrl (n : Nat)
  | eeCfg (e : Nat)
  | eeTwr (e : Nat)
  | tm (t k : Nat)
  | ch (c k : Nat)
  | dps (d k : Nat)
  | wf (i k : Nat)
  | gd (d k : Nat)
  | dl (l k : Nat)
  | other
deriving DecidableEq, Repr

/-- The unit of a word address (R233): `other` for a word that holds no CL field. -/
def clWord (a : Nat) : ClWord :=
  if accMask .cl a = 0 then .other
  else if a < 0x001140 then .followCfg (a - 0x001100)
  else if a < 0x002000 then .followMatch (a - 0x001180)
  else if a < 0x032000 then .sqCtrl ((a - 0x031000) / 0x40)
  else if a < 0x058400 then (if a % 0x20 = 0 then .eeCfg ((a - 0x050000) / 0x20) else .eeTwr ((a - 0x050000) / 0x20))
  else if a < 0x064200 then .tm ((a - 0x060000) / 0x10) (a % 0x10)
  else if a < 0x090000 then .ch ((a - 0x080000) / 0x40) (a % 0x40)
  else if a < 0x0A0400 then .dps ((a - 0x0A0000) / 0x10) (a % 0x10)
  else if a < 0x0A1200 then .wf ((a - 0x0A1000) / 0x10) (a % 0x10)
  else if a < 0x0A2200 then .gd ((a - 0x0A2100) / 4) (a % 4)
  else .dl ((a - 0x0B0000) / 0x100) (a % 0x100)

/-- R490: SAFE, DISCOVER, SHAPE, REFCAL and SELFTEST. -/
def State.quiet (s : State) : Bool := [Mode.SAFE, Mode.DISCOVER, Mode.SHAPE, Mode.REFCAL, Mode.SELFTEST].contains s.mode

/-- R75: the resources that a reshape in progress claims. -/
def State.claims (s : State) : SiteMap := match s.siOp with
  | some o => if o.op = 2 then (Img.part s.img 0).siteMap s.img else SiteMap.empty
  | none => SiteMap.empty

/-- R75, R506: the owner of a resource is RESHAPING or RETIRED. (DEDUCED, assumption 78.) -/
def State.ownerBars (s : State) (site : Option Nat) : Bool :=
  site.any (fun n => s.siteState n == Site.RESHAPING || s.siteState n == Site.RETIRED)

/-- R75, R506: a channel, a supply or a lane is kept from every write. -/
def State.chanBarred (s : State) (c : Nat) : Bool := s.ownerBars (s.chanSite c) || s.claims.chans.contains c
def State.dpsBarred (s : State) (d : Nat) : Bool := s.ownerBars (s.dpsSite d) || s.claims.supplies.contains d
def State.laneBarred (s : State) (l : Nat) : Bool := s.ownerBars (s.laneSite l) || s.claims.laneList.contains l

/-- R318: a gang member that is not its lead. -/
def State.gangMember (s : State) (d : Nat) : Bool := s.gangLead d != d

/-- R65: the channel is a member, not the lead, of a driver compound. -/
def State.drvMember (s : State) (c : Nat) : Bool := match s.compOf c with
  | some k => k.kind == 1 && k.lead != c
  | none => false

/-- R120, R254: a property of the channel that an engine serves. -/
def State.servesAny (s : State) (e : Nat) (p : Nat → Bool) : Bool := (s.chanOfEngine e).any p

/-- A word that no direct write and no clause may touch whatever its value: it follows a lead's word (R107, R120, R254, R300, R318, R334,
R345), or its unit is kept from writes (R75, R506), or a table load is in progress (R311). (DEDUCED, assumption 78.) -/
def State.wordBarred (s : State) (a : Nat) : Bool := match clWord a with
  | .followCfg n | .followMatch n | .sqCtrl n => s.siteState n == Site.RETIRED
  | .eeCfg e => s.servesAny e s.chanBarred
  | .eeTwr e => s.servesAny e (fun c => s.chanBarred c || s.drvMember c)
  | .tm t _ => s.servesAny t (fun c => s.chanBarred c || s.isMember c)
  | .ch c _ => s.chanBarred c || s.isMember c
  | .dps d _ | .gd d _ => s.dpsBarred d || s.gangMember d
  | .wf i _ => s.ownerBars (s.wfSite i) || s.get (Reg.WF_STAT.TABLE i) == 1
  | .dl l _ => s.laneBarred l
  | .other => false

/-- R9, R535: any direct write to the word is refused: its site is RUNNING or HELD, or the word is kept from writes. -/
def State.wordRefused (s : State) (a : Nat) : Bool :=
  (s.wordSite a).any (fun n => s.siteState n == Site.RUNNING || s.siteState n == Site.HELD) || s.wordBarred a

/-- R236 STATE: an action with value `v` and mask `m` on the word at `a`, which would then hold `e`, is not allowed in the state in force. -/
def State.actState (s : State) (a : Nat) (v m e : Word) : Bool :=
  s.wordBarred a || (match clWord a with
  | .sqCtrl n => (Reg.SQ_CTRL.START n).of (v &&& m) == 1 && s.siteState n != Site.ARMED
  | .ch c k => (s.chanSite c).isNone || (k == 0 && s.quiet && (Reg.CH_CTRL.OUT_ARM c).of e == 1)
  | .dps d k => (s.dpsSite d).isNone || (k == 0 && ((s.dps d).check.isSome
      || ((Reg.DPS_SET.CONN d).of e == 1 && (s.flag (Reg.DPS_STAT.HELD_OFF d) || s.quiet || s.mode == Mode.STANDBY))))
  | .gd d _ => (s.dpsSite d).isNone
  | .wf i k => k == 0 && (Reg.WF_CTRL.MODE i).of e == 3 && s.get (Reg.WF_STAT.TABLE i) != 2
  | .dl l k => (s.laneSite l).isNone || (k == 0 && s.quiet && (Reg.DL_CTRL.MODE l).of e != 0)
  | _ => false)

/-- R47: a follow counter's pin: a Digital pin of its site. (DEDUCED, assumption 77.) -/
def State.followPinBad (s : State) (n pin : Nat) : Bool := match (s.map n).pins[pin]? with
  | some p => p.func != 0
  | none => true

/-- R236 FIELD: the value `e` of the word at `a` is one that a field table or an owning rule refuses for a single word; `raw` are the bits
that the write itself carries. -/
def State.fieldBad (s : State) (a : Nat) (raw e : Word) : Bool := match clWord a with
  | .followCfg n => s.followPinBad n ((Reg.TB_FOLLOW_CFG.PIN n).of e)
  | .tm t k => if k = 0 then (Reg.TM_CFG.MODE t).of e == 3
      else srcReserved ((Reg.TM_SRC.START t).of e) || srcReserved ((Reg.TM_SRC.STOP t).of e)
  | .ch c k =>
    if k = 0 then 4 < (Reg.CH_CTRL.IDLE c).of e || 1 < (Reg.CH_CTRL.DSRC c).of e
    else if k = 3 then (Reg.CH_CLAMP.ILIM c).of e == 3
    else if k = 0x20 then 5 < (Reg.CH_PMU.MODE c).of e || 4 < (Reg.CH_PMU.RANGE c).of e
    else if k = 0x30 then 4000 < (Reg.CH_GWIN.GVH c).of e || 4000 < (Reg.CH_GWIN.GVL c).of e
    else k == 0x31 && (Reg.CH_GCFG.MODE c).of e == 3
  | .dps d k => if k = 0 then 56000 < (Reg.DPS_SET.SET d).of e || (Reg.DPS_SET.SLEW d).of e < 10
      else (Reg.DPS_CFG.ILIM d).of e == 0 || 64000 < (Reg.DPS_CFG.ILIM d).of e
  | .wf i k => (raw &&& ~~~(accMask .cl a)) != 0 || (k == 1 && 2 ^ 47 ≤ (Reg.WF_FREQ.FTW i).of e)
  | .gd d k => k == 1 && (Reg.GD_DCFG.MODE d).of e == 3
  | .dl l k =>
    if k = 0 then (Reg.DL_CTRL.MODE l).of e == 3
    else if k = 1 then (Reg.DL_TX.TX_PAT l).of e == 7 || (Reg.DL_TX.ULEN l).of e < 8 || 128 < (Reg.DL_TX.ULEN l).of e
    else if k = 2 then (Reg.DL_RX.CHK_PAT l).of e == 7
    else if k = 3 then 63 < (Reg.DL_EQSET.EXC_TAP l).of e
      || [1, 2, 3, 4].any (fun i => 63 < (tapOf ((Reg.DL_EQSET.TAPS l).of e) i).natAbs)
    else if k = 4 then (Reg.DL_TRN.TRAIN_WIN l).of e < 1000 || (Reg.DL_TRN.EQ_TIME l).of e < 1000 || (Reg.DL_TRN.ACK_WIN l).of e < 100
    else k == 5 && (Reg.DL_CLK.REFDIV l).of e < 8
  | _ => false

/-- R118: why the tense port refuses a clause action. -/
def State.tenseBad (a : Nat) (v m : Word) : Bool := match clWord a with
  | .eeTwr _ => wget m 75 0 != 2 ^ 76 - 1 || tenseWriteBad v
  | _ => false

/-- R435: the upper voltage limit (mV) of a force path: the least of its members', and its booster's where that is lower. (DEDUCED, assumption 108.) -/
def State.forceVmax (s : State) (lead size : Nat) : Int :=
  let own := ((List.range size).map (fun i => (s.tileLimit (lead + i)).2)).foldl min 65535
  match s.boosts.find? (fun b => b.lead ≤ lead && lead + size ≤ b.lead + b.size) with
  | some b => (min own b.vmax : Nat)
  | none => (own : Nat)

/-- R436: no limits table lists a needle for the channel. (DEDUCED, assumption 14.) -/
def State.noNeedle (s : State) (c : Nat) : Bool := wget (s.reg (Reg.MP_LIMCH.word c)) 127 112 == 0xFFFF

/-- R236 LIMIT: the value puts a field beyond the limits table (R284, R311, R324, R436). (DEDUCED, assumption 14.) -/
def State.limitBad (s : State) (a : Nat) (e : Word) : Bool := match clWord a with
  | .ch c k => (0x10 ≤ k && k < 0x17 && s.levelBeyond c (k - 0x10) (wget e 16 16) (wget e 15 0)) || (k == 0x20 && s.noNeedle c)
  | .dps d k =>
    let n := (s.gangChans d).length
    !s.flag (Reg.MP_LIMDPS.FORCE d)
    || (if k = 0 then s.forceVmax d n * 1000 < (Reg.DPS_SET.SET d).of e * 125
        else s.forceLimit d n < n * (Reg.DPS_CFG.ILIM d).of e * 4)
  | .wf i k =>
    if k = 0 then s.wfBeyond i e (s.reg (Reg.WF_AMP.word i))
    else k == 2 && s.wfBeyond i (s.reg (Reg.WF_CTRL.word i)) e
  | _ => false

/-- The word an action would leave, over the word in force. -/
def State.actWord (s : State) (a : Nat) (v m : Word) : Word := (s.reg a &&& ~~~m) ||| (v &&& m)

/-- R236: the staging checks after ACT_LIMIT, in their order; `owner` is the site of a sequencer's clause. (DEDUCED, assumption 76.) -/
def State.stageCode (s : State) (owner : Option Nat) (x : Action) : Option Nat :=
  let e := s.actWord x.addr x.value x.mask
  if accMask .cl x.addr = 0 then some Cl.NOT_CL
  else if owner.any (fun n => s.wordSite x.addr != some n) then some Cl.FOREIGN
  else if s.actState x.addr x.value x.mask e then some Cl.STATE
  else if s.fieldBad x.addr (x.value &&& x.mask) e then some Cl.FIELD
  else if State.tenseBad x.addr x.value x.mask then some Cl.TENSE_RANGE
  else if s.limitBad x.addr e then some Cl.LIMIT
  else none

/-! ### Close checks (R237) -/

/-- One close check: the words it reads, whether the values fail it, and its code. -/
structure CloseCheck where
  words : List Nat
  fails : Bool
  code : Nat

/-- The values of the words as they will stand after the whole clause: the committed values with the clause's actions over them. -/
def State.afterClause (s : State) (acts : List Action) (a : Nat) : Word :=
  acts.foldl (fun w x => if x.addr = a then (w &&& ~~~x.mask) ||| (x.value &&& x.mask) else w) (s.shadowReg a)

/-- The fields over such values. -/
def fieldRd (rd : Nat → Word) (f : Fld) : Nat := f.of (rd f.addr)

/-- R100, R101, R103, R292, R334: the close checks with code FIELD of a channel. (DEDUCED, assumption 76.) -/
def State.chanChecks (s : State) (rd : Fld → Nat) (c : Nat) : List CloseCheck :=
  let lvl := fun k => levelU (rd (Reg.CH_LVL.SPAN c k)) (rd (Reg.CH_LVL.CODE c k))
  let func := s.chanFunc c
  [⟨[Reg.CH_LOAD.word c, Reg.CH_DRV.word c], rd (Reg.CH_LOAD.EN c) == 1 && rd (Reg.CH_DRV.TERM c) == 1, Cl.FIELD⟩,
   ⟨[Reg.CH_CLAMP.word c, Reg.CH_LVL.word c 5, Reg.CH_LVL.word c 6],
     (rd (Reg.CH_CLAMP.EN_HI c) == 1 || rd (Reg.CH_CLAMP.EN_LO c) == 1) && decide ((lvl 5 - lvl 6) * 1000 < 200 * 32768), Cl.FIELD⟩,
   ⟨[Reg.CH_CTRL.word c], (rd (Reg.CH_CTRL.BUS_CONN c) == 1 && func != 2) || (rd (Reg.CH_CTRL.DSRC c) == 1 && func != 3), Cl.FIELD⟩,
   ⟨[Reg.CH_CTRL.word c, Reg.CH_PMU.word c, Reg.CH_LVL.word c 7], s.pmuClose rd c == some true, Cl.FIELD⟩,
   ⟨[Reg.CH_GWIN.word c], decide (rd (Reg.CH_GWIN.GVH c) < rd (Reg.CH_GWIN.GVL c) + 34)
      || decide (signedOf 16 (rd (Reg.CH_GWIN.PMU_IHI c)) ≤ signedOf 16 (rd (Reg.CH_GWIN.PMU_ILO c))), Cl.FIELD⟩]

/-- R284: the close check with code LIMIT of a channel. -/
def State.chanLimit (s : State) (rd : Fld → Nat) (c : Nat) : CloseCheck :=
  ⟨[Reg.CH_PMU.word c, Reg.CH_LVL.word c 7], s.pmuClose rd c == some false, Cl.LIMIT⟩

/-- R103, R421: the close checks of a lane. -/
def laneChecks (rd : Fld → Nat) (l : Nat) : List CloseCheck :=
  [⟨[Reg.DL_CLK.word l], laneClockFast rd l, Cl.FIELD⟩, ⟨[Reg.DL_CTRL.word l, Reg.DL_TRN.word l], laneCloseBad rd l, Cl.FIELD⟩]

/-- R311: the close check of a waveform source. -/
def wfCheck (rd : Fld → Nat) (i : Nat) : CloseCheck :=
  let k := rd (Reg.WF_AMP.LEN_LOG2 i)
  ⟨[Reg.WF_CTRL.word i, Reg.WF_AMP.word i],
    rd (Reg.WF_CTRL.MODE i) == 3 && (k < 4 || 16 < k || 65536 < rd (Reg.WF_AMP.START i) + 2 ^ k), Cl.FIELD⟩

/-- The close checks of the unit of a word, over the values `rd`. -/
def State.closeChecksOf (s : State) (rd : Fld → Nat) (a : Nat) : List CloseCheck := match clWord a with
  | .ch c _ => s.chanChecks rd c
  | .wf i _ => [wfCheck rd i]
  | .dl l _ => laneChecks rd l
  | _ => []

/-- The limit checks of the unit of a word. -/
def State.limitChecksOf (s : State) (rd : Fld → Nat) (a : Nat) : List CloseCheck := match clWord a with
  | .ch c _ => [s.chanLimit rd c]
  | _ => []

/-- R237: a failing check that reads a word of the clause refuses it; FIRST_BAD is the last action on any word it reads. -/
def CloseCheck.verdict (acts : List Action) (k : CloseCheck) : Option (Nat × Nat) :=
  if k.fails ∧ acts.any (fun x => k.words.contains x.addr) then
    some (k.code, ((acts.zipIdx.filter (fun p => k.words.contains p.1.addr)).map Prod.snd).foldl max 0)
  else none

/-- R237 step 2: the first close check that a clause fails; `noTag` is the zero-tag check of R244. (DEDUCED, assumption 76.) -/
def State.closeCode (s : State) (acts : List Action) (noTag : Bool) : Option (Nat × Nat) :=
  let rd := fieldRd (s.afterClause acts)
  let words := (acts.map Action.addr).eraseDups
  let first := fun (l : List CloseCheck) => l.findSome? (CloseCheck.verdict acts)
  match first (words.flatMap (s.closeChecksOf rd)) with
  | some r => some r
  | none => if noTag then some (Cl.FIELD, 0) else first (words.flatMap (s.limitChecksOf rd))

end Sys2Proof.Machine
end

