-- ==== Sys2Proof/Machine/Commit.lean ====
section
/-! DEFINITION. The application of register actions (R231, R233, R240): the CL fields they set in both copies, the compound members
that follow their lead's words, and the effect each block starts from the beat of application. Direct writes of CL words use the same
operations (R9). -/

namespace Sys2Proof.Machine

/-- The CL bits of the word at `a` that hold a value: START of SQ_CTRL_n reads 0. -/
def clStored (a : Nat) : Word := match clWord a with
  | .sqCtrl n => accMask .cl a &&& ~~~(fieldMask (Reg.SQ_CTRL.START n).hi (Reg.SQ_CTRL.START n).lo)
  | .eeTwr _ => 0
  | _ => accMask .cl a

/-- R231, R233: the CL fields of a word under a value and a mask, in the active and the shadow copy. -/
def State.putCl (s : State) (a : Nat) (v m : Word) : State :=
  let k := m &&& clStored a
  (s.setReg a ((s.reg a &&& ~~~k) ||| (v &&& k))).setShadow a ((s.shadowReg a &&& ~~~k) ||| (v &&& k))

/-- R65, R107, R300, R334: the words of compound members that hold their lead's. -/
def State.followWords (s : State) (a : Nat) : List Nat := match clWord a with
  | .ch c k => if [0, 1, 2, 3, 4, 0x20, 0x30, 0x31].contains k && (s.leadOf c == c)
      then ((s.compChans c).filter (· != c)).map (fun m => a + 0x40 * m - 0x40 * c) else []
  | .gd d _ => if s.gangLead d = d then ((s.gangChans d).filter (· != d)).map (fun m => a + 4 * m - 4 * d) else []
  | _ => []

/-- R118, R231: one action's values: a tense item into both banks, or the CL fields of the word and of the words that follow it. -/
def State.applyValues (s : State) (x : Action) : State := match clWord x.addr with
  | .eeTwr e => (s.tenseWrite false e x.value).tenseWrite true e x.value
  | _ => (s.putCl x.addr x.value x.mask).forL (s.followWords x.addr) (fun a t => t.putCl a x.value x.mask)

/-! ### Effects from the beat of application -/

/-- R86, R88, R91, R98, R103: the arm of one channel as CH_CTRL leaves it, where `was` is OUT_ARM before. -/
def State.armHook (s : State) (was : Bool) (c : Nat) : State :=
  let on := s.flag (Reg.CH_CTRL.OUT_ARM c)
  let s1 := if on && !was then (s.setChan c { s.chan c with driveMem := false, level := 0, edges := [], shape := 0, keep := 4 }).set (Reg.CH_CAPT.COUNT c) 0
    else if !on && was then s.setChan c { s.chan c with level := 0, edges := [], shape := 0, keep := 4 } else s
  (((s1.busTrigger c).refreshChan c).refreshPmu c).presentIdle c

/-- R22, R180, R271, R298, R329: a start reaches a site: it enters RUNNING when it is ARMED (and HELD at once when a cause is already set). -/
def State.startSite (s : State) (n : Nat) : State :=
  if s.siteState n ≠ Site.ARMED then s
  else
    let q := s.seq n
    let e := s.get (Reg.SQ_CTRL.ENTRY n)
    let s1 := ((s.set (Reg.SQ_STAT.PC n) e).set (Reg.SQ_STAT.SP n) 0).set (Reg.SQ_STAT.ST n) St.OK
    let s2 := s1.setReg (Reg.SQ_ACC.word n) (resetWord (Reg.SQ_ACC.word n))
    let s3 := s2.setSeq n { Seq.init with region := q.region, base := s.get (Reg.SQ_CTRL.BASE n), entry := e }
    let s4 := (s3.cancelHost n).setSite n Site.RUNNING
    if s.get (Reg.SQ_STAT.CAUSES n) = 0 then s4 else s4.setSite n Site.HELD

/-- R47: a follow counter is enabled or goes on as it was. -/
def State.followHook (s : State) (n : Nat) (old : Word) : State :=
  if (Reg.TB_FOLLOW_CFG.EN n).of old = 0 ∧ s.flag (Reg.TB_FOLLOW_CFG.EN n) then
    { s.set (Reg.TB_FOLLOW_CNT.COUNT n) 0 with follows := sset (fun _ => Follow.init) s.follows n ⟨s.now, false⟩ }
  else s

/-- R402, R416: what new lane words start. -/
def State.laneHook (s : State) (l k : Nat) (old new : Word) : State :=
  if k = 0 then
    (if [Reg.DL_CTRL.MODE l, Reg.DL_CTRL.GEN l, Reg.DL_CTRL.RATE_MASK l, Reg.DL_CTRL.DIRECT_RATE l].any (fun f => f.of old != f.of new)
     then s.laneRestart l else s)
  else if k = 2 ∧ (Reg.DL_RX.CHK_PAT l).of old ≠ (Reg.DL_RX.CHK_PAT l).of new then s.set (Reg.DL_STAT.SYNC l) 0
  else s

/-- R240: the further effects of one word from the beat of application: `old` is the word before it, `v` and `m` what the actions wrote. -/
def State.wordHook (s : State) (a : Nat) (old v m : Word) : State :=
  let new := s.reg a
  match clWord a with
  | .followCfg n => s.followHook n old
  | .followMatch n => if (Reg.TB_FOLLOW_MATCH.TARGET n).of m = 0 then s else s.set (Reg.TB_FOLLOW_MATCH.MATCHED n) 0
  | .sqCtrl n => if (Reg.SQ_CTRL.START n).of (v &&& m) = 1 then s.startSite n else s
  | .eeCfg _ | .eeTwr _ | .tm _ _ | .gd _ _ | .other => s
  | .ch c k =>
    if k = 0 then s.forL (s.compChans c) (fun x t => t.armHook ((Reg.CH_CTRL.OUT_ARM c).of old == 1) x)
    else if k < 5 then s.forL (s.compChans c) (fun x t => t.refreshChan x)
    else if 0x10 ≤ k ∧ k < 0x18 then s.levelCommit c (k - 0x10)
    else if k = 0x20 then (s.pmuTrigger c).presentIdle c
    else s
  | .wf i _ => s.wfTrigger i (a == Reg.WF_FREQ.word i && wget m 111 64 != 0)
  | .dps d k => if k = 0 then s.dpsCommit d else s.dpsCfgCommit d
  | .dl l k => s.laneHook l k old new

/-- R291: CH_CTRL before CH_PMU, and both before the levels and every other word. -/
def hookRank (a : Nat) : Nat := match clWord a with
  | .ch _ k => if k = 0 then 0 else if k = 0x20 then 1 else 2
  | _ => 2

/-- What a list of actions writes to the word at `a`: the value and the mask of all of them together. -/
def actsOn (acts : List Action) (a : Nat) : Word × Word :=
  (acts.filter (fun x => x.addr == a)).foldl (fun p x => ((p.1 &&& ~~~x.mask) ||| (x.value &&& x.mask), p.2 ||| x.mask)) (0, 0)

/-- R374: the channels whose calibrated terms a word's commit touches: a channel's CH word, an engine's, or the bus of a source's. -/
def State.touchedBy (s : State) (a : Nat) : List Nat := match clWord a with
  | .ch c _ => s.compChans c
  | .eeCfg e | .eeTwr e => (s.chanOfEngine e).toList
  | .wf i _ => s.busChans i
  | .dps d _ => ((s.dpsSite d).bind (fun n => (s.map n).chans.min?)).toList
  | _ => []

/-- R231, R240: a list of actions applies in one beat: every value first, in the order of staging, then the effects they start. -/
def State.applyActions (s : State) (acts : List Action) : State :=
  let words := (acts.map Action.addr).eraseDups
  let ordered := words.filter (fun a => hookRank a == 0) ++ words.filter (fun a => hookRank a == 1) ++ words.filter (fun a => hookRank a == 2)
  let s1 := (s.forL (words.flatMap s.touchedBy).eraseDups (fun c t => t.calTouch c)).forL acts (fun x t => t.applyValues x)
  s1.forL ordered (fun a t => let p := actsOn acts a; t.wordHook a (s.reg a) p.1 p.2)

end Sys2Proof.Machine
end

