-- ==== Sys2Proof/Machine/Spare.lean ====
section
/-! DEFINITION. Spare edge engines (R60, R120 to R128, R503): which engine serves a channel, what a spare takes over, and the switch-over
that a service request asks for. -/

namespace Sys2Proof.Machine

/-- R125: both tense banks of engine `e` go into engine `f`. -/
def copyTenses (m : List (Nat × Nat)) (e f : Nat) : List (Nat × Nat) :=
  (m.filter (fun p => p.1 / 384 == e)).foldl (fun r p => sset (fun _ => 0) r (tenseKey f 0 0 + p.1 % 384) p.2)
    (m.filter (fun p => p.1 / 384 != f))

/-- R127: channel `c` is routed from engine `f`, in `role` 1 OWN or 2 SPARE; the trace delays of its needle go with it, and its timing
targets are the engine's terms. (DEDUCED, assumption 22.) -/
def State.route (s : State) (c f role : Nat) : State :=
  let s1 := ((s.set (Reg.CH_ID.EE c) f).set (Reg.EE_STAT.ROLE f) role).set (Reg.EE_STAT.CHANNEL f) c
  let s2 := (s1.set (Reg.EE_DESKEW.TRACE_DRV f) (s.get (Reg.MP_LIMCH.TRACE_DRV c))).set (Reg.EE_DESKEW.TRACE_RCV f) (s.get (Reg.MP_LIMCH.TRACE_RCV c))
  let s3 := if 1024 ≤ f then (s2.set (Reg.SI_SPARE.VALID (f - 1024)) 1).set (Reg.SI_SPARE.CHANNEL (f - 1024)) c else s2
  s3.setCalCh c { s3.calCh c with drvT := s3.get (Reg.EE_DESKEW.CAL_DRV f), rcvT := s3.get (Reg.EE_DESKEW.CAL_RCV f), tWait := 0 }

/-- R125, R127: an engine serves no channel any more, in `role` 0 IDLE or 3 RETIRED. (DEDUCED, assumption 22.) -/
def State.unroute (s : State) (e role : Nat) : State :=
  let s1 := s.set (Reg.EE_STAT.ROLE e) role
  if 1024 ≤ e then s1.setReg (Reg.SI_SPARE.word (e - 1024)) 0 else s1

/-- R125: spare engine `f` takes over channel `c` from the engine that serves it. The manual gives no formula for its CAL_DRV and CAL_RCV: they are
free values (assumption 1). R128: the channel meets the reference figure. (DEDUCED, assumption 81.) -/
def State.takeOver (s : State) (c f : Nat) : State :=
  let e := s.engineOf c
  let s1 := { s with tenses := copyTenses s.tenses e f, tensesShadow := copyTenses s.tensesShadow e f }
  let s2 := (s1.setReg (Reg.EE_CFG.word f) (s.reg (Reg.EE_CFG.word e))).setShadow (Reg.EE_CFG.word f) (s.shadowReg (Reg.EE_CFG.word e))
  let s3 := (s2.set (Reg.EE_DESKEW.CAL_DRV f) (wget s2.freeVal 19 0)).set (Reg.EE_DESKEW.CAL_RCV f) (wget s2.freeVal 51 32)
  let s4 := ((s3.bumpFree.unroute e 3).route c f 2)
  if s.get (Reg.CAL_CHS.FIGURE c) = 2 then s4.set (Reg.CAL_CHS.FIGURE c) 1 else s4

/-- The service operation in hand has ended (R501, R503). -/
def State.svcEnd (s : State) (result : Nat) : State :=
  (((s.set Reg.DEV_SVCSTAT.PENDING 0).set Reg.DEV_SVCSTAT.DONE 1).set Reg.DEV_SVCSTAT.RESULT result).set Reg.DEV_SVCSTAT.BEAT s.now

/-- R503: the switch-over of the substitution that is pending. (DEDUCED, assumption 82.) -/
def State.switchOver (s : State) : State :=
  let c := s.get Reg.DEV_SVCSTAT.INDEX
  let f := 1024 + s.get Reg.DEV_SVCSTAT.SPARE
  let old := s.engineOf c
  let s1 := (s.takeOver c f).svcEnd 0
  let s2 := match s.chanSite c with
    | some n => s1.event n Ev.SPARE_SWITCH (old * 2 ^ 16 + f)
    | none => s1
  (s2.log Src.DEV (Lc.event Ev.SPARE_SWITCH) (detail 0 c)).calSpare c

/-- R503: the substitution that is pending is of a channel of stream `x`. -/
def State.spareOf (s : State) (x : Nat) : Bool :=
  s.flag Reg.DEV_SVCSTAT.PENDING && (s.chanSite (s.get Reg.DEV_SVCSTAT.INDEX)).any (fun n => s.streamOf n == x)

/-- R126: at a frame boundary of stream `x` the switch-over that waits for it takes place. (DEDUCED, assumption 82.) -/
def State.spareBoundary (s : State) (x : Nat) : State := if s.spareOf x then s.switchOver else s

end Sys2Proof.Machine
end

