-- ==== Sys2Proof/Machine/ScanOut.lean ====
section
/-! DEFINITION. Scan-out (R151 to R176): priming, playing, the frame boundary with its ordered actions, clone members, commit
windows, underruns, hold vectors and hold frames, and the leases they move. -/

namespace Sys2Proof.Machine

/-! ### Pending clause actions (R166 to R169) -/

/-- R169: the pending actions that `sel` chooses apply now. -/
def State.firePends (s : State) (sel : PendAct → Bool) : State :=
  let now := s.pendActs.filter sel
  ({ s with pendActs := s.pendActs.filter (fun p => !sel p) }).applyActions (now.map PendAct.act)

/-- R167: the reports of a late application on stream `x` for the sites `ns`, of a clause with full stop `f`. -/
def State.commitLate (s : State) (x : Nat) (ns : List Nat) (f : Nat) : State :=
  let s1 := ((s.set (Reg.SO_STR_STAT.LATE x) 1).set Reg.SO_STAT.COMMIT_LATE 1).inc (Reg.SO_STR_CNT.LATE x)
  let s2 := s1.log Src.SO (Lc.event Ev.COMMIT_LATE) (detail 0 x) 5
  let s3 := s2.forL ns (fun n t => t.event n Ev.COMMIT_LATE (f % 2 ^ 32))
  s3.setStream x { s3.stream x with lateSeen := (s3.stream x).lateSeen ++ ns }

/-- The beat of an instant in ticks (R5). -/
def beatOf (t : Nat) : Nat := t / 65536

/-- R167: at a boundary of stream `x` in beat `tb`, ending a frame whose commit window closed in beat `wc`: actions in time apply,
those that missed the window wait one more boundary, and those that had missed it apply with COMMIT_LATE. -/
def State.boundaryCommits (s : State) (x tb wc : Nat) : State :=
  let mine := s.pendActs.filter (fun p => p.stream == x && p.fullStop ≤ tb)
  let due := mine.filter (fun p => p.late || p.prepared ≤ wc)
  let late := due.filter (fun p => p.late)
  let rest := s.pendActs.filter (fun p => !(p.stream == x && p.fullStop ≤ tb && (p.late || p.prepared ≤ wc)))
  let missed := rest.map (fun p => if p.stream == x && p.fullStop ≤ tb then { p with late := true } else p)
  let s1 := { s with pendActs := missed }
  let s2 := s1.applyActions (due.map PendAct.act)
  let stops := (late.map PendAct.fullStop).eraseDups
  s2.forL stops (fun f t => t.commitLate x ((late.filter (fun p => p.fullStop == f)).map PendAct.site).eraseDups f)

/-! ### States and members -/

/-- Set a stream's state; a stream that leaves PLAYING applies what is pending on it (R169). -/
def State.setStreamState (s : State) (x st : Nat) : State :=
  let s1 := s.set (Reg.SO_STR_STAT.STATE x) st
  let s2 := if s.streamState x = Str.PLAYING ∧ st ≠ Str.PLAYING then s1.firePends (fun p => p.stream == x) else s1
  if st = Str.PLAYING then s2
  else s2.forL (s2.streamEngines x) (fun e t => t.set (Reg.EE_STAT.RUNNING e) 0)

/-- R153: a site presents its idle state (R88). -/
def State.idlePins (s : State) (n : Nat) : State := s.forL (s.map n).chans (fun c t => t.presentIdle c)

/-- R161, R169: a site leaves its stream: its pending actions apply and it presents its idle state. -/
def State.leaveStream (s : State) (n : Nat) : State :=
  let x := s.streamOf n
  let q := s.stream x
  if q.members.contains n then
    let s1 := s.setStream x { q with members := q.members.filter (· != n), missed := (n, s.get (Reg.SO_STR_POS.FRAMES x)) :: q.missed.filter (fun m => m.1 != n) }
    let s2 := (s1.firePends (fun p => p.site == n)).set (Reg.SO_SITE_STAT.IN_STREAM n) 0
    s2.idlePins n
  else s

/-- Whether a site takes the stream's vectors: RUNNING, and not stopping (R203). -/
def State.playing (s : State) (n : Nat) : Bool := s.siteState n == Site.RUNNING && !s.flag (Reg.SQ_STAT.STOPPING n)

/-- R154: the allocation of a stream is released when no site of it is live and it is IDLE. -/
def State.releaseFb (s : State) (x : Nat) : State :=
  if s.flag (Reg.SO_STR_STAT.ALLOC x) ∧ s.streamState x = Str.IDLE
      ∧ (s.streamSites x).all (fun n => [Site.EMPTY, Site.LOADED, Site.RETIRED].contains (s.siteState n)) then
    let b := s.fbBlocks x
    ((s.set (Reg.SO_STR_STAT.ALLOC x) 0).set Reg.SO_FB.USED_BLK (s.get Reg.SO_FB.USED_BLK - b)).set Reg.SO_FB.FREE_BLK (s.get Reg.SO_FB.FREE_BLK + b)
  else s

/-- A stream goes IDLE: buffer and list position are gone, every member presents its idle state. -/
def State.endStream (s : State) (x : Nat) : State :=
  let ms := (s.stream x).members
  let s1 := s.setStreamState x Str.IDLE
  let s2 := s1.forL ms (fun n t => (t.set (Reg.SO_SITE_STAT.IN_STREAM n) 0).idlePins n)
  let q := s2.stream x
  (s2.setStream x { Stream.init with lateSeen := q.lateSeen, missed := q.missed, gather := q.gather }).releaseFb x

/-- A stream pauses at a boundary (R152): its list position is kept, its buffered incoming frame and read-ahead are read again. (DEDUCED, assumption 49.) -/
def State.pauseStream (s : State) (x tEnd : Nat) : State :=
  let ms := (s.stream x).members
  let s1 := s.setStreamState x Str.PAUSED
  let s2 := s1.forL ms (fun n t => (t.set (Reg.SO_SITE_STAT.IN_STREAM n) 0).idlePins n)
  s2.setStream x { s2.stream x with phase := .idle, endAt := tEnd, wasPaused := true, members := [], start := none }

/-- R145 step 3: the stop of a stream whose lease was violated. -/
def State.stopViolated (s : State) (x addr : Nat) : State :=
  let ns := s.streamSites x
  let ms := (s.stream x).members
  let s1 := s.setStreamState x Str.STOPPED
  let s2 := s1.forL ms (fun n t => (t.set (Reg.SO_SITE_STAT.IN_STREAM n) 0).idlePins n)
  let s3 := s2.forL (ns.filter (fun n => s.siteState n == Site.RUNNING || s.siteState n == Site.HELD || s.siteState n == Site.TRIPPED))
    (fun n t => (t.hold n Cause.LEASE).event n Ev.LEASE_VIOLATION addr)
  s3.setStream x Stream.init

/-! ### Starting a frame -/

/-- R142, R155: the rows and column of a frame as the fetch brings them. -/
def State.fetch (s : State) (x : Nat) (d : Desc) : Half :=
  let r := rowBytes (s.streamWidth x)
  let n := if d.kind = 2 then r else d.count * r
  let bad := if s.anyUncorr d.data n then some (s.firstUncorr d.data n)
    else if d.tcol ∧ s.anyUncorr d.column d.count then some (s.firstUncorr d.column d.count) else none
  { desc := d, rows := s.bytes d.data n, col := if d.tcol then s.bytes d.column d.count else [], bad := bad }

/-- R141: a LITERAL frame with STATIC that the buffer already holds. -/
def State.replayable (s : State) (x : Nat) (d : Desc) : Bool :=
  s.flag Reg.SO_CTRL.STATIC_EN && d.kind == 1 && d.stat &&
  (match (s.stream x).cur with
   | some h => (h.desc.kind == 1 || h.desc.kind == 3) && h.desc.data == d.data && h.desc.count == d.count && h.desc.tcol == d.tcol && h.desc.column == d.column
   | none => false)

/-- R170, R474: hold frames that a boundary ending a frame of the pattern inserts while throttled. (DEDUCED, assumption 48.) -/
def State.throttleHolds (s : State) : Nat := if s.mode = Mode.THROTTLE then s.get Reg.HK_CTRL.HOLDS else 0

/-- R159: the frame in half `h` starts at instant `t0`, played `left` times. -/
def State.startFrame (s : State) (x : Nat) (h : Half) (left t0 vecBase : Nat) (replay : Bool) : State :=
  let q := s.stream x
  let d := h.desc
  let p := s.streamPeriod x d.tense
  let q' := { q with cur := some h, left := left, vec := 0, lead := 0, t0 := t0, period := p, endAt := t0 + d.count * p, phase := .frame
                     under := 0, holds := 0, vecBase := vecBase, substSites := [], wasPaused := false }
  let s1 := (s.setStream x q').inc (Reg.SO_STR_POS.FRAMES x)
  let s2 := ((s1.set (Reg.SO_STR_STAT.FRAME_ID x) d.frameId).set (Reg.SO_STR_STAT.TENSE x) d.tense).set (Reg.SO_STR_STAT.DEPTH x) d.stack.length
  let s3 := if replay then s2.inc (Reg.SO_STR_CNT.REPLAY x) else s2.inc (Reg.SO_STR_CNT.FETCHED x)
  (s3.setStreamState x Str.PLAYING).forL (s3.streamEngines x) (fun e t => (t.set (Reg.EE_STAT.TENSE e) d.tense).set (Reg.EE_STAT.RUNNING e) 1)

/-- R152, R122, R133, R143, R157: a refused frame: the sites fed by the stream are held with cause FRAME and each receives the event. -/
def State.refuseFrame (s : State) (x code value tEnd : Nat) : State :=
  let ns := (s.streamSites x).filter (fun n => s.siteState n == Site.RUNNING || s.siteState n == Site.HELD || s.siteState n == Site.TRIPPED)
  let s1 := s.forL ns (fun n t => (t.hold n Cause.FRAME).event n code value)
  s1.pauseStream x tEnd

/-- R171 order 6c: the checks of the incoming frame; the first that fails. -/
def State.frameRefusal (s : State) (x : Nat) (d : Desc) (h : Option Half) : Option (Nat × Nat) :=
  if d.err ≠ 0 then some (Ev.DESC_BAD, d.addr)
  else if s.get (Reg.SO_STR_CFG.FB_VEC x) * 256 < d.count then some (Ev.FRAME_OVERSIZE, d.addr)
  else match h.bind Half.bad with
    | some a => some (Ev.PM_UNCORR, a)
    | none => if s.tenseFits x d.tense then none else some (Ev.TENSE_INVALID, d.tense)

/-- The reports of a refusal beside the sites' records (R133, R143, R157). -/
def State.refusalReports (s : State) (x code : Nat) (d : Desc) : State :=
  if code = Ev.DESC_BAD then (s.log Src.PM (Lc.event Ev.DESC_BAD) (d.err * 2 ^ 35 + d.addr % 2 ^ 35) 6).inc Reg.PM_CNT.DESC_BAD
  else if code = Ev.FRAME_OVERSIZE then s.set (Reg.SO_STR_STAT.OVERSIZE x) 1
  else if code = Ev.PM_UNCORR then s.uncorrMet
  else s

/-- R152: forget what was fetched and read ahead, so that the frame refused at a boundary (or next after a pause) is read again. -/
def State.rewind (s : State) (x : Nat) : State :=
  let q := s.stream x
  match q.queue with
  | d :: _ => s.setStream x { q with queue := [], inc := none, rpos := d.addr, rstack := d.stack, rdone := false }
  | [] => s.setStream x { q with inc := none }

/-- R160: an underrun hold vector begins at `t`. (DEDUCED, assumption 52.) -/
def State.underrunVector (s : State) (x t : Nat) : State :=
  let q := s.stream x
  (s.setStream x { q with phase := .underrun, under := q.under + 1, vec := 0, endAt := t + q.period }).inc (Reg.SO_STR_CNT.UNDER_VEC x)

/-- R160: the reports when the frame of an underrun at last starts. (DEDUCED, assumption 52.) -/
def State.underrunReports (s : State) (x k : Nat) : State :=
  if k = 0 then s
  else
    let s1 := (s.set (Reg.SO_STR_STAT.UNDERRUN x) 1).set Reg.SO_STAT.UNDERRUN 1
    let s2 := s1.forL (s1.streamSites x) (fun n t => t.event n Ev.UNDERRUN k)
    s2.setStream x { s2.stream x with lateSeen := (s2.stream x).lateSeen ++ s2.streamSites x }

/-- R123, R160, R170, R171 order 6d: the incoming frame `h` (some of its repetitions left) starts at boundary instant `t`, after the
hold vector that a change of period asks for and after any hold frames. -/
def State.startAfter (s : State) (x : Nat) (h : Half) (left t vecBase : Nat) (replay : Bool) (gapless : Bool) : State :=
  let q := s.stream x
  let pNew := s.streamPeriod x h.desc.tense
  let pOld := match q.cur with
    | some c => s.streamPeriod x c.desc.tense
    | none => pNew
  let holdVec := gapless && q.phase != .holdFrame && pNew != pOld
  let s1 := if holdVec then s.forL (s.streamEngines x) (fun e u => u.inc (Reg.EE_CNT.HOLD_VEC e)) else s
  let t1 := if holdVec then t + pOld else t
  let s2 := (s1.underrunReports x q.under).startFrame x h left t1 vecBase replay
  if holdVec then s2.setStream x { s2.stream x with lead := pOld } else s2

/-- R171 order 6b for a clone stream or an own one: members that are no longer RUNNING leave; released members rejoin, with
CLONE_REJOIN when they had left (R163). -/
def State.boundaryMembers (s : State) (x : Nat) : State :=
  let s1 := s.forL ((s.stream x).members.filter (fun n => !s.playing n)) (fun n t => t.leaveStream n)
  let back := ((s1.stream x).missed.map Prod.fst).filter (fun n => s1.playing n && !(s1.stream x).members.contains n)
  s1.forL back (fun n t =>
    let q := t.stream x
    let k := t.get (Reg.SO_STR_POS.FRAMES x) - ((q.missed.find? (fun m => m.1 == n)).map Prod.snd).getD 0
    let t1 := t.setStream x { q with members := (n :: q.members).mergeSort, missed := q.missed.filter (fun m => m.1 != n) }
    let t2 := t1.set (Reg.SO_SITE_STAT.IN_STREAM n) 1
    if 64 ≤ x ∧ k ≠ 0 then (t2.event n Ev.CLONE_REJOIN k).set (Reg.SO_SITE_STAT.MISSED n) k else t2)

/-- R38, R44: the selected holds and releases act. -/
def State.actHolds (s : State) (sel : PendHold → Bool) : State :=
  let due := s.tb.holds.filter sel
  let s1 := { s with tb := { s.tb with holds := s.tb.holds.filter (fun p => !sel p) } }
  s1.forL due (fun p t => if p.release then t.clearCauses p.site (2 ^ Cause.SYNC)
    else if t.siteState p.site = Site.RUNNING then t.hold p.site p.cause else t)

/-- R161: no member of a clone stream can rejoin. -/
def State.noneCanRejoin (s : State) (x : Nat) : Bool :=
  (s.streamSites x).all (fun n => s.siteState n != Site.HELD && s.siteState n != Site.TRIPPED && s.siteState n != Site.RUNNING)

/-- R163: frames missed count from the frames begun; R172: a new pattern forgets which vectors have failed. -/
def State.clearMarks (s : State) (ns : List Nat) : State := { s with failMarks := s.failMarks.filter (fun m => !ns.contains m.site) }

/-- R155, R171: take the next frame of the pattern at boundary instant `t`: the same frame again while repetitions are left, else
the next descriptor's; at the end of the pattern the stream goes IDLE. -/
def State.nextFrame (s : State) (x t : Nat) (gapless : Bool) : State :=
  let q := s.stream x
  let played := match q.cur with
    | some h => h.desc.count
    | none => 0
  let vb := if q.phase = .frame then q.vecBase + played else q.vecBase
  if q.phase = .frame ∧ 0 < s.throttleHolds then
    s.setStream x { q with phase := .holdFrame, holds := s.throttleHolds - 1, endAt := t + 256 * q.period, vec := 0, vecBase := vb, left := q.left - 1 }
  else if q.phase = .holdFrame ∧ 0 < q.holds ∧ s.mode = Mode.THROTTLE then
    s.setStream x { q with holds := q.holds - 1, vec := 0, endAt := t + 256 * q.period }
  else
    let left := if q.phase = .frame then q.left - 1 else q.left
    match q.cur with
    | some h =>
      if 0 < left ∧ !q.wasPaused then
        match s.frameRefusal x h.desc (some h) with
        | some (c, v) => ((s.refusalReports x c h.desc).setStream x { q with left := left, vecBase := vb }).refuseFrame x c v t
        | none => (s.setStream x { q with left := left }).startAfter x h left t vb true gapless
      else next s { q with left := 0, vecBase := vb } vb
    | none => next s { q with vecBase := vb } vb
where
  /-- The next descriptor's frame. -/
  next (s : State) (q : Stream) (vb : Nat) : State :=
    match q.queue with
    | [] => if q.rdone then s.endStream x else (s.setStream x q).underrunVector x t
    | d :: rest =>
      let replay := s.replayable x d
      let h := if replay then q.cur.map (fun h => { h with desc := d }) else q.inc
      match s.frameRefusal x d h with
      | some (c, v) => (((s.setStream x q).refusalReports x c d).refuseFrame x c v t).rewind x
      | none =>
        match h with
        | none => (s.setStream x q).underrunVector x t
        | some hf =>
          let s1 := s.setStream x { q with queue := rest, inc := if replay then q.inc else none }
          s1.startAfter x hf (if d.kind = 3 then d.reps else 1) t vb (replay || d.kind == 2) gapless

/-- R167: the beat in which the commit window of the frame in play closes. -/
def Stream.windowClose (q : Stream) (k : Nat) : Nat := beatOf (q.t0 + (k - 64) * q.period)

/-- R171: the boundary actions of a PLAYING stream at instant `q.endAt`. -/
def State.boundary (s : State) (x : Nat) : State :=
  let q := s.stream x
  let t := q.endAt
  let n := match q.phase with
    | .frame => (q.cur.map (fun h => h.desc.count)).getD 256
    | _ => 256
  let wc := match q.phase with
    | .underrun => beatOf t
    | .frame => q.windowClose n
    | _ => beatOf (t - 64 * q.period)
  let s1 := (((s.boundaryCommits x (beatOf t) wc).set (Reg.SO_STR_POS.BOUNDARY x) (beatOf t)).spareBoundary x).calBoundary x
  match (s1.stream x).stop with
  | some a => s1.stopViolated x a
  | none =>
    let s0 := s1.forL (s1.streamSites x) (fun n u => u.latchClear n)
    let s2 := s0.actHolds (fun p => s1.streamOf p.site == x && p.beat ≤ beatOf t)
    let s3 := s2.boundaryMembers x
    if (s3.stream x).members.isEmpty then
      let stopping := (s3.streamSites x).any (fun n => s3.flag (Reg.SQ_STAT.STOPPING n))
      if s3.noneCanRejoin x || (x < 64 && stopping) then s3.endStream x
      else
        let s4 := s3.setStream x { s3.stream x with left := if q.phase = .frame then q.left - 1 else q.left, vecBase := if q.phase = .frame then q.vecBase + n else q.vecBase }
        s4.pauseStream x t
    else s3.nextFrame x t (q.phase == .frame)

/-- R152, R163: a PAUSED stream one of whose sites runs again returns to PLAYING: a frame whose repetitions are left goes on, else the
next frame is taken, at the paused tick position. (DEDUCED, assumption 49.) -/
def State.resumeStream (s : State) (x : Nat) : State :=
  let q := s.stream x
  let back := (s.streamSites x).filter (fun n => s.playing n && (q.missed.any (fun m => m.1 == n) || !(64 ≤ x)))
  if back.isEmpty then
    (if s.noneCanRejoin x then s.endStream x else s)
  else if !q.start.all (fun t => decide (t / 65536 ≤ s.now)) then s
  else
    let t := s.now * 65536 + q.endAt % 65536
    let s0 := if x < 64 then s.forL back (fun n u => u.setStream x { u.stream x with members := [n], missed := [] }) else s.boundaryMembers x
    let s1 := s0.forL (s0.stream x).members (fun n u => u.set (Reg.SO_SITE_STAT.IN_STREAM n) 1)
    let q1 := s1.stream x
    let s2 := s1.setStream x { q1 with wasPaused := false, phase := .idle, start := none }
    (s2.setStreamState x Str.PLAYING).nextFrame x t false

/-- R166: a committed action for the site is pending. -/
def State.refreshPending (s : State) : State :=
  s.forN 64 (fun n t => t.set (Reg.SO_SITE_STAT.PENDING n) (b2n (t.pendActs.any (fun p => p.site == n))))

/-- R123, R158: the frame 0 of a primed stream starts. -/
def State.streamStart (s : State) (x : Nat) : State :=
  let q := s.stream x
  match q.queue with
  | [] => s
  | d :: rest =>
    let t := match q.start with
      | none => s.now * 65536
      | some st => if st / 65536 < s.now then s.now * 65536 + st % 65536 else st
    match s.frameRefusal x d q.inc with
    | some (c, v) => ((s.refusalReports x c d).refuseFrame x c v t).rewind x
    | none => match q.inc with
      | none => s
      | some h =>
        let joined := (q.gather.filter (fun g => !g.declined)).map Gather.site
        let ms := joined.filter (fun n => s.playing n)
        let left := joined.filter (fun n => !s.playing n && (s.siteState n == Site.HELD || s.siteState n == Site.TRIPPED))
        let s1 := (s.set (Reg.SO_STR_POS.FRAMES x) 0).clearMarks (s.streamSites x)
        let s2 := s1.setStream x { q with queue := rest, inc := none, members := ms.mergeSort, missed := left.map (fun n => (n, 0)), gather := [], lateSeen := [], fcFull := [] }
        let s3 := s2.forL ms (fun n u => u.set (Reg.SO_SITE_STAT.IN_STREAM n) 1)
        let s4 := (s3.calBoundary x).startFrame x h (if d.kind = 3 then d.reps else 1) t 0 (d.kind == 2)
        match q.start with
        | some st =>
          if st / 65536 < s.now then
            let s5 := (s4.set (Reg.SO_STR_STAT.START_LATE x) 1).set Reg.SO_STAT.START_LATE 1
            let s6 := s5.forL (s5.streamSites x) (fun n u => u.event n Ev.START_LATE (s.now - st / 65536))
            s6.setStream x { s6.stream x with lateSeen := s6.streamSites x }
          else s4
        | none => s4

/-- R162: the barrier of a stream: every RUNNING site of it has issued its start statement. -/
def State.barrierDone (s : State) (x : Nat) : Bool :=
  let q := s.stream x
  !(q.gather.isEmpty) && (s.streamSites x).all (fun n => s.siteState n != Site.RUNNING || q.gather.any (fun g => g.site == n))
    && (q.gather.any (fun g => !g.declined))

/-- R162: when the barrier completes, the lowest-numbered member that takes part gives the list address and start time; a member
that named another is held with CLONE_MISMATCH; the stream primes. -/
def State.barrier (s : State) (x : Nat) : State :=
  let q := s.stream x
  if s.streamState x = Str.IDLE ∧ s.barrierDone x then
    let part := (q.gather.filter (fun g => !g.declined && s.siteState g.site == Site.RUNNING)).mergeSort (fun a b => a.site ≤ b.site)
    match part with
    | [] => s
    | g :: _ =>
      let bad := part.filter (fun h => h.list != g.list)
      let s1 := s.forL bad (fun h t => (t.hold h.site Cause.CLONE).event h.site Ev.CLONE_MISMATCH h.list)
      let q' : Stream := { Stream.init with gather := q.gather.filter (fun h => h.declined || h.list == g.list), rpos := g.list, list := g.list, start := g.start }
      (s1.setStream x q').setStreamState x Str.PRIMING
  else s

/-- R161, R162: what a change of a site's state does to the clone streams: a barrier may be complete now, and a paused stream that no
member can rejoin goes IDLE. -/
def State.cloneStreams (s : State) : State :=
  s.forL (s.clones.map (fun g => g.1 + 64)) (fun x t =>
    if t.streamState x = Str.PAUSED ∧ t.noneCanRejoin x then t.endStream x else t.barrier x)

/-- R161: a clone member that has tripped leaves its stream in the trip beat. (DEDUCED, assumption 64.) -/
def State.tripLeave (s : State) : State :=
  s.forL (s.clones.flatMap (fun g => maskList g.2 64)) (fun n t => if t.siteState n = Site.TRIPPED then t.leaveStream n else t)

/-- What follows a change of site states in its beat. -/
def State.follow (s : State) : State := s.tripLeave.cloneStreams

end Sys2Proof.Machine
end

