-- ==== Sys2Proof/Machine/Clause.lean ====
section
/-! DEFINITION. Clauses (R231 to R253): staging, the commit request, prepare, decisions across devices, the full stop, splits, and the
end of every clause when the device leaves operation. -/

namespace Sys2Proof.Machine

/-! ### Opening and staging -/

/-- R235: slot `k` becomes OPEN for the host, or for the sequencer of a site. -/
def State.openSlot (s : State) (k : Nat) (owner : Option Nat) : State :=
  let w := match owner with
    | some n => 2 ^ 23 + n % 64 * 2 ^ 17 + Slot.OPEN
    | none => Slot.OPEN
  let s1 := (s.setReg (Reg.CL_SLOT_STAT.word k) (BitVec.ofNat 128 w)).setSlot k ClSlot.init
  match owner with
  | some _ => s1.setReg (Reg.CL_SET.word k) 0
  | none => s1

/-- R118: a tense item goes into the shadow bank at staging; the item it replaces is remembered. -/
def State.stageTense (s : State) (k : Nat) (x : Action) : State := match clWord x.addr with
  | .eeTwr e =>
    let t := wget x.value 75 70; let i := wget x.value 67 64
    (s.setSlot k { s.slot k with undo := (tenseKey e t i, s.tenseItem true e t i) :: (s.slot k).undo }).tenseWrite true e x.value
  | _ => s

/-- R236: stage one action in slot `k`; the second component tells whether this action was refused. -/
def State.stage (s : State) (k : Nat) (x : Action) : State × Bool :=
  let c := s.slot k
  if c.refused.isSome then (s, false)
  else
    let code := if 4096 ≤ c.acts.length ∨ 65536 ≤ s.poolUsed then some Cl.ACT_LIMIT else s.stageCode (s.slotOwner k) x
    match code with
    | some r => ((s.setSlot k { c with refused := some r }).set (Reg.CL_SLOT_STAT.FIRST_BAD k) c.acts.length, true)
    | none =>
      let s1 := s.stageTense k x
      ((s1.setSlot k { s1.slot k with acts := c.acts ++ [x] }).set (Reg.CL_SLOT_STAT.ACTIONS k) (c.acts.length + 1), false)

/-! ### The commit request (R237) -/

/-- What a commit request comes to: the clause is done with a code, the request is turned away with a log code, or it goes to prepare. -/
inductive Request where
  | done (code firstBad : Nat)
  | reject (log : Nat)
  | ok
deriving DecidableEq, Repr

/-- R32, R237: the lead in beats that a clause needs. -/
def State.clauseLead (s : State) (multi : Bool) : Nat := if multi then 512 + 64 * (s.get Reg.TB_STAT.HOP + 1) else 64

/-- R41: TB_STAT.LOCK reads LOCKED. -/
def State.locked (s : State) : Bool := s.get Reg.TB_STAT.LOCK == 2

/-- R237: the commit request of the clause in slot `k`. -/
def State.request (s : State) (k : Nat) : Request :=
  let c := s.slot k
  let multi := s.slotMulti k
  match c.refused with
  | some r => .done r (s.get (Reg.CL_SLOT_STAT.FIRST_BAD k))
  | none => match s.closeCode c.acts (multi && s.slotTag k == 0) with
    | some (r, b) => .done r b
    | none => match s.schedFault (s.slotFs k) (s.clauseLead multi) with
      | some l => .reject l
      | none => if multi ∧ (s.get Reg.TB_CTRL.ROLE = Role.ISOLATED ∨ !s.locked) then .reject Lc.SYNC_DOWN else .ok

/-- R237: a clause ends at its request with a code. -/
def State.refuseRequest (s : State) (k code bad : Nat) : State :=
  (s.set (Reg.CL_SLOT_STAT.FIRST_BAD k) bad).endClause k code

/-- R235: a clause enters PREPARING. -/
def State.beginPrepare (s : State) (k : Nat) : State := s.set (Reg.CL_SLOT_STAT.STATE k) Slot.PREPARING

/-! ### Splits (R246, R250) -/

/-- R246, R250: the report of a split, with the hold of the named sites. -/
def State.splitReport (s : State) (k tag fs : Nat) (sites : List Nat) : State :=
  let s1 := ((s.set Reg.CL_STAT.SPLIT 1).set Reg.CL_STAT.SPLIT_TAG tag).inc Reg.CL_CNT.SPLIT
  let s2 := (s1.alert Alert.CLAUSE).log Src.CL Lc.CLAUSE_SPLIT (clauseDetail k tag fs) 2
  if s2.flag Reg.CL_CFG.SPLIT_HOLD then
    s2.forL sites (fun n t => if t.siteState n = Site.RUNNING ∨ t.siteState n = Site.HELD then t.hold n Cause.HOST else t)
  else s2

/-- R246: a clause that has ended turns out split: its result changes while a host slot still holds it in DONE. -/
def State.watchSplit (s : State) (w : Watch) : State :=
  let s1 := if w.mine then s.set (Reg.CL_SLOT_STAT.RESULT w.slot) Cl.SPLIT else s
  let s2 := s1.log Src.CL (Lc.clause Cl.SPLIT) (clauseDetail w.slot w.tag (if w.mine then s.get (Reg.CL_SLOT_STAT.FIRST_BAD w.slot) else 0)) 2
  s2.splitReport w.slot w.tag w.fullStop w.sites

/-! ### Prepare (R238, R245) -/

/-- R238 check 2: an action names a word of a TRIPPED site, or a CH, EE or TM word of a channel with a trip latched. -/
def State.actTripped (s : State) (a : Nat) : Bool :=
  (s.wordSite a).any (fun n => s.siteState n == Site.TRIPPED)
  || (match clWord a with
      | .ch c _ => s.flag (Reg.CH_GSTAT.TRIPPED c)
      | .eeCfg e | .eeTwr e | .tm e _ => s.servesAny e (fun c => s.flag (Reg.CH_GSTAT.TRIPPED c))
      | _ => false)

/-- R119: the tenses that a clause touches, by engine and number. -/
def touchedTenses (acts : List Action) : List (Nat × Nat) :=
  (acts.filterMap (fun x => match clWord x.addr with
    | .eeTwr e => some (e, wget x.value 75 70)
    | _ => none)).eraseDups

/-- R119: the stream that an engine's channel takes its vectors from. -/
def State.streamOfEngine (s : State) (e : Nat) : Option Nat := ((s.chanOfEngine e).bind s.chanSite).map s.streamOf

/-- R238 check 5: the tenses a clause touches, as they will stand after it. -/
def State.tenseCode (s : State) (acts : List Action) : Option Nat :=
  let ts := touchedTenses acts
  let t := s.forL acts (fun x u => match clWord x.addr with
    | .eeTwr e => u.tenseWrite false e x.value
    | _ => u)
  if ts.any (fun p => !(t.tense false p.1 p.2).valid) then some Cl.TENSE_ORDER
  else if ts.any (fun p => match t.streamOfEngine p.1 with
      | none => false
      | some x =>
        let es := t.timingEngines x
        es.contains p.1 && es.any (fun e => (t.tense false e p.2).period != (t.tense false p.1 p.2).period)) then some Cl.TENSE_PERIOD
  else none

/-- R238: the checks of prepare, in their order. -/
def State.prepareCode (s : State) (k : Nat) : Option Nat :=
  let acts := (s.slot k).acts
  let others := (List.range 16).filter (fun j => j != k)
  if acts.any (fun x => s.actState x.addr x.value x.mask (s.actWord x.addr x.value x.mask)) then some Cl.STATE
  else if acts.any (fun x => s.actTripped x.addr) then some Cl.TRIPPED
  else if others.any (fun j => s.slotState j == Slot.PREPARED && (s.slot j).acts.any (fun y => acts.any (fun x => x.addr == y.addr))) then
    some Cl.CONFLICT
  else if s.pendActs.any (fun p => acts.any (fun x => x.addr == p.act.addr)) then some Cl.WORD_PENDING
  else match s.tenseCode acts with
    | some r => some r
    | none =>
      if s.slotMulti k ∧ others.any (fun j => (s.slotState j == Slot.PREPARING || s.slotState j == Slot.PREPARED) && s.slotMulti j
          && s.slotTag j == s.slotTag k) then some Cl.TAG_DUP
      else if s.slotMulti k ∧ s.get Reg.TB_CTRL.ROLE = Role.ROOT ∧ 4 ≤ (others.filter (fun j => s.slotState j == Slot.PREPARED && s.slotMulti j
          && decide (s.slotFs j < s.slotFs k + 256) && decide (s.slotFs k < s.slotFs j + 256))).length then some Cl.SYNC_FULL
      else none

/-- The watch on the clause of slot `k` as it ends before its full stop. (DEDUCED, assumption 79.) -/
def State.watchOf (s : State) (k : Nat) (dec : Option Bool) (refused split : Bool) : Watch :=
  ⟨k, s.slotTag k, s.slotFs k, dec, refused, refused, s.now, split, (s.slotOwner k).isNone, s.namedSites (s.slot k).acts⟩

/-- R238, R245, R247: prepare of the clause in slot `k` completes in the present beat. (DESIGN CHOICE, assumption 80.) -/
def State.prepareComplete (s : State) (k : Nat) : State :=
  if s.slotState k ≠ Slot.PREPARING then s
  else
    let multi := s.slotMulti k
    let s0 := if multi ∧ s.get Reg.TB_CTRL.ROLE = Role.ROOT then { s with rootQ := s.rootQ ++ [⟨s.slotTag k, s.slotFs k, none⟩] } else s
    let s1 := (s0.set (Reg.CL_SLOT_STAT.PREP_BEAT k) (s.now % 2 ^ 32)).setSlot k { s.slot k with prep := s.now }
    match s1.prepareCode k with
    | some r =>
      let dec := (s.slot k).dec
      let w := s1.watchOf k dec true (dec == some true)
      let s2 := s1.endClause k r
      if !multi then s2
      else
        let s3 := { s2 with watches := s2.watches ++ [w] }
        if dec = some true then s3.watchSplit w else s3
    | none =>
      let s2 := s1.set (Reg.CL_SLOT_STAT.STATE k) Slot.PREPARED
      if !multi then
        ((s2.set (Reg.CL_SLOT_STAT.DEC_BEAT k) (s.now % 2 ^ 32)).setSlot k { s1.slot k with dec := some true }).tellOwner k Cl.OK
      else match (s.slot k).dec with
        | none => s2
        | some true => s2.tellOwner k Cl.OK
        | some false =>
          let w := s2.watchOf k (some false) false (s.slot k).split
          let s3 := s2.endClause k (if (s.slot k).split then Cl.SPLIT else Cl.ABORTED)
          { s3 with watches := s3.watches ++ [w] }

/-! ### Decisions (R244, R246) -/

/-- R246: a decision frame for the clause that slot `k` holds in PREPARING or PREPARED. -/
def State.decideSlot (s : State) (k : Nat) (commit : Bool) : State :=
  let c := s.slot k
  match c.dec with
  | some d =>
    if d = commit ∨ c.split then s
    else (s.setSlot k { c with split := true }).splitReport k (s.slotTag k) (s.slotFs k) (s.namedSites c.acts)
  | none =>
    let s1 := (s.setSlot k { c with dec := some commit }).set (Reg.CL_SLOT_STAT.DEC_BEAT k) (s.now % 2 ^ 32)
    if s.slotState k ≠ Slot.PREPARED then s1
    else if commit then s1.tellOwner k Cl.OK
    else
      let w := s1.watchOf k (some false) false false
      let s2 := s1.endClause k Cl.ABORTED
      { s2 with watches := s2.watches ++ [w] }

/-- R246: a decision frame for a clause that has ended and is still watched. (DEDUCED, assumption 79.) -/
def State.decideWatch (s : State) (w : Watch) (commit : Bool) : State :=
  let put := fun (w' : Watch) (t : State) => { t with watches := t.watches.map (fun v => if v = w then w' else v) }
  match w.dec with
  | some d => if d = commit ∨ w.split then s else (put { w with split := true } s).watchSplit w
  | none =>
    if w.refused ∧ commit then (put { w with dec := some commit, split := true } s).watchSplit w
    else put { w with dec := some commit } s

/-- R244, R246: a COMMIT or ABORT frame captured intact while LOCKED, by its tag and beat[23:0] of the full stop. -/
def State.decision (s : State) (commit : Bool) (tag b24 : Nat) : State :=
  let mine := (List.range 16).filter (fun k => (s.slotState k == Slot.PREPARING || s.slotState k == Slot.PREPARED) && s.slotMulti k
    && s.slotTag k == tag && s.slotFs k % 2 ^ 24 == b24 % 2 ^ 24)
  let old := s.watches.filter (fun w => w.tag == tag && w.fullStop % 2 ^ 24 == b24 % 2 ^ 24 && decide (s.now ≤ w.fullStop))
  (s.forL mine (fun k t => t.decideSlot k commit)).forL old (fun w t => t.decideWatch w commit)

/-- R246: no intact decision by the deadline: the clause is aborted and split. -/
def State.deadline (s : State) (k : Nat) : State :=
  let c := s.slot k
  if s.slotState k = Slot.PREPARED ∧ s.slotMulti k ∧ c.dec.isNone ∧ s.slotFs k ≤ s.now + 64 then
    (s.endClause k Cl.SPLIT).splitReport k (s.slotTag k) (s.slotFs k) (s.namedSites c.acts)
  else s

/-! ### The full stop (R240) -/

/-- R166: the site receives vectors from a PLAYING stream. -/
def State.inPlay (s : State) (n : Nat) : Bool :=
  s.siteState n == Site.RUNNING && s.flag (Reg.SO_SITE_STAT.IN_STREAM n) && s.streamState (s.streamOf n) == Str.PLAYING

/-- R166: the shadow copy takes the CL fields of an action whose application waits for a frame boundary. -/
def State.shadowAction (s : State) (x : Action) : State :=
  let m := x.mask &&& clStored x.addr
  s.setShadow x.addr ((s.shadowReg x.addr &&& ~~~m) ||| (x.value &&& m))

/-- R166, R240: the clause of slot `k` commits: actions on words of sites in play wait for their boundary, every other applies now. -/
def State.commitSlot (s : State) (k : Nat) : State :=
  let c := s.slot k
  let waits := fun (x : Action) => (s.wordSite x.addr).any (fun n => s.inPlay n)
  let later := c.acts.filter waits
  let pend := later.map (fun x =>
    let n := (s.wordSite x.addr).getD 0
    (⟨n, s.streamOf n, s.slotFs k, c.prep, false, k, x⟩ : PendAct))
  let s1 := s.applyActions (c.acts.filter (fun x => !waits x))
  let s2 := ({ s1 with pendActs := s1.pendActs ++ pend }).forL later (fun x t => t.shadowAction x)
  (s2.setSlot k { c with undo := [] }).endClause k (if c.split then Cl.SPLIT else Cl.OK)

/-- The lease of every region and the PENDING bit of every site, brought up to date after a commit or a boundary. -/
def State.settle (s : State) : State := s.refreshLeases.refreshPending

/-- R240: every clause in PREPARED whose full stop has come commits, a multi-device clause only with a COMMIT decision. -/
def State.fullStops (s : State) : State :=
  let due := (List.range 16).filter (fun k => s.slotState k == Slot.PREPARED && decide (s.slotFs k ≤ s.now) && (s.slot k).dec == some true)
  let s1 := s.forL due (fun k t => t.commitSlot k)
  ({ s1 with
      watches := s1.watches.filter (fun w => w.veto || decide (s.now < w.fullStop))
      rootQ := s1.rootQ.filter (fun r => decide (s.now < r.fullStop)) }).settle

/-- R245: the veto of slot `k`'s refused clause ends at its full stop. -/
def State.vetoEnd (s : State) (k : Nat) : State :=
  { s with watches := s.watches.filter (fun w => !(w.veto && w.slot == k && decide (w.fullStop ≤ s.now))) }

/-- R245: the device drives VETO_N low: some clause was refused at prepare in an earlier beat. -/
def State.vetoOut (s : State) : Bool := s.watches.any (fun w => w.veto && decide (w.since < s.now))

/-- R245, R253: the lowest tag this device vetoes, or 0. -/
def State.vetoTag (s : State) : Nat :=
  match (s.watches.filter (fun w => w.veto && decide (w.since < s.now))).map Watch.tag with
  | [] => 0
  | t :: ts => ts.foldl min t

/-! ### Host commands (R235) -/

/-- A command or a staging write of the host for slot `s` that R235 does not allow. -/
def State.clReject (s : State) (port : Port) (addr k : Nat) (code : Nat := Lc.STATE_REJECT) : State := s.reject port addr Src.CL code k

/-- R235: the slot is owned by the host and in the given state. -/
def State.hostSlot (s : State) (k st : Nat) : Bool := (s.slotOwner k).isNone && s.slotState k == st

/-- R237: the host's COMMIT. -/
def State.hostCommit (s : State) (port : Port) (k : Nat) : State :=
  if !s.hostSlot k Slot.OPEN then s.clReject port (Reg.CL_CMD.word k) k
  else match s.request k with
    | .done r b => s.refuseRequest k r b
    | .reject l => s.clReject port (Reg.CL_CMD.word k) k l
    | .ok => s.beginPrepare k

/-- R235: the host's FREE; a watch on the clause no longer changes the slot's result. -/
def State.hostFree (s : State) (port : Port) (k : Nat) : State :=
  if !s.hostSlot k Slot.DONE then s.clReject port (Reg.CL_CMD.word k) k
  else { s.freeSlot k with watches := s.watches.map (fun w => if w.slot = k then { w with mine := false } else w) }

/-- R235, R244: a write of CL_SET_s. -/
def State.clSetWrite (s : State) (port : Port) (k : Nat) (w : Word) : State :=
  if !s.hostSlot k Slot.OPEN ∨ ((Reg.CL_SET.MULTI k).of w = 1 ∧ (Reg.CL_SET.TAG k).of w = 0) then s.clReject port (Reg.CL_SET.word k) k
  else s.setReg (Reg.CL_SET.word k) (w &&& accMask .rw (Reg.CL_SET.word k))

/-- R236: a write of CL_ADDR_s stages an action with the value and mask last written. -/
def State.clAddrWrite (s : State) (port : Port) (k : Nat) (w : Word) : State :=
  if !s.hostSlot k Slot.OPEN then s.clReject port (Reg.CL_ADDR.word k) k
  else
    let r := s.stage k ⟨(Reg.CL_ADDR.WORD k).of w, s.reg (Reg.CL_VAL.word k), s.reg (Reg.CL_MASK.word k)⟩
    if r.2 then r.1.clReject port (Reg.CL_ADDR.word k) k else r.1

/-! ### Leaving operation (R243) and reset (R253) -/

/-- R243: a pending action is discarded: the shadow copies return to the active ones. -/
def State.dropPend (s : State) (p : PendAct) : State := match clWord p.act.addr with
  | .eeTwr e =>
    let t := wget p.act.value 75 70; let i := wget p.act.value 67 64
    s.setItem true e t i (s.tenseItem false e t i)
  | _ => s.setShadow p.act.addr (s.reg p.act.addr)

/-- R243: every clause that is not DONE ends with CL_LOST and every pending action is discarded. -/
def State.loseClauses (s : State) : State :=
  let live := (List.range 16).filter (fun k => [Slot.OPEN, Slot.PREPARING, Slot.PREPARED].contains (s.slotState k))
  let s1 := s.forL live (fun k t => t.endClause k Cl.LOST)
  let s2 := s1.forN 64 (fun n t => if (t.seq n).clause.isSome then t.setOpen n none false else t)
  let s3 := { s2.forL s2.pendActs (fun p t => t.dropPend p) with pendActs := [], watches := [], rootQ := [] }
  s3.refreshPending

end Sys2Proof.Machine
end

