-- ==== Sys2Proof/Machine/Clauses.lean ====
section
/-! DEFINITION. The rows of clauses (R231 to R253): the host's slot commands and staging words, and the events of prepare, decision and
full stop. -/

namespace Sys2Proof.Machine

/-- R235: a host write of a slot's words. -/
def State.clHost (s : State) (port : Port) (addr k : Nat) (run : State → State) : State := s.host port addr Src.CL k run

/-- R235: OPEN. -/
def State.hostOpen (s : State) (port : Port) (k : Nat) : State :=
  if s.hostSlot k Slot.FREE then s.openSlot k none else s.clReject port (Reg.CL_CMD.word k) k
def execClCmdOpen (port : Port) (k : Fin 16) (s : State) : Out := .next (s.clHost port (Reg.CL_CMD.word k) k (fun t => t.hostOpen port k))

/-- R237: COMMIT. -/
def execClCmdCommit (port : Port) (k : Fin 16) (s : State) : Out := .next (s.clHost port (Reg.CL_CMD.word k) k (fun t => t.hostCommit port k))

/-- R235, R242: DISCARD, in OPEN alone. -/
def State.hostDiscard (s : State) (port : Port) (k : Nat) : State :=
  if s.hostSlot k Slot.OPEN then s.endClause k Cl.DISCARDED else s.clReject port (Reg.CL_CMD.word k) k
def execClCmdDiscard (port : Port) (k : Fin 16) (s : State) : Out := .next (s.clHost port (Reg.CL_CMD.word k) k (fun t => t.hostDiscard port k))

/-- R235: FREE. -/
def execClCmdFree (port : Port) (k : Fin 16) (s : State) : Out := .next (s.clHost port (Reg.CL_CMD.word k) k (fun t => t.hostFree port k))

/-- R235, R244: a write of CL_SET_s. -/
def execClSetWrite (port : Port) (k : Fin 16) (w : Word) (s : State) : Out :=
  .next (s.clHost port (Reg.CL_SET.word k) k (fun t => t.clSetWrite port k w))

/-- R236: a write of CL_ADDR_s. -/
def execClAddrWrite (port : Port) (k : Fin 16) (w : Word) (s : State) : Out :=
  .next (s.clHost port (Reg.CL_ADDR.word k) k (fun t => t.clAddrWrite port k w))

/-- R238: PREPARE_COMPLETE. -/
def execPrepareComplete (k : Fin 16) (s : State) : Out := .next (if s.slotState k = Slot.PREPARING then (s.prepareComplete k).follow else s)

/-- R240: FULL_STOP. -/
def execFullStop (s : State) : Out := .next s.fullStops.follow

/-- R246: DECISION_DEADLINE. -/
def execDecisionDeadline (k : Fin 16) (s : State) : Out := .next (s.deadline k).follow

/-- R245: VETO_END. -/
def execVetoEnd (k : Fin 16) (s : State) : Out := .next (s.vetoEnd k)

end Sys2Proof.Machine
end

