-- ==== Sys2Proof/Machine/Guards.lean ====
section
/-! DEFINITION. The rows of guard comparators and contact checks (R332 to R353): excursions, the filter, clears and self-checks. -/

namespace Sys2Proof.Machine

/-- R338, R345: GUARD_TRIP: an excursion caught at a tick of this beat; of a supply, comparator 0 is IH and 1 IL. -/
def execGuardTrip (dps : Bool) (u : Fin 1024) (cmp : Fin 6) (tick : BitVec 16) (s : State) : Out :=
  .next (if dps then (if u.val < 64 then s.dpsGuardTrip u cmp tick.toNat else s) else s.guardTrip u cmp tick.toNat).follow

/-- R337: BLANK_END over an excursion that still lasts. A supply's guards have no blank. (DEDUCED, assumption 75.) -/
def execBlankEnd (dps : Bool) (u : Fin 1024) (cmp : Fin 6) (s : State) : Out := .next (if dps then s else (s.blankEnd u cmp).follow)

/-- R340: FILTER_SAMPLE with the raw comparators: bits 0 to 5 as R333, 6 CMP_HI and 7 CMP_LO; of a supply, IH, IL, NEGV and SENSE. -/
def execFilterSample (dps : Bool) (u : Fin 1024) (raw : BitVec 8) (s : State) : Out :=
  .next (if dps then (if u.val < 64 then s.dpsFilterSample u raw.toNat else s) else s.filterSample u raw.toNat).follow

/-- R343: a host command of GD_CMD. -/
def State.gdHost (s : State) (port : Port) (idx : Nat) (run : State → State) : Out :=
  .next (s.host port Reg.GD_CMD.word Src.GD idx run).follow

/-- R343: CLEAR_CH: the whole compound. -/
def execClearCh (port : Port) (c : Fin 1024) (s : State) : Out := s.gdHost port c (fun t => t.clearCmd port (t.compChans c) [] c)
/-- R343: CLEAR_DPS: the whole gang. -/
def execClearDps (port : Port) (d : Fin 64) (s : State) : Out := s.gdHost port d (fun t => t.clearCmd port [] (t.gangChans d) d)
/-- R343: CLEAR_SITE: every channel and supply of the site. -/
def execClearSite (port : Port) (n : Fin 64) (s : State) : Out := s.gdHost port n (fun t => t.clearCmd port (t.siteChans n) (t.siteSupplies n) n)
/-- R343: CLEAR_ALL: whatever is clearable. -/
def execClearAll (port : Port) (s : State) : Out := s.gdHost port 0 (fun t => t.clearWhatCan (List.range 1024) (List.range 64))

/-- R346: SELFCHECK of one channel: 400 beats. -/
def State.selfcheck (s : State) (port : Port) (c : Nat) : State :=
  if s.selfcheckOk c then (s.setGd c { s.gd c with selfDue := some (s.now + 400) }).set (Reg.CH_GSTAT.CHECKING c) 1
  else s.reject port Reg.GD_CMD.word Src.GD Lc.STATE_REJECT c
def execSelfcheck (port : Port) (c : Fin 1024) (s : State) : Out := s.gdHost port c (fun t => t.selfcheck port c)
/-- R346: SELFCHECK_DONE: which of the eight comparators matched their ties. -/
def execSelfcheckDone (c : Fin 1024) (good : BitVec 8) (s : State) : Out := .next (s.selfcheckDone c good.toNat).follow

/-- R349, R351: CONTACT_RUN, in CONTACT with no check in progress. -/
def State.contactRun (s : State) (port : Port) : State :=
  if s.mode = Mode.CONTACT ∧ s.contact.isNone then s.contactStart else s.reject port Reg.GD_CMD.word Src.GD
def execContactRun (port : Port) (s : State) : Out := s.gdHost port 0 (fun t => t.contactRun port)
/-- R349: CONTACT_CHECK_DONE. -/
def execContactCheckDone (obs : List ContactObs) (s : State) : Out := .next (s.contactDone obs).follow

end Sys2Proof.Machine
end

