-- ==== Sys2Proof/Machine/Modules.lean ====
section
/-! DEFINITION. The module port and discovery (R425 to R438): transfers, orientation reads, the checks of an identity record and the limits
table built from the records that read OK. -/

namespace Sys2Proof.Machine

/-! ### An identity record (R429 to R431) -/

/-- The bytes of a record by offset. -/
def imgOf (bs : List Byte) : Img := fun i => ((bs[i]?).getD 0).toNat

/-- A check of a record: its status code and the offset it points at. -/
def mchk (ok : Bool) (status off : Nat) : Option (Nat × Nat) := if ok then none else some (status, off)

/-- The first check of a list that fails. -/
def firstBad (l : List (Option (Nat × Nat))) : Option (Nat × Nat) := l.findSome? id

/-! R431: status codes. -/
def Mod.OK : Nat := 1
def Mod.ABSENT : Nat := 2
def Mod.MAGIC : Nat := 3
def Mod.VERSION : Nat := 4
def Mod.LENGTH : Nat := 5
def Mod.CRC : Nat := 6
def Mod.FORMAT : Nat := 7
def Mod.RANGE : Nat := 8
def Mod.DUPLICATE : Nat := 9
def Mod.CONFLICT : Nat := 0x0A

/-- R430: the module TYPE, entry size and need of a section type. -/
def midxSect (typ : Nat) : Option (Nat × Nat × Bool) :=
  match typ with
  | 1 => some (1, 16, true) | 2 => some (1, 16, true) | 3 => some (1, 12, true) | 4 => some (1, 16, false) | 5 => some (1, 8, false)
  | 0x10 => some (2, 12, true) | 0x20 => some (3, 16, true) | 0x30 => some (4, 8, true)
  | _ => none

/-- R429: the length of a record can be read. -/
def lengthOk (g : Img) : Bool := 64 ≤ u32 g 8 && u32 g 8 ≤ 4096 && u32 g 8 % 4 == 0

/-- R431: VERSION and LENGTH, from the header. (DEDUCED, assumption 106.) -/
def headBad (g : Img) : Option (Nat × Nat) := firstBad [
  mchk (u16 g 4 == 0x0100) Mod.VERSION 4, mchk (1 ≤ g 6 && g 6 ≤ 4) Mod.VERSION 6, mchk (lengthOk g) Mod.LENGTH 8]

/-- R430: `fuel` sections from `p`, for a module of type `m`, ending by `e`. -/
def midxSects (g : Img) (m e : Nat) : Nat → Nat → List Sect → List Sect × Option (Nat × Nat)
  | 0, p, acc => (acc.reverse, mchk (zeros g p (e - p)) Mod.FORMAT (firstNonZero g p (e - p)))
  | k + 1, p, acc =>
    if e < p + 8 then (acc.reverse, some (Mod.FORMAT, p))
    else
      let typ := u16 g p; let cnt := u16 g (p + 2); let blen := u32 g (p + 4)
      let bad := firstBad [
        mchk ((midxSect typ).any (fun q => q.1 == m)) Mod.FORMAT p,
        mchk (!acc.any (fun q => q.typ == typ)) Mod.FORMAT p,
        mchk (typ != 1 || cnt == 1) Mod.FORMAT (p + 2),
        mchk (blen == cnt * ((midxSect typ).map (fun q => q.2.1)).getD 0) Mod.FORMAT (p + 4),
        mchk (p + 8 + blen ≤ e) Mod.FORMAT (p + 4)]
      match bad with
      | some er => (acc.reverse, some er)
      | none => midxSects g m e k (p + 8 + blen) (⟨typ, cnt, p + 8, p⟩ :: acc)

/-- The sections of a record, and the first breach of R430. -/
def recSects (g : Img) : List Sect × Option (Nat × Nat) := midxSects g (g 6) (u32 g 8 - 4) (u16 g 0x14) 0x20 []

/-- The offsets of the entries of a section type. -/
def recEntries (g : Img) (typ : Nat) : List Nat :=
  match (recSects g).1.find? (fun q => q.typ == typ) with
  | some q => (q.entries (((midxSect typ).map (fun r => r.2.1)).getD 0)).map Prod.snd
  | none => []

/-- A signed 16-bit field. -/
def s16 (g : Img) (o : Nat) : Int := signedOf 16 (u16 g o)

/-- R431 FORMAT: sections, required ones, reserved fields and flags. (DEDUCED, assumption 19.) -/
def formatBad (g : Img) : Option (Nat × Nat) := firstBad (
  [mchk (g 7 == 0) Mod.FORMAT 7, mchk (zeros g 0x16 10) Mod.FORMAT (firstNonZero g 0x16 10), (recSects g).2] ++
  [1, 2, 3, 0x10, 0x20, 0x30].map (fun t => mchk (!(midxSect t).any (fun q => q.1 == g 6) || (recSects g).1.any (fun q => q.typ == t)) Mod.FORMAT 0x14) ++
  (recEntries g 1).map (fun o => mchk (zeros g (o + 8) 8) Mod.FORMAT (o + 8)) ++
  (recEntries g 2).map (fun o => mchk (zeros g (o + 6) 2) Mod.FORMAT (o + 6)) ++
  (recEntries g 4).map (fun o => firstBad [mchk (g (o + 1) < 4) Mod.FORMAT (o + 1), mchk (zeros g (o + 14) 2) Mod.FORMAT (o + 14)]) ++
  (recEntries g 5).map (fun o => firstBad [mchk (g (o + 1) < 4) Mod.FORMAT (o + 1), mchk (zeros g (o + 4) 4) Mod.FORMAT (o + 4)]) ++
  (recEntries g 0x10).map (fun o => mchk (zeros g (o + 2) 2) Mod.FORMAT (o + 2)) ++
  (recEntries g 0x20).map (fun o => firstBad [mchk (zeros g (o + 2) 2) Mod.FORMAT (o + 2), mchk (zeros g (o + 6) 2) Mod.FORMAT (o + 6), mchk (zeros g (o + 12) 4) Mod.FORMAT (o + 12)]) ++
  (recEntries g 0x30).map (fun o => mchk (zeros g (o + 2) 2) Mod.FORMAT (o + 2)))

/-- R431: the entries of a section are checked in their order, each with the entries before it. -/
def scanBad (f : List Nat → Nat → Option (Nat × Nat)) : List Nat → List Nat → Option (Nat × Nat)
  | _, [] => none
  | pre, o :: os => match f pre o with
    | some e => some e
    | none => scanBad f (pre ++ [o]) os

/-- R431: needles of one DIE and PAD share VMAX, VMIN and IMAX: a needle against the first that is listed on its pad. -/
def padBad (g : Img) (pre : List Nat) (o : Nat) : Option (Nat × Nat) :=
  match pre.find? (fun x => u16 g (x + 2) == u16 g (o + 2) && u16 g (x + 4) == u16 g (o + 4)) with
  | none => none
  | some x => firstBad [mchk (u16 g (x + 8) == u16 g (o + 8)) Mod.RANGE (o + 8), mchk (u16 g (x + 10) == u16 g (o + 10)) Mod.RANGE (o + 10),
      mchk (u32 g (x + 12) == u32 g (o + 12)) Mod.RANGE (o + 12)]

/-- R431 RANGE. (DEDUCED, assumption 107; DEDUCED, assumption 137.) -/
def rangeBad (g : Img) : Option (Nat × Nat) :=
  let nd := recEntries g 2
  let once := fun (key : Nat → Nat) (pre : List Nat) (o : Nat) => mchk (!pre.any (fun x => key x == key o)) Mod.RANGE o
  firstBad [
    scanBad (fun pre o => firstBad [once (u16 g) pre o, mchk (decide (s16 g (o + 8) ≤ 6500)) Mod.RANGE (o + 8),
      mchk (decide (-1500 ≤ s16 g (o + 10))) Mod.RANGE (o + 10), mchk (decide (s16 g (o + 10) ≤ s16 g (o + 8))) Mod.RANGE (o + 10), padBad g pre o]) [] nd,
    scanBad (fun pre o => firstBad [mchk (u16 g o < 1024) Mod.RANGE o, once (u16 g) pre o,
      mchk (nd.any (fun x => u16 g x == u16 g (o + 2))) Mod.RANGE (o + 2)]) [] (recEntries g 3),
    scanBad (fun pre o => firstBad [mchk (g o < 64) Mod.RANGE o, once g pre o, mchk (u16 g (o + 2) ≤ 7000) Mod.RANGE (o + 2)]) [] (recEntries g 4),
    scanBad (fun pre o => firstBad [mchk (g o < 32) Mod.RANGE o, once g pre o]) [] (recEntries g 5),
    scanBad (fun pre o => firstBad [mchk (u16 g o < 1024) Mod.RANGE o, once (u16 g) pre o]) [] (recEntries g 0x10),
    scanBad (fun pre o => firstBad [mchk (g o < 64) Mod.RANGE o, mchk (1 ≤ g (o + 1) && g o % 16 + g (o + 1) ≤ 16) Mod.RANGE (o + 1),
      mchk (pre.all (fun x => decide (g x + g (x + 1) ≤ g o) || decide (g o + g (o + 1) ≤ g x))) Mod.RANGE o]) [] (recEntries g 0x20)]

/-- R431: the checks of a whole record, in their order. -/
def recordBad (bs : List Byte) : Option (Nat × Nat) :=
  let g := imgOf bs
  match headBad g with
  | some e => some e
  | none => match mchk (imgCrc g 0 (u32 g 8 - 4) == u32 g (u32 g 8 - 4)) Mod.CRC (u32 g 8 - 4) with
  | some e => some e
  | none => match formatBad g with
  | some e => some e
  | none => rangeBad g

/-! ### Discovery (R432 to R434) -/

/-- R436: no limits table is in force: the tables, the tile data and the trace terms return to their reset values. (DEDUCED, assumption 108.) -/
def State.clearLimits (s : State) : State :=
  let s1 := s.forN 1024 (fun c t => t.setReg (Reg.MP_LIMCH.word c) (resetWord (Reg.MP_LIMCH.word c)))
  let s2 := s1.forN 64 (fun d t => t.setReg (Reg.MP_LIMDPS.word d) (resetWord (Reg.MP_LIMDPS.word d)))
  let s3 := s2.forN 1056 (fun e t => (t.set (Reg.EE_DESKEW.TRACE_DRV e) 0).set (Reg.EE_DESKEW.TRACE_RCV e) 0)
  { (s3.setReg Reg.MP_TILE.word 0).set Reg.MP_STAT.LIM_VALID 0 with pads := [], boosts := [], tileDps := [], cold := [] }

/-- R434: discovery starts. -/
def State.discover (s : State) : State :=
  let s1 := (s.clearLimits.set Reg.MP_STAT.BUSY 1).forN 8 (fun k t => t.setReg (Reg.MP_MOD.word k) 0)
  { s1 with mpOp := some (.discover ((List.range 8).filter (fun k => bitOf (s.get Reg.MP_CTRL.SEL_EN) k)) none []) }

/-- R466: DONE or XFER_DONE of the module port rises. -/
def State.mpDone (s : State) (f : Fld) : State := if s.flag f then s else (s.set f 1).intr Intr.MP_DONE

/-- R434: a discovery has ended with a result. -/
def State.discEnd (s : State) (result : Nat) : State :=
  let s1 := (((s.set Reg.MP_STAT.RESULT result).set Reg.MP_STAT.BUSY 0).set Reg.MP_STAT.DONE_BEAT s.now).inc Reg.MP_CNT.DISCOVERIES
  { s1 with mpOp := none }.mpDone Reg.MP_STAT.DONE

/-- R434, R438: a discovery is aborted. (DEDUCED, assumption 109.) -/
def State.discAbort (s : State) : State := match s.mpOp with
  | some (.discover _ _ _) => (s.set Reg.MP_STAT.LIM_VALID 0).discEnd 3
  | _ => s

/-- MP_MOD_k of a module whose header is `g`. -/
def State.showMod (s : State) (k status off : Nat) (rev : Bool) (g : Img) : State :=
  s.setReg (Reg.MP_MOD.word k) (BitVec.ofNat 128 ((u32 g 0x0C + 2 ^ 32 * u32 g 0x10) * 2 ^ 64 + u16 g 8 * 2 ^ 48 + g 6 * 2 ^ 40 + status * 2 ^ 32
    + off % 2 ^ 16 * 2 ^ 16 + b2n rev * 2 + 1))

/-- The four bytes "MIDX". -/
def isMidx (bs : List Byte) : Bool := bs.take 4 == [0x4D, 0x49, 0x44, 0x58]

/-- R432, R433: the orientation read of select `k` is done: the bytes on D1 and on D2. (DEDUCED, assumption 105.) -/
def State.orient (s : State) (k : Nat) (todo : List Nat) (mods : List (Nat × List Byte)) (d1 d2 : List Byte) : State :=
  let fin := fun (t : State) => { t with mpOp := some (.discover todo none mods) }
  let present := fun (t : State) (rev : Bool) (h : List Byte) =>
    let g := imgOf h
    if lengthOk g then { t.showMod k 0 0 rev g with mpOp := some (.discover (k :: todo) (some (h, rev)) mods) }
    else let e := (headBad g).getD (Mod.LENGTH, 8); fin (t.showMod k e.1 e.2 rev g)
  if isMidx d1 then present s false d1
  else if isMidx d2 then present ((s.inc Reg.MP_CNT.REVERSED).log Src.MP Lc.MOD_REVERSED (detail 0 k) 2) true d2
  else if (d1 ++ d2).all (· == 0) || (d1 ++ d2).all (· == 0xFF) then fin (s.set (Reg.MP_MOD.STATUS k) Mod.ABSENT)
  else fin ((s.set (Reg.MP_MOD.STATUS k) Mod.MAGIC).set (Reg.MP_MOD.PRESENT k) 1)

/-- R431, R434: the body of the record on select `k` is read. (DEDUCED, assumption 106.) -/
def State.body (s : State) (k : Nat) (todo : List Nat) (mods : List (Nat × List Byte)) (rev : Bool) (bs : List Byte) : State :=
  let g := imgOf bs
  let r := match recordBad bs with
    | some e => e
    | none => if mods.any (fun m => imgOf m.2 6 == g 6) then (Mod.DUPLICATE, 6) else (Mod.OK, 0)
  { s.showMod k r.1 r.2 rev g with mpOp := some (.discover todo none (if r.1 = Mod.OK then mods ++ [(k, bs)] else mods)) }

/-- `k` bytes of a list, 0 where it has none. -/
def padTo (k : Nat) (bs : List Byte) : List Byte := (List.range k).map (fun i => (bs[i]?).getD 0)

/-- R473: the cold-plate readings of a frame. (DEDUCED, assumption 110.) -/
def State.coldRead (s : State) (data : List Byte) : State :=
  let t := s.forL (s.cold.take 8).zipIdx (fun p u =>
    let (sensor, kind, scale) := p.1
    let raw := signedOf 32 (leNat (padTo 4 (data.drop (4 * p.2))))
    (((u.set (Reg.HK_COOL.SENSOR p.2) sensor).set (Reg.HK_COOL.KIND p.2) kind).set (Reg.HK_COOL.VALID p.2) 1).setS (Reg.HK_COOL.TEMP p.2)
      (roundAway (raw * scale) 65536))
  { t.set Reg.MP_STAT.BUSY 0 with mpOp := none }

/-- R428, R432 to R434, R437: a frame completes: what it carried, in the order sent. An orientation read carries the 32 bytes of D1 and then those of D2. (DEDUCED, assumption 105.) -/
def State.frameDone (s0 : State) (data : List Byte) : State :=
  let s := s0.inc Reg.MP_CNT.FRAMES
  match s0.mpOp with
  | some (.xfer w) =>
    let len := (Reg.MP_XFER.LEN).of w
    let s1 := if (Reg.MP_XFER.DIR).of w = 1 then s
      else s.forL (data.take len).zipIdx (fun p t => t.set ⟨Reg.MP_BUF.word (p.2 / 16), 8 * (p.2 % 16) + 7, 8 * (p.2 % 16)⟩ p.1.toNat)
    { s1.set Reg.MP_STAT.BUSY 0 with mpOp := none }.mpDone Reg.MP_STAT.XFER_DONE
  | some (.discover (k :: todo) none mods) => s.orient k todo mods (padTo 32 data) (padTo 32 (data.drop 32))
  | some (.discover (k :: todo) (some (h, rev)) mods) => s.body k todo mods rev (h ++ padTo (u32 (imgOf h) 8 - 32) data)
  | some .cold => s.coldRead data
  | _ => s0

/-! ### The limits table (R435) -/

/-- The record of a module type that read OK, with its select. -/
def modOf (mods : List (Nat × List Byte)) (typ : Nat) : Option (Nat × Img) :=
  (mods.find? (fun m => imgOf m.2 6 == typ)).map (fun m => (m.1, imgOf m.2))

/-- The entries of a section of a module that may be absent. -/
def optEntries (m : Option (Nat × Img)) (typ : Nat) : List Nat := match m with
  | some p => recEntries p.2 typ
  | none => []

/-- R435: the trace delays of a channel entry at `o` of the tile, with the interposer's. -/
def traces (tile : Img) (inter : Option (Nat × Img)) (o : Nat) : Nat × Nat :=
  let add := match inter with
    | some p => match (recEntries p.2 0x10).find? (fun x => u16 p.2 x == u16 tile o) with
      | some x => (u32 p.2 (x + 4), u32 p.2 (x + 8))
      | none => (0, 0)
    | none => (0, 0)
  (u32 tile (o + 4) + add.1, u32 tile (o + 8) + add.2)

/-- R435: the conflicts: the select charged and the offset. (DEDUCED, assumption 107.) -/
def conflicts (mods : List (Nat × List Byte)) : List (Nat × Nat) :=
  match modOf mods 1 with
  | none => []
  | some (kt, tile) =>
    let inter := modOf mods 2; let boost := modOf mods 3
    let far := (recEntries tile 3).filter (fun o => let t := traces tile inter o; decide (2 ^ 20 ≤ t.1) || decide (2 ^ 20 ≤ t.2))
    let ci := match inter with
      | some (k, g) =>
        let bad := (recEntries g 0x10).filter (fun x => !(recEntries tile 3).any (fun o => u16 tile o == u16 g x) || far.any (fun o => u16 tile o == u16 g x))
        if bad.isEmpty && far.isEmpty then [] else [(k, bad.headD 0)]
      | none => match far with
        | [] => []
        | o :: _ => [(kt, if 2 ^ 20 ≤ (traces tile inter o).1 then o + 4 else o + 8)]
    let cb := match boost with
      | some (k, g) => match (recEntries g 0x20).find? (fun x => (recEntries tile 4).any (fun o =>
          decide (g x ≤ tile o) && decide (tile o < g x + g (x + 1)) && !bitOf (tile (o + 1)) 0)) with
        | some x => [(k, x)]
        | none => []
      | none => []
    ci ++ cb

/-- R435: the limits table from the records that read OK. (DEDUCED, assumption 107; DEDUCED, assumption 108.) -/
def State.buildLimits (s : State) (mods : List (Nat × List Byte)) : State :=
  match modOf mods 1 with
  | none => s
  | some (_, tile) =>
    let inter := modOf mods 2; let boost := modOf mods 3
    let nd := recEntries tile 2
    let s1 := s.forL (recEntries tile 3) (fun o t =>
      let c := u16 tile o
      let tr := traces tile inter o
      let e := t.engineOf c
      match nd.find? (fun x => u16 tile x == u16 tile (o + 2)) with
      | none => t
      | some x => ((t.setReg (Reg.MP_LIMCH.word c) (BitVec.ofNat 128 (u16 tile x * 2 ^ 112 + tr.1 % 2 ^ 20 * 2 ^ 92 + tr.2 % 2 ^ 20 * 2 ^ 72
          + u32 tile (x + 12) * 2 ^ 32 + u16 tile (x + 8) * 2 ^ 16 + u16 tile (x + 10)))).set (Reg.EE_DESKEW.TRACE_DRV e) tr.1).set (Reg.EE_DESKEW.TRACE_RCV e) tr.2)
    let bs : List Boost := (optEntries boost 0x20).map (fun x => match boost with
      | some (_, g) => ⟨g x, g (x + 1), u32 g (x + 8), u16 g (x + 4)⟩
      | none => ⟨0, 0, 0, 0⟩)
    let s2 := s1.forL (recEntries tile 4) (fun o t =>
      let d := tile o; let vmax := u16 tile (o + 2); let imax := u32 tile (o + 4)
      let b := bs.find? (fun b => b.lead ≤ d && d < b.lead + b.size)
      t.setReg (Reg.MP_LIMDPS.word d) (BitVec.ofNat 128 (b2n b.isSome * 2 ^ 127 + tile (o + 1) / 2 % 2 * 2 ^ 121 + tile (o + 1) % 2 * 2 ^ 120
        + u16 tile (o + 8) * 2 ^ 104 + u16 tile (o + 10) * 2 ^ 88 + ((b.map Boost.imax).getD imax) * 2 ^ 32 + min vmax ((b.map Boost.vmax).getD vmax) * 2 ^ 16)))
    let tl := (recEntries tile 1).headD 0
    { s2.setReg Reg.MP_TILE.word (BitVec.ofNat 128 ((u32 tile 0x0C + 2 ^ 32 * u32 tile 0x10) * 2 ^ 64 + u32 tile (tl + 4) * 2 ^ 32 + u16 tile tl * 2 ^ 16 + u16 tile (tl + 2))) with
      boosts := bs
      pads := nd.foldl (fun m x => sset (fun _ => 2 ^ 64) m (u16 tile x) (u16 tile (x + 2) * 65536 + u16 tile (x + 4))) []
      tileDps := (recEntries tile 4).foldl (fun m o => sset (fun _ => (0, 0)) m (tile o) (u32 tile (o + 4), u16 tile (o + 2))) [] }

/-- R434, R435: discovery ends: conflicts, the result, the table when it is valid, and MOD_BAD of each module that is neither OK nor ABSENT. (DEDUCED, assumption 105.) -/
def State.discDone (s : State) : State := match s.mpOp with
  | some (.discover [] _ mods) =>
    let s1 := s.forL (conflicts mods) (fun p t => (t.set (Reg.MP_MOD.STATUS p.1) Mod.CONFLICT).set (Reg.MP_MOD.ERR_OFFSET p.1) p.2)
    let read := (List.range 8).filter (fun k => s1.get (Reg.MP_MOD.STATUS k) != 0)
    let bad := read.filter (fun k => s1.get (Reg.MP_MOD.STATUS k) != Mod.OK && s1.get (Reg.MP_MOD.STATUS k) != Mod.ABSENT)
    let tileOk := match modOf mods 1 with
      | some (k, _) => s1.get (Reg.MP_MOD.STATUS k) == Mod.OK
      | none => false
    let ok := tileOk && bad.isEmpty
    let s2 := if ok then (s1.buildLimits mods).set Reg.MP_STAT.LIM_VALID 1 else s1
    let s3 := match modOf mods 4 with
      | some (_, g) => { s2 with cold := (recEntries g 0x30).map (fun o => (g o, g (o + 1), u32 g (o + 4))) }
      | none => s2
    let s4 := s3.forL bad (fun k t => (t.inc Reg.MP_CNT.BAD).log Src.MP Lc.MOD_BAD (k * 2 ^ 8 + s1.get (Reg.MP_MOD.STATUS k)))
    s4.discEnd (if ok then 0 else if tileOk then 2 else 1)
  | _ => s

/-! ### Commands -/

/-- A command of MP_XFER is turned away. -/
def State.mpReject (s : State) (port : Port) : State := s.reject port Reg.MP_XFER.word Src.MP

/-- R428: MP_XFER with XFER. (DEDUCED, assumption 109.) -/
def State.mpXfer (s : State) (port : Port) (w : Word) : State :=
  if s.flag Reg.MP_STAT.BUSY ∨ s.mode = Mode.SHUTDOWN ∨ 4096 < (Reg.MP_XFER.LEN).of w then s.mpReject port
  else { s.set Reg.MP_STAT.BUSY 1 with mpOp := some (.xfer w) }

/-- R434: MP_XFER with DISCOVER. -/
def State.mpDiscover (s : State) (port : Port) : State :=
  if s.flag Reg.MP_STAT.BUSY ∨ s.mode ≠ Mode.DISCOVER then s.mpReject port else s.discover

/-- R438: MP_XFER with ABORT. (DEDUCED, assumption 109.) -/
def State.mpAbort (s : State) : State := match s.mpOp with
  | some (.xfer _) => { s.set Reg.MP_STAT.BUSY 0 with mpOp := none }
  | _ => s.discAbort

def execMpXferXfer (port : Port) (w : Word) (s : State) : Out := .next (s.host port Reg.MP_XFER.word Src.MP 0 (fun t => t.mpXfer port w))
def execMpXferDiscover (port : Port) (s : State) : Out := .next (s.host port Reg.MP_XFER.word Src.MP 0 (fun t => t.mpDiscover port))
def execMpXferAbort (port : Port) (s : State) : Out := .next (s.host port Reg.MP_XFER.word Src.MP 0 (fun t => t.mpAbort))
def execMpFrameDone (data : List Byte) (s : State) : Out := .next (s.frameDone data)
def execDiscoveryDone (s : State) : Out := .next s.discDone

end Sys2Proof.Machine
end

