-- ==== Sys2Proof/Machine/Sensors.lean ====
section
/-! DEFINITION. The readings of a housekeeping round and their checks (R469 to R474, R478, R479), which are class 2 arrivals of the evaluation
beat, and the sensor commands of the host. -/

namespace Sys2Proof.Machine

/-! ### Sensors and groups (R469) -/

/-- The sensors of a group. -/
def groupSensors (g : Nat) : List Nat := (List.range 28).filter (fun i => tsGroup i == g)

/-- A sensor beside its register. -/
def State.sen (s : State) (i : Nat) : HkSen := sget (fun _ => HkSen.init) s.hk.sens i
/-- Change it. -/
def State.setSen (s : State) (i : Nat) (k : HkSen) : State :=
  { s with hk := { s.hk with sens := sset (fun _ => HkSen.init) s.hk.sens i k } }

/-- R478: STATUS of a sensor. -/
def Ts.GOOD : Nat := 0
def Ts.FAILED : Nat := 1
def Ts.RETIRED : Nat := 2

/-- The status of a sensor. -/
def State.tsStatus (s : State) (i : Nat) : Nat := s.get (Reg.HK_TS.STATUS i)

/-- HK_RATE: the rate limit of a group in 0.1 °C/s. -/
def State.rateLimit (s : State) (g : Nat) : Nat := bitsOf (s.get Reg.HK_RATE.LIMIT) (8 * g) 8

/-! ### The conditions of R478 -/

/-- RANGE: beyond −40 °C or 150 °C, or a conversion error. -/
def rangeFails (r : Option Int) : Bool := match r with
  | some v => v < -4000 || 15000 < v
  | none => true

/-- The other good sensors of a sensor's group in a round: the sum and the number of their readings. -/
def State.otherGood (s : State) (temps : Nat → Option Int) (i : Nat) : Int × Nat :=
  let l := (groupSensors (tsGroup i)).filter (fun j => j != i && s.tsStatus j == Ts.GOOD && !rangeFails (temps j))
  (l.foldl (fun a j => a + (temps j).getD 0) 0, l.length)

/-- STUCK: the same raw reading for 10,000 rounds while the mean of the others moved by 1.00 °C or more. -/
def HkSen.stuck (k : HkSen) (others : Int × Nat) : Bool :=
  10000 ≤ k.same && 0 < others.2 && 0 < k.base.2
    && 100 * k.base.2 * others.2 ≤ (others.1 * k.base.2 - k.base.1 * others.2).natAbs

/-- DISAGREE in one round: more than 15.00 °C from the mean of the others; with one other good sensor, only the lower one. (DEDUCED, assumption 113.) -/
def disagrees (v : Int) (others : Int × Nat) : Bool :=
  0 < others.2 && 1500 * others.2 < (v * others.2 - others.1).natAbs && (others.2 != 1 || v < others.1)

/-- What a round tells of a sensor: its runs of equal and of disagreeing readings go on, begin or end. -/
def HkSen.take (k : HkSen) (r : Option Int) (others : Int × Nat) (beat idx : Nat) : HkSen :=
  let again := r.isSome && k.raw == r
  let apart := match r with
    | some v => !rangeFails r && disagrees v others
    | none => false
  { k with
    raw := r
    same := if again then k.same + 1 else 1
    sameFrom := if again then k.sameFrom else k.prev
    base := if again then k.base else others
    apart := if apart then k.apart + 1 else 0
    apartFrom := if k.apart = 0 then k.prev else k.apartFrom
    prev := if rangeFails r then k.prev else ⟨r.getD 0, beat, idx⟩ }

/-- The REASON of a sensor that a round finds failing, with the last good reading; `k` is as it was before the round and `t` after it. (DEDUCED, assumption 113; DEDUCED, assumption 114.) -/
def senFailure (k t : HkSen) (others : Int × Nat) : Option (Nat × GoodRd) :=
  if rangeFails t.raw then some (1, k.prev)
  else if t.stuck others then some (2, t.sameFrom)
  else if 3 ≤ t.apart then some (3, t.apartFrom)
  else none

/-- R478: the reading of one sensor is taken and judged. (DEDUCED, assumption 113.) -/
def State.senTake (s : State) (temps : Nat → Option Int) (others : Int × Nat) (beat idx i : Nat) : State :=
  let k := s.sen i
  let t := k.take (temps i) others beat idx
  let s1 := match temps i with
    | some v => s.setS (Reg.HK_TS.TEMP i) v
    | none => s
  match senFailure k t others with
  | none => s1.setSen i { t with met := false }
  | some (reason, good) =>
    if s.tsStatus i = Ts.GOOD then
      let s2 := ((s1.set (Reg.HK_TS.STATUS i) Ts.FAILED).set (Reg.HK_TS.REASON i) reason).setS (Reg.HK_TS.LAST_GOOD i) good.val
      let s3 := (s2.set (Reg.HK_TS.GOOD_BEAT i) good.beat).setSen i { t with met := true, goodIdx := good.idx }
      ((s3.log Src.HK Lc.SENSOR_FAIL (i * 2 ^ 32 + s3.get (Reg.HK_TS.TEMP i)) 2).set Reg.HK_STAT.SENSOR_FAIL 1).inc Reg.HK_CNT.FAILS |>.alert Alert.THERMAL
    else s1.setSen i { t with met := true }

/-! ### Values, rates and the throttling state (R471, R474, R479) -/

/-- The largest of a list, with the first place it stands at. -/
def hottest : List (Nat × Int) → Option (Nat × Int)
  | [] => none
  | p :: l => match hottest l with
    | none => some p
    | some q => if q.2 ≤ p.2 then some p else some q

/-- The readings of the good sensors among `l`. -/
def State.goodReadings (s : State) (l : List Nat) : List (Nat × Int) :=
  (l.filter (fun i => s.tsStatus i == Ts.GOOD)).map (fun i => (i, s.getS (Reg.HK_TS.TEMP i)))

/-- R479: the estimate of a failed sensor. -/
def State.estimate (s : State) (idx i : Nat) : Int :=
  let g := tsGroup i
  let first := s.getS (Reg.HK_TS.LAST_GOOD i) + roundAway (s.rateLimit g * (idx - (s.sen i).goodIdx) : Nat) 100
  match hottest (s.goodReadings (groupSensors g)) with
  | some q => max first q.2
  | none => match hottest (s.goodReadings (List.range 28)) with
    | some q => max first q.2
    | none => first

/-- R474: the value of a sensor: its reading, its estimate, or none. -/
def State.tsValue (s : State) (i : Nat) : Option Int :=
  if s.tsStatus i = Ts.GOOD then some (s.getS (Reg.HK_TS.TEMP i))
  else if s.tsStatus i = Ts.FAILED then some (s.getS (Reg.HK_TS.EST i)) else none

/-- Every value in the order of the sensors. -/
def State.tsValues (s : State) : List (Nat × Int) := (List.range 28).filterMap (fun i => (s.tsValue i).map (fun v => (i, v)))

/-- R471: RATE of a sensor, and whether it is above the limit in two rounds running. Before 128 rounds there is none, and it reads 0. A rate that
RATE cannot hold is a free value there (assumption 1). (DEDUCED, assumption 113.) -/
def State.rateTake (s : State) (i : Nat) : State × Bool :=
  let k := s.sen i
  match s.tsValue i with
  | none => ((s.set (Reg.HK_TS.RATE i) 0).setSen i { k with hist := [], rateHi := false }, false)
  | some v =>
    let rate := k.hist[127]?.elim (0 : Int) (fun old => roundAway ((v - old) * 1000) 128)
    let isHi := decide (((s.rateLimit (tsGroup i) * 10 : Nat) : Int) < rate)
    let s1 := if -32768 ≤ rate ∧ rate ≤ 32767 then s.setS (Reg.HK_TS.RATE i) rate else (s.set (Reg.HK_TS.RATE i) (wget s.freeVal 15 0)).bumpFree
    (s1.setSen i { k with hist := (v :: k.hist).take 128, rateHi := isHi }, isHi && k.rateHi)

/-- DETAIL of a thermal code (R486): the hottest sensor and its value. -/
def State.hotDetail (s : State) : Nat := s.get Reg.HK_STAT.HOT_SRC * 2 ^ 32 + s.get Reg.HK_STAT.HOT_T

/-- R474: entry to THROTTLED and release from it. -/
def State.throttleTake (s : State) (isHi : Bool) : State :=
  let vs := s.tsValues
  let thr : Int := s.get Reg.HK_CTRL.THR_T
  let hot := vs.any (fun p => thr ≤ p.2)
  if !s.flag Reg.HK_STAT.THROTTLED then
    (if hot || isHi then
      let s1 := (((s.set Reg.HK_STAT.THROTTLED 1).set Reg.HK_STAT.THROTTLE_SEEN 1).inc Reg.HK_CNT.THROTTLES).log Src.HK Lc.THROTTLE_ON s.hotDetail 2
      { s1 with hk := { s1.hk with calm := 0 } }.alert Alert.THERMAL
    else s)
  else
    let calm := vs.all (fun p => p.2 ≤ thr - s.get Reg.HK_CTRL.HYST) && !isHi && !s.flag Reg.HK_STAT.EST
    let n := if calm then s.hk.calm + 1 else 0
    if s.get Reg.HK_CTRL.REL_ROUNDS ≤ n then
      ({ s with hk := { s.hk with calm := 0 } }.set Reg.HK_STAT.THROTTLED 0).log Src.HK Lc.THROTTLE_OFF s.hotDetail 2
    else { s with hk := { s.hk with calm := n } }

/-! ### Monitors (R472) -/

/-- R472: one monitor reading: its window of ±5 %, once an excursion, and whether it lies outside ±10 %. -/
def State.monTake (s : State) (m : Nat) (v : Int) : State × Bool :=
  let nom := monNominal m
  let out := nom.natAbs < 20 * (v - nom).natAbs
  let s1 := (s.setS (Reg.HK_MON.VALUE m) v).set (Reg.HK_MON.OUT m) (b2n out)
  let s2 := if out && !s.flag (Reg.HK_MON.OUT m) then
      (((s1.set (Reg.HK_MON.WARN m) 1).set Reg.HK_STAT.SUPPLY_WARN 1).log Src.HK Lc.SUPPLY_WARN ((0x40 + m) * 2 ^ 32 + fieldOf 16 v) 2).alert Alert.OTHER
    else s1
  (s2, nom.natAbs < 10 * (v - nom).natAbs)

/-! ### The evaluation's readings (R470) -/

/-- R366, R380: the mean of a quadrant's four channel-die sensors, and the trigger of a live cycle that it gives. -/
def State.quadTemp (s : State) (q : Nat) : State :=
  let vs := (groupSensors (q + 1)).filterMap s.tsValue
  let t := roundAway (vs.foldl (· + ·) 0) vs.length
  let s1 := if vs.isEmpty then s else s.setS (Reg.CAL_Q.T_NOW q) t
  let s2 := s1.set (Reg.CAL_Q.ESTIMATE q) (b2n ((groupSensors (q + 1)).any (fun i => s.tsStatus i == Ts.FAILED)))
  if s2.flag Reg.CAL_CTRL.AUTO ∧ !vs.isEmpty ∧ s2.get Reg.CAL_CTRL.CAL_DT < (t - s2.getS (Reg.CAL_Q.T_LAST q)).natAbs then s2.calTrigger q 1 else s2

/-- R478 to R480: the sensors of a round, the values they give, and the temperature at which a shutdown starts. (DEDUCED, assumption 114.) -/
def State.tempsTake (s : State) (start idx : Nat) (temps : Nat → Option Int) : State :=
  let s1 := s.forN 28 (fun i t => t.senTake temps (s.otherGood temps i) (start % 2 ^ 32) idx i)
  let s2 := s1.forN 28 (fun i t => if s1.tsStatus i = Ts.FAILED then t.setS (Reg.HK_TS.EST i) (s1.estimate idx i) else t)
  let s3 := s2.set Reg.HK_STAT.EST (b2n ((List.range 28).any (fun i => s2.tsStatus i == Ts.FAILED)))
  let s4 := match hottest s3.tsValues with
    | some q => (s3.set Reg.HK_STAT.HOT_SRC q.1).setS Reg.HK_STAT.HOT_T q.2
    | none => s3
  let (s5, isHi) := (List.range 28).foldl (fun (a : State × Bool) i => let r := a.1.rateTake i; (r.1, a.2 || r.2)) (s4, false)
  let s6 := (s5.set Reg.HK_STAT.RATE_HI (b2n isHi)).throttleTake isHi
  let h := (hottest s6.tsValues).getD (0, 0)
  if h.2 < 12000 then s6
  else { s6 with hk := { s6.hk with fatal := some (h.1, if s6.tsStatus h.1 = Ts.FAILED then 2 else 1) } }

/-- R472: the monitors of a round; one that lies outside ±10 % for the second time running starts a shutdown, unless a temperature does. -/
def State.monsTake (s : State) (mons : List Int) : State :=
  let (s1, bad) := (mons.take 36).zipIdx.foldl (fun (a : State × Nat) p => let r := a.1.monTake p.2 p.1; (r.1, a.2 + b2n r.2 * 2 ^ p.2)) (s, 0)
  let both := bad &&& s.hk.monBad
  let src := ((List.range 36).find? (fun m => bitOf both m)).map (fun m => (0x40 + m, 3))
  { s1 with hk := { s1.hk with monBad := bad, fatal := s1.hk.fatal.orElse (fun _ => src) } }

/-- R470: the evaluation beat of the round in hand has come. (DEDUCED, assumption 112.) -/
def State.hkDue (s : State) (start : Nat) : Bool := !s.cntValid || start + 64 ≤ s.now || s.now < start

/-- R470: the readings of the round in hand take effect, once, in its evaluation beat. (DEDUCED, assumption 112.) -/
def State.hkReadings (s : State) : State := match s.hk.round with
  | some (start, temps, mons) =>
    if s.hk.judged ∨ !s.hkDue start then s
    else
      let s1 : State := { s with hk := { s.hk with judged := true, fatal := none } }
      let s2 := (s1.tempsTake start s.hk.idx (fun i => (temps[i]?).join)).monsTake mons
      (s2.forN 4 (fun q t => t.quadTemp q)).inc Reg.HK_CNT.ROUNDS
  | none => s

/-- R470: a round begins, and samples what the operands give. (DEDUCED, assumption 112.) -/
def State.hkRound (s : State) (temps : List (Option Int)) (mons : List Int) : State :=
  if s.cntValid ∧ s.now % 100000 ≠ 0 then s
  else { s with hk := { s.hk with round := some (s.stampBeat, temps, mons), judged := false, idx := s.hk.idx + 1 } }
def execHousekeepingRound (temps : List (Option Int)) (mons : List Int) (s : State) : Out := .next (s.hkRound temps mons)

/-! ### HK_CMD (R479) -/

/-- R479: a sensor may be retired. -/
def State.tsRetirable (s : State) (i : Nat) : Bool :=
  s.tsStatus i == Ts.FAILED && (groupSensors (tsGroup i)).any (fun j => j != i && s.tsStatus j == Ts.GOOD)

/-- R479: a sensor may be restored. -/
def State.tsRestorable (s : State) (i : Nat) : Bool :=
  (s.tsStatus i == Ts.FAILED || s.tsStatus i == Ts.RETIRED) && !(s.sen i).met

/-- R479: a sensor leaves service, or returns to it, from the next evaluation. -/
def State.hkRetire (s : State) (port : Port) (i : Nat) : State :=
  if i < 28 ∧ s.tsRetirable i then (s.set (Reg.HK_TS.STATUS i) Ts.RETIRED).log Src.HK Lc.SENSOR_RETIRED (i * 2 ^ 32 + s.get (Reg.HK_TS.TEMP i))
  else s.reject port Reg.HK_CMD.word Src.HK Lc.STATE_REJECT i
def State.hkRestore (s : State) (port : Port) (i : Nat) : State :=
  if i < 28 ∧ s.tsRestorable i then (s.set (Reg.HK_TS.STATUS i) Ts.GOOD).log Src.HK Lc.SENSOR_RESTORED (i * 2 ^ 32 + s.get (Reg.HK_TS.TEMP i))
  else s.reject port Reg.HK_CMD.word Src.HK Lc.STATE_REJECT i

/-- R479: HK_CMD_RETIRE. -/
def execHkCmdRetire (port : Port) (i : BitVec 5) (s : State) : Out :=
  .next (s.host port Reg.HK_CMD.word Src.HK i.toNat (fun t => t.hkRetire port i.toNat))
/-- R479: HK_CMD_RESTORE. -/
def execHkCmdRestore (port : Port) (i : BitVec 5) (s : State) : Out :=
  .next (s.host port Reg.HK_CMD.word Src.HK i.toNat (fun t => t.hkRestore port i.toNat))

end Sys2Proof.Machine
end

