-- ==== Sys2Proof/Machine/Flags.lean ====
section
/-! DEFINITION. Conditions and results that depend on operands alone: the arithmetic and the branch conditions of statements (R184, R185), and
the operations, flags and conditions of microwords (R210, R211). -/

namespace Sys2Proof.Machine

/-- R184: the arithmetic statements ADD to SAR, by opcode. -/
def arith (op : Nat) (a b : Word) : Word :=
  let k := b.toNat % 128
  match op with
  | 0x11 => a + b
  | 0x12 => a - b
  | 0x13 => a &&& b
  | 0x14 => a ||| b
  | 0x15 => a ^^^ b
  | 0x16 => a <<< k
  | 0x17 => a >>> k
  | _ => a.sshiftRight k

/-- R184: the conditions of BR; none for a code that is a fault. -/
def brCond (cc : Nat) (a b : Word) : Option Bool := match cc with
  | 0x0 => some (a == b)
  | 0x1 => some (a != b)
  | 0x2 => some (a.slt b)
  | 0x3 => some (!a.slt b)
  | 0x4 => some (a.ult b)
  | 0x5 => some (!a.ult b)
  | 0x6 => some ((a &&& b) != 0)
  | 0x7 => some ((a &&& b) == 0)
  | 0x8 => some true
  | _ => none

/-- R185: the conditions of BRS. -/
def brsCond (cc st imm : Nat) : Option Bool := match cc with
  | 0 => some (st == imm % 256)
  | 1 => some (st != imm % 256)
  | _ => none

/-- R210: the operation of a microword; none for a reserved code. -/
def aluResult (op : Nat) (a b : Word) : Option Word :=
  let k := b.toNat % 128
  match op with
  | 0x0 => some a
  | 0x1 => some (a + b)
  | 0x2 => some (a - b)
  | 0x3 => some (a &&& b)
  | 0x4 => some (a ||| b)
  | 0x5 => some (a ^^^ b)
  | 0x6 => some (a <<< k)
  | 0x7 => some (a >>> k)
  | 0x8 => some (a.sshiftRight k)
  | 0x9 => some (if a.slt b then 1 else 0)
  | 0xA => some (if a.ult b then 1 else 0)
  | 0xB => some (if a.slt b then a else b)
  | 0xC => some (if a.slt b then b else a)
  | _ => none

/-- R210: flag C: the carry out of ADD, no borrow for SUB, 0 for every other operation. -/
def aluCarry (op : Nat) (a b : Word) : Bool := match op with
  | 0x1 => decide (2 ^ 128 ≤ a.toNat + b.toNat)
  | 0x2 => !a.ult b
  | _ => false

/-- R211: the facts a condition can ask for, Z, N, C, LC = 0, DONE, OK, HOLDP, TRIP and CLOPEN in the order of their codes from 0x01. -/
def condition (code : Nat) (facts : List Bool) : Option Bool := if code = 0 then some true else facts[code - 1]?

end Sys2Proof.Machine
end

