-- ==== Sys2Proof/Machine/Ledger.lean ====
section
/-! DEFINITION. The result ledger (R381, R387 to R392): the write of a record, the full ledger, migration to the overflow ring and the
pointers the host moves; and snapshots (R393 to R398). -/

namespace Sys2Proof.Machine

/-! ### Pointers -/

def State.lgTail (s : State) : Nat := s.get Reg.LG_SEQ.TAIL
def State.lgMig (s : State) : Nat := s.get Reg.LG_SEQ.MIG
def State.lgHead (s : State) : Nat := s.get Reg.LG_HEAD.HEAD

/-- R381: slots of the ledger SRAM. -/
def lgSlots : Nat := 1048576

/-- R389: records that the overflow ring holds. -/
def State.ringCap (s : State) : Nat := s.get Reg.LG_OVF.SIZE * 256

/-- R390: the ring has room for a burst. -/
def State.ringRoom (s : State) : Bool := s.flag Reg.LG_OVF.EN && decide (s.lgMig + 256 ≤ s.lgHead + s.ringCap)

/-- R388: the ledger is full. -/
def State.lgFull (s : State) : Bool := decide (s.lgMig + lgSlots ≤ s.lgTail) && !s.ringRoom

/-- R388: NEAR_FULL. -/
def State.lgNear (s : State) : Bool := decide (s.lgHead + s.get Reg.LG_CFG.ALERT_WM ≤ s.lgTail)

/-- R388: a rise of NEAR_FULL since `s` raises ALERT_N. -/
def State.nearRise (t : State) (s : State) : State := if t.lgNear && !s.lgNear then t.alert Alert.LEDGER else t

/-! ### Records -/

/-- R381: a record takes the next sequence number and its slot. -/
def State.putRecord (s : State) (w : Word) : State :=
  let w' := if s.gap then w ||| BitVec.ofNat 128 (Flag.GAP * 2 ^ 90) else w
  let s1 := { s.setReg (Reg.LG_WIN.word (s.lgTail % lgSlots)) w' with gap := false }
  ((s1.set Reg.LG_SEQ.TAIL (s.lgTail + 1)).inc Reg.LG_CNT.WRITTEN).nearRise s

/-- R388: a record due while the ledger is full is dropped. -/
def State.dropRecord (s : State) : State :=
  let s1 := { (s.inc Reg.LG_CNT.DROPPED).set Reg.LG_STAT.LOST 1 with gap := true, gapDrops := s.gapDrops + 1 }
  if s.flag Reg.LG_STAT.LOST then s1
  else
    let s2 := (s1.log Src.LG Lc.LEDGER_FULL 0 2).alert Alert.LEDGER
    if s2.flag Reg.LG_CFG.FULL_HOLD then s2.forN 64 (fun n t => if t.siteState n = Site.RUNNING then t.hold n Cause.HOST else t) else s2

/-- R388: the site that a LEDGER_GAP record goes to. -/
def State.gapSite (s : State) : Nat := ((List.range 64).find? (fun n => s.siteState n != Site.EMPTY)).getD 0

/-- R388: the LEDGER_GAP record. (DEDUCED, assumption 98.) -/
def State.gapRecord (s : State) : State :=
  let n := s.gapSite
  let w := recWord n (s.stmtOf n) Kind.EVENT (Flag.DEVICE ||| s.siteFlags n) s.now 0
    (Ev.LEDGER_GAP * 2 ^ 40 + min s.gapDrops (2 ^ 40 - 1))
  { s.putRecord w with gapDrops := 0 }

/-- The kinds that measurements write (R196). -/
def measKind (k : Nat) : Bool := (1 ≤ k && k ≤ 4) || k == 7

/-- R195, R197: a measuring statement (or command) of site `n` ends when every unit has ended and every record of it is written. -/
def State.measRetire (s : State) (n : Nat) : State :=
  let q := s.seq n
  match q.wait with
  | .units xd _ nf true =>
    if q.suspended || s.pendRecs.any (fun r => wget r.word 127 122 == n && measKind (wget r.word 101 98)) then s
    else s.finishWait n xd (BitVec.ofNat 128 nf) (if nf = 0 then St.OK else St.FAIL) (nf == 0)
  | _ => s

/-- R387, R388: the next record that is due is written, or dropped when the ledger is full; a LEDGER_GAP record goes first once there is room. -/
def State.recordWrite (s : State) : State :=
  if s.gapDrops ≠ 0 ∧ !s.lgFull then s.gapRecord
  else match s.pendRecs with
    | [] => s
    | r :: rs =>
      if s.now < r.due then s
      else
        let s1 := { s with pendRecs := rs }
        let s2 := if s1.lgFull then s1.dropRecord else s1.putRecord r.word
        if measKind (wget r.word 101 98) then s2.measRetire (wget r.word 127 122) else s2

/-! ### Migration -/

/-- R390: a burst starts. -/
def State.migrationStart (s : State) : State :=
  if s.burst.isNone ∧ s.ringRoom ∧ s.lgMig + s.get Reg.LG_CFG.MIG_WM ≤ s.lgTail then
    { s with burst := some (s.lgMig, min 256 (s.lgTail - s.lgMig)) }
  else s

/-- A device write into pattern memory: whole units lose an uncorrectable mark (R133). -/
def State.devWrite (s : State) (a : Nat) (bs : List Byte) : State :=
  let t := s.setBytes a bs
  { t with uncorr := t.uncorr.filter (fun u => !(decide (a ≤ 32 * u) && decide (32 * u + 32 ≤ a + bs.length))) }

/-- R389, R390: the burst is complete in memory. -/
def State.burstDone (s : State) : State :=
  match s.burst with
  | none => s
  | some (start, k) =>
    let c := s.ringCap
    let rec16 := fun (i : Nat) => leBytes 16 (s.reg (Reg.LG_WIN.word ((start + i) % lgSlots))).toNat
    let first := min k (c - start % c)
    let base := s.get Reg.LG_OVF.BASE
    let s1 := s.devWrite (base + 16 * (start % c)) ((List.range first).flatMap rec16)
    let s2 := if first < k then s1.devWrite base ((List.range (k - first)).flatMap (fun i => rec16 (first + i))) else s1
    let s3 := { s2 with burst := none }
    (s3.set Reg.LG_SEQ.MIG (max s.lgMig (start + k))).add Reg.LG_CNT.MIGRATED k

/-! ### Pointers the host moves -/

/-- R391: a write of LG_HEAD. -/
def State.headWrite (s : State) (port : Port) (w : Word) : State :=
  let h := Reg.LG_HEAD.HEAD.of w
  if s.lgHead ≤ h ∧ h ≤ s.lgTail then (s.set Reg.LG_HEAD.HEAD h).set Reg.LG_SEQ.MIG (max s.lgMig h)
  else s.reject port Reg.LG_HEAD.word Src.LG

/-- R389: a write of LG_OVF. (DEDUCED, assumption 98.) -/
def State.ovfWrite (s : State) (port : Port) (w : Word) : State :=
  let en := Reg.LG_OVF.EN.of w == 1
  let base := Reg.LG_OVF.BASE.of w; let size := Reg.LG_OVF.SIZE.of w
  let ok := s.lgMig == s.lgHead && (!en || (!s.flag Reg.LG_OVF.EN && base % 4096 == 0 && (s.regionOf 3 base (size * 4096)).isSome))
  if ok then (s.setReg Reg.LG_OVF.word (w &&& accMask .rw Reg.LG_OVF.word)).refreshLeases else s.reject port Reg.LG_OVF.word Src.LG

/-- R392: CLEAR. -/
def State.lgClear (s : State) : State := (s.set Reg.LG_HEAD.HEAD s.lgTail).set Reg.LG_SEQ.MIG s.lgTail

/-! ### Snapshots -/

/-- R393: every HR field latches into its shadow. -/
def State.latchShadows (s : State) : State :=
  let keys := (s.regs.map Prod.fst ++ s.held.map Prod.fst).eraseDups.filter (fun a => accMask .hr a != 0)
  { s with held := keys.foldl (fun m a => sset resetWord m a ((resetWord a &&& ~~~(accMask .hr a)) ||| (s.reg a &&& accMask .hr a))) s.held }

/-- R394, R395: the snapshots that are pending: those scheduled, and on the root those of a multi-device request until it takes its own from the
loop-back, at the latest until their beat. (DEDUCED, assumption 100.) -/
def State.snapsPending (s : State) : Nat := s.snaps.length + (s.tb.snapOrigin.filter (fun p => decide (s.now ≤ p.beat))).length

/-- R394: schedule a snapshot. (DEDUCED, assumption 39.) -/
def State.schedule (s : State) (beat tag : Nat) (record : Bool) : State := { s with snaps := s.snaps ++ [(⟨beat, tag, record⟩ : PendSnap)] }

/-- R398: the SNAPSHOT records of one tag. -/
def State.snapRecords (s : State) (tag : Nat) : State :=
  s.forN 64 (fun n t => if t.siteState n = Site.EMPTY then t
    else t.recordRaw n Kind.SNAPSHOT Flag.DEVICE 0 (tag % 2 ^ 16 * 2 ^ 32 + t.now / 2 ^ 32 % 2 ^ 32))

/-- R393, R396, R397: the snapshots due in the present beat: one latch for all of them, or none while the shadows are locked. (DEDUCED, assumption 99.) -/
def State.snapshot (s : State) : State :=
  let due := (s.snaps.filter (fun p => decide (p.beat ≤ s.now))).mergeSort (fun a b => a.tag ≤ b.tag)
  let s1 := { s with snaps := s.snaps.filter (fun p => !decide (p.beat ≤ s.now)) }
  match due with
  | [] => s
  | p :: ps =>
    if s.flag Reg.LG_SNAPSTAT.LOCKED then
      s1.forL due (fun d t => ((t.set Reg.LG_SNAPSTAT.MISSED 1).set Reg.LG_SNAPSTAT.SKIPPED 1).log Src.LG Lc.SNAPSHOT_SKIPPED (detail 0 d.tag) 4)
    else
      let s2 := s1.latchShadows
      let s3 := ((s2.set Reg.LG_SNAPSTAT.BEAT s.now).set Reg.LG_SNAPSTAT.TAG p.tag).set Reg.LG_SNAPSTAT.TAG2
        (match ps with
         | [] => 0
         | _ => (ps.getLast?.map PendSnap.tag).getD 0)
      let s4 := (s3.inc Reg.LG_SNAPSTAT.SEQ).intr Intr.SNAP_TAKEN
      let s5 := s4.forL (due.filter (fun d => d.record)) (fun d t => t.snapRecords d.tag)
      if s5.flag Reg.LG_SNAPCFG.LOCK then s5.set Reg.LG_SNAPSTAT.LOCKED 1 else s5

/-- R395: a SNAPSHOT frame that is not acted on. (DEDUCED, assumption 34; DEDUCED, assumption 39.) -/
def State.snapMissed (s : State) (tag : Nat) : State :=
  ((s.log Src.LG Lc.SNAPSHOT_MISSED (detail 0 tag) 2).set Reg.LG_SNAPSTAT.MISSED 1).alert Alert.SNAPSHOT

/-- R392, R396, R400: what a reset of the LG block does beside its registers. (DEDUCED, assumption 102.) -/
def State.lgReset (s : State) : State :=
  { s with pendRecs := [], gap := false, gapDrops := 0, snaps := [], burst := none, lgMarch := none, tb := { s.tb with snapOrigin := [] } }

end Sys2Proof.Machine
end

