-- ==== Sys2Proof/Machine/Crypto.lean ====
section
/-! DEFINITION. The signature of a control-store image (R224): SHA-384 (FIPS 180-4), and ECDSA verification on curve P-384 (FIPS 186-5,
with the curve of SP 800-186), which the manual names and does not spell out (assumption 8). -/

namespace Sys2Proof.Machine

/-! ### SHA-384 -/

/-- The round constants 0 to 39. -/
def shaK0 : List Nat := [
  0x428A2F98D728AE22, 0x7137449123EF65CD, 0xB5C0FBCFEC4D3B2F, 0xE9B5DBA58189DBBC,
  0x3956C25BF348B538, 0x59F111F1B605D019, 0x923F82A4AF194F9B, 0xAB1C5ED5DA6D8118,
  0xD807AA98A3030242, 0x12835B0145706FBE, 0x243185BE4EE4B28C, 0x550C7DC3D5FFB4E2,
  0x72BE5D74F27B896F, 0x80DEB1FE3B1696B1, 0x9BDC06A725C71235, 0xC19BF174CF692694,
  0xE49B69C19EF14AD2, 0xEFBE4786384F25E3, 0x0FC19DC68B8CD5B5, 0x240CA1CC77AC9C65,
  0x2DE92C6F592B0275, 0x4A7484AA6EA6E483, 0x5CB0A9DCBD41FBD4, 0x76F988DA831153B5,
  0x983E5152EE66DFAB, 0xA831C66D2DB43210, 0xB00327C898FB213F, 0xBF597FC7BEEF0EE4,
  0xC6E00BF33DA88FC2, 0xD5A79147930AA725, 0x06CA6351E003826F, 0x142929670A0E6E70,
  0x27B70A8546D22FFC, 0x2E1B21385C26C926, 0x4D2C6DFC5AC42AED, 0x53380D139D95B3DF,
  0x650A73548BAF63DE, 0x766A0ABB3C77B2A8, 0x81C2C92E47EDAEE6, 0x92722C851482353B]
/-- The round constants 40 to 79. -/
def shaK1 : List Nat := [
  0xA2BFE8A14CF10364, 0xA81A664BBC423001, 0xC24B8B70D0F89791, 0xC76C51A30654BE30,
  0xD192E819D6EF5218, 0xD69906245565A910, 0xF40E35855771202A, 0x106AA07032BBD1B8,
  0x19A4C116B8D2D0C8, 0x1E376C085141AB53, 0x2748774CDF8EEB99, 0x34B0BCB5E19B48A8,
  0x391C0CB3C5C95A63, 0x4ED8AA4AE3418ACB, 0x5B9CCA4F7763E373, 0x682E6FF3D6B2B8A3,
  0x748F82EE5DEFB2FC, 0x78A5636F43172F60, 0x84C87814A1F0AB72, 0x8CC702081A6439EC,
  0x90BEFFFA23631E28, 0xA4506CEBDE82BDE9, 0xBEF9A3F7B2C67915, 0xC67178F2E372532B,
  0xCA273ECEEA26619C, 0xD186B8C721C0C207, 0xEADA7DD6CDE0EB1E, 0xF57D4F7FEE6ED178,
  0x06F067AA72176FBA, 0x0A637DC5A2C898A6, 0x113F9804BEF90DAE, 0x1B710B35131C471B,
  0x28DB77F523047D84, 0x32CAAB7B40C72493, 0x3C9EBE0A15C9BEBC, 0x431D67C49C100D4C,
  0x4CC5D4BECB3E42B6, 0x597F299CFC657E2A, 0x5FCB6FAB3AD6FAEC, 0x6C44198C4A475817]
/-- The 80 round constants. -/
def shaK : List Nat := shaK0 ++ shaK1
/-- The initial hash value. -/
def shaInit : List Nat := [
  0xCBBB9D5DC1059ED8, 0x629A292A367CD507, 0x9159015A3070DD17, 0x152FECD8F70E5939,
  0x67332667FFC00B31, 0x8EB44A8768581511, 0xDB0C2E0D64F98FA7, 0x47B5481DBEFA4FA4]

/-- Rotation of a 64-bit word to the right. -/
def rotr64 (x k : Nat) : Nat := (x >>> k ||| x <<< (64 - k)) % 2 ^ 64

/-- The big-endian number a byte list holds. -/
def beNat (bs : List Byte) : Nat := bs.foldl (fun n b => n * 256 + b.toNat) 0
/-- `k` big-endian bytes of a number. -/
def beBytes (k n : Nat) : List Byte := (leBytes k n).reverse

/-- The next word of the message schedule, from the words so far, newest first. -/
def shaNext (w : List Nat) : Nat :=
  let g := fun i => w.getD i 0
  let s0 := rotr64 (g 14) 1 ^^^ rotr64 (g 14) 8 ^^^ (g 14 >>> 7)
  let s1 := rotr64 (g 1) 19 ^^^ rotr64 (g 1) 61 ^^^ (g 1 >>> 6)
  (g 15 + s0 + g 6 + s1) % 2 ^ 64

/-- The message schedule of a block: 16 words of the block and 64 more, newest first. -/
def shaSchedule (block : List Byte) : List Nat :=
  let w0 := ((List.range 16).map (fun j => beNat ((block.drop (8 * j)).take 8))).reverse
  (List.range 64).foldl (fun w _ => shaNext w :: w) w0

/-- One round on the working variables. -/
def shaRound (v : List Nat) (kw : Nat) : List Nat :=
  let g := fun i => v.getD i 0
  let e := g 4; let a := g 0
  let ch := (e &&& g 5) ^^^ ((2 ^ 64 - 1 - e) &&& g 6)
  let t1 := g 7 + (rotr64 e 14 ^^^ rotr64 e 18 ^^^ rotr64 e 41) + ch + kw
  let t2 := (rotr64 a 28 ^^^ rotr64 a 34 ^^^ rotr64 a 39) + ((a &&& g 1) ^^^ (a &&& g 2) ^^^ (g 1 &&& g 2))
  [(t1 + t2) % 2 ^ 64, a, g 1, g 2, (g 3 + t1) % 2 ^ 64, e, g 5, g 6]

/-- The hash value after a block. -/
def shaBlock (h : List Nat) (block : List Byte) : List Nat :=
  let kw := List.zipWith (fun k w => k + w) shaK (shaSchedule block).reverse
  List.zipWith (fun x y => (x + y) % 2 ^ 64) h (kw.foldl shaRound h)

/-- The padded message. -/
def shaPad (m : List Byte) : List Byte :=
  m ++ [0x80] ++ List.replicate ((111 + 128 - m.length % 128) % 128) 0 ++ beBytes 16 (8 * m.length)

/-- The digest of a message, 48 bytes. (DEDUCED, assumption 8.) -/
def sha384 (m : List Byte) : List Byte :=
  let p := shaPad m
  let h := (List.range (p.length / 128)).foldl (fun h i => shaBlock h ((p.drop (128 * i)).take 128)) shaInit
  (h.take 6).flatMap (beBytes 8)

/-! ### Curve P-384 -/

/-- The field prime. -/
def p384 : Nat := 0xFFFFFFFFFFFFFFFFFFFFFFFFFFFFFFFFFFFFFFFFFFFFFFFFFFFFFFFFFFFFFFFEFFFFFFFF0000000000000000FFFFFFFF
/-- The order of the base point. -/
def n384 : Nat := 0xFFFFFFFFFFFFFFFFFFFFFFFFFFFFFFFFFFFFFFFFFFFFFFFFC7634D81F4372DDF581A0DB248B0A77AECEC196ACCC52973
/-- The coefficient b; a is −3. -/
def b384 : Nat := 0xB3312FA7E23EE7E4988E056BE3F82D19181D9C6EFE8141120314088F5013875AC656398D8A2ED19D2A85C8EDD3EC2AEF
/-- The base point. -/
def g384 : Nat × Nat :=
  (0xAA87CA22BE8B05378EB1C71EF320AD746E1D3B628BA79B9859F741E082542A385502F25DBF55296C3A545E3872760AB7,
   0x3617DE4A96262C6F5D9E98BF9292DC29F8F41DBD289A147CE9DA3113B5F0B8C00A60B1CE1D7E819D7A431D7C90EA0E5F)

/-- A power modulo `m`, by squaring over `fuel` bits. -/
def powMod (m : Nat) : Nat → Nat → Nat → Nat
  | 0, _, _ => 1
  | fuel + 1, b, e => (if e % 2 = 1 then b else 1) * powMod m fuel (b * b % m) (e / 2) % m

/-- The inverse modulo a prime of at most 384 bits. -/
def invMod (m a : Nat) : Nat := powMod m 384 (a % m) (m - 2)

/-- A difference modulo `m`. -/
def subMod (m a b : Nat) : Nat := (a + (m - b % m)) % m

/-- Addition on the curve; `none` is the point at infinity. -/
def ecAdd : Option (Nat × Nat) → Option (Nat × Nat) → Option (Nat × Nat)
  | none, q => q
  | p, none => p
  | some (x1, y1), some (x2, y2) =>
    if x1 = x2 ∧ (y1 + y2) % p384 = 0 then none
    else
      let l := if x1 = x2 then subMod p384 (3 * x1 * x1) 3 * invMod p384 (2 * y1) % p384
        else subMod p384 y2 y1 * invMod p384 (subMod p384 x2 x1) % p384
      let x3 := subMod p384 (subMod p384 (l * l) x1) x2
      some (x3, subMod p384 (l * subMod p384 x1 x3) y1)

/-- A multiple of a point, over `fuel` bits. -/
def ecMul : Nat → Nat → Option (Nat × Nat) → Option (Nat × Nat)
  | 0, _, _ => none
  | fuel + 1, k, p => ecAdd (if k % 2 = 1 then p else none) (ecMul fuel (k / 2) (ecAdd p p))

/-- A public key is a point of the curve. -/
def onCurve (q : Nat × Nat) : Bool :=
  q.1 < p384 && q.2 < p384 && (q.2 * q.2) % p384 == (subMod p384 (q.1 * q.1 * q.1) (3 * q.1) + b384) % p384

/-- R224: ECDSA verification of a signature (r, s) over a digest under a public key. (DEDUCED, assumption 8.) -/
def ecdsaVerify (q : Nat × Nat) (digest : List Byte) (r s : Nat) : Bool :=
  onCurve q && 0 < r && r < n384 && 0 < s && s < n384 &&
  (let w := invMod n384 s
   let u1 := beNat digest % n384 * w % n384
   let u2 := r * w % n384
   match ecAdd (ecMul 384 u1 (some g384)) (ecMul 384 u2 (some q)) with
   | none => false
   | some (x, _) => x % n384 == r)

end Sys2Proof.Machine
end

