-- ==== Sys2Proof/Machine/Store.lean ====
section
/-! DEFINITION. The control store (R206, R207), the microword (R208), the lexicon, the loads of both areas with their checks (R223 to R227)
and the key slots (R228, R229). -/

namespace Sys2Proof.Machine

/-! ### Microwords -/

/-- A microword. -/
abbrev MicroWord := BitVec 256

/-- The bits [hi:lo] of a microword. -/
def mwBits (w : MicroWord) (hi lo : Nat) : Nat := bitsOf w.toNat lo (hi + 1 - lo)

def MicroWord.comma (w : MicroWord) : Bool := mwBits w 255 255 = 1
def MicroWord.nxt (w : MicroWord) : Nat := mwBits w 254 252
def MicroWord.na (w : MicroWord) : Nat := mwBits w 251 236
def MicroWord.cond (w : MicroWord) : Nat := mwBits w 235 230
def MicroWord.cinv (w : MicroWord) : Bool := mwBits w 229 229 = 1
def MicroWord.lcdec (w : MicroWord) : Bool := mwBits w 228 228 = 1
def MicroWord.aluOp (w : MicroWord) : Nat := mwBits w 227 224
def MicroWord.srcA (w : MicroWord) : Nat := mwBits w 223 219
def MicroWord.srcB (w : MicroWord) : Nat := mwBits w 218 214
def MicroWord.srcC (w : MicroWord) : Nat := mwBits w 213 209
def MicroWord.dst (w : MicroWord) : Nat := mwBits w 208 204
def MicroWord.ext (w : MicroWord) : Nat := mwBits w 203 198
def MicroWord.lit (w : MicroWord) : Word := BitVec.ofNat 128 (mwBits w 127 0)

/-- R212: the trap word. -/
def trapWord : MicroWord := BitVec.ofNat 256 (7 * 2 ^ 252)

/-- R206: the place of microword `m` of the vendor area, or of bank `b` for `m` from 0xC000 on. -/
def csKey (b m : Nat) : Nat := if 0xC000 ≤ m % 65536 ∧ b % 2 = 1 then 0x10000 + (m % 65536 - 0xC000) else m % 65536

/-- A microword of the store. -/
def State.mword (s : State) (b m : Nat) : MicroWord := sget (fun _ => trapWord) s.cs (csKey b m)

/-- R207: the stored word carries an uncorrectable error. -/
def State.mwordBad (s : State) (b m : Nat) : Bool := s.csBad.contains (csKey b m)

/-- The active bank: 0 for A, 1 for B. -/
def State.activeBank (s : State) : Nat := s.get Reg.LX_STAT.ACTIVE_BANK

/-- R208 to R213: a reserved bit, a reserved code or a forbidden NXT and EXT pairing in a microword. -/
def MicroWord.bad (w : MicroWord) : Bool :=
  let src := fun c => !(c ≤ 0x0C || (0x10 ≤ c && c ≤ 0x17))
  mwBits w 197 128 != 0 || 0x09 < w.cond || 0x0C < w.aluOp || src w.srcA || src w.srcB || src w.srcC
  || !([0x00, 0x04, 0x09, 0x0B, 0x0C].contains w.dst || (0x10 ≤ w.dst && w.dst ≤ 0x17))
  || 0x15 < w.ext || (w.nxt == 6 && w.ext != 0)

/-! ### The lexicon -/

/-- R215: the lexicon entry of a customer opcode in the image of bank `b`. -/
def State.bankEntry (s : State) (b op : Nat) : Nat := sget (fun _ => 0) s.lex (b * 256 + op)

/-- R206: LX_ENT shows the entries of the active bank for the customer opcodes. -/
def State.showBank (s : State) : State :=
  s.forN 64 (fun i t => t.setReg (Reg.LX_ENT.word (0xC0 + i)) (BitVec.ofNat 128 (t.bankEntry t.activeBank (0xC0 + i))))

/-- The verb engines bound to a bank (R216, R227): a verb in execution, or one that its token keeps. -/
def State.bankUsers (s : State) (b : Nat) : Nat :=
  ((List.range 64).filter (fun n => (s.seq n).verb.running && (s.seq n).verb.bank == b)).length

/-! ### Images -/

/-- R226: load result codes. -/
def Cs.OK : Nat := 0x00
def Cs.MEMORY : Nat := 0x01
def Cs.MAGIC : Nat := 0x02
def Cs.VERSION : Nat := 0x03
def Cs.LENGTH : Nat := 0x04
def Cs.FORMAT : Nat := 0x05
def Cs.RANGE : Nat := 0x06
def Cs.KEY : Nat := 0x07
def Cs.SIGNATURE : Nat := 0x08
def Cs.NVM : Nat := 0x09

/-- The little-endian number in `k` bytes of pattern memory. -/
def State.memNat (s : State) (a k : Nat) : Nat := leNat (s.bytes a k)

/-- R223: the address of the image and its length, from LX_SRC. -/
def State.lxAddr (s : State) : Nat := s.get Reg.LX_SRC.ADDR
def State.lxLen (s : State) : Nat := s.get Reg.LX_SRC.LENGTH

/-- R223: the fields of the image's header. -/
def State.csBase (s : State) : Nat := s.memNat (s.lxAddr + 0x10) 2
def State.csWords (s : State) : Nat := s.memNat (s.lxAddr + 0x12) 2
def State.csSlot (s : State) : Nat := s.memNat (s.lxAddr + 0x14) 1
def State.csId (s : State) : Nat := s.memNat (s.lxAddr + 0x0C) 4
/-- The lexicon entries of an image: 192 for the vendor, 64 for a customer. -/
def lexCount (customer : Bool) : Nat := if customer then 64 else 192
/-- Lexicon entry `i` and microword `i` of the image. -/
def State.csEntry (s : State) (i : Nat) : Nat := s.memNat (s.lxAddr + 0x40 + 4 * i) 4
def State.csWord (s : State) (customer : Bool) (i : Nat) : MicroWord :=
  BitVec.ofNat 256 (s.memNat (s.lxAddr + 0x40 + 4 * lexCount customer + 32 * i) 32)
/-- The 48-byte integers KEY X, KEY Y, r and s of the image. -/
def State.csTail (s : State) (i : Nat) : Nat := s.memNat (s.lxAddr + s.lxLen - 192 + 48 * i) 48
/-- R224: the digest of bytes 0 to LENGTH − 97. -/
def State.csDigest (s : State) : List Byte := sha384 (s.bytes s.lxAddr (s.lxLen - 96))

/-- R226: the length check. -/
def State.csLengthBad (s : State) (customer : Bool) : Bool :=
  let len := s.memNat (s.lxAddr + 0x08) 4
  len != s.lxLen || len != (if customer then 512 else 1024) + 32 * s.csWords || s.csWords == 0
  || (if customer then s.csBase < 0xC000 || 0x10000 < s.csBase + s.csWords else 0xC000 < s.csBase + s.csWords)

/-- R226: the format check. -/
def State.csFormatBad (s : State) (customer : Bool) : Bool :=
  s.memNat (s.lxAddr + 0x06) 2 != b2n customer || s.memNat (s.lxAddr + 0x15) 43 != 0
  || (if customer then 3 < s.csSlot else s.csSlot != 0 || s.csTail 0 != 0 || s.csTail 1 != 0)
  || (List.range (lexCount customer)).any (fun i => bitsOf (s.csEntry i) 18 14 != 0)
  || (List.range s.csWords).any (fun i => (s.csWord customer i).bad)

/-- R226: the range check. -/
def State.csRangeBad (s : State) (customer : Bool) : Bool :=
  (List.range s.csWords).any (fun i =>
    let w := s.csWord customer i
    [1, 2, 3, 6].contains w.nxt && (if customer then w.na < 0xC000 else 0xC000 ≤ w.na))
  || (List.range (lexCount customer)).any (fun i =>
    let e := s.csEntry i
    bitOf e 16 && !(s.csBase ≤ e % 65536 && e % 65536 < s.csBase + s.csWords))

/-! ### Key slots -/

/-- R229: the address of the record of slot `k`. -/
def keyAddr (k : Nat) : Nat := 0xF000 + 0x40 * k

/-- R229: a copy of the record of slot `k` is good. -/
def keyGood (k : Nat) (bs : List Byte) : Bool :=
  leNat (bs.take 4) == 0x594B5844 && leNat ((bs.drop 4).take 2) == 0x0100 && leNat ((bs.drop 6).take 1) == k && crcGood bs

/-- R229: the STATE and the HASH of a record. -/
def keyStateOf (bs : List Byte) : Nat := leNat ((bs.drop 7).take 1)
def keyHashOf (bs : List Byte) : List Byte := (bs.drop 8).take 48

/-- R229: the good copies of a slot's record, the Q0 copy first. -/
def State.keyCopies (s : State) (k : Nat) : List (List Byte) :=
  [s.nvmBytes 0 (keyAddr k) 64, s.nvmBytes 1 (keyAddr k) 64].filter (keyGood k)

/-- R229: the state of a slot: 0 EMPTY, 1 ACTIVE, 2 REVOKED, or none when it is LOST. -/
def State.keyState (s : State) (k : Nat) : Option Nat :=
  let good := s.keyCopies k
  if good.any (fun c => keyStateOf c == 2) then some 2
  else if good.any (fun c => keyStateOf c == 1) then some 1
  else if erased (s.nvmBytes 0 (keyAddr k) 64) && erased (s.nvmBytes 1 (keyAddr k) 64) then some 0
  else none

/-- R229: the hash of a slot, the Q0 copy's when both copies are good. -/
def State.keyHash (s : State) (k : Nat) : List Byte := ((s.keyCopies k).head?.map keyHashOf).getD (List.replicate 48 0)

/-- R229: derive every slot's state again; a slot lost in both copies is logged. -/
def State.deriveKeys (s : State) : State :=
  s.forN 4 (fun k t => match t.keyState k with
    | some st => t.setReg (Reg.LX_KEY.word k) (BitVec.ofNat 128 st)
    | none => (t.setReg (Reg.LX_KEY.word k) (BitVec.ofNat 128 (4 + 2))).log Src.LX Lc.NVM_LOST (detail 0 k))

/-- R229: the record of a slot. -/
def keyRecord (k st : Nat) (hash : List Byte) : List Byte :=
  withCrc (leBytes 4 0x594B5844 ++ leBytes 2 0x0100 ++ leBytes 1 k ++ leBytes 1 st ++ hash ++ leBytes 4 0)

/-! ### Loads -/

/-- R224: the key of a customer image passes: its slot is ACTIVE and holds the key's hash. -/
def State.csKeyOk (s : State) : Bool :=
  let k := s.csSlot
  s.get (Reg.LX_KEY.STATE k) == 1 && !s.flag (Reg.LX_KEY.LOST k)
  && sha384 (0x04 :: beBytes 48 (s.csTail 0) ++ beBytes 48 (s.csTail 1)) == s.keyHash k

/-- R226: the result of a load, the first check that fails. -/
def State.csResult (s : State) (customer : Bool) : Nat :=
  let a := s.lxAddr
  if pmSize < a + s.lxLen ∨ s.anyUncorr a s.lxLen then Cs.MEMORY
  else if s.memNat a 4 ≠ 0x53435844 then Cs.MAGIC
  else if s.memNat (a + 4) 2 ≠ 0x0100 then Cs.VERSION
  else if s.csLengthBad customer then Cs.LENGTH
  else if s.csFormatBad customer then Cs.FORMAT
  else if s.csRangeBad customer then Cs.RANGE
  else if customer ∧ !s.csKeyOk then Cs.KEY
  else if !ecdsaVerify (if customer then (s.csTail 0, s.csTail 1) else Config.vendorKey) s.csDigest (s.csTail 2) (s.csTail 3) then Cs.SIGNATURE
  else Cs.OK

/-- R223: the area takes the image: every word outside it holds the trap word. -/
def State.csFill (s : State) (customer : Bool) (b : Nat) (words : Nat → MicroWord) (base count : Nat) : State :=
  let inArea := fun key => if customer then (if b = 1 then 0x10000 ≤ key else 0xC000 ≤ key && key < 0x10000) else key < 0xC000
  let s1 := { s with cs := s.cs.filter (fun p => !inArea p.1), csBad := s.csBad.filter (fun key => !inArea key) }
  s1.forN count (fun i t => { t with cs := sset (fun _ => trapWord) t.cs (csKey b (base + i)) (words i) })

/-- R225, R226: the word that LX_VEND or LX_BANK shows of the image in force. -/
def State.csShown (s : State) : Nat :=
  s.csId * 2 ^ 96 + leNat (s.csDigest.take 4) * 2 ^ 64 + s.csBase * 2 ^ 48 + s.csWords * 2 ^ 32

/-- The end of a command: LX_STAT, the interrupt, and the log of a failure. -/
def State.lxDone (s : State) (cmd result : Nat) : State :=
  let s1 := (((s.set Reg.LX_STAT.RESULT result).set Reg.LX_STAT.LAST_CMD cmd).set Reg.LX_STAT.DONE 1).set Reg.LX_STAT.BUSY 0
  let s2 := { s1 with lxOp := none }.intr Intr.LX_DONE
  if result = Cs.OK then s2 else s2.log Src.LX (Lc.store result)

/-- The counters of a load. -/
def State.lxCount (s : State) (result : Nat) : State := if result = Cs.OK then s.inc Reg.LX_CNT.LOADS_OK else s.inc Reg.LX_CNT.LOADS_FAIL

/-- R133, R226: the image is read: an uncorrectable unit in it is reported, and IMAGE_ID taken. -/
def State.lxRead (s : State) : State :=
  let s1 := if s.anyUncorr s.lxAddr s.lxLen then (s.inc Reg.PM_CNT.UNCORR).set Reg.PM_STAT.UNCORR 1 else s
  s1.set Reg.LX_STAT.IMAGE_ID s.csId

/-- R225: LOAD_VENDOR is accepted. -/
def State.loadVendorOk (s : State) : Bool :=
  !s.flag Reg.LX_STAT.BUSY && [Mode.SAFE, Mode.DISCOVER, Mode.SHAPE, Mode.STANDBY].contains s.mode && s.flag Reg.PM_STAT.READY
  && (List.range 64).all (fun n => [Site.EMPTY, Site.LOADED, Site.RETIRED].contains (s.siteState n)) && s.get Reg.SO_FB.USED_BLK == 0

/-- R225: LOAD_CUSTOMER is accepted. -/
def State.loadCustomerOk (s : State) : Bool :=
  !s.flag Reg.LX_STAT.BUSY && !([Mode.RESET, Mode.SAFE, Mode.SHUTDOWN].contains s.mode) && s.bankUsers (1 - s.activeBank) == 0

/-- R225: a load command. -/
def State.loadStart (s : State) (port : Port) (customer : Bool) : State :=
  if !(if customer then s.loadCustomerOk else s.loadVendorOk) then s.reject port Reg.LX_CMD.word Src.LX Lc.CS_BUSY
  else
    let f := if customer then Reg.LX_BANK.STATE (1 - s.activeBank) else Reg.LX_VEND.STATE
    let s1 := ((s.set Reg.LX_STAT.BUSY 1).set Reg.LX_STAT.DONE 0).set f 1
    { s1 with lxOp := some ⟨if customer then 2 else 1, 0, [], s.get f⟩ }

/-- A load in progress of the given kind. -/
def State.lxIs (s : State) (cmds : List Nat) : Bool := s.lxOp.any (fun o => cmds.contains o.cmd)

/-- R225: a vendor load completes. (DEDUCED, assumption 84.) -/
def State.vendorLoadDone (s : State) : State :=
  match s.lxOp with
  | none => s
  | some o =>
    if o.cmd ≠ 1 then s
    else
      let r := s.csResult false
      let s1 := s.lxRead
      let s2 := if r = Cs.OK then
          let t := s1.csFill false 0 (s.csWord false) s.csBase s.csWords
          (t.forN 192 (fun i u => u.setReg (Reg.LX_ENT.word i) (BitVec.ofNat 128 (s.csEntry i)))).setReg Reg.LX_VEND.word
            (BitVec.ofNat 128 (s.csShown + 2))
        else s1.set Reg.LX_VEND.STATE o.prev
      (s2.lxCount r).lxDone 1 r

/-- R225: a customer load completes: the inactive bank is VALID, or INVALID and full of trap words (what its other fields then show the manual leaves
open). (DEDUCED, assumption 84.) -/
def State.customerLoadDone (s : State) : State :=
  match s.lxOp with
  | none => s
  | some o =>
    if o.cmd ≠ 2 then s
    else
      let b := 1 - s.activeBank
      let r := s.csResult true
      let s1 := s.lxRead
      let s2 := if r = Cs.OK then
          let t := s1.csFill true b (s.csWord true) s.csBase s.csWords
          (t.forN 64 (fun i u => { u with lex := sset (fun _ => 0) u.lex (b * 256 + 0xC0 + i) (s.csEntry i) })).setReg (Reg.LX_BANK.word b)
            (BitVec.ofNat 128 (s.csShown + s.csSlot * 2 ^ 8 + 2))
        else
          let t := s1.csFill true b (fun _ => trapWord) 0 0
          let u := t.forN 64 (fun i v => { v with lex := sset (fun _ => 0) v.lex (b * 256 + 0xC0 + i) 0 })
          (u.setReg (Reg.LX_BANK.word b) ((s.freeVal &&& accMask .ro (Reg.LX_BANK.word b) &&& ~~~(BitVec.ofNat 128 (2 ^ 23 - 2 ^ 16 + 7))) ||| 3)).bumpFree
      (s2.lxCount r).lxDone 2 r

/-- R227: SWAP. (DEDUCED, assumption 84.) -/
def State.swapBanks (s : State) (port : Port) : State :=
  let a := s.activeBank
  if s.flag Reg.LX_STAT.BUSY then s.reject port Reg.LX_CMD.word Src.LX Lc.CS_BUSY
  else if s.get (Reg.LX_BANK.STATE (1 - a)) ≠ 2 then s.reject port Reg.LX_CMD.word Src.LX
  else
    let s1 := ((s.set Reg.LX_STAT.ACTIVE_BANK (1 - a)).set (Reg.LX_BANK.ACTIVE a) 0).set (Reg.LX_BANK.ACTIVE (1 - a)) 1
    s1.showBank.lxDone 3 Cs.OK

/-- R228: KEY_WRITE and KEY_REVOKE: a command on a slot in the wrong state, or in a mode that does not allow it, is rejected. -/
def State.keyStart (s : State) (port : Port) (revoke : Bool) (w : Word) : State :=
  let k := Reg.LX_CMD.SLOT.of w
  let lost := s.flag (Reg.LX_KEY.LOST k)
  let ok := !lost && s.get (Reg.LX_KEY.STATE k) == b2n revoke
    && (if revoke then s.mode != Mode.SHUTDOWN && s.mode != Mode.RESET else s.mode == Mode.SAFE || s.mode == Mode.DISCOVER)
  if s.flag Reg.LX_STAT.BUSY then s.reject port Reg.LX_CMD.word Src.LX Lc.CS_BUSY k
  else if !ok then s.reject port Reg.LX_CMD.word Src.LX Lc.STATE_REJECT k
  else
    { (s.set Reg.LX_STAT.BUSY 1).set Reg.LX_STAT.DONE 0 with
      lxOp := some ⟨if revoke then 5 else 4, k, [0, 1, 2].map (fun j => s.reg (Reg.LX_KEYH.word j)), 0⟩ }

/-- R229: a key command completes: the record's write ends and every slot's state is derived again. -/
def State.keyDone (s : State) (e : NvmEnd) : State :=
  match s.lxOp with
  | none => s
  | some o =>
    if o.cmd ≠ 4 ∧ o.cmd ≠ 5 then s
    else
      let hash := if o.cmd = 4 then o.hash.flatMap (fun w => leBytes 16 w.toNat) else s.keyHash o.slot
      let p := s.nvmWrite (keyAddr o.slot) (keyRecord o.slot (if o.cmd = 4 then 1 else 2) hash) e
      p.1.deriveKeys.lxDone o.cmd (if p.2 then Cs.OK else Cs.NVM)

end Sys2Proof.Machine
end

