-- ==== Sys2Proof/Machine/Read.lean ====
section
/-! DEFINITION. What a read of a register word gives (R11, R51): the word as it stands, with the fields that always show the hardware,
the words that follow a lead's, and the windows onto the control store, the trouble log and the non-volatile memory. -/

namespace Sys2Proof.Machine

/-- R51: the instant of a capture: the beat count, and a tick to one phase step. -/
def State.captureTime (s : State) : Nat := s.now % 2 ^ 64 * 65536 + s.freeVal.toNat % 2048 * 32

/-- R107, R300, R334: the words of channel `c` that a read of a compound member takes from the lead; `none` where a member reads 0. -/
def State.chReadOf (s : State) (c k : Nat) : Option Nat :=
  if s.leadOf c = c then some c
  else if k = 0x22 ∨ k = 0x24 then none
  else if k < 5 ∨ (0x10 ≤ k ∧ k < 0x19) ∨ (0x20 ≤ k ∧ k < 0x25) ∨ k = 0x30 ∨ k = 0x31 then some (s.leadOf c)
  else some c

/-- The CH words. (DEDUCED, assumption 23.) -/
def State.readCh (s : State) (c k : Nat) : Word := match s.chReadOf c k with
  | none => 0
  | some x =>
    let w := s.reg (0x080000 + 0x40 * x + k)
    if k = 0x32 then wput w 7 6 (s.chEffMode c) else w

/-- R272: TM_STAT.STATE while a measurement settles, and while calibration keeps an armed TDC waiting. -/
def State.tmState (s : State) (t : Nat) : Nat :=
  let st := s.get (Reg.TM_STAT.STATE t)
  if st = 1 ∧ (s.tdc t).any (fun m => m.due ≤ s.now) then 2
  else if st = 3 ∧ (s.tdc t).any (fun m => s.tdcPaused t m.src) then 4 else st

/-- R205: a wait statement is in progress. -/
def State.waiting (s : State) (n : Nat) : Bool :=
  !(s.seq n).verb.running && (match (s.seq n).wait with
    | .beat _ | .follow _ _ _ _ | .pattern _ _ _ => true
    | _ => false)

/-- R253: CL_STAT. -/
def State.readClStat (s : State) : Word :=
  let w := wput (wput (s.reg Reg.CL_STAT.word) 0 0 (b2n s.vetoOut)) 1 1 (b2n (s.vetoIn || s.vetoOut))
  let n := ((List.range 16).filter (fun k => s.slotState k != Slot.FREE)).length
  wput (wput (wput w 111 96 s.vetoTag) 48 32 (65536 - s.poolUsed)) 20 16 n

/-- A count of the numbers below `k` with a property. -/
def countBelow (k : Nat) (p : Nat → Bool) : Nat := ((List.range k).filter p).length

/-- The mask of the numbers below `k` with a property. -/
def maskBelow (k : Nat) (p : Nat → Bool) : Nat := ((List.range k).filter p).foldl (fun m i => m + 2 ^ i) 0

/-- R339, R347: the words of the guard block that sum up the trips. -/
def State.readGd (s : State) (a : Nat) : Word :=
  if a = Reg.GD_STAT.word then
    let w := wput (wput (s.reg a) 106 96 (countBelow 1024 (fun c => s.flag (Reg.CH_GSTAT.TRIPPED c)))) 94 88
      (countBelow 64 (fun d => s.flag (Reg.GD_DSTAT.TRIPPED d)))
    wput (wput w 1 1 (b2n s.tripnOut)) 0 0 (b2n (s.tripIn || s.tripnOut))
  else if a < 0x0A2018 then BitVec.ofNat 128 (maskBelow 128 (fun i => s.flag (Reg.CH_GSTAT.TRIPPED (128 * (a - 0x0A2010) + i))))
  else BitVec.ofNat 128 (maskBelow 64 (fun d => s.flag (Reg.GD_DSTAT.TRIPPED d)))

/-- The GD words of a supply: the lead's set-up, and EFF_MODE. -/
def State.readDgd (s : State) (d k : Nat) : Word :=
  let x := if k < 2 then s.gangLead d else d
  let w := s.reg (0x0A2100 + 4 * x + k)
  if k = 2 then wput w 7 6 (s.dpsEffMode d) else w

/-- The DPS words (R66, R331): DPS_CFG and DPS_SET are the lead's; DPS_STAT shows who owns the channel and its gang. -/
def State.readDps (s : State) (d k : Nat) : Word :=
  if k < 2 then s.reg (0x0A0000 + 0x10 * s.gangLead d + k)
  else
    let w := s.reg (0x0A0000 + 0x10 * d + k)
    if k = 2 then
      let g := s.gangOf d
      wput (wput (wput (wput w 63 63 (b2n (s.dpsSite d).isSome)) 62 57 ((s.dpsSite d).getD 0)) 56 51 g.1) 50 46 g.2
    else w

/-- R303: WF_STAT shows the route of source `i` and the site it belongs to. -/
def State.readWfStat (s : State) (i : Nat) : Word :=
  let w := s.reg (Reg.WF_STAT.word i)
  wput (wput (wput (wput w 27 27 (b2n (s.routeOf i).isSome)) 26 24 ((s.routeOf i).getD 0)) 23 23 (b2n (s.wfSite i).isSome)) 22 17 ((s.wfSite i).getD 0)

/-- R152, R155, R156: SO_STR_STAT; how much of an incoming half or of a line buffer is filled is a matter of timing that this model leaves
free. -/
def State.readStr (s : State) (x : Nat) : Word :=
  let w := s.reg (Reg.SO_STR_STAT.word x)
  let st := s.streamState x
  let busy := st = Str.PRIMING ∨ st = Str.PLAYING
  let fill := if (s.stream x).inc.isSome then 15 else if busy then s.freeVal.toNat % 16 else 0
  wput (wput w 39 36 fill) 47 40 (if busy then s.freeVal.toNat % 129 else 0)

/-- R398: LG_STAT: the bits that follow from the pointers. -/
def State.readLgStat (s : State) : Word :=
  let w := wput (wput (s.reg Reg.LG_STAT.word) 3 3 (s.get Reg.LG_OVF.EN)) 4 4 (b2n s.burst.isSome)
  wput (wput w 2 2 (b2n s.lgFull)) 1 1 (b2n s.lgNear)

/-- R381, R497: a slot of the ledger SRAM; after a march test the slots not written since hold undefined values (assumption 1). (DEDUCED, assumption 102.) -/
def State.lgSlot (s : State) (j : Nat) : Word := match s.lgMarch with
  | some (t0, base) => if t0 + (j + 2 ^ 20 - t0 % 2 ^ 20) % 2 ^ 20 < s.lgTail then s.reg (Reg.LG_WIN.word j) else Config.freeValue (base + j)
  | none => s.reg (Reg.LG_WIN.word j)

/-- The words whose value depends on more than the register of that address. (DESIGN CHOICE, assumption 6; DEDUCED, assumption 24.) -/
def State.readWord (s : State) (a : Nat) : Word :=
  if a = Reg.TB_NOW.word then BitVec.ofNat 128 s.captureTime
  else if 0x031000 ≤ a ∧ a < 0x032000 then
    let n := (a - 0x031000) / 0x40; let k := a % 0x40
    if k = 0 then 0 else if k = 0x22 then wput (s.reg a) 4 4 (b2n (s.waiting n)) else s.reg a
  else if 0x080000 ≤ a ∧ a < 0x090000 then s.readCh ((a - 0x080000) / 0x40) (a % 0x40)
  else if 0x050000 ≤ a ∧ a < 0x058400 then
    let e := (a - 0x050000) / 0x20; let k := a % 0x20
    if k = 1 then 0 else if 3 ≤ k ∧ k ≤ 5 then s.tenseView e (k - 3) else s.reg a
  else if 0x060000 ≤ a ∧ a < 0x064200 ∧ a % 0x10 = 3 then wput (s.reg a) 2 0 (s.tmState ((a - 0x060000) / 0x10))
  else if 0x0A0000 ≤ a ∧ a < 0x0A0400 then s.readDps ((a - 0x0A0000) / 0x10) (a % 0x10)
  else if 0x0A1000 ≤ a ∧ a < 0x0A1200 ∧ a % 0x10 = 3 then s.readWfStat ((a - 0x0A1000) / 0x10)
  else if a = Reg.GD_STAT.word ∨ (0x0A2010 ≤ a ∧ a ≤ 0x0A2018) then s.readGd a
  else if 0x0A2100 ≤ a ∧ a < 0x0A2200 then s.readDgd ((a - 0x0A2100) / 4) (a % 4)
  else if a = Reg.CL_STAT.word then s.readClStat
  else if 0x006100 ≤ a ∧ a < 0x006200 ∧ (a % 0x10 = 2 ∨ a % 0x10 = 3) then 0
  else if 0x041000 ≤ a ∧ a < 0x041500 ∧ a % 0x10 = 1 then s.readStr ((a - 0x041000) / 0x10)
  else if a = Reg.PM_BW.word then wput (wput (s.reg a) 9 0 (s.freeVal.toNat % 1001)) 25 16 (s.freeVal.toNat / 1024 % 1001)
  else if a = Reg.CP_ALERT.word then wput (s.reg a) 6 6 (b2n s.alertOut)
  else if a = Reg.LG_STAT.word then s.readLgStat
  else if a = Reg.LG_SNAPSTAT.word then wput (s.reg a) 15 12 s.snapsPending
  else if a = Reg.SI_ACTIVE.word then wput (s.reg a) 47 40 (countBelow 64 (fun n => s.siteState n != Site.EMPTY))
  else if a = Reg.HK_STAT.word then wput (s.reg a) 103 96 (countBelow 64 (fun n => bitOf (s.get (Reg.SQ_STAT.CAUSES n)) Cause.THERMAL))
  else if 0x100000 ≤ a ∧ a < 0x200000 then s.lgSlot (a - 0x100000)
  else if 0x010000 ≤ a ∧ a < 0x030000 then
    let m := (a - 0x010000) / 2
    let w := s.mword (if s.flag Reg.LX_CFG.VIEW then 1 - s.activeBank else s.activeBank) m
    BitVec.ofNat 128 (if a % 2 = 0 then mwBits w 127 0 else mwBits w 255 128)
  else if a = Reg.LX_BANK.word 0 ∨ a = Reg.LX_BANK.word 1 then wput (s.reg a) 22 16 (s.bankUsers (a - Reg.LX_BANK.word 0))
  else if Reg.LX_KHV.word 0 ≤ a ∧ a ≤ Reg.LX_KHV.word 2 then
    BitVec.ofNat 128 (leNat (((s.keyHash (s.get Reg.LX_CFG.KSEL)).drop (16 * (a - Reg.LX_KHV.word 0))).take 16))
  else if 0x003100 ≤ a ∧ a < 0x003200 then
    BitVec.ofNat 128 (leNat (s.nvmBytes (s.get Reg.LOG_CTRL.COPY) (4096 * s.get Reg.LOG_CTRL.NVM_PAGE + 16 * (a - 0x003100)) 16))
  else if 0x003400 ≤ a ∧ a < 0x003800 then sget (fun _ => 0) s.logRing (1024 * s.get Reg.LOG_CTRL.LOG_PAGE + (a - 0x003400))
  else s.reg a

/-- R393: a host read: the HR fields of the word from their shadows, every other field live. (DESIGN CHOICE, assumption 133.) -/
def State.readHost (s : State) (a : Nat) : Word :=
  let m := accMask .hr a
  (s.readWord a &&& ~~~m) ||| (s.heldReg a &&& m)

end Sys2Proof.Machine
end

