-- ==== Sys2Proof/Machine/Operands.lean ====
section
/-! DEFINITION. The fields of a test statement (R182), its operands (R184), the program it is read from (R181) and the operand fields of the
measuring statements (R195). -/

namespace Sys2Proof.Machine

/-- R182: a test statement by its fields. -/
structure Stmt where
  op : Nat
  xd : Nat
  xa : Nat
  xb : Nat
  aux : Nat
  imm : Nat
deriving DecidableEq, Repr

/-- R182: the fields of a statement word. -/
def Stmt.of (w : Word) : Stmt := ⟨wget w 127 120, wget w 119 115, wget w 114 110, wget w 109 105, wget w 104 64, wget w 63 0⟩

/-- R182: TARGET and CC of a flow statement. -/
def Stmt.target (i : Stmt) : Nat := bitsOf i.aux 0 20
def Stmt.cc (i : Stmt) : Nat := bitsOf i.aux 20 4
/-- IMM, sign-extended to 128 bits. -/
def Stmt.immS (i : Stmt) : Word := BitVec.ofInt 128 (signedOf 64 i.imm)
/-- R184: operand B, Xb plus the sign-extended immediate. -/
def State.opB (s : State) (n : Nat) (i : Stmt) : Word := s.getX n i.xb + i.immS
/-- Operand A. -/
def State.opA (s : State) (n : Nat) (i : Stmt) : Word := s.getX n i.xa

/-! ### The program (R181) -/

/-- The byte address of statement `k`. -/
def State.stmtAddr (s : State) (n k : Nat) : Nat := (s.seq n).base + 16 * (k % 2 ^ 20)

/-- The PROGRAM region that contains the start address. -/
def State.progRegion (s : State) (n : Nat) : Option Nat := s.regionOf 1 (s.stmtAddr n (s.seq n).entry) 16

/-- R181, R187: why `k` bytes at `a` cannot be read for a program: the reason, and the value of its EVENT record. -/
def State.progBad (s : State) (n a k : Nat) : Option (Nat × Nat) :=
  if !(s.progRegion n).any (fun i => s.rgnLo i ≤ a && a + k ≤ s.rgnHi i) then some (Reason.REGION, Reason.REGION)
  else if s.anyUncorr a k then some (Reason.UNCORR, max a (s.firstUncorr a k)) else none

/-- An operand fault. -/
def operandBad (b : Bool) : Option (Nat × Nat) := if b then some (Reason.OPERAND, Reason.OPERAND) else none

/-- R191: entry `j` of an action table at byte address `a`. -/
def State.tableAct (s : State) (a j : Nat) : Action :=
  ⟨leNat (s.bytes (a + 48 * j + 32) 3), s.mem16 (a + 48 * j), s.mem16 (a + 48 * j + 16)⟩

/-! ### Measurements (R195, R294, R328, R418) -/

/-- A measurement as a statement or a command asks for it: the pin fields, settling, samples and limits. -/
structure MeasReq where
  first : Nat
  count : Nat
  dps : Bool
  settle : Nat
  samples : Nat
  lo : Int
  hi : Int
deriving DecidableEq, Repr

/-- R195: the pin fields and limits of MEAS and TMEAS. -/
def MeasReq.of (pins settle samples : Nat) (limits : Word) : MeasReq :=
  ⟨bitsOf pins 0 10, bitsOf pins 10 11, bitOf pins 21, settle, samples, signedOf 48 (wget limits 47 0), signedOf 48 (wget limits 111 64)⟩

/-- The MEAS and TMEAS statements' operands. (DEDUCED, assumption 67.) -/
def State.measReq (s : State) (n : Nat) (i : Stmt) : MeasReq := MeasReq.of i.aux (bitsOf i.imm 16 32) (bitsOf i.imm 0 16) (s.opA n i)

/-- The units of a request: pin indices or DPS entries. -/
def MeasReq.units (r : MeasReq) : List Nat := (List.range r.count).map (fun j => r.first + j)

/-- R328: the lead of a DPS entry of a site. -/
def State.entryLead (s : State) (n e : Nat) : Option Nat := ((s.map n).dps[e]?).map Prod.fst

/-- R195, R294, R328: the operands of MEAS are out of range. -/
def State.measBad (s : State) (n : Nat) (r : MeasReq) : Bool :=
  r.count == 0 || 1024 < r.count || r.samples == 0 ||
  (if r.dps then (s.map n).dps.length < r.first + r.count || r.units.any (fun e => !(s.entryLead n e).any (fun d => s.flag (Reg.DPS_STAT.CONN d)))
   else s.pinCount n < r.first + r.count
    || r.units.any (fun p => !(s.pinChan n p).any (fun c => s.flag (Reg.CH_CTRL.OUT_ARM c) && s.get (Reg.CH_PMU.MODE c) != 0)))

/-- R267: the operands of TMEAS are out of range. -/
def State.tmeasBad (s : State) (n : Nat) (r : MeasReq) : Bool :=
  r.count == 0 || 1024 < r.count || r.samples == 0 || s.pinCount n < r.first + r.count
  || r.units.any (fun p => !(s.pinChan n p).any (fun c =>
      let t := s.engineOf c
      (s.tdc t).isNone && s.tmOk n c (s.reg (Reg.TM_CFG.word t)) (s.reg (Reg.TM_SRC.word t))))

/-- R195, R418: the lane of LTEST cannot be tested. -/
def State.ltestBad (s : State) (n l : Nat) : Bool :=
  s.laneSite l != some n || s.laneState l != Ln.UP || s.get (Reg.DL_RX.CHK_PAT l) == 0

/-- Start the measurements of a MEAS. -/
def State.startMeas (s : State) (n : Nat) (r : MeasReq) : State :=
  s.forL r.units (fun u t =>
    if r.dps then (match t.entryLead n u with
      | some d => t.dpsStart d (some n) r.settle r.samples r.lo r.hi u
      | none => t)
    else match t.pinChan n u with
      | some c => t.pmuStart c (some n) r.settle r.samples r.lo r.hi u
      | none => t)

/-- Start the measurements of a TMEAS. -/
def State.startTmeas (s : State) (n : Nat) (r : MeasReq) : State :=
  s.forL r.units (fun u t => match t.pinChan n u with
    | some c => t.tdcStart (t.engineOf c) (some n) r.settle r.samples r.lo r.hi u
    | none => t)

/-- The site waits for `k` units. -/
def State.waitUnits (s : State) (n xd k : Nat) : State := s.setSeq n { s.seq n with wait := .units xd k 0 false }

/-! ### The accumulator (R196) -/

/-- R196: what ACC loads, by its two selection bits. -/
def State.accValue (s : State) (n sel : Nat) : Word := match sel with
  | 0 => s.reg (Reg.SQ_ACC.word n)
  | 1 => BitVec.ofInt 128 (s.getS (Reg.SQ_ACC.MIN n))
  | 2 => BitVec.ofInt 128 (s.getS (Reg.SQ_ACC.MAX n))
  | _ => BitVec.ofNat 128 (s.get (Reg.SQ_ACC.NFAIL n))

/-- R196: the accumulator returns to its reset value. -/
def State.accReset (s : State) (n : Nat) : State := s.setReg (Reg.SQ_ACC.word n) (resetWord (Reg.SQ_ACC.word n))

/-- R196: the kinds that a program may write itself. -/
def recKind (k : Nat) : Bool := k == 0 || k == 5 || k == 6 || 10 ≤ k

/-- A record that a statement (or command) of the site writes itself. -/
def State.ownRecord (s : State) (n kind sub : Nat) (fail : Bool) (value : Nat) : State :=
  (s.recordRaw n kind (if fail then Flag.FAIL else 0) sub value).inc (Reg.SQ_CNT.RECORDS n)

end Sys2Proof.Machine
end

