-- ==== Sys2Proof/Machine/Seq.lean ====
section
/-! DEFINITION. Site sequencers (R179 to R204, R538): the issue of a statement and its faults, the vendor statements, waits and their
ends, and the host's site commands. -/

namespace Sys2Proof.Machine

/-! ### Issue and faults -/

/-- R187: a fault of the statement in execution: `report` is its EVENT record; the site holds with cause FAULT. A verb ends; what it had open
or in progress for itself is gone, since the statement executes again. -/
def State.faultBy (s : State) (n reason : Nat) (report : State → State) : State :=
  let s2 := report ((s.set (Reg.SQ_STAT.FAULT n) reason).set (Reg.SQ_STAT.FAULTED n) 1)
  let s3 := if (s2.seq n).verb.running then
      let t := if (s2.seq n).span then s2 else s2.discardOpen n
      (t.cancelUnits n).setSeq n { t.seq n with wait := .none, verb := Verb.init }
    else s2
  (s3.hold n Cause.FAULT).follow

/-- R187: a fault with its reason; an uncorrectable read is reported with the failing byte address. (DEDUCED, assumption 57.) -/
def State.fault (s : State) (n reason value : Nat) : State :=
  s.faultBy n reason (fun t => if reason = Reason.UNCORR then t.uncorrMet.event n Ev.PM_UNCORR value else t.event n Ev.STMT_FAULT value)

/-- R198, R201, R203: the sequencer may issue: RUNNING, not stopping, no statement in execution. -/
def State.canIssue (s : State) (n : Nat) : Bool :=
  s.siteState n == Site.RUNNING && !s.flag (Reg.SQ_STAT.STOPPING n) && !(s.seq n).suspended && (s.seq n).wait == .none
    && !(s.seq n).verb.running

/-- The index of the statement to issue. -/
def State.pc (s : State) (n : Nat) : Nat := s.get (Reg.SQ_STAT.PC n)

/-- R181: why the statement at PC cannot be fetched. -/
def State.fetchBad (s : State) (n : Nat) : Option (Nat × Nat) := s.progBad n (s.stmtAddr n (s.pc n)) 16

/-- R181: the statement at PC. -/
def State.stmtWord (s : State) (n : Nat) : Word := s.mem16 (s.stmtAddr n (s.pc n))

/-- R205: the statement issues. (DEDUCED, assumption 57.) -/
def State.began (s : State) (n op : Nat) : State := ((s.memReq (s.stmtAddr n (s.pc n)) 16).set (Reg.SQ_STAT.OP n) op).inc (Reg.SQ_CNT.ISSUED n)

/-- R183: the lexicon entry of an opcode holds a valid verb. -/
def State.opValid (s : State) (op : Nat) : Bool := s.flag (Reg.LX_ENT.VALID op)

/-- R179 to R187: the statement at PC, if it is one of `ops`, issues: `bad` gives its operand fault, `run` its effect. A fetch that fails is a
fault whatever the statement; a statement of another opcode is the matter of another command. (DEDUCED, assumption 54; DESIGN CHOICE, assumption 55; DEDUCED, assumption 57.) -/
def State.issue (s : State) (n : Nat) (ops : List Nat) (bad : Stmt → State → Option (Nat × Nat)) (run : Stmt → State → State) : State :=
  if !s.canIssue n then s
  else match s.fetchBad n with
    | some (r, v) => s.fault n r v
    | none =>
      let i := Stmt.of (s.stmtWord n)
      if !ops.contains i.op then s
      else if !s.opValid i.op then s.fault n Reason.BAD_OP Reason.BAD_OP
      else match bad i s with
        | some (r, v) => s.fault n r v
        | none => run i (s.began n i.op)

/-- A statement that no operand can make a fault. -/
def noBad (_ : Stmt) (_ : State) : Option (Nat × Nat) := none

/-- R183: the opcodes of the vendor statements (R185). (DESIGN CHOICE, assumption 55.) -/
def vendorOps : List Nat :=
  [0x00, 0x01, 0x02, 0x03, 0x04, 0x05, 0x06, 0x07, 0x08, 0x10, 0x11, 0x12, 0x13, 0x14, 0x15, 0x16, 0x17, 0x18, 0x19, 0x1A, 0x1B,
   0x20, 0x21, 0x22, 0x30, 0x31, 0x32, 0x33, 0x34, 0x40, 0x50, 0x51, 0x52, 0x60, 0x61, 0x62]

/-- R183: a reserved opcode, or one whose lexicon entry holds no valid verb. -/
def State.badOp (s : State) (n : Nat) : State :=
  if !s.canIssue n then s
  else match s.fetchBad n with
    | some (r, v) => s.fault n r v
    | none =>
      let op := (Stmt.of (s.stmtWord n)).op
      if (op < 0xC0 ∧ !vendorOps.contains op) ∨ !s.opValid op then s.fault n Reason.BAD_OP Reason.BAD_OP else s

/-- R201: the wait of a site can end: its statement executes in RUNNING, or its verb has not stopped. -/
def State.canEnd (s : State) (n : Nat) : Bool :=
  !(s.seq n).suspended && ((s.seq n).verb.running || (s.siteState n == Site.RUNNING && !s.flag (Reg.SQ_STAT.STOPPING n)))

/-- Begin a wait. -/
def State.setWait (s : State) (n : Nat) (w : Wait) : State := s.setSeq n { s.seq n with wait := w }

/-! ### Flow and data statements -/

/-- R185: CALL: push the next index and go to TARGET. -/
def State.pushPc (s : State) (n pc : Nat) : State :=
  let q := s.seq n
  (s.setSeq n { q with stack := (pc % 2 ^ 20) :: q.stack }).set (Reg.SQ_STAT.SP n) (q.stack.length + 1)
/-- R185: pop the return stack. -/
def State.popPc (s : State) (n : Nat) : Nat × State :=
  let q := s.seq n
  (q.stack.headD 0, (s.setSeq n { q with stack := q.stack.tail }).set (Reg.SQ_STAT.SP n) (q.stack.length - 1))
/-- R187: the return stack is full, or empty. -/
def State.stackFull (s : State) (n : Nat) : Bool := 16 ≤ (s.seq n).stack.length
def State.stackEmpty (s : State) (n : Nat) : Bool := (s.seq n).stack.isEmpty
/-- R187: a STACK fault. -/
def stackBad (b : Bool) : Option (Nat × Nat) := if b then some (Reason.STACK, Reason.STACK) else none

/-- R185: the index that LDP reads. (DEDUCED, assumption 61.) -/
def State.ldpIndex (s : State) (n : Nat) (i : Stmt) : Nat := (wget (s.opA n i) 19 0 + i.imm) % 2 ^ 20
/-- R185: the word that RDW reads. (DEDUCED, assumption 61.) -/
def State.rdwAddr (s : State) (n : Nat) (i : Stmt) : Nat := (wget (s.opA n i) 23 0 + i.imm) % 2 ^ 24

/-- R185, R200: HOLD of the site by its own program, with the USER_HOLD record. (DEDUCED, assumption 65.) -/
def State.userHold (s : State) (n value : Nat) : State := (s.eventStmt n Ev.USER_HOLD value).inc (Reg.SQ_CNT.RECORDS n)

/-! ### Waits -/

/-- R188: a wait for a target beat; one that is not ahead ends at once. -/
def State.waitBeat (s : State) (n target : Nat) : State :=
  let t := s.setWait n (.beat target)
  if target ≤ s.now then t.finishBeat n else t

/-- R188: the target of WAITB. -/
def State.waitbTarget (s : State) (n : Nat) (i : Stmt) : Nat :=
  if bitOf i.aux 0 then ((wget (s.opA n i) 79 16 : Int) + signedOf 64 i.imm).toNat else s.now + i.imm

/-- R189: a follow count has reached a target. -/
def reached (count target : Nat) : Bool := (count + 2 ^ 48 - target % 2 ^ 48) % 2 ^ 48 < 2 ^ 47

/-- R189: the beat of a timeout of `t` beats; 0 stands for none. -/
def State.timeoutBeat (s : State) (t : Nat) : Nat := if t = 0 then 0 else s.now + t

/-- R189: a wait for the follow count; a target already reached ends it at once, with the stamp of the last edge when that is the matching one. -/
def State.waitFollow (s : State) (n xd target timeout : Nat) : State :=
  let t := s.setWait n (.follow xd target timeout none)
  let c := s.get (Reg.TB_FOLLOW_CNT.COUNT n)
  if reached c target then
    let stamp := if c = target then BitVec.ofNat 128 (s.get (Reg.TB_FOLLOW_CNT.LAST_EDGE n)) else s.freeVal &&& fieldMask 79 0
    (t.finishWait n xd stamp St.OK true).bumpFree
  else t

/-- R189, R204: the timeout of a follow wait; a match of the same beat has already ended it. -/
def State.followTimeout (s : State) (n : Nat) : State := match (s.seq n).wait with
  | .follow xd _ timeout none =>
    if s.canEnd n ∧ timeout ≠ 0 ∧ timeout ≤ s.now then s.finishWait n xd 0 St.TIMEOUT false else s
  | _ => s

/-- R188: the target beat of a wait has come. -/
def State.beatTarget (s : State) (n : Nat) : State := match (s.seq n).wait with
  | .beat t => if s.canEnd n ∧ t ≤ s.now then s.finishBeat n else s
  | _ => s

/-- R194: the site takes part in the pattern in progress on its clone stream. (DEDUCED, assumption 58.) -/
def State.takesPart (s : State) (n : Nat) : Bool :=
  let q := s.stream (s.streamOf n)
  q.members.contains n || q.gather.any (fun g => g.site == n && !g.declined)

/-- R194: the pattern condition. A start that waits at the barrier, and a stream that a release is bringing back, count as in progress. (DEDUCED, assumption 58.) -/
def State.patternHolds (s : State) (n : Nat) : Bool :=
  let x := s.streamOf n
  let busy := [Str.PRIMING, Str.PLAYING, Str.PAUSED].contains (s.streamState x) || (s.stream x).gather.any (fun g => g.site == n && !g.declined)
  !s.flag (Reg.SO_SITE_STAT.IN_STREAM n) && (if x < 64 then !busy else !(s.takesPart n && busy))

/-- R194: WAITP (and ARMP) ends: the fail count, and a PASSFAIL record when asked for. (DEDUCED, assumption 53.) -/
def State.patternDone (s : State) (n : Nat) : State := match (s.seq n).wait with
  | .pattern xd _ rec =>
    if s.canEnd n ∧ s.patternHolds n then
      let k := (s.seq n).failBase
      let late := (s.stream (s.streamOf n)).lateSeen.contains n
      let s1 := if rec then (s.recordRaw n Kind.PASSFAIL ((if k = 0 then 0 else Flag.FAIL) ||| (if late then Flag.LATE else 0)
            ||| (if (s.seq n).cmpStale then Flag.STALE else 0)) 0 k).inc
          (Reg.SQ_CNT.RECORDS n) else s
      s1.finishWait n xd (BitVec.ofNat 128 (k % 2 ^ 48)) (if k = 0 then St.OK else St.FAIL) (k == 0)
    else s
  | _ => s

/-- R194, R204: the timeout of WAITP; a completion of the same beat wins. -/
def State.patternTimeout (s : State) (n : Nat) : State := match (s.seq n).wait with
  | .pattern xd timeout _ =>
    if s.canEnd n ∧ timeout ≠ 0 ∧ timeout ≤ s.now ∧ !s.patternHolds n then s.finishWait n xd 0 St.TIMEOUT false else s
  | _ => s

/-! ### Clauses -/

/-- R191: open a clause in slot `k` for the site. -/
def State.openClause (s : State) (n k : Nat) (span : Bool) : State := (s.openSlot k (some n)).setOpen n (some k) span

/-- R191: a statement that needs an open clause, or none, faults otherwise. -/
def State.clauseBad (s : State) (n : Nat) (need : Bool) : Option (Nat × Nat) := operandBad ((s.seq n).clause.isSome != need)

/-- R191: stage one action in the site's open clause. -/
def State.stageOne (s : State) (n : Nat) (x : Action) : State := match (s.seq n).clause with
  | some k => (s.stage k x).1
  | none => s

/-- R191: the operands of CLT and CLTAB. -/
def State.tableBad (s : State) (n index count : Nat) : Option (Nat × Nat) :=
  if count = 0 ∨ 4096 < count then some (Reason.OPERAND, Reason.OPERAND) else s.progBad n (s.stmtAddr n index) (48 * count)

/-- R191: stage every action of a table. -/
def State.stageTable (s : State) (n index count : Nat) : State :=
  let a := s.stmtAddr n index
  s.forN count (fun j t => t.stageOne n (s.tableAct a j))

/-- R192: the value CLC reports: the result code over the full stop. -/
def clcValue (code fs : Nat) : Word := BitVec.ofNat 128 (code % 256 * 2 ^ 80 + fs % 2 ^ 64 * 2 ^ 16)

/-- R192: the status of a clause result. -/
def clcStatus (code : Nat) : Nat := if code = Cl.OK then St.OK else if 0x10 ≤ code then St.REFUSED else St.ABORTED

/-- R192: CLC ends with a result. -/
def State.clcFinish (s : State) (n xd fs code : Nat) : State := s.finishWait n xd (clcValue code fs) (clcStatus code) (code == Cl.OK)

/-- R192, R237: the site's clause is closed and submitted. -/
def State.closeClause (s : State) (n xd fs : Nat) (multi : Bool) (tag : Nat) : State := match (s.seq n).clause with
  | none => s
  | some k =>
    let s1 := ((s.set (Reg.CL_SET.FULL_STOP k) fs).set (Reg.CL_SET.TAG k) tag).set (Reg.CL_SET.MULTI k) (b2n multi)
    let refuse := fun (code bad : Nat) => ((s1.refuseRequest k code bad).setOpen n none false).clcFinish n xd fs code
    match s1.request k with
    | .done r b => refuse r b
    | .reject l => refuse (if l = Lc.SYNC_DOWN then Cl.SYNC else Cl.LEAD) 0
    | .ok => ((s1.beginPrepare k).setOpen n none false).setWait n (.clc xd k fs none)

/-- R192: the decision of the site's clause is known. -/
def State.clcDecision (s : State) (n : Nat) : State := match (s.seq n).wait with
  | .clc xd _ fs (some r) => if s.canEnd n || (s.seq n).verb.running then s.clcFinish n xd fs r else s
  | _ => s

/-- R191: CLO (or CLOPEN): a free slot, or a wait for one. -/
def State.cloIssue (s : State) (n : Nat) : State := match s.freeSlotIndex with
  | some k => (s.openClause n k true).retire n
  | none => s.setWait n .clo

/-- R191, R213: a slot has become free for a CLO or a CLOPEN that waits. -/
def State.cloWaitEnd (s : State) (n : Nat) : State := match (s.seq n).wait, s.freeSlotIndex with
  | .clo, some k =>
    let q := s.seq n
    if q.verb.running then
      ((s.openClause n k (q.verb.cmd.any (fun c => bitOf c.c.toNat 0))).setWait n .none).cmdDone n true 0
    else if s.canEnd n then ((s.openClause n k true).setWait n .none).retire n else s
  | _, _ => s

/-! ### Patterns -/

/-- R193: a start (or a declining start) cannot be taken. -/
def State.playBad (s : State) (n list : Nat) (timed decline : Bool) (start : Nat) : Bool :=
  let x := s.streamOf n
  s.streamState x != Str.IDLE || (s.stream x).gather.any (fun g => g.site == n) || (decline && (s.groupOf n).isNone)
  || (!decline && list % 32 != 0) || (timed && start / 65536 < s.now + 32)

/-- R32, R193: the trouble log takes SCHED_PAST for a start that comes too late. -/
def State.playLog (s : State) (n : Nat) (timed : Bool) (start : Nat) : State :=
  if timed ∧ start / 65536 < s.now + 32 then s.log Src.SQ Lc.SCHED_PAST (detail 0 n) else s

/-- R162, R193: the site's start is counted at the barrier of its stream. -/
def State.play (s : State) (n list : Nat) (timed decline : Bool) (start : Nat) : State :=
  let x := s.streamOf n
  let q := s.stream x
  let s1 := s.setStream x { q with gather := q.gather ++ [⟨n, decline, list, if timed then some start else none⟩] }
  ((s1.setSeq n { s1.seq n with failBase := 0, cmpStale := false }).barrier x)

/-! ### The end of a program, and the host's commands -/

/-- R23, R144, R154, R200: the site enters LOADED: causes, token, waits and leases end, outputs stay. -/
def State.toLoaded (s : State) (n : Nat) : State :=
  let s1 := (((s.setSite n Site.LOADED).set (Reg.SQ_STAT.CAUSES n) 0).set (Reg.SQ_STAT.STOPPING n) 0).clearToken n
  let s2 := (s1.cancelUnits n).setSeq n { Seq.init with failBase := (s1.seq n).failBase, cmpStale := (s1.seq n).cmpStale }
  (s2.releaseFb (s2.streamOf n)).refreshLeases.follow

/-- R23, R185: END completes. -/
def State.endComplete (s : State) (n : Nat) : State := match (s.seq n).wait with
  | .finish => if s.siteState n == Site.RUNNING && !s.flag (Reg.SQ_STAT.STOPPING n) && !(s.seq n).suspended && s.patternHolds n then s.toLoaded n else s
  | _ => s

/-- R538: the first arm condition that fails, as the code it logs. -/
def State.armRefusal (s : State) (n : Nat) : Option Nat :=
  let m := s.map n
  let start := s.get (Reg.SQ_CTRL.BASE n) + 16 * s.get (Reg.SQ_CTRL.ENTRY n)
  let quads := (m.chans.map (· / 256) ++ m.supplies.map (· / 16)).eraseDups
  let x := s.streamOf n
  if s.siteState n ≠ Site.LOADED ∨ (s.mode ≠ Mode.CONTACT ∧ s.mode ≠ Mode.RUN) then some Lc.SITE_STATE
  else if s.clauseNames [Slot.PREPARING, Slot.PREPARED] n then some Lc.SITE_STATE
  else if s.contact.isSome then some Lc.CONTACT_BUSY
  else if m.chans.any (fun c => s.flag (Reg.CH_STAT.UNRESOLVED c) || s.flag (Reg.CH_GSTAT.TRIPPED c)) ∨ pmSize ≤ start then some Lc.SITE_STATE
  else if s.get Reg.LX_VEND.STATE ≠ 2 then some Lc.NO_MICROCODE
  else if quads.any (fun q => s.get (Reg.CAL_Q.STATE q) == 0 || s.get (Reg.CAL_Q.STATE q) == 4) then some Lc.CAL_NONE
  else if m.chans.any (fun c => s.get (Reg.CAL_CHS.REF_RESULT c) != 0) then some Lc.CAL_BAD
  else if m.supplies.any (fun d => s.flag (Reg.DPS_STAT.HELD_OFF d)) then some (Lc.event Ev.DPS_SENSE)
  else if (s.regionOf 1 start 16).isNone ∨ (s.flag (Reg.SO_FC_CFG.EN n)
      ∧ (s.regionOf 2 (s.get (Reg.SO_FC_CFG.BASE n)) (s.get (Reg.SO_FC_CFG.SIZE n) * 4096)).isNone) then some Lc.NO_REGION
  else if !s.flag (Reg.SO_STR_STAT.ALLOC x) ∧ s.get Reg.SO_FB.FREE_BLK < s.fbBlocks x then some Lc.FB_FULL
  else none

/-- R154: the allocation of a stream. -/
def State.allocFb (s : State) (x : Nat) : State :=
  if s.flag (Reg.SO_STR_STAT.ALLOC x) then s
  else
    let b := s.fbBlocks x
    ((s.set (Reg.SO_STR_STAT.ALLOC x) 1).set Reg.SO_FB.USED_BLK (s.get Reg.SO_FB.USED_BLK + b)).set Reg.SO_FB.FREE_BLK (s.get Reg.SO_FB.FREE_BLK - b)

/-- R21, R144, R538: ARM. -/
def State.arm (s : State) (port : Port) (n : Nat) : State := match s.armRefusal n with
  | some code => s.reject port (Reg.SQ_CMD.word n) Src.SQ code n
  | none =>
    let start := s.get (Reg.SQ_CTRL.BASE n) + 16 * s.get (Reg.SQ_CTRL.ENTRY n)
    let s1 := (s.allocFb (s.streamOf n)).setSeq n { s.seq n with region := s.regionOf 1 start 16 }
    ((s1.cancelHost n).setSite n Site.ARMED).refreshLeases

/-- A site command in a state that does not take it. -/
def State.sqReject (s : State) (port : Port) (n : Nat) : State := s.reject port (Reg.SQ_CMD.word n) Src.SQ Lc.STATE_REJECT n

/-- R199, R239: DISARM. -/
def State.disarm (s : State) (port : Port) (n : Nat) : State :=
  if s.siteState n ≠ Site.ARMED ∨ s.clauseNames [Slot.PREPARED] n then s.sqReject port n else s.toLoaded n

/-- R199: HOLD. -/
def State.hostHold (s : State) (port : Port) (n : Nat) : State :=
  if s.siteState n = Site.RUNNING ∨ s.siteState n = Site.HELD then (s.hold n Cause.HOST).follow else s.sqReject port n

/-- R199 to R201: RESUME. -/
def State.hostResume (s : State) (port : Port) (n mask : Nat) : State :=
  if s.siteState n ≠ Site.HELD then s.sqReject port n
  else (s.clearCauses n ((if mask = 0 then 0x3FF else mask) &&& resumeMask)).follow

/-- R203: the stream of a stopping site stops: at once when it is not PLAYING, and for a clone member when it takes part in nothing. -/
def State.stopStream (s : State) (n : Nat) : State :=
  let x := s.streamOf n
  let q := s.stream x
  if x < 64 then (if s.streamState x = Str.PLAYING then s else (s.endStream x).setStream x Stream.init)
  else
    let s1 := s.setStream x { q with gather := q.gather.filter (fun g => g.site != n), missed := q.missed.filter (fun m => m.1 != n) }
    let others := (s1.streamSites x).any (fun m => m != n && s1.siteLive m)
    if [Str.PRIMING, Str.PAUSED, Str.STOPPED].contains (s1.streamState x) && !others then s1.endStream x else s1

/-- R203, R220: both the sequencer and the stream of a stopping site have stopped. -/
def State.stopped (s : State) (n : Nat) : Bool :=
  let x := s.streamOf n
  (!(s.seq n).verb.running || (s.seq n).suspended) && !(s.stream x).members.contains n
    && (if x < 64 then s.streamState x == Str.IDLE else true)

/-- R203: the site enters LOADED, with its STOPPED record. -/
def State.stopComplete (s : State) (n : Nat) : State :=
  if s.flag (Reg.SQ_STAT.STOPPING n) ∧ s.stopped n then (s.event n Ev.STOPPED 0).toLoaded n else s

/-- R203: STOP. A vendor statement stops within the beat (every beat of it is a comma point); a verb runs on to its comma point. -/
def State.hostStop (s : State) (port : Port) (n : Nat) : State :=
  if !s.siteLive n then s.sqReject port n
  else if s.flag (Reg.SQ_STAT.STOPPING n) then s
  else
    let s1 := ((s.discardOpen n).set (Reg.SQ_STAT.STOPPING n) 1).clearToken n
    let q := s1.seq n
    let s2 := if q.verb.running && !q.suspended then s1 else (s1.cancelUnits n).setSeq n { q with wait := .none, verb := Verb.init, suspended := false }
    (s2.stopStream n).follow

end Sys2Proof.Machine
end

