-- ==== Sys2Proof/Machine/Vectors.lean ====
section
/-! DEFINITION. The rows of scan-out, edge timing, the pin slice and pattern memory: vectors and strobes, boundaries, fetches, regions, the
bulk port's stores, and the host's writes of their words. -/

namespace Sys2Proof.Machine

/-! ### Vectors (R33, R89, R115, R122) -/

/-- R89: every pin of the members presents K in a vector that starts at `v`. (DEDUCED, assumption 41.) -/
def State.presentK (s : State) (x v : Nat) : State :=
  let e : DriveEdges := ⟨0, 0, 0, 0, 0⟩
  s.forL ((s.stream x).members.flatMap (fun n => (s.map n).pins)) (fun p t =>
    let t1 := t.drivePin p.chan p.func v 8 e
    match t.compOf p.chan with
    | some k => if k.kind = 1 then t1.forL (k.members.drop 1) (fun m u => u.drivePin m p.func v 8 e) else t1
    | none => t1)

/-- R122, R142: the tense that a vector of the frame names, and whether it runs under the header tense in its place. -/
def State.vectorTense (s : State) (x : Nat) (h : Half) (v : Nat) (period : Nat) : Nat × Bool :=
  if !h.desc.tcol then (h.desc.tense, false)
  else
    let t := ((h.col[v]?).getD 0).toNat
    if t < 64 && s.tenseFits x t && s.streamPeriod x t == period then (t, false) else (h.desc.tense, true)

/-- R122: the reports of a substitution: counted in every engine of the stream, and one record a frame for each site. (DEDUCED, assumption 45.) -/
def State.substReports (s : State) (x frameId : Nat) : State :=
  let q := s.stream x
  let s1 := s.forL (s.streamEngines x) (fun e t => (t.inc (Reg.EE_CNT.SUBST e)).set (Reg.EE_STAT.SUBST e) 1)
  let fresh := (s.streamSites x).filter (fun n => !q.substSites.contains n)
  (s1.forL fresh (fun n t => t.event n Ev.TENSE_SUBST frameId)).setStream x { q with substSites := q.substSites ++ fresh }

/-- R33, R90, R137: vector `v` of the frame starts: every member's pins take their codes at the stream's positions. (DEDUCED, assumption 46.) -/
def State.playVector (s : State) (x : Nat) (h : Half) (v : Nat) : State :=
  let q := s.stream x
  let r := rowBytes (s.streamWidth x)
  let row := if h.desc.kind = 2 then h.rows else (h.rows.drop (v * r)).take r
  let (tns, subst) := s.vectorTense x h v q.period
  let at_ := q.t0 + v * q.period
  let w : Win := { code := 7, vector := q.vecBase + v, vif := v, frameId := h.desc.frameId, start := at_ / 65536, subst := subst, window := false, openAt := 0, closeAt := 0 }
  let s1 := if subst then s.substReports x h.desc.frameId else s
  let s2 := s1.forL q.members (fun n t => t.forL (t.map n).pins.zipIdx (fun p u => u.applyPin p.1 (rowCode row p.2) tns at_ w))
  (s2.setStream x { s2.stream x with vec := v + 1 }).set (Reg.SO_STR_POS.VECTOR x) (q.vecBase + v)

/-- A vector that starts at `t` ticks has its start in the present beat or behind it. -/
def State.begun (s : State) (t : Nat) : Bool := decide (t ≤ s.now * 65536 + 65535)

/-- R89: vector `q.vec` of a run of `n` hold vectors that ends at `q.endAt`. (DEDUCED, assumption 48.) -/
def State.holdVector (s : State) (x n : Nat) : State :=
  let q := s.stream x
  let v := q.endAt - (n - q.vec) * q.period
  if q.vec < n ∧ s.begun v then let t := s.presentK x v; t.setStream x { t.stream x with vec := q.vec + 1 } else s

/-- The next vector of a PLAYING stream starts: of the frame in play, after the hold vector of R123 before it, when its instant has come; or
a hold vector of K. -/
def State.vectorStart (s : State) (x : Nat) : State :=
  let q := s.stream x
  if s.streamState x ≠ Str.PLAYING then s
  else match q.phase, q.cur with
    | .frame, some h =>
      if q.lead ≠ 0 then
        (if s.begun (q.t0 - q.lead) then let t := s.presentK x (q.t0 - q.lead); t.setStream x { t.stream x with lead := 0 } else s)
      else if q.vec < h.desc.count ∧ s.begun (q.t0 + q.vec * q.period) then s.playVector x h q.vec
      else s
    | .holdFrame, _ => s.holdVector x 256
    | .underrun, _ => s.holdVector x 1
    | _, _ => s

/-- R33: VECTOR_START. -/
def execVectorStart (x : Fin 80) (s : State) : Out := .next (s.vectorStart x)

/-- R96: STROBE. The tick places the sample within its beat; nothing that a compare or a capture stores depends on it. -/
def execStrobe (c : Fin 1024) (obs : Strobe) (_tick : BitVec 16) (s : State) : Out := .next (s.strobe c obs)

/-- R99, R342: COMPARATOR_RESOLVED: `cmp` 0 to 5 a guard comparator, 6 CMP_HI, 7 CMP_LO; of a supply, 0 IH and 1 IL. -/
def execComparatorResolved (dps : Bool) (u : Fin 1024) (cmp : Fin 8) (above : Bool) (s : State) : Out :=
  .next (if dps then (if u.val < 64 ∧ cmp.val < 2 then (s.resolveDps u cmp above).follow else s) else (s.resolveChan u cmp above).follow)

/-- R101: CLAMP_HIT: the clamp of an armed channel that nothing suppresses conducts in its limit. -/
def execClampHit (c : Fin 1024) (s : State) : Out :=
  .next (if s.flag (Reg.CH_CTRL.OUT_ARM c) ∧ !s.flag (Reg.CH_STAT.TRIPPED c) ∧ !s.inPassage c ∧ !s.pmuMember c
    then s.set (Reg.CH_STAT.CLAMP_HIT c) 1 else s)

/-- R104: BUS_SWITCH_CLOSE. -/
def execBusSwitchClose (c : Fin 1024) (s : State) : Out :=
  .next (if (s.chan c).busClose.any (fun b => b ≤ s.now)
    then ((s.setChan c { s.chan c with busClose := none }).set (Reg.CH_STAT.BUS c) 1).refreshChan c else s)

/-- R104: BUS_SWITCH_DZ_END: an idle pin then presents its idle state. -/
def execBusSwitchDzEnd (c : Fin 1024) (s : State) : Out :=
  .next (if (s.chan c).busDz.any (fun b => b ≤ s.now) then (s.setChan c { s.chan c with busDz := none }).presentIdle c else s)

/-! ### Streams -/

/-- R155: a stream reads ahead: it primes or plays, or a site of a paused one is to play again (R152). -/
def State.reading (s : State) (x : Nat) : Bool :=
  s.streamState x == Str.PRIMING || s.streamState x == Str.PLAYING
  || (s.streamState x == Str.PAUSED && (s.streamSites x).any s.playing)

/-- R138, R155: DESCRIPTOR_READ. -/
def execDescriptorRead (x : Fin 80) (s : State) : Out := .next (if s.reading x then (s.descRead x).refreshLeases else s)

/-- R155: the fetch of the next frame completes in the free half. -/
def State.fetchComplete (s : State) (x : Nat) : State :=
  let q := s.stream x
  match q.queue with
  | d :: _ =>
    if !s.reading x ∨ d.err ≠ 0 ∨ q.inc.isSome ∨ s.replayable x d then s
    else
      let n := if d.kind = 2 then rowBytes (s.streamWidth x) else d.count * rowBytes (s.streamWidth x)
      let s1 := (s.memReq d.data n).memReq d.column (if d.tcol then d.count else 0)
      s1.setStream x { q with inc := some (s.fetch x d) }
  | [] => s
def execFrameFetchComplete (x : Fin 80) (s : State) : Out := .next (s.fetchComplete x)

/-- R171: FRAME_BOUNDARY of a PLAYING stream whose frame (or hold vector) has ended; of a PAUSED one, the resumption of R163. -/
def execFrameBoundary (x : Fin 80) (s : State) : Out :=
  .next (if s.streamState x = Str.PLAYING then
      (if (s.stream x).endAt ≤ s.now * 65536 + 65535 then (s.boundary x).follow.settle else s)
    else if s.streamState x = Str.PAUSED then (s.resumeStream x).follow.settle else s)

/-- R158: STREAM_START. -/
def execStreamStart (x : Fin 80) (s : State) : Out :=
  .next (if s.streamState x = Str.PRIMING ∧ (s.stream x).start.all (fun t => t / 65536 ≤ s.now) then (s.streamStart x).follow.settle else s)

/-- R165: STACK_POWER_DOWN. -/
def execStackPowerDown (k : Fin 2) (s : State) : Out := .next (s.stackDown k)

/-! ### Fail capture (R172, R174) -/

/-- R174: a write of SO_FC_CFG_s. (DEDUCED, assumption 50.) -/
def State.fcCfgWrite (s : State) (port : Port) (n : Nat) (w : Word) : State :=
  let a := Reg.SO_FC_CFG.word n
  if s.siteLive n ∨ (Reg.SO_FC_CFG.BASE n).of w % 4096 ≠ 0
      ∨ ((Reg.SO_FC_CFG.SIZE n).of w = 0 ∧ s.get (Reg.SO_FC_CFG.SIZE n) ≠ 0) then s.reject port a Src.SO Lc.STATE_REJECT n
  else
    let s1 := s.setReg a (w &&& accMask .rw a)
    let s2 := s1.setReg (Reg.SO_FC_PTR.word n) 0
    s2.set (Reg.SO_FC_PTR.CAP n) (s2.fcCap n)
def execSoFcCfgWrite (port : Port) (n : Fin 64) (w : Word) (s : State) : Out := .next (s.host port (Reg.SO_FC_CFG.word n) Src.SO n (fun t => t.fcCfgWrite port n w))

/-- R174: a write of SO_FC_PTR_s: RD within the ring. -/
def State.fcPtrWrite (s : State) (port : Port) (n : Nat) (w : Word) : State :=
  let rd := (Reg.SO_FC_PTR.RD n).of w
  if s.fcCap n ≤ rd then s.reject port (Reg.SO_FC_PTR.word n) Src.SO Lc.STATE_REJECT n else s.set (Reg.SO_FC_PTR.RD n) rd
def execSoFcPtrWrite (port : Port) (n : Fin 64) (w : Word) (s : State) : Out := .next (s.host port (Reg.SO_FC_PTR.word n) Src.SO n (fun t => t.fcPtrWrite port n w))

/-- R172: the fail counts of a site and of channels return to their reset values. -/
def State.resetFails (s : State) (n : Nat) (cs : List Nat) : State :=
  let s1 := (s.setReg (Reg.SO_FC_CNT.word n) 0).clearMarks [n]
  s1.forL cs (fun c t => t.setReg (Reg.CH_FAILCNT.word c) (resetWord (Reg.CH_FAILCNT.word c)))

/-- R172: SO_SITE_CMD_s with CLR_FAIL. (DEDUCED, assumption 51.) -/
def State.clrFail (s : State) (port : Port) (n : Nat) : State :=
  if s.siteState n = Site.RUNNING ∨ s.siteState n = Site.HELD then s.reject port (Reg.SO_SITE_CMD.word n) Src.SO Lc.STATE_REJECT n
  else s.resetFails n (s.map n).chans
def execClrFail (port : Port) (n : Fin 64) (s : State) : Out := .next (s.host port (Reg.SO_SITE_CMD.word n) Src.SO n (fun t => t.clrFail port n))

/-! ### Tenses, pattern memory and the bulk port -/

/-- R118: a direct write of EE_TWR_e stores an item in both banks. It is refused for the engine of a compound's member, of a site in
RUNNING or HELD, RESHAPING or RETIRED (R9, R120), and for a value out of range. -/
def State.eeTwrWrite (s : State) (port : Port) (e : Nat) (w : Word) : State :=
  let a := Reg.EE_TWR.word e
  if s.wordRefused a ∨ tenseWriteBad w then s.reject port a Src.EE Lc.STATE_REJECT e
  else (s.tenseWrite false e w).tenseWrite true e w
def execEeTwrWrite (port : Port) (t : Fin 1056) (w : Word) (s : State) : Out :=
  .next (s.host port (Reg.EE_TWR.word t) Src.EE t (fun u => u.eeTwrWrite port t w))

/-- R132: PM_READY: both stacks are trained. -/
def execPmReady (s : State) : Out := .next (if s.flag Reg.TB_STAT.PLL_LOCK then s.set Reg.PM_STAT.READY 1 else s)

/-- R136: a write of PM_RGN_i. -/
def execPmRgnWrite (port : Port) (i : Fin 256) (w : Word) (s : State) : Out :=
  .next (s.host port (Reg.PM_RGN.word i) Src.PM i (fun t => t.rgnWrite port i w))

end Sys2Proof.Machine
end

