-- ==== Sys2Proof/Machine/Si.lean ====
section
/-! DEFINITION. The SI block (R72 to R81, R494): the commands over the staged image, the structure that a whole load or a reshape puts in
force, what it leaves of the channels, supplies, lanes and sources that change hands, and the request for a spare (R502, R503). -/

namespace Sys2Proof.Machine

/-! ### Putting a structure in force -/

/-- CH_ID_c but for the engine, as the maps in force give it. (DEDUCED, assumption 23.) -/
def State.describe (s : State) (c : Nat) : State :=
  let base := wput (resetWord (Reg.CH_ID.word c)) 63 53 (s.engineOf c)
  match s.chanSite c with
  | none => s.setReg (Reg.CH_ID.word c) base
  | some n =>
    let (lead, size, kind) := match s.compOf c with
      | some k => (k.lead, if k.size = 2 then 1 else if k.size = 4 then 2 else 3, k.kind)
      | none => (c, 0, 0)
    let (i, p) := ((s.map n).pins.zipIdx.find? (fun q => q.1.chan == lead)).map (fun q => (q.2, q.1)) |>.getD (0, ⟨c, 0, 0⟩)
    s.setReg (Reg.CH_ID.word c) (wput (wput (wput (wput (wput (wput (wput (wput base 49 49 1) 48 43 n) 42 33 i) 32 25 p.func) 24 17 p.attr) 16 7 lead) 6 5 size) 4 4 kind)

/-- R54, R78, R87: a channel that leaves its owner, or gains one, has OUT_ARM 0 in both banks; what the host measured there ends. -/
def State.releaseChan (s : State) (c : Nat) : State :=
  let a := Reg.CH_CTRL.word c
  let was := s.flag (Reg.CH_CTRL.OUT_ARM c)
  let s1 := (s.setReg a (wput (s.reg a) 0 0 0)).setShadow a (wput (s.shadowReg a) 0 0 0)
  let s2 := ((s1.pmuCancel c).tdcCancel (s1.engineOf c)).armHook was c
  s2.setChan c { s2.chan c with wins := [] }

/-- R54: a supply that loses its owner is disconnected at 0 V. -/
def State.releaseDps (s : State) (d : Nat) : State :=
  let a := Reg.DPS_SET.word d
  let s1 := ((s.setReg a (wput (s.reg a) 32 32 0)).setShadow a (wput (s.shadowReg a) 32 32 0)).dpsCancel d
  (s1.setDps d { s1.dps d with target := 0, goal := 0, delay := none, check := none }).dpsOpen d

/-- R65, R107, R300, R318, R334: the words of compound and gang members take those of their leads. -/
def State.spreadLeads (s : State) (m : SiteMap) : State :=
  let copy : Nat → Nat → State → State := fun a b t => (t.setReg b (t.reg a)).setShadow b (t.shadowReg a)
  let s1 := s.forL m.comps (fun k t => t.forL (k.members.drop 1) (fun c u =>
    let v := u.forL [0, 1, 2, 3, 4, 0x20, 0x30, 0x31] (fun w r => copy (Reg.CH_CTRL.word k.lead + w) (Reg.CH_CTRL.word c + w) r)
    v.forN 8 (fun i r => if (r.levelFollowers k.lead i).contains c
      then ((r.set (Reg.CH_LVL.SPAN c i) (r.get (Reg.CH_LVL.SPAN k.lead i))).set (Reg.CH_LVL.CODE c i) (r.get (Reg.CH_LVL.CODE k.lead i))).levelTrigger c i
      else r)))
  s1.forL m.dps (fun p t => t.forL ((List.range p.2).drop 1) (fun i u =>
    (copy (Reg.DPS_SET.word p.1) (Reg.DPS_SET.word (p.1 + i)) (copy (Reg.DPS_CFG.word p.1) (Reg.DPS_CFG.word (p.1 + i))
      (copy (Reg.GD_DWIN.word p.1) (Reg.GD_DWIN.word (p.1 + i)) (copy (Reg.GD_DCFG.word p.1) (Reg.GD_DCFG.word (p.1 + i)) u))))))

/-- The structure in force becomes `maps`, `clones` and `routes`; every resource that changes hands is made safe. (DEDUCED, assumption 23.) -/
def State.install (s : State) (maps : List (Nat × SiteMap)) (clones routes : List (Nat × Nat)) : State :=
  let t := s.setMaps maps clones routes
  let lost := (List.range 1024).filter (fun c => s.chanSite c != t.chanSite c)
  let t1 := t.forN 1024 (fun c u => u.describe c)
  let t2 := t1.forL maps (fun p u => u.spreadLeads p.2)
  let t3 := t2.forL lost (fun c u => u.releaseChan c)
  let t4 := t3.forL ((List.range 64).filter (fun d => s.dpsSite d != t.dpsSite d)) (fun d u => u.releaseDps d)
  let t5 := t4.forL ((List.range 32).filter (fun l => (s.laneSite l).isSome && (t.laneSite l).isNone)) (fun l u => u.laneOff l)
  let t6 := t5.forL ((List.range 32).filter (fun i => s.routeOf i != t.routeOf i)) (fun i u => u.wfOff i)
  t6.forN 1024 (fun c u => (u.refreshChan c).refreshPmu c)

/-- R127: the crossbar is exactly what the SPARES entries give. A spare that serves its channel already goes on; every other substitution
ends, and then each spare that newly serves a channel takes it over from the channel's own engine. (DEDUCED, assumption 21.) -/
def State.crossbar (s : State) (spares : List (Nat × Nat)) : State :=
  let stays := fun k c => spares.any (fun p => p.1 == k && p.2 == c) && s.engineOf c == 1024 + k
  let s1 := s.forN 32 (fun k t => if (s.chanOfEngine (1024 + k)).any (stays k) then t else t.unroute (1024 + k) 0)
  let s2 := s1.forL ((List.range 1024).filter (fun c => !stays (s.engineOf c - 1024) c)) (fun c t =>
    if t.engineOf c = c then (t.set (Reg.EE_STAT.ROLE c) 1).set (Reg.EE_STAT.CHANNEL c) c else t.route c c 1)
  s2.forL (spares.filter (fun p => !stays p.1 p.2)) (fun p t => t.takeOver p.2 (1024 + p.1))

/-- SI_SITE_n for a site of the structure in force. -/
def State.describeSite (s : State) (n pcrc image : Nat) : State :=
  let m := s.map n
  let g := (s.groupOf n).map Prod.fst
  s.setReg (Reg.SI_SITE.word n) (BitVec.ofNat 128 (pcrc * 2 ^ 96 + image * 2 ^ 64 + m.lanes % 2 ^ 32 * 2 ^ 32 + m.pins.length * 2 ^ 21
    + m.supplies.length * 2 ^ 14 + b2n g.isSome * 2 ^ 8 + g.getD 0 * 2 ^ 4))

/-- The sequencer of a site after a structural change: nothing left of earlier tests (R172, R201). -/
def State.freshSite (s : State) (n st : Nat) : State :=
  (((s.setSite n st).set (Reg.SQ_STAT.CAUSES n) 0).clearToken n).setSeq n Seq.init

/-- R73: the whole structure of an image replaces the one in force. -/
def State.loadImage (s : State) (g : Img) : State :=
  let p0 := Img.part g 0
  let sites := (Img.dir g).filter (fun p => p.typ == 1)
  let maps := (sites.map (fun p => (p.site, p.siteMap g)))
  let s1 := (s.install maps (p0.clones g) (p0.routes g)).crossbar (p0.spares g)
  let s2 := s1.forN 64 (fun n t => match sites.find? (fun p => p.site == n) with
    | some p => (t.freshSite n (if p.pinCount g = 0 then Site.EMPTY else Site.LOADED)).describeSite n p.pcrc (Img.id g)
    | none => (t.freshSite n Site.EMPTY).setReg (Reg.SI_SITE.word n) 0)
  let s3 := s2.forN 64 (fun n t => t.resetFails n [])
  let s4 := s3.forN 1024 (fun c t => t.setReg (Reg.CH_FAILCNT.word c) (resetWord (Reg.CH_FAILCNT.word c)))
  s4.setReg Reg.SI_ACTIVE.word (BitVec.ofNat 128 (Img.id g * 2 ^ 96 + Img.crcField g * 2 ^ 64 + u16 g 4 * 2 ^ 48 + p0.pcrc))

/-- R494: the structure of an image with no partitions. -/
def State.clearStructure (s : State) : State :=
  let s1 := (s.install [] [] []).crossbar []
  (s1.forN 64 (fun n t => (t.freshSite n Site.EMPTY).setReg (Reg.SI_SITE.word n) 0)).setReg Reg.SI_ACTIVE.word 0

/-- R76, R77: one partition replaces what its site had. A trip that latched in this beat on a channel or supply that stays takes the site to TRIPPED. -/
def State.reshapeImage (s : State) (g : Img) (n : Nat) : State :=
  let p := Img.part g 0
  let m := p.siteMap g
  let before := (s.map n).chans; let supplies := (s.map n).supplies
  let maps := (n, m) :: s.maps.filter (fun q => q.1 != n)
  let s1 := s.install maps s.clones s.routes
  let tripped := m.chans.any (fun c => before.contains c && (s1.gd c).lastTrip == s.now + 1)
    || m.supplies.any (fun d => supplies.contains d && (s1.dgd d).lastTrip == s.now + 1)
  let st := if m.pins.isEmpty then Site.EMPTY else if tripped then Site.TRIPPED else Site.LOADED
  let s2 := (s1.freshSite n st).describeSite n p.pcrc (Img.id g)
  (s2.resetFails n (before ++ m.chans).eraseDups).event n Ev.RESHAPED (Img.id g)

/-! ### Commands -/

/-- A command of SI_CMD is turned away. -/
def State.siReject (s : State) (port : Port) (code idx : Nat) : State := s.reject port Reg.SI_CMD.word Src.SI code idx

/-- An operation of the SI block starts. -/
def State.siBegin (s : State) (op site prev : Nat) : State := { s.set Reg.SI_STAT.BUSY 1 with siOp := some ⟨op, site, prev⟩ }

/-- R70, R76, R79: an operation ends with a result: SI_STAT, SI_ERR, the log and the interrupt. -/
def State.siEnd (s : State) (op image : Nat) (e : Option ImgErr) : State :=
  let code := (e.map ImgErr.code).getD Si.OK
  let s1 := (((s.set Reg.SI_STAT.BUSY 0).set Reg.SI_STAT.RESULT code).set Reg.SI_STAT.LAST_OP op).set Reg.SI_STAT.IMAGE_ID image
  let s2 := { s1 with siOp := none }
  let s3 := match e with
    | some x => (s2.setReg Reg.SI_ERR.word (BitVec.ofNat 128 (x.off % 2 ^ 32 * 2 ^ 64 + x.sect % 2 ^ 16 * 2 ^ 48 + x.entry % 2 ^ 16 * 2 ^ 32 + x.det % 2 ^ 32))).log
        Src.SI (Lc.image code) 0
    | none => s2
  let s4 := if s3.flag Reg.SI_STAT.DONE then s3 else s3.intr Intr.SI_DONE
  s4.set Reg.SI_STAT.DONE 1

/-- R503: a substitution that is pending bars a whole load, and a reshape of the owning site. -/
def State.sparePending (s : State) (site : Option Nat) : Bool :=
  s.flag Reg.DEV_SVCSTAT.PENDING && (site.isNone || s.chanSite (s.get Reg.DEV_SVCSTAT.INDEX) == site)

/-- R73: OP = LOAD. -/
def State.siLoad (s : State) (port : Port) : State :=
  if s.flag Reg.SI_STAT.BUSY ∨ s.sparePending none then s.siReject port Lc.SI_BUSY 0
  else if s.mode ≠ Mode.SHAPE ∨ Img.partialFlag s.img
      ∨ s.anySite [Site.ARMED, Site.RUNNING, Site.HELD, Site.TRIPPED, Site.RESHAPING] then s.siReject port Lc.STATE_REJECT 0
  else s.siBegin 1 0 0

/-- R74: an action of an open clause stands on a word of a resource of the map. (DEDUCED, assumption 20.) -/
def State.actsIn (s : State) (m : SiteMap) (a : Nat) : Bool := match clWord a with
  | .ch c _ => m.chans.contains c
  | .eeCfg e | .eeTwr e | .tm e _ => s.servesAny e (fun c => m.chans.contains c)
  | .dps d _ | .gd d _ => m.supplies.contains d
  | .dl l _ => m.laneList.contains l
  | _ => false

/-- The clauses that are open (R235). -/
def State.openSlots (s : State) : List Nat := (List.range 16).filter (fun k => [Slot.OPEN, Slot.PREPARING, Slot.PREPARED].contains (s.slotState k))

/-- R74: OP = RESHAPE. (DEDUCED, assumption 20.) -/
def State.siReshape (s : State) (port : Port) (n : Nat) : State :=
  let claim := (Img.part s.img 0).siteMap s.img
  if s.flag Reg.SI_STAT.BUSY ∨ s.sparePending (some n) then s.siReject port Lc.SI_BUSY n
  else if !([Mode.SHAPE, Mode.STANDBY, Mode.READY, Mode.CONTACT, Mode.RUN].contains s.mode)
      || !([Site.EMPTY, Site.LOADED, Site.RETIRED].contains (s.siteState n)) then s.siReject port Lc.SITE_STATE n
  else if (List.range 64).any (fun i => s.holds n i) || s.clauseNames [Slot.OPEN, Slot.PREPARING, Slot.PREPARED] n
      || s.openSlots.any (fun k => (s.slot k).acts.any (fun x => s.actsIn (s.map n) x.addr || s.actsIn claim x.addr)) then
    s.siReject port Lc.SI_BUSY n
  else ((s.siBegin 2 n (s.siteState n)).set (Reg.SQ_STAT.STATE n) Site.RESHAPING)

/-- R79: OP = CHECK. -/
def State.siCheck (s : State) (port : Port) : State :=
  if s.flag Reg.SI_STAT.BUSY then s.siReject port Lc.SI_BUSY 0
  else if [Mode.RESET, Mode.SAFE, Mode.SHUTDOWN].contains s.mode then s.siReject port Lc.STATE_REJECT 0
  else s.siBegin 3 0 0

/-- R79: OP = CLEAR. (DEDUCED, assumption 21.) -/
def State.siClear (s : State) (port : Port) : State :=
  if s.flag Reg.SI_STAT.BUSY then s.siReject port Lc.SI_BUSY 0
  else { s with regs := s.regs.filter (fun p => !(Reg.SI_IMG.word 0 ≤ p.1 && p.1 < Reg.SI_IMG.word 4096)) }.siEnd 4 0 none

/-- R73, R76, R77: a whole load completes. -/
def State.loadDone (s : State) : State :=
  if !s.siOp.any (fun o => o.op == 1) then s
  else
    let e := validate s s.img none
    (if e.isNone then s.loadImage s.img else s).siEnd 1 (Img.id s.img) e

/-- R76: a reshape completes. (DEDUCED, assumption 17.) -/
def State.reshapeDone (s : State) : State := match s.siOp with
  | some o =>
    if o.op ≠ 2 then s
    else
      let e := validate s s.img (some o.site)
      ((if e.isNone then s.reshapeImage s.img o.site else s.set (Reg.SQ_STAT.STATE o.site) o.prev).siEnd 2 (Img.id s.img) e).follow
  | none => s

/-- R79: a check completes. -/
def State.checkDoneSi (s : State) : State :=
  if s.siOp.any (fun o => o.op == 3) then s.siEnd 3 (Img.id s.img) (validate s s.img none) else s

/-- R496: the event of R30 and entry to SHUTDOWN abandon a whole load or reshape in progress. (DEDUCED, assumption 21.) -/
def State.siAbandon (s : State) : State := match s.siOp with
  | some o =>
    if o.op = 3 then s
    else
      let s1 := { s.set Reg.SI_STAT.BUSY 0 with siOp := none }
      if o.op = 2 then s1.set (Reg.SQ_STAT.STATE o.site) o.prev else s1
  | none => s

def execSiCmdLoad (port : Port) (s : State) : Out := .next (s.host port Reg.SI_CMD.word Src.SI 0 (fun t => t.siLoad port))
def execSiCmdReshape (port : Port) (n : Fin 64) (s : State) : Out := .next (s.host port Reg.SI_CMD.word Src.SI n (fun t => t.siReshape port n))
def execSiCmdCheck (port : Port) (s : State) : Out := .next (s.host port Reg.SI_CMD.word Src.SI 0 (fun t => t.siCheck port))
def execSiCmdClear (port : Port) (s : State) : Out := .next (s.host port Reg.SI_CMD.word Src.SI 0 (fun t => t.siClear port))
def execLoadComplete (s : State) : Out := .next s.loadDone
def execReshapeComplete (s : State) : Out := .next s.reshapeDone
def execCheckComplete (s : State) : Out := .next s.checkDoneSi

/-! ### A spare in service (R501 to R503) -/

/-- R502: why a substitution cannot be taken: the code that is logged. -/
def State.spareRefusal (s : State) (c k : Nat) : Option Nat :=
  let f := 1024 + k
  let touches := fun a => match clWord a with
    | .eeCfg e | .eeTwr e => e == f || e == s.engineOf c
    | _ => false
  if !([Mode.SHAPE, Mode.STANDBY, Mode.READY, Mode.CONTACT, Mode.RUN, Mode.THROTTLE].contains s.mode) then some Lc.SITE_STATE
  else if s.get (Reg.EE_STAT.ROLE f) ≠ 0 ∨ k / 8 ≠ c / 256 then some Lc.SITE_STATE
  else if !s.calibrated (c / 256) then some Lc.CAL_NONE
  else if s.flag Reg.SI_STAT.BUSY then some Lc.SI_BUSY
  else if s.get (Reg.TM_STAT.STATE (s.engineOf c)) ≠ 0 then some Lc.TM_BUSY
  else if s.openSlots.any (fun j => (s.slot j).acts.any (fun x => touches x.addr)) then some Lc.SITE_STATE
  else if (s.chanSite c).any (fun n => s.siteState n == Site.RESHAPING) then some Lc.SITE_STATE
  else none

/-- R126, R503: the substitution that is pending waits for a frame boundary: its site's stream plays. -/
def State.spareWaits (s : State) : Bool :=
  (s.chanSite (s.get Reg.DEV_SVCSTAT.INDEX)).any (fun n => s.streamState (s.streamOf n) == Str.PLAYING)

/-- A service command is turned away. -/
def State.svcReject (s : State) (port : Port) (code idx : Nat) : State := s.reject port Reg.DEV_SVC.word Src.DEV code idx

/-- A service operation is accepted. -/
def State.svcBegin (s : State) (cmd idx k : Nat) : State := ((s.set Reg.DEV_SVCSTAT.LAST_CMD cmd).set Reg.DEV_SVCSTAT.INDEX idx).set Reg.DEV_SVCSTAT.SPARE k

/-- R502, R503: DEV_SVC SPARE. -/
def State.svcSpare (s : State) (port : Port) (c k : Nat) : State :=
  if s.flag Reg.DEV_SVCSTAT.PENDING then s.svcReject port Lc.STATE_REJECT c
  else match s.spareRefusal c k with
  | some code => s.svcReject port code c
  | none =>
    let t := (s.svcBegin 1 c k).set Reg.DEV_SVCSTAT.PENDING 1
    if (s.chanSite c).any (fun n => s.siteState n == Site.RUNNING) && t.spareWaits then t else t.switchOver

/-- R503: a substitution whose stream has left PLAYING, or stands at a frame boundary, takes place. (DEDUCED, assumption 82.) -/
def State.spareDue (s : State) : State :=
  if !s.flag Reg.DEV_SVCSTAT.PENDING then s
  else match s.chanSite (s.get Reg.DEV_SVCSTAT.INDEX) with
  | none => s.switchOver
  | some n =>
    let q := s.stream (s.streamOf n)
    if !s.spareWaits || decide (beatOf q.endAt ≤ s.now) || beatOf q.t0 == s.now then s.switchOver else s

def execSwitchOver (s : State) : Out := .next s.spareDue
def execDevSvcSpare (port : Port) (c : BitVec 10) (k : BitVec 5) (s : State) : Out :=
  .next (s.host port Reg.DEV_SVC.word Src.DEV c.toNat (fun t => t.svcSpare port c.toNat k.toNat))

/-- R501: DEV_SVC CANCEL withdraws a pending substitution. (DEDUCED, assumption 83.) -/
def State.svcCancel (s : State) (port : Port) : State :=
  if s.flag Reg.DEV_SVCSTAT.PENDING then (s.set Reg.DEV_SVCSTAT.LAST_CMD 3).svcEnd 1 else s.svcReject port Lc.STATE_REJECT 0
def execDevSvcCancel (port : Port) (s : State) : Out := .next (s.host port Reg.DEV_SVC.word Src.DEV 0 (fun t => t.svcCancel port))

/-- R504: a site can be retired. -/
def State.retirable (s : State) (n : Nat) : Bool :=
  decide (n < 64) && (s.siteState n == Site.LOADED || (s.siteState n == Site.HELD && !bitOf (s.get (Reg.SQ_STAT.CAUSES n)) Cause.LEASE))
  && (s.seq n).wait == .none && !((s.seq n).verb.running && s.siteState n == Site.RUNNING)
  && !s.flag (Reg.SO_SITE_STAT.IN_STREAM n) && !s.flag (Reg.SO_SITE_STAT.PENDING n)
  && !s.clauseNames [Slot.PREPARING, Slot.PREPARED] n
  && (s.map n).chans.all (fun c => !s.flag (Reg.CH_CTRL.OUT_ARM c) || s.flag (Reg.CH_STAT.TRIPPED c))
  && (s.map n).supplies.all (fun d => (!s.flag (Reg.DPS_STAT.CONN d) && !s.flag (Reg.DPS_SET.CONN d)) || s.flag (Reg.DPS_STAT.TRIPPED d))
  && (s.map n).laneList.all (fun l => s.laneState l == Ln.OFF)
  && !s.flag Reg.SI_STAT.BUSY

/-- R505: a site is retired. -/
def State.retireSite (s : State) (n : Nat) : State :=
  let trips := ((s.map n).chans.filter (fun c => s.flag (Reg.CH_STAT.TRIPPED c))).length + ((s.map n).supplies.filter (fun d => s.flag (Reg.DPS_STAT.TRIPPED d))).length
  let x := s.streamOf n
  let s1 := ((s.discardOpen n).clearToken n)
  let s2 := if x < 64 ∧ s1.streamState x = Str.PAUSED then s1.endStream x else s1
  let s3 := (s2.freshSite n Site.RETIRED).set (Reg.SQ_STAT.STOPPING n) 0
  (((s3.releaseFb x).refreshLeases).event n Ev.SITE_RETIRED trips).log Src.DEV (Lc.event Ev.SITE_RETIRED) (detail 0 n)

/-- R504: DEV_SVC RETIRE. -/
def State.svcRetire (s : State) (port : Port) (n : Nat) : State :=
  if s.flag Reg.DEV_SVCSTAT.PENDING then s.svcReject port Lc.STATE_REJECT n
  else if s.flag Reg.SI_STAT.BUSY then s.svcReject port Lc.SI_BUSY n
  else if !s.retirable n then s.svcReject port Lc.SITE_STATE n
  else (((s.svcBegin 2 n 0).retireSite n).svcEnd 0).follow
def execDevSvcRetire (port : Port) (n : BitVec 10) (s : State) : Out :=
  .next (s.host port Reg.DEV_SVC.word Src.DEV n.toNat (fun t => t.svcRetire port n.toNat))

end Sys2Proof.Machine
end

