-- ==== Sys2Proof/Machine/Verb.lean ====
section
/-! DEFINITION. Customer verbs (R208 to R222): dispatch, the microword, comma checks, the stop of a verb, and the commands a verb issues. -/

namespace Sys2Proof.Machine

/-- R207: the fault reason of a microword. -/
def Reason.MICRO : Nat := 0x06

/-- R207, R210, R212: a fault of the verb with reason MICRO. (DEDUCED, assumption 59.) -/
def State.microFault (s : State) (n : Nat) : State := s.fault n Reason.MICRO Reason.MICRO

/-- Change the verb engine of a site. -/
def State.setVerb (s : State) (n : Nat) (v : Verb) : State := s.setSeq n { s.seq n with verb := v }

/-- R215, R216: dispatch of a customer opcode: the verb is bound to the active bank; V0 to V7 and LC are undefined (assumption 1). -/
def State.dispatch (s : State) (n : Nat) (stmt : Word) : State :=
  let b := s.activeBank
  let e := s.bankEntry b (wget stmt 127 120)
  let vs := (List.range 8).foldl (fun m k => sset (fun _ => (0 : Word)) m k (Config.freeValue (s.freeCtr + k))) []
  let v : Verb := { Verb.init with
    running := true, stmt := stmt, upc := e % 65536, bank := b, v := vs, lc := (Config.freeValue (s.freeCtr + 8)).toNat % 2 ^ 32
    checkAt := s.now, resumable := bitOf e 17 }
  { s.setVerb n v with freeCtr := s.freeCtr + 9 }

/-! ### Stops -/

/-- R218: the commands that a stop cancels: RDREG, RDPROG, CLTAB, MEAS, TMEAS and LTEST. -/
def cancelled (code : Nat) : Bool := [0x06, 0x07, 0x03, 0x0A, 0x0B, 0x0C].contains code

/-- R219, R221: the token of a verb: its resume address and whether it may resume. -/
def State.verbToken (s : State) (n mwa : Nat) (res : Bool) : State :=
  (s.storeToken n mwa).set (Reg.SQ_TOKEN.RESUMABLE n) (b2n res)

/-- R218, step 2: the site's open clause when it is local to its verb. -/
def State.localOpen (s : State) (n : Nat) : Bool := (s.seq n).clause.isSome && !(s.seq n).span

/-- R218, step 4: the command in progress is cancelled when it is one of those a stop cancels; it then reads as R219 says. -/
def State.cancelCmd (s : State) (n : Nat) : State :=
  let q := s.seq n
  if q.verb.cmd.any (fun c => cancelled c.code) then
    (s.cancelUnits n).setSeq n { q with wait := .none, verb := { q.verb with done := true, ok := false, result := 0, cmd := none, busy := false } }
  else s

/-- R218, R220: the verb of a site stops at a comma point with resume address `mwa`. -/
def State.verbStop (s : State) (n mwa : Nat) : State :=
  let lost := s.localOpen n
  let s1 := (if lost then s.discardOpen n else s).cancelCmd n
  let q := s1.seq n
  if s1.flag (Reg.SQ_STAT.STOPPING n) then (s1.cancelUnits n).setSeq n { q with wait := .none, verb := Verb.init }
  else
    (s1.verbToken n mwa (q.verb.resumable && !lost)).setSeq n
      { q with suspended := true, verb := { q.verb with upc := mwa % 65536, waiting := none } }

/-- R217: what a comma check sees stops the verb: a hold cause, a trip, or STOPPING. -/
def State.mustStop (s : State) (n : Nat) : Bool :=
  s.get (Reg.SQ_STAT.CAUSES n) != 0 || s.siteState n == Site.TRIPPED || s.flag (Reg.SQ_STAT.STOPPING n)

/-! ### The microword -/

/-- R209: the value of a source code. -/
def State.source (s : State) (n : Nat) (w : MicroWord) (code : Nat) : Word :=
  let v := (s.seq n).verb
  let i := Stmt.of v.stmt
  match code with
  | 0x01 => w.lit
  | 0x02 => s.getX n i.xa
  | 0x03 => s.getX n i.xb
  | 0x04 => s.getX n i.xd
  | 0x05 => i.immS
  | 0x06 => BitVec.ofNat 128 i.imm
  | 0x07 => BitVec.ofNat 128 i.aux
  | 0x08 => BitVec.ofNat 128 s.captureTime
  | 0x09 => BitVec.ofNat 128 (s.get (Reg.SQ_STAT.ST n))
  | 0x0A => v.result
  | 0x0B => BitVec.ofNat 128 (s.pc n)
  | 0x0C => BitVec.ofNat 128 v.lc
  | c => if 0x10 ≤ c then sget (fun _ => 0) v.v (c - 0x10) else 0

/-- R209: write a result to its destination. A word that both decrements LC and writes it leaves it undefined (assumption 1). -/
def State.writeDst (s : State) (n : Nat) (w : MicroWord) (r : Word) : State :=
  let v := (s.seq n).verb
  match w.dst with
  | 0x04 => s.setX n (Stmt.of v.stmt).xd r
  | 0x09 => s.setSt n (r.toNat % 256)
  | 0x0B => s.setVerb n { v with nextPc := some (r.toNat % 2 ^ 20) }
  | 0x0C => if w.lcdec then (s.setVerb n { v with lc := s.freeVal.toNat % 2 ^ 32 }).bumpFree else s.setVerb n { v with lc := r.toNat % 2 ^ 32 }
  | c => if 0x10 ≤ c then s.setVerb n { v with v := sset (fun _ => 0) v.v (c - 0x10) r } else s

/-- R211: the condition of a word, by that word's result, carry and decremented LC. -/
def State.microCond (s : State) (n : Nat) (w : MicroWord) (r : Word) (carry : Bool) (lc : Nat) : Bool :=
  let q := s.seq n
  let facts := [r == 0, r.msb, carry, lc == 0, q.verb.done, q.verb.ok, s.get (Reg.SQ_STAT.CAUSES n) != 0, s.siteState n == Site.TRIPPED, q.clause.isSome]
  ((condition w.cond facts).getD false) != w.cinv

/-- R208 to R213: the word acts: its ALU, destination and command, and then its next address. (DESIGN CHOICE, assumption 56; DEDUCED, assumption 60.) -/
def State.microAct (s : State) (n : Nat) (w : MicroWord) : State :=
  let v := (s.seq n).verb
  let a := s.source n w w.srcA
  let b := s.source n w w.srcB
  match aluResult w.aluOp a b with
  | none => s.microFault n
  | some r =>
    let carry := aluCarry w.aluOp a b
    let lc := if w.lcdec then (v.lc + 2 ^ 32 - 1) % 2 ^ 32 else v.lc
    let hit := s.microCond n w r carry lc
    if w.nxt = 6 ∧ !hit then s.setVerb n { v with words := v.words + 1, waiting := some s.now }
    else if w.nxt = 7 ∨ (w.nxt = 3 ∧ 4 ≤ v.ustack.length) ∨ (w.nxt = 4 ∧ v.ustack.isEmpty) then s.microFault n
    else
      let cmd := if w.ext = 0 then v.cmd else some ⟨w.ext, a, b, s.source n w w.srcC⟩
      let v1 : Verb := { v with
        lc := lc, z := r == 0, neg := r.msb, carry := carry, words := v.words + 1, waiting := none, cmd := cmd
        done := v.done && w.ext == 0, busy := v.busy && w.ext == 0 }
      let s1 := (s.setVerb n v1).writeDst n w r
      let s2 := if [w.srcA, w.srcB, w.srcC].contains 0x08 then s1.bumpFree else s1
      let v2 := (s2.seq n).verb
      let next := (v.upc + 1) % 65536
      match w.nxt with
      | 1 => s2.setVerb n { v2 with upc := w.na }
      | 2 => s2.setVerb n { v2 with upc := if hit then w.na else next }
      | 3 => s2.setVerb n { v2 with upc := w.na, ustack := next :: v.ustack }
      | 4 => s2.setVerb n { v2 with upc := v.ustack.headD 0, ustack := v.ustack.tail }
      | 5 => if v2.done then s2.verbRetire n else s2.setVerb n { v2 with retire := true }
      | _ => s2.setVerb n { v2 with upc := next }

/-- R217: the next word begins with a comma check: it has COMMA, it is the word a verb resumes at, or it is a WAIT word that a beat
boundary has come to. (DESIGN CHOICE, assumption 56.) -/
def State.checkDue (s : State) (n : Nat) (w : MicroWord) : Bool :=
  let v := (s.seq n).verb
  (w.comma && v.waiting.isNone) || v.recheck || v.waiting.any (· < s.now)

/-- R221: the cycles since the last comma check have reached 65,536. (DESIGN CHOICE, assumption 56.) -/
def State.starved (s : State) (n : Nat) : Bool :=
  let v := (s.seq n).verb
  let due := s.checkDue n (s.mword v.bank v.upc)
  if due then v.checkAt + 4096 < s.now || 65536 < v.words else v.checkAt + 4096 ≤ s.now || 65536 ≤ v.words

/-- R208: the verb of a site can execute its next word. -/
def State.microReady (s : State) (n : Nat) : Bool :=
  let q := s.seq n
  q.verb.running && !q.suspended && !q.verb.retire

/-- R208: a verb executes one microword. A word that issues a command while one is in progress stalls (R213). (DESIGN CHOICE, assumption 56.) -/
def State.microword (s : State) (n : Nat) : State :=
  if !s.microReady n || s.starved n then s
  else
    let v := (s.seq n).verb
    let w := s.mword v.bank v.upc
    if s.mwordBad v.bank v.upc then (s.log Src.CS Lc.CS_UNCORR (detail 0 v.upc)).microFault n
    else if s.checkDue n w then
      if s.mustStop n then s.verbStop n (if w.nxt = 6 ∧ v.waiting.isSome then w.na else v.upc)
      else
        let t := s.setVerb n { v with words := 0, checkAt := s.now, recheck := false, waiting := if v.waiting.isSome then some s.now else none }
        if w.ext ≠ 0 ∧ !v.done then t else t.microAct n w
    else if w.ext ≠ 0 ∧ !v.done then s
    else s.microAct n w

/-- R221: 65,536 cycles without a comma check. -/
def State.starve (s : State) (n : Nat) : State :=
  if !s.microReady n || !s.starved n then s
  else
    let v := (s.seq n).verb
    let s1 := ((if s.localOpen n then s.discardOpen n else s).verbToken n v.upc false)
    let s2 := s1.setSeq n { s1.seq n with suspended := true }
    let s3 := ((s2.hold n Cause.STARVE).log Src.SQ (Lc.event Ev.COMMA_STARVE) (detail 0 n) 3).event n Ev.COMMA_STARVE v.upc
    (s3.inc Reg.LX_CNT.STARVE).follow

/-! ### Commands (R213) -/

/-- R213: the command `code` that the verb of a site has issued, if it has still to act. -/
def State.issued (s : State) (n code : Nat) : Option ExtCmd :=
  let v := (s.seq n).verb
  if v.running ∧ !v.busy then v.cmd.filter (fun c => c.code == code) else none

/-- R213: command `code` acts: `bad` gives its fault, `run` its effect. -/
def State.command (s : State) (n code : Nat) (bad : ExtCmd → State → Option (Nat × Nat)) (run : ExtCmd → State → State) : State :=
  match s.issued n code with
  | none => s
  | some c => match bad c s with
    | some (r, v) => s.fault n r v
    | none => run c (s.setVerb n { (s.seq n).verb with busy := true })

/-- R191, R220: a clause command without an open clause is a fault, but after a trip it completes with OK = 0. -/
def State.extClauseBad (s : State) (n : Nat) : Option (Nat × Nat) :=
  operandBad ((s.seq n).clause.isNone && s.siteState n != Site.TRIPPED)

/-- R213, R220: a clause command's effect, or its completion without one. -/
def State.onClause (s : State) (n : Nat) (f : State → State) : State := if (s.seq n).clause.isNone then s.cmdDone n false 0 else f s

/-- R213: the measurement that a MEAS or TMEAS command asks for. -/
def ExtCmd.meas (c : ExtCmd) : MeasReq := MeasReq.of (wget c.a 21 0) (wget c.a 111 80) (wget c.a 79 64) c.b

/-- R213: the low bit field of an operand. -/
def ExtCmd.bit (c : ExtCmd) (i : Nat) : Bool := bitOf c.c.toNat i

/-- R213: CLOPEN. -/
def State.cmdClopen (s : State) (n : Nat) (c : ExtCmd) : State := match s.freeSlotIndex with
  | some k => (s.openClause n k (c.bit 0)).cmdDone n true 0
  | none => s.setWait n .clo

/-- R213: CLACT. -/
def State.cmdClact (s : State) (n : Nat) (c : ExtCmd) : State :=
  s.onClause n (fun t => (t.stageOne n ⟨wget c.c 23 0, c.a, c.b⟩).cmdDone n true 0)

/-- R213: CLTAB. -/
def State.cmdCltab (s : State) (n : Nat) (c : ExtCmd) : State :=
  s.onClause n (fun t => (t.stageTable n (wget c.b 19 0) (wget c.a 12 0)).cmdDone n true 0)

/-- R213: the faults of CLTAB. -/
def State.cltabBad (s : State) (n : Nat) (c : ExtCmd) : Option (Nat × Nat) :=
  if (s.seq n).clause.isNone then s.extClauseBad n else s.tableBad n (wget c.b 19 0) (wget c.a 12 0)

/-- R213: CLCOMMIT. -/
def State.cmdClcommit (s : State) (n : Nat) (c : ExtCmd) : State :=
  s.onClause n (fun t => t.closeClause n 0 (wget c.a 79 16) (c.bit 0) (wget c.b 15 0))

/-- R213: CLDISCARD. -/
def State.cmdCldiscard (s : State) (n : Nat) : State := s.onClause n (fun t => (t.discardOpen n).cmdDone n true 0)

/-- R213: RDREG. -/
def State.cmdRdreg (s : State) (n : Nat) (c : ExtCmd) : State := (s.cmdDone n true (s.readWord (wget c.a 23 0))).bumpFree

/-- R213: RDPROG. -/
def State.cmdRdprog (s : State) (n : Nat) (c : ExtCmd) : State := s.cmdDone n true (s.mem16 (s.stmtAddr n (wget c.a 19 0)))

/-- R213: REC. -/
def State.cmdRec (s : State) (n : Nat) (c : ExtCmd) : State :=
  (s.ownRecord n (wget c.c 3 0) (wget c.c 13 4) (c.bit 14) (wget c.a 47 0)).cmdDone n true 0

/-- R213: the list and the start of PLAY. -/
def ExtCmd.list (c : ExtCmd) : Nat := wget c.a 34 0
def ExtCmd.start (c : ExtCmd) : Nat := wget c.b 79 0

/-- R193, R213: PLAY: a start that comes too late is also logged. -/
def State.cmdPlay (s : State) (n : Nat) : State :=
  match s.issued n 0x09 with
  | none => s
  | some c =>
    if s.playBad n c.list (c.bit 0) (c.bit 1) c.start then (s.playLog n (c.bit 0) c.start).fault n Reason.OPERAND Reason.OPERAND
    else ((s.setVerb n { (s.seq n).verb with busy := true }).play n c.list (c.bit 0) (c.bit 1) c.start).cmdDone n true 0

/-- R213: MEAS, TMEAS and LTEST. -/
def State.cmdMeas (s : State) (n : Nat) (c : ExtCmd) : State := (s.startMeas n c.meas).waitUnits n 0 c.meas.count
def State.cmdTmeas (s : State) (n : Nat) (c : ExtCmd) : State := (s.startTmeas n c.meas).waitUnits n 0 c.meas.count
def State.cmdLtest (s : State) (n : Nat) (c : ExtCmd) : State :=
  (s.ltestStart (wget c.a 4 0) n (wget c.a 111 64) (wget c.b 47 0)).waitUnits n 0 1

/-- R213: ACC. -/
def State.cmdAcc (s : State) (n : Nat) (c : ExtCmd) : State :=
  let t := s.cmdDone n true (s.accValue n (wget c.c 2 1))
  if c.bit 0 then t.accReset n else t

/-- R213: HOLD. -/
def State.cmdHold (s : State) (n : Nat) (c : ExtCmd) : State :=
  (((s.userHold n (wget c.a 47 0)).cmdDone n true 0).hold n Cause.USER).follow

/-- R213: END. -/
def State.cmdEnd (s : State) (n : Nat) : State := (s.discardOpen n).setWait n .finish

/-- R213: ARMF and ARMP give the beat of their timeout. -/
def State.cmdArmf (s : State) (n : Nat) (c : ExtCmd) : State := s.waitFollow n 0 (wget c.a 47 0) (wget c.b 79 16)
def State.cmdArmp (s : State) (n : Nat) (c : ExtCmd) : State := s.setWait n (.pattern 0 (wget c.b 79 16) (c.bit 0))

/-- R213: PUSHPC and POPPC. -/
def State.cmdPushpc (s : State) (n : Nat) (c : ExtCmd) : State := (s.pushPc n (wget c.a 19 0)).cmdDone n true 0
def State.cmdPoppc (s : State) (n : Nat) : State :=
  let p := s.popPc n
  p.2.cmdDone n true (BitVec.ofNat 128 p.1)

/-- R187, R213: FAULT with reason UNCORR names no failing address; the manual leaves the value of its record open (assumption 1). -/
def State.cmdFault (s : State) (n : Nat) (c : ExtCmd) : State :=
  let r := wget c.c 7 0
  if r = Reason.UNCORR then (s.faultBy n r (fun t => t.event n Ev.PM_UNCORR (s.freeVal.toNat % 2 ^ 40))).bumpFree else s.fault n r r

/-- R213: the reasons that FAULT may give. -/
def faultReasonBad (r : Nat) : Bool := !((1 ≤ r && r ≤ 6) || 0x80 ≤ r)

end Sys2Proof.Machine
end

