-- ==== Sys2Proof/Machine/Timebase.lean ====
section
/-! DEFINITION. The timebase (R27 to R53): the beat counter, the Amistan Sync receiver with its framing, the frames it acts on, the frames a root
or a leaf launches, and the follow counters. -/

namespace Sys2Proof.Machine

/-! ### Frames (R36, R37) -/

/-- The bits [hi:lo] of a sync frame. -/
def fr (f : BitVec 64) (hi lo : Nat) : Nat := bitsOf f.toNat lo (hi + 1 - lo)

/-- R36: START and CRC of a frame are good. -/
def startOk (f : BitVec 64) : Bool := fr f 63 56 == 0xD2
def frameOk (f : BitVec 64) : Bool := startOk f && crc8Frame f == fr f 7 0

/-- R36: a frame as the root or a leaf launches it, HOP 0; `payload` is bits [47:8]. -/
def mkFrame (kind payload : Nat) : BitVec 64 :=
  let f : BitVec 64 := BitVec.ofNat 64 (0xD2 * 2 ^ 56 + kind % 16 * 2 ^ 52 + payload % 2 ^ 40 * 2 ^ 8)
  f ||| BitVec.ofNat 64 (crc8Frame f)

/-- R37: frame kinds. -/
def Fk.IDLE : Nat := 0
def Fk.EPOCH : Nat := 1
def Fk.COMMIT : Nat := 2
def Fk.ABORT : Nat := 3
def Fk.SNAPSHOT : Nat := 4
def Fk.HOLD : Nat := 5
def Fk.RELEASE : Nat := 6
def Fk.STATUS : Nat := 8

/-- R37: the payload of a command frame: its tag and beat[23:0]. -/
def cmdPayload (tag beat : Nat) : Nat := tag % 2 ^ 16 * 2 ^ 24 + beat % 2 ^ 24
/-- R37: the tag and the beat field of a command frame. -/
def frTag (f : BitVec 64) : Nat := fr f 47 32
def frBeat (f : BitVec 64) : Nat := fr f 31 8

/-- The site, or a role. -/
def State.role (s : State) : Nat := s.get Reg.TB_CTRL.ROLE

/-- R35: SYNC_IN is received. -/
def State.listening (s : State) : Bool := s.role != Role.ISOLATED && s.flag Reg.TB_CTRL.SYNC_EN

/-! ### Framing (R41, R42, R45) -/

/-- R45: a scheduled command is outstanding: a clause that waits for its decision, a snapshot or a hold to come. (DEDUCED, assumption 33.) -/
def State.outstanding (s : State) : Bool :=
  !s.snaps.isEmpty || !s.tb.holds.isEmpty
  || (List.range 16).any (fun k => (s.slotState k == Slot.PREPARING || s.slotState k == Slot.PREPARED) && s.slotMulti k && (s.slot k).dec.isNone)

/-- R41: the receiver goes to UNFRAMED; leaving LOCKED is SYNC_LOST. -/
def State.unframe (s : State) : State :=
  let s1 := if s.get Reg.TB_STAT.LOCK = 2 then (s.set Reg.TB_STAT.SYNC_LOST 1).log Src.TB Lc.SYNC_LOST 0 2 else s
  { s1.set Reg.TB_STAT.LOCK 0 with tb := { s1.tb with good := 0, bad := 0 } }

/-- R41, R45: framing is lost by bad frames. -/
def State.loseFraming (s : State) : State := if s.outstanding then s.unframe.alert Alert.TIMEBASE else s.unframe

/-- R41, R53: a bad frame slot is counted, and two in a row lose the framing. (DEDUCED, assumption 34.) -/
def State.badFrame (s : State) (x : BitVec 64) : State :=
  if s.get Reg.TB_STAT.LOCK = 0 then { s with tb := { s.tb with good := 0 } }
  else
    let s1 := if startOk x then s.inc Reg.TB_SYNC_ERR.CRC_ERR else if fr x 63 56 = 0x2D then s else s.inc Reg.TB_SYNC_ERR.START_ERR
    let s2 := if startOk x ∧ fr x 55 52 = Fk.SNAPSHOT then s1.snapMissed (frTag x) else s1
    if 1 ≤ s.tb.bad then s2.loseFraming else { s2 with tb := { s2.tb with bad := s.tb.bad + 1 } }

/-- The frame as received, after the inversion in force. -/
def State.rxBits (s : State) (f : BitVec 64) : BitVec 64 := if s.flag Reg.TB_STAT.SYNC_INV then ~~~f else f

/-- R42: the complement of a frame is good, and its inversion is allowed. (DEDUCED, assumption 32.) -/
def State.rxInverted (s : State) (f : BitVec 64) : Bool := s.flag Reg.TB_CTRL.SYNC_INV_AUTO && frameOk (~~~(s.rxBits f))

/-- R42: SYNC_IN is inverted from then on. (DEDUCED, assumption 32.) -/
def State.invertSync (s : State) : State :=
  (s.set Reg.TB_STAT.SYNC_INV (1 - s.get Reg.TB_STAT.SYNC_INV)).log Src.TB Lc.SYNC_INVERTED 0 2

/-- The frame if it is good: as received, or complemented under R42. (DEDUCED, assumption 38.) -/
def State.rxGood (s : State) (f : BitVec 64) : Option (BitVec 64) :=
  if frameOk (s.rxBits f) then some (s.rxBits f) else if s.rxInverted f then some (~~~(s.rxBits f)) else none

/-- R41: a good frame at bit offset `off` while UNFRAMED. -/
def State.framing (s : State) (off : Nat) : State :=
  let k := if off = s.tb.offset then s.tb.good + 1 else 1
  if 4 ≤ k then { s.set Reg.TB_STAT.LOCK 1 with tb := { s.tb with good := 0, bad := 0, offset := off } }
  else { s with tb := { s.tb with good := k, offset := off } }

/-- R37, R41, R42, R44, R53: a frame arrives at bit offset `off`: a good one of the kinds `ks` is counted and, while the receiver is FRAMED or
LOCKED, acted on with `act`; a good one of another kind is the matter of another command. (DEDUCED, assumption 36.) -/
def State.rxFrame (s : State) (f : BitVec 64) (off : Nat) (ks : List Nat) (act : BitVec 64 → State → State) : State :=
  let framed := s.get Reg.TB_STAT.LOCK != 0
  if !s.listening || (framed && off != s.tb.offset) then s
  else match s.rxGood f with
    | none => s.badFrame (s.rxBits f)
    | some x =>
      if !ks.contains (fr x 55 52) then s
      else
        let s1 := (if frameOk (s.rxBits f) then s else s.invertSync).set Reg.TB_STAT.HOP (fr x 51 48)
        if !framed then
          let s2 := s1.framing off
          if fr x 55 52 = Fk.SNAPSHOT then s2.snapMissed (frTag x) else s2
        else act x { s1.inc Reg.TB_SYNC_ERR.FRAMES_OK with tb := { s1.tb with bad := 0 } }

/-! ### The counter (R29, R44) -/

/-- R40: the root's launch beat of a frame captured complete in the present beat. -/
def State.launchOf (s : State) (hop : Nat) : Nat := s.now - 64 * (hop + 1)

/-- R44: the counter takes a value and is valid. -/
def State.setCounter (s : State) (b : Nat) : State := { s.set Reg.TB_STAT.CNT_VALID 1 with beat := BitVec.ofNat 64 b }

/-- R38, R44: the holds and releases whose beat has come act on every site that receives no vectors; the others wait for their boundary. (DEDUCED, assumption 30.) -/
def State.dueHolds (s : State) : State := (s.actHolds (fun p => decide (p.beat ≤ s.now) && !s.inPlay p.site)).follow

/-- Queue a hold or a release of sites from beat `b` on. (DEDUCED, assumption 30.) -/
def State.queueHolds (s : State) (ns : List Nat) (b cause : Nat) (release : Bool) : State :=
  { s with tb := { s.tb with holds := s.tb.holds ++ ns.map (fun n => ⟨n, b, cause, release⟩) } }

/-- R44: a slip; `b` is the beat that the frame gives for the present one. (DEDUCED, assumption 31.) -/
def State.slip (s : State) (b : Nat) : State :=
  let s1 := ((s.set Reg.TB_STAT.SLIP 1).log Src.TB Lc.SYNC_SLIP 0 2).alert Alert.TIMEBASE
  if s.anySite [Site.RUNNING, Site.HELD] then
    (s1.queueHolds ((List.range 64).filter (fun n => s.siteState n == Site.RUNNING)) s.now Cause.SLIP false).dueHolds
  else s1.setCounter b

/-- R44: an EPOCH frame. (DEDUCED, assumption 31.) -/
def State.onEpoch (s : State) (x : BitVec 64) : State :=
  let hop := fr x 51 48
  let b := fr x 47 8 * 2 ^ 20 + 64 * (hop + 1)
  let lock := s.set Reg.TB_STAT.LOCK 2
  if !s.cntValid then (if s.role = Role.LEAF then lock.setCounter b else s)
  else if bitsOf (s.launchOf hop) 20 40 = fr x 47 8 then lock
  else if s.anySite [Site.RUNNING, Site.HELD] then s.slip b else lock.slip b

/-- R44: an IDLE frame is checked against beat[45:6] of its launch. (DEDUCED, assumption 31.) -/
def State.onIdle (s : State) (x : BitVec 64) : State :=
  let hop := fr x 51 48
  let l := s.launchOf hop
  if !s.cntValid ∨ bitsOf l 6 40 = fr x 47 8 then s
  else s.slip (l / 2 ^ 46 * 2 ^ 46 + fr x 47 8 * 64 + 64 * (hop + 1))

/-- R246: a COMMIT or ABORT frame, acted on while LOCKED. -/
def State.onDecision (s : State) (commit : Bool) (x : BitVec 64) : State :=
  if s.locked then (s.decision commit (frTag x) (frBeat x)).follow else s

/-- R395, R398: a SNAPSHOT frame. `record` is the RECORD of its origin's write, which R398 lets the frame carry and for which the layout of R36 and R37
names no bit; on the root the request itself says it. (DEDUCED, assumption 34; DEDUCED, assumption 101.) -/
def State.onSnapshot (s : State) (record : Bool) (x : BitVec 64) : State :=
  let tag := frTag x; let beat := resolve24 s.now (frBeat x)
  let own := s.tb.snapOrigin.filter (fun p => p.tag == tag && p.beat == beat)
  let s1 : State := { s with tb := { s.tb with snapOrigin := s.tb.snapOrigin.filter (fun p => !(p.tag == tag && p.beat == beat)) } }
  if !s.locked ∨ 8 ≤ s1.snapsPending then s1.snapMissed tag else s1.schedule beat tag (if own.isEmpty then record else own.any PendSnap.record)

/-- R38: a HOLD or RELEASE frame. (DEDUCED, assumption 30.) -/
def State.onHold (s : State) (release : Bool) (x : BitVec 64) : State :=
  if !s.cntValid then s
  else
    let ns := (List.range 64).filter (fun n => s.siteState n != Site.EMPTY && s.siteState n != Site.RETIRED)
    (s.queueHolds ns (resolve24 s.now (frBeat x)) Cause.SYNC release).dueHolds

/-! ### Registers -/

/-- R35: a write of TB_CTRL. (DEDUCED, assumption 36.) -/
def State.tbCtrlWrite (s : State) (port : Port) (w : Word) : State :=
  let new := w &&& accMask .rw Reg.TB_CTRL.word
  let old := s.reg Reg.TB_CTRL.word
  let diff := fun (f : Fld) => f.of new != f.of old
  if Reg.TB_CTRL.ROLE.of w = 3 ∨ ((diff Reg.TB_CTRL.ROLE ∨ diff Reg.TB_CTRL.DEVNUM) ∧ !([Mode.RESET, Mode.SAFE, Mode.DISCOVER].contains s.mode)) then
    s.reject port Reg.TB_CTRL.word Src.TB
  else
    let s1 := s.setReg Reg.TB_CTRL.word new
    let s2 := if diff Reg.TB_CTRL.ROLE then { s1 with tb := { s1.tb with queue := [], snapOrigin := [] }, rootQ := [] } else s1
    if diff Reg.TB_CTRL.ROLE ∨ diff Reg.TB_CTRL.SYNC_EN then s2.unframe else s2

/-- R29, R53: a write of TB_LOAD; the counter takes its value in the next beat. (DEDUCED, assumption 37.) -/
def State.tbLoadWrite (s : State) (port : Port) (b : Nat) : State :=
  if (s.role = Role.ROOT ∨ s.role = Role.ISOLATED) ∧ s.mode = Mode.SAFE then { s with tb := { s.tb with load := some b } }
  else s.reject port Reg.TB_LOAD.word Src.TB

/-- R53: a write of TB_ROOT_CMD. -/
def State.rootCmd (s : State) (port : Port) (kind b24 : Nat) : State :=
  let beat := resolve24 s.now b24
  if s.role ≠ Role.ROOT ∨ 8 ≤ (s.tb.queue.filter (fun q => q.kind == Fk.HOLD || q.kind == Fk.RELEASE)).length then
    s.reject port Reg.TB_ROOT_CMD.word Src.TB
  else match s.schedFault beat 128 with
    | some c => s.reject port Reg.TB_ROOT_CMD.word Src.TB c
    | none => { s with tb := { s.tb with queue := s.tb.queue ++ [⟨kind, cmdPayload 0 b24⟩] } }

/-- R43: the measured arrival phase. (DEDUCED, assumption 32.) -/
def State.phaseCheck (s : State) (phase : Nat) : State :=
  if !s.listening then s
  else
    let s1 := s.set Reg.TB_STAT.SYNC_PHASE phase
    if 102 ≤ phase ∧ phase ≤ 819 then s1
    else if 1126 ≤ phase ∧ phase ≤ 1843 then
      (if s.flag Reg.TB_CTRL.REF_INV_AUTO ∧ [Mode.RESET, Mode.SAFE, Mode.DISCOVER].contains s.mode then
        ((s1.set Reg.TB_STAT.REF_INV (1 - s.get Reg.TB_STAT.REF_INV)).set Reg.TB_STAT.PLL_LOCK 0).log Src.TB Lc.REFCLK_INVERTED 0 2
       else s1)
    else (s1.set Reg.TB_STAT.PHASE_BAD 1).alert Alert.TIMEBASE

/-- R28: the PLL has locked to REFCLK. -/
def State.pllLock (s : State) : State := { s.set Reg.TB_STAT.PLL_LOCK 1 with tb := { s.tb with refPresent := true } }

/-! ### Launches (R46, R247) -/

/-- R247: the decisions that may still be launched. -/
def State.openDecs (s : State) : List RootDec := s.rootQ.filter (fun r => decide (s.now + 192 ≤ r.fullStop))

/-- R247: of two decisions, the one of the earlier full stop, then the lower tag. -/
def RootDec.before (a b : RootDec) : Bool := a.fullStop < b.fullStop || (a.fullStop == b.fullStop && a.tag ≤ b.tag)

/-- R247: the device's own clause with a tag and full stop is PREPARED. -/
def State.ownPrepared (s : State) (r : RootDec) : Bool :=
  (List.range 16).any (fun k => s.slotState k == Slot.PREPARED && s.slotMulti k && s.slotTag k == r.tag && s.slotFs k == r.fullStop)

/-- Drive a frame on SYNC_OUT. -/
def State.launch (s : State) (kind payload : Nat) : State := { s with tb := { s.tb with syncOut := mkFrame kind payload } }

/-- The frame of a decision. (DEDUCED, assumption 35.) -/
def State.launchDec (s : State) (r : RootDec) (commit : Bool) : State :=
  s.launch (if commit then Fk.COMMIT else Fk.ABORT) (cmdPayload r.tag r.fullStop)

/-- R46: the next queued command frame: snapshots, then holds, then releases. (DEDUCED, assumption 35.) -/
def State.nextQueued (s : State) : Option RootFrame :=
  [Fk.SNAPSHOT, Fk.HOLD, Fk.RELEASE].findSome? (fun k => s.tb.queue.find? (fun q => q.kind == k))

/-- R46, R247: the root's slot of the present beat; `low` is VETO_N held low from outside. (DEDUCED, assumption 35.) -/
def State.syncLaunch (s0 : State) (low : Bool) : State :=
  if s0.role ≠ Role.ROOT ∨ !s0.cntValid ∨ s0.now % 64 ≠ 0 then s0
  else
    let s : State := { s0 with vetoIn := low, rootQ := s0.openDecs }
    let veto := low || s.vetoOut
    let firsts := (s.rootQ.filter (fun r => r.dec.isNone && decide (r.fullStop ≤ s.now + 512))).mergeSort RootDec.before
    let copies := (s.rootQ.filter (fun r => r.dec.isSome)).mergeSort RootDec.before
    if s.now % 2 ^ 20 = 0 then s.launch Fk.EPOCH (s.now / 2 ^ 20)
    else match firsts, copies, s.nextQueued with
      | r :: _, _, _ =>
        let commit := s.ownPrepared r && !veto
        let s1 := if veto then s.set Reg.CL_STAT.VETO_SEEN 1 else s
        ({ s1 with rootQ := s1.rootQ.map (fun q => if q = r then { r with dec := some commit } else q) } : State).launchDec r commit
      | [], r :: _, _ => s.launchDec r (r.dec == some true)
      | [], [], some q => ({ s with tb := { s.tb with queue := s.tb.queue.erase q } } : State).launch q.kind q.payload
      | [], [], none => s.launch Fk.IDLE (s.now / 64)

/-- R37, R245: the STATUS frame of a leaf; `trip` is TRIP_N held low from outside. -/
def State.statusLaunch (s0 : State) (trip : Bool) : State :=
  if s0.role ≠ Role.LEAF ∨ !s0.flag Reg.TB_CTRL.UP_EN ∨ s0.now % 64 ≠ 0 then s0
  else
    let s : State := { s0 with tripIn := trip }
    s.launch Fk.STATUS (s.get Reg.TB_CTRL.DEVNUM * 2 ^ 26 + b2n s.vetoOut * 2 ^ 25 + b2n s.alertOut * 2 ^ 24 + b2n (trip || s.tripnOut) * 2 ^ 23
      + b2n s.locked * 2 ^ 22 + s.vetoTag)

/-! ### Follow counters (R47, R48) -/

/-- The follow counter of a site beside its registers. -/
def State.followSt (s : State) (n : Nat) : Follow := sget (fun _ => Follow.init) s.follows n

/-- R189: an edge wakes the wait of its site; one that comes while the site is held leaves its stamp. -/
def State.wakeFollow (s : State) (n stamp : Nat) : State := match (s.seq n).wait with
  | .follow xd target timeout none =>
    if !reached (s.get (Reg.TB_FOLLOW_CNT.COUNT n)) target then s
    else if s.canEnd n then s.finishWait n xd (BitVec.ofNat 128 stamp) St.OK true
    else s.setSeq n { s.seq n with wait := .follow xd target timeout (some stamp) }
  | _ => s

/-- R47, R48: an edge of the follow pin. -/
def State.followEdge (s : State) (n : Nat) (rising : Bool) (tick : Nat) : State :=
  let pin := s.pinChan n (s.get (Reg.TB_FOLLOW_CFG.PIN n))
  if !s.flag (Reg.TB_FOLLOW_CFG.EN n) || !bitOf (s.get (Reg.TB_FOLLOW_CFG.EDGE n)) (if rising then 0 else 1)
      || !pin.any (fun c => !s.flag (Reg.CH_GSTAT.TRIPPED c)) then s
  else
    let stamp := s.now * 65536 + tick / 32 * 32
    let s1 := (s.inc (Reg.TB_FOLLOW_CNT.COUNT n)).set (Reg.TB_FOLLOW_CNT.LAST_EDGE n) stamp
    let s2 : State := { s1 with follows := sset (fun _ => Follow.init) s1.follows n ⟨s.now, false⟩ }
    let s3 := if s2.get (Reg.TB_FOLLOW_CNT.COUNT n) = s2.get (Reg.TB_FOLLOW_MATCH.TARGET n) then
        (s2.set (Reg.TB_FOLLOW_MATCH.MATCH_TIME n) (stamp / 2)).set (Reg.TB_FOLLOW_MATCH.MATCHED n) 1
      else s2
    s3.wakeFollow n stamp

/-- R48: a stall; the manual gives its record no value (assumption 1). (DEDUCED, assumption 40.) -/
def State.followStall (s : State) (n : Nat) : State :=
  let f := s.followSt n
  let k := s.get (Reg.TB_FOLLOW_CFG.STALL n)
  if s.flag (Reg.TB_FOLLOW_CFG.EN n) ∧ k ≠ 0 ∧ !f.stalled ∧ f.since + k ≤ s.now then
    (({ s with follows := sset (fun _ => Follow.init) s.follows n { f with stalled := true } } : State).event n Ev.FOLLOW_STALL
      (s.freeVal.toNat % 2 ^ 40)).bumpFree
  else s

/-! ### Commands -/

/-- PLL_LOCK (R28). -/
def execPllLock (s : State) : Out := .next s.pllLock
/-- TB_LOAD (R29). -/
def execTbLoad (port : Port) (beat : BitVec 64) (s : State) : Out := 
  .next (s.host port Reg.TB_LOAD.word Src.TB 0 (fun t => t.tbLoadWrite port beat.toNat))
/-- TB_CTRL_WRITE (R35). -/
def execTbCtrlWrite (port : Port) (w : Word) (s : State) : Out := .next (s.tbCtrlWrite port w)
/-- EPOCH_FRAME (R44). -/
def execEpochFrame (f : BitVec 64) (off : Fin 64) (s : State) : Out := .next (s.rxFrame f off [Fk.EPOCH] (fun x t => t.onEpoch x))
/-- IDLE_FRAME (R44). -/
def execIdleFrame (f : BitVec 64) (off : Fin 64) (s : State) : Out := .next (s.rxFrame f off [Fk.IDLE] (fun x t => t.onIdle x))
/-- COMMIT_FRAME (R246). -/
def execCommitFrame (f : BitVec 64) (off : Fin 64) (s : State) : Out := .next (s.rxFrame f off [Fk.COMMIT] (fun x t => t.onDecision true x))
/-- ABORT_FRAME (R246). -/
def execAbortFrame (f : BitVec 64) (off : Fin 64) (s : State) : Out := .next (s.rxFrame f off [Fk.ABORT] (fun x t => t.onDecision false x))
/-- SNAPSHOT_FRAME (R395). -/
def execSnapshotFrame (f : BitVec 64) (off : Fin 64) (record : Bool) (s : State) : Out :=
  .next (s.rxFrame f off [Fk.SNAPSHOT] (fun x t => t.onSnapshot record x))
/-- HOLD_FRAME (R38). -/
def execHoldFrame (f : BitVec 64) (off : Fin 64) (s : State) : Out := .next (s.rxFrame f off [Fk.HOLD] (fun x t => t.onHold false x))
/-- RELEASE_FRAME (R38). -/
def execReleaseFrame (f : BitVec 64) (off : Fin 64) (s : State) : Out := .next (s.rxFrame f off [Fk.RELEASE] (fun x t => t.onHold true x))
/-- RESERVED_FRAME (R37): a kind that no row names, an upstream STATUS among them. -/
def execReservedFrame (f : BitVec 64) (off : Fin 64) (s : State) : Out :=
  .next (s.rxFrame f off [7, 8, 9, 10, 11, 12, 13, 14, 15] (fun _ t => t))
/-- BAD_SYNC_FRAME (R41). -/
def execBadSyncFrame (f : BitVec 64) (off : Fin 64) (s : State) : Out := .next (s.rxFrame f off [] (fun _ t => t))
/-- REFCLK_INVERTED (R43). -/
def execRefclkInverted (phase : Fin 2048) (s : State) : Out := .next (s.phaseCheck phase)
/-- SYNC_FRAME_LAUNCH (R46, R247). -/
def execSyncFrameLaunch (veto : Bool) (s : State) : Out := .next (s.syncLaunch veto)
/-- STATUS_FRAME_LAUNCH (R37). -/
def execStatusFrameLaunch (trip : Bool) (s : State) : Out := .next (s.statusLaunch trip)
/-- TB_ROOT_CMD_HOLD (R53). -/
def execTbRootCmdHold (port : Port) (beat : BitVec 24) (s : State) : Out := 
  .next (s.host port Reg.TB_ROOT_CMD.word Src.TB 0 (fun t => t.rootCmd port Fk.HOLD beat.toNat))
/-- TB_ROOT_CMD_RELEASE (R53). -/
def execTbRootCmdRelease (port : Port) (beat : BitVec 24) (s : State) : Out := 
  .next (s.host port Reg.TB_ROOT_CMD.word Src.TB 0 (fun t => t.rootCmd port Fk.RELEASE beat.toNat))
/-- FOLLOW_EDGE (R47, R48). -/
def execFollowEdge (n : Fin 64) (rising : Bool) (tick : BitVec 16) (s : State) : Out := .next (s.followEdge n rising tick.toNat)
/-- FOLLOW_STALL (R48). -/
def execFollowStall (n : Fin 64) (s : State) : Out := .next (s.followStall n)

end Sys2Proof.Machine
end

