-- ==== Sys2Proof/Machine/Modes.lean ====
section
/-! DEFINITION. Device modes (R490 to R500): what a change of mode does, requests, leaving operation (R30, R481), the self-test, and the resets. -/

namespace Sys2Proof.Machine

/-! ### A change of mode -/

/-- R366: the live cycles that the mode no longer admits end. -/
def State.dropCycles (s : State) : State := s.forN 4 (fun q t => if t.liveOk q then t else t.liveEnd q)

/-- What entry to a mode does beside the change. (DEDUCED, assumption 111.) -/
def State.enterMode (s : State) (m : Nat) : State :=
  if m = Mode.DISCOVER then
    let s1 := s.clearStructure
    if s1.flag Reg.MP_CTRL.AUTO ∧ !s1.flag Reg.MP_STAT.BUSY then s1.discover else s1
  else if m = Mode.CONTACT ∧ s.flag Reg.GD_CTRL.AUTO_CONTACT then s.contactStart
  else if m = Mode.THROTTLE then { s with hk := { s.hk with since := 0 } }
  else s

/-- R490, R494, R495: the device changes mode, with its cause. -/
def State.setMode (s : State) (m cause : Nat) : State :=
  let old := s.mode
  let s1 := if old = Mode.DISCOVER then s.discAbort else if old = Mode.CONTACT then s.contactAbort else s
  let s2 := (((s1.set Reg.DEV_MODE.CUR m).set Reg.DEV_STAT.PREV old).set Reg.DEV_STAT.CAUSE cause).set Reg.DEV_STAT.MODE_BEAT s.now
  let s3 : State := { s2 with
    selfTest := if m = Mode.SELFTEST then some old else none
    jtag := { s2.jtag with drives := s2.jtag.ir == 0 && m == Mode.SAFE } }
  (s3.dropCycles).enterMode m

/-! ### Requests (R491 to R493) -/

/-- R493: the quiet-mode conditions. -/
def State.quietOk (s : State) : Bool :=
  !s.anySite [Site.ARMED, Site.RUNNING, Site.HELD, Site.TRIPPED, Site.RESHAPING] && !s.flag Reg.SI_STAT.BUSY
  && (List.range 1024).all (fun c => !s.flag (Reg.CH_CTRL.OUT_ARM c)) && (List.range 64).all (fun d => !s.flag (Reg.DPS_STAT.CONN d))
  && (List.range 32).all (fun l => s.get (Reg.DL_STAT.STATE l) == 0)

/-- R24: the conditions of STANDBY. -/
def State.standbyOk (s : State) : Bool :=
  (List.range 64).all (fun n => [Site.EMPTY, Site.LOADED, Site.RETIRED].contains (s.siteState n))
  && (List.range 64).all (fun d => !s.flag (Reg.DPS_STAT.CONN d))

/-- R492: a request for mode `t` is accepted in the mode in force. (DEDUCED, assumption 118.) -/
def State.modeAllows (s : State) (t : Nat) : Bool :=
  let m := s.mode
  let lim := s.flag Reg.MP_STAT.LIM_VALID
  let leaves := (m != Mode.SAFE || (s.flag Reg.TB_STAT.PLL_LOCK && s.cntValid)) && (m != Mode.REFCAL || !s.cal.run.any (fun r => r.cmd == 1))
  if [Mode.RESET, Mode.THROTTLE, Mode.SHUTDOWN].contains t ∨ 0xB < t then false
  else if t = m then true
  else if m = Mode.SELFTEST then s.selfTest == some t
  else leaves && (
    if t = Mode.SAFE then [Mode.DISCOVER, Mode.SHAPE, Mode.REFCAL, Mode.STANDBY, Mode.READY].contains m && s.quietOk
    else if t = Mode.DISCOVER then m == Mode.SAFE && s.quietOk
    else if t = Mode.SHAPE then [Mode.SAFE, Mode.DISCOVER, Mode.REFCAL, Mode.STANDBY, Mode.READY].contains m && s.quietOk && lim
    else if t = Mode.REFCAL then [Mode.SAFE, Mode.SHAPE, Mode.STANDBY, Mode.READY].contains m && s.quietOk && lim
    else if t = Mode.STANDBY then
      [Mode.SAFE, Mode.SHAPE, Mode.REFCAL, Mode.READY, Mode.CONTACT, Mode.RUN, Mode.THROTTLE].contains m && s.standbyOk && lim
    else if t = Mode.READY then
      [Mode.STANDBY, Mode.CONTACT, Mode.RUN, Mode.THROTTLE].contains m && !s.anySite [Site.ARMED, Site.RUNNING, Site.HELD, Site.TRIPPED] && lim
    else if t = Mode.CONTACT then
      [Mode.STANDBY, Mode.READY, Mode.RUN, Mode.THROTTLE].contains m && !s.anySite [Site.RUNNING, Site.HELD, Site.TRIPPED]
    else if t = Mode.RUN then m == Mode.CONTACT
    else [Mode.STANDBY, Mode.READY].contains m && s.quietOk && !s.flag Reg.CAL_STAT.BUSY)

/-- R475, R491, R497: an accepted request takes effect; while the device is THROTTLED a request for RUN enters THROTTLE, and a request during the
self-test aborts it. (DEDUCED, assumption 118.) -/
def State.modeTake (s : State) (t cause : Nat) : State :=
  if t = s.mode then s
  else if s.mode = Mode.SELFTEST then (s.set Reg.DEV_STST.ABORTED 1).setMode t cause
  else if t = Mode.RUN ∧ s.flag Reg.HK_STAT.THROTTLED then s.setMode Mode.THROTTLE cause
  else s.setMode t cause

/-- R491: the RW fields of a DEV_MODE write that is not rejected. -/
def State.modeFields (s : State) (w : Word) : State :=
  ((s.set Reg.DEV_MODE.AT (Reg.DEV_MODE.AT.of w)).set Reg.DEV_MODE.AT_EN (Reg.DEV_MODE.AT_EN.of w)).set Reg.DEV_MODE.REQ (Reg.DEV_MODE.REQ.of w)

/-- R491: a write of DEV_MODE: an immediate or a scheduled request. (DEDUCED, assumption 118.) -/
def State.modeWrite (s : State) (port : Port) (w : Word) : State :=
  let t := Reg.DEV_MODE.REQ.of w
  let bad := fun (code : Nat) => s.reject port Reg.DEV_MODE.word Src.DEV code t
  if Reg.DEV_MODE.AT_EN.of w = 0 then
    (if s.modeAllows t then ((s.modeFields w).modeTake t 0).follow else bad Lc.STATE_REJECT)
  else if s.sched.isSome then bad Lc.STATE_REJECT
  else match s.schedFault (Reg.DEV_MODE.AT.of w) 2 with
    | some c => bad c
    | none => { (s.modeFields w).set Reg.DEV_MODE.PENDING 1 with sched := some (Reg.DEV_MODE.AT.of w, t) }

/-- R491: the pending request is evaluated at its beat. (DEDUCED, assumption 119.) -/
def State.modeDue (s : State) : State := match s.sched with
  | some (b, t) =>
    if s.now < b then s
    else
      let s1 : State := { s.set Reg.DEV_MODE.PENDING 0 with sched := none }
      if s1.modeAllows t then (s1.modeTake t 1).follow
      else (s1.set Reg.DEV_STAT.MODE_REJ 1).log Src.DEV Lc.STATE_REJECT (detail Reg.DEV_MODE.word t)
  | none => s

/-- R491: CANCEL_MODE. (DEDUCED, assumption 119.) -/
def State.cancelMode (s : State) : State := { s.set Reg.DEV_MODE.PENDING 0 with sched := none }

/-- The DEV_MODE word of a request for mode `t`, at once or at beat `at_`. -/
def modeWord (t : Nat) (at_ : Option (BitVec 64)) : Word := match at_ with
  | none => BitVec.ofNat 128 t
  | some b => BitVec.ofNat 128 (b.toNat * 2 ^ 64 + 16 + t)

/-- R500: the row of a host request for mode `t`. (DEDUCED, assumption 119.) -/
def State.modeReq (s : State) (port : Port) (t : Nat) (at_ : Option (BitVec 64)) : State :=
  s.host port Reg.DEV_MODE.word Src.DEV t (fun u => u.modeWrite port (modeWord t at_))

/-! ### Leaving operation (R30, R481) -/

/-- R87: OUT_ARM of a channel becomes 0 in both banks. -/
def State.outOff (s : State) (c : Nat) : State :=
  let a := Reg.CH_CTRL.word c
  let was := s.flag (Reg.CH_CTRL.OUT_ARM c)
  if !was ∧ wget (s.shadowReg a) 0 0 = 0 then s
  else
    let s1 := ((s.setReg a (wput (s.reg a) 0 0 0)).setShadow a (wput (s.shadowReg a) 0 0 0)).armHook was c
    s1.setChan c { s1.chan c with wins := [] }

/-- The event of R30 and a shutdown: every load, clause, stream and test ends, and every output goes to high impedance; the supplies ramp to
0 V. (DEDUCED, assumption 120.) -/
def State.leaveOperation (s : State) : State :=
  let s1 := s.siAbandon.loseClauses
  let s2 := s1.forL (s1.streams.map Prod.fst) (fun x t => t.endStream x)
  let s3 := (s2.forN 1024 (fun c t => t.outOff c)).forN 64 (fun d t => t.dpsForceOff d)
  let s4 := (s3.forN 32 (fun i t => t.wfOff i)).forN 32 (fun l t => t.laneOff l)
  let s5 := s4.forN 64 (fun n t => if t.siteState n = Site.EMPTY ∨ t.siteState n = Site.RETIRED then t else t.toLoaded n)
  (if s5.selfTest.isSome then s5.set Reg.DEV_STST.ABORTED 1 else s5).calOvertake

/-- R30: REFCLK is lost. What concerns the timebase happens in every mode; RESET and SHUTDOWN have nothing more to leave. (DEDUCED, assumption 121.) -/
def State.refclkLost (s : State) : State :=
  let s0 := (s.alert Alert.TIMEBASE).log Src.TB Lc.REFCLK_LOST 0 1
  let s1 := if s.mode = Mode.RESET ∨ s.mode = Mode.SHUTDOWN then s0 else s0.leaveOperation.setMode Mode.SAFE 3
  let s2 := (((s1.set Reg.TB_STAT.REFCLK_LOST 1).set Reg.TB_STAT.PLL_LOCK 0).set Reg.TB_STAT.CNT_VALID 0).unframe
  ({ s2 with tb := { s2.tb with refPresent := false, load := none, snapOrigin := [] }, snaps := [] } : State).follow

/-! ### Self-test (R497) -/

/-- The result code of a march test. (DEDUCED, assumption 102.) -/
def marchResult (run pass : Bool) : Nat := if run then b2n (!pass) else 2

/-- R497, step 5: the copies that fail their check, erased ones left out. (DESIGN CHOICE, assumption 85.) -/
def State.nvmBad (s : State) : Nat :=
  let bad := fun (good : List Byte → Bool) (a k : Nat) =>
    ((List.range 2).filter (fun copy => let bs := s.nvmBytes copy a k; !erased bs && !good bs)).length
  ((List.range 4).map (fun k => bad (keyGood k) (keyAddr k) 64) ++ (List.range 4).map (fun q => bad crcGood (0x3200 * q) 0x3104)
    ++ (List.range 256).map (fun k => bad crcGood (0xD000 + 32 * k) 32)).foldl (· + ·) 0

/-- R497: a march test of the ledger SRAM leaves its slots undefined (assumption 1). -/
def State.lgMarched (s : State) : State :=
  { s with lgMarch := some (s.get Reg.LG_SEQ.TAIL, s.freeCtr), freeCtr := s.freeCtr + 2 ^ 20 }

/-- R497: the self-test completes, and the device returns to the mode it was entered from. A channel that `obs` does not list has matched; a
TDC that it does not list keeps its terms. (DEDUCED, assumption 120.) -/
def State.selfTestDone (s : State) (o : SelfTestObs) : State := match s.selfTest with
  | none => s
  | some origin =>
    let good := fun (c : Nat) => (o.chans.find? (fun p => p.1.val == c)).all (fun p => p.2 == 0xFF)
    let s1 := s.forN 1024 (fun c t => t.selfOutcome c (good c))
    let s2 := s1.forL o.tdcs (fun p t => if selfPasses p.2 then t.selfWrite p.1 p.2 else t.selfBad p.1)
    let fb := decide (s.get Reg.SO_FB.USED_BLK = 0)
    let lg := s.get Reg.LG_SEQ.TAIL == s.get Reg.LG_HEAD.HEAD
    let s3 := if lg then s2.lgMarched else s2
    let s4 := (s3.set Reg.DEV_STST.CH_FAIL ((List.range 1024).filter (fun c => !good c)).length).set Reg.DEV_STST.TDC_FAIL
      (o.tdcs.filter (fun p => !selfPasses p.2)).length
    let s5 := ((s4.set Reg.DEV_STST.FB (marchResult fb o.fb)).set Reg.DEV_STST.LEDGER (marchResult lg o.ledger)).set Reg.DEV_STST.NVM_BAD (min 255 s.nvmBad)
    (((s5.set Reg.DEV_STST.BEAT s.now).set Reg.DEV_STST.DONE 1).setMode origin 6).follow

/-! ### Resets (R498 to R500) -/

/-- R498: the words of the blocks that a soft reset clears: CL and SI, SQ, SO, PM, EE and TM, CH, DPS, WF and GD, DL. -/
def softBlock (a : Nat) : Bool :=
  (0x006000 ≤ a && a < 0x010000) || (0x031000 ≤ a && a < 0x070000) || (0x080000 ≤ a && a < 0x090000)
  || (0x0A0000 ≤ a && a < 0x0A3000) || (0x0B0000 ≤ a && a < 0x0C0000)

/-- R498: the bits of such a word that belong to the CAL block: CAL_DRV and CAL_RCV, TRIM, the trims of the sources. -/
def calBits (a : Nat) : Word :=
  if 0x050000 ≤ a ∧ a < 0x050006 + 0x20 * 1056 ∧ a % 0x20 = 6 then fieldMask 51 32 ||| fieldMask 19 0
  else if 0x080000 ≤ a ∧ a < 0x090000 ∧ 0x10 ≤ a % 0x40 ∧ a % 0x40 < 0x18 then fieldMask 71 64
  else if 0x0A1000 ≤ a ∧ a < 0x0A1200 ∧ a % 0x10 = 3 then fieldMask 47 40 ||| fieldMask 39 32
  else 0

/-- R498: the register words that a soft reset leaves. (DEDUCED, assumption 122.) -/
def softRegs (m : List (Nat × Word)) : List (Nat × Word) := m.filterMap (fun p =>
  if softBlock p.1 then
    let w := (resetWord p.1 &&& ~~~(calBits p.1)) ||| (p.2 &&& calBits p.1)
    if w = resetWord p.1 then none else some (p.1, w)
  else some p)

/-- R127, R435: the trace terms of the limits table stand at the engines of their channels. -/
def State.ownTraces (s : State) : State :=
  s.forN 1024 (fun c t => (t.set (Reg.EE_DESKEW.TRACE_DRV c) (s.get (Reg.MP_LIMCH.TRACE_DRV c))).set (Reg.EE_DESKEW.TRACE_RCV c) (s.get (Reg.MP_LIMCH.TRACE_RCV c)))

/-- R498: the blocks that a soft reset clears, at their reset values. (DEDUCED, assumption 122.) -/
def State.softClear (s : State) : State :=
  (({ s with
      regs := softRegs s.regs
      shadow := s.shadow.filter (fun p => !softBlock p.1)
      held := s.held.filter (fun p => !softBlock p.1)
      siOp := none, seqs := [], chans := [], tenses := [], tensesShadow := [], streams := []
      pendActs := [], slots := [], watches := [], failMarks := [], dacs := [], pmus := [], wfs := [], wfTables := [], wfLoads := []
      dpss := [], gds := [], dgds := [], contact := none, pmuMeas := [], dpsMeas := [], tdcs := [], ltests := [], lanes := []
      stackReq := [] } : State).setMaps [] [] []).ownTraces

/-- R510: what every reset but a link reset does to DEV_MODE and DEV_SVCSTAT. -/
def State.devReset (s : State) : State := (s.cancelMode.set Reg.DEV_MODE.AT_EN 0).setReg Reg.DEV_SVCSTAT.word (resetWord Reg.DEV_SVCSTAT.word)

/-- R499: SOFT_RESET is accepted. -/
def State.softOk (s : State) : Bool :=
  [Mode.SAFE, Mode.DISCOVER, Mode.SHAPE, Mode.REFCAL, Mode.STANDBY, Mode.READY, Mode.CONTACT].contains s.mode
  && s.standbyOk && !s.flag Reg.LG_OVF.EN
  && !s.flag Reg.SI_STAT.BUSY && !s.flag Reg.LX_STAT.BUSY && !s.flag Reg.CAL_STAT.BUSY && !s.flag Reg.MP_STAT.BUSY

/-- R498, R499: a soft reset. (DEDUCED, assumption 122.) -/
def State.softReset (s : State) (port : Port) : State :=
  if s.softOk then (((s.setMode Mode.SAFE 7).softClear).devReset).set Reg.DEV_STAT.LAST_RESET 2
  else s.reject port Reg.DEV_CMD.word Src.DEV

/-- R498: every block at its reset value; the slots of the ledger are undefined (R392). The non-volatile memory, the queue of commands and the model's
count of free values stay. (DEDUCED, assumption 123.) -/
def State.hardReset (s : State) : State :=
  { State.reset with nvm := s.nvm, freeCtr := s.freeCtr + 2 ^ 20, lgMarch := some (0, s.freeCtr), pending := s.pending }

/-- R132: pattern memory is kept. (DEDUCED, assumption 123.) -/
def State.keepMem (t s : State) : State := { t with mem := s.mem, uncorr := s.uncorr }

/-- R453, R498: a pin reset. Pattern memory, the boundary scan and the clock stay. (DEDUCED, assumption 123.) -/
def State.pinReset (s : State) : State :=
  let s1 := (s.hardReset.keepMem s).set Reg.TB_STAT.PLL_LOCK (s.get Reg.TB_STAT.PLL_LOCK)
  { s1.set Reg.DEV_STAT.LAST_RESET 1 with tb := { s1.tb with refPresent := s.tb.refPresent }, jtag := { s.jtag with drives := s.jtag.ir == 0 }, brown := s.brown }

/-- R482: the valid SEQs of the shutdown records. -/
def State.shutSeqs (s : State) : List Nat :=
  (List.range 256).filterMap (fun k => (s.nvmRecord (0xD000 + 32 * k) 32 (fun bs => !erased bs && crcGood bs)).map (fun bs => leNat (bs.take 4)))

/-- R482, R500: the internal start completes. (DEDUCED, assumption 86.) -/
def State.initDone (s : State) : State :=
  if s.mode ≠ Mode.RESET ∨ s.brown then s
  else
    let s1 := s.deriveKeys
    let s2 := match s1.shutSeqs with
      | [] => s1
      | q :: qs => (s1.set Reg.HK_STAT.SD_SEQ (qs.foldl max q)).set Reg.HK_STAT.SD_VALID 1
    (s2.setMode Mode.SAFE 5).set Reg.DEV_STAT.INIT_DONE 1

/-- R520: a brown-out. (DEDUCED, assumption 124.) -/
def State.brownOut (s : State) (stackKept : Bool) : State :=
  let s1 := if stackKept then s.hardReset.keepMem s else s.hardReset
  { s1 with brown := true }

/-! ### The rows -/

/-- R30: REFCLK_LOST. -/
def execRefclkLost (s : State) : Out := .next s.refclkLost
/-- R453, R498: RESET_N. -/
def execResetN (s : State) : Out := .next s.pinReset
/-- R491, R492: the rows of a host request. -/
def execModeReqSafe (port : Port) (at_ : Option (BitVec 64)) (s : State) : Out := .next (s.modeReq port Mode.SAFE at_)
def execModeReqDiscover (port : Port) (at_ : Option (BitVec 64)) (s : State) : Out := .next (s.modeReq port Mode.DISCOVER at_)
def execModeReqShape (port : Port) (at_ : Option (BitVec 64)) (s : State) : Out := .next (s.modeReq port Mode.SHAPE at_)
def execModeReqRefcal (port : Port) (at_ : Option (BitVec 64)) (s : State) : Out := .next (s.modeReq port Mode.REFCAL at_)
def execModeReqStandby (port : Port) (at_ : Option (BitVec 64)) (s : State) : Out := .next (s.modeReq port Mode.STANDBY at_)
def execModeReqReady (port : Port) (at_ : Option (BitVec 64)) (s : State) : Out := .next (s.modeReq port Mode.READY at_)
def execModeReqContact (port : Port) (at_ : Option (BitVec 64)) (s : State) : Out := .next (s.modeReq port Mode.CONTACT at_)
def execModeReqRun (port : Port) (at_ : Option (BitVec 64)) (s : State) : Out := .next (s.modeReq port Mode.RUN at_)
def execModeReqSelftest (port : Port) (at_ : Option (BitVec 64)) (s : State) : Out := .next (s.modeReq port Mode.SELFTEST at_)
/-- R491: a request for RESET, THROTTLE or SHUTDOWN, or for a code that names no mode. A code that does name a mode a host may request is the matter of
its own row, and means the same here. -/
def execModeReqForbidden (port : Port) (req : BitVec 4) (at_ : Option (BitVec 64)) (s : State) : Out := .next (s.modeReq port req.toNat at_)
/-- R491: SCHEDULED_MODE_REQUEST. -/
def execScheduledModeRequest (s : State) : Out := .next s.modeDue
/-- R499: DEV_CMD_SOFT_RESET. -/
def execDevCmdSoftReset (port : Port) (s : State) : Out := .next (s.host port Reg.DEV_CMD.word Src.DEV 0 (fun t => t.softReset port))
/-- R491: DEV_CMD_CANCEL_MODE. -/
def execDevCmdCancelMode (port : Port) (s : State) : Out := .next (s.host port Reg.DEV_CMD.word Src.DEV 0 State.cancelMode)
/-- R497: SELFTEST_DONE. -/
def execSelftestDone (obs : SelfTestObs) (s : State) : Out := .next (s.selfTestDone obs)
/-- R498: POWER_ON. -/
def execPowerOn (s : State) : Out := .next s.hardReset
/-- R500: INIT_DONE. -/
def execInitDone (s : State) : Out := .next s.initDone
/-- R520: BROWN_OUT. -/
def execBrownOut (stackKept : Bool) (s : State) : Out := .next (s.brownOut stackKept)
/-- R520: BROWN_OUT_END: the internal start may complete. -/
def execBrownOutEnd (s : State) : Out := .next { s with brown := false }

end Sys2Proof.Machine
end

