-- ==== Sys2Proof/Machine/Housekeep.lean ====
section
/-! DEFINITION. What an evaluation of housekeeping decides (R473, R475 to R477, R480), a shutdown (R481, R482), and the trouble log (R483, R487). -/

namespace Sys2Proof.Machine

/-! ### Throttling -/

/-- R475: the mode follows THROTTLED. -/
def State.throttleMode (s : State) : State :=
  if s.flag Reg.HK_STAT.THROTTLED ∧ s.mode = Mode.RUN then s.setMode Mode.THROTTLE 2
  else if !s.flag Reg.HK_STAT.THROTTLED ∧ s.mode = Mode.THROTTLE then s.setMode Mode.RUN 2
  else s

/-- The sites of HK_ORDER in their order, up to the first 0xFF. -/
def State.pauseOrder (s : State) : List Nat :=
  ((List.range 64).map (fun i => bitsOf (s.get (Reg.HK_ORDER.SITES (i / 16))) (8 * (i % 16)) 8)).takeWhile (· != 0xFF)

/-- R476: one site is paused. -/
def State.pauseOne (s : State) : State :=
  match s.pauseOrder.find? (fun n => n < 64 && s.siteState n == Site.RUNNING && !s.hk.paused.contains n) with
  | some n =>
    let s1 := ((s.hold n Cause.THERMAL).event n Ev.THERMAL_PAUSE s.hotDetail).inc Reg.HK_CNT.PAUSES
    { s1 with hk := { s1.hk with paused := s1.hk.paused ++ [n] } }
  | none => s

/-- R476: pauses at PAUSE_ROUNDS rounds after entry to THROTTLE and at every PAUSE_ROUNDS rounds after that. (DEDUCED, assumption 116.) -/
def State.pauseDue (s : State) : State :=
  if s.mode ≠ Mode.THROTTLE then s
  else
    let k := s.hk.since + 1
    let s1 : State := { s with hk := { s.hk with since := k } }
    let thr : Int := s.get Reg.HK_CTRL.THR_T
    if s.flag Reg.HK_CTRL.PAUSE_EN ∧ k % s.get Reg.HK_CTRL.PAUSE_ROUNDS = 0 ∧ s.tsValues.any (fun p => thr ≤ p.2) then s1.pauseOne else s1

/-- R477: after release, the site paused last of those still paused resumes. (DEDUCED, assumption 116.) -/
def State.resumeOne (s : State) : State :=
  if s.flag Reg.HK_STAT.THROTTLED then s
  else match s.hk.paused.reverse with
    | n :: rest => ({ s.clearCauses n (2 ^ Cause.THERMAL) with hk := { s.hk with paused := rest.reverse } } : State).event n Ev.THERMAL_RESUME 0
    | [] => s

/-- R473: the cold-plate sensors are read in rounds whose index is a multiple of 1,000, and later while the port is busy. (DEDUCED, assumption 110.) -/
def State.coldDue (s : State) : State :=
  if s.flag Reg.HK_CTRL.COOL_EN ∧ !s.cold.isEmpty ∧ (s.hk.cold ∨ s.hk.idx % 1000 = 0) then
    (if s.flag Reg.MP_STAT.BUSY then { s with hk := { s.hk with cold := true } }
     else { s.set Reg.MP_STAT.BUSY 1 with mpOp := some .cold, hk := { s.hk with cold := false } })
  else s

/-! ### Shutdown -/

/-- R482: the record of a shutdown but for its CRC. -/
def State.shutBody (s : State) (seq src cause : Nat) : List Byte :=
  let mon := decide (0x40 ≤ src)
  let i := if mon then s.get Reg.HK_STAT.HOT_SRC else src
  let temp := if mon then s.get Reg.HK_STAT.HOT_T else fieldOf 16 ((s.tsValue src).getD 0)
  leBytes 4 seq ++ leBytes 8 s.stampBeat ++ leBytes 2 0 ++ leBytes 1 src ++ leBytes 1 cause ++ leBytes 2 temp
    ++ leBytes 2 (s.get (Reg.HK_TS.RATE i)) ++ leBytes 1 s.mode
    ++ leBytes 1 (s.get Reg.HK_STAT.EST + 2 * s.get Reg.HK_STAT.THROTTLED)
    ++ leBytes 2 (if mon then s.get (Reg.HK_MON.VALUE (src - 0x40)) else 0) ++ leBytes 4 0

/-- R481: a shutdown starts. -/
def State.shutdown (s : State) (src cause : Nat) : State :=
  let seq := if s.flag Reg.HK_STAT.SD_VALID then s.get Reg.HK_STAT.SD_SEQ + 1 else 0
  let value := if 0x40 ≤ src then s.get (Reg.HK_MON.VALUE (src - 0x40)) else fieldOf 16 ((s.tsValue src).getD 0)
  let s1 := ((s.leaveOperation.setMode Mode.SHUTDOWN 4).alert (if cause = 3 then Alert.OTHER else Alert.THERMAL)).log Src.HK Lc.SHUTDOWN (src * 2 ^ 32 + value)
  { s1 with shut := some ⟨s.now, withCrc (s.shutBody seq src cause), seq, 0⟩ }

/-- R481, step 3: the stacks enter self-refresh once every switch is open, or 1,000,000 beats after the start; while REFCLK is absent the housekeeping
oscillator times this. -/
def State.selfRefresh (s : State) : State := match s.shut with
  | some k =>
    if k.phase = 0 ∧ (k.start + 1000000 ≤ s.now ∨ !s.tb.refPresent ∨ (List.range 64).all (fun d => !s.flag (Reg.DPS_STAT.CONN d))) then
      { (s.set Reg.SO_STAT.STACK0 2).set Reg.SO_STAT.STACK1 2 with shut := some { k with phase := 1 } }
    else s
  | none => s

/-- R17, R481, step 4: the record is written. (DEDUCED, assumption 86.) -/
def State.recordShut (s : State) (w : NvmEnd) : State := match s.shut with
  | some k =>
    if k.phase = 1 then { (s.nvmWrite (0xD000 + 32 * (k.seq % 256)) k.body w).1 with shut := some { k with phase := 2 } } else s
  | none => s

/-! ### The evaluation -/

/-- R470: what the evaluation of the round in hand does at class 7. In RESET and SHUTDOWN it takes no action. (DEDUCED, assumption 115.) -/
def State.hkActions (s : State) : State :=
  if s.mode = Mode.RESET ∨ s.mode = Mode.SHUTDOWN then s
  else match s.hk.fatal with
    | some (src, cause) => s.shutdown src cause
    | none =>
      let p : State := { s with hk := { s.hk with paused := s.hk.paused.filter (fun n => bitOf (s.get (Reg.SQ_STAT.CAUSES n)) Cause.THERMAL) } }
      ((if p.mode = Mode.THROTTLE then p.throttleMode.pauseDue else p.throttleMode).resumeOne).coldDue

/-- R470: the evaluation beat of a round. -/
def State.evaluate (s : State) : State :=
  let s1 := s.hkReadings
  if s1.hk.round.isSome ∧ s1.hk.judged then
    let s2 := s1.hkActions.follow
    { s2 with hk := { s2.hk with round := none, judged := false, fatal := none } }
  else s1

/-! ### The trouble log (R483, R487) -/

/-- R483: the oldest waiting entry is written. -/
def State.logWrite (s : State) : State := match s.logWait with
  | [] => s
  | e :: rest =>
    let tail := s.get Reg.LOG_STAT.TAIL
    let s1 : State := { s with logWait := rest, logRing := sset (fun _ => 0) s.logRing (tail % 4096) e.word }
    (if 4096 ≤ tail then s1.set Reg.LOG_STAT.WRAPPED 1 else s1).set Reg.LOG_STAT.TAIL (tail + 1)

/-- R487: CLEAR empties the log. (DEDUCED, assumption 117.) -/
def State.logClear (s : State) : State := { s.setReg Reg.LOG_STAT.word 0 with logRing := [] }

/-! ### The rows -/

def execRoundEvaluation (s : State) : Out := .next s.evaluate
def execStackSelfRefresh (s : State) : Out := .next s.selfRefresh
def execShutdownRecordDone (w : NvmEnd) (s : State) : Out := .next (s.recordShut w)
def execLogEntryWrite (s : State) : Out := .next s.logWrite
def execLogCmdClear (port : Port) (s : State) : Out := .next (s.host port Reg.LOG_CMD.word Src.LOG 0 State.logClear)

end Sys2Proof.Machine
end

