-- ==== Sys2Proof/Machine/Lanes.lean ====
section
/-! DEFINITION. The rows of the DUT lanes (R401 to R421). -/

namespace Sys2Proof.Machine

/-- R405, R409: TRAINING_BLOCK: 128 bits as they came from the line. -/
def execTrainingBlock (l : Fin 32) (blk : Word) (s : State) : Out := .next (s.trainingBlock l blk)
/-- R411: BLOCK_SENT. -/
def execBlockSent (l : Fin 32) (s : State) : Out := .next (s.blockSent l)
/-- R411: GAP_END. -/
def execGapEnd (l : Fin 32) (s : State) : Out := .next (s.gapEnd l)
/-- R411: EQ_TIME_EXPIRY. -/
def execEqTimeExpiry (l : Fin 32) (s : State) : Out := .next (s.eqTime l)
/-- R413: TRAIN_WIN_EXPIRY. -/
def execTrainWinExpiry (l : Fin 32) (s : State) : Out := .next (s.trainExpiry l)
/-- R413: ACK_WIN_EXPIRY. -/
def execAckWinExpiry (l : Fin 32) (s : State) : Out := .next (s.ackExpiry l)
/-- R413: LANE_LOST. -/
def execLaneLost (l : Fin 32) (s : State) : Out := .next (s.laneLost l)
/-- R413: RETRY_GAP_END. -/
def execRetryGapEnd (l : Fin 32) (s : State) : Out := .next (s.retryGapEnd l)
/-- R404: LOS_CHANGE. -/
def execLosChange (l : Fin 32) (on : Bool) (s : State) : Out := .next (s.losChange l on)
/-- R404: LOL_CHANGE. -/
def execLolChange (l : Fin 32) (on : Bool) (s : State) : Out := .next (s.lolChange l on)
/-- R415: LANE_DOWN. -/
def execLaneDown (l : Fin 32) (s : State) : Out := .next (s.laneDown l)
/-- R415: DIRECT_LOCK. -/
def execDirectLock (l : Fin 32) (s : State) : Out := .next (s.directLock l)
/-- R406, R408: ADAPT_UPDATE. -/
def execAdaptUpdate (l : Fin 32) (obs : AdaptObs) (s : State) : Out := .next (s.adaptUpdate l obs)
/-- R407: ADAPT_FREEZE. -/
def execAdaptFreeze (l : Fin 32) (s : State) : Out := .next (s.adaptFreeze l)
/-- R408: ADAPT_RESTART. -/
def execAdaptRestart (l : Fin 32) (s : State) : Out := .next (s.adaptRestart l)
/-- R417: CHECKER_SYNC, with the bits received since the last report and how many differed. -/
def execCheckerSync (l : Fin 32) (bits errs : Nat) (s : State) : Out := .next (s.checkerSync l bits errs)
/-- R417: CHECKER_SYNC_LOSS. -/
def execCheckerSyncLoss (l : Fin 32) (bits errs : Nat) (s : State) : Out := .next (s.checkerLoss l bits errs)
/-- R418: LTEST_COUNT_END. -/
def execLtestCountEnd (l : Fin 32) (bits errs : Nat) (s : State) : Out := .next (s.ltestEnd l bits errs)

end Sys2Proof.Machine
end

