-- ==== Sys2Proof/Machine/Measures.lean ====
section
/-! DEFINITION. The rows of time measurement, levels, PMUs, waveform sources and supplies: the host's commands and the events of their
units. -/

namespace Sys2Proof.Machine

/-! ### Time measurement (R254 to R274) -/

/-- R271: TM_CMD_t with ARM; the TDC of an engine that serves a compound's member is not used (R254). -/
def State.tmArm (s : State) (port : Port) (t : Nat) (w : Word) : State :=
  let total := (Reg.TM_CMD.N t).of w
  if s.tmCmdOk t total && !(s.chanOfEngine t).any s.isMember then s.tdcStart t none 0 total 1 0 0 else s.reject port (Reg.TM_CMD.word t) Src.TM Lc.STATE_REJECT t
def execTmCmdArm (port : Port) (t : Fin 1056) (w : Word) (s : State) : Out :=
  .next (s.host port (Reg.TM_CMD.word t) Src.TM t (fun u => u.tmArm port t w))

/-- R271: TM_CMD_t with CANCEL. -/
def execTmCmdCancel (port : Port) (t : Fin 1056) (s : State) : Out :=
  .next (s.host port (Reg.TM_CMD.word t) Src.TM t (fun u => u.tdcCancel t))

/-- R258: TM_SELFCAL. -/
def execTmSelfcal (t : Fin 1056) (cal : TdcCal) (s : State) : Out := .next (s.tdcSelfcal t cal)
/-- R256: TDC_CAPTURE. -/
def execTdcCapture (t : Fin 1056) (input : Fin 2) (tick : BitVec 16) (s : State) : Out := .next (s.tdcCapture t input tick.toNat)
/-- R266: TM_TIMEOUT. -/
def execTmTimeout (t : Fin 1056) (s : State) : Out := .next (s.tdcTimeout t)
/-- R263: GATE_END. -/
def execGateEnd (t : Fin 1056) (s : State) : Out := .next (s.gateEnd t)

/-! ### Levels and PMUs (R275 to R301) -/

/-- R279: DEGLITCH_STEP. -/
def execDeglitchStep (c : Fin 1024) (k : Fin 8) (s : State) : Out := .next (s.deglitchStep c k)
/-- R281: PASSAGE_SPAN_SWITCH. -/
def execPassageSpanSwitch (c : Fin 1024) (k : Fin 8) (s : State) : Out := .next (s.spanSwitch c k)
/-- R281: PASSAGE_CODE_LOAD. -/
def execPassageCodeLoad (c : Fin 1024) (k : Fin 8) (s : State) : Out := .next (s.codeLoad c k)
/-- R281: PASSAGE_END. -/
def execPassageEnd (c : Fin 1024) (k : Fin 8) (s : State) : Out := .next (s.passageEnd c k)
/-- R289: PMU_CONNECT. -/
def execPmuConnect (c : Fin 1024) (s : State) : Out := .next (s.pmuConnect c)
/-- R290: PMU_PASSAGE_END. -/
def execPmuPassageEnd (c : Fin 1024) (s : State) : Out := .next (s.pmuPassageEnd c)
/-- R288: PMU_COMPLIANCE: a code other than 0 says which limit the PMU is at. -/
def execPmuCompliance (c : Fin 1024) (code : BitVec 2) (s : State) : Out := .next (s.pmuCompliance c (code != 0))
/-- R294, R328: PMU_SETTLE_END, of a pin or of a supply. (DESIGN CHOICE, assumption 134.) -/
def execPmuSettleEnd (dps : Bool) (u : Fin 1024) (s : State) : Out := .next (if dps then s.dpsSettleEnd u else s.pmuSettleEnd u)
/-- R293, R294, R328: PMU_SAMPLE_END, of a pin or of a supply. (DESIGN CHOICE, assumption 134.) -/
def execPmuSampleEnd (dps : Bool) (u : Fin 1024) (adc : Int) (s : State) : Out :=
  .next (if dps then s.dpsSampleEnd u adc else s.pmuSampleEnd u adc)

/-- R298: CH_PMUCMD_c with MEASURE. -/
def State.pmuMeasure (s : State) (port : Port) (c : Nat) (w : Word) : State :=
  let n := (Reg.CH_PMUCMD.N c).of w
  if s.pmuCmdOk c && n != 0 && !s.isMember c then (s.set (Reg.CH_PMUSTAT.HOSTRES c) 0).pmuStart c none ((Reg.CH_PMUCMD.SETTLE c).of w) n 1 0 0
  else s.reject port (Reg.CH_PMUCMD.word c) Src.CH Lc.STATE_REJECT c
def execChPmucmdMeasure (port : Port) (c : Fin 1024) (w : Word) (s : State) : Out :=
  .next (s.host port (Reg.CH_PMUCMD.word c) Src.CH c (fun t => t.pmuMeasure port c w))
/-- R298: CH_PMUCMD_c with CANCEL. -/
def execChPmucmdCancel (port : Port) (c : Fin 1024) (s : State) : Out :=
  .next (s.host port (Reg.CH_PMUCMD.word c) Src.CH c (fun t => t.pmuCancel c))

/-! ### Waveform sources (R302 to R316) -/

/-- R304: WF_SAMPLE. -/
def execWfSample (i : Fin 32) (s : State) : Out := .next (s.wfSample i)
/-- R310: WF_CONNECT. -/
def execWfConnect (i : Fin 32) (s : State) : Out := .next (s.wfConnect i)
/-- R310: WF_PASSAGE_END. -/
def execWfPassageEnd (i : Fin 32) (s : State) : Out := .next (s.wfPassageEnd i)

/-- R312: an open clause has an action on the word at `a`. -/
def State.clauseActs (s : State) (a : Nat) : Bool :=
  (List.range 16).any (fun k => [Slot.OPEN, Slot.PREPARING, Slot.PREPARED].contains (s.slotState k) && (s.slot k).acts.any (fun x => x.addr == a))

/-- R312: WF_TCMD_s with LOAD. -/
def State.wfTableLoad (s : State) (port : Port) (i : Nat) : State :=
  let a := (Reg.WF_TSRC.ADDR i).of (s.reg (Reg.WF_TSRC.word i))
  if !([Mode.RESET, Mode.SAFE, Mode.SHUTDOWN].contains s.mode) && s.flag Reg.PM_STAT.READY && s.get (Reg.WF_STAT.TABLE i) != 1
      && s.get (Reg.WF_CTRL.MODE i) != 3 && !s.clauseActs (Reg.WF_CTRL.word i) then
    { (s.memReq a 131072).set (Reg.WF_STAT.TABLE i) 1 with wfLoads := sinsert s.wfLoads i (a, s.get (Reg.WF_TSRC.CRC i)) }
  else s.reject port (Reg.WF_TCMD.word i) Src.WF Lc.WF_BUSY i
def execWfTcmdLoad (port : Port) (i : Fin 32) (s : State) : Out :=
  .next (s.host port (Reg.WF_TCMD.word i) Src.WF i (fun t => t.wfTableLoad port i))
/-- R312: WF_TABLE_LOAD_DONE. -/
def execWfTableLoadDone (i : Fin 32) (s : State) : Out := .next (s.wfTableDone i)

/-! ### Supplies (R317 to R331) -/

/-- R320: DPS_DELAY_END. -/
def execDpsDelayEnd (d : Fin 64) (s : State) : Out := .next (s.dpsDelayEnd d)
/-- R320: DPS_RAMP_STEP. -/
def execDpsRampStep (d : Fin 64) (s : State) : Out := .next (s.dpsRampStep d)
/-- R321: DPS_SWITCH_OPEN: the sense voltage in mV. -/
def execDpsSwitchOpen (d : Fin 64) (senseMv : Int) (s : State) : Out := .next (s.dpsSwitchOpen d senseMv)
/-- R321: DPS_OPEN_HIGH. -/
def execDpsOpenHigh (d : Fin 64) (s : State) : Out := .next (s.dpsOpenHigh d)
/-- R323: DPS_COMPLIANCE. -/
def execDpsCompliance (d : Fin 64) (code : BitVec 2) (s : State) : Out := .next (s.dpsCompliance d (code != 0))

/-- R329: DPS_CMD_d with MEASURE. -/
def State.dpsMeasure (s : State) (port : Port) (d : Nat) (w : Word) : State :=
  let n := (Reg.DPS_CMD.N d).of w
  if s.dpsCmdOk d && n != 0 then s.dpsStart d none ((Reg.DPS_CMD.SETTLE d).of w) n 1 0 0
  else s.reject port (Reg.DPS_CMD.word d) Src.DPS Lc.STATE_REJECT d
def execDpsCmdMeasure (port : Port) (d : Fin 64) (w : Word) (s : State) : Out :=
  .next (s.host port (Reg.DPS_CMD.word d) Src.DPS d (fun t => t.dpsMeasure port d w))
/-- R329: DPS_CMD_d with CANCEL. -/
def execDpsCmdCancel (port : Port) (d : Fin 64) (s : State) : Out :=
  .next (s.host port (Reg.DPS_CMD.word d) Src.DPS d (fun t => t.dpsCancel d))
/-- R325: DPS_CMD_d with CHECK. -/
def State.dpsCheck (s : State) (port : Port) (d : Nat) : State :=
  if s.checkCmdOk d then s.checkStart d true else s.reject port (Reg.DPS_CMD.word d) Src.DPS Lc.STATE_REJECT d
def execDpsCmdCheck (port : Port) (d : Fin 64) (s : State) : Out :=
  .next (s.host port (Reg.DPS_CMD.word d) Src.DPS d (fun t => t.dpsCheck port d))
/-- R325: SENSE_CHECK_DONE: one result for each channel of the gang. -/
def execSenseCheckDone (d : Fin 64) (obs : List SenseStep) (s : State) : Out := .next (s.checkDone d obs)
/-- R327: NEGV_TRIP. -/
def execNegvTrip (d : Fin 64) (s : State) : Out := .next (s.supplyTrip d 2).follow
/-- R327: SENSE_TRIP. -/
def execSenseTrip (d : Fin 64) (s : State) : Out := .next (s.supplyTrip d 3).follow

end Sys2Proof.Machine
end

