-- ==== Sys2Proof/Machine/Results.lean ====
section
/-! DEFINITION. The rows of the ledger and of snapshots (R381 to R400). -/

namespace Sys2Proof.Machine

/-- R387, R388: RECORD_WRITE. -/
def execRecordWrite (s : State) : Out := .next s.recordWrite.follow
/-- R390: MIGRATION_START. -/
def execMigrationStart (s : State) : Out := .next s.migrationStart
/-- R390: MIGRATION_BURST_DONE. -/
def execMigrationBurstDone (s : State) : Out := .next s.burstDone

/-- R391: LG_HEAD_WRITE. -/
def execLgHeadWrite (port : Port) (w : Word) (s : State) : Out := .next (s.host port Reg.LG_HEAD.word Src.LG 0 (fun t => t.headWrite port w))
/-- R389: LG_OVF_WRITE. -/
def execLgOvfWrite (port : Port) (w : Word) (s : State) : Out := .next (s.host port Reg.LG_OVF.word Src.LG 0 (fun t => t.ovfWrite port w))
/-- R392: LG_CMD_CLEAR. -/
def execLgCmdClear (port : Port) (s : State) : Out := .next (s.host port Reg.LG_CMD.word Src.LG 0 State.lgClear)
/-- R397: LG_CMD_RELEASE. -/
def execLgCmdRelease (port : Port) (s : State) : Out := .next (s.host port Reg.LG_CMD.word Src.LG 0 (fun t => t.set Reg.LG_SNAPSTAT.LOCKED 0))

/-- R394: a write of LG_SNAP. (DEDUCED, assumption 100.) -/
def State.snapWrite (s : State) (port : Port) (w : Word) : State :=
  let b := Reg.LG_SNAP.BEAT.of w; let tag := Reg.LG_SNAP.TAG.of w; let record := Reg.LG_SNAP.RECORD.of w == 1
  let bad := fun (code : Nat) => s.reject port Reg.LG_SNAP.word Src.LG code
  if 8 ≤ s.snapsPending then bad Lc.STATE_REJECT
  else if Reg.LG_SNAP.MULTI.of w = 0 then
    (match s.schedFault b 2 with
     | some c => bad c
     | none => s.schedule b tag record)
  else if s.role ≠ Role.ROOT ∨ !s.locked ∨ tag = 0 then bad Lc.STATE_REJECT
  else match s.schedFault b (128 + 64 * (s.get Reg.TB_STAT.HOP + 1)) with
    | some c => bad c
    | none =>
      { s with tb := { s.tb with queue := s.tb.queue ++ [⟨Fk.SNAPSHOT, cmdPayload tag b⟩], snapOrigin := s.tb.snapOrigin ++ [⟨b, tag, record⟩] } }
def execLgSnapWrite (port : Port) (w : Word) (s : State) : Out := .next (s.host port Reg.LG_SNAP.word Src.LG 0 (fun t => t.snapWrite port w))
/-- R393, R488: SNAPSHOT. The readings of an evaluation in the same beat come first. -/
def execSnapshot (s : State) : Out := .next s.hkReadings.snapshot

end Sys2Proof.Machine
end

