-- ==== Sys2Proof/Machine/Statements.lean ====
section
/-! DEFINITION. The statements of a site's program, the host's site commands, and the words and commands of a customer verb: one meaning per
row of the command table. -/

namespace Sys2Proof.Machine

/-- NOP (R185). -/
def execStmtNop (n : Fin 64) (s : State) : Out := .next (s.issue n [0x00] noBad (fun _ t => t.retire n))

/-- END (R185): the open clause is discarded and the site waits for its pattern condition. -/
def execStmtEnd (n : Fin 64) (s : State) : Out := .next (s.issue n [0x01] noBad (fun _ t => (t.discardOpen n).setWait n .finish))

/-- END_COMPLETE (R23). -/
def execEndComplete (n : Fin 64) (s : State) : Out := .next (s.endComplete n)

/-- JMP (R185). -/
def execStmtJmp (n : Fin 64) (s : State) : Out := .next (s.issue n [0x02] noBad (fun i t => t.setPc n i.target))

/-- BR (R184, R185). -/
def execStmtBr (n : Fin 64) (s : State) : Out :=
  .next (s.issue n [0x03] (fun i t => operandBad (brCond i.cc (t.opA n i) (t.opB n i)).isNone)
    (fun i t => if (brCond i.cc (t.opA n i) (t.opB n i)).getD false then t.setPc n i.target else t.retire n))

/-- BRS (R185). -/
def execStmtBrs (n : Fin 64) (s : State) : Out :=
  .next (s.issue n [0x04] (fun i t => operandBad (brsCond i.cc (t.get (Reg.SQ_STAT.ST n)) i.imm).isNone)
    (fun i t => if (brsCond i.cc (t.get (Reg.SQ_STAT.ST n)) i.imm).getD false then t.setPc n i.target else t.retire n))

/-- CALL (R185, R187). -/
def execStmtCall (n : Fin 64) (s : State) : Out :=
  .next (s.issue n [0x05] (fun _ t => stackBad (t.stackFull n)) (fun i t => (t.pushPc n (t.pc n + 1)).setPc n i.target))

/-- RET (R185, R187). -/
def execStmtRet (n : Fin 64) (s : State) : Out :=
  .next (s.issue n [0x06] (fun _ t => stackBad (t.stackEmpty n)) (fun _ t => (t.popPc n).2.setPc n (t.popPc n).1))

/-- LOOP (R185): X0 stays 0. -/
def execStmtLoop (n : Fin 64) (s : State) : Out :=
  .next (s.issue n [0x07] noBad (fun i t =>
    let u := t.setX n i.xd (t.getX n i.xd - 1)
    if u.getX n i.xd ≠ 0 then u.setPc n i.target else u.retire n))

/-- HOLD (R185). -/
def execStmtHold (n : Fin 64) (s : State) : Out :=
  .next (s.issue n [0x08] noBad (fun i t => (((t.userHold n (i.imm % 2 ^ 48)).retire n).hold n Cause.USER).follow))

/-- LDI (R185). -/
def execStmtLdi (n : Fin 64) (s : State) : Out :=
  .next (s.issue n [0x10] noBad (fun i t =>
    (t.setX n i.xd (if bitOf i.aux 0 then wput (t.getX n i.xd) 127 64 i.imm else i.immS)).retire n))

/-- R184: an arithmetic statement. -/
def State.arithStmt (s : State) (n op : Nat) : State :=
  s.issue n [op] noBad (fun i t => (t.setX n i.xd (arith op (t.opA n i) (t.opB n i))).retire n)

/-- ADD (R184). -/
def execStmtAdd (n : Fin 64) (s : State) : Out := .next (s.arithStmt n 0x11)
/-- SUB (R184). -/
def execStmtSub (n : Fin 64) (s : State) : Out := .next (s.arithStmt n 0x12)
/-- AND (R184). -/
def execStmtAnd (n : Fin 64) (s : State) : Out := .next (s.arithStmt n 0x13)
/-- OR (R184). -/
def execStmtOr (n : Fin 64) (s : State) : Out := .next (s.arithStmt n 0x14)
/-- XOR (R184). -/
def execStmtXor (n : Fin 64) (s : State) : Out := .next (s.arithStmt n 0x15)
/-- SHL (R184). -/
def execStmtShl (n : Fin 64) (s : State) : Out := .next (s.arithStmt n 0x16)
/-- SHR (R184). -/
def execStmtShr (n : Fin 64) (s : State) : Out := .next (s.arithStmt n 0x17)
/-- SAR (R184). -/
def execStmtSar (n : Fin 64) (s : State) : Out := .next (s.arithStmt n 0x18)

/-- LDP (R185, R187). -/
def execStmtLdp (n : Fin 64) (s : State) : Out :=
  .next (s.issue n [0x19] (fun i t => t.progBad n (t.stmtAddr n (t.ldpIndex n i)) 16)
    (fun i t => (t.setX n i.xd (t.mem16 (t.stmtAddr n (t.ldpIndex n i)))).retire n))

/-- RDW (R51, R185): the live value. -/
def execStmtRdw (n : Fin 64) (s : State) : Out :=
  .next (s.issue n [0x1A] noBad (fun i t => ((t.setX n i.xd (t.readWord (t.rdwAddr n i))).retire n).bumpFree))

/-- NOW (R51, R185). -/
def execStmtNow (n : Fin 64) (s : State) : Out :=
  .next (s.issue n [0x1B] noBad (fun i t => ((t.setX n i.xd (BitVec.ofNat 128 (t.captureTime % 2 ^ 80))).retire n).bumpFree))

/-- WAITB (R188). -/
def execStmtWaitb (n : Fin 64) (s : State) : Out := .next (s.issue n [0x20] noBad (fun i t => t.waitBeat n (t.waitbTarget n i)))

/-- WAITB_TARGET (R188). -/
def execWaitbTarget (n : Fin 64) (s : State) : Out := .next (s.beatTarget n)

/-- R189: WAITF (or ARMF) on a site whose follow counter is off. -/
def State.followOff (s : State) (n : Nat) : Option (Nat × Nat) := operandBad (!s.flag (Reg.TB_FOLLOW_CFG.EN n))

/-- WAITF (R189). -/
def execStmtWaitf (n : Fin 64) (s : State) : Out :=
  .next (s.issue n [0x21] (fun _ t => t.followOff n)
    (fun i t => t.waitFollow n i.xd (wget (t.opA n i) 47 0) (t.timeoutBeat (i.imm % 2 ^ 32))))

/-- WAITF_TIMEOUT (R189). -/
def execWaitfTimeout (n : Fin 64) (s : State) : Out := .next (s.followTimeout n)

/-- WAITP (R194). -/
def execStmtWaitp (n : Fin 64) (s : State) : Out :=
  .next (s.issue n [0x22] noBad (fun i t => t.setWait n (.pattern i.xd (t.timeoutBeat (i.imm % 2 ^ 32)) (bitOf i.aux 0))))

/-- WAITP_COMPLETE (R194). -/
def execWaitpComplete (n : Fin 64) (s : State) : Out := .next (s.patternDone n)

/-- WAITP_TIMEOUT (R194). -/
def execWaitpTimeout (n : Fin 64) (s : State) : Out := .next (s.patternTimeout n)

/-- CLO (R191). -/
def execStmtClo (n : Fin 64) (s : State) : Out := .next (s.issue n [0x30] (fun _ t => t.clauseBad n false) (fun _ t => t.cloIssue n))

/-- CLO_WAIT_END (R191). -/
def execCloWaitEnd (n : Fin 64) (s : State) : Out := .next (s.cloWaitEnd n)

/-- CLA (R191). -/
def execStmtCla (n : Fin 64) (s : State) : Out :=
  .next (s.issue n [0x31] (fun _ t => t.clauseBad n true)
    (fun i t => (t.stageOne n ⟨i.imm % 2 ^ 24, t.opA n i, t.getX n i.xb⟩).retire n))

/-- CLT (R191). -/
def execStmtClt (n : Fin 64) (s : State) : Out :=
  .next (s.issue n [0x32]
    (fun i t => if (t.clauseBad n true).isSome then t.clauseBad n true else t.tableBad n (i.imm % 2 ^ 20) (i.aux % 2 ^ 13))
    (fun i t => (t.stageTable n (i.imm % 2 ^ 20) (i.aux % 2 ^ 13)).retire n))

/-- R192: the full stop of CLC. -/
def State.clcStop (s : State) (n : Nat) (i : Stmt) : Nat := if bitOf i.aux 0 then wget (s.opA n i) 79 16 else s.now + i.imm % 2 ^ 32

/-- CLC (R192). -/
def execStmtClc (n : Fin 64) (s : State) : Out :=
  .next (s.issue n [0x33] (fun _ t => t.clauseBad n true)
    (fun i t => t.closeClause n i.xd (t.clcStop n i) (bitOf i.aux 1) (bitsOf i.imm 32 16)))

/-- CLC_DECISION (R192). -/
def execClcDecision (n : Fin 64) (s : State) : Out := .next (s.clcDecision n)

/-- CLD (R191). -/
def execStmtCld (n : Fin 64) (s : State) : Out :=
  .next (s.issue n [0x34] (fun _ t => t.clauseBad n true) (fun _ t => (t.discardOpen n).retire n))

/-- R193: the fields of PLAY. -/
def Stmt.list (i : Stmt) : Nat := i.imm % 2 ^ 35
def State.playStart (s : State) (n : Nat) (i : Stmt) : Nat := wget (s.opA n i) 79 0

/-- R32, R193: a PLAY that comes too late is logged beside its fault. -/
def State.playStmt (s : State) (n : Nat) : State :=
  s.issue n [0x40] noBad (fun i t =>
    if t.playBad n i.list (bitOf i.aux 0) (bitOf i.aux 1) (s.playStart n i) then
      (s.playLog n (bitOf i.aux 0) (s.playStart n i)).fault n Reason.OPERAND Reason.OPERAND
    else (t.play n i.list (bitOf i.aux 0) (bitOf i.aux 1) (s.playStart n i)).retire n)

/-- PLAY (R193). -/
def execStmtPlay (n : Fin 64) (s : State) : Out := .next (s.playStmt n)

/-- MEAS (R195, R294, R328). -/
def execStmtMeas (n : Fin 64) (s : State) : Out :=
  .next (s.issue n [0x50] (fun i t => operandBad (t.measBad n (t.measReq n i)))
    (fun i t => (t.startMeas n (t.measReq n i)).waitUnits n i.xd (t.measReq n i).count))

/-- TMEAS (R195, R267). -/
def execStmtTmeas (n : Fin 64) (s : State) : Out :=
  .next (s.issue n [0x51] (fun i t => operandBad (t.tmeasBad n (t.measReq n i)))
    (fun i t => (t.startTmeas n (t.measReq n i)).waitUnits n i.xd (t.measReq n i).count))

/-- LTEST (R195, R418). -/
def execStmtLtest (n : Fin 64) (s : State) : Out :=
  .next (s.issue n [0x52] (fun i t => operandBad (t.ltestBad n (i.aux % 32)))
    (fun i t => (t.ltestStart (i.aux % 32) n (i.imm % 2 ^ 48) (wget (t.opA n i) 47 0)).waitUnits n i.xd 1))

/-- REC (R196). -/
def execStmtRec (n : Fin 64) (s : State) : Out :=
  .next (s.issue n [0x60] (fun i _ => operandBad (!recKind (i.aux % 16)))
    (fun i t => (t.ownRecord n (i.aux % 16) (bitsOf i.aux 4 10) (bitOf i.aux 14) (wget (t.opA n i) 47 0)).retire n))

/-- BIN (R185). -/
def execStmtBin (n : Fin 64) (s : State) : Out :=
  .next (s.issue n [0x61] noBad (fun i t => (t.ownRecord n Kind.BIN 0 false (i.imm % 2 ^ 48)).retire n))

/-- ACC (R196). -/
def execStmtAcc (n : Fin 64) (s : State) : Out :=
  .next (s.issue n [0x62] noBad (fun i t =>
    let u := t.setX n i.xd (t.accValue n (bitsOf i.aux 1 2))
    (if bitOf i.aux 0 then u.accReset n else u).retire n))

/-- CUSTOMER_OPCODE (R215, R216). -/
def execCustomerOpcode (n : Fin 64) (s : State) : Out :=
  .next (s.issue n ((List.range 64).map (· + 0xC0)) noBad (fun _ t => t.dispatch n (t.stmtWord n)))

/-- RESERVED_OPCODE (R183). -/
def execReservedOpcode (n : Fin 64) (s : State) : Out := .next (s.badOp n)

/-! ### The host's site commands -/

/-- SQ_CMD_ARM (R538). -/
def execSqCmdArm (port : Port) (n : Fin 64) (s : State) : Out := 
  .next (s.host port (Reg.SQ_CMD.word n) Src.SQ n (fun t => t.arm port n))
/-- SQ_CMD_DISARM (R199). -/
def execSqCmdDisarm (port : Port) (n : Fin 64) (s : State) : Out := 
  .next (s.host port (Reg.SQ_CMD.word n) Src.SQ n (fun t => t.disarm port n))
/-- SQ_CMD_HOLD (R199). -/
def execSqCmdHold (port : Port) (n : Fin 64) (s : State) : Out := 
  .next (s.host port (Reg.SQ_CMD.word n) Src.SQ n (fun t => t.hostHold port n))
/-- SQ_CMD_RESUME (R199 to R201). -/
def execSqCmdResume (port : Port) (n : Fin 64) (mask : BitVec 10) (s : State) : Out := 
  .next (s.host port (Reg.SQ_CMD.word n) Src.SQ n (fun t => t.hostResume port n mask.toNat))
/-- SQ_CMD_STOP (R203). -/
def execSqCmdStop (port : Port) (n : Fin 64) (s : State) : Out := 
  .next (s.host port (Reg.SQ_CMD.word n) Src.SQ n (fun t => t.hostStop port n))
/-- STOP_COMPLETE (R203). -/
def execStopComplete (n : Fin 64) (s : State) : Out := .next (s.stopComplete n)

/-! ### Verbs -/

/-- COMMA_STARVE (R221). -/
def execCommaStarve (n : Fin 64) (s : State) : Out := .next (s.starve n)
/-- MICROWORD (R208). -/
def execMicroword (n : Fin 64) (s : State) : Out := .next (s.microword n)

/-- EXT_CLOPEN (R213). -/
def execExtClopen (n : Fin 64) (s : State) : Out := .next (s.command n 0x01 (fun _ t => t.clauseBad n false) (fun c t => t.cmdClopen n c))
/-- EXT_CLACT (R213, R220). -/
def execExtClact (n : Fin 64) (s : State) : Out := .next (s.command n 0x02 (fun _ t => t.extClauseBad n) (fun c t => t.cmdClact n c))
/-- EXT_CLTAB (R213, R220). -/
def execExtCltab (n : Fin 64) (s : State) : Out := .next (s.command n 0x03 (fun c t => t.cltabBad n c) (fun c t => t.cmdCltab n c))
/-- EXT_CLCOMMIT (R213, R220). -/
def execExtClcommit (n : Fin 64) (s : State) : Out := .next (s.command n 0x04 (fun _ t => t.extClauseBad n) (fun c t => t.cmdClcommit n c))
/-- EXT_CLDISCARD (R213). -/
def execExtCldiscard (n : Fin 64) (s : State) : Out := .next (s.command n 0x05 (fun _ t => t.extClauseBad n) (fun _ t => t.cmdCldiscard n))
/-- EXT_RDREG (R213). -/
def execExtRdreg (n : Fin 64) (s : State) : Out := .next (s.command n 0x06 (fun _ _ => none) (fun c t => t.cmdRdreg n c))
/-- EXT_RDPROG (R213). -/
def execExtRdprog (n : Fin 64) (s : State) : Out :=
  .next (s.command n 0x07 (fun c t => t.progBad n (t.stmtAddr n (wget c.a 19 0)) 16) (fun c t => t.cmdRdprog n c))
/-- EXT_REC (R213). -/
def execExtRec (n : Fin 64) (s : State) : Out :=
  .next (s.command n 0x08 (fun c _ => operandBad (!recKind (wget c.c 3 0))) (fun c t => t.cmdRec n c))
/-- EXT_PLAY (R213). -/
def execExtPlay (n : Fin 64) (s : State) : Out := .next (s.cmdPlay n)
/-- EXT_MEAS (R213). -/
def execExtMeas (n : Fin 64) (s : State) : Out :=
  .next (s.command n 0x0A (fun c t => operandBad (t.measBad n c.meas)) (fun c t => t.cmdMeas n c))
/-- EXT_TMEAS (R213). -/
def execExtTmeas (n : Fin 64) (s : State) : Out :=
  .next (s.command n 0x0B (fun c t => operandBad (t.tmeasBad n c.meas)) (fun c t => t.cmdTmeas n c))
/-- EXT_LTEST (R213). -/
def execExtLtest (n : Fin 64) (s : State) : Out :=
  .next (s.command n 0x0C (fun c t => operandBad (t.ltestBad n (wget c.a 4 0))) (fun c t => t.cmdLtest n c))
/-- EXT_ACC (R213). -/
def execExtAcc (n : Fin 64) (s : State) : Out := .next (s.command n 0x0D (fun _ _ => none) (fun c t => t.cmdAcc n c))
/-- EXT_HOLD (R213). -/
def execExtHold (n : Fin 64) (s : State) : Out := .next (s.command n 0x0E (fun _ _ => none) (fun c t => t.cmdHold n c))
/-- EXT_END (R213). -/
def execExtEnd (n : Fin 64) (s : State) : Out := .next (s.command n 0x0F (fun _ _ => none) (fun _ t => t.cmdEnd n))
/-- EXT_ARMB (R213). -/
def execExtArmb (n : Fin 64) (s : State) : Out := .next (s.command n 0x10 (fun _ _ => none) (fun c t => t.waitBeat n (wget c.a 79 16)))
/-- EXT_ARMF (R213). -/
def execExtArmf (n : Fin 64) (s : State) : Out := .next (s.command n 0x11 (fun _ t => t.followOff n) (fun c t => t.cmdArmf n c))
/-- EXT_ARMP (R213). -/
def execExtArmp (n : Fin 64) (s : State) : Out := .next (s.command n 0x12 (fun _ _ => none) (fun c t => t.cmdArmp n c))
/-- EXT_PUSHPC (R213). -/
def execExtPushpc (n : Fin 64) (s : State) : Out := .next (s.command n 0x13 (fun _ t => stackBad (t.stackFull n)) (fun c t => t.cmdPushpc n c))
/-- EXT_POPPC (R213). -/
def execExtPoppc (n : Fin 64) (s : State) : Out := .next (s.command n 0x14 (fun _ t => stackBad (t.stackEmpty n)) (fun _ t => t.cmdPoppc n))
/-- EXT_FAULT (R213). -/
def execExtFault (n : Fin 64) (s : State) : Out :=
  .next (s.command n 0x15 (fun c _ => operandBad (faultReasonBad (wget c.c 7 0))) (fun c t => t.cmdFault n c))

/-! ### The control store -/

/-- LOAD_VENDOR (R225). -/
def execLoadVendor (port : Port) (s : State) : Out := 
  .next (s.host port Reg.LX_CMD.word Src.LX 0 (fun t => t.loadStart port false))
/-- VENDOR_LOAD_DONE (R225). -/
def execVendorLoadDone (s : State) : Out := .next s.vendorLoadDone
/-- LOAD_CUSTOMER (R225). -/
def execLoadCustomer (port : Port) (s : State) : Out := 
  .next (s.host port Reg.LX_CMD.word Src.LX 0 (fun t => t.loadStart port true))
/-- CUSTOMER_LOAD_DONE (R225). -/
def execCustomerLoadDone (s : State) : Out := .next s.customerLoadDone
/-- SWAP (R227). -/
def execSwap (port : Port) (s : State) : Out := 
  .next (s.host port Reg.LX_CMD.word Src.LX 0 (fun t => t.swapBanks port))
/-- KEY_WRITE (R228). -/
def execKeyWrite (port : Port) (w : Word) (s : State) : Out := 
  .next (s.host port Reg.LX_CMD.word Src.LX 0 (fun t => t.keyStart port false w))
/-- KEY_REVOKE (R228). -/
def execKeyRevoke (port : Port) (w : Word) (s : State) : Out := 
  .next (s.host port Reg.LX_CMD.word Src.LX 0 (fun t => t.keyStart port true w))
/-- KEY_COMMAND_DONE (R229). -/
def execKeyCommandDone (w : NvmEnd) (s : State) : Out := .next (s.keyDone w)

end Sys2Proof.Machine
end

