-- ==== Sys2Proof/Machine/Write.lean ====
section
/-! DEFINITION. Direct writes (R8, R9, R445, R500, R511, R512, R535): what the write of one whole word does at every address, whichever port it comes
through. Words that a command row of its own writes go the same way. -/

namespace Sys2Proof.Machine

/-! ### Addresses -/

/-- R484, R511: the SOURCE of the block that a word lies in. -/
def srcAt (a : Nat) : Nat :=
  if a < 0x001000 then Src.DEV else if a < 0x002000 then Src.TB else if a < 0x003000 then Src.HK else if a < 0x003800 then Src.LOG
  else if a < 0x004000 then Src.LG else if a < 0x004800 then Src.CP else if a < 0x005000 then Src.MP else if a < 0x006000 then Src.HL
  else if a < 0x008000 then Src.CL else if a < 0x010000 then Src.SI else if a < 0x030000 then Src.CS else if a < 0x031000 then Src.LX
  else if a < 0x040000 then Src.SQ else if a < 0x048000 then Src.SO else if a < 0x050000 then Src.PM else if a < 0x060000 then Src.EE
  else if a < 0x070000 then Src.TM else if a < 0x090000 then Src.CH else if a < 0x0A1000 then Src.DPS else if a < 0x0A2000 then Src.WF
  else if a < 0x0B0000 then Src.GD else if a < 0x0C0000 then Src.DL else if a < 0x100000 then Src.CAL else Src.LG

/-- R486: the index of the unit that a word belongs to, or 0. -/
def unitAt (a : Nat) : Nat :=
  if 0x001100 ≤ a ∧ a < 0x001200 then a % 0x40
  else if 0x004808 ≤ a ∧ a < 0x004818 then a % 8
  else if 0x005010 ≤ a ∧ a < 0x005014 then a - 0x005010
  else if 0x006100 ≤ a ∧ a < 0x006200 then (a - 0x006100) / 0x10
  else if 0x031000 ≤ a ∧ a < 0x032000 then (a - 0x031000) / 0x40
  else if 0x041000 ≤ a ∧ a < 0x043000 then (a % 0x1000) / 0x10
  else if 0x048100 ≤ a ∧ a < 0x048300 then a % 0x100
  else if 0x050000 ≤ a ∧ a < 0x060000 then (a - 0x050000) / 0x20
  else if 0x060000 ≤ a ∧ a < 0x070000 then (a - 0x060000) / 0x10
  else if 0x080000 ≤ a ∧ a < 0x090000 then (a - 0x080000) / 0x40
  else if 0x0A0000 ≤ a ∧ a < 0x0A2000 then (a % 0x1000) / 0x10
  else if 0x0A2100 ≤ a ∧ a < 0x0A2200 then (a - 0x0A2100) / 4
  else if 0x0B0000 ≤ a ∧ a < 0x0C0000 then (a - 0x0B0000) / 0x100
  else 0

/-- R535: the write of the word at `a` is rejected as a whole. -/
def State.refuse (s : State) (port : Port) (a : Nat) (code : Nat := Lc.STATE_REJECT) : State := s.reject port a (srcAt a) code (unitAt a)

/-- R8: the RW fields of a word take their values, and the W1C fields that are written 1 clear. -/
def State.plain (s : State) (a : Nat) (w : Word) : State :=
  let rw := accMask .rw a
  s.setReg a (((s.reg a &&& ~~~rw) ||| (w &&& rw)) &&& ~~~(w &&& accMask .w1c a))

/-! ### CL words (R9, R535) -/

/-- What the write of a CL word would leave in it. (DEDUCED, assumption 13.) -/
def State.directWord (s : State) (a : Nat) (w : Word) : Word := (s.reg a &&& ~~~(accMask .cl a)) ||| (w &&& accMask .cl a)

/-- R86, R199, R311, R325, R326, R493: a value that the state in force does not allow in the word. -/
def State.directState (s : State) (a : Nat) (e : Word) : Bool := match clWord a with
  | .sqCtrl n => (Reg.SQ_CTRL.START n).of e == 1
  | .ch c k => k == 0 && (Reg.CH_CTRL.OUT_ARM c).of e != s.get (Reg.CH_CTRL.OUT_ARM c)
  | .dps d k => k == 0 && ((s.dps d).check.isSome
      || ((Reg.DPS_SET.CONN d).of e == 1 && (s.flag (Reg.DPS_STAT.HELD_OFF d) || s.quiet || s.mode == Mode.STANDBY)))
  | .wf i k => k == 0 && (Reg.WF_CTRL.MODE i).of e == 3 && s.get (Reg.WF_STAT.TABLE i) != 2
  | .dl l k => k == 0 && s.quiet && (Reg.DL_CTRL.MODE l).of e != 0
  | _ => false

/-- R292, R311, R334, R421: the close checks that a direct write must pass too, and the limits of a source. -/
def State.directClose (s : State) (a : Nat) (e : Word) : Bool :=
  let rd := fieldRd (fun b => if b = a then e else s.reg b)
  match clWord a with
  | .ch c k => ((k == 0 || k == 0x17 || k == 0x20) && s.pmuClose rd c == some true)
      || (k == 0x30 && (decide (rd (Reg.CH_GWIN.GVH c) < rd (Reg.CH_GWIN.GVL c) + 34)
        || decide (signedOf 16 (rd (Reg.CH_GWIN.PMU_IHI c)) ≤ signedOf 16 (rd (Reg.CH_GWIN.PMU_ILO c)))))
  | .wf i _ => (wfCheck rd i).fails || s.limitBad a e
  | .dl l _ => laneCloseBad rd l
  | _ => false

/-- R535, R284, R324: a level, set-point or current limit beyond a limit that the needle or the force path has; where it has none, nothing (R436
refuses with a clause's code). (DEDUCED, assumption 13.) -/
def State.directLimit (s : State) (a : Nat) (e : Word) : Bool := match clWord a with
  | .ch c k => 0x10 ≤ k && k < 0x17 && !s.noNeedle c && s.limitBad a e
  | .dps d _ => s.flag (Reg.MP_LIMDPS.FORCE d) && s.limitBad a e
  | _ => false

/-- R9, R535: a direct write of the CL word at `a` is refused. (DEDUCED, assumption 13.) -/
def State.clRefused (s : State) (a : Nat) (w : Word) : Bool :=
  let e := s.directWord a w
  s.wordRefused a || s.directState a e || s.fieldBad a w e || s.directClose a e || s.directLimit a e

/-- R278, R309, R320: levels, sources and supplies take a direct write in the beat after it. -/
def State.nextBeat (s : State) (f : State → State) : State := { f { s with beat := s.beat + 1 } with beat := s.beat }

/-- R54: a word of a supply or a lane that no site owns starts nothing. -/
def State.unowned (s : State) (a : Nat) : Bool := match clWord a with
  | .dps d _ => (s.dpsSite d).isNone
  | .dl l _ => (s.laneSite l).isNone
  | _ => false

/-- R9: a direct write of a CL word sets the shadow copy and the active copy together. (DEDUCED, assumption 13.) -/
def State.clDirect (s : State) (port : Port) (a : Nat) (w : Word) : State :=
  if s.clRefused a w then s.refuse port a
  else
    let x : Action := ⟨a, w, BitVec.allOnes 128⟩
    if s.unowned a then s.applyValues x
    else match clWord a with
      | .ch _ k => if 0x10 ≤ k ∧ k < 0x18 then s.nextBeat (fun t => t.applyActions [x]) else s.applyActions [x]
      | .wf _ _ | .dps _ _ => s.nextBeat (fun t => t.applyActions [x])
      | _ => s.applyActions [x]

/-! ### The blocks -/

/-- DEV (R491, R499, R501, R510). -/
def State.wrDev (s : State) (port : Port) (a : Nat) (w : Word) : State :=
  if a = Reg.DEV_MODE.word then s.modeWrite port w
  else if a = Reg.DEV_CMD.word then
    match Reg.DEV_CMD.CMD.of w with
    | 1 => s.softReset port
    | 2 => s.cancelMode
    | _ => s.refuse port a
  else if a = Reg.DEV_SVC.word then
    match Reg.DEV_SVC.CMD.of w with
    | 1 => s.svcSpare port (Reg.DEV_SVC.INDEX.of w) (Reg.DEV_SVC.SPARE.of w)
    | 2 => s.svcRetire port (Reg.DEV_SVC.INDEX.of w)
    | 3 => s.svcCancel port
    | _ => s.refuse port a
  else s.plain a w

/-- TB (R35, R53). -/
def State.wrTb (s : State) (port : Port) (a : Nat) (w : Word) : State :=
  if a = Reg.TB_CTRL.word then s.tbCtrlWrite port w
  else if a = Reg.TB_LOAD.word then s.tbLoadWrite port (wget w 63 0)
  else if a = Reg.TB_ROOT_CMD.word then
    (if Reg.TB_ROOT_CMD.KIND.of w = Fk.HOLD ∨ Reg.TB_ROOT_CMD.KIND.of w = Fk.RELEASE
     then s.rootCmd port (Reg.TB_ROOT_CMD.KIND.of w) (Reg.TB_ROOT_CMD.BEAT.of w) else s.refuse port a)
  else s.plain a w

/-- R489: the ranges of HK_CTRL and of HK_RATE. -/
def hkCtrlBad (w : Word) : Bool :=
  let t := Reg.HK_CTRL.THR_T.of w; let h := Reg.HK_CTRL.HYST.of w
  let r := Reg.HK_CTRL.REL_ROUNDS.of w; let p := Reg.HK_CTRL.PAUSE_ROUNDS.of w
  t < 8500 || 11500 < t || h < 100 || 2000 < h || r < 1 || 10000 < r || p < 1 || 10000 < p || Reg.HK_CTRL.HOLDS.of w < 1
def hkRateBad (w : Word) : Bool := (List.range 7).any (fun g => let b := wget w (8 * g + 7) (8 * g); b < 5 || 200 < b)

/-- HK (R479, R489). -/
def State.wrHk (s : State) (port : Port) (a : Nat) (w : Word) : State :=
  if a = Reg.HK_CMD.word then
    match Reg.HK_CMD.CMD.of w with
    | 1 => s.hkRetire port (Reg.HK_CMD.INDEX.of w)
    | 2 => s.hkRestore port (Reg.HK_CMD.INDEX.of w)
    | _ => s.reject port a Src.HK Lc.STATE_REJECT (Reg.HK_CMD.INDEX.of w)
  else if (a = Reg.HK_CTRL.word ∧ hkCtrlBad w) ∨ (a = Reg.HK_RATE.word ∧ hkRateBad w) then s.refuse port a
  else s.plain a w

/-- LOG (R487). -/
def State.wrLog (s : State) (port : Port) (a : Nat) (w : Word) : State :=
  if a = Reg.LOG_CMD.word then (if Reg.LOG_CMD.CMD.of w = 1 then s.logClear else s.refuse port a) else s.plain a w

/-- R389, R390: the watermarks of LG_CFG. -/
def lgCfgBad (w : Word) : Bool :=
  let m := Reg.LG_CFG.MIG_WM.of w
  m < 256 || 1048576 < m || Reg.LG_CFG.ALERT_WM.of w < 1

/-- LG (R389 to R397). -/
def State.wrLg (s : State) (port : Port) (a : Nat) (w : Word) : State :=
  if a = Reg.LG_HEAD.word then s.headWrite port w
  else if a = Reg.LG_OVF.word then s.ovfWrite port w
  else if a = Reg.LG_CMD.word then
    match Reg.LG_CMD.CMD.of w with
    | 1 => s.lgClear
    | 2 => s.set Reg.LG_SNAPSTAT.LOCKED 0
    | _ => s.refuse port a
  else if a = Reg.LG_SNAP.word then s.snapWrite port w
  else if a = Reg.LG_CFG.word then (if lgCfgBad w then s.refuse port a else (s.plain a w).nearRise s)
  else s.plain a w

/-- CP (R440, R444, R451): CLAUSE of CP_ALERT clears with CL_STAT.SPLIT alone, and has no mask. -/
def State.wrCp (s : State) (port : Port) (a : Nat) (w : Word) : State :=
  if a = Reg.CP_CFG.word then
    (if Reg.CP_CFG.DUMMY.of w < 6 ∨ Reg.CP_CFG.LANES.of w = 3 then s.refuse port a else s.plain a w)
  else if a = Reg.CP_ALERT.word then s.plain a (wput (wput w 1 1 0) 17 17 0)
  else s.plain a w

/-- R426, R427: a lane field, and a width that its lanes do not divide or that is above 32. -/
def phaseBad (lanes bits : Nat) : Bool := lanes == 3 || bits % 2 ^ lanes != 0 || 32 < bits
def mpFrmBad (k : Nat) (w : Word) : Bool :=
  phaseBad ((Reg.MP_FRM.CMD_LANES k).of w) ((Reg.MP_FRM.CMD_BITS k).of w)
  || phaseBad ((Reg.MP_FRM.ADDR_LANES k).of w) ((Reg.MP_FRM.ADDR_BITS k).of w) || (Reg.MP_FRM.DATA_LANES k).of w == 3
def mpSelBad (k : Nat) (w : Word) : Bool :=
  [Reg.MP_SEL.HALF k, Reg.MP_SEL.LEAD k, Reg.MP_SEL.LAG k, Reg.MP_SEL.GAP k].any (fun f => f.of w == 0)

/-- MP (R428, R434, R438). -/
def State.wrMp (s : State) (port : Port) (a : Nat) (w : Word) : State :=
  let busy := s.flag Reg.MP_STAT.BUSY
  if a = Reg.MP_XFER.word then
    match Reg.MP_XFER.OP.of w with
    | 1 => s.mpXfer port w
    | 2 => s.mpDiscover port
    | 3 => s.mpAbort
    | _ => s.refuse port a
  else if 0x004808 ≤ a ∧ a < 0x004810 then (if busy ∨ mpSelBad (a - 0x004808) w then s.refuse port a else s.plain a w)
  else if 0x004810 ≤ a ∧ a < 0x004818 then (if busy ∨ mpFrmBad (a - 0x004810) w then s.refuse port a else s.plain a w)
  else s.plain a w

/-- R462, R468: a write of HL_BULK_n. -/
def State.hlBulkWrite (s : State) (port : Port) (n : Nat) (w : Word) : State :=
  let limit := if (Reg.HL_BULK.TARGET n).of w = 0 then pmSize else 0x1000000
  if (Reg.HL_BULK.MODE n).of w = 3 ∨ limit ≤ (Reg.HL_BULK.PTR n).of w then s.refuse port (Reg.HL_BULK.word n) else s.plain (Reg.HL_BULK.word n) w

/-- HL (R462, R466). -/
def State.wrHl (s : State) (port : Port) (a : Nat) (w : Word) : State :=
  if 0x005010 ≤ a ∧ a < 0x005014 then s.hlBulkWrite port (a - 0x005010) w else s.plain a w

/-- CL (R235, R236, R244, R253). -/
def State.wrCl (s : State) (port : Port) (a : Nat) (w : Word) : State :=
  if a = Reg.CL_STAT.word then (if Reg.CL_STAT.SPLIT.of w = 1 then (s.plain a w).set ⟨Reg.CP_ALERT.word, 1, 1⟩ 0 else s.plain a w)
  else if 0x006100 ≤ a ∧ a < 0x006200 then
    let k := (a - 0x006100) / 0x10
    match a % 0x10 with
    | 0 => match (Reg.CL_CMD.CMD k).of w with
      | 1 => s.hostOpen port k
      | 2 => s.hostCommit port k
      | 3 => s.hostDiscard port k
      | 4 => s.hostFree port k
      | _ => s.refuse port a
    | 1 => s.clSetWrite port k w
    | 4 => s.clAddrWrite port k w
    | 5 => s
    | _ => if s.hostSlot k Slot.OPEN then s.setReg a w else s.refuse port a
  else s.plain a w

/-- SI (R72 to R81). -/
def State.wrSi (s : State) (port : Port) (a : Nat) (w : Word) : State :=
  if a = Reg.SI_CMD.word then
    match Reg.SI_CMD.OP.of w with
    | 1 => s.siLoad port
    | 2 => s.siReshape port (Reg.SI_CMD.SITE.of w)
    | 3 => s.siCheck port
    | 4 => s.siClear port
    | _ => s.refuse port a
  else if 0x009000 ≤ a ∧ s.flag Reg.SI_STAT.BUSY then s.refuse port a Lc.SI_BUSY
  else s.plain a w

/-- LX (R225, R228): an image lies at a multiple of 64. (DEDUCED, assumption 125.) -/
def State.wrLx (s : State) (port : Port) (a : Nat) (w : Word) : State :=
  if a = Reg.LX_CMD.word then
    match Reg.LX_CMD.CMD.of w with
    | 1 => s.loadStart port false
    | 2 => s.loadStart port true
    | 3 => s.swapBanks port
    | 4 => s.keyStart port false w
    | 5 => s.keyStart port true w
    | _ => s.refuse port a
  else if a = Reg.LX_SRC.word ∧ Reg.LX_SRC.ADDR.of w % 64 ≠ 0 then s.refuse port a
  else s.plain a w

/-- R180: the states in which the host may write the X registers of a site. -/
def State.xregOpen (s : State) (n : Nat) : Bool :=
  s.siteState n == Site.LOADED || s.siteState n == Site.ARMED || (s.siteState n == Site.HELD && s.get (Reg.SQ_STAT.TOKEN n) == 0)

/-- SQ (R179, R180, R199). -/
def State.wrSq (s : State) (port : Port) (a : Nat) (w : Word) : State :=
  let n := (a - 0x031000) / 0x40
  let k := a % 0x40
  if k < 0x20 then (if s.xregOpen n then s.setX n k w else s.refuse port a)
  else if k = 0x20 then s.clDirect port a w
  else if k = 0x21 then
    match (Reg.SQ_CMD.CMD n).of w with
    | 1 => s.arm port n
    | 2 => s.disarm port n
    | 3 => s.hostHold port n
    | 4 => s.hostResume port n ((Reg.SQ_CMD.MASK n).of w)
    | 5 => s.hostStop port n
    | _ => s.refuse port a
  else s.plain a w

/-- R154, R156: a stream's configuration: FB_VEC 1 to 16, LB_WM 8 to 120, while no site of the stream is live. -/
def State.strCfgBad (s : State) (x : Nat) (w : Word) : Bool :=
  let v := (Reg.SO_STR_CFG.FB_VEC x).of w; let l := (Reg.SO_STR_CFG.LB_WM x).of w
  v < 1 || 16 < v || l < 8 || 120 < l || (s.streamSites x).any s.siteLive

/-- SO (R154, R165, R172, R174). -/
def State.wrSo (s : State) (port : Port) (a : Nat) (w : Word) : State :=
  let n := (a % 0x1000) / 0x10
  if a = Reg.SO_CTRL.word then (if Reg.SO_CTRL.PD_IDLE.of w < 64 then s.refuse port a else s.plain a w)
  else if 0x041000 ≤ a ∧ a < 0x042000 then
    (if a % 0x10 = 0 ∧ s.strCfgBad n w then s.refuse port a else s.plain a w)
  else if 0x042000 ≤ a then
    match a % 0x10 with
    | 0 => s.fcCfgWrite port n w
    | 1 => s.fcPtrWrite port n w
    | 3 => if (Reg.SO_SITE_CMD.CLR_FAIL n).of w = 1 then s.clrFail port n else s
    | _ => s
  else s.plain a w

/-- EE (R118). -/
def State.wrEe (s : State) (port : Port) (a : Nat) (w : Word) : State :=
  match a % 0x20 with
  | 0 => s.clDirect port a w
  | 1 => s.eeTwrWrite port ((a - 0x050000) / 0x20) w
  | _ => s.plain a w

/-- TM (R271). -/
def State.wrTm (s : State) (port : Port) (a : Nat) (w : Word) : State :=
  let t := (a - 0x060000) / 0x10
  if a % 0x10 < 2 then s.clDirect port a w
  else if a % 0x10 = 2 then
    match (Reg.TM_CMD.CMD t).of w with
    | 1 => s.tmArm port t w
    | 2 => s.tdcCancel t
    | _ => s.refuse port a
  else s.plain a w

/-- CH (R86, R298). -/
def State.wrCh (s : State) (port : Port) (a : Nat) (w : Word) : State :=
  let c := (a - 0x080000) / 0x40
  if a % 0x40 = 0x23 then
    match (Reg.CH_PMUCMD.CMD c).of w with
    | 1 => s.pmuMeasure port c w
    | 2 => s.pmuCancel c
    | _ => s.refuse port a
  else if accMask .cl a ≠ 0 then s.clDirect port a w
  else s.plain a w

/-- DPS (R325, R329). -/
def State.wrDps (s : State) (port : Port) (a : Nat) (w : Word) : State :=
  let d := (a - 0x0A0000) / 0x10
  if a % 0x10 < 2 then s.clDirect port a w
  else if a % 0x10 = 4 then
    match (Reg.DPS_CMD.CMD d).of w with
    | 1 => s.dpsMeasure port d w
    | 2 => s.dpsCancel d
    | 3 => s.dpsCheck port d
    | _ => s.refuse port a
  else s.plain a w

/-- WF (R309, R312): a table lies at a multiple of 64. (DEDUCED, assumption 125.) -/
def State.wrWf (s : State) (port : Port) (a : Nat) (w : Word) : State :=
  let i := (a - 0x0A1000) / 0x10
  if a % 0x10 < 3 then s.clDirect port a w
  else if a % 0x10 = 5 then (if (Reg.WF_TCMD.CMD i).of w = 1 then s.wfTableLoad port i else s.refuse port a)
  else if a % 0x10 = 4 ∧ (Reg.WF_TSRC.ADDR i).of w % 64 ≠ 0 then s.refuse port a
  else s.plain a w

/-- R343, R346, R349: GD_CMD. -/
def State.gdCommand (s : State) (port : Port) (w : Word) : State :=
  let i := Reg.GD_CMD.INDEX.of w
  let bad := s.reject port Reg.GD_CMD.word Src.GD Lc.STATE_REJECT i
  match Reg.GD_CMD.CMD.of w with
  | 1 => s.clearCmd port (s.compChans i) [] i
  | 2 => if i < 64 then s.clearCmd port [] (s.gangChans i) i else bad
  | 3 => if i < 64 then s.clearCmd port (s.siteChans i) (s.siteSupplies i) i else bad
  | 4 => s.clearWhatCan (List.range 1024) (List.range 64)
  | 5 => s.selfcheck port i
  | 6 => s.contactRun port
  | _ => bad

/-- GD (R343 to R353). -/
def State.wrGd (s : State) (port : Port) (a : Nat) (w : Word) : State :=
  if a = Reg.GD_CMD.word then (s.gdCommand port w).follow
  else if a = Reg.GD_CONTACT.word then
    (if s.contact.isSome ∨ Reg.GD_CONTACT.NSAMP.of w = 0 ∨ 10 < Reg.GD_CONTACT.PHASES.of w then s.refuse port a else s.plain a w)
  else if accMask .cl a ≠ 0 then s.clDirect port a w
  else s.plain a w

/-- R380: the ranges of CAL_CTRL and of CAL_REF. -/
def calCtrlBad (w : Word) : Bool :=
  let d := Reg.CAL_CTRL.CAL_DT.of w; let r := Reg.CAL_CTRL.MIN_REF.of w
  Reg.CAL_CTRL.MIN_EDGES.of w < 1024 || Reg.CAL_CTRL.WIN.of w < 10000 || Reg.CAL_CTRL.LSTEP.of w < 16 || Reg.CAL_CTRL.TSTEP.of w < 1
  || r < 8 || 64 < r || d < 50 || 2000 < d
def calRefBad (w : Word) : Bool :=
  let v := Reg.CAL_REF.CALV_UV.of w
  v < 4000000 || 6000000 < v || Reg.CAL_REF.CALT_DIV.of w < 1

/-- CAL (R355 to R380). -/
def State.wrCal (s : State) (port : Port) (a : Nat) (w : Word) : State :=
  if a = Reg.CAL_CMD.word then
    match Reg.CAL_CMD.CMD.of w with
    | 1 => s.refcalRun port w
    | 2 => s.qcal port w
    | 3 => s.calSave port w
    | 4 => s.calRestore port w
    | 5 => s.calAbort port
    | _ => s.refuse port a
  else if (a = Reg.CAL_CTRL.word ∧ calCtrlBad w) ∨ (a = Reg.CAL_REF.word ∧ calRefBad w) then s.refuse port a
  else if a = Reg.CAL_CTRL.word then (s.plain a w).dropCycles
  else s.plain a w

/-- The write of one word in a mode other than RESET, at an address that is no hole. -/
def State.wordWrite (s : State) (port : Port) (a : Nat) (w : Word) : State :=
  if a < 0x001000 then s.wrDev port a w
  else if a < 0x001100 then s.wrTb port a w
  else if a < 0x002000 then (if accMask .cl a ≠ 0 then s.clDirect port a w else s)
  else if a < 0x003000 then s.wrHk port a w
  else if a < 0x003800 then s.wrLog port a w
  else if a < 0x004000 then s.wrLg port a w
  else if a < 0x004800 then s.wrCp port a w
  else if a < 0x005000 then s.wrMp port a w
  else if a < 0x006000 then s.wrHl port a w
  else if a < 0x008000 then s.wrCl port a w
  else if a < 0x010000 then s.wrSi port a w
  else if a < 0x031000 then s.wrLx port a w
  else if a < 0x040000 then s.wrSq port a w
  else if a < 0x048000 then s.wrSo port a w
  else if a < 0x050000 then (if 0x048100 ≤ a ∧ a < 0x048200 then s.rgnWrite port (a - 0x048100) w else s.plain a w)
  else if a < 0x060000 then s.wrEe port a w
  else if a < 0x070000 then s.wrTm port a w
  else if a < 0x0A0000 then s.wrCh port a w
  else if a < 0x0A1000 then s.wrDps port a w
  else if a < 0x0A2000 then s.wrWf port a w
  else if a < 0x0B0000 then s.wrGd port a w
  else if a < 0x0C0000 then (if accMask .cl a ≠ 0 then s.clDirect port a w else s.plain a w)
  else s.wrCal port a w

/-- R445, R448, R500, R512: a direct write of the word at `a`. (DEDUCED, assumption 15.) -/
def State.directWrite (s : State) (port : Port) (a : Nat) (w : Word) : State :=
  if s.mode = Mode.RESET ∧ a ≠ Reg.TB_CTRL.word ∧ a ≠ Reg.CP_CFG.word then s.refuse port a
  else if isHole a ∨ 0x100000 ≤ a then s.reportHole port a
  else s.wordWrite port a w

/-- R535: REGISTER_WRITE. -/
def execRegisterWrite (port : Port) (addr : BitVec 24) (w : Word) (s : State) : Out := .next (s.directWrite port addr.toNat w)

/-- R462: HL_BULK_WRITE. -/
def execHlBulkWrite (port : Port) (ch : Fin 4) (w : Word) (s : State) : Out :=
  .next (s.host port (Reg.HL_BULK.word ch) Src.HL ch (fun t => t.hlBulkWrite port ch w))

end Sys2Proof.Machine
end

