-- ==== Sys2Proof/Machine/Link.lean ====
section
/-! DEFINITION. The host link (R456 to R468): BAR0, the bulk port of BAR2, MSI-X, and the resets and states of the link. -/

namespace Sys2Proof.Machine

/-! ### BAR0 (R459 to R461) -/

/-- R459: the dwords that an access of `len` bytes at `offset` touches: the first and their number. -/
def dwordSpan (offset len : Nat) : Nat × Nat := (offset / 4, ceilDiv (offset % 4 + len) 4)

/-- R460: dword `d` of BAR0 is read: a word that the latch does not hold, or whose dword 0 is read, is captured. -/
def State.bar0Dword (s : State) (d : Nat) : State :=
  let a := d / 4
  if 2 ^ 24 ≤ a then s
  else
    let t := if d % 4 = 0 ∨ s.link.rd.map Prod.fst ≠ some a then
        { (if isHole a then s.reportHole .bar0 a else s.bumpFree) with link := { s.link with rd := some (a, s.readHost a) } }
      else s
    let w := (t.link.rd.map Prod.snd).getD 0
    { t with link := { t.link with data := t.link.data ++ [BitVec.ofNat 32 (bitsOf w.toNat (32 * (d % 4)) 32)] } }

/-- R461: the word in the write latch is dropped incomplete. -/
def State.bar0Partial (s : State) (a : Nat) : State :=
  let t := (s.set Reg.HL_STAT.PARTIAL 1).hlLast 3 a
  { t with link := { t.link with wr := none } }

/-- R461: a latch that holds another word than `a` drops it. -/
def State.bar0Empty (s : State) (a : Nat) : State := match s.link.wr with
  | some (b, _) => if b = a then s else s.bar0Partial b
  | none => s

/-- R461: the dwords of word `a` in the latch. -/
def State.bar0Held (s : State) : List (Option (BitVec 32)) := (s.link.wr.map Prod.snd).getD [none, none, none, none]

/-- R7, R461: the word that four dwords make. -/
def dwordsWord (l : List (BitVec 32)) : Word := BitVec.ofNat 128 (l.foldr (fun d n => d.toNat + 2 ^ 32 * n) 0)

/-- R461: a write stores `v` in dword `d` of BAR0; dword 3 completes the word. -/
def State.bar0Store (s : State) (d : Nat) (v : BitVec 32) : State :=
  let a := d / 4
  let t := s.bar0Empty a
  let l := t.bar0Held.set (d % 4) (some v)
  if d % 4 ≠ 3 then { t with link := { t.link with wr := some (a, l) } }
  else if l.all Option.isSome then ({ t with link := { t.link with wr := none } } : State).directWrite .bar0 a (dwordsWord (l.filterMap id))
  else t.bar0Partial a

/-- R461: the dwords of a write request; one with its byte enables not all set is not written. -/
def State.bar0Stores : State → Nat → List (Option (BitVec 32)) → State
  | s, _, [] => s
  | s, d, none :: l => s.bar0Stores (d + 1) l
  | s, d, some v :: l => (if d < 2 ^ 26 then s.bar0Store d v else s).bar0Stores (d + 1) l

/-- R457, R459, R460: BAR0_READ. -/
def execBar0Read (offset : BitVec 28) (len : Nat) (s : State) : Out :=
  let p := dwordSpan offset.toNat len
  .next (if s.link.d3 then s
    else ({ s with link := { s.link with data := [] } } : State).forN p.2 (fun i t => t.bar0Dword (p.1 + i)))

/-- R457, R459, R461: BAR0_WRITE. -/
def execBar0Write (offset : BitVec 28) (dwords : List (Option (BitVec 32))) (s : State) : Out :=
  .next (if s.link.d3 then s else s.bar0Stores (offset.toNat / 4) dwords)

/-! ### The bulk port (R462 to R465) -/

/-- R462: the size of a channel's target. -/
def State.bulkSize (s : State) (ch : Nat) : Nat := if s.get (Reg.HL_BULK.TARGET ch) = 0 then pmSize else 0x1000000

/-- R462: the address of a request in its target. -/
def State.bulkBase (s : State) (ch offset : Nat) : Nat :=
  s.get (Reg.HL_BULK.PTR ch) + (if s.get (Reg.HL_BULK.MODE ch) = 1 then 0 else offset)

/-- R462, R463: a STREAM request advances the pointer, which stops at the end of the target; a request that passes the end is reported. (DEDUCED, assumption 130.) -/
def State.bulkTake (s : State) (ch offset len : Nat) : State :=
  let base := s.bulkBase ch offset
  let s1 := if s.bulkSize ch < base + len then s.set Reg.HL_STAT.OVERRUN 1 else s
  if s.get (Reg.HL_BULK.MODE ch) = 1 then s1.set (Reg.HL_BULK.PTR ch) (min (s.bulkSize ch) (base + len)) else s1

/-- R464: a bulk write into pattern memory. (DEDUCED, assumption 130.) -/
def State.bulkPm (s : State) (a : Nat) (bs : List ByteLane) : State :=
  let (t, dropped) := s.bulkStore a bs
  (if dropped then t.set Reg.HL_STAT.VIOL_DROP 1
    else if s.mergesBad a bs then t.set Reg.HL_STAT.UNCORR 1 else t).follow

/-- R462 to R464: BULK_WRITE. The lanes of `data` that are `none` have their byte enable clear. -/
def execBulkWrite (ch : Fin 4) (offset : BitVec 20) (data : List ByteLane) (s : State) : Out :=
  .next (if s.link.d3 then s
    else if s.get (Reg.HL_BULK.MODE ch) = 0 then s.set Reg.HL_STAT.BULK_OFF 1
    else
      let a := s.bulkBase ch offset.toNat
      let t := s.bulkTake ch offset.toNat data.length
      let bs := data.take (s.bulkSize ch - a)
      if s.get (Reg.HL_BULK.TARGET ch) = 1 then t.set Reg.HL_STAT.LEDGER_WR 1
      else if bs = [] then t else t.bulkPm a bs)

/-- R464: byte `a` of the ledger. -/
def State.lgByte (s : State) (a : Nat) : Byte := BitVec.ofNat 8 (bitsOf (s.lgSlot (a / 16)).toNat (8 * (a % 16)) 8)

/-- R133, R464: a bulk read of pattern memory: an uncorrectable unit poisons the completion. -/
def State.bulkPmRead (s : State) (a k pad : Nat) : State :=
  let bad := s.anyUncorr a k
  let t := s.memReq a k
  let t1 := if bad then t.uncorrMet.set Reg.HL_STAT.UNCORR 1 else t
  { t1 with link := { t1.link with bulk := (s.bytes a k ++ List.replicate pad 0, bad) } }

/-- R462 to R464: BULK_READ. -/
def execBulkRead (ch : Fin 4) (offset : BitVec 20) (len : Nat) (s : State) : Out :=
  .next (if s.link.d3 then s
    else if s.get (Reg.HL_BULK.MODE ch) = 0 then
      { s.set Reg.HL_STAT.BULK_OFF 1 with link := { s.link with bulk := (List.replicate len 0, false) } }
    else
      let a := s.bulkBase ch offset.toNat
      let k := min len (s.bulkSize ch - a)
      let t := s.bulkTake ch offset.toNat len
      if s.get (Reg.HL_BULK.TARGET ch) = 1 then
        { t with link := { t.link with bulk := ((List.range k).map (fun i => s.lgByte (a + i)) ++ List.replicate (len - k) 0, false) } }
      else t.bulkPmRead a k (len - k))

/-! ### MSI-X (R466) -/

/-- R466: the vector control word of a vector masks it. -/
def State.vecMasked (s : State) (v : Nat) : Bool := bitOf (sget msixReset s.link.table (4 * v + 3)).toNat 0

/-- R456, R466: messages leave the function: the link is up in D0, MSI-X is enabled and the function is not masked. (DEDUCED, assumption 132.) -/
def State.msixOpen (s : State) : Bool := s.flag Reg.HL_LINK.UP && !s.link.d3 && s.link.msixOn && !s.link.msixMask

/-- R466: the message of vector `v` is sent if it is pending and nothing masks it. (DEDUCED, assumption 132.) -/
def State.sendVec (s : State) (v : Nat) : State :=
  if s.msixOpen ∧ bitOf s.msix v ∧ !s.vecMasked v then
    { s with msix := s.msix - 2 ^ v, link := { s.link with sent := s.link.sent ++ [v] } }
  else s

/-- R466: MSIX_MESSAGE: the lowest pending vector that nothing masks. -/
def execMsixMessage (s : State) : Out :=
  .next (match (List.range 32).find? (fun v => bitOf s.msix v && !s.vecMasked v) with
    | some v => s.sendVec v
    | none => s)

/-- R466: MSIX_TABLE_WRITE: a dword of the table; a vector that it unmasks sends what waits. -/
def execMsixTableWrite (vec : Fin 32) (field : Fin 4) (v : BitVec 32) (s : State) : Out :=
  .next (if s.link.d3 then s
    else
      let t : State := { s with link := { s.link with table := sset msixReset s.link.table (4 * vec.val + field.val) v } }
      if s.vecMasked vec ∧ !t.vecMasked vec then t.sendVec vec else t)

/-- R457, R466: CONFIG_WRITE: the power state, or MSI-X Enable with the function mask. What a change unmasks is sent. -/
def execConfigWrite (reg : CfgWrite) (s : State) : Out :=
  let t : State := match reg with
    | .power d3 => { s with link := { s.link with d3 := d3 } }
    | .msix enable mask => { s with link := { s.link with msixOn := enable, msixMask := mask } }
  .next (if t.msixOpen ∧ !s.msixOpen then t.forN 32 (fun v u => u.sendVec v) else t)

/-! ### The link (R457, R458) -/

/-- R457: configuration space and the HL block return to their reset values; the bulk channels close and the latches are empty. UP shows the
data link all the while, and what the link has carried is past. (DEDUCED, assumption 131.) -/
def State.hlReset (s : State) : State :=
  let up := s.get Reg.HL_LINK.UP
  let keep := fun p : Nat × Word => !(decide (0x005000 ≤ p.1) && decide (p.1 < 0x006000))
  let t : State := { s with regs := s.regs.filter keep, held := s.held.filter keep, msix := 0
                            link := { LinkSt.init with data := s.link.data, bulk := s.link.bulk, sent := s.link.sent } }
  t.set Reg.HL_LINK.UP up

/-- R458: LINK_UP. (DEDUCED, assumption 132.) -/
def execLinkUp (speed : BitVec 3) (width : BitVec 4) (reversed : Bool) (polinv : BitVec 8) (s : State) : Out :=
  let changed := s.flag Reg.HL_LINK.UP && (s.get Reg.HL_LINK.SPEED != speed.toNat || s.get Reg.HL_LINK.WIDTH != width.toNat)
  let low := speed.toNat < 5 || width.toNat < 8
  let s1 := ((((s.set Reg.HL_LINK.UP 1).set Reg.HL_LINK.SPEED speed.toNat).set Reg.HL_LINK.WIDTH width.toNat).set
    Reg.HL_LINK.REVERSED (b2n reversed)).set Reg.HL_LINK.POLINV polinv.toNat
  let s2 := if low then ((s1.set Reg.HL_STAT.DEGRADED 1).inc Reg.HL_CNT.DOWNTRAINS).log Src.HL Lc.HL_DEGRADED (width.toNat * 2 ^ 7 + speed.toNat)
    else s1.set Reg.HL_STAT.DEGRADED 0
  .next (if changed || (low && !s.flag Reg.HL_STAT.DEGRADED) then s2.intr Intr.LINK else s2)

/-- R458: LINK_RECOVERY. -/
def execLinkRecovery (s : State) : Out := .next (s.inc Reg.HL_CNT.RETRAINS)

/-- R457, R458: LINK_DOWN: what it resets, and then its report. -/
def execLinkDown (s : State) : Out :=
  .next (if s.flag Reg.HL_LINK.UP then
      ((((s.set Reg.HL_LINK.UP 0).hlReset.inc Reg.HL_CNT.LINKDOWN).log Src.HL Lc.HL_DOWN).alert Alert.OTHER)
    else s)

/-- R457: HOT_RESET. -/
def execHotReset (s : State) : Out := .next s.hlReset

/-- R457: FUNCTION_LEVEL_RESET. -/
def execFunctionLevelReset (s : State) : Out := .next s.hlReset

end Sys2Proof.Machine
end

