-- ==== Sys2Proof/Machine/Ports.lean ====
section
/-! DEFINITION. The control port (R439 to R455): its frames and the status of the frame before, and boundary scan (R526). -/

namespace Sys2Proof.Machine

/-- R443: some BUSY bit of the status byte. -/
def State.cpBusy (s : State) : Bool :=
  s.flag Reg.SI_STAT.BUSY || s.flag Reg.LX_STAT.BUSY || s.flag Reg.CAL_STAT.BUSY || s.flag Reg.MP_STAT.BUSY || s.flag Reg.GD_CSTAT.BUSY

/-- R443: the status byte that a frame shifts out: bits 7 to 3 of the frame before, bits 2 to 0 of the present. -/
def State.cpStatus (s : State) : Nat :=
  let slots := (List.range 16).any (fun k => s.slotState k != Slot.FREE)
  s.cpFrame / 8 % 32 * 8 + 4 * b2n s.alertOut + 2 * b2n slots + b2n s.cpBusy

/-- R443: a frame begins: its status byte goes out, the conditions it will report are none yet, and it is counted. (DEDUCED, assumption 127; DESIGN CHOICE, assumption 135.) -/
def State.cpBegin (s : State) : State :=
  ({ s.set Reg.CP_STAT.LAST s.cpStatus with cpFrame := 0 } : State).inc Reg.CP_CNT.FRAMES

/-- R449: the frame breaks a rule of frames. -/
def State.cpFrameErr (s : State) : State :=
  { (s.set Reg.CP_STAT.FRAME_ERR 1).inc Reg.CP_CNT.FRAME_ERR with cpFrame := s.cpFrame ||| 0x08 }

/-- R448: the frame runs past word 0xFF_FFFF. -/
def State.cpOverrun (s : State) : State := { s.set Reg.CP_STAT.OVERRUN 1 with cpFrame := s.cpFrame ||| 0x10 }

/-- R447: the CRC of the frame does not match. -/
def State.cpCrcErr (s : State) : State :=
  { (s.set Reg.CP_STAT.CRC_ERR 1).inc Reg.CP_CNT.CRC_ERR with cpFrame := s.cpFrame ||| 0x80 }

/-- R445, R448: the words of a frame are written at successive addresses; past the end they are dropped. (DEDUCED, assumption 127; DESIGN CHOICE, assumption 128.) -/
def State.cpWords : State → Nat → List Word → State
  | s, _, [] => s
  | s, a, w :: ws => (if a < 2 ^ 24 then s.directWrite .cp a w else s.cpOverrun).cpWords (a + 1) ws

/-- R444, R448: one word that a READ captures. -/
def State.cpReadWord (s : State) (a : Nat) : State :=
  if 2 ^ 24 ≤ a then { s.cpOverrun with cpOut := s.cpOut ++ [0] }
  else if isHole a then { s.reportHole .cp a with cpOut := s.cpOut ++ [0] }
  else { s.bumpFree with cpOut := s.cpOut ++ [s.readHost a] }

/-- R444: the words of a READ. -/
def State.cpReadWords (s : State) (a k : Nat) : State := s.forN k (fun i t => t.cpReadWord (a + i))

/-- R447: the CRC that a WRITE_CRC frame carries: over the command byte, the address and the data. -/
def frameCrc (addr : BitVec 24) (words : List Word) : Nat :=
  crc16 (0x12 :: (beBytes 3 addr.toNat ++ words.flatMap (fun w => beBytes 16 w.toNat)))

/-- R442: CP_NOP. -/
def execCpNop (s : State) : Out := .next s.cpBegin

/-- R445, R446: CP_WRITE; `part` when the frame ends partway through a further word. (DEDUCED, assumption 129.) -/
def execCpWrite (addr : BitVec 24) (words : List Word) (part : Bool) (s : State) : Out :=
  let t := s.cpBegin.cpWords addr.toNat words
  .next (if part then t.cpFrameErr else t)

/-- R444, R449: CP_READ; `part` when CS_N rises partway through a further word, which is captured all the same. (DEDUCED, assumption 129.) -/
def execCpRead (addr : BitVec 24) (count : Nat) (part : Bool) (s : State) : Out :=
  let t := ({ s.cpBegin with cpOut := [] } : State).cpReadWords addr.toNat count
  .next (if part then { (t.cpReadWord (addr.toNat + count)).cpFrameErr with cpOut := t.cpOut } else t)

/-- R447: CP_WRITE_CRC: all of the words or none. -/
def execCpWriteCrc (addr : BitVec 24) (words : List Word) (crc : BitVec 16) (s : State) : Out :=
  let t := s.cpBegin
  .next (if words = [] ∨ 16 < words.length then t.cpFrameErr
    else if crc.toNat = frameCrc addr words then t.cpWords addr.toNat words
    else t.cpCrcErr)

/-- R449: FRAME_ERR. -/
def execFrameErr (s : State) : Out := .next s.cpBegin.cpFrameErr

/-! ### Boundary scan (R526) -/

/-- R526: the modes in which EXTEST drives and samples the balls. (PRESUMED, assumption 9.) -/
def State.extestOpen (s : State) : Bool := s.mode == Mode.RESET || s.mode == Mode.SAFE

/-- R526: the identification register. (PRESUMED, assumption 9.) -/
def idcode : Nat := 0xA1024E93

/-- R526: TRST_N. -/
def execTrstN (s : State) : Out := .next { s with jtag := { s.jtag with ir := 0x3F, drives := false } }

/-- R526: JTAG_EXTEST: what is shifted in drives the balls, what they held is captured; in another mode it acts as BYPASS. -/
def execJtagExtest (shift balls : List Bool) (s : State) : Out :=
  .next (if s.extestOpen then { s with jtag := ⟨0x00, shift, balls, true⟩ }
    else { s with jtag := { s.jtag with ir := 0x00, captured := [false], drives := false } })

/-- R526: JTAG_SAMPLE_PRELOAD: the balls are captured and the cells loaded, and nothing is driven. -/
def execJtagSamplePreload (shift balls : List Bool) (s : State) : Out := .next { s with jtag := ⟨0x02, shift, balls, false⟩ }

/-- R526: JTAG_IDCODE: the identification register, least significant bit first. -/
def execJtagIdcode (s : State) : Out :=
  .next { s with jtag := { s.jtag with ir := 0x01, captured := (List.range 32).map (bitOf idcode), drives := false } }

/-- R526: JTAG_BYPASS. -/
def execJtagBypass (s : State) : Out :=
  .next { s with jtag := { s.jtag with ir := 0x3F, captured := [false], drives := false } }

end Sys2Proof.Machine
end

