-- ==== Sys2Proof/Machine/Dispatch.lean ====
section
/-! DEFINITION. One arm per command; each arm is one direct call of the meaning of that command. -/

namespace Sys2Proof.Machine

/-- The effect of a command on everything but the queue. -/
def exec (i : Instr) (s : State) : Host.Outcome State Fault Refusal :=
  match i with
  | .pllLock => Sys2Proof.Machine.execPllLock s
  | .refclkLost => Sys2Proof.Machine.execRefclkLost s
  | .tbLoad port beat => Sys2Proof.Machine.execTbLoad port beat s
  | .tbCtrlWrite port w => Sys2Proof.Machine.execTbCtrlWrite port w s
  | .epochFrame f off => Sys2Proof.Machine.execEpochFrame f off s
  | .idleFrame f off => Sys2Proof.Machine.execIdleFrame f off s
  | .commitFrame f off => Sys2Proof.Machine.execCommitFrame f off s
  | .abortFrame f off => Sys2Proof.Machine.execAbortFrame f off s
  | .snapshotFrame f off record => Sys2Proof.Machine.execSnapshotFrame f off record s
  | .holdFrame f off => Sys2Proof.Machine.execHoldFrame f off s
  | .releaseFrame f off => Sys2Proof.Machine.execReleaseFrame f off s
  | .reservedFrame f off => Sys2Proof.Machine.execReservedFrame f off s
  | .badSyncFrame f off => Sys2Proof.Machine.execBadSyncFrame f off s
  | .refclkInverted phase => Sys2Proof.Machine.execRefclkInverted phase s
  | .syncFrameLaunch veto => Sys2Proof.Machine.execSyncFrameLaunch veto s
  | .statusFrameLaunch trip => Sys2Proof.Machine.execStatusFrameLaunch trip s
  | .tbRootCmdHold port beat => Sys2Proof.Machine.execTbRootCmdHold port beat s
  | .tbRootCmdRelease port beat => Sys2Proof.Machine.execTbRootCmdRelease port beat s
  | .followEdge n rising tick => Sys2Proof.Machine.execFollowEdge n rising tick s
  | .followStall n => Sys2Proof.Machine.execFollowStall n s
  | .siCmdLoad port => Sys2Proof.Machine.execSiCmdLoad port s
  | .siCmdReshape port n => Sys2Proof.Machine.execSiCmdReshape port n s
  | .siCmdCheck port => Sys2Proof.Machine.execSiCmdCheck port s
  | .siCmdClear port => Sys2Proof.Machine.execSiCmdClear port s
  | .loadComplete => Sys2Proof.Machine.execLoadComplete s
  | .reshapeComplete => Sys2Proof.Machine.execReshapeComplete s
  | .checkComplete => Sys2Proof.Machine.execCheckComplete s
  | .vectorStart x => Sys2Proof.Machine.execVectorStart x s
  | .strobe c obs tick => Sys2Proof.Machine.execStrobe c obs tick s
  | .comparatorResolved dps u cmp above => Sys2Proof.Machine.execComparatorResolved dps u cmp above s
  | .clampHit c => Sys2Proof.Machine.execClampHit c s
  | .busSwitchClose c => Sys2Proof.Machine.execBusSwitchClose c s
  | .busSwitchDzEnd c => Sys2Proof.Machine.execBusSwitchDzEnd c s
  | .eeTwrWrite port t w => Sys2Proof.Machine.execEeTwrWrite port t w s
  | .switchOver => Sys2Proof.Machine.execSwitchOver s
  | .pmReady => Sys2Proof.Machine.execPmReady s
  | .pmRgnWrite port k w => Sys2Proof.Machine.execPmRgnWrite port k w s
  | .bulkWrite ch offset data => Sys2Proof.Machine.execBulkWrite ch offset data s
  | .bulkRead ch offset len => Sys2Proof.Machine.execBulkRead ch offset len s
  | .descriptorRead x => Sys2Proof.Machine.execDescriptorRead x s
  | .frameFetchComplete x => Sys2Proof.Machine.execFrameFetchComplete x s
  | .frameBoundary x => Sys2Proof.Machine.execFrameBoundary x s
  | .streamStart x => Sys2Proof.Machine.execStreamStart x s
  | .stackPowerDown k => Sys2Proof.Machine.execStackPowerDown k s
  | .soFcCfgWrite port n w => Sys2Proof.Machine.execSoFcCfgWrite port n w s
  | .soFcPtrWrite port n w => Sys2Proof.Machine.execSoFcPtrWrite port n w s
  | .clrFail port n => Sys2Proof.Machine.execClrFail port n s
  | .stmtNop n => Sys2Proof.Machine.execStmtNop n s
  | .stmtEnd n => Sys2Proof.Machine.execStmtEnd n s
  | .endComplete n => Sys2Proof.Machine.execEndComplete n s
  | .stmtJmp n => Sys2Proof.Machine.execStmtJmp n s
  | .stmtBr n => Sys2Proof.Machine.execStmtBr n s
  | .stmtBrs n => Sys2Proof.Machine.execStmtBrs n s
  | .stmtCall n => Sys2Proof.Machine.execStmtCall n s
  | .stmtRet n => Sys2Proof.Machine.execStmtRet n s
  | .stmtLoop n => Sys2Proof.Machine.execStmtLoop n s
  | .stmtHold n => Sys2Proof.Machine.execStmtHold n s
  | .stmtLdi n => Sys2Proof.Machine.execStmtLdi n s
  | .stmtAdd n => Sys2Proof.Machine.execStmtAdd n s
  | .stmtSub n => Sys2Proof.Machine.execStmtSub n s
  | .stmtAnd n => Sys2Proof.Machine.execStmtAnd n s
  | .stmtOr n => Sys2Proof.Machine.execStmtOr n s
  | .stmtXor n => Sys2Proof.Machine.execStmtXor n s
  | .stmtShl n => Sys2Proof.Machine.execStmtShl n s
  | .stmtShr n => Sys2Proof.Machine.execStmtShr n s
  | .stmtSar n => Sys2Proof.Machine.execStmtSar n s
  | .stmtLdp n => Sys2Proof.Machine.execStmtLdp n s
  | .stmtRdw n => Sys2Proof.Machine.execStmtRdw n s
  | .stmtNow n => Sys2Proof.Machine.execStmtNow n s
  | .stmtWaitb n => Sys2Proof.Machine.execStmtWaitb n s
  | .waitbTarget n => Sys2Proof.Machine.execWaitbTarget n s
  | .stmtWaitf n => Sys2Proof.Machine.execStmtWaitf n s
  | .waitfTimeout n => Sys2Proof.Machine.execWaitfTimeout n s
  | .stmtWaitp n => Sys2Proof.Machine.execStmtWaitp n s
  | .waitpComplete n => Sys2Proof.Machine.execWaitpComplete n s
  | .waitpTimeout n => Sys2Proof.Machine.execWaitpTimeout n s
  | .stmtClo n => Sys2Proof.Machine.execStmtClo n s
  | .cloWaitEnd n => Sys2Proof.Machine.execCloWaitEnd n s
  | .stmtCla n => Sys2Proof.Machine.execStmtCla n s
  | .stmtClt n => Sys2Proof.Machine.execStmtClt n s
  | .stmtClc n => Sys2Proof.Machine.execStmtClc n s
  | .clcDecision n => Sys2Proof.Machine.execClcDecision n s
  | .stmtCld n => Sys2Proof.Machine.execStmtCld n s
  | .stmtPlay n => Sys2Proof.Machine.execStmtPlay n s
  | .stmtMeas n => Sys2Proof.Machine.execStmtMeas n s
  | .stmtTmeas n => Sys2Proof.Machine.execStmtTmeas n s
  | .stmtLtest n => Sys2Proof.Machine.execStmtLtest n s
  | .stmtRec n => Sys2Proof.Machine.execStmtRec n s
  | .stmtBin n => Sys2Proof.Machine.execStmtBin n s
  | .stmtAcc n => Sys2Proof.Machine.execStmtAcc n s
  | .customerOpcode n => Sys2Proof.Machine.execCustomerOpcode n s
  | .sqCmdArm port n => Sys2Proof.Machine.execSqCmdArm port n s
  | .sqCmdDisarm port n => Sys2Proof.Machine.execSqCmdDisarm port n s
  | .sqCmdHold port n => Sys2Proof.Machine.execSqCmdHold port n s
  | .sqCmdResume port n mask => Sys2Proof.Machine.execSqCmdResume port n mask s
  | .sqCmdStop port n => Sys2Proof.Machine.execSqCmdStop port n s
  | .stopComplete n => Sys2Proof.Machine.execStopComplete n s
  | .commaStarve n => Sys2Proof.Machine.execCommaStarve n s
  | .microword n => Sys2Proof.Machine.execMicroword n s
  | .extClopen n => Sys2Proof.Machine.execExtClopen n s
  | .extClact n => Sys2Proof.Machine.execExtClact n s
  | .extCltab n => Sys2Proof.Machine.execExtCltab n s
  | .extClcommit n => Sys2Proof.Machine.execExtClcommit n s
  | .extCldiscard n => Sys2Proof.Machine.execExtCldiscard n s
  | .extRdreg n => Sys2Proof.Machine.execExtRdreg n s
  | .extRdprog n => Sys2Proof.Machine.execExtRdprog n s
  | .extRec n => Sys2Proof.Machine.execExtRec n s
  | .extPlay n => Sys2Proof.Machine.execExtPlay n s
  | .extMeas n => Sys2Proof.Machine.execExtMeas n s
  | .extTmeas n => Sys2Proof.Machine.execExtTmeas n s
  | .extLtest n => Sys2Proof.Machine.execExtLtest n s
  | .extAcc n => Sys2Proof.Machine.execExtAcc n s
  | .extHold n => Sys2Proof.Machine.execExtHold n s
  | .extEnd n => Sys2Proof.Machine.execExtEnd n s
  | .extArmb n => Sys2Proof.Machine.execExtArmb n s
  | .extArmf n => Sys2Proof.Machine.execExtArmf n s
  | .extArmp n => Sys2Proof.Machine.execExtArmp n s
  | .extPushpc n => Sys2Proof.Machine.execExtPushpc n s
  | .extPoppc n => Sys2Proof.Machine.execExtPoppc n s
  | .extFault n => Sys2Proof.Machine.execExtFault n s
  | .loadVendor port => Sys2Proof.Machine.execLoadVendor port s
  | .vendorLoadDone => Sys2Proof.Machine.execVendorLoadDone s
  | .loadCustomer port => Sys2Proof.Machine.execLoadCustomer port s
  | .customerLoadDone => Sys2Proof.Machine.execCustomerLoadDone s
  | .swap port => Sys2Proof.Machine.execSwap port s
  | .keyWrite port w => Sys2Proof.Machine.execKeyWrite port w s
  | .keyRevoke port w => Sys2Proof.Machine.execKeyRevoke port w s
  | .keyCommandDone w => Sys2Proof.Machine.execKeyCommandDone w s
  | .clCmdOpen port slot => Sys2Proof.Machine.execClCmdOpen port slot s
  | .clCmdCommit port slot => Sys2Proof.Machine.execClCmdCommit port slot s
  | .clCmdDiscard port slot => Sys2Proof.Machine.execClCmdDiscard port slot s
  | .clCmdFree port slot => Sys2Proof.Machine.execClCmdFree port slot s
  | .clSetWrite port slot w => Sys2Proof.Machine.execClSetWrite port slot w s
  | .clAddrWrite port slot w => Sys2Proof.Machine.execClAddrWrite port slot w s
  | .prepareComplete slot => Sys2Proof.Machine.execPrepareComplete slot s
  | .fullStop => Sys2Proof.Machine.execFullStop s
  | .decisionDeadline slot => Sys2Proof.Machine.execDecisionDeadline slot s
  | .tmCmdArm port t w => Sys2Proof.Machine.execTmCmdArm port t w s
  | .tmCmdCancel port t => Sys2Proof.Machine.execTmCmdCancel port t s
  | .tmSelfcal t cal => Sys2Proof.Machine.execTmSelfcal t cal s
  | .tdcCapture t input tick => Sys2Proof.Machine.execTdcCapture t input tick s
  | .tmTimeout t => Sys2Proof.Machine.execTmTimeout t s
  | .gateEnd t => Sys2Proof.Machine.execGateEnd t s
  | .deglitchStep c k => Sys2Proof.Machine.execDeglitchStep c k s
  | .passageSpanSwitch c k => Sys2Proof.Machine.execPassageSpanSwitch c k s
  | .passageCodeLoad c k => Sys2Proof.Machine.execPassageCodeLoad c k s
  | .passageEnd c k => Sys2Proof.Machine.execPassageEnd c k s
  | .pmuConnect c => Sys2Proof.Machine.execPmuConnect c s
  | .pmuPassageEnd c => Sys2Proof.Machine.execPmuPassageEnd c s
  | .pmuCompliance c code => Sys2Proof.Machine.execPmuCompliance c code s
  | .pmuSettleEnd dps u => Sys2Proof.Machine.execPmuSettleEnd dps u s
  | .pmuSampleEnd dps u adc => Sys2Proof.Machine.execPmuSampleEnd dps u adc s
  | .chPmucmdMeasure port c w => Sys2Proof.Machine.execChPmucmdMeasure port c w s
  | .chPmucmdCancel port c => Sys2Proof.Machine.execChPmucmdCancel port c s
  | .wfSample k => Sys2Proof.Machine.execWfSample k s
  | .wfConnect k => Sys2Proof.Machine.execWfConnect k s
  | .wfPassageEnd k => Sys2Proof.Machine.execWfPassageEnd k s
  | .wfTcmdLoad port k => Sys2Proof.Machine.execWfTcmdLoad port k s
  | .wfTableLoadDone k => Sys2Proof.Machine.execWfTableLoadDone k s
  | .dpsDelayEnd d => Sys2Proof.Machine.execDpsDelayEnd d s
  | .dpsRampStep d => Sys2Proof.Machine.execDpsRampStep d s
  | .dpsSwitchOpen d senseMv => Sys2Proof.Machine.execDpsSwitchOpen d senseMv s
  | .dpsOpenHigh d => Sys2Proof.Machine.execDpsOpenHigh d s
  | .dpsCompliance d code => Sys2Proof.Machine.execDpsCompliance d code s
  | .dpsCmdMeasure port d w => Sys2Proof.Machine.execDpsCmdMeasure port d w s
  | .dpsCmdCancel port d => Sys2Proof.Machine.execDpsCmdCancel port d s
  | .dpsCmdCheck port d => Sys2Proof.Machine.execDpsCmdCheck port d s
  | .senseCheckDone d obs => Sys2Proof.Machine.execSenseCheckDone d obs s
  | .negvTrip d => Sys2Proof.Machine.execNegvTrip d s
  | .senseTrip d => Sys2Proof.Machine.execSenseTrip d s
  | .guardTrip dps u cmp tick => Sys2Proof.Machine.execGuardTrip dps u cmp tick s
  | .blankEnd dps u cmp => Sys2Proof.Machine.execBlankEnd dps u cmp s
  | .filterSample dps u raw => Sys2Proof.Machine.execFilterSample dps u raw s
  | .clearCh port c => Sys2Proof.Machine.execClearCh port c s
  | .clearDps port d => Sys2Proof.Machine.execClearDps port d s
  | .clearSite port n => Sys2Proof.Machine.execClearSite port n s
  | .clearAll port => Sys2Proof.Machine.execClearAll port s
  | .selfcheck port c => Sys2Proof.Machine.execSelfcheck port c s
  | .selfcheckDone c good => Sys2Proof.Machine.execSelfcheckDone c good s
  | .contactRun port => Sys2Proof.Machine.execContactRun port s
  | .contactCheckDone obs => Sys2Proof.Machine.execContactCheckDone obs s
  | .refcalRun port w => Sys2Proof.Machine.execRefcalRun port w s
  | .refcalComplete obs => Sys2Proof.Machine.execRefcalComplete obs s
  | .calAbort port => Sys2Proof.Machine.execCalAbort port s
  | .qcal port w => Sys2Proof.Machine.execQcal port w s
  | .save port w => Sys2Proof.Machine.execSave port w s
  | .saveDone w => Sys2Proof.Machine.execSaveDone w s
  | .restore port w => Sys2Proof.Machine.execRestore port w s
  | .restoreDone obs => Sys2Proof.Machine.execRestoreDone obs s
  | .liveCycleStart q => Sys2Proof.Machine.execLiveCycleStart q s
  | .transferPhaseEnd q obs => Sys2Proof.Machine.execTransferPhaseEnd q obs s
  | .shadowCapture c q refs => Sys2Proof.Machine.execShadowCapture c q refs s
  | .calibrationSlot c => Sys2Proof.Machine.execCalibrationSlot c s
  | .liveCycleEnd q => Sys2Proof.Machine.execLiveCycleEnd q s
  | .recordWrite => Sys2Proof.Machine.execRecordWrite s
  | .migrationStart => Sys2Proof.Machine.execMigrationStart s
  | .migrationBurstDone => Sys2Proof.Machine.execMigrationBurstDone s
  | .lgHeadWrite port w => Sys2Proof.Machine.execLgHeadWrite port w s
  | .lgOvfWrite port w => Sys2Proof.Machine.execLgOvfWrite port w s
  | .lgCmdClear port => Sys2Proof.Machine.execLgCmdClear port s
  | .lgCmdRelease port => Sys2Proof.Machine.execLgCmdRelease port s
  | .lgSnapWrite port w => Sys2Proof.Machine.execLgSnapWrite port w s
  | .snapshot => Sys2Proof.Machine.execSnapshot s
  | .trainingBlock l blk => Sys2Proof.Machine.execTrainingBlock l blk s
  | .blockSent l => Sys2Proof.Machine.execBlockSent l s
  | .gapEnd l => Sys2Proof.Machine.execGapEnd l s
  | .eqTimeExpiry l => Sys2Proof.Machine.execEqTimeExpiry l s
  | .trainWinExpiry l => Sys2Proof.Machine.execTrainWinExpiry l s
  | .ackWinExpiry l => Sys2Proof.Machine.execAckWinExpiry l s
  | .laneLost l => Sys2Proof.Machine.execLaneLost l s
  | .retryGapEnd l => Sys2Proof.Machine.execRetryGapEnd l s
  | .losChange l on => Sys2Proof.Machine.execLosChange l on s
  | .lolChange l on => Sys2Proof.Machine.execLolChange l on s
  | .laneDown l => Sys2Proof.Machine.execLaneDown l s
  | .directLock l => Sys2Proof.Machine.execDirectLock l s
  | .adaptUpdate l obs => Sys2Proof.Machine.execAdaptUpdate l obs s
  | .adaptFreeze l => Sys2Proof.Machine.execAdaptFreeze l s
  | .ltestCountEnd l bits errs => Sys2Proof.Machine.execLtestCountEnd l bits errs s
  | .mpXferXfer port w => Sys2Proof.Machine.execMpXferXfer port w s
  | .mpXferDiscover port => Sys2Proof.Machine.execMpXferDiscover port s
  | .mpXferAbort port => Sys2Proof.Machine.execMpXferAbort port s
  | .mpFrameDone data => Sys2Proof.Machine.execMpFrameDone data s
  | .discoveryDone => Sys2Proof.Machine.execDiscoveryDone s
  | .cpNop => Sys2Proof.Machine.execCpNop s
  | .cpWrite addr words partialWord => Sys2Proof.Machine.execCpWrite addr words partialWord s
  | .cpRead addr count partialWord => Sys2Proof.Machine.execCpRead addr count partialWord s
  | .cpWriteCrc addr words crc => Sys2Proof.Machine.execCpWriteCrc addr words crc s
  | .frameErr => Sys2Proof.Machine.execFrameErr s
  | .resetN => Sys2Proof.Machine.execResetN s
  | .bar0Read offset len => Sys2Proof.Machine.execBar0Read offset len s
  | .bar0Write offset dwords => Sys2Proof.Machine.execBar0Write offset dwords s
  | .hlBulkWrite port ch w => Sys2Proof.Machine.execHlBulkWrite port ch w s
  | .linkUp speed width reversed polinv => Sys2Proof.Machine.execLinkUp speed width reversed polinv s
  | .linkRecovery => Sys2Proof.Machine.execLinkRecovery s
  | .linkDown => Sys2Proof.Machine.execLinkDown s
  | .hotReset => Sys2Proof.Machine.execHotReset s
  | .functionLevelReset => Sys2Proof.Machine.execFunctionLevelReset s
  | .msixMessage => Sys2Proof.Machine.execMsixMessage s
  | .housekeepingRound temps mons => Sys2Proof.Machine.execHousekeepingRound temps mons s
  | .roundEvaluation => Sys2Proof.Machine.execRoundEvaluation s
  | .stackSelfRefresh => Sys2Proof.Machine.execStackSelfRefresh s
  | .shutdownRecordDone w => Sys2Proof.Machine.execShutdownRecordDone w s
  | .hkCmdRetire port k => Sys2Proof.Machine.execHkCmdRetire port k s
  | .hkCmdRestore port k => Sys2Proof.Machine.execHkCmdRestore port k s
  | .logCmdClear port => Sys2Proof.Machine.execLogCmdClear port s
  | .logEntryWrite => Sys2Proof.Machine.execLogEntryWrite s
  | .modeReqSafe port at_ => Sys2Proof.Machine.execModeReqSafe port at_ s
  | .modeReqDiscover port at_ => Sys2Proof.Machine.execModeReqDiscover port at_ s
  | .modeReqShape port at_ => Sys2Proof.Machine.execModeReqShape port at_ s
  | .modeReqRefcal port at_ => Sys2Proof.Machine.execModeReqRefcal port at_ s
  | .modeReqStandby port at_ => Sys2Proof.Machine.execModeReqStandby port at_ s
  | .modeReqReady port at_ => Sys2Proof.Machine.execModeReqReady port at_ s
  | .modeReqContact port at_ => Sys2Proof.Machine.execModeReqContact port at_ s
  | .modeReqRun port at_ => Sys2Proof.Machine.execModeReqRun port at_ s
  | .modeReqSelftest port at_ => Sys2Proof.Machine.execModeReqSelftest port at_ s
  | .modeReqForbidden port req at_ => Sys2Proof.Machine.execModeReqForbidden port req at_ s
  | .scheduledModeRequest => Sys2Proof.Machine.execScheduledModeRequest s
  | .devCmdSoftReset port => Sys2Proof.Machine.execDevCmdSoftReset port s
  | .devCmdCancelMode port => Sys2Proof.Machine.execDevCmdCancelMode port s
  | .devSvcSpare port c k => Sys2Proof.Machine.execDevSvcSpare port c k s
  | .devSvcRetire port n => Sys2Proof.Machine.execDevSvcRetire port n s
  | .devSvcCancel port => Sys2Proof.Machine.execDevSvcCancel port s
  | .selftestDone obs => Sys2Proof.Machine.execSelftestDone obs s
  | .powerOn => Sys2Proof.Machine.execPowerOn s
  | .initDone => Sys2Proof.Machine.execInitDone s
  | .brownOut stackKept => Sys2Proof.Machine.execBrownOut stackKept s
  | .brownOutEnd => Sys2Proof.Machine.execBrownOutEnd s
  | .trstN => Sys2Proof.Machine.execTrstN s
  | .jtagExtest shift balls => Sys2Proof.Machine.execJtagExtest shift balls s
  | .jtagSamplePreload shift balls => Sys2Proof.Machine.execJtagSamplePreload shift balls s
  | .jtagIdcode => Sys2Proof.Machine.execJtagIdcode s
  | .jtagBypass => Sys2Proof.Machine.execJtagBypass s
  | .registerWrite port addr w => Sys2Proof.Machine.execRegisterWrite port addr w s
  | .reservedOpcode n => Sys2Proof.Machine.execReservedOpcode n s
  | .checkerSync l bits errs => Sys2Proof.Machine.execCheckerSync l bits errs s
  | .checkerSyncLoss l bits errs => Sys2Proof.Machine.execCheckerSyncLoss l bits errs s
  | .adaptRestart l => Sys2Proof.Machine.execAdaptRestart l s
  | .vetoEnd slot => Sys2Proof.Machine.execVetoEnd slot s
  | .configWrite reg => Sys2Proof.Machine.execConfigWrite reg s
  | .msixTableWrite vec field v => Sys2Proof.Machine.execMsixTableWrite vec field v s

end Sys2Proof.Machine
end

