-- ==== Sys2Proof/Machine/Tick.lean ====
section
/-! DEFINITION. What a beat of REFCLK does when no command waits (assumption 4): the counter counts (R29) or takes the value of TB_LOAD (R53), and what the
device does of itself in the new beat with no row of its own happens: a held or released site that receives no vectors (R38, R44), and the end of the
20 ns after a PMU left its forcing mode (R290). -/

namespace Sys2Proof.Machine

/-- R29, R53: the counter in the next beat. (DESIGN CHOICE, assumption 4; DEDUCED, assumption 37.) -/
def State.advance (s : State) : State := match s.tb.load with
  | some b => ({ s with tb := { s.tb with load := none } } : State).setCounter b
  | none => { s with beat := s.beat + 1 }

/-- R290: the drivers that stop acting as DZ in the present beat. -/
def State.dzEnds (s : State) : State :=
  s.forL ((s.pmus.filter (fun p => p.2.dzUntil == s.now)).map Prod.fst) (fun c t => t.presentIdle c)

/-- R29, R30: one beat passes; the counter stands while REFCLK is absent. (DESIGN CHOICE, assumption 4; DEDUCED, assumption 136.) -/
def State.tick (s : State) : State :=
  if !s.tb.refPresent then s
  else
    let t := s.advance.dzEnds
    if t.tb.holds.any (fun p => p.beat ≤ t.now) then t.dueHolds else t

end Sys2Proof.Machine
end

