-- ==== Sys2Proof/Machine/Step.lean ====
section
/-! DEFINITION. One step: the command at the front of the queue, or one beat of time on an empty queue. -/

namespace Sys2Proof.Machine

/-- One step of the block. (DESIGN CHOICE, assumption 4; DESIGN CHOICE, assumption 5; DESIGN CHOICE, assumption 10.) -/
def step (s : State) : Host.Outcome State Fault Refusal :=
  match s.pending with
  | [] => .next s.tick
  | c :: rest => exec c { s with pending := rest }

/-- No row of the table gives bits, so no word spells a command. (DESIGN CHOICE, assumption 10.) -/
def State.withFetchWord (s : State) (_nbits _w : Nat) : State := s

end Sys2Proof.Machine
end

