-- ==== Sys2Proof/Decode.lean ====
section
/-! DEFINITION. The block has no instruction encodings: no row of spec/opcode_table.json gives bits. -/

namespace Sys2Proof

/-- The command a word spells by the table's bits: none, since no row has any. (DESIGN CHOICE, assumption 10.) -/
def decodeTableWord (_nbits _w : Nat) : Option Instr := none

end Sys2Proof
end

