-- ==== Sys2Proof/Safety.lean ====
section
/-! DEFINITION. What the claims about whole runs are stated in: a state whose storage is in canonical form, so that states that read
alike are equal data, and the states a run can pass through. -/

namespace Sys2Proof.Machine

/-- The storage of the block in canonical form: the live, shadow and held copies of the register words, pattern memory with no byte past
its 32 GiB (R131), the non-volatile memory and the control store. -/
structure Stored (regs shadow held : List (Nat × Word)) (mem : List Host.Cell) (nvm : List (Nat × Byte)) (cs : List (Nat × BitVec 256)) : Prop where
  regsWf : swf resetWord regs = true
  shadowWf : swf resetWord shadow = true
  heldWf : swf resetWord held = true
  memWf : Memory.wf mem
  inside : ∀ p ∈ mem, p.1 < pmSize
  nvmWf : swf (fun _ => 0xFF) nvm = true
  csWf : swf (fun _ => trapWord) cs = true

/-- A state whose storage is in canonical form. -/
def State.Canonical (s : State) : Prop := Stored s.regs s.shadow s.held s.mem s.nvm s.cs

/-- A canonical state with the queue `q`. -/
def State.Kept (q : List Instr) (s : State) : Prop := s.Canonical ∧ s.pending = q

/-- An outcome that, when it is a next state, is a canonical one with the queue `q`. -/
def Out.Kept (q : List Instr) : Out → Prop
  | .next t => t.Kept q
  | _ => True

/-- Every register field that shares no bit with a field of `fs` reads as before: what a command leaves alone in the registers. -/
def State.SameFields (fs : List Fld) (s t : State) : Prop :=
  ∀ f : Fld, f.lo ≤ f.hi → (∀ g ∈ fs, f.addr ≠ g.addr ∨ f.hi < g.lo ∨ g.hi < f.lo) → t.get f = s.get f

/-- Every register word but those of `ws` stays. -/
def State.SameWords (ws : List Nat) (s t : State) : Prop := ∀ a, a ∉ ws → t.reg a = s.reg a

/-- R35, R37, R41, R42: `f` arrives at the bit offset of the framing while the receiver is FRAMED or LOCKED, and `x` is the good frame of kind `kind`
that it is, as received or complemented. -/
def State.Receives (s : State) (f : BitVec 64) (off : Fin 64) (kind : Nat) (x : BitVec 64) : Prop :=
  s.listening = true ∧ s.get Reg.TB_STAT.LOCK ≠ 0 ∧ off.val = s.tb.offset ∧ s.rxGood f = some x ∧ fr x 55 52 = kind

/-- R386, R387: from `s` to `t` an EVENT record of site `n` with code `code` and value `v` is fixed, to be written two beats on. -/
def State.Written (s t : State) (n code v : Nat) : Prop :=
  ⟨s.now + 2, s.now, recWord n (s.stmtOf n) Kind.EVENT (Flag.DEVICE ||| s.siteFlags n) s.now 0 (code % 2 ^ 8 * 2 ^ 40 + v % 2 ^ 40)⟩ ∈ t.pendRecs

/-- R451: a source of ALERT_N is pending. -/
def State.alertPending (s : State) (i : Nat) : Bool := bitOf (s.get Reg.CP_ALERT.PEND) i

/-- R171: stream `x` plays a frame of its pattern that ends in the present beat or before, every member goes on, and nothing but the next frame is
due at the boundary: no clause action, service request, calibration, hold, stop or latched clear, and no throttle. -/
def State.QuietBoundary (s : State) (x : Nat) : Prop :=
  s.streamState x = Str.PLAYING ∧ (s.stream x).phase = .frame ∧ (s.stream x).endAt ≤ s.now * 65536 + 65535 ∧ (s.stream x).stop = none ∧
  s.pendActs = [] ∧ s.flag Reg.DEV_SVCSTAT.PENDING = false ∧ (∀ p ∈ s.cal.quads, s.get (Reg.CAL_Q.STATE p.1) ≠ 3) ∧ s.tb.holds = [] ∧
  (s.stream x).members ≠ [] ∧ (∀ n ∈ (s.stream x).members, s.playing n = true) ∧ (s.stream x).missed = [] ∧ s.throttleHolds = 0 ∧
  (∀ n ∈ s.streamSites x, (∀ c ∈ s.siteChans n, s.get (Reg.CH_GSTAT.CAUSE c) = 0) ∧ (∀ d ∈ s.siteSupplies n, s.get (Reg.GD_DSTAT.CAUSE d) = 0))

/-! ### Statements of a site's program -/

/-- R179 to R183: the sequencer of site `n` can issue, and `i` is the statement at its PC, of a valid opcode. -/
def State.Issues (s : State) (n : Nat) (i : Stmt) : Prop :=
  s.canIssue n = true ∧ s.fetchBad n = none ∧ i = Stmt.of (s.stmtWord n) ∧ s.opValid i.op = true

/-- The fields that the issue of a statement writes: PC, OP, ISSUED and, for the fetch, the states of the stacks (R165). -/
def issueFields (n : Nat) : List Fld :=
  [Reg.SQ_STAT.PC n, Reg.SQ_STAT.OP n, Reg.SQ_CNT.ISSUED n, Reg.SO_STAT.STACK0, Reg.SO_STAT.STACK1]

/-- R179, R205: from `s` to `t` the statement at PC has been issued: PC holds `pc`, OP and ISSUED follow, and beside them only the fields of `fs`
have changed. -/
def State.Moved (s t : State) (n pc : Nat) (fs : List Fld) : Prop :=
  t.pc n = pc % 2 ^ 20 ∧ t.get (Reg.SQ_STAT.OP n) = (Stmt.of (s.stmtWord n)).op ∧
  t.get (Reg.SQ_CNT.ISSUED n) = (s.get (Reg.SQ_CNT.ISSUED n) + 1) % 2 ^ 64 ∧ s.SameFields (issueFields n ++ fs) t

/-- The word of Xk, or nothing for X0, which discards writes (R179). -/
def xFields (n k : Nat) : List Fld := if k = 0 then [] else [Reg.SQ_XREG.VALUE n k]

/-- R179, R184: from `s` to `t` a statement has loaded `v` into Xk, X0 staying 0, and retired; only registers have changed (and, for the fetch, the
request times of the stacks). -/
def State.Loads (s t : State) (n k : Nat) (v : Word) : Prop :=
  t.getX n k = (if k = 0 then 0 else v) ∧ s.Moved t n (s.pc n + 1) (xFields n k) ∧
  t = { s with regs := t.regs, stackReq := t.stackReq, freeCtr := t.freeCtr }

/-- The fields that a fault or a hold writes. -/
def holdFields (n : Nat) : List Fld :=
  [Reg.SQ_STAT.FAULT n, Reg.SQ_STAT.FAULTED n, Reg.SQ_STAT.CAUSES n, Reg.SQ_STAT.STATE n, Reg.SQ_CNT.HOLDS n, ⟨0x005004, Intr.SITE_HELD, Intr.SITE_HELD⟩]

/-- R187: from `s` to `t` the statement of site `n` has faulted with `reason`: PC points at it, the site is HELD with cause FAULT, FAULT and FAULTED
tell it, and one EVENT record is fixed. -/
def State.Faults (s t : State) (n reason : Nat) : Prop :=
  t.siteState n = Site.HELD ∧ t.get (Reg.SQ_STAT.FAULT n) = reason ∧ t.flag (Reg.SQ_STAT.FAULTED n) = true ∧
  t.get (Reg.SQ_STAT.CAUSES n) = s.get (Reg.SQ_STAT.CAUSES n) ||| 2 ^ Cause.FAULT ∧ t.pc n = s.pc n ∧ s.Written t n Ev.STMT_FAULT reason ∧
  s.SameFields (holdFields n) t ∧ t = { s with regs := t.regs, pendRecs := t.pendRecs, msix := t.msix }

/-- R382: from `s` to `t` the record of site `n` with this kind, these flags, SUB and VALUE is fixed, to be written two beats on. -/
def State.Records (s t : State) (n kind flags sub value : Nat) : Prop :=
  ⟨s.now + 2, s.now, recWord n (s.stmtOf n) kind flags s.now sub value⟩ ∈ t.pendRecs

/-! ### Verbs -/

/-- R213: from `s` to `t` the command of the verb of site `n` completes with this outcome and result; the verb goes on. -/
def State.Completes (s t : State) (n : Nat) (ok : Bool) (result : Word) : Prop :=
  (t.seq n).verb = { (s.seq n).verb with done := true, ok := ok, result := result, cmd := none, busy := false, retire := false }

/-- R208, R217: the verb of site `n` executes `w` next, in the present beat, with no comma check and no error in the word. -/
def State.Runs (s : State) (n : Nat) (w : MicroWord) : Prop :=
  s.microReady n = true ∧ s.starved n = false ∧ s.mwordBad (s.seq n).verb.bank (s.seq n).verb.upc = false ∧
  w = s.mword (s.seq n).verb.bank (s.seq n).verb.upc ∧ s.checkDue n w = false

/-- R201, R203, R298: no unit measures for site `n`. -/
def State.NoUnits (s : State) (n : Nat) : Prop := (∀ p ∈ s.pmuMeas, p.2.owner ≠ some n) ∧ (∀ p ∈ s.tdcs, p.2.owner ≠ some n)

/-- R187: from `s` to `t` the statement of the verb of site `n`, which was RUNNING, has faulted with `reason`: the verb is gone, the site HELD. -/
def State.VerbFaults (s t : State) (n reason : Nat) : Prop :=
  t.siteState n = Site.HELD ∧ t.get (Reg.SQ_STAT.FAULT n) = reason ∧ t.flag (Reg.SQ_STAT.FAULTED n) = true ∧
  t.get (Reg.SQ_STAT.CAUSES n) = s.get (Reg.SQ_STAT.CAUSES n) ||| 2 ^ Cause.FAULT ∧ t.pc n = s.pc n ∧ s.Written t n Ev.STMT_FAULT reason ∧
  (t.seq n).verb = Verb.init ∧ (t.seq n).wait = .none ∧ t.mem = s.mem

/-! ### DUT lanes -/

/-- R386, R419: from `s` to `t` the site that owns lane `l` has the EVENT record `code` with value `v` and SUB `l`. -/
def State.LaneEvent (s t : State) (l code v : Nat) : Prop :=
  ∀ n < 64, s.laneSite l = some n → s.Records t n Kind.EVENT (Flag.DEVICE ||| s.siteFlags n) l (code * 2 ^ 40 + v)

/-- From `s` to `t` nothing but lane `l` has changed: its status, coefficients and counters, what it holds beside them, the events it reports
and the counts of an LTEST on it. -/
def State.LaneOnly (s t : State) (l : Nat) : Prop :=
  s.SameWords [Reg.DL_STAT.word l, Reg.DL_EQ.word l, Reg.DL_CNT.word l, Reg.LOG_STAT.word] t ∧ (∀ j, j ≠ l → t.lane j = s.lane j) ∧
  t = { s with regs := t.regs, lanes := t.lanes, pendRecs := t.pendRecs, logWait := t.logWait, ltests := t.ltests }

/-- R404: a block as the lane takes it, after its inversions. -/
def State.lineBlock (s : State) (l : Nat) (raw : Word) : Word :=
  if s.flag (Reg.DL_RX.RX_INV l) != s.flag (Reg.DL_STAT.RX_POLINV l) then ~~~raw else raw

/-- R411: a lane that trains in phase `p` and is in no retry gap. -/
def State.trains (s : State) (l p : Nat) : Prop :=
  s.laneState l = Ln.TRAIN ∧ (s.lane l).retryAt = none ∧ s.get (Reg.DL_STAT.PHASE l) = p

/-! ### Modes -/

/-- R491: a row of a mode request with its mode; `x` is the beat of a scheduled request. -/
def ModeRow (p : Port) (x : Option (BitVec 64)) (r : Instr × Nat) : Prop :=
  r ∈ [((.modeReqSafe p x, Mode.SAFE) : Instr × Nat), (.modeReqDiscover p x, Mode.DISCOVER), (.modeReqShape p x, Mode.SHAPE), (.modeReqRefcal p x, Mode.REFCAL),
   (.modeReqStandby p x, Mode.STANDBY), (.modeReqReady p x, Mode.READY), (.modeReqContact p x, Mode.CONTACT), (.modeReqRun p x, Mode.RUN),
   (.modeReqSelftest p x, Mode.SELFTEST)]

/-- R28, R30, R492: nothing keeps the device in the mode it is in. -/
def State.mayLeave (s : State) : Prop :=
  s.mode ≠ Mode.SELFTEST ∧ (s.mode = Mode.SAFE → s.flag Reg.TB_STAT.PLL_LOCK = true ∧ s.cntValid = true) ∧
  (s.mode = Mode.REFCAL → s.cal.run.any (fun r => r.cmd == 1) = false)

/-- From `s` to `t` the device has gone from its mode to mode `m` for the reason `cause` (R490, R510). -/
def State.Enters (s t : State) (m cause : Nat) : Prop :=
  t.mode = m ∧ t.get Reg.DEV_STAT.PREV = s.mode ∧ t.get Reg.DEV_STAT.CAUSE = cause ∧ t.get Reg.DEV_STAT.MODE_BEAT = s.now % 2 ^ 32 ∧
  t.mem = s.mem ∧ t.nvm = s.nvm ∧ t.cs = s.cs

/-- No measurement, operation or pending clause action is under way and no clone group exists. -/
def State.Unengaged (s : State) : Prop :=
  s.tdcs = [] ∧ s.pmuMeas = [] ∧ s.dpsMeas = [] ∧ s.clones = [] ∧ s.pendActs = [] ∧ s.siOp = none

/-- R30, R481: from `s` to `t` every output has been disarmed and every site in use has come to LOADED. -/
def State.LeavesOperation (s t : State) : Prop :=
  (∀ c < 1024, t.flag (Reg.CH_CTRL.OUT_ARM c) = false) ∧
  ∀ n < 64, s.siteState n ≠ Site.EMPTY → s.siteState n ≠ Site.RETIRED → t.siteState n = Site.LOADED

/-! ### What a command may change -/

/-- The commands that store to pattern memory or lose it (R132, R174, R390, R464, R498, R520). -/
def storesMemory (i : Instr) : Bool := match i with
  | .strobe .. => true
  | .migrationBurstDone => true
  | .bulkWrite .. => true
  | .powerOn => true
  | .brownOut _ => true
  | _ => false

/-- The commands at whose end a non-volatile record is written (R17). -/
def storesNvm (i : Instr) : Bool := match i with
  | .saveDone _ => true
  | .shutdownRecordDone _ => true
  | .keyCommandDone _ => true
  | _ => false

/-- The commands that change the control store (R225, R498). -/
def storesControl (i : Instr) : Bool := match i with
  | .vendorLoadDone => true
  | .customerLoadDone => true
  | .resetN => true
  | .powerOn => true
  | .brownOut _ => true
  | _ => false

/-- The commands that can change which site owns what: the end of a load or reshape, a mode request (entry to DISCOVER, R494), a soft reset, the
writes that can be one of these, and the resets. -/
def changesStructure (i : Instr) : Bool := match i with
  | .loadComplete .. => true
  | .reshapeComplete .. => true
  | .refclkLost => true
  | .modeReqSafe .. => true
  | .modeReqDiscover .. => true
  | .modeReqShape .. => true
  | .modeReqRefcal .. => true
  | .modeReqStandby .. => true
  | .modeReqReady .. => true
  | .modeReqContact .. => true
  | .modeReqRun .. => true
  | .modeReqSelftest .. => true
  | .modeReqForbidden .. => true
  | .scheduledModeRequest => true
  | .devCmdSoftReset _ => true
  | .selftestDone _ => true
  | .initDone => true
  | .roundEvaluation => true
  | .registerWrite .. => true
  | .bar0Write .. => true
  | .cpWrite .. => true
  | .cpWriteCrc .. => true
  | .resetN => true
  | .powerOn => true
  | .brownOut _ => true
  | _ => false

end Sys2Proof.Machine
end

