-- ==== Sys2Proof/Certificates/Slice0/Obligations.lean ====
section
/-! DEFINITION. The obligations of the model: one statement each, grouped by the kind of command it is about. -/

open Sys2Proof Sys2Proof.Machine

/-- R28, R29, R35, R43, R53: the commands of the timebase registers complete under the conditions the rules give, with the fields they write and
their frame. -/
def Obligations.TimebaseCommandsComplete : Prop :=
  (∀ s : State, ∃ t : State, exec .pllLock s = .next t ∧ t.get Reg.TB_STAT.PLL_LOCK = 1 ∧ s.SameFields [Reg.TB_STAT.PLL_LOCK] t ∧
    t = { s with regs := t.regs, tb := t.tb }) ∧
  (∀ (s : State) (port : Port) (b : BitVec 64), s.mode = Mode.SAFE → (s.role = Role.ROOT ∨ s.role = Role.ISOLATED) →
    ∃ t : State, exec (.tbLoad port b) s = .next t ∧ t.tb.load = some b.toNat ∧ t = { s with tb := t.tb }) ∧
  (∀ (s : State) (port : Port) (w : Word), Reg.TB_CTRL.ROLE.of w ≠ 3 → s.mode = Mode.RESET ∨ s.mode = Mode.SAFE ∨ s.mode = Mode.DISCOVER →
    ∃ t : State, exec (.tbCtrlWrite port w) s = .next t ∧ t.role = Reg.TB_CTRL.ROLE.of w ∧ t.get Reg.TB_CTRL.DEVNUM = Reg.TB_CTRL.DEVNUM.of w ∧
      t.get Reg.TB_CTRL.REF_INV_AUTO = Reg.TB_CTRL.REF_INV_AUTO.of w ∧ t.get Reg.TB_CTRL.SYNC_INV_AUTO = Reg.TB_CTRL.SYNC_INV_AUTO.of w ∧
      t.get Reg.TB_CTRL.UP_EN = Reg.TB_CTRL.UP_EN.of w ∧ t.get Reg.TB_CTRL.SYNC_EN = Reg.TB_CTRL.SYNC_EN.of w ∧
      (Reg.TB_CTRL.ROLE.of w ≠ s.role ∨ Reg.TB_CTRL.SYNC_EN.of w ≠ s.get Reg.TB_CTRL.SYNC_EN → t.get Reg.TB_STAT.LOCK = 0) ∧
      s.SameWords [Reg.TB_CTRL.word, Reg.TB_STAT.word, Reg.LOG_STAT.word] t ∧
      t = { s with regs := t.regs, tb := t.tb, rootQ := t.rootQ, logWait := t.logWait }) ∧
  (∀ (s : State) (p : Fin 2048), s.listening = true → s.flag Reg.TB_CTRL.REF_INV_AUTO = true → 1126 ≤ p.val → p.val ≤ 1843 →
    s.mode = Mode.RESET ∨ s.mode = Mode.SAFE ∨ s.mode = Mode.DISCOVER →
    ∃ t : State, exec (.refclkInverted p) s = .next t ∧ t.get Reg.TB_STAT.REF_INV = 1 - s.get Reg.TB_STAT.REF_INV ∧ t.get Reg.TB_STAT.PLL_LOCK = 0 ∧
      t.get Reg.TB_STAT.SYNC_PHASE = p.val ∧
      s.SameFields [Reg.TB_STAT.REF_INV, Reg.TB_STAT.PLL_LOCK, Reg.TB_STAT.SYNC_PHASE, Reg.LOG_STAT.DROPPED] t ∧
      t = { s with regs := t.regs, logWait := t.logWait })

/-- R37, R41, R44, R53: what the receiver does with a frame while it is framed. -/
def Obligations.SyncFramesReceived : Prop :=
  (∀ (s : State) (f x : BitVec 64) (off : Fin 64), s.Receives f off Fk.EPOCH x → s.role = Role.LEAF → s.cntValid = false →
    ∃ t : State, exec (.epochFrame f off) s = .next t ∧ t.beat = BitVec.ofNat 64 (fr x 47 8 * 2 ^ 20 + 64 * (fr x 51 48 + 1)) ∧
      t.cntValid = true ∧ t.get Reg.TB_STAT.LOCK = 2 ∧ t.get Reg.TB_STAT.HOP = fr x 51 48 ∧
      s.SameFields [Reg.TB_STAT.CNT_VALID, Reg.TB_STAT.LOCK, Reg.TB_STAT.HOP, Reg.TB_STAT.SYNC_INV, Reg.TB_SYNC_ERR.FRAMES_OK, Reg.LOG_STAT.DROPPED] t ∧
      t = { s with regs := t.regs, tb := t.tb, beat := t.beat, logWait := t.logWait }) ∧
  (∀ (s : State) (f x : BitVec 64) (off : Fin 64), s.Receives f off Fk.IDLE x → s.cntValid = true →
    bitsOf (s.now - 64 * (fr x 51 48 + 1)) 6 40 = fr x 47 8 →
    ∃ t : State, exec (.idleFrame f off) s = .next t ∧ t.get Reg.TB_STAT.HOP = fr x 51 48 ∧
      t.get Reg.TB_SYNC_ERR.FRAMES_OK = (s.get Reg.TB_SYNC_ERR.FRAMES_OK + 1) % 2 ^ 32 ∧
      s.SameFields [Reg.TB_STAT.HOP, Reg.TB_STAT.SYNC_INV, Reg.TB_SYNC_ERR.FRAMES_OK, Reg.LOG_STAT.DROPPED] t ∧
      t = { s with regs := t.regs, tb := t.tb, logWait := t.logWait }) ∧
  (∀ (s : State) (f x : BitVec 64) (off : Fin 64), s.Receives f off Fk.IDLE x → s.cntValid = true → s.now < 2 ^ 63 →
    bitsOf (s.now - 64 * (fr x 51 48 + 1)) 6 40 ≠ fr x 47 8 → s.anySite [Site.RUNNING, Site.HELD] = false →
    ∃ t : State, exec (.idleFrame f off) s = .next t ∧ t.get Reg.TB_STAT.SLIP = 1 ∧ t.cntValid = true ∧
      bitsOf (t.now - 64 * (fr x 51 48 + 1)) 6 40 = fr x 47 8 ∧ t.alertPending Alert.TIMEBASE = true ∧
      s.SameWords [Reg.TB_STAT.word, Reg.TB_SYNC_ERR.word, Reg.LOG_STAT.word, Reg.CP_ALERT.word, Reg.HL_INT.word] t ∧
      t = { s with regs := t.regs, tb := t.tb, beat := t.beat, logWait := t.logWait, msix := t.msix }) ∧
  (∀ (s : State) (f x : BitVec 64) (off : Fin 64), s.Receives f off (fr x 55 52) x → 7 ≤ fr x 55 52 →
    ∃ t : State, exec (.reservedFrame f off) s = .next t ∧ t.get Reg.TB_STAT.HOP = fr x 51 48 ∧
      t.get Reg.TB_SYNC_ERR.FRAMES_OK = (s.get Reg.TB_SYNC_ERR.FRAMES_OK + 1) % 2 ^ 32 ∧
      s.SameFields [Reg.TB_STAT.HOP, Reg.TB_STAT.SYNC_INV, Reg.TB_SYNC_ERR.FRAMES_OK, Reg.LOG_STAT.DROPPED] t ∧
      t = { s with regs := t.regs, tb := t.tb, logWait := t.logWait }) ∧
  (∀ (s : State) (f : BitVec 64) (off : Fin 64), s.listening = true → s.get Reg.TB_STAT.LOCK ≠ 0 → off.val = s.tb.offset →
    s.rxGood f = none → startOk (s.rxBits f) = true → fr (s.rxBits f) 55 52 ≠ Fk.SNAPSHOT →
    ∃ t : State, exec (.badSyncFrame f off) s = .next t ∧ t.get Reg.TB_SYNC_ERR.CRC_ERR = (s.get Reg.TB_SYNC_ERR.CRC_ERR + 1) % 2 ^ 32 ∧
      (s.tb.bad = 0 → t.get Reg.TB_STAT.LOCK = s.get Reg.TB_STAT.LOCK ∧ t.tb.bad = 1) ∧
      (1 ≤ s.tb.bad → t.get Reg.TB_STAT.LOCK = 0 ∧ (s.outstanding = true → t.alertPending Alert.TIMEBASE = true)) ∧
      s.SameWords [Reg.TB_STAT.word, Reg.TB_SYNC_ERR.word, Reg.LOG_STAT.word, Reg.CP_ALERT.word, Reg.HL_INT.word] t ∧
      t = { s with regs := t.regs, tb := t.tb, logWait := t.logWait, msix := t.msix }) ∧
  (∀ (s : State) (f : BitVec 64) (off : Fin 64), s.listening = true → s.get Reg.TB_STAT.LOCK ≠ 0 → off.val = s.tb.offset →
    s.rxGood f = none → startOk (s.rxBits f) = false → fr (s.rxBits f) 63 56 ≠ 0x2D →
    ∃ t : State, exec (.badSyncFrame f off) s = .next t ∧ t.get Reg.TB_SYNC_ERR.START_ERR = (s.get Reg.TB_SYNC_ERR.START_ERR + 1) % 2 ^ 32 ∧
      (1 ≤ s.tb.bad → t.get Reg.TB_STAT.LOCK = 0) ∧
      t = { s with regs := t.regs, tb := t.tb, logWait := t.logWait, msix := t.msix }) ∧
  (∀ (s : State) (f : BitVec 64) (off : Fin 64), s.listening = true → s.get Reg.TB_STAT.LOCK = 0 → frameOk (s.rxBits f) = true →
    fr (s.rxBits f) 55 52 = Fk.IDLE →
    ∃ t : State, exec (.idleFrame f off) s = .next t ∧ t.get Reg.TB_STAT.LOCK = (if off.val = s.tb.offset ∧ 3 ≤ s.tb.good then 1 else 0) ∧
      (off.val = s.tb.offset → s.tb.good < 3 → t.tb.good = s.tb.good + 1) ∧
      s.SameFields [Reg.TB_STAT.HOP, Reg.TB_STAT.LOCK] t ∧ t = { s with regs := t.regs, tb := t.tb })

/-- R36, R37, R46, R53: launches and the queue of a root. -/
def Obligations.FramesLaunched : Prop :=
  (∀ (s : State) (low : Bool), s.role = Role.ROOT → s.cntValid = true → s.now % 2 ^ 20 = 0 →
    ∃ t : State, exec (.syncFrameLaunch low) s = .next t ∧ t.tb.syncOut = mkFrame Fk.EPOCH (s.now / 2 ^ 20) ∧ t.vetoIn = low ∧ t.regs = s.regs) ∧
  (∀ (s : State) (low : Bool), s.role = Role.ROOT → s.cntValid = true → s.now % 64 = 0 → s.now % 2 ^ 20 ≠ 0 → s.openDecs = [] →
    s.tb.queue = [] →
    ∃ t : State, exec (.syncFrameLaunch low) s = .next t ∧ t.tb.syncOut = mkFrame Fk.IDLE (s.now / 64) ∧ t.regs = s.regs) ∧
  (∀ (s : State) (low : Bool) (q : RootFrame) (qs : List RootFrame), s.role = Role.ROOT → s.cntValid = true → s.now % 64 = 0 →
    s.now % 2 ^ 20 ≠ 0 → s.openDecs = [] → s.tb.queue = q :: qs → q.kind = Fk.SNAPSHOT →
    ∃ t : State, exec (.syncFrameLaunch low) s = .next t ∧ t.tb.syncOut = mkFrame Fk.SNAPSHOT q.payload ∧ t.tb.queue = qs ∧ t.regs = s.regs) ∧
  (∀ (s : State) (trip : Bool), s.role = Role.LEAF → s.flag Reg.TB_CTRL.UP_EN = true → s.now % 64 = 0 → s.vetoTag < 2 ^ 16 →
    ∃ t : State, exec (.statusFrameLaunch trip) s = .next t ∧ frameOk t.tb.syncOut = true ∧ fr t.tb.syncOut 55 52 = Fk.STATUS ∧
      fr t.tb.syncOut 47 34 = s.get Reg.TB_CTRL.DEVNUM ∧ fr t.tb.syncOut 30 30 = b2n s.locked ∧ (trip = true → fr t.tb.syncOut 31 31 = 1) ∧
      t.regs = s.regs) ∧
  (∀ kind payload : Nat, frameOk (mkFrame kind payload) = true ∧ fr (mkFrame kind payload) 55 52 = kind % 16 ∧
    fr (mkFrame kind payload) 51 48 = 0 ∧ fr (mkFrame kind payload) 47 8 = payload % 2 ^ 40) ∧
  (∀ (s : State) (port : Port) (b : BitVec 24), s.mode ≠ Mode.RESET → s.role = Role.ROOT → s.tb.queue.length < 8 → s.cntValid = true →
    s.now + 128 ≤ resolve24 s.now b.toNat →
    (∃ t : State, exec (.tbRootCmdHold port b) s = .next t ∧ t = { s with tb := t.tb } ∧ t.tb.queue = s.tb.queue ++ [⟨Fk.HOLD, cmdPayload 0 b.toNat⟩]) ∧
    (∃ t : State, exec (.tbRootCmdRelease port b) s = .next t ∧ t = { s with tb := t.tb } ∧ t.tb.queue = s.tb.queue ++ [⟨Fk.RELEASE, cmdPayload 0 b.toNat⟩]))

/-- R38: a hold or a release is queued for each site; R47, R48: the follow counters. -/
def Obligations.HoldFramesAndFollowCounters : Prop :=
  (∀ (s : State) (f x : BitVec 64) (off : Fin 64), s.Receives f off Fk.HOLD x → s.cntValid = true → s.now < resolve24 s.now (fr x 31 8) →
    s.tb.holds = [] →
    ∃ u : State, exec (.holdFrame f off) s = .next u.follow ∧
      u.tb.holds = ((List.range 64).filter (fun n => s.siteState n != Site.EMPTY && s.siteState n != Site.RETIRED)).map
        (fun n => ⟨n, resolve24 s.now (fr x 31 8), Cause.SYNC, false⟩) ∧
      s.SameFields [Reg.TB_STAT.HOP, Reg.TB_STAT.SYNC_INV, Reg.TB_SYNC_ERR.FRAMES_OK, Reg.LOG_STAT.DROPPED] u ∧
      u = { s with regs := u.regs, tb := u.tb, logWait := u.logWait }) ∧
  (∀ (s : State) (f x : BitVec 64) (off : Fin 64), s.Receives f off Fk.RELEASE x → s.cntValid = true → s.now < resolve24 s.now (fr x 31 8) →
    s.tb.holds = [] →
    ∃ u : State, exec (.releaseFrame f off) s = .next u.follow ∧
      u.tb.holds = ((List.range 64).filter (fun n => s.siteState n != Site.EMPTY && s.siteState n != Site.RETIRED)).map
        (fun n => ⟨n, resolve24 s.now (fr x 31 8), Cause.SYNC, true⟩) ∧
      s.SameFields [Reg.TB_STAT.HOP, Reg.TB_STAT.SYNC_INV, Reg.TB_SYNC_ERR.FRAMES_OK, Reg.LOG_STAT.DROPPED] u ∧
      u = { s with regs := u.regs, tb := u.tb, logWait := u.logWait }) ∧
  (∀ (s : State) (n : Fin 64) (rising : Bool) (tick : BitVec 16) (c : Nat), s.flag (Reg.TB_FOLLOW_CFG.EN n) = true →
    (s.get (Reg.TB_FOLLOW_CFG.EDGE n)).testBit (if rising then 0 else 1) = true →
    s.pinChan n (s.get (Reg.TB_FOLLOW_CFG.PIN n)) = some c → s.flag (Reg.CH_GSTAT.TRIPPED c) = false →
    ∃ u : State, exec (.followEdge n rising tick) s = .next (u.wakeFollow n (s.now * 65536 + tick.toNat / 32 * 32)) ∧
      u.get (Reg.TB_FOLLOW_CNT.COUNT n) = (s.get (Reg.TB_FOLLOW_CNT.COUNT n) + 1) % 2 ^ 48 ∧
      u.get (Reg.TB_FOLLOW_CNT.LAST_EDGE n) = s.now * 65536 + tick.toNat / 32 * 32 ∧
      (u.get (Reg.TB_FOLLOW_CNT.COUNT n) = s.get (Reg.TB_FOLLOW_MATCH.TARGET n) →
        u.get (Reg.TB_FOLLOW_MATCH.MATCHED n) = 1 ∧ u.get (Reg.TB_FOLLOW_MATCH.MATCH_TIME n) = (s.now * 65536 + tick.toNat / 32 * 32) / 2) ∧
      s.SameFields [Reg.TB_FOLLOW_CNT.COUNT n, Reg.TB_FOLLOW_CNT.LAST_EDGE n, Reg.TB_FOLLOW_MATCH.MATCH_TIME n, Reg.TB_FOLLOW_MATCH.MATCHED n] u ∧
      u = { s with regs := u.regs, follows := u.follows }) ∧
  (∀ (s : State) (n : Fin 64), s.flag (Reg.TB_FOLLOW_CFG.EN n) = true → s.get (Reg.TB_FOLLOW_CFG.STALL n) ≠ 0 → (s.followSt n).stalled = false →
    (s.followSt n).since + s.get (Reg.TB_FOLLOW_CFG.STALL n) ≤ s.now →
    ∃ t v, exec (.followStall n) s = .next t ∧ t.Written s n Ev.FOLLOW_STALL v ∧ (t.followSt n).stalled = true ∧
      t = { s with follows := t.follows, pendRecs := t.pendRecs, freeCtr := s.freeCtr + 1 })

/-- R72, R73, R74, R79: the four commands of SI_CMD where they are accepted, and LOAD, RESHAPE and CHECK while an operation is in progress. -/
def Obligations.StructuralCommandsAccepted : Prop :=
  (∀ (s : State) (port : Port), s.mode = Mode.SHAPE → s.flag Reg.SI_STAT.BUSY = false → s.flag Reg.DEV_SVCSTAT.PENDING = false →
    Img.partialFlag s.img = false → s.anySite [Site.ARMED, Site.RUNNING, Site.HELD, Site.TRIPPED, Site.RESHAPING] = false →
    ∃ t : State, exec (.siCmdLoad port) s = .next t ∧ t.flag Reg.SI_STAT.BUSY = true ∧ t.siOp = some ⟨1, 0, 0⟩ ∧
      s.SameFields [Reg.SI_STAT.BUSY] t ∧ t = { s with regs := t.regs, siOp := t.siOp }) ∧
  (∀ (s : State) (port : Port) (n : Fin 64), s.flag Reg.SI_STAT.BUSY = false → s.sparePending (some n.val) = false →
    s.mode ∈ [Mode.SHAPE, Mode.STANDBY, Mode.READY, Mode.CONTACT, Mode.RUN] → s.siteState n ∈ [Site.EMPTY, Site.LOADED, Site.RETIRED] →
    (∀ i < 64, s.holds n i = false) → s.clauseNames [Slot.OPEN, Slot.PREPARING, Slot.PREPARED] n = false →
    (∀ k ∈ s.openSlots, ∀ x ∈ (s.slot k).acts, s.actsIn (s.map n) x.addr = false ∧
      s.actsIn ((Img.part s.img 0).siteMap s.img) x.addr = false) →
    ∃ t : State, exec (.siCmdReshape port n) s = .next t ∧ t.flag Reg.SI_STAT.BUSY = true ∧ t.siteState n = Site.RESHAPING ∧
      t.siOp = some ⟨2, n, s.siteState n⟩ ∧ s.SameFields [Reg.SI_STAT.BUSY, Reg.SQ_STAT.STATE n] t ∧
      t = { s with regs := t.regs, siOp := t.siOp }) ∧
  (∀ (s : State) (port : Port), s.mode ≠ Mode.RESET → s.mode ≠ Mode.SAFE → s.mode ≠ Mode.SHUTDOWN → s.flag Reg.SI_STAT.BUSY = false →
    ∃ t : State, exec (.siCmdCheck port) s = .next t ∧ t.flag Reg.SI_STAT.BUSY = true ∧ t.siOp = some ⟨3, 0, 0⟩ ∧
      s.SameFields [Reg.SI_STAT.BUSY] t ∧ t = { s with regs := t.regs, siOp := t.siOp }) ∧
  (∀ (s : State) (port : Port), s.mode ≠ Mode.RESET → s.flag Reg.SI_STAT.BUSY = false →
    ∃ t : State, exec (.siCmdClear port) s = .next t ∧ (∀ w < 4096, t.reg (Reg.SI_IMG.word w) = resetWord (Reg.SI_IMG.word w)) ∧
      t.flag Reg.SI_STAT.BUSY = false ∧ t.flag Reg.SI_STAT.DONE = true ∧ t.get Reg.SI_STAT.LAST_OP = 4 ∧ t.get Reg.SI_STAT.RESULT = Si.OK ∧
      t.get Reg.SI_STAT.IMAGE_ID = 0 ∧
      (∀ a, (a < Reg.SI_IMG.word 0 ∨ Reg.SI_IMG.word 4096 ≤ a) → a ≠ Reg.SI_STAT.word → a ≠ Reg.HL_INT.word → t.reg a = s.reg a) ∧
      t = { s with regs := t.regs, siOp := none, msix := t.msix }) ∧
  (∀ (s : State) (port : Port) (n : Fin 64), s.flag Reg.SI_STAT.BUSY = true →
    (∃ t : State, exec (.siCmdLoad port) s = .next t ∧ t.flag Reg.SI_STAT.BUSY = true ∧ t.siOp = s.siOp ∧ t.maps = s.maps) ∧
    (∃ t : State, exec (.siCmdReshape port n) s = .next t ∧ t.flag Reg.SI_STAT.BUSY = true ∧ t.siOp = s.siOp ∧ t.maps = s.maps) ∧
    (∃ t : State, exec (.siCmdCheck port) s = .next t ∧ t.flag Reg.SI_STAT.BUSY = true ∧ t.siOp = s.siOp ∧ t.maps = s.maps))

/-- R70, R73, R76, R79, R81: the ends of the three operations that take time. The end of a reshape is followed by what a change of site states does to
clone streams. -/
def Obligations.StructuralOperationsComplete : Prop :=
  (∀ (s : State) (o : SiOp), s.siOp = some o → o.op = 1 → validate s s.img none = none →
    ∃ t : State, exec .loadComplete s = .next t ∧ t.maps = (Img.siteParts s.img).map (fun p => (p.site, p.siteMap s.img)) ∧
      t.clones = (Img.part s.img 0).clones s.img ∧ t.routes = (Img.part s.img 0).routes s.img ∧
      t.flag Reg.SI_STAT.BUSY = false ∧ t.flag Reg.SI_STAT.DONE = true ∧ t.get Reg.SI_STAT.RESULT = Si.OK ∧ t.get Reg.SI_STAT.LAST_OP = 1 ∧
      t.get Reg.SI_ACTIVE.IMAGE_ID = Img.id s.img % 2 ^ 32 ∧ t.siOp = none) ∧
  (∀ (s : State) (o : SiOp) (e : ImgErr), s.siOp = some o → o.op = 1 → validate s s.img none = some e →
    ∃ t : State, exec .loadComplete s = .next t ∧ t.maps = s.maps ∧ t.clones = s.clones ∧ t.routes = s.routes ∧
      t.flag Reg.SI_STAT.BUSY = false ∧ t.flag Reg.SI_STAT.DONE = true ∧ t.get Reg.SI_STAT.RESULT = e.code % 256 ∧
      t.get Reg.SI_STAT.LAST_OP = 1 ∧ t.get Reg.SI_ERR.OFFSET = e.off % 2 ^ 32 ∧ t.siOp = none ∧
      s.SameWords [Reg.SI_STAT.word, Reg.SI_ERR.word, Reg.LOG_STAT.word, Reg.HL_INT.word] t) ∧
  (∀ (s : State) (o : SiOp), s.siOp = some o → o.op = 2 → validate s s.img (some o.site) = none →
    ∃ u : State, exec .reshapeComplete s = .next u.follow ∧
      u.maps = (o.site, (Img.part s.img 0).siteMap s.img) :: s.maps.filter (fun q => q.1 != o.site) ∧
      u.clones = s.clones ∧ u.routes = s.routes ∧ u.flag Reg.SI_STAT.BUSY = false ∧ u.flag Reg.SI_STAT.DONE = true ∧
      u.get Reg.SI_STAT.RESULT = Si.OK ∧ u.get Reg.SI_STAT.LAST_OP = 2 ∧ u.siOp = none) ∧
  (∀ (s : State) (o : SiOp) (e : ImgErr), s.siOp = some o → o.op = 2 → o.site < 64 → o.prev < 8 → validate s s.img (some o.site) = some e →
    ∃ u : State, exec .reshapeComplete s = .next u.follow ∧ u.maps = s.maps ∧ u.siteState o.site = o.prev ∧
      u.flag Reg.SI_STAT.BUSY = false ∧ u.flag Reg.SI_STAT.DONE = true ∧ u.get Reg.SI_STAT.RESULT = e.code % 256 ∧ u.siOp = none ∧
      s.SameWords [Reg.SQ_STAT.word o.site, Reg.SI_STAT.word, Reg.SI_ERR.word, Reg.LOG_STAT.word, Reg.HL_INT.word] u) ∧
  (∀ (s : State) (o : SiOp), s.siOp = some o → o.op = 3 →
    ∃ t : State, exec .checkComplete s = .next t ∧ t.maps = s.maps ∧ t.clones = s.clones ∧ t.routes = s.routes ∧ t.seqs = s.seqs ∧
      t.flag Reg.SI_STAT.BUSY = false ∧ t.flag Reg.SI_STAT.DONE = true ∧ t.get Reg.SI_STAT.LAST_OP = 3 ∧
      t.get Reg.SI_STAT.RESULT = ((validate s s.img none).map ImgErr.code).getD Si.OK % 256 ∧ t.siOp = none)

/-- R501 to R505: the commands of DEV_SVC and the switch-over that one of them leaves pending. -/
def Obligations.ServiceCommands : Prop :=
  (∀ (s : State) (port : Port) (c : BitVec 10) (k : BitVec 5) (n : Nat), s.mode ≠ Mode.RESET → s.flag Reg.DEV_SVCSTAT.PENDING = false →
    s.spareRefusal c.toNat k.toNat = none → s.chanSite c.toNat = some n → s.siteState n = Site.RUNNING →
    s.streamState (s.streamOf n) = Str.PLAYING →
    ∃ t : State, exec (.devSvcSpare port c k) s = .next t ∧ t.flag Reg.DEV_SVCSTAT.PENDING = true ∧ t.get Reg.DEV_SVCSTAT.LAST_CMD = 1 ∧
      t.get Reg.DEV_SVCSTAT.INDEX = c.toNat ∧ t.get Reg.DEV_SVCSTAT.SPARE = k.toNat ∧ s.SameWords [Reg.DEV_SVCSTAT.word] t ∧
      t = { s with regs := t.regs }) ∧
  (∀ (s : State) (port : Port) (c : BitVec 10) (k : BitVec 5), s.mode ≠ Mode.RESET → s.flag Reg.DEV_SVCSTAT.PENDING = false →
    s.spareRefusal c.toNat k.toNat = none → (∀ n, s.chanSite c.toNat = some n → s.siteState n ≠ Site.RUNNING) →
    ∃ t : State, exec (.devSvcSpare port c k) s = .next t ∧ t.engineOf c.toNat = 1024 + k.toNat ∧ t.flag Reg.DEV_SVCSTAT.PENDING = false) ∧
  (∀ s : State, s.flag Reg.DEV_SVCSTAT.PENDING = true → s.spareWaits = false →
    ∃ t : State, exec .switchOver s = .next t ∧ t.engineOf (s.get Reg.DEV_SVCSTAT.INDEX) = 1024 + s.get Reg.DEV_SVCSTAT.SPARE ∧
      t.flag Reg.DEV_SVCSTAT.PENDING = false) ∧
  (∀ (s : State) (port : Port), s.mode ≠ Mode.RESET → s.flag Reg.DEV_SVCSTAT.PENDING = true →
    ∃ t : State, exec (.devSvcCancel port) s = .next t ∧ t.flag Reg.DEV_SVCSTAT.PENDING = false ∧ t.get Reg.DEV_SVCSTAT.LAST_CMD = 3 ∧
      s.SameWords [Reg.DEV_SVCSTAT.word] t ∧ t = { s with regs := t.regs }) ∧
  (∀ (s : State) (port : Port) (n : BitVec 10), s.mode ≠ Mode.RESET → s.flag Reg.DEV_SVCSTAT.PENDING = false → s.flag Reg.SI_STAT.BUSY = false →
    s.retirable n.toNat = true →
    ∃ u : State, exec (.devSvcRetire port n) s = .next u.follow ∧ u.siteState n.toNat = Site.RETIRED ∧ u.get Reg.DEV_SVCSTAT.LAST_CMD = 2 ∧
      u.get Reg.DEV_SVCSTAT.INDEX = n.toNat ∧ u.seq n.toNat = Seq.init ∧ u.maps = s.maps)

/-- R96 to R99, R101, R104, R109, R172: the events at a pin slice. -/
def Obligations.StrobesAndPinEvents : Prop :=
  (∀ (s : State) (c : Fin 1024) (o : Strobe) (tick : BitVec 16) (w : Win) (n : Nat) (p : Nat × Pin), s.dueWin (s.chan c) = some w → w.code = 0xA →
    s.chanPin c = some p → s.chanSite c = some n → s.siteState n ≠ Site.TRIPPED → s.flag (Reg.CH_STAT.TRIPPED c) = false → s.inPassage c = false →
    ∃ t : State, exec (.strobe c o tick) s = .next t ∧
      t.get (Reg.CH_CAPT.SAMPLES c) = (s.get (Reg.CH_CAPT.SAMPLES c) * 4 + b2n (o.hi && !(s.chan c).unresHi) * 2
        + b2n (o.lo && !(s.chan c).unresLo)) % 2 ^ 64 ∧
      t.get (Reg.CH_CAPT.COUNT c) = (s.get (Reg.CH_CAPT.COUNT c) + 1) % 2 ^ 32 ∧
      t.get (Reg.CH_CAPT.STAMP c) = (w.openAt / 65536).toNat % 2 ^ 32 ∧ (t.chan c).wins = (s.chan c).wins.erase w ∧
      s.SameWords [Reg.CH_STAT.word c, Reg.CH_CAPT.word c] t ∧ t = { s with regs := t.regs, chans := t.chans }) ∧
  (∀ (s : State) (c : Fin 1024) (o : Strobe) (tick : BitVec 16) (w : Win) (n : Nat) (p : Nat × Pin), s.dueWin (s.chan c) = some w →
    w.code = 4 ∨ w.code = 5 ∨ w.code = 6 → s.chanPin c = some p → s.chanSite c = some n → s.siteState n ≠ Site.TRIPPED →
    s.flag (Reg.CH_STAT.TRIPPED c) = false → s.inPassage c = false → (s.chan c).unresHi = false → (s.chan c).unresLo = false → w.subst = false →
    ∃ t : State, exec (.strobe c o tick) s = .next t ∧ (t.chan c).wins = (s.chan c).wins.erase w ∧
      t.get (Reg.CH_FAILCNT.COUNT c) = (s.get (Reg.CH_FAILCNT.COUNT c)
        + (if s.flag (Reg.CH_CMP.MASK c) = true ∨ comparePass w.code w.window o = true then 0 else 1)) % 2 ^ 64 ∧
      t.get (Reg.CH_CAPT.COUNT c) = s.get (Reg.CH_CAPT.COUNT c)) ∧
  (∀ (s : State) (c : Fin 1024) (o : Strobe) (tick : BitVec 16) (w : Win) (n : Nat) (p : Nat × Pin), s.dueWin (s.chan c) = some w →
    s.chanPin c = some p → s.chanSite c = some n → s.siteState n ≠ Site.TRIPPED → s.flag (Reg.CH_STAT.TRIPPED c) = false → s.inPassage c = true →
    ∃ t : State, exec (.strobe c o tick) s = .next t ∧ t.flag (Reg.CH_STAT.CMP_SUPPR c) = true ∧ t.reg (Reg.CH_CAPT.word c) = s.reg (Reg.CH_CAPT.word c) ∧
      t.reg (Reg.CH_FAILCNT.word c) = s.reg (Reg.CH_FAILCNT.word c)) ∧
  (∀ (s : State) (c : Fin 1024) (above : Bool), (s.chan c).unresHi = true →
    ∃ u : State, exec (.comparatorResolved false c 6 above) s = .next u.follow ∧ (u.chan c).unresHi = false ∧ (u.chan c).rawHi = above ∧
      (u.chan c).unresLo = (s.chan c).unresLo ∧ s.SameWords [Reg.CH_STAT.word c] u ∧ u = { s with regs := u.regs, chans := u.chans }) ∧
  (∀ (s : State) (c : Fin 1024), s.flag (Reg.CH_CTRL.OUT_ARM c) = true → s.flag (Reg.CH_STAT.TRIPPED c) = false → s.inPassage c = false →
    s.pmuMember c = false →
    ∃ t : State, exec (.clampHit c) s = .next t ∧ t.flag (Reg.CH_STAT.CLAMP_HIT c) = true ∧ s.SameFields [Reg.CH_STAT.CLAMP_HIT c] t ∧
      t = { s with regs := t.regs }) ∧
  (∀ (s : State) (c : Fin 1024) (b : Nat), (s.chan c).busClose = some b → b ≤ s.now →
    ∃ t : State, exec (.busSwitchClose c) s = .next t ∧ t.flag (Reg.CH_STAT.BUS c) = true ∧ (t.chan c).busClose = none ∧
      s.SameWords [Reg.CH_STAT.word c] t ∧ t = { s with regs := t.regs, chans := t.chans }) ∧
  (∀ (s : State) (c : Fin 1024) (b : Nat), (s.chan c).busDz = some b → b ≤ s.now →
    ∃ t : State, exec (.busSwitchDzEnd c) s = .next t ∧ (t.chan c).busDz = none ∧ s.SameWords [Reg.CH_STAT.word c] t ∧
      t = { s with regs := t.regs, chans := t.chans })

/-- R33, R123, R138, R155, R158, R171: the events of a stream, where nothing else is due with them. -/
def Obligations.StreamsPlay : Prop :=
  (∀ (s : State) (x : Fin 80), s.reading x = true → (s.stream x).rdone = false → (s.stream x).queue.length < 8 →
    (∀ d ∈ (s.stream x).queue, d.err = 0) →
    ∃ u : State, exec (.descriptorRead x) s = .next u.refreshLeases ∧ u.mem = s.mem ∧ u.seqs = s.seqs ∧
      ∀ d, d = s.readDesc x (s.stream x).rpos (s.stream x).rstack →
        (d.err ≠ 0 ∨ d.kind ≠ 4 → (u.stream x).queue = (s.stream x).queue ++ [d]) ∧
        (d.err = 0 → d.kind = 4 → (u.stream x).queue = (s.stream x).queue ∧ (u.stream x).rpos = d.data) ∧
        (d.err = 0 → d.kind ≠ 4 → d.fin = false → (u.stream x).rpos = d.addr + 32)) ∧
  (∀ (s : State) (x : Fin 80) (d : Desc) (ds : List Desc), s.reading x = true → (s.stream x).queue = d :: ds → d.err = 0 → (s.stream x).inc = none →
    s.replayable x d = false →
    ∃ t : State, exec (.frameFetchComplete x) s = .next t ∧ (t.stream x).queue = d :: ds ∧
      (∃ h, (t.stream x).inc = some h ∧ h.desc = d ∧
        h.rows = s.bytes d.data (if d.kind = 2 then rowBytes (s.streamWidth x) else d.count * rowBytes (s.streamWidth x))) ∧
      t.mem = s.mem ∧ s.SameWords [Reg.SO_STAT.word] t) ∧
  (∀ (s : State) (x : Fin 80) (h : Half), s.streamState x = Str.PLAYING → (s.stream x).phase = .frame → (s.stream x).cur = some h →
    (s.stream x).lead = 0 → (s.stream x).vec < h.desc.count → s.begun ((s.stream x).t0 + (s.stream x).vec * (s.stream x).period) = true →
    ∃ t : State, exec (.vectorStart x) s = .next t ∧ (t.stream x).vec = (s.stream x).vec + 1 ∧
      t.get (Reg.SO_STR_POS.VECTOR x) = ((s.stream x).vecBase + (s.stream x).vec) % 2 ^ 48 ∧ t.mem = s.mem) ∧
  (∀ (s : State) (x : Fin 80) (h : Half), s.streamState x = Str.PLAYING → (s.stream x).phase = .frame → (s.stream x).cur = some h →
    (s.stream x).lead ≠ 0 → s.begun ((s.stream x).t0 - (s.stream x).lead) = true →
    ∃ t : State, exec (.vectorStart x) s = .next t ∧ (t.stream x).vec = (s.stream x).vec ∧ (t.stream x).lead = 0 ∧ t.mem = s.mem) ∧
  (∀ (s : State) (x : Fin 80) (d : Desc) (ds : List Desc) (h : Half) (st : Nat), s.streamState x = Str.PRIMING → (s.stream x).start = some st →
    st / 65536 = s.now → (s.stream x).queue = d :: ds → (s.stream x).inc = some h → s.frameRefusal x d (some h) = none →
    ∃ u : State, exec (.streamStart x) s = .next u.follow.settle ∧ u.streamState x = Str.PLAYING ∧ (u.stream x).cur = some h ∧ (u.stream x).t0 = st ∧
      (u.stream x).phase = .frame ∧ (u.stream x).queue = ds ∧ u.get (Reg.SO_STR_POS.FRAMES x) = 1 ∧
      u.get (Reg.SO_STR_STAT.FRAME_ID x) = h.desc.frameId % 2 ^ 32) ∧
  (∀ (s : State) (x : Fin 80) (h hf : Half) (d : Desc) (ds : List Desc), s.QuietBoundary x → (s.stream x).cur = some h → (s.stream x).left ≤ 1 →
    (s.stream x).queue = d :: ds → (s.stream x).inc = some hf → hf.desc = d → s.replayable x d = false → s.frameRefusal x d (some hf) = none →
    s.streamPeriod x d.tense = s.streamPeriod x h.desc.tense → (s.stream x).under = 0 →
    ∃ u : State, exec (.frameBoundary x) s = .next u.follow.settle ∧ u.streamState x = Str.PLAYING ∧ (u.stream x).cur = some hf ∧
      (u.stream x).t0 = (s.stream x).endAt ∧ (u.stream x).vec = 0 ∧ (u.stream x).lead = 0 ∧ (u.stream x).queue = ds ∧
      (u.stream x).vecBase = (s.stream x).vecBase + h.desc.count) ∧
  (∀ (s : State) (x : Fin 80) (h : Half), s.QuietBoundary x → (s.stream x).cur = some h → (s.stream x).left ≤ 1 → (s.stream x).queue = [] →
    (s.stream x).rdone = true →
    ∃ u : State, exec (.frameBoundary x) s = .next u.follow.settle ∧ u.streamState x = Str.IDLE ∧ (u.stream x).cur = none ∧ (u.stream x).members = [])

/-- R118, R120, R132, R136, R165, R172, R174: the writes of the scan-out, edge and pattern-memory blocks. -/
def Obligations.ScanOutAndRegionWrites : Prop :=
  (∀ (s : State) (port : Port) (e : Fin 1056) (w : Word), s.mode ≠ Mode.RESET → s.wordRefused (Reg.EE_TWR.word e) = false → tenseWriteBad w = false →
    ∃ t : State, exec (.eeTwrWrite port e w) s = .next t ∧ (∀ bank, t.tenseItem bank e (wget w 75 70) (wget w 67 64) = wget w 63 0) ∧
      (∀ bank f j i, j < 64 → i < 6 → ¬ (f = e.val ∧ j = wget w 75 70 ∧ i = wget w 67 64) → t.tenseItem bank f j i = s.tenseItem bank f j i) ∧
      t = { s with tenses := t.tenses, tensesShadow := t.tensesShadow }) ∧
  (∀ (s : State) (port : Port) (i : Fin 256) (w : Word), s.mode ≠ Mode.RESET →
    (s.set Reg.PM_STAT.LAST_INDEX i).rgnRefusal i (w &&& rgnMask) = none →
    ∃ t : State, exec (.pmRgnWrite port i w) s = .next t ∧ t.reg (Reg.PM_RGN.word i) = w &&& rgnMask ∧ t.get Reg.PM_STAT.LAST_RESULT = 0 ∧
      t.get Reg.PM_STAT.LAST_INDEX = i.val ∧ s.SameWords [Reg.PM_RGN.word i, Reg.PM_LEASE.word i, Reg.PM_STAT.word] t ∧ t = { s with regs := t.regs }) ∧
  (∀ (s : State) (port : Port) (i : Fin 256) (w : Word) (c : Nat), s.mode ≠ Mode.RESET → c < 16 →
    (s.set Reg.PM_STAT.LAST_INDEX i).rgnRefusal i (w &&& rgnMask) = some c →
    ∃ t : State, exec (.pmRgnWrite port i w) s = .next t ∧ t.reg (Reg.PM_RGN.word i) = s.reg (Reg.PM_RGN.word i) ∧ t.get Reg.PM_STAT.LAST_RESULT = c ∧
      t.get Reg.PM_STAT.LAST_INDEX = i.val) ∧
  (∀ (s : State) (port : Port) (n : Fin 64) (w : Word), s.mode ≠ Mode.RESET → s.siteLive n = false → (Reg.SO_FC_CFG.BASE n).of w % 4096 = 0 →
    (Reg.SO_FC_CFG.SIZE n).of w ≠ 0 →
    ∃ t : State, exec (.soFcCfgWrite port n w) s = .next t ∧ t.get (Reg.SO_FC_CFG.BASE n) = (Reg.SO_FC_CFG.BASE n).of w ∧
      t.get (Reg.SO_FC_CFG.SIZE n) = (Reg.SO_FC_CFG.SIZE n).of w ∧ t.get (Reg.SO_FC_CFG.EN n) = (Reg.SO_FC_CFG.EN n).of w ∧
      t.get (Reg.SO_FC_PTR.WR n) = 0 ∧ t.get (Reg.SO_FC_PTR.RD n) = 0 ∧
      s.SameWords [Reg.SO_FC_CFG.word n, Reg.SO_FC_PTR.word n] t ∧ t = { s with regs := t.regs }) ∧
  (∀ (s : State) (port : Port) (n : Fin 64) (w : Word), s.mode ≠ Mode.RESET → (Reg.SO_FC_PTR.RD n).of w < s.fcCap n →
    ∃ t : State, exec (.soFcPtrWrite port n w) s = .next t ∧ t.get (Reg.SO_FC_PTR.RD n) = (Reg.SO_FC_PTR.RD n).of w ∧
      s.SameFields [Reg.SO_FC_PTR.RD n] t ∧ t = { s with regs := t.regs }) ∧
  (∀ (s : State) (port : Port) (n : Fin 64), s.mode ≠ Mode.RESET → s.siteState n ≠ Site.RUNNING → s.siteState n ≠ Site.HELD →
    ∃ t : State, exec (.clrFail port n) s = .next t ∧ t.reg (Reg.SO_FC_CNT.word n) = 0 ∧
      (∀ c ∈ (s.map n).chans, t.reg (Reg.CH_FAILCNT.word c) = resetWord (Reg.CH_FAILCNT.word c)) ∧
      s.SameWords (Reg.SO_FC_CNT.word n :: (s.map n).chans.map Reg.CH_FAILCNT.word) t ∧ t = { s with regs := t.regs, failMarks := t.failMarks }) ∧
  (∀ s : State, s.flag Reg.TB_STAT.PLL_LOCK = true →
    ∃ t : State, exec .pmReady s = .next t ∧ t.flag Reg.PM_STAT.READY = true ∧ s.SameFields [Reg.PM_STAT.READY] t ∧ t = { s with regs := t.regs }) ∧
  (∀ (s : State) (k : Fin 2), s.flag Reg.SO_CTRL.PD_EN = true →
    s.get (if k = 0 then Reg.SO_STAT.STACK0 else Reg.SO_STAT.STACK1) = 0 →
    ((s.stackReq.find? (fun p => p.1 == k.val)).map Prod.snd).getD 0 + s.get Reg.SO_CTRL.PD_IDLE ≤ s.now →
    ∃ t : State, exec (.stackPowerDown k) s = .next t ∧ t.get (if k = 0 then Reg.SO_STAT.STACK0 else Reg.SO_STAT.STACK1) = 1 ∧
      s.SameFields [if k = 0 then Reg.SO_STAT.STACK0 else Reg.SO_STAT.STACK1] t ∧ t = { s with regs := t.regs })

/-- R146, R462 to R464: the bulk port on pattern memory. What follows a change of site states (`follow`) touches no byte. -/
def Obligations.BulkPortMovesBytes : Prop :=
  (∀ (s : State) (ch : Fin 4) (off : BitVec 20) (data : List ByteLane) (a : Nat), s.link.d3 = false → s.get (Reg.HL_BULK.MODE ch) ≠ 0 →
    s.get (Reg.HL_BULK.TARGET ch) = 0 → a = s.bulkBase ch off.toNat → data ≠ [] → a + data.length ≤ pmSize →
    (∀ i ∈ s.rgnsReached a data.length, s.leased i = true → s.rgnKind i < 2) →
    ∃ t : State, exec (.bulkWrite ch off data) s = .next t ∧
      (∀ j b, data[j]? = some (some b) → t.byte (a + j) = b) ∧
      (∀ j, data[j]? = some none → t.byte (a + j) = s.byte (a + j)) ∧
      (∀ b, b < a ∨ a + data.length ≤ b → t.byte b = s.byte b)) ∧
  (∀ (s : State) (ch : Fin 4) (off : BitVec 20) (data : List ByteLane) (a i : Nat), s.link.d3 = false → s.get (Reg.HL_BULK.MODE ch) ≠ 0 →
    s.get (Reg.HL_BULK.TARGET ch) = 0 → a = s.bulkBase ch off.toNat → data ≠ [] → a + data.length ≤ pmSize →
    i ∈ s.rgnsReached a data.length → s.leased i = true → 2 ≤ s.rgnKind i →
    ∃ u : State, exec (.bulkWrite ch off data) s = .next u.follow ∧ u.mem = s.mem ∧ u.flag Reg.HL_STAT.VIOL_DROP = true) ∧
  (∀ (s : State) (ch : Fin 4) (off : BitVec 20) (len : Nat) (a : Nat), s.link.d3 = false → s.get (Reg.HL_BULK.MODE ch) ≠ 0 →
    s.get (Reg.HL_BULK.TARGET ch) = 0 → a = s.bulkBase ch off.toNat → a + len ≤ pmSize →
    ∃ t : State, exec (.bulkRead ch off len) s = .next t ∧ t.link.bulk = (s.bytes a len, s.anyUncorr a len) ∧ t.mem = s.mem ∧
      (s.get (Reg.HL_BULK.MODE ch) = 1 → t.get (Reg.HL_BULK.PTR ch) = (a + len) % 2 ^ 40) ∧
      (s.get (Reg.HL_BULK.MODE ch) ≠ 1 → t.get (Reg.HL_BULK.PTR ch) = s.get (Reg.HL_BULK.PTR ch)))

/-- R184: the arithmetic statements and the conditions of BR. -/
def Obligations.ArithmeticAndBranches : Prop :=
  (∀ (s : State) (n : Nat) (i : Stmt), i.xb = 0 → s.getX n i.xb + (BitVec.ofNat 64 i.imm).signExtend 128 = (BitVec.ofNat 64 i.imm).signExtend 128) ∧
  (∀ (s : State) (n : Fin 64) (i : Stmt) (A B : Word), s.Issues n i → A = s.getX n i.xa → B = s.getX n i.xb + (BitVec.ofNat 64 i.imm).signExtend 128 →
    i.op = 0x11 → ∃ t : State, exec (.stmtAdd n) s = .next t ∧ s.Loads t n i.xd (A + B)) ∧
  (∀ (s : State) (n : Fin 64) (i : Stmt) (A B : Word), s.Issues n i → A = s.getX n i.xa → B = s.getX n i.xb + (BitVec.ofNat 64 i.imm).signExtend 128 →
    i.op = 0x12 → ∃ t : State, exec (.stmtSub n) s = .next t ∧ s.Loads t n i.xd (A - B)) ∧
  (∀ (s : State) (n : Fin 64) (i : Stmt) (A B : Word), s.Issues n i → A = s.getX n i.xa → B = s.getX n i.xb + (BitVec.ofNat 64 i.imm).signExtend 128 →
    i.op = 0x13 → ∃ t : State, exec (.stmtAnd n) s = .next t ∧ s.Loads t n i.xd (A &&& B)) ∧
  (∀ (s : State) (n : Fin 64) (i : Stmt) (A B : Word), s.Issues n i → A = s.getX n i.xa → B = s.getX n i.xb + (BitVec.ofNat 64 i.imm).signExtend 128 →
    i.op = 0x14 → ∃ t : State, exec (.stmtOr n) s = .next t ∧ s.Loads t n i.xd (A ||| B)) ∧
  (∀ (s : State) (n : Fin 64) (i : Stmt) (A B : Word), s.Issues n i → A = s.getX n i.xa → B = s.getX n i.xb + (BitVec.ofNat 64 i.imm).signExtend 128 →
    i.op = 0x15 → ∃ t : State, exec (.stmtXor n) s = .next t ∧ s.Loads t n i.xd (A ^^^ B)) ∧
  (∀ (s : State) (n : Fin 64) (i : Stmt) (A B : Word), s.Issues n i → A = s.getX n i.xa → B = s.getX n i.xb + (BitVec.ofNat 64 i.imm).signExtend 128 →
    i.op = 0x16 → ∃ t : State, exec (.stmtShl n) s = .next t ∧ s.Loads t n i.xd (A <<< (B.toNat % 128))) ∧
  (∀ (s : State) (n : Fin 64) (i : Stmt) (A B : Word), s.Issues n i → A = s.getX n i.xa → B = s.getX n i.xb + (BitVec.ofNat 64 i.imm).signExtend 128 →
    i.op = 0x17 → ∃ t : State, exec (.stmtShr n) s = .next t ∧ s.Loads t n i.xd (A >>> (B.toNat % 128))) ∧
  (∀ (s : State) (n : Fin 64) (i : Stmt) (A B : Word), s.Issues n i → A = s.getX n i.xa → B = s.getX n i.xb + (BitVec.ofNat 64 i.imm).signExtend 128 →
    i.op = 0x18 → ∃ t : State, exec (.stmtSar n) s = .next t ∧ s.Loads t n i.xd (A.sshiftRight (B.toNat % 128))) ∧
  (∀ (s : State) (n : Fin 64) (i : Stmt) (A B : Word), s.Issues n i → A = s.getX n i.xa → B = s.getX n i.xb + (BitVec.ofNat 64 i.imm).signExtend 128 → i.op = 0x03 →
    (i.cc = 0 → ∃ t : State, exec (.stmtBr n) s = .next t ∧ ((A = B) → s.Moved t n i.target []) ∧ (¬(A = B) → s.Moved t n (s.pc n + 1) []) ∧
      t = { s with regs := t.regs, stackReq := t.stackReq }) ∧ (i.cc = 1 → ∃ t : State, exec (.stmtBr n) s = .next t ∧ ((A ≠ B) → s.Moved t n i.target []) ∧ (¬(A ≠ B) → s.Moved t n (s.pc n + 1) []) ∧
      t = { s with regs := t.regs, stackReq := t.stackReq }) ∧ (i.cc = 2 → ∃ t : State, exec (.stmtBr n) s = .next t ∧ ((A.toInt < B.toInt) → s.Moved t n i.target []) ∧ (¬(A.toInt < B.toInt) → s.Moved t n (s.pc n + 1) []) ∧
      t = { s with regs := t.regs, stackReq := t.stackReq }) ∧ (i.cc = 3 → ∃ t : State, exec (.stmtBr n) s = .next t ∧ ((B.toInt ≤ A.toInt) → s.Moved t n i.target []) ∧ (¬(B.toInt ≤ A.toInt) → s.Moved t n (s.pc n + 1) []) ∧
      t = { s with regs := t.regs, stackReq := t.stackReq }) ∧ (i.cc = 4 → ∃ t : State, exec (.stmtBr n) s = .next t ∧ ((A.toNat < B.toNat) → s.Moved t n i.target []) ∧ (¬(A.toNat < B.toNat) → s.Moved t n (s.pc n + 1) []) ∧
      t = { s with regs := t.regs, stackReq := t.stackReq }) ∧ (i.cc = 5 → ∃ t : State, exec (.stmtBr n) s = .next t ∧ ((B.toNat ≤ A.toNat) → s.Moved t n i.target []) ∧ (¬(B.toNat ≤ A.toNat) → s.Moved t n (s.pc n + 1) []) ∧
      t = { s with regs := t.regs, stackReq := t.stackReq }) ∧ (i.cc = 6 → ∃ t : State, exec (.stmtBr n) s = .next t ∧ ((A &&& B ≠ 0) → s.Moved t n i.target []) ∧ (¬(A &&& B ≠ 0) → s.Moved t n (s.pc n + 1) []) ∧
      t = { s with regs := t.regs, stackReq := t.stackReq }) ∧ (i.cc = 7 → ∃ t : State, exec (.stmtBr n) s = .next t ∧ ((A &&& B = 0) → s.Moved t n i.target []) ∧ (¬(A &&& B = 0) → s.Moved t n (s.pc n + 1) []) ∧
      t = { s with regs := t.regs, stackReq := t.stackReq }) ∧ (i.cc = 8 → ∃ t : State, exec (.stmtBr n) s = .next t ∧ ((True) → s.Moved t n i.target []) ∧ (¬(True) → s.Moved t n (s.pc n + 1) []) ∧
      t = { s with regs := t.regs, stackReq := t.stackReq }) ∧
    (9 ≤ i.cc → ∃ u : State, exec (.stmtBr n) s = .next u.follow ∧ s.Faults u n Reason.OPERAND))

/-- R185, R187: the flow statements. -/
def Obligations.FlowStatements : Prop :=
  (∀ (s : State) (n : Fin 64) (i : Stmt), s.Issues n i → i.op = 0x00 →
    ∃ t : State, exec (.stmtNop n) s = .next t ∧ s.Moved t n (s.pc n + 1) [] ∧ t = { s with regs := t.regs, stackReq := t.stackReq }) ∧
  (∀ (s : State) (n : Fin 64) (i : Stmt), s.Issues n i → i.op = 0x02 →
    ∃ t : State, exec (.stmtJmp n) s = .next t ∧ s.Moved t n i.target [] ∧ t = { s with regs := t.regs, stackReq := t.stackReq }) ∧
  (∀ (s : State) (n : Fin 64) (i : Stmt), s.Issues n i → i.op = 0x04 →
    (i.cc ≤ 1 → ∃ t : State, exec (.stmtBrs n) s = .next t ∧
      s.Moved t n (if (s.get (Reg.SQ_STAT.ST n) = i.imm % 256) = (i.cc = 0) then i.target else s.pc n + 1) [] ∧
      t = { s with regs := t.regs, stackReq := t.stackReq }) ∧
    (2 ≤ i.cc → ∃ u : State, exec (.stmtBrs n) s = .next u.follow ∧ s.Faults u n Reason.OPERAND)) ∧
  (∀ (s : State) (n : Fin 64) (i : Stmt), s.Issues n i → i.op = 0x05 →
    ((s.seq n).stack.length < 16 → ∃ t : State, exec (.stmtCall n) s = .next t ∧ s.Moved t n i.target [Reg.SQ_STAT.SP n] ∧
      t.seq n = { s.seq n with stack := (s.pc n + 1) % 2 ^ 20 :: (s.seq n).stack } ∧ t.get (Reg.SQ_STAT.SP n) = (s.seq n).stack.length + 1 ∧
      (∀ m, m ≠ n.val → t.seq m = s.seq m) ∧ t = { s with regs := t.regs, stackReq := t.stackReq, seqs := t.seqs }) ∧
    (16 ≤ (s.seq n).stack.length → ∃ u : State, exec (.stmtCall n) s = .next u.follow ∧ s.Faults u n Reason.STACK)) ∧
  (∀ (s : State) (n : Fin 64) (i : Stmt), s.Issues n i → i.op = 0x06 →
    (∀ p ps, (s.seq n).stack = p :: ps → ps.length < 16 → ∃ t : State, exec (.stmtRet n) s = .next t ∧ s.Moved t n p [Reg.SQ_STAT.SP n] ∧
      t.seq n = { s.seq n with stack := ps } ∧ t.get (Reg.SQ_STAT.SP n) = ps.length ∧
      (∀ m, m ≠ n.val → t.seq m = s.seq m) ∧ t = { s with regs := t.regs, stackReq := t.stackReq, seqs := t.seqs }) ∧
    ((s.seq n).stack = [] → ∃ u : State, exec (.stmtRet n) s = .next u.follow ∧ s.Faults u n Reason.STACK)) ∧
  (∀ (s : State) (n : Fin 64) (i : Stmt), s.Issues n i → i.op = 0x07 →
    ∃ t : State, exec (.stmtLoop n) s = .next t ∧ t.getX n i.xd = (if i.xd = 0 then 0 else s.getX n i.xd - 1) ∧
      s.Moved t n (if i.xd = 0 ∨ s.getX n i.xd = 1 then s.pc n + 1 else i.target) (xFields n i.xd) ∧
      t = { s with regs := t.regs, stackReq := t.stackReq }) ∧
  (∀ (s : State) (n : Fin 64) (i : Stmt), s.Issues n i → i.op = 0x08 →
    ∃ u : State, exec (.stmtHold n) s = .next u.follow ∧ u.siteState n = Site.HELD ∧
      u.get (Reg.SQ_STAT.CAUSES n) = s.get (Reg.SQ_STAT.CAUSES n) ||| 2 ^ Cause.USER ∧
      s.Moved u n (s.pc n + 1) (Reg.SQ_CNT.RECORDS n :: holdFields n) ∧ u.get (Reg.SQ_STAT.FAULT n) = s.get (Reg.SQ_STAT.FAULT n) ∧
      s.Records u n Kind.EVENT 0 0 (Ev.USER_HOLD * 2 ^ 40 + i.imm % 2 ^ 40) ∧
      u = { s with regs := u.regs, stackReq := u.stackReq, pendRecs := u.pendRecs, msix := u.msix })

/-- R185, R196: the data and record statements. -/
def Obligations.DataStatements : Prop :=
  (∀ (s : State) (n : Fin 64) (i : Stmt), s.Issues n i → i.op = 0x10 →
    ∃ t : State, exec (.stmtLdi n) s = .next t ∧ s.Loads t n i.xd (if bitOf i.aux 0 = true
      then BitVec.ofNat 128 (i.imm % 2 ^ 64 * 2 ^ 64 + (s.getX n i.xd).toNat % 2 ^ 64) else (BitVec.ofNat 64 i.imm).signExtend 128)) ∧
  (∀ (s : State) (n : Fin 64) (i : Stmt) (a : Nat), s.Issues n i → i.op = 0x19 → a = s.stmtAddr n (((s.getX n i.xa).toNat + i.imm) % 2 ^ 20) →
    (s.progBad n a 16 = none → ∃ t : State, exec (.stmtLdp n) s = .next t ∧ s.Loads t n i.xd (BitVec.ofNat 128 (leNat (s.bytes a 16)))) ∧
    (s.progBad n a 16 = some (Reason.REGION, Reason.REGION) → ∃ u : State, exec (.stmtLdp n) s = .next u.follow ∧ s.Faults u n Reason.REGION)) ∧
  (∀ (s : State) (n : Fin 64) (i : Stmt), s.Issues n i → i.op = 0x1A →
    ∃ t : State, exec (.stmtRdw n) s = .next t ∧
      s.Loads t n i.xd ((s.began n i.op).readWord (((s.getX n i.xa).toNat + i.imm) % 2 ^ 24))) ∧
  (∀ (s : State) (n : Fin 64) (i : Stmt), s.Issues n i → i.op = 0x1B →
    ∃ t : State, exec (.stmtNow n) s = .next t ∧ s.Loads t n i.xd (BitVec.ofNat 128 (s.captureTime % 2 ^ 80))) ∧
  (∀ (s : State) (n : Fin 64) (i : Stmt), s.Issues n i → i.op = 0x60 →
    (recKind (i.aux % 16) = true → ∃ t : State, exec (.stmtRec n) s = .next t ∧ s.Moved t n (s.pc n + 1) [Reg.SQ_CNT.RECORDS n] ∧
      t.get (Reg.SQ_CNT.RECORDS n) = (s.get (Reg.SQ_CNT.RECORDS n) + 1) % 2 ^ 32 ∧
      s.Records t n (i.aux % 16) (if bitOf i.aux 14 = true then Flag.FAIL else 0) (i.aux / 16 % 1024) ((s.getX n i.xa).toNat % 2 ^ 48) ∧
      t = { s with regs := t.regs, stackReq := t.stackReq, pendRecs := t.pendRecs }) ∧
    (recKind (i.aux % 16) = false → ∃ u : State, exec (.stmtRec n) s = .next u.follow ∧ s.Faults u n Reason.OPERAND)) ∧
  (∀ (s : State) (n : Fin 64) (i : Stmt), s.Issues n i → i.op = 0x61 →
    ∃ t : State, exec (.stmtBin n) s = .next t ∧ s.Moved t n (s.pc n + 1) [Reg.SQ_CNT.RECORDS n] ∧
      t.get (Reg.SQ_CNT.RECORDS n) = (s.get (Reg.SQ_CNT.RECORDS n) + 1) % 2 ^ 32 ∧
      s.Records t n Kind.BIN 0 0 (i.imm % 2 ^ 48) ∧ t = { s with regs := t.regs, stackReq := t.stackReq, pendRecs := t.pendRecs }) ∧
  (∀ (s : State) (n : Fin 64) (i : Stmt) (k : Nat), s.Issues n i → i.op = 0x62 → k = i.aux / 2 % 4 →
    ∃ t : State, exec (.stmtAcc n) s = .next t ∧
      t.getX n i.xd = (if i.xd = 0 then 0 else if k = 0 then s.reg (Reg.SQ_ACC.word n)
        else if k = 1 then BitVec.ofInt 128 (s.getS (Reg.SQ_ACC.MIN n)) else if k = 2 then BitVec.ofInt 128 (s.getS (Reg.SQ_ACC.MAX n))
        else BitVec.ofNat 128 (s.get (Reg.SQ_ACC.NFAIL n))) ∧
      t.reg (Reg.SQ_ACC.word n) = (if bitOf i.aux 0 = true then resetWord (Reg.SQ_ACC.word n) else s.reg (Reg.SQ_ACC.word n)) ∧
      s.Moved t n (s.pc n + 1) (⟨Reg.SQ_ACC.word n, 127, 0⟩ :: xFields n i.xd) ∧ t = { s with regs := t.regs, stackReq := t.stackReq })

/-- R188, R189, R194: the waits of a site's program. -/
def Obligations.WaitStatements : Prop :=
  (∀ (s : State) (n : Fin 64) (i : Stmt) (g : Nat), s.Issues n i → i.op = 0x20 →
    g = (if bitOf i.aux 0 = true then (((s.getX n i.xa).toNat / 2 ^ 16 % 2 ^ 64 : Nat) + (BitVec.ofNat 64 i.imm).toInt).toNat else s.now + i.imm) →
    ∃ t : State, exec (.stmtWaitb n) s = .next t ∧ s.Moved t n (if g ≤ s.now then s.pc n + 1 else s.pc n) [] ∧
      t.seq n = (if g ≤ s.now then s.seq n else { s.seq n with wait := .beat g }) ∧ (∀ m, m ≠ n.val → t.seq m = s.seq m) ∧
      t = { s with regs := t.regs, stackReq := t.stackReq, seqs := t.seqs }) ∧
  (∀ (s : State) (n : Fin 64) (g : Nat), (s.seq n).wait = .beat g → s.canEnd n = true → (s.seq n).verb.running = false → g ≤ s.now →
    ∃ t : State, exec (.waitbTarget n) s = .next t ∧ t.pc n = (s.pc n + 1) % 2 ^ 20 ∧ t.seq n = { s.seq n with wait := .none } ∧
      s.SameFields [Reg.SQ_STAT.PC n] t ∧ t = { s with regs := t.regs, seqs := t.seqs }) ∧
  (∀ (s : State) (n : Fin 64) (i : Stmt) (g c : Nat), s.Issues n i → i.op = 0x21 → g = (s.getX n i.xa).toNat % 2 ^ 48 →
    c = s.get (Reg.TB_FOLLOW_CNT.COUNT n) →
    (s.flag (Reg.TB_FOLLOW_CFG.EN n) = false → ∃ u : State, exec (.stmtWaitf n) s = .next u.follow ∧ s.Faults u n Reason.OPERAND) ∧
    (s.flag (Reg.TB_FOLLOW_CFG.EN n) = true → 2 ^ 47 ≤ (c + 2 ^ 48 - g) % 2 ^ 48 → ∃ t : State, exec (.stmtWaitf n) s = .next t ∧
      s.Moved t n (s.pc n) [] ∧ (t.seq n).wait = .follow i.xd g (if i.imm % 2 ^ 32 = 0 then 0 else s.now + i.imm % 2 ^ 32) none ∧
      t = { s with regs := t.regs, stackReq := t.stackReq, seqs := t.seqs }) ∧
    (s.flag (Reg.TB_FOLLOW_CFG.EN n) = true → c = g → ∃ t : State, exec (.stmtWaitf n) s = .next t ∧
      t.getX n i.xd = (if i.xd = 0 then 0 else BitVec.ofNat 128 (s.get (Reg.TB_FOLLOW_CNT.LAST_EDGE n))) ∧ t.get (Reg.SQ_STAT.ST n) = St.OK ∧
      s.Moved t n (s.pc n + 1) (Reg.SQ_STAT.ST n :: xFields n i.xd) ∧ t.seq n = s.seq n)) ∧
  (∀ (s : State) (n : Fin 64) (xd g d : Nat), xd < 32 → (s.seq n).wait = .follow xd g d none → s.canEnd n = true →
    (s.seq n).verb.running = false → 0 < d → d ≤ s.now →
    ∃ t : State, exec (.waitfTimeout n) s = .next t ∧ t.getX n xd = 0 ∧ t.get (Reg.SQ_STAT.ST n) = St.TIMEOUT ∧ t.pc n = (s.pc n + 1) % 2 ^ 20 ∧
      t.seq n = { s.seq n with wait := .none } ∧ s.SameFields (Reg.SQ_STAT.PC n :: Reg.SQ_STAT.ST n :: xFields n xd) t ∧
      t = { s with regs := t.regs, seqs := t.seqs }) ∧
  (∀ (s : State) (n : Fin 64) (i : Stmt), s.Issues n i → i.op = 0x22 →
    ∃ t : State, exec (.stmtWaitp n) s = .next t ∧ s.Moved t n (s.pc n) [] ∧
      t.seq n = { s.seq n with wait := .pattern i.xd (if i.imm % 2 ^ 32 = 0 then 0 else s.now + i.imm % 2 ^ 32) (bitOf i.aux 0) } ∧
      t = { s with regs := t.regs, stackReq := t.stackReq, seqs := t.seqs }) ∧
  (∀ (s : State) (n : Fin 64) (xd d k : Nat) (rec : Bool), xd < 32 → (s.seq n).wait = .pattern xd d rec → s.canEnd n = true →
    (s.seq n).verb.running = false → s.patternHolds n = true → k = (s.seq n).failBase →
    ∃ t : State, exec (.waitpComplete n) s = .next t ∧ t.getX n xd = (if xd = 0 then 0 else BitVec.ofNat 128 (k % 2 ^ 48)) ∧
      t.get (Reg.SQ_STAT.ST n) = (if k = 0 then St.OK else St.FAIL) ∧ t.pc n = (s.pc n + 1) % 2 ^ 20 ∧
      t.seq n = { s.seq n with wait := .none } ∧ (rec = false → t.pendRecs = s.pendRecs) ∧
      (rec = true → ∃ fl, s.Records t n Kind.PASSFAIL fl 0 k ∧ (bitOf fl 0 = true ↔ k ≠ 0)) ∧
      s.SameFields (Reg.SQ_STAT.PC n :: Reg.SQ_STAT.ST n :: Reg.SQ_CNT.RECORDS n :: xFields n xd) t ∧
      t = { s with regs := t.regs, seqs := t.seqs, pendRecs := t.pendRecs }) ∧
  (∀ (s : State) (n : Fin 64) (xd d : Nat) (rec : Bool), xd < 32 → (s.seq n).wait = .pattern xd d rec → s.canEnd n = true →
    (s.seq n).verb.running = false → s.patternHolds n = false → 0 < d → d ≤ s.now →
    ∃ t : State, exec (.waitpTimeout n) s = .next t ∧ t.getX n xd = 0 ∧ t.get (Reg.SQ_STAT.ST n) = St.TIMEOUT ∧ t.pc n = (s.pc n + 1) % 2 ^ 20 ∧
      t.seq n = { s.seq n with wait := .none } ∧ s.SameFields (Reg.SQ_STAT.PC n :: Reg.SQ_STAT.ST n :: xFields n xd) t ∧
      t = { s with regs := t.regs, seqs := t.seqs }) ∧
  (∀ (s : State) (n : Fin 64) (i : Stmt), s.Issues n i → i.op = 0x01 → (s.seq n).clause = none →
    ∃ t : State, exec (.stmtEnd n) s = .next t ∧ s.Moved t n (s.pc n) [] ∧ t.seq n = { s.seq n with wait := .finish } ∧
      t = { s with regs := t.regs, stackReq := t.stackReq, seqs := t.seqs }) ∧
  (∀ (s : State) (n : Fin 64) (i : Stmt), s.Issues n i → i.op = 0x01 →
    ∃ t : State, exec (.stmtEnd n) s = .next t ∧ (t.seq n).wait = .finish ∧ (t.seq n).clause = none) ∧
  (∀ (s : State) (n : Fin 64), (s.seq n).wait = .finish → s.siteState n = Site.RUNNING → s.flag (Reg.SQ_STAT.STOPPING n) = false →
    (s.seq n).suspended = false → s.patternHolds n = true → s.streamOf n < 80 → (∀ p ∈ s.pmuMeas, p.2.owner ≠ some n.val) → (∀ p ∈ s.tdcs, p.2.owner ≠ some n.val) →
    ∃ u : State, exec (.endComplete n) s = .next u.refreshLeases.follow ∧ u.siteState n = Site.LOADED ∧ u.get (Reg.SQ_STAT.CAUSES n) = 0 ∧
      u.flag (Reg.SQ_STAT.TOKEN n) = false ∧ (u.seq n).wait = .none ∧ (u.seq n).stack = [] ∧ (∀ k < 32, u.getX n k = s.getX n k) ∧
      u.flag ⟨0x005004, Intr.SITE_END, Intr.SITE_END⟩ = true ∧ u.mem = s.mem)

/-- R191, R192: the clause statements. -/
def Obligations.ClauseStatements : Prop :=
  (∀ (s : State) (n : Fin 64) (i : Stmt), s.Issues n i →
    (i.op = 0x30 → (s.seq n).clause ≠ none → ∃ u : State, exec (.stmtClo n) s = .next u.follow ∧ s.Faults u n Reason.OPERAND) ∧
    (i.op = 0x31 → (s.seq n).clause = none → ∃ u : State, exec (.stmtCla n) s = .next u.follow ∧ s.Faults u n Reason.OPERAND) ∧
    (i.op = 0x32 → (s.seq n).clause = none ∨ i.aux % 2 ^ 13 = 0 ∨ 4096 < i.aux % 2 ^ 13 →
      ∃ u : State, exec (.stmtClt n) s = .next u.follow ∧ s.Faults u n Reason.OPERAND) ∧
    (i.op = 0x33 → (s.seq n).clause = none → ∃ u : State, exec (.stmtClc n) s = .next u.follow ∧ s.Faults u n Reason.OPERAND) ∧
    (i.op = 0x34 → (s.seq n).clause = none → ∃ u : State, exec (.stmtCld n) s = .next u.follow ∧ s.Faults u n Reason.OPERAND)) ∧
  (∀ (s : State) (n : Fin 64) (i : Stmt), s.Issues n i → i.op = 0x30 → (s.seq n).clause = none →
    (∀ k, s.freeSlotIndex = some k → ∃ t : State, exec (.stmtClo n) s = .next t ∧ (t.seq n).clause = some k ∧ (t.seq n).span = true ∧
      t.slotState k = Slot.OPEN ∧ t.slotOwner k = some n.val ∧ (t.slot k).acts = [] ∧ t.flag (Reg.SQ_STAT.CLAUSE n) = true ∧
      t.pc n = (s.pc n + 1) % 2 ^ 20 ∧ (∀ j, j ≠ k → t.slot j = s.slot j)) ∧
    (s.freeSlotIndex = none → ∃ t : State, exec (.stmtClo n) s = .next t ∧ (t.seq n).wait = .clo ∧ s.Moved t n (s.pc n) [])) ∧
  (∀ (s : State) (n : Fin 64) (k : Nat), (s.seq n).wait = .clo → (s.seq n).verb.running = false → s.canEnd n = true → s.freeSlotIndex = some k →
    ∃ t : State, exec (.cloWaitEnd n) s = .next t ∧ (t.seq n).clause = some k ∧ (t.seq n).wait = .none ∧ t.slotState k = Slot.OPEN ∧
      t.slotOwner k = some n.val ∧ t.pc n = (s.pc n + 1) % 2 ^ 20) ∧
  (∀ (s : State) (n : Fin 64) (i : Stmt) (k : Fin 16), s.Issues n i → i.op = 0x31 → (s.seq n).clause = some k.val →
    ∃ t : State, exec (.stmtCla n) s = .next t ∧ t.pc n = (s.pc n + 1) % 2 ^ 20 ∧ t.mem = s.mem ∧
      (∀ x, x = (⟨i.imm % 2 ^ 24, s.getX n i.xa, s.getX n i.xb⟩ : Action) →
        ((s.slot k).refused ≠ none → t.slot k = s.slot k) ∧
        ((s.slot k).refused = none → (s.slot k).acts.length < 4096 → s.poolUsed < 65536 → (s.began n 0x31).stageCode (some n.val) x = none →
          s.slotOwner k = some n.val → (t.slot k).acts = (s.slot k).acts ++ [x] ∧ (t.slot k).refused = none))) ∧
  (∀ (s : State) (n : Fin 64) (i : Stmt) (k : Fin 16), s.Issues n i → i.op = 0x32 → (s.seq n).clause = some k.val →
    s.tableBad n (i.imm % 2 ^ 20) (i.aux % 2 ^ 13) = none →
    ∃ t : State, exec (.stmtClt n) s = .next t ∧ t = ((s.began n 0x32).stageTable n (i.imm % 2 ^ 20) (i.aux % 2 ^ 13)).retire n ∧ t.mem = s.mem) ∧
  (∀ (s : State) (n : Fin 64) (i : Stmt) (k : Fin 16) (fs : Nat) (s1 : State), s.Issues n i → i.op = 0x33 → (s.seq n).clause = some k.val →
    fs = (if bitOf i.aux 0 = true then (s.getX n i.xa).toNat / 2 ^ 16 % 2 ^ 64 else s.now + i.imm % 2 ^ 32) →
    s1 = (((s.began n 0x33).set (Reg.CL_SET.FULL_STOP k) fs).set (Reg.CL_SET.TAG k) (i.imm / 2 ^ 32 % 2 ^ 16)).set (Reg.CL_SET.MULTI k)
      (b2n (bitOf i.aux 1)) → s1.request k = .ok →
    ∃ t : State, exec (.stmtClc n) s = .next t ∧ t.slotState k = Slot.PREPARING ∧ t.slotFs k = fs % 2 ^ 64 ∧ t.slotTag k = i.imm / 2 ^ 32 % 2 ^ 16 ∧
      t.slotMulti k = bitOf i.aux 1 ∧ (t.seq n).wait = .clc i.xd k fs none ∧ (t.seq n).clause = none ∧ t.flag (Reg.SQ_STAT.CLAUSE n) = false ∧
      t.pc n = s.pc n ∧ t.slots = s.slots) ∧
  (∀ (s : State) (n : Fin 64) (xd k fs r : Nat), xd < 32 → (s.seq n).wait = .clc xd k fs (some r) → s.canEnd n = true →
    (s.seq n).verb.running = false →
    ∃ t : State, exec (.clcDecision n) s = .next t ∧ t.pc n = (s.pc n + 1) % 2 ^ 20 ∧ t.seq n = { s.seq n with wait := .none } ∧
      t.getX n xd = (if xd = 0 then 0 else BitVec.ofNat 128 (r % 256 * 2 ^ 80 + fs % 2 ^ 64 * 2 ^ 16)) ∧
      t.get (Reg.SQ_STAT.ST n) = (if r = Cl.OK then St.OK else if 0x10 ≤ r then St.REFUSED else St.ABORTED) ∧
      s.SameFields (Reg.SQ_STAT.PC n :: Reg.SQ_STAT.ST n :: xFields n xd) t ∧ t = { s with regs := t.regs, seqs := t.seqs }) ∧
  (∀ (s : State) (n : Fin 64) (i : Stmt) (k : Fin 16), s.Issues n i → i.op = 0x34 → (s.seq n).clause = some k.val → s.slotOwner k = some n.val →
    ∃ t : State, exec (.stmtCld n) s = .next t ∧ (t.seq n).clause = none ∧ t.flag (Reg.SQ_STAT.CLAUSE n) = false ∧ t.slotState k = Slot.FREE ∧
      (t.slot k).acts = [] ∧ t.pc n = (s.pc n + 1) % 2 ^ 20 ∧ t.mem = s.mem)

/-- R193, R195: patterns and measurements of a site's program. -/
def Obligations.MeasuringStatements : Prop :=
  (∀ (s : State) (n : Fin 64) (i : Stmt) (g : Nat) (x : Nat), s.Issues n i → i.op = 0x40 → g = (s.getX n i.xa).toNat % 2 ^ 80 → x = s.streamOf n →
    s.streamState x = Str.IDLE → (∀ e ∈ (s.stream x).gather, e.site ≠ n.val) → (bitOf i.aux 1 = true → s.groupOf n ≠ none) →
    (bitOf i.aux 1 = false → i.imm % 32 = 0) → (bitOf i.aux 0 = true → s.now + 32 ≤ g / 65536) →
    ∃ t : State, exec (.stmtPlay n) s = .next t ∧ t = ((s.began n 0x40).play n (i.imm % 2 ^ 35) (bitOf i.aux 0) (bitOf i.aux 1) g).retire n ∧ t.mem = s.mem ∧
      (s.groupOf n = none → (s.stream x).gather = [] → bitOf i.aux 1 = false → t.pc n = (s.pc n + 1) % 2 ^ 20 ∧ t.streamState n = Str.PRIMING ∧
        (t.stream n).list = i.imm % 2 ^ 35 ∧ (t.stream n).start = (if bitOf i.aux 0 = true then some g else none))) ∧
  (∀ (s : State) (n : Fin 64) (i : Stmt), s.Issues n i → i.op = 0x40 →
    s.streamState (s.streamOf n) ≠ Str.IDLE ∨ (bitOf i.aux 1 = false ∧ i.imm % 32 ≠ 0) ∨
      (bitOf i.aux 0 = true ∧ (s.getX n i.xa).toNat % 2 ^ 80 / 65536 < s.now + 32) →
    ∃ u : State, exec (.stmtPlay n) s = .next u.follow ∧ u.siteState n = Site.HELD ∧ u.get (Reg.SQ_STAT.FAULT n) = Reason.OPERAND ∧ u.pc n = s.pc n ∧
      s.Written u n Ev.STMT_FAULT Reason.OPERAND ∧ u.streams = s.streams ∧ u.mem = s.mem ∧
      (bitOf i.aux 0 = true → (s.getX n i.xa).toNat % 2 ^ 80 / 65536 < s.now + 32 → s.logWait.length < 2048 →
        ⟨s.now, 7, logWord s.stampBeat Src.SQ Lc.SCHED_PAST (detail 0 n)⟩ ∈ u.logWait)) ∧
  (∀ (s : State) (n : Fin 64) (i : Stmt) (r : MeasReq), s.Issues n i → i.op = 0x50 →
    r = ⟨i.aux % 2 ^ 10, i.aux / 2 ^ 10 % 2 ^ 11, bitOf i.aux 21, i.imm / 2 ^ 16 % 2 ^ 32, i.imm % 2 ^ 16,
      ((s.getX n i.xa).extractLsb' 0 48).toInt, ((s.getX n i.xa).extractLsb' 64 48).toInt⟩ →
    (s.measBad n r = false → ∃ t : State, exec (.stmtMeas n) s = .next t ∧ t = ((s.began n 0x50).startMeas n r).waitUnits n i.xd r.count ∧
      (t.seq n).wait = .units i.xd r.count 0 false) ∧
    (s.measBad n r = true → ∃ u : State, exec (.stmtMeas n) s = .next u.follow ∧ s.Faults u n Reason.OPERAND)) ∧
  (∀ (s : State) (n : Fin 64) (i : Stmt) (r : MeasReq), s.Issues n i → i.op = 0x51 →
    r = ⟨i.aux % 2 ^ 10, i.aux / 2 ^ 10 % 2 ^ 11, bitOf i.aux 21, i.imm / 2 ^ 16 % 2 ^ 32, i.imm % 2 ^ 16,
      ((s.getX n i.xa).extractLsb' 0 48).toInt, ((s.getX n i.xa).extractLsb' 64 48).toInt⟩ →
    (s.tmeasBad n r = false → ∃ t : State, exec (.stmtTmeas n) s = .next t ∧ t = ((s.began n 0x51).startTmeas n r).waitUnits n i.xd r.count ∧
      (t.seq n).wait = .units i.xd r.count 0 false) ∧
    (s.tmeasBad n r = true → ∃ u : State, exec (.stmtTmeas n) s = .next u.follow ∧ s.Faults u n Reason.OPERAND)) ∧
  (∀ (s : State) (n : Fin 64) (i : Stmt) (l : Nat), s.Issues n i → i.op = 0x52 → l = i.aux % 32 →
    (s.laneSite l = some n.val → s.laneState l = Ln.UP → s.get (Reg.DL_RX.CHK_PAT l) ≠ 0 →
      ∃ t : State, exec (.stmtLtest n) s = .next t ∧ (t.seq n).wait = .units i.xd 1 0 false ∧
        t = ((s.began n 0x52).ltestStart l n (i.imm % 2 ^ 48) ((s.getX n i.xa).toNat % 2 ^ 48)).waitUnits n i.xd 1 ∧ t.mem = s.mem) ∧
    (s.laneSite l ≠ some n.val ∨ s.laneState l ≠ Ln.UP ∨ s.get (Reg.DL_RX.CHK_PAT l) = 0 →
      ∃ u : State, exec (.stmtLtest n) s = .next u.follow ∧ s.Faults u n Reason.OPERAND))

/-- R181, R183, R187: faults of issue. -/
def Obligations.FetchAndOpcodeFaults : Prop :=
  (∀ (s : State) (n : Fin 64), s.canIssue n = true → s.fetchBad n = some (Reason.REGION, Reason.REGION) → ∀ c ∈ ([.stmtNop n, .stmtEnd n, .stmtJmp n, .stmtBr n, .stmtBrs n, .stmtCall n, .stmtRet n, .stmtLoop n, .stmtHold n, .stmtLdi n, .stmtAdd n, .stmtSub n,
      .stmtAnd n, .stmtOr n, .stmtXor n, .stmtShl n, .stmtShr n, .stmtSar n, .stmtLdp n, .stmtRdw n, .stmtNow n, .stmtWaitb n, .stmtWaitf n, .stmtWaitp n,
      .stmtClo n, .stmtCla n, .stmtClt n, .stmtClc n, .stmtCld n, .stmtPlay n, .stmtMeas n, .stmtTmeas n, .stmtLtest n, .stmtRec n, .stmtBin n, .stmtAcc n,
      .customerOpcode n, .reservedOpcode n] : List Instr),
    ∃ u : State, exec c s = .next u.follow ∧ s.Faults u n Reason.REGION) ∧
  (∀ (s : State) (n : Fin 64) (a : Nat), s.canIssue n = true → s.fetchBad n = some (Reason.UNCORR, a) → ∀ c ∈ ([.stmtNop n, .stmtEnd n, .stmtJmp n, .stmtBr n, .stmtBrs n, .stmtCall n, .stmtRet n, .stmtLoop n, .stmtHold n, .stmtLdi n, .stmtAdd n, .stmtSub n,
      .stmtAnd n, .stmtOr n, .stmtXor n, .stmtShl n, .stmtShr n, .stmtSar n, .stmtLdp n, .stmtRdw n, .stmtNow n, .stmtWaitb n, .stmtWaitf n, .stmtWaitp n,
      .stmtClo n, .stmtCla n, .stmtClt n, .stmtClc n, .stmtCld n, .stmtPlay n, .stmtMeas n, .stmtTmeas n, .stmtLtest n, .stmtRec n, .stmtBin n, .stmtAcc n,
      .customerOpcode n, .reservedOpcode n] : List Instr),
    ∃ u : State, exec c s = .next u.follow ∧ u.siteState n = Site.HELD ∧ u.get (Reg.SQ_STAT.FAULT n) = Reason.UNCORR ∧ u.pc n = s.pc n ∧
      s.Written u n Ev.PM_UNCORR a ∧ u.flag Reg.PM_STAT.UNCORR = true ∧ u.mem = s.mem ∧ u.seqs = s.seqs) ∧
  (∀ (s : State) (n : Fin 64) (i : Stmt), s.canIssue n = true → s.fetchBad n = none → i = Stmt.of (s.stmtWord n) →
    (i.op < 0xC0 ∧ i.op ∉ vendorOps) ∨ s.opValid i.op = false →
    ∃ u : State, exec (.reservedOpcode n) s = .next u.follow ∧ s.Faults u n Reason.BAD_OP) ∧
  (∀ (s : State) (n : Fin 64), s.siteState n ≠ Site.RUNNING ∨ s.flag (Reg.SQ_STAT.STOPPING n) = true ∨ (s.seq n).wait ≠ .none ∨
      (s.seq n).verb.running = true → ∀ c ∈ ([.stmtNop n, .stmtEnd n, .stmtJmp n, .stmtBr n, .stmtBrs n, .stmtCall n, .stmtRet n, .stmtLoop n, .stmtHold n, .stmtLdi n, .stmtAdd n, .stmtSub n,
      .stmtAnd n, .stmtOr n, .stmtXor n, .stmtShl n, .stmtShr n, .stmtSar n, .stmtLdp n, .stmtRdw n, .stmtNow n, .stmtWaitb n, .stmtWaitf n, .stmtWaitp n,
      .stmtClo n, .stmtCla n, .stmtClt n, .stmtClc n, .stmtCld n, .stmtPlay n, .stmtMeas n, .stmtTmeas n, .stmtLtest n, .stmtRec n, .stmtBin n, .stmtAcc n,
      .customerOpcode n, .reservedOpcode n] : List Instr), exec c s = .next s)

/-- R198 to R203, R538: the host's commands to a site. -/
def Obligations.SiteCommands : Prop :=
  (∀ (s : State) (p : Port) (n : Fin 64), s.mode ≠ Mode.RESET → s.armRefusal n = none →
    ∃ u : State, exec (.sqCmdArm p n) s = .next u.refreshLeases ∧ u.siteState n = Site.ARMED ∧ u.mem = s.mem ∧ u.streams = s.streams) ∧
  (∀ (s : State) (n : Fin 64), s.armRefusal n = none → s.siteState n = Site.LOADED ∧ (s.mode = Mode.CONTACT ∨ s.mode = Mode.RUN) ∧
    s.contact = none ∧ s.get Reg.LX_VEND.STATE = 2 ∧ s.get (Reg.SQ_CTRL.BASE n) + 16 * s.get (Reg.SQ_CTRL.ENTRY n) < pmSize) ∧
  (∀ (s : State) (p : Port) (n : Fin 64) (c : Nat), s.mode ≠ Mode.RESET → s.armRefusal n = some c →
    ∃ t : State, exec (.sqCmdArm p n) s = .next t ∧ (∀ m : Fin 64, t.siteState m = s.siteState m) ∧ t.seqs = s.seqs ∧ t.mem = s.mem) ∧
  (∀ (s : State) (p : Port) (n : Fin 64), s.mode ≠ Mode.RESET → s.siteState n = Site.ARMED → s.clauseNames [Slot.PREPARED] n = false →
    s.NoUnits n → s.streamOf n < 80 →
    ∃ u : State, exec (.sqCmdDisarm p n) s = .next u.refreshLeases.follow ∧ u.siteState n = Site.LOADED ∧ u.get (Reg.SQ_STAT.CAUSES n) = 0 ∧ u.mem = s.mem) ∧
  (∀ (s : State) (p : Port) (n : Fin 64), s.mode ≠ Mode.RESET → s.siteState n ≠ Site.ARMED ∨ s.clauseNames [Slot.PREPARED] n = true →
    ∃ t : State, exec (.sqCmdDisarm p n) s = .next t ∧ (∀ m : Fin 64, t.siteState m = s.siteState m) ∧ t.seqs = s.seqs ∧ t.mem = s.mem) ∧
  (∀ (s : State) (p : Port) (n : Fin 64), s.mode ≠ Mode.RESET → s.siteState n = Site.RUNNING ∨ s.siteState n = Site.HELD → s.NoUnits n →
    ∃ u : State, exec (.sqCmdHold p n) s = .next u.follow ∧ u.siteState n = Site.HELD ∧
      u.get (Reg.SQ_STAT.CAUSES n) = s.get (Reg.SQ_STAT.CAUSES n) ||| 1 ∧ u.pc n = s.pc n ∧ u.mem = s.mem) ∧
  (∀ (s : State) (p : Port) (n : Fin 64), s.mode ≠ Mode.RESET → s.siteState n ≠ Site.RUNNING → s.siteState n ≠ Site.HELD →
    ∃ t : State, exec (.sqCmdHold p n) s = .next t ∧ (∀ m : Fin 64, t.siteState m = s.siteState m) ∧ t.seqs = s.seqs ∧ t.mem = s.mem) ∧
  (∀ (s : State) (p : Port) (n : Fin 64) (k : BitVec 10) (c : Nat), s.mode ≠ Mode.RESET → s.siteState n = Site.HELD →
    c = s.get (Reg.SQ_STAT.CAUSES n) &&& (0x3FF ^^^ ((if k = 0 then 0x3FF else k.toNat) &&& resumeMask)) →
    (c ≠ 0 → ∃ u : State, exec (.sqCmdResume p n k) s = .next u.follow ∧ u.siteState n = Site.HELD ∧ u.get (Reg.SQ_STAT.CAUSES n) = c ∧
      s.SameFields [Reg.SQ_STAT.CAUSES n] u ∧ u = { s with regs := u.regs }) ∧
    (c = 0 → s.get (Reg.SQ_STAT.TOKEN n) = 0 → ∃ u : State, exec (.sqCmdResume p n k) s = .next u.follow ∧ u.siteState n = Site.RUNNING ∧
      u.get (Reg.SQ_STAT.CAUSES n) = 0 ∧ u.pc n = s.pc n ∧ u.seq n = { s.seq n with suspended := false } ∧
      (s.streamState (s.streamOf n) = Str.PAUSED → (s.stream (s.streamOf n)).start = none →
        (u.stream (s.streamOf n)).start = some ((s.now + 1) * 65536)) ∧ u.mem = s.mem)) ∧
  (bitOf resumeMask Cause.SYNC = false ∧ bitOf resumeMask Cause.THERMAL = false ∧ bitOf resumeMask Cause.LEASE = false) ∧
  (∀ (s : State) (p : Port) (n : Fin 64) (k : BitVec 10), s.mode ≠ Mode.RESET → s.siteState n ≠ Site.HELD →
    ∃ t : State, exec (.sqCmdResume p n k) s = .next t ∧ (∀ m : Fin 64, t.siteState m = s.siteState m) ∧ t.seqs = s.seqs ∧ t.mem = s.mem) ∧
  (∀ (s : State) (p : Port) (n : Fin 64), s.mode ≠ Mode.RESET → s.siteLive n = true → s.flag (Reg.SQ_STAT.STOPPING n) = false →
    s.streamOf n < 64 → s.streamState (s.streamOf n) = Str.PLAYING → (s.seq n).clause = none → s.NoUnits n →
    ∃ u : State, exec (.sqCmdStop p n) s = .next u.follow ∧ u.flag (Reg.SQ_STAT.STOPPING n) = true ∧ u.flag (Reg.SQ_STAT.TOKEN n) = false ∧
      u.siteState n = s.siteState n ∧ u.pc n = s.pc n ∧ u.streams = s.streams ∧ u.mem = s.mem ∧
      (((s.seq n).verb.running = false ∨ (s.seq n).suspended = true) → (u.seq n).wait = .none ∧ (u.seq n).verb = Verb.init)) ∧
  (∀ (s : State) (p : Port) (n : Fin 64), s.mode ≠ Mode.RESET → s.siteLive n = true →
    ∃ t : State, exec (.sqCmdStop p n) s = .next t ∧ t.mem = s.mem) ∧
  (∀ (s : State) (p : Port) (n : Fin 64), s.mode ≠ Mode.RESET → s.siteLive n = false →
    ∃ t : State, exec (.sqCmdStop p n) s = .next t ∧ (∀ m : Fin 64, t.siteState m = s.siteState m) ∧ t.seqs = s.seqs ∧ t.mem = s.mem) ∧
  (∀ (s : State) (n : Fin 64), s.flag (Reg.SQ_STAT.STOPPING n) = true → s.stopped n = true → s.NoUnits n → s.streamOf n < 80 →
    ∃ u : State, exec (.stopComplete n) s = .next u.refreshLeases.follow ∧ u.siteState n = Site.LOADED ∧ u.flag (Reg.SQ_STAT.STOPPING n) = false ∧
      s.Written u n Ev.STOPPED 0 ∧ (u.seq n).wait = .none ∧ (u.seq n).verb = Verb.init ∧ u.mem = s.mem)

/-- R208 to R221: the verb engine. -/
def Obligations.VerbsExecute : Prop :=
  (∀ (s : State) (n : Fin 64) (i : Stmt), s.Issues n i → 0xC0 ≤ i.op → i.op < 0x100 →
    ∃ t : State, exec (.customerOpcode n) s = .next t ∧ s.Moved t n (s.pc n) [] ∧ (t.seq n).verb.running = true ∧ (t.seq n).verb.stmt = s.stmtWord n ∧
      (t.seq n).verb.bank = s.activeBank ∧ (t.seq n).verb.upc = s.bankEntry s.activeBank i.op % 65536 ∧ (t.seq n).verb.ustack = [] ∧
      (t.seq n).verb.cmd = none ∧ t = { s with regs := t.regs, stackReq := t.stackReq, seqs := t.seqs, freeCtr := t.freeCtr }) ∧
  (∀ (s : State) (n : Fin 64) (w : MicroWord) (v : Verb) (a b r : Word), s.Runs n w → w.ext = 0 → w.lcdec = false → v = (s.seq n).verb →
    a = s.source n w w.srcA → b = s.source n w w.srcB → aluResult w.aluOp a b = some r → (w.dst = 0 ∨ (0x10 ≤ w.dst ∧ w.dst < 0x18)) →
    (w.nxt = 0 ∨ w.nxt = 1 ∨ w.nxt = 2 ∨ (w.nxt = 3 ∧ v.ustack.length < 4) ∨ (w.nxt = 4 ∧ v.ustack ≠ [])) →
    ∃ t : State, exec (.microword n) s = .next t ∧
      (∀ k < 8, sget (fun _ => 0) (t.seq n).verb.v k = if w.dst = 0x10 + k then r else sget (fun _ => 0) v.v k) ∧
      (t.seq n).verb.z = (r == 0) ∧ (t.seq n).verb.neg = r.msb ∧ (t.seq n).verb.carry = aluCarry w.aluOp a b ∧ (t.seq n).verb.lc = v.lc ∧
      (t.seq n).verb.words = v.words + 1 ∧
      (t.seq n).verb.upc = (if w.nxt = 1 ∨ w.nxt = 3 ∨ (w.nxt = 2 ∧ s.microCond n w r (aluCarry w.aluOp a b) v.lc = true) then w.na
        else if w.nxt = 4 then v.ustack.headD 0 else (v.upc + 1) % 65536) ∧
      (t.seq n).verb.ustack = (if w.nxt = 3 then (v.upc + 1) % 65536 :: v.ustack else if w.nxt = 4 then v.ustack.tail else v.ustack) ∧
      (∀ m, m ≠ n.val → t.seq m = s.seq m) ∧ t = { s with seqs := t.seqs, freeCtr := t.freeCtr }) ∧
  (∀ (s : State) (n : Fin 64) (w : MicroWord), s.Runs n w → w.ext = 0 ∨ (s.seq n).verb.done = true →
    w.nxt = 7 ∨ aluResult w.aluOp (s.source n w w.srcA) (s.source n w w.srcB) = none →
    s.siteState n = Site.RUNNING → (s.seq n).clause = none → s.NoUnits n →
    ∃ u : State, exec (.microword n) s = .next u.follow ∧ s.VerbFaults u n Reason.MICRO) ∧
  (∀ (s : State) (n : Fin 64), s.microReady n = true → s.starved n = false → s.mwordBad (s.seq n).verb.bank (s.seq n).verb.upc = true →
    s.siteState n = Site.RUNNING → (s.seq n).clause = none → s.NoUnits n →
    ∃ u : State, exec (.microword n) s = .next u.follow ∧ s.VerbFaults u n Reason.MICRO) ∧
  (∀ (s : State) (n : Fin 64) (w : MicroWord), s.Runs n w → w.ext ≠ 0 → (s.seq n).verb.done = false → exec (.microword n) s = .next s) ∧
  (∀ (s : State) (n : Fin 64) (w : MicroWord) (r : Word), s.Runs n w → w.ext ≠ 0 → (s.seq n).verb.done = true → w.nxt = 0 → w.dst = 0 →
    aluResult w.aluOp (s.source n w w.srcA) (s.source n w w.srcB) = some r →
    ∃ t : State, exec (.microword n) s = .next t ∧ (t.seq n).verb.done = false ∧ (t.seq n).verb.busy = false ∧
      (t.seq n).verb.cmd = some ⟨w.ext, s.source n w w.srcA, s.source n w w.srcB, s.source n w w.srcC⟩ ∧
      (t.seq n).verb.upc = ((s.seq n).verb.upc + 1) % 65536) ∧
  (∀ (s : State) (n : Fin 64) (w : MicroWord) (v : Verb), s.microReady n = true → s.starved n = false → v = (s.seq n).verb →
    s.mwordBad v.bank v.upc = false → w = s.mword v.bank v.upc → w.comma = true → v.waiting = none → s.get (Reg.SQ_STAT.CAUSES n) ≠ 0 →
    s.flag (Reg.SQ_STAT.STOPPING n) = false → (s.seq n).clause = none → v.cmd = none →
    ∃ t : State, exec (.microword n) s = .next t ∧ (t.seq n).suspended = true ∧ (t.seq n).verb.running = true ∧ t.flag (Reg.SQ_STAT.TOKEN n) = true ∧
      t.flag (Reg.SQ_TOKEN.RESUMABLE n) = v.resumable ∧ t.get (Reg.SQ_TOKEN.STMT n) = s.pc n ∧ t.get (Reg.SQ_TOKEN.MWA n) = v.upc % 65536 ∧
      t.get (Reg.SQ_TOKEN.BEAT n) = s.now ∧ s.SameWords [Reg.SQ_TOKEN.word n, Reg.SQ_STAT.word n] t ∧ t = { s with regs := t.regs, seqs := t.seqs }) ∧
  (∀ (s : State) (n : Fin 64), s.microReady n = true → s.starved n = true → s.siteState n = Site.RUNNING → s.localOpen n = false →
    ∃ u : State, exec (.commaStarve n) s = .next u.follow ∧ u.siteState n = Site.HELD ∧
      u.get (Reg.SQ_STAT.CAUSES n) = s.get (Reg.SQ_STAT.CAUSES n) ||| 2 ^ Cause.STARVE ∧ (u.seq n).suspended = true ∧
      u.flag (Reg.SQ_TOKEN.RESUMABLE n) = false ∧ u.get (Reg.SQ_TOKEN.MWA n) = (s.seq n).verb.upc % 65536 ∧
      s.Written u n Ev.COMMA_STARVE (s.seq n).verb.upc ∧ u.mem = s.mem)

/-- R191, R213, R220: the clause commands of a verb. -/
def Obligations.VerbClauseCommands : Prop :=
  (∀ (s : State) (n : Fin 64) (c : ExtCmd), s.issued n 0x01 = some c → (s.seq n).verb.retire = false → (s.seq n).clause = none →
    ∀ k, s.freeSlotIndex = some k →
    ∃ t : State, exec (.extClopen n) s = .next t ∧ s.Completes t n true (0) ∧ (t.seq n).clause = some k ∧ (t.seq n).span = bitOf c.c.toNat 0 ∧ t.slotState k = Slot.OPEN ∧
      t.slotOwner k = some n.val ∧ (t.slot k).acts = []) ∧
  (∀ (s : State) (n : Fin 64) (c : ExtCmd), s.issued n 0x01 = some c → (s.seq n).clause = none → s.freeSlotIndex = none →
    ∃ t : State, exec (.extClopen n) s = .next t ∧ (t.seq n).wait = .clo ∧ (t.seq n).verb.busy = true ∧ t.regs = s.regs) ∧
  (∀ (s : State) (n : Fin 64) (c : ExtCmd) (k : Fin 16), s.issued n 0x02 = some c → (s.seq n).verb.retire = false → (s.seq n).clause = some k.val →
    ∃ t : State, exec (.extClact n) s = .next t ∧ s.Completes t n true 0 ∧ (t.seq n).clause = some k.val ∧
      (∀ x, x = (⟨c.c.toNat % 2 ^ 24, c.a, c.b⟩ : Action) → (s.slot k).refused = none → (s.slot k).acts.length < 4096 → s.poolUsed < 65536 →
        (s.setVerb n { (s.seq n).verb with busy := true }).stageCode (s.slotOwner k) x = none → (t.slot k).acts = (s.slot k).acts ++ [x])) ∧
  (∀ (s : State) (n : Fin 64) (c : ExtCmd) (k : Fin 16), s.issued n 0x03 = some c → (s.seq n).verb.retire = false → (s.seq n).clause = some k.val →
    s.tableBad n (c.b.toNat % 2 ^ 20) (c.a.toNat % 2 ^ 13) = none →
    ∃ t : State, exec (.extCltab n) s = .next t ∧ s.Completes t n true 0 ∧ (t.seq n).clause = some k.val ∧
      t.slot k = ((s.setVerb n { (s.seq n).verb with busy := true }).stageTable n (c.b.toNat % 2 ^ 20) (c.a.toNat % 2 ^ 13)).slot k) ∧
  (∀ (s s1 : State) (n : Fin 64) (c : ExtCmd) (k : Fin 16) (fs : Nat), s.issued n 0x04 = some c → (s.seq n).clause = some k.val →
    fs = c.a.toNat / 2 ^ 16 % 2 ^ 64 →
    s1 = (((s.setVerb n { (s.seq n).verb with busy := true }).set (Reg.CL_SET.FULL_STOP k) fs).set (Reg.CL_SET.TAG k) (c.b.toNat % 2 ^ 16)).set
      (Reg.CL_SET.MULTI k) (b2n (bitOf c.c.toNat 0)) → s1.request k = .ok →
    ∃ t : State, exec (.extClcommit n) s = .next t ∧ t.slotState k = Slot.PREPARING ∧ t.slotFs k = fs ∧ t.slotTag k = c.b.toNat % 2 ^ 16 ∧
      t.slotMulti k = bitOf c.c.toNat 0 ∧ (t.seq n).wait = .clc 0 k fs none ∧ (t.seq n).clause = none ∧ (t.seq n).verb.busy = true) ∧
  (∀ (s : State) (n : Fin 64) (c : ExtCmd), s.issued n 0x05 = some c → (s.seq n).verb.retire = false → ∀ k : Fin 16, (s.seq n).clause = some k.val → s.slotOwner k = some n.val →
    (s.seq n).wait = .none →
    ∃ t : State, exec (.extCldiscard n) s = .next t ∧ s.Completes t n true (0) ∧ (t.seq n).clause = none ∧ t.slotState k = Slot.FREE ∧ (t.slot k).acts = []) ∧
  (∀ (s : State) (n : Fin 64) (p : Nat × Instr) (c : ExtCmd), p ∈ [(0x02, Instr.extClact n), (0x03, .extCltab n), (0x04, .extClcommit n), (0x05, .extCldiscard n)] →
    s.issued n p.1 = some c → (s.seq n).verb.retire = false → (s.seq n).clause = none → s.siteState n = Site.TRIPPED →
    ∃ t : State, exec p.2 s = .next t ∧ s.Completes t n false 0 ∧ t = { s with seqs := t.seqs }) ∧
  (∀ (s : State) (n : Fin 64) (p : Nat × Instr) (c : ExtCmd), p ∈ [(0x02, Instr.extClact n), (0x03, .extCltab n), (0x04, .extClcommit n), (0x05, .extCldiscard n)] →
    s.issued n p.1 = some c → (s.seq n).clause = none → s.siteState n = Site.RUNNING → s.NoUnits n →
    ∃ u : State, exec p.2 s = .next u.follow ∧ s.VerbFaults u n Reason.OPERAND)

/-- R213: the other commands of a verb. -/
def Obligations.VerbCommands : Prop :=
  (∀ (s : State) (n : Fin 64) (c : ExtCmd), s.issued n 0x06 = some c → (s.seq n).verb.retire = false →
    ∃ t : State, exec (.extRdreg n) s = .next t ∧ s.Completes t n true ((s.setVerb n { (s.seq n).verb with busy := true }).readWord (c.a.toNat % 2 ^ 24)) ∧ t = { s with seqs := t.seqs, freeCtr := t.freeCtr }) ∧
  (∀ (s : State) (n : Fin 64) (c : ExtCmd), s.issued n 0x07 = some c → (s.seq n).verb.retire = false → s.progBad n (s.stmtAddr n (c.a.toNat % 2 ^ 20)) 16 = none →
    ∃ t : State, exec (.extRdprog n) s = .next t ∧ s.Completes t n true (BitVec.ofNat 128 (leNat (s.bytes (s.stmtAddr n (c.a.toNat % 2 ^ 20)) 16))) ∧ t = { s with seqs := t.seqs }) ∧
  (∀ (s : State) (n : Fin 64) (c : ExtCmd), s.issued n 0x08 = some c → (s.seq n).verb.retire = false → recKind (c.c.toNat % 16) = true →
    s.siteState n ≠ Site.TRIPPED →
    ∃ t : State, exec (.extRec n) s = .next t ∧ s.Completes t n true (0) ∧ t.get (Reg.SQ_CNT.RECORDS n) = (s.get (Reg.SQ_CNT.RECORDS n) + 1) % 2 ^ 32 ∧
      s.Records t n (c.c.toNat % 16) (if bitOf c.c.toNat 14 = true then Flag.FAIL else 0) (c.c.toNat / 16 % 1024) (c.a.toNat % 2 ^ 48) ∧
      s.SameFields [Reg.SQ_CNT.RECORDS n] t ∧ t = { s with regs := t.regs, seqs := t.seqs, pendRecs := t.pendRecs }) ∧
  (∀ (s : State) (n : Fin 64) (c : ExtCmd), s.issued n 0x09 = some c → (s.seq n).verb.retire = false → s.playBad n (c.a.toNat % 2 ^ 35) (bitOf c.c.toNat 0) (bitOf c.c.toNat 1)
    (c.b.toNat % 2 ^ 80) = false → s.groupOf n = none → (s.stream n).gather = [] → s.siteState n = Site.RUNNING → bitOf c.c.toNat 1 = false →
    ∃ t : State, exec (.extPlay n) s = .next t ∧ s.Completes t n true (0) ∧ t.streamState n = Str.PRIMING ∧ (t.stream n).list = c.a.toNat % 2 ^ 35 ∧
      (t.stream n).start = (if bitOf c.c.toNat 0 = true then some (c.b.toNat % 2 ^ 80) else none) ∧ t.mem = s.mem) ∧
  (∀ (s : State) (n : Fin 64) (c : ExtCmd), s.issued n 0x0A = some c → s.measBad n c.meas = false →
    ∃ t : State, exec (.extMeas n) s = .next t ∧ (t.seq n).wait = .units 0 c.meas.count 0 false ∧
      t = ((s.setVerb n { (s.seq n).verb with busy := true }).startMeas n c.meas).waitUnits n 0 c.meas.count) ∧
  (∀ (s : State) (n : Fin 64) (c : ExtCmd), s.issued n 0x0B = some c → s.tmeasBad n c.meas = false →
    ∃ t : State, exec (.extTmeas n) s = .next t ∧ (t.seq n).wait = .units 0 c.meas.count 0 false ∧
      t = ((s.setVerb n { (s.seq n).verb with busy := true }).startTmeas n c.meas).waitUnits n 0 c.meas.count) ∧
  (∀ (s : State) (n : Fin 64) (c : ExtCmd), s.issued n 0x0C = some c → s.ltestBad n (c.a.toNat % 32) = false →
    ∃ t : State, exec (.extLtest n) s = .next t ∧ (t.seq n).wait = .units 0 1 0 false ∧
      t = ((s.setVerb n { (s.seq n).verb with busy := true }).ltestStart (c.a.toNat % 32) n (c.a.toNat / 2 ^ 64 % 2 ^ 48) (c.b.toNat % 2 ^ 48)).waitUnits n 0 1) ∧
  (∀ (s : State) (n : Fin 64) (c : ExtCmd), s.issued n 0x0D = some c → (s.seq n).verb.retire = false →
    ∃ t : State, exec (.extAcc n) s = .next t ∧ s.Completes t n true (s.accValue n (c.c.toNat / 2 % 4)) ∧
      t.reg (Reg.SQ_ACC.word n) = (if bitOf c.c.toNat 0 = true then resetWord (Reg.SQ_ACC.word n) else s.reg (Reg.SQ_ACC.word n)) ∧
      s.SameWords [Reg.SQ_ACC.word n] t ∧ t = { s with regs := t.regs, seqs := t.seqs }) ∧
  (∀ (s : State) (n : Fin 64) (c : ExtCmd), s.issued n 0x0E = some c → (s.seq n).verb.retire = false → s.siteState n = Site.RUNNING → (s.seq n).wait = .none →
    ∃ u : State, exec (.extHold n) s = .next u.follow ∧ s.Completes u n true 0 ∧ u.siteState n = Site.HELD ∧
      u.get (Reg.SQ_STAT.CAUSES n) = s.get (Reg.SQ_STAT.CAUSES n) ||| 2 ^ Cause.USER ∧
      s.Records u n Kind.EVENT 0 0 (Ev.USER_HOLD * 2 ^ 40 + c.a.toNat % 2 ^ 40) ∧ u.pc n = s.pc n ∧ u.mem = s.mem) ∧
  (∀ (s : State) (n : Fin 64) (c : ExtCmd), s.issued n 0x0F = some c →
    ∃ t : State, exec (.extEnd n) s = .next t ∧ (t.seq n).wait = .finish ∧ (t.seq n).clause = none) ∧
  (∀ (s : State) (n : Fin 64) (c : ExtCmd), s.issued n 0x10 = some c → s.now < c.a.toNat / 2 ^ 16 % 2 ^ 64 →
    ∃ t : State, exec (.extArmb n) s = .next t ∧ (t.seq n).wait = .beat (c.a.toNat / 2 ^ 16 % 2 ^ 64) ∧ t = { s with seqs := t.seqs }) ∧
  (∀ (s : State) (n : Fin 64) (c : ExtCmd), s.issued n 0x10 = some c → (s.seq n).verb.retire = false → c.a.toNat / 2 ^ 16 % 2 ^ 64 ≤ s.now →
    ∃ t : State, exec (.extArmb n) s = .next t ∧ s.Completes t n true (0) ∧ (t.seq n).wait = .none ∧ t = { s with seqs := t.seqs }) ∧
  (∀ (s : State) (n : Fin 64) (c : ExtCmd), s.issued n 0x11 = some c → s.flag (Reg.TB_FOLLOW_CFG.EN n) = true →
    2 ^ 47 ≤ (s.get (Reg.TB_FOLLOW_CNT.COUNT n) + 2 ^ 48 - c.a.toNat % 2 ^ 48) % 2 ^ 48 →
    ∃ t : State, exec (.extArmf n) s = .next t ∧ (t.seq n).wait = .follow 0 (c.a.toNat % 2 ^ 48) (c.b.toNat / 2 ^ 16 % 2 ^ 64) none ∧ t = { s with seqs := t.seqs }) ∧
  (∀ (s : State) (n : Fin 64) (c : ExtCmd), s.issued n 0x12 = some c →
    ∃ t : State, exec (.extArmp n) s = .next t ∧ (t.seq n).wait = .pattern 0 (c.b.toNat / 2 ^ 16 % 2 ^ 64) (bitOf c.c.toNat 0) ∧ t = { s with seqs := t.seqs }) ∧
  (∀ (s : State) (n : Fin 64) (c : ExtCmd), s.issued n 0x13 = some c → (s.seq n).verb.retire = false → (s.seq n).stack.length < 16 →
    ∃ t : State, exec (.extPushpc n) s = .next t ∧ s.Completes t n true (0) ∧ (t.seq n).stack = c.a.toNat % 2 ^ 20 :: (s.seq n).stack ∧
      t.get (Reg.SQ_STAT.SP n) = (s.seq n).stack.length + 1 ∧ s.SameFields [Reg.SQ_STAT.SP n] t ∧ t = { s with regs := t.regs, seqs := t.seqs }) ∧
  (∀ (s : State) (n : Fin 64) (c : ExtCmd), s.issued n 0x14 = some c → (s.seq n).verb.retire = false → ∀ p ps, (s.seq n).stack = p :: ps → ps.length < 16 →
    ∃ t : State, exec (.extPoppc n) s = .next t ∧ s.Completes t n true (BitVec.ofNat 128 p) ∧ (t.seq n).stack = ps ∧
      t.get (Reg.SQ_STAT.SP n) = ps.length ∧ s.SameFields [Reg.SQ_STAT.SP n] t ∧ t = { s with regs := t.regs, seqs := t.seqs }) ∧
  (∀ (s : State) (n : Fin 64) (c : ExtCmd) (r : Nat), s.issued n 0x15 = some c → r = c.c.toNat % 256 → s.siteState n = Site.RUNNING →
    (s.seq n).clause = none → s.NoUnits n →
    (((1 ≤ r ∧ r ≤ 6 ∧ r ≠ Reason.UNCORR) ∨ 0x80 ≤ r) → ∃ u : State, exec (.extFault n) s = .next u.follow ∧ s.VerbFaults u n r) ∧
    ((r = 0 ∨ (6 < r ∧ r < 0x80)) → ∃ u : State, exec (.extFault n) s = .next u.follow ∧ s.VerbFaults u n Reason.OPERAND)) ∧
  (∀ (s : State) (n : Fin 64) (c : ExtCmd), s.issued n 0x06 = some c → (s.seq n).verb.retire = true → (s.seq n).span = true →
    ∃ t : State, exec (.extRdreg n) s = .next t ∧ (t.seq n).verb = Verb.init ∧ t.pc n = (s.seq n).verb.nextPc.getD (s.pc n + 1) % 2 ^ 20)

/-- R225 to R229: the control store and the key slots. -/
def Obligations.ControlStoreLoads : Prop :=
  (∀ (s : State) (p : Port), s.mode ≠ Mode.RESET → s.loadVendorOk = true →
    ∃ t : State, exec (.loadVendor p) s = .next t ∧ t.flag Reg.LX_STAT.BUSY = true ∧ t.flag Reg.LX_STAT.DONE = false ∧ t.get Reg.LX_VEND.STATE = 1 ∧
      t.lxOp = some ⟨1, 0, [], s.get Reg.LX_VEND.STATE⟩ ∧ s.SameFields [Reg.LX_STAT.BUSY, Reg.LX_STAT.DONE, Reg.LX_VEND.STATE] t ∧
      t = { s with regs := t.regs, lxOp := t.lxOp }) ∧
  (∀ (s : State) (p : Port) (b : Nat), s.mode ≠ Mode.RESET → s.loadCustomerOk = true → b = 1 - s.activeBank →
    ∃ t : State, exec (.loadCustomer p) s = .next t ∧ t.flag Reg.LX_STAT.BUSY = true ∧ t.flag Reg.LX_STAT.DONE = false ∧ t.get (Reg.LX_BANK.STATE b) = 1 ∧
      t.lxOp = some ⟨2, 0, [], s.get (Reg.LX_BANK.STATE b)⟩ ∧
      s.SameFields [Reg.LX_STAT.BUSY, Reg.LX_STAT.DONE, Reg.LX_BANK.STATE b] t ∧ t = { s with regs := t.regs, lxOp := t.lxOp }) ∧
  (∀ (s : State) (p : Port), (s.loadVendorOk = false → ∃ t : State, exec (.loadVendor p) s = .next t ∧ t.cs = s.cs ∧ t.lxOp = s.lxOp) ∧
    (s.loadCustomerOk = false → ∃ t : State, exec (.loadCustomer p) s = .next t ∧ t.cs = s.cs ∧ t.lxOp = s.lxOp)) ∧
  (∀ (s : State) (o : LxOp), s.lxOp = some o → o.cmd = 1 →
    ∃ t : State, exec .vendorLoadDone s = .next t ∧ t.flag Reg.LX_STAT.BUSY = false ∧ t.flag Reg.LX_STAT.DONE = true ∧
      t.get Reg.LX_STAT.RESULT = s.csResult false ∧ t.get Reg.LX_STAT.LAST_CMD = 1 ∧ t.lxOp = none ∧ t.lex = s.lex ∧ t.mem = s.mem ∧
      if s.csResult false = Cs.OK then
        t.get Reg.LX_STAT.IMAGE_ID = s.csId ∧
        (∀ b m, m < 0xC000 → t.mword b m = if s.csBase ≤ m ∧ m < s.csBase + s.csWords then s.csWord false (m - s.csBase) else trapWord) ∧
        (∀ b m, 0xC000 ≤ m → m < 0x10000 → t.mword b m = s.mword b m) ∧
        (∀ i < 192, t.lexEntry i = BitVec.ofNat 128 (s.csEntry i)) ∧ t.get Reg.LX_VEND.STATE = 2
      else t.get Reg.LX_VEND.STATE = o.prev % 4 ∧ t.cs = s.cs ∧ (∀ i < 256, t.lexEntry i = s.lexEntry i)) ∧
  (∀ (s : State) (o : LxOp) (b : Nat), s.lxOp = some o → o.cmd = 2 → b = 1 - s.activeBank →
    ∃ t : State, exec .customerLoadDone s = .next t ∧ t.flag Reg.LX_STAT.BUSY = false ∧ t.get Reg.LX_STAT.RESULT = s.csResult true ∧ t.lxOp = none ∧
      t.get (Reg.LX_BANK.STATE b) = (if s.csResult true = Cs.OK then 2 else 3) ∧
      (∀ m, 0xC000 ≤ m → m < 0x10000 → t.mword b m =
        if s.csResult true = Cs.OK ∧ s.csBase ≤ m ∧ m < s.csBase + s.csWords then s.csWord true (m - s.csBase) else trapWord) ∧
      (∀ i < 64, t.bankEntry b (0xC0 + i) = if s.csResult true = Cs.OK then s.csEntry i else 0) ∧
      (∀ m < 0x10000, t.mword (1 - b) m = s.mword (1 - b) m) ∧ (∀ i < 256, t.lexEntry i = s.lexEntry i)) ∧
  (∀ (s : State) (p : Port) (b : Nat), s.mode ≠ Mode.RESET → s.flag Reg.LX_STAT.BUSY = false → b = 1 - s.activeBank →
    (s.get (Reg.LX_BANK.STATE b) = 2 → ∃ t : State, exec (.swap p) s = .next t ∧ t.activeBank = b ∧ t.flag (Reg.LX_BANK.ACTIVE b) = true ∧
      t.flag (Reg.LX_BANK.ACTIVE s.activeBank) = false ∧ (∀ i < 64, t.lexEntry (0xC0 + i) = BitVec.ofNat 128 (s.bankEntry b (0xC0 + i))) ∧
      (∀ i < 192, t.lexEntry i = s.lexEntry i) ∧ t.cs = s.cs ∧ t.seqs = s.seqs) ∧
    (s.get (Reg.LX_BANK.STATE b) ≠ 2 → ∃ t : State, exec (.swap p) s = .next t ∧ t.activeBank = s.activeBank ∧ t.cs = s.cs)) ∧
  (∀ (s : State) (p : Port) (w : Word) (k : Nat), s.mode ≠ Mode.RESET → s.flag Reg.LX_STAT.BUSY = false → k = w.toNat / 2 ^ 8 % 4 →
    s.flag (Reg.LX_KEY.LOST k) = false →
    (s.get (Reg.LX_KEY.STATE k) = 0 → (s.mode = Mode.SAFE ∨ s.mode = Mode.DISCOVER) → ∃ t : State, exec (.keyWrite p w) s = .next t ∧
      t.flag Reg.LX_STAT.BUSY = true ∧ t.lxOp = some ⟨4, k, [s.reg (Reg.LX_KEYH.word 0), s.reg (Reg.LX_KEYH.word 1), s.reg (Reg.LX_KEYH.word 2)], 0⟩ ∧
      t.nvm = s.nvm ∧ s.SameFields [Reg.LX_STAT.BUSY, Reg.LX_STAT.DONE] t) ∧
    (s.get (Reg.LX_KEY.STATE k) = 1 → s.mode ≠ Mode.SHUTDOWN → ∃ t : State, exec (.keyRevoke p w) s = .next t ∧
      t.flag Reg.LX_STAT.BUSY = true ∧ (∃ h, t.lxOp = some ⟨5, k, h, 0⟩) ∧ t.nvm = s.nvm ∧ s.SameFields [Reg.LX_STAT.BUSY, Reg.LX_STAT.DONE] t) ∧
    (s.get (Reg.LX_KEY.STATE k) ≠ 0 → ∃ t : State, exec (.keyWrite p w) s = .next t ∧ t.lxOp = s.lxOp ∧ t.nvm = s.nvm) ∧
    (s.get (Reg.LX_KEY.STATE k) ≠ 1 → ∃ t : State, exec (.keyRevoke p w) s = .next t ∧ t.lxOp = s.lxOp ∧ t.nvm = s.nvm)) ∧
  (∀ (s : State) (o : LxOp), s.lxOp = some o → o.cmd = 4 ∨ o.cmd = 5 → o.slot < 4 → o.hash.length = 3 →
    ∃ t : State, exec (.keyCommandDone ⟨none, none⟩) s = .next t ∧ t.flag Reg.LX_STAT.BUSY = false ∧ t.get Reg.LX_STAT.LAST_CMD = o.cmd ∧
      t.get Reg.LX_STAT.RESULT = Cs.OK ∧ t.lxOp = none ∧
      (∀ a, (a < 0xF000 + 0x40 * o.slot ∨ 0xF040 + 0x40 * o.slot ≤ a) → a < 0x10000 → t.nvmByte 0 a = s.nvmByte 0 a ∧ t.nvmByte 1 a = s.nvmByte 1 a))

/-- R235 to R237: the host's clause commands. -/
def Obligations.ClauseHostCommands : Prop :=
  (∀ (s : State) (p : Port) (k : Fin 16), s.mode ≠ Mode.RESET → s.hostSlot k Slot.FREE = true →
    ∃ t : State, exec (.clCmdOpen p k) s = .next t ∧ t.hostSlot k Slot.OPEN = true ∧ (t.slot k).acts = [] ∧ (t.slot k).refused = none ∧
      s.SameWords [Reg.CL_SLOT_STAT.word k] t ∧ (∀ j, j ≠ k.val → t.slot j = s.slot j) ∧ t = { s with regs := t.regs, slots := t.slots }) ∧
  (∀ (s : State) (p : Port) (k : Fin 16) (w : Word), s.mode ≠ Mode.RESET → s.hostSlot k Slot.OPEN = true →
    (w.getLsbD 0 = false ∨ w.toNat / 2 ^ 32 % 2 ^ 16 ≠ 0) →
    ∃ t : State, exec (.clSetWrite p k w) s = .next t ∧ t.slotFs k = w.toNat / 2 ^ 64 ∧ t.slotTag k = w.toNat / 2 ^ 32 % 2 ^ 16 ∧ t.slotMulti k = w.getLsbD 0 ∧
      s.SameWords [Reg.CL_SET.word k] t ∧ t = { s with regs := t.regs }) ∧
  (∀ (s : State) (p : Port) (k : Fin 16) (w : Word) (x : Action), s.mode ≠ Mode.RESET → s.hostSlot k Slot.OPEN = true →
    x = ⟨(Reg.CL_ADDR.WORD k).of w, s.reg (Reg.CL_VAL.word k), s.reg (Reg.CL_MASK.word k)⟩ → (s.slot k).refused = none →
    (s.slot k).acts.length < 4096 → s.poolUsed < 65536 →
    (s.stageCode none x = none → ∃ t : State, exec (.clAddrWrite p k w) s = .next t ∧ (t.slot k).acts = (s.slot k).acts ++ [x] ∧
      t.get (Reg.CL_SLOT_STAT.ACTIONS k) = (s.slot k).acts.length + 1 ∧ t.hostSlot k Slot.OPEN = true ∧ (∀ j, j ≠ k.val → t.slot j = s.slot j) ∧
      s.SameFields [Reg.CL_SLOT_STAT.ACTIONS k] t) ∧
    (∀ r, s.stageCode none x = some r → ∃ t : State, exec (.clAddrWrite p k w) s = .next t ∧ (t.slot k).acts = (s.slot k).acts ∧
      (t.slot k).refused = some r ∧ t.get (Reg.CL_SLOT_STAT.FIRST_BAD k) = (s.slot k).acts.length ∧ (∀ j, j ≠ k.val → t.slot j = s.slot j))) ∧
  (∀ (s : State) (p : Port) (k : Fin 16), s.mode ≠ Mode.RESET → s.hostSlot k Slot.OPEN = true →
    (s.request k = .ok → ∃ t : State, exec (.clCmdCommit p k) s = .next t ∧ t.slotState k = Slot.PREPARING ∧ s.SameFields [Reg.CL_SLOT_STAT.STATE k] t ∧
      t = { s with regs := t.regs }) ∧
    (∀ r b, s.request k = .done r b → r < 256 → r ≠ Cl.OK → ∃ t : State, exec (.clCmdCommit p k) s = .next t ∧ t.slotState k = Slot.DONE ∧
      t.get (Reg.CL_SLOT_STAT.RESULT k) = r ∧ t.get (Reg.CL_SLOT_STAT.FIRST_BAD k) = b % 2 ^ 13 ∧ (∀ j, j ≠ k.val → t.slot j = s.slot j) ∧ t.mem = s.mem) ∧
    (∀ c, s.request k = .reject c → ∃ t : State, exec (.clCmdCommit p k) s = .next t ∧ t.slotState k = Slot.OPEN ∧ t.slots = s.slots)) ∧
  (∀ (s : State) (p : Port) (k : Fin 16), s.mode ≠ Mode.RESET → s.hostSlot k Slot.OPEN = true →
    ∃ t : State, exec (.clCmdDiscard p k) s = .next t ∧ t.slotState k = Slot.DONE ∧ t.get (Reg.CL_SLOT_STAT.RESULT k) = Cl.DISCARDED ∧
      (∀ j, j ≠ k.val → t.slot j = s.slot j) ∧ t.flag ⟨0x005004, Intr.CLAUSE_DONE, Intr.CLAUSE_DONE⟩ = true ∧ t.mem = s.mem) ∧
  (∀ (s : State) (p : Port) (k : Fin 16), s.mode ≠ Mode.RESET → s.hostSlot k Slot.DONE = true →
    ∃ t : State, exec (.clCmdFree p k) s = .next t ∧ t.reg (Reg.CL_SLOT_STAT.word k) = 0 ∧ (t.slot k).acts = [] ∧ s.SameWords [Reg.CL_SLOT_STAT.word k] t ∧
      (∀ j, j ≠ k.val → t.slot j = s.slot j) ∧ t = { s with regs := t.regs, slots := t.slots, watches := t.watches }) ∧
  (∀ (s : State) (p : Port) (k : Fin 16) (w : Word) (c : Instr × Nat), s.mode ≠ Mode.RESET →
    c ∈ [(Instr.clCmdOpen p k, Slot.FREE), (.clSetWrite p k w, Slot.OPEN), (.clAddrWrite p k w, Slot.OPEN), (.clCmdCommit p k, Slot.OPEN),
      (.clCmdDiscard p k, Slot.OPEN), (.clCmdFree p k, Slot.DONE)] → s.hostSlot k c.2 = false →
    ∃ t : State, exec c.1 s = .next t ∧ t.slots = s.slots ∧ (∀ j : Fin 16, t.reg (Reg.CL_SLOT_STAT.word j) = s.reg (Reg.CL_SLOT_STAT.word j)) ∧
      (∀ j : Fin 16, t.reg (Reg.CL_SET.word j) = s.reg (Reg.CL_SET.word j)) ∧ t.mem = s.mem)

/-- R238, R240: prepare and the full stop. -/
def Obligations.PrepareAndFullStop : Prop :=
  (∀ (s s1 : State) (k : Fin 16), s.slotState k = Slot.PREPARING → s.slotMulti k = false →
    s1 = (s.set (Reg.CL_SLOT_STAT.PREP_BEAT k) (s.now % 2 ^ 32)).setSlot k { s.slot k with prep := s.now } →
    (s1.prepareCode k = none → s.slotOwner k = none → ∃ u : State, exec (.prepareComplete k) s = .next u.follow ∧ u.slotState k = Slot.PREPARED ∧
      (u.slot k).dec = some true ∧ (u.slot k).acts = (s.slot k).acts ∧ (u.slot k).prep = s.now ∧
      u.get (Reg.CL_SLOT_STAT.PREP_BEAT k) = s.now % 2 ^ 32 ∧ u.get (Reg.CL_SLOT_STAT.DEC_BEAT k) = s.now % 2 ^ 32 ∧
      s.SameFields [Reg.CL_SLOT_STAT.STATE k, Reg.CL_SLOT_STAT.PREP_BEAT k, Reg.CL_SLOT_STAT.DEC_BEAT k] u ∧
      u = { s with regs := u.regs, slots := u.slots }) ∧
    (∀ r, s1.prepareCode k = some r → r < 256 → r ≠ Cl.OK → s.slotOwner k = none → ∃ u : State, exec (.prepareComplete k) s = .next u.follow ∧
      u.slotState k = Slot.DONE ∧ u.get (Reg.CL_SLOT_STAT.RESULT k) = r ∧ u.watches = s.watches ∧ u.mem = s.mem)) ∧
  (∀ (s s1 : State) (k : Fin 16), s.slotState k = Slot.PREPARING → s.slotMulti k = true → s.get Reg.TB_CTRL.ROLE ≠ Role.ROOT → (s.slot k).dec = none →
    s1 = (s.set (Reg.CL_SLOT_STAT.PREP_BEAT k) (s.now % 2 ^ 32)).setSlot k { s.slot k with prep := s.now } →
    (s1.prepareCode k = none → ∃ u : State, exec (.prepareComplete k) s = .next u.follow ∧ u.slotState k = Slot.PREPARED ∧ (u.slot k).dec = none ∧
      u = { s with regs := u.regs, slots := u.slots }) ∧
    (∀ r, s1.prepareCode k = some r → r < 256 → r ≠ Cl.OK → s.slotOwner k = none → ∃ u : State, exec (.prepareComplete k) s = .next u.follow ∧
      u.slotState k = Slot.DONE ∧ u.get (Reg.CL_SLOT_STAT.RESULT k) = r ∧ (∃ v, u.watches = s.watches ++ [v] ∧ v.veto = true ∧ v.slot = k.val ∧
        v.tag = s.slotTag k ∧ v.fullStop = s.slotFs k))) ∧
  (∀ (s : State) (k : Fin 16), s.slotState k ≠ Slot.PREPARING → exec (.prepareComplete k) s = .next s) ∧
  (∀ (s : State), (∀ k : Fin 16, s.slotState k = Slot.PREPARED → (s.slot k).dec = some true → s.now < s.slotFs k) →
    ∃ u : State, exec .fullStop s = .next u.settle.follow ∧ u.slots = s.slots ∧ u.regs = s.regs ∧ u.pendActs = s.pendActs) ∧
  (∀ (s : State) (k : Fin 16) (x : Action) (t n : Nat), s.slotState k = Slot.PREPARED → (s.slot k).dec = some true → s.slotFs k ≤ s.now →
    (∀ j : Fin 16, j ≠ k → s.slotState j = Slot.PREPARED → (s.slot j).dec = some true → s.now < s.slotFs j) → s.slotOwner k = none →
    (s.slot k).acts = [x] → clWord x.addr = .tm t n → (∀ m, s.wordSite x.addr = some m → s.inPlay m = false) →
    ∃ u : State, exec .fullStop s = .next u.settle.follow ∧ u.slotState k = Slot.DONE ∧
      u.get (Reg.CL_SLOT_STAT.RESULT k) = (if (s.slot k).split = true then Cl.SPLIT else Cl.OK) ∧
      u.reg x.addr = (s.reg x.addr &&& ~~~(x.mask &&& accMask .cl x.addr)) ||| (x.value &&& (x.mask &&& accMask .cl x.addr)) ∧
      u.pendActs = s.pendActs ∧ u.mem = s.mem) ∧
  (∀ (s : State) (k : Fin 16) (n : Nat), s.slotState k = Slot.PREPARED → (s.slot k).dec = some true → s.slotFs k ≤ s.now →
    (∀ j : Fin 16, j ≠ k → s.slotState j = Slot.PREPARED → (s.slot j).dec = some true → s.now < s.slotFs j) → s.slotOwner k = none →
    (s.slot k).split = false → (∀ x ∈ (s.slot k).acts, s.wordSite x.addr = some n) → s.inPlay n = true →
    ∃ u : State, exec .fullStop s = .next u.settle.follow ∧ u.slotState k = Slot.DONE ∧ u.get (Reg.CL_SLOT_STAT.RESULT k) = Cl.OK ∧
      u.pendActs = s.pendActs ++ (s.slot k).acts.map (fun x => ⟨n, s.streamOf n, s.slotFs k, (s.slot k).prep, false, k, x⟩) ∧
      s.SameWords [Reg.CL_SLOT_STAT.word k, Reg.CL_CNT.word, Reg.HL_INT.word] u ∧ u.mem = s.mem) ∧
  (∀ (s : State) (k : Fin 16), ∃ t : State, exec (.vetoEnd k) s = .next t ∧
    (∀ w, w ∈ t.watches ↔ w ∈ s.watches ∧ ¬(w.veto = true ∧ w.slot = k.val ∧ w.fullStop ≤ s.now)) ∧ t = { s with watches := t.watches })

/-- R244, R246: decisions. -/
def Obligations.DecisionsOfTheGroup : Prop :=
  (∀ (s : State) (f x : BitVec 64) (off : Fin 64) (k : Fin 16), s.Receives f off Fk.COMMIT x → s.get Reg.TB_STAT.LOCK = 2 → s.watches = [] →
    (∀ j : Fin 16, s.slotMulti j = true → s.slotTag j = frTag x → s.slotFs j % 2 ^ 24 = frBeat x % 2 ^ 24 → j = k) →
    s.slotState k = Slot.PREPARED → s.slotMulti k = true → s.slotTag k = frTag x → s.slotFs k % 2 ^ 24 = frBeat x % 2 ^ 24 →
    (s.slot k).dec = none → s.slotOwner k = none →
    ∃ u : State, exec (.commitFrame f off) s = .next u.follow ∧ u.slotState k = Slot.PREPARED ∧ u.slot k = { s.slot k with dec := some true } ∧
      u.get (Reg.CL_SLOT_STAT.DEC_BEAT k) = s.now % 2 ^ 32 ∧ (∀ j, j ≠ k.val → u.slot j = s.slot j)) ∧
  (∀ (s : State) (f x : BitVec 64) (off : Fin 64) (k : Fin 16), s.Receives f off Fk.ABORT x → s.get Reg.TB_STAT.LOCK = 2 → s.watches = [] →
    (∀ j : Fin 16, s.slotMulti j = true → s.slotTag j = frTag x → s.slotFs j % 2 ^ 24 = frBeat x % 2 ^ 24 → j = k) →
    s.slotState k = Slot.PREPARED → s.slotMulti k = true → s.slotTag k = frTag x → s.slotFs k % 2 ^ 24 = frBeat x % 2 ^ 24 →
    (s.slot k).dec = none → s.slotOwner k = none →
    ∃ u : State, exec (.abortFrame f off) s = .next u.follow ∧ u.slotState k = Slot.DONE ∧ u.get (Reg.CL_SLOT_STAT.RESULT k) = Cl.ABORTED ∧
      (∀ j, j ≠ k.val → u.slot j = s.slot j)) ∧
  (∀ (s : State) (f x : BitVec 64) (off : Fin 64) (k : Fin 16) (c : Instr × Bool), c ∈ [(Instr.commitFrame f off, true), (.abortFrame f off, false)] →
    s.Receives f off (if c.2 = true then Fk.COMMIT else Fk.ABORT) x → s.get Reg.TB_STAT.LOCK = 2 → s.watches = [] →
    (∀ j : Fin 16, s.slotMulti j = true → s.slotTag j = frTag x → s.slotFs j % 2 ^ 24 = frBeat x % 2 ^ 24 → j = k) →
    s.slotMulti k = true → s.slotTag k = frTag x → s.slotFs k % 2 ^ 24 = frBeat x % 2 ^ 24 →
    (s.slotState k = Slot.PREPARING → (s.slot k).dec = none → ∃ u : State, exec c.1 s = .next u.follow ∧ u.slot k = { s.slot k with dec := some c.2 } ∧
      u.slotState k = Slot.PREPARING) ∧
    (s.slotState k = Slot.PREPARING ∨ s.slotState k = Slot.PREPARED → (s.slot k).dec = some (!c.2) → (s.slot k).split = false →
      s.flag Reg.CL_CFG.SPLIT_HOLD = false → ∃ u : State, exec c.1 s = .next u.follow ∧ (u.slot k).split = true ∧ u.flag Reg.CL_STAT.SPLIT = true ∧
        u.get Reg.CL_STAT.SPLIT_TAG = frTag x ∧ u.alertPending Alert.CLAUSE = true)) ∧
  (∀ (s : State) (f x : BitVec 64) (off : Fin 64) (c : Instr × Nat), c ∈ [(Instr.commitFrame f off, Fk.COMMIT), (.abortFrame f off, Fk.ABORT)] →
    s.Receives f off c.2 x → s.get Reg.TB_STAT.LOCK ≠ 2 → ∃ t : State, exec c.1 s = .next t ∧ t.slots = s.slots ∧ t.watches = s.watches ∧ t.mem = s.mem ∧
      s.SameWords [Reg.TB_STAT.word, Reg.TB_SYNC_ERR.word, Reg.LOG_STAT.word] t) ∧
  (∀ (s : State) (k : Fin 16), s.slotState k = Slot.PREPARED → s.slotMulti k = true → (s.slot k).dec = none → s.slotFs k ≤ s.now + 64 →
    s.slotOwner k = none → s.flag Reg.CL_CFG.SPLIT_HOLD = false →
    ∃ u : State, exec (.decisionDeadline k) s = .next u.follow ∧ u.slotState k = Slot.DONE ∧ u.get (Reg.CL_SLOT_STAT.RESULT k) = Cl.SPLIT ∧
      u.flag Reg.CL_STAT.SPLIT = true ∧ u.alertPending Alert.CLAUSE = true ∧ (∀ j, j ≠ k.val → u.slot j = s.slot j)) ∧
  (∀ (s : State) (k : Fin 16), s.slotState k ≠ Slot.PREPARED ∨ s.slotMulti k = false ∨ (s.slot k).dec ≠ none ∨ s.now + 64 < s.slotFs k →
    exec (.decisionDeadline k) s = .next s.follow)

/-- R256 to R271: the time measurement system. -/
def Obligations.TimeMeasurements : Prop :=
  (∀ (s : State) (p : Port) (t : Fin 1056) (w : Word) (n : Nat), s.mode ≠ Mode.RESET → n = w.toNat / 2 ^ 4 % 2 ^ 16 →
    (s.tmCmdOk t n = true → (∀ c, s.chanOfEngine t = some c → s.isMember c = false) →
      ∃ u m, exec (.tmCmdArm p t w) s = .next u ∧ u.get (Reg.TM_STAT.STATE t) = 1 ∧ u.get (Reg.TM_STAT.SHOTS t) = 0 ∧ u.get (Reg.TM_STAT.TARGET t) = n ∧
        u.flag (Reg.TM_STAT.HOST t) = true ∧ u.tdc t = some m ∧ m.owner = none ∧ m.total = n ∧ m.due = s.now ∧
        s.SameFields [Reg.TM_STAT.STATE t, Reg.TM_STAT.SHOTS t, Reg.TM_STAT.TARGET t, Reg.TM_STAT.HOST t] u ∧ u = { s with regs := u.regs, tdcs := u.tdcs }) ∧
    (s.tmCmdOk t n = false → ∃ u : State, exec (.tmCmdArm p t w) s = .next u ∧ u.tdcs = s.tdcs ∧ u.reg (Reg.TM_STAT.word t) = s.reg (Reg.TM_STAT.word t))) ∧
  (∀ (s : State) (p : Port) (t : Fin 1056) (m : Tdc), s.mode ≠ Mode.RESET → s.tdc t = some m → m.owner = none →
    ∃ u : State, exec (.tmCmdCancel p t) s = .next u ∧ u.tdc t = none ∧ u.get (Reg.TM_STAT.STATE t) = 0 ∧ u.reg (Reg.TM_RES.word t) = s.reg (Reg.TM_RES.word t) ∧
      s.SameFields [Reg.TM_STAT.STATE t] u ∧ u = { s with regs := u.regs, tdcs := u.tdcs }) ∧
  (∀ (s : State) (t : Fin 1056) (k : TdcCal) (m : Tdc), s.tdc t = some m → s.get (Reg.TM_STAT.STATE t) = 1 → m.due + 2 ≤ s.now →
    ((30720 ≤ k.sum1 ∧ k.sum1 ≤ 34816 ∧ 31744 ≤ k.sum2 - k.sum1 ∧ k.sum2 - k.sum1 ≤ 33792) →
      ∃ u m', exec (.tmSelfcal t k) s = .next u ∧ u.get (Reg.TM_STAT.STATE t) = 3 ∧ u.get (Reg.TM_SELF.M1 t) = (roundAway k.sum1 16).toNat ∧
        u.get (Reg.TM_SELF.GAIN t) = (roundAway (2 ^ 45) (k.sum2 - k.sum1).toNat).toNat ∧ u.tdc t = some m' ∧ m'.from_ = (s.now + 1) * 65536 ∧
        m'.cfg = s.reg (Reg.TM_CFG.word t) ∧ m'.src = s.reg (Reg.TM_SRC.word t) ∧ m'.shots = m.shots ∧
        s.SameFields [Reg.TM_STAT.STATE t, ⟨Reg.TM_SELF.word t, 127, 0⟩] u) ∧
    ((k.sum1 < 30720 ∨ 34816 < k.sum1 ∨ k.sum2 - k.sum1 < 31744 ∨ 33792 < k.sum2 - k.sum1) → m.owner = none →
      ∃ u : State, exec (.tmSelfcal t k) s = .next u ∧ u.flag (Reg.TM_STAT.CAL_BAD t) = true ∧ u.get (Reg.TM_STAT.STATE t) = 0 ∧ u.tdc t = none ∧
        u.reg (Reg.TM_SELF.word t) = s.reg (Reg.TM_SELF.word t))) ∧
  (∀ (s : State) (t : Fin 1056) (i : Fin 2) (k : BitVec 16) (m : Tdc) (g : Nat), s.tdc t = some m → s.get (Reg.TM_STAT.STATE t) = 3 →
    g = s.now * 65536 + k.toNat → m.from_ ≤ g → m.cfg.toNat % 4 = 0 → s.srcSilent t (srcOf m.src i) = false → s.srcShut t (srcOf m.src i) g = false →
    (s.tdcPaused t m.src = true → ∃ u : State, exec (.tdcCapture t i k) s = .next u ∧ u.tdc t = some { m with stale := true } ∧ u = { s with tdcs := u.tdcs }) ∧
    (s.tdcPaused t m.src = false → i = 0 → m.skip0 ≠ 0 → ∃ u : State, exec (.tdcCapture t i k) s = .next u ∧
      u.tdc t = some { m with skip0 := m.skip0 - 1 } ∧ u = { s with tdcs := u.tdcs }) ∧
    (s.tdcPaused t m.src = false → i = 0 → m.skip0 = 0 → m.cap0 = none → m.cap1 = none → ∃ u m', exec (.tdcCapture t i k) s = .next u ∧
      u.tdc t = some m' ∧ m'.cap0 = some g ∧ m'.cap1 = none ∧ m'.shots = m.shots ∧ u = { s with tdcs := u.tdcs }) ∧
    (∀ a v, s.tdcPaused t m.src = false → i = 1 → m.skip1 = 0 → m.cap0 = some a → m.cap1 = none → m.terms = some (0, 0) → m.owner = none →
      m.total = m.shots + 1 → v = s.shotValue t a g (0, 0) →
      ∃ u : State, exec (.tdcCapture t i k) s = .next u ∧ u.tdc t = none ∧ u.get (Reg.TM_STAT.STATE t) = 0 ∧ u.flag (Reg.TM_RES.VALID t) = true ∧
        u.get (Reg.TM_RES.VALUE t) = fieldOf 48 (roundAway (m.sum + v) (256 * (m.shots + 1))) ∧
        u.get (Reg.TM_CNT.MEAS t) = (s.get (Reg.TM_CNT.MEAS t) + 1) % 2 ^ 32 ∧ u.get (Reg.TM_CNT.SHOTS t) = (s.get (Reg.TM_CNT.SHOTS t) + 1) % 2 ^ 32)) ∧
  (∀ (s : State) (t : Fin 1056) (m : Tdc) (b : Nat), s.tdc t = some m → s.get (Reg.TM_STAT.STATE t) = 3 → m.timeout = some b → b ≤ s.now →
    ¬(m.stale = true ∧ m.shots = 0) → m.owner = none →
    ∃ u : State, exec (.tmTimeout t) s = .next u ∧ u.tdc t = none ∧ u.get (Reg.TM_STAT.STATE t) = 0 ∧ u.flag (Reg.TM_STAT.NOEVENT t) = true ∧
      u.get (Reg.TM_CNT.MISSED t) = (s.get (Reg.TM_CNT.MISSED t) + (m.total - m.shots)) % 2 ^ 32) ∧
  (∀ (s : State) (t : Fin 1056) (m : Tdc) (a : Nat), s.tdc t = some m → s.get (Reg.TM_STAT.STATE t) = 3 → m.cfg.toNat % 4 = 2 →
    m.gate + m.cfg.toNat / 2 ^ 48 % 2 ^ 24 ≤ s.now → m.first = some a → 0 < m.count → m.shots + 1 + m.missing < m.total →
    ∃ u m', exec (.gateEnd t) s = .next u ∧ u.tdc t = some m' ∧ m'.shots = m.shots + 1 ∧ m'.sumK = m.sumK + m.count ∧ m'.gate = s.now ∧
      m'.first = none ∧ m'.count = 0 ∧ u.get (Reg.TM_CNT.SHOTS t) = (s.get (Reg.TM_CNT.SHOTS t) + 1) % 2 ^ 32)

/-- R279, R281, R282, R289, R290: levels and the PMU's connection. -/
def Obligations.LevelPassages : Prop :=
  (∀ (s : State) (c : Fin 1024) (k : Fin 8) (b : Nat), (s.dac c k).step = some b →
    (b ≤ s.now → ∃ t : State, exec (.deglitchStep c k) s = .next t ∧ t.dac c k = { s.dac c k with step := none, analog :=
      (if s.get (Reg.CH_LVL.OUT_SPAN c k) = 1 then (s.get (Reg.CH_LVL.OUT c k) : Int) - 16384 else 4 * s.get (Reg.CH_LVL.OUT c k) - 49152) } ∧
      t = { s with dacs := t.dacs }) ∧
    (s.now < b → exec (.deglitchStep c k) s = .next s)) ∧
  (∀ (s : State) (c : Fin 1024) (k : Fin 8) (b : Nat), (s.dac c k).t0 = some b → (s.dac c k).switched = false → (s.dac c k).span < 2 →
    (b + 2 ≤ s.now → ∃ t : State, exec (.passageSpanSwitch c k) s = .next t ∧ t.get (Reg.CH_LVL.OUT_SPAN c k) = (s.dac c k).span ∧
      t.get (Reg.CH_LVL.OUT c k) = (if (s.dac c k).span = 1 then 0x4000 else 0x3000) ∧ (t.dac c k).analog = 0 ∧ (t.dac c k).switched = true ∧
      s.SameFields [Reg.CH_LVL.OUT_SPAN c k, Reg.CH_LVL.OUT c k] t ∧ t = { s with regs := t.regs, dacs := t.dacs }) ∧
    (s.now < b + 2 → exec (.passageSpanSwitch c k) s = .next s)) ∧
  (∀ (s : State) (c : Fin 1024) (k : Fin 8) (b : Nat), (s.dac c k).t0 = some b → (s.dac c k).switched = true → (s.dac c k).loaded = false →
    (s.dac c k).span < 2 → (b + 102 ≤ s.now → ∃ t : State, exec (.passageCodeLoad c k) s = .next t ∧ t.get (Reg.CH_LVL.OUT_SPAN c k) = (s.dac c k).span ∧
      (t.get (Reg.CH_LVL.OUT c k) : Int) = max 0 (min 65535 ((s.dac c k).code + s.getS (Reg.CH_LVL.TRIM c k))) ∧ (t.dac c k).loaded = true ∧
      s.SameFields [Reg.CH_LVL.OUT_SPAN c k, Reg.CH_LVL.OUT c k] t ∧ t = { s with regs := t.regs, dacs := t.dacs }) ∧
    (s.now < b + 102 → exec (.passageCodeLoad c k) s = .next s)) ∧
  (∀ (s : State) (c : Fin 1024) (k : Fin 8) (b : Nat), (s.dac c k).t0 = some b → (s.dac c k).loaded = true →
    (b + 104 ≤ s.now → bitOf (s.get (Reg.CH_LVLSTAT.DEFER c)) k = false → ∃ t : State, exec (.passageEnd c k) s = .next t ∧ (t.dac c k).t0 = none ∧
      t.get (Reg.CH_LVLSTAT.PASSAGE c) = s.get (Reg.CH_LVLSTAT.PASSAGE c) &&& (0xFF - 2 ^ k.val) ∧
      s.SameFields [Reg.CH_LVLSTAT.PASSAGE c, ⟨Reg.CH_STAT.word c, 127, 0⟩] t ∧ t = { s with regs := t.regs, dacs := t.dacs }) ∧
    (b + 104 ≤ s.now → bitOf (s.get (Reg.CH_LVLSTAT.DEFER c)) k = true → k ≠ 7 → s.get (Reg.CH_LVL.SPAN c k) = s.get (Reg.CH_LVL.OUT_SPAN c k) →
      ∃ t : State, exec (.passageEnd c k) s = .next t ∧ (t.dac c k).t0 = none ∧ bitOf (t.get (Reg.CH_LVLSTAT.DEFER c)) k = false ∧
        (t.get (Reg.CH_LVL.OUT c k) : Int) = max 0 (min 65535 (s.get (Reg.CH_LVL.CODE c k) + s.getS (Reg.CH_LVL.TRIM c k)))) ∧
    (s.now < b + 104 → exec (.passageEnd c k) s = .next s)) ∧
  (∀ (s : State) (c : Fin 1024) (b : Nat), (s.pmu c).connectAt = some b →
    (b ≤ s.now → s.flag (Reg.CH_CTRL.OUT_ARM c) = true → s.flag (Reg.CH_STAT.TRIPPED c) = false → (s.pmu c).mode ≠ 0 → (s.pmu c).t0 = none →
      s.refRunning c = false → ∃ t : State, exec (.pmuConnect c) s = .next t ∧ t.flag (Reg.CH_PMUSTAT.CONN c) = true ∧ (t.pmu c).connectAt = none ∧
        s.SameFields [Reg.CH_PMUSTAT.CONN c] t ∧ t = { s with regs := t.regs, pmus := t.pmus }) ∧
    (s.now < b → exec (.pmuConnect c) s = .next s)) ∧
  (∀ (s : State) (c : Fin 1024) (b : Nat), (s.pmu c).t0 = some b →
    (b + 104 ≤ s.now → (s.pmu c).deferred = false → bitOf (s.get (Reg.CH_LVLSTAT.DEFER c)) 7 = false →
      ∃ t : State, exec (.pmuPassageEnd c) s = .next t ∧ t.flag (Reg.CH_PMUSTAT.PASSAGE c) = false ∧ (t.pmu c).t0 = none ∧
        (t.pmu c).mode = (s.pmu c).mode ∧ s.SameFields [Reg.CH_PMUSTAT.PASSAGE c, Reg.CH_PMUSTAT.CONN c, Reg.CH_PMUSTAT.COMPLY c] t ∧
        t = { s with regs := t.regs, pmus := t.pmus }) ∧
    (s.now < b + 104 → exec (.pmuPassageEnd c) s = .next s))

/-- R288, R294 to R298, R323, R328, R329: parametric measurements. -/
def Obligations.ParametricMeasurements : Prop :=
  (∀ (s : State) (p : Port) (c : Fin 1024) (w : Word) (n : Nat), s.mode ≠ Mode.RESET → n = w.toNat / 2 ^ 48 % 2 ^ 16 →
    (s.pmuCmdOk c = true → n ≠ 0 → s.isMember c = false → ∃ t m, exec (.chPmucmdMeasure p c w) s = .next t ∧ t.flag (Reg.CH_PMUSTAT.BUSY c) = true ∧
      t.flag (Reg.CH_PMUSTAT.HOSTRES c) = false ∧ t.pmuMeasOf c = some m ∧ m.owner = none ∧ m.sampling = false ∧ m.total = n ∧ m.left = n ∧ m.sum = 0 ∧
      m.due = s.now + w.toNat / 2 ^ 16 % 2 ^ 32 ∧ s.SameFields [Reg.CH_PMUSTAT.BUSY c, Reg.CH_PMUSTAT.HOSTRES c] t ∧
      t = { s with regs := t.regs, pmuMeas := t.pmuMeas }) ∧
    (s.pmuCmdOk c = false ∨ n = 0 → ∃ t : State, exec (.chPmucmdMeasure p c w) s = .next t ∧ t.pmuMeas = s.pmuMeas ∧
      t.reg (Reg.CH_PMUSTAT.word c) = s.reg (Reg.CH_PMUSTAT.word c))) ∧
  (∀ (s : State) (p : Port) (c : Fin 1024) (m : Meas), s.mode ≠ Mode.RESET → s.pmuMeasOf c = some m → m.owner = none →
    ∃ t : State, exec (.chPmucmdCancel p c) s = .next t ∧ t.pmuMeasOf c = none ∧ t.flag (Reg.CH_PMUSTAT.BUSY c) = false ∧
      s.SameFields [Reg.CH_PMUSTAT.BUSY c] t ∧ t = { s with regs := t.regs, pmuMeas := t.pmuMeas }) ∧
  (∀ (s : State) (c : Fin 1024) (m : Meas), s.pmuMeasOf c = some m → m.sampling = false → m.due ≤ s.now → (s.pmu c).t0 = none →
    ∃ t : State, exec (.pmuSettleEnd false c) s = .next t ∧ t.pmuMeasOf c = some (if s.flag (Reg.CH_PMUSTAT.STALE c) = true then { m with stale := true }
        else { m with sampling := true, due := s.now + 400, comply := m.comply || s.flag (Reg.CH_PMUSTAT.COMPLY c) }) ∧ t = { s with pmuMeas := t.pmuMeas }) ∧
  (∀ (s : State) (d : Fin 1024) (m : Meas), d.val < 64 → s.dpsMeasOf d = some m → m.sampling = false → m.due ≤ s.now →
    ∃ t : State, exec (.pmuSettleEnd true d) s = .next t ∧ t.dpsMeasOf d = some (if s.flag (Reg.DPS_STAT.STALE d) = true then { m with stale := true }
        else { m with sampling := true, due := s.now + 400, comply := m.comply || s.flag (Reg.DPS_STAT.COMPLY d) }) ∧ t = { s with dpsMeas := t.dpsMeas }) ∧
  (∀ (s : State) (c : Fin 1024) (m : Meas) (v : Int), s.pmuMeasOf c = some m → m.sampling = true → m.due ≤ s.now → s.flag (Reg.CH_PMUSTAT.STALE c) = false →
    (1 < m.left → ∃ t : State, exec (.pmuSampleEnd false c v) s = .next t ∧ t.pmuMeasOf c = some { m with sum := m.sum + v, left := m.left - 1, due := s.now + 400 } ∧
      t.get (Reg.CH_PMUCNT.SAMPLES c) = (s.get (Reg.CH_PMUCNT.SAMPLES c) + 1) % 2 ^ 32 ∧ s.SameFields [Reg.CH_PMUCNT.SAMPLES c] t) ∧
    (m.left = 1 → m.owner = none → ∃ t : State, exec (.pmuSampleEnd false c v) s = .next t ∧ t.pmuMeasOf c = none ∧
      t.get (Reg.CH_PMURES.VALUE c) = fieldOf 48 (roundAway (m.sum + v) m.total) ∧ t.flag (Reg.CH_PMURES.VALID c) = true ∧
      t.get (Reg.CH_PMURES.N c) = m.total % 2 ^ 16 ∧ t.flag (Reg.CH_PMUSTAT.HOSTRES c) = true ∧ t.flag (Reg.CH_PMUSTAT.BUSY c) = false ∧
      s.SameWords [Reg.CH_PMURES.word c, Reg.CH_PMUSTAT.word c, Reg.CH_PMUCNT.word c] t ∧ t = { s with regs := t.regs, pmuMeas := t.pmuMeas })) ∧
  (∀ (s : State) (d : Fin 1024) (m : Meas) (v : Int), d.val < 64 → s.dpsMeasOf d = some m → m.sampling = true → m.due ≤ s.now →
    s.flag (Reg.DPS_STAT.STALE d) = false → m.left = 1 → m.owner = none →
    ∃ t : State, exec (.pmuSampleEnd true d v) s = .next t ∧ t.dpsMeasOf d = none ∧ t.get (Reg.DPS_RES.VALUE d) = fieldOf 48 (roundAway (m.sum + v) m.total) ∧
      t.flag (Reg.DPS_RES.VALID d) = true ∧ s.SameWords [Reg.DPS_RES.word d, Reg.DPS_STAT.word d, Reg.DPS_CNT.word d] t) ∧
  (∀ (s : State) (c : Fin 1024) (k : BitVec 2),
    (s.flag (Reg.CH_PMUSTAT.CONN c) = false → exec (.pmuCompliance c k) s = .next s) ∧
    (s.flag (Reg.CH_PMUSTAT.CONN c) = true → k ≠ 0 → s.flag (Reg.CH_PMUSTAT.COMPLY c) = false → ∃ t : State, exec (.pmuCompliance c k) s = .next t ∧
      t.flag (Reg.CH_PMUSTAT.COMPLY c) = true ∧ t.flag (Reg.CH_PMUSTAT.CLIMIT c) = true ∧
      t.get (Reg.CH_PMUCNT.CLIMIT c) = (s.get (Reg.CH_PMUCNT.CLIMIT c) + 1) % 2 ^ 32 ∧
      s.SameFields [Reg.CH_PMUSTAT.COMPLY c, Reg.CH_PMUSTAT.CLIMIT c, Reg.CH_PMUCNT.CLIMIT c] t) ∧
    (s.flag (Reg.CH_PMUSTAT.CONN c) = true → k = 0 → ∃ t : State, exec (.pmuCompliance c k) s = .next t ∧ t.flag (Reg.CH_PMUSTAT.COMPLY c) = false ∧
      s.SameFields [Reg.CH_PMUSTAT.COMPLY c] t ∧ t = { s with regs := t.regs })) ∧
  (∀ (s : State) (d : Fin 64) (k : BitVec 2),
    (s.flag (Reg.DPS_STAT.CONN d) = false → exec (.dpsCompliance d k) s = .next s) ∧
    (s.flag (Reg.DPS_STAT.CONN d) = true → k ≠ 0 → s.flag (Reg.DPS_STAT.COMPLY d) = false → ∃ t : State, exec (.dpsCompliance d k) s = .next t ∧
      t.flag (Reg.DPS_STAT.COMPLY d) = true ∧ t.flag (Reg.DPS_STAT.CLIMIT d) = true ∧
      t.get (Reg.DPS_CNT.CLIMIT d) = (s.get (Reg.DPS_CNT.CLIMIT d) + 1) % 2 ^ 32 ∧
      s.SameFields [Reg.DPS_STAT.COMPLY d, Reg.DPS_STAT.CLIMIT d, Reg.DPS_CNT.CLIMIT d] t) ∧
    (s.flag (Reg.DPS_STAT.CONN d) = true → k = 0 → ∃ t : State, exec (.dpsCompliance d k) s = .next t ∧ t.flag (Reg.DPS_STAT.COMPLY d) = false ∧
      s.SameFields [Reg.DPS_STAT.COMPLY d] t ∧ t = { s with regs := t.regs })) ∧
  (∀ (s : State) (p : Port) (d : Fin 64) (w : Word) (n : Nat), s.mode ≠ Mode.RESET → n = w.toNat / 2 ^ 48 % 2 ^ 16 →
    (s.dpsCmdOk d = true → n ≠ 0 → ∃ t m, exec (.dpsCmdMeasure p d w) s = .next t ∧ t.flag (Reg.DPS_STAT.BUSY d) = true ∧ t.dpsMeasOf d = some m ∧
      m.owner = none ∧ m.sampling = false ∧ m.total = n ∧ m.left = n ∧ m.due = s.now + w.toNat / 2 ^ 16 % 2 ^ 32 ∧
      s.SameFields [Reg.DPS_STAT.BUSY d] t ∧ t = { s with regs := t.regs, dpsMeas := t.dpsMeas }) ∧
    (s.dpsCmdOk d = false ∨ n = 0 → ∃ t : State, exec (.dpsCmdMeasure p d w) s = .next t ∧ t.dpsMeas = s.dpsMeas)) ∧
  (∀ (s : State) (p : Port) (d : Fin 64) (m : Meas), s.mode ≠ Mode.RESET → s.dpsMeasOf d = some m → m.owner = none →
    ∃ t : State, exec (.dpsCmdCancel p d) s = .next t ∧ t.dpsMeasOf d = none ∧ t.flag (Reg.DPS_STAT.BUSY d) = (s.dps d).check.isSome ∧
      s.SameFields [Reg.DPS_STAT.BUSY d] t ∧ t = { s with regs := t.regs, dpsMeas := t.dpsMeas })

/-- R304 to R312: waveform sources. -/
def Obligations.WaveformSources : Prop :=
  (∀ (s : State) (i : Fin 32), (s.wf i).ctrl.toNat % 4 = 0 → exec (.wfSample i) s = .next s) ∧
  (∀ (s : State) (i : Fin 32) (f : Wf) (p : Nat) (w : Int), f = s.wf i → f.t0 = none →
    ((f.ctrl.toNat % 4 = 1 ∧ p = f.phase ∧ w = 0) ∨ (f.ctrl.toNat % 4 = 2 ∧ p = (if f.load = true then f.freq.toNat / 2 ^ 64 % 2 ^ 48 else f.phase) ∧
      w = sineValue p)) →
    ∃ t : State, exec (.wfSample i) s = .next t ∧ (t.wf i).out = (s.wfCode i f.amp w).1 ∧
      (t.wf i).phase = (p + (if f.ctrl.toNat % 4 = 2 then f.freq.toNat % 2 ^ 48 else 0)) % 2 ^ 48 ∧
      t.get (Reg.WF_CNT.SAMPLES i) = (s.get (Reg.WF_CNT.SAMPLES i) + (if s.flag (Reg.WF_STAT.CONN i) = true then 1 else 0)) % 2 ^ 64 ∧
      ((s.wfCode i f.amp w).2 = true → t.flag (Reg.WF_STAT.CLIP i) = true) ∧
      s.SameFields [Reg.WF_CNT.SAMPLES i, Reg.WF_CNT.CLIPS i, Reg.WF_STAT.CLIP i] t ∧ t = { s with regs := t.regs, wfs := t.wfs }) ∧
  (∀ (s : State) (i : Fin 32) (b : Nat), (s.wf i).connectAt = some b →
    (b ≤ s.now → ∃ t : State, exec (.wfConnect i) s = .next t ∧ t.flag (Reg.WF_STAT.CONN i) = true ∧ (t.wf i).connectAt = none ∧
      s.SameFields [Reg.WF_STAT.CONN i] t ∧ t = { s with regs := t.regs, wfs := t.wfs }) ∧
    (s.now < b → exec (.wfConnect i) s = .next s)) ∧
  (∀ (s : State) (i : Fin 32) (b : Nat), (s.wf i).t0 = some b →
    (b + 104 ≤ s.now → s.flag (Reg.WF_STAT.DEFER i) = false → ∃ t : State, exec (.wfPassageEnd i) s = .next t ∧ (t.wf i).t0 = none ∧
      t.flag (Reg.WF_STAT.PASSAGE i) = false ∧ t = { s with regs := t.regs, wfs := t.wfs }) ∧
    (s.now < b + 104 → exec (.wfPassageEnd i) s = .next s)) ∧
  (∀ (s : State) (p : Port) (i : Fin 32), s.mode ≠ Mode.RESET →
    (s.mode ≠ Mode.SAFE → s.mode ≠ Mode.SHUTDOWN → s.flag Reg.PM_STAT.READY = true → s.get (Reg.WF_STAT.TABLE i) ≠ 1 → s.get (Reg.WF_CTRL.MODE i) ≠ 3 →
      s.clauseActs (Reg.WF_CTRL.word i) = false → ∃ t : State, exec (.wfTcmdLoad p i) s = .next t ∧ t.get (Reg.WF_STAT.TABLE i) = 1 ∧
        t.wfLoads = sinsert s.wfLoads i ((Reg.WF_TSRC.ADDR i).of (s.reg (Reg.WF_TSRC.word i)), s.get (Reg.WF_TSRC.CRC i)) ∧ t.wfTables = s.wfTables ∧
        s.SameFields [Reg.WF_STAT.TABLE i, Reg.SO_STAT.STACK0, Reg.SO_STAT.STACK1] t) ∧
    (s.mode = Mode.SAFE ∨ s.mode = Mode.SHUTDOWN ∨ s.flag Reg.PM_STAT.READY = false ∨ s.get (Reg.WF_STAT.TABLE i) = 1 ∨ s.get (Reg.WF_CTRL.MODE i) = 3 ∨
      s.clauseActs (Reg.WF_CTRL.word i) = true → ∃ t : State, exec (.wfTcmdLoad p i) s = .next t ∧ t.wfLoads = s.wfLoads ∧ t.wfTables = s.wfTables ∧
        t.reg (Reg.WF_STAT.word i) = s.reg (Reg.WF_STAT.word i))) ∧
  (∀ (s : State) (i : Fin 32) (a k : Nat), (i.val, a, k) ∈ s.wfLoads → (∀ q ∈ s.wfLoads, q.1 = i.val → q.2 = (a, k)) → s.anyUncorr a 131072 = false →
    ∃ t : State, exec (.wfTableLoadDone i) s = .next t ∧ t.flag (Reg.WF_STAT.TLOAD_DONE i) = true ∧ t.mem = s.mem ∧ (∀ q ∈ t.wfLoads, q.1 ≠ i.val) ∧
      t.get (Reg.WF_STAT.TABLE i) = (if crc32c (s.bytes a 131072) = k then 2 else 3) ∧
      (∀ j, j ≠ i.val → sget (fun _ => ([] : List Host.Cell)) t.wfTables j = sget (fun _ => ([] : List Host.Cell)) s.wfTables j) ∧
      (crc32c (s.bytes a 131072) = k → ∀ j < 131072,
        sget memDefault (sget (fun _ => ([] : List Host.Cell)) t.wfTables i) j = s.byte (a + j)))

/-- R320, R321, R325, R326: supplies. -/
def Obligations.SupplyRamps : Prop :=
  (∀ (s : State) (d : Fin 64) (b : Nat), (s.dps d).delay = some b → b ≤ s.now →
    ∃ t : State, exec (.dpsDelayEnd d) s = .next t ∧ (t.dps d).delay = none ∧ (t.dps d).next = s.now + 100 ∧ (t.dps d).target = (s.dps d).target ∧
      t.get (Reg.DPS_CNT.RAMPS d) = (s.get (Reg.DPS_CNT.RAMPS d) + (if (s.dps d).target ≠ (s.dps d).goal then 1 else 0)) % 2 ^ 32 ∧
      t.flag (Reg.DPS_STAT.RAMPING d) = decide ((s.dps d).target ≠ (s.dps d).goal) ∧
      s.SameFields [Reg.DPS_CNT.RAMPS d, Reg.DPS_STAT.TARGET d, Reg.DPS_STAT.RAMPING d, Reg.DPS_STAT.AT_SET d] t ∧
      t = { s with regs := t.regs, dpss := t.dpss }) ∧
  (∀ (s : State) (d : Fin 64) (p : Dps) (g : Nat), p = s.dps d → p.delay = none → p.target ≠ p.goal → p.next ≤ s.now →
    g = (if p.target < p.goal then min p.goal (p.target + p.slew) else max p.goal (p.target - p.slew)) →
    ∃ t : State, exec (.dpsRampStep d) s = .next t ∧ (t.dps d).target = g ∧ (t.dps d).goal = p.goal ∧ (t.dps d).next = p.next + 100 ∧
      t.get (Reg.DPS_STAT.TARGET d) = (roundAway g 125).toNat % 2 ^ 16 ∧ t.flag (Reg.DPS_STAT.RAMPING d) = decide (g ≠ p.goal) ∧
      (t.dps d).offAt = (if g = 0 ∧ p.goal = 0 ∧ s.flag (Reg.DPS_STAT.CONN d) = true ∧ s.flag (Reg.DPS_SET.CONN d) = false then some s.now else none) ∧
      s.SameFields [Reg.DPS_STAT.TARGET d, Reg.DPS_STAT.RAMPING d, Reg.DPS_STAT.AT_SET d] t ∧ t = { s with regs := t.regs, dpss := t.dpss }) ∧
  (∀ (s : State) (d : Fin 64) (v : Int), ((s.dps d).offAt ≠ none → v ≤ 50 → ∃ t : State, exec (.dpsSwitchOpen d v) s = .next t ∧
      t.flag (Reg.DPS_STAT.CONN d) = false ∧ t.flag (Reg.DPS_STAT.COMPLY d) = false ∧ (t.dps d).offAt = none ∧ (t.dps d).target = (s.dps d).target ∧
      t = { s with regs := t.regs, dpss := t.dpss }) ∧
    ((s.dps d).offAt = none ∨ 50 < v → exec (.dpsSwitchOpen d v) s = .next s)) ∧
  (∀ (s : State) (d : Fin 64) (b : Nat), (s.dps d).offAt = some b →
    (b + 10000 ≤ s.now → ∃ t : State, exec (.dpsOpenHigh d) s = .next t ∧ t.flag (Reg.DPS_STAT.CONN d) = false ∧ t.flag (Reg.DPS_STAT.OPEN_HIGH d) = true ∧
      (t.dps d).offAt = none ∧ s.SameWords [Reg.DPS_STAT.word d, Reg.LOG_STAT.word] t) ∧
    (s.now < b + 10000 → s.tb.refPresent = true → exec (.dpsOpenHigh d) s = .next s)) ∧
  (∀ (s : State) (p : Port) (d : Fin 64), s.mode ≠ Mode.RESET → s.gangChans d = [d.val] →
    (s.checkCmdOk d = true → ∃ t : State, exec (.dpsCmdCheck p d) s = .next t ∧ (t.dps d).check = some s.now ∧ t.flag (Reg.DPS_STAT.BUSY d) = true ∧
      s.SameFields [Reg.DPS_STAT.BUSY d] t ∧ t = { s with regs := t.regs, dpss := t.dpss }) ∧
    (s.checkCmdOk d = false → ∃ t : State, exec (.dpsCmdCheck p d) s = .next t ∧ t.dpss = s.dpss)) ∧
  (∀ (s : State) (d : Fin 64) (o : SenseStep) (r : Nat), s.gangChans d = [d.val] → (s.dps d).check ≠ none →
    r = senseClass o (s.get (Reg.MP_LIMDPS.RFORCE d)) (s.get (Reg.MP_LIMDPS.RSENSE d)) →
    ∃ t : State, exec (.senseCheckDone d [o]) s = .next t ∧ t.get (Reg.DPS_STAT.CHECK d) = r ∧ t.flag (Reg.DPS_STAT.CHK_DONE d) = true ∧
      t.flag (Reg.DPS_STAT.HELD_OFF d) = decide (r = 3 ∨ r = 4) ∧ (t.dps d).check = none ∧ t.get (Reg.DPS_CHK.V_F1 d) = fieldOf 32 o.vf1 ∧
      t.get (Reg.DPS_CNT.CHECKS d) = (s.get (Reg.DPS_CNT.CHECKS d) + 1) % 2 ^ 32 ∧
      s.SameWords [Reg.DPS_STAT.word d, Reg.DPS_CHK.word d, Reg.DPS_CNT.word d] t ∧ t = { s with regs := t.regs, dpss := t.dpss }) ∧
  (∀ (o : SenseStep) (f q : Nat), senseClass o f q ∈ [1, 2, 3, 4])

/-- R335 to R345: guard trips. -/
def Obligations.GuardTrips : Prop :=
  (∀ (s : State) (c : Fin 1024) (k : Fin 6) (g : BitVec 16), s.guardActs c k = true → s.compChans c = [c.val] → s.leadOf c = c.val →
    s.flag (Reg.CH_GCFG.QUAL c) = false → s.flag (Reg.CH_GCFG.DPS_LINK c) = false → s.tdcs = [] → s.pmuMeas = [] →
    (∀ n, s.chanSite c = some n → n < 64 ∧ (s.seq n).clause = none) →
    ∃ u : State, exec (.guardTrip false c k g) s = .next u.follow ∧ u.get (Reg.CH_GSTAT.CAUSE c) = s.get (Reg.CH_GSTAT.CAUSE c) ||| 2 ^ k.val ∧
      u.flag (Reg.CH_GSTAT.TRIPPED c) = true ∧ u.flag (Reg.CH_STAT.TRIPPED c) = true ∧ u.flag Reg.GD_STAT.TRIP_SEEN = true ∧
      u.get (Reg.CH_GCNT.TRIPS c) = (s.get (Reg.CH_GCNT.TRIPS c) + 1) % 2 ^ 32 ∧ u.flag ⟨0x005004, Intr.TRIP, Intr.TRIP⟩ = true ∧
      (s.get (Reg.CH_GSTAT.CAUSE c) = 0 → u.get (Reg.CH_GTRIP.TIME c) = (s.now * 65536 + g.toNat / 32 * 32) % 2 ^ 80) ∧
      (∀ n, s.chanSite c = some n → s.siteState n = Site.RUNNING ∨ s.siteState n = Site.HELD → u.siteState n = Site.TRIPPED) ∧ u.mem = s.mem) ∧
  (∀ (s : State) (c : Fin 1024) (k : Fin 6) (g : BitVec 16), s.guardActs c k = false ∨ s.flag (Reg.CH_GCFG.QUAL (s.leadOf c)) = true →
    ∃ u : State, exec (.guardTrip false c k g) s = .next u.follow ∧ u.get (Reg.CH_GSTAT.RAW c) = s.get (Reg.CH_GSTAT.RAW c) ||| 2 ^ k.val ∧
      s.SameFields [Reg.CH_GSTAT.RAW c] u ∧ u = { s with regs := u.regs }) ∧
  (∀ (s : State) (d : Fin 1024) (k : Fin 6) (g : BitVec 16), d.val < 64 → k.val < 2 →
    (s.dpsGuardActs d k = true → s.gangChans d = [d.val] → s.gangLead d = d.val → s.flag (Reg.GD_DCFG.QUAL d) = false →
      s.flag (Reg.GD_DCFG.CH_LINK d) = false → s.dpsMeas = [] → s.tdcs = [] → s.pmuMeas = [] →
      (∀ n, s.dpsSite d = some n → n < 64 ∧ (s.seq n).clause = none) →
      ∃ u : State, exec (.guardTrip true d k g) s = .next u.follow ∧ u.get (Reg.GD_DSTAT.CAUSE d) = s.get (Reg.GD_DSTAT.CAUSE d) ||| 2 ^ k.val ∧
        u.flag (Reg.GD_DSTAT.TRIPPED d) = true ∧ u.flag (Reg.DPS_STAT.TRIPPED d) = true ∧ u.flag (Reg.DPS_STAT.CONN d) = false ∧
        (u.dps d).target = 0 ∧ (∀ n, s.dpsSite d = some n → s.siteState n = Site.RUNNING ∨ s.siteState n = Site.HELD → u.siteState n = Site.TRIPPED)) ∧
    (s.dpsGuardActs d k = false → ∃ u : State, exec (.guardTrip true d k g) s = .next u.follow ∧ s.SameFields [Reg.GD_DSTAT.RAW d] u ∧
      u = { s with regs := u.regs })) ∧
  (∀ (s : State) (c : Fin 1024) (k : Fin 6),
    (k.val < 2 → s.chEffMode c = 0 → s.get (Reg.CH_GCFG.BLANK (s.leadOf c)) ≠ 0 →
      ∃ u : State, exec (.blankEnd false c k) s = .next u ∧ exec (.guardTrip false c k 0) s = .next u) ∧
    (2 ≤ k.val ∨ s.chEffMode c ≠ 0 ∨ s.get (Reg.CH_GCFG.BLANK (s.leadOf c)) = 0 → exec (.blankEnd false c k) s = .next s.follow)) ∧
  (∀ (s : State) (d : Fin 64) (i : Instr × Nat), i ∈ [(Instr.negvTrip d, 4), (.senseTrip d, 8)] →
    (s.flag (Reg.DPS_STAT.CONN d) = false → exec i.1 s = .next s.follow) ∧
    (s.flag (Reg.DPS_STAT.CONN d) = true → s.gangChans d = [d.val] → s.gangLead d = d.val → s.flag (Reg.GD_DCFG.CH_LINK d) = false → s.dpsMeas = [] →
      s.tdcs = [] → s.pmuMeas = [] → (∀ n, s.dpsSite d = some n → n < 64 ∧ (s.seq n).clause = none) →
      ∃ u : State, exec i.1 s = .next u.follow ∧ u.get (Reg.GD_DSTAT.CAUSE d) = s.get (Reg.GD_DSTAT.CAUSE d) ||| i.2 ∧
        u.flag (Reg.GD_DSTAT.TRIPPED d) = true ∧ u.flag (Reg.DPS_STAT.TRIPPED d) = true ∧ u.flag (Reg.DPS_STAT.CONN d) = false ∧
        (u.dps d).target = 0 ∧ (u.dps d).goal = 0 ∧ u.mem = s.mem)) ∧
  (∀ (s : State) (c : Fin 1024) (w : BitVec 8), s.now % 10 ^ s.get (Reg.CH_GCFG.RATE (s.leadOf c)) ≠ 0 →
    exec (.filterSample false c w) s = .next s.follow) ∧
  (∀ (s : State) (c : Fin 1024) (w : BitVec 8) (h : List Nat) (f : Nat × Nat), s.now % 10 ^ s.get (Reg.CH_GCFG.RATE (s.leadOf c)) = 0 →
    s.flag (Reg.CH_GCFG.QUAL (s.leadOf c)) = false → s.get (Reg.CH_GSTAT.UNRES c) = 0 → (s.chan c).unresHi = false → (s.chan c).unresLo = false →
    h = (w.toNat :: (s.gd c).hist).take 7 →
    f = filterStep h (s.get (Reg.CH_GCFG.WIN (s.leadOf c))) (s.get (Reg.CH_GSTAT.FILT c) + 64 * (s.gd c).filtCmp) 8 →
    ∃ u : State, exec (.filterSample false c w) s = .next u.follow ∧ u.get (Reg.CH_GSTAT.RAW c) = w.toNat % 64 ∧ u.get (Reg.CH_GSTAT.FILT c) = f.1 % 64 ∧
      (u.gd c).hist = h ∧ u.get (Reg.CH_GSTAT.CAUSE c) = s.get (Reg.CH_GSTAT.CAUSE c) ∧
      s.SameWords [Reg.CH_GSTAT.word c, Reg.CH_GCNT.word c, Reg.CH_STAT.word c] u)

/-- R343: the clear commands. -/
def Obligations.GuardClears : Prop :=
  (∀ (s : State) (p : Port) (c : Fin 1024), s.mode ≠ Mode.RESET →
    (s.allClearable (s.compChans c) [] = true → s.compChans c = [c.val] → ∃ u : State, exec (.clearCh p c) s = .next u.follow ∧
      u.get (Reg.CH_GSTAT.CAUSE c) = 0 ∧ (s.get (Reg.CH_GSTAT.CAUSE c) ≠ 0 → u.flag (Reg.CH_GSTAT.TRIPPED c) = false ∧
        u.flag (Reg.CH_STAT.TRIPPED c) = false) ∧ (∀ n : Fin 64, s.siteChans n = [c.val] → s.siteSupplies n = [] → s.siteState n = Site.TRIPPED →
          u.siteState n = Site.HELD ∧ bitOf (u.get (Reg.SQ_STAT.CAUSES n)) 0 = true)) ∧
    (s.allClearable (s.compChans c) [] = false → ∃ u : State, exec (.clearCh p c) s = .next u.follow ∧
      (∀ x : Fin 1024, u.reg (Reg.CH_GSTAT.word x) = s.reg (Reg.CH_GSTAT.word x)) ∧ u.chans = s.chans ∧ u.dpss = s.dpss)) ∧
  (∀ (s : State) (p : Port) (d : Fin 64), s.mode ≠ Mode.RESET →
    (s.allClearable [] (s.gangChans d) = true → s.gangChans d = [d.val] → s.get (Reg.GD_DSTAT.CAUSE d) ≠ 0 →
      ∃ u : State, exec (.clearDps p d) s = .next u.follow ∧ u.get (Reg.GD_DSTAT.CAUSE d) = 0 ∧ u.flag (Reg.GD_DSTAT.TRIPPED d) = false ∧
        u.flag (Reg.DPS_STAT.TRIPPED d) = false ∧ (s.flag (Reg.DPS_SET.CONN d) = true → u.flag (Reg.DPS_STAT.CONN d) = true ∧ (u.dps d).target = 0 ∧
          (u.dps d).goal = s.get (Reg.DPS_SET.SET d) * 125)) ∧
    (s.allClearable [] (s.gangChans d) = false → ∃ u : State, exec (.clearDps p d) s = .next u.follow ∧
      (∀ x : Fin 64, u.reg (Reg.GD_DSTAT.word x) = s.reg (Reg.GD_DSTAT.word x)) ∧ u.dpss = s.dpss)) ∧
  (∀ (s : State) (p : Port) (n : Fin 64), s.mode ≠ Mode.RESET → (∀ c ∈ s.siteChans n, c < 1024) → (∀ d ∈ s.siteSupplies n, d < 64) →
    (s.allClearable (s.siteChans n) (s.siteSupplies n) = true → ∃ u : State, exec (.clearSite p n) s = .next u.follow ∧
      (∀ c ∈ s.siteChans n, u.get (Reg.CH_GSTAT.CAUSE c) = 0) ∧ (∀ d ∈ s.siteSupplies n, u.get (Reg.GD_DSTAT.CAUSE d) = 0)) ∧
    (s.allClearable (s.siteChans n) (s.siteSupplies n) = false → ∃ u : State, exec (.clearSite p n) s = .next u.follow ∧
      (∀ x : Fin 1024, u.reg (Reg.CH_GSTAT.word x) = s.reg (Reg.CH_GSTAT.word x)) ∧ u.dpss = s.dpss)) ∧
  (∀ (s : State) (p : Port), s.mode ≠ Mode.RESET → ∃ u : State, exec (.clearAll p) s = .next u.follow ∧
    ∀ c : Fin 1024, (s.chClearable c = true → bitOf (s.get (Reg.CH_GSTAT.CAUSE c)) 7 = false → u.get (Reg.CH_GSTAT.CAUSE c) = 0) ∧
      (s.chClearable c = false → u.get (Reg.CH_GSTAT.CAUSE c) = s.get (Reg.CH_GSTAT.CAUSE c)))

/-- R346 to R351: self-checks and contact checks. -/
def Obligations.SelfAndContactChecks : Prop :=
  (∀ (s : State) (p : Port) (c : Fin 1024), s.mode ≠ Mode.RESET →
    (s.selfcheckOk c = true → ∃ u : State, exec (.selfcheck p c) s = .next u.follow ∧ u.flag (Reg.CH_GSTAT.CHECKING c) = true ∧
      (u.gd c).selfDue = some (s.now + 400) ∧ s.SameFields [Reg.CH_GSTAT.CHECKING c] u ∧ u = { s with regs := u.regs, gds := u.gds }) ∧
    (s.selfcheckOk c = false → ∃ u : State, exec (.selfcheck p c) s = .next u.follow ∧ u.gds = s.gds ∧
      u.reg (Reg.CH_GSTAT.word c) = s.reg (Reg.CH_GSTAT.word c))) ∧
  (∀ (s : State) (c : Fin 1024) (g : BitVec 8) (b : Nat), (s.gd c).selfDue = some b →
    (s.now < b → exec (.selfcheckDone c g) s = .next s.follow) ∧
    (b ≤ s.now → g = 0xFF → s.get (Reg.CH_GSTAT.CAUSE c) = 0x40 → s.siteRetired (s.chanSite c) = false →
      ∃ u : State, exec (.selfcheckDone c g) s = .next u.follow ∧ u.get (Reg.CH_GSTAT.CAUSE c) = 0 ∧ u.flag (Reg.CH_GSTAT.TRIPPED c) = false ∧
        u.flag (Reg.CH_STAT.TRIPPED c) = false ∧ u.get (Reg.CH_GSTAT.UNRES c) = 0 ∧ u.flag (Reg.CH_GSTAT.CHECKING c) = false ∧
        u.get (Reg.CH_GCNT.SELFCHK c) = (s.get (Reg.CH_GCNT.SELFCHK c) + 1) % 2 ^ 32 ∧ (u.gd c).selfDue = none) ∧
    (b ≤ s.now → g ≠ 0xFF → s.chanSite c = none → s.compChans c = [c.val] → s.leadOf c = c.val → s.tdcs = [] → s.pmuMeas = [] →
      ∃ u : State, exec (.selfcheckDone c g) s = .next u.follow ∧ u.get (Reg.CH_GSTAT.CAUSE c) = s.get (Reg.CH_GSTAT.CAUSE c) ||| 0x40 ∧
        u.flag (Reg.CH_GSTAT.TRIPPED c) = true ∧ u.get (Reg.CH_GCNT.SELF_FAIL c) = (s.get (Reg.CH_GCNT.SELF_FAIL c) + 1) % 2 ^ 32)) ∧
  (∀ (s : State) (p : Port), s.mode ≠ Mode.RESET →
    (s.mode = Mode.CONTACT → s.contact = none → (∀ c ∈ s.contactChans, c < 1024) → (∀ d ∈ s.contactSupplies, d < 64 ∧ s.gangChans d = [d]) →
      ∃ u : State, ∃ k, exec (.contactRun p) s = .next u.follow ∧ u.contact = some k ∧ k.chans = s.contactChans ∧ k.supplies = s.contactSupplies ∧
        k.due = s.now + s.contactBeats ∧ u.flag Reg.GD_CSTAT.BUSY = true ∧ u.get Reg.GD_CSTAT.START = s.now % 2 ^ 32 ∧
        (∀ c ∈ s.contactChans, u.flag (Reg.CH_GSTAT.CHECKING c) = true) ∧ (∀ d ∈ s.contactSupplies, (u.dps d).check = some s.now)) ∧
    (s.mode ≠ Mode.CONTACT ∨ s.contact ≠ none → ∃ u : State, exec (.contactRun p) s = .next u.follow ∧ u.contact = s.contact ∧
      u.reg Reg.GD_CSTAT.word = s.reg Reg.GD_CSTAT.word)) ∧
  (∀ (s : State) (k : Contact) (o : List ContactObs), s.contact = some k → s.now < k.due ∨ (∃ d ∈ k.supplies, (s.dps d).check ≠ none) ∨
      (∃ c ∈ k.chans, ∀ x ∈ o, x.chan.val ≠ c) → exec (.contactCheckDone o) s = .next s.follow) ∧
  (∀ (s : State) (k : Contact) (o : ContactObs), s.contact = some k → k.due ≤ s.now → k.supplies = [] → k.chans = [o.chan.val] →
    ∃ u : State, exec (.contactCheckDone [o]) s = .next u.follow ∧ u.contact = none ∧ u.flag Reg.GD_CSTAT.BUSY = false ∧ u.flag Reg.GD_CSTAT.DONE = true ∧
      u.get Reg.GD_CSTAT.END = s.now % 2 ^ 32 ∧ u.flag ⟨0x005004, Intr.CONTACT_DONE, Intr.CONTACT_DONE⟩ = true ∧
      (o.good = 0xFF → u.get (Reg.CH_GCHK.RESULT o.chan) = s.contactResult o))

/-- R356 to R380: the calibration commands. -/
def Obligations.CalibrationCommands : Prop :=
  (∀ (s : State) (p : Port) (w : Word) (i : Instr × Nat × Nat × Nat), s.mode ≠ Mode.RESET →
    i ∈ [(Instr.refcalRun p w, 1, 4, 4698112), (.restore p w, 4, 5, 102400)] →
    s.refcalOk (w.toNat / 2 ^ 8 % 16) (if i.2.1 = 1 then [Mode.REFCAL] else [Mode.REFCAL, Mode.STANDBY]) = true →
    ∃ u : State, ∃ r, exec i.1 s = .next u ∧ u.cal.run = some r ∧ r.cmd = i.2.1 ∧ r.qmask = w.toNat / 2 ^ 8 % 16 ∧ r.due = s.now + i.2.2.2 ∧
      u.flag Reg.CAL_STAT.BUSY = true ∧ u.get Reg.CAL_STAT.LAST_CMD = i.2.1 ∧ (∀ q : Fin 4, bitOf (w.toNat / 2 ^ 8 % 16) q = true →
        u.get (Reg.CAL_Q.STATE q) = 4 ∧ u.get (Reg.CAL_Q.CAUSE q) = i.2.2.1) ∧ u.cal.chs = s.cal.chs ∧ u.nvm = s.nvm) ∧
  (∀ (s : State) (p : Port) (w : Word), s.mode ≠ Mode.RESET →
    (s.refcalOk (w.toNat / 2 ^ 8 % 16) [Mode.REFCAL] = false → ∃ u : State, exec (.refcalRun p w) s = .next u ∧ u.cal = s.cal ∧
      u.reg Reg.CAL_STAT.word = s.reg Reg.CAL_STAT.word) ∧
    (s.refcalOk (w.toNat / 2 ^ 8 % 16) [Mode.REFCAL, Mode.STANDBY] = false → ∃ u : State, exec (.restore p w) s = .next u ∧ u.cal = s.cal)) ∧
  (∀ (s : State) (p : Port) (r : CalRun), s.mode ≠ Mode.RESET → s.cal.run = some r →
    (r.cmd = 1 → s.now < r.due → ∃ u : State, exec (.calAbort p) s = .next u ∧ u.cal = { s.cal with run := none } ∧ u.get Reg.CAL_STAT.RESULT = 7 ∧
      u.get Reg.CAL_STAT.LAST_CMD = 5 ∧ u.flag Reg.CAL_STAT.BUSY = false ∧ u.flag Reg.CAL_STAT.DONE = true ∧
      (∀ q : Fin 4, bitOf r.qmask q = true → u.get (Reg.CAL_Q.STATE q) = (r.prev.getD q (0, 0)).1 % 8 ∧
        u.get (Reg.CAL_Q.CAUSE q) = (r.prev.getD q (0, 0)).2 % 8)) ∧
    (r.cmd ≠ 1 ∨ r.due ≤ s.now → ∃ u : State, exec (.calAbort p) s = .next u ∧ u.cal = s.cal)) ∧
  (∀ (s : State) (p : Port) (w : Word), s.mode ≠ Mode.RESET →
    (s.flag Reg.CAL_STAT.BUSY = false → ∃ u : State, exec (.qcal p w) s = .next u ∧ u.get Reg.CAL_STAT.RESULT = 0 ∧ u.get Reg.CAL_STAT.LAST_CMD = 2 ∧
      u.flag Reg.CAL_STAT.DONE = true ∧ ∀ q : Fin 4,
        (bitOf (w.toNat / 2 ^ 8 % 16) q = true → s.liveOk q = true → s.get (Reg.CAL_Q.STATE q) = 1 → (s.calQ q).pend = none →
          (u.calQ q).pend = some (s.now + 1, 2)) ∧
        (bitOf (w.toNat / 2 ^ 8 % 16) q = false → u.calQ q = s.calQ q)) ∧
    (s.flag Reg.CAL_STAT.BUSY = true → ∃ u : State, exec (.qcal p w) s = .next u ∧ u.cal = s.cal)) ∧
  (∀ (s : State) (p : Port) (w : Word), s.mode ≠ Mode.RESET → s.mode ≠ Mode.SAFE → s.mode ≠ Mode.SHUTDOWN → s.flag Reg.CAL_STAT.BUSY = false →
    (∀ q : Fin 4, bitOf (w.toNat / 2 ^ 8 % 16) q = true → s.calibrated q = true) →
    ∃ u : State, ∃ r, exec (.save p w) s = .next u ∧ u.cal.run = some r ∧ r.cmd = 3 ∧ r.left = maskList (w.toNat / 2 ^ 8 % 16) 4 ∧
      u.flag Reg.CAL_STAT.BUSY = true ∧ u.nvm = s.nvm) ∧
  (∀ (s : State) (r : CalRun) (q : Nat) (qs : List Nat) (e : List Byte), s.cal.run = some r → r.cmd = 3 → r.left = q :: qs →
    (∃ u : State, exec (.saveDone ⟨none, none⟩) s = .next u ∧ u.nvm = (s.nvmWrite (0x3200 * q) (s.calRecord q r.start) ⟨none, none⟩).1.nvm ∧
      (qs = [] → u.cal.run = none ∧ u.get Reg.CAL_STAT.RESULT = 0 ∧ u.flag Reg.CAL_STAT.BUSY = false) ∧
      (qs ≠ [] → u.cal.run = some { r with left := qs } ∧ u.regs = s.regs)) ∧
    (∃ u : State, exec (.saveDone ⟨some e, none⟩) s = .next u ∧ u.cal.run = none ∧ u.get Reg.CAL_STAT.RESULT = 6 ∧ u.flag Reg.CAL_STAT.NVM_ERR = true)) ∧
  (∀ (s : State) (r : CalRun) (q : Fin 4) (o : List (Fin 1024 × List Int)), s.cal.run = some r → r.cmd = 4 → bitOf r.qmask q = true → s.calStored q = none →
    ∃ u : State, exec (.restoreDone o) s = .next u ∧ u.cal = { s.cal with run := none } ∧ u.get Reg.CAL_STAT.RESULT = 4 ∧ u.flag Reg.CAL_STAT.DONE = true) ∧
  (∀ (s : State) (r : CalRun) (o : RefRun) (v : Nat), s.cal.run = some r → r.cmd = 1 → v = s.get Reg.CAL_REF.CALV_UV →
    (v * 2 < 100 * (o.calv - v).natAbs → ∃ u : State, exec (.refcalComplete o) s = .next u ∧ u.cal = { s.cal with run := none } ∧ u.get Reg.CAL_STAT.RESULT = 1) ∧
    (100 * (o.calv - v).natAbs ≤ v * 2 → o.calt ≠ some (s.get Reg.CAL_REF.CALT_DIV) → ∃ u : State, exec (.refcalComplete o) s = .next u ∧
      u.cal = { s.cal with run := none } ∧ u.get Reg.CAL_STAT.RESULT = 2) ∧
    (100 * (o.calv - v).natAbs ≤ v * 2 → o.calt = some (s.get Reg.CAL_REF.CALT_DIV) → s.now < r.due → exec (.refcalComplete o) s = .next s) ∧
    (100 * (o.calv - v).natAbs ≤ v * 2 → o.calt = some (s.get Reg.CAL_REF.CALT_DIV) → r.due ≤ s.now → (o.devOfs < -1024 ∨ 1023 < o.devOfs) →
      ∃ u : State, exec (.refcalComplete o) s = .next u ∧ u.cal = { s.cal with run := none } ∧ u.get Reg.CAL_STAT.RESULT = 3) ∧
    (100 * (o.calv - v).natAbs ≤ v * 2 → o.calt = some (s.get Reg.CAL_REF.CALT_DIV) → r.due ≤ s.now → -1024 ≤ o.devOfs → o.devOfs ≤ 1023 →
      ∃ u : State, exec (.refcalComplete o) s = .next u ∧ u.cal.run = none ∧ u.get Reg.CAL_STAT.RESULT = 0 ∧ u.getS Reg.CAL_STAT.DEV_OFS = o.devOfs ∧
        (∀ q : Fin 4, bitOf r.qmask q = true → u.get (Reg.CAL_Q.STATE q) = 1 ∧ u.get (Reg.CAL_Q.T_LAST q) = s.get (Reg.CAL_Q.T_NOW q) ∧
          u.get (Reg.CAL_Q.LAST_BEAT q) = s.now % 2 ^ 32) ∧
        (∀ x, o.chans = [x] → bitOf r.qmask (x.chan.val / 256) = true → u.get (Reg.CAL_CHS.REF_RESULT x.chan) =
          (s.setS Reg.CAL_STAT.DEV_OFS o.devOfs).refResult x o.devOfs (if r.substrate = true then some (s.getS Reg.MP_TILE.SUB_OFS) else none))))

/-- R366 to R374: live calibration. -/
def Obligations.LiveCalibration : Prop :=
  (∀ (s : State) (q : Fin 4) (b k : Nat), (s.calQ q).pend = some (b, k) →
    (s.now < b → exec (.liveCycleStart q) s = .next s) ∧
    (b ≤ s.now → s.liveOk q = true → s.get (Reg.CAL_Q.STATE q) = 1 → ∃ t : State, exec (.liveCycleStart q) s = .next t ∧ t.get (Reg.CAL_Q.STATE q) = 2 ∧
      t.get (Reg.CAL_Q.CAUSE q) = k % 8 ∧ (t.calQ q).pend = none ∧ (t.calQ q).start = s.now ∧ (t.calQ q).levels = [] ∧ (t.calQ q).times = [] ∧
      (∀ c : Fin 1024, c.val / 256 = q.val → t.flag (Reg.CH_PMUSTAT.STALE c) = true) ∧ t.cal.chs = s.cal.chs) ∧
    (b ≤ s.now → s.liveOk q = false → ∃ t : State, exec (.liveCycleStart q) s = .next t ∧ t.calQ q = { s.calQ q with pend := none } ∧ t.regs = s.regs)) ∧
  (∀ (s : State) (q : Fin 4), s.get (Reg.CAL_Q.STATE q) ≠ 2 ∨ s.now < (s.calQ q).start + 102400 → ∀ o, exec (.transferPhaseEnd q o) s = .next s) ∧
  (∀ (s : State) (q : Fin 4), s.get (Reg.CAL_Q.STATE q) = 2 → (s.calQ q).start + 102400 ≤ s.now →
    (∃ t : State, exec (.transferPhaseEnd q []) s = .next t ∧ t.get (Reg.CAL_Q.STATE q) = 3 ∧ (t.calQ q).measAt = s.now ∧
      (t.calQ q).winEnd = s.now + Reg.CAL_CTRL.WIN.of (s.calQ q).ctrl ∧ t.cal.chs = s.cal.chs ∧
      (∀ c : Fin 1024, c.val / 256 = q.val → t.flag (Reg.CH_PMUSTAT.STALE c) = false)) ∧
    (∀ o : TransferObs, o.kind = 0 → o.unit < 1024 → o.unit / 256 = q.val → 2 ^ 20 < 1000 * (o.gain - (s.calCh o.unit).gainRef).natAbs →
      ∃ t : State, exec (.transferPhaseEnd q [o]) s = .next t ∧ t.get (Reg.CAL_QCNT.REJECTED q) = (s.get (Reg.CAL_QCNT.REJECTED q) + 1) % 2 ^ 32 ∧
        t.flag Reg.CAL_STAT.REJECT = true ∧ t.calCh o.unit = s.calCh o.unit)) ∧
  (∀ (s : State) (c : Fin 1024) (v : Int) (o : List (Fin 1024 × Int)), s.get (Reg.CAL_Q.STATE (c.val / 256)) ≠ 3 →
    ∃ t : State, exec (.shadowCapture c v o) s = .next t ∧ t = s) ∧
  (∀ (s : State) (c : Fin 1024) (v : Int) (o : List (Fin 1024 × Int)) (n q : Nat) (k : CalQ) (r : TRun) (d : Rat), q = c.val / 256 → k = s.calQ q →
    s.get (Reg.CAL_Q.STATE q) = 3 → s.chanSite c = some n → k.counts (s.streamOf n) s.now = true → k.times = [r] → r.chan = c → r.fin = false →
    o.Nodup → (∀ p ∈ o, p.1 ≠ c ∧ groupIn k.groups p.1 = groupIn k.groups c ∧ p.1.val / 256 ≠ q) → Reg.CAL_CTRL.MIN_REF.of k.ctrl ≤ o.length →
    r.n + 1 < Reg.CAL_CTRL.MIN_EDGES.of k.ctrl →
    d = ((v - (s.calCh c).loopRef : Int) : Rat) - (((o.map (fun p => p.2 - (s.calCh p.1).loopRef)).sum : Int) : Rat) / (o.length : Rat) →
    ∃ t : State, exec (.shadowCapture c v o) s = .next t ∧ (t.calQ q).times = [{ r with n := r.n + 1, sum := r.sum + d, sumSq := r.sumSq + d * d }] ∧
      t = { s with cal := t.cal }) ∧
  (∀ (s : State) (c : Fin 1024), s.slotDue c = false → exec (.calibrationSlot c) s = .next s) ∧
  (∀ (s : State) (c : Fin 1024) (n e : Nat) (d r : Int), s.slotDue c = true → s.chanSite c = some n → s.flag (Reg.SO_SITE_STAT.IN_STREAM n) = true →
    s.get (Reg.CAL_Q.STATE (c.val / 256)) ≠ 3 → e = s.engineOf c → d = s.get (Reg.EE_DESKEW.CAL_DRV e) → r = s.get (Reg.EE_DESKEW.CAL_RCV e) →
    ∃ t : State, exec (.calibrationSlot c) s = .next t ∧ (t.calCh c).slotAt = s.now + 1 ∧ t.mem = s.mem ∧
      (d = (s.calCh c).drvT → r = (s.calCh c).rcvT → t.get (Reg.EE_DESKEW.CAL_DRV e) = d ∧ t.get (Reg.EE_DESKEW.CAL_RCV e) = r) ∧
      (d < (s.calCh c).drvT → r = (s.calCh c).rcvT → (s.calCh c).tWait = 0 → d + 1 < 2 ^ 20 →
        t.get (Reg.EE_DESKEW.CAL_DRV e) = d + 1 ∧ t.get (Reg.EE_DESKEW.CAL_RCV e) = r) ∧
      (∀ i : Fin 8, (s.calCh c).lWait.length = 8 → (s.calCh c).lWait.getD i 0 = 0 → s.getS (Reg.CH_LVL.TRIM c i) < (s.calCh c).trimT.getD i 0 →
        s.getS (Reg.CH_LVL.TRIM c i) < 127 → t.getS (Reg.CH_LVL.TRIM c i) = s.getS (Reg.CH_LVL.TRIM c i) + 1) ∧
      (∀ i : Fin 8, s.getS (Reg.CH_LVL.TRIM c i) = (s.calCh c).trimT.getD i 0 → t.getS (Reg.CH_LVL.TRIM c i) = s.getS (Reg.CH_LVL.TRIM c i))) ∧
  (∀ (s : State) (q : Fin 4),
    (s.get (Reg.CAL_Q.STATE q) ≠ 2 → s.get (Reg.CAL_Q.STATE q) ≠ 3 → exec (.liveCycleEnd q) s = .next s) ∧
    (s.get (Reg.CAL_Q.STATE q) = 2 ∨ s.get (Reg.CAL_Q.STATE q) = 3 → s.liveOk q = false → ∃ t : State, exec (.liveCycleEnd q) s = .next t ∧
      t.get (Reg.CAL_Q.STATE q) = 1 ∧ t.get (Reg.CAL_QCNT.CYCLES q) = s.get (Reg.CAL_QCNT.CYCLES q) ∧
      t.get (Reg.CAL_Q.T_LAST q) = s.get (Reg.CAL_Q.T_LAST q)) ∧
    (s.get (Reg.CAL_Q.STATE q) = 3 → s.liveOk q = true → (s.calQ q).winEnd ≤ s.now → (∀ r ∈ (s.calQ q).levels, r.own = false) →
      (∀ r ∈ (s.calQ q).times, r.fin = true) → ∃ t : State, exec (.liveCycleEnd q) s = .next t ∧ t.get (Reg.CAL_Q.STATE q) = 1 ∧
        t.get (Reg.CAL_QCNT.CYCLES q) = (s.get (Reg.CAL_QCNT.CYCLES q) + 1) % 2 ^ 32 ∧ t.get (Reg.CAL_Q.T_LAST q) = fieldOf 16 (s.calQ q).tStart ∧
        t.get (Reg.CAL_Q.LAST_BEAT q) = s.now % 2 ^ 32 ∧ (t.calQ q).levels = [] ∧ (t.calQ q).times = [] ∧ t.cal.chs = s.cal.chs))

/-- R381, R387, R388, R390: records written, dropped and migrated. -/
def Obligations.LedgerRecords : Prop :=
  (∀ (s : State) (r : PendRec) (rs : List PendRec), s.gapDrops = 0 → s.pendRecs = r :: rs → r.due ≤ s.now → s.lgFull = false →
    ∃ u : State, exec .recordWrite s = .next u.follow ∧ u.lgTail = (s.lgTail + 1) % 2 ^ 64 ∧ u.gap = false ∧ u.mem = s.mem ∧
      u.reg (Reg.LG_WIN.word (s.lgTail % 1048576)) = (if s.gap then r.word ||| BitVec.ofNat 128 (Flag.GAP * 2 ^ 90) else r.word) ∧
      u.get Reg.LG_CNT.WRITTEN = (s.get Reg.LG_CNT.WRITTEN + 1) % 2 ^ 48 ∧
      (∀ j < 1048576, j ≠ s.lgTail % 1048576 → u.reg (Reg.LG_WIN.word j) = s.reg (Reg.LG_WIN.word j)) ∧
      (u.lgNear = true → s.lgNear = false → u.alertPending Alert.LEDGER = true) ∧
      (measKind (wget r.word 101 98) = false → u.pendRecs = rs ∧
        s.SameFields [Reg.LG_WIN.RECORD (s.lgTail % 1048576), Reg.LG_SEQ.TAIL, Reg.LG_CNT.WRITTEN, Reg.CP_ALERT.PEND, ⟨0x005004, 63, 0⟩] u ∧
        u = { s with regs := u.regs, gap := false, pendRecs := rs, msix := u.msix })) ∧
  (∀ (s : State) (r : PendRec) (rs : List PendRec), s.pendRecs = r :: rs → r.due ≤ s.now → s.lgFull = true → measKind (wget r.word 101 98) = false →
    ∃ u : State, exec .recordWrite s = .next u.follow ∧ u.get Reg.LG_CNT.DROPPED = (s.get Reg.LG_CNT.DROPPED + 1) % 2 ^ 32 ∧ u.flag Reg.LG_STAT.LOST = true ∧
      u.gap = true ∧ u.gapDrops = s.gapDrops + 1 ∧ u.lgTail = s.lgTail ∧ u.lgMig = s.lgMig ∧ u.lgHead = s.lgHead ∧
      (∀ j < 1048576, u.reg (Reg.LG_WIN.word j) = s.reg (Reg.LG_WIN.word j)) ∧
      (s.flag Reg.LG_STAT.LOST = true → s.SameFields [Reg.LG_CNT.DROPPED, Reg.LG_STAT.LOST] u ∧
        u = { s with regs := u.regs, gap := true, gapDrops := s.gapDrops + 1, pendRecs := rs }) ∧
      (s.flag Reg.LG_STAT.LOST = false → u.alertPending Alert.LEDGER = true ∧ (s.flag Reg.LG_CFG.FULL_HOLD = true →
        ∀ n < 64, s.siteState n = Site.RUNNING → u.siteState n = Site.HELD ∧ bitOf (u.get (Reg.SQ_STAT.CAUSES n)) Cause.HOST = true))) ∧
  (∀ s : State, s.gapDrops ≠ 0 → s.lgFull = false →
    ∃ u : State, exec .recordWrite s = .next u.follow ∧ u.lgTail = (s.lgTail + 1) % 2 ^ 64 ∧ u.gap = false ∧ u.gapDrops = 0 ∧ u.pendRecs = s.pendRecs ∧
      wget (u.reg (Reg.LG_WIN.word (s.lgTail % 1048576))) 127 122 = s.gapSite % 64 ∧
      wget (u.reg (Reg.LG_WIN.word (s.lgTail % 1048576))) 101 98 = Kind.EVENT ∧
      wget (u.reg (Reg.LG_WIN.word (s.lgTail % 1048576))) 47 0 = Ev.LEDGER_GAP * 2 ^ 40 + min s.gapDrops (2 ^ 40 - 1) ∧
      u = { s with regs := u.regs, gap := false, gapDrops := 0, msix := u.msix }) ∧
  (∀ s : State, s.gapDrops = 0 ∨ s.lgFull = true → (∀ r ∈ s.pendRecs, s.now < r.due) → exec .recordWrite s = .next s.follow) ∧
  (∀ s : State, s.burst = none → s.flag Reg.LG_OVF.EN = true → s.lgMig + 256 ≤ s.lgHead + s.ringCap →
    (s.lgMig + s.get Reg.LG_CFG.MIG_WM ≤ s.lgTail →
      exec .migrationStart s = .next { s with burst := some (s.lgMig, min 256 (s.lgTail - s.lgMig)) }) ∧
    (s.lgTail < s.lgMig + s.get Reg.LG_CFG.MIG_WM → exec .migrationStart s = .next s)) ∧
  (∀ s : State, s.burst ≠ none ∨ s.flag Reg.LG_OVF.EN = false ∨ s.lgHead + s.ringCap < s.lgMig + 256 → exec .migrationStart s = .next s) ∧
  (∀ (s : State) (start k : Nat), s.burst = some (start, k) → k ≤ s.ringCap → s.get Reg.LG_OVF.BASE + 16 * s.ringCap ≤ 2 ^ 35 →
    ∃ t : State, exec .migrationBurstDone s = .next t ∧ t.burst = none ∧ t.lgMig = max s.lgMig (start + k) % 2 ^ 64 ∧
      t.get Reg.LG_CNT.MIGRATED = (s.get Reg.LG_CNT.MIGRATED + k) % 2 ^ 48 ∧
      (∀ i < k, t.mem16 (s.get Reg.LG_OVF.BASE + 16 * ((start + i) % s.ringCap)) = s.reg (Reg.LG_WIN.word ((start + i) % 1048576))) ∧
      (∀ a, (∀ i < k, a < s.get Reg.LG_OVF.BASE + 16 * ((start + i) % s.ringCap) ∨ s.get Reg.LG_OVF.BASE + 16 * ((start + i) % s.ringCap) + 16 ≤ a) →
        t.byte a = s.byte a) ∧
      s.SameFields [Reg.LG_SEQ.MIG, Reg.LG_CNT.MIGRATED] t ∧
      t = { s with regs := t.regs, mem := t.mem, uncorr := t.uncorr, burst := none }) ∧
  (∀ s : State, s.burst = none → exec .migrationBurstDone s = .next s)

/-- R389, R391, R392, R397: the pointers, the ring and the release of the shadows. -/
def Obligations.LedgerPointersAndRing : Prop :=
  (∀ (s : State) (p : Port) (w : Word) (h : Nat), s.mode ≠ Mode.RESET → h = w.toNat % 2 ^ 64 → s.lgHead ≤ h → h ≤ s.lgTail →
    ∃ t : State, exec (.lgHeadWrite p w) s = .next t ∧ t.lgHead = h ∧ t.lgMig = max s.lgMig h ∧ t.lgTail = s.lgTail ∧
      (s.lgMig ≤ s.lgTail → t.lgHead ≤ t.lgMig ∧ t.lgMig ≤ t.lgTail) ∧
      s.SameFields [Reg.LG_HEAD.HEAD, Reg.LG_SEQ.MIG] t ∧ t = { s with regs := t.regs }) ∧
  (∀ (s : State) (p : Port) (w : Word) (h : Nat), h = w.toNat % 2 ^ 64 → h < s.lgHead ∨ s.lgTail < h ∨ s.mode = Mode.RESET →
    ∃ t : State, exec (.lgHeadWrite p w) s = .next t ∧ t.lgHead = s.lgHead ∧ t.lgMig = s.lgMig ∧ t.lgTail = s.lgTail ∧
      t = { s with regs := t.regs, logWait := t.logWait, cpFrame := t.cpFrame }) ∧
  (∀ (s : State) (p : Port) (w : Word), s.mode ≠ Mode.RESET → s.lgMig = s.lgHead →
    (Reg.LG_OVF.EN.of w = 1 → s.flag Reg.LG_OVF.EN = false → Reg.LG_OVF.BASE.of w % 4096 = 0 →
      (s.regionOf 3 (Reg.LG_OVF.BASE.of w) (Reg.LG_OVF.SIZE.of w * 4096)).isSome = true →
      ∃ u : State, exec (.lgOvfWrite p w) s = .next u.refreshLeases ∧ u.flag Reg.LG_OVF.EN = true ∧ u.get Reg.LG_OVF.BASE = Reg.LG_OVF.BASE.of w ∧
        u.ringCap = Reg.LG_OVF.SIZE.of w * 256 ∧ s.SameWords [Reg.LG_OVF.word] u ∧ u = { s with regs := u.regs }) ∧
    (Reg.LG_OVF.EN.of w = 0 → ∃ u : State, exec (.lgOvfWrite p w) s = .next u.refreshLeases ∧ u.flag Reg.LG_OVF.EN = false ∧
      s.SameWords [Reg.LG_OVF.word] u ∧ u = { s with regs := u.regs })) ∧
  (∀ (s : State) (p : Port) (w : Word), s.mode = Mode.RESET ∨ s.lgMig ≠ s.lgHead ∨ (Reg.LG_OVF.EN.of w = 1 ∧ (s.flag Reg.LG_OVF.EN = true ∨
      Reg.LG_OVF.BASE.of w % 4096 ≠ 0 ∨ (s.regionOf 3 (Reg.LG_OVF.BASE.of w) (Reg.LG_OVF.SIZE.of w * 4096)).isSome = false)) →
    ∃ t : State, exec (.lgOvfWrite p w) s = .next t ∧ t.reg Reg.LG_OVF.word = s.reg Reg.LG_OVF.word ∧
      t = { s with regs := t.regs, logWait := t.logWait, cpFrame := t.cpFrame }) ∧
  (∀ (s : State) (p : Port), s.mode ≠ Mode.RESET →
    (∃ t : State, exec (.lgCmdClear p) s = .next t ∧ t.lgHead = s.lgTail ∧ t.lgMig = s.lgTail ∧ t.lgTail = s.lgTail ∧
      s.SameFields [Reg.LG_HEAD.HEAD, Reg.LG_SEQ.MIG] t ∧ t = { s with regs := t.regs }) ∧
    (∃ t : State, exec (.lgCmdRelease p) s = .next t ∧ t.flag Reg.LG_SNAPSTAT.LOCKED = false ∧ s.SameFields [Reg.LG_SNAPSTAT.LOCKED] t ∧
      t = { s with regs := t.regs })) ∧
  (∀ (s : State) (p : Port) (i : Instr), s.mode = Mode.RESET → i ∈ [Instr.lgCmdClear p, .lgCmdRelease p] →
    ∃ t : State, exec i s = .next t ∧ t.lgHead = s.lgHead ∧ t.lgMig = s.lgMig ∧ t.get Reg.LG_SNAPSTAT.LOCKED = s.get Reg.LG_SNAPSTAT.LOCKED ∧
      t = { s with regs := t.regs, logWait := t.logWait, cpFrame := t.cpFrame })

/-- R393 to R398: snapshots. `u` is the state after the readings of an evaluation that falls into the same beat. -/
def Obligations.Snapshots : Prop :=
  (∀ (s : State) (p : Port) (w : Word), s.mode ≠ Mode.RESET → s.snapsPending < 8 → Reg.LG_SNAP.MULTI.of w = 0 → s.cntValid = true →
    s.now + 2 ≤ Reg.LG_SNAP.BEAT.of w →
    exec (.lgSnapWrite p w) s =
      .next { s with snaps := s.snaps ++ [⟨Reg.LG_SNAP.BEAT.of w, Reg.LG_SNAP.TAG.of w, Reg.LG_SNAP.RECORD.of w == 1⟩] }) ∧
  (∀ (s : State) (p : Port) (w : Word), s.mode ≠ Mode.RESET → s.snapsPending < 8 → Reg.LG_SNAP.MULTI.of w = 1 → s.role = Role.ROOT →
    s.locked = true → Reg.LG_SNAP.TAG.of w ≠ 0 → s.cntValid = true → s.now + (128 + 64 * (s.get Reg.TB_STAT.HOP + 1)) ≤ Reg.LG_SNAP.BEAT.of w →
    ∃ t : State, exec (.lgSnapWrite p w) s = .next t ∧
      t.tb.queue = s.tb.queue ++ [⟨Fk.SNAPSHOT, cmdPayload (Reg.LG_SNAP.TAG.of w) (Reg.LG_SNAP.BEAT.of w)⟩] ∧
      t.snaps = s.snaps ∧ t.snapsPending = s.snapsPending + 1 ∧ t = { s with tb := t.tb }) ∧
  (∀ (s : State) (p : Port) (w : Word), s.mode = Mode.RESET ∨ 8 ≤ s.snapsPending ∨ s.cntValid = false ∨ Reg.LG_SNAP.BEAT.of w < s.now + 2 ∨
      (Reg.LG_SNAP.MULTI.of w = 1 ∧ (s.role ≠ Role.ROOT ∨ s.locked = false ∨ Reg.LG_SNAP.TAG.of w = 0)) →
    ∃ t : State, exec (.lgSnapWrite p w) s = .next t ∧ t.snaps = s.snaps ∧ t.tb = s.tb ∧
      t = { s with regs := t.regs, logWait := t.logWait, cpFrame := t.cpFrame }) ∧
  (∀ (s : State) (f x : BitVec 64) (off : Fin 64) (record : Bool), s.Receives f off Fk.SNAPSHOT x → s.tb.snapOrigin = [] →
    (s.locked = true → s.snapsPending < 8 → ∃ t : State, exec (.snapshotFrame f off record) s = .next t ∧
      t.snaps = s.snaps ++ [⟨resolve24 s.now (fr x 31 8), fr x 47 32, record⟩] ∧
      s.SameFields [Reg.TB_STAT.HOP, Reg.TB_STAT.SYNC_INV, Reg.TB_SYNC_ERR.FRAMES_OK, Reg.LOG_STAT.DROPPED] t) ∧
    (s.locked = false → ∃ t : State, exec (.snapshotFrame f off record) s = .next t ∧ t.snaps = s.snaps ∧ t.flag Reg.LG_SNAPSTAT.MISSED = true ∧
      t.alertPending Alert.SNAPSHOT = true)) ∧
  (∀ (s u : State) (p : PendSnap), u = s.hkReadings → u.snaps.filter (fun q => decide (q.beat ≤ u.now)) = [p] → p.tag < 2 ^ 16 →
    (u.flag Reg.LG_SNAPSTAT.LOCKED = false → ∃ t : State, exec .snapshot s = .next t ∧
      (∀ a, t.heldReg a &&& accMask .hr a = u.reg a &&& accMask .hr a) ∧
      t.get Reg.LG_SNAPSTAT.BEAT = u.now ∧ t.get Reg.LG_SNAPSTAT.TAG = p.tag ∧ t.get Reg.LG_SNAPSTAT.TAG2 = 0 ∧
      t.get Reg.LG_SNAPSTAT.SEQ = (u.get Reg.LG_SNAPSTAT.SEQ + 1) % 2 ^ 16 ∧
      t.flag Reg.LG_SNAPSTAT.LOCKED = u.flag Reg.LG_SNAPCFG.LOCK ∧ t.flag ⟨0x005004, Intr.SNAP_TAKEN, Intr.SNAP_TAKEN⟩ = true ∧
      t.snaps = u.snaps.filter (fun q => !decide (q.beat ≤ u.now)) ∧
      (p.record = true → ∀ n < 64, u.siteState n ≠ Site.EMPTY →
        u.Records t n Kind.SNAPSHOT (Flag.DEVICE ||| u.siteFlags n) 0 (p.tag * 2 ^ 32 + u.now / 2 ^ 32 % 2 ^ 32)) ∧
      (p.record = false → t.pendRecs = u.pendRecs) ∧
      u.SameWords [Reg.LG_SNAPSTAT.word, Reg.HL_INT.word] t ∧
      t = { u with regs := t.regs, held := t.held, snaps := t.snaps, pendRecs := t.pendRecs, msix := t.msix }) ∧
    (u.flag Reg.LG_SNAPSTAT.LOCKED = true → ∃ t : State, exec .snapshot s = .next t ∧ t.held = u.held ∧ t.flag Reg.LG_SNAPSTAT.MISSED = true ∧
      t.flag Reg.LG_SNAPSTAT.SKIPPED = true ∧ t.pendRecs = u.pendRecs ∧
      t.snaps = u.snaps.filter (fun q => !decide (q.beat ≤ u.now)) ∧
      u.SameFields [Reg.LG_SNAPSTAT.MISSED, Reg.LG_SNAPSTAT.SKIPPED, Reg.LOG_STAT.DROPPED] t)) ∧
  (∀ (s u : State) (p q : PendSnap), u = s.hkReadings → u.snaps.filter (fun q => decide (q.beat ≤ u.now)) = [p, q] → p.tag < 2 ^ 16 → q.tag < 2 ^ 16 →
    u.flag Reg.LG_SNAPSTAT.LOCKED = false → ∃ t : State, exec .snapshot s = .next t ∧
      (∀ a, t.heldReg a &&& accMask .hr a = u.reg a &&& accMask .hr a) ∧
      t.get Reg.LG_SNAPSTAT.TAG = min p.tag q.tag ∧ t.get Reg.LG_SNAPSTAT.TAG2 = max p.tag q.tag ∧
      t.get Reg.LG_SNAPSTAT.SEQ = (u.get Reg.LG_SNAPSTAT.SEQ + 1) % 2 ^ 16) ∧
  (∀ (s u : State), u = s.hkReadings → (∀ p ∈ u.snaps, u.now < p.beat) → exec .snapshot s = .next u)

/-- R405, R409 to R411, R414, R415: the training of lane `l`; `w` is the block after the lane's inversions. -/
def Obligations.LaneTraining : Prop :=
  (∀ (s : State) (l : Fin 32) (raw : Word), s.laneState l ≠ Ln.TRAIN ∨ (s.lane l).retryAt ≠ none → exec (.trainingBlock l raw) s = .next s) ∧
  (∀ (s : State) (l : Fin 32) (raw w : Word), s.laneState l = Ln.TRAIN → (s.lane l).retryAt = none → (s.lane l).aligned = false →
    w = s.lineBlock l raw →
    (blockOk w = true → exec (.trainingBlock l raw) s =
      .next (s.setLane l { s.lane l with run := (s.lane l).run + 1, runInv := 0, aligned := decide (3 ≤ (s.lane l).run) })) ∧
    (blockOk w = false → s.flag (Reg.DL_CTRL.AUTO_POL l) = false ∨ blockOk (~~~w) = false → exec (.trainingBlock l raw) s =
      .next (s.setLane l { s.lane l with run := 0, runInv := 0 })) ∧
    (blockOk w = false → s.flag (Reg.DL_CTRL.AUTO_POL l) = true → blockOk (~~~w) = true → (s.lane l).runInv = 3 →
      ∃ t : State, exec (.trainingBlock l raw) s = .next t ∧ t.flag (Reg.DL_STAT.RX_POLINV l) = true ∧ t.flag (Reg.DL_STAT.POLINV l) = true ∧
        (t.lane l).aligned = true ∧ s.LaneEvent t l Ev.LANE_POLINV 0 ∧ s.LaneOnly t l)) ∧
  (∀ (s : State) (l : Fin 32) (raw w : Word) (p : Nat), s.trains l p → (s.lane l).aligned = true → w = s.lineBlock l raw →
    blockOk w = false ∨ wget w 95 92 = 0 ∨ 6 < wget w 95 92 ∨ 7 < wget w 91 88 →
    exec (.trainingBlock l raw) s = .next (s.setLane l { s.lane l with trn := 0, ack := 0 })) ∧
  (∀ (s : State) (l : Fin 32) (raw w : Word) (p : Nat), s.trains l p → (s.lane l).aligned = true → w = s.lineBlock l raw → blockOk w = true →
    1 ≤ wget w 95 92 → wget w 95 92 ≤ 6 → wget w 91 88 ≤ 7 → ∃ t : State, exec (.trainingBlock l raw) s = .next t ∧ (t.lane l).anyGood = true ∧ s.LaneOnly t l ∧
      (p = 0 → wget w 95 92 = 1 → wget w 91 88 = s.get (Reg.DL_STAT.RATE l) → wget w 83 83 = 1 → (t.lane l).trn = (s.lane l).trn + 1 ∧
        (31 ≤ (s.lane l).trn → s.flag (Reg.DL_STAT.LOL l) = false → t.get (Reg.DL_STAT.PHASE l) = 1 ∧ (t.lane l).eqAt = s.now ∧
          (t.lane l).eqOwn = !s.flag (Reg.DL_RX.ADAPT l)) ∧
        ((s.lane l).trn < 31 ∨ s.flag (Reg.DL_STAT.LOL l) = true → t.get (Reg.DL_STAT.PHASE l) = 0)) ∧
      (p = 0 → wget w 95 92 ≠ 1 ∨ wget w 91 88 ≠ s.get (Reg.DL_STAT.RATE l) ∨ wget w 83 83 = 0 → (t.lane l).trn = 0 ∧ t.get (Reg.DL_STAT.PHASE l) = 0) ∧
      (p = 1 → t.get (Reg.DL_STAT.PHASE l) = (if wget w 82 82 = 1 ∧ (s.lane l).eqOwn = true then 2 else 1) ∧
        (wget w 82 82 = 1 → (s.lane l).eqOwn = true → (t.lane l).next = s.nextRate l (s.get (Reg.DL_STAT.RATE l)) ∧
          (t.lane l).deadline = some (s.now + wget (s.lane l).trnWord 31 0))) ∧
      (p = 2 → (s.lane l).next = none → wget w 95 92 = 6 → 7 ≤ (s.lane l).fin → t.laneState l = Ln.UP ∧ t.get (Reg.DL_STAT.UP_BEAT l) = s.now % 2 ^ 32 ∧
        s.LaneEvent t l Ev.LANE_UP (s.get (Reg.DL_STAT.RATE l) * 2 ^ 32 + s.get (Reg.DL_STAT.ATTEMPT l) * 2 ^ 24)) ∧
      (p = 2 → (s.lane l).next = none → (wget w 95 92 ≠ 6 ∧ (s.lane l).fin < 8) ∨ (s.lane l).fin < 7 → t.regs = s.regs ∧
        (t.lane l).fin = (s.lane l).fin + (if wget w 95 92 = 6 then 1 else 0)) ∧
      (∀ r < 8, p = 2 → (s.lane l).next = some r → wget w 95 92 = 4 → (t.lane l).next = none ∧ t.flag (Reg.DL_STAT.NAK l) = true ∧
        t.get (Reg.DL_STAT.PHASE l) = 2 ∧ (t.lane l).mask = (s.lane l).mask % 2 ^ r ∧ s.LaneEvent t l Ev.LANE_NAK (r * 2 ^ 32)) ∧
      (∀ r, p = 2 → (s.lane l).next = some r → wget w 95 92 ≠ 4 →
        (t.lane l).ack = (if wget w 95 92 = 3 ∧ wget w 91 88 = r then (s.lane l).ack + 1 else 0) ∧
        t.get (Reg.DL_STAT.PHASE l) = (if wget w 95 92 = 3 ∧ wget w 91 88 = r ∧ 7 ≤ (s.lane l).ack then 3 else 2) ∧ (t.lane l).cd = 15)) ∧
  (∀ (s : State) (l : Fin 32), s.trains l 3 →
    ((s.lane l).cd ≠ 0 → exec (.blockSent l) s = .next (s.setLane l { s.lane l with cd := (s.lane l).cd - 1 })) ∧
    ((s.lane l).cd = 0 → ∃ t : State, exec (.blockSent l) s = .next t ∧ t.get (Reg.DL_STAT.PHASE l) = 4 ∧ (t.lane l).gapEnd = s.now + 100 ∧
      s.SameFields [Reg.DL_STAT.PHASE l] t ∧ t = { s with regs := t.regs, lanes := t.lanes })) ∧
  (∀ (s : State) (l : Fin 32), s.laneState l ≠ Ln.TRAIN ∨ s.get (Reg.DL_STAT.PHASE l) ≠ 3 → exec (.blockSent l) s = .next s) ∧
  (∀ (s : State) (l : Fin 32) (r : Nat), s.trains l 4 → (s.lane l).next = some r → r < 8 →
    ((s.lane l).gapEnd ≤ s.now → ∃ t : State, exec (.gapEnd l) s = .next t ∧ t.get (Reg.DL_STAT.RATE l) = r ∧ t.get (Reg.DL_STAT.PHASE l) = 0 ∧
      (t.lane l).deadline = some (s.now + s.get (Reg.DL_TRN.TRAIN_WIN l)) ∧ (t.lane l).aligned = false ∧ (t.lane l).trn = 0 ∧
      t.get (Reg.DL_EQ.CTLE l) = s.get (Reg.DL_EQSET.CTLE l) ∧ t.get (Reg.DL_EQ.TAPS l) = s.get (Reg.DL_EQSET.TAPS l) ∧
      t.flag (Reg.DL_STAT.FROZEN l) = false ∧ t.laneState l = Ln.TRAIN ∧ s.LaneOnly t l) ∧
    (s.now < (s.lane l).gapEnd → exec (.gapEnd l) s = .next s)) ∧
  (∀ (s : State) (l : Fin 32), s.trains l 1 →
    ((s.lane l).eqAt + wget (s.lane l).trnWord 63 32 ≤ s.now → ∃ t : State, exec (.eqTimeExpiry l) s = .next t ∧ (t.lane l).eqOwn = true ∧
      t.get (Reg.DL_STAT.PHASE l) = (if (s.lane l).eqPeer then 2 else 1) ∧ s.LaneOnly t l) ∧
    (s.now < (s.lane l).eqAt + wget (s.lane l).trnWord 63 32 → exec (.eqTimeExpiry l) s = .next s))

/-- R404, R413, R415: failures, retries and loss of lane `l`. -/
def Obligations.LaneFailures : Prop :=
  (∀ (s : State) (l : Fin 32) (b : Nat), s.laneState l = Ln.TRAIN → s.get (Reg.DL_STAT.PHASE l) ≤ 1 → (s.lane l).deadline = some b → b ≤ s.now →
    s.get (Reg.DL_STAT.RATE l) = 0 → (s.lane l).anyGood = false → ∃ t : State, exec (.trainWinExpiry l) s = .next t ∧ t.laneState l = Ln.PARKED ∧
      t.flag (Reg.DL_STAT.SILENT l) = true ∧ s.LaneEvent t l Ev.LANE_SILENT (s.get (Reg.DL_STAT.ATTEMPT l) * 2 ^ 24 + 1) ∧
      s.SameFields [Reg.DL_STAT.STATE l, Reg.DL_STAT.SILENT l, Reg.LOG_STAT.DROPPED] t ∧ s.LaneOnly t l) ∧
  (∀ (s : State) (l : Fin 32) (b : Nat) (c : Instr × Fld × Nat), s.laneState l = Ln.TRAIN → (s.lane l).retryAt = none →
    c ∈ [(.trainWinExpiry l, Reg.DL_STAT.STEPFAIL l, Ev.LANE_STEPFAIL), (.ackWinExpiry l, Reg.DL_STAT.STEPFAIL l, Ev.LANE_STEPFAIL),
      (.laneLost l, Reg.DL_STAT.LOST l, Ev.LANE_LOST)] →
    (c.1 = .trainWinExpiry l → s.get (Reg.DL_STAT.PHASE l) ≤ 1 ∧ (s.lane l).deadline = some b ∧ b ≤ s.now ∧
      (s.get (Reg.DL_STAT.RATE l) ≠ 0 ∨ (s.lane l).anyGood = true)) →
    (c.1 = .ackWinExpiry l → s.get (Reg.DL_STAT.PHASE l) = 2 ∧ (s.lane l).deadline = some b ∧ b ≤ s.now) →
    (c.1 = .laneLost l → (s.lane l).anyGood = true ∧ s.flag (Reg.DL_STAT.LOS l) = true ∧ (s.lane l).losAt + 100 ≤ s.now ∧
      (∀ e, (s.lane l).swEnd = some e → e + 300 ≤ s.now)) →
    ∃ t : State, exec c.1 s = .next t ∧ t.flag c.2.1 = true ∧ s.LaneOnly t l ∧
      s.LaneEvent t l c.2.2 (s.get (Reg.DL_STAT.RATE l) * 2 ^ 32 + s.get (Reg.DL_STAT.ATTEMPT l) * 2 ^ 24 + s.get (Reg.DL_STAT.PHASE l) * 2 ^ 16 +
        (if s.get (Reg.DL_CTRL.RETRIES l) < s.get (Reg.DL_STAT.ATTEMPT l) then 1 else 0)) ∧
      (s.get (Reg.DL_CTRL.RETRIES l) < s.get (Reg.DL_STAT.ATTEMPT l) → t.laneState l = Ln.PARKED ∧ t.get (Reg.DL_STAT.CAP l) = s.get (Reg.DL_STAT.CAP l)) ∧
      (s.get (Reg.DL_STAT.ATTEMPT l) ≤ s.get (Reg.DL_CTRL.RETRIES l) → t.laneState l = Ln.TRAIN ∧ (t.lane l).retryAt = some (s.now + 100) ∧
        (t.lane l).deadline = none ∧ t.get (Reg.DL_STAT.CAP l) =
          (if s.flag (Reg.DL_CTRL.CAP_ON_FAIL l) then (s.lane l).best.getD 0 % 8 else s.get (Reg.DL_STAT.CAP l)))) ∧
  (∀ (s : State) (l : Fin 32), s.laneState l ≠ Ln.TRAIN ∨ ((s.lane l).deadline = none ∧ s.flag (Reg.DL_STAT.LOS l) = false) →
    ∀ i ∈ [Instr.trainWinExpiry l, .ackWinExpiry l, .laneLost l], exec i s = .next s) ∧
  (∀ (s : State) (l : Fin 32) (b : Nat), s.laneState l = Ln.TRAIN → (s.lane l).retryAt = some b →
    (b ≤ s.now → ∃ t : State, exec (.retryGapEnd l) s = .next t ∧ t.get (Reg.DL_STAT.ATTEMPT l) = (s.get (Reg.DL_STAT.ATTEMPT l) + 1) % 32 ∧
      t.get (Reg.DL_STAT.RATE l) = 0 ∧ t.get (Reg.DL_STAT.PHASE l) = 0 ∧ t.get (Reg.DL_CNT.TRAINS l) = (s.get (Reg.DL_CNT.TRAINS l) + 1) % 2 ^ 12 ∧
      (t.lane l).retryAt = none ∧ (t.lane l).anyGood = false ∧ (t.lane l).deadline = some (s.now + s.get (Reg.DL_TRN.TRAIN_WIN l)) ∧ s.LaneOnly t l) ∧
    (s.now < b → exec (.retryGapEnd l) s = .next s)) ∧
  (∀ (s : State) (l : Fin 32) (on : Bool), s.laneState l ≠ Ln.OFF →
    (∃ t : State, exec (.losChange l on) s = .next t ∧ t.flag (Reg.DL_STAT.LOS l) = on ∧ (s.flag (Reg.DL_STAT.LOS l) ≠ on → (t.lane l).losAt = s.now) ∧
      s.SameFields [Reg.DL_STAT.LOS l] t ∧ s.LaneOnly t l) ∧
    (s.laneState l ≠ Ln.PARKED → ∃ t : State, exec (.lolChange l on) s = .next t ∧ t.flag (Reg.DL_STAT.LOL l) = on ∧
      (s.flag (Reg.DL_STAT.LOL l) ≠ on → (t.lane l).lolAt = s.now) ∧ s.SameFields [Reg.DL_STAT.LOL l, Reg.DL_STAT.PHASE l] t ∧ s.LaneOnly t l)) ∧
  (∀ (s : State) (l : Fin 32) (on : Bool), (s.laneState l = Ln.OFF → exec (.losChange l on) s = .next s) ∧
    (s.laneState l = Ln.OFF ∨ s.laneState l = Ln.PARKED → exec (.lolChange l on) s = .next s)) ∧
  (∀ (s : State) (l : Fin 32), s.laneState l = Ln.UP → (s.flag (Reg.DL_STAT.LOS l) = true ∧ (s.lane l).losAt + 100 ≤ s.now) ∨
      (s.flag (Reg.DL_STAT.LOL l) = true ∧ (s.lane l).lolAt + 100 ≤ s.now) →
    ∃ t : State, exec (.laneDown l) s = .next t ∧ t.flag (Reg.DL_STAT.DOWN l) = true ∧ t.flag (Reg.DL_STAT.SYNC l) = false ∧ s.LaneOnly t l ∧
      s.LaneEvent t l Ev.LANE_DOWN (s.get (Reg.DL_STAT.RATE l) * 2 ^ 32 + s.get (Reg.DL_STAT.LOL l) * 2 + s.get (Reg.DL_STAT.LOS l)) ∧
      (s.get (Reg.DL_CTRL.MODE l) = 2 → t.laneState l = Ln.LOCKING ∧ t.get (Reg.DL_STAT.RATE l) = s.get (Reg.DL_CTRL.DIRECT_RATE l)) ∧
      (s.get (Reg.DL_CTRL.MODE l) = 1 → s.flag (Reg.DL_CTRL.RETRAIN l) = true → t.laneState l = Ln.TRAIN ∧ t.get (Reg.DL_STAT.ATTEMPT l) = 1 ∧
        t.get (Reg.DL_STAT.RATE l) = 0 ∧ t.get (Reg.DL_STAT.CAP l) = 7) ∧
      (s.get (Reg.DL_CTRL.MODE l) = 1 → s.flag (Reg.DL_CTRL.RETRAIN l) = false → t.laneState l = Ln.PARKED)) ∧
  (∀ (s : State) (l : Fin 32), s.laneState l ≠ Ln.UP ∨ (s.flag (Reg.DL_STAT.LOS l) = false ∧ s.flag (Reg.DL_STAT.LOL l) = false) →
    exec (.laneDown l) s = .next s) ∧
  (∀ (s : State) (l : Fin 32), s.laneState l = Ln.LOCKING → s.flag (Reg.DL_STAT.LOL l) = false →
    ((s.lane l).lolAt + 100 ≤ s.now → ∃ t : State, exec (.directLock l) s = .next t ∧ t.laneState l = Ln.UP ∧
      t.get (Reg.DL_STAT.UP_BEAT l) = s.now % 2 ^ 32 ∧ s.LaneOnly t l ∧
      s.LaneEvent t l Ev.LANE_UP (s.get (Reg.DL_STAT.RATE l) * 2 ^ 32 + s.get (Reg.DL_STAT.ATTEMPT l) * 2 ^ 24)) ∧
    (s.now < (s.lane l).lolAt + 100 → exec (.directLock l) s = .next s))

/-- R406 to R408, R417, R418: adaptation, the checker and LTEST of lane `l`. -/
def Obligations.LaneAdaptationAndChecker : Prop :=
  (∀ (s : State) (l : Fin 32) (o : AdaptObs), s.adapts l = false → exec (.adaptUpdate l o) s = .next s ∧ exec (.adaptFreeze l) s = .next s) ∧
  (∀ (s : State) (l : Fin 32) (o : AdaptObs) (v : Nat), s.adapts l = true →
    v = (List.range 5).foldl (fun m i => m + fieldOf 8 (o.taps.getD i 0) * 2 ^ (8 * i)) 0 →
    (s.flag (Reg.DL_EQ.SNAP_VALID l) = false ∨ (s.lane l).cmpLeft = 0 → ∃ t : State, exec (.adaptUpdate l o) s = .next t ∧
      t.get (Reg.DL_EQ.CTLE l) = o.ctle.toNat ∧ t.get (Reg.DL_EQ.TAPS l) = v ∧ s.SameFields [Reg.DL_EQ.CTLE l, Reg.DL_EQ.TAPS l] t ∧
      t = { s with regs := t.regs }) ∧
    (s.flag (Reg.DL_EQ.SNAP_VALID l) = true → (s.lane l).cmpLeft ≠ 0 → s.excursion l o.ctle.toNat v = 0 → ∃ t : State, exec (.adaptUpdate l o) s = .next t ∧
      t.get (Reg.DL_EQ.CTLE l) = o.ctle.toNat ∧ t.get (Reg.DL_EQ.TAPS l) = v ∧ (t.lane l).cmpLeft = (s.lane l).cmpLeft - 1 ∧
      t.flag (Reg.DL_EQ.SNAP_VALID l) = decide ((s.lane l).cmpLeft ≠ 1) ∧ s.SameWords [Reg.DL_EQ.word l] t ∧ s.LaneOnly t l) ∧
    (s.flag (Reg.DL_EQ.SNAP_VALID l) = true → (s.lane l).cmpLeft ≠ 0 → s.excursion l o.ctle.toNat v ≠ 0 → ∃ t : State, exec (.adaptUpdate l o) s = .next t ∧
      t.get (Reg.DL_EQ.CTLE l) = s.get (Reg.DL_EQ.SNAP_CTLE l) ∧ t.get (Reg.DL_EQ.TAPS l) = s.get (Reg.DL_EQ.SNAP_TAPS l) ∧
      t.flag (Reg.DL_STAT.REVERT l) = true ∧ (t.lane l).cmpLeft = 1024 ∧ s.LaneEvent t l Ev.ADAPT_REVERT (s.excursion l o.ctle.toNat v) ∧
      s.SameFields [Reg.DL_EQ.CTLE l, Reg.DL_EQ.TAPS l, Reg.DL_STAT.REVERT l, Reg.LOG_STAT.DROPPED] t ∧ s.LaneOnly t l)) ∧
  (∀ (s : State) (l : Fin 32), s.adapts l = true → ∃ t : State, exec (.adaptFreeze l) s = .next t ∧
    t.get (Reg.DL_EQ.SNAP_CTLE l) = s.get (Reg.DL_EQ.CTLE l) ∧ t.get (Reg.DL_EQ.SNAP_TAPS l) = s.get (Reg.DL_EQ.TAPS l) ∧
    t.flag (Reg.DL_EQ.SNAP_VALID l) = true ∧ t.flag (Reg.DL_STAT.FROZEN l) = true ∧ t.adapts l = false ∧
    s.SameFields [Reg.DL_EQ.SNAP_CTLE l, Reg.DL_EQ.SNAP_TAPS l, Reg.DL_EQ.SNAP_VALID l, Reg.DL_STAT.FROZEN l] t ∧ s.LaneOnly t l) ∧
  (∀ (s : State) (l : Fin 32), (s.flag (Reg.DL_STAT.FROZEN l) = false → exec (.adaptRestart l) s = .next s) ∧
    (s.flag (Reg.DL_STAT.FROZEN l) = true → ∃ t : State, exec (.adaptRestart l) s = .next t ∧
      t.get (Reg.DL_EQ.CTLE l) = s.get (Reg.DL_EQ.SNAP_CTLE l) ∧ t.get (Reg.DL_EQ.TAPS l) = s.get (Reg.DL_EQ.SNAP_TAPS l) ∧
      t.flag (Reg.DL_STAT.FROZEN l) = false ∧ (t.lane l).cmpLeft = 1024 ∧
      s.SameFields [Reg.DL_EQ.CTLE l, Reg.DL_EQ.TAPS l, Reg.DL_STAT.FROZEN l] t ∧ s.LaneOnly t l)) ∧
  (∀ (s : State) (l : Fin 32) (bits errs : Nat), s.laneState l = Ln.UP → s.get (Reg.DL_RX.CHK_PAT l) ≠ 0 →
    (∃ t : State, exec (.checkerSync l bits errs) s = .next t ∧ t.flag (Reg.DL_STAT.SYNC l) = true ∧
      t.get (Reg.DL_CNT.BITS l) = (s.get (Reg.DL_CNT.BITS l) + bits) % 2 ^ 64 ∧
      t.get (Reg.DL_CNT.ERRORS l) = (s.get (Reg.DL_CNT.ERRORS l) + (if s.flag (Reg.DL_STAT.SYNC l) then min errs bits else bits)) % 2 ^ 40 ∧
      s.SameFields [Reg.DL_STAT.SYNC l, Reg.DL_CNT.BITS l, Reg.DL_CNT.ERRORS l] t ∧ t = { s with regs := t.regs }) ∧
    (s.flag (Reg.DL_STAT.SYNC l) = true → ∃ t : State, exec (.checkerSyncLoss l bits errs) s = .next t ∧ t.flag (Reg.DL_STAT.SYNC l) = false ∧
      t.get (Reg.DL_CNT.BITS l) = (s.get (Reg.DL_CNT.BITS l) + bits) % 2 ^ 64 ∧
      t.get (Reg.DL_CNT.ERRORS l) = (s.get (Reg.DL_CNT.ERRORS l) + min errs bits) % 2 ^ 40 ∧
      t.get (Reg.DL_CNT.SYNC_LOSS l) = (s.get (Reg.DL_CNT.SYNC_LOSS l) + 1) % 2 ^ 12 ∧
      s.SameFields [Reg.DL_STAT.SYNC l, Reg.DL_CNT.BITS l, Reg.DL_CNT.ERRORS l, Reg.DL_CNT.SYNC_LOSS l] t ∧ t = { s with regs := t.regs })) ∧
  (∀ (s : State) (l : Fin 32) (bits errs : Nat), s.laneState l ≠ Ln.UP ∨ s.get (Reg.DL_RX.CHK_PAT l) = 0 →
    exec (.checkerSync l bits errs) s = .next s ∧ (s.flag (Reg.DL_STAT.SYNC l) = false → exec (.checkerSyncLoss l bits errs) s = .next s) ∧
    (s.ltests = [] → exec (.ltestCountEnd l bits errs) s = .next s)) ∧
  (∀ (s : State) (l : Fin 32) (x : LTest), s.ltests = [(l.val, x)] → x.owner < 64 →
    (x.due ≤ s.now → ∃ t : State, exec (.ltestCountEnd l 0 0) s = .next t ∧ t.ltests = [] ∧
      (∀ v, v = x.frozen.getD ((s.get (Reg.DL_CNT.ERRORS l) + 2 ^ 40 - x.base) % 2 ^ 40) → v < 2 ^ 47 →
        s.Records t x.owner Kind.LANE_ERRORS ((if x.limit < v ∨ x.frozen ≠ none then Flag.FAIL else 0) ||| s.siteFlags x.owner) l v ∧
        t.get (Reg.SQ_CNT.RECORDS x.owner) = (s.get (Reg.SQ_CNT.RECORDS x.owner) + 1) % 2 ^ 32) ∧ t.mem = s.mem) ∧
    (s.now < x.due → s.laneState l ≠ Ln.UP → exec (.ltestCountEnd l 0 0) s = .next s))

/-- R428 to R438: the module port and discovery. -/
def Obligations.ModulePort : Prop :=
  (∀ (s : State) (p : Port) (w : Word), s.mode ≠ Mode.RESET → s.mode ≠ Mode.SHUTDOWN → s.flag Reg.MP_STAT.BUSY = false → (Reg.MP_XFER.LEN).of w ≤ 4096 →
    ∃ t : State, exec (.mpXferXfer p w) s = .next t ∧ t.flag Reg.MP_STAT.BUSY = true ∧ t.mpOp = some (.xfer w) ∧ s.SameFields [Reg.MP_STAT.BUSY] t ∧
      t = { s with regs := t.regs, mpOp := t.mpOp }) ∧
  (∀ (s : State) (p : Port) (w : Word), s.mode = Mode.RESET ∨ s.mode = Mode.SHUTDOWN ∨ s.flag Reg.MP_STAT.BUSY = true ∨ 4096 < (Reg.MP_XFER.LEN).of w →
    ∃ t : State, exec (.mpXferXfer p w) s = .next t ∧ t.reg Reg.MP_STAT.word = s.reg Reg.MP_STAT.word ∧
      t = { s with regs := t.regs, logWait := t.logWait, cpFrame := t.cpFrame }) ∧
  (∀ (s : State) (p : Port), s.mode = Mode.DISCOVER → s.flag Reg.MP_STAT.BUSY = false →
    ∃ t : State, exec (.mpXferDiscover p) s = .next t ∧ t.flag Reg.MP_STAT.BUSY = true ∧ t.flag Reg.MP_STAT.LIM_VALID = false ∧
      t.mpOp = some (.discover ((List.range 8).filter (fun k => bitOf (s.get Reg.MP_CTRL.SEL_EN) k)) none []) ∧
      (∀ k < 8, t.reg (Reg.MP_MOD.word k) = 0) ∧ (∀ c < 1024, t.reg (Reg.MP_LIMCH.word c) = resetWord (Reg.MP_LIMCH.word c)) ∧
      (∀ e < 1056, t.get (Reg.EE_DESKEW.TRACE_DRV e) = 0 ∧ t.get (Reg.EE_DESKEW.TRACE_RCV e) = 0) ∧ t.boosts = [] ∧
      t = { s with regs := t.regs, mpOp := t.mpOp, pads := [], boosts := [], tileDps := [], cold := [] }) ∧
  (∀ (s : State) (p : Port), s.mode ≠ Mode.DISCOVER ∨ s.flag Reg.MP_STAT.BUSY = true →
    ∃ t : State, exec (.mpXferDiscover p) s = .next t ∧ t.reg Reg.MP_STAT.word = s.reg Reg.MP_STAT.word ∧
      t = { s with regs := t.regs, logWait := t.logWait, cpFrame := t.cpFrame }) ∧
  (∀ (s : State) (p : Port), s.mode ≠ Mode.RESET →
    (∀ w, s.mpOp = some (.xfer w) → ∃ t : State, exec (.mpXferAbort p) s = .next t ∧ t.flag Reg.MP_STAT.BUSY = false ∧ t.mpOp = none ∧
      s.SameFields [Reg.MP_STAT.BUSY] t ∧ t = { s with regs := t.regs, mpOp := none }) ∧
    (∀ ks h ms, s.mpOp = some (.discover ks h ms) → ∃ t : State, exec (.mpXferAbort p) s = .next t ∧ t.flag Reg.MP_STAT.BUSY = false ∧ t.mpOp = none ∧
      t.get Reg.MP_STAT.RESULT = 3 ∧ t.flag Reg.MP_STAT.LIM_VALID = false ∧ t.flag Reg.MP_STAT.DONE = true ∧
      s.SameWords [Reg.MP_STAT.word, Reg.MP_CNT.word, Reg.HL_INT.word] t ∧ t = { s with regs := t.regs, mpOp := none, msix := t.msix }) ∧
    (s.mpOp = none → exec (.mpXferAbort p) s = .next s)) ∧
  (∀ (s : State) (w : Word) (bs : List Byte), s.mpOp = some (.xfer w) → (Reg.MP_XFER.LEN).of w ≤ 4096 → bs.length = (Reg.MP_XFER.LEN).of w →
    ∃ t : State, exec (.mpFrameDone bs) s = .next t ∧ t.flag Reg.MP_STAT.BUSY = false ∧ t.flag Reg.MP_STAT.XFER_DONE = true ∧ t.mpOp = none ∧
      t.get Reg.MP_CNT.FRAMES = (s.get Reg.MP_CNT.FRAMES + 1) % 2 ^ 32 ∧
      (∀ i < 4096, t.get ⟨Reg.MP_BUF.word (i / 16), 8 * (i % 16) + 7, 8 * (i % 16)⟩ = if (Reg.MP_XFER.DIR).of w = 1 ∨ bs.length ≤ i then
        s.get ⟨Reg.MP_BUF.word (i / 16), 8 * (i % 16) + 7, 8 * (i % 16)⟩ else ((bs[i]?).getD 0).toNat) ∧
      t = { s with regs := t.regs, mpOp := none, msix := t.msix }) ∧
  (∀ (s : State) (k : Fin 8) (todo : List Nat) (mods : List (Nat × List Byte)) (d1 d2 : List Byte), s.mpOp = some (.discover (k.val :: todo) none mods) →
    d1.length = 32 → d2.length = 32 → ∃ t : State, exec (.mpFrameDone (d1 ++ d2)) s = .next t ∧
      t.get Reg.MP_CNT.FRAMES = (s.get Reg.MP_CNT.FRAMES + 1) % 2 ^ 32 ∧
      (isMidx d1 = true → t.flag (Reg.MP_MOD.PRESENT k) = true ∧ t.flag (Reg.MP_MOD.REVERSED k) = false ∧
        (lengthOk (imgOf d1) = true → t.mpOp = some (.discover (k.val :: todo) (some (d1, false)) mods) ∧ t.get (Reg.MP_MOD.STATUS k) = 0)) ∧
      (isMidx d1 = false → isMidx d2 = true → t.flag (Reg.MP_MOD.PRESENT k) = true ∧ t.flag (Reg.MP_MOD.REVERSED k) = true ∧
        t.get Reg.MP_CNT.REVERSED = (s.get Reg.MP_CNT.REVERSED + 1) % 2 ^ 32) ∧
      (isMidx d1 = false → isMidx d2 = false → t.mpOp = some (.discover todo none mods) ∧ t.get (Reg.MP_MOD.STATUS k) =
        if (∀ b ∈ d1 ++ d2, b = 0) ∨ (∀ b ∈ d1 ++ d2, b = 0xFF) then Mod.ABSENT else Mod.MAGIC) ∧
      s.SameWords [Reg.MP_MOD.word k, Reg.MP_CNT.word, Reg.LOG_STAT.word] t ∧ t = { s with regs := t.regs, mpOp := t.mpOp, logWait := t.logWait }) ∧
  (∀ (s : State) (k : Fin 8) (todo : List Nat) (h : List Byte) (rev : Bool) (mods : List (Nat × List Byte)) (data bs : List Byte),
    s.mpOp = some (.discover (k.val :: todo) (some (h, rev)) mods) → data.length = u32 (imgOf h) 8 - 32 → bs = h ++ data →
    ∃ t : State, exec (.mpFrameDone data) s = .next t ∧ s.SameWords [Reg.MP_MOD.word k, Reg.MP_CNT.word] t ∧ t = { s with regs := t.regs, mpOp := t.mpOp } ∧
      t.flag (Reg.MP_MOD.PRESENT k) = true ∧ t.flag (Reg.MP_MOD.REVERSED k) = rev ∧
      (∀ e, recordBad bs = some e → e.1 < 2 ^ 8 → t.get (Reg.MP_MOD.STATUS k) = e.1 ∧ t.get (Reg.MP_MOD.ERR_OFFSET k) = e.2 % 2 ^ 16 ∧
        t.mpOp = some (.discover todo none mods)) ∧
      (recordBad bs = none → (∀ m ∈ mods, imgOf m.2 6 ≠ imgOf bs 6) → t.get (Reg.MP_MOD.STATUS k) = Mod.OK ∧
        t.get (Reg.MP_MOD.SERIAL k) = u32 (imgOf bs) 0x0C + 2 ^ 32 * u32 (imgOf bs) 0x10 ∧ t.mpOp = some (.discover todo none (mods ++ [(k.val, bs)]))) ∧
      (recordBad bs = none → (∃ m ∈ mods, imgOf m.2 6 = imgOf bs 6) → t.get (Reg.MP_MOD.STATUS k) = Mod.DUPLICATE ∧
        t.get (Reg.MP_MOD.ERR_OFFSET k) = 6 ∧ t.mpOp = some (.discover todo none mods))) ∧
  (∀ (s : State) (data : List Byte), s.mpOp = none → exec (.mpFrameDone data) s = .next s) ∧
  (∀ (s : State) (h : Option (List Byte × Bool)) (mods : List (Nat × List Byte)) (kt : Nat) (tile : Img), s.mpOp = some (.discover [] h mods) →
    modOf mods 1 = some (kt, tile) → conflicts mods = [] → kt < 8 → s.get (Reg.MP_MOD.STATUS kt) = Mod.OK →
    (∀ k < 8, s.get (Reg.MP_MOD.STATUS k) ≤ Mod.ABSENT) → ∃ t : State, exec .discoveryDone s = .next t ∧ t.get Reg.MP_STAT.RESULT = 0 ∧
      t.flag Reg.MP_STAT.LIM_VALID = true ∧ t.flag Reg.MP_STAT.BUSY = false ∧ t.flag Reg.MP_STAT.DONE = true ∧ t.mpOp = none ∧
      (((recEntries tile 3).map (u16 tile)).Nodup → (∀ o ∈ recEntries tile 3, u16 tile o < 1024) → ∀ o ∈ recEntries tile 3,
        ∀ x, (recEntries tile 2).find? (fun x => u16 tile x == u16 tile (o + 2)) = some x →
          t.get (Reg.MP_LIMCH.NEEDLE (u16 tile o)) = u16 tile x ∧ t.get (Reg.MP_LIMCH.VMAX (u16 tile o)) = u16 tile (x + 8) ∧
          t.get (Reg.MP_LIMCH.VMIN (u16 tile o)) = u16 tile (x + 10) ∧ t.get (Reg.MP_LIMCH.IMAX (u16 tile o)) = u32 tile (x + 12) ∧
          t.get (Reg.MP_LIMCH.TRACE_DRV (u16 tile o)) = (traces tile (modOf mods 2) o).1 % 2 ^ 20 ∧
          t.get (Reg.MP_LIMCH.TRACE_RCV (u16 tile o)) = (traces tile (modOf mods 2) o).2 % 2 ^ 20) ∧ t.mem = s.mem) ∧
  (∀ (s : State) (h : Option (List Byte × Bool)) (mods : List (Nat × List Byte)), s.mpOp = some (.discover [] h mods) → modOf mods 1 = none →
    ∃ t : State, exec .discoveryDone s = .next t ∧ t.get Reg.MP_STAT.RESULT = 1 ∧ t.flag Reg.MP_STAT.BUSY = false ∧ t.flag Reg.MP_STAT.DONE = true ∧
      t.flag Reg.MP_STAT.LIM_VALID = s.flag Reg.MP_STAT.LIM_VALID ∧ t.mpOp = none ∧ (∀ c < 1024, t.reg (Reg.MP_LIMCH.word c) = s.reg (Reg.MP_LIMCH.word c))) ∧
  (∀ s : State, (∀ h ms, s.mpOp ≠ some (.discover [] h ms)) → exec .discoveryDone s = .next s)

/-- R442 to R449: the frames of the control port; `u` is the state after the frame's beginning. R526: the boundary-scan port. -/
def Obligations.ControlPortFramesAndBoundaryScan : Prop :=
  (∀ s : State, ∃ u : State, exec .cpNop s = .next u ∧ u.get Reg.CP_STAT.LAST = s.cpStatus ∧ u.cpFrame = 0 ∧
    u.get Reg.CP_CNT.FRAMES = (s.get Reg.CP_CNT.FRAMES + 1) % 2 ^ 48 ∧ s.SameFields [Reg.CP_STAT.LAST, Reg.CP_CNT.FRAMES] u ∧
    u = { s with regs := u.regs, cpFrame := 0 } ∧
    wget (BitVec.ofNat 128 s.cpStatus) 7 3 = s.cpFrame / 8 % 32 ∧ wget (BitVec.ofNat 128 s.cpStatus) 2 2 = b2n s.alertOut ∧
    wget (BitVec.ofNat 128 s.cpStatus) 0 0 = b2n (s.flag Reg.SI_STAT.BUSY || s.flag Reg.LX_STAT.BUSY || s.flag Reg.CAL_STAT.BUSY ||
      s.flag Reg.MP_STAT.BUSY || s.flag Reg.GD_CSTAT.BUSY)) ∧
  (∀ (s u : State) (a : BitVec 24) (w : Word), exec .cpNop s = .next u → exec (.cpWrite a [w] false) s = .next (u.directWrite .cp a.toNat w) ∧
    (∀ c : BitVec 16, c.toNat = frameCrc a [w] → exec (.cpWriteCrc a [w] c) s = exec (.cpWrite a [w] false) s)) ∧
  (∀ (s u : State) (a : BitVec 24) (w v : Word), exec .cpNop s = .next u →
    (a.toNat < 0xFFFFFF → exec (.cpWrite a [w, v] false) s = .next ((u.directWrite .cp a.toNat w).directWrite .cp (a.toNat + 1) v)) ∧
    (a.toNat = 0xFFFFFF → ∃ t : State, exec (.cpWrite a [w, v] false) s = .next t ∧ t.flag Reg.CP_STAT.OVERRUN = true ∧ t.cpFrame.testBit 4 = true ∧
      (u.directWrite .cp a.toNat w).SameFields [Reg.CP_STAT.OVERRUN] t)) ∧
  (∀ (s u : State) (a : BitVec 24) (ws : List Word) (c : BitVec 16), exec .cpNop s = .next u →
    (1 ≤ ws.length → ws.length ≤ 16 → c.toNat = frameCrc a ws → exec (.cpWriteCrc a ws c) s = exec (.cpWrite a ws false) s) ∧
    (1 ≤ ws.length → ws.length ≤ 16 → c.toNat ≠ frameCrc a ws → ∃ t : State, exec (.cpWriteCrc a ws c) s = .next t ∧ t.flag Reg.CP_STAT.CRC_ERR = true ∧
      t.get Reg.CP_CNT.CRC_ERR = (s.get Reg.CP_CNT.CRC_ERR + 1) % 2 ^ 24 ∧ t.cpFrame = 0x80 ∧
      u.SameFields [Reg.CP_STAT.CRC_ERR, Reg.CP_CNT.CRC_ERR] t ∧ t = { u with regs := t.regs, cpFrame := t.cpFrame }) ∧
    (∀ i ∈ [Instr.frameErr, .cpWriteCrc a [] c, .cpWrite a [] true], ∃ t : State, exec i s = .next t ∧ t.flag Reg.CP_STAT.FRAME_ERR = true ∧
      t.get Reg.CP_CNT.FRAME_ERR = (s.get Reg.CP_CNT.FRAME_ERR + 1) % 2 ^ 24 ∧ t.cpFrame = 0x08 ∧
      u.SameFields [Reg.CP_STAT.FRAME_ERR, Reg.CP_CNT.FRAME_ERR] t ∧ t = { u with regs := t.regs, cpFrame := t.cpFrame })) ∧
  (∀ (s u : State) (a : BitVec 24), exec .cpNop s = .next u → (isHole a.toNat = false → ∃ t : State, exec (.cpRead a 1 false) s = .next t ∧
      t.cpOut = [({ u with cpOut := [] } : State).readHost a.toNat] ∧ t = { u with cpOut := t.cpOut, freeCtr := s.freeCtr + 1 }) ∧
    (isHole a.toNat = true → ∃ t : State, exec (.cpRead a 1 false) s = .next t ∧ t.cpOut = [0] ∧ t.flag Reg.CP_STAT.HOLE = true ∧ t.cpFrame = 0x20 ∧
      u.SameFields [Reg.CP_STAT.HOLE] t ∧ t = { u with regs := t.regs, cpOut := t.cpOut, cpFrame := t.cpFrame }) ∧
    (∀ k, ∃ t : State, exec (.cpRead a k false) s = .next t ∧ t.cpOut.length = k ∧ t.mem = s.mem ∧ s.SameWords [Reg.CP_STAT.word, Reg.CP_CNT.word] t)) ∧
  (∀ (s : State) (shift balls : List Bool),
      (∃ t : State, exec .jtagIdcode s = .next t ∧ t.jtag.captured.length = 32 ∧ (∀ i < 32, t.jtag.captured[i]? = some ((0xA1024E93 : Nat).testBit i)) ∧
        t.jtag.drives = false ∧ t = { s with jtag := t.jtag }) ∧
      (∃ t : State, exec (.jtagSamplePreload shift balls) s = .next t ∧ t.jtag.cells = shift ∧ t.jtag.captured = balls ∧ t.jtag.drives = false ∧
        t = { s with jtag := t.jtag }) ∧
      (s.mode = Mode.RESET ∨ s.mode = Mode.SAFE → ∃ t : State, exec (.jtagExtest shift balls) s = .next t ∧ t.jtag.cells = shift ∧ t.jtag.captured = balls ∧
        t.jtag.drives = true ∧ t = { s with jtag := t.jtag }) ∧
      (s.mode ≠ Mode.RESET → s.mode ≠ Mode.SAFE → ∃ t : State, exec (.jtagExtest shift balls) s = .next t ∧ t.jtag.cells = s.jtag.cells ∧
        t.jtag.captured = [false] ∧ t.jtag.drives = false ∧ t = { s with jtag := t.jtag }) ∧
      (∃ t : State, exec .jtagBypass s = .next t ∧ t.jtag.captured = [false] ∧ t.jtag.drives = false ∧ t.jtag.cells = s.jtag.cells ∧ t = { s with jtag := t.jtag }) ∧
      (∃ t : State, exec .trstN s = .next t ∧ t.jtag.ir = 0x3F ∧ t.jtag.drives = false ∧ t.jtag.cells = s.jtag.cells ∧ t = { s with jtag := t.jtag }))

/-- R457, R459 to R462: BAR0. -/
def Obligations.HostLinkAccess : Prop :=
  (∀ (s : State) (o : BitVec 28) (len : Nat) (ds : List (Option (BitVec 32))), s.link.d3 = true →
    exec (.bar0Read o len) s = .next s ∧ exec (.bar0Write o ds) s = .next s) ∧
  (∀ (s z : State) (a : Nat) (w : Word), s.link.d3 = false → a < 2 ^ 24 → isHole a = false → z = { s with link := { s.link with data := [] } } →
    w = z.readHost a → exec (.bar0Read (BitVec.ofNat 28 (16 * a)) 16) s = .next { s with
      link := { s.link with rd := some (a, w), data := [w.extractLsb' 0 32, w.extractLsb' 32 32, w.extractLsb' 64 32, w.extractLsb' 96 32] }
      freeCtr := s.freeCtr + 1 }) ∧
  (∀ (s : State) (a j : Nat) (w : Word), s.link.d3 = false → a < 2 ^ 24 → 1 ≤ j → j ≤ 3 → s.link.rd = some (a, w) →
    exec (.bar0Read (BitVec.ofNat 28 (16 * a + 4 * j)) 4) s = .next { s with link := { s.link with data := [w.extractLsb' (32 * j) 32] } }) ∧
  (∀ (s z : State) (a j : Nat) (w : Word), s.link.d3 = false → a < 2 ^ 24 → 1 ≤ j → j ≤ 3 → isHole a = false → (∀ x, s.link.rd ≠ some (a, x)) →
    z = { s with link := { s.link with data := [] } } → w = z.readHost a → exec (.bar0Read (BitVec.ofNat 28 (16 * a + 4 * j)) 4) s = .next { s with
      link := { s.link with rd := some (a, w), data := [w.extractLsb' (32 * j) 32] }, freeCtr := s.freeCtr + 1 }) ∧
  (∀ (s : State) (a : Nat), s.link.d3 = false → a < 2 ^ 24 → isHole a = true →
    ∃ t : State, exec (.bar0Read (BitVec.ofNat 28 (16 * a)) 4) s = .next t ∧ t.flag Reg.HL_STAT.HOLE = true ∧ t.get Reg.HL_LAST.CODE = 2 ∧
      t.get Reg.HL_LAST.WORD = a ∧ s.SameWords [Reg.HL_STAT.word, Reg.HL_LAST.word] t ∧ t = { s with regs := t.regs, link := t.link }) ∧
  (∀ (s : State) (a : Nat) (w : Word), s.link.d3 = false → a < 2 ^ 24 → s.link.wr = none → exec (.bar0Write (BitVec.ofNat 28 (16 * a))
      [some (w.extractLsb' 0 32), some (w.extractLsb' 32 32), some (w.extractLsb' 64 32), some (w.extractLsb' 96 32)]) s =
    .next (s.directWrite .bar0 a w)) ∧
  (∀ (s : State) (a j : Nat) (v : BitVec 32), s.link.d3 = false → a < 2 ^ 24 → s.link.wr = none →
    (j < 3 → exec (.bar0Write (BitVec.ofNat 28 (16 * a + 4 * j)) [some v]) s =
      .next { s with link := { s.link with wr := some (a, [none, none, none, none].set j (some v)) } }) ∧
    (j ≤ 3 → exec (.bar0Write (BitVec.ofNat 28 (16 * a + 4 * j)) [none]) s = .next s)) ∧
  (∀ (s : State) (a b : Nat) (l : List (Option (BitVec 32))) (v : BitVec 32), s.link.d3 = false → a < 2 ^ 24 → b < 2 ^ 24 →
    (s.link.wr = none → ∃ t : State, exec (.bar0Write (BitVec.ofNat 28 (16 * a + 12)) [some v]) s = .next t ∧ t.flag Reg.HL_STAT.PARTIAL = true ∧
      t.get Reg.HL_LAST.CODE = 3 ∧ t.get Reg.HL_LAST.WORD = a ∧ s.SameFields [Reg.HL_STAT.PARTIAL, Reg.HL_LAST.BEAT, Reg.HL_LAST.CODE, Reg.HL_LAST.WORD] t ∧
      t = { s with regs := t.regs }) ∧
    (s.link.wr = some (b, l) → b ≠ a → ∃ t : State, exec (.bar0Write (BitVec.ofNat 28 (16 * a)) [some v]) s = .next t ∧ t.flag Reg.HL_STAT.PARTIAL = true ∧
      t.get Reg.HL_LAST.CODE = 3 ∧ t.get Reg.HL_LAST.WORD = b ∧ t.link.wr = some (a, [some v, none, none, none]) ∧
      s.SameFields [Reg.HL_STAT.PARTIAL, Reg.HL_LAST.BEAT, Reg.HL_LAST.CODE, Reg.HL_LAST.WORD] t ∧ t = { s with regs := t.regs, link := t.link })) ∧
  (∀ (s : State) (p : Port) (c : Fin 4) (w : Word), s.mode ≠ Mode.RESET → w.toNat % 4 ≠ 3 →
    w.toNat / 2 ^ 64 % 2 ^ 40 < (if w.getLsbD 4 then 0x1000000 else 2 ^ 35) →
    ∃ t : State, exec (.hlBulkWrite p c w) s = .next t ∧ t.get (Reg.HL_BULK.MODE c) = w.toNat % 4 ∧ t.get (Reg.HL_BULK.TARGET c) = b2n (w.getLsbD 4) ∧
      t.get (Reg.HL_BULK.PTR c) = w.toNat / 2 ^ 64 % 2 ^ 40 ∧ s.SameWords [Reg.HL_BULK.word c] t ∧ t = { s with regs := t.regs }) ∧
  (∀ (s : State) (p : Port) (c : Fin 4) (w : Word), s.mode = Mode.RESET ∨ w.toNat % 4 = 3 ∨
      (if w.getLsbD 4 then 0x1000000 else 2 ^ 35) ≤ w.toNat / 2 ^ 64 % 2 ^ 40 →
    ∃ t : State, exec (.hlBulkWrite p c w) s = .next t ∧ t.reg (Reg.HL_BULK.word c) = s.reg (Reg.HL_BULK.word c) ∧
      t = { s with regs := t.regs, logWait := t.logWait, cpFrame := t.cpFrame })

/-- R457, R458, R466: the link and its messages. -/
def Obligations.HostLinkState : Prop :=
  (∀ (s : State) (sp : BitVec 3) (wd : BitVec 4) (rv : Bool) (pi : BitVec 8), ∃ t : State, exec (.linkUp sp wd rv pi) s = .next t ∧
    t.flag Reg.HL_LINK.UP = true ∧ t.get Reg.HL_LINK.SPEED = sp.toNat ∧ t.get Reg.HL_LINK.WIDTH = wd.toNat ∧ t.get Reg.HL_LINK.REVERSED = b2n rv ∧
    t.get Reg.HL_LINK.POLINV = pi.toNat ∧ t.flag Reg.HL_STAT.DEGRADED = (decide (sp.toNat < 5) || decide (wd.toNat < 8)) ∧
    t.get Reg.HL_CNT.DOWNTRAINS = (s.get Reg.HL_CNT.DOWNTRAINS + (if sp.toNat < 5 ∨ wd.toNat < 8 then 1 else 0)) % 2 ^ 32 ∧
    ((s.flag Reg.HL_LINK.UP = true ∧ s.get Reg.HL_LINK.WIDTH ≠ wd.toNat) ∨ (wd.toNat < 8 ∧ s.flag Reg.HL_STAT.DEGRADED = false) →
      t.flag ⟨0x005004, Intr.LINK, Intr.LINK⟩ = true) ∧
    s.SameWords [Reg.HL_LINK.word, Reg.HL_STAT.word, Reg.HL_CNT.word, Reg.HL_INT.word, Reg.LOG_STAT.word] t ∧
    t = { s with regs := t.regs, logWait := t.logWait, msix := t.msix }) ∧
  (∀ s : State, ∃ t : State, exec .linkRecovery s = .next t ∧ t.get Reg.HL_CNT.RETRAINS = (s.get Reg.HL_CNT.RETRAINS + 1) % 2 ^ 32 ∧
    s.SameFields [Reg.HL_CNT.RETRAINS] t ∧ t = { s with regs := t.regs }) ∧
  (∀ s : State, (s.flag Reg.HL_LINK.UP = false → exec .linkDown s = .next s) ∧
    (s.flag Reg.HL_LINK.UP = true → ∃ t : State, exec .linkDown s = .next t ∧ t.flag Reg.HL_LINK.UP = false ∧ t.get Reg.HL_CNT.LINKDOWN = 1 ∧
      (∀ c : Fin 4, t.get (Reg.HL_BULK.MODE c) = (Reg.HL_BULK.MODE c).of (resetWord (Reg.HL_BULK.word c))) ∧
      t.alertPending Alert.OTHER = true ∧ t.link.rd = none ∧ t.link.wr = none ∧
      (∀ a, a < 0x005000 ∨ 0x006000 ≤ a → a ≠ Reg.CP_ALERT.word → a ≠ Reg.LOG_STAT.word → t.reg a = s.reg a) ∧
      t = { s with regs := t.regs, held := t.held, logWait := t.logWait, msix := t.msix, link := t.link })) ∧
  (∀ (s : State) (i : Instr), i ∈ [Instr.hotReset, .functionLevelReset] → ∃ t : State, exec i s = .next t ∧
    (∀ a, 0x005000 ≤ a → a < 0x006000 → a ≠ Reg.HL_LINK.word → t.reg a = resetWord a ∧ t.heldReg a = resetWord a) ∧
    t.get Reg.HL_LINK.UP = s.get Reg.HL_LINK.UP ∧ (∀ a, a < 0x005000 ∨ 0x006000 ≤ a → t.reg a = s.reg a ∧ t.heldReg a = s.heldReg a) ∧
    t.link = { LinkSt.init with data := s.link.data, bulk := s.link.bulk, sent := s.link.sent } ∧
    t = { s with regs := t.regs, held := t.held, msix := 0, link := t.link }) ∧
  (∀ (s : State) (v : Nat), v < 32 → bitOf s.msix v = true → s.vecMasked v = false → (∀ u < v, bitOf s.msix u = false ∨ s.vecMasked u = true) →
    (s.flag Reg.HL_LINK.UP = true → s.link.d3 = false → s.link.msixOn = true → s.link.msixMask = false → ∃ t : State, exec .msixMessage s = .next t ∧
      t.link.sent = s.link.sent ++ [v] ∧ (∀ u, bitOf t.msix u = (bitOf s.msix u && decide (u ≠ v))) ∧ t = { s with msix := t.msix, link := t.link }) ∧
    (s.flag Reg.HL_LINK.UP = false ∨ s.link.d3 = true ∨ s.link.msixOn = false ∨ s.link.msixMask = true → exec .msixMessage s = .next s)) ∧
  (∀ s : State, (∀ v < 32, bitOf s.msix v = false ∨ s.vecMasked v = true) → exec .msixMessage s = .next s) ∧
  (∀ (s : State) (v : Nat), v < 32 → (exec (.configWrite (.power true)) s = .next { s with link := { s.link with d3 := true } }) ∧
    (∀ en mask, s.msix = 0 → exec (.configWrite (.msix en mask)) s = .next { s with link := { s.link with msixOn := en, msixMask := mask } }) ∧
    (s.flag Reg.HL_LINK.UP = true → s.link.d3 = false → s.link.msixOn = false → s.msix = 2 ^ v → s.vecMasked v = false →
      exec (.configWrite (.msix true false)) s =
        .next { s with msix := 0, link := { s.link with msixOn := true, msixMask := false, sent := s.link.sent ++ [v] } })) ∧
  (∀ (s : State) (vec : Fin 32) (f : Fin 4) (v : BitVec 32), (s.link.d3 = true → exec (.msixTableWrite vec f v) s = .next s) ∧
    (s.link.d3 = false → ∃ t : State, exec (.msixTableWrite vec f v) s = .next t ∧ sget msixReset t.link.table (4 * vec.val + f.val) = v ∧
      (∀ k, k ≠ 4 * vec.val + f.val → sget msixReset t.link.table k = sget msixReset s.link.table k) ∧
      t = { s with msix := t.msix, link := t.link } ∧ (f.val ≠ 3 → t.msix = s.msix ∧ t.link.sent = s.link.sent)))

/-- R492, R493: the transitions that a host may request. -/
def Obligations.ModeTable : Prop :=
  (∀ s : State, s.quietOk = true ↔ (∀ n < 64, s.siteState n ∉ [Site.ARMED, Site.RUNNING, Site.HELD, Site.TRIPPED, Site.RESHAPING]) ∧
    s.flag Reg.SI_STAT.BUSY = false ∧ (∀ c < 1024, s.flag (Reg.CH_CTRL.OUT_ARM c) = false) ∧ (∀ d < 64, s.flag (Reg.DPS_STAT.CONN d) = false) ∧
    (∀ l < 32, s.laneState l = Ln.OFF)) ∧
  (∀ s : State, s.mayLeave →
    (s.mode ≠ Mode.SAFE → (s.modeAllows Mode.SAFE = true ↔
      s.mode ∈ [Mode.DISCOVER, Mode.SHAPE, Mode.REFCAL, Mode.STANDBY, Mode.READY] ∧ s.quietOk = true)) ∧
    (s.mode ≠ Mode.DISCOVER → (s.modeAllows Mode.DISCOVER = true ↔ s.mode = Mode.SAFE ∧ s.quietOk = true)) ∧
    (s.mode ≠ Mode.SHAPE → (s.modeAllows Mode.SHAPE = true ↔
      s.mode ∈ [Mode.SAFE, Mode.DISCOVER, Mode.REFCAL, Mode.STANDBY, Mode.READY] ∧ s.quietOk = true ∧ s.flag Reg.MP_STAT.LIM_VALID = true)) ∧
    (s.mode ≠ Mode.REFCAL → (s.modeAllows Mode.REFCAL = true ↔
      s.mode ∈ [Mode.SAFE, Mode.SHAPE, Mode.STANDBY, Mode.READY] ∧ s.quietOk = true ∧ s.flag Reg.MP_STAT.LIM_VALID = true)) ∧
    (s.mode ≠ Mode.STANDBY → (s.modeAllows Mode.STANDBY = true ↔
      s.mode ∈ [Mode.SAFE, Mode.SHAPE, Mode.REFCAL, Mode.READY, Mode.CONTACT, Mode.RUN, Mode.THROTTLE] ∧
      (∀ n < 64, s.siteState n ∈ [Site.EMPTY, Site.LOADED, Site.RETIRED]) ∧ (∀ d < 64, s.flag (Reg.DPS_STAT.CONN d) = false) ∧
      s.flag Reg.MP_STAT.LIM_VALID = true)) ∧
    (s.mode ≠ Mode.READY → (s.modeAllows Mode.READY = true ↔ s.mode ∈ [Mode.STANDBY, Mode.CONTACT, Mode.RUN, Mode.THROTTLE] ∧
      (∀ n < 64, s.siteState n ∉ [Site.ARMED, Site.RUNNING, Site.HELD, Site.TRIPPED]) ∧ s.flag Reg.MP_STAT.LIM_VALID = true)) ∧
    (s.mode ≠ Mode.CONTACT → (s.modeAllows Mode.CONTACT = true ↔ s.mode ∈ [Mode.STANDBY, Mode.READY, Mode.RUN, Mode.THROTTLE] ∧
      (∀ n < 64, s.siteState n ∉ [Site.RUNNING, Site.HELD, Site.TRIPPED]))) ∧
    (s.mode ≠ Mode.RUN → (s.modeAllows Mode.RUN = true ↔ s.mode = Mode.CONTACT)) ∧
    (s.modeAllows Mode.SELFTEST = true ↔ s.mode ∈ [Mode.STANDBY, Mode.READY] ∧ s.quietOk = true ∧ s.flag Reg.CAL_STAT.BUSY = false)) ∧
  (∀ (s : State) (m : Nat), m ≠ s.mode →
    (s.mode = Mode.SAFE ∧ (s.flag Reg.TB_STAT.PLL_LOCK = false ∨ s.cntValid = false)) ∨
      (s.mode = Mode.REFCAL ∧ s.cal.run.any (fun r => r.cmd == 1) = true) → s.modeAllows m = false) ∧
  (∀ (s : State) (m : Nat), m ∈ [Mode.RESET, Mode.THROTTLE, Mode.SHUTDOWN] ∨ 0xB < m → s.modeAllows m = false) ∧
  (∀ (s : State) (m : Nat), s.mode = Mode.SELFTEST → m ∉ [Mode.RESET, Mode.THROTTLE, Mode.SHUTDOWN, Mode.SELFTEST] → m ≤ 0xB →
    (s.modeAllows m = true ↔ s.selfTest = some m))

/-- R491: requests of the host. -/
def Obligations.ModeRequests : Prop :=
  (∀ (s : State) (p : Port) (r : Instr × Nat), ModeRow p none r → s.mode ≠ Mode.RESET → s.modeAllows r.2 = true → r.2 ≠ s.mode →
    ∃ u : State, exec r.1 s = .next u.follow ∧ s.Enters u (if s.mode ≠ Mode.SELFTEST ∧ r.2 = Mode.RUN ∧ s.flag Reg.HK_STAT.THROTTLED = true then Mode.THROTTLE else r.2) 0 ∧
      u.get Reg.DEV_MODE.REQ = r.2 ∧ (s.mode = Mode.SELFTEST → u.flag Reg.DEV_STST.ABORTED = true) ∧ (r.2 = Mode.DISCOVER → u.maps = [] ∧ u.clones = []) ∧
      (s.mode = Mode.DISCOVER → s.mpOp ≠ none → (∀ w, s.mpOp ≠ some (.xfer w)) → s.mpOp ≠ some .cold → u.get Reg.MP_STAT.RESULT = 3 ∧ u.mpOp = none)) ∧
  (∀ (s : State) (p : Port) (r : Instr × Nat), ModeRow p none r → s.mode ≠ Mode.RESET → r.2 = s.mode →
    ∃ u : State, exec r.1 s = .next u.follow ∧ u.mode = s.mode ∧ s.SameFields [Reg.DEV_MODE.AT, Reg.DEV_MODE.AT_EN, Reg.DEV_MODE.REQ] u ∧ u = { s with regs := u.regs }) ∧
  (∀ (s : State) (p : Port) (r : Instr × Nat) (req : BitVec 4), ModeRow p none r ∨ r = (.modeReqForbidden p req none, req.toNat) →
    s.mode = Mode.RESET ∨ s.modeAllows r.2 = false →
    ∃ t : State, exec r.1 s = .next t ∧ t.reg Reg.DEV_MODE.word = s.reg Reg.DEV_MODE.word ∧ t = { s with regs := t.regs, logWait := t.logWait, cpFrame := t.cpFrame }) ∧
  (∀ (s : State) (p : Port) (b : BitVec 64) (r : Instr × Nat) (req : BitVec 4), ModeRow p (some b) r ∨ r = (.modeReqForbidden p req (some b), req.toNat) →
    (s.mode ≠ Mode.RESET → s.sched = none → s.cntValid = true → s.now + 2 ≤ b.toNat → ∃ t : State, exec r.1 s = .next t ∧ t.sched = some (b.toNat, r.2) ∧
      t.flag Reg.DEV_MODE.PENDING = true ∧ t.get Reg.DEV_MODE.AT = b.toNat ∧ t.get Reg.DEV_MODE.AT_EN = 1 ∧ t.get Reg.DEV_MODE.REQ = r.2 ∧ t.mode = s.mode ∧
      s.SameWords [Reg.DEV_MODE.word] t ∧ t = { s with regs := t.regs, sched := t.sched }) ∧
    (s.mode = Mode.RESET ∨ s.sched ≠ none ∨ s.cntValid = false ∨ b.toNat < s.now + 2 → ∃ t : State, exec r.1 s = .next t ∧
      t.reg Reg.DEV_MODE.word = s.reg Reg.DEV_MODE.word ∧ t = { s with regs := t.regs, logWait := t.logWait, cpFrame := t.cpFrame })) ∧
  (∀ (s : State) (b m : Nat), s.sched = some (b, m) → b ≤ s.now →
    (s.modeAllows m = true → m ≠ s.mode → ∃ u : State, exec .scheduledModeRequest s = .next u.follow ∧ u.sched = none ∧ u.flag Reg.DEV_MODE.PENDING = false ∧
      s.Enters u (if s.mode ≠ Mode.SELFTEST ∧ m = Mode.RUN ∧ s.flag Reg.HK_STAT.THROTTLED = true then Mode.THROTTLE else m) 1) ∧
    (s.modeAllows m = false → ∃ t : State, exec .scheduledModeRequest s = .next t ∧ t.sched = none ∧ t.flag Reg.DEV_STAT.MODE_REJ = true ∧
      s.SameFields [Reg.DEV_MODE.PENDING, Reg.DEV_STAT.MODE_REJ, Reg.LOG_STAT.DROPPED] t ∧
      t = { s with regs := t.regs, sched := none, logWait := t.logWait })) ∧
  (∀ s : State, (∀ b m, s.sched = some (b, m) → s.now < b) → exec .scheduledModeRequest s = .next s) ∧
  (∀ (s : State) (p : Port), s.mode ≠ Mode.RESET → ∃ t : State, exec (.devCmdCancelMode p) s = .next t ∧ t.sched = none ∧ t.flag Reg.DEV_MODE.PENDING = false ∧
    s.SameFields [Reg.DEV_MODE.PENDING] t ∧ t = { s with regs := t.regs, sched := none })

/-- R497 to R500, R520: resets, the self-test and the start. -/
def Obligations.SoftResetSelfTestAndStart : Prop :=
  (∀ (s : State) (p : Port), s.Canonical → s.softOk = true → s.mode ≠ Mode.DISCOVER → s.mode ≠ Mode.CONTACT → (∀ q < 4, s.get (Reg.CAL_Q.STATE q) ≤ 1) →
    ∃ t : State, exec (.devCmdSoftReset p) s = .next t ∧ s.Enters t Mode.SAFE 7 ∧ t.get Reg.DEV_STAT.LAST_RESET = 2 ∧
      (∀ a, softBlock a = true → calBits a = 0 → t.reg a = resetWord a) ∧
      (∀ e < 1056, t.get (Reg.EE_DESKEW.CAL_DRV e) = s.get (Reg.EE_DESKEW.CAL_DRV e) ∧ t.get (Reg.EE_DESKEW.CAL_RCV e) = s.get (Reg.EE_DESKEW.CAL_RCV e)) ∧
      (∀ a, softBlock a = false → a ∉ [Reg.DEV_MODE.word, Reg.DEV_STAT.word, Reg.DEV_SVCSTAT.word] → t.reg a = s.reg a) ∧
      t.maps = [] ∧ t.beat = s.beat ∧ t.pendRecs = s.pendRecs ∧ t.logRing = s.logRing ∧ t.sched = none) ∧
  (∀ (s : State) (p : Port), s.softOk = false ∨ s.mode = Mode.RESET → ∃ t : State, exec (.devCmdSoftReset p) s = .next t ∧
    t.reg Reg.DEV_MODE.word = s.reg Reg.DEV_MODE.word ∧ t = { s with regs := t.regs, logWait := t.logWait, cpFrame := t.cpFrame }) ∧
  (∀ (s : State) (m : Nat) (o : SelfTestObs), s.selfTest = some m → m < 16 → o.chans = [] → o.tdcs = [] → ∃ u : State, exec (.selftestDone o) s = .next u.follow ∧
    u.mode = m ∧ u.get Reg.DEV_STAT.CAUSE = 6 ∧ u.flag Reg.DEV_STST.DONE = true ∧ u.get Reg.DEV_STST.BEAT = s.now % 2 ^ 32 ∧
    u.get Reg.DEV_STST.CH_FAIL = 0 ∧ u.get Reg.DEV_STST.TDC_FAIL = 0 ∧
    u.get Reg.DEV_STST.FB = (if s.get Reg.SO_FB.USED_BLK ≠ 0 then 2 else if o.fb then 0 else 1) ∧
    u.get Reg.DEV_STST.LEDGER = (if s.lgTail ≠ s.lgHead then 2 else if o.ledger then 0 else 1) ∧ u.mem = s.mem ∧ u.nvm = s.nvm) ∧
  (∀ (s : State) (o : SelfTestObs), s.selfTest = none → exec (.selftestDone o) s = .next s) ∧
  (∀ s : State, ∃ t : State, exec .resetN s = .next t ∧ t.mode = Mode.RESET ∧ t.get Reg.DEV_STAT.LAST_RESET = 1 ∧
    (∀ a, a ≠ Reg.TB_STAT.word → a ≠ Reg.DEV_STAT.word → t.reg a = resetWord a) ∧ t.get Reg.TB_STAT.PLL_LOCK = s.get Reg.TB_STAT.PLL_LOCK ∧
    t.mem = s.mem ∧ t.uncorr = s.uncorr ∧ t.nvm = s.nvm ∧ t.beat = 0 ∧ t.maps = [] ∧ t.cs = [] ∧ t.pendRecs = [] ∧ t.pending = s.pending) ∧
  (∀ s : State, ∃ t : State, exec .powerOn s = .next t ∧ t.mode = Mode.RESET ∧ (∀ a, t.reg a = resetWord a) ∧ (∀ a, t.byte a = 0) ∧ t.nvm = s.nvm ∧ t.beat = 0 ∧
    t.maps = [] ∧ t.cs = [] ∧ t.pending = s.pending) ∧
  (∀ (s : State) (kept : Bool), ∃ t : State, exec (.brownOut kept) s = .next t ∧ t.mode = Mode.RESET ∧ t.brown = true ∧ (∀ a, t.reg a = resetWord a) ∧
    t.mem = (if kept then s.mem else []) ∧ t.nvm = s.nvm ∧ exec .initDone t = .next t) ∧
  (∀ s : State, exec .brownOutEnd s = .next { s with brown := false }) ∧
  (∀ s : State, s.mode = Mode.RESET → s.brown = false → ∃ t : State, exec .initDone s = .next t ∧ s.Enters t Mode.SAFE 5 ∧ t.flag Reg.DEV_STAT.INIT_DONE = true ∧
    (∀ q qs, s.shutSeqs = q :: qs → t.flag Reg.HK_STAT.SD_VALID = true ∧ t.get Reg.HK_STAT.SD_SEQ = qs.foldl max q % 2 ^ 32) ∧
    (∀ k < 4, ∀ st < 8, s.keyState k = some st → t.get (Reg.LX_KEY.STATE k) = st % 4)) ∧
  (∀ s : State, s.mode ≠ Mode.RESET ∨ s.brown = true → exec .initDone s = .next s)

/-- R30: REFCLK is lost. -/
def Obligations.RefclkLost : Prop :=
  (∀ s : State, ∃ u : State, exec .refclkLost s = .next u.follow ∧ u.flag Reg.TB_STAT.REFCLK_LOST = true ∧ u.flag Reg.TB_STAT.PLL_LOCK = false ∧
    u.cntValid = false ∧ u.get Reg.TB_STAT.LOCK = 0 ∧ u.tb.refPresent = false ∧ u.snaps = [] ∧ u.tb.load = none ∧
    u.mem = s.mem ∧ u.nvm = s.nvm ∧ u.cs = s.cs ∧ u.maps = s.maps) ∧
  (∀ s : State, s.mode = Mode.RESET ∨ s.mode = Mode.SHUTDOWN → ∃ u : State, exec .refclkLost s = .next u.follow ∧ u.mode = s.mode ∧
    u.alertPending Alert.TIMEBASE = true ∧ s.SameWords [Reg.TB_STAT.word, Reg.CP_ALERT.word, Reg.HL_INT.word, Reg.LOG_STAT.word] u)

/-- R30, R481: what the device leaves when it can go on no longer. `r` is the state after the readings of the evaluation. -/
def Obligations.LeavingOperation : Prop :=
  (∀ s : State, s.mode ≠ Mode.RESET → s.mode ≠ Mode.SHUTDOWN → s.Unengaged → ∃ u : State, exec .refclkLost s = .next u.follow ∧ s.Enters u Mode.SAFE 3 ∧
    s.LeavesOperation u ∧ u.alertPending Alert.TIMEBASE = true ∧ u.pendActs = [] ∧ u.siOp = none) ∧
  (∀ (s r : State) (src cause : Nat), r = s.hkReadings → r.hk.round ≠ none → r.hk.judged = true → r.hk.fatal = some (src, cause) →
    r.mode ≠ Mode.RESET → r.mode ≠ Mode.SHUTDOWN → r.Unengaged → ∃ t : State, exec .roundEvaluation s = .next t ∧ r.Enters t Mode.SHUTDOWN 4 ∧
      r.LeavesOperation t ∧ (∃ k, t.shut = some k ∧ k.phase = 0 ∧ k.start = r.now ∧ k.body.length = 32) ∧ t.hk.round = none)

/-- R470 to R479: rounds and their evaluation. `u` is the state after the evaluation's readings. -/
def Obligations.HousekeepingRounds : Prop :=
  (∀ (s : State) (ts : List (Option Int)) (ms : List Int), (s.cntValid = false ∨ s.now % 100000 = 0 → exec (.housekeepingRound ts ms) s =
      .next { s with hk := { s.hk with round := some (s.stampBeat, ts, ms), judged := false, idx := s.hk.idx + 1 } }) ∧
    (s.cntValid = true → s.now % 100000 ≠ 0 → exec (.housekeepingRound ts ms) s = .next s)) ∧
  (∀ s : State, s.hk.round = none → exec .roundEvaluation s = .next s) ∧
  (∀ (s : State) (b : Nat) (ts : List (Option Int)) (ms : List Int), s.hk.round = some (b, ts, ms) → s.hk.judged = false → s.cntValid = true →
    b ≤ s.now → s.now < b + 64 → exec .roundEvaluation s = .next s) ∧
  (∀ (s u : State) (b : Nat) (ts : List (Option Int)) (ms : List Int), u = s.hkReadings → s.hk.round = some (b, ts, ms) → s.hk.judged = false → b + 64 ≤ s.now →
    u.hk.judged = true ∧ u.get Reg.HK_CNT.ROUNDS = (s.get Reg.HK_CNT.ROUNDS + 1) % 2 ^ 32 ∧ u.mode = s.mode ∧
    (∀ i < 28, ∀ v : Int, ts[i]? = some (some v) → -32768 ≤ v → v ≤ 32767 → u.getS (Reg.HK_TS.TEMP i) = v) ∧
    (∀ i < 28, (ts[i]?).join = none ∨ (∃ v, ts[i]? = some (some v) ∧ (v < -4000 ∨ 15000 < v)) → s.get (Reg.HK_TS.STATUS i) = 0 →
      u.get (Reg.HK_TS.STATUS i) = 1 ∧ u.get (Reg.HK_TS.REASON i) = 1 ∧ u.flag Reg.HK_STAT.SENSOR_FAIL = true) ∧
    (∀ m < 36, ∀ v : Int, ms[m]? = some v → -32768 ≤ v → v ≤ 32767 → u.getS (Reg.HK_MON.VALUE m) = v ∧
      u.flag (Reg.HK_MON.OUT m) = decide ((monNominal m).natAbs < 20 * (v - monNominal m).natAbs)) ∧
    (s.flag Reg.HK_STAT.THROTTLED = false → (∃ p ∈ u.tsValues, (u.get Reg.HK_CTRL.THR_T : Int) ≤ p.2) → u.flag Reg.HK_STAT.THROTTLED = true ∧
      u.flag Reg.HK_STAT.THROTTLE_SEEN = true ∧ u.get Reg.HK_CNT.THROTTLES = (s.get Reg.HK_CNT.THROTTLES + 1) % 2 ^ 32)) ∧
  (∀ s u : State, u = s.hkReadings → u.hk.round ≠ none → u.hk.judged = true → u.hk.fatal = none → u.clones = [] →
    (u.mode = Mode.RUN → u.flag Reg.HK_STAT.THROTTLED = true → ∃ t : State, exec .roundEvaluation s = .next t ∧ u.Enters t Mode.THROTTLE 2 ∧ t.hk.round = none ∧ t.hk.since = 0) ∧
    (u.mode = Mode.THROTTLE → u.flag Reg.HK_STAT.THROTTLED = false → u.hk.paused = [] → ∃ t : State, exec .roundEvaluation s = .next t ∧
      u.Enters t Mode.RUN 2 ∧ t.hk.round = none) ∧
    (∀ n, u.mode = Mode.THROTTLE → u.flag Reg.HK_STAT.THROTTLED = true → u.hk.paused = [] → u.flag Reg.HK_CTRL.PAUSE_EN = true →
      (u.hk.since + 1) % u.get Reg.HK_CTRL.PAUSE_ROUNDS = 0 → (∃ p ∈ u.tsValues, (u.get Reg.HK_CTRL.THR_T : Int) ≤ p.2) →
      u.pauseOrder.find? (fun k => decide (k < 64) && u.siteState k == Site.RUNNING) = some n → ∃ t : State, exec .roundEvaluation s = .next t ∧
        t.mode = Mode.THROTTLE ∧ t.siteState n = Site.HELD ∧ bitOf (t.get (Reg.SQ_STAT.CAUSES n)) Cause.THERMAL = true ∧ t.hk.paused = [n] ∧
        t.get Reg.HK_CNT.PAUSES = (u.get Reg.HK_CNT.PAUSES + 1) % 2 ^ 32) ∧
    (∀ n < 64, u.mode = Mode.RUN → u.flag Reg.HK_STAT.THROTTLED = false → u.hk.paused = [n] → u.siteState n = Site.HELD →
      bitOf (u.get (Reg.SQ_STAT.CAUSES n)) Cause.THERMAL = true → bitOf (u.get (Reg.SQ_STAT.CAUSES n)) Cause.HOST = true → ∃ t,
        exec .roundEvaluation s = .next t ∧ bitOf (t.get (Reg.SQ_STAT.CAUSES n)) Cause.THERMAL = false ∧ t.siteState n = Site.HELD ∧ t.hk.paused = [])) ∧
  (∀ (s : State) (p : Port) (i : BitVec 5), s.mode ≠ Mode.RESET → i.toNat < 28 →
    (s.tsRetirable i.toNat = true → ∃ t : State, exec (.hkCmdRetire p i) s = .next t ∧ t.get (Reg.HK_TS.STATUS i.toNat) = 2 ∧
      s.SameFields [Reg.HK_TS.STATUS i.toNat, Reg.LOG_STAT.DROPPED] t ∧ t = { s with regs := t.regs, logWait := t.logWait }) ∧
    (s.tsRestorable i.toNat = true → ∃ t : State, exec (.hkCmdRestore p i) s = .next t ∧ t.get (Reg.HK_TS.STATUS i.toNat) = 0 ∧
      s.SameFields [Reg.HK_TS.STATUS i.toNat, Reg.LOG_STAT.DROPPED] t ∧ t = { s with regs := t.regs, logWait := t.logWait })) ∧
  (∀ (s : State) (p : Port) (i : BitVec 5), (s.mode = Mode.RESET ∨ 28 ≤ i.toNat ∨ s.tsRetirable i.toNat = false → ∃ t : State, exec (.hkCmdRetire p i) s = .next t ∧
      (∀ j < 28, t.reg (Reg.HK_TS.word j) = s.reg (Reg.HK_TS.word j)) ∧ t = { s with regs := t.regs, logWait := t.logWait, cpFrame := t.cpFrame }) ∧
    (s.mode = Mode.RESET ∨ 28 ≤ i.toNat ∨ s.tsRestorable i.toNat = false → ∃ t : State, exec (.hkCmdRestore p i) s = .next t ∧
      (∀ j < 28, t.reg (Reg.HK_TS.word j) = s.reg (Reg.HK_TS.word j)) ∧ t = { s with regs := t.regs, logWait := t.logWait, cpFrame := t.cpFrame }))

/-- R481 to R483, R487: the steps of a shutdown and the trouble log. -/
def Obligations.ShutdownStepsAndTroubleLog : Prop :=
  (∀ (s : State) (k : Shut), s.shut = some k → k.phase = 0 →
    (k.start + 1000000 ≤ s.now ∨ s.tb.refPresent = false ∨ (∀ d < 64, s.flag (Reg.DPS_STAT.CONN d) = false) →
      ∃ t : State, exec .stackSelfRefresh s = .next t ∧ t.get Reg.SO_STAT.STACK0 = 2 ∧ t.get Reg.SO_STAT.STACK1 = 2 ∧ t.shut = some { k with phase := 1 } ∧
        s.SameFields [Reg.SO_STAT.STACK0, Reg.SO_STAT.STACK1] t ∧ t = { s with regs := t.regs, shut := t.shut }) ∧
    (s.now < k.start + 1000000 → s.tb.refPresent = true → (∃ d < 64, s.flag (Reg.DPS_STAT.CONN d) = true) → exec .stackSelfRefresh s = .next s)) ∧
  (∀ (s : State) (k : Shut), s.shut = some k → k.phase = 1 → k.body.length = 32 →
    ∃ t : State, exec (.shutdownRecordDone ⟨none, none⟩) s = .next t ∧ t.shut = some { k with phase := 2 } ∧
      (∀ c < 2, t.nvmBytes c (0xD000 + 32 * (k.seq % 256)) 32 = k.body) ∧
      (∀ c < 2, ∀ a < 0x10000, a < 0xD000 + 32 * (k.seq % 256) ∨ 0xD020 + 32 * (k.seq % 256) ≤ a → t.nvmByte c a = s.nvmByte c a) ∧
      t = { s with nvm := t.nvm, shut := t.shut }) ∧
  (∀ (s : State) (e : NvmEnd), (∀ k, s.shut = some k → k.phase ≠ 1) → exec (.shutdownRecordDone e) s = .next s) ∧
  (∀ s : State, (∀ k, s.shut = some k → k.phase ≠ 0) → exec .stackSelfRefresh s = .next s) ∧
  (∀ (s : State) (e : LogWait) (es : List LogWait), s.logWait = e :: es → ∃ t : State, exec .logEntryWrite s = .next t ∧ t.logWait = es ∧
    sget (fun _ => 0) t.logRing (s.get Reg.LOG_STAT.TAIL % 4096) = e.word ∧
    (∀ j, j ≠ s.get Reg.LOG_STAT.TAIL % 4096 → sget (fun _ => 0) t.logRing j = sget (fun _ => 0) s.logRing j) ∧
    t.get Reg.LOG_STAT.TAIL = (s.get Reg.LOG_STAT.TAIL + 1) % 2 ^ 64 ∧
    t.flag Reg.LOG_STAT.WRAPPED = (s.flag Reg.LOG_STAT.WRAPPED || decide (4096 ≤ s.get Reg.LOG_STAT.TAIL)) ∧
    s.SameFields [Reg.LOG_STAT.TAIL, Reg.LOG_STAT.WRAPPED] t ∧ t = { s with regs := t.regs, logWait := es, logRing := t.logRing }) ∧
  (∀ s : State, s.logWait = [] → exec .logEntryWrite s = .next s) ∧
  (∀ (s : State) (p : Port), s.mode ≠ Mode.RESET → ∃ t : State, exec (.logCmdClear p) s = .next t ∧ t.reg Reg.LOG_STAT.word = 0 ∧ t.logRing = [] ∧
    s.SameWords [Reg.LOG_STAT.word] t ∧ t = { s with regs := t.regs, logRing := [] })

/-- R8, R9, R445, R500, R512, R535: direct writes. -/
def Obligations.RegisterWrites : Prop :=
  (∀ (s : State) (p : Port) (a : BitVec 24) (w : Word), s.mode = Mode.RESET → a.toNat ≠ Reg.TB_CTRL.word → a.toNat ≠ Reg.CP_CFG.word →
    ∃ t : State, exec (.registerWrite p a w) s = .next t ∧
      s.SameWords [Reg.CP_STAT.word, Reg.CP_CNT.word, Reg.HL_STAT.word, Reg.HL_LAST.word, Reg.LOG_STAT.word] t ∧
      t = { s with regs := t.regs, logWait := t.logWait, cpFrame := t.cpFrame }) ∧
  (∀ (s : State) (p : Port) (a : BitVec 24) (w : Word), s.mode ≠ Mode.RESET → isHole a.toNat = true ∨ 0x100000 ≤ a.toNat →
    ∃ t : State, exec (.registerWrite p a w) s = .next t ∧ (p = .cp → t.flag Reg.CP_STAT.HOLE = true) ∧
      (p = .bar0 → t.flag Reg.HL_STAT.HOLE = true ∧ t.get Reg.HL_LAST.CODE = 2 ∧ t.get Reg.HL_LAST.WORD = a.toNat) ∧
      s.SameWords [Reg.CP_STAT.word, Reg.HL_STAT.word, Reg.HL_LAST.word] t ∧ t = { s with regs := t.regs, cpFrame := t.cpFrame }) ∧
  (∀ (s : State) (p : Port) (a : BitVec 24) (w : Word), s.mode ≠ Mode.RESET → isHole a.toNat = false →
    (0x000005 ≤ a.toNat ∧ a.toNat < 0x001000) ∨ (0x005000 ≤ a.toNat ∧ a.toNat < 0x005010) ∨ a.toNat = Reg.CP_STAT.word ∨ a.toNat = Reg.LG_STAT.word ∨
      a.toNat = Reg.LOG_STAT.word ∨ a.toNat = Reg.TB_STAT.word ∨ a.toNat = Reg.HK_STAT.word →
    ∃ t : State, exec (.registerWrite p a w) s = .next t ∧
      t.reg a.toNat = ((s.reg a.toNat &&& ~~~(accMask .rw a.toNat)) ||| (w &&& accMask .rw a.toNat)) &&& ~~~(w &&& accMask .w1c a.toNat) ∧
      s.SameWords [a.toNat] t ∧ t = { s with regs := t.regs }) ∧
  (∀ (s : State) (p : Port) (a : BitVec 24) (w : Word), s.mode ≠ Mode.RESET → isHole a.toNat = false →
    (0x001100 ≤ a.toNat ∧ a.toNat < 0x002000) ∨ (0x0B0000 ≤ a.toNat ∧ a.toNat < 0x0C0000) → accMask .cl a.toNat ≠ 0 →
    (s.clRefused a.toNat w = true → ∃ t : State, exec (.registerWrite p a w) s = .next t ∧ t.reg a.toNat = s.reg a.toNat ∧ t.shadow = s.shadow ∧
      t = { s with regs := t.regs, logWait := t.logWait, cpFrame := t.cpFrame }) ∧
    (s.clRefused a.toNat w = false → s.unowned a.toNat = true → ∃ t : State, exec (.registerWrite p a w) s = .next t ∧ 
      t.reg a.toNat = (s.reg a.toNat &&& ~~~(clStored a.toNat)) ||| (w &&& clStored a.toNat) ∧
      t.shadowReg a.toNat = (s.shadowReg a.toNat &&& ~~~(clStored a.toNat)) ||| (w &&& clStored a.toNat) ∧
      s.SameWords (a.toNat :: s.followWords a.toNat) t ∧ t = { s with regs := t.regs, shadow := t.shadow })) ∧
  (∀ (s : State) (p : Port) (w : Word) (x : Nat × Bool), s.mode ≠ Mode.RESET →
    x ∈ [(Reg.HK_CTRL.word, hkCtrlBad w), (Reg.HK_RATE.word, hkRateBad w), (Reg.LG_CFG.word, lgCfgBad w),
      (Reg.CP_CFG.word, decide (Reg.CP_CFG.DUMMY.of w < 6 ∨ Reg.CP_CFG.LANES.of w = 3)), (Reg.MP_SEL.word 0, mpSelBad 0 w), (Reg.MP_SEL.word 7, mpSelBad 7 w),
      (Reg.CAL_CTRL.word, calCtrlBad w), (Reg.CAL_REF.word, calRefBad w), (Reg.SO_CTRL.word, decide (Reg.SO_CTRL.PD_IDLE.of w < 64))] → x.2 = true →
    ∃ t : State, exec (.registerWrite p (BitVec.ofNat 24 x.1) w) s = .next t ∧ t.reg x.1 = s.reg x.1 ∧
      t = { s with regs := t.regs, logWait := t.logWait, cpFrame := t.cpFrame })

/-- R535: a row and the direct write that it stands for. -/
def Obligations.RowsAreDirectWrites : Prop :=
  ∀ (s : State) (p : Port) (w : Word), s.mode ≠ Mode.RESET →
    (∀ x, x ∈ [(Reg.LG_HEAD.word, Instr.lgHeadWrite p w), (Reg.LG_OVF.word, .lgOvfWrite p w), (Reg.LG_SNAP.word, .lgSnapWrite p w)] →
      exec (.registerWrite p (BitVec.ofNat 24 x.1) w) s = exec x.2 s) ∧
    exec (.registerWrite p 0x003805#24 1) s = exec (.lgCmdClear p) s ∧ exec (.registerWrite p 0x003805#24 2) s = exec (.lgCmdRelease p) s ∧
    exec (.registerWrite p 0x003002#24 1) s = exec (.logCmdClear p) s ∧ exec (.registerWrite p 0x000003#24 1) s = exec (.devCmdSoftReset p) s ∧
    exec (.registerWrite p 0x000003#24 2) s = exec (.devCmdCancelMode p) s ∧ exec (.registerWrite p 0x000001#24 1) s = exec (.modeReqSafe p none) s ∧
    (∀ b : BitVec 64, exec (.registerWrite p (BitVec.ofNat 24 Reg.TB_LOAD.word) (b.setWidth 128)) s = exec (.tbLoad p b) s) ∧
    (Reg.MP_XFER.OP.of w = 1 → exec (.registerWrite p (BitVec.ofNat 24 Reg.MP_XFER.word) w) s = exec (.mpXferXfer p w) s) ∧
    (Reg.MP_XFER.OP.of w = 2 → exec (.registerWrite p (BitVec.ofNat 24 Reg.MP_XFER.word) w) s = exec (.mpXferDiscover p) s) ∧
    (Reg.MP_XFER.OP.of w = 3 → exec (.registerWrite p (BitVec.ofNat 24 Reg.MP_XFER.word) w) s = exec (.mpXferAbort p) s) ∧
    (Reg.SI_CMD.OP.of w = 1 → exec (.registerWrite p (BitVec.ofNat 24 Reg.SI_CMD.word) w) s = exec (.siCmdLoad p) s) ∧
    (Reg.SI_CMD.OP.of w = 3 → exec (.registerWrite p (BitVec.ofNat 24 Reg.SI_CMD.word) w) s = exec (.siCmdCheck p) s) ∧
    (Reg.LX_CMD.CMD.of w = 1 → exec (.registerWrite p (BitVec.ofNat 24 Reg.LX_CMD.word) w) s = exec (.loadVendor p) s) ∧
    (Reg.LX_CMD.CMD.of w = 2 → exec (.registerWrite p (BitVec.ofNat 24 Reg.LX_CMD.word) w) s = exec (.loadCustomer p) s) ∧
    (Reg.LX_CMD.CMD.of w = 3 → exec (.registerWrite p (BitVec.ofNat 24 Reg.LX_CMD.word) w) s = exec (.swap p) s) ∧
    (∀ n : Fin 64, (Reg.SQ_CMD.CMD n).of w = 1 → exec (.registerWrite p (BitVec.ofNat 24 (Reg.SQ_CMD.word n)) w) s = exec (.sqCmdArm p n) s) ∧
    (∀ k : Fin 16, (Reg.CL_CMD.CMD k).of w = 1 → exec (.registerWrite p (BitVec.ofNat 24 (Reg.CL_CMD.word k)) w) s = exec (.clCmdOpen p k) s) ∧
    (∀ k : Fin 16, exec (.registerWrite p (BitVec.ofNat 24 (Reg.CL_ADDR.word k)) w) s = exec (.clAddrWrite p k w) s) ∧
    (Reg.CAL_CMD.CMD.of w = 5 → exec (.registerWrite p (BitVec.ofNat 24 Reg.CAL_CMD.word) w) s = exec (.calAbort p) s)

/-- R463: an access past the end of its target. -/
def Obligations.BulkAccessPastTheEnd : Prop :=
  ∀ (s : State) (c : Fin 4) (o : BitVec 20) (size base : Nat), s.link.d3 = false → s.get (Reg.HL_BULK.MODE c) ≠ 0 →
    size = (if s.get (Reg.HL_BULK.TARGET c) = 0 then 2 ^ 35 else 0x1000000) →
    base = s.get (Reg.HL_BULK.PTR c) + (if s.get (Reg.HL_BULK.MODE c) = 1 then 0 else o.toNat) →
    (∀ len, size < base + len → ∃ u : State, exec (.bulkRead c o len) s = .next u ∧ u.flag Reg.HL_STAT.OVERRUN = true ∧ u.link.bulk.1.length = len ∧
      (∀ i < len, size ≤ base + i → u.link.bulk.1[i]? = some 0) ∧ (s.get (Reg.HL_BULK.MODE c) = 1 → u.get (Reg.HL_BULK.PTR c) = size) ∧ u.mem = s.mem) ∧
    (∀ data : List ByteLane, size < base + data.length → ∃ u : State, (exec (.bulkWrite c o data) s = .next u ∨ exec (.bulkWrite c o data) s = .next u.follow) ∧
      u.flag Reg.HL_STAT.OVERRUN = true ∧ (∀ a, a < base ∨ size ≤ a → u.byte a = s.byte a) ∧
      (s.get (Reg.HL_BULK.MODE c) = 1 → u.get (Reg.HL_BULK.PTR c) = size) ∧
      (∀ j < 1048576, u.reg (Reg.LG_WIN.word j) = s.reg (Reg.LG_WIN.word j)))

/-- The step; on an empty queue one beat of REFCLK passes (assumption 4). -/
def Obligations.StepTakesTheFrontCommand : Prop :=
  (∀ (c : Instr) (q : List Instr) (s : State), s.pending = c :: q → step s = exec c { s with pending := q }) ∧
  (∀ s : State, s.pending = [] → s.pmus = [] → s.tb.holds = [] →
    (s.tb.refPresent = true → s.tb.load = none → step s = .next { s with beat := s.beat + 1 }) ∧
    (∀ b, s.tb.refPresent = true → s.tb.load = some b → ∃ t : State, step s = .next t ∧ t.beat = BitVec.ofNat 64 b ∧ t.cntValid = true ∧ t.tb.load = none ∧
      s.SameFields [Reg.TB_STAT.CNT_VALID] t) ∧
    (s.tb.refPresent = false → step s = .next s)) ∧
  (∀ (n w : Nat) (s : State), decodeTableWord n w = none ∧ s.withFetchWord n w = s)

/-- R10, R498, R500: the state after reset. -/
def Obligations.ResetState : Prop :=
  State.reset.Canonical ∧ State.reset.pending = [] ∧ State.reset.maps = [] ∧ State.reset.mode = Mode.RESET ∧ State.reset.beat = 0 ∧
  (∀ n < 64, State.reset.siteState n = Site.EMPTY) ∧ State.reset.lgHead = 0 ∧ State.reset.lgMig = 0 ∧ State.reset.lgTail = 0 ∧
  (∀ a, State.reset.reg a = resetWord a) ∧ (∀ a, State.reset.shadowReg a = resetWord a) ∧ (∀ a, State.reset.byte a = 0) ∧
  (∀ c < 2, ∀ a, State.reset.nvmByte c a = 0xFF) ∧
  State.reset.get Reg.CP_CFG.DUMMY = 8 ∧ State.reset.get Reg.CP_CFG.LANES = 0 ∧ State.reset.get Reg.HK_CTRL.THR_T = 10500 ∧
  State.reset.get Reg.HK_CTRL.HYST = 500 ∧ State.reset.get Reg.HK_CTRL.REL_ROUNDS = 100 ∧ State.reset.get Reg.HK_CTRL.PAUSE_ROUNDS = 10 ∧
  State.reset.get Reg.HK_CTRL.HOLDS = 4 ∧ State.reset.get Reg.HK_CTRL.COOL_EN = 1 ∧ State.reset.get Reg.HK_RATE.LIMIT = 50 * 2 ^ 48 + 50 * 2 ^ 40 + 100 * 2 ^ 32 + 100 * 2 ^ 24 + 100 * 2 ^ 16 + 100 * 2 ^ 8 + 100 ∧
  State.reset.get Reg.LG_CFG.ALERT_WM = 786432 ∧ State.reset.get Reg.LG_CFG.MIG_WM = 524288 ∧ State.reset.get Reg.CAL_CTRL.MIN_EDGES = 4096 ∧
  State.reset.get Reg.CAL_CTRL.WIN = 1000000 ∧ State.reset.get Reg.CAL_CTRL.MIN_REF = 8 ∧ State.reset.get Reg.CAL_CTRL.CAL_DT = 300 ∧
  State.reset.get Reg.MP_CTRL.SEL_EN = 0x0F ∧ State.reset.get Reg.MP_CTRL.AUTO = 1 ∧ State.reset.get Reg.SO_CTRL.PD_IDLE = 1024 ∧
  State.reset.get Reg.SO_CTRL.PD_EN = 1

/-- Every step keeps the canonical form, and the canonical form is unique. -/
def Obligations.EveryStepKeepsCanonicalStorage : Prop :=
  (∀ s t : State, s.Canonical → step s = .next t → t.Canonical) ∧
  (∀ s t : State, s.Canonical → t.Canonical → (∀ a, s.reg a = t.reg a ∧ s.shadowReg a = t.shadowReg a ∧ s.heldReg a = t.heldReg a) →
    (∀ a, s.byte a = t.byte a) → s.regs = t.regs ∧ s.shadow = t.shadow ∧ s.held = t.held ∧ s.mem = t.mem)

/-- What each command leaves alone, over every command. -/
def Obligations.OnlyTheseCommandsChangeIt : Prop :=
  ∀ (i : Instr) (s t : State), exec i s = .next t → t.pending = s.pending ∧ (storesMemory i = false → t.mem = s.mem) ∧
    (storesNvm i = false → t.nvm = s.nvm) ∧ (storesControl i = false → t.cs = s.cs) ∧
    (changesStructure i = false → t.maps = s.maps ∧ t.clones = s.clones ∧ t.routes = s.routes)
end

