-- ==== Sys2Proof/Laws/SMap.lean ====
section
/-! SUPPORT. What sparse maps do: reading after a write, and that every operation keeps the canonical form. -/

namespace Sys2Proof.Machine

variable {α : Type}

/-- Every key of a map lies above `k`. -/
def skeysAbove (k : Nat) (m : List (Nat × α)) : Prop := ∀ p ∈ m, k < p.1

theorem sget_skeysAbove (d : Nat → α) (m : List (Nat × α)) (k i : Nat) (h : skeysAbove k m) (hi : i ≤ k) : sget d m i = d i := by
  induction m with
  | nil => rfl
  | cons p m ih =>
    obtain ⟨j, a⟩ := p
    have hj : k < j := h (j, a) (by simp)
    have hm : skeysAbove k m := fun q hq => h q (by simp [hq])
    simp [sget, show i ≠ j by omega, ih hm]

variable [DecidableEq α]

@[simp] theorem swf_nil (d : Nat → α) : swf d [] = true := rfl

theorem swf_cons (d : Nat → α) (j : Nat) (a : α) (m : List (Nat × α)) :
    swf d ((j, a) :: m) = true ↔ a ≠ d j ∧ skeysAbove j m ∧ swf d m = true := by
  simp [swf, skeysAbove, and_assoc]

omit [DecidableEq α] in
theorem mem_of_mem_serase {m : List (Nat × α)} {k : Nat} {p : Nat × α} (h : p ∈ serase m k) : p ∈ m := by
  induction m with
  | nil => simp [serase] at h
  | cons q m ih =>
    obtain ⟨j, a⟩ := q
    simp only [serase] at h
    split at h
    · simp [ih h]
    · rcases List.mem_cons.1 h with h | h
      · simp [h]
      · simp [ih h]

omit [DecidableEq α] in
theorem mem_of_mem_sinsert {m : List (Nat × α)} {k : Nat} {v : α} {p : Nat × α} (h : p ∈ sinsert m k v) : p = (k, v) ∨ p ∈ m := by
  induction m with
  | nil => simpa [sinsert] using h
  | cons q m ih =>
    obtain ⟨j, a⟩ := q
    simp only [sinsert] at h
    split at h
    · simpa using h
    · split at h
      · rcases List.mem_cons.1 h with h | h <;> simp [h]
      · rcases List.mem_cons.1 h with h | h
        · simp [h]
        · rcases ih h with h | h <;> simp [h]

theorem swf_serase (d : Nat → α) (m : List (Nat × α)) (k : Nat) (h : swf d m = true) : swf d (serase m k) = true := by
  induction m with
  | nil => rfl
  | cons q m ih =>
    obtain ⟨j, a⟩ := q
    obtain ⟨h1, h2, h3⟩ := (swf_cons d j a m).1 h
    simp only [serase]
    split
    · exact ih h3
    · exact (swf_cons d j a _).2 ⟨h1, fun p hp => h2 p (mem_of_mem_serase hp), ih h3⟩

theorem swf_sinsert (d : Nat → α) (m : List (Nat × α)) (k : Nat) (v : α) (hv : v ≠ d k) (h : swf d m = true) :
    swf d (sinsert m k v) = true := by
  induction m with
  | nil => exact (swf_cons d k v []).2 ⟨hv, by simp [skeysAbove], rfl⟩
  | cons q m ih =>
    obtain ⟨j, a⟩ := q
    obtain ⟨h1, h2, h3⟩ := (swf_cons d j a m).1 h
    simp only [sinsert]
    split
    next hk =>
      refine (swf_cons d k v _).2 ⟨hv, fun p hp => ?_, h⟩
      rcases List.mem_cons.1 hp with rfl | hp
      · exact hk
      · exact lt_trans hk (h2 p hp)
    next hk =>
      split
      next he => exact (swf_cons d k v m).2 ⟨hv, he ▸ h2, h3⟩
      next he =>
        refine (swf_cons d j a _).2 ⟨h1, fun p hp => ?_, ih h3⟩
        rcases mem_of_mem_sinsert hp with rfl | hp
        · simp only; omega
        · exact h2 p hp

/-- A write keeps the canonical form. -/
theorem swf_sset (d : Nat → α) (m : List (Nat × α)) (k : Nat) (v : α) (h : swf d m = true) : swf d (sset d m k v) = true := by
  unfold sset
  split
  · exact swf_serase d m k h
  · exact swf_sinsert d m k v ‹_› h

/-- Leaving entries out keeps the canonical form. -/
theorem swf_filter (d : Nat → α) (m : List (Nat × α)) (f : Nat × α → Bool) (h : swf d m = true) : swf d (m.filter f) = true := by
  induction m with
  | nil => rfl
  | cons q m ih =>
    obtain ⟨j, a⟩ := q
    obtain ⟨h1, h2, h3⟩ := (swf_cons d j a m).1 h
    simp only [List.filter]
    split
    · exact (swf_cons d j a _).2 ⟨h1, fun p hp => h2 p (List.mem_filter.1 hp).1, ih h3⟩
    · exact ih h3

omit [DecidableEq α] in
theorem sget_sinsert (d : Nat → α) (m : List (Nat × α)) (k i : Nat) (v : α) :
    sget d (sinsert m k v) i = if i = k then v else sget d m i := by
  induction m with
  | nil => simp [sinsert, sget]
  | cons q m ih =>
    obtain ⟨j, a⟩ := q
    simp only [sinsert]
    split
    · simp [sget]
    · split
      next he => subst he; by_cases h : i = k <;> simp [sget, h]
      next he =>
        simp only [sget, ih]
        by_cases h : i = j
        · subst h; simp [show ¬ i = k from fun h => he h.symm]
        · simp [h]

omit [DecidableEq α] in
theorem sget_serase (d : Nat → α) (m : List (Nat × α)) (k i : Nat) :
    sget d (serase m k) i = if i = k then d k else sget d m i := by
  induction m with
  | nil => by_cases hi : i = k <;> simp [serase, sget, hi]
  | cons q m ih =>
    obtain ⟨j, a⟩ := q
    simp only [serase]
    split
    next he =>
      rw [ih]
      by_cases hi : i = k <;> simp [sget, hi, ← he]
    next he =>
      simp only [sget, ih]
      by_cases hj : i = j
      · subst hj; simp [show ¬ i = k from fun e => he e.symm]
      · simp [hj]

/-- Reading a map after a write. -/
theorem sget_sset (d : Nat → α) (m : List (Nat × α)) (k i : Nat) (v : α) :
    sget d (sset d m k v) i = if i = k then v else sget d m i := by
  unfold sset
  split
  next hv => rw [sget_serase, hv]
  next hv => exact sget_sinsert d m k i v

/-- What was written is read back. -/
@[simp] theorem sget_sset_same (d : Nat → α) (m : List (Nat × α)) (k : Nat) (v : α) : sget d (sset d m k v) k = v := by
  simp [sget_sset]

/-- A write leaves every other key alone. -/
theorem sget_sset_other (d : Nat → α) (m : List (Nat × α)) (k i : Nat) (v : α) (hi : i ≠ k) :
    sget d (sset d m k v) i = sget d m i := by
  simp [sget_sset, hi]

/-- The keys of a map after a write. -/
theorem mem_of_mem_sset {d : Nat → α} {m : List (Nat × α)} {k : Nat} {v : α} {p : Nat × α} (h : p ∈ sset d m k v) :
    p = (k, v) ∨ p ∈ m := by
  unfold sset at h
  split at h
  · exact .inr (mem_of_mem_serase h)
  · exact mem_of_mem_sinsert h

end Sys2Proof.Machine
end

