-- ==== Sys2Proof/Laws/Ops.lean ====
section
/-! SUPPORT. What the operations over registers and memory do: a field reads what was written to it and keeps its value when another field, or another
word, is written; a byte of pattern memory likewise. -/

namespace Sys2Proof.Machine

variable {s : State}

/-! ### Register words -/

@[simp] theorem State.reg_setReg_same (a : Nat) (w : Word) : (s.setReg a w).reg a = w := by simp [State.reg, State.setReg]
theorem State.reg_setReg (a b : Nat) (w : Word) : (s.setReg a w).reg b = if b = a then w else s.reg b := by
  simp [State.reg, State.setReg, sget_sset]
theorem State.reg_setReg_other {a b : Nat} (w : Word) (h : b ≠ a) : (s.setReg a w).reg b = s.reg b := by simp [State.reg_setReg, h]
theorem State.reg_set (f : Fld) (v b : Nat) : (s.set f v).reg b = if b = f.addr then wput (s.reg b) f.hi f.lo v else s.reg b := by
  unfold State.set
  rw [State.reg_setReg]
  split
  next h => rw [h]
  · rfl
theorem State.reg_set_other {f : Fld} (v : Nat) {b : Nat} (h : b ≠ f.addr) : (s.set f v).reg b = s.reg b := by simp [State.reg_set, h]

/-! ### Fields -/

/-- A field mask has the bits of its range. -/
theorem getLsbD_fieldMask (hi lo i : Nat) (hh : hi < 128) (hl : lo ≤ hi) : (fieldMask hi lo).getLsbD i = decide (lo ≤ i ∧ i ≤ hi) := by
  simp only [fieldMask, BitVec.getLsbD_ofNat, Nat.testBit_mul_two_pow, Nat.testBit_two_pow_sub_one]
  by_cases h1 : lo ≤ i <;> by_cases h2 : i ≤ hi <;> simp [h1, h2] <;> omega

/-- The bits of a word after a range of it is written. -/
theorem testBit_wput (w : Word) (hi lo v i : Nat) (hh : hi < 128) (hl : lo ≤ hi) :
    (wput w hi lo v).toNat.testBit i = if lo ≤ i ∧ i ≤ hi then v.testBit (i - lo) else w.toNat.testBit i := by
  simp only [← BitVec.getLsbD.eq_1, wput, BitVec.getLsbD_or, BitVec.getLsbD_and, BitVec.getLsbD_not, BitVec.getLsbD_shiftLeft,
    getLsbD_fieldMask hi lo i hh hl, BitVec.getLsbD_ofNat, Nat.testBit_mod_two_pow]
  by_cases h1 : lo ≤ i <;> by_cases h2 : i ≤ hi
  · simp [h1, h2, show i < 128 by omega, show i - lo < 128 by omega, show i - lo < hi + 1 - lo by omega]
  · by_cases h3 : i < 128
    · simp [h1, h2, h3, show ¬ i - lo < hi + 1 - lo by omega]
    · simp [h1, h2, h3, BitVec.getLsbD_of_ge w i (by omega)]
  · simp [h1, show i < 128 by omega]
  · omega

/-- A range reads what was written to it. -/
theorem wget_wput_same (w : Word) (hi lo v : Nat) (hh : hi < 128) (hl : lo ≤ hi) : wget (wput w hi lo v) hi lo = v % 2 ^ (hi + 1 - lo) := by
  apply Nat.eq_of_testBit_eq
  intro i
  simp only [wget, bitsOf, Nat.testBit_mod_two_pow, Nat.testBit_shiftRight, testBit_wput w hi lo v _ hh hl]
  by_cases h : i < hi + 1 - lo
  · simp [h, show lo + i ≤ hi by omega]
  · simp [h]

/-- A range apart from the one written keeps its value. -/
theorem wget_wput_other (w : Word) (hi lo v hi' lo' : Nat) (hh : hi < 128) (hl : lo ≤ hi) (hd : hi' < lo ∨ hi < lo') :
    wget (wput w hi lo v) hi' lo' = wget w hi' lo' := by
  apply Nat.eq_of_testBit_eq
  intro i
  simp only [wget, bitsOf, Nat.testBit_mod_two_pow, Nat.testBit_shiftRight, testBit_wput w hi lo v _ hh hl]
  by_cases h : i < hi' + 1 - lo'
  · simp [h, show ¬ (lo ≤ lo' + i ∧ lo' + i ≤ hi) by omega]
  · simp [h]

/-- R6: a field reads what was written to it. -/
theorem State.get_set_same (f : Fld) (v : Nat) (hh : f.hi < 128) (hl : f.lo ≤ f.hi) : (s.set f v).get f = v % 2 ^ f.width := by
  simp [State.get, State.reg_set, wget_wput_same _ _ _ _ hh hl, Fld.width]

/-- A field of another word keeps its value. -/
theorem State.get_set_addr (f g : Fld) (v : Nat) (h : g.addr ≠ f.addr) : (s.set f v).get g = s.get g := by
  simp [State.get, State.reg_set_other v h]

/-- Another field of the same word keeps its value. -/
theorem State.get_set_other (f g : Fld) (v : Nat) (hh : f.hi < 128) (hl : f.lo ≤ f.hi) (hd : g.hi < f.lo ∨ f.hi < g.lo) :
    (s.set f v).get g = s.get g := by
  unfold State.get
  rw [State.reg_set]
  split
  · rw [wget_wput_other _ _ _ _ _ _ hh hl hd]
  · rfl

theorem State.get_setReg_other (g : Fld) (a : Nat) (w : Word) (h : g.addr ≠ a) : (s.setReg a w).get g = s.get g := by
  simp [State.get, State.reg_setReg_other w h]

/-! ### Pattern memory -/

/-- A byte of pattern memory after another, or the same, is written. -/
theorem State.byte_setByte (a b : Nat) (v : Byte) (ha : a < pmSize) : (s.setByte a v).byte b = if b = a then v else s.byte b := by
  simp [State.setByte, ha, State.byte, sget_sset]

/-- R463: past its end nothing is written. -/
theorem State.setByte_outside (a : Nat) (v : Byte) (ha : ¬ a < pmSize) : s.setByte a v = s := by simp [State.setByte, ha]

/-! ### Loops -/

@[simp] theorem State.forL_nil {α : Type} (f : α → State → State) : s.forL [] f = s := rfl
@[simp] theorem State.forL_cons {α : Type} (a : α) (l : List α) (f : α → State → State) : s.forL (a :: l) f = (f a s).forL l f := rfl
@[simp] theorem State.forN_zero (f : Nat → State → State) : s.forN 0 f = s := rfl
theorem State.forN_succ (k : Nat) (f : Nat → State → State) : s.forN (k + 1) f = f k (s.forN k f) := by
  simp [State.forN, List.range_succ]

/-- What one pass of a loop leaves alone, the loop leaves alone. -/
theorem State.forL_keeps {α β : Type} (g : State → β) (l : List α) (f : α → State → State) (h : ∀ a ∈ l, ∀ t, g (f a t) = g t) : g (s.forL l f) = g s := by
  induction l generalizing s with
  | nil => rfl
  | cons a l ih => rw [State.forL_cons, ih (fun b hb => h b (by simp [hb])), h a (by simp)]

theorem State.forN_keeps {β : Type} (g : State → β) (k : Nat) (f : Nat → State → State) (h : ∀ i < k, ∀ t, g (f i t) = g t) : g (s.forN k f) = g s :=
  State.forL_keeps g (List.range k) f (fun i hi t => h i (List.mem_range.1 hi) t)

end Sys2Proof.Machine
end

