-- ==== Sys2Proof/Laws/Frame.lean ====
section
/-! SUPPORT. Frames: how the fields and words that an operation leaves alone compose. -/

namespace Sys2Proof.Machine

variable {s t u : State} {fs gs : List Fld} {ws vs : List Nat}

theorem State.SameFields.refl : s.SameFields fs s := fun _ _ _ => rfl

theorem State.SameFields.trans (h : s.SameFields fs t) (k : t.SameFields gs u) : s.SameFields (fs ++ gs) u := fun f hl hd => by
  rw [k f hl (fun g hg => hd g (by simp [hg])), h f hl (fun g hg => hd g (by simp [hg]))]

theorem State.SameFields.mono (h : s.SameFields fs t) (hs : ∀ g ∈ fs, g ∈ gs) : s.SameFields gs t := fun f hl hd => h f hl (fun g hg => hd g (hs g hg))

/-- A step on from a state that differs from the first in fields of `fs` only. -/
theorem State.SameFields.snoc (h : s.SameFields fs t) (k : t.SameFields fs u) : s.SameFields fs u := fun f hl hd => by rw [k f hl hd, h f hl hd]

/-- Changing anything but the registers changes no field. -/
theorem State.SameFields.of_regs (h : t.regs = s.regs) : s.SameFields fs t := fun f _ _ => by simp [State.get, State.reg, h]

theorem State.SameFields.set (f : Fld) (v : Nat) (hh : f.hi < 128) (hl : f.lo ≤ f.hi) (hf : f ∈ fs) : s.SameFields fs (s.set f v) := fun g gl hd => by
  rcases hd f hf with h | h | h
  · exact State.get_set_addr f g v h
  · exact State.get_set_other f g v hh hl (.inl h)
  · exact State.get_set_other f g v hh hl (.inr h)

theorem State.SameWords.refl : s.SameWords ws s := fun _ _ => rfl

theorem State.SameWords.snoc (h : s.SameWords ws t) (k : t.SameWords ws u) : s.SameWords ws u := fun a ha => by rw [k a ha, h a ha]

theorem State.SameWords.of_regs (h : t.regs = s.regs) : s.SameWords ws t := fun a _ => by simp [State.reg, h]

theorem State.SameWords.set (f : Fld) (v : Nat) (hf : f.addr ∈ ws) : s.SameWords ws (s.set f v) := fun a ha => by
  rw [State.reg_set, if_neg (fun h : a = f.addr => ha (h ▸ hf))]

theorem State.SameWords.setReg (a : Nat) (w : Word) (ha : a ∈ ws) : s.SameWords ws (s.setReg a w) := fun b hb => by
  rw [State.reg_setReg, if_neg (fun h : b = a => hb (h ▸ ha))]

/-- Two states that agree on every word outside `ws` agree on every field outside it. -/
theorem State.SameWords.get (h : s.SameWords ws t) {f : Fld} (hf : f.addr ∉ ws) : t.get f = s.get f := by simp [State.get, h f.addr hf]

end Sys2Proof.Machine
end

