-- ==== Sys2Proof/Laws/Keeps.lean ====
section
/-! SUPPORT. A property of the storage that the primitive operations keep is kept by every operation built from them. `Keeps` names the primitive
operations that most of the model is built from; four classes add those that store to pattern memory, to the non-volatile memory, to the control
store and to the structure, and one the resets. The Keeps files beside this one hold one lemma an operation, so that an invariant of the whole machine, or the frame of a
family of commands, is shown by looking at the primitive operations alone. -/

namespace Sys2Proof.Machine

/-- What an operation that stores to no memory asks of a property. -/
class Keeps (P : State → Prop) : Prop where
  upd : ∀ {s t : State}, t.regs = s.regs → t.shadow = s.shadow → t.held = s.held → t.mem = s.mem → t.nvm = s.nvm → t.cs = s.cs →
    t.maps = s.maps → t.clones = s.clones → t.routes = s.routes → t.pending = s.pending → P s → P t
  setReg : ∀ {s : State} (a : Nat) (w : Word), P s → P (s.setReg a w)
  setShadow : ∀ {s : State} (a : Nat) (w : Word), P s → P (s.setShadow a w)
  latch : ∀ {s : State}, P s → P s.latchShadows
  dropRegs : ∀ {s : State} (f : Nat × Word → Bool), P s → P { s with regs := s.regs.filter f }
  dropHeld : ∀ {s : State} (f : Nat × Word → Bool), P s → P { s with held := s.held.filter f }
  soft : ∀ {s : State}, P s → P { s with regs := softRegs s.regs, shadow := s.shadow.filter (fun p => !softBlock p.1), held := s.held.filter (fun p => !softBlock p.1) }

/-- The property is kept by a store to pattern memory. -/
class KeepsMem (P : State → Prop) : Prop where
  setByte : ∀ {s : State} (a : Nat) (b : Byte), P s → P (s.setByte a b)

/-- The property is kept by a store to the non-volatile memory. -/
class KeepsNvm (P : State → Prop) : Prop where
  nvmPut : ∀ {s : State} (copy a : Nat) (bs : List Byte), P s → P (s.nvmPut copy a bs)

/-- The property is kept by a load of the control store. -/
class KeepsCs (P : State → Prop) : Prop where
  csFill : ∀ {s : State} (customer : Bool) (b : Nat) (words : Nat → MicroWord) (base count : Nat), P s → P (s.csFill customer b words base count)

/-- The property is kept by a change of the structure. -/
class KeepsMaps (P : State → Prop) : Prop where
  setMaps : ∀ {s : State} (maps : List (Nat × SiteMap)) (clones routes : List (Nat × Nat)), P s → P (s.setMaps maps clones routes)

/-- The property is kept by the resets of the whole device. -/
class KeepsReset (P : State → Prop) : Prop where
  hardReset : ∀ {s : State}, P s → P s.hardReset
  keepMem : ∀ {s t : State}, P s → P t → P (s.keepMem t)

/-- A property of an outcome: it holds of the next state, if there is one. -/
def Out.All (P : State → Prop) : Out → Prop
  | .next t => P t
  | _ => True

variable {P : State → Prop} {s : State}

/-- Changing other fields keeps a kept property. -/
theorem kept_upd [Keeps P] (h : P s) {x4 : List Nat} {x5 : Word64} {x6 : Nat} {x7 : TbSt} {x11 : Option SiOp} {x12 : List (Nat × Nat)} {x13 : List
    Boost} {x14 : List (Nat × Seq)} {x15 : List PendRec} {x16 : Bool} {x17 : Nat} {x18 : List PendSnap} {x19 : Option (Nat × Nat)} {x20 : List (Nat ×
    Chan)} {x21 : List (Nat × Nat)} {x22 : List (Nat × Nat)} {x23 : List (Nat × Stream)} {x24 : List PendAct} {x25 : List (Nat × ClSlot)} {x26 : List
    Watch} {x27 : List RootDec} {x28 : Bool} {x29 : List (Nat × Follow)} {x31 : List Nat} {x32 : List (Nat × Nat)} {x33 : Option LxOp} {x35 : List
    FailMark} {x36 : List (Nat × Dac)} {x37 : List (Nat × Pmu)} {x38 : List (Nat × Wf)} {x39 : List (Nat × List Host.Cell)} {x40 : List (Nat × (Nat ×
    Nat))} {x41 : List (Nat × Dps)} {x42 : List (Nat × Gd)} {x43 : List (Nat × Gd)} {x44 : Option Contact} {x45 : Bool} {x46 : List (Nat × Meas)} {x47
    : List (Nat × Meas)} {x48 : List (Nat × Tdc)} {x49 : List (Nat × LTest)} {x50 : List (Nat × Lane)} {x51 : CalSt} {x52 : List (Nat × Nat)} {x53 :
    List (Nat × Word)} {x54 : List LogWait} {x55 : Nat} {x56 : Nat} {x57 : List Word} {x58 : Option MpOp} {x59 : List (Nat × (Nat × Nat))} {x60 : List
    (Nat × Nat × Nat)} {x61 : HkSt} {x62 : Option Shut} {x63 : Option (Nat × Nat)} {x64 : Option Nat} {x65 : Option (Nat × Nat)} {x66 : Bool} {x67 :
    LinkSt} {x68 : Jtag} : P ⟨s.regs, s.shadow, s.held, s.mem, x4, x5, x6, x7, s.maps, s.clones, s.routes, x11, x12, x13, x14, x15, x16, x17, x18,
    x19, x20, x21, x22, x23, x24, x25, x26, x27, x28, x29, s.cs, x31, x32, x33, s.nvm, x35, x36, x37, x38, x39, x40, x41, x42, x43, x44, x45, x46,
    x47, x48, x49, x50, x51, x52, x53, x54, x55, x56, x57, x58, x59, x60, x61, x62, x63, x64, x65, x66, x67, x68, s.pending⟩ :=
  Keeps.upd (s := s) rfl rfl rfl rfl rfl rfl rfl rfl rfl rfl h

theorem upd_of [Keeps P] {t : State} (h : P s) (h1 : t.regs = s.regs) (h2 : t.shadow = s.shadow) (h3 : t.held = s.held) (h4 : t.mem = s.mem)
    (h5 : t.nvm = s.nvm) (h6 : t.cs = s.cs) (h7 : t.maps = s.maps) (h8 : t.clones = s.clones) (h9 : t.routes = s.routes)
    (h10 : t.pending = s.pending) : P t := Keeps.upd h1 h2 h3 h4 h5 h6 h7 h8 h9 h10 h

theorem keptOut_of {t : State} (h : P t) : Out.All P (.next t) := h

theorem ite_kept {c : Prop} [Decidable c] {a b : State} (ha : c → P a) (hb : ¬c → P b) : P (if c then a else b) := by
  split <;> simp [*]

theorem ite_fst_kept {β : Type} {c : Prop} [Decidable c] {a b : State × β} (ha : c → P a.1) (hb : ¬c → P b.1) : P (if c then a else b).1 := by
  split <;> simp [*]

theorem ite_snd_kept {β : Type} {c : Prop} [Decidable c] {a b : β × State} (ha : c → P a.2) (hb : ¬c → P b.2) : P (if c then a else b).2 := by
  split <;> simp [*]

theorem fst_kept {β : Type} {a : State} {b : β} (h : P a) : P (a, b).1 := h

theorem snd_kept {β : Type} {a : State} {b : β} (h : P a) : P (b, a).2 := h

theorem ite_keptOut {c : Prop} [Decidable c] {a b : Out} (ha : c → Out.All P a) (hb : ¬c → Out.All P b) : Out.All P (if c then a else b) := by
  split <;> simp [*]

theorem foldl_kept {α : Type} (l : List α) (f : State → α → State) (hf : ∀ a t, P t → P (f t a)) (h : P s) : P (List.foldl f s l) := by
  induction l generalizing s with
  | nil => exact h
  | cons a l ih => exact ih (hf a s h)

theorem foldl_fst_kept {α β : Type} (l : List α) (f : State × β → α → State × β) (hf : ∀ a p, P p.1 → P (f p a).1) {p : State × β}
    (h : P p.1) : P (List.foldl f p l).1 := by
  induction l generalizing p with
  | nil => exact h
  | cons a l ih => exact ih (hf a p h)

theorem State.forL_kept {α : Type} (l : List α) (f : α → State → State) (hf : ∀ a t, P t → P (f a t)) (h : P s) : P (s.forL l f) :=
  foldl_kept l (fun t a => f a t) hf h

theorem State.forN_kept (k : Nat) (f : Nat → State → State) (hf : ∀ i t, P t → P (f i t)) (h : P s) : P (s.forN k f) :=
  State.forL_kept (List.range k) f hf h

theorem State.setReg_kept [Keeps P] (h : P s) (a : Nat) (w : Word) : P (s.setReg a w) := Keeps.setReg a w h
theorem State.setShadow_kept [Keeps P] (h : P s) (a : Nat) (w : Word) : P (s.setShadow a w) := Keeps.setShadow a w h
theorem State.latchShadows_kept [Keeps P] (h : P s) : P s.latchShadows := Keeps.latch h
theorem State.setByte_kept [KeepsMem P] (h : P s) (a : Nat) (b : Byte) : P (s.setByte a b) := KeepsMem.setByte a b h
theorem State.nvmPut_kept [KeepsNvm P] (h : P s) (copy a : Nat) (bs : List Byte) : P (s.nvmPut copy a bs) := KeepsNvm.nvmPut copy a bs h
theorem State.csFill_kept [KeepsCs P] (h : P s) (customer : Bool) (b : Nat) (words : Nat → MicroWord) (base count : Nat) :
    P (s.csFill customer b words base count) := KeepsCs.csFill customer b words base count h
theorem State.setMaps_kept [KeepsMaps P] (h : P s) (maps : List (Nat × SiteMap)) (clones routes : List (Nat × Nat)) : P (s.setMaps maps clones routes) :=
  KeepsMaps.setMaps maps clones routes h
theorem State.hardReset_kept [KeepsReset P] (h : P s) : P s.hardReset := KeepsReset.hardReset h
theorem State.keepMem_kept [KeepsReset P] {t : State} (h : P s) (ht : P t) : P (s.keepMem t) := KeepsReset.keepMem h ht

end Sys2Proof.Machine
end

