-- ==== Sys2Proof/Laws/KeepsBase.lean ====
section
/-! SUPPORT. What the primitive operations keep, every operation of one group keeps: the operations over registers, memory, sites and clause slots. One lemma an operation, each
assembled from those of the operations it calls. -/

namespace Sys2Proof.Machine

variable {P : State → Prop}

/-! ### Ops -/

theorem State.set_kept [Keeps P] {s : State} (h : P s) (a1 : Fld) (a2 : Nat) :
    P (State.set s a1 a2) := by
  unfold State.set
  exact State.setReg_kept h _ _

theorem State.setS_kept [Keeps P] {s : State} (h : P s) (a1 : Fld) (a2 : Int) :
    P (State.setS s a1 a2) := by
  unfold State.setS
  exact State.set_kept h _ _

theorem State.add_kept [Keeps P] {s : State} (h : P s) (a1 : Fld) (a2 : Nat) :
    P (State.add s a1 a2) := by
  unfold State.add
  exact State.set_kept h _ _

theorem State.inc_kept [Keeps P] {s : State} (h : P s) (a1 : Fld) :
    P (State.inc s a1) := by
  unfold State.inc
  exact State.add_kept h _ _

theorem State.incSat_kept [Keeps P] {s : State} (h : P s) (a1 : Fld) :
    P (State.incSat s a1) := by
  unfold State.incSat
  exact ite_kept (fun _ => (State.inc_kept h _)) (fun _ => h)

theorem State.bumpFree_kept [Keeps P] {s : State} (h : P s) :
    P (State.bumpFree s) := by
  unfold State.bumpFree
  exact kept_upd h

theorem State.setBytes_kept [Keeps P] [KeepsMem P] {s : State} (h : P s) (a1 : Nat) (a2 : List Byte) :
    P (State.setBytes s a1 a2) := by
  induction a2 generalizing s a1 with
  | nil => exact h
  | cons b bs ih => exact ih (State.setByte_kept h _ _) _

theorem State.memReq_kept [Keeps P] {s : State} (h : P s) (a1 : Nat) (a2 : Nat) :
    P (State.memReq s a1 a2) := by
  unfold State.memReq
  exact State.forL_kept _ _ (fun _ _ h0 => (by extract_lets x1 x2; have h2 : P x2 := (kept_upd h0); exact (ite_kept (fun _ => (State.set_kept h2 _ _)) (fun _ => h2)))) h

theorem State.stackDown_kept [Keeps P] {s : State} (h : P s) (a1 : Nat) :
    P (State.stackDown s a1) := by
  unfold State.stackDown
  extract_lets x0 x1
  exact (ite_kept (fun _ => (State.set_kept h _ _)) (fun _ => h))

theorem State.intr_kept [Keeps P] {s : State} (h : P s) (a1 : Nat) :
    P (State.intr s a1) := by
  unfold State.intr
  extract_lets x0 x1
  have h1 : P x1 := (State.set_kept h _ _)
  exact (ite_kept (fun _ => h) (fun _ => (by split; exact (ite_kept (fun _ => (kept_upd h1)) (fun _ => h1)))))

theorem State.alert_kept [Keeps P] {s : State} (h : P s) (a1 : Nat) :
    P (State.alert s a1) := by
  unfold State.alert
  extract_lets x0 x1
  have h1 : P x1 := (State.set_kept h _ _)
  exact (ite_kept (fun _ => h) (fun _ => (ite_kept (fun _ => h1) (fun _ => (State.intr_kept h1 _)))))

theorem State.log_kept [Keeps P] {s : State} (h : P s) (a1 : Nat) (a2 : Nat) (a3 : Nat) (a4 : Nat) :
    P (State.log s a1 a2 a3 a4) := by
  unfold State.log
  exact ite_kept (fun _ => (State.inc_kept h _)) (fun _ => (kept_upd h))

theorem State.hlLast_kept [Keeps P] {s : State} (h : P s) (a1 : Nat) (a2 : Nat) :
    P (State.hlLast s a1 a2) := by
  unfold State.hlLast
  exact State.set_kept (State.set_kept (State.set_kept h _ _) _ _) _ _

theorem State.reportReject_kept [Keeps P] {s : State} (h : P s) (a1 : Port) (a2 : Nat) :
    P (State.reportReject s a1 a2) := by
  unfold State.reportReject
  split
  · exact (by extract_lets x0; have h0 : P x0 := (State.inc_kept (State.set_kept h _ _) _); exact (kept_upd h0))
  · exact (State.hlLast_kept (State.set_kept h _ _) _ _)

theorem State.reportHole_kept [Keeps P] {s : State} (h : P s) (a1 : Port) (a2 : Nat) :
    P (State.reportHole s a1 a2) := by
  unfold State.reportHole
  split
  · exact (by extract_lets x0; have h0 : P x0 := (State.set_kept h _ _); exact (kept_upd h0))
  · exact (State.hlLast_kept (State.set_kept h _ _) _ _)

theorem State.reject_kept [Keeps P] {s : State} (h : P s) (a1 : Port) (a2 : Nat) (a3 : Nat) (a4 : Nat) (a5 : Nat) :
    P (State.reject s a1 a2 a3 a4 a5) := by
  unfold State.reject
  exact State.log_kept (State.reportReject_kept h _ _) _ _ _ _

theorem State.host_kept [Keeps P] {s : State} (h : P s) (a1 : Port) (a2 : Nat) (a3 : Nat) (a4 : Nat) (a5 : State → State) (h1005 : ∀ t, P t → P (a5
    t)) :
    P (State.host s a1 a2 a3 a4 a5) := by
  unfold State.host
  exact ite_kept (fun _ => (State.reject_kept h _ _ _ _ _)) (fun _ => (h1005 _ h))

theorem State.setSeq_kept [Keeps P] {s : State} (h : P s) (a1 : Nat) (a2 : Seq) :
    P (State.setSeq s a1 a2) := by
  unfold State.setSeq
  exact kept_upd h

theorem State.pushRec_kept [Keeps P] {s : State} (h : P s) (a1 : Word) (a2 : Nat) (a3 : Nat) :
    P (State.pushRec s a1 a2 a3) := by
  unfold State.pushRec
  exact kept_upd h

theorem State.record_kept [Keeps P] {s : State} (h : P s) (a1 : Nat) (a2 : Nat) (a3 : Nat) (a4 : Nat) (a5 : Int) :
    P (State.record s a1 a2 a3 a4 a5) := by
  unfold State.record
  split
  exact (by extract_lets x0; exact (State.pushRec_kept h _ _ _))

theorem State.recordRaw_kept [Keeps P] {s : State} (h : P s) (a1 : Nat) (a2 : Nat) (a3 : Nat) (a4 : Nat) (a5 : Nat) :
    P (State.recordRaw s a1 a2 a3 a4 a5) := by
  unfold State.recordRaw
  exact State.pushRec_kept h _ _ _

theorem State.event_kept [Keeps P] {s : State} (h : P s) (a1 : Nat) (a2 : Nat) (a3 : Nat) (a4 : Nat) :
    P (State.event s a1 a2 a3 a4) := by
  unfold State.event
  exact State.pushRec_kept h _ _ _

theorem State.eventStmt_kept [Keeps P] {s : State} (h : P s) (a1 : Nat) (a2 : Nat) (a3 : Nat) :
    P (State.eventStmt s a1 a2 a3) := by
  unfold State.eventStmt
  exact State.pushRec_kept h _ _ _

theorem State.accFold_kept [Keeps P] {s : State} (h : P s) (a1 : Nat) (a2 : Int) (a3 : Bool) :
    P (State.accFold s a1 a2 a3) := by
  unfold State.accFold
  extract_lets x0 x1 x2 x3
  have h1 : P x1 := (State.incSat_kept (State.inc_kept h _) _)
  have h2 : P x2 := (ite_kept (fun _ => (State.incSat_kept h1 _)) (fun _ => h1))
  have h3 : P x3 := (ite_kept (fun _ => (State.setS_kept h2 _ _)) (fun _ => h2))
  exact (ite_kept (fun _ => (State.setS_kept h3 _ _)) (fun _ => h3))

/-! ### Nvm -/

theorem State.nvmWrite_kept [Keeps P] [KeepsNvm P] {s : State} (h : P s) (a1 : Nat) (a2 : List Byte) (a3 : NvmEnd) :
    P (State.nvmWrite s a1 a2 a3).1 := by
  unfold State.nvmWrite
  split
  · exact (fst_kept (State.nvmPut_kept h _ _ _))
  · exact (by extract_lets x0; have h0 : P x0 := (State.nvmPut_kept h _ _ _); exact (by split; (exact (fst_kept (State.nvmPut_kept h0 _ _ _))); (exact (fst_kept (State.nvmPut_kept h0 _ _ _)))))

/-! ### Edge -/

theorem State.setItem_kept [Keeps P] {s : State} (h : P s) (a1 : Bool) (a2 : Nat) (a3 : Nat) (a4 : Nat) (a5 : Nat) :
    P (State.setItem s a1 a2 a3 a4 a5) := by
  unfold State.setItem
  exact ite_kept (fun _ => (kept_upd h)) (fun _ => (kept_upd h))

theorem State.tenseWrite_kept [Keeps P] {s : State} (h : P s) (a1 : Bool) (a2 : Nat) (a3 : Word) :
    P (State.tenseWrite s a1 a2 a3) := by
  unfold State.tenseWrite
  exact State.setItem_kept h _ _ _ _ _

/-! ### Slot -/

theorem State.setSlot_kept [Keeps P] {s : State} (h : P s) (a1 : Nat) (a2 : ClSlot) :
    P (State.setSlot s a1 a2) := by
  unfold State.setSlot
  exact kept_upd h

theorem State.freeSlot_kept [Keeps P] {s : State} (h : P s) (a1 : Nat) :
    P (State.freeSlot s a1) := by
  unfold State.freeSlot
  exact State.setSlot_kept (State.setReg_kept h _ _) _ _

theorem State.restoreTenses_kept [Keeps P] {s : State} (h : P s) (a1 : Nat) :
    P (State.restoreTenses s a1) := by
  unfold State.restoreTenses
  exact kept_upd h

theorem State.tellOwner_kept [Keeps P] {s : State} (h : P s) (a1 : Nat) (a2 : Nat) :
    P (State.tellOwner s a1 a2) := by
  unfold State.tellOwner
  split
  · exact h
  · exact (by split; (exact (ite_kept (fun _ => (State.setSeq_kept h _ _)) (fun _ => h))); (exact h))

theorem State.countResult_kept [Keeps P] {s : State} (h : P s) (a1 : Nat) :
    P (State.countResult s a1) := by
  unfold State.countResult
  exact ite_kept (fun _ => (State.inc_kept h _)) (fun _ => (ite_kept (fun _ => (State.inc_kept h _)) (fun _ => (ite_kept (fun _ => (State.inc_kept h
      _)) (fun _ => h)))))

theorem State.endClause_kept [Keeps P] {s : State} (h : P s) (a1 : Nat) (a2 : Nat) :
    P (State.endClause s a1 a2) := by
  unfold State.endClause
  extract_lets x0 x1 x2 x3 x4
  have h1 : P x1 := (ite_kept (fun _ => h) (fun _ => (State.restoreTenses_kept h _)))
  have h2 : P x2 := (ite_kept (fun _ => (State.set_kept h1 _ _)) (fun _ => h1))
  have h3 : P x3 := (State.countResult_kept h2 _)
  have h4 : P x4 := (ite_kept (fun _ => h3) (fun _ => (State.log_kept h3 _ _ _ _)))
  exact (by split; (exact (State.freeSlot_kept (State.tellOwner_kept h4 _ _) _)); (exact (State.intr_kept (State.setSlot_kept (State.set_kept (State.set_kept h4 _ _) _ _) _ _) _)))

theorem State.setOpen_kept [Keeps P] {s : State} (h : P s) (a1 : Nat) (a2 : Option Nat) (a3 : Bool) :
    P (State.setOpen s a1 a2 a3) := by
  unfold State.setOpen
  exact State.set_kept (State.setSeq_kept h _ _) _ _

theorem State.discardOpen_kept [Keeps P] {s : State} (h : P s) (a1 : Nat) :
    P (State.discardOpen s a1) := by
  unfold State.discardOpen
  split
  · exact h
  · exact (State.setOpen_kept (State.endClause_kept h _ _) _ _ _)

/-! ### Site -/

theorem State.setSite_kept [Keeps P] {s : State} (h : P s) (a1 : Nat) (a2 : Nat) :
    P (State.setSite s a1 a2) := by
  unfold State.setSite
  extract_lets x0 x1 x2 x3
  have h1 : P x1 := (State.set_kept h _ _)
  have h2 : P x2 := (ite_kept (fun _ => (State.inc_kept h1 _)) (fun _ => h1))
  have h3 : P x3 := (ite_kept (fun _ => (State.intr_kept h2 _)) (fun _ => h2))
  exact (ite_kept (fun _ => (State.intr_kept h3 _)) (fun _ => h3))

theorem State.storeToken_kept [Keeps P] {s : State} (h : P s) (a1 : Nat) (a2 : Nat) :
    P (State.storeToken s a1 a2) := by
  unfold State.storeToken
  extract_lets x0 x1
  exact (State.set_kept (State.setReg_kept h _ _) _ _)

theorem State.clearToken_kept [Keeps P] {s : State} (h : P s) (a1 : Nat) :
    P (State.clearToken s a1) := by
  unfold State.clearToken
  exact State.set_kept (State.setReg_kept h _ _) _ _

theorem State.cancelUnits_kept [Keeps P] {s : State} (h : P s) (a1 : Nat) :
    P (State.cancelUnits s a1) := by
  unfold State.cancelUnits
  extract_lets x0 x2
  have h0 : P x0 := (State.forL_kept _ _ (fun _ _ h1 => (State.set_kept h1 _ _)) h)
  have h2 : P x2 := (State.forL_kept _ _ (fun _ _ h3 => (State.set_kept h3 _ _)) h0)
  exact (kept_upd h2)

theorem State.stopIssue_kept [Keeps P] {s : State} (h : P s) (a1 : Nat) :
    P (State.stopIssue s a1) := by
  unfold State.stopIssue
  extract_lets x0
  exact (by split; (exact h); (exact (ite_kept (fun _ => h) (fun _ => (State.setSeq_kept (State.cancelUnits_kept (State.bumpFree_kept (State.storeToken_kept h _ _)) _) _ _)))); (exact (ite_kept (fun _ => h) (fun _ => (State.setSeq_kept (State.bumpFree_kept (State.storeToken_kept h _ _)) _ _)))))

theorem State.hold_kept [Keeps P] {s : State} (h : P s) (a1 : Nat) (a2 : Nat) :
    P (State.hold s a1 a2) := by
  unfold State.hold
  extract_lets x0 x1
  have h1 : P x1 := (State.set_kept h _ _)
  exact (ite_kept (fun _ => (State.stopIssue_kept (State.setSite_kept h1 _ _) _)) (fun _ => h1))

theorem State.tripSite_kept [Keeps P] {s : State} (h : P s) (a1 : Nat) :
    P (State.tripSite s a1) := by
  unfold State.tripSite
  exact ite_kept (fun _ => (State.stopIssue_kept (State.setSite_kept (State.discardOpen_kept h _) _ _) _)) (fun _ => (ite_kept (fun _ =>
      (State.setSite_kept (State.discardOpen_kept h _) _ _)) (fun _ => h)))

theorem State.unitDone_kept [Keeps P] {s : State} (h : P s) (a1 : Nat) (a2 : Bool) :
    P (State.unitDone s a1 a2) := by
  unfold State.unitDone
  extract_lets x0
  exact (by split; (exact (State.setSeq_kept h _ _)); (exact h))

theorem State.setX_kept [Keeps P] {s : State} (h : P s) (a1 : Nat) (a2 : Nat) (a3 : Word) :
    P (State.setX s a1 a2 a3) := by
  unfold State.setX
  exact ite_kept (fun _ => h) (fun _ => (State.setReg_kept h _ _))

theorem State.setSt_kept [Keeps P] {s : State} (h : P s) (a1 : Nat) (a2 : Nat) :
    P (State.setSt s a1 a2) := by
  unfold State.setSt
  exact State.set_kept h _ _

theorem State.setPc_kept [Keeps P] {s : State} (h : P s) (a1 : Nat) (a2 : Nat) :
    P (State.setPc s a1 a2) := by
  unfold State.setPc
  exact State.set_kept h _ _

theorem State.retire_kept [Keeps P] {s : State} (h : P s) (a1 : Nat) :
    P (State.retire s a1) := by
  unfold State.retire
  exact State.setPc_kept h _ _

theorem State.verbRetire_kept [Keeps P] {s : State} (h : P s) (a1 : Nat) :
    P (State.verbRetire s a1) := by
  unfold State.verbRetire
  extract_lets x0 x1 x2
  have h2 : P x2 := (State.setSeq_kept (State.setPc_kept h _ _) _ _)
  exact (ite_kept (fun _ => h2) (fun _ => (State.discardOpen_kept h2 _)))

theorem State.cmdDone_kept [Keeps P] {s : State} (h : P s) (a1 : Nat) (a2 : Bool) (a3 : Word) :
    P (State.cmdDone s a1 a2 a3) := by
  unfold State.cmdDone
  extract_lets x0 x1 x2
  have h2 : P x2 := (State.setSeq_kept h _ _)
  exact (ite_kept (fun _ => (State.verbRetire_kept h2 _)) (fun _ => h2))

theorem State.finishWait_kept [Keeps P] {s : State} (h : P s) (a1 : Nat) (a2 : Nat) (a3 : Word) (a4 : Nat) (a5 : Bool) :
    P (State.finishWait s a1 a2 a3 a4 a5) := by
  unfold State.finishWait
  extract_lets x0 x1
  have h1 : P x1 := (State.setSeq_kept h _ _)
  exact (ite_kept (fun _ => (State.cmdDone_kept h1 _ _ _)) (fun _ => (State.retire_kept (State.setSt_kept (State.setX_kept h1 _ _ _) _ _) _)))

theorem State.finishBeat_kept [Keeps P] {s : State} (h : P s) (a1 : Nat) :
    P (State.finishBeat s a1) := by
  unfold State.finishBeat
  extract_lets x0 x1
  have h1 : P x1 := (State.setSeq_kept h _ _)
  exact (ite_kept (fun _ => (State.cmdDone_kept h1 _ _ _)) (fun _ => (State.retire_kept h1 _)))

theorem State.resumeWait_kept [Keeps P] {s : State} (h : P s) (a1 : Nat) :
    P (State.resumeWait s a1) := by
  unfold State.resumeWait
  split
  · exact (State.finishWait_kept h _ _ _ _ _)
  · exact (ite_kept (fun _ => (State.finishBeat_kept h _)) (fun _ => h))
  · exact h

theorem State.resumeSeq_kept [Keeps P] {s : State} (h : P s) (a1 : Nat) :
    P (State.resumeSeq s a1) := by
  unfold State.resumeSeq
  extract_lets x0 x1 x2 x3
  have h2 : P x2 := (State.inc_kept (State.event_kept h _ _ _ _) _)
  have h3 : P x3 := (State.setPc_kept (State.setSt_kept h2 _ _) _ _)
  exact (ite_kept (fun _ => (State.setSeq_kept h _ _)) (fun _ => (ite_kept (fun _ => (State.resumeWait_kept (State.setSeq_kept (State.clearToken_kept
      h _) _ _) _)) (fun _ => (State.setSeq_kept (State.cancelUnits_kept (State.clearToken_kept h3 _) _) _ _)))))

theorem State.setStream_kept [Keeps P] {s : State} (h : P s) (a1 : Nat) (a2 : Stream) :
    P (State.setStream s a1 a2) := by
  unfold State.setStream
  exact kept_upd h

theorem State.releaseStream_kept [Keeps P] {s : State} (h : P s) (a1 : Nat) :
    P (State.releaseStream s a1) := by
  unfold State.releaseStream
  extract_lets x0 x1
  exact (ite_kept (fun _ => (State.setStream_kept h _ _)) (fun _ => h))

theorem State.clearCauses_kept [Keeps P] {s : State} (h : P s) (a1 : Nat) (a2 : Nat) :
    P (State.clearCauses s a1 a2) := by
  unfold State.clearCauses
  extract_lets x0 x1 x2
  have h2 : P x2 := (State.set_kept h _ _)
  exact (ite_kept (fun _ => (State.releaseStream_kept (State.resumeSeq_kept (State.setSite_kept h2 _ _) _) _)) (fun _ => h2))

/-! ### PatMem -/

theorem State.refreshLease_kept [Keeps P] {s : State} (h : P s) (a1 : Nat) :
    P (State.refreshLease s a1) := by
  unfold State.refreshLease
  extract_lets x0 x1 x2
  exact (State.setReg_kept h _ _)

theorem State.refreshLeases_kept [Keeps P] {s : State} (h : P s) :
    P (State.refreshLeases s) := by
  unfold State.refreshLeases
  exact State.forN_kept _ _ (fun _ _ h0 => (ite_kept (fun _ => (State.refreshLease_kept h0 _)) (fun _ => h0))) h

theorem State.rgnWrite_kept [Keeps P] {s : State} (h : P s) (a1 : Port) (a2 : Nat) (a3 : Word) :
    P (State.rgnWrite s a1 a2 a3) := by
  unfold State.rgnWrite
  extract_lets x0 x1
  have h1 : P x1 := (State.set_kept h _ _)
  exact (by split; (exact (State.reject_kept (State.set_kept h1 _ _) _ _ _ _ _)); (exact (State.refreshLease_kept (State.setReg_kept (State.set_kept h1 _ _) _ _) _)))

theorem State.uncorrMet_kept [Keeps P] {s : State} (h : P s) :
    P (State.uncorrMet s) := by
  unfold State.uncorrMet
  exact State.set_kept (State.inc_kept h _) _ _

theorem State.descRead_kept [Keeps P] {s : State} (h : P s) (a1 : Nat) :
    P (State.descRead s a1) := by
  unfold State.descRead
  extract_lets x0 x1 x2 x3
  have h2 : P x2 := (ite_kept (fun _ => (State.memReq_kept h _ _)) (fun _ => h))
  have h3 : P x3 := (ite_kept (fun _ => (State.uncorrMet_kept h2)) (fun _ => h2))
  exact (ite_kept (fun _ => h) (fun _ => (ite_kept (fun _ => (State.setStream_kept h3 _ _)) (fun _ => (by split; (exact (State.setStream_kept h3 _ _)); (exact (State.setStream_kept h3 _ _)))))))

theorem State.violRecord_kept [Keeps P] {s : State} (h : P s) (a1 : Nat) (a2 : Nat) :
    P (State.violRecord s a1 a2) := by
  unfold State.violRecord
  extract_lets x0 x1
  have h1 : P x1 := (ite_kept (fun _ => (State.setReg_kept h _ _)) (fun _ => h))
  exact (State.log_kept (State.inc_kept h1 _) _ _ _ _)

theorem State.violStreams_kept [Keeps P] {s : State} (h : P s) (a1 : Nat) (a2 : Nat) :
    P (State.violStreams s a1 a2) := by
  unfold State.violStreams
  exact State.forN_kept _ _ (fun _ _ h0 => (ite_kept (fun _ => (State.setStream_kept h0 _ _)) (fun _ => h0))) h

theorem State.violSites_kept [Keeps P] {s : State} (h : P s) (a1 : Nat) (a2 : Nat) :
    P (State.violSites s a1 a2) := by
  unfold State.violSites
  exact State.forL_kept _ _ (fun _ _ h0 => (ite_kept (fun _ => (by extract_lets x1 x2; have h2 : P x2 := (ite_kept (fun _ => (State.setStream_kept h0 _ _)) (fun _ => h0)); exact (State.hold_kept h2 _ _))) (fun _ => h0))) h

theorem State.writeLanes_kept [Keeps P] [KeepsMem P] {s : State} (h : P s) (a1 : Nat) (a2 : List ByteLane) :
    P (State.writeLanes s a1 a2) := by
  induction a2 generalizing s a1 with
  | nil => exact h
  | cons b bs ih =>
    cases b with
    | none => exact ih h _
    | some b => exact ih (State.setByte_kept h _ _) _

theorem State.memWrite_kept [Keeps P] [KeepsMem P] {s : State} (h : P s) (a1 : Nat) (a2 : List ByteLane) :
    P (State.memWrite s a1 a2) := by
  unfold State.memWrite
  extract_lets x0 x1 x2 x3
  have h2 : P x2 := (State.writeLanes_kept (State.memReq_kept h _ _) _ _)
  have h3 : P x3 := (kept_upd h2)
  exact (ite_kept (fun _ => (State.uncorrMet_kept h3)) (fun _ => h3))

theorem State.bulkStore_kept [Keeps P] [KeepsMem P] {s : State} (h : P s) (a1 : Nat) (a2 : List ByteLane) :
    P (State.bulkStore s a1 a2).1 := by
  unfold State.bulkStore
  extract_lets x0 x1 x2 x3 x4 x6
  have h4 : P x4 := (State.forL_kept _ _ (fun _ _ h5 => (State.intr_kept (State.set_kept (State.violRecord_kept h5 _ _) _ _) _)) h)
  have h6 : P x6 := (State.forL_kept _ _ (fun _ _ h7 => (State.violSites_kept (State.violStreams_kept (State.intr_kept (State.set_kept
      (State.violRecord_kept h7 _ _) _ _) _) _ _) _ _)) h4)
  exact (ite_fst_kept (fun _ => (fst_kept (State.memWrite_kept h6 _ _))) (fun _ => (fst_kept h6)))

end Sys2Proof.Machine
end

