-- ==== Sys2Proof/Laws/KeepsPins.lean ====
section
/-! SUPPORT. What the primitive operations keep, every operation of one group keeps: levels, measurements, supplies, counters and sources. One lemma an operation, each
assembled from those of the operations it calls. -/

namespace Sys2Proof.Machine

variable {P : State → Prop}

/-! ### Level -/

theorem State.setChan_kept [Keeps P] {s : State} (h : P s) (a1 : Nat) (a2 : Chan) :
    P (State.setChan s a1 a2) := by
  unfold State.setChan
  exact kept_upd h

theorem State.refreshChan_kept [Keeps P] {s : State} (h : P s) (a1 : Nat) :
    P (State.refreshChan s a1) := by
  unfold State.refreshChan
  extract_lets x0 x1 x2 x3 x4 x5 x6
  exact (State.setReg_kept h _ _)

theorem State.driveOff_kept [Keeps P] {s : State} (h : P s) (a1 : Nat) :
    P (State.driveOff s a1) := by
  unfold State.driveOff
  exact State.refreshChan_kept (State.setChan_kept h _ _) _

theorem State.busTrigger_kept [Keeps P] {s : State} (h : P s) (a1 : Nat) :
    P (State.busTrigger s a1) := by
  unfold State.busTrigger
  extract_lets x0 x1
  exact (ite_kept (fun _ => (ite_kept (fun _ => h) (fun _ => (State.driveOff_kept (State.setChan_kept h _ _) _)))) (fun _ => (ite_kept (fun _ =>
      (State.refreshChan_kept (State.set_kept (State.setChan_kept h _ _) _ _) _)) (fun _ => h))))

theorem State.setDac_kept [Keeps P] {s : State} (h : P s) (a1 : Nat) (a2 : Nat) (a3 : Dac) :
    P (State.setDac s a1 a2 a3) := by
  unfold State.setDac
  exact kept_upd h

theorem State.loadOut_kept [Keeps P] {s : State} (h : P s) (a1 : Nat) (a2 : Nat) (a3 : Nat) (a4 : Nat) :
    P (State.loadOut s a1 a2 a3 a4) := by
  unfold State.loadOut
  extract_lets x0 x1 x2
  have h2 : P x2 := (State.set_kept (State.set_kept h _ _) _ _)
  exact (ite_kept (fun _ => (State.setDac_kept h2 _ _ _)) (fun _ => (State.setDac_kept h2 _ _ _)))

theorem State.setPmu_kept [Keeps P] {s : State} (h : P s) (a1 : Nat) (a2 : Pmu) :
    P (State.setPmu s a1 a2) := by
  unfold State.setPmu
  exact kept_upd h

theorem State.presentIdle_kept [Keeps P] {s : State} (h : P s) (a1 : Nat) :
    P (State.presentIdle s a1) := by
  unfold State.presentIdle
  split
  · exact h
  · exact (ite_kept (fun _ => (State.refreshChan_kept (State.setChan_kept h _ _) _)) (fun _ => h))

theorem State.refreshPmu_kept [Keeps P] {s : State} (h : P s) (a1 : Nat) :
    P (State.refreshPmu s a1) := by
  unfold State.refreshPmu
  extract_lets x0 x1 x2
  have h2 : P x2 := (State.set_kept h _ _)
  exact (ite_kept (fun _ => h2) (fun _ => (State.set_kept h2 _ _)))

theorem State.setPmuMeas_kept [Keeps P] {s : State} (h : P s) (a1 : Nat) (a2 : Option Meas) :
    P (State.setPmuMeas s a1 a2) := by
  unfold State.setPmuMeas
  exact kept_upd h

theorem State.measPassage_kept [Keeps P] {s : State} (h : P s) (a1 : Nat) :
    P (State.measPassage s a1) := by
  unfold State.measPassage
  split
  · exact (ite_kept (fun _ => (State.setPmuMeas_kept h _ _)) (fun _ => h))
  · exact h

theorem State.pmuPassage_kept [Keeps P] {s : State} (h : P s) (a1 : Nat) :
    P (State.pmuPassage s a1) := by
  unfold State.pmuPassage
  extract_lets x0 x1 x2 x3
  have h1 : P x1 := (ite_kept (fun _ => h) (fun _ => (State.inc_kept h _)))
  have h2 : P x2 := (State.set_kept (State.setPmu_kept h1 _ _) _ _)
  have h3 : P x3 := (State.measPassage_kept (State.refreshPmu_kept h2 _) _)
  exact (ite_kept (fun _ => (State.driveOff_kept h3 _)) (fun _ => h3))

theorem State.pmuTrigger_kept [Keeps P] {s : State} (h : P s) (a1 : Nat) :
    P (State.pmuTrigger s a1) := by
  unfold State.pmuTrigger
  extract_lets x0 x1 x2 x3 x4 x5 x6 x7 x8
  have h7 : P x7 := (State.setPmu_kept h _ _)
  have h8 : P x8 := (ite_kept (fun _ => (State.driveOff_kept h7 _)) (fun _ => h7))
  exact (ite_kept (fun _ => (State.setPmu_kept h _ _)) (fun _ => (ite_kept (fun _ => (State.pmuPassage_kept h8 _)) (fun _ => (State.refreshPmu_kept h8
      _)))))

theorem State.levelTrigger_kept [Keeps P] {s : State} (h : P s) (a1 : Nat) (a2 : Nat) :
    P (State.levelTrigger s a1 a2) := by
  unfold State.levelTrigger
  extract_lets x0 x1 x2 x3 x4 x5 x6 x7
  have h4 : P x4 := (State.loadOut_kept h _ _ _ _)
  have h6 : P x6 := (State.setDac_kept h4 _ _ _)
  have h7 : P x7 := (State.refreshChan_kept (State.set_kept h6 _ _) _)
  exact (ite_kept (fun _ => (State.set_kept h _ _)) (fun _ => (ite_kept (fun _ => (ite_kept (fun _ => (State.pmuPassage_kept h7 _)) (fun _ => h7)))
      (fun _ => (State.loadOut_kept h _ _ _ _)))))

theorem State.levelCommit_kept [Keeps P] {s : State} (h : P s) (a1 : Nat) (a2 : Nat) :
    P (State.levelCommit s a1 a2) := by
  unfold State.levelCommit
  extract_lets x0 x1
  exact (State.forL_kept _ _ (fun _ _ h2 => (State.levelTrigger_kept (State.set_kept (State.set_kept h2 _ _) _ _) _ _)) (State.levelTrigger_kept h _
      _))

theorem State.deglitchStep_kept [Keeps P] {s : State} (h : P s) (a1 : Nat) (a2 : Nat) :
    P (State.deglitchStep s a1 a2) := by
  unfold State.deglitchStep
  extract_lets x0
  exact (ite_kept (fun _ => (State.setDac_kept h _ _ _)) (fun _ => h))

theorem State.spanSwitch_kept [Keeps P] {s : State} (h : P s) (a1 : Nat) (a2 : Nat) :
    P (State.spanSwitch s a1 a2) := by
  unfold State.spanSwitch
  extract_lets x0
  exact (ite_kept (fun _ => (State.setDac_kept (State.set_kept (State.set_kept h _ _) _ _) _ _ _)) (fun _ => h))

theorem State.codeLoad_kept [Keeps P] {s : State} (h : P s) (a1 : Nat) (a2 : Nat) :
    P (State.codeLoad s a1 a2) := by
  unfold State.codeLoad
  extract_lets x0 x1
  have h1 : P x1 := (State.setDac_kept h _ _ _)
  exact (ite_kept (fun _ => (State.loadOut_kept h1 _ _ _ _)) (fun _ => h))

theorem State.actDeferred_kept [Keeps P] {s : State} (h : P s) (a1 : Nat) (a2 : Nat) :
    P (State.actDeferred s a1 a2) := by
  unfold State.actDeferred
  exact ite_kept (fun _ => (State.levelTrigger_kept (State.set_kept h _ _) _ _)) (fun _ => h)

theorem State.passageEnd_kept [Keeps P] {s : State} (h : P s) (a1 : Nat) (a2 : Nat) :
    P (State.passageEnd s a1 a2) := by
  unfold State.passageEnd
  extract_lets x0 x1 x2
  have h1 : P x1 := (State.setDac_kept h _ _ _)
  have h2 : P x2 := (State.refreshChan_kept (State.set_kept h1 _ _) _)
  exact (ite_kept (fun _ => (State.actDeferred_kept h2 _ _)) (fun _ => h))

theorem State.pmuConnect_kept [Keeps P] {s : State} (h : P s) (a1 : Nat) :
    P (State.pmuConnect s a1) := by
  unfold State.pmuConnect
  extract_lets x0
  exact (ite_kept (fun _ => (State.refreshPmu_kept (State.setPmu_kept h _ _) _)) (fun _ => h))

theorem State.pmuPassageEnd_kept [Keeps P] {s : State} (h : P s) (a1 : Nat) :
    P (State.pmuPassageEnd s a1) := by
  unfold State.pmuPassageEnd
  extract_lets x0 x1 x2 x3
  have h1 : P x1 := (State.set_kept (State.setPmu_kept h _ _) _ _)
  have h2 : P x2 := (State.refreshPmu_kept h1 _)
  have h3 : P x3 := (ite_kept (fun _ => (State.pmuTrigger_kept h2 _)) (fun _ => h2))
  exact (ite_kept (fun _ => (ite_kept (fun _ => h3) (fun _ => (State.actDeferred_kept h3 _ _)))) (fun _ => h))

theorem State.pmuCompliance_kept [Keeps P] {s : State} (h : P s) (a1 : Nat) (a2 : Bool) :
    P (State.pmuCompliance s a1 a2) := by
  unfold State.pmuCompliance
  exact ite_kept (fun _ => h) (fun _ => (ite_kept (fun _ => (by extract_lets x0; have h0 : P x0 := (ite_kept (fun _ => h) (fun _ => (State.inc_kept (State.set_kept (State.set_kept h _ _) _ _) _))); exact (by split; (exact (ite_kept (fun _ => (State.setPmuMeas_kept h0 _ _)) (fun _ => h0))); (exact h0)))) (fun _ => (State.set_kept h _ _))))

/-! ### Sweep -/

theorem State.setCalCh_kept [Keeps P] {s : State} (h : P s) (a1 : Nat) (a2 : CalCh) :
    P (State.setCalCh s a1 a2) := by
  unfold State.setCalCh
  exact kept_upd h

theorem State.setCalQ_kept [Keeps P] {s : State} (h : P s) (a1 : Nat) (a2 : CalQ) :
    P (State.setCalQ s a1 a2) := by
  unfold State.setCalQ
  exact kept_upd h

theorem State.calTouch_kept [Keeps P] {s : State} (h : P s) (a1 : Nat) :
    P (State.calTouch s a1) := by
  unfold State.calTouch
  exact State.setCalCh_kept h _ _

theorem State.calStrobe_kept [Keeps P] {s : State} (h : P s) (a1 : Nat) (a2 : Nat) (a3 : Strobe) :
    P (State.calStrobe s a1 a2 a3) := by
  unfold State.calStrobe
  split
  · exact h
  · exact (State.forL_kept _ _ (fun _ _ h0 => (by extract_lets x1; exact (State.setCalQ_kept h0 _ _))) h)

theorem State.calCompare_kept [Keeps P] {s : State} (h : P s) (a1 : Nat) (a2 : Nat) :
    P (State.calCompare s a1 a2) := by
  unfold State.calCompare
  exact ite_kept (fun _ => h) (fun _ => (State.setSeq_kept h _ _))

/-! ### Pins -/

theorem State.driveCode_kept [Keeps P] {s : State} (h : P s) (a1 : Nat) (a2 : Nat) (a3 : Nat) (a4 : DriveEdges) :
    P (State.driveCode s a1 a2 a3 a4) := by
  unfold State.driveCode
  extract_lets x0 x1 x2 x3 x4
  exact (State.setChan_kept h _ _)

theorem State.drivePin_kept [Keeps P] {s : State} (h : P s) (a1 : Nat) (a2 : Nat) (a3 : Nat) (a4 : Nat) (a5 : DriveEdges) :
    P (State.drivePin s a1 a2 a3 a4 a5) := by
  unfold State.drivePin
  extract_lets x0 x1
  exact (ite_kept (fun _ => h) (fun _ => (State.refreshChan_kept (State.driveCode_kept h _ _ _ _) _)))

theorem State.applyPin_kept [Keeps P] {s : State} (h : P s) (a1 : Pin) (a2 : Nat) (a3 : Nat) (a4 : Nat) (a5 : Win) :
    P (State.applyPin s a1 a2 a3 a4 a5) := by
  unfold State.applyPin
  extract_lets x0 x1 x2 x3 x4 x5 x7 x8 x9 x10
  have h4 : P x4 := (State.drivePin_kept h _ _ _ _ _)
  have h5 : P x5 := (by unfold x5; split; (exact (ite_kept (fun _ => (State.forL_kept _ _ (fun _ _ h6 => (State.drivePin_kept h6 _ _ _ _ _)) h4)) (fun _ => h4))); (exact h4))
  exact (ite_kept (fun _ => (State.setChan_kept h5 _ _)) (fun _ => h5))

theorem State.fcWrite_kept [Keeps P] [KeepsMem P] {s : State} (h : P s) (a1 : Nat) (a2 : Win) (a3 : Nat) :
    P (State.fcWrite s a1 a2 a3).1 := by
  unfold State.fcWrite
  extract_lets x0 x1 x2 x3 x4 x5 x6 x7 x8 x9 x10
  have h5 : P x5 := (State.set_kept (State.inc_kept h _) _ _)
  have h10 : P x10 := (State.memWrite_kept h _ _)
  exact (ite_fst_kept (fun _ => (ite_fst_kept (fun _ => (fst_kept h5)) (fun _ => (fst_kept (State.setStream_kept (State.event_kept h5 _ _ _ _) _
      _))))) (fun _ => (fst_kept (State.inc_kept (State.set_kept h10 _ _) _))))

theorem State.countFail_kept [Keeps P] [KeepsMem P] {s : State} (h : P s) (a1 : Nat) (a2 : Nat) (a3 : Nat) (a4 : Win) :
    P (State.countFail s a1 a2 a3 a4) := by
  unfold State.countFail
  extract_lets x0 x1 x2 x3
  have h0 : P x0 := (State.inc_kept h _)
  have h1 : P x1 := (ite_kept (fun _ => (State.set_kept h0 _ _)) (fun _ => h0))
  have h3 : P x3 := (State.setSeq_kept (State.inc_kept h1 _) _ _)
  exact (by split; (exact (by split; (exact (State.memWrite_kept h1 _ _)); (exact h1))); (exact (kept_upd (ite_fst_kept (fun _ => (State.fcWrite_kept h3 _ _ _)) (fun _ => (fst_kept h3))))))

theorem State.capture_kept [Keeps P] {s : State} (h : P s) (a1 : Nat) (a2 : Nat) (a3 : Bool) (a4 : Bool) :
    P (State.capture s a1 a2 a3 a4) := by
  unfold State.capture
  extract_lets x0
  exact (State.set_kept (State.inc_kept (State.set_kept h _ _) _) _ _)

theorem State.strobe_kept [Keeps P] [KeepsMem P] {s : State} (h : P s) (a1 : Nat) (a2 : Strobe) :
    P (State.strobe s a1 a2) := by
  unfold State.strobe
  extract_lets x0 x1 x2 x3
  exact (by split; (exact h); (exact (by extract_lets x4 x5 x6; have h4 : P x4 := (State.setChan_kept h _ _); have h5 : P x5 := (State.refreshChan_kept h4 _); have h6 : P x6 := (ite_kept (fun _ => (State.calStrobe_kept h5 _ _ _)) (fun _ => h5)); exact (by split; (exact (ite_kept (fun _ => h5) (fun _ => (ite_kept (fun _ => (State.set_kept h5 _ _)) (fun _ => (ite_kept (fun _ => (State.capture_kept h5 _ _ _ _)) (fun _ => (ite_kept (fun _ => h5) (fun _ => (by extract_lets x7; have h7 : P x7 := (State.calCompare_kept h6 _ _); exact (ite_kept (fun _ => (State.countFail_kept h7 _ _ _ _)) (fun _ => (ite_kept (fun _ => h7) (fun _ => (State.countFail_kept h7 _ _ _ _))))))))))))))); (exact h5)))))

/-! ### Measure -/

theorem State.pmuStart_kept [Keeps P] {s : State} (h : P s) (a1 : Nat) (a2 : Option Nat) (a3 : Nat) (a4 : Nat) (a5 : Int) (a6 : Int) (a7 : Nat) :
    P (State.pmuStart s a1 a2 a3 a4 a5 a6 a7) := by
  unfold State.pmuStart
  exact State.setPmuMeas_kept (State.set_kept h _ _) _ _

theorem State.measRecord_kept [Keeps P] {s : State} (h : P s) (a1 : Nat) (a2 : Nat) (a3 : Nat) (a4 : Nat) (a5 : Int) (a6 : Bool) :
    P (State.measRecord s a1 a2 a3 a4 a5 a6) := by
  unfold State.measRecord
  exact State.unitDone_kept (State.accFold_kept (State.record_kept h _ _ _ _ _) _ _ _) _ _

theorem State.pmuFinish_kept [Keeps P] {s : State} (h : P s) (a1 : Nat) (a2 : Meas) (a3 : Int) (a4 : Bool) :
    P (State.pmuFinish s a1 a2 a3 a4) := by
  unfold State.pmuFinish
  extract_lets x0 x1 x2 x3 x4 x5
  have h1 : P x1 := (State.set_kept (State.setPmuMeas_kept h _ _) _ _)
  have h3 : P x3 := (State.inc_kept (State.setReg_kept h1 _ _) _)
  exact (by split; (exact (State.set_kept h3 _ _)); (exact (State.measRecord_kept (State.set_kept h3 _ _) _ _ _ _ _ _)))

theorem State.pmuSettleEnd_kept [Keeps P] {s : State} (h : P s) (a1 : Nat) :
    P (State.pmuSettleEnd s a1) := by
  unfold State.pmuSettleEnd
  split
  · exact h
  · exact (ite_kept (fun _ => h) (fun _ => (ite_kept (fun _ => (State.setPmuMeas_kept h _ _)) (fun _ => (State.setPmuMeas_kept h _ _)))))

theorem State.pmuSampleEnd_kept [Keeps P] {s : State} (h : P s) (a1 : Nat) (a2 : Int) :
    P (State.pmuSampleEnd s a1 a2) := by
  unfold State.pmuSampleEnd
  split
  · exact h
  · exact (ite_kept (fun _ => h) (fun _ => (ite_kept (fun _ => (State.setPmuMeas_kept h _ _)) (fun _ => (by extract_lets x0 x1; have h1 : P x1 := (State.inc_kept h _); exact (ite_kept (fun _ => (State.pmuFinish_kept h1 _ _ _ _)) (fun _ => (State.setPmuMeas_kept h1 _ _))))))))

theorem State.pmuMeasTrip_kept [Keeps P] {s : State} (h : P s) (a1 : Nat) :
    P (State.pmuMeasTrip s a1) := by
  unfold State.pmuMeasTrip
  split
  · exact h
  · exact (State.pmuFinish_kept h _ _ _ _)

theorem State.pmuCancel_kept [Keeps P] {s : State} (h : P s) (a1 : Nat) :
    P (State.pmuCancel s a1) := by
  unfold State.pmuCancel
  split
  · exact (ite_kept (fun _ => (State.set_kept (State.setPmuMeas_kept h _ _) _ _)) (fun _ => h))
  · exact h

theorem State.setDpsMeas_kept [Keeps P] {s : State} (h : P s) (a1 : Nat) (a2 : Option Meas) :
    P (State.setDpsMeas s a1 a2) := by
  unfold State.setDpsMeas
  exact kept_upd h

theorem State.setDps_kept [Keeps P] {s : State} (h : P s) (a1 : Nat) (a2 : Dps) :
    P (State.setDps s a1 a2) := by
  unfold State.setDps
  exact kept_upd h

theorem State.refreshDpsBusy_kept [Keeps P] {s : State} (h : P s) (a1 : Nat) :
    P (State.refreshDpsBusy s a1) := by
  unfold State.refreshDpsBusy
  exact State.set_kept h _ _

theorem State.dpsStart_kept [Keeps P] {s : State} (h : P s) (a1 : Nat) (a2 : Option Nat) (a3 : Nat) (a4 : Nat) (a5 : Int) (a6 : Int) (a7 : Nat) :
    P (State.dpsStart s a1 a2 a3 a4 a5 a6 a7) := by
  unfold State.dpsStart
  exact State.refreshDpsBusy_kept (State.setDpsMeas_kept h _ _) _

theorem State.dpsFinish_kept [Keeps P] {s : State} (h : P s) (a1 : Nat) (a2 : Meas) (a3 : Int) (a4 : Bool) :
    P (State.dpsFinish s a1 a2 a3 a4) := by
  unfold State.dpsFinish
  extract_lets x0 x1 x2 x3 x4 x5
  have h1 : P x1 := (State.refreshDpsBusy_kept (State.setDpsMeas_kept h _ _) _)
  have h3 : P x3 := (State.setReg_kept h1 _ _)
  exact (by split; (exact h3); (exact (State.measRecord_kept h3 _ _ _ _ _ _)))

theorem State.dpsSettleEnd_kept [Keeps P] {s : State} (h : P s) (a1 : Nat) :
    P (State.dpsSettleEnd s a1) := by
  unfold State.dpsSettleEnd
  split
  · exact h
  · exact (ite_kept (fun _ => h) (fun _ => (ite_kept (fun _ => (State.setDpsMeas_kept h _ _)) (fun _ => (State.setDpsMeas_kept h _ _)))))

theorem State.dpsSampleEnd_kept [Keeps P] {s : State} (h : P s) (a1 : Nat) (a2 : Int) :
    P (State.dpsSampleEnd s a1 a2) := by
  unfold State.dpsSampleEnd
  split
  · exact h
  · exact (ite_kept (fun _ => h) (fun _ => (ite_kept (fun _ => (State.setDpsMeas_kept h _ _)) (fun _ => (by extract_lets x0 x1; have h1 : P x1 := (State.inc_kept h _); exact (ite_kept (fun _ => (State.dpsFinish_kept h1 _ _ _ _)) (fun _ => (State.setDpsMeas_kept h1 _ _))))))))

theorem State.dpsMeasTrip_kept [Keeps P] {s : State} (h : P s) (a1 : Nat) :
    P (State.dpsMeasTrip s a1) := by
  unfold State.dpsMeasTrip
  split
  · exact h
  · exact (State.dpsFinish_kept h _ _ _ _)

/-! ### Supply -/

theorem State.refreshDps_kept [Keeps P] {s : State} (h : P s) (a1 : Nat) :
    P (State.refreshDps s a1) := by
  unfold State.refreshDps
  extract_lets x0 x1 x2
  exact (State.set_kept (State.set_kept (State.set_kept h _ _) _ _) _ _)

theorem State.rampBegin_kept [Keeps P] {s : State} (h : P s) (a1 : Nat) :
    P (State.rampBegin s a1) := by
  unfold State.rampBegin
  extract_lets x0 x1 x2
  have h1 : P x1 := (ite_kept (fun _ => (State.inc_kept h _)) (fun _ => h))
  exact (State.refreshDps_kept (State.setDps_kept h1 _ _) _)

theorem State.dpsApply_kept [Keeps P] {s : State} (h : P s) (a1 : Nat) :
    P (State.dpsApply s a1) := by
  unfold State.dpsApply
  extract_lets x0 x1 x2 x3 x4
  have h3 : P x3 := (ite_kept (fun _ => (State.set_kept h _ _)) (fun _ => h))
  have h4 : P x4 := (State.setDps_kept h3 _ _)
  exact (ite_kept (fun _ => h) (fun _ => (ite_kept (fun _ => (State.rampBegin_kept h4 _)) (fun _ => (State.refreshDps_kept h4 _)))))

theorem State.dpsCommit_kept [Keeps P] {s : State} (h : P s) (a1 : Nat) :
    P (State.dpsCommit s a1) := by
  unfold State.dpsCommit
  extract_lets x0
  exact (State.forL_kept _ _ (fun _ _ h1 => (State.dpsApply_kept (State.setReg_kept h1 _ _) _)) h)

theorem State.dpsCfgCommit_kept [Keeps P] {s : State} (h : P s) (a1 : Nat) :
    P (State.dpsCfgCommit s a1) := by
  unfold State.dpsCfgCommit
  extract_lets x0
  exact (State.forL_kept _ _ (fun _ _ h1 => (State.setReg_kept h1 _ _)) h)

theorem State.dpsDelayEnd_kept [Keeps P] {s : State} (h : P s) (a1 : Nat) :
    P (State.dpsDelayEnd s a1) := by
  unfold State.dpsDelayEnd
  exact ite_kept (fun _ => (State.rampBegin_kept h _)) (fun _ => h)

theorem State.dpsRampStep_kept [Keeps P] {s : State} (h : P s) (a1 : Nat) :
    P (State.dpsRampStep s a1) := by
  unfold State.dpsRampStep
  extract_lets x0 x1 x2
  exact (ite_kept (fun _ => h) (fun _ => (State.refreshDps_kept (State.setDps_kept h _ _) _)))

theorem State.dpsOpen_kept [Keeps P] {s : State} (h : P s) (a1 : Nat) :
    P (State.dpsOpen s a1) := by
  unfold State.dpsOpen
  exact State.refreshDps_kept (State.set_kept (State.set_kept (State.setDps_kept h _ _) _ _) _ _) _

theorem State.dpsSwitchOpen_kept [Keeps P] {s : State} (h : P s) (a1 : Nat) (a2 : Int) :
    P (State.dpsSwitchOpen s a1 a2) := by
  unfold State.dpsSwitchOpen
  exact ite_kept (fun _ => (State.dpsOpen_kept h _)) (fun _ => h)

theorem State.dpsOpenHigh_kept [Keeps P] {s : State} (h : P s) (a1 : Nat) :
    P (State.dpsOpenHigh s a1) := by
  unfold State.dpsOpenHigh
  exact ite_kept (fun _ => (State.log_kept (State.set_kept (State.dpsOpen_kept h _) _ _) _ _ _ _)) (fun _ => h)

theorem State.dpsForceOff_kept [Keeps P] {s : State} (h : P s) (a1 : Nat) :
    P (State.dpsForceOff s a1) := by
  unfold State.dpsForceOff
  extract_lets x0 x1 x2
  have h1 : P x1 := (State.setShadow_kept (State.setReg_kept h _ _) _ _)
  exact (State.rampBegin_kept (State.setDps_kept h1 _ _) _)

theorem State.dpsCompliance_kept [Keeps P] {s : State} (h : P s) (a1 : Nat) (a2 : Bool) :
    P (State.dpsCompliance s a1 a2) := by
  unfold State.dpsCompliance
  exact ite_kept (fun _ => h) (fun _ => (ite_kept (fun _ => (by extract_lets x0; have h0 : P x0 := (ite_kept (fun _ => h) (fun _ => (State.inc_kept (State.set_kept (State.set_kept h _ _) _ _) _))); exact (by split; (exact (ite_kept (fun _ => (State.setDpsMeas_kept h0 _ _)) (fun _ => h0))); (exact h0)))) (fun _ => (State.set_kept h _ _))))

theorem State.checkStart_kept [Keeps P] {s : State} (h : P s) (a1 : Nat) (a2 : Bool) :
    P (State.checkStart s a1 a2) := by
  unfold State.checkStart
  exact State.forL_kept _ _ (fun _ _ h0 => (State.refreshDpsBusy_kept (State.setDps_kept h0 _ _) _)) h

theorem State.checkDone_kept [Keeps P] {s : State} (h : P s) (a1 : Nat) (a2 : List SenseStep) :
    P (State.checkDone s a1 a2) := by
  unfold State.checkDone
  extract_lets x0 x1 x2
  exact (ite_kept (fun _ => h) (fun _ => (State.forL_kept _ _ (fun _ _ h3 => (by extract_lets x4 x5 x6 x7 x8 x9; have h8 : P x8 := (State.setReg_kept (State.setDps_kept h3 _ _) _ _); have h9 : P x9 := (State.inc_kept (State.set_kept (State.set_kept h8 _ _) _ _) _); exact (State.refreshDpsBusy_kept (State.set_kept h9 _ _) _))) h)))

theorem State.dpsCancel_kept [Keeps P] {s : State} (h : P s) (a1 : Nat) :
    P (State.dpsCancel s a1) := by
  unfold State.dpsCancel
  split
  · exact (ite_kept (fun _ => (State.refreshDpsBusy_kept (State.setDpsMeas_kept h _ _) _)) (fun _ => h))
  · exact h

theorem State.dpsTripOff_kept [Keeps P] {s : State} (h : P s) (a1 : Nat) :
    P (State.dpsTripOff s a1) := by
  unfold State.dpsTripOff
  extract_lets x0 x1
  have h0 : P x0 := (State.dpsMeasTrip_kept h _)
  exact (State.refreshDps_kept (State.set_kept (State.set_kept (State.setDps_kept h0 _ _) _ _) _ _) _)

theorem State.dpsReconnect_kept [Keeps P] {s : State} (h : P s) (a1 : Nat) :
    P (State.dpsReconnect s a1) := by
  unfold State.dpsReconnect
  exact ite_kept (fun _ => (by extract_lets x0 x1; have h0 : P x0 := (State.set_kept h _ _); exact (State.rampBegin_kept (State.setDps_kept h0 _ _) _))) (fun _ => (State.refreshDps_kept h _))

/-! ### Tdc -/

theorem State.setTdc_kept [Keeps P] {s : State} (h : P s) (a1 : Nat) (a2 : Option Tdc) :
    P (State.setTdc s a1 a2) := by
  unfold State.setTdc
  exact kept_upd h

theorem State.tdcStart_kept [Keeps P] {s : State} (h : P s) (a1 : Nat) (a2 : Option Nat) (a3 : Nat) (a4 : Nat) (a5 : Int) (a6 : Int) (a7 : Nat) :
    P (State.tdcStart s a1 a2 a3 a4 a5 a6 a7) := by
  unfold State.tdcStart
  extract_lets x0
  exact (State.set_kept (State.set_kept (State.set_kept (State.set_kept (State.setTdc_kept h _ _) _ _) _ _) _ _) _ _)

theorem State.tdcFinish_kept [Keeps P] {s : State} (h : P s) (a1 : Nat) (a2 : Tdc) (a3 : Int) (a4 : Bool) (a5 : Bool) :
    P (State.tdcFinish s a1 a2 a3 a4 a5) := by
  unfold State.tdcFinish
  extract_lets x0 x1 x2 x3 x4 x5 x6
  have h4 : P x4 := (State.inc_kept (State.set_kept (State.setReg_kept (State.setTdc_kept h _ _) _ _) _ _) _)
  exact (by split; (exact h4); (exact (State.measRecord_kept h4 _ _ _ _ _ _)))

theorem State.tdcMissing_kept [Keeps P] {s : State} (h : P s) (a1 : Nat) (a2 : Tdc) :
    P (State.tdcMissing s a1 a2) := by
  unfold State.tdcMissing
  exact ite_kept (fun _ => (State.tdcFinish_kept h _ _ _ _ _)) (fun _ => (by extract_lets x0 x1 x2; have h1 : P x1 := (State.tdcFinish_kept h _ _ _ _ _); have h2 : P x2 := (State.set_kept (State.add_kept h1 _ _) _ _); exact (by split; (exact (State.event_kept h2 _ _ _ _)); (exact h2))))

theorem State.selfWrite_kept [Keeps P] {s : State} (h : P s) (a1 : Nat) (a2 : TdcCal) :
    P (State.selfWrite s a1 a2) := by
  unfold State.selfWrite
  extract_lets x0 x1 x2
  exact (State.setReg_kept h _ _)

theorem State.selfBad_kept [Keeps P] {s : State} (h : P s) (a1 : Nat) :
    P (State.selfBad s a1) := by
  unfold State.selfBad
  exact State.log_kept (State.set_kept h _ _) _ _ _ _

theorem State.tdcSelfcal_kept [Keeps P] {s : State} (h : P s) (a1 : Nat) (a2 : TdcCal) :
    P (State.tdcSelfcal s a1 a2) := by
  unfold State.tdcSelfcal
  split
  · exact h
  · exact (ite_kept (fun _ => h) (fun _ => (ite_kept (fun _ => (by extract_lets x0 x1 x2 x3; exact (State.set_kept (State.setTdc_kept (State.selfWrite_kept h _ _) _ _) _ _))) (fun _ => (by extract_lets x4; have h4 : P x4 := (State.tdcFinish_kept (State.selfBad_kept h _) _ _ _ _ _); exact (by split; (exact (State.event_kept h4 _ _ _ _)); (exact h4)))))))

theorem State.shotDone_kept [Keeps P] {s : State} (h : P s) (a1 : Nat) (a2 : Tdc) (a3 : Int) (a4 : Nat) :
    P (State.shotDone s a1 a2 a3 a4) := by
  unfold State.shotDone
  extract_lets x0 x1 x2
  have h1 : P x1 := (State.set_kept (State.inc_kept h _) _ _)
  have h2 : P x2 := (ite_kept (fun _ => (State.inc_kept h1 _)) (fun _ => h1))
  exact (ite_kept (fun _ => (State.tdcFinish_kept h2 _ _ _ _ _)) (fun _ => (State.setTdc_kept h2 _ _)))

theorem State.tdcCapture_kept [Keeps P] {s : State} (h : P s) (a1 : Nat) (a2 : Nat) (a3 : Nat) :
    P (State.tdcCapture s a1 a2 a3) := by
  unfold State.tdcCapture
  split
  · exact h
  · exact (by extract_lets x0 x1 x2 x3 x4; exact (ite_kept (fun _ => h) (fun _ => (ite_kept (fun _ => (State.setTdc_kept h _ _)) (fun _ => (ite_kept (fun _ => (State.setTdc_kept h _ _)) (fun _ => (ite_kept (fun _ => (by split; (exact (State.shotDone_kept h _ _ _ _)); (exact (State.setTdc_kept h _ _)))) (fun _ => (ite_kept (fun _ => (by split; (exact (State.setTdc_kept h _ _)); (exact (ite_kept (fun _ => (State.setTdc_kept h _ _)) (fun _ => (State.shotDone_kept h _ _ _ _)))))) (fun _ => (by split; (exact (State.setTdc_kept h _ _)); (exact (State.setTdc_kept h _ _))))))))))))))

theorem State.gateEnd_kept [Keeps P] {s : State} (h : P s) (a1 : Nat) :
    P (State.gateEnd s a1) := by
  unfold State.gateEnd
  split
  · exact h
  · exact (ite_kept (fun _ => h) (fun _ => (by extract_lets x0 x1 x2; have h2 : P x2 := (ite_kept (fun _ => h) (fun _ => (State.set_kept (State.inc_kept h _) _ _))); exact (ite_kept (fun _ => (State.setTdc_kept h2 _ _)) (fun _ => (ite_kept (fun _ => (State.tdcFinish_kept h2 _ _ _ _ _)) (fun _ => (State.tdcMissing_kept h2 _ _))))))))

theorem State.tdcTimeout_kept [Keeps P] {s : State} (h : P s) (a1 : Nat) :
    P (State.tdcTimeout s a1) := by
  unfold State.tdcTimeout
  split
  · exact h
  · exact (ite_kept (fun _ => (State.tdcMissing_kept h _ _)) (fun _ => h))

theorem State.tdcTrip_kept [Keeps P] {s : State} (h : P s) (a1 : Nat) :
    P (State.tdcTrip s a1) := by
  unfold State.tdcTrip
  exact State.forL_kept _ _ (fun _ _ h0 => (State.tdcFinish_kept h0 _ _ _ _ _)) h

theorem State.tdcCancel_kept [Keeps P] {s : State} (h : P s) (a1 : Nat) :
    P (State.tdcCancel s a1) := by
  unfold State.tdcCancel
  split
  · exact (ite_kept (fun _ => (State.set_kept (State.setTdc_kept h _ _) _ _)) (fun _ => h))
  · exact h

theorem State.cancelHost_kept [Keeps P] {s : State} (h : P s) (a1 : Nat) :
    P (State.cancelHost s a1) := by
  unfold State.cancelHost
  extract_lets x0
  have h0 : P x0 := (State.forL_kept _ _ (fun _ _ h1 => (State.tdcCancel_kept (State.pmuCancel_kept h1 _) _)) h)
  exact (State.forL_kept _ _ (fun _ _ h2 => (State.dpsCancel_kept h2 _)) h0)

/-! ### Wave -/

theorem State.setWf_kept [Keeps P] {s : State} (h : P s) (a1 : Nat) (a2 : Wf) :
    P (State.setWf s a1 a2) := by
  unfold State.setWf
  exact kept_upd h

theorem State.wfSample_kept [Keeps P] {s : State} (h : P s) (a1 : Nat) :
    P (State.wfSample s a1) := by
  unfold State.wfSample
  extract_lets x0 x1 x2 x3 x4 x5 x6 x7
  exact (ite_kept (fun _ => h) (fun _ => (by split; exact (by extract_lets x8 x9 x10; have h8 : P x8 := (State.setWf_kept h _ _); have h9 : P x9 := (ite_kept (fun _ => (State.inc_kept h8 _)) (fun _ => h8)); have h10 : P x10 := (ite_kept (fun _ => (State.set_kept (State.inc_kept h9 _) _ _)) (fun _ => h9)); exact (ite_kept (fun _ => (State.set_kept h10 _ _)) (fun _ => h10))))))

theorem State.refreshBus_kept [Keeps P] {s : State} (h : P s) (a1 : Nat) :
    P (State.refreshBus s a1) := by
  unfold State.refreshBus
  exact State.forL_kept _ _ (fun _ _ h0 => (State.refreshChan_kept h0 _)) h

theorem State.wfTrigger_kept [Keeps P] {s : State} (h : P s) (a1 : Nat) (a2 : Bool) :
    P (State.wfTrigger s a1 a2) := by
  unfold State.wfTrigger
  extract_lets x0 x1 x2 x3 x4 x5 x6
  exact (ite_kept (fun _ => (State.set_kept (State.setWf_kept h _ _) _ _)) (fun _ => (ite_kept (fun _ => (State.set_kept (State.setWf_kept h _ _) _
      _)) (fun _ => (ite_kept (fun _ => (State.refreshBus_kept (State.inc_kept (State.set_kept (State.setWf_kept h _ _) _ _) _) _)) (fun _ =>
      (State.setWf_kept h _ _)))))))

theorem State.wfConnect_kept [Keeps P] {s : State} (h : P s) (a1 : Nat) :
    P (State.wfConnect s a1) := by
  unfold State.wfConnect
  extract_lets x0
  exact (ite_kept (fun _ => (State.set_kept (State.setWf_kept h _ _) _ _)) (fun _ => h))

theorem State.wfPassageEnd_kept [Keeps P] {s : State} (h : P s) (a1 : Nat) :
    P (State.wfPassageEnd s a1) := by
  unfold State.wfPassageEnd
  extract_lets x0 x1
  have h1 : P x1 := (State.refreshBus_kept (State.set_kept (State.setWf_kept h _ _) _ _) _)
  exact (ite_kept (fun _ => (ite_kept (fun _ => (State.wfTrigger_kept (State.set_kept h1 _ _) _ _)) (fun _ => h1))) (fun _ => h))

theorem State.wfOff_kept [Keeps P] {s : State} (h : P s) (a1 : Nat) :
    P (State.wfOff s a1) := by
  unfold State.wfOff
  extract_lets x0
  exact (State.refreshBus_kept (State.set_kept (State.set_kept (State.set_kept (State.setWf_kept h _ _) _ _) _ _) _ _) _)

theorem State.wfTableDone_kept [Keeps P] {s : State} (h : P s) (a1 : Nat) :
    P (State.wfTableDone s a1) := by
  unfold State.wfTableDone
  split
  · exact h
  · exact (by extract_lets x0 x1 x2 x3 x4 x5; have h3 : P x3 := (ite_kept (fun _ => (State.set_kept (State.inc_kept h _) _ _)) (fun _ => h)); have h4 : P x4 := (kept_upd h3); have h5 : P x5 := (State.set_kept (State.set_kept h4 _ _) _ _); exact (ite_kept (fun _ => h5) (fun _ => (State.log_kept h5 _ _ _ _))))

end Sys2Proof.Machine
end

