-- ==== Sys2Proof/Laws/KeepsCal.lean ====
section
/-! SUPPORT. What the primitive operations keep, every operation of one group keeps: calibration. One lemma an operation, each
assembled from those of the operations it calls. -/

namespace Sys2Proof.Machine

variable {P : State → Prop}

/-! ### Cal -/

theorem State.setCalDps_kept [Keeps P] {s : State} (h : P s) (a1 : Nat) (a2 : CalTerm) :
    P (State.setCalDps s a1 a2) := by
  unfold State.setCalDps
  exact kept_upd h

theorem State.setCalWf_kept [Keeps P] {s : State} (h : P s) (a1 : Nat) (a2 : CalTerm) :
    P (State.setCalWf s a1 a2) := by
  unfold State.setCalWf
  exact kept_upd h

theorem State.refreshCal_kept [Keeps P] {s : State} (h : P s) (a1 : Nat) :
    P (State.refreshCal s a1) := by
  unfold State.refreshCal
  extract_lets x0 x1 x2 x3 x4 x5 x6 x7 x8
  have h6 : P x6 := (State.setS_kept (State.setS_kept (State.setS_kept (State.setS_kept h _ _) _ _) _ _) _ _)
  have h7 : P x7 := (State.set_kept (State.set_kept (State.set_kept h6 _ _) _ _) _ _)
  have h8 : P x8 := (State.set_kept h7 _ _)
  exact (by split; (exact (ite_kept (fun _ => (State.setTdc_kept h8 _ _)) (fun _ => h8))); (exact h8))

theorem State.refreshWfCal_kept [Keeps P] {s : State} (h : P s) (a1 : Nat) :
    P (State.refreshWfCal s a1) := by
  unfold State.refreshWfCal
  extract_lets x0
  exact (State.set_kept h _ _)

theorem State.adcStale_kept [Keeps P] {s : State} (h : P s) (a1 : Nat) (a2 : Bool) :
    P (State.adcStale s a1 a2) := by
  unfold State.adcStale
  exact State.forL_kept _ _ (fun _ _ h0 => (State.set_kept h0 _ _)) (State.forL_kept _ _ (fun _ _ h1 => (State.set_kept h1 _ _)) h)

theorem State.setTrim_kept [Keeps P] {s : State} (h : P s) (a1 : Nat) (a2 : Nat) (a3 : Int) :
    P (State.setTrim s a1 a2 a3) := by
  unfold State.setTrim
  extract_lets x0
  have h0 : P x0 := (State.setS_kept h _ _)
  exact (ite_kept (fun _ => h0) (fun _ => (State.loadOut_kept h0 _ _ _ _)))

theorem State.targetTrim_kept [Keeps P] {s : State} (h : P s) (a1 : Nat) (a2 : Nat) (a3 : Int) :
    P (State.targetTrim s a1 a2 a3) := by
  unfold State.targetTrim
  extract_lets x0
  exact (State.setCalCh_kept h _ _)

theorem State.calEnd_kept [Keeps P] {s : State} (h : P s) (a1 : Nat) (a2 : Nat) :
    P (State.calEnd s a1 a2) := by
  unfold State.calEnd
  extract_lets x0 x1 x2
  have h0 : P x0 := (State.set_kept (State.set_kept (State.set_kept h _ _) _ _) _ _)
  have h1 : P x1 := (State.set_kept h0 _ _)
  exact (State.intr_kept (kept_upd h1) _)

theorem State.quadOutputs_kept [Keeps P] {s : State} (h : P s) (a1 : Nat) :
    P (State.quadOutputs s a1) := by
  unfold State.quadOutputs
  extract_lets x0 x1
  have h1 : P x1 := (State.forL_kept _ _ (fun _ _ h2 => (State.refreshPmu_kept (State.refreshChan_kept h2 _) _)) h)
  exact (State.forL_kept _ _ (fun _ _ h3 => (State.refreshBus_kept (State.set_kept h3 _ _) _)) h1)

theorem State.calBegin_kept [Keeps P] {s : State} (h : P s) (a1 : Nat) (a2 : Nat) (a3 : Bool) (a4 : Nat) (a5 : Nat) :
    P (State.calBegin s a1 a2 a3 a4 a5) := by
  unfold State.calBegin
  extract_lets x0 x1 x2 x3
  have h3 : P x3 := (State.set_kept (State.set_kept (kept_upd h) _ _) _ _)
  exact (ite_kept (fun _ => h3) (fun _ => (State.forL_kept _ _ (fun _ _ h4 => (State.adcStale_kept (State.quadOutputs_kept (State.set_kept
      (State.set_kept h4 _ _) _ _) _) _ _)) h3)))

theorem State.calRelease_kept [Keeps P] {s : State} (h : P s) (a1 : CalRun) (a2 : Bool) :
    P (State.calRelease s a1 a2) := by
  unfold State.calRelease
  exact ite_kept (fun _ => (State.forL_kept _ _ (fun _ _ h0 => (by extract_lets x1 x2; have h2 : P x2 := (ite_kept (fun _ => (State.set_kept h0 _ _)) (fun _ => (State.set_kept (State.set_kept h0 _ _) _ _))); exact (State.forL_kept _ _ (fun _ _ h3 => (State.refreshCal_kept h3 _)) (State.adcStale_kept (State.quadOutputs_kept h2 _) _ _)))) h)) (fun _ => h)

theorem State.calAbandon_kept [Keeps P] {s : State} (h : P s) (a1 : CalRun) (a2 : Nat) (a3 : Nat) :
    P (State.calAbandon s a1 a2 a3) := by
  unfold State.calAbandon
  exact State.calEnd_kept (State.calRelease_kept h _ _) _ _

theorem State.refcalRun_kept [Keeps P] {s : State} (h : P s) (a1 : Port) (a2 : Word) :
    P (State.refcalRun s a1 a2) := by
  unfold State.refcalRun
  extract_lets x0
  exact (ite_kept (fun _ => (State.calBegin_kept h _ _ _ _ _)) (fun _ => (State.reject_kept h _ _ _ _ _)))

theorem State.calAbort_kept [Keeps P] {s : State} (h : P s) (a1 : Port) :
    P (State.calAbort s a1) := by
  unfold State.calAbort
  split
  · exact (ite_kept (fun _ => (State.calAbandon_kept h _ _ _)) (fun _ => (State.reject_kept h _ _ _ _ _)))
  · exact (State.reject_kept h _ _ _ _ _)

theorem State.takeTerms_kept [Keeps P] {s : State} (h : P s) (a1 : Nat) (a2 : List Int) (a3 : Int) (a4 : Int) :
    P (State.takeTerms s a1 a2 a3 a4) := by
  unfold State.takeTerms
  extract_lets x0 x1 x2 x4
  have h1 : P x1 := (State.set_kept (State.set_kept h _ _) _ _)
  have h2 : P x2 := (State.forN_kept _ _ (fun _ _ h3 => (State.setTrim_kept h3 _ _ _)) h1)
  exact (State.setCalCh_kept h2 _ _)

theorem State.refChannel_kept [Keeps P] {s : State} (h : P s) (a1 : RefObs) (a2 : Int) (a3 : Option Int) :
    P (State.refChannel s a1 a2 a3) := by
  unfold State.refChannel
  extract_lets x0 x1 x2 x3 x4 x5 x6 x7 x8 x9
  have h2 : P x2 := (State.set_kept h _ _)
  have h9 : P x9 := (State.takeTerms_kept (State.setCalCh_kept h2 _ _) _ _ _ _)
  exact (ite_kept (fun _ => h2) (fun _ => (State.set_kept (State.set_kept (State.set_kept h9 _ _) _ _) _ _)))

theorem State.setLoopRefs_kept [Keeps P] {s : State} (h : P s) (a1 : List Nat) :
    P (State.setLoopRefs s a1) := by
  unfold State.setLoopRefs
  extract_lets x0 x1
  exact (State.forL_kept _ _ (fun _ _ h2 => (by extract_lets x3; exact (State.setCalCh_kept h2 _ _))) h)

theorem State.quadDone_kept [Keeps P] {s : State} (h : P s) (a1 : Nat) :
    P (State.quadDone s a1) := by
  unfold State.quadDone
  extract_lets x0
  have h0 : P x0 := (State.set_kept (State.set_kept h _ _) _ _)
  exact (State.forL_kept _ _ (fun _ _ h1 => (State.event_kept h1 _ _ _ _)) h0)

theorem State.refreshChfail_kept [Keeps P] {s : State} (h : P s) :
    P (State.refreshChfail s) := by
  unfold State.refreshChfail
  exact State.set_kept h _ _

theorem State.refOthers_kept [Keeps P] {s : State} (h : P s) (a1 : Nat) (a2 : RefRun) :
    P (State.refOthers s a1 a2) := by
  unfold State.refOthers
  extract_lets x0 x1 x2
  have h1 : P x1 := (kept_upd h)
  have h2 : P x2 := (State.forL_kept _ _ (fun _ _ h3 => (ite_kept (fun _ => (State.setCalDps_kept h3 _ _)) (fun _ => h3))) h1)
  exact (State.forL_kept _ _ (fun _ _ h4 => (ite_kept (fun _ => (State.refreshWfCal_kept (State.setCalWf_kept (State.setS_kept (State.setS_kept h4 _
      _) _ _) _ _) _)) (fun _ => h4))) h2)

theorem State.refcalComplete_kept [Keeps P] {s : State} (h : P s) (a1 : RefRun) :
    P (State.refcalComplete s a1) := by
  unfold State.refcalComplete
  split
  · exact h
  · exact (by extract_lets x0 x1 x2 x3 x5 x6; have h3 : P x3 := (State.forL_kept _ _ (fun _ _ h4 => (State.refChannel_kept h4 _ _ _)) (State.setS_kept h _ _)); have h5 : P x5 := (State.refOthers_kept (State.setLoopRefs_kept h3 _) _ _); have h6 : P x6 := (State.forL_kept _ _ (fun _ _ h7 => (State.quadDone_kept (State.setCalQ_kept h7 _ _) _)) h5); exact (ite_kept (fun _ => h) (fun _ => (ite_kept (fun _ => (State.calAbandon_kept h _ _ _)) (fun _ => (ite_kept (fun _ => (State.calAbandon_kept h _ _ _)) (fun _ => (ite_kept (fun _ => h) (fun _ => (ite_kept (fun _ => (State.calAbandon_kept h _ _ _)) (fun _ => (State.calEnd_kept (State.refreshChfail_kept (State.calRelease_kept h6 _ _)) _ _))))))))))))

theorem State.calTrigger_kept [Keeps P] {s : State} (h : P s) (a1 : Nat) (a2 : Nat) :
    P (State.calTrigger s a1 a2) := by
  unfold State.calTrigger
  exact ite_kept (fun _ => h) (fun _ => (by extract_lets x0 x2; have h0 : P x0 := (State.forL_kept _ _ (fun _ _ h1 => (ite_kept (fun _ => (State.set_kept h1 _ _)) (fun _ => h1))) h); exact (ite_kept (fun _ => (ite_kept (fun _ => h0) (fun _ => (State.setCalQ_kept h0 _ _)))) (fun _ => (State.set_kept (State.setCalQ_kept h0 _ _) _ _)))))

theorem State.qcal_kept [Keeps P] {s : State} (h : P s) (a1 : Port) (a2 : Word) :
    P (State.qcal s a1 a2) := by
  unfold State.qcal
  exact ite_kept (fun _ => (State.reject_kept h _ _ _ _ _)) (fun _ => (State.calEnd_kept (State.forL_kept _ _ (fun _ _ h0 => (State.calTrigger_kept h0
      _ _)) h) _ _))

theorem State.liveStart_kept [Keeps P] {s : State} (h : P s) (a1 : Nat) :
    P (State.liveStart s a1) := by
  unfold State.liveStart
  extract_lets x0 x1
  have h1 : P x1 := (State.setCalQ_kept h _ _)
  exact (by split; (exact h); (exact (ite_kept (fun _ => h) (fun _ => (ite_kept (fun _ => (State.setCalQ_kept h _ _)) (fun _ => (by extract_lets x2; have h2 : P x2 := (State.adcStale_kept (State.set_kept (State.set_kept h1 _ _) _ _) _ _); exact (State.forL_kept _ _ (fun _ _ h3 => (State.refreshCal_kept h3 _)) h2))))))))

theorem State.calResult_kept [Keeps P] {s : State} (h : P s) (a1 : Nat) (a2 : Bool) :
    P (State.calResult s a1 a2) := by
  unfold State.calResult
  exact ite_kept (fun _ => (State.inc_kept h _)) (fun _ => (State.set_kept (State.inc_kept h _) _ _))

theorem State.transferOne_kept [Keeps P] {s : State} (h : P s) (a1 : Nat) (a2 : TransferObs) :
    P (State.transferOne s a1 a2) := by
  unfold State.transferOne
  exact ite_kept (fun _ => (ite_kept (fun _ => h) (fun _ => (by extract_lets x0 x1; have h1 : P x1 := (State.setCalCh_kept h _ _); exact (ite_kept (fun _ => (State.calResult_kept h _ _)) (fun _ => (State.calResult_kept (State.forL_kept _ _ (fun _ _ h2 => (State.targetTrim_kept h2 _ _ _)) h1) _ _))))))) (fun _ => (ite_kept (fun _ => (ite_kept (fun _ => h) (fun _ => (State.setCalDps_kept h _ _)))) (fun _ => (ite_kept (fun _ => h) (fun _ => (State.refreshWfCal_kept (State.setCalWf_kept h _ _) _))))))

theorem State.transferEnd_kept [Keeps P] {s : State} (h : P s) (a1 : Nat) (a2 : List TransferObs) :
    P (State.transferEnd s a1 a2) := by
  unfold State.transferEnd
  extract_lets x0 x1 x3 x4 x5 x6 x7 x8 x9
  have h1 : P x1 := (State.forL_kept _ _ (fun _ _ h2 => (State.transferOne_kept h2 _ _)) h)
  have h9 : P x9 := (State.adcStale_kept (State.set_kept (State.setCalQ_kept h1 _ _) _ _) _ _)
  exact (ite_kept (fun _ => h) (fun _ => (State.forL_kept _ _ (fun _ _ h10 => (State.refreshCal_kept h10 _)) h9)))

theorem State.handOver_kept [Keeps P] {s : State} (h : P s) (a1 : Nat) (a2 : LRun) :
    P (State.handOver s a1 a2) := by
  unfold State.handOver
  extract_lets x0 x1 x2 x3 x4 x5 x6 x7 x8
  have h6 : P x6 := (State.setTrim_kept (State.set_kept h _ _) _ _ _)
  have h7 : P x7 := (State.setCalCh_kept h6 _ _)
  exact (State.refreshCal_kept (State.setCalQ_kept h7 _ _) _)

theorem State.handOvers_kept [Keeps P] {s : State} (h : P s) (a1 : Nat) :
    P (State.handOvers s a1) := by
  unfold State.handOvers
  exact State.forL_kept _ _ (fun _ _ h0 => (State.handOver_kept h0 _ _)) h

theorem State.calBoundary_kept [Keeps P] {s : State} (h : P s) (a1 : Nat) :
    P (State.calBoundary s a1) := by
  unfold State.calBoundary
  extract_lets x0 x1 x4
  have h1 : P x1 := (State.forL_kept _ _ (fun _ _ h2 => (by extract_lets x3; exact (ite_kept (fun _ => h2) (fun _ => (State.setCalQ_kept h2 _ _))))) h)
  exact (State.forL_kept _ _ (fun _ _ h5 => (State.forL_kept _ _ (fun _ _ h6 => (State.handOver_kept h6 _ _)) h5)) h1)

theorem State.levelResult_kept [Keeps P] {s : State} (h : P s) (a1 : Nat) (a2 : Nat) :
    P (State.levelResult s a1 a2) := by
  unfold State.levelResult
  exact State.calResult_kept (State.set_kept h _ _) _ _

theorem State.levelTake_kept [Keeps P] {s : State} (h : P s) (a1 : Nat) (a2 : Bool) (a3 : LRun) :
    P (State.levelTake s a1 a2 a3) := by
  unfold State.levelTake
  extract_lets c i k span put refs ready
  have hp : ∀ t r, P t → P (put t r) := fun t r ht => State.setCalQ_kept ht _ _
  split
  next s1 r1 he =>
    have h1 : P s1 := by
      have : s1 = (s1, r1).1 := rfl
      rw [this, ← he]
      clear_value refs
      refine ite_fst_kept (fun _ => fst_kept h) (fun _ => ?_)
      split
      · exact ite_fst_kept (fun _ => fst_kept (State.levelResult_kept h _ _)) (fun _ => fst_kept (State.levelResult_kept h _ _))
      · exact ite_fst_kept (fun _ => fst_kept (State.levelResult_kept h _ _)) (fun _ => fst_kept (State.levelResult_kept (State.targetTrim_kept h _ _
          _) _ _))
      · exact ite_fst_kept (fun _ => fst_kept (State.levelResult_kept h _ _)) (fun _ => fst_kept h)
    split
    next s2 r2 he =>
      refine hp _ _ ?_
      have : s2 = (s2, r2).1 := rfl
      rw [this, ← he]
      refine ite_fst_kept (fun _ => fst_kept h1) (fun _ => ?_)
      clear_value refs
      split
      · exact fst_kept (State.levelResult_kept (State.setCalCh_kept h1 _ _) _ _)
      · exact fst_kept (State.levelResult_kept h1 _ _)
      · exact ite_fst_kept (fun _ => fst_kept (State.levelResult_kept h1 _ _)) (fun _ => fst_kept h1)

theorem State.timeTake_kept [Keeps P] {s : State} (h : P s) (a1 : Nat) (a2 : TRun) :
    P (State.timeTake s a1 a2) := by
  unfold State.timeTake
  extract_lets c k kt mates give n mean delta ch dd drv rcv
  have hg : ∀ t code, P t → P (give t code) := fun t code ht =>
    State.calResult_kept (State.setCalQ_kept (State.set_kept ht _ _) _ _) _ _
  exact ite_kept (fun _ => hg _ _ h) (fun _ => ite_kept (fun _ => hg _ _ h) (fun _ => ite_kept (fun _ => hg _ _ h)
    (fun _ => ite_kept (fun _ => hg _ _ h) (fun _ => hg _ _ (State.set_kept (State.setCalCh_kept h _ _) _ _)))))

theorem State.shadowCapture_kept [Keeps P] {s : State} (h : P s) (a1 : Nat) (a2 : Int) (a3 : List (Nat × Int)) :
    P (State.shadowCapture s a1 a2 a3) := by
  unfold State.shadowCapture
  extract_lets x0 x1 x2 x3 x4 x5 x6 x7 x8
  exact (by split; (exact h); (exact (ite_kept (fun _ => h) (fun _ => (by extract_lets x9 x10; have h10 : P x10 := (State.setCalQ_kept h _ _); exact (ite_kept (fun _ => (State.refreshCal_kept (State.timeTake_kept h10 _ _) _)) (fun _ => h10)))))))

theorem State.liveDrop_kept [Keeps P] {s : State} (h : P s) (a1 : Nat) :
    P (State.liveDrop s a1) := by
  unfold State.liveDrop
  extract_lets x0 x1
  have h1 : P x1 := (State.adcStale_kept (State.set_kept (State.setCalQ_kept h _ _) _ _) _ _)
  exact (State.forL_kept _ _ (fun _ _ h2 => (State.refreshCal_kept h2 _)) h1)

theorem State.unqueue_kept [Keeps P] {s : State} (h : P s) (a1 : Nat) :
    P (State.unqueue s a1) := by
  unfold State.unqueue
  exact ite_kept (fun _ => (State.set_kept (State.setCalQ_kept h _ _) _ _)) (fun _ => h)

theorem State.liveEnd_kept [Keeps P] {s : State} (h : P s) (a1 : Nat) :
    P (State.liveEnd s a1) := by
  unfold State.liveEnd
  extract_lets x0 x1 x2 x4 x6 x8 x9
  have h2 : P x2 := (State.forL_kept _ _ (fun _ _ h3 => (State.levelTake_kept h3 _ _ _)) h)
  have h4 : P x4 := (State.forL_kept _ _ (fun _ _ h5 => (State.timeTake_kept h5 _ _)) h2)
  have h6 : P x6 := (State.forL_kept _ _ (fun _ _ h7 => (State.set_kept (State.set_kept h7 _ _) _ _)) h4)
  have h8 : P x8 := (State.liveDrop_kept (State.inc_kept (State.set_kept (State.setS_kept h6 _ _) _ _) _) _)
  exact (ite_kept (fun _ => h) (fun _ => (ite_kept (fun _ => (State.unqueue_kept (State.liveDrop_kept h _) _)) (fun _ => (ite_kept (fun _ => h) (fun _
      => (State.unqueue_kept (State.setCalQ_kept h8 _ _) _)))))))

theorem State.slotTime_kept [Keeps P] {s : State} (h : P s) (a1 : Nat) :
    P (State.slotTime s a1).1 := by
  unfold State.slotTime
  extract_lets x0 x1 x2 x3
  exact (ite_fst_kept (fun _ => (fst_kept h)) (fun _ => (ite_fst_kept (fun _ => (fst_kept (State.setCalCh_kept h _ _))) (fun _ => (fst_kept
      (State.setCalCh_kept (State.set_kept (State.set_kept h _ _) _ _) _ _))))))

theorem State.slotTrim_kept [Keeps P] {s : State} (h : P s) (a1 : Nat) (a2 : Nat) :
    P (State.slotTrim s a1 a2).1 := by
  unfold State.slotTrim
  extract_lets x0 x1 x2
  exact (ite_fst_kept (fun _ => (fst_kept h)) (fun _ => (ite_fst_kept (fun _ => (fst_kept (State.setCalCh_kept h _ _))) (fun _ => (fst_kept
      (State.setCalCh_kept (State.setTrim_kept h _ _ _) _ _))))))

theorem State.slotAdc_kept [Keeps P] {s : State} (h : P s) (a1 : Nat) :
    P (State.slotAdc s a1).1 := by
  unfold State.slotAdc
  extract_lets x0
  exact (fst_kept (State.setCalCh_kept h _ _))

theorem State.slotUnits_kept [Keeps P] {s : State} (h : P s) (a1 : Nat) :
    P (State.slotUnits s a1) := by
  unfold State.slotUnits
  extract_lets x0
  have h0 : P x0 := (State.forL_kept _ _ (fun _ _ h1 => (by extract_lets x2; exact (State.setCalDps_kept h1 _ _))) h)
  exact (State.forL_kept _ _ (fun _ _ h3 => (by extract_lets x4; exact (State.refreshWfCal_kept (State.setS_kept (State.setS_kept h3 _ _) _ _) _))) h0)

theorem State.calSlot_kept [Keeps P] {s : State} (h : P s) (a1 : Nat) :
    P (State.calSlot s a1) := by
  unfold State.calSlot
  refine ite_kept (fun _ => h) (fun _ => ?_)
  extract_lets quad inStream c0 s0 s1
  have h0 : P s0 := State.setCalCh_kept h _ _
  have h1 : P s1 := ite_kept (fun _ => h0) (fun _ => State.handOvers_kept h0 _)
  split
  next s2 m2 he2 =>
    have h2 : P s2 := by have := State.slotTime_kept h1 a1; rwa [he2] at this
    split
    next s3 m3 he3 =>
      have h3 : P s3 := by
        have := foldl_fst_kept (P := P) (List.range 8) (fun (p : State × Bool) i => let r := p.1.slotTrim a1 i; (r.1, p.2 || r.2))
          (fun _ _ hp => State.slotTrim_kept hp _ _) (p := (s2, m2)) h2
        rwa [he3] at this
      split
      next s4 m4 he4 =>
        have h4 : P s4 := by have := State.slotAdc_kept h3 a1; rwa [he4] at this
        extract_lets s5 s6 s7
        have h5 : P s5 := ite_kept (fun _ => State.inc_kept h4 _) (fun _ => h4)
        have h6 : P s6 := by unfold s6; split; exacts [State.slotUnits_kept h5 _, h5]
        exact State.refreshCal_kept (ite_kept (fun _ => State.forL_kept _ _ (fun _ _ ht => State.levelTake_kept ht _ _ _) h6) (fun _ => h6)) _

theorem State.calSpare_kept [Keeps P] {s : State} (h : P s) (a1 : Nat) :
    P (State.calSpare s a1) := by
  unfold State.calSpare
  extract_lets x0 x1
  exact (State.calTrigger_kept (State.refreshCal_kept (State.setCalQ_kept h _ _) _) _ _)

theorem State.calSave_kept [Keeps P] {s : State} (h : P s) (a1 : Port) (a2 : Word) :
    P (State.calSave s a1 a2) := by
  unfold State.calSave
  extract_lets x0
  exact (ite_kept (fun _ => (State.calBegin_kept h _ _ _ _ _)) (fun _ => (State.reject_kept h _ _ _ _ _)))

theorem State.saveDone_kept [Keeps P] [KeepsNvm P] {s : State} (h : P s) (a1 : NvmEnd) :
    P (State.saveDone s a1) := by
  unfold State.saveDone
  split
  · exact h
  · exact (ite_kept (fun _ => h) (fun _ => (by split; (exact (State.calEnd_kept h _ _)); (exact (ite_kept (fun _ => (State.calEnd_kept (State.log_kept (State.set_kept (State.nvmWrite_kept h _ _ _) _ _) _ _ _ _) _ _)) (fun _ => (ite_kept (fun _ => (State.calEnd_kept (State.nvmWrite_kept h _ _ _) _ _)) (fun _ => (kept_upd (State.nvmWrite_kept h _ _ _))))))))))

theorem State.calRestore_kept [Keeps P] {s : State} (h : P s) (a1 : Port) (a2 : Word) :
    P (State.calRestore s a1 a2) := by
  unfold State.calRestore
  extract_lets x0
  exact (ite_kept (fun _ => (State.calBegin_kept h _ _ _ _ _)) (fun _ => (State.reject_kept h _ _ _ _ _)))

theorem State.restoreChannel_kept [Keeps P] {s : State} (h : P s) (a1 : List Byte) (a2 : Nat) (a3 : List Int) :
    P (State.restoreChannel s a1 a2 a3) := by
  unfold State.restoreChannel
  extract_lets x0 x1 x2 x3 x4 x5 x6 x7 x8
  have h2 : P x2 := (State.set_kept h _ _)
  have h8 : P x8 := (State.takeTerms_kept (State.setCalCh_kept h2 _ _) _ _ _ _)
  exact (ite_kept (fun _ => h2) (fun _ => (State.set_kept (State.set_kept (State.set_kept h8 _ _) _ _) _ _)))

theorem State.restoreQuad_kept [Keeps P] {s : State} (h : P s) (a1 : Nat) (a2 : List Byte) (a3 : List (Nat × List Int)) :
    P (State.restoreQuad s a1 a2 a3) := by
  unfold State.restoreQuad
  extract_lets x0 x1 x3 x4 x5 x9 x13
  have h0 : P x0 := (State.setS_kept h _ _)
  have h1 : P x1 := (State.forL_kept _ _ (fun _ _ h2 => (State.restoreChannel_kept h2 _ _ _)) h0)
  have h4 : P x4 := (kept_upd h1)
  have h5 : P x5 := (State.forL_kept _ _ (fun _ _ h6 => (by extract_lets x7 x8; exact (State.setCalDps_kept h6 _ _))) h4)
  have h9 : P x9 := (State.forL_kept _ _ (fun _ _ h10 => (by extract_lets x11 x12; exact (State.refreshWfCal_kept (State.setCalWf_kept (State.setS_kept (State.setS_kept h10 _ _) _ _) _ _) _))) h5)
  exact (State.quadDone_kept (State.setCalQ_kept h9 _ _) _)

theorem State.restoreDone_kept [Keeps P] {s : State} (h : P s) (a1 : List (Nat × List Int)) :
    P (State.restoreDone s a1) := by
  unfold State.restoreDone
  split
  · exact h
  · exact (ite_kept (fun _ => h) (fun _ => (by extract_lets x0 x1 x2 x4; have h2 : P x2 := (State.forL_kept _ _ (fun _ _ h3 => (ite_kept (fun _ => (State.log_kept h3 _ _ _ _)) (fun _ => h3))) h); have h4 : P x4 := (State.forL_kept _ _ (fun _ _ h5 => (State.restoreQuad_kept h5 _ _ _)) h2); exact (ite_kept (fun _ => (State.calAbandon_kept h2 _ _ _)) (fun _ => (ite_kept (fun _ => (State.calAbandon_kept h2 _ _ _)) (fun _ => (ite_kept (fun _ => h) (fun _ => (State.calEnd_kept (State.refreshChfail_kept (State.calRelease_kept h4 _ _)) _ _))))))))))

theorem State.calOvertake_kept [Keeps P] {s : State} (h : P s) :
    P (State.calOvertake s) := by
  unfold State.calOvertake
  extract_lets x0
  have h0 : P x0 := (by unfold x0; split; (exact (State.calAbandon_kept h _ _ _)); (exact h))
  exact (State.forN_kept _ _ (fun _ _ h1 => (by extract_lets x2 x3 x4 x7 x9; have h3 : P x3 := (State.set_kept (State.setCalQ_kept h1 _ _) _ _); have h4 : P x4 := (State.forL_kept _ _ (fun _ _ h5 => (by extract_lets x6; exact (State.setCalCh_kept h5 _ _))) h3); have h7 : P x7 := (State.forL_kept _ _ (fun _ _ h8 => (State.setCalDps_kept h8 _ _)) h4); have h9 : P x9 := (State.forL_kept _ _ (fun _ _ h10 => (State.refreshWfCal_kept (State.setCalWf_kept h10 _ _) _)) h7); exact (ite_kept (fun _ => (State.liveDrop_kept h9 _)) (fun _ => h3)))) h0)

theorem execRefcalRun_kept [Keeps P] (a0 : Port) (a1 : Word) {a2 : State} (h1002 : P a2) :
    Out.All P (execRefcalRun a0 a1 a2) := by
  unfold execRefcalRun
  exact keptOut_of (State.host_kept h1002 _ _ _ _ _ (fun _ h0 => (State.refcalRun_kept h0 _ _)))

theorem execQcal_kept [Keeps P] (a0 : Port) (a1 : Word) {a2 : State} (h1002 : P a2) :
    Out.All P (execQcal a0 a1 a2) := by
  unfold execQcal
  exact keptOut_of (State.host_kept h1002 _ _ _ _ _ (fun _ h0 => (State.qcal_kept h0 _ _)))

theorem execSave_kept [Keeps P] (a0 : Port) (a1 : Word) {a2 : State} (h1002 : P a2) :
    Out.All P (execSave a0 a1 a2) := by
  unfold execSave
  exact keptOut_of (State.host_kept h1002 _ _ _ _ _ (fun _ h0 => (State.calSave_kept h0 _ _)))

theorem execRestore_kept [Keeps P] (a0 : Port) (a1 : Word) {a2 : State} (h1002 : P a2) :
    Out.All P (execRestore a0 a1 a2) := by
  unfold execRestore
  exact keptOut_of (State.host_kept h1002 _ _ _ _ _ (fun _ h0 => (State.calRestore_kept h0 _ _)))

theorem execCalAbort_kept [Keeps P] (a0 : Port) {a1 : State} (h1001 : P a1) :
    Out.All P (execCalAbort a0 a1) := by
  unfold execCalAbort
  exact keptOut_of (State.host_kept h1001 _ _ _ _ _ (fun _ h0 => (State.calAbort_kept h0 _)))

theorem execRefcalComplete_kept [Keeps P] (a0 : RefRun) {a1 : State} (h1001 : P a1) :
    Out.All P (execRefcalComplete a0 a1) := by
  unfold execRefcalComplete
  exact keptOut_of (State.refcalComplete_kept h1001 _)

theorem execSaveDone_kept [Keeps P] [KeepsNvm P] (a0 : NvmEnd) {a1 : State} (h1001 : P a1) :
    Out.All P (execSaveDone a0 a1) := by
  unfold execSaveDone
  exact keptOut_of (State.saveDone_kept h1001 _)

theorem execRestoreDone_kept [Keeps P] (a0 : List (Fin 1024 × List Int)) {a1 : State} (h1001 : P a1) :
    Out.All P (execRestoreDone a0 a1) := by
  unfold execRestoreDone
  exact keptOut_of (State.restoreDone_kept h1001 _)

theorem execLiveCycleStart_kept [Keeps P] (a0 : Fin 4) {a1 : State} (h1001 : P a1) :
    Out.All P (execLiveCycleStart a0 a1) := by
  unfold execLiveCycleStart
  exact keptOut_of (State.liveStart_kept h1001 _)

theorem execLiveCycleEnd_kept [Keeps P] (a0 : Fin 4) {a1 : State} (h1001 : P a1) :
    Out.All P (execLiveCycleEnd a0 a1) := by
  unfold execLiveCycleEnd
  exact keptOut_of (State.liveEnd_kept h1001 _)

theorem execTransferPhaseEnd_kept [Keeps P] (a0 : Fin 4) (a1 : List TransferObs) {a2 : State} (h1002 : P a2) :
    Out.All P (execTransferPhaseEnd a0 a1 a2) := by
  unfold execTransferPhaseEnd
  exact keptOut_of (State.transferEnd_kept h1002 _ _)

theorem execShadowCapture_kept [Keeps P] (a0 : Fin 1024) (a1 : Int) (a2 : List (Fin 1024 × Int)) {a3 : State} (h1003 : P a3) :
    Out.All P (execShadowCapture a0 a1 a2 a3) := by
  unfold execShadowCapture
  exact keptOut_of (State.shadowCapture_kept h1003 _ _ _)

theorem execCalibrationSlot_kept [Keeps P] (a0 : Fin 1024) {a1 : State} (h1001 : P a1) :
    Out.All P (execCalibrationSlot a0 a1) := by
  unfold execCalibrationSlot
  exact keptOut_of (State.calSlot_kept h1001 _)

end Sys2Proof.Machine
end

