-- ==== Sys2Proof/Laws/KeepsGuard.lean ====
section
/-! SUPPORT. What the primitive operations keep, every operation of one group keeps: guards, lanes, commits and spares. One lemma an operation, each
assembled from those of the operations it calls. -/

namespace Sys2Proof.Machine

variable {P : State → Prop}

/-! ### Guard -/

theorem State.setGd_kept [Keeps P] {s : State} (h : P s) (a1 : Nat) (a2 : Gd) :
    P (State.setGd s a1 a2) := by
  unfold State.setGd
  exact kept_upd h

theorem State.setDgd_kept [Keeps P] {s : State} (h : P s) (a1 : Nat) (a2 : Gd) :
    P (State.setDgd s a1 a2) := by
  unfold State.setDgd
  exact kept_upd h

theorem State.latchChan_kept [Keeps P] {s : State} (h : P s) (a1 : Nat) (a2 : Nat) (a3 : Nat) :
    P (State.latchChan s a1 a2 a3) := by
  unfold State.latchChan
  extract_lets x0 x1 x2 x3 x4 x5
  have h1 : P x1 := (State.set_kept h _ _)
  have h2 : P x2 := (ite_kept (fun _ => (State.setReg_kept h1 _ _)) (fun _ => h1))
  have h3 : P x3 := (State.inc_kept (State.set_kept (State.set_kept h2 _ _) _ _) _)
  have h5 : P x5 := (State.set_kept (State.setGd_kept h3 _ _) _ _)
  exact (State.tdcTrip_kept (State.pmuMeasTrip_kept (State.refreshPmu_kept (State.busTrigger_kept (State.refreshChan_kept h5 _) _) _) _) _)

theorem State.latchDps_kept [Keeps P] {s : State} (h : P s) (a1 : Nat) (a2 : Nat) (a3 : Nat) :
    P (State.latchDps s a1 a2 a3) := by
  unfold State.latchDps
  extract_lets x0 x1 x2 x3 x4 x5
  have h1 : P x1 := (State.set_kept h _ _)
  have h2 : P x2 := (ite_kept (fun _ => (State.setReg_kept h1 _ _)) (fun _ => h1))
  have h3 : P x3 := (State.set_kept (State.set_kept h2 _ _) _ _)
  have h5 : P x5 := (State.set_kept (State.setDgd_kept h3 _ _) _ _)
  exact (State.dpsTripOff_kept h5 _)

theorem State.tripCompound_kept [Keeps P] {s : State} (h : P s) (a1 : Nat) (a2 : Nat) (a3 : Nat) :
    P (State.tripCompound s a1 a2 a3) := by
  unfold State.tripCompound
  extract_lets x0 x1 x2 x3 x5
  have h1 : P x1 := (by unfold x1; split; (exact (State.tripSite_kept h _)); (exact h))
  have h2 : P x2 := (State.latchChan_kept h1 _ _ _)
  have h3 : P x3 := (State.forL_kept _ _ (fun _ _ h4 => (State.latchChan_kept h4 _ _ _)) h2)
  have h5 : P x5 := (State.intr_kept (State.log_kept h3 _ _ _ _) _)
  exact (by split; (exact (State.event_kept h5 _ _ _ _)); (exact h5))

theorem State.tripGang_kept [Keeps P] {s : State} (h : P s) (a1 : Nat) (a2 : Nat) (a3 : Nat) :
    P (State.tripGang s a1 a2 a3) := by
  unfold State.tripGang
  extract_lets x0 x1 x2 x4
  have h0 : P x0 := (by unfold x0; split; (exact (State.tripSite_kept h _)); (exact h))
  have h1 : P x1 := (State.latchDps_kept h0 _ _ _)
  have h2 : P x2 := (State.forL_kept _ _ (fun _ _ h3 => (State.latchDps_kept h3 _ _ _)) h1)
  have h4 : P x4 := (State.intr_kept (State.log_kept h2 _ _ _ _) _)
  exact (by split; (exact (State.event_kept h4 _ _ _ _)); (exact h4))

theorem State.tripChan_kept [Keeps P] {s : State} (h : P s) (a1 : Nat) (a2 : Nat) (a3 : Nat) :
    P (State.tripChan s a1 a2 a3) := by
  unfold State.tripChan
  extract_lets x0
  have h0 : P x0 := (State.tripCompound_kept h _ _ _)
  exact (by split; (exact (ite_kept (fun _ => (State.forL_kept _ _ (fun _ _ h1 => (State.tripGang_kept h1 _ _ _)) h0)) (fun _ => h0))); (exact h0))

theorem State.tripDps_kept [Keeps P] {s : State} (h : P s) (a1 : Nat) (a2 : Nat) (a3 : Nat) :
    P (State.tripDps s a1 a2 a3) := by
  unfold State.tripDps
  extract_lets x0
  have h0 : P x0 := (State.tripGang_kept h _ _ _)
  exact (by split; (exact (ite_kept (fun _ => (State.forL_kept _ _ (fun _ _ h1 => (State.tripCompound_kept h1 _ _ _)) h0)) (fun _ => h0))); (exact h0))

theorem State.guardTrip_kept [Keeps P] {s : State} (h : P s) (a1 : Nat) (a2 : Nat) (a3 : Nat) :
    P (State.guardTrip s a1 a2 a3) := by
  unfold State.guardTrip
  extract_lets x0
  have h0 : P x0 := (State.set_kept h _ _)
  exact (ite_kept (fun _ => (State.tripChan_kept h0 _ _ _)) (fun _ => h0))

theorem State.dpsGuardTrip_kept [Keeps P] {s : State} (h : P s) (a1 : Nat) (a2 : Nat) (a3 : Nat) :
    P (State.dpsGuardTrip s a1 a2 a3) := by
  unfold State.dpsGuardTrip
  exact ite_kept (fun _ => h) (fun _ => (by extract_lets x0; have h0 : P x0 := (State.set_kept h _ _); exact (ite_kept (fun _ => (State.tripDps_kept h0 _ _ _)) (fun _ => h0))))

theorem State.blankEnd_kept [Keeps P] {s : State} (h : P s) (a1 : Nat) (a2 : Nat) :
    P (State.blankEnd s a1 a2) := by
  unfold State.blankEnd
  exact ite_kept (fun _ => (State.guardTrip_kept h _ _ _)) (fun _ => h)

theorem State.supplyTrip_kept [Keeps P] {s : State} (h : P s) (a1 : Nat) (a2 : Nat) :
    P (State.supplyTrip s a1 a2) := by
  unfold State.supplyTrip
  exact ite_kept (fun _ => (State.tripDps_kept (State.setDps_kept h _ _) _ _ _)) (fun _ => h)

theorem State.resolveChan_kept [Keeps P] {s : State} (h : P s) (a1 : Nat) (a2 : Nat) (a3 : Bool) :
    P (State.resolveChan s a1 a2 a3) := by
  unfold State.resolveChan
  exact ite_kept (fun _ => (ite_kept (fun _ => (by extract_lets x0; have h0 : P x0 := (State.set_kept h _ _); exact (ite_kept (fun _ => (State.guardTrip_kept h0 _ _ _)) (fun _ => h0)))) (fun _ => h))) (fun _ => (by extract_lets x1 x2; exact (State.refreshChan_kept (State.setChan_kept h _ _) _)))

theorem State.resolveDps_kept [Keeps P] {s : State} (h : P s) (a1 : Nat) (a2 : Nat) (a3 : Bool) :
    P (State.resolveDps s a1 a2 a3) := by
  unfold State.resolveDps
  exact ite_kept (fun _ => (by extract_lets x0; have h0 : P x0 := (State.set_kept h _ _); exact (ite_kept (fun _ => (State.dpsGuardTrip_kept h0 _ _ _)) (fun _ => h0)))) (fun _ => h)

theorem State.filterSample_kept [Keeps P] {s : State} (h : P s) (a1 : Nat) (a2 : Nat) :
    P (State.filterSample s a1 a2) := by
  unfold State.filterSample
  extract_lets x0 x1 x2 x3 x4
  exact (ite_kept (fun _ => h) (fun _ => (by split; exact (by extract_lets x5 x6 x7; have h5 : P x5 := (State.set_kept (State.set_kept (State.setGd_kept h _ _) _ _) _ _); have h6 : P x6 := (ite_kept (fun _ => h5) (fun _ => (State.set_kept (State.add_kept h5 _ _) _ _))); have h7 : P x7 := (State.forL_kept _ _ (fun _ _ h8 => (State.resolveChan_kept h8 _ _ _)) h6); exact (ite_kept (fun _ => (State.forL_kept _ _ (fun _ _ h9 => (ite_kept (fun _ => (State.tripChan_kept h9 _ _ _)) (fun _ => h9))) h7)) (fun _ => h7))))))

theorem State.dpsFilterSample_kept [Keeps P] {s : State} (h : P s) (a1 : Nat) (a2 : Nat) :
    P (State.dpsFilterSample s a1 a2) := by
  unfold State.dpsFilterSample
  extract_lets x0 x1 x2 x3 x4 x5 x6
  have h2 : P x2 := (State.setDps_kept h _ _)
  exact (ite_kept (fun _ => h2) (fun _ => (by split; exact (by extract_lets x7 x8 x9; have h7 : P x7 := (State.set_kept (State.set_kept (State.setDgd_kept h2 _ _) _ _) _ _); have h8 : P x8 := (ite_kept (fun _ => h7) (fun _ => (State.set_kept h7 _ _))); have h9 : P x9 := (State.forL_kept _ _ (fun _ _ h10 => (State.resolveDps_kept h10 _ _ _)) h8); exact (ite_kept (fun _ => (State.forL_kept _ _ (fun _ _ h11 => (ite_kept (fun _ => (State.tripDps_kept h11 _ _ _)) (fun _ => h11))) h9)) (fun _ => h9))))))

theorem State.clearChanTrip_kept [Keeps P] {s : State} (h : P s) (a1 : Nat) :
    P (State.clearChanTrip s a1) := by
  unfold State.clearChanTrip
  exact ite_kept (fun _ => h) (fun _ => (by extract_lets x0; have h0 : P x0 := (State.set_kept (State.set_kept (State.set_kept h _ _) _ _) _ _); exact (State.presentIdle_kept (State.refreshPmu_kept (State.busTrigger_kept (State.refreshChan_kept h0 _) _) _) _)))

theorem State.clearDpsTrip_kept [Keeps P] {s : State} (h : P s) (a1 : Nat) :
    P (State.clearDpsTrip s a1) := by
  unfold State.clearDpsTrip
  exact ite_kept (fun _ => h) (fun _ => (State.dpsReconnect_kept (State.set_kept (State.set_kept (State.set_kept h _ _) _ _) _ _) _))

theorem State.leaveTripped_kept [Keeps P] {s : State} (h : P s) (a1 : Nat) :
    P (State.leaveTripped s a1) := by
  unfold State.leaveTripped
  exact ite_kept (fun _ => (State.set_kept (State.setSite_kept h _ _) _ _)) (fun _ => h)

theorem State.clearUnits_kept [Keeps P] {s : State} (h : P s) (a1 : List Nat) (a2 : List Nat) :
    P (State.clearUnits s a1 a2) := by
  unfold State.clearUnits
  extract_lets x0
  have h0 : P x0 := (State.forL_kept _ _ (fun _ _ h1 => (State.clearDpsTrip_kept h1 _)) (State.forL_kept _ _ (fun _ _ h2 => (State.clearChanTrip_kept
      h2 _)) h))
  exact (State.forN_kept _ _ (fun _ _ h3 => (State.leaveTripped_kept h3 _)) h0)

theorem State.clearCmd_kept [Keeps P] {s : State} (h : P s) (a1 : Port) (a2 : List Nat) (a3 : List Nat) (a4 : Nat) :
    P (State.clearCmd s a1 a2 a3 a4) := by
  unfold State.clearCmd
  exact ite_kept (fun _ => (State.clearUnits_kept h _ _)) (fun _ => (State.reject_kept h _ _ _ _ _))

theorem State.clearWhatCan_kept [Keeps P] {s : State} (h : P s) (a1 : List Nat) (a2 : List Nat) :
    P (State.clearWhatCan s a1 a2) := by
  unfold State.clearWhatCan
  extract_lets x0 x1 x2
  exact (State.clearUnits_kept h _ _)

theorem State.latchClear_kept [Keeps P] {s : State} (h : P s) (a1 : Nat) :
    P (State.latchClear s a1) := by
  unfold State.latchClear
  extract_lets x0 x1
  exact (ite_kept (fun _ => h) (fun _ => (State.clearWhatCan_kept h _ _)))

theorem State.resolveAll_kept [Keeps P] {s : State} (h : P s) (a1 : Nat) :
    P (State.resolveAll s a1) := by
  unfold State.resolveAll
  extract_lets x0
  exact (State.refreshChan_kept (State.set_kept (State.set_kept (State.setChan_kept h _ _) _ _) _ _) _)

theorem State.selfOutcome_kept [Keeps P] {s : State} (h : P s) (a1 : Nat) (a2 : Bool) :
    P (State.selfOutcome s a1 a2) := by
  unfold State.selfOutcome
  extract_lets x0
  have h0 : P x0 := (State.inc_kept (State.resolveAll_kept h _) _)
  exact (ite_kept (fun _ => (ite_kept (fun _ => h0) (fun _ => (ite_kept (fun _ => (State.forN_kept _ _ (fun _ _ h1 => (State.leaveTripped_kept h1 _))
      (State.clearChanTrip_kept h0 _))) (fun _ => (State.set_kept h0 _ _)))))) (fun _ => (State.tripChan_kept (State.inc_kept h0 _) _ _ _)))

theorem State.selfcheckDone_kept [Keeps P] {s : State} (h : P s) (a1 : Nat) (a2 : Nat) :
    P (State.selfcheckDone s a1 a2) := by
  unfold State.selfcheckDone
  exact ite_kept (fun _ => (State.selfOutcome_kept (State.set_kept (State.setGd_kept h _ _) _ _) _ _)) (fun _ => h)

theorem State.contactStart_kept [Keeps P] {s : State} (h : P s) :
    P (State.contactStart s) := by
  unfold State.contactStart
  extract_lets x0 x1 x2 x3
  have h1 : P x1 := (kept_upd h)
  have h2 : P x2 := (State.setReg_kept h1 _ _)
  have h3 : P x3 := (State.forL_kept _ _ (fun _ _ h4 => (State.refreshPmu_kept (State.refreshChan_kept (State.set_kept h4 _ _) _) _)) h2)
  exact (State.forL_kept _ _ (fun _ _ h5 => (State.checkStart_kept h5 _ _)) h3)

theorem State.contactPin_kept [Keeps P] {s : State} (h : P s) (a1 : ContactObs) :
    P (State.contactPin s a1) := by
  unfold State.contactPin
  extract_lets x0 x1 x2 x3 x4 x5 x6
  have h2 : P x2 := (ite_kept (fun _ => (State.inc_kept (State.resolveAll_kept h _) _)) (fun _ => (State.selfOutcome_kept h _ _)))
  have h3 : P x3 := (State.set_kept h2 _ _)
  have h5 : P x5 := (State.setReg_kept h3 _ _)
  have h6 : P x6 := (ite_kept (fun _ => h5) (fun _ => (State.add_kept h5 _ _)))
  exact (by split; (exact (State.recordRaw_kept h6 _ _ _ _ _)); (exact h6))

theorem State.contactRelease_kept [Keeps P] {s : State} (h : P s) (a1 : List Nat) :
    P (State.contactRelease s a1) := by
  unfold State.contactRelease
  exact State.forL_kept _ _ (fun _ _ h0 => (State.presentIdle_kept (State.refreshPmu_kept (State.busTrigger_kept (State.refreshChan_kept
      (State.set_kept h0 _ _) _) _) _) _)) (kept_upd h)

theorem State.contactDone_kept [Keeps P] {s : State} (h : P s) (a1 : List ContactObs) :
    P (State.contactDone s a1) := by
  unfold State.contactDone
  split
  · exact h
  · exact (ite_kept (fun _ => h) (fun _ => (by extract_lets x0 x1 x2 x3 x5 x8; have h1 : P x1 := (State.contactRelease_kept h _); have h3 : P x3 := (State.forL_kept _ _ (fun _ _ h4 => (State.contactPin_kept h4 _)) h1); have h5 : P x5 := (State.forL_kept _ _ (fun _ _ h6 => (by extract_lets x7; have h7 : P x7 := (State.add_kept (State.set_kept h6 _ _) _ _); exact (by split; (exact (State.recordRaw_kept h7 _ _ _ _ _)); (exact h7)))) h3); have h8 : P x8 := (State.forL_kept _ _ (fun _ _ h9 => (by extract_lets x10 x11; have h11 : P x11 := (State.add_kept h9 _ _); exact (ite_kept (fun _ => (by split; (exact (State.event_kept h11 _ _ _ _)); (exact h11))) (fun _ => h9)))) h5); exact (State.intr_kept (State.set_kept (State.set_kept (State.set_kept h8 _ _) _ _) _ _) _))))

theorem State.contactAbort_kept [Keeps P] {s : State} (h : P s) :
    P (State.contactAbort s) := by
  unfold State.contactAbort
  split
  · exact h
  · exact (by extract_lets x0 x1 x4; have h0 : P x0 := (State.contactRelease_kept h _); have h1 : P x1 := (State.forL_kept _ _ (fun _ _ h2 => (State.forL_kept _ _ (fun _ _ h3 => (State.set_kept h3 _ _)) h2)) h0); have h4 : P x4 := (State.forL_kept _ _ (fun _ _ h5 => (State.forL_kept _ _ (fun _ _ h6 => (State.refreshDpsBusy_kept (State.setDps_kept h6 _ _) _)) h5)) h1); exact (State.set_kept (State.set_kept h4 _ _) _ _))

/-! ### Lane -/

theorem State.setLane_kept [Keeps P] {s : State} (h : P s) (a1 : Nat) (a2 : Lane) :
    P (State.setLane s a1 a2) := by
  unfold State.setLane
  exact kept_upd h

theorem State.laneEvent_kept [Keeps P] {s : State} (h : P s) (a1 : Nat) (a2 : Nat) (a3 : Nat) (a4 : Nat) :
    P (State.laneEvent s a1 a2 a3 a4) := by
  unfold State.laneEvent
  extract_lets x0
  have h0 : P x0 := (by unfold x0; split; (exact (State.event_kept h _ _ _ _)); (exact h))
  exact (ite_kept (fun _ => h0) (fun _ => (State.log_kept h0 _ _ _ _)))

theorem State.eqStart_kept [Keeps P] {s : State} (h : P s) (a1 : Nat) :
    P (State.eqStart s a1) := by
  unfold State.eqStart
  exact State.set_kept (State.set_kept (State.set_kept h _ _) _ _) _ _

theorem State.rateStart_kept [Keeps P] {s : State} (h : P s) (a1 : Nat) (a2 : Nat) :
    P (State.rateStart s a1 a2) := by
  unfold State.rateStart
  extract_lets x0 x1 x2
  have h2 : P x2 := (State.setLane_kept h _ _)
  exact (State.eqStart_kept (State.set_kept (State.set_kept h2 _ _) _ _) _)

theorem State.attemptStart_kept [Keeps P] {s : State} (h : P s) (a1 : Nat) (a2 : Nat) :
    P (State.attemptStart s a1 a2) := by
  unfold State.attemptStart
  extract_lets x0 x1
  have h1 : P x1 := (State.set_kept (State.setLane_kept h _ _) _ _)
  exact (State.rateStart_kept (State.inc_kept h1 _) _ _)

theorem State.ltestFreeze_kept [Keeps P] {s : State} (h : P s) (a1 : Nat) :
    P (State.ltestFreeze s a1) := by
  unfold State.ltestFreeze
  exact kept_upd h

theorem State.setLaneState_kept [Keeps P] {s : State} (h : P s) (a1 : Nat) (a2 : Nat) :
    P (State.setLaneState s a1 a2) := by
  unfold State.setLaneState
  extract_lets x0 x1 x2
  have h1 : P x1 := (ite_kept (fun _ => (State.set_kept (State.ltestFreeze_kept h _) _ _)) (fun _ => h))
  have h2 : P x2 := (ite_kept (fun _ => (State.set_kept h1 _ _)) (fun _ => h1))
  exact (State.set_kept h2 _ _)

theorem State.laneStop_kept [Keeps P] {s : State} (h : P s) (a1 : Nat) :
    P (State.laneStop s a1) := by
  unfold State.laneStop
  extract_lets x0
  have h0 : P x0 := (State.setLane_kept (State.setLaneState_kept h _ _) _ _)
  exact (State.set_kept (State.set_kept (State.set_kept (State.set_kept (State.set_kept h0 _ _) _ _) _ _) _ _) _ _)

theorem State.trainStart_kept [Keeps P] {s : State} (h : P s) (a1 : Nat) :
    P (State.trainStart s a1) := by
  unfold State.trainStart
  extract_lets x0 x1
  have h0 : P x0 := (State.set_kept (State.setLaneState_kept h _ _) _ _)
  exact (State.attemptStart_kept (State.setLane_kept h0 _ _) _ _)

theorem State.lockStart_kept [Keeps P] {s : State} (h : P s) (a1 : Nat) :
    P (State.lockStart s a1) := by
  unfold State.lockStart
  extract_lets x0 x1
  have h0 : P x0 := (State.set_kept (State.setLaneState_kept h _ _) _ _)
  exact (State.eqStart_kept (State.setLane_kept h0 _ _) _)

theorem State.laneRestart_kept [Keeps P] {s : State} (h : P s) (a1 : Nat) :
    P (State.laneRestart s a1) := by
  unfold State.laneRestart
  split
  · exact (State.trainStart_kept h _)
  · exact (State.lockStart_kept h _)
  · exact (State.laneStop_kept h _)

theorem State.laneOff_kept [Keeps P] {s : State} (h : P s) (a1 : Nat) :
    P (State.laneOff s a1) := by
  unfold State.laneOff
  extract_lets x0
  exact (State.laneStop_kept (State.setShadow_kept (State.setReg_kept h _ _) _ _) _)

theorem State.laneUp_kept [Keeps P] {s : State} (h : P s) (a1 : Nat) :
    P (State.laneUp s a1) := by
  unfold State.laneUp
  extract_lets x0 x1 x2
  have h0 : P x0 := (State.set_kept (State.setLaneState_kept h _ _) _ _)
  have h2 : P x2 := (State.setLane_kept h0 _ _)
  exact (State.laneEvent_kept h2 _ _ _ _)

theorem State.stepStart_kept [Keeps P] {s : State} (h : P s) (a1 : Nat) :
    P (State.stepStart s a1) := by
  unfold State.stepStart
  extract_lets x0 x1
  exact (State.set_kept (State.setLane_kept h _ _) _ _)

theorem State.eqCheck_kept [Keeps P] {s : State} (h : P s) (a1 : Nat) :
    P (State.eqCheck s a1) := by
  unfold State.eqCheck
  exact ite_kept (fun _ => (State.stepStart_kept h _)) (fun _ => h)

theorem State.lockCheck_kept [Keeps P] {s : State} (h : P s) (a1 : Nat) :
    P (State.lockCheck s a1) := by
  unfold State.lockCheck
  extract_lets x0
  exact (ite_kept (fun _ => (State.set_kept (State.setLane_kept h _ _) _ _)) (fun _ => h))

theorem State.goodBlock_kept [Keeps P] {s : State} (h : P s) (a1 : Nat) (a2 : Word) :
    P (State.goodBlock s a1 a2) := by
  unfold State.goodBlock
  extract_lets x0 x1 x2 x3 x4 x5
  have h5 : P x5 := (State.setLane_kept h _ _)
  exact (by split; (exact (State.lockCheck_kept (State.setLane_kept h _ _) _)); (exact (State.eqCheck_kept (State.setLane_kept h _ _) _)); (exact (by split; (exact (ite_kept (fun _ => (State.laneUp_kept h5 _)) (fun _ => h5))); (exact (ite_kept (fun _ => (by extract_lets x6; have h6 : P x6 := (State.setLane_kept h _ _); exact (State.laneEvent_kept (State.set_kept h6 _ _) _ _ _ _))) (fun _ => (by extract_lets x7 x8; have h8 : P x8 := (State.setLane_kept h _ _); exact (ite_kept (fun _ => (State.set_kept h8 _ _)) (fun _ => h8)))))))); (exact (State.setLane_kept h _ _)))

theorem State.trainingBlock_kept [Keeps P] {s : State} (h : P s) (a1 : Nat) (a2 : Word) :
    P (State.trainingBlock s a1 a2) := by
  unfold State.trainingBlock
  extract_lets x0 x1 x2 x3
  have h3 : P x3 := (State.setLane_kept h _ _)
  exact (ite_kept (fun _ => h) (fun _ => (ite_kept (fun _ => (ite_kept (fun _ => (State.goodBlock_kept h _ _)) (fun _ => (State.setLane_kept h _ _))))
      (fun _ => (ite_kept (fun _ => (State.setLane_kept h _ _)) (fun _ => (ite_kept (fun _ => (ite_kept (fun _ => (State.laneEvent_kept
      (State.set_kept (State.set_kept h3 _ _) _ _) _ _ _ _)) (fun _ => h3))) (fun _ => (State.setLane_kept h _ _)))))))))

theorem State.blockSent_kept [Keeps P] {s : State} (h : P s) (a1 : Nat) :
    P (State.blockSent s a1) := by
  unfold State.blockSent
  extract_lets x0
  exact (ite_kept (fun _ => (ite_kept (fun _ => (State.set_kept (State.setLane_kept h _ _) _ _)) (fun _ => (State.setLane_kept h _ _)))) (fun _ => h))

theorem State.gapEnd_kept [Keeps P] {s : State} (h : P s) (a1 : Nat) :
    P (State.gapEnd s a1) := by
  unfold State.gapEnd
  extract_lets x0
  exact (ite_kept (fun _ => (by split; (exact (State.rateStart_kept h _ _)); (exact h))) (fun _ => h))

theorem State.eqTime_kept [Keeps P] {s : State} (h : P s) (a1 : Nat) :
    P (State.eqTime s a1) := by
  unfold State.eqTime
  extract_lets x0
  exact (ite_kept (fun _ => (State.eqCheck_kept (State.setLane_kept h _ _) _)) (fun _ => h))

theorem State.attemptFail_kept [Keeps P] {s : State} (h : P s) (a1 : Nat) (a2 : Nat) (a3 : Fld) :
    P (State.attemptFail s a1 a2 a3) := by
  unfold State.attemptFail
  extract_lets x0 x1 x2 x3 x4 x5
  have h4 : P x4 := (State.laneEvent_kept (State.set_kept h _ _) _ _ _ _)
  have h5 : P x5 := (ite_kept (fun _ => (State.set_kept h4 _ _)) (fun _ => h4))
  exact (ite_kept (fun _ => (State.setLaneState_kept (State.setLane_kept h4 _ _) _ _)) (fun _ => (State.setLane_kept h5 _ _)))

theorem State.trainExpiry_kept [Keeps P] {s : State} (h : P s) (a1 : Nat) :
    P (State.trainExpiry s a1) := by
  unfold State.trainExpiry
  extract_lets x0
  exact (ite_kept (fun _ => (ite_kept (fun _ => (State.setLaneState_kept (State.laneEvent_kept (State.set_kept h _ _) _ _ _ _) _ _)) (fun _ =>
      (State.attemptFail_kept h _ _ _)))) (fun _ => h))

theorem State.ackExpiry_kept [Keeps P] {s : State} (h : P s) (a1 : Nat) :
    P (State.ackExpiry s a1) := by
  unfold State.ackExpiry
  exact ite_kept (fun _ => (State.attemptFail_kept h _ _ _)) (fun _ => h)

theorem State.laneLost_kept [Keeps P] {s : State} (h : P s) (a1 : Nat) :
    P (State.laneLost s a1) := by
  unfold State.laneLost
  extract_lets x0 x1
  exact (ite_kept (fun _ => (State.attemptFail_kept h _ _ _)) (fun _ => h))

theorem State.retryGapEnd_kept [Keeps P] {s : State} (h : P s) (a1 : Nat) :
    P (State.retryGapEnd s a1) := by
  unfold State.retryGapEnd
  exact ite_kept (fun _ => (State.attemptStart_kept h _ _)) (fun _ => h)

theorem State.losChange_kept [Keeps P] {s : State} (h : P s) (a1 : Nat) (a2 : Bool) :
    P (State.losChange s a1 a2) := by
  unfold State.losChange
  exact ite_kept (fun _ => h) (fun _ => (State.setLane_kept (State.set_kept h _ _) _ _))

theorem State.lolChange_kept [Keeps P] {s : State} (h : P s) (a1 : Nat) (a2 : Bool) :
    P (State.lolChange s a1 a2) := by
  unfold State.lolChange
  exact ite_kept (fun _ => h) (fun _ => (State.lockCheck_kept (State.setLane_kept (State.set_kept h _ _) _ _) _))

theorem State.laneDown_kept [Keeps P] {s : State} (h : P s) (a1 : Nat) :
    P (State.laneDown s a1) := by
  unfold State.laneDown
  extract_lets x0 x1 x2 x3
  have h3 : P x3 := (State.laneEvent_kept (State.set_kept h _ _) _ _ _ _)
  exact (ite_kept (fun _ => (ite_kept (fun _ => (State.lockStart_kept h3 _)) (fun _ => (ite_kept (fun _ => (State.trainStart_kept h3 _)) (fun _ =>
      (State.setLaneState_kept h3 _ _)))))) (fun _ => h))

theorem State.directLock_kept [Keeps P] {s : State} (h : P s) (a1 : Nat) :
    P (State.directLock s a1) := by
  unfold State.directLock
  exact ite_kept (fun _ => (State.laneUp_kept h _)) (fun _ => h)

theorem State.adaptUpdate_kept [Keeps P] {s : State} (h : P s) (a1 : Nat) (a2 : AdaptObs) :
    P (State.adaptUpdate s a1 a2) := by
  unfold State.adaptUpdate
  exact ite_kept (fun _ => h) (fun _ => (by extract_lets x0 x1 x2 x3 x4 x5; have h4 : P x4 := (State.set_kept (State.set_kept h _ _) _ _); have h5 : P x5 := (State.setLane_kept (State.set_kept (State.set_kept h _ _) _ _) _ _); exact (ite_kept (fun _ => (ite_kept (fun _ => (State.setLane_kept (State.laneEvent_kept (State.set_kept h4 _ _) _ _ _ _) _ _)) (fun _ => (ite_kept (fun _ => (State.set_kept h5 _ _)) (fun _ => h5))))) (fun _ => (State.set_kept (State.set_kept h _ _) _ _)))))

theorem State.adaptFreeze_kept [Keeps P] {s : State} (h : P s) (a1 : Nat) :
    P (State.adaptFreeze s a1) := by
  unfold State.adaptFreeze
  exact ite_kept (fun _ => h) (fun _ => (by extract_lets x0 x1; have h0 : P x0 := (State.set_kept (State.set_kept h _ _) _ _); exact (State.setLane_kept (State.set_kept (State.set_kept h0 _ _) _ _) _ _)))

theorem State.adaptRestart_kept [Keeps P] {s : State} (h : P s) (a1 : Nat) :
    P (State.adaptRestart s a1) := by
  unfold State.adaptRestart
  exact ite_kept (fun _ => (by extract_lets x0 x1; have h0 : P x0 := (State.set_kept (State.set_kept h _ _) _ _); exact (State.setLane_kept (State.set_kept h0 _ _) _ _))) (fun _ => h)

theorem State.countBits_kept [Keeps P] {s : State} (h : P s) (a1 : Nat) (a2 : Nat) (a3 : Nat) :
    P (State.countBits s a1 a2 a3) := by
  unfold State.countBits
  exact ite_kept (fun _ => (State.add_kept (State.add_kept h _ _) _ _)) (fun _ => h)

theorem State.checkerSync_kept [Keeps P] {s : State} (h : P s) (a1 : Nat) (a2 : Nat) (a3 : Nat) :
    P (State.checkerSync s a1 a2 a3) := by
  unfold State.checkerSync
  extract_lets x0
  have h0 : P x0 := (State.countBits_kept h _ _ _)
  exact (ite_kept (fun _ => (State.set_kept h0 _ _)) (fun _ => h0))

theorem State.checkerLoss_kept [Keeps P] {s : State} (h : P s) (a1 : Nat) (a2 : Nat) (a3 : Nat) :
    P (State.checkerLoss s a1 a2 a3) := by
  unfold State.checkerLoss
  extract_lets x0
  have h0 : P x0 := (State.countBits_kept h _ _ _)
  exact (ite_kept (fun _ => (State.inc_kept (State.set_kept h0 _ _) _)) (fun _ => h0))

theorem State.ltestStart_kept [Keeps P] {s : State} (h : P s) (a1 : Nat) (a2 : Nat) (a3 : Nat) (a4 : Nat) :
    P (State.ltestStart s a1 a2 a3 a4) := by
  unfold State.ltestStart
  exact kept_upd h

theorem State.ltestEnd_kept [Keeps P] {s : State} (h : P s) (a1 : Nat) (a2 : Nat) (a3 : Nat) :
    P (State.ltestEnd s a1 a2 a3) := by
  unfold State.ltestEnd
  split
  · exact (State.countBits_kept h _ _ _)
  · exact (by extract_lets x0 x1 x2 x3; have h0 : P x0 := (State.countBits_kept h _ _ _); have h3 : P x3 := (kept_upd h0); exact (ite_kept (fun _ => h0) (fun _ => (State.unitDone_kept (State.accFold_kept (State.record_kept h3 _ _ _ _ _) _ _ _) _ _))))

/-! ### Commit -/

theorem State.putCl_kept [Keeps P] {s : State} (h : P s) (a1 : Nat) (a2 : Word) (a3 : Word) :
    P (State.putCl s a1 a2 a3) := by
  unfold State.putCl
  extract_lets x0
  exact (State.setShadow_kept (State.setReg_kept h _ _) _ _)

theorem State.applyValues_kept [Keeps P] {s : State} (h : P s) (a1 : Action) :
    P (State.applyValues s a1) := by
  unfold State.applyValues
  split
  · exact (State.tenseWrite_kept (State.tenseWrite_kept h _ _ _) _ _ _)
  · exact (State.forL_kept _ _ (fun _ _ h0 => (State.putCl_kept h0 _ _ _)) (State.putCl_kept h _ _ _))

theorem State.armHook_kept [Keeps P] {s : State} (h : P s) (a1 : Bool) (a2 : Nat) :
    P (State.armHook s a1 a2) := by
  unfold State.armHook
  extract_lets x0 x1 x2
  have h2 : P x2 := (ite_kept (fun _ => (State.set_kept (State.setChan_kept h _ _) _ _)) (fun _ => (ite_kept (fun _ => (State.setChan_kept h _ _))
      (fun _ => h))))
  exact (State.presentIdle_kept (State.refreshPmu_kept (State.refreshChan_kept (State.busTrigger_kept h2 _) _) _) _)

theorem State.startSite_kept [Keeps P] {s : State} (h : P s) (a1 : Nat) :
    P (State.startSite s a1) := by
  unfold State.startSite
  exact ite_kept (fun _ => h) (fun _ => (by extract_lets x0 x1 x2 x3 x4 x5 x6; have h2 : P x2 := (State.set_kept (State.set_kept (State.set_kept h _ _) _ _) _ _); have h3 : P x3 := (State.setReg_kept h2 _ _); have h5 : P x5 := (State.setSeq_kept h3 _ _); have h6 : P x6 := (State.setSite_kept (State.cancelHost_kept h5 _) _ _); exact (ite_kept (fun _ => h6) (fun _ => (State.setSite_kept h6 _ _)))))

theorem State.followHook_kept [Keeps P] {s : State} (h : P s) (a1 : Nat) (a2 : Word) :
    P (State.followHook s a1 a2) := by
  unfold State.followHook
  exact ite_kept (fun _ => (by extract_lets x0; have h0 : P x0 := (State.set_kept h _ _); exact (kept_upd h0))) (fun _ => h)

theorem State.laneHook_kept [Keeps P] {s : State} (h : P s) (a1 : Nat) (a2 : Nat) (a3 : Word) (a4 : Word) :
    P (State.laneHook s a1 a2 a3 a4) := by
  unfold State.laneHook
  exact ite_kept (fun _ => (ite_kept (fun _ => (State.laneRestart_kept h _)) (fun _ => h))) (fun _ => (ite_kept (fun _ => (State.set_kept h _ _)) (fun
      _ => h)))

theorem State.wordHook_kept [Keeps P] {s : State} (h : P s) (a1 : Nat) (a2 : Word) (a3 : Word) (a4 : Word) :
    P (State.wordHook s a1 a2 a3 a4) := by
  unfold State.wordHook
  extract_lets x0
  exact (by split; (exact (State.followHook_kept h _ _)); (exact (ite_kept (fun _ => h) (fun _ => (State.set_kept h _ _)))); (exact (ite_kept (fun _ => (State.startSite_kept h _)) (fun _ => h))); (exact h); (exact h); (exact h); (exact h); (exact h); (exact (ite_kept (fun _ => (State.forL_kept _ _ (fun _ _ h1 => (State.armHook_kept h1 _ _)) h)) (fun _ => (ite_kept (fun _ => (State.forL_kept _ _ (fun _ _ h2 => (State.refreshChan_kept h2 _)) h)) (fun _ => (ite_kept (fun _ => (State.levelCommit_kept h _ _)) (fun _ => (ite_kept (fun _ => (State.presentIdle_kept (State.pmuTrigger_kept h _) _)) (fun _ => h))))))))); (exact (State.wfTrigger_kept h _ _)); (exact (ite_kept (fun _ => (State.dpsCommit_kept h _)) (fun _ => (State.dpsCfgCommit_kept h _)))); (exact (State.laneHook_kept h _ _ _ _)))

theorem State.applyActions_kept [Keeps P] {s : State} (h : P s) (a1 : List Action) :
    P (State.applyActions s a1) := by
  unfold State.applyActions
  extract_lets x0 x1 x2
  have h2 : P x2 := (State.forL_kept _ _ (fun _ _ h3 => (State.applyValues_kept h3 _)) (State.forL_kept _ _ (fun _ _ h4 => (State.calTouch_kept h4 _))
      h))
  exact (State.forL_kept _ _ (fun _ _ h5 => (by extract_lets x6; exact (State.wordHook_kept h5 _ _ _ _))) h2)

/-! ### Spare -/

theorem State.route_kept [Keeps P] {s : State} (h : P s) (a1 : Nat) (a2 : Nat) (a3 : Nat) :
    P (State.route s a1 a2 a3) := by
  unfold State.route
  extract_lets x0 x1 x2 x3
  have h0 : P x0 := (State.set_kept (State.set_kept (State.set_kept h _ _) _ _) _ _)
  have h1 : P x1 := (State.set_kept (State.set_kept h0 _ _) _ _)
  have h2 : P x2 := (ite_kept (fun _ => (State.set_kept (State.set_kept h1 _ _) _ _)) (fun _ => h1))
  exact (State.setCalCh_kept h2 _ _)

theorem State.unroute_kept [Keeps P] {s : State} (h : P s) (a1 : Nat) (a2 : Nat) :
    P (State.unroute s a1 a2) := by
  unfold State.unroute
  extract_lets x0
  have h0 : P x0 := (State.set_kept h _ _)
  exact (ite_kept (fun _ => (State.setReg_kept h0 _ _)) (fun _ => h0))

theorem State.takeOver_kept [Keeps P] {s : State} (h : P s) (a1 : Nat) (a2 : Nat) :
    P (State.takeOver s a1 a2) := by
  unfold State.takeOver
  extract_lets x0 x1 x2 x3 x4
  have h1 : P x1 := (kept_upd h)
  have h2 : P x2 := (State.setShadow_kept (State.setReg_kept h1 _ _) _ _)
  have h3 : P x3 := (State.set_kept (State.set_kept h2 _ _) _ _)
  have h4 : P x4 := (State.route_kept (State.unroute_kept (State.bumpFree_kept h3) _ _) _ _ _)
  exact (ite_kept (fun _ => (State.set_kept h4 _ _)) (fun _ => h4))

theorem State.svcEnd_kept [Keeps P] {s : State} (h : P s) (a1 : Nat) :
    P (State.svcEnd s a1) := by
  unfold State.svcEnd
  exact State.set_kept (State.set_kept (State.set_kept (State.set_kept h _ _) _ _) _ _) _ _

theorem State.switchOver_kept [Keeps P] {s : State} (h : P s) :
    P (State.switchOver s) := by
  unfold State.switchOver
  extract_lets x0 x1 x2 x3 x4
  have h3 : P x3 := (State.svcEnd_kept (State.takeOver_kept h _ _) _)
  have h4 : P x4 := (by unfold x4; split; (exact (State.event_kept h3 _ _ _ _)); (exact h3))
  exact (State.calSpare_kept (State.log_kept h4 _ _ _ _) _)

theorem State.spareBoundary_kept [Keeps P] {s : State} (h : P s) (a1 : Nat) :
    P (State.spareBoundary s a1) := by
  unfold State.spareBoundary
  exact ite_kept (fun _ => (State.switchOver_kept h)) (fun _ => h)

end Sys2Proof.Machine
end

