-- ==== Sys2Proof/Laws/KeepsStream.lean ====
section
/-! SUPPORT. What the primitive operations keep, every operation of one group keeps: scan-out and clauses. One lemma an operation, each
assembled from those of the operations it calls. -/

namespace Sys2Proof.Machine

variable {P : State → Prop}

/-! ### ScanOut -/

theorem State.firePends_kept [Keeps P] {s : State} (h : P s) (a1 : PendAct → Bool) :
    P (State.firePends s a1) := by
  unfold State.firePends
  extract_lets x0
  exact (State.applyActions_kept (kept_upd h) _)

theorem State.commitLate_kept [Keeps P] {s : State} (h : P s) (a1 : Nat) (a2 : List Nat) (a3 : Nat) :
    P (State.commitLate s a1 a2 a3) := by
  unfold State.commitLate
  extract_lets x0 x1 x2 x4
  have h0 : P x0 := (State.inc_kept (State.set_kept (State.set_kept h _ _) _ _) _)
  have h1 : P x1 := (State.log_kept h0 _ _ _ _)
  have h2 : P x2 := (State.forL_kept _ _ (fun _ _ h3 => (State.event_kept h3 _ _ _ _)) h1)
  exact (State.setStream_kept h2 _ _)

theorem State.boundaryCommits_kept [Keeps P] {s : State} (h : P s) (a1 : Nat) (a2 : Nat) (a3 : Nat) :
    P (State.boundaryCommits s a1 a2 a3) := by
  unfold State.boundaryCommits
  extract_lets x0 x1 x2 x3 x4 x5 x6 x7
  have h5 : P x5 := (kept_upd h)
  have h6 : P x6 := (State.applyActions_kept h5 _)
  exact (State.forL_kept _ _ (fun _ _ h8 => (State.commitLate_kept h8 _ _ _)) h6)

theorem State.setStreamState_kept [Keeps P] {s : State} (h : P s) (a1 : Nat) (a2 : Nat) :
    P (State.setStreamState s a1 a2) := by
  unfold State.setStreamState
  extract_lets x0 x1
  have h0 : P x0 := (State.set_kept h _ _)
  have h1 : P x1 := (ite_kept (fun _ => (State.firePends_kept h0 _)) (fun _ => h0))
  exact (ite_kept (fun _ => h1) (fun _ => (State.forL_kept _ _ (fun _ _ h2 => (State.set_kept h2 _ _)) h1)))

theorem State.idlePins_kept [Keeps P] {s : State} (h : P s) (a1 : Nat) :
    P (State.idlePins s a1) := by
  unfold State.idlePins
  exact State.forL_kept _ _ (fun _ _ h0 => (State.presentIdle_kept h0 _)) h

theorem State.leaveStream_kept [Keeps P] {s : State} (h : P s) (a1 : Nat) :
    P (State.leaveStream s a1) := by
  unfold State.leaveStream
  extract_lets x0 x1 x2 x3
  have h2 : P x2 := (State.setStream_kept h _ _)
  have h3 : P x3 := (State.set_kept (State.firePends_kept h2 _) _ _)
  exact (ite_kept (fun _ => (State.idlePins_kept h3 _)) (fun _ => h))

theorem State.releaseFb_kept [Keeps P] {s : State} (h : P s) (a1 : Nat) :
    P (State.releaseFb s a1) := by
  unfold State.releaseFb
  exact ite_kept (fun _ => (by extract_lets x0; exact (State.set_kept (State.set_kept (State.set_kept h _ _) _ _) _ _))) (fun _ => h)

theorem State.endStream_kept [Keeps P] {s : State} (h : P s) (a1 : Nat) :
    P (State.endStream s a1) := by
  unfold State.endStream
  extract_lets x0 x1 x2 x4 x5
  have h1 : P x1 := (State.setStreamState_kept h _ _)
  have h2 : P x2 := (State.forL_kept _ _ (fun _ _ h3 => (State.idlePins_kept (State.set_kept h3 _ _) _)) h1)
  exact (State.releaseFb_kept (State.setStream_kept h2 _ _) _)

theorem State.pauseStream_kept [Keeps P] {s : State} (h : P s) (a1 : Nat) (a2 : Nat) :
    P (State.pauseStream s a1 a2) := by
  unfold State.pauseStream
  extract_lets x0 x1 x2 x4
  have h1 : P x1 := (State.setStreamState_kept h _ _)
  have h2 : P x2 := (State.forL_kept _ _ (fun _ _ h3 => (State.idlePins_kept (State.set_kept h3 _ _) _)) h1)
  exact (State.setStream_kept h2 _ _)

theorem State.stopViolated_kept [Keeps P] {s : State} (h : P s) (a1 : Nat) (a2 : Nat) :
    P (State.stopViolated s a1 a2) := by
  unfold State.stopViolated
  extract_lets x0 x1 x2 x3 x5
  have h2 : P x2 := (State.setStreamState_kept h _ _)
  have h3 : P x3 := (State.forL_kept _ _ (fun _ _ h4 => (State.idlePins_kept (State.set_kept h4 _ _) _)) h2)
  have h5 : P x5 := (State.forL_kept _ _ (fun _ _ h6 => (State.event_kept (State.hold_kept h6 _ _) _ _ _ _)) h3)
  exact (State.setStream_kept h5 _ _)

theorem State.startFrame_kept [Keeps P] {s : State} (h : P s) (a1 : Nat) (a2 : Half) (a3 : Nat) (a4 : Nat) (a5 : Nat) (a6 : Bool) :
    P (State.startFrame s a1 a2 a3 a4 a5 a6) := by
  unfold State.startFrame
  extract_lets x0 x1 x2 x3 x4 x5 x6
  have h4 : P x4 := (State.inc_kept (State.setStream_kept h _ _) _)
  have h5 : P x5 := (State.set_kept (State.set_kept (State.set_kept h4 _ _) _ _) _ _)
  have h6 : P x6 := (ite_kept (fun _ => (State.inc_kept h5 _)) (fun _ => (State.inc_kept h5 _)))
  exact (State.forL_kept _ _ (fun _ _ h7 => (State.set_kept (State.set_kept h7 _ _) _ _)) (State.setStreamState_kept h6 _ _))

theorem State.refuseFrame_kept [Keeps P] {s : State} (h : P s) (a1 : Nat) (a2 : Nat) (a3 : Nat) (a4 : Nat) :
    P (State.refuseFrame s a1 a2 a3 a4) := by
  unfold State.refuseFrame
  extract_lets x0 x1
  have h1 : P x1 := (State.forL_kept _ _ (fun _ _ h2 => (State.event_kept (State.hold_kept h2 _ _) _ _ _ _)) h)
  exact (State.pauseStream_kept h1 _ _)

theorem State.refusalReports_kept [Keeps P] {s : State} (h : P s) (a1 : Nat) (a2 : Nat) (a3 : Desc) :
    P (State.refusalReports s a1 a2 a3) := by
  unfold State.refusalReports
  exact ite_kept (fun _ => (State.inc_kept (State.log_kept h _ _ _ _) _)) (fun _ => (ite_kept (fun _ => (State.set_kept h _ _)) (fun _ => (ite_kept
      (fun _ => (State.uncorrMet_kept h)) (fun _ => h)))))

theorem State.rewind_kept [Keeps P] {s : State} (h : P s) (a1 : Nat) :
    P (State.rewind s a1) := by
  unfold State.rewind
  extract_lets x0
  exact (by split; (exact (State.setStream_kept h _ _)); (exact (State.setStream_kept h _ _)))

theorem State.underrunVector_kept [Keeps P] {s : State} (h : P s) (a1 : Nat) (a2 : Nat) :
    P (State.underrunVector s a1 a2) := by
  unfold State.underrunVector
  extract_lets x0
  exact (State.inc_kept (State.setStream_kept h _ _) _)

theorem State.underrunReports_kept [Keeps P] {s : State} (h : P s) (a1 : Nat) (a2 : Nat) :
    P (State.underrunReports s a1 a2) := by
  unfold State.underrunReports
  exact ite_kept (fun _ => h) (fun _ => (by extract_lets x0 x1 x3; have h0 : P x0 := (State.set_kept (State.set_kept h _ _) _ _); have h1 : P x1 := (State.forL_kept _ _ (fun _ _ h2 => (State.event_kept h2 _ _ _ _)) h0); exact (State.setStream_kept h1 _ _)))

theorem State.startAfter_kept [Keeps P] {s : State} (h : P s) (a1 : Nat) (a2 : Half) (a3 : Nat) (a4 : Nat) (a5 : Nat) (a6 : Bool) (a7 : Bool) :
    P (State.startAfter s a1 a2 a3 a4 a5 a6 a7) := by
  unfold State.startAfter
  extract_lets x0 x1 x2 x3 x4 x6 x7 x8
  have h4 : P x4 := (ite_kept (fun _ => (State.forL_kept _ _ (fun _ _ h5 => (State.inc_kept h5 _)) h)) (fun _ => h))
  have h7 : P x7 := (State.startFrame_kept (State.underrunReports_kept h4 _ _) _ _ _ _ _ _)
  exact (ite_kept (fun _ => (State.setStream_kept h7 _ _)) (fun _ => h7))

theorem State.boundaryMembers_kept [Keeps P] {s : State} (h : P s) (a1 : Nat) :
    P (State.boundaryMembers s a1) := by
  unfold State.boundaryMembers
  extract_lets x0 x2
  have h0 : P x0 := (State.forL_kept _ _ (fun _ _ h1 => (State.leaveStream_kept h1 _)) h)
  exact (State.forL_kept _ _ (fun _ _ h3 => (by extract_lets x4 x5 x6 x7; have h6 : P x6 := (State.setStream_kept h3 _ _); have h7 : P x7 := (State.set_kept h6 _ _); exact (ite_kept (fun _ => (State.set_kept (State.event_kept h7 _ _ _ _) _ _)) (fun _ => h7)))) h0)

theorem State.actHolds_kept [Keeps P] {s : State} (h : P s) (a1 : PendHold → Bool) :
    P (State.actHolds s a1) := by
  unfold State.actHolds
  extract_lets x0 x1 x2
  have h2 : P x2 := (kept_upd h)
  exact (State.forL_kept _ _ (fun _ _ h3 => (ite_kept (fun _ => (State.clearCauses_kept h3 _ _)) (fun _ => (ite_kept (fun _ => (State.hold_kept h3 _
      _)) (fun _ => h3))))) h2)

theorem State.clearMarks_kept [Keeps P] {s : State} (h : P s) (a1 : List Nat) :
    P (State.clearMarks s a1) := by
  unfold State.clearMarks
  exact kept_upd h

theorem State.nextFrame.next_kept [Keeps P] (a0 : Nat) (a1 : Nat) (a2 : Bool) {a3 : State} (h1003 : P a3) (a4 : Stream) (a5 : Nat) :
    P (State.nextFrame.next a0 a1 a2 a3 a4 a5) := by
  unfold State.nextFrame.next
  split
  · exact ite_kept (fun _ => State.endStream_kept h1003 _) (fun _ => State.underrunVector_kept (State.setStream_kept h1003 _ _) _ _)
  · dsimp only
    split
    · exact State.rewind_kept (State.refuseFrame_kept (State.refusalReports_kept (State.setStream_kept h1003 _ _) _ _ _) _ _ _ _) _
    · split
      · exact State.underrunVector_kept (State.setStream_kept h1003 _ _) _ _
      · exact State.startAfter_kept (State.setStream_kept h1003 _ _) _ _ _ _ _ _ _

theorem State.nextFrame_kept [Keeps P] {s : State} (h : P s) (a1 : Nat) (a2 : Nat) (a3 : Bool) :
    P (State.nextFrame s a1 a2 a3) := by
  unfold State.nextFrame
  extract_lets x0 x1 x2 x3
  exact (ite_kept (fun _ => (State.setStream_kept h _ _)) (fun _ => (ite_kept (fun _ => (State.setStream_kept h _ _)) (fun _ => (by split; (exact (ite_kept (fun _ => (by split; (exact (State.refuseFrame_kept (State.setStream_kept (State.refusalReports_kept h _ _ _) _ _) _ _ _ _)); (exact (State.startAfter_kept (State.setStream_kept h _ _) _ _ _ _ _ _ _)))) (fun _ => (State.nextFrame.next_kept _ _ _ h _ _)))); (exact (State.nextFrame.next_kept _ _ _ h _ _)))))))

theorem State.boundary_kept [Keeps P] {s : State} (h : P s) (a1 : Nat) :
    P (State.boundary s a1) := by
  unfold State.boundary
  extract_lets x0 x1 x2 x3 x4 x5 x7 x8 x9 x10 x11
  have h4 : P x4 := (State.calBoundary_kept (State.spareBoundary_kept (State.set_kept (State.boundaryCommits_kept h _ _ _) _ _) _) _)
  have h5 : P x5 := (State.forL_kept _ _ (fun _ _ h6 => (State.latchClear_kept h6 _)) h4)
  have h7 : P x7 := (State.actHolds_kept h5 _)
  have h8 : P x8 := (State.boundaryMembers_kept h7 _)
  have h11 : P x11 := (State.setStream_kept h8 _ _)
  exact (by split; (exact (State.stopViolated_kept h4 _ _)); (exact (ite_kept (fun _ => (ite_kept (fun _ => (State.endStream_kept h8 _)) (fun _ => (State.pauseStream_kept h11 _ _)))) (fun _ => (State.nextFrame_kept h8 _ _ _)))))

theorem State.resumeStream_kept [Keeps P] {s : State} (h : P s) (a1 : Nat) :
    P (State.resumeStream s a1) := by
  unfold State.resumeStream
  extract_lets x0 x1 x2 x3 x5 x7 x8
  have h3 : P x3 := (ite_kept (fun _ => (State.forL_kept _ _ (fun _ _ h4 => (State.setStream_kept h4 _ _)) h)) (fun _ => (State.boundaryMembers_kept h
      _)))
  have h5 : P x5 := (State.forL_kept _ _ (fun _ _ h6 => (State.set_kept h6 _ _)) h3)
  have h8 : P x8 := (State.setStream_kept h5 _ _)
  exact (ite_kept (fun _ => (ite_kept (fun _ => (State.endStream_kept h _)) (fun _ => h))) (fun _ => (ite_kept (fun _ => h) (fun _ =>
      (State.nextFrame_kept (State.setStreamState_kept h8 _ _) _ _ _)))))

theorem State.refreshPending_kept [Keeps P] {s : State} (h : P s) :
    P (State.refreshPending s) := by
  unfold State.refreshPending
  exact State.forN_kept _ _ (fun _ _ h0 => (State.set_kept h0 _ _)) h

theorem State.streamStart_kept [Keeps P] {s : State} (h : P s) (a1 : Nat) :
    P (State.streamStart s a1) := by
  unfold State.streamStart
  extract_lets x0 x1 x2 x3 x4 x5
  have h5 : P x5 := (State.clearMarks_kept (State.set_kept h _ _) _)
  exact (by split; (exact h); (exact (by split; (exact (State.rewind_kept (State.refuseFrame_kept (State.refusalReports_kept h _ _ _) _ _ _ _) _)); (exact (by split; (exact h); (exact (by extract_lets x6 x7 x9 x10; have h6 : P x6 := (State.setStream_kept h5 _ _); have h7 : P x7 := (State.forL_kept _ _ (fun _ _ h8 => (State.set_kept h8 _ _)) h6); have h9 : P x9 := (State.startFrame_kept (State.calBoundary_kept h7 _) _ _ _ _ _ _); have h10 : P x10 := (State.set_kept (State.set_kept h9 _ _) _ _); exact (by split; (exact (ite_kept (fun _ => (by extract_lets x11 x13; have h11 : P x11 := (State.forL_kept _ _ (fun _ _ h12 => (State.event_kept h12 _ _ _ _)) h10); exact (State.setStream_kept h11 _ _))) (fun _ => h9))); (exact h9)))))))))

theorem State.barrier_kept [Keeps P] {s : State} (h : P s) (a1 : Nat) :
    P (State.barrier s a1) := by
  unfold State.barrier
  refine ite_kept (fun _ => ?_) (fun _ => h)
  dsimp only
  split
  · exact h
  · exact State.setStreamState_kept (State.setStream_kept (State.forL_kept _ _ (fun _ _ ht => State.event_kept (State.hold_kept ht _ _) _ _ _ _) h) _
      _) _ _

theorem State.cloneStreams_kept [Keeps P] {s : State} (h : P s) :
    P (State.cloneStreams s) := by
  unfold State.cloneStreams
  exact State.forL_kept _ _ (fun _ _ h0 => (ite_kept (fun _ => (State.endStream_kept h0 _)) (fun _ => (State.barrier_kept h0 _)))) h

theorem State.tripLeave_kept [Keeps P] {s : State} (h : P s) :
    P (State.tripLeave s) := by
  unfold State.tripLeave
  exact State.forL_kept _ _ (fun _ _ h0 => (ite_kept (fun _ => (State.leaveStream_kept h0 _)) (fun _ => h0))) h

theorem State.follow_kept [Keeps P] {s : State} (h : P s) :
    P (State.follow s) := by
  unfold State.follow
  exact State.cloneStreams_kept (State.tripLeave_kept h)

/-! ### Clause -/

theorem State.openSlot_kept [Keeps P] {s : State} (h : P s) (a1 : Nat) (a2 : Option Nat) :
    P (State.openSlot s a1 a2) := by
  unfold State.openSlot
  extract_lets x0 x1
  have h1 : P x1 := (State.setSlot_kept (State.setReg_kept h _ _) _ _)
  exact (by split; (exact (State.setReg_kept h1 _ _)); (exact h1))

theorem State.stageTense_kept [Keeps P] {s : State} (h : P s) (a1 : Nat) (a2 : Action) :
    P (State.stageTense s a1 a2) := by
  unfold State.stageTense
  split
  · exact (by extract_lets x0 x1 x2; exact (State.tenseWrite_kept (State.setSlot_kept h _ _) _ _ _))
  · exact h

theorem State.stage_kept [Keeps P] {s : State} (h : P s) (a1 : Nat) (a2 : Action) :
    P (State.stage s a1 a2).1 := by
  unfold State.stage
  refine ite_fst_kept (fun _ => h) (fun _ => ?_)
  dsimp only
  split
  · exact State.set_kept (State.setSlot_kept h _ _) _ _
  · exact State.set_kept (State.setSlot_kept (State.stageTense_kept h _ _) _ _) _ _

theorem State.refuseRequest_kept [Keeps P] {s : State} (h : P s) (a1 : Nat) (a2 : Nat) (a3 : Nat) :
    P (State.refuseRequest s a1 a2 a3) := by
  unfold State.refuseRequest
  exact State.endClause_kept (State.set_kept h _ _) _ _

theorem State.beginPrepare_kept [Keeps P] {s : State} (h : P s) (a1 : Nat) :
    P (State.beginPrepare s a1) := by
  unfold State.beginPrepare
  exact State.set_kept h _ _

theorem State.splitReport_kept [Keeps P] {s : State} (h : P s) (a1 : Nat) (a2 : Nat) (a3 : Nat) (a4 : List Nat) :
    P (State.splitReport s a1 a2 a3 a4) := by
  unfold State.splitReport
  extract_lets x0 x1
  have h0 : P x0 := (State.inc_kept (State.set_kept (State.set_kept h _ _) _ _) _)
  have h1 : P x1 := (State.log_kept (State.alert_kept h0 _) _ _ _ _)
  exact (ite_kept (fun _ => (State.forL_kept _ _ (fun _ _ h2 => (ite_kept (fun _ => (State.hold_kept h2 _ _)) (fun _ => h2))) h1)) (fun _ => h1))

theorem State.watchSplit_kept [Keeps P] {s : State} (h : P s) (a1 : Watch) :
    P (State.watchSplit s a1) := by
  unfold State.watchSplit
  extract_lets x0 x1
  have h0 : P x0 := (ite_kept (fun _ => (State.set_kept h _ _)) (fun _ => h))
  have h1 : P x1 := (State.log_kept h0 _ _ _ _)
  exact (State.splitReport_kept h1 _ _ _ _)

theorem State.prepareComplete_kept [Keeps P] {s : State} (h : P s) (a1 : Nat) :
    P (State.prepareComplete s a1) := by
  unfold State.prepareComplete
  exact ite_kept (fun _ => h) (fun _ => (by extract_lets x0 x1 x2 x3 x4 x5 x6 x7 x8 x9; have h1 : P x1 := (ite_kept (fun _ => (kept_upd h)) (fun _ => h)); have h3 : P x3 := (State.setSlot_kept (State.set_kept h1 _ _) _ _); have h6 : P x6 := (State.set_kept h3 _ _); have h9 : P x9 := (State.endClause_kept h6 _ _); exact (by split; (exact (by extract_lets x10 x11; have h10 : P x10 := (State.endClause_kept h3 _ _); have h11 : P x11 := (kept_upd h10); exact (ite_kept (fun _ => h10) (fun _ => (ite_kept (fun _ => (State.watchSplit_kept h11 _)) (fun _ => h11)))))); (exact (ite_kept (fun _ => (State.tellOwner_kept (State.setSlot_kept (State.set_kept h6 _ _) _ _) _ _)) (fun _ => (by split; (exact h6); (exact (State.tellOwner_kept h6 _ _)); (exact (kept_upd h9)))))))))

theorem State.decideSlot_kept [Keeps P] {s : State} (h : P s) (a1 : Nat) (a2 : Bool) :
    P (State.decideSlot s a1 a2) := by
  unfold State.decideSlot
  extract_lets x0 x1 x2 x3
  have h1 : P x1 := (State.set_kept (State.setSlot_kept h _ _) _ _)
  have h3 : P x3 := (State.endClause_kept h1 _ _)
  exact (by split; (exact (ite_kept (fun _ => h) (fun _ => (State.splitReport_kept (State.setSlot_kept h _ _) _ _ _ _)))); (exact (ite_kept (fun _ => h1) (fun _ => (ite_kept (fun _ => (State.tellOwner_kept h1 _ _)) (fun _ => (kept_upd h3)))))))

theorem State.decideWatch_kept [Keeps P] {s : State} (h : P s) (a1 : Watch) (a2 : Bool) :
    P (State.decideWatch s a1 a2) := by
  unfold State.decideWatch
  extract_lets put
  have hp : ∀ w' t, P t → P (put w' t) := fun w' t ht => kept_upd ht
  split
  · exact ite_kept (fun _ => h) (fun _ => State.watchSplit_kept (hp _ _ h) _)
  · exact ite_kept (fun _ => State.watchSplit_kept (hp _ _ h) _) (fun _ => hp _ _ h)

theorem State.decision_kept [Keeps P] {s : State} (h : P s) (a1 : Bool) (a2 : Nat) (a3 : Nat) :
    P (State.decision s a1 a2 a3) := by
  unfold State.decision
  extract_lets x0 x1
  exact (State.forL_kept _ _ (fun _ _ h2 => (State.decideWatch_kept h2 _ _)) (State.forL_kept _ _ (fun _ _ h3 => (State.decideSlot_kept h3 _ _)) h))

theorem State.deadline_kept [Keeps P] {s : State} (h : P s) (a1 : Nat) :
    P (State.deadline s a1) := by
  unfold State.deadline
  extract_lets x0
  exact (ite_kept (fun _ => (State.splitReport_kept (State.endClause_kept h _ _) _ _ _ _)) (fun _ => h))

theorem State.shadowAction_kept [Keeps P] {s : State} (h : P s) (a1 : Action) :
    P (State.shadowAction s a1) := by
  unfold State.shadowAction
  extract_lets x0
  exact (State.setShadow_kept h _ _)

theorem State.commitSlot_kept [Keeps P] {s : State} (h : P s) (a1 : Nat) :
    P (State.commitSlot s a1) := by
  unfold State.commitSlot
  extract_lets x0 x1 x2 x3 x4 x5
  have h4 : P x4 := (State.applyActions_kept h _)
  have h5 : P x5 := (State.forL_kept _ _ (fun _ _ h6 => (State.shadowAction_kept h6 _)) (kept_upd h4))
  exact (State.endClause_kept (State.setSlot_kept h5 _ _) _ _)

theorem State.settle_kept [Keeps P] {s : State} (h : P s) :
    P (State.settle s) := by
  unfold State.settle
  exact State.refreshPending_kept (State.refreshLeases_kept h)

theorem State.fullStops_kept [Keeps P] {s : State} (h : P s) :
    P (State.fullStops s) := by
  unfold State.fullStops
  extract_lets x0 x1
  have h1 : P x1 := (State.forL_kept _ _ (fun _ _ h2 => (State.commitSlot_kept h2 _)) h)
  exact (State.settle_kept (kept_upd h1))

theorem State.vetoEnd_kept [Keeps P] {s : State} (h : P s) (a1 : Nat) :
    P (State.vetoEnd s a1) := by
  unfold State.vetoEnd
  exact kept_upd h

theorem State.clReject_kept [Keeps P] {s : State} (h : P s) (a1 : Port) (a2 : Nat) (a3 : Nat) (a4 : Nat) :
    P (State.clReject s a1 a2 a3 a4) := by
  unfold State.clReject
  exact State.reject_kept h _ _ _ _ _

theorem State.hostCommit_kept [Keeps P] {s : State} (h : P s) (a1 : Port) (a2 : Nat) :
    P (State.hostCommit s a1 a2) := by
  unfold State.hostCommit
  exact ite_kept (fun _ => (State.clReject_kept h _ _ _ _)) (fun _ => (by split; (exact (State.refuseRequest_kept h _ _ _)); (exact (State.clReject_kept h _ _ _ _)); (exact (State.beginPrepare_kept h _))))

theorem State.hostFree_kept [Keeps P] {s : State} (h : P s) (a1 : Port) (a2 : Nat) :
    P (State.hostFree s a1 a2) := by
  unfold State.hostFree
  exact ite_kept (fun _ => (State.clReject_kept h _ _ _ _)) (fun _ => (by extract_lets x0; have h0 : P x0 := (State.freeSlot_kept h _); exact (kept_upd h0)))

theorem State.clSetWrite_kept [Keeps P] {s : State} (h : P s) (a1 : Port) (a2 : Nat) (a3 : Word) :
    P (State.clSetWrite s a1 a2 a3) := by
  unfold State.clSetWrite
  exact ite_kept (fun _ => (State.clReject_kept h _ _ _ _)) (fun _ => (State.setReg_kept h _ _))

theorem State.clAddrWrite_kept [Keeps P] {s : State} (h : P s) (a1 : Port) (a2 : Nat) (a3 : Word) :
    P (State.clAddrWrite s a1 a2 a3) := by
  unfold State.clAddrWrite
  exact ite_kept (fun _ => (State.clReject_kept h _ _ _ _)) (fun _ => (by extract_lets x0; have h0 : P x0.1 := (State.stage_kept h _ _); exact (ite_kept (fun _ => (State.clReject_kept h0 _ _ _ _)) (fun _ => h0))))

theorem State.dropPend_kept [Keeps P] {s : State} (h : P s) (a1 : PendAct) :
    P (State.dropPend s a1) := by
  unfold State.dropPend
  split
  · exact (by extract_lets x0 x1; exact (State.setItem_kept h _ _ _ _ _))
  · exact (State.setShadow_kept h _ _)

theorem State.loseClauses_kept [Keeps P] {s : State} (h : P s) :
    P (State.loseClauses s) := by
  unfold State.loseClauses
  extract_lets x0 x1 x3 x5 x7
  have h1 : P x1 := (State.forL_kept _ _ (fun _ _ h2 => (State.endClause_kept h2 _ _)) h)
  have h3 : P x3 := (State.forN_kept _ _ (fun _ _ h4 => (ite_kept (fun _ => (State.setOpen_kept h4 _ _ _)) (fun _ => h4))) h1)
  have h5 : P x5 := (State.forL_kept _ _ (fun _ _ h6 => (State.dropPend_kept h6 _)) h3)
  have h7 : P x7 := (kept_upd h5)
  exact (State.refreshPending_kept h7)

/-! ### Clauses -/

theorem State.clHost_kept [Keeps P] {s : State} (h : P s) (a1 : Port) (a2 : Nat) (a3 : Nat) (a4 : State → State) (h1004 : ∀ t, P t → P (a4 t)) :
    P (State.clHost s a1 a2 a3 a4) := by
  unfold State.clHost
  exact State.host_kept h _ _ _ _ _ (fun _ h0 => (h1004 _ h0))

theorem State.hostOpen_kept [Keeps P] {s : State} (h : P s) (a1 : Port) (a2 : Nat) :
    P (State.hostOpen s a1 a2) := by
  unfold State.hostOpen
  exact ite_kept (fun _ => (State.openSlot_kept h _ _)) (fun _ => (State.clReject_kept h _ _ _ _))

theorem execClCmdOpen_kept [Keeps P] (a0 : Port) (a1 : Fin 16) {a2 : State} (h1002 : P a2) :
    Out.All P (execClCmdOpen a0 a1 a2) := by
  unfold execClCmdOpen
  exact keptOut_of (State.clHost_kept h1002 _ _ _ _ (fun _ h0 => (State.hostOpen_kept h0 _ _)))

theorem execClCmdCommit_kept [Keeps P] (a0 : Port) (a1 : Fin 16) {a2 : State} (h1002 : P a2) :
    Out.All P (execClCmdCommit a0 a1 a2) := by
  unfold execClCmdCommit
  exact keptOut_of (State.clHost_kept h1002 _ _ _ _ (fun _ h0 => (State.hostCommit_kept h0 _ _)))

theorem State.hostDiscard_kept [Keeps P] {s : State} (h : P s) (a1 : Port) (a2 : Nat) :
    P (State.hostDiscard s a1 a2) := by
  unfold State.hostDiscard
  exact ite_kept (fun _ => (State.endClause_kept h _ _)) (fun _ => (State.clReject_kept h _ _ _ _))

theorem execClCmdDiscard_kept [Keeps P] (a0 : Port) (a1 : Fin 16) {a2 : State} (h1002 : P a2) :
    Out.All P (execClCmdDiscard a0 a1 a2) := by
  unfold execClCmdDiscard
  exact keptOut_of (State.clHost_kept h1002 _ _ _ _ (fun _ h0 => (State.hostDiscard_kept h0 _ _)))

theorem execClCmdFree_kept [Keeps P] (a0 : Port) (a1 : Fin 16) {a2 : State} (h1002 : P a2) :
    Out.All P (execClCmdFree a0 a1 a2) := by
  unfold execClCmdFree
  exact keptOut_of (State.clHost_kept h1002 _ _ _ _ (fun _ h0 => (State.hostFree_kept h0 _ _)))

theorem execClSetWrite_kept [Keeps P] (a0 : Port) (a1 : Fin 16) (a2 : Word) {a3 : State} (h1003 : P a3) :
    Out.All P (execClSetWrite a0 a1 a2 a3) := by
  unfold execClSetWrite
  exact keptOut_of (State.clHost_kept h1003 _ _ _ _ (fun _ h0 => (State.clSetWrite_kept h0 _ _ _)))

theorem execClAddrWrite_kept [Keeps P] (a0 : Port) (a1 : Fin 16) (a2 : Word) {a3 : State} (h1003 : P a3) :
    Out.All P (execClAddrWrite a0 a1 a2 a3) := by
  unfold execClAddrWrite
  exact keptOut_of (State.clHost_kept h1003 _ _ _ _ (fun _ h0 => (State.clAddrWrite_kept h0 _ _ _)))

theorem execPrepareComplete_kept [Keeps P] (a0 : Fin 16) {a1 : State} (h1001 : P a1) :
    Out.All P (execPrepareComplete a0 a1) := by
  unfold execPrepareComplete
  exact keptOut_of (ite_kept (fun _ => (State.follow_kept (State.prepareComplete_kept h1001 _))) (fun _ => h1001))

theorem execFullStop_kept [Keeps P] {s : State} (h : P s) :
    Out.All P (execFullStop s) := by
  unfold execFullStop
  exact keptOut_of (State.follow_kept (State.fullStops_kept h))

theorem execDecisionDeadline_kept [Keeps P] (a0 : Fin 16) {a1 : State} (h1001 : P a1) :
    Out.All P (execDecisionDeadline a0 a1) := by
  unfold execDecisionDeadline
  exact keptOut_of (State.follow_kept (State.deadline_kept h1001 _))

theorem execVetoEnd_kept [Keeps P] (a0 : Fin 16) {a1 : State} (h1001 : P a1) :
    Out.All P (execVetoEnd a0 a1) := by
  unfold execVetoEnd
  exact keptOut_of (State.vetoEnd_kept h1001 _)

/-! ### Guards -/

theorem execGuardTrip_kept [Keeps P] (a0 : Bool) (a1 : Fin 1024) (a2 : Fin 6) (a3 : BitVec 16) {a4 : State} (h1004 : P a4) :
    Out.All P (execGuardTrip a0 a1 a2 a3 a4) := by
  unfold execGuardTrip
  exact keptOut_of (State.follow_kept (ite_kept (fun _ => (ite_kept (fun _ => (State.dpsGuardTrip_kept h1004 _ _ _)) (fun _ => h1004))) (fun _ =>
      (State.guardTrip_kept h1004 _ _ _))))

theorem execBlankEnd_kept [Keeps P] (a0 : Bool) (a1 : Fin 1024) (a2 : Fin 6) {a3 : State} (h1003 : P a3) :
    Out.All P (execBlankEnd a0 a1 a2 a3) := by
  unfold execBlankEnd
  exact keptOut_of (ite_kept (fun _ => h1003) (fun _ => (State.follow_kept (State.blankEnd_kept h1003 _ _))))

theorem execFilterSample_kept [Keeps P] (a0 : Bool) (a1 : Fin 1024) (a2 : BitVec 8) {a3 : State} (h1003 : P a3) :
    Out.All P (execFilterSample a0 a1 a2 a3) := by
  unfold execFilterSample
  exact keptOut_of (State.follow_kept (ite_kept (fun _ => (ite_kept (fun _ => (State.dpsFilterSample_kept h1003 _ _)) (fun _ => h1003))) (fun _ =>
      (State.filterSample_kept h1003 _ _))))

theorem State.gdHost_kept [Keeps P] {s : State} (h : P s) (a1 : Port) (a2 : Nat) (a3 : State → State) (h1003 : ∀ t, P t → P (a3 t)) :
    Out.All P (State.gdHost s a1 a2 a3) := by
  unfold State.gdHost
  exact keptOut_of (State.follow_kept (State.host_kept h _ _ _ _ _ (fun _ h0 => (h1003 _ h0))))

theorem execClearCh_kept [Keeps P] (a0 : Port) (a1 : Fin 1024) {a2 : State} (h1002 : P a2) :
    Out.All P (execClearCh a0 a1 a2) := by
  unfold execClearCh
  exact State.gdHost_kept h1002 _ _ _ (fun _ h0 => (State.clearCmd_kept h0 _ _ _ _))

theorem execClearDps_kept [Keeps P] (a0 : Port) (a1 : Fin 64) {a2 : State} (h1002 : P a2) :
    Out.All P (execClearDps a0 a1 a2) := by
  unfold execClearDps
  exact State.gdHost_kept h1002 _ _ _ (fun _ h0 => (State.clearCmd_kept h0 _ _ _ _))

theorem execClearSite_kept [Keeps P] (a0 : Port) (a1 : Fin 64) {a2 : State} (h1002 : P a2) :
    Out.All P (execClearSite a0 a1 a2) := by
  unfold execClearSite
  exact State.gdHost_kept h1002 _ _ _ (fun _ h0 => (State.clearCmd_kept h0 _ _ _ _))

theorem execClearAll_kept [Keeps P] (a0 : Port) {a1 : State} (h1001 : P a1) :
    Out.All P (execClearAll a0 a1) := by
  unfold execClearAll
  exact State.gdHost_kept h1001 _ _ _ (fun _ h0 => (State.clearWhatCan_kept h0 _ _))

theorem State.selfcheck_kept [Keeps P] {s : State} (h : P s) (a1 : Port) (a2 : Nat) :
    P (State.selfcheck s a1 a2) := by
  unfold State.selfcheck
  exact ite_kept (fun _ => (State.set_kept (State.setGd_kept h _ _) _ _)) (fun _ => (State.reject_kept h _ _ _ _ _))

theorem execSelfcheck_kept [Keeps P] (a0 : Port) (a1 : Fin 1024) {a2 : State} (h1002 : P a2) :
    Out.All P (execSelfcheck a0 a1 a2) := by
  unfold execSelfcheck
  exact State.gdHost_kept h1002 _ _ _ (fun _ h0 => (State.selfcheck_kept h0 _ _))

theorem execSelfcheckDone_kept [Keeps P] (a0 : Fin 1024) (a1 : BitVec 8) {a2 : State} (h1002 : P a2) :
    Out.All P (execSelfcheckDone a0 a1 a2) := by
  unfold execSelfcheckDone
  exact keptOut_of (State.follow_kept (State.selfcheckDone_kept h1002 _ _))

theorem State.contactRun_kept [Keeps P] {s : State} (h : P s) (a1 : Port) :
    P (State.contactRun s a1) := by
  unfold State.contactRun
  exact ite_kept (fun _ => (State.contactStart_kept h)) (fun _ => (State.reject_kept h _ _ _ _ _))

theorem execContactRun_kept [Keeps P] (a0 : Port) {a1 : State} (h1001 : P a1) :
    Out.All P (execContactRun a0 a1) := by
  unfold execContactRun
  exact State.gdHost_kept h1001 _ _ _ (fun _ h0 => (State.contactRun_kept h0 _))

theorem execContactCheckDone_kept [Keeps P] (a0 : List ContactObs) {a1 : State} (h1001 : P a1) :
    Out.All P (execContactCheckDone a0 a1) := by
  unfold execContactCheckDone
  exact keptOut_of (State.follow_kept (State.contactDone_kept h1001 _))

end Sys2Proof.Machine
end

