-- ==== Sys2Proof/Laws/KeepsSeq.lean ====
section
/-! SUPPORT. What the primitive operations keep, every operation of one group keeps: modules, sensors, the ledger, the control store and the sequencers. One lemma an operation, each
assembled from those of the operations it calls. -/

namespace Sys2Proof.Machine

variable {P : State → Prop}

/-! ### Modules -/

theorem State.clearLimits_kept [Keeps P] {s : State} (h : P s) :
    P (State.clearLimits s) := by
  unfold State.clearLimits
  extract_lets x0 x2 x4 x6
  have h0 : P x0 := (State.forN_kept _ _ (fun _ _ h1 => (State.setReg_kept h1 _ _)) h)
  have h2 : P x2 := (State.forN_kept _ _ (fun _ _ h3 => (State.setReg_kept h3 _ _)) h0)
  have h4 : P x4 := (State.forN_kept _ _ (fun _ _ h5 => (State.set_kept (State.set_kept h5 _ _) _ _)) h2)
  have h6 : P x6 := (State.set_kept (State.setReg_kept h4 _ _) _ _)
  exact (kept_upd h6)

theorem State.discover_kept [Keeps P] {s : State} (h : P s) :
    P (State.discover s) := by
  unfold State.discover
  extract_lets x0
  have h0 : P x0 := (State.forN_kept _ _ (fun _ _ h1 => (State.setReg_kept h1 _ _)) (State.set_kept (State.clearLimits_kept h) _ _))
  exact (kept_upd h0)

theorem State.mpDone_kept [Keeps P] {s : State} (h : P s) (a1 : Fld) :
    P (State.mpDone s a1) := by
  unfold State.mpDone
  exact ite_kept (fun _ => h) (fun _ => (State.intr_kept (State.set_kept h _ _) _))

theorem State.discEnd_kept [Keeps P] {s : State} (h : P s) (a1 : Nat) :
    P (State.discEnd s a1) := by
  unfold State.discEnd
  extract_lets x0
  have h0 : P x0 := (State.inc_kept (State.set_kept (State.set_kept (State.set_kept h _ _) _ _) _ _) _)
  exact (State.mpDone_kept (kept_upd h0) _)

theorem State.discAbort_kept [Keeps P] {s : State} (h : P s) :
    P (State.discAbort s) := by
  unfold State.discAbort
  split
  · exact (State.discEnd_kept (State.set_kept h _ _) _)
  · exact h

theorem State.showMod_kept [Keeps P] {s : State} (h : P s) (a1 : Nat) (a2 : Nat) (a3 : Nat) (a4 : Bool) (a5 : Img) :
    P (State.showMod s a1 a2 a3 a4 a5) := by
  unfold State.showMod
  exact State.setReg_kept h _ _

theorem State.orient_kept [Keeps P] {s : State} (h : P s) (a1 : Nat) (a2 : List Nat) (a3 : List (Nat × List Byte)) (a4 : List Byte) (a5 : List Byte) :
    P (State.orient s a1 a2 a3 a4 a5) := by
  unfold State.orient
  extract_lets fin present
  have hfin : ∀ t, P t → P (fin t) := fun t ht => kept_upd ht
  have hpres : ∀ t rev b, P t → P (present t rev b) := fun t rev b ht =>
    ite_kept (fun _ => kept_upd (State.showMod_kept ht _ _ _ _ _)) (fun _ => hfin _ (State.showMod_kept ht _ _ _ _ _))
  refine ite_kept (fun _ => hpres _ _ _ h) (fun _ => ite_kept (fun _ => hpres _ _ _ ?_) (fun _ => ite_kept (fun _ => hfin _ ?_) (fun _ => hfin _ ?_)))
  · exact State.log_kept (State.inc_kept h _) _ _ _ _
  · exact State.set_kept h _ _
  · exact State.set_kept (State.set_kept h _ _) _ _

theorem State.body_kept [Keeps P] {s : State} (h : P s) (a1 : Nat) (a2 : List Nat) (a3 : List (Nat × List Byte)) (a4 : Bool) (a5 : List Byte) :
    P (State.body s a1 a2 a3 a4 a5) := by
  unfold State.body
  extract_lets x0 x1 x2
  have h2 : P x2 := (State.showMod_kept h _ _ _ _ _)
  exact (kept_upd h2)

theorem State.coldRead_kept [Keeps P] {s : State} (h : P s) (a1 : List Byte) :
    P (State.coldRead s a1) := by
  unfold State.coldRead
  extract_lets x0 x3
  have h0 : P x0 := (State.forL_kept _ _ (fun _ _ h1 => (by split; exact (by extract_lets x2; exact (State.setS_kept (State.set_kept (State.set_kept (State.set_kept h1 _ _) _ _) _ _) _ _)))) h)
  have h3 : P x3 := (State.set_kept h0 _ _)
  exact (kept_upd h3)

theorem State.frameDone_kept [Keeps P] {a0 : State} (h1000 : P a0) (a1 : List Byte) :
    P (State.frameDone a0 a1) := by
  unfold State.frameDone
  extract_lets s
  have hs : P s := State.inc_kept h1000 _
  clear_value s
  generalize a0.mpOp = o
  rcases o with _ | w | ⟨todo, head, mods⟩ | _
  · exact h1000
  · exact State.mpDone_kept (kept_upd (State.set_kept (ite_kept (fun _ => hs) (fun _ => State.forL_kept _ _ (fun _ _ ht => State.set_kept ht _ _) hs))
      _ _)) _
  · rcases todo with _ | ⟨k, todo⟩
    · exact h1000
    · rcases head with _ | ⟨h, rev⟩
      · exact State.orient_kept hs _ _ _ _ _
      · exact State.body_kept hs _ _ _ _ _
  · exact State.coldRead_kept hs _

theorem State.buildLimits_kept [Keeps P] {s : State} (h : P s) (a1 : List (Nat × List Byte)) :
    P (State.buildLimits s a1) := by
  unfold State.buildLimits
  split
  · exact h
  · exact (by extract_lets x0 x1 x2 x3 x8 x9 x15 x16; have h3 : P x3 := (State.forL_kept _ _ (fun _ _ h4 => (by extract_lets x5 x6 x7; exact (by split; (exact h4); (exact (State.set_kept (State.set_kept (State.setReg_kept h4 _ _) _ _) _ _))))) h); have h9 : P x9 := (State.forL_kept _ _ (fun _ _ h10 => (by extract_lets x11 x12 x13 x14; exact (State.setReg_kept h10 _ _))) h3); have h16 : P x16 := (State.setReg_kept h9 _ _); exact (kept_upd h16))

theorem State.discDone_kept [Keeps P] {s : State} (h : P s) :
    P (State.discDone s) := by
  unfold State.discDone
  split
  · exact (by extract_lets x0 x2 x3 x4 x5 x6 x7 x8; have h0 : P x0 := (State.forL_kept _ _ (fun _ _ h1 => (State.set_kept (State.set_kept h1 _ _) _ _)) h); have h6 : P x6 := (ite_kept (fun _ => (State.set_kept (State.buildLimits_kept h0 _) _ _)) (fun _ => h0)); have h7 : P x7 := (by unfold x7; split; (exact (kept_upd h6)); (exact h6)); have h8 : P x8 := (State.forL_kept _ _ (fun _ _ h9 => (State.log_kept (State.inc_kept h9 _) _ _ _ _)) h7); exact (State.discEnd_kept h8 _))
  · exact h

theorem State.mpReject_kept [Keeps P] {s : State} (h : P s) (a1 : Port) :
    P (State.mpReject s a1) := by
  unfold State.mpReject
  exact State.reject_kept h _ _ _ _ _

theorem State.mpXfer_kept [Keeps P] {s : State} (h : P s) (a1 : Port) (a2 : Word) :
    P (State.mpXfer s a1 a2) := by
  unfold State.mpXfer
  exact ite_kept (fun _ => (State.mpReject_kept h _)) (fun _ => (by extract_lets x0; have h0 : P x0 := (State.set_kept h _ _); exact (kept_upd h0)))

theorem State.mpDiscover_kept [Keeps P] {s : State} (h : P s) (a1 : Port) :
    P (State.mpDiscover s a1) := by
  unfold State.mpDiscover
  exact ite_kept (fun _ => (State.mpReject_kept h _)) (fun _ => (State.discover_kept h))

theorem State.mpAbort_kept [Keeps P] {s : State} (h : P s) :
    P (State.mpAbort s) := by
  unfold State.mpAbort
  split
  · exact (by extract_lets x0; have h0 : P x0 := (State.set_kept h _ _); exact (kept_upd h0))
  · exact (State.discAbort_kept h)

theorem execMpXferXfer_kept [Keeps P] (a0 : Port) (a1 : Word) {a2 : State} (h1002 : P a2) :
    Out.All P (execMpXferXfer a0 a1 a2) := by
  unfold execMpXferXfer
  exact keptOut_of (State.host_kept h1002 _ _ _ _ _ (fun _ h0 => (State.mpXfer_kept h0 _ _)))

theorem execMpXferDiscover_kept [Keeps P] (a0 : Port) {a1 : State} (h1001 : P a1) :
    Out.All P (execMpXferDiscover a0 a1) := by
  unfold execMpXferDiscover
  exact keptOut_of (State.host_kept h1001 _ _ _ _ _ (fun _ h0 => (State.mpDiscover_kept h0 _)))

theorem execMpXferAbort_kept [Keeps P] (a0 : Port) {a1 : State} (h1001 : P a1) :
    Out.All P (execMpXferAbort a0 a1) := by
  unfold execMpXferAbort
  exact keptOut_of (State.host_kept h1001 _ _ _ _ _ (fun _ h0 => (State.mpAbort_kept h0)))

theorem execMpFrameDone_kept [Keeps P] (a0 : List Byte) {a1 : State} (h1001 : P a1) :
    Out.All P (execMpFrameDone a0 a1) := by
  unfold execMpFrameDone
  exact keptOut_of (State.frameDone_kept h1001 _)

theorem execDiscoveryDone_kept [Keeps P] {s : State} (h : P s) :
    Out.All P (execDiscoveryDone s) := by
  unfold execDiscoveryDone
  exact keptOut_of (State.discDone_kept h)

/-! ### Sensors -/

theorem State.setSen_kept [Keeps P] {s : State} (h : P s) (a1 : Nat) (a2 : HkSen) :
    P (State.setSen s a1 a2) := by
  unfold State.setSen
  exact kept_upd h

theorem State.senTake_kept [Keeps P] {s : State} (h : P s) (a1 : Nat → Option Int) (a2 : Int × Nat) (a3 : Nat) (a4 : Nat) (a5 : Nat) :
    P (State.senTake s a1 a2 a3 a4 a5) := by
  unfold State.senTake
  extract_lets x0 x1 x2
  have h2 : P x2 := (by unfold x2; split; (exact (State.setS_kept h _ _)); (exact h))
  exact (by split; (exact (State.setSen_kept h2 _ _)); (exact (ite_kept (fun _ => (by extract_lets x3 x4; have h3 : P x3 := (State.setS_kept (State.set_kept (State.set_kept h2 _ _) _ _) _ _); have h4 : P x4 := (State.setSen_kept (State.set_kept h3 _ _) _ _); exact (State.alert_kept (State.inc_kept (State.set_kept (State.log_kept h4 _ _ _ _) _ _) _) _))) (fun _ => (State.setSen_kept h2 _ _)))))

theorem State.rateTake_kept [Keeps P] {s : State} (h : P s) (a1 : Nat) :
    P (State.rateTake s a1).1 := by
  unfold State.rateTake
  extract_lets x0
  exact (by split; (exact (fst_kept (State.setSen_kept (State.set_kept h _ _) _ _))); (exact (by extract_lets x1 x2 x3; have h3 : P x3 := (ite_kept (fun _ => (State.setS_kept h _ _)) (fun _ => (State.bumpFree_kept (State.set_kept h _ _)))); exact (fst_kept (State.setSen_kept h3 _ _)))))

theorem State.throttleTake_kept [Keeps P] {s : State} (h : P s) (a1 : Bool) :
    P (State.throttleTake s a1) := by
  unfold State.throttleTake
  extract_lets x0 x1 x2 x3 x4 x5 x6 x7
  have h3 : P x3 := (State.log_kept (State.inc_kept (State.set_kept (State.set_kept h _ _) _ _) _) _ _ _ _)
  exact (ite_kept (fun _ => (ite_kept (fun _ => (State.alert_kept (kept_upd h3) _)) (fun _ => h))) (fun _ => (ite_kept (fun _ => (State.log_kept
      (State.set_kept (kept_upd h) _ _) _ _ _ _)) (fun _ => (kept_upd h)))))

theorem State.monTake_kept [Keeps P] {s : State} (h : P s) (a1 : Nat) (a2 : Int) :
    P (State.monTake s a1 a2).1 := by
  unfold State.monTake
  extract_lets x0 x1 x2 x3
  have h2 : P x2 := (State.set_kept (State.setS_kept h _ _) _ _)
  have h3 : P x3 := (ite_kept (fun _ => (State.alert_kept (State.log_kept (State.set_kept (State.set_kept h2 _ _) _ _) _ _ _ _) _)) (fun _ => h2))
  exact (fst_kept h3)

theorem State.quadTemp_kept [Keeps P] {s : State} (h : P s) (a1 : Nat) :
    P (State.quadTemp s a1) := by
  unfold State.quadTemp
  extract_lets x0 x1 x2 x3
  have h2 : P x2 := (ite_kept (fun _ => h) (fun _ => (State.setS_kept h _ _)))
  have h3 : P x3 := (State.set_kept h2 _ _)
  exact (ite_kept (fun _ => (State.calTrigger_kept h3 _ _)) (fun _ => h3))

theorem State.tempsTake_kept [Keeps P] {s : State} (h : P s) (a1 : Nat) (a2 : Nat) (a3 : Nat → Option Int) :
    P (State.tempsTake s a1 a2 a3) := by
  unfold State.tempsTake
  extract_lets s1 s2 s3 s4
  have h1 : P s1 := State.forN_kept _ _ (fun _ _ ht => State.senTake_kept ht _ _ _ _ _) h
  have h2 : P s2 := State.forN_kept _ _ (fun _ _ ht => ite_kept (fun _ => State.setS_kept ht _ _) (fun _ => ht)) h1
  have h3 : P s3 := State.set_kept h2 _ _
  have h4 : P s4 := by unfold s4; split; exacts [State.setS_kept (State.set_kept h3 _ _) _ _, h3]
  have h5 := foldl_fst_kept (P := P) (List.range 28) (fun (a : State × Bool) i => let r := a.1.rateTake i; (r.1, a.2 || r.2))
    (fun _ _ hp => State.rateTake_kept hp _) (p := (s4, false)) h4
  split
  next s5 hi he =>
    rw [he] at h5
    have h6 := State.throttleTake_kept (State.set_kept h5 Reg.HK_STAT.RATE_HI (b2n hi)) hi
    exact ite_kept (fun _ => h6) (fun _ => kept_upd h6)

theorem State.monsTake_kept [Keeps P] {s : State} (h : P s) (a1 : List Int) :
    P (State.monsTake s a1) := by
  unfold State.monsTake
  have h1 := foldl_fst_kept (P := P) (a1.take 36).zipIdx (fun (a : State × Nat) p => let r := a.1.monTake p.2 p.1; (r.1, a.2 + b2n r.2 * 2 ^ p.2))
    (fun _ _ hp => State.monTake_kept hp _ _) (p := (s, 0)) h
  exact kept_upd h1

theorem State.hkReadings_kept [Keeps P] {s : State} (h : P s) :
    P (State.hkReadings s) := by
  unfold State.hkReadings
  split
  · exact (ite_kept (fun _ => h) (fun _ => (by extract_lets x0 x1 x2; have h1 : P x1 := (kept_upd h); have h2 : P x2 := (State.monsTake_kept (State.tempsTake_kept h1 _ _ _) _); exact (State.inc_kept (State.forN_kept _ _ (fun _ _ h3 => (State.quadTemp_kept h3 _)) h2) _))))
  · exact h

theorem State.hkRound_kept [Keeps P] {s : State} (h : P s) (a1 : List (Option Int)) (a2 : List Int) :
    P (State.hkRound s a1 a2) := by
  unfold State.hkRound
  exact ite_kept (fun _ => h) (fun _ => (kept_upd h))

theorem execHousekeepingRound_kept [Keeps P] (a0 : List (Option Int)) (a1 : List Int) {a2 : State} (h1002 : P a2) :
    Out.All P (execHousekeepingRound a0 a1 a2) := by
  unfold execHousekeepingRound
  exact keptOut_of (State.hkRound_kept h1002 _ _)

theorem State.hkRetire_kept [Keeps P] {s : State} (h : P s) (a1 : Port) (a2 : Nat) :
    P (State.hkRetire s a1 a2) := by
  unfold State.hkRetire
  exact ite_kept (fun _ => (State.log_kept (State.set_kept h _ _) _ _ _ _)) (fun _ => (State.reject_kept h _ _ _ _ _))

theorem State.hkRestore_kept [Keeps P] {s : State} (h : P s) (a1 : Port) (a2 : Nat) :
    P (State.hkRestore s a1 a2) := by
  unfold State.hkRestore
  exact ite_kept (fun _ => (State.log_kept (State.set_kept h _ _) _ _ _ _)) (fun _ => (State.reject_kept h _ _ _ _ _))

theorem execHkCmdRetire_kept [Keeps P] (a0 : Port) (a1 : BitVec 5) {a2 : State} (h1002 : P a2) :
    Out.All P (execHkCmdRetire a0 a1 a2) := by
  unfold execHkCmdRetire
  exact keptOut_of (State.host_kept h1002 _ _ _ _ _ (fun _ h0 => (State.hkRetire_kept h0 _ _)))

theorem execHkCmdRestore_kept [Keeps P] (a0 : Port) (a1 : BitVec 5) {a2 : State} (h1002 : P a2) :
    Out.All P (execHkCmdRestore a0 a1 a2) := by
  unfold execHkCmdRestore
  exact keptOut_of (State.host_kept h1002 _ _ _ _ _ (fun _ h0 => (State.hkRestore_kept h0 _ _)))

/-! ### Ledger -/

theorem State.nearRise_kept [Keeps P] {s : State} (h : P s) {a1 : State} (_h1001 : P a1) :
    P (State.nearRise s a1) := by
  unfold State.nearRise
  exact ite_kept (fun _ => (State.alert_kept h _)) (fun _ => h)

theorem State.putRecord_kept [Keeps P] {s : State} (h : P s) (a1 : Word) :
    P (State.putRecord s a1) := by
  unfold State.putRecord
  extract_lets x0 x1 x2
  have h1 : P x1 := (State.setReg_kept h _ _)
  have h2 : P x2 := (kept_upd h1)
  exact (State.nearRise_kept (State.inc_kept (State.set_kept h2 _ _) _) h)

theorem State.dropRecord_kept [Keeps P] {s : State} (h : P s) :
    P (State.dropRecord s) := by
  unfold State.dropRecord
  extract_lets x0 x1 x2
  have h0 : P x0 := (State.set_kept (State.inc_kept h _) _ _)
  have h1 : P x1 := (kept_upd h0)
  have h2 : P x2 := (State.alert_kept (State.log_kept h1 _ _ _ _) _)
  exact (ite_kept (fun _ => h1) (fun _ => (ite_kept (fun _ => (State.forN_kept _ _ (fun _ _ h3 => (ite_kept (fun _ => (State.hold_kept h3 _ _)) (fun _
      => h3))) h2)) (fun _ => h2))))

theorem State.gapRecord_kept [Keeps P] {s : State} (h : P s) :
    P (State.gapRecord s) := by
  unfold State.gapRecord
  extract_lets x0 x1 x2
  have h2 : P x2 := (State.putRecord_kept h _)
  exact (kept_upd h2)

theorem State.measRetire_kept [Keeps P] {s : State} (h : P s) (a1 : Nat) :
    P (State.measRetire s a1) := by
  unfold State.measRetire
  extract_lets x0
  exact (by split; (exact (ite_kept (fun _ => h) (fun _ => (State.finishWait_kept h _ _ _ _ _)))); (exact h))

theorem State.recordWrite_kept [Keeps P] {s : State} (h : P s) :
    P (State.recordWrite s) := by
  unfold State.recordWrite
  exact ite_kept (fun _ => (State.gapRecord_kept h)) (fun _ => (by split; (exact h); (exact (ite_kept (fun _ => h) (fun _ => (by extract_lets x0 x1; have h0 : P x0 := (kept_upd h); have h1 : P x1 := (ite_kept (fun _ => (State.dropRecord_kept h0)) (fun _ => (State.putRecord_kept h0 _))); exact (ite_kept (fun _ => (State.measRetire_kept h1 _)) (fun _ => h1))))))))

theorem State.migrationStart_kept [Keeps P] {s : State} (h : P s) :
    P (State.migrationStart s) := by
  unfold State.migrationStart
  exact ite_kept (fun _ => (kept_upd h)) (fun _ => h)

theorem State.devWrite_kept [Keeps P] [KeepsMem P] {s : State} (h : P s) (a1 : Nat) (a2 : List Byte) :
    P (State.devWrite s a1 a2) := by
  unfold State.devWrite
  extract_lets x0
  have h0 : P x0 := (State.setBytes_kept h _ _)
  exact (kept_upd h0)

theorem State.burstDone_kept [Keeps P] [KeepsMem P] {s : State} (h : P s) :
    P (State.burstDone s) := by
  unfold State.burstDone
  split
  · exact h
  · exact (by extract_lets x0 x1 x2 x3 x4 x5 x6; have h4 : P x4 := (State.devWrite_kept h _ _); have h5 : P x5 := (ite_kept (fun _ => (State.devWrite_kept h4 _ _)) (fun _ => h4)); have h6 : P x6 := (kept_upd h5); exact (State.add_kept (State.set_kept h6 _ _) _ _))

theorem State.headWrite_kept [Keeps P] {s : State} (h : P s) (a1 : Port) (a2 : Word) :
    P (State.headWrite s a1 a2) := by
  unfold State.headWrite
  extract_lets x0
  exact (ite_kept (fun _ => (State.set_kept (State.set_kept h _ _) _ _)) (fun _ => (State.reject_kept h _ _ _ _ _)))

theorem State.ovfWrite_kept [Keeps P] {s : State} (h : P s) (a1 : Port) (a2 : Word) :
    P (State.ovfWrite s a1 a2) := by
  unfold State.ovfWrite
  extract_lets x0 x1 x2 x3
  exact (ite_kept (fun _ => (State.refreshLeases_kept (State.setReg_kept h _ _))) (fun _ => (State.reject_kept h _ _ _ _ _)))

theorem State.lgClear_kept [Keeps P] {s : State} (h : P s) :
    P (State.lgClear s) := by
  unfold State.lgClear
  exact State.set_kept (State.set_kept h _ _) _ _

theorem State.schedule_kept [Keeps P] {s : State} (h : P s) (a1 : Nat) (a2 : Nat) (a3 : Bool) :
    P (State.schedule s a1 a2 a3) := by
  unfold State.schedule
  exact kept_upd h

theorem State.snapRecords_kept [Keeps P] {s : State} (h : P s) (a1 : Nat) :
    P (State.snapRecords s a1) := by
  unfold State.snapRecords
  exact State.forN_kept _ _ (fun _ _ h0 => (ite_kept (fun _ => h0) (fun _ => (State.recordRaw_kept h0 _ _ _ _ _)))) h

theorem State.snapshot_kept [Keeps P] {s : State} (h : P s) :
    P (State.snapshot s) := by
  have h1 : P { s with snaps := s.snaps.filter (fun p => !decide (p.beat ≤ s.now)) } := kept_upd h
  unfold State.snapshot
  dsimp only
  generalize (List.filter (fun p => decide (p.beat ≤ s.now)) s.snaps).mergeSort _ = due
  cases due with
  | nil => exact h
  | cons p ps =>
    apply ite_kept <;> intro _
    · exact State.forL_kept _ _ (fun _ _ ht => State.log_kept (State.set_kept (State.set_kept ht _ _) _ _) _ _ _ _) h1
    · have h3 := fun a b c => State.set_kept (State.set_kept (State.set_kept (State.latchShadows_kept h1) Reg.LG_SNAPSTAT.BEAT a)
        Reg.LG_SNAPSTAT.TAG b) Reg.LG_SNAPSTAT.TAG2 c
      have h5 := fun a b c (l : List PendSnap) => State.forL_kept l _ (fun (d : PendSnap) _ ht => State.snapRecords_kept ht d.tag)
        (State.intr_kept (State.inc_kept (h3 a b c) Reg.LG_SNAPSTAT.SEQ) Intr.SNAP_TAKEN)
      exact ite_kept (fun _ => State.set_kept (h5 _ _ _ _) _ _) (fun _ => h5 _ _ _ _)

theorem State.snapMissed_kept [Keeps P] {s : State} (h : P s) (a1 : Nat) :
    P (State.snapMissed s a1) := by
  unfold State.snapMissed
  exact State.alert_kept (State.set_kept (State.log_kept h _ _ _ _) _ _) _

theorem State.lgReset_kept [Keeps P] {s : State} (h : P s) :
    P (State.lgReset s) := by
  unfold State.lgReset
  exact kept_upd h

/-! ### Store -/

theorem State.showBank_kept [Keeps P] {s : State} (h : P s) :
    P (State.showBank s) := by
  unfold State.showBank
  exact State.forN_kept _ _ (fun _ _ h0 => (State.setReg_kept h0 _ _)) h

theorem State.deriveKeys_kept [Keeps P] {s : State} (h : P s) :
    P (State.deriveKeys s) := by
  unfold State.deriveKeys
  exact State.forN_kept _ _ (fun _ _ h0 => (by split; (exact (State.setReg_kept h0 _ _)); (exact (State.log_kept (State.setReg_kept h0 _ _) _ _ _ _)))) h

theorem State.lxDone_kept [Keeps P] {s : State} (h : P s) (a1 : Nat) (a2 : Nat) :
    P (State.lxDone s a1 a2) := by
  unfold State.lxDone
  extract_lets x0 x1
  have h0 : P x0 := (State.set_kept (State.set_kept (State.set_kept (State.set_kept h _ _) _ _) _ _) _ _)
  have h1 : P x1 := (State.intr_kept (kept_upd h0) _)
  exact (ite_kept (fun _ => h1) (fun _ => (State.log_kept h1 _ _ _ _)))

theorem State.lxCount_kept [Keeps P] {s : State} (h : P s) (a1 : Nat) :
    P (State.lxCount s a1) := by
  unfold State.lxCount
  exact ite_kept (fun _ => (State.inc_kept h _)) (fun _ => (State.inc_kept h _))

theorem State.lxRead_kept [Keeps P] {s : State} (h : P s) :
    P (State.lxRead s) := by
  unfold State.lxRead
  extract_lets x0
  have h0 : P x0 := (ite_kept (fun _ => (State.set_kept (State.inc_kept h _) _ _)) (fun _ => h))
  exact (State.set_kept h0 _ _)

theorem State.loadStart_kept [Keeps P] {s : State} (h : P s) (a1 : Port) (a2 : Bool) :
    P (State.loadStart s a1 a2) := by
  unfold State.loadStart
  exact ite_kept (fun _ => (State.reject_kept h _ _ _ _ _)) (fun _ => (by extract_lets x0 x1; have h1 : P x1 := (State.set_kept (State.set_kept (State.set_kept h _ _) _ _) _ _); exact (kept_upd h1)))

theorem State.vendorLoadDone_kept [Keeps P] [KeepsCs P] {s : State} (h : P s) :
    P (State.vendorLoadDone s) := by
  unfold State.vendorLoadDone
  split
  · exact h
  · exact (ite_kept (fun _ => h) (fun _ => (by extract_lets x0 x1 x2 x3; have h1 : P x1 := (State.lxRead_kept h); have h2 : P x2 := (State.csFill_kept h1 _ _ _ _ _); have h3 : P x3 := (ite_kept (fun _ => (State.setReg_kept (State.forN_kept _ _ (fun _ _ h4 => (State.setReg_kept h4 _ _)) h2) _ _)) (fun _ => (State.set_kept h1 _ _))); exact (State.lxDone_kept (State.lxCount_kept h3 _) _ _))))

theorem State.customerLoadDone_kept [Keeps P] [KeepsCs P] {s : State} (h : P s) :
    P (State.customerLoadDone s) := by
  unfold State.customerLoadDone
  split
  · exact h
  · exact (ite_kept (fun _ => h) (fun _ => (by extract_lets x0 x1 x2 x3 x4 x5 x7; have h2 : P x2 := (State.lxRead_kept h); have h3 : P x3 := (State.csFill_kept h2 _ _ _ _ _); have h4 : P x4 := (State.csFill_kept h2 _ _ _ _ _); have h5 : P x5 := (State.forN_kept _ _ (fun _ _ h6 => (kept_upd h6)) h4); have h7 : P x7 := (ite_kept (fun _ => (State.setReg_kept (State.forN_kept _ _ (fun _ _ h8 => (kept_upd h8)) h3) _ _)) (fun _ => (State.bumpFree_kept (State.setReg_kept h5 _ _)))); exact (State.lxDone_kept (State.lxCount_kept h7 _) _ _))))

theorem State.swapBanks_kept [Keeps P] {s : State} (h : P s) (a1 : Port) :
    P (State.swapBanks s a1) := by
  unfold State.swapBanks
  extract_lets x0 x1
  have h1 : P x1 := (State.set_kept (State.set_kept (State.set_kept h _ _) _ _) _ _)
  exact (ite_kept (fun _ => (State.reject_kept h _ _ _ _ _)) (fun _ => (ite_kept (fun _ => (State.reject_kept h _ _ _ _ _)) (fun _ =>
      (State.lxDone_kept (State.showBank_kept h1) _ _)))))

theorem State.keyStart_kept [Keeps P] {s : State} (h : P s) (a1 : Port) (a2 : Bool) (a3 : Word) :
    P (State.keyStart s a1 a2 a3) := by
  unfold State.keyStart
  extract_lets x0 x1 x2 x3
  have h3 : P x3 := (State.set_kept (State.set_kept h _ _) _ _)
  exact (ite_kept (fun _ => (State.reject_kept h _ _ _ _ _)) (fun _ => (ite_kept (fun _ => (State.reject_kept h _ _ _ _ _)) (fun _ => (kept_upd
      h3)))))

theorem State.keyDone_kept [Keeps P] [KeepsNvm P] {s : State} (h : P s) (a1 : NvmEnd) :
    P (State.keyDone s a1) := by
  unfold State.keyDone
  split
  · exact h
  · exact (ite_kept (fun _ => h) (fun _ => (by extract_lets x0 x1; have h1 : P x1.1 := (State.nvmWrite_kept h _ _ _); exact (State.lxDone_kept (State.deriveKeys_kept h1) _ _))))

/-! ### Operands -/

theorem State.startMeas_kept [Keeps P] {s : State} (h : P s) (a1 : Nat) (a2 : MeasReq) :
    P (State.startMeas s a1 a2) := by
  unfold State.startMeas
  exact State.forL_kept _ _ (fun _ _ h0 => (ite_kept (fun _ => (by split; (exact (State.dpsStart_kept h0 _ _ _ _ _ _ _)); (exact h0))) (fun _ => (by split; (exact (State.pmuStart_kept h0 _ _ _ _ _ _ _)); (exact h0))))) h

theorem State.startTmeas_kept [Keeps P] {s : State} (h : P s) (a1 : Nat) (a2 : MeasReq) :
    P (State.startTmeas s a1 a2) := by
  unfold State.startTmeas
  exact State.forL_kept _ _ (fun _ _ h0 => (by split; (exact (State.tdcStart_kept h0 _ _ _ _ _ _ _)); (exact h0))) h

theorem State.waitUnits_kept [Keeps P] {s : State} (h : P s) (a1 : Nat) (a2 : Nat) (a3 : Nat) :
    P (State.waitUnits s a1 a2 a3) := by
  unfold State.waitUnits
  exact State.setSeq_kept h _ _

theorem State.accReset_kept [Keeps P] {s : State} (h : P s) (a1 : Nat) :
    P (State.accReset s a1) := by
  unfold State.accReset
  exact State.setReg_kept h _ _

theorem State.ownRecord_kept [Keeps P] {s : State} (h : P s) (a1 : Nat) (a2 : Nat) (a3 : Nat) (a4 : Bool) (a5 : Nat) :
    P (State.ownRecord s a1 a2 a3 a4 a5) := by
  unfold State.ownRecord
  exact State.inc_kept (State.recordRaw_kept h _ _ _ _ _) _

/-! ### Seq -/

theorem State.faultBy_kept [Keeps P] {s : State} (h : P s) (a1 : Nat) (a2 : Nat) (a3 : State → State) (h1003 : ∀ t, P t → P (a3 t)) :
    P (State.faultBy s a1 a2 a3) := by
  unfold State.faultBy
  extract_lets x0 x1 x2 x3
  have h0 : P x0 := (h1003 _ (State.set_kept (State.set_kept h _ _) _ _))
  have h1 : P x1 := (ite_kept (fun _ => h0) (fun _ => (State.discardOpen_kept h0 _)))
  have h3 : P x3 := (ite_kept (fun _ => (State.setSeq_kept (State.cancelUnits_kept h1 _) _ _)) (fun _ => h0))
  exact (State.follow_kept (State.hold_kept h3 _ _))

theorem State.fault_kept [Keeps P] {s : State} (h : P s) (a1 : Nat) (a2 : Nat) (a3 : Nat) :
    P (State.fault s a1 a2 a3) := by
  unfold State.fault
  exact State.faultBy_kept h _ _ _ (fun _ h0 => (ite_kept (fun _ => (State.event_kept (State.uncorrMet_kept h0) _ _ _ _)) (fun _ => (State.event_kept
      h0 _ _ _ _))))

theorem State.began_kept [Keeps P] {s : State} (h : P s) (a1 : Nat) (a2 : Nat) :
    P (State.began s a1 a2) := by
  unfold State.began
  exact State.inc_kept (State.set_kept (State.memReq_kept h _ _) _ _) _

theorem State.issue_kept [Keeps P] {s : State} (h : P s) (a1 : Nat) (a2 : List Nat) (a3 : Stmt → State → Option (Nat × Nat)) (a4 : Stmt → State →
    State) (h1004 : ∀ b t, P t → P (a4 b t)) :
    P (State.issue s a1 a2 a3 a4) := by
  unfold State.issue
  exact ite_kept (fun _ => h) (fun _ => (by split; (exact (State.fault_kept h _ _ _)); (exact (by extract_lets x0; exact (ite_kept (fun _ => h) (fun _ => (ite_kept (fun _ => (State.fault_kept h _ _ _)) (fun _ => (by split; (exact (State.fault_kept h _ _ _)); (exact (h1004 _ _ (State.began_kept h _ _))))))))))))

theorem State.badOp_kept [Keeps P] {s : State} (h : P s) (a1 : Nat) :
    P (State.badOp s a1) := by
  unfold State.badOp
  exact ite_kept (fun _ => h) (fun _ => (by split; (exact (State.fault_kept h _ _ _)); (exact (by extract_lets x0; exact (ite_kept (fun _ => (State.fault_kept h _ _ _)) (fun _ => h))))))

theorem State.setWait_kept [Keeps P] {s : State} (h : P s) (a1 : Nat) (a2 : Wait) :
    P (State.setWait s a1 a2) := by
  unfold State.setWait
  exact State.setSeq_kept h _ _

theorem State.pushPc_kept [Keeps P] {s : State} (h : P s) (a1 : Nat) (a2 : Nat) :
    P (State.pushPc s a1 a2) := by
  unfold State.pushPc
  extract_lets x0
  exact (State.set_kept (State.setSeq_kept h _ _) _ _)

theorem State.popPc_kept [Keeps P] {s : State} (h : P s) (a1 : Nat) :
    P (State.popPc s a1).2 := by
  unfold State.popPc
  extract_lets x0
  exact (snd_kept (State.set_kept (State.setSeq_kept h _ _) _ _))

theorem State.userHold_kept [Keeps P] {s : State} (h : P s) (a1 : Nat) (a2 : Nat) :
    P (State.userHold s a1 a2) := by
  unfold State.userHold
  exact State.inc_kept (State.eventStmt_kept h _ _ _) _

theorem State.waitBeat_kept [Keeps P] {s : State} (h : P s) (a1 : Nat) (a2 : Nat) :
    P (State.waitBeat s a1 a2) := by
  unfold State.waitBeat
  extract_lets x0
  have h0 : P x0 := (State.setWait_kept h _ _)
  exact (ite_kept (fun _ => (State.finishBeat_kept h0 _)) (fun _ => h0))

theorem State.waitFollow_kept [Keeps P] {s : State} (h : P s) (a1 : Nat) (a2 : Nat) (a3 : Nat) (a4 : Nat) :
    P (State.waitFollow s a1 a2 a3 a4) := by
  unfold State.waitFollow
  extract_lets x0 x1 x2
  have h0 : P x0 := (State.setWait_kept h _ _)
  exact (ite_kept (fun _ => (State.bumpFree_kept (State.finishWait_kept h0 _ _ _ _ _))) (fun _ => h0))

theorem State.followTimeout_kept [Keeps P] {s : State} (h : P s) (a1 : Nat) :
    P (State.followTimeout s a1) := by
  unfold State.followTimeout
  split
  · exact (ite_kept (fun _ => (State.finishWait_kept h _ _ _ _ _)) (fun _ => h))
  · exact h

theorem State.beatTarget_kept [Keeps P] {s : State} (h : P s) (a1 : Nat) :
    P (State.beatTarget s a1) := by
  unfold State.beatTarget
  split
  · exact (ite_kept (fun _ => (State.finishBeat_kept h _)) (fun _ => h))
  · exact h

theorem State.patternDone_kept [Keeps P] {s : State} (h : P s) (a1 : Nat) :
    P (State.patternDone s a1) := by
  unfold State.patternDone
  split
  · exact (ite_kept (fun _ => (by extract_lets x0 x1 x2; have h2 : P x2 := (ite_kept (fun _ => (State.inc_kept (State.recordRaw_kept h _ _ _ _ _) _)) (fun _ => h)); exact (State.finishWait_kept h2 _ _ _ _ _))) (fun _ => h))
  · exact h

theorem State.patternTimeout_kept [Keeps P] {s : State} (h : P s) (a1 : Nat) :
    P (State.patternTimeout s a1) := by
  unfold State.patternTimeout
  split
  · exact (ite_kept (fun _ => (State.finishWait_kept h _ _ _ _ _)) (fun _ => h))
  · exact h

theorem State.openClause_kept [Keeps P] {s : State} (h : P s) (a1 : Nat) (a2 : Nat) (a3 : Bool) :
    P (State.openClause s a1 a2 a3) := by
  unfold State.openClause
  exact State.setOpen_kept (State.openSlot_kept h _ _) _ _ _

theorem State.stageOne_kept [Keeps P] {s : State} (h : P s) (a1 : Nat) (a2 : Action) :
    P (State.stageOne s a1 a2) := by
  unfold State.stageOne
  split
  · exact (State.stage_kept h _ _)
  · exact h

theorem State.stageTable_kept [Keeps P] {s : State} (h : P s) (a1 : Nat) (a2 : Nat) (a3 : Nat) :
    P (State.stageTable s a1 a2 a3) := by
  unfold State.stageTable
  extract_lets x0
  exact (State.forN_kept _ _ (fun _ _ h1 => (State.stageOne_kept h1 _ _)) h)

theorem State.clcFinish_kept [Keeps P] {s : State} (h : P s) (a1 : Nat) (a2 : Nat) (a3 : Nat) (a4 : Nat) :
    P (State.clcFinish s a1 a2 a3 a4) := by
  unfold State.clcFinish
  exact State.finishWait_kept h _ _ _ _ _

theorem State.closeClause_kept [Keeps P] {s : State} (h : P s) (a1 : Nat) (a2 : Nat) (a3 : Nat) (a4 : Bool) (a5 : Nat) :
    P (State.closeClause s a1 a2 a3 a4 a5) := by
  unfold State.closeClause
  split
  · exact h
  next k =>
    extract_lets s1 refuse
    have h1 : P s1 := State.set_kept (State.set_kept (State.set_kept h _ _) _ _) _ _
    have hr : ∀ c b, P (refuse c b) := fun c b => State.clcFinish_kept (State.setOpen_kept (State.refuseRequest_kept h1 _ _ _) _ _ _) _ _ _ _
    split
    · exact hr _ _
    · exact hr _ _
    · exact State.setWait_kept (State.setOpen_kept (State.beginPrepare_kept h1 _) _ _ _) _ _

theorem State.clcDecision_kept [Keeps P] {s : State} (h : P s) (a1 : Nat) :
    P (State.clcDecision s a1) := by
  unfold State.clcDecision
  split
  · exact (ite_kept (fun _ => (State.clcFinish_kept h _ _ _ _)) (fun _ => h))
  · exact h

theorem State.cloIssue_kept [Keeps P] {s : State} (h : P s) (a1 : Nat) :
    P (State.cloIssue s a1) := by
  unfold State.cloIssue
  split
  · exact (State.retire_kept (State.openClause_kept h _ _ _) _)
  · exact (State.setWait_kept h _ _)

theorem State.cloWaitEnd_kept [Keeps P] {s : State} (h : P s) (a1 : Nat) :
    P (State.cloWaitEnd s a1) := by
  unfold State.cloWaitEnd
  split
  · exact (by extract_lets x0; exact (ite_kept (fun _ => (State.cmdDone_kept (State.setWait_kept (State.openClause_kept h _ _ _) _ _) _ _ _)) (fun _ => (ite_kept (fun _ => (State.retire_kept (State.setWait_kept (State.openClause_kept h _ _ _) _ _) _)) (fun _ => h)))))
  · exact h

theorem State.playLog_kept [Keeps P] {s : State} (h : P s) (a1 : Nat) (a2 : Bool) (a3 : Nat) :
    P (State.playLog s a1 a2 a3) := by
  unfold State.playLog
  exact ite_kept (fun _ => (State.log_kept h _ _ _ _)) (fun _ => h)

theorem State.play_kept [Keeps P] {s : State} (h : P s) (a1 : Nat) (a2 : Nat) (a3 : Bool) (a4 : Bool) (a5 : Nat) :
    P (State.play s a1 a2 a3 a4 a5) := by
  unfold State.play
  extract_lets x0 x1 x2 x3
  have h2 : P x2 := (State.setStream_kept h _ _)
  exact (State.barrier_kept (State.setSeq_kept h2 _ _) _)

theorem State.toLoaded_kept [Keeps P] {s : State} (h : P s) (a1 : Nat) :
    P (State.toLoaded s a1) := by
  unfold State.toLoaded
  extract_lets x0 x1 x2
  have h0 : P x0 := (State.clearToken_kept (State.set_kept (State.set_kept (State.setSite_kept h _ _) _ _) _ _) _)
  have h2 : P x2 := (State.setSeq_kept (State.cancelUnits_kept h0 _) _ _)
  exact (State.follow_kept (State.refreshLeases_kept (State.releaseFb_kept h2 _)))

theorem State.endComplete_kept [Keeps P] {s : State} (h : P s) (a1 : Nat) :
    P (State.endComplete s a1) := by
  unfold State.endComplete
  split
  · exact (ite_kept (fun _ => (State.toLoaded_kept h _)) (fun _ => h))
  · exact h

theorem State.allocFb_kept [Keeps P] {s : State} (h : P s) (a1 : Nat) :
    P (State.allocFb s a1) := by
  unfold State.allocFb
  exact ite_kept (fun _ => h) (fun _ => (by extract_lets x0; exact (State.set_kept (State.set_kept (State.set_kept h _ _) _ _) _ _)))

theorem State.arm_kept [Keeps P] {s : State} (h : P s) (a1 : Port) (a2 : Nat) :
    P (State.arm s a1 a2) := by
  unfold State.arm
  split
  · exact (State.reject_kept h _ _ _ _ _)
  · exact (by extract_lets x0 x1 x2; have h2 : P x2 := (State.setSeq_kept (State.allocFb_kept h _) _ _); exact (State.refreshLeases_kept (State.setSite_kept (State.cancelHost_kept h2 _) _ _)))

theorem State.sqReject_kept [Keeps P] {s : State} (h : P s) (a1 : Port) (a2 : Nat) :
    P (State.sqReject s a1 a2) := by
  unfold State.sqReject
  exact State.reject_kept h _ _ _ _ _

theorem State.disarm_kept [Keeps P] {s : State} (h : P s) (a1 : Port) (a2 : Nat) :
    P (State.disarm s a1 a2) := by
  unfold State.disarm
  exact ite_kept (fun _ => (State.sqReject_kept h _ _)) (fun _ => (State.toLoaded_kept h _))

theorem State.hostHold_kept [Keeps P] {s : State} (h : P s) (a1 : Port) (a2 : Nat) :
    P (State.hostHold s a1 a2) := by
  unfold State.hostHold
  exact ite_kept (fun _ => (State.follow_kept (State.hold_kept h _ _))) (fun _ => (State.sqReject_kept h _ _))

theorem State.hostResume_kept [Keeps P] {s : State} (h : P s) (a1 : Port) (a2 : Nat) (a3 : Nat) :
    P (State.hostResume s a1 a2 a3) := by
  unfold State.hostResume
  exact ite_kept (fun _ => (State.sqReject_kept h _ _)) (fun _ => (State.follow_kept (State.clearCauses_kept h _ _)))

theorem State.stopStream_kept [Keeps P] {s : State} (h : P s) (a1 : Nat) :
    P (State.stopStream s a1) := by
  unfold State.stopStream
  extract_lets x0 x1 x2 x3
  have h2 : P x2 := (State.setStream_kept h _ _)
  exact (ite_kept (fun _ => (ite_kept (fun _ => h) (fun _ => (State.setStream_kept (State.endStream_kept h _) _ _)))) (fun _ => (ite_kept (fun _ =>
      (State.endStream_kept h2 _)) (fun _ => h2))))

theorem State.stopComplete_kept [Keeps P] {s : State} (h : P s) (a1 : Nat) :
    P (State.stopComplete s a1) := by
  unfold State.stopComplete
  exact ite_kept (fun _ => (State.toLoaded_kept (State.event_kept h _ _ _ _) _)) (fun _ => h)

theorem State.hostStop_kept [Keeps P] {s : State} (h : P s) (a1 : Port) (a2 : Nat) :
    P (State.hostStop s a1 a2) := by
  unfold State.hostStop
  exact ite_kept (fun _ => (State.sqReject_kept h _ _)) (fun _ => (ite_kept (fun _ => h) (fun _ => (by extract_lets x0 x1 x2; have h0 : P x0 := (State.clearToken_kept (State.set_kept (State.discardOpen_kept h _) _ _) _); have h2 : P x2 := (ite_kept (fun _ => h0) (fun _ => (State.setSeq_kept (State.cancelUnits_kept h0 _) _ _))); exact (State.follow_kept (State.stopStream_kept h2 _))))))

end Sys2Proof.Machine
end

