-- ==== Sys2Proof/Laws/KeepsLink.lean ====
section
/-! SUPPORT. What the primitive operations keep, every operation of one group keeps: vectors, structure, verbs and the timebase. One lemma an operation, each
assembled from those of the operations it calls. -/

namespace Sys2Proof.Machine

variable {P : State → Prop}

/-! ### Vectors -/

theorem State.presentK_kept [Keeps P] {s : State} (h : P s) (a1 : Nat) (a2 : Nat) :
    P (State.presentK s a1 a2) := by
  unfold State.presentK
  extract_lets x0
  exact (State.forL_kept _ _ (fun _ _ h1 => (by extract_lets x2; have h2 : P x2 := (State.drivePin_kept h1 _ _ _ _ _); exact (by split; (exact (ite_kept (fun _ => (State.forL_kept _ _ (fun _ _ h3 => (State.drivePin_kept h3 _ _ _ _ _)) h2)) (fun _ => h2))); (exact h2)))) h)

theorem State.substReports_kept [Keeps P] {s : State} (h : P s) (a1 : Nat) (a2 : Nat) :
    P (State.substReports s a1 a2) := by
  unfold State.substReports
  extract_lets x0 x1 x3
  have h1 : P x1 := (State.forL_kept _ _ (fun _ _ h2 => (State.set_kept (State.inc_kept h2 _) _ _)) h)
  exact (State.setStream_kept (State.forL_kept _ _ (fun _ _ h4 => (State.event_kept h4 _ _ _ _)) h1) _ _)

theorem State.playVector_kept [Keeps P] {s : State} (h : P s) (a1 : Nat) (a2 : Half) (a3 : Nat) :
    P (State.playVector s a1 a2 a3) := by
  unfold State.playVector
  extract_lets x0 x1 x2 x3
  exact (by split; exact (by extract_lets x4 x5 x6 x9; have h5 : P x5 := (ite_kept (fun _ => (State.substReports_kept h _ _)) (fun _ => h)); have h6 : P x6 := (State.forL_kept _ _ (fun _ _ h7 => (State.forL_kept _ _ (fun _ _ h8 => (State.applyPin_kept h8 _ _ _ _ _)) h7)) h5); exact (State.set_kept (State.setStream_kept h6 _ _) _ _)))

theorem State.holdVector_kept [Keeps P] {s : State} (h : P s) (a1 : Nat) (a2 : Nat) :
    P (State.holdVector s a1 a2) := by
  unfold State.holdVector
  extract_lets x0 x1 x2 x3
  have h2 : P x2 := (State.presentK_kept h _ _)
  exact (ite_kept (fun _ => (State.setStream_kept h2 _ _)) (fun _ => h))

theorem State.vectorStart_kept [Keeps P] {s : State} (h : P s) (a1 : Nat) :
    P (State.vectorStart s a1) := by
  unfold State.vectorStart
  extract_lets x0 x1 x2
  have h1 : P x1 := (State.presentK_kept h _ _)
  exact (ite_kept (fun _ => h) (fun _ => (by split; (exact (ite_kept (fun _ => (ite_kept (fun _ => (State.setStream_kept h1 _ _)) (fun _ => h))) (fun _ => (ite_kept (fun _ => (State.playVector_kept h _ _ _)) (fun _ => h))))); (exact (State.holdVector_kept h _ _)); (exact (State.holdVector_kept h _ _)); (exact h))))

theorem execVectorStart_kept [Keeps P] (a0 : Fin 80) {a1 : State} (h1001 : P a1) :
    Out.All P (execVectorStart a0 a1) := by
  unfold execVectorStart
  exact keptOut_of (State.vectorStart_kept h1001 _)

theorem execStrobe_kept [Keeps P] [KeepsMem P] (a0 : Fin 1024) (a1 : Strobe) (a2 : BitVec 16) {a3 : State} (h1003 : P a3) :
    Out.All P (execStrobe a0 a1 a2 a3) := by
  unfold execStrobe
  exact keptOut_of (State.strobe_kept h1003 _ _)

theorem execComparatorResolved_kept [Keeps P] (a0 : Bool) (a1 : Fin 1024) (a2 : Fin 8) (a3 : Bool) {a4 : State} (h1004 : P a4) :
    Out.All P (execComparatorResolved a0 a1 a2 a3 a4) := by
  unfold execComparatorResolved
  exact keptOut_of (ite_kept (fun _ => (ite_kept (fun _ => (State.follow_kept (State.resolveDps_kept h1004 _ _ _))) (fun _ => h1004))) (fun _ =>
      (State.follow_kept (State.resolveChan_kept h1004 _ _ _))))

theorem execClampHit_kept [Keeps P] (a0 : Fin 1024) {a1 : State} (h1001 : P a1) :
    Out.All P (execClampHit a0 a1) := by
  unfold execClampHit
  exact keptOut_of (ite_kept (fun _ => (State.set_kept h1001 _ _)) (fun _ => h1001))

theorem execBusSwitchClose_kept [Keeps P] (a0 : Fin 1024) {a1 : State} (h1001 : P a1) :
    Out.All P (execBusSwitchClose a0 a1) := by
  unfold execBusSwitchClose
  exact keptOut_of (ite_kept (fun _ => (State.refreshChan_kept (State.set_kept (State.setChan_kept h1001 _ _) _ _) _)) (fun _ => h1001))

theorem execBusSwitchDzEnd_kept [Keeps P] (a0 : Fin 1024) {a1 : State} (h1001 : P a1) :
    Out.All P (execBusSwitchDzEnd a0 a1) := by
  unfold execBusSwitchDzEnd
  exact keptOut_of (ite_kept (fun _ => (State.presentIdle_kept (State.setChan_kept h1001 _ _) _)) (fun _ => h1001))

theorem execDescriptorRead_kept [Keeps P] (a0 : Fin 80) {a1 : State} (h1001 : P a1) :
    Out.All P (execDescriptorRead a0 a1) := by
  unfold execDescriptorRead
  exact keptOut_of (ite_kept (fun _ => (State.refreshLeases_kept (State.descRead_kept h1001 _))) (fun _ => h1001))

theorem State.fetchComplete_kept [Keeps P] {s : State} (h : P s) (a1 : Nat) :
    P (State.fetchComplete s a1) := by
  unfold State.fetchComplete
  extract_lets x0
  exact (by split; (exact (ite_kept (fun _ => h) (fun _ => (by extract_lets x1 x2; have h2 : P x2 := (State.memReq_kept (State.memReq_kept h _ _) _ _); exact (State.setStream_kept h2 _ _))))); (exact h))

theorem execFrameFetchComplete_kept [Keeps P] (a0 : Fin 80) {a1 : State} (h1001 : P a1) :
    Out.All P (execFrameFetchComplete a0 a1) := by
  unfold execFrameFetchComplete
  exact keptOut_of (State.fetchComplete_kept h1001 _)

theorem execFrameBoundary_kept [Keeps P] (a0 : Fin 80) {a1 : State} (h1001 : P a1) :
    Out.All P (execFrameBoundary a0 a1) := by
  unfold execFrameBoundary
  exact keptOut_of (ite_kept (fun _ => (ite_kept (fun _ => (State.settle_kept (State.follow_kept (State.boundary_kept h1001 _)))) (fun _ => h1001)))
      (fun _ => (ite_kept (fun _ => (State.settle_kept (State.follow_kept (State.resumeStream_kept h1001 _)))) (fun _ => h1001))))

theorem execStreamStart_kept [Keeps P] (a0 : Fin 80) {a1 : State} (h1001 : P a1) :
    Out.All P (execStreamStart a0 a1) := by
  unfold execStreamStart
  exact keptOut_of (ite_kept (fun _ => (State.settle_kept (State.follow_kept (State.streamStart_kept h1001 _)))) (fun _ => h1001))

theorem execStackPowerDown_kept [Keeps P] (a0 : Fin 2) {a1 : State} (h1001 : P a1) :
    Out.All P (execStackPowerDown a0 a1) := by
  unfold execStackPowerDown
  exact keptOut_of (State.stackDown_kept h1001 _)

theorem State.fcCfgWrite_kept [Keeps P] {s : State} (h : P s) (a1 : Port) (a2 : Nat) (a3 : Word) :
    P (State.fcCfgWrite s a1 a2 a3) := by
  unfold State.fcCfgWrite
  extract_lets x0 x1 x2
  have h1 : P x1 := (State.setReg_kept h _ _)
  have h2 : P x2 := (State.setReg_kept h1 _ _)
  exact (ite_kept (fun _ => (State.reject_kept h _ _ _ _ _)) (fun _ => (State.set_kept h2 _ _)))

theorem execSoFcCfgWrite_kept [Keeps P] (a0 : Port) (a1 : Fin 64) (a2 : Word) {a3 : State} (h1003 : P a3) :
    Out.All P (execSoFcCfgWrite a0 a1 a2 a3) := by
  unfold execSoFcCfgWrite
  exact keptOut_of (State.host_kept h1003 _ _ _ _ _ (fun _ h0 => (State.fcCfgWrite_kept h0 _ _ _)))

theorem State.fcPtrWrite_kept [Keeps P] {s : State} (h : P s) (a1 : Port) (a2 : Nat) (a3 : Word) :
    P (State.fcPtrWrite s a1 a2 a3) := by
  unfold State.fcPtrWrite
  extract_lets x0
  exact (ite_kept (fun _ => (State.reject_kept h _ _ _ _ _)) (fun _ => (State.set_kept h _ _)))

theorem execSoFcPtrWrite_kept [Keeps P] (a0 : Port) (a1 : Fin 64) (a2 : Word) {a3 : State} (h1003 : P a3) :
    Out.All P (execSoFcPtrWrite a0 a1 a2 a3) := by
  unfold execSoFcPtrWrite
  exact keptOut_of (State.host_kept h1003 _ _ _ _ _ (fun _ h0 => (State.fcPtrWrite_kept h0 _ _ _)))

theorem State.resetFails_kept [Keeps P] {s : State} (h : P s) (a1 : Nat) (a2 : List Nat) :
    P (State.resetFails s a1 a2) := by
  unfold State.resetFails
  extract_lets x0
  have h0 : P x0 := (State.clearMarks_kept (State.setReg_kept h _ _) _)
  exact (State.forL_kept _ _ (fun _ _ h1 => (State.setReg_kept h1 _ _)) h0)

theorem State.clrFail_kept [Keeps P] {s : State} (h : P s) (a1 : Port) (a2 : Nat) :
    P (State.clrFail s a1 a2) := by
  unfold State.clrFail
  exact ite_kept (fun _ => (State.reject_kept h _ _ _ _ _)) (fun _ => (State.resetFails_kept h _ _))

theorem execClrFail_kept [Keeps P] (a0 : Port) (a1 : Fin 64) {a2 : State} (h1002 : P a2) :
    Out.All P (execClrFail a0 a1 a2) := by
  unfold execClrFail
  exact keptOut_of (State.host_kept h1002 _ _ _ _ _ (fun _ h0 => (State.clrFail_kept h0 _ _)))

theorem State.eeTwrWrite_kept [Keeps P] {s : State} (h : P s) (a1 : Port) (a2 : Nat) (a3 : Word) :
    P (State.eeTwrWrite s a1 a2 a3) := by
  unfold State.eeTwrWrite
  extract_lets x0
  exact (ite_kept (fun _ => (State.reject_kept h _ _ _ _ _)) (fun _ => (State.tenseWrite_kept (State.tenseWrite_kept h _ _ _) _ _ _)))

theorem execEeTwrWrite_kept [Keeps P] (a0 : Port) (a1 : Fin 1056) (a2 : Word) {a3 : State} (h1003 : P a3) :
    Out.All P (execEeTwrWrite a0 a1 a2 a3) := by
  unfold execEeTwrWrite
  exact keptOut_of (State.host_kept h1003 _ _ _ _ _ (fun _ h0 => (State.eeTwrWrite_kept h0 _ _ _)))

theorem execPmReady_kept [Keeps P] {s : State} (h : P s) :
    Out.All P (execPmReady s) := by
  unfold execPmReady
  exact keptOut_of (ite_kept (fun _ => (State.set_kept h _ _)) (fun _ => h))

theorem execPmRgnWrite_kept [Keeps P] (a0 : Port) (a1 : Fin 256) (a2 : Word) {a3 : State} (h1003 : P a3) :
    Out.All P (execPmRgnWrite a0 a1 a2 a3) := by
  unfold execPmRgnWrite
  exact keptOut_of (State.host_kept h1003 _ _ _ _ _ (fun _ h0 => (State.rgnWrite_kept h0 _ _ _)))

/-! ### Si -/

theorem State.describe_kept [Keeps P] {s : State} (h : P s) (a1 : Nat) :
    P (State.describe s a1) := by
  unfold State.describe
  extract_lets x0
  exact (by split; (exact (State.setReg_kept h _ _)); (exact (by split; exact (by split; exact (State.setReg_kept h _ _)))))

theorem State.releaseChan_kept [Keeps P] {s : State} (h : P s) (a1 : Nat) :
    P (State.releaseChan s a1) := by
  unfold State.releaseChan
  extract_lets x0 x1 x2 x3 x4
  have h2 : P x2 := (State.setShadow_kept (State.setReg_kept h _ _) _ _)
  have h3 : P x3 := (State.armHook_kept (State.tdcCancel_kept (State.pmuCancel_kept h2 _) _) _ _)
  exact (State.setChan_kept h3 _ _)

theorem State.releaseDps_kept [Keeps P] {s : State} (h : P s) (a1 : Nat) :
    P (State.releaseDps s a1) := by
  unfold State.releaseDps
  extract_lets x0 x1 x2
  have h1 : P x1 := (State.dpsCancel_kept (State.setShadow_kept (State.setReg_kept h _ _) _ _) _)
  exact (State.dpsOpen_kept (State.setDps_kept h1 _ _) _)

theorem State.spreadLeads_kept [Keeps P] {s : State} (h : P s) (a1 : SiteMap) :
    P (State.spreadLeads s a1) := by
  unfold State.spreadLeads
  extract_lets copy s1
  have hc : ∀ a b t, P t → P (copy a b t) := fun a b t ht => State.setShadow_kept (State.setReg_kept ht _ _) _ _
  have h1 : P s1 := State.forL_kept _ _ (fun _ _ ht => State.forL_kept _ _ (fun _ _ hu =>
    State.forN_kept _ _ (fun _ _ hr => ite_kept (fun _ => State.levelTrigger_kept (State.set_kept (State.set_kept hr _ _) _ _) _ _) (fun _ => hr))
      (State.forL_kept _ _ (fun _ _ hr => hc _ _ _ hr) hu)) ht) h
  exact State.forL_kept _ _ (fun _ _ ht => State.forL_kept _ _ (fun _ _ hu => hc _ _ _ (hc _ _ _ (hc _ _ _ (hc _ _ _ hu)))) ht) h1

theorem State.install_kept [Keeps P] [KeepsMaps P] {s : State} (h : P s) (a1 : List (Nat × SiteMap)) (a2 : List (Nat × Nat)) (a3 : List (Nat × Nat)) :
    P (State.install s a1 a2 a3) := by
  unfold State.install
  extract_lets x0 x1 x2 x4 x6 x8 x10 x12
  have h0 : P x0 := (State.setMaps_kept h _ _ _)
  have h2 : P x2 := (State.forN_kept _ _ (fun _ _ h3 => (State.describe_kept h3 _)) h0)
  have h4 : P x4 := (State.forL_kept _ _ (fun _ _ h5 => (State.spreadLeads_kept h5 _)) h2)
  have h6 : P x6 := (State.forL_kept _ _ (fun _ _ h7 => (State.releaseChan_kept h7 _)) h4)
  have h8 : P x8 := (State.forL_kept _ _ (fun _ _ h9 => (State.releaseDps_kept h9 _)) h6)
  have h10 : P x10 := (State.forL_kept _ _ (fun _ _ h11 => (State.laneOff_kept h11 _)) h8)
  have h12 : P x12 := (State.forL_kept _ _ (fun _ _ h13 => (State.wfOff_kept h13 _)) h10)
  exact (State.forN_kept _ _ (fun _ _ h14 => (State.refreshPmu_kept (State.refreshChan_kept h14 _) _)) h12)

theorem State.crossbar_kept [Keeps P] {s : State} (h : P s) (a1 : List (Nat × Nat)) :
    P (State.crossbar s a1) := by
  unfold State.crossbar
  extract_lets x0 x1 x3
  have h1 : P x1 := (State.forN_kept _ _ (fun _ _ h2 => (ite_kept (fun _ => h2) (fun _ => (State.unroute_kept h2 _ _)))) h)
  have h3 : P x3 := (State.forL_kept _ _ (fun _ _ h4 => (ite_kept (fun _ => (State.set_kept (State.set_kept h4 _ _) _ _)) (fun _ => (State.route_kept
      h4 _ _ _)))) h1)
  exact (State.forL_kept _ _ (fun _ _ h5 => (State.takeOver_kept h5 _ _)) h3)

theorem State.describeSite_kept [Keeps P] {s : State} (h : P s) (a1 : Nat) (a2 : Nat) (a3 : Nat) :
    P (State.describeSite s a1 a2 a3) := by
  unfold State.describeSite
  extract_lets x0 x1
  exact (State.setReg_kept h _ _)

theorem State.freshSite_kept [Keeps P] {s : State} (h : P s) (a1 : Nat) (a2 : Nat) :
    P (State.freshSite s a1 a2) := by
  unfold State.freshSite
  exact State.setSeq_kept (State.clearToken_kept (State.set_kept (State.setSite_kept h _ _) _ _) _) _ _

theorem State.loadImage_kept [Keeps P] [KeepsMaps P] {s : State} (h : P s) (a1 : Img) :
    P (State.loadImage s a1) := by
  unfold State.loadImage
  extract_lets x0 x1 x2 x3 x4 x6 x8
  have h3 : P x3 := (State.crossbar_kept (State.install_kept h _ _ _) _)
  have h4 : P x4 := (State.forN_kept _ _ (fun _ _ h5 => (by split; (exact (State.describeSite_kept (State.freshSite_kept h5 _ _) _ _ _)); (exact (State.setReg_kept (State.freshSite_kept h5 _ _) _ _)))) h3)
  have h6 : P x6 := (State.forN_kept _ _ (fun _ _ h7 => (State.resetFails_kept h7 _ _)) h4)
  have h8 : P x8 := (State.forN_kept _ _ (fun _ _ h9 => (State.setReg_kept h9 _ _)) h6)
  exact (State.setReg_kept h8 _ _)

theorem State.clearStructure_kept [Keeps P] [KeepsMaps P] {s : State} (h : P s) :
    P (State.clearStructure s) := by
  unfold State.clearStructure
  extract_lets x0
  have h0 : P x0 := (State.crossbar_kept (State.install_kept h _ _ _) _)
  exact (State.setReg_kept (State.forN_kept _ _ (fun _ _ h1 => (State.setReg_kept (State.freshSite_kept h1 _ _) _ _)) h0) _ _)

theorem State.reshapeImage_kept [Keeps P] [KeepsMaps P] {s : State} (h : P s) (a1 : Img) (a2 : Nat) :
    P (State.reshapeImage s a1 a2) := by
  unfold State.reshapeImage
  extract_lets x0 x1 x2 x3 x4 x5 x6 x7 x8
  have h5 : P x5 := (State.install_kept h _ _ _)
  have h8 : P x8 := (State.describeSite_kept (State.freshSite_kept h5 _ _) _ _ _)
  exact (State.event_kept (State.resetFails_kept h8 _ _) _ _ _ _)

theorem State.siReject_kept [Keeps P] {s : State} (h : P s) (a1 : Port) (a2 : Nat) (a3 : Nat) :
    P (State.siReject s a1 a2 a3) := by
  unfold State.siReject
  exact State.reject_kept h _ _ _ _ _

theorem State.siBegin_kept [Keeps P] {s : State} (h : P s) (a1 : Nat) (a2 : Nat) (a3 : Nat) :
    P (State.siBegin s a1 a2 a3) := by
  unfold State.siBegin
  extract_lets x0
  have h0 : P x0 := (State.set_kept h _ _)
  exact (kept_upd h0)

theorem State.siEnd_kept [Keeps P] {s : State} (h : P s) (a1 : Nat) (a2 : Nat) (a3 : Option ImgErr) :
    P (State.siEnd s a1 a2 a3) := by
  unfold State.siEnd
  extract_lets x0 x1 x2 x3 x4
  have h1 : P x1 := (State.set_kept (State.set_kept (State.set_kept (State.set_kept h _ _) _ _) _ _) _ _)
  have h2 : P x2 := (kept_upd h1)
  have h3 : P x3 := (by unfold x3; split; (exact (State.log_kept (State.setReg_kept h2 _ _) _ _ _ _)); (exact h2))
  have h4 : P x4 := (ite_kept (fun _ => h3) (fun _ => (State.intr_kept h3 _)))
  exact (State.set_kept h4 _ _)

theorem State.siLoad_kept [Keeps P] {s : State} (h : P s) (a1 : Port) :
    P (State.siLoad s a1) := by
  unfold State.siLoad
  exact ite_kept (fun _ => (State.siReject_kept h _ _ _)) (fun _ => (ite_kept (fun _ => (State.siReject_kept h _ _ _)) (fun _ => (State.siBegin_kept h
      _ _ _))))

theorem State.siReshape_kept [Keeps P] {s : State} (h : P s) (a1 : Port) (a2 : Nat) :
    P (State.siReshape s a1 a2) := by
  unfold State.siReshape
  extract_lets x0
  exact (ite_kept (fun _ => (State.siReject_kept h _ _ _)) (fun _ => (ite_kept (fun _ => (State.siReject_kept h _ _ _)) (fun _ => (ite_kept (fun _ =>
      (State.siReject_kept h _ _ _)) (fun _ => (State.set_kept (State.siBegin_kept h _ _ _) _ _)))))))

theorem State.siCheck_kept [Keeps P] {s : State} (h : P s) (a1 : Port) :
    P (State.siCheck s a1) := by
  unfold State.siCheck
  exact ite_kept (fun _ => (State.siReject_kept h _ _ _)) (fun _ => (ite_kept (fun _ => (State.siReject_kept h _ _ _)) (fun _ => (State.siBegin_kept h
      _ _ _))))

theorem State.siClear_kept [Keeps P] {s : State} (h : P s) (a1 : Port) :
    P (State.siClear s a1) := by
  unfold State.siClear
  exact ite_kept (fun _ => State.siReject_kept h _ _ _) (fun _ => State.siEnd_kept (Keeps.dropRegs _ h) _ _ _)

theorem State.loadDone_kept [Keeps P] [KeepsMaps P] {s : State} (h : P s) :
    P (State.loadDone s) := by
  unfold State.loadDone
  exact ite_kept (fun _ => h) (fun _ => (by extract_lets x0; exact (State.siEnd_kept (ite_kept (fun _ => (State.loadImage_kept h _)) (fun _ => h)) _ _ _)))

theorem State.reshapeDone_kept [Keeps P] [KeepsMaps P] {s : State} (h : P s) :
    P (State.reshapeDone s) := by
  unfold State.reshapeDone
  split
  · exact (ite_kept (fun _ => h) (fun _ => (by extract_lets x0; exact (State.follow_kept (State.siEnd_kept (ite_kept (fun _ => (State.reshapeImage_kept h _ _)) (fun _ => (State.set_kept h _ _))) _ _ _)))))
  · exact h

theorem State.checkDoneSi_kept [Keeps P] {s : State} (h : P s) :
    P (State.checkDoneSi s) := by
  unfold State.checkDoneSi
  exact ite_kept (fun _ => (State.siEnd_kept h _ _ _)) (fun _ => h)

theorem State.siAbandon_kept [Keeps P] {s : State} (h : P s) :
    P (State.siAbandon s) := by
  unfold State.siAbandon
  split
  · exact (ite_kept (fun _ => h) (fun _ => (by extract_lets x0 x1; have h0 : P x0 := (State.set_kept h _ _); have h1 : P x1 := (kept_upd h0); exact (ite_kept (fun _ => (State.set_kept h1 _ _)) (fun _ => h1)))))
  · exact h

theorem execSiCmdLoad_kept [Keeps P] (a0 : Port) {a1 : State} (h1001 : P a1) :
    Out.All P (execSiCmdLoad a0 a1) := by
  unfold execSiCmdLoad
  exact keptOut_of (State.host_kept h1001 _ _ _ _ _ (fun _ h0 => (State.siLoad_kept h0 _)))

theorem execSiCmdReshape_kept [Keeps P] (a0 : Port) (a1 : Fin 64) {a2 : State} (h1002 : P a2) :
    Out.All P (execSiCmdReshape a0 a1 a2) := by
  unfold execSiCmdReshape
  exact keptOut_of (State.host_kept h1002 _ _ _ _ _ (fun _ h0 => (State.siReshape_kept h0 _ _)))

theorem execSiCmdCheck_kept [Keeps P] (a0 : Port) {a1 : State} (h1001 : P a1) :
    Out.All P (execSiCmdCheck a0 a1) := by
  unfold execSiCmdCheck
  exact keptOut_of (State.host_kept h1001 _ _ _ _ _ (fun _ h0 => (State.siCheck_kept h0 _)))

theorem execSiCmdClear_kept [Keeps P] (a0 : Port) {a1 : State} (h1001 : P a1) :
    Out.All P (execSiCmdClear a0 a1) := by
  unfold execSiCmdClear
  exact keptOut_of (State.host_kept h1001 _ _ _ _ _ (fun _ h0 => (State.siClear_kept h0 _)))

theorem execLoadComplete_kept [Keeps P] [KeepsMaps P] {s : State} (h : P s) :
    Out.All P (execLoadComplete s) := by
  unfold execLoadComplete
  exact keptOut_of (State.loadDone_kept h)

theorem execReshapeComplete_kept [Keeps P] [KeepsMaps P] {s : State} (h : P s) :
    Out.All P (execReshapeComplete s) := by
  unfold execReshapeComplete
  exact keptOut_of (State.reshapeDone_kept h)

theorem execCheckComplete_kept [Keeps P] {s : State} (h : P s) :
    Out.All P (execCheckComplete s) := by
  unfold execCheckComplete
  exact keptOut_of (State.checkDoneSi_kept h)

theorem State.svcReject_kept [Keeps P] {s : State} (h : P s) (a1 : Port) (a2 : Nat) (a3 : Nat) :
    P (State.svcReject s a1 a2 a3) := by
  unfold State.svcReject
  exact State.reject_kept h _ _ _ _ _

theorem State.svcBegin_kept [Keeps P] {s : State} (h : P s) (a1 : Nat) (a2 : Nat) (a3 : Nat) :
    P (State.svcBegin s a1 a2 a3) := by
  unfold State.svcBegin
  exact State.set_kept (State.set_kept (State.set_kept h _ _) _ _) _ _

theorem State.svcSpare_kept [Keeps P] {s : State} (h : P s) (a1 : Port) (a2 : Nat) (a3 : Nat) :
    P (State.svcSpare s a1 a2 a3) := by
  unfold State.svcSpare
  exact ite_kept (fun _ => (State.svcReject_kept h _ _ _)) (fun _ => (by split; (exact (State.svcReject_kept h _ _ _)); (exact (by extract_lets x0; have h0 : P x0 := (State.set_kept (State.svcBegin_kept h _ _ _) _ _); exact (ite_kept (fun _ => h0) (fun _ => (State.switchOver_kept h0)))))))

theorem State.spareDue_kept [Keeps P] {s : State} (h : P s) :
    P (State.spareDue s) := by
  unfold State.spareDue
  exact ite_kept (fun _ => h) (fun _ => (by split; (exact (State.switchOver_kept h)); (exact (by extract_lets x0; exact (ite_kept (fun _ => (State.switchOver_kept h)) (fun _ => h))))))

theorem execSwitchOver_kept [Keeps P] {s : State} (h : P s) :
    Out.All P (execSwitchOver s) := by
  unfold execSwitchOver
  exact keptOut_of (State.spareDue_kept h)

theorem execDevSvcSpare_kept [Keeps P] (a0 : Port) (a1 : BitVec 10) (a2 : BitVec 5) {a3 : State} (h1003 : P a3) :
    Out.All P (execDevSvcSpare a0 a1 a2 a3) := by
  unfold execDevSvcSpare
  exact keptOut_of (State.host_kept h1003 _ _ _ _ _ (fun _ h0 => (State.svcSpare_kept h0 _ _ _)))

theorem State.svcCancel_kept [Keeps P] {s : State} (h : P s) (a1 : Port) :
    P (State.svcCancel s a1) := by
  unfold State.svcCancel
  exact ite_kept (fun _ => (State.svcEnd_kept (State.set_kept h _ _) _)) (fun _ => (State.svcReject_kept h _ _ _))

theorem execDevSvcCancel_kept [Keeps P] (a0 : Port) {a1 : State} (h1001 : P a1) :
    Out.All P (execDevSvcCancel a0 a1) := by
  unfold execDevSvcCancel
  exact keptOut_of (State.host_kept h1001 _ _ _ _ _ (fun _ h0 => (State.svcCancel_kept h0 _)))

theorem State.retireSite_kept [Keeps P] {s : State} (h : P s) (a1 : Nat) :
    P (State.retireSite s a1) := by
  unfold State.retireSite
  extract_lets x0 x1 x2 x3 x4
  have h2 : P x2 := (State.clearToken_kept (State.discardOpen_kept h _) _)
  have h3 : P x3 := (ite_kept (fun _ => (State.endStream_kept h2 _)) (fun _ => h2))
  have h4 : P x4 := (State.set_kept (State.freshSite_kept h3 _ _) _ _)
  exact (State.log_kept (State.event_kept (State.refreshLeases_kept (State.releaseFb_kept h4 _)) _ _ _ _) _ _ _ _)

theorem State.svcRetire_kept [Keeps P] {s : State} (h : P s) (a1 : Port) (a2 : Nat) :
    P (State.svcRetire s a1 a2) := by
  unfold State.svcRetire
  exact ite_kept (fun _ => (State.svcReject_kept h _ _ _)) (fun _ => (ite_kept (fun _ => (State.svcReject_kept h _ _ _)) (fun _ => (ite_kept (fun _ =>
      (State.svcReject_kept h _ _ _)) (fun _ => (State.follow_kept (State.svcEnd_kept (State.retireSite_kept (State.svcBegin_kept h _ _ _) _) _)))))))

theorem execDevSvcRetire_kept [Keeps P] (a0 : Port) (a1 : BitVec 10) {a2 : State} (h1002 : P a2) :
    Out.All P (execDevSvcRetire a0 a1 a2) := by
  unfold execDevSvcRetire
  exact keptOut_of (State.host_kept h1002 _ _ _ _ _ (fun _ h0 => (State.svcRetire_kept h0 _ _)))

/-! ### Verb -/

theorem State.microFault_kept [Keeps P] {s : State} (h : P s) (a1 : Nat) :
    P (State.microFault s a1) := by
  unfold State.microFault
  exact State.fault_kept h _ _ _

theorem State.setVerb_kept [Keeps P] {s : State} (h : P s) (a1 : Nat) (a2 : Verb) :
    P (State.setVerb s a1 a2) := by
  unfold State.setVerb
  exact State.setSeq_kept h _ _

theorem State.dispatch_kept [Keeps P] {s : State} (h : P s) (a1 : Nat) (a2 : Word) :
    P (State.dispatch s a1 a2) := by
  unfold State.dispatch
  extract_lets x0 x1 x2 x3 x4 x5
  have h5 : P x5 := (State.setVerb_kept h _ _)
  exact (kept_upd h5)

theorem State.verbToken_kept [Keeps P] {s : State} (h : P s) (a1 : Nat) (a2 : Nat) (a3 : Bool) :
    P (State.verbToken s a1 a2 a3) := by
  unfold State.verbToken
  exact State.set_kept (State.storeToken_kept h _ _) _ _

theorem State.cancelCmd_kept [Keeps P] {s : State} (h : P s) (a1 : Nat) :
    P (State.cancelCmd s a1) := by
  unfold State.cancelCmd
  extract_lets x0 x1
  exact (ite_kept (fun _ => (State.setSeq_kept (State.cancelUnits_kept h _) _ _)) (fun _ => h))

theorem State.verbStop_kept [Keeps P] {s : State} (h : P s) (a1 : Nat) (a2 : Nat) :
    P (State.verbStop s a1 a2) := by
  unfold State.verbStop
  extract_lets x0 x1 x2 x3
  have h1 : P x1 := (State.cancelCmd_kept (ite_kept (fun _ => (State.discardOpen_kept h _)) (fun _ => h)) _)
  exact (ite_kept (fun _ => (State.setSeq_kept (State.cancelUnits_kept h1 _) _ _)) (fun _ => (State.setSeq_kept (State.verbToken_kept h1 _ _ _) _ _)))

theorem State.writeDst_kept [Keeps P] {s : State} (h : P s) (a1 : Nat) (a2 : MicroWord) (a3 : Word) :
    P (State.writeDst s a1 a2 a3) := by
  unfold State.writeDst
  extract_lets x0
  exact (by split; (exact (State.setX_kept h _ _ _)); (exact (State.setSt_kept h _ _)); (exact (State.setVerb_kept h _ _)); (exact (ite_kept (fun _ => (State.bumpFree_kept (State.setVerb_kept h _ _))) (fun _ => (State.setVerb_kept h _ _)))); (exact (ite_kept (fun _ => (State.setVerb_kept h _ _)) (fun _ => h))))

theorem State.microAct_kept [Keeps P] {s : State} (h : P s) (a1 : Nat) (a2 : MicroWord) :
    P (State.microAct s a1 a2) := by
  unfold State.microAct
  extract_lets x0 x1 x2 x3 x4 x5 x6
  exact (by split; (exact (State.microFault_kept h _)); (exact (by extract_lets x7 x8 x9 x10 x11; have h9 : P x9 := (State.writeDst_kept (State.setVerb_kept h _ _) _ _ _); have h10 : P x10 := (ite_kept (fun _ => (State.bumpFree_kept h9)) (fun _ => h9)); exact (ite_kept (fun _ => (State.setVerb_kept h _ _)) (fun _ => (ite_kept (fun _ => (State.microFault_kept h _)) (fun _ => (by split; (exact (State.setVerb_kept h10 _ _)); (exact (State.setVerb_kept h10 _ _)); (exact (State.setVerb_kept h10 _ _)); (exact (State.setVerb_kept h10 _ _)); (exact (ite_kept (fun _ => (State.verbRetire_kept h10 _)) (fun _ => (State.setVerb_kept h10 _ _)))); (exact (State.setVerb_kept h10 _ _))))))))))

theorem State.microword_kept [Keeps P] {s : State} (h : P s) (a1 : Nat) :
    P (State.microword s a1) := by
  unfold State.microword
  exact ite_kept (fun _ => h) (fun _ => (by extract_lets x0 x1 x2; have h2 : P x2 := (State.setVerb_kept h _ _); exact (ite_kept (fun _ => (State.microFault_kept (State.log_kept h _ _ _ _) _)) (fun _ => (ite_kept (fun _ => (ite_kept (fun _ => (State.verbStop_kept h _ _)) (fun _ => (ite_kept (fun _ => h2) (fun _ => (State.microAct_kept h2 _ _)))))) (fun _ => (ite_kept (fun _ => h) (fun _ => (State.microAct_kept h _ _)))))))))

theorem State.starve_kept [Keeps P] {s : State} (h : P s) (a1 : Nat) :
    P (State.starve s a1) := by
  unfold State.starve
  exact ite_kept (fun _ => h) (fun _ => (by extract_lets x0 x1 x2 x3 x4; have h1 : P x1 := (State.verbToken_kept (ite_kept (fun _ => (State.discardOpen_kept h _)) (fun _ => h)) _ _ _); have h3 : P x3 := (State.setSeq_kept h1 _ _); have h4 : P x4 := (State.event_kept (State.log_kept (State.hold_kept h3 _ _) _ _ _ _) _ _ _ _); exact (State.follow_kept (State.inc_kept h4 _))))

theorem State.command_kept [Keeps P] {s : State} (h : P s) (a1 : Nat) (a2 : Nat) (a3 : ExtCmd → State → Option (Nat × Nat)) (a4 : ExtCmd → State →
    State) (h1004 : ∀ b t, P t → P (a4 b t)) :
    P (State.command s a1 a2 a3 a4) := by
  unfold State.command
  split
  · exact h
  · exact (by split; (exact (State.fault_kept h _ _ _)); (exact (h1004 _ _ (State.setVerb_kept h _ _))))

theorem State.onClause_kept [Keeps P] {s : State} (h : P s) (a1 : Nat) (a2 : State → State) (h1002 : ∀ t, P t → P (a2 t)) :
    P (State.onClause s a1 a2) := by
  unfold State.onClause
  exact ite_kept (fun _ => (State.cmdDone_kept h _ _ _)) (fun _ => (h1002 _ h))

theorem State.cmdClopen_kept [Keeps P] {s : State} (h : P s) (a1 : Nat) (a2 : ExtCmd) :
    P (State.cmdClopen s a1 a2) := by
  unfold State.cmdClopen
  split
  · exact (State.cmdDone_kept (State.openClause_kept h _ _ _) _ _ _)
  · exact (State.setWait_kept h _ _)

theorem State.cmdClact_kept [Keeps P] {s : State} (h : P s) (a1 : Nat) (a2 : ExtCmd) :
    P (State.cmdClact s a1 a2) := by
  unfold State.cmdClact
  exact State.onClause_kept h _ _ (fun _ h0 => (State.cmdDone_kept (State.stageOne_kept h0 _ _) _ _ _))

theorem State.cmdCltab_kept [Keeps P] {s : State} (h : P s) (a1 : Nat) (a2 : ExtCmd) :
    P (State.cmdCltab s a1 a2) := by
  unfold State.cmdCltab
  exact State.onClause_kept h _ _ (fun _ h0 => (State.cmdDone_kept (State.stageTable_kept h0 _ _ _) _ _ _))

theorem State.cmdClcommit_kept [Keeps P] {s : State} (h : P s) (a1 : Nat) (a2 : ExtCmd) :
    P (State.cmdClcommit s a1 a2) := by
  unfold State.cmdClcommit
  exact State.onClause_kept h _ _ (fun _ h0 => (State.closeClause_kept h0 _ _ _ _ _))

theorem State.cmdCldiscard_kept [Keeps P] {s : State} (h : P s) (a1 : Nat) :
    P (State.cmdCldiscard s a1) := by
  unfold State.cmdCldiscard
  exact State.onClause_kept h _ _ (fun _ h0 => (State.cmdDone_kept (State.discardOpen_kept h0 _) _ _ _))

theorem State.cmdRdreg_kept [Keeps P] {s : State} (h : P s) (a1 : Nat) (a2 : ExtCmd) :
    P (State.cmdRdreg s a1 a2) := by
  unfold State.cmdRdreg
  exact State.bumpFree_kept (State.cmdDone_kept h _ _ _)

theorem State.cmdRdprog_kept [Keeps P] {s : State} (h : P s) (a1 : Nat) (a2 : ExtCmd) :
    P (State.cmdRdprog s a1 a2) := by
  unfold State.cmdRdprog
  exact State.cmdDone_kept h _ _ _

theorem State.cmdRec_kept [Keeps P] {s : State} (h : P s) (a1 : Nat) (a2 : ExtCmd) :
    P (State.cmdRec s a1 a2) := by
  unfold State.cmdRec
  exact State.cmdDone_kept (State.ownRecord_kept h _ _ _ _ _) _ _ _

theorem State.cmdPlay_kept [Keeps P] {s : State} (h : P s) (a1 : Nat) :
    P (State.cmdPlay s a1) := by
  unfold State.cmdPlay
  split
  · exact h
  · exact (ite_kept (fun _ => (State.fault_kept (State.playLog_kept h _ _ _) _ _ _)) (fun _ => (State.cmdDone_kept (State.play_kept
      (State.setVerb_kept h _ _) _ _ _ _ _) _ _ _)))

theorem State.cmdMeas_kept [Keeps P] {s : State} (h : P s) (a1 : Nat) (a2 : ExtCmd) :
    P (State.cmdMeas s a1 a2) := by
  unfold State.cmdMeas
  exact State.waitUnits_kept (State.startMeas_kept h _ _) _ _ _

theorem State.cmdTmeas_kept [Keeps P] {s : State} (h : P s) (a1 : Nat) (a2 : ExtCmd) :
    P (State.cmdTmeas s a1 a2) := by
  unfold State.cmdTmeas
  exact State.waitUnits_kept (State.startTmeas_kept h _ _) _ _ _

theorem State.cmdLtest_kept [Keeps P] {s : State} (h : P s) (a1 : Nat) (a2 : ExtCmd) :
    P (State.cmdLtest s a1 a2) := by
  unfold State.cmdLtest
  exact State.waitUnits_kept (State.ltestStart_kept h _ _ _ _) _ _ _

theorem State.cmdAcc_kept [Keeps P] {s : State} (h : P s) (a1 : Nat) (a2 : ExtCmd) :
    P (State.cmdAcc s a1 a2) := by
  unfold State.cmdAcc
  extract_lets x0
  have h0 : P x0 := (State.cmdDone_kept h _ _ _)
  exact (ite_kept (fun _ => (State.accReset_kept h0 _)) (fun _ => h0))

theorem State.cmdHold_kept [Keeps P] {s : State} (h : P s) (a1 : Nat) (a2 : ExtCmd) :
    P (State.cmdHold s a1 a2) := by
  unfold State.cmdHold
  exact State.follow_kept (State.hold_kept (State.cmdDone_kept (State.userHold_kept h _ _) _ _ _) _ _)

theorem State.cmdEnd_kept [Keeps P] {s : State} (h : P s) (a1 : Nat) :
    P (State.cmdEnd s a1) := by
  unfold State.cmdEnd
  exact State.setWait_kept (State.discardOpen_kept h _) _ _

theorem State.cmdArmf_kept [Keeps P] {s : State} (h : P s) (a1 : Nat) (a2 : ExtCmd) :
    P (State.cmdArmf s a1 a2) := by
  unfold State.cmdArmf
  exact State.waitFollow_kept h _ _ _ _

theorem State.cmdArmp_kept [Keeps P] {s : State} (h : P s) (a1 : Nat) (a2 : ExtCmd) :
    P (State.cmdArmp s a1 a2) := by
  unfold State.cmdArmp
  exact State.setWait_kept h _ _

theorem State.cmdPushpc_kept [Keeps P] {s : State} (h : P s) (a1 : Nat) (a2 : ExtCmd) :
    P (State.cmdPushpc s a1 a2) := by
  unfold State.cmdPushpc
  exact State.cmdDone_kept (State.pushPc_kept h _ _) _ _ _

theorem State.cmdPoppc_kept [Keeps P] {s : State} (h : P s) (a1 : Nat) :
    P (State.cmdPoppc s a1) := by
  unfold State.cmdPoppc
  extract_lets x0
  have h0 : P x0.2 := (State.popPc_kept h _)
  exact (State.cmdDone_kept h0 _ _ _)

theorem State.cmdFault_kept [Keeps P] {s : State} (h : P s) (a1 : Nat) (a2 : ExtCmd) :
    P (State.cmdFault s a1 a2) := by
  unfold State.cmdFault
  extract_lets x0
  exact (ite_kept (fun _ => (State.bumpFree_kept (State.faultBy_kept h _ _ _ (fun _ h1 => (State.event_kept h1 _ _ _ _))))) (fun _ =>
      (State.fault_kept h _ _ _)))

/-! ### Timebase -/

theorem State.unframe_kept [Keeps P] {s : State} (h : P s) :
    P (State.unframe s) := by
  unfold State.unframe
  extract_lets x0 x1 x2
  have h0 : P x0 := (ite_kept (fun _ => (State.log_kept (State.set_kept h _ _) _ _ _ _)) (fun _ => h))
  have h1 : P x1 := (State.set_kept h0 _ _)
  exact (kept_upd h1)

theorem State.loseFraming_kept [Keeps P] {s : State} (h : P s) :
    P (State.loseFraming s) := by
  unfold State.loseFraming
  exact ite_kept (fun _ => (State.alert_kept (State.unframe_kept h) _)) (fun _ => (State.unframe_kept h))

theorem State.badFrame_kept [Keeps P] {s : State} (h : P s) (a1 : BitVec 64) :
    P (State.badFrame s a1) := by
  unfold State.badFrame
  exact ite_kept (fun _ => (kept_upd h)) (fun _ => (by extract_lets x0 x1 x2; have h0 : P x0 := (ite_kept (fun _ => (State.inc_kept h _)) (fun _ => (ite_kept (fun _ => h) (fun _ => (State.inc_kept h _))))); have h1 : P x1 := (ite_kept (fun _ => (State.snapMissed_kept h0 _)) (fun _ => h0)); exact (ite_kept (fun _ => (State.loseFraming_kept h1)) (fun _ => (kept_upd h1)))))

theorem State.invertSync_kept [Keeps P] {s : State} (h : P s) :
    P (State.invertSync s) := by
  unfold State.invertSync
  exact State.log_kept (State.set_kept h _ _) _ _ _ _

theorem State.framing_kept [Keeps P] {s : State} (h : P s) (a1 : Nat) :
    P (State.framing s a1) := by
  unfold State.framing
  extract_lets x0 x1 x2
  have h1 : P x1 := (State.set_kept h _ _)
  exact (ite_kept (fun _ => (kept_upd h1)) (fun _ => (kept_upd h)))

theorem State.rxFrame_kept [Keeps P] {s : State} (h : P s) (a1 : BitVec 64) (a2 : Nat) (a3 : List Nat) (a4 : BitVec 64 → State → State) (h1004 : ∀ b
    t, P t → P (a4 b t)) :
    P (State.rxFrame s a1 a2 a3 a4) := by
  unfold State.rxFrame
  extract_lets x0
  exact (ite_kept (fun _ => h) (fun _ => (by split; (exact (State.badFrame_kept h _)); (exact (ite_kept (fun _ => h) (fun _ => (by extract_lets x1 x2 x3 x4; have h1 : P x1 := (State.set_kept (ite_kept (fun _ => h) (fun _ => (State.invertSync_kept h))) _ _); have h2 : P x2 := (State.framing_kept h1 _); have h3 : P x3 := (State.inc_kept h1 _); exact (ite_kept (fun _ => (ite_kept (fun _ => (State.snapMissed_kept h2 _)) (fun _ => h2))) (fun _ => (h1004 _ _ (kept_upd h3)))))))))))

theorem State.setCounter_kept [Keeps P] {s : State} (h : P s) (a1 : Nat) :
    P (State.setCounter s a1) := by
  unfold State.setCounter
  extract_lets x0
  have h0 : P x0 := (State.set_kept h _ _)
  exact (kept_upd h0)

theorem State.dueHolds_kept [Keeps P] {s : State} (h : P s) :
    P (State.dueHolds s) := by
  unfold State.dueHolds
  exact State.follow_kept (State.actHolds_kept h _)

theorem State.queueHolds_kept [Keeps P] {s : State} (h : P s) (a1 : List Nat) (a2 : Nat) (a3 : Nat) (a4 : Bool) :
    P (State.queueHolds s a1 a2 a3 a4) := by
  unfold State.queueHolds
  exact kept_upd h

theorem State.slip_kept [Keeps P] {s : State} (h : P s) (a1 : Nat) :
    P (State.slip s a1) := by
  unfold State.slip
  extract_lets x0
  have h0 : P x0 := (State.alert_kept (State.log_kept (State.set_kept h _ _) _ _ _ _) _)
  exact (ite_kept (fun _ => (State.dueHolds_kept (State.queueHolds_kept h0 _ _ _ _))) (fun _ => (State.setCounter_kept h0 _)))

theorem State.onEpoch_kept [Keeps P] {s : State} (h : P s) (a1 : BitVec 64) :
    P (State.onEpoch s a1) := by
  unfold State.onEpoch
  extract_lets x0 x1 x2
  have h2 : P x2 := (State.set_kept h _ _)
  exact (ite_kept (fun _ => (ite_kept (fun _ => (State.setCounter_kept h2 _)) (fun _ => h))) (fun _ => (ite_kept (fun _ => h2) (fun _ => (ite_kept
      (fun _ => (State.slip_kept h _)) (fun _ => (State.slip_kept h2 _)))))))

theorem State.onIdle_kept [Keeps P] {s : State} (h : P s) (a1 : BitVec 64) :
    P (State.onIdle s a1) := by
  unfold State.onIdle
  extract_lets x0 x1
  exact (ite_kept (fun _ => h) (fun _ => (State.slip_kept h _)))

theorem State.onDecision_kept [Keeps P] {s : State} (h : P s) (a1 : Bool) (a2 : BitVec 64) :
    P (State.onDecision s a1 a2) := by
  unfold State.onDecision
  exact ite_kept (fun _ => (State.follow_kept (State.decision_kept h _ _ _))) (fun _ => h)

theorem State.onSnapshot_kept [Keeps P] {s : State} (h : P s) (a1 : Bool) (a2 : BitVec 64) :
    P (State.onSnapshot s a1 a2) := by
  unfold State.onSnapshot
  extract_lets x0 x1 x2 x3 x4
  have h4 : P x4 := (kept_upd h)
  exact (ite_kept (fun _ => (State.snapMissed_kept h4 _)) (fun _ => (State.schedule_kept h4 _ _ _)))

theorem State.onHold_kept [Keeps P] {s : State} (h : P s) (a1 : Bool) (a2 : BitVec 64) :
    P (State.onHold s a1 a2) := by
  unfold State.onHold
  exact ite_kept (fun _ => h) (fun _ => (by extract_lets x0; exact (State.dueHolds_kept (State.queueHolds_kept h _ _ _ _))))

theorem State.tbCtrlWrite_kept [Keeps P] {s : State} (h : P s) (a1 : Port) (a2 : Word) :
    P (State.tbCtrlWrite s a1 a2) := by
  unfold State.tbCtrlWrite
  extract_lets x0 x1 x2 x3 x4 x5
  have h3 : P x3 := (State.setReg_kept h _ _)
  have h5 : P x5 := (ite_kept (fun _ => (kept_upd h3)) (fun _ => h3))
  exact (ite_kept (fun _ => (State.reject_kept h _ _ _ _ _)) (fun _ => (ite_kept (fun _ => (State.unframe_kept h5)) (fun _ => h5))))

theorem State.tbLoadWrite_kept [Keeps P] {s : State} (h : P s) (a1 : Port) (a2 : Nat) :
    P (State.tbLoadWrite s a1 a2) := by
  unfold State.tbLoadWrite
  exact ite_kept (fun _ => (kept_upd h)) (fun _ => (State.reject_kept h _ _ _ _ _))

theorem State.rootCmd_kept [Keeps P] {s : State} (h : P s) (a1 : Port) (a2 : Nat) (a3 : Nat) :
    P (State.rootCmd s a1 a2 a3) := by
  unfold State.rootCmd
  extract_lets x0 x1
  exact (ite_kept (fun _ => (State.reject_kept h _ _ _ _ _)) (fun _ => (by split; (exact (State.reject_kept h _ _ _ _ _)); (exact (kept_upd h)))))

theorem State.phaseCheck_kept [Keeps P] {s : State} (h : P s) (a1 : Nat) :
    P (State.phaseCheck s a1) := by
  unfold State.phaseCheck
  exact ite_kept (fun _ => h) (fun _ => (by extract_lets x0; have h0 : P x0 := (State.set_kept h _ _); exact (ite_kept (fun _ => h0) (fun _ => (ite_kept (fun _ => (ite_kept (fun _ => (State.log_kept (State.set_kept (State.set_kept h0 _ _) _ _) _ _ _ _)) (fun _ => h0))) (fun _ => (State.alert_kept (State.set_kept h0 _ _) _)))))))

theorem State.pllLock_kept [Keeps P] {s : State} (h : P s) :
    P (State.pllLock s) := by
  unfold State.pllLock
  extract_lets x0 x1
  have h0 : P x0 := (State.set_kept h _ _)
  exact (kept_upd h0)

theorem State.launch_kept [Keeps P] {s : State} (h : P s) (a1 : Nat) (a2 : Nat) :
    P (State.launch s a1 a2) := by
  unfold State.launch
  exact kept_upd h

theorem State.launchDec_kept [Keeps P] {s : State} (h : P s) (a1 : RootDec) (a2 : Bool) :
    P (State.launchDec s a1 a2) := by
  unfold State.launchDec
  exact State.launch_kept h _ _

theorem State.syncLaunch_kept [Keeps P] {s : State} (h : P s) (a1 : Bool) :
    P (State.syncLaunch s a1) := by
  unfold State.syncLaunch
  exact ite_kept (fun _ => h) (fun _ => (by extract_lets x0 x1 x2 x3 x4 x5; have h0 : P x0 := (kept_upd h); have h4 : P x4 := (ite_kept (fun _ => (State.set_kept h0 _ _)) (fun _ => h0)); exact (ite_kept (fun _ => (State.launch_kept h0 _ _)) (fun _ => (by split; (exact (by extract_lets x6; exact (State.launchDec_kept (kept_upd h4) _ _))); (exact (State.launchDec_kept h0 _ _)); (exact (State.launch_kept (kept_upd h0) _ _)); (exact (State.launch_kept h0 _ _)))))))

theorem State.statusLaunch_kept [Keeps P] {s : State} (h : P s) (a1 : Bool) :
    P (State.statusLaunch s a1) := by
  unfold State.statusLaunch
  exact ite_kept (fun _ => h) (fun _ => (by extract_lets x0; have h0 : P x0 := (kept_upd h); exact (State.launch_kept h0 _ _)))

theorem State.wakeFollow_kept [Keeps P] {s : State} (h : P s) (a1 : Nat) (a2 : Nat) :
    P (State.wakeFollow s a1 a2) := by
  unfold State.wakeFollow
  split
  · exact (ite_kept (fun _ => h) (fun _ => (ite_kept (fun _ => (State.finishWait_kept h _ _ _ _ _)) (fun _ => (State.setSeq_kept h _ _)))))
  · exact h

theorem State.followEdge_kept [Keeps P] {s : State} (h : P s) (a1 : Nat) (a2 : Bool) (a3 : Nat) :
    P (State.followEdge s a1 a2 a3) := by
  unfold State.followEdge
  extract_lets x0 x1 x2 x3 x4
  have h2 : P x2 := (State.set_kept (State.inc_kept h _) _ _)
  have h3 : P x3 := (kept_upd h2)
  have h4 : P x4 := (ite_kept (fun _ => (State.set_kept (State.set_kept h3 _ _) _ _)) (fun _ => h3))
  exact (ite_kept (fun _ => h) (fun _ => (State.wakeFollow_kept h4 _ _)))

theorem State.followStall_kept [Keeps P] {s : State} (h : P s) (a1 : Nat) :
    P (State.followStall s a1) := by
  unfold State.followStall
  extract_lets x0 x1
  exact (ite_kept (fun _ => (State.bumpFree_kept (State.event_kept (kept_upd h) _ _ _ _))) (fun _ => h))

theorem execPllLock_kept [Keeps P] {s : State} (h : P s) :
    Out.All P (execPllLock s) := by
  unfold execPllLock
  exact keptOut_of (State.pllLock_kept h)

theorem execTbLoad_kept [Keeps P] (a0 : Port) (a1 : BitVec 64) {a2 : State} (h1002 : P a2) :
    Out.All P (execTbLoad a0 a1 a2) := by
  unfold execTbLoad
  exact keptOut_of (State.host_kept h1002 _ _ _ _ _ (fun _ h0 => (State.tbLoadWrite_kept h0 _ _)))

theorem execTbCtrlWrite_kept [Keeps P] (a0 : Port) (a1 : Word) {a2 : State} (h1002 : P a2) :
    Out.All P (execTbCtrlWrite a0 a1 a2) := by
  unfold execTbCtrlWrite
  exact keptOut_of (State.tbCtrlWrite_kept h1002 _ _)

theorem execEpochFrame_kept [Keeps P] (a0 : BitVec 64) (a1 : Fin 64) {a2 : State} (h1002 : P a2) :
    Out.All P (execEpochFrame a0 a1 a2) := by
  unfold execEpochFrame
  exact keptOut_of (State.rxFrame_kept h1002 _ _ _ _ (fun _ _ h0 => (State.onEpoch_kept h0 _)))

theorem execIdleFrame_kept [Keeps P] (a0 : BitVec 64) (a1 : Fin 64) {a2 : State} (h1002 : P a2) :
    Out.All P (execIdleFrame a0 a1 a2) := by
  unfold execIdleFrame
  exact keptOut_of (State.rxFrame_kept h1002 _ _ _ _ (fun _ _ h0 => (State.onIdle_kept h0 _)))

theorem execCommitFrame_kept [Keeps P] (a0 : BitVec 64) (a1 : Fin 64) {a2 : State} (h1002 : P a2) :
    Out.All P (execCommitFrame a0 a1 a2) := by
  unfold execCommitFrame
  exact keptOut_of (State.rxFrame_kept h1002 _ _ _ _ (fun _ _ h0 => (State.onDecision_kept h0 _ _)))

theorem execAbortFrame_kept [Keeps P] (a0 : BitVec 64) (a1 : Fin 64) {a2 : State} (h1002 : P a2) :
    Out.All P (execAbortFrame a0 a1 a2) := by
  unfold execAbortFrame
  exact keptOut_of (State.rxFrame_kept h1002 _ _ _ _ (fun _ _ h0 => (State.onDecision_kept h0 _ _)))

theorem execSnapshotFrame_kept [Keeps P] (a0 : BitVec 64) (a1 : Fin 64) (a2 : Bool) {a3 : State} (h1003 : P a3) :
    Out.All P (execSnapshotFrame a0 a1 a2 a3) := by
  unfold execSnapshotFrame
  exact keptOut_of (State.rxFrame_kept h1003 _ _ _ _ (fun _ _ h0 => (State.onSnapshot_kept h0 _ _)))

theorem execHoldFrame_kept [Keeps P] (a0 : BitVec 64) (a1 : Fin 64) {a2 : State} (h1002 : P a2) :
    Out.All P (execHoldFrame a0 a1 a2) := by
  unfold execHoldFrame
  exact keptOut_of (State.rxFrame_kept h1002 _ _ _ _ (fun _ _ h0 => (State.onHold_kept h0 _ _)))

theorem execReleaseFrame_kept [Keeps P] (a0 : BitVec 64) (a1 : Fin 64) {a2 : State} (h1002 : P a2) :
    Out.All P (execReleaseFrame a0 a1 a2) := by
  unfold execReleaseFrame
  exact keptOut_of (State.rxFrame_kept h1002 _ _ _ _ (fun _ _ h0 => (State.onHold_kept h0 _ _)))

theorem execReservedFrame_kept [Keeps P] (a0 : BitVec 64) (a1 : Fin 64) {a2 : State} (h1002 : P a2) :
    Out.All P (execReservedFrame a0 a1 a2) := by
  unfold execReservedFrame
  exact keptOut_of (State.rxFrame_kept h1002 _ _ _ _ (fun _ _ h0 => h0))

theorem execBadSyncFrame_kept [Keeps P] (a0 : BitVec 64) (a1 : Fin 64) {a2 : State} (h1002 : P a2) :
    Out.All P (execBadSyncFrame a0 a1 a2) := by
  unfold execBadSyncFrame
  exact keptOut_of (State.rxFrame_kept h1002 _ _ _ _ (fun _ _ h0 => h0))

theorem execRefclkInverted_kept [Keeps P] (a0 : Fin 2048) {a1 : State} (h1001 : P a1) :
    Out.All P (execRefclkInverted a0 a1) := by
  unfold execRefclkInverted
  exact keptOut_of (State.phaseCheck_kept h1001 _)

theorem execSyncFrameLaunch_kept [Keeps P] (a0 : Bool) {a1 : State} (h1001 : P a1) :
    Out.All P (execSyncFrameLaunch a0 a1) := by
  unfold execSyncFrameLaunch
  exact keptOut_of (State.syncLaunch_kept h1001 _)

theorem execStatusFrameLaunch_kept [Keeps P] (a0 : Bool) {a1 : State} (h1001 : P a1) :
    Out.All P (execStatusFrameLaunch a0 a1) := by
  unfold execStatusFrameLaunch
  exact keptOut_of (State.statusLaunch_kept h1001 _)

theorem execTbRootCmdHold_kept [Keeps P] (a0 : Port) (a1 : BitVec 24) {a2 : State} (h1002 : P a2) :
    Out.All P (execTbRootCmdHold a0 a1 a2) := by
  unfold execTbRootCmdHold
  exact keptOut_of (State.host_kept h1002 _ _ _ _ _ (fun _ h0 => (State.rootCmd_kept h0 _ _ _)))

theorem execTbRootCmdRelease_kept [Keeps P] (a0 : Port) (a1 : BitVec 24) {a2 : State} (h1002 : P a2) :
    Out.All P (execTbRootCmdRelease a0 a1 a2) := by
  unfold execTbRootCmdRelease
  exact keptOut_of (State.host_kept h1002 _ _ _ _ _ (fun _ h0 => (State.rootCmd_kept h0 _ _ _)))

theorem execFollowEdge_kept [Keeps P] (a0 : Fin 64) (a1 : Bool) (a2 : BitVec 16) {a3 : State} (h1003 : P a3) :
    Out.All P (execFollowEdge a0 a1 a2 a3) := by
  unfold execFollowEdge
  exact keptOut_of (State.followEdge_kept h1003 _ _ _)

theorem execFollowStall_kept [Keeps P] (a0 : Fin 64) {a1 : State} (h1001 : P a1) :
    Out.All P (execFollowStall a0 a1) := by
  unfold execFollowStall
  exact keptOut_of (State.followStall_kept h1001 _)

end Sys2Proof.Machine
end

