-- ==== Sys2Proof/Laws/KeepsModes.lean ====
section
/-! SUPPORT. What the primitive operations keep, every operation of one group keeps: modes, housekeeping and the events of the units. One lemma an operation, each
assembled from those of the operations it calls. -/

namespace Sys2Proof.Machine

variable {P : State → Prop}

/-! ### Modes -/

theorem State.dropCycles_kept [Keeps P] {s : State} (h : P s) :
    P (State.dropCycles s) := by
  unfold State.dropCycles
  exact State.forN_kept _ _ (fun _ _ h0 => (ite_kept (fun _ => h0) (fun _ => (State.liveEnd_kept h0 _)))) h

theorem State.enterMode_kept [Keeps P] [KeepsMaps P] {s : State} (h : P s) (a1 : Nat) :
    P (State.enterMode s a1) := by
  unfold State.enterMode
  exact ite_kept (fun _ => (by extract_lets x0; have h0 : P x0 := (State.clearStructure_kept h); exact (ite_kept (fun _ => (State.discover_kept h0)) (fun _ => h0)))) (fun _ => (ite_kept (fun _ => (State.contactStart_kept h)) (fun _ => (ite_kept (fun _ => (kept_upd h)) (fun _ => h)))))

theorem State.setMode_kept [Keeps P] [KeepsMaps P] {s : State} (h : P s) (a1 : Nat) (a2 : Nat) :
    P (State.setMode s a1 a2) := by
  unfold State.setMode
  extract_lets x0 x1 x2 x3 x4
  have h1 : P x1 := (ite_kept (fun _ => (State.discAbort_kept h)) (fun _ => (ite_kept (fun _ => (State.contactAbort_kept h)) (fun _ => h))))
  have h2 : P x2 := (State.set_kept (State.set_kept (State.set_kept (State.set_kept h1 _ _) _ _) _ _) _ _)
  have h4 : P x4 := (kept_upd h2)
  exact (State.enterMode_kept (State.dropCycles_kept h4) _)

theorem State.modeTake_kept [Keeps P] [KeepsMaps P] {s : State} (h : P s) (a1 : Nat) (a2 : Nat) :
    P (State.modeTake s a1 a2) := by
  unfold State.modeTake
  exact ite_kept (fun _ => h) (fun _ => (ite_kept (fun _ => (State.setMode_kept (State.set_kept h _ _) _ _)) (fun _ => (ite_kept (fun _ =>
      (State.setMode_kept h _ _)) (fun _ => (State.setMode_kept h _ _))))))

theorem State.modeFields_kept [Keeps P] {s : State} (h : P s) (a1 : Word) :
    P (State.modeFields s a1) := by
  unfold State.modeFields
  exact State.set_kept (State.set_kept (State.set_kept h _ _) _ _) _ _

theorem State.modeWrite_kept [Keeps P] [KeepsMaps P] {s : State} (h : P s) (a1 : Port) (a2 : Word) :
    P (State.modeWrite s a1 a2) := by
  unfold State.modeWrite
  extract_lets t bad
  have hb : ∀ c, P (bad c) := fun c => State.reject_kept h _ _ _ _ _
  refine ite_kept (fun _ => ite_kept (fun _ => State.follow_kept (State.modeTake_kept (State.modeFields_kept h _) _ _)) (fun _ => hb _))
    (fun _ => ite_kept (fun _ => hb _) (fun _ => ?_))
  split
  · exact hb _
  · exact kept_upd (State.set_kept (State.modeFields_kept h _) _ _)

theorem State.modeDue_kept [Keeps P] [KeepsMaps P] {s : State} (h : P s) :
    P (State.modeDue s) := by
  unfold State.modeDue
  split
  · exact (ite_kept (fun _ => h) (fun _ => (by extract_lets x0 x1; have h0 : P x0 := (State.set_kept h _ _); have h1 : P x1 := (kept_upd h0); exact (ite_kept (fun _ => (State.follow_kept (State.modeTake_kept h1 _ _))) (fun _ => (State.log_kept (State.set_kept h1 _ _) _ _ _ _))))))
  · exact h

theorem State.cancelMode_kept [Keeps P] {s : State} (h : P s) :
    P (State.cancelMode s) := by
  unfold State.cancelMode
  extract_lets x0
  have h0 : P x0 := (State.set_kept h _ _)
  exact (kept_upd h0)

theorem State.modeReq_kept [Keeps P] [KeepsMaps P] {s : State} (h : P s) (a1 : Port) (a2 : Nat) (a3 : Option (BitVec 64)) :
    P (State.modeReq s a1 a2 a3) := by
  unfold State.modeReq
  exact State.host_kept h _ _ _ _ _ (fun _ h0 => (State.modeWrite_kept h0 _ _))

theorem State.outOff_kept [Keeps P] {s : State} (h : P s) (a1 : Nat) :
    P (State.outOff s a1) := by
  unfold State.outOff
  extract_lets x0 x1 x2 x3
  have h2 : P x2 := (State.armHook_kept (State.setShadow_kept (State.setReg_kept h _ _) _ _) _ _)
  exact (ite_kept (fun _ => h) (fun _ => (State.setChan_kept h2 _ _)))

theorem State.leaveOperation_kept [Keeps P] {s : State} (h : P s) :
    P (State.leaveOperation s) := by
  unfold State.leaveOperation
  extract_lets x0 x1 x3 x6 x9
  have h0 : P x0 := (State.loseClauses_kept (State.siAbandon_kept h))
  have h1 : P x1 := (State.forL_kept _ _ (fun _ _ h2 => (State.endStream_kept h2 _)) h0)
  have h3 : P x3 := (State.forN_kept _ _ (fun _ _ h4 => (State.dpsForceOff_kept h4 _)) (State.forN_kept _ _ (fun _ _ h5 => (State.outOff_kept h5 _))
      h1))
  have h6 : P x6 := (State.forN_kept _ _ (fun _ _ h7 => (State.laneOff_kept h7 _)) (State.forN_kept _ _ (fun _ _ h8 => (State.wfOff_kept h8 _)) h3))
  have h9 : P x9 := (State.forN_kept _ _ (fun _ _ h10 => (ite_kept (fun _ => h10) (fun _ => (State.toLoaded_kept h10 _)))) h6)
  exact (State.calOvertake_kept (ite_kept (fun _ => (State.set_kept h9 _ _)) (fun _ => h9)))

theorem State.refclkLost_kept [Keeps P] [KeepsMaps P] {s : State} (h : P s) :
    P (State.refclkLost s) := by
  unfold State.refclkLost
  extract_lets x0 x1 x2 x3
  have h0 : P x0 := (State.log_kept (State.alert_kept h _) _ _ _ _)
  have h1 : P x1 := (ite_kept (fun _ => h0) (fun _ => (State.setMode_kept (State.leaveOperation_kept h0) _ _)))
  have h2 : P x2 := (State.unframe_kept (State.set_kept (State.set_kept (State.set_kept h1 _ _) _ _) _ _))
  exact (State.follow_kept (kept_upd h2))

theorem State.lgMarched_kept [Keeps P] {s : State} (h : P s) :
    P (State.lgMarched s) := by
  unfold State.lgMarched
  exact kept_upd h

theorem State.selfTestDone_kept [Keeps P] [KeepsMaps P] {s : State} (h : P s) (a1 : SelfTestObs) :
    P (State.selfTestDone s a1) := by
  unfold State.selfTestDone
  split
  · exact h
  · exact (by extract_lets x0 x1 x3 x5 x6 x7 x8 x9; have h1 : P x1 := (State.forN_kept _ _ (fun _ _ h2 => (State.selfOutcome_kept h2 _ _)) h); have h3 : P x3 := (State.forL_kept _ _ (fun _ _ h4 => (ite_kept (fun _ => (State.selfWrite_kept h4 _ _)) (fun _ => (State.selfBad_kept h4 _)))) h1); have h7 : P x7 := (ite_kept (fun _ => (State.lgMarched_kept h3)) (fun _ => h3)); have h8 : P x8 := (State.set_kept (State.set_kept h7 _ _) _ _); have h9 : P x9 := (State.set_kept (State.set_kept (State.set_kept h8 _ _) _ _) _ _); exact (State.follow_kept (State.setMode_kept (State.set_kept (State.set_kept h9 _ _) _ _) _ _)))

theorem State.ownTraces_kept [Keeps P] {s : State} (h : P s) :
    P (State.ownTraces s) := by
  unfold State.ownTraces
  exact State.forN_kept _ _ (fun _ _ h0 => (State.set_kept (State.set_kept h0 _ _) _ _)) h

theorem State.softClear_kept [Keeps P] [KeepsMaps P] {s : State} (h : P s) :
    P (State.softClear s) := by
  unfold State.softClear
  refine State.ownTraces_kept (State.setMaps_kept ?_ _ _ _)
  exact upd_of (Keeps.soft h) rfl rfl rfl rfl rfl rfl rfl rfl rfl rfl

theorem State.devReset_kept [Keeps P] {s : State} (h : P s) :
    P (State.devReset s) := by
  unfold State.devReset
  exact State.setReg_kept (State.set_kept (State.cancelMode_kept h) _ _) _ _

theorem State.softReset_kept [Keeps P] [KeepsMaps P] {s : State} (h : P s) (a1 : Port) :
    P (State.softReset s a1) := by
  unfold State.softReset
  exact ite_kept (fun _ => (State.set_kept (State.devReset_kept (State.softClear_kept (State.setMode_kept h _ _))) _ _)) (fun _ => (State.reject_kept
      h _ _ _ _ _))

theorem State.pinReset_kept [Keeps P] [KeepsReset P] {s : State} (h : P s) :
    P (State.pinReset s) := by
  unfold State.pinReset
  extract_lets x0 x1 x2 x3
  have h0 : P x0 := (State.set_kept (State.keepMem_kept (State.hardReset_kept h) h) _ _)
  have h1 : P x1 := (State.set_kept h0 _ _)
  exact (kept_upd h1)

theorem State.initDone_kept [Keeps P] [KeepsMaps P] {s : State} (h : P s) :
    P (State.initDone s) := by
  unfold State.initDone
  exact ite_kept (fun _ => h) (fun _ => (by extract_lets x0 x1; have h0 : P x0 := (State.deriveKeys_kept h); have h1 : P x1 := (by unfold x1; split; (exact h0); (exact (State.set_kept (State.set_kept h0 _ _) _ _))); exact (State.set_kept (State.setMode_kept h1 _ _) _ _)))

theorem State.brownOut_kept [Keeps P] [KeepsReset P] {s : State} (h : P s) (a1 : Bool) :
    P (State.brownOut s a1) := by
  unfold State.brownOut
  extract_lets x0
  have h0 : P x0 := (ite_kept (fun _ => (State.keepMem_kept (State.hardReset_kept h) h)) (fun _ => (State.hardReset_kept h)))
  exact (kept_upd h0)

theorem execRefclkLost_kept [Keeps P] [KeepsMaps P] {s : State} (h : P s) :
    Out.All P (execRefclkLost s) := by
  unfold execRefclkLost
  exact keptOut_of (State.refclkLost_kept h)

theorem execResetN_kept [Keeps P] [KeepsReset P] {s : State} (h : P s) :
    Out.All P (execResetN s) := by
  unfold execResetN
  exact keptOut_of (State.pinReset_kept h)

theorem execModeReqSafe_kept [Keeps P] [KeepsMaps P] (a0 : Port) (a1 : Option (BitVec 64)) {a2 : State} (h1002 : P a2) :
    Out.All P (execModeReqSafe a0 a1 a2) := by
  unfold execModeReqSafe
  exact keptOut_of (State.modeReq_kept h1002 _ _ _)

theorem execModeReqDiscover_kept [Keeps P] [KeepsMaps P] (a0 : Port) (a1 : Option (BitVec 64)) {a2 : State} (h1002 : P a2) :
    Out.All P (execModeReqDiscover a0 a1 a2) := by
  unfold execModeReqDiscover
  exact keptOut_of (State.modeReq_kept h1002 _ _ _)

theorem execModeReqShape_kept [Keeps P] [KeepsMaps P] (a0 : Port) (a1 : Option (BitVec 64)) {a2 : State} (h1002 : P a2) :
    Out.All P (execModeReqShape a0 a1 a2) := by
  unfold execModeReqShape
  exact keptOut_of (State.modeReq_kept h1002 _ _ _)

theorem execModeReqRefcal_kept [Keeps P] [KeepsMaps P] (a0 : Port) (a1 : Option (BitVec 64)) {a2 : State} (h1002 : P a2) :
    Out.All P (execModeReqRefcal a0 a1 a2) := by
  unfold execModeReqRefcal
  exact keptOut_of (State.modeReq_kept h1002 _ _ _)

theorem execModeReqStandby_kept [Keeps P] [KeepsMaps P] (a0 : Port) (a1 : Option (BitVec 64)) {a2 : State} (h1002 : P a2) :
    Out.All P (execModeReqStandby a0 a1 a2) := by
  unfold execModeReqStandby
  exact keptOut_of (State.modeReq_kept h1002 _ _ _)

theorem execModeReqReady_kept [Keeps P] [KeepsMaps P] (a0 : Port) (a1 : Option (BitVec 64)) {a2 : State} (h1002 : P a2) :
    Out.All P (execModeReqReady a0 a1 a2) := by
  unfold execModeReqReady
  exact keptOut_of (State.modeReq_kept h1002 _ _ _)

theorem execModeReqContact_kept [Keeps P] [KeepsMaps P] (a0 : Port) (a1 : Option (BitVec 64)) {a2 : State} (h1002 : P a2) :
    Out.All P (execModeReqContact a0 a1 a2) := by
  unfold execModeReqContact
  exact keptOut_of (State.modeReq_kept h1002 _ _ _)

theorem execModeReqRun_kept [Keeps P] [KeepsMaps P] (a0 : Port) (a1 : Option (BitVec 64)) {a2 : State} (h1002 : P a2) :
    Out.All P (execModeReqRun a0 a1 a2) := by
  unfold execModeReqRun
  exact keptOut_of (State.modeReq_kept h1002 _ _ _)

theorem execModeReqSelftest_kept [Keeps P] [KeepsMaps P] (a0 : Port) (a1 : Option (BitVec 64)) {a2 : State} (h1002 : P a2) :
    Out.All P (execModeReqSelftest a0 a1 a2) := by
  unfold execModeReqSelftest
  exact keptOut_of (State.modeReq_kept h1002 _ _ _)

theorem execModeReqForbidden_kept [Keeps P] [KeepsMaps P] (a0 : Port) (a1 : BitVec 4) (a2 : Option (BitVec 64)) {a3 : State} (h1003 : P a3) :
    Out.All P (execModeReqForbidden a0 a1 a2 a3) := by
  unfold execModeReqForbidden
  exact keptOut_of (State.modeReq_kept h1003 _ _ _)

theorem execScheduledModeRequest_kept [Keeps P] [KeepsMaps P] {s : State} (h : P s) :
    Out.All P (execScheduledModeRequest s) := by
  unfold execScheduledModeRequest
  exact keptOut_of (State.modeDue_kept h)

theorem execDevCmdSoftReset_kept [Keeps P] [KeepsMaps P] (a0 : Port) {a1 : State} (h1001 : P a1) :
    Out.All P (execDevCmdSoftReset a0 a1) := by
  unfold execDevCmdSoftReset
  exact keptOut_of (State.host_kept h1001 _ _ _ _ _ (fun _ h0 => (State.softReset_kept h0 _)))

theorem execDevCmdCancelMode_kept [Keeps P] (a0 : Port) {a1 : State} (h1001 : P a1) :
    Out.All P (execDevCmdCancelMode a0 a1) := by
  unfold execDevCmdCancelMode
  exact keptOut_of (State.host_kept h1001 _ _ _ _ _ (fun _ h0 => (State.cancelMode_kept h0)))

theorem execSelftestDone_kept [Keeps P] [KeepsMaps P] (a0 : SelfTestObs) {a1 : State} (h1001 : P a1) :
    Out.All P (execSelftestDone a0 a1) := by
  unfold execSelftestDone
  exact keptOut_of (State.selfTestDone_kept h1001 _)

theorem execPowerOn_kept [Keeps P] [KeepsReset P] {s : State} (h : P s) :
    Out.All P (execPowerOn s) := by
  unfold execPowerOn
  exact keptOut_of (State.hardReset_kept h)

theorem execInitDone_kept [Keeps P] [KeepsMaps P] {s : State} (h : P s) :
    Out.All P (execInitDone s) := by
  unfold execInitDone
  exact keptOut_of (State.initDone_kept h)

theorem execBrownOut_kept [Keeps P] [KeepsReset P] (a0 : Bool) {a1 : State} (h1001 : P a1) :
    Out.All P (execBrownOut a0 a1) := by
  unfold execBrownOut
  exact keptOut_of (State.brownOut_kept h1001 _)

theorem execBrownOutEnd_kept [Keeps P] {s : State} (h : P s) :
    Out.All P (execBrownOutEnd s) := by
  unfold execBrownOutEnd
  exact keptOut_of (kept_upd h)

/-! ### Housekeep -/

theorem State.throttleMode_kept [Keeps P] [KeepsMaps P] {s : State} (h : P s) :
    P (State.throttleMode s) := by
  unfold State.throttleMode
  exact ite_kept (fun _ => (State.setMode_kept h _ _)) (fun _ => (ite_kept (fun _ => (State.setMode_kept h _ _)) (fun _ => h)))

theorem State.pauseOne_kept [Keeps P] {s : State} (h : P s) :
    P (State.pauseOne s) := by
  unfold State.pauseOne
  split
  · exact (by extract_lets x0 x1; have h0 : P x0 := (State.inc_kept (State.event_kept (State.hold_kept h _ _) _ _ _ _) _); exact (kept_upd h0))
  · exact h

theorem State.pauseDue_kept [Keeps P] {s : State} (h : P s) :
    P (State.pauseDue s) := by
  unfold State.pauseDue
  exact ite_kept (fun _ => h) (fun _ => (by extract_lets x0 x1 x2 x3; have h2 : P x2 := (kept_upd h); exact (ite_kept (fun _ => (State.pauseOne_kept h2)) (fun _ => h2))))

theorem State.resumeOne_kept [Keeps P] {s : State} (h : P s) :
    P (State.resumeOne s) := by
  unfold State.resumeOne
  exact ite_kept (fun _ => h) (fun _ => (by split; (exact (State.event_kept (by extract_lets x0 x1; have h0 : P x0 := (State.clearCauses_kept h _ _); exact (kept_upd h0)) _ _ _ _)); (exact h)))

theorem State.coldDue_kept [Keeps P] {s : State} (h : P s) :
    P (State.coldDue s) := by
  unfold State.coldDue
  exact ite_kept (fun _ => (ite_kept (fun _ => (kept_upd h)) (fun _ => (by extract_lets x0 x1; have h0 : P x0 := (State.set_kept h _ _); exact (kept_upd h0))))) (fun _ => h)

theorem State.shutdown_kept [Keeps P] [KeepsMaps P] {s : State} (h : P s) (a1 : Nat) (a2 : Nat) :
    P (State.shutdown s a1 a2) := by
  unfold State.shutdown
  extract_lets x0 x1 x2
  have h2 : P x2 := (State.log_kept (State.alert_kept (State.setMode_kept (State.leaveOperation_kept h) _ _) _) _ _ _ _)
  exact (kept_upd h2)

theorem State.selfRefresh_kept [Keeps P] {s : State} (h : P s) :
    P (State.selfRefresh s) := by
  unfold State.selfRefresh
  split
  · exact (ite_kept (fun _ => (by extract_lets x0; have h0 : P x0 := (State.set_kept (State.set_kept h _ _) _ _); exact (kept_upd h0))) (fun _ => h))
  · exact h

theorem State.recordShut_kept [Keeps P] [KeepsNvm P] {s : State} (h : P s) (a1 : NvmEnd) :
    P (State.recordShut s a1) := by
  unfold State.recordShut
  split
  · exact (ite_kept (fun _ => (by extract_lets x0; have h0 : P x0 := (State.nvmWrite_kept h _ _ _); exact (kept_upd h0))) (fun _ => h))
  · exact h

theorem State.hkActions_kept [Keeps P] [KeepsMaps P] {s : State} (h : P s) :
    P (State.hkActions s) := by
  unfold State.hkActions
  exact ite_kept (fun _ => h) (fun _ => (by split; (exact (State.shutdown_kept h _ _)); (exact (by extract_lets x0 x1; have h1 : P x1 := (kept_upd h); exact (State.coldDue_kept (State.resumeOne_kept (ite_kept (fun _ => (State.pauseDue_kept (State.throttleMode_kept h1))) (fun _ => (State.throttleMode_kept h1)))))))))

theorem State.evaluate_kept [Keeps P] [KeepsMaps P] {s : State} (h : P s) :
    P (State.evaluate s) := by
  unfold State.evaluate
  extract_lets x0 x1 x2
  have h0 : P x0 := (State.hkReadings_kept h)
  have h1 : P x1 := (State.follow_kept (State.hkActions_kept h0))
  exact (ite_kept (fun _ => (kept_upd h1)) (fun _ => h0))

theorem State.logWrite_kept [Keeps P] {s : State} (h : P s) :
    P (State.logWrite s) := by
  unfold State.logWrite
  split
  · exact h
  · exact (by extract_lets x0 x1; have h1 : P x1 := (kept_upd h); exact (State.set_kept (ite_kept (fun _ => (State.set_kept h1 _ _)) (fun _ => h1)) _ _))

theorem State.logClear_kept [Keeps P] {s : State} (h : P s) :
    P (State.logClear s) := by
  unfold State.logClear
  extract_lets x0
  have h0 : P x0 := (State.setReg_kept h _ _)
  exact (kept_upd h0)

theorem execRoundEvaluation_kept [Keeps P] [KeepsMaps P] {s : State} (h : P s) :
    Out.All P (execRoundEvaluation s) := by
  unfold execRoundEvaluation
  exact keptOut_of (State.evaluate_kept h)

theorem execStackSelfRefresh_kept [Keeps P] {s : State} (h : P s) :
    Out.All P (execStackSelfRefresh s) := by
  unfold execStackSelfRefresh
  exact keptOut_of (State.selfRefresh_kept h)

theorem execShutdownRecordDone_kept [Keeps P] [KeepsNvm P] (a0 : NvmEnd) {a1 : State} (h1001 : P a1) :
    Out.All P (execShutdownRecordDone a0 a1) := by
  unfold execShutdownRecordDone
  exact keptOut_of (State.recordShut_kept h1001 _)

theorem execLogEntryWrite_kept [Keeps P] {s : State} (h : P s) :
    Out.All P (execLogEntryWrite s) := by
  unfold execLogEntryWrite
  exact keptOut_of (State.logWrite_kept h)

theorem execLogCmdClear_kept [Keeps P] (a0 : Port) {a1 : State} (h1001 : P a1) :
    Out.All P (execLogCmdClear a0 a1) := by
  unfold execLogCmdClear
  exact keptOut_of (State.host_kept h1001 _ _ _ _ _ (fun _ h0 => (State.logClear_kept h0)))

/-! ### Lanes -/

theorem execTrainingBlock_kept [Keeps P] (a0 : Fin 32) (a1 : Word) {a2 : State} (h1002 : P a2) :
    Out.All P (execTrainingBlock a0 a1 a2) := by
  unfold execTrainingBlock
  exact keptOut_of (State.trainingBlock_kept h1002 _ _)

theorem execBlockSent_kept [Keeps P] (a0 : Fin 32) {a1 : State} (h1001 : P a1) :
    Out.All P (execBlockSent a0 a1) := by
  unfold execBlockSent
  exact keptOut_of (State.blockSent_kept h1001 _)

theorem execGapEnd_kept [Keeps P] (a0 : Fin 32) {a1 : State} (h1001 : P a1) :
    Out.All P (execGapEnd a0 a1) := by
  unfold execGapEnd
  exact keptOut_of (State.gapEnd_kept h1001 _)

theorem execEqTimeExpiry_kept [Keeps P] (a0 : Fin 32) {a1 : State} (h1001 : P a1) :
    Out.All P (execEqTimeExpiry a0 a1) := by
  unfold execEqTimeExpiry
  exact keptOut_of (State.eqTime_kept h1001 _)

theorem execTrainWinExpiry_kept [Keeps P] (a0 : Fin 32) {a1 : State} (h1001 : P a1) :
    Out.All P (execTrainWinExpiry a0 a1) := by
  unfold execTrainWinExpiry
  exact keptOut_of (State.trainExpiry_kept h1001 _)

theorem execAckWinExpiry_kept [Keeps P] (a0 : Fin 32) {a1 : State} (h1001 : P a1) :
    Out.All P (execAckWinExpiry a0 a1) := by
  unfold execAckWinExpiry
  exact keptOut_of (State.ackExpiry_kept h1001 _)

theorem execLaneLost_kept [Keeps P] (a0 : Fin 32) {a1 : State} (h1001 : P a1) :
    Out.All P (execLaneLost a0 a1) := by
  unfold execLaneLost
  exact keptOut_of (State.laneLost_kept h1001 _)

theorem execRetryGapEnd_kept [Keeps P] (a0 : Fin 32) {a1 : State} (h1001 : P a1) :
    Out.All P (execRetryGapEnd a0 a1) := by
  unfold execRetryGapEnd
  exact keptOut_of (State.retryGapEnd_kept h1001 _)

theorem execLosChange_kept [Keeps P] (a0 : Fin 32) (a1 : Bool) {a2 : State} (h1002 : P a2) :
    Out.All P (execLosChange a0 a1 a2) := by
  unfold execLosChange
  exact keptOut_of (State.losChange_kept h1002 _ _)

theorem execLolChange_kept [Keeps P] (a0 : Fin 32) (a1 : Bool) {a2 : State} (h1002 : P a2) :
    Out.All P (execLolChange a0 a1 a2) := by
  unfold execLolChange
  exact keptOut_of (State.lolChange_kept h1002 _ _)

theorem execLaneDown_kept [Keeps P] (a0 : Fin 32) {a1 : State} (h1001 : P a1) :
    Out.All P (execLaneDown a0 a1) := by
  unfold execLaneDown
  exact keptOut_of (State.laneDown_kept h1001 _)

theorem execDirectLock_kept [Keeps P] (a0 : Fin 32) {a1 : State} (h1001 : P a1) :
    Out.All P (execDirectLock a0 a1) := by
  unfold execDirectLock
  exact keptOut_of (State.directLock_kept h1001 _)

theorem execAdaptUpdate_kept [Keeps P] (a0 : Fin 32) (a1 : AdaptObs) {a2 : State} (h1002 : P a2) :
    Out.All P (execAdaptUpdate a0 a1 a2) := by
  unfold execAdaptUpdate
  exact keptOut_of (State.adaptUpdate_kept h1002 _ _)

theorem execAdaptFreeze_kept [Keeps P] (a0 : Fin 32) {a1 : State} (h1001 : P a1) :
    Out.All P (execAdaptFreeze a0 a1) := by
  unfold execAdaptFreeze
  exact keptOut_of (State.adaptFreeze_kept h1001 _)

theorem execAdaptRestart_kept [Keeps P] (a0 : Fin 32) {a1 : State} (h1001 : P a1) :
    Out.All P (execAdaptRestart a0 a1) := by
  unfold execAdaptRestart
  exact keptOut_of (State.adaptRestart_kept h1001 _)

theorem execCheckerSync_kept [Keeps P] (a0 : Fin 32) (a1 : Nat) (a2 : Nat) {a3 : State} (h1003 : P a3) :
    Out.All P (execCheckerSync a0 a1 a2 a3) := by
  unfold execCheckerSync
  exact keptOut_of (State.checkerSync_kept h1003 _ _ _)

theorem execCheckerSyncLoss_kept [Keeps P] (a0 : Fin 32) (a1 : Nat) (a2 : Nat) {a3 : State} (h1003 : P a3) :
    Out.All P (execCheckerSyncLoss a0 a1 a2 a3) := by
  unfold execCheckerSyncLoss
  exact keptOut_of (State.checkerLoss_kept h1003 _ _ _)

theorem execLtestCountEnd_kept [Keeps P] (a0 : Fin 32) (a1 : Nat) (a2 : Nat) {a3 : State} (h1003 : P a3) :
    Out.All P (execLtestCountEnd a0 a1 a2 a3) := by
  unfold execLtestCountEnd
  exact keptOut_of (State.ltestEnd_kept h1003 _ _ _)

/-! ### Measures -/

theorem State.tmArm_kept [Keeps P] {s : State} (h : P s) (a1 : Port) (a2 : Nat) (a3 : Word) :
    P (State.tmArm s a1 a2 a3) := by
  unfold State.tmArm
  extract_lets x0
  exact (ite_kept (fun _ => (State.tdcStart_kept h _ _ _ _ _ _ _)) (fun _ => (State.reject_kept h _ _ _ _ _)))

theorem execTmCmdArm_kept [Keeps P] (a0 : Port) (a1 : Fin 1056) (a2 : Word) {a3 : State} (h1003 : P a3) :
    Out.All P (execTmCmdArm a0 a1 a2 a3) := by
  unfold execTmCmdArm
  exact keptOut_of (State.host_kept h1003 _ _ _ _ _ (fun _ h0 => (State.tmArm_kept h0 _ _ _)))

theorem execTmCmdCancel_kept [Keeps P] (a0 : Port) (a1 : Fin 1056) {a2 : State} (h1002 : P a2) :
    Out.All P (execTmCmdCancel a0 a1 a2) := by
  unfold execTmCmdCancel
  exact keptOut_of (State.host_kept h1002 _ _ _ _ _ (fun _ h0 => (State.tdcCancel_kept h0 _)))

theorem execTmSelfcal_kept [Keeps P] (a0 : Fin 1056) (a1 : TdcCal) {a2 : State} (h1002 : P a2) :
    Out.All P (execTmSelfcal a0 a1 a2) := by
  unfold execTmSelfcal
  exact keptOut_of (State.tdcSelfcal_kept h1002 _ _)

theorem execTdcCapture_kept [Keeps P] (a0 : Fin 1056) (a1 : Fin 2) (a2 : BitVec 16) {a3 : State} (h1003 : P a3) :
    Out.All P (execTdcCapture a0 a1 a2 a3) := by
  unfold execTdcCapture
  exact keptOut_of (State.tdcCapture_kept h1003 _ _ _)

theorem execTmTimeout_kept [Keeps P] (a0 : Fin 1056) {a1 : State} (h1001 : P a1) :
    Out.All P (execTmTimeout a0 a1) := by
  unfold execTmTimeout
  exact keptOut_of (State.tdcTimeout_kept h1001 _)

theorem execGateEnd_kept [Keeps P] (a0 : Fin 1056) {a1 : State} (h1001 : P a1) :
    Out.All P (execGateEnd a0 a1) := by
  unfold execGateEnd
  exact keptOut_of (State.gateEnd_kept h1001 _)

theorem execDeglitchStep_kept [Keeps P] (a0 : Fin 1024) (a1 : Fin 8) {a2 : State} (h1002 : P a2) :
    Out.All P (execDeglitchStep a0 a1 a2) := by
  unfold execDeglitchStep
  exact keptOut_of (State.deglitchStep_kept h1002 _ _)

theorem execPassageSpanSwitch_kept [Keeps P] (a0 : Fin 1024) (a1 : Fin 8) {a2 : State} (h1002 : P a2) :
    Out.All P (execPassageSpanSwitch a0 a1 a2) := by
  unfold execPassageSpanSwitch
  exact keptOut_of (State.spanSwitch_kept h1002 _ _)

theorem execPassageCodeLoad_kept [Keeps P] (a0 : Fin 1024) (a1 : Fin 8) {a2 : State} (h1002 : P a2) :
    Out.All P (execPassageCodeLoad a0 a1 a2) := by
  unfold execPassageCodeLoad
  exact keptOut_of (State.codeLoad_kept h1002 _ _)

theorem execPassageEnd_kept [Keeps P] (a0 : Fin 1024) (a1 : Fin 8) {a2 : State} (h1002 : P a2) :
    Out.All P (execPassageEnd a0 a1 a2) := by
  unfold execPassageEnd
  exact keptOut_of (State.passageEnd_kept h1002 _ _)

theorem execPmuConnect_kept [Keeps P] (a0 : Fin 1024) {a1 : State} (h1001 : P a1) :
    Out.All P (execPmuConnect a0 a1) := by
  unfold execPmuConnect
  exact keptOut_of (State.pmuConnect_kept h1001 _)

theorem execPmuPassageEnd_kept [Keeps P] (a0 : Fin 1024) {a1 : State} (h1001 : P a1) :
    Out.All P (execPmuPassageEnd a0 a1) := by
  unfold execPmuPassageEnd
  exact keptOut_of (State.pmuPassageEnd_kept h1001 _)

theorem execPmuCompliance_kept [Keeps P] (a0 : Fin 1024) (a1 : BitVec 2) {a2 : State} (h1002 : P a2) :
    Out.All P (execPmuCompliance a0 a1 a2) := by
  unfold execPmuCompliance
  exact keptOut_of (State.pmuCompliance_kept h1002 _ _)

theorem execPmuSettleEnd_kept [Keeps P] (a0 : Bool) (a1 : Fin 1024) {a2 : State} (h1002 : P a2) :
    Out.All P (execPmuSettleEnd a0 a1 a2) := by
  unfold execPmuSettleEnd
  exact keptOut_of (ite_kept (fun _ => (State.dpsSettleEnd_kept h1002 _)) (fun _ => (State.pmuSettleEnd_kept h1002 _)))

theorem execPmuSampleEnd_kept [Keeps P] (a0 : Bool) (a1 : Fin 1024) (a2 : Int) {a3 : State} (h1003 : P a3) :
    Out.All P (execPmuSampleEnd a0 a1 a2 a3) := by
  unfold execPmuSampleEnd
  exact keptOut_of (ite_kept (fun _ => (State.dpsSampleEnd_kept h1003 _ _)) (fun _ => (State.pmuSampleEnd_kept h1003 _ _)))

theorem State.pmuMeasure_kept [Keeps P] {s : State} (h : P s) (a1 : Port) (a2 : Nat) (a3 : Word) :
    P (State.pmuMeasure s a1 a2 a3) := by
  unfold State.pmuMeasure
  extract_lets x0
  exact (ite_kept (fun _ => (State.pmuStart_kept (State.set_kept h _ _) _ _ _ _ _ _ _)) (fun _ => (State.reject_kept h _ _ _ _ _)))

theorem execChPmucmdMeasure_kept [Keeps P] (a0 : Port) (a1 : Fin 1024) (a2 : Word) {a3 : State} (h1003 : P a3) :
    Out.All P (execChPmucmdMeasure a0 a1 a2 a3) := by
  unfold execChPmucmdMeasure
  exact keptOut_of (State.host_kept h1003 _ _ _ _ _ (fun _ h0 => (State.pmuMeasure_kept h0 _ _ _)))

theorem execChPmucmdCancel_kept [Keeps P] (a0 : Port) (a1 : Fin 1024) {a2 : State} (h1002 : P a2) :
    Out.All P (execChPmucmdCancel a0 a1 a2) := by
  unfold execChPmucmdCancel
  exact keptOut_of (State.host_kept h1002 _ _ _ _ _ (fun _ h0 => (State.pmuCancel_kept h0 _)))

theorem execWfSample_kept [Keeps P] (a0 : Fin 32) {a1 : State} (h1001 : P a1) :
    Out.All P (execWfSample a0 a1) := by
  unfold execWfSample
  exact keptOut_of (State.wfSample_kept h1001 _)

theorem execWfConnect_kept [Keeps P] (a0 : Fin 32) {a1 : State} (h1001 : P a1) :
    Out.All P (execWfConnect a0 a1) := by
  unfold execWfConnect
  exact keptOut_of (State.wfConnect_kept h1001 _)

theorem execWfPassageEnd_kept [Keeps P] (a0 : Fin 32) {a1 : State} (h1001 : P a1) :
    Out.All P (execWfPassageEnd a0 a1) := by
  unfold execWfPassageEnd
  exact keptOut_of (State.wfPassageEnd_kept h1001 _)

theorem State.wfTableLoad_kept [Keeps P] {s : State} (h : P s) (a1 : Port) (a2 : Nat) :
    P (State.wfTableLoad s a1 a2) := by
  unfold State.wfTableLoad
  extract_lets x0 x1
  have h1 : P x1 := (State.set_kept (State.memReq_kept h _ _) _ _)
  exact (ite_kept (fun _ => (kept_upd h1)) (fun _ => (State.reject_kept h _ _ _ _ _)))

theorem execWfTcmdLoad_kept [Keeps P] (a0 : Port) (a1 : Fin 32) {a2 : State} (h1002 : P a2) :
    Out.All P (execWfTcmdLoad a0 a1 a2) := by
  unfold execWfTcmdLoad
  exact keptOut_of (State.host_kept h1002 _ _ _ _ _ (fun _ h0 => (State.wfTableLoad_kept h0 _ _)))

theorem execWfTableLoadDone_kept [Keeps P] (a0 : Fin 32) {a1 : State} (h1001 : P a1) :
    Out.All P (execWfTableLoadDone a0 a1) := by
  unfold execWfTableLoadDone
  exact keptOut_of (State.wfTableDone_kept h1001 _)

theorem execDpsDelayEnd_kept [Keeps P] (a0 : Fin 64) {a1 : State} (h1001 : P a1) :
    Out.All P (execDpsDelayEnd a0 a1) := by
  unfold execDpsDelayEnd
  exact keptOut_of (State.dpsDelayEnd_kept h1001 _)

theorem execDpsRampStep_kept [Keeps P] (a0 : Fin 64) {a1 : State} (h1001 : P a1) :
    Out.All P (execDpsRampStep a0 a1) := by
  unfold execDpsRampStep
  exact keptOut_of (State.dpsRampStep_kept h1001 _)

theorem execDpsSwitchOpen_kept [Keeps P] (a0 : Fin 64) (a1 : Int) {a2 : State} (h1002 : P a2) :
    Out.All P (execDpsSwitchOpen a0 a1 a2) := by
  unfold execDpsSwitchOpen
  exact keptOut_of (State.dpsSwitchOpen_kept h1002 _ _)

theorem execDpsOpenHigh_kept [Keeps P] (a0 : Fin 64) {a1 : State} (h1001 : P a1) :
    Out.All P (execDpsOpenHigh a0 a1) := by
  unfold execDpsOpenHigh
  exact keptOut_of (State.dpsOpenHigh_kept h1001 _)

theorem execDpsCompliance_kept [Keeps P] (a0 : Fin 64) (a1 : BitVec 2) {a2 : State} (h1002 : P a2) :
    Out.All P (execDpsCompliance a0 a1 a2) := by
  unfold execDpsCompliance
  exact keptOut_of (State.dpsCompliance_kept h1002 _ _)

theorem State.dpsMeasure_kept [Keeps P] {s : State} (h : P s) (a1 : Port) (a2 : Nat) (a3 : Word) :
    P (State.dpsMeasure s a1 a2 a3) := by
  unfold State.dpsMeasure
  extract_lets x0
  exact (ite_kept (fun _ => (State.dpsStart_kept h _ _ _ _ _ _ _)) (fun _ => (State.reject_kept h _ _ _ _ _)))

theorem execDpsCmdMeasure_kept [Keeps P] (a0 : Port) (a1 : Fin 64) (a2 : Word) {a3 : State} (h1003 : P a3) :
    Out.All P (execDpsCmdMeasure a0 a1 a2 a3) := by
  unfold execDpsCmdMeasure
  exact keptOut_of (State.host_kept h1003 _ _ _ _ _ (fun _ h0 => (State.dpsMeasure_kept h0 _ _ _)))

theorem execDpsCmdCancel_kept [Keeps P] (a0 : Port) (a1 : Fin 64) {a2 : State} (h1002 : P a2) :
    Out.All P (execDpsCmdCancel a0 a1 a2) := by
  unfold execDpsCmdCancel
  exact keptOut_of (State.host_kept h1002 _ _ _ _ _ (fun _ h0 => (State.dpsCancel_kept h0 _)))

theorem State.dpsCheck_kept [Keeps P] {s : State} (h : P s) (a1 : Port) (a2 : Nat) :
    P (State.dpsCheck s a1 a2) := by
  unfold State.dpsCheck
  exact ite_kept (fun _ => (State.checkStart_kept h _ _)) (fun _ => (State.reject_kept h _ _ _ _ _))

theorem execDpsCmdCheck_kept [Keeps P] (a0 : Port) (a1 : Fin 64) {a2 : State} (h1002 : P a2) :
    Out.All P (execDpsCmdCheck a0 a1 a2) := by
  unfold execDpsCmdCheck
  exact keptOut_of (State.host_kept h1002 _ _ _ _ _ (fun _ h0 => (State.dpsCheck_kept h0 _ _)))

theorem execSenseCheckDone_kept [Keeps P] (a0 : Fin 64) (a1 : List SenseStep) {a2 : State} (h1002 : P a2) :
    Out.All P (execSenseCheckDone a0 a1 a2) := by
  unfold execSenseCheckDone
  exact keptOut_of (State.checkDone_kept h1002 _ _)

theorem execNegvTrip_kept [Keeps P] (a0 : Fin 64) {a1 : State} (h1001 : P a1) :
    Out.All P (execNegvTrip a0 a1) := by
  unfold execNegvTrip
  exact keptOut_of (State.follow_kept (State.supplyTrip_kept h1001 _ _))

theorem execSenseTrip_kept [Keeps P] (a0 : Fin 64) {a1 : State} (h1001 : P a1) :
    Out.All P (execSenseTrip a0 a1) := by
  unfold execSenseTrip
  exact keptOut_of (State.follow_kept (State.supplyTrip_kept h1001 _ _))

/-! ### Results -/

theorem execRecordWrite_kept [Keeps P] {s : State} (h : P s) :
    Out.All P (execRecordWrite s) := by
  unfold execRecordWrite
  exact keptOut_of (State.follow_kept (State.recordWrite_kept h))

theorem execMigrationStart_kept [Keeps P] {s : State} (h : P s) :
    Out.All P (execMigrationStart s) := by
  unfold execMigrationStart
  exact keptOut_of (State.migrationStart_kept h)

theorem execMigrationBurstDone_kept [Keeps P] [KeepsMem P] {s : State} (h : P s) :
    Out.All P (execMigrationBurstDone s) := by
  unfold execMigrationBurstDone
  exact keptOut_of (State.burstDone_kept h)

theorem execLgHeadWrite_kept [Keeps P] (a0 : Port) (a1 : Word) {a2 : State} (h1002 : P a2) :
    Out.All P (execLgHeadWrite a0 a1 a2) := by
  unfold execLgHeadWrite
  exact keptOut_of (State.host_kept h1002 _ _ _ _ _ (fun _ h0 => (State.headWrite_kept h0 _ _)))

theorem execLgOvfWrite_kept [Keeps P] (a0 : Port) (a1 : Word) {a2 : State} (h1002 : P a2) :
    Out.All P (execLgOvfWrite a0 a1 a2) := by
  unfold execLgOvfWrite
  exact keptOut_of (State.host_kept h1002 _ _ _ _ _ (fun _ h0 => (State.ovfWrite_kept h0 _ _)))

theorem execLgCmdClear_kept [Keeps P] (a0 : Port) {a1 : State} (h1001 : P a1) :
    Out.All P (execLgCmdClear a0 a1) := by
  unfold execLgCmdClear
  exact keptOut_of (State.host_kept h1001 _ _ _ _ _ (fun _ h0 => (State.lgClear_kept h0)))

theorem execLgCmdRelease_kept [Keeps P] (a0 : Port) {a1 : State} (h1001 : P a1) :
    Out.All P (execLgCmdRelease a0 a1) := by
  unfold execLgCmdRelease
  exact keptOut_of (State.host_kept h1001 _ _ _ _ _ (fun _ h0 => (State.set_kept h0 _ _)))

theorem State.snapWrite_kept [Keeps P] {s : State} (h : P s) (a1 : Port) (a2 : Word) :
    P (State.snapWrite s a1 a2) := by
  unfold State.snapWrite
  extract_lets b tag record bad
  have hb : ∀ c, P (bad c) := fun c => State.reject_kept h _ _ _ _ _
  refine ite_kept (fun _ => hb _) (fun _ => ite_kept (fun _ => ?_) (fun _ => ite_kept (fun _ => hb _) (fun _ => ?_)))
  · split
    · exact hb _
    · exact State.schedule_kept h _ _ _
  · split
    · exact hb _
    · exact kept_upd h

theorem execLgSnapWrite_kept [Keeps P] (a0 : Port) (a1 : Word) {a2 : State} (h1002 : P a2) :
    Out.All P (execLgSnapWrite a0 a1 a2) := by
  unfold execLgSnapWrite
  exact keptOut_of (State.host_kept h1002 _ _ _ _ _ (fun _ h0 => (State.snapWrite_kept h0 _ _)))

theorem execSnapshot_kept [Keeps P] {s : State} (h : P s) :
    Out.All P (execSnapshot s) := by
  unfold execSnapshot
  exact keptOut_of (State.snapshot_kept (State.hkReadings_kept h))

end Sys2Proof.Machine
end

