-- ==== Sys2Proof/Laws/KeepsPorts.lean ====
section
/-! SUPPORT. What the primitive operations keep, every operation of one group keeps: statements, register writes, the host link, the control port and the beat. One lemma an operation, each
assembled from those of the operations it calls. -/

namespace Sys2Proof.Machine

variable {P : State → Prop}

/-! ### Statements -/

theorem execStmtNop_kept [Keeps P] (a0 : Fin 64) {a1 : State} (h1001 : P a1) :
    Out.All P (execStmtNop a0 a1) := by
  unfold execStmtNop
  exact keptOut_of (State.issue_kept h1001 _ _ _ _ (fun _ _ h0 => (State.retire_kept h0 _)))

theorem execStmtEnd_kept [Keeps P] (a0 : Fin 64) {a1 : State} (h1001 : P a1) :
    Out.All P (execStmtEnd a0 a1) := by
  unfold execStmtEnd
  exact keptOut_of (State.issue_kept h1001 _ _ _ _ (fun _ _ h0 => (State.setWait_kept (State.discardOpen_kept h0 _) _ _)))

theorem execEndComplete_kept [Keeps P] (a0 : Fin 64) {a1 : State} (h1001 : P a1) :
    Out.All P (execEndComplete a0 a1) := by
  unfold execEndComplete
  exact keptOut_of (State.endComplete_kept h1001 _)

theorem execStmtJmp_kept [Keeps P] (a0 : Fin 64) {a1 : State} (h1001 : P a1) :
    Out.All P (execStmtJmp a0 a1) := by
  unfold execStmtJmp
  exact keptOut_of (State.issue_kept h1001 _ _ _ _ (fun _ _ h0 => (State.setPc_kept h0 _ _)))

theorem execStmtBr_kept [Keeps P] (a0 : Fin 64) {a1 : State} (h1001 : P a1) :
    Out.All P (execStmtBr a0 a1) := by
  unfold execStmtBr
  exact keptOut_of (State.issue_kept h1001 _ _ _ _ (fun _ _ h0 => (ite_kept (fun _ => (State.setPc_kept h0 _ _)) (fun _ => (State.retire_kept h0
      _)))))

theorem execStmtBrs_kept [Keeps P] (a0 : Fin 64) {a1 : State} (h1001 : P a1) :
    Out.All P (execStmtBrs a0 a1) := by
  unfold execStmtBrs
  exact keptOut_of (State.issue_kept h1001 _ _ _ _ (fun _ _ h0 => (ite_kept (fun _ => (State.setPc_kept h0 _ _)) (fun _ => (State.retire_kept h0
      _)))))

theorem execStmtCall_kept [Keeps P] (a0 : Fin 64) {a1 : State} (h1001 : P a1) :
    Out.All P (execStmtCall a0 a1) := by
  unfold execStmtCall
  exact keptOut_of (State.issue_kept h1001 _ _ _ _ (fun _ _ h0 => (State.setPc_kept (State.pushPc_kept h0 _ _) _ _)))

theorem execStmtRet_kept [Keeps P] (a0 : Fin 64) {a1 : State} (h1001 : P a1) :
    Out.All P (execStmtRet a0 a1) := by
  unfold execStmtRet
  exact keptOut_of (State.issue_kept h1001 _ _ _ _ (fun _ _ h0 => (State.setPc_kept (State.popPc_kept h0 _) _ _)))

theorem execStmtLoop_kept [Keeps P] (a0 : Fin 64) {a1 : State} (h1001 : P a1) :
    Out.All P (execStmtLoop a0 a1) := by
  unfold execStmtLoop
  exact keptOut_of (State.issue_kept h1001 _ _ _ _ (fun _ _ h0 => (by extract_lets x1; have h1 : P x1 := (State.setX_kept h0 _ _ _); exact (ite_kept (fun _ => (State.setPc_kept h1 _ _)) (fun _ => (State.retire_kept h1 _))))))

theorem execStmtHold_kept [Keeps P] (a0 : Fin 64) {a1 : State} (h1001 : P a1) :
    Out.All P (execStmtHold a0 a1) := by
  unfold execStmtHold
  exact keptOut_of (State.issue_kept h1001 _ _ _ _ (fun _ _ h0 => (State.follow_kept (State.hold_kept (State.retire_kept (State.userHold_kept h0 _ _)
      _) _ _))))

theorem execStmtLdi_kept [Keeps P] (a0 : Fin 64) {a1 : State} (h1001 : P a1) :
    Out.All P (execStmtLdi a0 a1) := by
  unfold execStmtLdi
  exact keptOut_of (State.issue_kept h1001 _ _ _ _ (fun _ _ h0 => (State.retire_kept (State.setX_kept h0 _ _ _) _)))

theorem State.arithStmt_kept [Keeps P] {s : State} (h : P s) (a1 : Nat) (a2 : Nat) :
    P (State.arithStmt s a1 a2) := by
  unfold State.arithStmt
  exact State.issue_kept h _ _ _ _ (fun _ _ h0 => (State.retire_kept (State.setX_kept h0 _ _ _) _))

theorem execStmtAdd_kept [Keeps P] (a0 : Fin 64) {a1 : State} (h1001 : P a1) :
    Out.All P (execStmtAdd a0 a1) := by
  unfold execStmtAdd
  exact keptOut_of (State.arithStmt_kept h1001 _ _)

theorem execStmtSub_kept [Keeps P] (a0 : Fin 64) {a1 : State} (h1001 : P a1) :
    Out.All P (execStmtSub a0 a1) := by
  unfold execStmtSub
  exact keptOut_of (State.arithStmt_kept h1001 _ _)

theorem execStmtAnd_kept [Keeps P] (a0 : Fin 64) {a1 : State} (h1001 : P a1) :
    Out.All P (execStmtAnd a0 a1) := by
  unfold execStmtAnd
  exact keptOut_of (State.arithStmt_kept h1001 _ _)

theorem execStmtOr_kept [Keeps P] (a0 : Fin 64) {a1 : State} (h1001 : P a1) :
    Out.All P (execStmtOr a0 a1) := by
  unfold execStmtOr
  exact keptOut_of (State.arithStmt_kept h1001 _ _)

theorem execStmtXor_kept [Keeps P] (a0 : Fin 64) {a1 : State} (h1001 : P a1) :
    Out.All P (execStmtXor a0 a1) := by
  unfold execStmtXor
  exact keptOut_of (State.arithStmt_kept h1001 _ _)

theorem execStmtShl_kept [Keeps P] (a0 : Fin 64) {a1 : State} (h1001 : P a1) :
    Out.All P (execStmtShl a0 a1) := by
  unfold execStmtShl
  exact keptOut_of (State.arithStmt_kept h1001 _ _)

theorem execStmtShr_kept [Keeps P] (a0 : Fin 64) {a1 : State} (h1001 : P a1) :
    Out.All P (execStmtShr a0 a1) := by
  unfold execStmtShr
  exact keptOut_of (State.arithStmt_kept h1001 _ _)

theorem execStmtSar_kept [Keeps P] (a0 : Fin 64) {a1 : State} (h1001 : P a1) :
    Out.All P (execStmtSar a0 a1) := by
  unfold execStmtSar
  exact keptOut_of (State.arithStmt_kept h1001 _ _)

theorem execStmtLdp_kept [Keeps P] (a0 : Fin 64) {a1 : State} (h1001 : P a1) :
    Out.All P (execStmtLdp a0 a1) := by
  unfold execStmtLdp
  exact keptOut_of (State.issue_kept h1001 _ _ _ _ (fun _ _ h0 => (State.retire_kept (State.setX_kept h0 _ _ _) _)))

theorem execStmtRdw_kept [Keeps P] (a0 : Fin 64) {a1 : State} (h1001 : P a1) :
    Out.All P (execStmtRdw a0 a1) := by
  unfold execStmtRdw
  exact keptOut_of (State.issue_kept h1001 _ _ _ _ (fun _ _ h0 => (State.bumpFree_kept (State.retire_kept (State.setX_kept h0 _ _ _) _))))

theorem execStmtNow_kept [Keeps P] (a0 : Fin 64) {a1 : State} (h1001 : P a1) :
    Out.All P (execStmtNow a0 a1) := by
  unfold execStmtNow
  exact keptOut_of (State.issue_kept h1001 _ _ _ _ (fun _ _ h0 => (State.bumpFree_kept (State.retire_kept (State.setX_kept h0 _ _ _) _))))

theorem execStmtWaitb_kept [Keeps P] (a0 : Fin 64) {a1 : State} (h1001 : P a1) :
    Out.All P (execStmtWaitb a0 a1) := by
  unfold execStmtWaitb
  exact keptOut_of (State.issue_kept h1001 _ _ _ _ (fun _ _ h0 => (State.waitBeat_kept h0 _ _)))

theorem execWaitbTarget_kept [Keeps P] (a0 : Fin 64) {a1 : State} (h1001 : P a1) :
    Out.All P (execWaitbTarget a0 a1) := by
  unfold execWaitbTarget
  exact keptOut_of (State.beatTarget_kept h1001 _)

theorem execStmtWaitf_kept [Keeps P] (a0 : Fin 64) {a1 : State} (h1001 : P a1) :
    Out.All P (execStmtWaitf a0 a1) := by
  unfold execStmtWaitf
  exact keptOut_of (State.issue_kept h1001 _ _ _ _ (fun _ _ h0 => (State.waitFollow_kept h0 _ _ _ _)))

theorem execWaitfTimeout_kept [Keeps P] (a0 : Fin 64) {a1 : State} (h1001 : P a1) :
    Out.All P (execWaitfTimeout a0 a1) := by
  unfold execWaitfTimeout
  exact keptOut_of (State.followTimeout_kept h1001 _)

theorem execStmtWaitp_kept [Keeps P] (a0 : Fin 64) {a1 : State} (h1001 : P a1) :
    Out.All P (execStmtWaitp a0 a1) := by
  unfold execStmtWaitp
  exact keptOut_of (State.issue_kept h1001 _ _ _ _ (fun _ _ h0 => (State.setWait_kept h0 _ _)))

theorem execWaitpComplete_kept [Keeps P] (a0 : Fin 64) {a1 : State} (h1001 : P a1) :
    Out.All P (execWaitpComplete a0 a1) := by
  unfold execWaitpComplete
  exact keptOut_of (State.patternDone_kept h1001 _)

theorem execWaitpTimeout_kept [Keeps P] (a0 : Fin 64) {a1 : State} (h1001 : P a1) :
    Out.All P (execWaitpTimeout a0 a1) := by
  unfold execWaitpTimeout
  exact keptOut_of (State.patternTimeout_kept h1001 _)

theorem execStmtClo_kept [Keeps P] (a0 : Fin 64) {a1 : State} (h1001 : P a1) :
    Out.All P (execStmtClo a0 a1) := by
  unfold execStmtClo
  exact keptOut_of (State.issue_kept h1001 _ _ _ _ (fun _ _ h0 => (State.cloIssue_kept h0 _)))

theorem execCloWaitEnd_kept [Keeps P] (a0 : Fin 64) {a1 : State} (h1001 : P a1) :
    Out.All P (execCloWaitEnd a0 a1) := by
  unfold execCloWaitEnd
  exact keptOut_of (State.cloWaitEnd_kept h1001 _)

theorem execStmtCla_kept [Keeps P] (a0 : Fin 64) {a1 : State} (h1001 : P a1) :
    Out.All P (execStmtCla a0 a1) := by
  unfold execStmtCla
  exact keptOut_of (State.issue_kept h1001 _ _ _ _ (fun _ _ h0 => (State.retire_kept (State.stageOne_kept h0 _ _) _)))

theorem execStmtClt_kept [Keeps P] (a0 : Fin 64) {a1 : State} (h1001 : P a1) :
    Out.All P (execStmtClt a0 a1) := by
  unfold execStmtClt
  exact keptOut_of (State.issue_kept h1001 _ _ _ _ (fun _ _ h0 => (State.retire_kept (State.stageTable_kept h0 _ _ _) _)))

theorem execStmtClc_kept [Keeps P] (a0 : Fin 64) {a1 : State} (h1001 : P a1) :
    Out.All P (execStmtClc a0 a1) := by
  unfold execStmtClc
  exact keptOut_of (State.issue_kept h1001 _ _ _ _ (fun _ _ h0 => (State.closeClause_kept h0 _ _ _ _ _)))

theorem execClcDecision_kept [Keeps P] (a0 : Fin 64) {a1 : State} (h1001 : P a1) :
    Out.All P (execClcDecision a0 a1) := by
  unfold execClcDecision
  exact keptOut_of (State.clcDecision_kept h1001 _)

theorem execStmtCld_kept [Keeps P] (a0 : Fin 64) {a1 : State} (h1001 : P a1) :
    Out.All P (execStmtCld a0 a1) := by
  unfold execStmtCld
  exact keptOut_of (State.issue_kept h1001 _ _ _ _ (fun _ _ h0 => (State.retire_kept (State.discardOpen_kept h0 _) _)))

theorem State.playStmt_kept [Keeps P] {s : State} (h : P s) (a1 : Nat) :
    P (State.playStmt s a1) := by
  unfold State.playStmt
  exact State.issue_kept h _ _ _ _ (fun _ _ h0 => (ite_kept (fun _ => (State.fault_kept (State.playLog_kept h _ _ _) _ _ _)) (fun _ =>
      (State.retire_kept (State.play_kept h0 _ _ _ _ _) _))))

theorem execStmtPlay_kept [Keeps P] (a0 : Fin 64) {a1 : State} (h1001 : P a1) :
    Out.All P (execStmtPlay a0 a1) := by
  unfold execStmtPlay
  exact keptOut_of (State.playStmt_kept h1001 _)

theorem execStmtMeas_kept [Keeps P] (a0 : Fin 64) {a1 : State} (h1001 : P a1) :
    Out.All P (execStmtMeas a0 a1) := by
  unfold execStmtMeas
  exact keptOut_of (State.issue_kept h1001 _ _ _ _ (fun _ _ h0 => (State.waitUnits_kept (State.startMeas_kept h0 _ _) _ _ _)))

theorem execStmtTmeas_kept [Keeps P] (a0 : Fin 64) {a1 : State} (h1001 : P a1) :
    Out.All P (execStmtTmeas a0 a1) := by
  unfold execStmtTmeas
  exact keptOut_of (State.issue_kept h1001 _ _ _ _ (fun _ _ h0 => (State.waitUnits_kept (State.startTmeas_kept h0 _ _) _ _ _)))

theorem execStmtLtest_kept [Keeps P] (a0 : Fin 64) {a1 : State} (h1001 : P a1) :
    Out.All P (execStmtLtest a0 a1) := by
  unfold execStmtLtest
  exact keptOut_of (State.issue_kept h1001 _ _ _ _ (fun _ _ h0 => (State.waitUnits_kept (State.ltestStart_kept h0 _ _ _ _) _ _ _)))

theorem execStmtRec_kept [Keeps P] (a0 : Fin 64) {a1 : State} (h1001 : P a1) :
    Out.All P (execStmtRec a0 a1) := by
  unfold execStmtRec
  exact keptOut_of (State.issue_kept h1001 _ _ _ _ (fun _ _ h0 => (State.retire_kept (State.ownRecord_kept h0 _ _ _ _ _) _)))

theorem execStmtBin_kept [Keeps P] (a0 : Fin 64) {a1 : State} (h1001 : P a1) :
    Out.All P (execStmtBin a0 a1) := by
  unfold execStmtBin
  exact keptOut_of (State.issue_kept h1001 _ _ _ _ (fun _ _ h0 => (State.retire_kept (State.ownRecord_kept h0 _ _ _ _ _) _)))

theorem execStmtAcc_kept [Keeps P] (a0 : Fin 64) {a1 : State} (h1001 : P a1) :
    Out.All P (execStmtAcc a0 a1) := by
  unfold execStmtAcc
  exact keptOut_of (State.issue_kept h1001 _ _ _ _ (fun _ _ h0 => (by extract_lets x1; have h1 : P x1 := (State.setX_kept h0 _ _ _); exact (State.retire_kept (ite_kept (fun _ => (State.accReset_kept h1 _)) (fun _ => h1)) _))))

theorem execCustomerOpcode_kept [Keeps P] (a0 : Fin 64) {a1 : State} (h1001 : P a1) :
    Out.All P (execCustomerOpcode a0 a1) := by
  unfold execCustomerOpcode
  exact keptOut_of (State.issue_kept h1001 _ _ _ _ (fun _ _ h0 => (State.dispatch_kept h0 _ _)))

theorem execReservedOpcode_kept [Keeps P] (a0 : Fin 64) {a1 : State} (h1001 : P a1) :
    Out.All P (execReservedOpcode a0 a1) := by
  unfold execReservedOpcode
  exact keptOut_of (State.badOp_kept h1001 _)

theorem execSqCmdArm_kept [Keeps P] (a0 : Port) (a1 : Fin 64) {a2 : State} (h1002 : P a2) :
    Out.All P (execSqCmdArm a0 a1 a2) := by
  unfold execSqCmdArm
  exact keptOut_of (State.host_kept h1002 _ _ _ _ _ (fun _ h0 => (State.arm_kept h0 _ _)))

theorem execSqCmdDisarm_kept [Keeps P] (a0 : Port) (a1 : Fin 64) {a2 : State} (h1002 : P a2) :
    Out.All P (execSqCmdDisarm a0 a1 a2) := by
  unfold execSqCmdDisarm
  exact keptOut_of (State.host_kept h1002 _ _ _ _ _ (fun _ h0 => (State.disarm_kept h0 _ _)))

theorem execSqCmdHold_kept [Keeps P] (a0 : Port) (a1 : Fin 64) {a2 : State} (h1002 : P a2) :
    Out.All P (execSqCmdHold a0 a1 a2) := by
  unfold execSqCmdHold
  exact keptOut_of (State.host_kept h1002 _ _ _ _ _ (fun _ h0 => (State.hostHold_kept h0 _ _)))

theorem execSqCmdResume_kept [Keeps P] (a0 : Port) (a1 : Fin 64) (a2 : BitVec 10) {a3 : State} (h1003 : P a3) :
    Out.All P (execSqCmdResume a0 a1 a2 a3) := by
  unfold execSqCmdResume
  exact keptOut_of (State.host_kept h1003 _ _ _ _ _ (fun _ h0 => (State.hostResume_kept h0 _ _ _)))

theorem execSqCmdStop_kept [Keeps P] (a0 : Port) (a1 : Fin 64) {a2 : State} (h1002 : P a2) :
    Out.All P (execSqCmdStop a0 a1 a2) := by
  unfold execSqCmdStop
  exact keptOut_of (State.host_kept h1002 _ _ _ _ _ (fun _ h0 => (State.hostStop_kept h0 _ _)))

theorem execStopComplete_kept [Keeps P] (a0 : Fin 64) {a1 : State} (h1001 : P a1) :
    Out.All P (execStopComplete a0 a1) := by
  unfold execStopComplete
  exact keptOut_of (State.stopComplete_kept h1001 _)

theorem execCommaStarve_kept [Keeps P] (a0 : Fin 64) {a1 : State} (h1001 : P a1) :
    Out.All P (execCommaStarve a0 a1) := by
  unfold execCommaStarve
  exact keptOut_of (State.starve_kept h1001 _)

theorem execMicroword_kept [Keeps P] (a0 : Fin 64) {a1 : State} (h1001 : P a1) :
    Out.All P (execMicroword a0 a1) := by
  unfold execMicroword
  exact keptOut_of (State.microword_kept h1001 _)

theorem execExtClopen_kept [Keeps P] (a0 : Fin 64) {a1 : State} (h1001 : P a1) :
    Out.All P (execExtClopen a0 a1) := by
  unfold execExtClopen
  exact keptOut_of (State.command_kept h1001 _ _ _ _ (fun _ _ h0 => (State.cmdClopen_kept h0 _ _)))

theorem execExtClact_kept [Keeps P] (a0 : Fin 64) {a1 : State} (h1001 : P a1) :
    Out.All P (execExtClact a0 a1) := by
  unfold execExtClact
  exact keptOut_of (State.command_kept h1001 _ _ _ _ (fun _ _ h0 => (State.cmdClact_kept h0 _ _)))

theorem execExtCltab_kept [Keeps P] (a0 : Fin 64) {a1 : State} (h1001 : P a1) :
    Out.All P (execExtCltab a0 a1) := by
  unfold execExtCltab
  exact keptOut_of (State.command_kept h1001 _ _ _ _ (fun _ _ h0 => (State.cmdCltab_kept h0 _ _)))

theorem execExtClcommit_kept [Keeps P] (a0 : Fin 64) {a1 : State} (h1001 : P a1) :
    Out.All P (execExtClcommit a0 a1) := by
  unfold execExtClcommit
  exact keptOut_of (State.command_kept h1001 _ _ _ _ (fun _ _ h0 => (State.cmdClcommit_kept h0 _ _)))

theorem execExtCldiscard_kept [Keeps P] (a0 : Fin 64) {a1 : State} (h1001 : P a1) :
    Out.All P (execExtCldiscard a0 a1) := by
  unfold execExtCldiscard
  exact keptOut_of (State.command_kept h1001 _ _ _ _ (fun _ _ h0 => (State.cmdCldiscard_kept h0 _)))

theorem execExtRdreg_kept [Keeps P] (a0 : Fin 64) {a1 : State} (h1001 : P a1) :
    Out.All P (execExtRdreg a0 a1) := by
  unfold execExtRdreg
  exact keptOut_of (State.command_kept h1001 _ _ _ _ (fun _ _ h0 => (State.cmdRdreg_kept h0 _ _)))

theorem execExtRdprog_kept [Keeps P] (a0 : Fin 64) {a1 : State} (h1001 : P a1) :
    Out.All P (execExtRdprog a0 a1) := by
  unfold execExtRdprog
  exact keptOut_of (State.command_kept h1001 _ _ _ _ (fun _ _ h0 => (State.cmdRdprog_kept h0 _ _)))

theorem execExtRec_kept [Keeps P] (a0 : Fin 64) {a1 : State} (h1001 : P a1) :
    Out.All P (execExtRec a0 a1) := by
  unfold execExtRec
  exact keptOut_of (State.command_kept h1001 _ _ _ _ (fun _ _ h0 => (State.cmdRec_kept h0 _ _)))

theorem execExtPlay_kept [Keeps P] (a0 : Fin 64) {a1 : State} (h1001 : P a1) :
    Out.All P (execExtPlay a0 a1) := by
  unfold execExtPlay
  exact keptOut_of (State.cmdPlay_kept h1001 _)

theorem execExtMeas_kept [Keeps P] (a0 : Fin 64) {a1 : State} (h1001 : P a1) :
    Out.All P (execExtMeas a0 a1) := by
  unfold execExtMeas
  exact keptOut_of (State.command_kept h1001 _ _ _ _ (fun _ _ h0 => (State.cmdMeas_kept h0 _ _)))

theorem execExtTmeas_kept [Keeps P] (a0 : Fin 64) {a1 : State} (h1001 : P a1) :
    Out.All P (execExtTmeas a0 a1) := by
  unfold execExtTmeas
  exact keptOut_of (State.command_kept h1001 _ _ _ _ (fun _ _ h0 => (State.cmdTmeas_kept h0 _ _)))

theorem execExtLtest_kept [Keeps P] (a0 : Fin 64) {a1 : State} (h1001 : P a1) :
    Out.All P (execExtLtest a0 a1) := by
  unfold execExtLtest
  exact keptOut_of (State.command_kept h1001 _ _ _ _ (fun _ _ h0 => (State.cmdLtest_kept h0 _ _)))

theorem execExtAcc_kept [Keeps P] (a0 : Fin 64) {a1 : State} (h1001 : P a1) :
    Out.All P (execExtAcc a0 a1) := by
  unfold execExtAcc
  exact keptOut_of (State.command_kept h1001 _ _ _ _ (fun _ _ h0 => (State.cmdAcc_kept h0 _ _)))

theorem execExtHold_kept [Keeps P] (a0 : Fin 64) {a1 : State} (h1001 : P a1) :
    Out.All P (execExtHold a0 a1) := by
  unfold execExtHold
  exact keptOut_of (State.command_kept h1001 _ _ _ _ (fun _ _ h0 => (State.cmdHold_kept h0 _ _)))

theorem execExtEnd_kept [Keeps P] (a0 : Fin 64) {a1 : State} (h1001 : P a1) :
    Out.All P (execExtEnd a0 a1) := by
  unfold execExtEnd
  exact keptOut_of (State.command_kept h1001 _ _ _ _ (fun _ _ h0 => (State.cmdEnd_kept h0 _)))

theorem execExtArmb_kept [Keeps P] (a0 : Fin 64) {a1 : State} (h1001 : P a1) :
    Out.All P (execExtArmb a0 a1) := by
  unfold execExtArmb
  exact keptOut_of (State.command_kept h1001 _ _ _ _ (fun _ _ h0 => (State.waitBeat_kept h0 _ _)))

theorem execExtArmf_kept [Keeps P] (a0 : Fin 64) {a1 : State} (h1001 : P a1) :
    Out.All P (execExtArmf a0 a1) := by
  unfold execExtArmf
  exact keptOut_of (State.command_kept h1001 _ _ _ _ (fun _ _ h0 => (State.cmdArmf_kept h0 _ _)))

theorem execExtArmp_kept [Keeps P] (a0 : Fin 64) {a1 : State} (h1001 : P a1) :
    Out.All P (execExtArmp a0 a1) := by
  unfold execExtArmp
  exact keptOut_of (State.command_kept h1001 _ _ _ _ (fun _ _ h0 => (State.cmdArmp_kept h0 _ _)))

theorem execExtPushpc_kept [Keeps P] (a0 : Fin 64) {a1 : State} (h1001 : P a1) :
    Out.All P (execExtPushpc a0 a1) := by
  unfold execExtPushpc
  exact keptOut_of (State.command_kept h1001 _ _ _ _ (fun _ _ h0 => (State.cmdPushpc_kept h0 _ _)))

theorem execExtPoppc_kept [Keeps P] (a0 : Fin 64) {a1 : State} (h1001 : P a1) :
    Out.All P (execExtPoppc a0 a1) := by
  unfold execExtPoppc
  exact keptOut_of (State.command_kept h1001 _ _ _ _ (fun _ _ h0 => (State.cmdPoppc_kept h0 _)))

theorem execExtFault_kept [Keeps P] (a0 : Fin 64) {a1 : State} (h1001 : P a1) :
    Out.All P (execExtFault a0 a1) := by
  unfold execExtFault
  exact keptOut_of (State.command_kept h1001 _ _ _ _ (fun _ _ h0 => (State.cmdFault_kept h0 _ _)))

theorem execLoadVendor_kept [Keeps P] (a0 : Port) {a1 : State} (h1001 : P a1) :
    Out.All P (execLoadVendor a0 a1) := by
  unfold execLoadVendor
  exact keptOut_of (State.host_kept h1001 _ _ _ _ _ (fun _ h0 => (State.loadStart_kept h0 _ _)))

theorem execVendorLoadDone_kept [Keeps P] [KeepsCs P] {s : State} (h : P s) :
    Out.All P (execVendorLoadDone s) := by
  unfold execVendorLoadDone
  exact keptOut_of (State.vendorLoadDone_kept h)

theorem execLoadCustomer_kept [Keeps P] (a0 : Port) {a1 : State} (h1001 : P a1) :
    Out.All P (execLoadCustomer a0 a1) := by
  unfold execLoadCustomer
  exact keptOut_of (State.host_kept h1001 _ _ _ _ _ (fun _ h0 => (State.loadStart_kept h0 _ _)))

theorem execCustomerLoadDone_kept [Keeps P] [KeepsCs P] {s : State} (h : P s) :
    Out.All P (execCustomerLoadDone s) := by
  unfold execCustomerLoadDone
  exact keptOut_of (State.customerLoadDone_kept h)

theorem execSwap_kept [Keeps P] (a0 : Port) {a1 : State} (h1001 : P a1) :
    Out.All P (execSwap a0 a1) := by
  unfold execSwap
  exact keptOut_of (State.host_kept h1001 _ _ _ _ _ (fun _ h0 => (State.swapBanks_kept h0 _)))

theorem execKeyWrite_kept [Keeps P] (a0 : Port) (a1 : Word) {a2 : State} (h1002 : P a2) :
    Out.All P (execKeyWrite a0 a1 a2) := by
  unfold execKeyWrite
  exact keptOut_of (State.host_kept h1002 _ _ _ _ _ (fun _ h0 => (State.keyStart_kept h0 _ _ _)))

theorem execKeyRevoke_kept [Keeps P] (a0 : Port) (a1 : Word) {a2 : State} (h1002 : P a2) :
    Out.All P (execKeyRevoke a0 a1 a2) := by
  unfold execKeyRevoke
  exact keptOut_of (State.host_kept h1002 _ _ _ _ _ (fun _ h0 => (State.keyStart_kept h0 _ _ _)))

theorem execKeyCommandDone_kept [Keeps P] [KeepsNvm P] (a0 : NvmEnd) {a1 : State} (h1001 : P a1) :
    Out.All P (execKeyCommandDone a0 a1) := by
  unfold execKeyCommandDone
  exact keptOut_of (State.keyDone_kept h1001 _)

/-! ### Write -/

theorem State.refuse_kept [Keeps P] {s : State} (h : P s) (a1 : Port) (a2 : Nat) (a3 : Nat) :
    P (State.refuse s a1 a2 a3) := by
  unfold State.refuse
  exact State.reject_kept h _ _ _ _ _

theorem State.plain_kept [Keeps P] {s : State} (h : P s) (a1 : Nat) (a2 : Word) :
    P (State.plain s a1 a2) := by
  unfold State.plain
  extract_lets x0
  exact (State.setReg_kept h _ _)

theorem State.nextBeat_kept [Keeps P] {s : State} (h : P s) (a1 : State → State) (h1001 : ∀ t, P t → P (a1 t)) :
    P (State.nextBeat s a1) := by
  unfold State.nextBeat
  extract_lets x0
  have h0 : P x0 := (h1001 _ (kept_upd h))
  exact (kept_upd h0)

theorem State.clDirect_kept [Keeps P] {s : State} (h : P s) (a1 : Port) (a2 : Nat) (a3 : Word) :
    P (State.clDirect s a1 a2 a3) := by
  unfold State.clDirect
  exact ite_kept (fun _ => (State.refuse_kept h _ _ _)) (fun _ => (by extract_lets x0; exact (ite_kept (fun _ => (State.applyValues_kept h _)) (fun _ => (by split; (exact (ite_kept (fun _ => (State.nextBeat_kept h _ (fun _ h1 => (State.applyActions_kept h1 _)))) (fun _ => (State.applyActions_kept h _)))); (exact (State.nextBeat_kept h _ (fun _ h2 => (State.applyActions_kept h2 _)))); (exact (State.nextBeat_kept h _ (fun _ h3 => (State.applyActions_kept h3 _)))); (exact (State.applyActions_kept h _)))))))

theorem State.wrDev_kept [Keeps P] [KeepsMaps P] {s : State} (h : P s) (a1 : Port) (a2 : Nat) (a3 : Word) :
    P (State.wrDev s a1 a2 a3) := by
  unfold State.wrDev
  exact ite_kept (fun _ => (State.modeWrite_kept h _ _)) (fun _ => (ite_kept (fun _ => (by split; (exact (State.softReset_kept h _)); (exact (State.cancelMode_kept h)); (exact (State.refuse_kept h _ _ _)))) (fun _ => (ite_kept (fun _ => (by split; (exact (State.svcSpare_kept h _ _ _)); (exact (State.svcRetire_kept h _ _)); (exact (State.svcCancel_kept h _)); (exact (State.refuse_kept h _ _ _)))) (fun _ => (State.plain_kept h _ _))))))

theorem State.wrTb_kept [Keeps P] {s : State} (h : P s) (a1 : Port) (a2 : Nat) (a3 : Word) :
    P (State.wrTb s a1 a2 a3) := by
  unfold State.wrTb
  exact ite_kept (fun _ => (State.tbCtrlWrite_kept h _ _)) (fun _ => (ite_kept (fun _ => (State.tbLoadWrite_kept h _ _)) (fun _ => (ite_kept (fun _ =>
      (ite_kept (fun _ => (State.rootCmd_kept h _ _ _)) (fun _ => (State.refuse_kept h _ _ _)))) (fun _ => (State.plain_kept h _ _))))))

theorem State.wrHk_kept [Keeps P] {s : State} (h : P s) (a1 : Port) (a2 : Nat) (a3 : Word) :
    P (State.wrHk s a1 a2 a3) := by
  unfold State.wrHk
  exact ite_kept (fun _ => (by split; (exact (State.hkRetire_kept h _ _)); (exact (State.hkRestore_kept h _ _)); (exact (State.reject_kept h _ _ _ _ _)))) (fun _ => (ite_kept (fun _ => (State.refuse_kept h _ _ _)) (fun _ => (State.plain_kept h _ _))))

theorem State.wrLog_kept [Keeps P] {s : State} (h : P s) (a1 : Port) (a2 : Nat) (a3 : Word) :
    P (State.wrLog s a1 a2 a3) := by
  unfold State.wrLog
  exact ite_kept (fun _ => (ite_kept (fun _ => (State.logClear_kept h)) (fun _ => (State.refuse_kept h _ _ _)))) (fun _ => (State.plain_kept h _ _))

theorem State.wrLg_kept [Keeps P] {s : State} (h : P s) (a1 : Port) (a2 : Nat) (a3 : Word) :
    P (State.wrLg s a1 a2 a3) := by
  unfold State.wrLg
  exact ite_kept (fun _ => (State.headWrite_kept h _ _)) (fun _ => (ite_kept (fun _ => (State.ovfWrite_kept h _ _)) (fun _ => (ite_kept (fun _ => (by split; (exact (State.lgClear_kept h)); (exact (State.set_kept h _ _)); (exact (State.refuse_kept h _ _ _)))) (fun _ => (ite_kept (fun _ => (State.snapWrite_kept h _ _)) (fun _ => (ite_kept (fun _ => (ite_kept (fun _ => (State.refuse_kept h _ _ _)) (fun _ => (State.nearRise_kept (State.plain_kept h _ _) h)))) (fun _ => (State.plain_kept h _ _))))))))))

theorem State.wrCp_kept [Keeps P] {s : State} (h : P s) (a1 : Port) (a2 : Nat) (a3 : Word) :
    P (State.wrCp s a1 a2 a3) := by
  unfold State.wrCp
  exact ite_kept (fun _ => (ite_kept (fun _ => (State.refuse_kept h _ _ _)) (fun _ => (State.plain_kept h _ _)))) (fun _ => (ite_kept (fun _ =>
      (State.plain_kept h _ _)) (fun _ => (State.plain_kept h _ _))))

theorem State.wrMp_kept [Keeps P] {s : State} (h : P s) (a1 : Port) (a2 : Nat) (a3 : Word) :
    P (State.wrMp s a1 a2 a3) := by
  unfold State.wrMp
  extract_lets x0
  exact (ite_kept (fun _ => (by split; (exact (State.mpXfer_kept h _ _)); (exact (State.mpDiscover_kept h _)); (exact (State.mpAbort_kept h)); (exact (State.refuse_kept h _ _ _)))) (fun _ => (ite_kept (fun _ => (ite_kept (fun _ => (State.refuse_kept h _ _ _)) (fun _ => (State.plain_kept h _ _)))) (fun _ => (ite_kept (fun _ => (ite_kept (fun _ => (State.refuse_kept h _ _ _)) (fun _ => (State.plain_kept h _ _)))) (fun _ => (State.plain_kept h _ _)))))))

theorem State.hlBulkWrite_kept [Keeps P] {s : State} (h : P s) (a1 : Port) (a2 : Nat) (a3 : Word) :
    P (State.hlBulkWrite s a1 a2 a3) := by
  unfold State.hlBulkWrite
  extract_lets x0
  exact (ite_kept (fun _ => (State.refuse_kept h _ _ _)) (fun _ => (State.plain_kept h _ _)))

theorem State.wrHl_kept [Keeps P] {s : State} (h : P s) (a1 : Port) (a2 : Nat) (a3 : Word) :
    P (State.wrHl s a1 a2 a3) := by
  unfold State.wrHl
  exact ite_kept (fun _ => (State.hlBulkWrite_kept h _ _ _)) (fun _ => (State.plain_kept h _ _))

theorem State.wrCl_kept [Keeps P] {s : State} (h : P s) (a1 : Port) (a2 : Nat) (a3 : Word) :
    P (State.wrCl s a1 a2 a3) := by
  unfold State.wrCl
  exact ite_kept (fun _ => (ite_kept (fun _ => (State.set_kept (State.plain_kept h _ _) _ _)) (fun _ => (State.plain_kept h _ _)))) (fun _ => (ite_kept (fun _ => (by extract_lets x0; exact (by split; (exact (by split; (exact (State.hostOpen_kept h _ _)); (exact (State.hostCommit_kept h _ _)); (exact (State.hostDiscard_kept h _ _)); (exact (State.hostFree_kept h _ _)); (exact (State.refuse_kept h _ _ _)))); (exact (State.clSetWrite_kept h _ _ _)); (exact (State.clAddrWrite_kept h _ _ _)); (exact h); (exact (ite_kept (fun _ => (State.setReg_kept h _ _)) (fun _ => (State.refuse_kept h _ _ _))))))) (fun _ => (State.plain_kept h _ _))))

theorem State.wrSi_kept [Keeps P] {s : State} (h : P s) (a1 : Port) (a2 : Nat) (a3 : Word) :
    P (State.wrSi s a1 a2 a3) := by
  unfold State.wrSi
  exact ite_kept (fun _ => (by split; (exact (State.siLoad_kept h _)); (exact (State.siReshape_kept h _ _)); (exact (State.siCheck_kept h _)); (exact (State.siClear_kept h _)); (exact (State.refuse_kept h _ _ _)))) (fun _ => (ite_kept (fun _ => (State.refuse_kept h _ _ _)) (fun _ => (State.plain_kept h _ _))))

theorem State.wrLx_kept [Keeps P] {s : State} (h : P s) (a1 : Port) (a2 : Nat) (a3 : Word) :
    P (State.wrLx s a1 a2 a3) := by
  unfold State.wrLx
  exact ite_kept (fun _ => (by split; (exact (State.loadStart_kept h _ _)); (exact (State.loadStart_kept h _ _)); (exact (State.swapBanks_kept h _)); (exact (State.keyStart_kept h _ _ _)); (exact (State.keyStart_kept h _ _ _)); (exact (State.refuse_kept h _ _ _)))) (fun _ => (ite_kept (fun _ => (State.refuse_kept h _ _ _)) (fun _ => (State.plain_kept h _ _))))

theorem State.wrSq_kept [Keeps P] {s : State} (h : P s) (a1 : Port) (a2 : Nat) (a3 : Word) :
    P (State.wrSq s a1 a2 a3) := by
  unfold State.wrSq
  extract_lets x0 x1
  exact (ite_kept (fun _ => (ite_kept (fun _ => (State.setX_kept h _ _ _)) (fun _ => (State.refuse_kept h _ _ _)))) (fun _ => (ite_kept (fun _ => (State.clDirect_kept h _ _ _)) (fun _ => (ite_kept (fun _ => (by split; (exact (State.arm_kept h _ _)); (exact (State.disarm_kept h _ _)); (exact (State.hostHold_kept h _ _)); (exact (State.hostResume_kept h _ _ _)); (exact (State.hostStop_kept h _ _)); (exact (State.refuse_kept h _ _ _)))) (fun _ => (State.plain_kept h _ _)))))))

theorem State.wrSo_kept [Keeps P] {s : State} (h : P s) (a1 : Port) (a2 : Nat) (a3 : Word) :
    P (State.wrSo s a1 a2 a3) := by
  unfold State.wrSo
  extract_lets x0
  exact (ite_kept (fun _ => (ite_kept (fun _ => (State.refuse_kept h _ _ _)) (fun _ => (State.plain_kept h _ _)))) (fun _ => (ite_kept (fun _ => (ite_kept (fun _ => (State.refuse_kept h _ _ _)) (fun _ => (State.plain_kept h _ _)))) (fun _ => (ite_kept (fun _ => (by split; (exact (State.fcCfgWrite_kept h _ _ _)); (exact (State.fcPtrWrite_kept h _ _ _)); (exact (ite_kept (fun _ => (State.clrFail_kept h _ _)) (fun _ => h))); (exact h))) (fun _ => (State.plain_kept h _ _)))))))

theorem State.wrEe_kept [Keeps P] {s : State} (h : P s) (a1 : Port) (a2 : Nat) (a3 : Word) :
    P (State.wrEe s a1 a2 a3) := by
  unfold State.wrEe
  split
  · exact (State.clDirect_kept h _ _ _)
  · exact (State.eeTwrWrite_kept h _ _ _)
  · exact (State.plain_kept h _ _)

theorem State.wrTm_kept [Keeps P] {s : State} (h : P s) (a1 : Port) (a2 : Nat) (a3 : Word) :
    P (State.wrTm s a1 a2 a3) := by
  unfold State.wrTm
  extract_lets x0
  exact (ite_kept (fun _ => (State.clDirect_kept h _ _ _)) (fun _ => (ite_kept (fun _ => (by split; (exact (State.tmArm_kept h _ _ _)); (exact (State.tdcCancel_kept h _)); (exact (State.refuse_kept h _ _ _)))) (fun _ => (State.plain_kept h _ _)))))

theorem State.wrCh_kept [Keeps P] {s : State} (h : P s) (a1 : Port) (a2 : Nat) (a3 : Word) :
    P (State.wrCh s a1 a2 a3) := by
  unfold State.wrCh
  extract_lets x0
  exact (ite_kept (fun _ => (by split; (exact (State.pmuMeasure_kept h _ _ _)); (exact (State.pmuCancel_kept h _)); (exact (State.refuse_kept h _ _ _)))) (fun _ => (ite_kept (fun _ => (State.clDirect_kept h _ _ _)) (fun _ => (State.plain_kept h _ _)))))

theorem State.wrDps_kept [Keeps P] {s : State} (h : P s) (a1 : Port) (a2 : Nat) (a3 : Word) :
    P (State.wrDps s a1 a2 a3) := by
  unfold State.wrDps
  extract_lets x0
  exact (ite_kept (fun _ => (State.clDirect_kept h _ _ _)) (fun _ => (ite_kept (fun _ => (by split; (exact (State.dpsMeasure_kept h _ _ _)); (exact (State.dpsCancel_kept h _)); (exact (State.dpsCheck_kept h _ _)); (exact (State.refuse_kept h _ _ _)))) (fun _ => (State.plain_kept h _ _)))))

theorem State.wrWf_kept [Keeps P] {s : State} (h : P s) (a1 : Port) (a2 : Nat) (a3 : Word) :
    P (State.wrWf s a1 a2 a3) := by
  unfold State.wrWf
  extract_lets x0
  exact (ite_kept (fun _ => (State.clDirect_kept h _ _ _)) (fun _ => (ite_kept (fun _ => (ite_kept (fun _ => (State.wfTableLoad_kept h _ _)) (fun _ =>
      (State.refuse_kept h _ _ _)))) (fun _ => (ite_kept (fun _ => (State.refuse_kept h _ _ _)) (fun _ => (State.plain_kept h _ _)))))))

theorem State.gdCommand_kept [Keeps P] {s : State} (h : P s) (a1 : Port) (a2 : Word) :
    P (State.gdCommand s a1 a2) := by
  unfold State.gdCommand
  extract_lets x0 x1
  have h1 : P x1 := (State.reject_kept h _ _ _ _ _)
  exact (by split; (exact (State.clearCmd_kept h _ _ _ _)); (exact (ite_kept (fun _ => (State.clearCmd_kept h _ _ _ _)) (fun _ => h1))); (exact (ite_kept (fun _ => (State.clearCmd_kept h _ _ _ _)) (fun _ => h1))); (exact (State.clearWhatCan_kept h _ _)); (exact (State.selfcheck_kept h _ _)); (exact (State.contactRun_kept h _)); (exact h1))

theorem State.wrGd_kept [Keeps P] {s : State} (h : P s) (a1 : Port) (a2 : Nat) (a3 : Word) :
    P (State.wrGd s a1 a2 a3) := by
  unfold State.wrGd
  exact ite_kept (fun _ => (State.follow_kept (State.gdCommand_kept h _ _))) (fun _ => (ite_kept (fun _ => (ite_kept (fun _ => (State.refuse_kept h _
      _ _)) (fun _ => (State.plain_kept h _ _)))) (fun _ => (ite_kept (fun _ => (State.clDirect_kept h _ _ _)) (fun _ => (State.plain_kept h _ _))))))

theorem State.wrCal_kept [Keeps P] {s : State} (h : P s) (a1 : Port) (a2 : Nat) (a3 : Word) :
    P (State.wrCal s a1 a2 a3) := by
  unfold State.wrCal
  exact ite_kept (fun _ => (by split; (exact (State.refcalRun_kept h _ _)); (exact (State.qcal_kept h _ _)); (exact (State.calSave_kept h _ _)); (exact (State.calRestore_kept h _ _)); (exact (State.calAbort_kept h _)); (exact (State.refuse_kept h _ _ _)))) (fun _ => (ite_kept (fun _ => (State.refuse_kept h _ _ _)) (fun _ => (ite_kept (fun _ => (State.dropCycles_kept (State.plain_kept h _ _))) (fun _ => (State.plain_kept h _ _))))))

theorem State.wordWrite_kept [Keeps P] [KeepsMaps P] {s : State} (h : P s) (a1 : Port) (a2 : Nat) (a3 : Word) :
    P (State.wordWrite s a1 a2 a3) := by
  unfold State.wordWrite
  exact ite_kept (fun _ => (State.wrDev_kept h _ _ _)) (fun _ => (ite_kept (fun _ => (State.wrTb_kept h _ _ _)) (fun _ => (ite_kept (fun _ =>
      (ite_kept (fun _ => (State.clDirect_kept h _ _ _)) (fun _ => h))) (fun _ => (ite_kept (fun _ => (State.wrHk_kept h _ _ _)) (fun _ => (ite_kept
      (fun _ => (State.wrLog_kept h _ _ _)) (fun _ => (ite_kept (fun _ => (State.wrLg_kept h _ _ _)) (fun _ => (ite_kept (fun _ => (State.wrCp_kept h
      _ _ _)) (fun _ => (ite_kept (fun _ => (State.wrMp_kept h _ _ _)) (fun _ => (ite_kept (fun _ => (State.wrHl_kept h _ _ _)) (fun _ => (ite_kept
      (fun _ => (State.wrCl_kept h _ _ _)) (fun _ => (ite_kept (fun _ => (State.wrSi_kept h _ _ _)) (fun _ => (ite_kept (fun _ => (State.wrLx_kept h _
      _ _)) (fun _ => (ite_kept (fun _ => (State.wrSq_kept h _ _ _)) (fun _ => (ite_kept (fun _ => (State.wrSo_kept h _ _ _)) (fun _ => (ite_kept (fun
      _ => (ite_kept (fun _ => (State.rgnWrite_kept h _ _ _)) (fun _ => (State.plain_kept h _ _)))) (fun _ => (ite_kept (fun _ => (State.wrEe_kept h _
      _ _)) (fun _ => (ite_kept (fun _ => (State.wrTm_kept h _ _ _)) (fun _ => (ite_kept (fun _ => (State.wrCh_kept h _ _ _)) (fun _ => (ite_kept (fun
      _ => (State.wrDps_kept h _ _ _)) (fun _ => (ite_kept (fun _ => (State.wrWf_kept h _ _ _)) (fun _ => (ite_kept (fun _ => (State.wrGd_kept h _ _
      _)) (fun _ => (ite_kept (fun _ => (ite_kept (fun _ => (State.clDirect_kept h _ _ _)) (fun _ => (State.plain_kept h _ _)))) (fun _ =>
      (State.wrCal_kept h _ _ _))))))))))))))))))))))))))))))))))))))))))))

theorem State.directWrite_kept [Keeps P] [KeepsMaps P] {s : State} (h : P s) (a1 : Port) (a2 : Nat) (a3 : Word) :
    P (State.directWrite s a1 a2 a3) := by
  unfold State.directWrite
  exact ite_kept (fun _ => (State.refuse_kept h _ _ _)) (fun _ => (ite_kept (fun _ => (State.reportHole_kept h _ _)) (fun _ => (State.wordWrite_kept h
      _ _ _))))

theorem execRegisterWrite_kept [Keeps P] [KeepsMaps P] (a0 : Port) (a1 : BitVec 24) (a2 : Word) {a3 : State} (h1003 : P a3) :
    Out.All P (execRegisterWrite a0 a1 a2 a3) := by
  unfold execRegisterWrite
  exact keptOut_of (State.directWrite_kept h1003 _ _ _)

theorem execHlBulkWrite_kept [Keeps P] (a0 : Port) (a1 : Fin 4) (a2 : Word) {a3 : State} (h1003 : P a3) :
    Out.All P (execHlBulkWrite a0 a1 a2 a3) := by
  unfold execHlBulkWrite
  exact keptOut_of (State.host_kept h1003 _ _ _ _ _ (fun _ h0 => (State.hlBulkWrite_kept h0 _ _ _)))

/-! ### Link -/

theorem State.bar0Dword_kept [Keeps P] {s : State} (h : P s) (a1 : Nat) :
    P (State.bar0Dword s a1) := by
  unfold State.bar0Dword
  extract_lets x0 x1 x2 x3 x4 x5
  have h1 : P x1 := (ite_kept (fun _ => (State.reportHole_kept h _ _)) (fun _ => (State.bumpFree_kept h)))
  have h3 : P x3 := (ite_kept (fun _ => (kept_upd h1)) (fun _ => h))
  exact (ite_kept (fun _ => h) (fun _ => (kept_upd h3)))

theorem State.bar0Partial_kept [Keeps P] {s : State} (h : P s) (a1 : Nat) :
    P (State.bar0Partial s a1) := by
  unfold State.bar0Partial
  extract_lets x0 x1
  have h0 : P x0 := (State.hlLast_kept (State.set_kept h _ _) _ _)
  exact (kept_upd h0)

theorem State.bar0Empty_kept [Keeps P] {s : State} (h : P s) (a1 : Nat) :
    P (State.bar0Empty s a1) := by
  unfold State.bar0Empty
  split
  · exact (ite_kept (fun _ => h) (fun _ => (State.bar0Partial_kept h _)))
  · exact h

theorem State.bar0Store_kept [Keeps P] [KeepsMaps P] {s : State} (h : P s) (a1 : Nat) (a2 : BitVec 32) :
    P (State.bar0Store s a1 a2) := by
  unfold State.bar0Store
  extract_lets x0 x1 x2 x3
  have h1 : P x1 := (State.bar0Empty_kept h _)
  exact (ite_kept (fun _ => (kept_upd h1)) (fun _ => (ite_kept (fun _ => (State.directWrite_kept (kept_upd h1) _ _ _)) (fun _ =>
      (State.bar0Partial_kept h1 _)))))

theorem State.bar0Stores_kept [Keeps P] [KeepsMaps P] {s : State} (h : P s) (a1 : Nat) (a2 : List (Option (BitVec 32))) :
    P (State.bar0Stores s a1 a2) := by
  induction a2 generalizing s a1 with
  | nil => exact h
  | cons b bs ih =>
    cases b with
    | none => exact ih h _
    | some b => exact ih (ite_kept (fun _ => State.bar0Store_kept h _ _) (fun _ => h)) _

theorem execBar0Read_kept [Keeps P] (a0 : BitVec 28) (a1 : Nat) {a2 : State} (h1002 : P a2) :
    Out.All P (execBar0Read a0 a1 a2) := by
  unfold execBar0Read
  extract_lets x0 x1
  exact (keptOut_of (ite_kept (fun _ => h1002) (fun _ => (State.forN_kept _ _ (fun _ _ h2 => (State.bar0Dword_kept h2 _)) (kept_upd h1002)))))

theorem execBar0Write_kept [Keeps P] [KeepsMaps P] (a0 : BitVec 28) (a1 : List (Option (BitVec 32))) {a2 : State} (h1002 : P a2) :
    Out.All P (execBar0Write a0 a1 a2) := by
  unfold execBar0Write
  exact keptOut_of (ite_kept (fun _ => h1002) (fun _ => (State.bar0Stores_kept h1002 _ _)))

theorem State.bulkTake_kept [Keeps P] {s : State} (h : P s) (a1 : Nat) (a2 : Nat) (a3 : Nat) :
    P (State.bulkTake s a1 a2 a3) := by
  unfold State.bulkTake
  extract_lets x0 x1
  have h1 : P x1 := (ite_kept (fun _ => (State.set_kept h _ _)) (fun _ => h))
  exact (ite_kept (fun _ => (State.set_kept h1 _ _)) (fun _ => h1))

theorem State.bulkPm_kept [Keeps P] [KeepsMem P] {s : State} (h : P s) (a1 : Nat) (a2 : List ByteLane) :
    P (State.bulkPm s a1 a2) := by
  unfold State.bulkPm
  exact State.follow_kept (ite_kept (fun _ => (State.set_kept (State.bulkStore_kept h _ _) _ _)) (fun _ => (ite_kept (fun _ => (State.set_kept
      (State.bulkStore_kept h _ _) _ _)) (fun _ => (State.bulkStore_kept h _ _)))))

theorem execBulkWrite_kept [Keeps P] [KeepsMem P] (a0 : Fin 4) (a1 : BitVec 20) (a2 : List ByteLane) {a3 : State} (h1003 : P a3) :
    Out.All P (execBulkWrite a0 a1 a2 a3) := by
  unfold execBulkWrite
  exact keptOut_of (ite_kept (fun _ => h1003) (fun _ => (ite_kept (fun _ => (State.set_kept h1003 _ _)) (fun _ => (by extract_lets x0 x1 x2; have h1 : P x1 := (State.bulkTake_kept h1003 _ _ _); exact (ite_kept (fun _ => (State.set_kept h1 _ _)) (fun _ => (ite_kept (fun _ => h1) (fun _ => (State.bulkPm_kept h1 _ _))))))))))

theorem State.bulkPmRead_kept [Keeps P] {s : State} (h : P s) (a1 : Nat) (a2 : Nat) (a3 : Nat) :
    P (State.bulkPmRead s a1 a2 a3) := by
  unfold State.bulkPmRead
  extract_lets x0 x1 x2 x3
  have h1 : P x1 := (State.memReq_kept h _ _)
  have h2 : P x2 := (ite_kept (fun _ => (State.set_kept (State.uncorrMet_kept h1) _ _)) (fun _ => h1))
  exact (kept_upd h2)

theorem execBulkRead_kept [Keeps P] (a0 : Fin 4) (a1 : BitVec 20) (a2 : Nat) {a3 : State} (h1003 : P a3) :
    Out.All P (execBulkRead a0 a1 a2 a3) := by
  unfold execBulkRead
  exact keptOut_of (ite_kept (fun _ => h1003) (fun _ => (ite_kept (fun _ => (by extract_lets x0 x1; have h0 : P x0 := (State.set_kept h1003 _ _); exact (kept_upd h0))) (fun _ => (by extract_lets x2 x3 x4 x5; have h4 : P x4 := (State.bulkTake_kept h1003 _ _ _); exact (ite_kept (fun _ => (kept_upd h4)) (fun _ => (State.bulkPmRead_kept h4 _ _ _))))))))

theorem State.sendVec_kept [Keeps P] {s : State} (h : P s) (a1 : Nat) :
    P (State.sendVec s a1) := by
  unfold State.sendVec
  exact ite_kept (fun _ => (kept_upd h)) (fun _ => h)

theorem execMsixMessage_kept [Keeps P] {s : State} (h : P s) :
    Out.All P (execMsixMessage s) := by
  unfold execMsixMessage
  exact keptOut_of (by split; (exact (State.sendVec_kept h _)); (exact h))

theorem execMsixTableWrite_kept [Keeps P] (a0 : Fin 32) (a1 : Fin 4) (a2 : BitVec 32) {a3 : State} (h1003 : P a3) :
    Out.All P (execMsixTableWrite a0 a1 a2 a3) := by
  unfold execMsixTableWrite
  exact keptOut_of (ite_kept (fun _ => h1003) (fun _ => (by extract_lets x0 x1; have h1 : P x1 := (kept_upd h1003); exact (ite_kept (fun _ => (State.sendVec_kept h1 _)) (fun _ => h1)))))

theorem execConfigWrite_kept [Keeps P] (a0 : CfgWrite) {a1 : State} (h1001 : P a1) :
    Out.All P (execConfigWrite a0 a1) := by
  unfold execConfigWrite
  extract_lets x0 x1
  have h1 : P x1 := (by unfold x1; split; (exact (kept_upd h1001)); (exact (kept_upd h1001)))
  exact (keptOut_of (ite_kept (fun _ => (State.forN_kept _ _ (fun _ _ h2 => (State.sendVec_kept h2 _)) h1)) (fun _ => h1)))

theorem State.hlReset_kept [Keeps P] {s : State} (h : P s) :
    P (State.hlReset s) := by
  unfold State.hlReset
  extract_lets up keep lk t
  have ht : P t := upd_of (Keeps.dropHeld keep (Keeps.dropRegs keep h)) rfl rfl rfl rfl rfl rfl rfl rfl rfl rfl
  exact State.set_kept ht _ _

theorem execLinkUp_kept [Keeps P] (a0 : BitVec 3) (a1 : BitVec 4) (a2 : Bool) (a3 : BitVec 8) {a4 : State} (h1004 : P a4) :
    Out.All P (execLinkUp a0 a1 a2 a3 a4) := by
  unfold execLinkUp
  extract_lets x0 x1 x2 x3
  have h2 : P x2 := (State.set_kept (State.set_kept (State.set_kept (State.set_kept (State.set_kept h1004 _ _) _ _) _ _) _ _) _ _)
  have h3 : P x3 := (ite_kept (fun _ => (State.log_kept (State.inc_kept (State.set_kept h2 _ _) _) _ _ _ _)) (fun _ => (State.set_kept h2 _ _)))
  exact (keptOut_of (ite_kept (fun _ => (State.intr_kept h3 _)) (fun _ => h3)))

theorem execLinkRecovery_kept [Keeps P] {s : State} (h : P s) :
    Out.All P (execLinkRecovery s) := by
  unfold execLinkRecovery
  exact keptOut_of (State.inc_kept h _)

theorem execLinkDown_kept [Keeps P] {s : State} (h : P s) :
    Out.All P (execLinkDown s) := by
  unfold execLinkDown
  exact keptOut_of (ite_kept (fun _ => (State.alert_kept (State.log_kept (State.inc_kept (State.hlReset_kept (State.set_kept h _ _)) _) _ _ _ _) _))
      (fun _ => h))

theorem execHotReset_kept [Keeps P] {s : State} (h : P s) :
    Out.All P (execHotReset s) := by
  unfold execHotReset
  exact keptOut_of (State.hlReset_kept h)

theorem execFunctionLevelReset_kept [Keeps P] {s : State} (h : P s) :
    Out.All P (execFunctionLevelReset s) := by
  unfold execFunctionLevelReset
  exact keptOut_of (State.hlReset_kept h)

/-! ### Ports -/

theorem State.cpBegin_kept [Keeps P] {s : State} (h : P s) :
    P (State.cpBegin s) := by
  unfold State.cpBegin
  exact State.inc_kept (by extract_lets x0; have h0 : P x0 := (State.set_kept h _ _); exact (kept_upd h0)) _

theorem State.cpFrameErr_kept [Keeps P] {s : State} (h : P s) :
    P (State.cpFrameErr s) := by
  unfold State.cpFrameErr
  extract_lets x0
  have h0 : P x0 := (State.inc_kept (State.set_kept h _ _) _)
  exact (kept_upd h0)

theorem State.cpOverrun_kept [Keeps P] {s : State} (h : P s) :
    P (State.cpOverrun s) := by
  unfold State.cpOverrun
  extract_lets x0
  have h0 : P x0 := (State.set_kept h _ _)
  exact (kept_upd h0)

theorem State.cpCrcErr_kept [Keeps P] {s : State} (h : P s) :
    P (State.cpCrcErr s) := by
  unfold State.cpCrcErr
  extract_lets x0
  have h0 : P x0 := (State.inc_kept (State.set_kept h _ _) _)
  exact (kept_upd h0)

theorem State.cpWords_kept [Keeps P] [KeepsMaps P] {s : State} (h : P s) (a1 : Nat) (a2 : List Word) :
    P (State.cpWords s a1 a2) := by
  induction a2 generalizing s a1 with
  | nil => exact h
  | cons w ws ih => exact ih (ite_kept (fun _ => State.directWrite_kept h _ _ _) (fun _ => State.cpOverrun_kept h)) _

theorem State.cpReadWord_kept [Keeps P] {s : State} (h : P s) (a1 : Nat) :
    P (State.cpReadWord s a1) := by
  unfold State.cpReadWord
  exact ite_kept (fun _ => (by extract_lets x0; have h0 : P x0 := (State.cpOverrun_kept h); exact (kept_upd h0))) (fun _ => (ite_kept (fun _ => (by extract_lets x1; have h1 : P x1 := (State.reportHole_kept h _ _); exact (kept_upd h1))) (fun _ => (by extract_lets x2; have h2 : P x2 := (State.bumpFree_kept h); exact (kept_upd h2)))))

theorem State.cpReadWords_kept [Keeps P] {s : State} (h : P s) (a1 : Nat) (a2 : Nat) :
    P (State.cpReadWords s a1 a2) := by
  unfold State.cpReadWords
  exact State.forN_kept _ _ (fun _ _ h0 => (State.cpReadWord_kept h0 _)) h

theorem execCpNop_kept [Keeps P] {s : State} (h : P s) :
    Out.All P (execCpNop s) := by
  unfold execCpNop
  exact keptOut_of (State.cpBegin_kept h)

theorem execCpWrite_kept [Keeps P] [KeepsMaps P] (a0 : BitVec 24) (a1 : List Word) (a2 : Bool) {a3 : State} (h1003 : P a3) :
    Out.All P (execCpWrite a0 a1 a2 a3) := by
  unfold execCpWrite
  extract_lets x0
  have h0 : P x0 := (State.cpWords_kept (State.cpBegin_kept h1003) _ _)
  exact (keptOut_of (ite_kept (fun _ => (State.cpFrameErr_kept h0)) (fun _ => h0)))

theorem execCpRead_kept [Keeps P] (a0 : BitVec 24) (a1 : Nat) (a2 : Bool) {a3 : State} (h1003 : P a3) :
    Out.All P (execCpRead a0 a1 a2 a3) := by
  unfold execCpRead
  extract_lets x0 x1 x2
  have h0 : P x0 := (State.cpBegin_kept h1003)
  have h1 : P x1 := (State.cpReadWords_kept (kept_upd h0) _ _)
  have h2 : P x2 := (State.cpFrameErr_kept (State.cpReadWord_kept h1 _))
  exact (keptOut_of (ite_kept (fun _ => (kept_upd h2)) (fun _ => h1)))

theorem execCpWriteCrc_kept [Keeps P] [KeepsMaps P] (a0 : BitVec 24) (a1 : List Word) (a2 : BitVec 16) {a3 : State} (h1003 : P a3) :
    Out.All P (execCpWriteCrc a0 a1 a2 a3) := by
  unfold execCpWriteCrc
  extract_lets x0
  have h0 : P x0 := (State.cpBegin_kept h1003)
  exact (keptOut_of (ite_kept (fun _ => (State.cpFrameErr_kept h0)) (fun _ => (ite_kept (fun _ => (State.cpWords_kept h0 _ _)) (fun _ =>
      (State.cpCrcErr_kept h0))))))

theorem execFrameErr_kept [Keeps P] {s : State} (h : P s) :
    Out.All P (execFrameErr s) := by
  unfold execFrameErr
  exact keptOut_of (State.cpFrameErr_kept (State.cpBegin_kept h))

theorem execTrstN_kept [Keeps P] {s : State} (h : P s) :
    Out.All P (execTrstN s) := by
  unfold execTrstN
  exact keptOut_of (kept_upd h)

theorem execJtagExtest_kept [Keeps P] (a0 : List Bool) (a1 : List Bool) {a2 : State} (h1002 : P a2) :
    Out.All P (execJtagExtest a0 a1 a2) := by
  unfold execJtagExtest
  exact keptOut_of (ite_kept (fun _ => (kept_upd h1002)) (fun _ => (kept_upd h1002)))

theorem execJtagSamplePreload_kept [Keeps P] (a0 : List Bool) (a1 : List Bool) {a2 : State} (h1002 : P a2) :
    Out.All P (execJtagSamplePreload a0 a1 a2) := by
  unfold execJtagSamplePreload
  exact keptOut_of (kept_upd h1002)

theorem execJtagIdcode_kept [Keeps P] {s : State} (h : P s) :
    Out.All P (execJtagIdcode s) := by
  unfold execJtagIdcode
  exact keptOut_of (kept_upd h)

theorem execJtagBypass_kept [Keeps P] {s : State} (h : P s) :
    Out.All P (execJtagBypass s) := by
  unfold execJtagBypass
  exact keptOut_of (kept_upd h)

/-! ### Tick -/

theorem State.advance_kept [Keeps P] {s : State} (h : P s) :
    P (State.advance s) := by
  unfold State.advance
  split
  · exact (State.setCounter_kept (kept_upd h) _)
  · exact (kept_upd h)

theorem State.dzEnds_kept [Keeps P] {s : State} (h : P s) :
    P (State.dzEnds s) := by
  unfold State.dzEnds
  exact State.forL_kept _ _ (fun _ _ h0 => (State.presentIdle_kept h0 _)) h

theorem State.tick_kept [Keeps P] {s : State} (h : P s) :
    P (State.tick s) := by
  unfold State.tick
  exact ite_kept (fun _ => h) (fun _ => (by extract_lets x0; have h0 : P x0 := (State.dzEnds_kept (State.advance_kept h)); exact (ite_kept (fun _ => (State.dueHolds_kept h0)) (fun _ => h0))))

end Sys2Proof.Machine
end

