-- ==== Sys2Proof/Laws/State.lean ====
section
/-! SUPPORT. What each named update of the state leaves alone: one lemma per field, so that no proof unfolds a record update. -/

namespace Sys2Proof.Machine

variable (s : State)

/-! ### setReg -/

@[simp] theorem State.setReg_shadow (a : Nat) (w : Word) : (s.setReg a w).shadow = s.shadow := rfl
@[simp] theorem State.setReg_held (a : Nat) (w : Word) : (s.setReg a w).held = s.held := rfl
@[simp] theorem State.setReg_mem (a : Nat) (w : Word) : (s.setReg a w).mem = s.mem := rfl
@[simp] theorem State.setReg_uncorr (a : Nat) (w : Word) : (s.setReg a w).uncorr = s.uncorr := rfl
@[simp] theorem State.setReg_beat (a : Nat) (w : Word) : (s.setReg a w).beat = s.beat := rfl
@[simp] theorem State.setReg_freeCtr (a : Nat) (w : Word) : (s.setReg a w).freeCtr = s.freeCtr := rfl
@[simp] theorem State.setReg_tb (a : Nat) (w : Word) : (s.setReg a w).tb = s.tb := rfl
@[simp] theorem State.setReg_maps (a : Nat) (w : Word) : (s.setReg a w).maps = s.maps := rfl
@[simp] theorem State.setReg_clones (a : Nat) (w : Word) : (s.setReg a w).clones = s.clones := rfl
@[simp] theorem State.setReg_routes (a : Nat) (w : Word) : (s.setReg a w).routes = s.routes := rfl
@[simp] theorem State.setReg_siOp (a : Nat) (w : Word) : (s.setReg a w).siOp = s.siOp := rfl
@[simp] theorem State.setReg_pads (a : Nat) (w : Word) : (s.setReg a w).pads = s.pads := rfl
@[simp] theorem State.setReg_boosts (a : Nat) (w : Word) : (s.setReg a w).boosts = s.boosts := rfl
@[simp] theorem State.setReg_seqs (a : Nat) (w : Word) : (s.setReg a w).seqs = s.seqs := rfl
@[simp] theorem State.setReg_pendRecs (a : Nat) (w : Word) : (s.setReg a w).pendRecs = s.pendRecs := rfl
@[simp] theorem State.setReg_gap (a : Nat) (w : Word) : (s.setReg a w).gap = s.gap := rfl
@[simp] theorem State.setReg_gapDrops (a : Nat) (w : Word) : (s.setReg a w).gapDrops = s.gapDrops := rfl
@[simp] theorem State.setReg_snaps (a : Nat) (w : Word) : (s.setReg a w).snaps = s.snaps := rfl
@[simp] theorem State.setReg_burst (a : Nat) (w : Word) : (s.setReg a w).burst = s.burst := rfl
@[simp] theorem State.setReg_chans (a : Nat) (w : Word) : (s.setReg a w).chans = s.chans := rfl
@[simp] theorem State.setReg_tenses (a : Nat) (w : Word) : (s.setReg a w).tenses = s.tenses := rfl
@[simp] theorem State.setReg_tensesShadow (a : Nat) (w : Word) : (s.setReg a w).tensesShadow = s.tensesShadow := rfl
@[simp] theorem State.setReg_streams (a : Nat) (w : Word) : (s.setReg a w).streams = s.streams := rfl
@[simp] theorem State.setReg_pendActs (a : Nat) (w : Word) : (s.setReg a w).pendActs = s.pendActs := rfl
@[simp] theorem State.setReg_slots (a : Nat) (w : Word) : (s.setReg a w).slots = s.slots := rfl
@[simp] theorem State.setReg_watches (a : Nat) (w : Word) : (s.setReg a w).watches = s.watches := rfl
@[simp] theorem State.setReg_rootQ (a : Nat) (w : Word) : (s.setReg a w).rootQ = s.rootQ := rfl
@[simp] theorem State.setReg_vetoIn (a : Nat) (w : Word) : (s.setReg a w).vetoIn = s.vetoIn := rfl
@[simp] theorem State.setReg_follows (a : Nat) (w : Word) : (s.setReg a w).follows = s.follows := rfl
@[simp] theorem State.setReg_cs (a : Nat) (w : Word) : (s.setReg a w).cs = s.cs := rfl
@[simp] theorem State.setReg_csBad (a : Nat) (w : Word) : (s.setReg a w).csBad = s.csBad := rfl
@[simp] theorem State.setReg_lex (a : Nat) (w : Word) : (s.setReg a w).lex = s.lex := rfl
@[simp] theorem State.setReg_lxOp (a : Nat) (w : Word) : (s.setReg a w).lxOp = s.lxOp := rfl
@[simp] theorem State.setReg_nvm (a : Nat) (w : Word) : (s.setReg a w).nvm = s.nvm := rfl
@[simp] theorem State.setReg_failMarks (a : Nat) (w : Word) : (s.setReg a w).failMarks = s.failMarks := rfl
@[simp] theorem State.setReg_dacs (a : Nat) (w : Word) : (s.setReg a w).dacs = s.dacs := rfl
@[simp] theorem State.setReg_pmus (a : Nat) (w : Word) : (s.setReg a w).pmus = s.pmus := rfl
@[simp] theorem State.setReg_wfs (a : Nat) (w : Word) : (s.setReg a w).wfs = s.wfs := rfl
@[simp] theorem State.setReg_wfTables (a : Nat) (w : Word) : (s.setReg a w).wfTables = s.wfTables := rfl
@[simp] theorem State.setReg_wfLoads (a : Nat) (w : Word) : (s.setReg a w).wfLoads = s.wfLoads := rfl
@[simp] theorem State.setReg_dpss (a : Nat) (w : Word) : (s.setReg a w).dpss = s.dpss := rfl
@[simp] theorem State.setReg_gds (a : Nat) (w : Word) : (s.setReg a w).gds = s.gds := rfl
@[simp] theorem State.setReg_dgds (a : Nat) (w : Word) : (s.setReg a w).dgds = s.dgds := rfl
@[simp] theorem State.setReg_contact (a : Nat) (w : Word) : (s.setReg a w).contact = s.contact := rfl
@[simp] theorem State.setReg_tripIn (a : Nat) (w : Word) : (s.setReg a w).tripIn = s.tripIn := rfl
@[simp] theorem State.setReg_pmuMeas (a : Nat) (w : Word) : (s.setReg a w).pmuMeas = s.pmuMeas := rfl
@[simp] theorem State.setReg_dpsMeas (a : Nat) (w : Word) : (s.setReg a w).dpsMeas = s.dpsMeas := rfl
@[simp] theorem State.setReg_tdcs (a : Nat) (w : Word) : (s.setReg a w).tdcs = s.tdcs := rfl
@[simp] theorem State.setReg_ltests (a : Nat) (w : Word) : (s.setReg a w).ltests = s.ltests := rfl
@[simp] theorem State.setReg_lanes (a : Nat) (w : Word) : (s.setReg a w).lanes = s.lanes := rfl
@[simp] theorem State.setReg_cal (a : Nat) (w : Word) : (s.setReg a w).cal = s.cal := rfl
@[simp] theorem State.setReg_stackReq (a : Nat) (w : Word) : (s.setReg a w).stackReq = s.stackReq := rfl
@[simp] theorem State.setReg_logRing (a : Nat) (w : Word) : (s.setReg a w).logRing = s.logRing := rfl
@[simp] theorem State.setReg_logWait (a : Nat) (w : Word) : (s.setReg a w).logWait = s.logWait := rfl
@[simp] theorem State.setReg_msix (a : Nat) (w : Word) : (s.setReg a w).msix = s.msix := rfl
@[simp] theorem State.setReg_cpFrame (a : Nat) (w : Word) : (s.setReg a w).cpFrame = s.cpFrame := rfl
@[simp] theorem State.setReg_cpOut (a : Nat) (w : Word) : (s.setReg a w).cpOut = s.cpOut := rfl
@[simp] theorem State.setReg_mpOp (a : Nat) (w : Word) : (s.setReg a w).mpOp = s.mpOp := rfl
@[simp] theorem State.setReg_tileDps (a : Nat) (w : Word) : (s.setReg a w).tileDps = s.tileDps := rfl
@[simp] theorem State.setReg_cold (a : Nat) (w : Word) : (s.setReg a w).cold = s.cold := rfl
@[simp] theorem State.setReg_hk (a : Nat) (w : Word) : (s.setReg a w).hk = s.hk := rfl
@[simp] theorem State.setReg_shut (a : Nat) (w : Word) : (s.setReg a w).shut = s.shut := rfl
@[simp] theorem State.setReg_sched (a : Nat) (w : Word) : (s.setReg a w).sched = s.sched := rfl
@[simp] theorem State.setReg_selfTest (a : Nat) (w : Word) : (s.setReg a w).selfTest = s.selfTest := rfl
@[simp] theorem State.setReg_lgMarch (a : Nat) (w : Word) : (s.setReg a w).lgMarch = s.lgMarch := rfl
@[simp] theorem State.setReg_brown (a : Nat) (w : Word) : (s.setReg a w).brown = s.brown := rfl
@[simp] theorem State.setReg_link (a : Nat) (w : Word) : (s.setReg a w).link = s.link := rfl
@[simp] theorem State.setReg_jtag (a : Nat) (w : Word) : (s.setReg a w).jtag = s.jtag := rfl
@[simp] theorem State.setReg_pending (a : Nat) (w : Word) : (s.setReg a w).pending = s.pending := rfl
@[simp] theorem State.setReg_byte (a : Nat) (w : Word) (b : Nat) : (s.setReg a w).byte b = s.byte b := rfl
@[simp] theorem State.setReg_now (a : Nat) (w : Word) : (s.setReg a w).now = s.now := rfl

/-! ### set -/

@[simp] theorem State.set_shadow (f : Fld) (v : Nat) : (s.set f v).shadow = s.shadow := rfl
@[simp] theorem State.set_held (f : Fld) (v : Nat) : (s.set f v).held = s.held := rfl
@[simp] theorem State.set_mem (f : Fld) (v : Nat) : (s.set f v).mem = s.mem := rfl
@[simp] theorem State.set_uncorr (f : Fld) (v : Nat) : (s.set f v).uncorr = s.uncorr := rfl
@[simp] theorem State.set_beat (f : Fld) (v : Nat) : (s.set f v).beat = s.beat := rfl
@[simp] theorem State.set_freeCtr (f : Fld) (v : Nat) : (s.set f v).freeCtr = s.freeCtr := rfl
@[simp] theorem State.set_tb (f : Fld) (v : Nat) : (s.set f v).tb = s.tb := rfl
@[simp] theorem State.set_maps (f : Fld) (v : Nat) : (s.set f v).maps = s.maps := rfl
@[simp] theorem State.set_clones (f : Fld) (v : Nat) : (s.set f v).clones = s.clones := rfl
@[simp] theorem State.set_routes (f : Fld) (v : Nat) : (s.set f v).routes = s.routes := rfl
@[simp] theorem State.set_siOp (f : Fld) (v : Nat) : (s.set f v).siOp = s.siOp := rfl
@[simp] theorem State.set_pads (f : Fld) (v : Nat) : (s.set f v).pads = s.pads := rfl
@[simp] theorem State.set_boosts (f : Fld) (v : Nat) : (s.set f v).boosts = s.boosts := rfl
@[simp] theorem State.set_seqs (f : Fld) (v : Nat) : (s.set f v).seqs = s.seqs := rfl
@[simp] theorem State.set_pendRecs (f : Fld) (v : Nat) : (s.set f v).pendRecs = s.pendRecs := rfl
@[simp] theorem State.set_gap (f : Fld) (v : Nat) : (s.set f v).gap = s.gap := rfl
@[simp] theorem State.set_gapDrops (f : Fld) (v : Nat) : (s.set f v).gapDrops = s.gapDrops := rfl
@[simp] theorem State.set_snaps (f : Fld) (v : Nat) : (s.set f v).snaps = s.snaps := rfl
@[simp] theorem State.set_burst (f : Fld) (v : Nat) : (s.set f v).burst = s.burst := rfl
@[simp] theorem State.set_chans (f : Fld) (v : Nat) : (s.set f v).chans = s.chans := rfl
@[simp] theorem State.set_tenses (f : Fld) (v : Nat) : (s.set f v).tenses = s.tenses := rfl
@[simp] theorem State.set_tensesShadow (f : Fld) (v : Nat) : (s.set f v).tensesShadow = s.tensesShadow := rfl
@[simp] theorem State.set_streams (f : Fld) (v : Nat) : (s.set f v).streams = s.streams := rfl
@[simp] theorem State.set_pendActs (f : Fld) (v : Nat) : (s.set f v).pendActs = s.pendActs := rfl
@[simp] theorem State.set_slots (f : Fld) (v : Nat) : (s.set f v).slots = s.slots := rfl
@[simp] theorem State.set_watches (f : Fld) (v : Nat) : (s.set f v).watches = s.watches := rfl
@[simp] theorem State.set_rootQ (f : Fld) (v : Nat) : (s.set f v).rootQ = s.rootQ := rfl
@[simp] theorem State.set_vetoIn (f : Fld) (v : Nat) : (s.set f v).vetoIn = s.vetoIn := rfl
@[simp] theorem State.set_follows (f : Fld) (v : Nat) : (s.set f v).follows = s.follows := rfl
@[simp] theorem State.set_cs (f : Fld) (v : Nat) : (s.set f v).cs = s.cs := rfl
@[simp] theorem State.set_csBad (f : Fld) (v : Nat) : (s.set f v).csBad = s.csBad := rfl
@[simp] theorem State.set_lex (f : Fld) (v : Nat) : (s.set f v).lex = s.lex := rfl
@[simp] theorem State.set_lxOp (f : Fld) (v : Nat) : (s.set f v).lxOp = s.lxOp := rfl
@[simp] theorem State.set_nvm (f : Fld) (v : Nat) : (s.set f v).nvm = s.nvm := rfl
@[simp] theorem State.set_failMarks (f : Fld) (v : Nat) : (s.set f v).failMarks = s.failMarks := rfl
@[simp] theorem State.set_dacs (f : Fld) (v : Nat) : (s.set f v).dacs = s.dacs := rfl
@[simp] theorem State.set_pmus (f : Fld) (v : Nat) : (s.set f v).pmus = s.pmus := rfl
@[simp] theorem State.set_wfs (f : Fld) (v : Nat) : (s.set f v).wfs = s.wfs := rfl
@[simp] theorem State.set_wfTables (f : Fld) (v : Nat) : (s.set f v).wfTables = s.wfTables := rfl
@[simp] theorem State.set_wfLoads (f : Fld) (v : Nat) : (s.set f v).wfLoads = s.wfLoads := rfl
@[simp] theorem State.set_dpss (f : Fld) (v : Nat) : (s.set f v).dpss = s.dpss := rfl
@[simp] theorem State.set_gds (f : Fld) (v : Nat) : (s.set f v).gds = s.gds := rfl
@[simp] theorem State.set_dgds (f : Fld) (v : Nat) : (s.set f v).dgds = s.dgds := rfl
@[simp] theorem State.set_contact (f : Fld) (v : Nat) : (s.set f v).contact = s.contact := rfl
@[simp] theorem State.set_tripIn (f : Fld) (v : Nat) : (s.set f v).tripIn = s.tripIn := rfl
@[simp] theorem State.set_pmuMeas (f : Fld) (v : Nat) : (s.set f v).pmuMeas = s.pmuMeas := rfl
@[simp] theorem State.set_dpsMeas (f : Fld) (v : Nat) : (s.set f v).dpsMeas = s.dpsMeas := rfl
@[simp] theorem State.set_tdcs (f : Fld) (v : Nat) : (s.set f v).tdcs = s.tdcs := rfl
@[simp] theorem State.set_ltests (f : Fld) (v : Nat) : (s.set f v).ltests = s.ltests := rfl
@[simp] theorem State.set_lanes (f : Fld) (v : Nat) : (s.set f v).lanes = s.lanes := rfl
@[simp] theorem State.set_cal (f : Fld) (v : Nat) : (s.set f v).cal = s.cal := rfl
@[simp] theorem State.set_stackReq (f : Fld) (v : Nat) : (s.set f v).stackReq = s.stackReq := rfl
@[simp] theorem State.set_logRing (f : Fld) (v : Nat) : (s.set f v).logRing = s.logRing := rfl
@[simp] theorem State.set_logWait (f : Fld) (v : Nat) : (s.set f v).logWait = s.logWait := rfl
@[simp] theorem State.set_msix (f : Fld) (v : Nat) : (s.set f v).msix = s.msix := rfl
@[simp] theorem State.set_cpFrame (f : Fld) (v : Nat) : (s.set f v).cpFrame = s.cpFrame := rfl
@[simp] theorem State.set_cpOut (f : Fld) (v : Nat) : (s.set f v).cpOut = s.cpOut := rfl
@[simp] theorem State.set_mpOp (f : Fld) (v : Nat) : (s.set f v).mpOp = s.mpOp := rfl
@[simp] theorem State.set_tileDps (f : Fld) (v : Nat) : (s.set f v).tileDps = s.tileDps := rfl
@[simp] theorem State.set_cold (f : Fld) (v : Nat) : (s.set f v).cold = s.cold := rfl
@[simp] theorem State.set_hk (f : Fld) (v : Nat) : (s.set f v).hk = s.hk := rfl
@[simp] theorem State.set_shut (f : Fld) (v : Nat) : (s.set f v).shut = s.shut := rfl
@[simp] theorem State.set_sched (f : Fld) (v : Nat) : (s.set f v).sched = s.sched := rfl
@[simp] theorem State.set_selfTest (f : Fld) (v : Nat) : (s.set f v).selfTest = s.selfTest := rfl
@[simp] theorem State.set_lgMarch (f : Fld) (v : Nat) : (s.set f v).lgMarch = s.lgMarch := rfl
@[simp] theorem State.set_brown (f : Fld) (v : Nat) : (s.set f v).brown = s.brown := rfl
@[simp] theorem State.set_link (f : Fld) (v : Nat) : (s.set f v).link = s.link := rfl
@[simp] theorem State.set_jtag (f : Fld) (v : Nat) : (s.set f v).jtag = s.jtag := rfl
@[simp] theorem State.set_pending (f : Fld) (v : Nat) : (s.set f v).pending = s.pending := rfl
@[simp] theorem State.set_byte (f : Fld) (v : Nat) (b : Nat) : (s.set f v).byte b = s.byte b := rfl
@[simp] theorem State.set_now (f : Fld) (v : Nat) : (s.set f v).now = s.now := rfl

/-! ### setShadow -/

@[simp] theorem State.setShadow_regs (a : Nat) (w : Word) : (s.setShadow a w).regs = s.regs := rfl
@[simp] theorem State.setShadow_held (a : Nat) (w : Word) : (s.setShadow a w).held = s.held := rfl
@[simp] theorem State.setShadow_mem (a : Nat) (w : Word) : (s.setShadow a w).mem = s.mem := rfl
@[simp] theorem State.setShadow_uncorr (a : Nat) (w : Word) : (s.setShadow a w).uncorr = s.uncorr := rfl
@[simp] theorem State.setShadow_beat (a : Nat) (w : Word) : (s.setShadow a w).beat = s.beat := rfl
@[simp] theorem State.setShadow_freeCtr (a : Nat) (w : Word) : (s.setShadow a w).freeCtr = s.freeCtr := rfl
@[simp] theorem State.setShadow_tb (a : Nat) (w : Word) : (s.setShadow a w).tb = s.tb := rfl
@[simp] theorem State.setShadow_maps (a : Nat) (w : Word) : (s.setShadow a w).maps = s.maps := rfl
@[simp] theorem State.setShadow_clones (a : Nat) (w : Word) : (s.setShadow a w).clones = s.clones := rfl
@[simp] theorem State.setShadow_routes (a : Nat) (w : Word) : (s.setShadow a w).routes = s.routes := rfl
@[simp] theorem State.setShadow_siOp (a : Nat) (w : Word) : (s.setShadow a w).siOp = s.siOp := rfl
@[simp] theorem State.setShadow_pads (a : Nat) (w : Word) : (s.setShadow a w).pads = s.pads := rfl
@[simp] theorem State.setShadow_boosts (a : Nat) (w : Word) : (s.setShadow a w).boosts = s.boosts := rfl
@[simp] theorem State.setShadow_seqs (a : Nat) (w : Word) : (s.setShadow a w).seqs = s.seqs := rfl
@[simp] theorem State.setShadow_pendRecs (a : Nat) (w : Word) : (s.setShadow a w).pendRecs = s.pendRecs := rfl
@[simp] theorem State.setShadow_gap (a : Nat) (w : Word) : (s.setShadow a w).gap = s.gap := rfl
@[simp] theorem State.setShadow_gapDrops (a : Nat) (w : Word) : (s.setShadow a w).gapDrops = s.gapDrops := rfl
@[simp] theorem State.setShadow_snaps (a : Nat) (w : Word) : (s.setShadow a w).snaps = s.snaps := rfl
@[simp] theorem State.setShadow_burst (a : Nat) (w : Word) : (s.setShadow a w).burst = s.burst := rfl
@[simp] theorem State.setShadow_chans (a : Nat) (w : Word) : (s.setShadow a w).chans = s.chans := rfl
@[simp] theorem State.setShadow_tenses (a : Nat) (w : Word) : (s.setShadow a w).tenses = s.tenses := rfl
@[simp] theorem State.setShadow_tensesShadow (a : Nat) (w : Word) : (s.setShadow a w).tensesShadow = s.tensesShadow := rfl
@[simp] theorem State.setShadow_streams (a : Nat) (w : Word) : (s.setShadow a w).streams = s.streams := rfl
@[simp] theorem State.setShadow_pendActs (a : Nat) (w : Word) : (s.setShadow a w).pendActs = s.pendActs := rfl
@[simp] theorem State.setShadow_slots (a : Nat) (w : Word) : (s.setShadow a w).slots = s.slots := rfl
@[simp] theorem State.setShadow_watches (a : Nat) (w : Word) : (s.setShadow a w).watches = s.watches := rfl
@[simp] theorem State.setShadow_rootQ (a : Nat) (w : Word) : (s.setShadow a w).rootQ = s.rootQ := rfl
@[simp] theorem State.setShadow_vetoIn (a : Nat) (w : Word) : (s.setShadow a w).vetoIn = s.vetoIn := rfl
@[simp] theorem State.setShadow_follows (a : Nat) (w : Word) : (s.setShadow a w).follows = s.follows := rfl
@[simp] theorem State.setShadow_cs (a : Nat) (w : Word) : (s.setShadow a w).cs = s.cs := rfl
@[simp] theorem State.setShadow_csBad (a : Nat) (w : Word) : (s.setShadow a w).csBad = s.csBad := rfl
@[simp] theorem State.setShadow_lex (a : Nat) (w : Word) : (s.setShadow a w).lex = s.lex := rfl
@[simp] theorem State.setShadow_lxOp (a : Nat) (w : Word) : (s.setShadow a w).lxOp = s.lxOp := rfl
@[simp] theorem State.setShadow_nvm (a : Nat) (w : Word) : (s.setShadow a w).nvm = s.nvm := rfl
@[simp] theorem State.setShadow_failMarks (a : Nat) (w : Word) : (s.setShadow a w).failMarks = s.failMarks := rfl
@[simp] theorem State.setShadow_dacs (a : Nat) (w : Word) : (s.setShadow a w).dacs = s.dacs := rfl
@[simp] theorem State.setShadow_pmus (a : Nat) (w : Word) : (s.setShadow a w).pmus = s.pmus := rfl
@[simp] theorem State.setShadow_wfs (a : Nat) (w : Word) : (s.setShadow a w).wfs = s.wfs := rfl
@[simp] theorem State.setShadow_wfTables (a : Nat) (w : Word) : (s.setShadow a w).wfTables = s.wfTables := rfl
@[simp] theorem State.setShadow_wfLoads (a : Nat) (w : Word) : (s.setShadow a w).wfLoads = s.wfLoads := rfl
@[simp] theorem State.setShadow_dpss (a : Nat) (w : Word) : (s.setShadow a w).dpss = s.dpss := rfl
@[simp] theorem State.setShadow_gds (a : Nat) (w : Word) : (s.setShadow a w).gds = s.gds := rfl
@[simp] theorem State.setShadow_dgds (a : Nat) (w : Word) : (s.setShadow a w).dgds = s.dgds := rfl
@[simp] theorem State.setShadow_contact (a : Nat) (w : Word) : (s.setShadow a w).contact = s.contact := rfl
@[simp] theorem State.setShadow_tripIn (a : Nat) (w : Word) : (s.setShadow a w).tripIn = s.tripIn := rfl
@[simp] theorem State.setShadow_pmuMeas (a : Nat) (w : Word) : (s.setShadow a w).pmuMeas = s.pmuMeas := rfl
@[simp] theorem State.setShadow_dpsMeas (a : Nat) (w : Word) : (s.setShadow a w).dpsMeas = s.dpsMeas := rfl
@[simp] theorem State.setShadow_tdcs (a : Nat) (w : Word) : (s.setShadow a w).tdcs = s.tdcs := rfl
@[simp] theorem State.setShadow_ltests (a : Nat) (w : Word) : (s.setShadow a w).ltests = s.ltests := rfl
@[simp] theorem State.setShadow_lanes (a : Nat) (w : Word) : (s.setShadow a w).lanes = s.lanes := rfl
@[simp] theorem State.setShadow_cal (a : Nat) (w : Word) : (s.setShadow a w).cal = s.cal := rfl
@[simp] theorem State.setShadow_stackReq (a : Nat) (w : Word) : (s.setShadow a w).stackReq = s.stackReq := rfl
@[simp] theorem State.setShadow_logRing (a : Nat) (w : Word) : (s.setShadow a w).logRing = s.logRing := rfl
@[simp] theorem State.setShadow_logWait (a : Nat) (w : Word) : (s.setShadow a w).logWait = s.logWait := rfl
@[simp] theorem State.setShadow_msix (a : Nat) (w : Word) : (s.setShadow a w).msix = s.msix := rfl
@[simp] theorem State.setShadow_cpFrame (a : Nat) (w : Word) : (s.setShadow a w).cpFrame = s.cpFrame := rfl
@[simp] theorem State.setShadow_cpOut (a : Nat) (w : Word) : (s.setShadow a w).cpOut = s.cpOut := rfl
@[simp] theorem State.setShadow_mpOp (a : Nat) (w : Word) : (s.setShadow a w).mpOp = s.mpOp := rfl
@[simp] theorem State.setShadow_tileDps (a : Nat) (w : Word) : (s.setShadow a w).tileDps = s.tileDps := rfl
@[simp] theorem State.setShadow_cold (a : Nat) (w : Word) : (s.setShadow a w).cold = s.cold := rfl
@[simp] theorem State.setShadow_hk (a : Nat) (w : Word) : (s.setShadow a w).hk = s.hk := rfl
@[simp] theorem State.setShadow_shut (a : Nat) (w : Word) : (s.setShadow a w).shut = s.shut := rfl
@[simp] theorem State.setShadow_sched (a : Nat) (w : Word) : (s.setShadow a w).sched = s.sched := rfl
@[simp] theorem State.setShadow_selfTest (a : Nat) (w : Word) : (s.setShadow a w).selfTest = s.selfTest := rfl
@[simp] theorem State.setShadow_lgMarch (a : Nat) (w : Word) : (s.setShadow a w).lgMarch = s.lgMarch := rfl
@[simp] theorem State.setShadow_brown (a : Nat) (w : Word) : (s.setShadow a w).brown = s.brown := rfl
@[simp] theorem State.setShadow_link (a : Nat) (w : Word) : (s.setShadow a w).link = s.link := rfl
@[simp] theorem State.setShadow_jtag (a : Nat) (w : Word) : (s.setShadow a w).jtag = s.jtag := rfl
@[simp] theorem State.setShadow_pending (a : Nat) (w : Word) : (s.setShadow a w).pending = s.pending := rfl
@[simp] theorem State.setShadow_reg (a : Nat) (w : Word) (b : Nat) : (s.setShadow a w).reg b = s.reg b := rfl
@[simp] theorem State.setShadow_get (a : Nat) (w : Word) (x : Fld) : (s.setShadow a w).get x = s.get x := rfl
@[simp] theorem State.setShadow_flag (a : Nat) (w : Word) (x : Fld) : (s.setShadow a w).flag x = s.flag x := rfl
@[simp] theorem State.setShadow_byte (a : Nat) (w : Word) (b : Nat) : (s.setShadow a w).byte b = s.byte b := rfl
@[simp] theorem State.setShadow_now (a : Nat) (w : Word) : (s.setShadow a w).now = s.now := rfl

/-! ### bumpFree -/

@[simp] theorem State.bumpFree_regs : s.bumpFree.regs = s.regs := rfl
@[simp] theorem State.bumpFree_shadow : s.bumpFree.shadow = s.shadow := rfl
@[simp] theorem State.bumpFree_held : s.bumpFree.held = s.held := rfl
@[simp] theorem State.bumpFree_mem : s.bumpFree.mem = s.mem := rfl
@[simp] theorem State.bumpFree_uncorr : s.bumpFree.uncorr = s.uncorr := rfl
@[simp] theorem State.bumpFree_beat : s.bumpFree.beat = s.beat := rfl
@[simp] theorem State.bumpFree_tb : s.bumpFree.tb = s.tb := rfl
@[simp] theorem State.bumpFree_maps : s.bumpFree.maps = s.maps := rfl
@[simp] theorem State.bumpFree_clones : s.bumpFree.clones = s.clones := rfl
@[simp] theorem State.bumpFree_routes : s.bumpFree.routes = s.routes := rfl
@[simp] theorem State.bumpFree_siOp : s.bumpFree.siOp = s.siOp := rfl
@[simp] theorem State.bumpFree_pads : s.bumpFree.pads = s.pads := rfl
@[simp] theorem State.bumpFree_boosts : s.bumpFree.boosts = s.boosts := rfl
@[simp] theorem State.bumpFree_seqs : s.bumpFree.seqs = s.seqs := rfl
@[simp] theorem State.bumpFree_pendRecs : s.bumpFree.pendRecs = s.pendRecs := rfl
@[simp] theorem State.bumpFree_gap : s.bumpFree.gap = s.gap := rfl
@[simp] theorem State.bumpFree_gapDrops : s.bumpFree.gapDrops = s.gapDrops := rfl
@[simp] theorem State.bumpFree_snaps : s.bumpFree.snaps = s.snaps := rfl
@[simp] theorem State.bumpFree_burst : s.bumpFree.burst = s.burst := rfl
@[simp] theorem State.bumpFree_chans : s.bumpFree.chans = s.chans := rfl
@[simp] theorem State.bumpFree_tenses : s.bumpFree.tenses = s.tenses := rfl
@[simp] theorem State.bumpFree_tensesShadow : s.bumpFree.tensesShadow = s.tensesShadow := rfl
@[simp] theorem State.bumpFree_streams : s.bumpFree.streams = s.streams := rfl
@[simp] theorem State.bumpFree_pendActs : s.bumpFree.pendActs = s.pendActs := rfl
@[simp] theorem State.bumpFree_slots : s.bumpFree.slots = s.slots := rfl
@[simp] theorem State.bumpFree_watches : s.bumpFree.watches = s.watches := rfl
@[simp] theorem State.bumpFree_rootQ : s.bumpFree.rootQ = s.rootQ := rfl
@[simp] theorem State.bumpFree_vetoIn : s.bumpFree.vetoIn = s.vetoIn := rfl
@[simp] theorem State.bumpFree_follows : s.bumpFree.follows = s.follows := rfl
@[simp] theorem State.bumpFree_cs : s.bumpFree.cs = s.cs := rfl
@[simp] theorem State.bumpFree_csBad : s.bumpFree.csBad = s.csBad := rfl
@[simp] theorem State.bumpFree_lex : s.bumpFree.lex = s.lex := rfl
@[simp] theorem State.bumpFree_lxOp : s.bumpFree.lxOp = s.lxOp := rfl
@[simp] theorem State.bumpFree_nvm : s.bumpFree.nvm = s.nvm := rfl
@[simp] theorem State.bumpFree_failMarks : s.bumpFree.failMarks = s.failMarks := rfl
@[simp] theorem State.bumpFree_dacs : s.bumpFree.dacs = s.dacs := rfl
@[simp] theorem State.bumpFree_pmus : s.bumpFree.pmus = s.pmus := rfl
@[simp] theorem State.bumpFree_wfs : s.bumpFree.wfs = s.wfs := rfl
@[simp] theorem State.bumpFree_wfTables : s.bumpFree.wfTables = s.wfTables := rfl
@[simp] theorem State.bumpFree_wfLoads : s.bumpFree.wfLoads = s.wfLoads := rfl
@[simp] theorem State.bumpFree_dpss : s.bumpFree.dpss = s.dpss := rfl
@[simp] theorem State.bumpFree_gds : s.bumpFree.gds = s.gds := rfl
@[simp] theorem State.bumpFree_dgds : s.bumpFree.dgds = s.dgds := rfl
@[simp] theorem State.bumpFree_contact : s.bumpFree.contact = s.contact := rfl
@[simp] theorem State.bumpFree_tripIn : s.bumpFree.tripIn = s.tripIn := rfl
@[simp] theorem State.bumpFree_pmuMeas : s.bumpFree.pmuMeas = s.pmuMeas := rfl
@[simp] theorem State.bumpFree_dpsMeas : s.bumpFree.dpsMeas = s.dpsMeas := rfl
@[simp] theorem State.bumpFree_tdcs : s.bumpFree.tdcs = s.tdcs := rfl
@[simp] theorem State.bumpFree_ltests : s.bumpFree.ltests = s.ltests := rfl
@[simp] theorem State.bumpFree_lanes : s.bumpFree.lanes = s.lanes := rfl
@[simp] theorem State.bumpFree_cal : s.bumpFree.cal = s.cal := rfl
@[simp] theorem State.bumpFree_stackReq : s.bumpFree.stackReq = s.stackReq := rfl
@[simp] theorem State.bumpFree_logRing : s.bumpFree.logRing = s.logRing := rfl
@[simp] theorem State.bumpFree_logWait : s.bumpFree.logWait = s.logWait := rfl
@[simp] theorem State.bumpFree_msix : s.bumpFree.msix = s.msix := rfl
@[simp] theorem State.bumpFree_cpFrame : s.bumpFree.cpFrame = s.cpFrame := rfl
@[simp] theorem State.bumpFree_cpOut : s.bumpFree.cpOut = s.cpOut := rfl
@[simp] theorem State.bumpFree_mpOp : s.bumpFree.mpOp = s.mpOp := rfl
@[simp] theorem State.bumpFree_tileDps : s.bumpFree.tileDps = s.tileDps := rfl
@[simp] theorem State.bumpFree_cold : s.bumpFree.cold = s.cold := rfl
@[simp] theorem State.bumpFree_hk : s.bumpFree.hk = s.hk := rfl
@[simp] theorem State.bumpFree_shut : s.bumpFree.shut = s.shut := rfl
@[simp] theorem State.bumpFree_sched : s.bumpFree.sched = s.sched := rfl
@[simp] theorem State.bumpFree_selfTest : s.bumpFree.selfTest = s.selfTest := rfl
@[simp] theorem State.bumpFree_lgMarch : s.bumpFree.lgMarch = s.lgMarch := rfl
@[simp] theorem State.bumpFree_brown : s.bumpFree.brown = s.brown := rfl
@[simp] theorem State.bumpFree_link : s.bumpFree.link = s.link := rfl
@[simp] theorem State.bumpFree_jtag : s.bumpFree.jtag = s.jtag := rfl
@[simp] theorem State.bumpFree_pending : s.bumpFree.pending = s.pending := rfl
@[simp] theorem State.bumpFree_reg (b : Nat) : s.bumpFree.reg b = s.reg b := rfl
@[simp] theorem State.bumpFree_get (x : Fld) : s.bumpFree.get x = s.get x := rfl
@[simp] theorem State.bumpFree_flag (x : Fld) : s.bumpFree.flag x = s.flag x := rfl
@[simp] theorem State.bumpFree_byte (b : Nat) : s.bumpFree.byte b = s.byte b := rfl
@[simp] theorem State.bumpFree_now : s.bumpFree.now = s.now := rfl

/-! ### setSeq -/

@[simp] theorem State.setSeq_regs (n : Nat) (q : Seq) : (s.setSeq n q).regs = s.regs := rfl
@[simp] theorem State.setSeq_shadow (n : Nat) (q : Seq) : (s.setSeq n q).shadow = s.shadow := rfl
@[simp] theorem State.setSeq_held (n : Nat) (q : Seq) : (s.setSeq n q).held = s.held := rfl
@[simp] theorem State.setSeq_mem (n : Nat) (q : Seq) : (s.setSeq n q).mem = s.mem := rfl
@[simp] theorem State.setSeq_uncorr (n : Nat) (q : Seq) : (s.setSeq n q).uncorr = s.uncorr := rfl
@[simp] theorem State.setSeq_beat (n : Nat) (q : Seq) : (s.setSeq n q).beat = s.beat := rfl
@[simp] theorem State.setSeq_freeCtr (n : Nat) (q : Seq) : (s.setSeq n q).freeCtr = s.freeCtr := rfl
@[simp] theorem State.setSeq_tb (n : Nat) (q : Seq) : (s.setSeq n q).tb = s.tb := rfl
@[simp] theorem State.setSeq_maps (n : Nat) (q : Seq) : (s.setSeq n q).maps = s.maps := rfl
@[simp] theorem State.setSeq_clones (n : Nat) (q : Seq) : (s.setSeq n q).clones = s.clones := rfl
@[simp] theorem State.setSeq_routes (n : Nat) (q : Seq) : (s.setSeq n q).routes = s.routes := rfl
@[simp] theorem State.setSeq_siOp (n : Nat) (q : Seq) : (s.setSeq n q).siOp = s.siOp := rfl
@[simp] theorem State.setSeq_pads (n : Nat) (q : Seq) : (s.setSeq n q).pads = s.pads := rfl
@[simp] theorem State.setSeq_boosts (n : Nat) (q : Seq) : (s.setSeq n q).boosts = s.boosts := rfl
@[simp] theorem State.setSeq_pendRecs (n : Nat) (q : Seq) : (s.setSeq n q).pendRecs = s.pendRecs := rfl
@[simp] theorem State.setSeq_gap (n : Nat) (q : Seq) : (s.setSeq n q).gap = s.gap := rfl
@[simp] theorem State.setSeq_gapDrops (n : Nat) (q : Seq) : (s.setSeq n q).gapDrops = s.gapDrops := rfl
@[simp] theorem State.setSeq_snaps (n : Nat) (q : Seq) : (s.setSeq n q).snaps = s.snaps := rfl
@[simp] theorem State.setSeq_burst (n : Nat) (q : Seq) : (s.setSeq n q).burst = s.burst := rfl
@[simp] theorem State.setSeq_chans (n : Nat) (q : Seq) : (s.setSeq n q).chans = s.chans := rfl
@[simp] theorem State.setSeq_tenses (n : Nat) (q : Seq) : (s.setSeq n q).tenses = s.tenses := rfl
@[simp] theorem State.setSeq_tensesShadow (n : Nat) (q : Seq) : (s.setSeq n q).tensesShadow = s.tensesShadow := rfl
@[simp] theorem State.setSeq_streams (n : Nat) (q : Seq) : (s.setSeq n q).streams = s.streams := rfl
@[simp] theorem State.setSeq_pendActs (n : Nat) (q : Seq) : (s.setSeq n q).pendActs = s.pendActs := rfl
@[simp] theorem State.setSeq_slots (n : Nat) (q : Seq) : (s.setSeq n q).slots = s.slots := rfl
@[simp] theorem State.setSeq_watches (n : Nat) (q : Seq) : (s.setSeq n q).watches = s.watches := rfl
@[simp] theorem State.setSeq_rootQ (n : Nat) (q : Seq) : (s.setSeq n q).rootQ = s.rootQ := rfl
@[simp] theorem State.setSeq_vetoIn (n : Nat) (q : Seq) : (s.setSeq n q).vetoIn = s.vetoIn := rfl
@[simp] theorem State.setSeq_follows (n : Nat) (q : Seq) : (s.setSeq n q).follows = s.follows := rfl
@[simp] theorem State.setSeq_cs (n : Nat) (q : Seq) : (s.setSeq n q).cs = s.cs := rfl
@[simp] theorem State.setSeq_csBad (n : Nat) (q : Seq) : (s.setSeq n q).csBad = s.csBad := rfl
@[simp] theorem State.setSeq_lex (n : Nat) (q : Seq) : (s.setSeq n q).lex = s.lex := rfl
@[simp] theorem State.setSeq_lxOp (n : Nat) (q : Seq) : (s.setSeq n q).lxOp = s.lxOp := rfl
@[simp] theorem State.setSeq_nvm (n : Nat) (q : Seq) : (s.setSeq n q).nvm = s.nvm := rfl
@[simp] theorem State.setSeq_failMarks (n : Nat) (q : Seq) : (s.setSeq n q).failMarks = s.failMarks := rfl
@[simp] theorem State.setSeq_dacs (n : Nat) (q : Seq) : (s.setSeq n q).dacs = s.dacs := rfl
@[simp] theorem State.setSeq_pmus (n : Nat) (q : Seq) : (s.setSeq n q).pmus = s.pmus := rfl
@[simp] theorem State.setSeq_wfs (n : Nat) (q : Seq) : (s.setSeq n q).wfs = s.wfs := rfl
@[simp] theorem State.setSeq_wfTables (n : Nat) (q : Seq) : (s.setSeq n q).wfTables = s.wfTables := rfl
@[simp] theorem State.setSeq_wfLoads (n : Nat) (q : Seq) : (s.setSeq n q).wfLoads = s.wfLoads := rfl
@[simp] theorem State.setSeq_dpss (n : Nat) (q : Seq) : (s.setSeq n q).dpss = s.dpss := rfl
@[simp] theorem State.setSeq_gds (n : Nat) (q : Seq) : (s.setSeq n q).gds = s.gds := rfl
@[simp] theorem State.setSeq_dgds (n : Nat) (q : Seq) : (s.setSeq n q).dgds = s.dgds := rfl
@[simp] theorem State.setSeq_contact (n : Nat) (q : Seq) : (s.setSeq n q).contact = s.contact := rfl
@[simp] theorem State.setSeq_tripIn (n : Nat) (q : Seq) : (s.setSeq n q).tripIn = s.tripIn := rfl
@[simp] theorem State.setSeq_pmuMeas (n : Nat) (q : Seq) : (s.setSeq n q).pmuMeas = s.pmuMeas := rfl
@[simp] theorem State.setSeq_dpsMeas (n : Nat) (q : Seq) : (s.setSeq n q).dpsMeas = s.dpsMeas := rfl
@[simp] theorem State.setSeq_tdcs (n : Nat) (q : Seq) : (s.setSeq n q).tdcs = s.tdcs := rfl
@[simp] theorem State.setSeq_ltests (n : Nat) (q : Seq) : (s.setSeq n q).ltests = s.ltests := rfl
@[simp] theorem State.setSeq_lanes (n : Nat) (q : Seq) : (s.setSeq n q).lanes = s.lanes := rfl
@[simp] theorem State.setSeq_cal (n : Nat) (q : Seq) : (s.setSeq n q).cal = s.cal := rfl
@[simp] theorem State.setSeq_stackReq (n : Nat) (q : Seq) : (s.setSeq n q).stackReq = s.stackReq := rfl
@[simp] theorem State.setSeq_logRing (n : Nat) (q : Seq) : (s.setSeq n q).logRing = s.logRing := rfl
@[simp] theorem State.setSeq_logWait (n : Nat) (q : Seq) : (s.setSeq n q).logWait = s.logWait := rfl
@[simp] theorem State.setSeq_msix (n : Nat) (q : Seq) : (s.setSeq n q).msix = s.msix := rfl
@[simp] theorem State.setSeq_cpFrame (n : Nat) (q : Seq) : (s.setSeq n q).cpFrame = s.cpFrame := rfl
@[simp] theorem State.setSeq_cpOut (n : Nat) (q : Seq) : (s.setSeq n q).cpOut = s.cpOut := rfl
@[simp] theorem State.setSeq_mpOp (n : Nat) (q : Seq) : (s.setSeq n q).mpOp = s.mpOp := rfl
@[simp] theorem State.setSeq_tileDps (n : Nat) (q : Seq) : (s.setSeq n q).tileDps = s.tileDps := rfl
@[simp] theorem State.setSeq_cold (n : Nat) (q : Seq) : (s.setSeq n q).cold = s.cold := rfl
@[simp] theorem State.setSeq_hk (n : Nat) (q : Seq) : (s.setSeq n q).hk = s.hk := rfl
@[simp] theorem State.setSeq_shut (n : Nat) (q : Seq) : (s.setSeq n q).shut = s.shut := rfl
@[simp] theorem State.setSeq_sched (n : Nat) (q : Seq) : (s.setSeq n q).sched = s.sched := rfl
@[simp] theorem State.setSeq_selfTest (n : Nat) (q : Seq) : (s.setSeq n q).selfTest = s.selfTest := rfl
@[simp] theorem State.setSeq_lgMarch (n : Nat) (q : Seq) : (s.setSeq n q).lgMarch = s.lgMarch := rfl
@[simp] theorem State.setSeq_brown (n : Nat) (q : Seq) : (s.setSeq n q).brown = s.brown := rfl
@[simp] theorem State.setSeq_link (n : Nat) (q : Seq) : (s.setSeq n q).link = s.link := rfl
@[simp] theorem State.setSeq_jtag (n : Nat) (q : Seq) : (s.setSeq n q).jtag = s.jtag := rfl
@[simp] theorem State.setSeq_pending (n : Nat) (q : Seq) : (s.setSeq n q).pending = s.pending := rfl
@[simp] theorem State.setSeq_reg (n : Nat) (q : Seq) (b : Nat) : (s.setSeq n q).reg b = s.reg b := rfl
@[simp] theorem State.setSeq_get (n : Nat) (q : Seq) (x : Fld) : (s.setSeq n q).get x = s.get x := rfl
@[simp] theorem State.setSeq_flag (n : Nat) (q : Seq) (x : Fld) : (s.setSeq n q).flag x = s.flag x := rfl
@[simp] theorem State.setSeq_byte (n : Nat) (q : Seq) (b : Nat) : (s.setSeq n q).byte b = s.byte b := rfl
@[simp] theorem State.setSeq_now (n : Nat) (q : Seq) : (s.setSeq n q).now = s.now := rfl

/-! ### setLane -/

@[simp] theorem State.setLane_regs (l : Nat) (k : Lane) : (s.setLane l k).regs = s.regs := rfl
@[simp] theorem State.setLane_shadow (l : Nat) (k : Lane) : (s.setLane l k).shadow = s.shadow := rfl
@[simp] theorem State.setLane_held (l : Nat) (k : Lane) : (s.setLane l k).held = s.held := rfl
@[simp] theorem State.setLane_mem (l : Nat) (k : Lane) : (s.setLane l k).mem = s.mem := rfl
@[simp] theorem State.setLane_uncorr (l : Nat) (k : Lane) : (s.setLane l k).uncorr = s.uncorr := rfl
@[simp] theorem State.setLane_beat (l : Nat) (k : Lane) : (s.setLane l k).beat = s.beat := rfl
@[simp] theorem State.setLane_freeCtr (l : Nat) (k : Lane) : (s.setLane l k).freeCtr = s.freeCtr := rfl
@[simp] theorem State.setLane_tb (l : Nat) (k : Lane) : (s.setLane l k).tb = s.tb := rfl
@[simp] theorem State.setLane_maps (l : Nat) (k : Lane) : (s.setLane l k).maps = s.maps := rfl
@[simp] theorem State.setLane_clones (l : Nat) (k : Lane) : (s.setLane l k).clones = s.clones := rfl
@[simp] theorem State.setLane_routes (l : Nat) (k : Lane) : (s.setLane l k).routes = s.routes := rfl
@[simp] theorem State.setLane_siOp (l : Nat) (k : Lane) : (s.setLane l k).siOp = s.siOp := rfl
@[simp] theorem State.setLane_pads (l : Nat) (k : Lane) : (s.setLane l k).pads = s.pads := rfl
@[simp] theorem State.setLane_boosts (l : Nat) (k : Lane) : (s.setLane l k).boosts = s.boosts := rfl
@[simp] theorem State.setLane_seqs (l : Nat) (k : Lane) : (s.setLane l k).seqs = s.seqs := rfl
@[simp] theorem State.setLane_pendRecs (l : Nat) (k : Lane) : (s.setLane l k).pendRecs = s.pendRecs := rfl
@[simp] theorem State.setLane_gap (l : Nat) (k : Lane) : (s.setLane l k).gap = s.gap := rfl
@[simp] theorem State.setLane_gapDrops (l : Nat) (k : Lane) : (s.setLane l k).gapDrops = s.gapDrops := rfl
@[simp] theorem State.setLane_snaps (l : Nat) (k : Lane) : (s.setLane l k).snaps = s.snaps := rfl
@[simp] theorem State.setLane_burst (l : Nat) (k : Lane) : (s.setLane l k).burst = s.burst := rfl
@[simp] theorem State.setLane_chans (l : Nat) (k : Lane) : (s.setLane l k).chans = s.chans := rfl
@[simp] theorem State.setLane_tenses (l : Nat) (k : Lane) : (s.setLane l k).tenses = s.tenses := rfl
@[simp] theorem State.setLane_tensesShadow (l : Nat) (k : Lane) : (s.setLane l k).tensesShadow = s.tensesShadow := rfl
@[simp] theorem State.setLane_streams (l : Nat) (k : Lane) : (s.setLane l k).streams = s.streams := rfl
@[simp] theorem State.setLane_pendActs (l : Nat) (k : Lane) : (s.setLane l k).pendActs = s.pendActs := rfl
@[simp] theorem State.setLane_slots (l : Nat) (k : Lane) : (s.setLane l k).slots = s.slots := rfl
@[simp] theorem State.setLane_watches (l : Nat) (k : Lane) : (s.setLane l k).watches = s.watches := rfl
@[simp] theorem State.setLane_rootQ (l : Nat) (k : Lane) : (s.setLane l k).rootQ = s.rootQ := rfl
@[simp] theorem State.setLane_vetoIn (l : Nat) (k : Lane) : (s.setLane l k).vetoIn = s.vetoIn := rfl
@[simp] theorem State.setLane_follows (l : Nat) (k : Lane) : (s.setLane l k).follows = s.follows := rfl
@[simp] theorem State.setLane_cs (l : Nat) (k : Lane) : (s.setLane l k).cs = s.cs := rfl
@[simp] theorem State.setLane_csBad (l : Nat) (k : Lane) : (s.setLane l k).csBad = s.csBad := rfl
@[simp] theorem State.setLane_lex (l : Nat) (k : Lane) : (s.setLane l k).lex = s.lex := rfl
@[simp] theorem State.setLane_lxOp (l : Nat) (k : Lane) : (s.setLane l k).lxOp = s.lxOp := rfl
@[simp] theorem State.setLane_nvm (l : Nat) (k : Lane) : (s.setLane l k).nvm = s.nvm := rfl
@[simp] theorem State.setLane_failMarks (l : Nat) (k : Lane) : (s.setLane l k).failMarks = s.failMarks := rfl
@[simp] theorem State.setLane_dacs (l : Nat) (k : Lane) : (s.setLane l k).dacs = s.dacs := rfl
@[simp] theorem State.setLane_pmus (l : Nat) (k : Lane) : (s.setLane l k).pmus = s.pmus := rfl
@[simp] theorem State.setLane_wfs (l : Nat) (k : Lane) : (s.setLane l k).wfs = s.wfs := rfl
@[simp] theorem State.setLane_wfTables (l : Nat) (k : Lane) : (s.setLane l k).wfTables = s.wfTables := rfl
@[simp] theorem State.setLane_wfLoads (l : Nat) (k : Lane) : (s.setLane l k).wfLoads = s.wfLoads := rfl
@[simp] theorem State.setLane_dpss (l : Nat) (k : Lane) : (s.setLane l k).dpss = s.dpss := rfl
@[simp] theorem State.setLane_gds (l : Nat) (k : Lane) : (s.setLane l k).gds = s.gds := rfl
@[simp] theorem State.setLane_dgds (l : Nat) (k : Lane) : (s.setLane l k).dgds = s.dgds := rfl
@[simp] theorem State.setLane_contact (l : Nat) (k : Lane) : (s.setLane l k).contact = s.contact := rfl
@[simp] theorem State.setLane_tripIn (l : Nat) (k : Lane) : (s.setLane l k).tripIn = s.tripIn := rfl
@[simp] theorem State.setLane_pmuMeas (l : Nat) (k : Lane) : (s.setLane l k).pmuMeas = s.pmuMeas := rfl
@[simp] theorem State.setLane_dpsMeas (l : Nat) (k : Lane) : (s.setLane l k).dpsMeas = s.dpsMeas := rfl
@[simp] theorem State.setLane_tdcs (l : Nat) (k : Lane) : (s.setLane l k).tdcs = s.tdcs := rfl
@[simp] theorem State.setLane_ltests (l : Nat) (k : Lane) : (s.setLane l k).ltests = s.ltests := rfl
@[simp] theorem State.setLane_cal (l : Nat) (k : Lane) : (s.setLane l k).cal = s.cal := rfl
@[simp] theorem State.setLane_stackReq (l : Nat) (k : Lane) : (s.setLane l k).stackReq = s.stackReq := rfl
@[simp] theorem State.setLane_logRing (l : Nat) (k : Lane) : (s.setLane l k).logRing = s.logRing := rfl
@[simp] theorem State.setLane_logWait (l : Nat) (k : Lane) : (s.setLane l k).logWait = s.logWait := rfl
@[simp] theorem State.setLane_msix (l : Nat) (k : Lane) : (s.setLane l k).msix = s.msix := rfl
@[simp] theorem State.setLane_cpFrame (l : Nat) (k : Lane) : (s.setLane l k).cpFrame = s.cpFrame := rfl
@[simp] theorem State.setLane_cpOut (l : Nat) (k : Lane) : (s.setLane l k).cpOut = s.cpOut := rfl
@[simp] theorem State.setLane_mpOp (l : Nat) (k : Lane) : (s.setLane l k).mpOp = s.mpOp := rfl
@[simp] theorem State.setLane_tileDps (l : Nat) (k : Lane) : (s.setLane l k).tileDps = s.tileDps := rfl
@[simp] theorem State.setLane_cold (l : Nat) (k : Lane) : (s.setLane l k).cold = s.cold := rfl
@[simp] theorem State.setLane_hk (l : Nat) (k : Lane) : (s.setLane l k).hk = s.hk := rfl
@[simp] theorem State.setLane_shut (l : Nat) (k : Lane) : (s.setLane l k).shut = s.shut := rfl
@[simp] theorem State.setLane_sched (l : Nat) (k : Lane) : (s.setLane l k).sched = s.sched := rfl
@[simp] theorem State.setLane_selfTest (l : Nat) (k : Lane) : (s.setLane l k).selfTest = s.selfTest := rfl
@[simp] theorem State.setLane_lgMarch (l : Nat) (k : Lane) : (s.setLane l k).lgMarch = s.lgMarch := rfl
@[simp] theorem State.setLane_brown (l : Nat) (k : Lane) : (s.setLane l k).brown = s.brown := rfl
@[simp] theorem State.setLane_link (l : Nat) (k : Lane) : (s.setLane l k).link = s.link := rfl
@[simp] theorem State.setLane_jtag (l : Nat) (k : Lane) : (s.setLane l k).jtag = s.jtag := rfl
@[simp] theorem State.setLane_pending (l : Nat) (k : Lane) : (s.setLane l k).pending = s.pending := rfl
@[simp] theorem State.setLane_reg (l : Nat) (k : Lane) (b : Nat) : (s.setLane l k).reg b = s.reg b := rfl
@[simp] theorem State.setLane_get (l : Nat) (k : Lane) (x : Fld) : (s.setLane l k).get x = s.get x := rfl
@[simp] theorem State.setLane_flag (l : Nat) (k : Lane) (x : Fld) : (s.setLane l k).flag x = s.flag x := rfl
@[simp] theorem State.setLane_byte (l : Nat) (k : Lane) (b : Nat) : (s.setLane l k).byte b = s.byte b := rfl
@[simp] theorem State.setLane_now (l : Nat) (k : Lane) : (s.setLane l k).now = s.now := rfl

end Sys2Proof.Machine
end

