-- ==== Sys2Proof/WellFormed.lean ====
section
/-! DEFINITION. Well-formed commands: what a row's operands may be where their types allow more than the spec gives the row. The meanings are total all the
same; these are the operands that the outside world or the host can present. -/

namespace Sys2Proof

/-- R344, R345: a row about a channel or a supply names a supply below 64. -/
def unitOk (dps : Bool) (u : Fin 1024) : Bool := !dps || decide (u.val < 64)

/-- R333, R340: a supply has the guard comparators 0 and 1 alone. -/
def guardOk (dps : Bool) (u : Fin 1024) (cmp : Nat) : Bool := unitOk dps u && (!dps || decide (cmp < 2))

/-- R17: the Q2 copy is written only once the Q0 copy has matched. -/
def nvmEndOk (e : NvmEnd) : Bool := e.q0.isNone || e.q2.isNone

/-- R459, R462: an access of 1 to 4,096 bytes that stays within a window of `size` bytes. -/
def spanOk (offset len size : Nat) : Bool := decide (1 ≤ len) && decide (len ≤ 4096) && decide (offset + len ≤ size)

/-- R406: TAP1 ranges over ±128 mV (−128 to +127), TAP2 to TAP5 over ±63 mV. -/
def tapsOk (taps : List Int) : Bool :=
  decide (taps.length = 5) && decide (-128 ≤ taps.headD 0) && decide (taps.headD 0 ≤ 127) &&
    (taps.drop 1).all (fun t => decide (-63 ≤ t) && decide (t ≤ 63))

/-- R491, R492: the codes that no row of a mode of its own has: RESET, THROTTLE, SHUTDOWN and those above 0xB. -/
def forbiddenReq (r : Nat) : Bool := r == 0 || r == 9 || decide (11 ≤ r)

/-- A well-formed command. -/
def wellFormed (i : Instr) : Bool := match i with
  | .comparatorResolved dps u _ _ => unitOk dps u
  | .pmuSettleEnd dps u => unitOk dps u
  | .pmuSampleEnd dps u _ => unitOk dps u
  | .guardTrip dps u k _ => guardOk dps u k
  | .blankEnd dps u k => guardOk dps u k
  | .filterSample dps u _ => unitOk dps u
  | .bulkWrite _ o data => spanOk o.toNat data.length 0x100000
  | .bulkRead _ o len => spanOk o.toNat len 0x100000
  | .bar0Read o len => o.toNat % 4 == 0 && spanOk o.toNat len 0x10000000
  | .bar0Write o ds => o.toNat % 4 == 0 && spanOk o.toNat (4 * ds.length) 0x10000000
  | .keyCommandDone e => nvmEndOk e
  | .saveDone e => nvmEndOk e
  | .shutdownRecordDone e => nvmEndOk e
  | .senseCheckDone _ obs => decide (1 ≤ obs.length) && decide (obs.length ≤ 16)
  | .contactCheckDone obs => decide (obs.map ContactObs.chan).Nodup
  | .refcalComplete o => decide (o.chans.map RefObs.chan).Nodup
  | .selftestDone o => decide (o.chans.map Prod.fst).Nodup && decide (o.tdcs.map Prod.fst).Nodup
  | .adaptUpdate _ o => tapsOk o.taps
  | .checkerSync _ bits errs => decide (errs ≤ bits)
  | .checkerSyncLoss _ bits errs => decide (errs ≤ bits)
  | .ltestCountEnd _ bits errs => decide (errs ≤ bits)
  | .mpFrameDone data => decide (data.length ≤ 4096)
  | .mpXferXfer _ w => w.toNat % 16 == 1
  | .cpWrite _ words part => part || decide (words ≠ [])
  | .cpRead _ count part => part || decide (1 ≤ count)
  | .linkUp speed width _ _ => decide (1 ≤ speed.toNat) && decide (speed.toNat ≤ 5) && [1, 2, 4, 8].contains width.toNat
  | .housekeepingRound temps mons => decide (temps.length = 28) && decide (mons.length = 36)
  | .modeReqForbidden _ r _ => forbiddenReq r.toNat
  | _ => true

end Sys2Proof
end

