-- ==== Sys2Proof/Tests/Slice0.lean ====
section
/-! SUPPORT. Tests: the smoke of the well-formedness checks, worked cases of the spec with the values its own tables state, and for every obligation
a theorem `wit_<name>` that shows, clause by clause, a state and operands that meet its premises. -/

-- The theorems below are checked one after another: checked side by side they need more threads than the memory limit allows.
set_option Elab.async false

open Sys2Proof Sys2Proof.Machine

namespace Sys2Proof.Tests

/-- The state after reset with the given fields set. -/
def st (l : List (Fld × Nat)) : State := l.foldl (fun s p => s.set p.1 p.2) State.reset

/-- The same with the mode `m` in force. -/
def stIn (m : Nat) (l : List (Fld × Nat)) : State := st ((Reg.DEV_MODE.CUR, m) :: l)

/-- A state in mode `m` in which site `n`, in state `q`, has pins on channels 5 and 6, supply 0 and lane 0. -/
def siteSt (m n q : Nat) (l : List (Fld × Nat)) : State :=
  { stIn m ((Reg.SQ_STAT.STATE n, q) :: l) with maps := [(n, ⟨[⟨5, 0, 0⟩, ⟨6, 0, 0⟩], [], [(0, 1)], 1⟩)] }

/-! ### Well-formed commands: each check accepts a command and refuses one -/

/-- A channel may be any, a supply is below 64 (R344, R345). -/
theorem wf_unit : wellFormed (.pmuSettleEnd true 63) = true ∧ wellFormed (.pmuSettleEnd true 64) = false ∧ wellFormed (.pmuSettleEnd false 64) = true ∧
    wellFormed (.pmuSampleEnd true 64 0) = false ∧ wellFormed (.comparatorResolved true 1023 0 true) = false ∧ wellFormed (.filterSample true 64 0) = false := by
  decide

/-- A supply has two guard comparators (R333). -/
theorem wf_guard : wellFormed (.guardTrip true 0 1 0) = true ∧ wellFormed (.guardTrip true 0 2 0) = false ∧ wellFormed (.guardTrip false 0 2 0) = true ∧
    wellFormed (.blankEnd true 64 0) = false := by decide

/-- A bulk access has 1 to 4,096 bytes inside the window (R462). -/
theorem wf_bulk : wellFormed (.bulkWrite 0 0 []) = false ∧ wellFormed (.bulkRead 0 0xFFFFF 1) = true ∧ wellFormed (.bulkRead 0 0xFFFFF 2) = false ∧
    wellFormed (.bulkRead 0 0 4097) = false := by decide

/-- A request to BAR0 starts at a dword and stays inside (R459). -/
theorem wf_bar0 : wellFormed (.bar0Read 4 8) = true ∧ wellFormed (.bar0Read 2 8) = false ∧ wellFormed (.bar0Write 0xFFFFFFC [some 0]) = true ∧
    wellFormed (.bar0Write 0xFFFFFFC [some 0, some 0]) = false ∧ wellFormed (.bar0Write 6 [some 0]) = false := by decide

/-- The Q2 copy is written only once the Q0 copy matched (R17). -/
theorem wf_nvm_end : wellFormed (.saveDone ⟨none, some []⟩) = true ∧ wellFormed (.saveDone ⟨some [], some []⟩) = false ∧
    wellFormed (.keyCommandDone ⟨some [], some []⟩) = false ∧ wellFormed (.shutdownRecordDone ⟨some [], some []⟩) = false := by decide

/-- A gang of 1 to 16 supplies (R325). -/
theorem wf_sense : wellFormed (.senseCheckDone 0 []) = false ∧ wellFormed (.senseCheckDone 0 (List.replicate 16 ⟨0, 0, 0, 0⟩)) = true ∧
    wellFormed (.senseCheckDone 0 (List.replicate 17 ⟨0, 0, 0, 0⟩)) = false := by decide

/-- Each channel is observed once. -/
theorem wf_observed_once : wellFormed (.contactCheckDone [⟨5, 0, 0, [], none, 0⟩, ⟨5, 0, 0, [], none, 0⟩]) = false ∧
    wellFormed (.contactCheckDone [⟨5, 0, 0, [], none, 0⟩, ⟨6, 0, 0, [], none, 0⟩]) = true ∧
    wellFormed (.selftestDone ⟨[(5, 0), (5, 1)], [], true, true⟩) = false ∧ wellFormed (.selftestDone ⟨[], [(3, ⟨0, 0⟩), (3, ⟨0, 0⟩)], true, true⟩) = false ∧
    wellFormed (.selftestDone ⟨[(5, 0), (6, 1)], [], true, true⟩) = true := by decide

/-- One channel's observation in a reference run, for `wf_refcal`. -/
def refOne : RefObs := ⟨5, 0, 0, 0, [], true, [], [], [], 0, 0, 0, 0, 0, 0, 0⟩
theorem wf_refcal : wellFormed (.refcalComplete ⟨0, none, 0, [], [], [], [refOne, refOne]⟩) = false ∧
    wellFormed (.refcalComplete ⟨0, none, 0, [], [], [], [refOne]⟩) = true := by decide

/-- The ranges of the taps (R406). -/
theorem wf_taps : wellFormed (.adaptUpdate 0 ⟨0, [-128, 63, -63, 0, 0]⟩) = true ∧ wellFormed (.adaptUpdate 0 ⟨0, [128, 0, 0, 0, 0]⟩) = false ∧
    wellFormed (.adaptUpdate 0 ⟨0, [0, 64, 0, 0, 0]⟩) = false ∧ wellFormed (.adaptUpdate 0 ⟨0, [0, 0, 0, 0]⟩) = false := by decide

/-- No more errors than bits. -/
theorem wf_bits : wellFormed (.checkerSync 0 5 5) = true ∧ wellFormed (.checkerSync 0 5 6) = false ∧ wellFormed (.checkerSyncLoss 0 5 6) = false ∧
    wellFormed (.ltestCountEnd 0 5 6) = false := by decide

/-- An XFER write has OP 1; a frame has at most 4,096 bytes; frames of the control port have a word. -/
theorem wf_frames : wellFormed (.mpXferXfer .cp 1) = true ∧ wellFormed (.mpXferXfer .cp 2) = false ∧ wellFormed (.mpFrameDone []) = true ∧
    wellFormed (.mpFrameDone (List.replicate 4097 0)) = false ∧ wellFormed (.cpWrite 0 [] false) = false ∧ wellFormed (.cpWrite 0 [] true) = true ∧
    wellFormed (.cpRead 0 0 false) = false ∧ wellFormed (.cpRead 0 0 true) = true := by decide +kernel

/-- The speeds and widths of a link (R455), the 28 sensors and 36 monitors of a round, and the mode codes that are always refused (R491). -/
theorem wf_link_round_mode : wellFormed (.linkUp 5 8 false 0) = true ∧ wellFormed (.linkUp 6 8 false 0) = false ∧ wellFormed (.linkUp 0 8 false 0) = false ∧
    wellFormed (.linkUp 5 3 false 0) = false ∧ wellFormed (.housekeepingRound (List.replicate 28 none) (List.replicate 36 0)) = true ∧
    wellFormed (.housekeepingRound (List.replicate 27 none) (List.replicate 36 0)) = false ∧
    wellFormed (.housekeepingRound (List.replicate 28 none) (List.replicate 35 0)) = false ∧ wellFormed (.modeReqForbidden .cp 9 none) = true ∧
    wellFormed (.modeReqForbidden .cp 4 none) = false := by decide

/-- The state after a step that answers next, else the state itself. -/
def after (i : Instr) (s : State) : State := match exec i s with
  | .next t => t
  | _ => s

/-! ### The worked cases of spec/: the values expected are the ones their tables state -/

/-- Register map, address examples. -/
theorem test_addresses : Reg.CH_GSTAT.word 300 = 0x084B32 ∧ Reg.EE_TWR.word 1032 = 0x058101 ∧ Reg.TM_RES.word 45 = 0x0602D4 ∧
    Reg.SQ_STAT.word 18 = 0x0314A2 ∧ Reg.DL_STAT.word 4 = 0x0B0407 := by decide +kernel

/-- Register map: a WRITE of four words from 0x00_4002 meets two holes; the frame after it shifts out 0x20 in bits 7 to 3. -/
theorem test_write_frame : (after .cpNop (after (.cpWrite 0x004002 [0, 0, 0, 0] false) (stIn Mode.SAFE []))).get Reg.CP_STAT.LAST / 8 * 8 = 0x20 := by
  decide +kernel

/-- The READ of three words from 0xFF_FFFE runs past the end: the frame after it shifts out 0x30 in bits 7 to 3. -/
theorem test_read_frame : (after .cpNop (after (.cpRead 0xFFFFFE 3 false) (stIn Mode.SAFE []))).get Reg.CP_STAT.LAST / 8 * 8 = 0x30 := by decide +kernel

/-- Host link: HL_BULK_0 as one request of four dwords. -/
theorem test_bulk_setup : let s := after (.bar0Write 0x50100 [some 1, some 0, some 0x00100000, some 1]) (stIn Mode.RUN [])
    s.get (Reg.HL_BULK.MODE 0) = 1 ∧ s.get (Reg.HL_BULK.TARGET 0) = 0 ∧ s.get (Reg.HL_BULK.PTR 0) = 0x100100000 := by decide +kernel

/-- Host link: three dword stores and then another word set PARTIAL and leave the channel OFF. -/
theorem test_bulk_partial : let s := after (.bar0Write 0x50110 [some 0]) (after (.bar0Write 0x50100 [some 1, some 0, some 0x00100000]) (stIn Mode.RUN []))
    s.flag Reg.HL_STAT.PARTIAL = true ∧ s.get Reg.HL_LAST.WORD = 0x005010 ∧ s.get (Reg.HL_BULK.MODE 0) = 0 := by decide +kernel

/-- Results: the SNAPSHOT record of S4 at PC 57, and what bits 23 to 0 of beat 5,000,200 are. -/
theorem test_snapshot_record : recWord 4 57 8 0x10 5000200 0 0x000700000000 = 0x10000E60400131302000000700000000#128 ∧
    5000200 % 2 ^ 24 = 0x4C4C08 := by decide +kernel

/-- Results: tag 7 at beat 5,000,200 is sent at the first free slot, and a leaf schedules the beat it names. -/
theorem test_snapshot_frame : 
    (after (.snapshotFrame (mkFrame Fk.SNAPSHOT (7 * 2 ^ 24 + 0x4C4C08)) 0 true)
      { stIn Mode.RUN [(Reg.TB_CTRL.ROLE, 1), (Reg.TB_CTRL.SYNC_EN, 1), (Reg.TB_STAT.LOCK, 2), (Reg.TB_STAT.CNT_VALID, 1)] with beat := 5000128 }).snaps = [⟨5000200, 7, true⟩] := by decide +kernel

/-- Timebase: the EPOCH frame of beat 7 x 2^20 with HOP 1 sets the counter at 7,340,160. -/
theorem test_epoch : let g : BitVec 64 := BitVec.ofNat 64 (0xD2 * 2 ^ 56 + 1 * 2 ^ 52 + 1 * 2 ^ 48 + 7 * 2 ^ 8)
    let h := g ||| BitVec.ofNat 64 (crc8Frame g)
    let s := after (.epochFrame h 0) (stIn Mode.SAFE [(Reg.TB_CTRL.ROLE, 1), (Reg.TB_CTRL.SYNC_EN, 1), (Reg.TB_STAT.LOCK, 1)])
    s.now = 7340160 ∧ s.cntValid = true ∧ s.get Reg.TB_STAT.HOP = 1 := by decide +kernel

/-- Edge timing: the clause words of tense 5 on CH40, and deskew. -/
theorem test_tense : let s := [0x1400000000000000800#128, 0x1410000000000000000#128, 0x1420000000000000000#128, 0x1430000040000000400#128,
      0x1444000010050000100#128, 0x1450000000000000000#128].foldl (fun s w => s.tenseWrite false 40 w) (st [])
    let t := s.tense false 40 5
    t.period = 2048 ∧ t.data = 0 ∧ t.stbOpen = 1024 ∧ t.stbClose = 1024 ∧ uBase (t.u.getD 0 0) = 5 ∧ uShift (t.u.getD 0 0) = 256 ∧ uBase (t.u.getD 1 0) = 4 ∧
    uShift (t.u.getD 1 0) = 256 := by decide +kernel

theorem test_deskew : let s := st [(Reg.EE_DESKEW.TRACE_DRV 40, 5243), (Reg.EE_DESKEW.TRACE_RCV 40, 5243), (Reg.EE_DESKEW.CAL_DRV 40, 1760), (Reg.EE_DESKEW.CAL_RCV 40, 2101)]
    s.launchTime 40 (s.needleTime 40 75776 0) = 65536 + 3237 ∧ edgeParts 3237 = (1, 37, 5) ∧ s.sampleTime 40 (s.needleTime 40 75776 1024) = 65536 + 18608 ∧
    edgeParts 18608 = (9, 5, 16) := by decide +kernel

/-- Scan-out: E = 32, C = 2,048, and 1,024 blocks for R = 8 and FB_VEC 16. -/
theorem test_rings : fcEntrySize 16 = 32 ∧ rowBytes 16 = 8 ∧
    ({ st [(Reg.SO_FC_CFG.SIZE 31, 16), (Reg.SO_STR_CFG.FB_VEC 64, 16)] with
        maps := [(0, ⟨(List.range 16).map (fun i => ⟨i, 0, 0⟩), [], [], 0⟩), (31, ⟨(List.range 16).map (fun i => ⟨496 + i, 0, 0⟩), [], [], 0⟩)],
        clones := [(0, 2 ^ 0 + 2 ^ 1)] } : State).fcCap 31 = 2048 := by decide +kernel

theorem test_blocks :
    ({ st [(Reg.SO_STR_CFG.FB_VEC 64, 16)] with
        maps := [(0, ⟨(List.range 16).map (fun i => ⟨i, 0, 0⟩), [], [], 0⟩)], clones := [(0, 1)] } : State).fbBlocks 64 = 1024 := by decide +kernel

/-- Scan-out: the ring entry of S31's fail. -/
theorem test_ring_entry :
    let s : State := { st [(Reg.SO_FC_CFG.SIZE 31, 16), (Reg.SO_FC_CFG.EN 31, 1)] with maps := [(31, ⟨(List.range 16).map (fun i => ⟨496 + i, 0, 0⟩), [], [], 0⟩)] }
    ((s.fcWrite 31 ⟨4, 9000, 808, 0x122, 50281, false, false, 0, 0⟩ 5).1.bytes 0 32).map BitVec.toNat =
      [0x28, 0x23, 0, 0, 0, 0, 0x28, 0x03, 0x22, 1, 0, 0, 0x69, 0xC4, 0, 0, 0x20] ++ List.replicate 15 0 := by decide +kernel

/-- Pattern memory: the write of PM_RGN_5, and the LOOP descriptor. -/
theorem test_region : let s := after (.pmRgnWrite .cp 5 0x00000000000100000010000000000001#128) (stIn Mode.STANDBY [])
    s.rgnValid 5 = true ∧ s.rgnKind 5 = 0 ∧ s.rgnLo 5 = 0x100000000 ∧ s.rgnHi 5 = 0x100000000 + 256 * 2 ^ 20 := by decide +kernel

theorem test_descriptor : let d := Desc.ofBytes 0x100000020 [] (leNat [0x03, 0, 0xFF, 0x0F, 0x64, 0, 0, 0, 0, 0x80, 0x10, 0, 1, 0, 0, 0, 0, 0, 0, 0, 0, 0, 0, 0, 0x11, 0, 0, 0, 0, 0])
    d.kind = 3 ∧ d.count = 4096 ∧ d.reps = 100 ∧ d.data = 0x100108000 ∧ d.frameId = 0x11 := by decide +kernel

/-- Time measurement: the self-calibration of TDC 45 and the first shot on pin 13. -/
theorem test_selfcal : let s := (st []).selfWrite 45 ⟨2050 * 16, 4097 * 16⟩
    s.get (Reg.TM_SELF.GAIN 45) = 1074266368 ∧ s.getS (Reg.TM_SELF.OFFSET 45) = -3 ∧ selfPasses ⟨2050 * 16, 4097 * 16⟩ = true ∧
    s.shotValue 45 9344 9630 (-7344, -7330) / 256 = 267 := by decide +kernel

theorem test_sources : srcKind 0x0300001D = 5 ∧ srcPin 0x0300001D = 12 ∧ srcKind 0x13 = 3 ∧ bitOf 0x0300001D 3 = true := by decide +kernel

/-- Waveform sources: the output of S9's stimulus ranges from 22,938 to 49,152. -/
theorem test_sine : let amp := BitVec.ofNat 128 (0x3333 * 2 ^ 32 + 0x8CCD)
    ((st []).wfCode 5 amp (sineValue (2 ^ 46))).1 = 49152 - 0 ∧ ((st []).wfCode 5 amp (sineValue (3 * 2 ^ 46))).1 = 22938 := by decide +kernel

/-- Device power: SET 7,200 is 0.9 V and SET 14,400 1.8 V. -/
theorem test_set : (st [(Reg.DPS_SET.SET 24, 7200), (Reg.DPS_SET.CONN 24, 1)]).dpsGoal 24 = 900000 ∧
    (Reg.DPS_SET.SLEW 26).of 0x0186A00107D03840#128 = 2000 ∧ (Reg.DPS_SET.DELAY 26).of 0x0186A00107D03840#128 = 100000 ∧
    (Reg.DPS_SET.CONN 26).of 0x0186A00107D03840#128 = 1 ∧ (Reg.DPS_CFG.ILIM 24).of 0x30D40030#128 = 12500 := by decide +kernel

/-! ### Premises of the obligations -/

/-- A leaf that receives frames; `l` adds to it. -/
def leafSt (l : List (Fld × Nat)) : State :=
  stIn Mode.STANDBY ([(Reg.TB_CTRL.ROLE, 1), (Reg.TB_CTRL.SYNC_EN, 1), (Reg.TB_STAT.LOCK, 2)] ++ l)
/-- A root in RUN whose beat counter has been set to `b`. -/
def rootSt (b : Nat) (l : List (Fld × Nat)) : State :=
  { stIn Mode.RUN ([(Reg.TB_CTRL.ROLE, 2), (Reg.TB_STAT.CNT_VALID, 1)] ++ l) with beat := BitVec.ofNat 64 b }

/-- The words of a staged image. -/
def withImg (s : State) (ws : List Word) : State := ws.zipIdx.foldl (fun s p => s.setReg (Reg.SI_IMG.word p.2) p.1) s
/-- An image of a global partition alone, empty (R56 to R59). -/
def imgGlobal : List Word := [0x400000010049535844#128, 0x1#128, 0x3000000000#128, 0x11fc50a1000000000000000000000000#128]
/-- A partial image that gives site 63 no pins. -/
def imgPartial : List Word :=
  [0x440001010049535844#128, 0x1#128, 0xbf275d91000000100000003000003f01#128, 0x3f0000000800010010#128, 0xca58f431#128]
/-- A strobe window on channel 5 that is due at once. -/
def winDue (code : Nat) : Chan := { Chan.init with unresHi := false, unresLo := false, wins := [⟨code, 0, 0, 0, 0, false, false, 0, 0⟩] }
/-- A descriptor of one frame of one vector. -/
def desc1 : Desc := ⟨0, 1, false, false, true, 0, 1, 1, 0, 0, 0, 0, []⟩
def half1 : Half := ⟨desc1, [], [], none⟩
/-- Stream 63 in a state, of site 63, which runs; `q` is what the stream holds. -/
def strSt (v : Nat) (q : Stream) : State := (stIn Mode.RUN [(Reg.SQ_STAT.STATE 63, Site.RUNNING), (Reg.SO_STR_STAT.STATE 63, v), (Reg.SO_STR_CFG.FB_VEC 63, 1)]).setStream 63 q

/-- Premises of TimebaseCommandsComplete, clause by clause. -/
theorem wit_TimebaseCommandsComplete :
    (∃ (s : Machine.State), s.mode = Mode.SAFE ∧ (s.role = Role.ROOT ∨ s.role = Role.ISOLATED)) ∧
    (∃ (s : Machine.State) (w : Word), Reg.TB_CTRL.ROLE.of w ≠ 3 ∧ (s.mode = Mode.RESET ∨ s.mode = Mode.SAFE ∨ s.mode = Mode.DISCOVER)) ∧
    (∃ (s : Machine.State) (p : Fin 2048), s.listening = true ∧ s.flag Reg.TB_CTRL.REF_INV_AUTO = true ∧ 1126 ≤ ↑p ∧ ↑p ≤ 1843 ∧ (s.mode = Mode.RESET ∨ s.mode = Mode.SAFE ∨ s.mode = Mode.DISCOVER)) :=
  ⟨⟨stIn Mode.SAFE [(Reg.TB_CTRL.ROLE, 0)], by decide +kernel, by decide +kernel⟩,
   ⟨State.reset, 0x01, by decide +kernel, by decide +kernel⟩,
   ⟨stIn Mode.DISCOVER [(Reg.TB_CTRL.ROLE, 1), (Reg.TB_CTRL.SYNC_EN, 1), (Reg.TB_CTRL.REF_INV_AUTO, 1)], 1126, by decide +kernel, by decide +kernel, by decide +kernel, by decide +kernel, by decide +kernel⟩⟩

/-- Premises of SyncFramesReceived, clause by clause. -/
theorem wit_SyncFramesReceived :
    (∃ (s : Machine.State) (f : BitVec 64) (x : BitVec 64) (off : Fin 64), s.Receives f off Fk.EPOCH x ∧ s.role = Role.LEAF ∧ s.cntValid = false) ∧
    (∃ (s : Machine.State) (f : BitVec 64) (x : BitVec 64) (off : Fin 64), s.Receives f off Fk.IDLE x ∧ s.cntValid = true ∧ bitsOf (s.now - 64 * (fr x 51 48 + 1)) 6 40 = fr x 47 8) ∧
    (∃ (s : Machine.State) (f : BitVec 64) (x : BitVec 64) (off : Fin 64), s.Receives f off Fk.IDLE x ∧ s.cntValid = true ∧ s.now < 2 ^ 63 ∧ bitsOf (s.now - 64 * (fr x 51 48 + 1)) 6 40 ≠ fr x 47 8 ∧ s.anySite [Site.RUNNING, Site.HELD] = false) ∧
    (∃ (s : Machine.State) (f : BitVec 64) (x : BitVec 64) (off : Fin 64), s.Receives f off (fr x 55 52) x ∧ 7 ≤ fr x 55 52) ∧
    (∃ (s : Machine.State) (f : BitVec 64) (off : Fin 64), s.listening = true ∧ s.get Reg.TB_STAT.LOCK ≠ 0 ∧ ↑off = s.tb.offset ∧ s.rxGood f = none ∧ startOk (s.rxBits f) = true ∧ fr (s.rxBits f) 55 52 ≠ Fk.SNAPSHOT) ∧
    (∃ (s : Machine.State) (f : BitVec 64) (off : Fin 64), s.listening = true ∧ s.get Reg.TB_STAT.LOCK ≠ 0 ∧ ↑off = s.tb.offset ∧ s.rxGood f = none ∧ startOk (s.rxBits f) = false ∧ fr (s.rxBits f) 63 56 ≠ 45) ∧
    (∃ (s : Machine.State) (f : BitVec 64), s.listening = true ∧ s.get Reg.TB_STAT.LOCK = 0 ∧ frameOk (s.rxBits f) = true ∧ fr (s.rxBits f) 55 52 = Fk.IDLE) :=
  ⟨⟨leafSt [], mkFrame Fk.EPOCH 5, mkFrame Fk.EPOCH 5, 0, by unfold State.Receives; decide +kernel, by decide +kernel, by decide +kernel⟩,
   ⟨{ leafSt [(Reg.TB_STAT.CNT_VALID, 1)] with beat := 128 }, mkFrame Fk.IDLE 1, mkFrame Fk.IDLE 1, 0, by unfold State.Receives; decide +kernel, by decide +kernel, by decide +kernel⟩,
   ⟨{ leafSt [(Reg.TB_STAT.CNT_VALID, 1)] with beat := BitVec.ofNat 64 (2 ^ 63 - 1) }, mkFrame Fk.IDLE 1, mkFrame Fk.IDLE 1, 0, by unfold State.Receives; decide +kernel, by decide +kernel, by decide +kernel, by decide +kernel, by decide +kernel⟩,
   ⟨leafSt [], mkFrame 7 0, mkFrame 7 0, 0, by unfold State.Receives; decide +kernel, by decide +kernel⟩,
   ⟨leafSt [], mkFrame 0 0 ^^^ 1#64, 0, by decide +kernel, by decide +kernel, by decide +kernel, by decide +kernel, by decide +kernel, by decide +kernel⟩,
   ⟨leafSt [], 0#64, 0, by decide +kernel, by decide +kernel, by decide +kernel, by decide +kernel, by decide +kernel, by decide +kernel⟩,
   ⟨leafSt [(Reg.TB_STAT.LOCK, 0)], mkFrame 0 0, by decide +kernel, by decide +kernel, by decide +kernel, by decide +kernel⟩⟩

/-- Premises of FramesLaunched, clause by clause. -/
theorem wit_FramesLaunched :
    (∃ (s : Machine.State), s.role = Role.ROOT ∧ s.cntValid = true ∧ s.now % 2 ^ 20 = 0) ∧
    (∃ (s : Machine.State), s.role = Role.ROOT ∧ s.cntValid = true ∧ s.now % 64 = 0 ∧ s.now % 2 ^ 20 ≠ 0 ∧ s.openDecs = [] ∧ s.tb.queue = []) ∧
    (∃ (s : Machine.State) (q : RootFrame) (qs : List RootFrame), s.role = Role.ROOT ∧ s.cntValid = true ∧ s.now % 64 = 0 ∧ s.now % 2 ^ 20 ≠ 0 ∧ s.openDecs = [] ∧ s.tb.queue = q :: qs ∧ q.kind = Fk.SNAPSHOT) ∧
    (∃ (s : Machine.State), s.role = Role.LEAF ∧ s.flag Reg.TB_CTRL.UP_EN = true ∧ s.now % 64 = 0 ∧ s.vetoTag < 2 ^ 16) ∧
    (∃ (s : Machine.State) (b : BitVec 24), s.mode ≠ Mode.RESET ∧ s.role = Role.ROOT ∧ s.tb.queue.length < 8 ∧ s.cntValid = true ∧ s.now + 128 ≤ resolve24 s.now b.toNat) :=
  ⟨⟨rootSt (2 ^ 20) [], by decide +kernel, by decide +kernel, by decide +kernel⟩,
   ⟨rootSt 64 [], by decide +kernel, by decide +kernel, by decide +kernel, by decide +kernel, by decide +kernel, by decide +kernel⟩,
   ⟨{ rootSt 64 [] with tb := { State.reset.tb with queue := [⟨Fk.SNAPSHOT, 0⟩] } }, ⟨Fk.SNAPSHOT, 0⟩, [], by decide +kernel, by decide +kernel, by decide +kernel, by decide +kernel, by decide +kernel, by decide +kernel, by decide +kernel⟩,
   ⟨{ leafSt [(Reg.TB_CTRL.UP_EN, 1)] with watches := [⟨0, 65535, 0, some false, true, true, 0, false, true, []⟩] }, by decide +kernel, by decide +kernel, by decide +kernel, by decide +kernel⟩,
   ⟨rootSt 0 [], 128#24, by decide +kernel, by decide +kernel, by decide +kernel, by decide +kernel, by decide +kernel⟩⟩

/-- Premises of HoldFramesAndFollowCounters, clause by clause. -/
theorem wit_HoldFramesAndFollowCounters :
    (∃ (s : Machine.State) (f : BitVec 64) (x : BitVec 64) (off : Fin 64), s.Receives f off Fk.HOLD x ∧ s.cntValid = true ∧ s.now < resolve24 s.now (fr x 31 8) ∧ s.tb.holds = []) ∧
    (∃ (s : Machine.State) (f : BitVec 64) (x : BitVec 64) (off : Fin 64), s.Receives f off Fk.RELEASE x ∧ s.cntValid = true ∧ s.now < resolve24 s.now (fr x 31 8) ∧ s.tb.holds = []) ∧
    (∃ (s : Machine.State) (n : Fin 64) (rising : Bool) (c : Nat), s.flag (Reg.TB_FOLLOW_CFG.EN ↑n) = true ∧ (s.get (Reg.TB_FOLLOW_CFG.EDGE ↑n)).testBit (if rising = true then 0 else 1) = true ∧ s.pinChan (↑n) (s.get (Reg.TB_FOLLOW_CFG.PIN ↑n)) = some c ∧ s.flag (Reg.CH_GSTAT.TRIPPED c) = false) ∧
    (∃ (s : Machine.State) (n : Fin 64), s.flag (Reg.TB_FOLLOW_CFG.EN ↑n) = true ∧ s.get (Reg.TB_FOLLOW_CFG.STALL ↑n) ≠ 0 ∧ (s.followSt ↑n).stalled = false ∧ (s.followSt ↑n).since + s.get (Reg.TB_FOLLOW_CFG.STALL ↑n) ≤ s.now) :=
  ⟨⟨leafSt [(Reg.TB_STAT.CNT_VALID, 1)], mkFrame Fk.HOLD 1, mkFrame Fk.HOLD 1, 0, by unfold State.Receives; decide +kernel, by decide +kernel, by decide +kernel, by decide +kernel⟩,
   ⟨leafSt [(Reg.TB_STAT.CNT_VALID, 1)], mkFrame Fk.RELEASE 1, mkFrame Fk.RELEASE 1, 0, by unfold State.Receives; decide +kernel, by decide +kernel, by decide +kernel, by decide +kernel⟩,
   ⟨{ stIn Mode.RUN [(Reg.TB_FOLLOW_CFG.EN 63, 1), (Reg.TB_FOLLOW_CFG.EDGE 63, 1)] with maps := [(63, ⟨[⟨7, 0, 0⟩], [], [], 0⟩)] }, 63, true, 7, by decide +kernel, by decide +kernel, by decide +kernel, by decide +kernel⟩,
   ⟨{ stIn Mode.RUN [(Reg.TB_FOLLOW_CFG.EN 63, 1), (Reg.TB_FOLLOW_CFG.STALL 63, 9)] with beat := 9 }, 63, by decide +kernel, by decide +kernel, by decide +kernel, by decide +kernel⟩⟩

/-- Premises of StructuralCommandsAccepted, clause by clause. -/
theorem wit_StructuralCommandsAccepted :
    (∃ (s : Machine.State), s.mode = Mode.SHAPE ∧ s.flag Reg.SI_STAT.BUSY = false ∧ s.flag Reg.DEV_SVCSTAT.PENDING = false ∧ s.img.partialFlag = false ∧ s.anySite [Site.ARMED, Site.RUNNING, Site.HELD, Site.TRIPPED, Site.RESHAPING] = false) ∧
    (∃ (s : Machine.State) (n : Fin 64), s.flag Reg.SI_STAT.BUSY = false ∧ s.sparePending (some ↑n) = false ∧ s.mode ∈ [Mode.SHAPE, Mode.STANDBY, Mode.READY, Mode.CONTACT, Mode.RUN] ∧ s.siteState ↑n ∈ [Site.EMPTY, Site.LOADED, Site.RETIRED] ∧ (∀ i < 64, s.holds (↑n) i = false) ∧ s.clauseNames [Slot.OPEN, Slot.PREPARING, Slot.PREPARED] ↑n = false ∧ (∀ k ∈ s.openSlots, ∀ x ∈ (s.slot k).acts, s.actsIn (s.map ↑n) x.addr = false ∧ s.actsIn (Part.siteMap s.img (s.img.part 0)) x.addr = false)) ∧
    (∃ (s : Machine.State), s.mode ≠ Mode.RESET ∧ s.mode ≠ Mode.SAFE ∧ s.mode ≠ Mode.SHUTDOWN ∧ s.flag Reg.SI_STAT.BUSY = false) ∧
    (∃ (s : Machine.State), s.flag Reg.SI_STAT.BUSY = true) :=
  ⟨⟨stIn Mode.SHAPE [], by decide +kernel, by decide +kernel, by decide +kernel, by decide +kernel, by decide +kernel⟩,
   ⟨stIn Mode.RUN [], 63, by decide +kernel, by decide +kernel, by decide +kernel, by decide +kernel, by decide +kernel, by decide +kernel, by decide +kernel⟩,
   ⟨stIn Mode.DISCOVER [], by decide +kernel, by decide +kernel, by decide +kernel, by decide +kernel⟩,
   ⟨stIn Mode.SHAPE [(Reg.SI_STAT.BUSY, 1)], by decide +kernel⟩⟩

/-- Premises of StructuralOperationsComplete, clause by clause. -/
theorem wit_StructuralOperationsComplete :
    (∃ (s : Machine.State) (o : SiOp), s.siOp = some o ∧ o.op = 1 ∧ validate s s.img none = none) ∧
    (∃ (s : Machine.State) (o : SiOp) (e : ImgErr), s.siOp = some o ∧ o.op = 1 ∧ validate s s.img none = some e) ∧
    (∃ (s : Machine.State) (o : SiOp), s.siOp = some o ∧ o.op = 2 ∧ validate s s.img (some o.site) = none) ∧
    (∃ (s : Machine.State) (o : SiOp) (e : ImgErr), s.siOp = some o ∧ o.op = 2 ∧ o.site < 64 ∧ o.prev < 8 ∧ validate s s.img (some o.site) = some e) ∧
    (∃ (s : Machine.State) (o : SiOp), s.siOp = some o ∧ o.op = 3) :=
  ⟨⟨withImg { stIn Mode.SHAPE [(Reg.MP_STAT.LIM_VALID, 1)] with siOp := some ⟨1, 0, 0⟩ } imgGlobal, ⟨1, 0, 0⟩, by decide +kernel, by decide +kernel, by decide +kernel⟩,
   ⟨{ stIn Mode.SHAPE [] with siOp := some ⟨1, 0, 0⟩ }, ⟨1, 0, 0⟩, ⟨Si.MAGIC, 0, 0, 0, 0⟩, by decide +kernel, by decide +kernel, by decide +kernel⟩,
   ⟨withImg { stIn Mode.RUN [(Reg.MP_STAT.LIM_VALID, 1)] with siOp := some ⟨2, 63, 0⟩ } imgPartial, ⟨2, 63, 0⟩, by decide +kernel, by decide +kernel, by decide +kernel⟩,
   ⟨{ stIn Mode.RUN [] with siOp := some ⟨2, 63, 7⟩ }, ⟨2, 63, 7⟩, ⟨Si.MAGIC, 0, 0, 0, 0⟩, by decide +kernel, by decide +kernel, by decide +kernel, by decide +kernel, by decide +kernel⟩,
   ⟨{ stIn Mode.DISCOVER [] with siOp := some ⟨3, 0, 0⟩ }, ⟨3, 0, 0⟩, by decide +kernel, by decide +kernel⟩⟩

/-- Premises of ServiceCommands, clause by clause. -/
theorem wit_ServiceCommands :
    (∃ (s : Machine.State) (c : BitVec 10) (k : BitVec 5) (n : Nat), s.mode ≠ Mode.RESET ∧ s.flag Reg.DEV_SVCSTAT.PENDING = false ∧ s.spareRefusal c.toNat k.toNat = none ∧ s.chanSite c.toNat = some n ∧ s.siteState n = Site.RUNNING ∧ s.streamState (s.streamOf n) = Str.PLAYING) ∧
    (∃ (s : Machine.State) (c : BitVec 10) (k : BitVec 5), s.mode ≠ Mode.RESET ∧ s.flag Reg.DEV_SVCSTAT.PENDING = false ∧ s.spareRefusal c.toNat k.toNat = none ∧ (∀ (n : Nat), s.chanSite c.toNat = some n → s.siteState n ≠ Site.RUNNING)) ∧
    (∃ (s : Machine.State), s.flag Reg.DEV_SVCSTAT.PENDING = true ∧ s.spareWaits = false) ∧
    (∃ (s : Machine.State), s.mode ≠ Mode.RESET ∧ s.flag Reg.DEV_SVCSTAT.PENDING = true) ∧
    (∃ (s : Machine.State) (n : BitVec 10), s.mode ≠ Mode.RESET ∧ s.flag Reg.DEV_SVCSTAT.PENDING = false ∧ s.flag Reg.SI_STAT.BUSY = false ∧ s.retirable n.toNat = true) :=
  ⟨⟨siteSt Mode.RUN 63 Site.RUNNING [(Reg.SO_STR_STAT.STATE 63, 2), (Reg.CAL_Q.STATE 0, 1)], 5, 7, 63, by decide +kernel, by decide +kernel, by decide +kernel, by decide +kernel, by decide +kernel, by decide +kernel⟩,
   ⟨siteSt Mode.SHAPE 63 Site.LOADED [(Reg.CAL_Q.STATE 3, 1)], 1023, 31, by decide +kernel, by decide +kernel, by decide +kernel, fun n h => absurd (h.symm.trans (show _ = none by decide +kernel)) (by simp)⟩,
   ⟨stIn Mode.SHAPE [(Reg.DEV_SVCSTAT.PENDING, 1)], by decide +kernel, by decide +kernel⟩,
   ⟨stIn Mode.SHAPE [(Reg.DEV_SVCSTAT.PENDING, 1)], by decide +kernel, by decide +kernel⟩,
   ⟨siteSt Mode.SHAPE 63 Site.LOADED [], 63, by decide +kernel, by decide +kernel, by decide +kernel, by decide +kernel⟩⟩

/-- Premises of StrobesAndPinEvents, clause by clause. -/
theorem wit_StrobesAndPinEvents :
    (∃ (s : Machine.State) (c : Fin 1024) (w : Win) (n : Nat) (p : Nat × Pin), s.dueWin (s.chan ↑c) = some w ∧ w.code = 10 ∧ s.chanPin ↑c = some p ∧ s.chanSite ↑c = some n ∧ s.siteState n ≠ Site.TRIPPED ∧ s.flag (Reg.CH_STAT.TRIPPED ↑c) = false ∧ s.inPassage ↑c = false) ∧
    (∃ (s : Machine.State) (c : Fin 1024) (w : Win) (n : Nat) (p : Nat × Pin), s.dueWin (s.chan ↑c) = some w ∧ (w.code = 4 ∨ w.code = 5 ∨ w.code = 6) ∧ s.chanPin ↑c = some p ∧ s.chanSite ↑c = some n ∧ s.siteState n ≠ Site.TRIPPED ∧ s.flag (Reg.CH_STAT.TRIPPED ↑c) = false ∧ s.inPassage ↑c = false ∧ (s.chan ↑c).unresHi = false ∧ (s.chan ↑c).unresLo = false ∧ w.subst = false) ∧
    (∃ (s : Machine.State) (c : Fin 1024) (w : Win) (n : Nat) (p : Nat × Pin), s.dueWin (s.chan ↑c) = some w ∧ s.chanPin ↑c = some p ∧ s.chanSite ↑c = some n ∧ s.siteState n ≠ Site.TRIPPED ∧ s.flag (Reg.CH_STAT.TRIPPED ↑c) = false ∧ s.inPassage ↑c = true) ∧
    (∃ (s : Machine.State) (c : Fin 1024), (s.chan ↑c).unresHi = true) ∧
    (∃ (s : Machine.State) (c : Fin 1024), s.flag (Reg.CH_CTRL.OUT_ARM ↑c) = true ∧ s.flag (Reg.CH_STAT.TRIPPED ↑c) = false ∧ s.inPassage ↑c = false ∧ s.pmuMember ↑c = false) ∧
    (∃ (s : Machine.State) (c : Fin 1024) (b : Nat), (s.chan ↑c).busClose = some b ∧ b ≤ s.now) ∧
    (∃ (s : Machine.State) (c : Fin 1024) (b : Nat), (s.chan ↑c).busDz = some b ∧ b ≤ s.now) :=
  ⟨⟨(siteSt Mode.RUN 63 Site.RUNNING []).setChan 5 (winDue 10), 5, ⟨10, 0, 0, 0, 0, false, false, 0, 0⟩, 63, (0, ⟨5, 0, 0⟩), by decide +kernel, by decide +kernel, by decide +kernel, by decide +kernel, by decide +kernel, by decide +kernel, by decide +kernel⟩,
   ⟨(siteSt Mode.RUN 63 Site.RUNNING []).setChan 5 (winDue 6), 5, ⟨6, 0, 0, 0, 0, false, false, 0, 0⟩, 63, (0, ⟨5, 0, 0⟩), by decide +kernel, by decide +kernel, by decide +kernel, by decide +kernel, by decide +kernel, by decide +kernel, by decide +kernel, by decide +kernel, by decide +kernel, by decide +kernel⟩,
   ⟨(siteSt Mode.RUN 63 Site.RUNNING [(Reg.CH_LVLSTAT.PASSAGE 5, 1)]).setChan 5 (winDue 4), 5, ⟨4, 0, 0, 0, 0, false, false, 0, 0⟩, 63, (0, ⟨5, 0, 0⟩), by decide +kernel, by decide +kernel, by decide +kernel, by decide +kernel, by decide +kernel, by decide +kernel⟩,
   ⟨State.reset, 1023, by decide +kernel⟩,
   ⟨st [(Reg.CH_CTRL.OUT_ARM 1023, 1)], 1023, by decide +kernel, by decide +kernel, by decide +kernel, by decide +kernel⟩,
   ⟨State.reset.setChan 1023 { Chan.init with busClose := some 0 }, 1023, 0, by decide +kernel, by decide +kernel⟩,
   ⟨State.reset.setChan 1023 { Chan.init with busDz := some 0 }, 1023, 0, by decide +kernel, by decide +kernel⟩⟩

/-- Premises of StreamsPlay, clause by clause. -/
theorem wit_StreamsPlay :
    (∃ (s : Machine.State) (x : Fin 80), s.reading ↑x = true ∧ (s.stream ↑x).rdone = false ∧ (s.stream ↑x).queue.length < 8 ∧ (∀ d ∈ (s.stream ↑x).queue, d.err = 0)) ∧
    (∃ (s : Machine.State) (x : Fin 80) (d : Desc) (ds : List Desc), s.reading ↑x = true ∧ (s.stream ↑x).queue = d :: ds ∧ d.err = 0 ∧ (s.stream ↑x).inc = none ∧ s.replayable (↑x) d = false) ∧
    (∃ (s : Machine.State) (x : Fin 80) (h : Half), s.streamState ↑x = Str.PLAYING ∧ (s.stream ↑x).phase = Phase.frame ∧ (s.stream ↑x).cur = some h ∧ (s.stream ↑x).lead = 0 ∧ (s.stream ↑x).vec < h.desc.count ∧ s.begun ((s.stream ↑x).t0 + (s.stream ↑x).vec * (s.stream ↑x).period) = true) ∧
    (∃ (s : Machine.State) (x : Fin 80) (h : Half), s.streamState ↑x = Str.PLAYING ∧ (s.stream ↑x).phase = Phase.frame ∧ (s.stream ↑x).cur = some h ∧ (s.stream ↑x).lead ≠ 0 ∧ s.begun ((s.stream ↑x).t0 - (s.stream ↑x).lead) = true) ∧
    (∃ (s : Machine.State) (x : Fin 80) (d : Desc) (ds : List Desc) (h : Half) (st : Nat), s.streamState ↑x = Str.PRIMING ∧ (s.stream ↑x).start = some st ∧ st / 65536 = s.now ∧ (s.stream ↑x).queue = d :: ds ∧ (s.stream ↑x).inc = some h ∧ s.frameRefusal (↑x) d (some h) = none) ∧
    (∃ (s : Machine.State) (x : Fin 80) (h : Half) (hf : Half) (ds : List Desc), s.QuietBoundary ↑x ∧ (s.stream ↑x).cur = some h ∧ (s.stream ↑x).left ≤ 1 ∧ (s.stream ↑x).queue = hf.desc :: ds ∧ (s.stream ↑x).inc = some hf ∧ s.replayable (↑x) hf.desc = false ∧ s.frameRefusal (↑x) hf.desc (some hf) = none ∧ s.streamPeriod (↑x) hf.desc.tense = s.streamPeriod (↑x) h.desc.tense ∧ (s.stream ↑x).under = 0) ∧
    (∃ (s : Machine.State) (x : Fin 80) (h : Half), s.QuietBoundary ↑x ∧ (s.stream ↑x).cur = some h ∧ (s.stream ↑x).left ≤ 1 ∧ (s.stream ↑x).queue = [] ∧ (s.stream ↑x).rdone = true) :=
  ⟨⟨st [(Reg.SO_STR_STAT.STATE 79, 1)], 79, by decide +kernel, by decide +kernel, by decide +kernel, by decide +kernel⟩,
   ⟨(st [(Reg.SO_STR_STAT.STATE 79, 2)]).setStream 79 { Stream.init with queue := [desc1] }, 79, desc1, [], by decide +kernel, by decide +kernel, by decide +kernel, by decide +kernel, by decide +kernel⟩,
   ⟨strSt 2 { Stream.init with phase := .frame, cur := some half1 }, 63, half1, by decide +kernel, by decide +kernel, by decide +kernel, by decide +kernel, by decide +kernel, by decide +kernel⟩,
   ⟨strSt 2 { Stream.init with phase := .frame, cur := some half1, lead := 5, t0 := 5 }, 63, half1, by decide +kernel, by decide +kernel, by decide +kernel, by decide +kernel, by decide +kernel⟩,
   ⟨strSt 1 { Stream.init with start := some 0, queue := [desc1], inc := some half1 }, 63, desc1, [], half1, 0, by decide +kernel, by decide +kernel, by decide +kernel, by decide +kernel, by decide +kernel, by decide +kernel⟩,
   ⟨strSt 2 { Stream.init with phase := .frame, cur := some half1, left := 1, queue := [desc1], inc := some half1, members := [63] }, 63, half1, half1, [], by unfold State.QuietBoundary; decide +kernel, by decide +kernel, by decide +kernel, by decide +kernel, by decide +kernel, by decide +kernel, by decide +kernel, rfl, by decide +kernel⟩,
   ⟨strSt 2 { Stream.init with phase := .frame, cur := some half1, left := 1, rdone := true, members := [63] }, 63, half1, by unfold State.QuietBoundary; decide +kernel, by decide +kernel, by decide +kernel, by decide +kernel, by decide +kernel⟩⟩

/-- Premises of ScanOutAndRegionWrites, clause by clause. -/
theorem wit_ScanOutAndRegionWrites :
    (∃ (s : Machine.State) (e : Fin 1056) (w : Word), s.mode ≠ Mode.RESET ∧ s.wordRefused (Reg.EE_TWR.word ↑e) = false ∧ tenseWriteBad w = false) ∧
    (∃ (s : Machine.State) (i : Fin 256) (w : Word), s.mode ≠ Mode.RESET ∧ (s.set Reg.PM_STAT.LAST_INDEX ↑i).rgnRefusal (↑i) (w &&& rgnMask) = none) ∧
    (∃ (s : Machine.State) (i : Fin 256) (w : Word) (c : Nat), s.mode ≠ Mode.RESET ∧ c < 16 ∧ (s.set Reg.PM_STAT.LAST_INDEX ↑i).rgnRefusal (↑i) (w &&& rgnMask) = some c) ∧
    (∃ (s : Machine.State) (n : Fin 64) (w : Word), s.mode ≠ Mode.RESET ∧ s.siteLive ↑n = false ∧ (Reg.SO_FC_CFG.BASE ↑n).of w % 4096 = 0 ∧ (Reg.SO_FC_CFG.SIZE ↑n).of w ≠ 0) ∧
    (∃ (s : Machine.State) (n : Fin 64) (w : Word), s.mode ≠ Mode.RESET ∧ (Reg.SO_FC_PTR.RD ↑n).of w < s.fcCap ↑n) ∧
    (∃ (s : Machine.State) (n : Fin 64), s.mode ≠ Mode.RESET ∧ s.siteState ↑n ≠ Site.RUNNING ∧ s.siteState ↑n ≠ Site.HELD) ∧
    (∃ (s : Machine.State), s.flag Reg.TB_STAT.PLL_LOCK = true) ∧
    (∃ (s : Machine.State) (k : Fin 2), s.flag Reg.SO_CTRL.PD_EN = true ∧ s.get (if k = 0 then Reg.SO_STAT.STACK0 else Reg.SO_STAT.STACK1) = 0 ∧ (Option.map Prod.snd (List.find? (fun p => p.1 == ↑k) s.stackReq)).getD 0 + s.get Reg.SO_CTRL.PD_IDLE ≤ s.now) :=
  ⟨⟨stIn Mode.STANDBY [], 1055, 0x50000000000000000#128, by decide +kernel, by decide +kernel, by decide +kernel⟩,
   ⟨stIn Mode.STANDBY [], 255, 0#128, by decide +kernel, by decide +kernel⟩,
   ⟨stIn Mode.STANDBY [], 255, 1#128, 3, by decide +kernel, by decide +kernel, by decide +kernel⟩,
   ⟨stIn Mode.STANDBY [], 63, BitVec.ofNat 128 (2 ^ 128 - 1) &&& ~~~(0xfff0000000000000000#128), by decide +kernel, by decide +kernel, by decide +kernel, by decide +kernel⟩,
   ⟨siteSt Mode.STANDBY 63 Site.LOADED [(Reg.SO_FC_CFG.SIZE 63, 1)], 63, 0#128, by decide +kernel, by decide +kernel⟩,
   ⟨siteSt Mode.STANDBY 63 Site.TRIPPED [], 63, by decide +kernel, by decide +kernel, by decide +kernel⟩,
   ⟨st [(Reg.TB_STAT.PLL_LOCK, 1)], by decide +kernel⟩,
   ⟨st [(Reg.SO_CTRL.PD_EN, 1), (Reg.SO_CTRL.PD_IDLE, 0)], 1, by decide +kernel, by decide +kernel, by decide +kernel⟩⟩

/-- Premises of BulkPortMovesBytes, clause by clause. -/
theorem wit_BulkPortMovesBytes :
    (∃ (s : Machine.State) (ch : Fin 4) (off : BitVec 20) (data : List ByteLane), s.link.d3 = false ∧ s.get (Reg.HL_BULK.MODE ↑ch) ≠ 0 ∧ s.get (Reg.HL_BULK.TARGET ↑ch) = 0 ∧ data ≠ [] ∧ s.bulkBase (↑ch) off.toNat + data.length ≤ pmSize ∧ (∀ i ∈ s.rgnsReached (s.bulkBase (↑ch) off.toNat) data.length, s.leased i = true → s.rgnKind i < 2)) ∧
    (∃ (s : Machine.State) (ch : Fin 4) (off : BitVec 20) (data : List ByteLane) (i : Nat), s.link.d3 = false ∧ s.get (Reg.HL_BULK.MODE ↑ch) ≠ 0 ∧ s.get (Reg.HL_BULK.TARGET ↑ch) = 0 ∧ data ≠ [] ∧ s.bulkBase (↑ch) off.toNat + data.length ≤ pmSize ∧ i ∈ s.rgnsReached (s.bulkBase (↑ch) off.toNat) data.length ∧ s.leased i = true ∧ 2 ≤ s.rgnKind i) ∧
    (∃ (s : Machine.State) (ch : Fin 4) (off : BitVec 20) (len : Nat), s.link.d3 = false ∧ s.get (Reg.HL_BULK.MODE ↑ch) ≠ 0 ∧ s.get (Reg.HL_BULK.TARGET ↑ch) = 0 ∧ s.bulkBase (↑ch) off.toNat + len ≤ pmSize) :=
  ⟨⟨st [(Reg.HL_BULK.MODE 3, 2), (Reg.HL_BULK.PTR 3, pmSize - 1)], 3, 0, [some 0], by decide +kernel, by decide +kernel, by decide +kernel, by decide +kernel, by decide +kernel, by decide +kernel⟩,
   ⟨{ siteSt Mode.RUN 63 Site.RUNNING [(Reg.HL_BULK.MODE 3, 2), (Reg.PM_RGN.VALID 255, 1), (Reg.PM_RGN.KIND 255, 3), (Reg.PM_RGN.SIZE 255, 1), (Reg.LG_OVF.EN, 1)] with gap := false }, 3, 4095, [some 0], 255, by decide +kernel, by decide +kernel, by decide +kernel, by decide +kernel, by decide +kernel, by decide +kernel, by decide +kernel, by decide +kernel⟩,
   ⟨st [(Reg.HL_BULK.MODE 3, 1), (Reg.HL_BULK.PTR 3, pmSize)], 3, 0, 0, by decide +kernel, by decide +kernel, by decide +kernel, by decide +kernel⟩⟩

/-- The word of a statement (R182). -/
def stmtBits (i : Stmt) : Nat := i.op * 2 ^ 120 + i.xd * 2 ^ 115 + i.xa * 2 ^ 110 + i.xb * 2 ^ 105 + i.aux * 2 ^ 64 + i.imm
/-- Site 63 runs, and the statement `i` stands at its PC in a program region. -/
def runs (i : Stmt) (l : List (Fld × Nat)) : State :=
  (siteSt Mode.RUN 63 Site.RUNNING ([(Reg.LX_ENT.VALID i.op, 1), (Reg.PM_RGN.VALID 0, 1), (Reg.PM_RGN.KIND 0, 1), (Reg.PM_RGN.SIZE 0, 1)] ++ l)).setBytes 0
    ((List.range 16).map (fun k => BitVec.ofNat 8 (stmtBits i / 2 ^ (8 * k))))
/-- Site 63 runs, and its sequencer is `q`. -/
def seqSt (q : Seq) : State := (siteSt Mode.RUN 63 Site.RUNNING []).setSeq 63 q
/-- Site 63 waits. -/
def waits (w : Wait) : State := seqSt { Seq.init with wait := w }
/-- Site 63 executes a verb whose command is `c`. -/
def ext (c : ExtCmd) : Seq := { Seq.init with verb := { Verb.init with running := true, cmd := some c } }
/-- Site 63 executes the microword `w`; `v` is its verb. -/
def micro (w : MicroWord) (v : Verb) : State := { seqSt { Seq.init with verb := { v with running := true } } with cs := [(0, w)] }
/-- The row of a statement. -/
def StmtRow (n : Fin 64) (c : Instr) : Prop := c ∈
  [.stmtNop n, .stmtEnd n, .stmtJmp n, .stmtBr n, .stmtBrs n, .stmtCall n, .stmtRet n, .stmtLoop n, .stmtHold n, .stmtLdi n, .stmtAdd n, .stmtSub n,
   .stmtAnd n, .stmtOr n, .stmtXor n, .stmtShl n, .stmtShr n, .stmtSar n, .stmtLdp n, .stmtRdw n, .stmtNow n, .stmtWaitb n, .stmtWaitf n, .stmtWaitp n,
   .stmtClo n, .stmtCla n, .stmtClt n, .stmtClc n, .stmtCld n, .stmtPlay n, .stmtMeas n, .stmtTmeas n, .stmtLtest n, .stmtRec n, .stmtBin n, .stmtAcc n,
   .customerOpcode n, .reservedOpcode n]
/-- No slot is FREE. -/
def noSlot : List (Fld × Nat) := (List.range 16).map (fun k => (Reg.CL_SLOT_STAT.STATE k, 4))

/-- Premises of ArithmeticAndBranches, clause by clause. -/
theorem wit_ArithmeticAndBranches :
    (∃ (i : Stmt), i.xb = 0) ∧
    (∃ (s : Machine.State) (n : Fin 64) (i : Stmt), s.Issues (↑n) i ∧ i.op = 17) ∧
    (∃ (s : Machine.State) (n : Fin 64) (i : Stmt), s.Issues (↑n) i ∧ i.op = 18) ∧
    (∃ (s : Machine.State) (n : Fin 64) (i : Stmt), s.Issues (↑n) i ∧ i.op = 19) ∧
    (∃ (s : Machine.State) (n : Fin 64) (i : Stmt), s.Issues (↑n) i ∧ i.op = 20) ∧
    (∃ (s : Machine.State) (n : Fin 64) (i : Stmt), s.Issues (↑n) i ∧ i.op = 21) ∧
    (∃ (s : Machine.State) (n : Fin 64) (i : Stmt), s.Issues (↑n) i ∧ i.op = 22) ∧
    (∃ (s : Machine.State) (n : Fin 64) (i : Stmt), s.Issues (↑n) i ∧ i.op = 23) ∧
    (∃ (s : Machine.State) (n : Fin 64) (i : Stmt), s.Issues (↑n) i ∧ i.op = 24) ∧
    (∃ (s : Machine.State) (n : Fin 64) (i : Stmt), s.Issues (↑n) i ∧ i.op = 3 ∧ i.cc = 0) ∧
    (∃ (s : Machine.State) (n : Fin 64) (i : Stmt), s.Issues (↑n) i ∧ i.op = 3 ∧ i.cc = 1) ∧
    (∃ (s : Machine.State) (n : Fin 64) (i : Stmt), s.Issues (↑n) i ∧ i.op = 3 ∧ i.cc = 2) ∧
    (∃ (s : Machine.State) (n : Fin 64) (i : Stmt), s.Issues (↑n) i ∧ i.op = 3 ∧ i.cc = 3) ∧
    (∃ (s : Machine.State) (n : Fin 64) (i : Stmt), s.Issues (↑n) i ∧ i.op = 3 ∧ i.cc = 4) ∧
    (∃ (s : Machine.State) (n : Fin 64) (i : Stmt), s.Issues (↑n) i ∧ i.op = 3 ∧ i.cc = 5) ∧
    (∃ (s : Machine.State) (n : Fin 64) (i : Stmt), s.Issues (↑n) i ∧ i.op = 3 ∧ i.cc = 6) ∧
    (∃ (s : Machine.State) (n : Fin 64) (i : Stmt), s.Issues (↑n) i ∧ i.op = 3 ∧ i.cc = 7) ∧
    (∃ (s : Machine.State) (n : Fin 64) (i : Stmt), s.Issues (↑n) i ∧ i.op = 3 ∧ i.cc = 8) ∧
    (∃ (s : Machine.State) (n : Fin 64) (i : Stmt), s.Issues (↑n) i ∧ i.op = 3 ∧ 9 ≤ i.cc) :=
  ⟨⟨⟨17, 1, 2, 0, 0, 2 ^ 64 - 1⟩, by decide +kernel⟩,
   ⟨runs ⟨17, 31, 1, 2, 0, 2 ^ 64 - 1⟩ [], 63, ⟨17, 31, 1, 2, 0, 2 ^ 64 - 1⟩, by unfold State.Issues; decide +kernel, by decide +kernel⟩,
   ⟨runs ⟨18, 31, 1, 2, 0, 2 ^ 64 - 1⟩ [], 63, ⟨18, 31, 1, 2, 0, 2 ^ 64 - 1⟩, by unfold State.Issues; decide +kernel, by decide +kernel⟩,
   ⟨runs ⟨19, 31, 1, 2, 0, 2 ^ 64 - 1⟩ [], 63, ⟨19, 31, 1, 2, 0, 2 ^ 64 - 1⟩, by unfold State.Issues; decide +kernel, by decide +kernel⟩,
   ⟨runs ⟨20, 31, 1, 2, 0, 2 ^ 64 - 1⟩ [], 63, ⟨20, 31, 1, 2, 0, 2 ^ 64 - 1⟩, by unfold State.Issues; decide +kernel, by decide +kernel⟩,
   ⟨runs ⟨21, 31, 1, 2, 0, 2 ^ 64 - 1⟩ [], 63, ⟨21, 31, 1, 2, 0, 2 ^ 64 - 1⟩, by unfold State.Issues; decide +kernel, by decide +kernel⟩,
   ⟨runs ⟨22, 31, 1, 2, 0, 2 ^ 64 - 1⟩ [], 63, ⟨22, 31, 1, 2, 0, 2 ^ 64 - 1⟩, by unfold State.Issues; decide +kernel, by decide +kernel⟩,
   ⟨runs ⟨23, 31, 1, 2, 0, 2 ^ 64 - 1⟩ [], 63, ⟨23, 31, 1, 2, 0, 2 ^ 64 - 1⟩, by unfold State.Issues; decide +kernel, by decide +kernel⟩,
   ⟨runs ⟨24, 31, 1, 2, 0, 2 ^ 64 - 1⟩ [], 63, ⟨24, 31, 1, 2, 0, 2 ^ 64 - 1⟩, by unfold State.Issues; decide +kernel, by decide +kernel⟩,
   ⟨runs ⟨3, 1, 1, 2, 0 * 2 ^ 20 + 2 ^ 20 - 1, 0⟩ [], 63, ⟨3, 1, 1, 2, 0 * 2 ^ 20 + 2 ^ 20 - 1, 0⟩, by unfold State.Issues; decide +kernel, by decide +kernel, by decide +kernel⟩,
   ⟨runs ⟨3, 1, 1, 2, 1 * 2 ^ 20 + 2 ^ 20 - 1, 0⟩ [], 63, ⟨3, 1, 1, 2, 1 * 2 ^ 20 + 2 ^ 20 - 1, 0⟩, by unfold State.Issues; decide +kernel, by decide +kernel, by decide +kernel⟩,
   ⟨runs ⟨3, 1, 1, 2, 2 * 2 ^ 20 + 2 ^ 20 - 1, 0⟩ [], 63, ⟨3, 1, 1, 2, 2 * 2 ^ 20 + 2 ^ 20 - 1, 0⟩, by unfold State.Issues; decide +kernel, by decide +kernel, by decide +kernel⟩,
   ⟨runs ⟨3, 1, 1, 2, 3 * 2 ^ 20 + 2 ^ 20 - 1, 0⟩ [], 63, ⟨3, 1, 1, 2, 3 * 2 ^ 20 + 2 ^ 20 - 1, 0⟩, by unfold State.Issues; decide +kernel, by decide +kernel, by decide +kernel⟩,
   ⟨runs ⟨3, 1, 1, 2, 4 * 2 ^ 20 + 2 ^ 20 - 1, 0⟩ [], 63, ⟨3, 1, 1, 2, 4 * 2 ^ 20 + 2 ^ 20 - 1, 0⟩, by unfold State.Issues; decide +kernel, by decide +kernel, by decide +kernel⟩,
   ⟨runs ⟨3, 1, 1, 2, 5 * 2 ^ 20 + 2 ^ 20 - 1, 0⟩ [], 63, ⟨3, 1, 1, 2, 5 * 2 ^ 20 + 2 ^ 20 - 1, 0⟩, by unfold State.Issues; decide +kernel, by decide +kernel, by decide +kernel⟩,
   ⟨runs ⟨3, 1, 1, 2, 6 * 2 ^ 20 + 2 ^ 20 - 1, 0⟩ [], 63, ⟨3, 1, 1, 2, 6 * 2 ^ 20 + 2 ^ 20 - 1, 0⟩, by unfold State.Issues; decide +kernel, by decide +kernel, by decide +kernel⟩,
   ⟨runs ⟨3, 1, 1, 2, 7 * 2 ^ 20 + 2 ^ 20 - 1, 0⟩ [], 63, ⟨3, 1, 1, 2, 7 * 2 ^ 20 + 2 ^ 20 - 1, 0⟩, by unfold State.Issues; decide +kernel, by decide +kernel, by decide +kernel⟩,
   ⟨runs ⟨3, 1, 1, 2, 8 * 2 ^ 20 + 2 ^ 20 - 1, 0⟩ [], 63, ⟨3, 1, 1, 2, 8 * 2 ^ 20 + 2 ^ 20 - 1, 0⟩, by unfold State.Issues; decide +kernel, by decide +kernel, by decide +kernel⟩,
   ⟨runs ⟨3, 1, 1, 2, 9 * 2 ^ 20, 0⟩ [], 63, ⟨3, 1, 1, 2, 9 * 2 ^ 20, 0⟩, by unfold State.Issues; decide +kernel, by decide +kernel, by decide +kernel⟩⟩

/-- Premises of FlowStatements, clause by clause. -/
theorem wit_FlowStatements :
    (∃ (s : Machine.State) (n : Fin 64) (i : Stmt), s.Issues (↑n) i ∧ i.op = 0) ∧
    (∃ (s : Machine.State) (n : Fin 64) (i : Stmt), s.Issues (↑n) i ∧ i.op = 2) ∧
    (∃ (s : Machine.State) (n : Fin 64) (i : Stmt), s.Issues (↑n) i ∧ i.op = 4 ∧ i.cc ≤ 1) ∧
    (∃ (s : Machine.State) (n : Fin 64) (i : Stmt), s.Issues (↑n) i ∧ i.op = 4 ∧ 2 ≤ i.cc) ∧
    (∃ (s : Machine.State) (n : Fin 64) (i : Stmt), s.Issues (↑n) i ∧ i.op = 5 ∧ (s.seq ↑n).stack.length < 16) ∧
    (∃ (s : Machine.State) (n : Fin 64) (i : Stmt), s.Issues (↑n) i ∧ i.op = 5 ∧ 16 ≤ (s.seq ↑n).stack.length) ∧
    (∃ (s : Machine.State) (n : Fin 64) (i : Stmt) (p : Nat) (ps : List Nat), s.Issues (↑n) i ∧ i.op = 6 ∧ (s.seq ↑n).stack = p :: ps ∧ ps.length < 16) ∧
    (∃ (s : Machine.State) (n : Fin 64) (i : Stmt), s.Issues (↑n) i ∧ i.op = 6 ∧ (s.seq ↑n).stack = []) ∧
    (∃ (s : Machine.State) (n : Fin 64) (i : Stmt), s.Issues (↑n) i ∧ i.op = 7) ∧
    (∃ (s : Machine.State) (n : Fin 64) (i : Stmt), s.Issues (↑n) i ∧ i.op = 8) :=
  ⟨⟨runs ⟨0, 1, 0, 0, 0, 0⟩ [], 63, ⟨0, 1, 0, 0, 0, 0⟩, by unfold State.Issues; decide +kernel, by decide +kernel⟩,
   ⟨runs ⟨2, 1, 0, 0, 0, 0⟩ [], 63, ⟨2, 1, 0, 0, 0, 0⟩, by unfold State.Issues; decide +kernel, by decide +kernel⟩,
   ⟨runs ⟨4, 1, 0, 0, 2 ^ 20, 0⟩ [], 63, ⟨4, 1, 0, 0, 2 ^ 20, 0⟩, by unfold State.Issues; decide +kernel, by decide +kernel, by decide +kernel⟩,
   ⟨runs ⟨4, 1, 0, 0, 2 * 2 ^ 20, 0⟩ [], 63, ⟨4, 1, 0, 0, 2 * 2 ^ 20, 0⟩, by unfold State.Issues; decide +kernel, by decide +kernel, by decide +kernel⟩,
   ⟨(runs ⟨5, 1, 0, 0, 0, 0⟩ []).setSeq 63 { Seq.init with stack := List.replicate 15 1 }, 63, ⟨5, 1, 0, 0, 0, 0⟩, by unfold State.Issues; decide +kernel, by decide +kernel, by decide +kernel⟩,
   ⟨(runs ⟨5, 1, 0, 0, 0, 0⟩ []).setSeq 63 { Seq.init with stack := List.replicate 16 1 }, 63, ⟨5, 1, 0, 0, 0, 0⟩, by unfold State.Issues; decide +kernel, by decide +kernel, by decide +kernel⟩,
   ⟨(runs ⟨6, 1, 0, 0, 0, 0⟩ []).setSeq 63 { Seq.init with stack := List.replicate 16 1 }, 63, ⟨6, 1, 0, 0, 0, 0⟩, 1, List.replicate 15 1, by unfold State.Issues; decide +kernel, by decide +kernel, by decide +kernel, by decide +kernel⟩,
   ⟨runs ⟨6, 1, 0, 0, 0, 0⟩ [], 63, ⟨6, 1, 0, 0, 0, 0⟩, by unfold State.Issues; decide +kernel, by decide +kernel, by decide +kernel⟩,
   ⟨runs ⟨7, 1, 0, 0, 0, 0⟩ [], 63, ⟨7, 1, 0, 0, 0, 0⟩, by unfold State.Issues; decide +kernel, by decide +kernel⟩,
   ⟨runs ⟨8, 1, 0, 0, 0, 0⟩ [], 63, ⟨8, 1, 0, 0, 0, 0⟩, by unfold State.Issues; decide +kernel, by decide +kernel⟩⟩

/-- Premises of DataStatements, clause by clause. -/
theorem wit_DataStatements :
    (∃ (s : Machine.State) (n : Fin 64) (i : Stmt), s.Issues (↑n) i ∧ i.op = 16) ∧
    (∃ (s : Machine.State) (n : Fin 64) (i : Stmt), s.Issues (↑n) i ∧ i.op = 25 ∧ s.progBad (↑n) (s.stmtAddr (↑n) ((BitVec.toNat (s.getX (↑n) i.xa) + i.imm) % 2 ^ 20)) 16 = none) ∧
    (∃ (s : Machine.State) (n : Fin 64) (i : Stmt), s.Issues (↑n) i ∧ i.op = 25 ∧ s.progBad (↑n) (s.stmtAddr (↑n) ((BitVec.toNat (s.getX (↑n) i.xa) + i.imm) % 2 ^ 20)) 16 = some (Reason.REGION, Reason.REGION)) ∧
    (∃ (s : Machine.State) (n : Fin 64) (i : Stmt), s.Issues (↑n) i ∧ i.op = 26) ∧
    (∃ (s : Machine.State) (n : Fin 64) (i : Stmt), s.Issues (↑n) i ∧ i.op = 27) ∧
    (∃ (s : Machine.State) (n : Fin 64) (i : Stmt), s.Issues (↑n) i ∧ i.op = 96 ∧ recKind (i.aux % 16) = true) ∧
    (∃ (s : Machine.State) (n : Fin 64) (i : Stmt), s.Issues (↑n) i ∧ i.op = 96 ∧ recKind (i.aux % 16) = false) ∧
    (∃ (s : Machine.State) (n : Fin 64) (i : Stmt), s.Issues (↑n) i ∧ i.op = 97) ∧
    (∃ (s : Machine.State) (n : Fin 64) (i : Stmt), s.Issues (↑n) i ∧ i.op = 98) :=
  ⟨⟨runs ⟨16, 1, 0, 0, 0, 0⟩ [], 63, ⟨16, 1, 0, 0, 0, 0⟩, by unfold State.Issues; decide +kernel, by decide +kernel⟩,
   ⟨runs ⟨25, 1, 0, 0, 0, 255⟩ [], 63, ⟨25, 1, 0, 0, 0, 255⟩, by unfold State.Issues; decide +kernel, by decide +kernel, by decide +kernel⟩,
   ⟨runs ⟨25, 1, 0, 0, 0, 256⟩ [], 63, ⟨25, 1, 0, 0, 0, 256⟩, by unfold State.Issues; decide +kernel, by decide +kernel, by decide +kernel⟩,
   ⟨runs ⟨26, 1, 0, 0, 0, 0⟩ [], 63, ⟨26, 1, 0, 0, 0, 0⟩, by unfold State.Issues; decide +kernel, by decide +kernel⟩,
   ⟨runs ⟨27, 1, 0, 0, 0, 0⟩ [], 63, ⟨27, 1, 0, 0, 0, 0⟩, by unfold State.Issues; decide +kernel, by decide +kernel⟩,
   ⟨runs ⟨96, 1, 0, 0, 10, 0⟩ [], 63, ⟨96, 1, 0, 0, 10, 0⟩, by unfold State.Issues; decide +kernel, by decide +kernel, by decide +kernel⟩,
   ⟨runs ⟨96, 1, 0, 0, 9, 0⟩ [], 63, ⟨96, 1, 0, 0, 9, 0⟩, by unfold State.Issues; decide +kernel, by decide +kernel, by decide +kernel⟩,
   ⟨runs ⟨97, 1, 0, 0, 0, 0⟩ [], 63, ⟨97, 1, 0, 0, 0, 0⟩, by unfold State.Issues; decide +kernel, by decide +kernel⟩,
   ⟨runs ⟨98, 1, 0, 0, 0, 0⟩ [], 63, ⟨98, 1, 0, 0, 0, 0⟩, by unfold State.Issues; decide +kernel, by decide +kernel⟩⟩

/-- Premises of WaitStatements, clause by clause. -/
theorem wit_WaitStatements :
    (∃ (s : Machine.State) (n : Fin 64) (i : Stmt), s.Issues (↑n) i ∧ i.op = 32) ∧
    (∃ (s : Machine.State) (n : Fin 64) (g : Nat), (s.seq ↑n).wait = Wait.beat g ∧ s.canEnd ↑n = true ∧ (s.seq ↑n).verb.running = false ∧ g ≤ s.now) ∧
    (∃ (s : Machine.State) (n : Fin 64) (i : Stmt), s.Issues (↑n) i ∧ i.op = 33 ∧ s.flag (Reg.TB_FOLLOW_CFG.EN ↑n) = false) ∧
    (∃ (s : Machine.State) (n : Fin 64) (i : Stmt), s.Issues (↑n) i ∧ i.op = 33 ∧ s.flag (Reg.TB_FOLLOW_CFG.EN ↑n) = true ∧ 2 ^ 47 ≤ (s.get (Reg.TB_FOLLOW_CNT.COUNT ↑n) + 2 ^ 48 - BitVec.toNat (s.getX (↑n) i.xa) % 2 ^ 48) % 2 ^ 48) ∧
    (∃ (s : Machine.State) (n : Fin 64) (i : Stmt), s.Issues (↑n) i ∧ i.op = 33 ∧ s.flag (Reg.TB_FOLLOW_CFG.EN ↑n) = true ∧ s.get (Reg.TB_FOLLOW_CNT.COUNT ↑n) = BitVec.toNat (s.getX (↑n) i.xa) % 2 ^ 48) ∧
    (∃ (s : Machine.State) (n : Fin 64) (xd : Nat) (g : Nat) (d : Nat), xd < 32 ∧ (s.seq ↑n).wait = Wait.follow xd g d none ∧ s.canEnd ↑n = true ∧ (s.seq ↑n).verb.running = false ∧ 0 < d ∧ d ≤ s.now) ∧
    (∃ (s : Machine.State) (n : Fin 64) (i : Stmt), s.Issues (↑n) i ∧ i.op = 34) ∧
    (∃ (s : Machine.State) (n : Fin 64) (xd : Nat) (d : Nat) (rec : Bool), xd < 32 ∧ (s.seq ↑n).wait = Wait.pattern xd d rec ∧ s.canEnd ↑n = true ∧ (s.seq ↑n).verb.running = false ∧ s.patternHolds ↑n = true) ∧
    (∃ (s : Machine.State) (n : Fin 64) (xd : Nat) (d : Nat) (rec : Bool), xd < 32 ∧ (s.seq ↑n).wait = Wait.pattern xd d rec ∧ s.canEnd ↑n = true ∧ (s.seq ↑n).verb.running = false ∧ s.patternHolds ↑n = false ∧ 0 < d ∧ d ≤ s.now) ∧
    (∃ (s : Machine.State) (n : Fin 64) (i : Stmt), s.Issues (↑n) i ∧ i.op = 1 ∧ (s.seq ↑n).clause = none) ∧
    (∃ (s : Machine.State) (n : Fin 64), (s.seq ↑n).wait = Wait.finish ∧ s.siteState ↑n = Site.RUNNING ∧ s.flag (Reg.SQ_STAT.STOPPING ↑n) = false ∧ (s.seq ↑n).suspended = false ∧ s.patternHolds ↑n = true ∧ s.streamOf ↑n < 80 ∧ (∀ p ∈ s.pmuMeas, p.2.owner ≠ some ↑n) ∧ (∀ p ∈ s.tdcs, p.2.owner ≠ some ↑n)) :=
  ⟨⟨runs ⟨32, 1, 0, 0, 0, 0⟩ [], 63, ⟨32, 1, 0, 0, 0, 0⟩, by unfold State.Issues; decide +kernel, by decide +kernel⟩,
   ⟨waits (.beat 0), 63, 0, by decide +kernel, by decide +kernel, by decide +kernel, by decide +kernel⟩,
   ⟨runs ⟨33, 1, 0, 0, 0, 0⟩ [], 63, ⟨33, 1, 0, 0, 0, 0⟩, by unfold State.Issues; decide +kernel, by decide +kernel, by decide +kernel⟩,
   ⟨runs ⟨33, 1, 1, 0, 0, 0⟩ [(Reg.TB_FOLLOW_CFG.EN 63, 1), (Reg.SQ_XREG.VALUE 63 1, 2 ^ 47)], 63, ⟨33, 1, 1, 0, 0, 0⟩, by unfold State.Issues; decide +kernel, by decide +kernel, by decide +kernel, by decide +kernel⟩,
   ⟨runs ⟨33, 1, 0, 0, 0, 0⟩ [(Reg.TB_FOLLOW_CFG.EN 63, 1)], 63, ⟨33, 1, 0, 0, 0, 0⟩, by unfold State.Issues; decide +kernel, by decide +kernel, by decide +kernel, by decide +kernel⟩,
   ⟨{ waits (.follow 31 0 1 none) with beat := 1 }, 63, 31, 0, 1, by decide +kernel, by decide +kernel, by decide +kernel, by decide +kernel, by decide +kernel, by decide +kernel⟩,
   ⟨runs ⟨34, 1, 0, 0, 0, 0⟩ [], 63, ⟨34, 1, 0, 0, 0, 0⟩, by unfold State.Issues; decide +kernel, by decide +kernel⟩,
   ⟨waits (.pattern 31 0 false), 63, 31, 0, false, by decide +kernel, by decide +kernel, by decide +kernel, by decide +kernel, by decide +kernel⟩,
   ⟨{ (waits (.pattern 31 1 false)).set (Reg.SO_SITE_STAT.IN_STREAM 63) 1 with beat := 1 }, 63, 31, 1, false, by decide +kernel, by decide +kernel, by decide +kernel, by decide +kernel, by decide +kernel, by decide +kernel, by decide +kernel⟩,
   ⟨runs ⟨1, 1, 0, 0, 0, 0⟩ [], 63, ⟨1, 1, 0, 0, 0, 0⟩, by unfold State.Issues; decide +kernel, by decide +kernel, by decide +kernel⟩,
   ⟨waits .finish, 63, by decide +kernel, by decide +kernel, by decide +kernel, by decide +kernel, by decide +kernel, by decide +kernel, by decide +kernel, by decide +kernel⟩⟩

/-- Premises of ClauseStatements, clause by clause. -/
theorem wit_ClauseStatements :
    (∃ (s : Machine.State) (n : Fin 64) (i : Stmt), s.Issues (↑n) i ∧ i.op = 48 ∧ (s.seq ↑n).clause ≠ none) ∧
    (∃ (s : Machine.State) (n : Fin 64) (i : Stmt), s.Issues (↑n) i ∧ i.op = 49 ∧ (s.seq ↑n).clause = none) ∧
    (∃ (s : Machine.State) (n : Fin 64) (i : Stmt), s.Issues (↑n) i ∧ i.op = 50 ∧ ((s.seq ↑n).clause = none ∨ i.aux % 2 ^ 13 = 0 ∨ 4096 < i.aux % 2 ^ 13)) ∧
    (∃ (s : Machine.State) (n : Fin 64) (i : Stmt), s.Issues (↑n) i ∧ i.op = 51 ∧ (s.seq ↑n).clause = none) ∧
    (∃ (s : Machine.State) (n : Fin 64) (i : Stmt), s.Issues (↑n) i ∧ i.op = 52 ∧ (s.seq ↑n).clause = none) ∧
    (∃ (s : Machine.State) (n : Fin 64) (i : Stmt) (k : Nat), s.Issues (↑n) i ∧ i.op = 48 ∧ (s.seq ↑n).clause = none ∧ s.freeSlotIndex = some k) ∧
    (∃ (s : Machine.State) (n : Fin 64) (i : Stmt), s.Issues (↑n) i ∧ i.op = 48 ∧ (s.seq ↑n).clause = none ∧ s.freeSlotIndex = none) ∧
    (∃ (s : Machine.State) (n : Fin 64) (k : Nat), (s.seq ↑n).wait = Wait.clo ∧ (s.seq ↑n).verb.running = false ∧ s.canEnd ↑n = true ∧ s.freeSlotIndex = some k) ∧
    (∃ (s : Machine.State) (n : Fin 64) (i : Stmt) (k : Fin 16), s.Issues (↑n) i ∧ i.op = 49 ∧ (s.seq ↑n).clause = some ↑k) ∧
    (∃ (s : Machine.State) (n : Fin 64) (i : Stmt) (k : Fin 16), s.Issues (↑n) i ∧ i.op = 50 ∧ (s.seq ↑n).clause = some ↑k ∧ s.tableBad (↑n) (i.imm % 2 ^ 20) (i.aux % 2 ^ 13) = none) ∧
    (∃ (s : Machine.State) (n : Fin 64) (i : Stmt) (k : Fin 16), s.Issues (↑n) i ∧ i.op = 51 ∧ (s.seq ↑n).clause = some ↑k ∧ ((((s.began (↑n) 51).set (Reg.CL_SET.FULL_STOP ↑k)  (if bitOf i.aux 0 = true then BitVec.toNat (s.getX (↑n) i.xa) / 2 ^ 16 % 2 ^ 64  else s.now + i.imm % 2 ^ 32)).set (Reg.CL_SET.TAG ↑k) (i.imm / 2 ^ 32 % 2 ^ 16)).set (Reg.CL_SET.MULTI ↑k) (b2n (bitOf i.aux 1))).request ↑k = Request.ok) ∧
    (∃ (s : Machine.State) (n : Fin 64) (xd : Nat) (k : Nat) (fs : Nat) (r : Nat), xd < 32 ∧ (s.seq ↑n).wait = Wait.clc xd k fs (some r) ∧ s.canEnd ↑n = true ∧ (s.seq ↑n).verb.running = false) ∧
    (∃ (s : Machine.State) (n : Fin 64) (i : Stmt) (k : Fin 16), s.Issues (↑n) i ∧ i.op = 52 ∧ (s.seq ↑n).clause = some ↑k ∧ s.slotOwner ↑k = some ↑n) :=
  ⟨⟨(runs ⟨48, 1, 0, 0, 0, 0⟩ []).setSeq 63 { Seq.init with clause := some 15 }, 63, ⟨48, 1, 0, 0, 0, 0⟩, by unfold State.Issues; decide +kernel, by decide +kernel, by decide +kernel⟩,
   ⟨runs ⟨49, 1, 0, 0, 0, 0⟩ [], 63, ⟨49, 1, 0, 0, 0, 0⟩, by unfold State.Issues; decide +kernel, by decide +kernel, by decide +kernel⟩,
   ⟨(runs ⟨50, 1, 0, 0, 0, 0⟩ []).setSeq 63 { Seq.init with clause := some 15 }, 63, ⟨50, 1, 0, 0, 0, 0⟩, by unfold State.Issues; decide +kernel, by decide +kernel, by decide +kernel⟩,
   ⟨runs ⟨51, 1, 0, 0, 0, 0⟩ [], 63, ⟨51, 1, 0, 0, 0, 0⟩, by unfold State.Issues; decide +kernel, by decide +kernel, by decide +kernel⟩,
   ⟨runs ⟨52, 1, 0, 0, 0, 0⟩ [], 63, ⟨52, 1, 0, 0, 0, 0⟩, by unfold State.Issues; decide +kernel, by decide +kernel, by decide +kernel⟩,
   ⟨runs ⟨48, 1, 0, 0, 0, 0⟩ [], 63, ⟨48, 1, 0, 0, 0, 0⟩, 0, by unfold State.Issues; decide +kernel, by decide +kernel, by decide +kernel, by decide +kernel⟩,
   ⟨runs ⟨48, 1, 0, 0, 0, 0⟩ noSlot, 63, ⟨48, 1, 0, 0, 0, 0⟩, by unfold State.Issues; decide +kernel, by decide +kernel, by decide +kernel, by decide +kernel⟩,
   ⟨waits .clo, 63, 0, by decide +kernel, by decide +kernel, by decide +kernel, by decide +kernel⟩,
   ⟨(runs ⟨49, 1, 0, 0, 0, 0⟩ [(Reg.CL_SLOT_STAT.STATE 15, 1), (Reg.CL_SLOT_STAT.SEQ 15, 1), (Reg.CL_SLOT_STAT.SITE 15, 63), (Reg.TB_STAT.CNT_VALID, 1)]).setSeq 63 { Seq.init with clause := some 15 }, 63, ⟨49, 1, 0, 0, 0, 0⟩, 15, by unfold State.Issues; decide +kernel, by decide +kernel, by decide +kernel⟩,
   ⟨(runs ⟨50, 1, 0, 0, 85, 0⟩ [(Reg.CL_SLOT_STAT.STATE 15, 1), (Reg.CL_SLOT_STAT.SEQ 15, 1), (Reg.CL_SLOT_STAT.SITE 15, 63), (Reg.TB_STAT.CNT_VALID, 1)]).setSeq 63 { Seq.init with clause := some 15 }, 63, ⟨50, 1, 0, 0, 85, 0⟩, 15, by unfold State.Issues; decide +kernel, by decide +kernel, by decide +kernel, by decide +kernel⟩,
   ⟨(runs ⟨51, 1, 0, 0, 0, 64⟩ [(Reg.CL_SLOT_STAT.STATE 15, 1), (Reg.CL_SLOT_STAT.SEQ 15, 1), (Reg.CL_SLOT_STAT.SITE 15, 63), (Reg.TB_STAT.CNT_VALID, 1)]).setSeq 63 { Seq.init with clause := some 15 }, 63, ⟨51, 1, 0, 0, 0, 64⟩, 15, by unfold State.Issues; decide +kernel, by decide +kernel, by decide +kernel, by decide +kernel⟩,
   ⟨waits (.clc 31 15 0 (some 3)), 63, 31, 15, 0, 3, by decide +kernel, by decide +kernel, by decide +kernel, by decide +kernel⟩,
   ⟨(runs ⟨52, 1, 0, 0, 0, 0⟩ [(Reg.CL_SLOT_STAT.STATE 15, 1), (Reg.CL_SLOT_STAT.SEQ 15, 1), (Reg.CL_SLOT_STAT.SITE 15, 63), (Reg.TB_STAT.CNT_VALID, 1)]).setSeq 63 { Seq.init with clause := some 15 }, 63, ⟨52, 1, 0, 0, 0, 0⟩, 15, by unfold State.Issues; decide +kernel, by decide +kernel, by decide +kernel, by decide +kernel⟩⟩

/-- Premises of MeasuringStatements, clause by clause. -/
theorem wit_MeasuringStatements :
    (∃ (s : Machine.State) (n : Fin 64) (i : Stmt), s.Issues (↑n) i ∧ i.op = 64 ∧ s.streamState (s.streamOf ↑n) = Str.IDLE ∧ (∀ e ∈ (s.stream (s.streamOf ↑n)).gather, e.site ≠ ↑n) ∧ (bitOf i.aux 1 = true → s.groupOf ↑n ≠ none) ∧ (bitOf i.aux 1 = false → i.imm % 32 = 0) ∧ (bitOf i.aux 0 = true → s.now + 32 ≤ BitVec.toNat (s.getX (↑n) i.xa) % 2 ^ 80 / 65536)) ∧
    (∃ (s : Machine.State) (n : Fin 64) (i : Stmt), s.Issues (↑n) i ∧ i.op = 64 ∧ (s.streamState (s.streamOf ↑n) ≠ Str.IDLE ∨ bitOf i.aux 1 = false ∧ i.imm % 32 ≠ 0 ∨ bitOf i.aux 0 = true ∧ BitVec.toNat (s.getX (↑n) i.xa) % 2 ^ 80 / 65536 < s.now + 32)) ∧
    (∃ (s : Machine.State) (n : Fin 64) (i : Stmt), s.Issues (↑n) i ∧ i.op = 80 ∧ s.measBad ↑n { first := i.aux % 2 ^ 10, count := i.aux / 2 ^ 10 % 2 ^ 11, dps := bitOf i.aux 21, settle := i.imm / 2 ^ 16 % 2 ^ 32, samples := i.imm % 2 ^ 16, lo := (BitVec.extractLsb' 0 48 (s.getX (↑n) i.xa)).toInt, hi := (BitVec.extractLsb' 64 48 (s.getX (↑n) i.xa)).toInt } = false) ∧
    (∃ (s : Machine.State) (n : Fin 64) (i : Stmt), s.Issues (↑n) i ∧ i.op = 80 ∧ s.measBad ↑n { first := i.aux % 2 ^ 10, count := i.aux / 2 ^ 10 % 2 ^ 11, dps := bitOf i.aux 21, settle := i.imm / 2 ^ 16 % 2 ^ 32, samples := i.imm % 2 ^ 16, lo := (BitVec.extractLsb' 0 48 (s.getX (↑n) i.xa)).toInt, hi := (BitVec.extractLsb' 64 48 (s.getX (↑n) i.xa)).toInt } = true) ∧
    (∃ (s : Machine.State) (n : Fin 64) (i : Stmt), s.Issues (↑n) i ∧ i.op = 81 ∧ s.tmeasBad ↑n { first := i.aux % 2 ^ 10, count := i.aux / 2 ^ 10 % 2 ^ 11, dps := bitOf i.aux 21, settle := i.imm / 2 ^ 16 % 2 ^ 32, samples := i.imm % 2 ^ 16, lo := (BitVec.extractLsb' 0 48 (s.getX (↑n) i.xa)).toInt, hi := (BitVec.extractLsb' 64 48 (s.getX (↑n) i.xa)).toInt } = false) ∧
    (∃ (s : Machine.State) (n : Fin 64) (i : Stmt), s.Issues (↑n) i ∧ i.op = 81 ∧ s.tmeasBad ↑n { first := i.aux % 2 ^ 10, count := i.aux / 2 ^ 10 % 2 ^ 11, dps := bitOf i.aux 21, settle := i.imm / 2 ^ 16 % 2 ^ 32, samples := i.imm % 2 ^ 16, lo := (BitVec.extractLsb' 0 48 (s.getX (↑n) i.xa)).toInt, hi := (BitVec.extractLsb' 64 48 (s.getX (↑n) i.xa)).toInt } = true) ∧
    (∃ (s : Machine.State) (n : Fin 64) (i : Stmt), s.Issues (↑n) i ∧ i.op = 82 ∧ s.laneSite (i.aux % 32) = some ↑n ∧ s.laneState (i.aux % 32) = Ln.UP ∧ s.get (Reg.DL_RX.CHK_PAT (i.aux % 32)) ≠ 0) ∧
    (∃ (s : Machine.State) (n : Fin 64) (i : Stmt), s.Issues (↑n) i ∧ i.op = 82 ∧ (s.laneSite (i.aux % 32) ≠ some ↑n ∨ s.laneState (i.aux % 32) ≠ Ln.UP ∨ s.get (Reg.DL_RX.CHK_PAT (i.aux % 32)) = 0)) :=
  ⟨⟨runs ⟨64, 1, 1, 0, 1, 0⟩ [(Reg.SQ_XREG.VALUE 63 1, 32 * 65536)], 63, ⟨64, 1, 1, 0, 1, 0⟩, by unfold State.Issues; decide +kernel, by decide +kernel, by decide +kernel, by decide +kernel, by decide +kernel, by decide +kernel, by decide +kernel⟩,
   ⟨runs ⟨64, 1, 0, 0, 0, 31⟩ [], 63, ⟨64, 1, 0, 0, 0, 31⟩, by unfold State.Issues; decide +kernel, by decide +kernel, by decide +kernel⟩,
   ⟨runs ⟨80, 1, 0, 0, 1 + 1 * 2 ^ 10, 1⟩ [(Reg.CH_CTRL.OUT_ARM 6, 1), (Reg.CH_PMU.MODE 6, 1)], 63, ⟨80, 1, 0, 0, 1 + 1 * 2 ^ 10, 1⟩, by unfold State.Issues; decide +kernel, by decide +kernel, by decide +kernel⟩,
   ⟨runs ⟨80, 1, 0, 0, 1 + 2 * 2 ^ 10, 1⟩ [(Reg.CH_CTRL.OUT_ARM 6, 1), (Reg.CH_PMU.MODE 6, 1)], 63, ⟨80, 1, 0, 0, 1 + 2 * 2 ^ 10, 1⟩, by unfold State.Issues; decide +kernel, by decide +kernel, by decide +kernel⟩,
   ⟨runs ⟨81, 1, 0, 0, 1 + 1 * 2 ^ 10, 1⟩ [(Reg.TM_SRC.START 6, 6), (Reg.TM_SRC.STOP 6, 6)], 63, ⟨81, 1, 0, 0, 1 + 1 * 2 ^ 10, 1⟩, by unfold State.Issues; decide +kernel, by decide +kernel, by decide +kernel⟩,
   ⟨runs ⟨81, 1, 0, 0, 1 + 2 * 2 ^ 10, 1⟩ [], 63, ⟨81, 1, 0, 0, 1 + 2 * 2 ^ 10, 1⟩, by unfold State.Issues; decide +kernel, by decide +kernel, by decide +kernel⟩,
   ⟨runs ⟨82, 1, 0, 0, 0, 0⟩ [(Reg.DL_STAT.STATE 0, Ln.UP), (Reg.DL_RX.CHK_PAT 0, 1)], 63, ⟨82, 1, 0, 0, 0, 0⟩, by unfold State.Issues; decide +kernel, by decide +kernel, by decide +kernel, by decide +kernel, by decide +kernel⟩,
   ⟨runs ⟨82, 1, 0, 0, 0, 0⟩ [], 63, ⟨82, 1, 0, 0, 0, 0⟩, by unfold State.Issues; decide +kernel, by decide +kernel, by decide +kernel⟩⟩

/-- Premises of FetchAndOpcodeFaults, clause by clause. -/
theorem wit_FetchAndOpcodeFaults :
    (∃ (s : Machine.State) (n : Fin 64) (c : Instr), s.canIssue ↑n = true ∧ s.fetchBad ↑n = some (Reason.REGION, Reason.REGION) ∧ StmtRow n c) ∧
    (∃ (s : Machine.State) (n : Fin 64) (a : Nat) (c : Instr), s.canIssue ↑n = true ∧ s.fetchBad ↑n = some (Reason.UNCORR, a) ∧ StmtRow n c) ∧
    (∃ (s : Machine.State) (n : Fin 64), s.canIssue ↑n = true ∧ s.fetchBad ↑n = none ∧ ((Stmt.of (s.stmtWord ↑n)).op < 192 ∧ (Stmt.of (s.stmtWord ↑n)).op ∉ vendorOps ∨ s.opValid (Stmt.of (s.stmtWord ↑n)).op = false)) ∧
    (∃ (s : Machine.State) (n : Fin 64) (c : Instr), (s.siteState ↑n ≠ Site.RUNNING ∨ s.flag (Reg.SQ_STAT.STOPPING ↑n) = true ∨ (s.seq ↑n).wait ≠ Wait.none ∨ (s.seq ↑n).verb.running = true) ∧ StmtRow n c) :=
  ⟨⟨siteSt Mode.RUN 63 Site.RUNNING [], 63, .reservedOpcode 63, by decide +kernel, by decide +kernel, by unfold StmtRow; decide +kernel⟩,
   ⟨{ runs ⟨0, 0, 0, 0, 0, 0⟩ [] with uncorr := [0] }, 63, 0, .stmtNop 63, by decide +kernel, by decide +kernel, by unfold StmtRow; decide +kernel⟩,
   ⟨runs ⟨191, 0, 0, 0, 0, 0⟩ [], 63, by decide +kernel, by decide +kernel, by decide +kernel⟩,
   ⟨siteSt Mode.RUN 63 Site.HELD [], 63, .stmtNop 63, by decide +kernel, by unfold StmtRow; decide +kernel⟩⟩

/-- Premises of SiteCommands, clause by clause. -/
theorem wit_SiteCommands :
    (∃ (s : Machine.State) (n : Fin 64), s.mode ≠ Mode.RESET ∧ s.armRefusal ↑n = none) ∧
    (∃ (s : Machine.State) (n : Fin 64) (c : Nat), s.mode ≠ Mode.RESET ∧ s.armRefusal ↑n = some c) ∧
    (∃ (s : Machine.State) (n : Fin 64), s.mode ≠ Mode.RESET ∧ s.siteState ↑n = Site.ARMED ∧ s.clauseNames [Slot.PREPARED] ↑n = false ∧ s.NoUnits ↑n ∧ s.streamOf ↑n < 80) ∧
    (∃ (s : Machine.State) (n : Fin 64), s.mode ≠ Mode.RESET ∧ (s.siteState ↑n ≠ Site.ARMED ∨ s.clauseNames [Slot.PREPARED] ↑n = true)) ∧
    (∃ (s : Machine.State) (n : Fin 64), s.mode ≠ Mode.RESET ∧ (s.siteState ↑n = Site.RUNNING ∨ s.siteState ↑n = Site.HELD) ∧ s.NoUnits ↑n) ∧
    (∃ (s : Machine.State) (n : Fin 64), s.mode ≠ Mode.RESET ∧ s.siteState ↑n ≠ Site.RUNNING ∧ s.siteState ↑n ≠ Site.HELD) ∧
    (∃ (s : Machine.State) (n : Fin 64) (k : BitVec 10), s.mode ≠ Mode.RESET ∧ s.siteState ↑n = Site.HELD ∧ s.get (Reg.SQ_STAT.CAUSES ↑n) &&& (1023 ^^^ (if k = 0 then 1023 else k.toNat) &&& resumeMask) ≠ 0) ∧
    (∃ (s : Machine.State) (n : Fin 64) (k : BitVec 10), s.mode ≠ Mode.RESET ∧ s.siteState ↑n = Site.HELD ∧ s.get (Reg.SQ_STAT.CAUSES ↑n) &&& (1023 ^^^ (if k = 0 then 1023 else k.toNat) &&& resumeMask) = 0 ∧ s.get (Reg.SQ_STAT.TOKEN ↑n) = 0) ∧
    (∃ (s : Machine.State) (n : Fin 64), s.mode ≠ Mode.RESET ∧ s.siteLive ↑n = true ∧ s.flag (Reg.SQ_STAT.STOPPING ↑n) = false ∧ s.streamOf ↑n < 64 ∧ s.streamState (s.streamOf ↑n) = Str.PLAYING ∧ (s.seq ↑n).clause = none ∧ s.NoUnits ↑n) ∧
    (∃ (s : Machine.State) (n : Fin 64), s.mode ≠ Mode.RESET ∧ s.siteLive ↑n = false) ∧
    (∃ (s : Machine.State) (n : Fin 64), s.flag (Reg.SQ_STAT.STOPPING ↑n) = true ∧ s.stopped ↑n = true ∧ s.NoUnits ↑n ∧ s.streamOf ↑n < 80) :=
  ⟨⟨stIn Mode.RUN [(Reg.SQ_STAT.STATE 63, Site.LOADED), (Reg.LX_VEND.STATE, 2), (Reg.PM_RGN.VALID 0, 1), (Reg.PM_RGN.KIND 0, 1), (Reg.PM_RGN.SIZE 0, 1), (Reg.SO_STR_STAT.ALLOC 63, 1)], 63, by decide +kernel, by decide +kernel⟩,
   ⟨siteSt Mode.RUN 63 Site.EMPTY [], 63, Lc.SITE_STATE, by decide +kernel, by decide +kernel⟩,
   ⟨siteSt Mode.RUN 63 Site.ARMED [], 63, by decide +kernel, by decide +kernel, by decide +kernel, by unfold State.NoUnits; decide +kernel, by decide +kernel⟩,
   ⟨siteSt Mode.RUN 63 Site.LOADED [], 63, by decide +kernel, by decide +kernel⟩,
   ⟨siteSt Mode.RUN 63 Site.HELD [], 63, by decide +kernel, by decide +kernel, by unfold State.NoUnits; decide +kernel⟩,
   ⟨siteSt Mode.RUN 63 Site.ARMED [], 63, by decide +kernel, by decide +kernel, by decide +kernel⟩,
   ⟨siteSt Mode.RUN 63 Site.HELD [(Reg.SQ_STAT.CAUSES 63, 2 ^ 9)], 63, 0, by decide +kernel, by decide +kernel, by decide +kernel⟩,
   ⟨siteSt Mode.RUN 63 Site.HELD [(Reg.SQ_STAT.CAUSES 63, 1)], 63, 0, by decide +kernel, by decide +kernel, by decide +kernel, by decide +kernel⟩,
   ⟨siteSt Mode.RUN 63 Site.RUNNING [(Reg.SO_STR_STAT.STATE 63, 2)], 63, by decide +kernel, by decide +kernel, by decide +kernel, by decide +kernel, by decide +kernel, by decide +kernel, by unfold State.NoUnits; decide +kernel⟩,
   ⟨siteSt Mode.RUN 63 Site.LOADED [], 63, by decide +kernel, by decide +kernel⟩,
   ⟨siteSt Mode.RUN 63 Site.ARMED [(Reg.SQ_STAT.STOPPING 63, 1)], 63, by decide +kernel, by decide +kernel, by unfold State.NoUnits; decide +kernel, by decide +kernel⟩⟩

/-- Premises of VerbsExecute, clause by clause. -/
theorem wit_VerbsExecute :
    (∃ (s : Machine.State) (n : Fin 64) (i : Stmt), s.Issues (↑n) i ∧ 192 ≤ i.op ∧ i.op < 256) ∧
    (∃ (s : Machine.State) (n : Fin 64) (w : MicroWord) (r : Word), s.Runs (↑n) w ∧ w.ext = 0 ∧ w.lcdec = false ∧ aluResult w.aluOp (s.source (↑n) w w.srcA) (s.source (↑n) w w.srcB) = some r ∧ (w.dst = 0 ∨ 16 ≤ w.dst ∧ w.dst < 24) ∧ (w.nxt = 0 ∨ w.nxt = 1 ∨ w.nxt = 2 ∨ w.nxt = 3 ∧ (s.seq ↑n).verb.ustack.length < 4 ∨ w.nxt = 4 ∧ (s.seq ↑n).verb.ustack ≠ [])) ∧
    (∃ (s : Machine.State) (n : Fin 64) (w : MicroWord), s.Runs (↑n) w ∧ (w.ext = 0 ∨ (s.seq ↑n).verb.done = true) ∧ (w.nxt = 7 ∨ aluResult w.aluOp (s.source (↑n) w w.srcA) (s.source (↑n) w w.srcB) = none) ∧ s.siteState ↑n = Site.RUNNING ∧ (s.seq ↑n).clause = none ∧ s.NoUnits ↑n) ∧
    (∃ (s : Machine.State) (n : Fin 64), s.microReady ↑n = true ∧ s.starved ↑n = false ∧ s.mwordBad (s.seq ↑n).verb.bank (s.seq ↑n).verb.upc = true ∧ s.siteState ↑n = Site.RUNNING ∧ (s.seq ↑n).clause = none ∧ s.NoUnits ↑n) ∧
    (∃ (s : Machine.State) (n : Fin 64) (w : MicroWord), s.Runs (↑n) w ∧ w.ext ≠ 0 ∧ (s.seq ↑n).verb.done = false) ∧
    (∃ (s : Machine.State) (n : Fin 64) (w : MicroWord) (r : Word), s.Runs (↑n) w ∧ w.ext ≠ 0 ∧ (s.seq ↑n).verb.done = true ∧ w.nxt = 0 ∧ w.dst = 0 ∧ aluResult w.aluOp (s.source (↑n) w w.srcA) (s.source (↑n) w w.srcB) = some r) ∧
    (∃ (s : Machine.State) (n : Fin 64), s.microReady ↑n = true ∧ s.starved ↑n = false ∧ s.mwordBad (s.seq ↑n).verb.bank (s.seq ↑n).verb.upc = false ∧ (s.mword (s.seq ↑n).verb.bank (s.seq ↑n).verb.upc).comma = true ∧ (s.seq ↑n).verb.waiting = none ∧ s.get (Reg.SQ_STAT.CAUSES ↑n) ≠ 0 ∧ s.flag (Reg.SQ_STAT.STOPPING ↑n) = false ∧ (s.seq ↑n).clause = none ∧ (s.seq ↑n).verb.cmd = none) ∧
    (∃ (s : Machine.State) (n : Fin 64), s.microReady ↑n = true ∧ s.starved ↑n = true ∧ s.siteState ↑n = Site.RUNNING ∧ s.localOpen ↑n = false) :=
  ⟨⟨runs ⟨255, 0, 0, 0, 0, 0⟩ [], 63, ⟨255, 0, 0, 0, 0, 0⟩, by unfold State.Issues; decide +kernel, by decide +kernel, by decide +kernel⟩,
   ⟨micro (BitVec.ofNat 256 (4 * 2 ^ 252 + 23 * 2 ^ 204)) { Verb.init with ustack := [0, 0, 0, 0] }, 63, BitVec.ofNat 256 (4 * 2 ^ 252 + 23 * 2 ^ 204), 0, by unfold State.Runs; decide +kernel, by decide +kernel, by decide +kernel, by decide +kernel, by decide +kernel, by decide +kernel⟩,
   ⟨micro (BitVec.ofNat 256 (7 * 2 ^ 252)) Verb.init, 63, BitVec.ofNat 256 (7 * 2 ^ 252), by unfold State.Runs; decide +kernel, by decide +kernel, by decide +kernel, by decide +kernel, by decide +kernel, by unfold State.NoUnits; decide +kernel⟩,
   ⟨{ micro 0 Verb.init with csBad := [0] }, 63, by decide +kernel, by decide +kernel, by decide +kernel, by decide +kernel, by decide +kernel, by unfold State.NoUnits; decide +kernel⟩,
   ⟨micro (BitVec.ofNat 256 (2 ^ 198)) { Verb.init with done := false }, 63, BitVec.ofNat 256 (2 ^ 198), by unfold State.Runs; decide +kernel, by decide +kernel, by decide +kernel⟩,
   ⟨micro (BitVec.ofNat 256 (2 ^ 198)) Verb.init, 63, BitVec.ofNat 256 (2 ^ 198), 0, by unfold State.Runs; decide +kernel, by decide +kernel, by decide +kernel, by decide +kernel, by decide +kernel, by decide +kernel⟩,
   ⟨(micro (BitVec.ofNat 256 (2 ^ 255)) Verb.init).set (Reg.SQ_STAT.CAUSES 63) 1, 63, by decide +kernel, by decide +kernel, by decide +kernel, by decide +kernel, by decide +kernel, by decide +kernel, by decide +kernel, by decide +kernel, by decide +kernel⟩,
   ⟨{ micro 0 Verb.init with beat := 4096 }, 63, by decide +kernel, by decide +kernel, by decide +kernel, by decide +kernel⟩⟩

/-- Premises of VerbClauseCommands, clause by clause. -/
theorem wit_VerbClauseCommands :
    (∃ (s : Machine.State) (n : Fin 64) (c : ExtCmd) (k : Nat), s.issued (↑n) 1 = some c ∧ (s.seq ↑n).verb.retire = false ∧ (s.seq ↑n).clause = none ∧ s.freeSlotIndex = some k) ∧
    (∃ (s : Machine.State) (n : Fin 64) (c : ExtCmd), s.issued (↑n) 1 = some c ∧ (s.seq ↑n).clause = none ∧ s.freeSlotIndex = none) ∧
    (∃ (s : Machine.State) (n : Fin 64) (c : ExtCmd) (k : Fin 16), s.issued (↑n) 2 = some c ∧ (s.seq ↑n).verb.retire = false ∧ (s.seq ↑n).clause = some ↑k) ∧
    (∃ (s : Machine.State) (n : Fin 64) (c : ExtCmd) (k : Fin 16), s.issued (↑n) 3 = some c ∧ (s.seq ↑n).verb.retire = false ∧ (s.seq ↑n).clause = some ↑k ∧ s.tableBad (↑n) (BitVec.toNat c.b % 2 ^ 20) (BitVec.toNat c.a % 2 ^ 13) = none) ∧
    (∃ (s : Machine.State) (n : Fin 64) (c : ExtCmd) (k : Fin 16), s.issued (↑n) 4 = some c ∧ (s.seq ↑n).clause = some ↑k ∧ ((((s.setVerb (↑n)  (have __src := (s.seq ↑n).verb;  { running := __src.running, stmt := __src.stmt, upc := __src.upc, bank := __src.bank, v := __src.v,  lc := __src.lc, z := __src.z, neg := __src.neg, carry := __src.carry, ustack := __src.ustack,  done := __src.done, ok := __src.ok, result := __src.result, cmd := __src.cmd, busy := true,  words := __src.words, checkAt := __src.checkAt, nextPc := __src.nextPc,  resumable := __src.resumable, recheck := __src.recheck, retire := __src.retire,  waiting := __src.waiting })).set  (Reg.CL_SET.FULL_STOP ↑k) (BitVec.toNat c.a / 2 ^ 16 % 2 ^ 64)).set (Reg.CL_SET.TAG ↑k) (BitVec.toNat c.b % 2 ^ 16)).set (Reg.CL_SET.MULTI ↑k) (b2n (bitOf (BitVec.toNat c.c) 0))).request ↑k = Request.ok) ∧
    (∃ (s : Machine.State) (n : Fin 64) (c : ExtCmd) (k : Fin 16), s.issued (↑n) 5 = some c ∧ (s.seq ↑n).verb.retire = false ∧ (s.seq ↑n).clause = some ↑k ∧ s.slotOwner ↑k = some ↑n ∧ (s.seq ↑n).wait = Wait.none) ∧
    (∃ (s : Machine.State) (n : Fin 64) (p : Nat × Instr) (c : ExtCmd), p ∈ [(2, Instr.extClact n), (3, Instr.extCltab n), (4, Instr.extClcommit n), (5, Instr.extCldiscard n)] ∧ s.issued (↑n) p.1 = some c ∧ (s.seq ↑n).verb.retire = false ∧ (s.seq ↑n).clause = none ∧ s.siteState ↑n = Site.TRIPPED) ∧
    (∃ (s : Machine.State) (n : Fin 64) (p : Nat × Instr) (c : ExtCmd), p ∈ [(2, Instr.extClact n), (3, Instr.extCltab n), (4, Instr.extClcommit n), (5, Instr.extCldiscard n)] ∧ s.issued (↑n) p.1 = some c ∧ (s.seq ↑n).clause = none ∧ s.siteState ↑n = Site.RUNNING ∧ s.NoUnits ↑n) :=
  ⟨⟨(siteSt Mode.RUN 63 Site.RUNNING []).setSeq 63 (ext ⟨1, 0, 0, 0⟩), 63, ⟨1, 0, 0, 0⟩, 0, by decide +kernel, by decide +kernel, by decide +kernel, by decide +kernel⟩,
   ⟨(siteSt Mode.RUN 63 Site.RUNNING noSlot).setSeq 63 (ext ⟨1, 0, 0, 0⟩), 63, ⟨1, 0, 0, 0⟩, by decide +kernel, by decide +kernel, by decide +kernel⟩,
   ⟨(siteSt Mode.RUN 63 Site.RUNNING []).setSeq 63 { ext ⟨2, 0, 0, 0⟩ with clause := some 15 }, 63, ⟨2, 0, 0, 0⟩, 15, by decide +kernel, by decide +kernel, by decide +kernel⟩,
   ⟨(siteSt Mode.RUN 63 Site.RUNNING [(Reg.PM_RGN.VALID 0, 1), (Reg.PM_RGN.KIND 0, 1), (Reg.PM_RGN.SIZE 0, 1)]).setSeq 63 { ext ⟨3, 85, 0, 0⟩ with clause := some 15 }, 63, ⟨3, 85, 0, 0⟩, 15, by decide +kernel, by decide +kernel, by decide +kernel, by decide +kernel⟩,
   ⟨(siteSt Mode.RUN 63 Site.RUNNING [(Reg.CL_SLOT_STAT.STATE 15, 1), (Reg.CL_SLOT_STAT.SEQ 15, 1), (Reg.CL_SLOT_STAT.SITE 15, 63), (Reg.TB_STAT.CNT_VALID, 1)]).setSeq 63 { ext ⟨4, 64 * 2 ^ 16, 0, 0⟩ with clause := some 15 }, 63, ⟨4, 64 * 2 ^ 16, 0, 0⟩, 15, by decide +kernel, by decide +kernel, by decide +kernel⟩,
   ⟨(siteSt Mode.RUN 63 Site.RUNNING [(Reg.CL_SLOT_STAT.STATE 15, 1), (Reg.CL_SLOT_STAT.SEQ 15, 1), (Reg.CL_SLOT_STAT.SITE 15, 63), (Reg.TB_STAT.CNT_VALID, 1)]).setSeq 63 { ext ⟨5, 0, 0, 0⟩ with clause := some 15 }, 63, ⟨5, 0, 0, 0⟩, 15, by decide +kernel, by decide +kernel, by decide +kernel, by decide +kernel, by decide +kernel⟩,
   ⟨((siteSt Mode.RUN 63 Site.TRIPPED []).setSeq 63 (ext ⟨5, 0, 0, 0⟩)), 63, (5, .extCldiscard 63), ⟨5, 0, 0, 0⟩, by decide +kernel, by decide +kernel, by decide +kernel, by decide +kernel, by decide +kernel⟩,
   ⟨((siteSt Mode.RUN 63 Site.RUNNING []).setSeq 63 (ext ⟨2, 0, 0, 0⟩)), 63, (2, .extClact 63), ⟨2, 0, 0, 0⟩, by decide +kernel, by decide +kernel, by decide +kernel, by decide +kernel, by unfold State.NoUnits; decide +kernel⟩⟩

/-- Premises of VerbCommands, clause by clause. -/
theorem wit_VerbCommands :
    (∃ (s : Machine.State) (n : Fin 64) (c : ExtCmd), s.issued (↑n) 6 = some c ∧ (s.seq ↑n).verb.retire = false) ∧
    (∃ (s : Machine.State) (n : Fin 64) (c : ExtCmd), s.issued (↑n) 7 = some c ∧ (s.seq ↑n).verb.retire = false ∧ s.progBad (↑n) (s.stmtAddr (↑n) (BitVec.toNat c.a % 2 ^ 20)) 16 = none) ∧
    (∃ (s : Machine.State) (n : Fin 64) (c : ExtCmd), s.issued (↑n) 8 = some c ∧ (s.seq ↑n).verb.retire = false ∧ recKind (BitVec.toNat c.c % 16) = true ∧ s.siteState ↑n ≠ Site.TRIPPED) ∧
    (∃ (s : Machine.State) (n : Fin 64) (c : ExtCmd), s.issued (↑n) 9 = some c ∧ (s.seq ↑n).verb.retire = false ∧ s.playBad (↑n) (BitVec.toNat c.a % 2 ^ 35) (bitOf (BitVec.toNat c.c) 0) (bitOf (BitVec.toNat c.c) 1) (BitVec.toNat c.b % 2 ^ 80) = false ∧ s.groupOf ↑n = none ∧ (s.stream ↑n).gather = [] ∧ s.siteState ↑n = Site.RUNNING ∧ bitOf (BitVec.toNat c.c) 1 = false) ∧
    (∃ (s : Machine.State) (n : Fin 64) (c : ExtCmd), s.issued (↑n) 10 = some c ∧ s.measBad (↑n) c.meas = false) ∧
    (∃ (s : Machine.State) (n : Fin 64) (c : ExtCmd), s.issued (↑n) 11 = some c ∧ s.tmeasBad (↑n) c.meas = false) ∧
    (∃ (s : Machine.State) (n : Fin 64) (c : ExtCmd), s.issued (↑n) 12 = some c ∧ s.ltestBad (↑n) (BitVec.toNat c.a % 32) = false) ∧
    (∃ (s : Machine.State) (n : Fin 64) (c : ExtCmd), s.issued (↑n) 13 = some c ∧ (s.seq ↑n).verb.retire = false) ∧
    (∃ (s : Machine.State) (n : Fin 64) (c : ExtCmd), s.issued (↑n) 14 = some c ∧ (s.seq ↑n).verb.retire = false ∧ s.siteState ↑n = Site.RUNNING ∧ (s.seq ↑n).wait = Wait.none) ∧
    (∃ (s : Machine.State) (n : Fin 64) (c : ExtCmd), s.issued (↑n) 15 = some c) ∧
    (∃ (s : Machine.State) (n : Fin 64) (c : ExtCmd), s.issued (↑n) 16 = some c ∧ s.now < BitVec.toNat c.a / 2 ^ 16 % 2 ^ 64) ∧
    (∃ (s : Machine.State) (n : Fin 64) (c : ExtCmd), s.issued (↑n) 16 = some c ∧ (s.seq ↑n).verb.retire = false ∧ BitVec.toNat c.a / 2 ^ 16 % 2 ^ 64 ≤ s.now) ∧
    (∃ (s : Machine.State) (n : Fin 64) (c : ExtCmd), s.issued (↑n) 17 = some c ∧ s.flag (Reg.TB_FOLLOW_CFG.EN ↑n) = true ∧ 2 ^ 47 ≤ (s.get (Reg.TB_FOLLOW_CNT.COUNT ↑n) + 2 ^ 48 - BitVec.toNat c.a % 2 ^ 48) % 2 ^ 48) ∧
    (∃ (s : Machine.State) (n : Fin 64) (c : ExtCmd), s.issued (↑n) 18 = some c) ∧
    (∃ (s : Machine.State) (n : Fin 64) (c : ExtCmd), s.issued (↑n) 19 = some c ∧ (s.seq ↑n).verb.retire = false ∧ (s.seq ↑n).stack.length < 16) ∧
    (∃ (s : Machine.State) (n : Fin 64) (c : ExtCmd) (p : Nat) (ps : List Nat), s.issued (↑n) 20 = some c ∧ (s.seq ↑n).verb.retire = false ∧ (s.seq ↑n).stack = p :: ps ∧ ps.length < 16) ∧
    (∃ (s : Machine.State) (n : Fin 64) (c : ExtCmd), s.issued (↑n) 21 = some c ∧ s.siteState ↑n = Site.RUNNING ∧ (s.seq ↑n).clause = none ∧ s.NoUnits ↑n ∧ (1 ≤ BitVec.toNat c.c % 256 ∧ BitVec.toNat c.c % 256 ≤ 6 ∧ BitVec.toNat c.c % 256 ≠ Reason.UNCORR ∨ 128 ≤ BitVec.toNat c.c % 256)) ∧
    (∃ (s : Machine.State) (n : Fin 64) (c : ExtCmd), s.issued (↑n) 21 = some c ∧ s.siteState ↑n = Site.RUNNING ∧ (s.seq ↑n).clause = none ∧ s.NoUnits ↑n ∧ (BitVec.toNat c.c % 256 = 0 ∨ 6 < BitVec.toNat c.c % 256 ∧ BitVec.toNat c.c % 256 < 128)) ∧
    (∃ (s : Machine.State) (n : Fin 64) (c : ExtCmd), s.issued (↑n) 6 = some c ∧ (s.seq ↑n).verb.retire = true ∧ (s.seq ↑n).span = true) :=
  ⟨⟨(siteSt Mode.RUN 63 Site.RUNNING []).setSeq 63 (ext ⟨6, 0, 0, 0⟩), 63, ⟨6, 0, 0, 0⟩, by decide +kernel, by decide +kernel⟩,
   ⟨(siteSt Mode.RUN 63 Site.RUNNING [(Reg.PM_RGN.VALID 0, 1), (Reg.PM_RGN.KIND 0, 1), (Reg.PM_RGN.SIZE 0, 1)]).setSeq 63 (ext ⟨7, 255, 0, 0⟩), 63, ⟨7, 255, 0, 0⟩, by decide +kernel, by decide +kernel, by decide +kernel⟩,
   ⟨(siteSt Mode.RUN 63 Site.RUNNING []).setSeq 63 (ext ⟨8, 0, 0, 10⟩), 63, ⟨8, 0, 0, 10⟩, by decide +kernel, by decide +kernel, by decide +kernel, by decide +kernel⟩,
   ⟨(siteSt Mode.RUN 63 Site.RUNNING []).setSeq 63 (ext ⟨9, 0, 32 * 65536, 1⟩), 63, ⟨9, 0, 32 * 65536, 1⟩, by decide +kernel, by decide +kernel, by decide +kernel, by decide +kernel, by decide +kernel, by decide +kernel, by decide +kernel⟩,
   ⟨(siteSt Mode.RUN 63 Site.RUNNING [(Reg.CH_CTRL.OUT_ARM 6, 1), (Reg.CH_PMU.MODE 6, 1)]).setSeq 63 (ext ⟨10, 2 ^ 64 + 2 ^ 10 + 1, 0, 0⟩), 63, ⟨10, 2 ^ 64 + 2 ^ 10 + 1, 0, 0⟩, by decide +kernel, by decide +kernel⟩,
   ⟨(siteSt Mode.RUN 63 Site.RUNNING [(Reg.TM_SRC.START 6, 6), (Reg.TM_SRC.STOP 6, 6)]).setSeq 63 (ext ⟨11, 2 ^ 64 + 2 ^ 10 + 1, 0, 0⟩), 63, ⟨11, 2 ^ 64 + 2 ^ 10 + 1, 0, 0⟩, by decide +kernel, by decide +kernel⟩,
   ⟨(siteSt Mode.RUN 63 Site.RUNNING [(Reg.DL_STAT.STATE 0, Ln.UP), (Reg.DL_RX.CHK_PAT 0, 1)]).setSeq 63 (ext ⟨12, 0, 0, 0⟩), 63, ⟨12, 0, 0, 0⟩, by decide +kernel, by decide +kernel⟩,
   ⟨(siteSt Mode.RUN 63 Site.RUNNING []).setSeq 63 (ext ⟨13, 0, 0, 0⟩), 63, ⟨13, 0, 0, 0⟩, by decide +kernel, by decide +kernel⟩,
   ⟨(siteSt Mode.RUN 63 Site.RUNNING []).setSeq 63 (ext ⟨14, 0, 0, 0⟩), 63, ⟨14, 0, 0, 0⟩, by decide +kernel, by decide +kernel, by decide +kernel, by decide +kernel⟩,
   ⟨(siteSt Mode.RUN 63 Site.RUNNING []).setSeq 63 (ext ⟨15, 0, 0, 0⟩), 63, ⟨15, 0, 0, 0⟩, by decide +kernel⟩,
   ⟨(siteSt Mode.RUN 63 Site.RUNNING []).setSeq 63 (ext ⟨16, 2 ^ 16, 0, 0⟩), 63, ⟨16, 2 ^ 16, 0, 0⟩, by decide +kernel, by decide +kernel⟩,
   ⟨(siteSt Mode.RUN 63 Site.RUNNING []).setSeq 63 (ext ⟨16, 0, 0, 0⟩), 63, ⟨16, 0, 0, 0⟩, by decide +kernel, by decide +kernel, by decide +kernel⟩,
   ⟨(siteSt Mode.RUN 63 Site.RUNNING [(Reg.TB_FOLLOW_CFG.EN 63, 1)]).setSeq 63 (ext ⟨17, 2 ^ 47, 0, 0⟩), 63, ⟨17, 2 ^ 47, 0, 0⟩, by decide +kernel, by decide +kernel, by decide +kernel⟩,
   ⟨(siteSt Mode.RUN 63 Site.RUNNING []).setSeq 63 (ext ⟨18, 0, 0, 0⟩), 63, ⟨18, 0, 0, 0⟩, by decide +kernel⟩,
   ⟨(siteSt Mode.RUN 63 Site.RUNNING []).setSeq 63 { ext ⟨19, 0, 0, 0⟩ with stack := List.replicate 15 1 }, 63, ⟨19, 0, 0, 0⟩, by decide +kernel, by decide +kernel, by decide +kernel⟩,
   ⟨(siteSt Mode.RUN 63 Site.RUNNING []).setSeq 63 { ext ⟨20, 0, 0, 0⟩ with stack := List.replicate 16 1 }, 63, ⟨20, 0, 0, 0⟩, 1, List.replicate 15 1, by decide +kernel, by decide +kernel, by decide +kernel, by decide +kernel⟩,
   ⟨(siteSt Mode.RUN 63 Site.RUNNING []).setSeq 63 (ext ⟨21, 0, 0, 255⟩), 63, ⟨21, 0, 0, 255⟩, by decide +kernel, by decide +kernel, by decide +kernel, by unfold State.NoUnits; decide +kernel, by decide +kernel⟩,
   ⟨(siteSt Mode.RUN 63 Site.RUNNING []).setSeq 63 (ext ⟨21, 0, 0, 127⟩), 63, ⟨21, 0, 0, 127⟩, by decide +kernel, by decide +kernel, by decide +kernel, by unfold State.NoUnits; decide +kernel, by decide +kernel⟩,
   ⟨(siteSt Mode.RUN 63 Site.RUNNING []).setSeq 63 { ext ⟨6, 0, 0, 0⟩ with verb := { (ext ⟨6, 0, 0, 0⟩).verb with retire := true }, clause := some 15, span := true }, 63, ⟨6, 0, 0, 0⟩, by decide +kernel, by decide +kernel, by decide +kernel⟩⟩

/-- Slot 15 in state `v` holding the clause `c`. -/
def slotSt (v : Nat) (c : ClSlot) (l : List (Fld × Nat)) : State :=
  (stIn Mode.RUN ([(Reg.CL_SLOT_STAT.STATE 15, v), (Reg.TB_STAT.CNT_VALID, 1)] ++ l)).setSlot 15 c
/-- A leaf LOCKED to its root, with a multi-device clause of tag 7 and full stop 200 in slot 15 in state `v`. -/
def multiSt (v : Nat) (c : ClSlot) (l : List (Fld × Nat)) : State :=
  slotSt v c ([(Reg.TB_CTRL.ROLE, 1), (Reg.TB_CTRL.SYNC_EN, 1), (Reg.TB_STAT.LOCK, 2), (Reg.CL_SET.MULTI 15, 1), (Reg.CL_SET.TAG 15, 7), (Reg.CL_SET.FULL_STOP 15, 200)] ++ l)
/-- The payload of a decision about it. -/
def decision (kind : Nat) : BitVec 64 := mkFrame kind (7 * 2 ^ 24 + 200)
/-- A time measurement of one shot by the host. -/
def tdc0 : Tdc := ⟨none, 0, 0, 0, 1, 0, none, 0, 0, 0, 0, 0, none, none, none, 0, 0, none, 0, 0, 0, 0, 0, 0, 0, 0, 0, false⟩
/-- Both inputs of a TDC take a source of kind 6. -/
def src6 : Word := BitVec.ofNat 128 (6 * 2 ^ 32 + 6)
/-- TDC 1055 is in state `v` of the measurement `m`. -/
def tdcSt (v : Nat) (m : Tdc) (l : List (Fld × Nat)) : State := (st ((Reg.TM_STAT.STATE 1055, v) :: l)).setTdc 1055 (some m)
/-- Level DAC 7 of channel 1023 is `d`. -/
def dacSt (d : Dac) (b : Nat) (l : List (Fld × Nat)) : State := { (st l).setDac 1023 7 d with beat := BitVec.ofNat 64 b }
def pmuSt (p : Pmu) (b : Nat) (l : List (Fld × Nat)) : State := { st l with pmus := [(1023, p)], beat := BitVec.ofNat 64 b }
/-- A measurement of the host, of one sample. -/
def meas0 (sampling : Bool) (left : Nat) : Meas := ⟨none, sampling, 0, 1, left, 0, false, false, 0, 0, 0⟩
def wfSt (w : Wf) (b : Nat) (l : List (Fld × Nat)) : State := { st l with wfs := [(31, w)], beat := BitVec.ofNat 64 b }
def dpsSt (d : Dps) (b : Nat) (l : List (Fld × Nat)) : State := { st l with dpss := [(63, d)], beat := BitVec.ofNat 64 b }

/-- Premises of ControlStoreLoads, clause by clause. -/
theorem wit_ControlStoreLoads :
    (∃ (s : Machine.State), s.mode ≠ Mode.RESET ∧ s.loadVendorOk = true) ∧
    (∃ (s : Machine.State), s.mode ≠ Mode.RESET ∧ s.loadCustomerOk = true) ∧
    (∃ (s : Machine.State), s.loadVendorOk = false) ∧
    (∃ (s : Machine.State), s.loadCustomerOk = false) ∧
    (∃ (s : Machine.State) (o : LxOp), s.lxOp = some o ∧ o.cmd = 1) ∧
    (∃ (s : Machine.State) (o : LxOp), s.lxOp = some o ∧ o.cmd = 2) ∧
    (∃ (s : Machine.State), s.mode ≠ Mode.RESET ∧ s.flag Reg.LX_STAT.BUSY = false ∧ s.get (Reg.LX_BANK.STATE (1 - s.activeBank)) = 2) ∧
    (∃ (s : Machine.State), s.mode ≠ Mode.RESET ∧ s.flag Reg.LX_STAT.BUSY = false ∧ s.get (Reg.LX_BANK.STATE (1 - s.activeBank)) ≠ 2) ∧
    (∃ (s : Machine.State) (w : Word), s.mode ≠ Mode.RESET ∧ s.flag Reg.LX_STAT.BUSY = false ∧ s.flag (Reg.LX_KEY.LOST (BitVec.toNat w / 2 ^ 8 % 4)) = false ∧ s.get (Reg.LX_KEY.STATE (BitVec.toNat w / 2 ^ 8 % 4)) = 0 ∧ (s.mode = Mode.SAFE ∨ s.mode = Mode.DISCOVER)) ∧
    (∃ (s : Machine.State) (w : Word), s.mode ≠ Mode.RESET ∧ s.flag Reg.LX_STAT.BUSY = false ∧ s.flag (Reg.LX_KEY.LOST (BitVec.toNat w / 2 ^ 8 % 4)) = false ∧ s.get (Reg.LX_KEY.STATE (BitVec.toNat w / 2 ^ 8 % 4)) = 1 ∧ s.mode ≠ Mode.SHUTDOWN) ∧
    (∃ (s : Machine.State) (w : Word), s.mode ≠ Mode.RESET ∧ s.flag Reg.LX_STAT.BUSY = false ∧ s.flag (Reg.LX_KEY.LOST (BitVec.toNat w / 2 ^ 8 % 4)) = false ∧ s.get (Reg.LX_KEY.STATE (BitVec.toNat w / 2 ^ 8 % 4)) ≠ 0) ∧
    (∃ (s : Machine.State) (w : Word), s.mode ≠ Mode.RESET ∧ s.flag Reg.LX_STAT.BUSY = false ∧ s.flag (Reg.LX_KEY.LOST (BitVec.toNat w / 2 ^ 8 % 4)) = false ∧ s.get (Reg.LX_KEY.STATE (BitVec.toNat w / 2 ^ 8 % 4)) ≠ 1) ∧
    (∃ (s : Machine.State) (o : LxOp), s.lxOp = some o ∧ (o.cmd = 4 ∨ o.cmd = 5) ∧ o.slot < 4 ∧ o.hash.length = 3) :=
  ⟨⟨stIn Mode.STANDBY [(Reg.PM_STAT.READY, 1)], by decide +kernel, by decide +kernel⟩,
   ⟨stIn Mode.RUN [], by decide +kernel, by decide +kernel⟩,
   ⟨State.reset, by decide +kernel⟩,
   ⟨State.reset, by decide +kernel⟩,
   ⟨{ stIn Mode.SAFE [] with lxOp := some ⟨1, 0, [], 3⟩ }, ⟨1, 0, [], 3⟩, by decide +kernel, by decide +kernel⟩,
   ⟨{ stIn Mode.RUN [] with lxOp := some ⟨2, 0, [], 0⟩ }, ⟨2, 0, [], 0⟩, by decide +kernel, by decide +kernel⟩,
   ⟨stIn Mode.RUN [(Reg.LX_BANK.STATE 1, 2)], by decide +kernel, by decide +kernel, by decide +kernel⟩,
   ⟨stIn Mode.RUN [], by decide +kernel, by decide +kernel, by decide +kernel⟩,
   ⟨stIn Mode.DISCOVER [], 0x300#128, by decide +kernel, by decide +kernel, by decide +kernel, by decide +kernel, by decide +kernel⟩,
   ⟨stIn Mode.RUN [(Reg.LX_KEY.STATE 3, 1)], 0x300#128, by decide +kernel, by decide +kernel, by decide +kernel, by decide +kernel, by decide +kernel⟩,
   ⟨stIn Mode.SAFE [(Reg.LX_KEY.STATE 3, 2)], 0x300#128, by decide +kernel, by decide +kernel, by decide +kernel, by decide +kernel⟩,
   ⟨stIn Mode.SAFE [(Reg.LX_KEY.STATE 3, 2)], 0x300#128, by decide +kernel, by decide +kernel, by decide +kernel, by decide +kernel⟩,
   ⟨{ stIn Mode.SAFE [] with lxOp := some ⟨5, 3, [0, 0, 0], 0⟩ }, ⟨5, 3, [0, 0, 0], 0⟩, by decide +kernel, by decide +kernel, by decide +kernel, by decide +kernel⟩⟩

/-- Premises of ClauseHostCommands, clause by clause. -/
theorem wit_ClauseHostCommands :
    (∃ (s : Machine.State) (k : Fin 16), s.mode ≠ Mode.RESET ∧ s.hostSlot (↑k) Slot.FREE = true) ∧
    (∃ (s : Machine.State) (k : Fin 16) (w : Word), s.mode ≠ Mode.RESET ∧ s.hostSlot (↑k) Slot.OPEN = true ∧ (BitVec.getLsbD w 0 = false ∨ BitVec.toNat w / 2 ^ 32 % 2 ^ 16 ≠ 0)) ∧
    (∃ (s : Machine.State) (k : Fin 16) (w : Word), s.mode ≠ Mode.RESET ∧ s.hostSlot (↑k) Slot.OPEN = true ∧ (s.slot ↑k).refused = none ∧ (s.slot ↑k).acts.length < 4096 ∧ s.poolUsed < 65536 ∧ s.stageCode none { addr := (Reg.CL_ADDR.WORD ↑k).of w, value := s.reg (Reg.CL_VAL.word ↑k), mask := s.reg (Reg.CL_MASK.word ↑k) } = none) ∧
    (∃ (s : Machine.State) (k : Fin 16) (w : Word) (r : Nat), s.mode ≠ Mode.RESET ∧ s.hostSlot (↑k) Slot.OPEN = true ∧ (s.slot ↑k).refused = none ∧ (s.slot ↑k).acts.length < 4096 ∧ s.poolUsed < 65536 ∧ s.stageCode none { addr := (Reg.CL_ADDR.WORD ↑k).of w, value := s.reg (Reg.CL_VAL.word ↑k), mask := s.reg (Reg.CL_MASK.word ↑k) } = some r) ∧
    (∃ (s : Machine.State) (k : Fin 16), s.mode ≠ Mode.RESET ∧ s.hostSlot (↑k) Slot.OPEN = true ∧ s.request ↑k = Request.ok) ∧
    (∃ (s : Machine.State) (k : Fin 16) (r : Nat) (b : Nat), s.mode ≠ Mode.RESET ∧ s.hostSlot (↑k) Slot.OPEN = true ∧ s.request ↑k = Request.done r b ∧ r < 256 ∧ r ≠ Cl.OK) ∧
    (∃ (s : Machine.State) (k : Fin 16) (c : Nat), s.mode ≠ Mode.RESET ∧ s.hostSlot (↑k) Slot.OPEN = true ∧ s.request ↑k = Request.reject c) ∧
    (∃ (s : Machine.State) (k : Fin 16), s.mode ≠ Mode.RESET ∧ s.hostSlot (↑k) Slot.DONE = true) ∧
    (∃ (s : Machine.State) (p : Port) (k : Fin 16) (w : Word) (c : Instr × Nat), s.mode ≠ Mode.RESET ∧ c ∈ [(Instr.clCmdOpen p k, Slot.FREE), (Instr.clSetWrite p k w, Slot.OPEN), (Instr.clAddrWrite p k w, Slot.OPEN), (Instr.clCmdCommit p k, Slot.OPEN), (Instr.clCmdDiscard p k, Slot.OPEN), (Instr.clCmdFree p k, Slot.DONE)] ∧ s.hostSlot (↑k) c.2 = false) :=
  ⟨⟨stIn Mode.RUN [], 15, by decide +kernel, by decide +kernel⟩,
   ⟨slotSt 1 ClSlot.init [], 15, 0x100000001#128, by decide +kernel, by decide +kernel, by decide +kernel⟩,
   ⟨slotSt 1 ClSlot.init [], 15, 0x060001#128, by decide +kernel, by decide +kernel, by decide +kernel, by decide +kernel, by decide +kernel, by decide +kernel⟩,
   ⟨slotSt 1 ClSlot.init [], 15, 0#128, Cl.NOT_CL, by decide +kernel, by decide +kernel, by decide +kernel, by decide +kernel, by decide +kernel, by decide +kernel⟩,
   ⟨slotSt 1 ClSlot.init [(Reg.CL_SET.FULL_STOP 15, 64)], 15, by decide +kernel, by decide +kernel, by decide +kernel⟩,
   ⟨slotSt 1 { ClSlot.init with refused := some 255 } [(Reg.CL_SLOT_STAT.FIRST_BAD 15, 4)], 15, 255, 4, by decide +kernel, by decide +kernel, by decide +kernel, by decide +kernel, by decide +kernel⟩,
   ⟨slotSt 1 ClSlot.init [(Reg.CL_SET.FULL_STOP 15, 63)], 15, Lc.SCHED_PAST, by decide +kernel, by decide +kernel, by decide +kernel⟩,
   ⟨slotSt 4 ClSlot.init [], 15, by decide +kernel, by decide +kernel⟩,
   ⟨slotSt 0 ClSlot.init [], .cp, 15, 0, (.clCmdFree .cp 15, Slot.DONE), by decide +kernel, by decide +kernel, by decide +kernel⟩⟩

/-- Premises of PrepareAndFullStop, clause by clause. -/
theorem wit_PrepareAndFullStop :
    (∃ (s : Machine.State) (k : Fin 16), s.slotState ↑k = Slot.PREPARING ∧ s.slotMulti ↑k = false ∧ ((s.set (Reg.CL_SLOT_STAT.PREP_BEAT ↑k) (s.now % 2 ^ 32)).setSlot (↑k) { s.slot ↑k with prep := s.now }).prepareCode ↑k = none ∧ s.slotOwner ↑k = none) ∧
    (∃ (s : Machine.State) (k : Fin 16) (r : Nat), s.slotState ↑k = Slot.PREPARING ∧ s.slotMulti ↑k = false ∧ ((s.set (Reg.CL_SLOT_STAT.PREP_BEAT ↑k) (s.now % 2 ^ 32)).setSlot (↑k) { s.slot ↑k with prep := s.now }).prepareCode ↑k = some r ∧ r < 256 ∧ r ≠ Cl.OK ∧ s.slotOwner ↑k = none) ∧
    (∃ (s : Machine.State) (k : Fin 16), s.slotState ↑k = Slot.PREPARING ∧ s.slotMulti ↑k = true ∧ s.get Reg.TB_CTRL.ROLE ≠ Role.ROOT ∧ (s.slot ↑k).dec = none ∧ ((s.set (Reg.CL_SLOT_STAT.PREP_BEAT ↑k) (s.now % 2 ^ 32)).setSlot (↑k) { s.slot ↑k with prep := s.now }).prepareCode ↑k = none) ∧
    (∃ (s : Machine.State) (k : Fin 16) (r : Nat), s.slotState ↑k = Slot.PREPARING ∧ s.slotMulti ↑k = true ∧ s.get Reg.TB_CTRL.ROLE ≠ Role.ROOT ∧ (s.slot ↑k).dec = none ∧ ((s.set (Reg.CL_SLOT_STAT.PREP_BEAT ↑k) (s.now % 2 ^ 32)).setSlot (↑k) { s.slot ↑k with prep := s.now }).prepareCode ↑k = some r ∧ r < 256 ∧ r ≠ Cl.OK ∧ s.slotOwner ↑k = none) ∧
    (∃ (s : Machine.State) (k : Fin 16), s.slotState ↑k ≠ Slot.PREPARING) ∧
    (∃ (s : Machine.State), (∀ (k : Fin 16), s.slotState ↑k = Slot.PREPARED → (s.slot ↑k).dec = some true → s.now < s.slotFs ↑k)) ∧
    (∃ (s : Machine.State) (k : Fin 16) (x : Machine.Action) (t : Nat) (n : Nat), s.slotState ↑k = Slot.PREPARED ∧ (s.slot ↑k).dec = some true ∧ s.slotFs ↑k ≤ s.now ∧ (∀ (j : Fin 16), j ≠ k → s.slotState ↑j = Slot.PREPARED → (s.slot ↑j).dec = some true → s.now < s.slotFs ↑j) ∧ s.slotOwner ↑k = none ∧ (s.slot ↑k).acts = [x] ∧ clWord x.addr = ClWord.tm t n ∧ (∀ (m : Nat), s.wordSite x.addr = some m → s.inPlay m = false)) ∧
    (∃ (s : Machine.State) (k : Fin 16) (n : Nat), s.slotState ↑k = Slot.PREPARED ∧ (s.slot ↑k).dec = some true ∧ s.slotFs ↑k ≤ s.now ∧ (∀ (j : Fin 16), j ≠ k → s.slotState ↑j = Slot.PREPARED → (s.slot ↑j).dec = some true → s.now < s.slotFs ↑j) ∧ s.slotOwner ↑k = none ∧ (s.slot ↑k).split = false ∧ (∀ x ∈ (s.slot ↑k).acts, s.wordSite x.addr = some n) ∧ s.inPlay n = true) :=
  ⟨⟨slotSt 2 ClSlot.init [], 15, by decide +kernel, by decide +kernel, by decide +kernel, by decide +kernel⟩,
   ⟨slotSt 2 { ClSlot.init with acts := [⟨0x080000, 0, 0⟩] } [], 15, Cl.STATE, by decide +kernel, by decide +kernel, by decide +kernel, by decide +kernel, by decide +kernel, by decide +kernel⟩,
   ⟨multiSt 2 ClSlot.init [], 15, by decide +kernel, by decide +kernel, by decide +kernel, by decide +kernel, by decide +kernel⟩,
   ⟨multiSt 2 { ClSlot.init with acts := [⟨0x080000, 0, 0⟩] } [], 15, Cl.STATE, by decide +kernel, by decide +kernel, by decide +kernel, by decide +kernel, by decide +kernel, by decide +kernel, by decide +kernel, by decide +kernel⟩,
   ⟨State.reset, 15, by decide +kernel⟩,
   ⟨slotSt 3 { ClSlot.init with dec := some true } [(Reg.CL_SET.FULL_STOP 15, 1)], by decide +kernel⟩,
   ⟨slotSt 3 { ClSlot.init with dec := some true, acts := [⟨0x0641F1, 0, 0⟩] } [], 15, ⟨0x0641F1, 0, 0⟩, 1055, 1, by decide +kernel, by decide +kernel, by decide +kernel, by decide +kernel, by decide +kernel, by decide +kernel, by decide +kernel, fun n h => absurd (h.symm.trans (show _ = none by decide +kernel)) (by simp)⟩,
   ⟨{ slotSt 3 { ClSlot.init with dec := some true, acts := [⟨0x080140, 0, 0⟩] } [(Reg.SQ_STAT.STATE 63, 3), (Reg.SO_SITE_STAT.IN_STREAM 63, 1), (Reg.SO_STR_STAT.STATE 63, 2)] with maps := [(63, ⟨[⟨5, 0, 0⟩], [], [], 0⟩)] }, 15, 63, by decide +kernel, by decide +kernel, by decide +kernel, by decide +kernel, by decide +kernel, by decide +kernel, by decide +kernel, by decide +kernel⟩⟩

/-- Premises of DecisionsOfTheGroup, clause by clause. -/
theorem wit_DecisionsOfTheGroup :
    (∃ (s : Machine.State) (f : BitVec 64) (x : BitVec 64) (off : Fin 64) (k : Fin 16), s.Receives f off Fk.COMMIT x ∧ s.get Reg.TB_STAT.LOCK = 2 ∧ s.watches = [] ∧ (∀ (j : Fin 16), s.slotMulti ↑j = true → s.slotTag ↑j = frTag x → s.slotFs ↑j % 2 ^ 24 = frBeat x % 2 ^ 24 → j = k) ∧ s.slotState ↑k = Slot.PREPARED ∧ s.slotMulti ↑k = true ∧ s.slotTag ↑k = frTag x ∧ s.slotFs ↑k % 2 ^ 24 = frBeat x % 2 ^ 24 ∧ (s.slot ↑k).dec = none ∧ s.slotOwner ↑k = none) ∧
    (∃ (s : Machine.State) (f : BitVec 64) (x : BitVec 64) (off : Fin 64) (k : Fin 16), s.Receives f off Fk.ABORT x ∧ s.get Reg.TB_STAT.LOCK = 2 ∧ s.watches = [] ∧ (∀ (j : Fin 16), s.slotMulti ↑j = true → s.slotTag ↑j = frTag x → s.slotFs ↑j % 2 ^ 24 = frBeat x % 2 ^ 24 → j = k) ∧ s.slotState ↑k = Slot.PREPARED ∧ s.slotMulti ↑k = true ∧ s.slotTag ↑k = frTag x ∧ s.slotFs ↑k % 2 ^ 24 = frBeat x % 2 ^ 24 ∧ (s.slot ↑k).dec = none ∧ s.slotOwner ↑k = none) ∧
    (∃ (s : Machine.State) (f : BitVec 64) (x : BitVec 64) (off : Fin 64) (k : Fin 16) (c : Instr × Bool), c ∈ [(Instr.commitFrame f off, true), (Instr.abortFrame f off, false)] ∧ s.Receives f off (if c.2 = true then Fk.COMMIT else Fk.ABORT) x ∧ s.get Reg.TB_STAT.LOCK = 2 ∧ s.watches = [] ∧ (∀ (j : Fin 16), s.slotMulti ↑j = true → s.slotTag ↑j = frTag x → s.slotFs ↑j % 2 ^ 24 = frBeat x % 2 ^ 24 → j = k) ∧ s.slotMulti ↑k = true ∧ s.slotTag ↑k = frTag x ∧ s.slotFs ↑k % 2 ^ 24 = frBeat x % 2 ^ 24 ∧ s.slotState ↑k = Slot.PREPARING ∧ (s.slot ↑k).dec = none) ∧
    (∃ (s : Machine.State) (f : BitVec 64) (x : BitVec 64) (off : Fin 64) (k : Fin 16) (c : Instr × Bool), c ∈ [(Instr.commitFrame f off, true), (Instr.abortFrame f off, false)] ∧ s.Receives f off (if c.2 = true then Fk.COMMIT else Fk.ABORT) x ∧ s.get Reg.TB_STAT.LOCK = 2 ∧ s.watches = [] ∧ (∀ (j : Fin 16), s.slotMulti ↑j = true → s.slotTag ↑j = frTag x → s.slotFs ↑j % 2 ^ 24 = frBeat x % 2 ^ 24 → j = k) ∧ s.slotMulti ↑k = true ∧ s.slotTag ↑k = frTag x ∧ s.slotFs ↑k % 2 ^ 24 = frBeat x % 2 ^ 24 ∧ (s.slotState ↑k = Slot.PREPARING ∨ s.slotState ↑k = Slot.PREPARED) ∧ (s.slot ↑k).dec = some !c.2 ∧ (s.slot ↑k).split = false ∧ s.flag Reg.CL_CFG.SPLIT_HOLD = false) ∧
    (∃ (s : Machine.State) (f : BitVec 64) (x : BitVec 64) (off : Fin 64) (c : Instr × Nat), c ∈ [(Instr.commitFrame f off, Fk.COMMIT), (Instr.abortFrame f off, Fk.ABORT)] ∧ s.Receives f off c.2 x ∧ s.get Reg.TB_STAT.LOCK ≠ 2) ∧
    (∃ (s : Machine.State) (k : Fin 16), s.slotState ↑k = Slot.PREPARED ∧ s.slotMulti ↑k = true ∧ (s.slot ↑k).dec = none ∧ s.slotFs ↑k ≤ s.now + 64 ∧ s.slotOwner ↑k = none ∧ s.flag Reg.CL_CFG.SPLIT_HOLD = false) ∧
    (∃ (s : Machine.State) (k : Fin 16), (s.slotState ↑k ≠ Slot.PREPARED ∨ s.slotMulti ↑k = false ∨ (s.slot ↑k).dec ≠ none ∨ s.now + 64 < s.slotFs ↑k)) :=
  ⟨⟨multiSt 3 ClSlot.init [], decision Fk.COMMIT, decision Fk.COMMIT, 0, 15, by unfold State.Receives; decide +kernel, by decide +kernel, by decide +kernel, by decide +kernel, by decide +kernel, by decide +kernel, by decide +kernel, by decide +kernel, by decide +kernel, by decide +kernel⟩,
   ⟨multiSt 3 ClSlot.init [], decision Fk.ABORT, decision Fk.ABORT, 0, 15, by unfold State.Receives; decide +kernel, by decide +kernel, by decide +kernel, by decide +kernel, by decide +kernel, by decide +kernel, by decide +kernel, by decide +kernel, by decide +kernel, by decide +kernel⟩,
   ⟨multiSt 2 ClSlot.init [], decision Fk.COMMIT, decision Fk.COMMIT, 0, 15, (.commitFrame (decision Fk.COMMIT) 0, true), by decide +kernel, by unfold State.Receives; decide +kernel, by decide +kernel, by decide +kernel, by decide +kernel, by decide +kernel, by decide +kernel, by decide +kernel, by decide +kernel, by decide +kernel⟩,
   ⟨multiSt 3 { ClSlot.init with dec := some true } [(Reg.CL_CFG.SPLIT_HOLD, 0)], decision Fk.ABORT, decision Fk.ABORT, 0, 15, (.abortFrame (decision Fk.ABORT) 0, false), by decide +kernel, by unfold State.Receives; decide +kernel, by decide +kernel, by decide +kernel, by decide +kernel, by decide +kernel, by decide +kernel, by decide +kernel, by decide +kernel, by decide +kernel, by decide +kernel, by decide +kernel⟩,
   ⟨multiSt 3 ClSlot.init [(Reg.TB_STAT.LOCK, 1)], decision Fk.ABORT, decision Fk.ABORT, 0, (.abortFrame (decision Fk.ABORT) 0, Fk.ABORT), by decide +kernel, by unfold State.Receives; decide +kernel, by decide +kernel⟩,
   ⟨{ multiSt 3 ClSlot.init [(Reg.CL_CFG.SPLIT_HOLD, 0)] with beat := 136 }, 15, by decide +kernel, by decide +kernel, by decide +kernel, by decide +kernel, by decide +kernel, by decide +kernel⟩,
   ⟨{ multiSt 3 ClSlot.init [] with beat := 135 }, 15, by decide +kernel⟩⟩

/-- Premises of TimeMeasurements, clause by clause. -/
theorem wit_TimeMeasurements :
    (∃ (s : Machine.State) (t : Fin 1056) (w : Word), s.mode ≠ Mode.RESET ∧ s.tmCmdOk (↑t) (BitVec.toNat w / 2 ^ 4 % 2 ^ 16) = true ∧ (∀ (c : Nat), s.chanOfEngine ↑t = some c → s.isMember c = false)) ∧
    (∃ (s : Machine.State) (t : Fin 1056) (w : Word), s.mode ≠ Mode.RESET ∧ s.tmCmdOk (↑t) (BitVec.toNat w / 2 ^ 4 % 2 ^ 16) = false) ∧
    (∃ (s : Machine.State) (t : Fin 1056) (m : Tdc), s.mode ≠ Mode.RESET ∧ s.tdc ↑t = some m ∧ m.owner = none) ∧
    (∃ (s : Machine.State) (t : Fin 1056) (k : TdcCal) (m : Tdc), s.tdc ↑t = some m ∧ s.get (Reg.TM_STAT.STATE ↑t) = 1 ∧ m.due + 2 ≤ s.now ∧ (30720 ≤ k.sum1 ∧ k.sum1 ≤ 34816 ∧ 31744 ≤ k.sum2 - k.sum1 ∧ k.sum2 - k.sum1 ≤ 33792)) ∧
    (∃ (s : Machine.State) (t : Fin 1056) (k : TdcCal) (m : Tdc), s.tdc ↑t = some m ∧ s.get (Reg.TM_STAT.STATE ↑t) = 1 ∧ m.due + 2 ≤ s.now ∧ (k.sum1 < 30720 ∨ 34816 < k.sum1 ∨ k.sum2 - k.sum1 < 31744 ∨ 33792 < k.sum2 - k.sum1) ∧ m.owner = none) ∧
    (∃ (s : Machine.State) (t : Fin 1056) (i : Fin 2) (k : BitVec 16) (m : Tdc), s.tdc ↑t = some m ∧ s.get (Reg.TM_STAT.STATE ↑t) = 3 ∧ m.from_ ≤ s.now * 65536 + k.toNat ∧ BitVec.toNat m.cfg % 4 = 0 ∧ s.srcSilent (↑t) (srcOf m.src ↑i) = false ∧ s.srcShut (↑t) (srcOf m.src ↑i) ↑(s.now * 65536 + k.toNat) = false ∧ s.tdcPaused (↑t) m.src = true) ∧
    (∃ (s : Machine.State) (t : Fin 1056) (k : BitVec 16) (m : Tdc), s.tdc ↑t = some m ∧ s.get (Reg.TM_STAT.STATE ↑t) = 3 ∧ m.from_ ≤ s.now * 65536 + k.toNat ∧ BitVec.toNat m.cfg % 4 = 0 ∧ s.srcSilent (↑t) (srcOf m.src ↑0) = false ∧ s.srcShut (↑t) (srcOf m.src ↑0) ↑(s.now * 65536 + k.toNat) = false ∧ s.tdcPaused (↑t) m.src = false ∧ m.skip0 ≠ 0) ∧
    (∃ (s : Machine.State) (t : Fin 1056) (k : BitVec 16) (m : Tdc), s.tdc ↑t = some m ∧ s.get (Reg.TM_STAT.STATE ↑t) = 3 ∧ m.from_ ≤ s.now * 65536 + k.toNat ∧ BitVec.toNat m.cfg % 4 = 0 ∧ s.srcSilent (↑t) (srcOf m.src ↑0) = false ∧ s.srcShut (↑t) (srcOf m.src ↑0) ↑(s.now * 65536 + k.toNat) = false ∧ s.tdcPaused (↑t) m.src = false ∧ m.skip0 = 0 ∧ m.cap0 = none ∧ m.cap1 = none) ∧
    (∃ (s : Machine.State) (t : Fin 1056) (k : BitVec 16) (m : Tdc) (a : Nat), s.tdc ↑t = some m ∧ s.get (Reg.TM_STAT.STATE ↑t) = 3 ∧ m.from_ ≤ s.now * 65536 + k.toNat ∧ BitVec.toNat m.cfg % 4 = 0 ∧ s.srcSilent (↑t) (srcOf m.src ↑1) = false ∧ s.srcShut (↑t) (srcOf m.src ↑1) ↑(s.now * 65536 + k.toNat) = false ∧ s.tdcPaused (↑t) m.src = false ∧ m.skip1 = 0 ∧ m.cap0 = some a ∧ m.cap1 = none ∧ m.terms = some (0, 0) ∧ m.owner = none ∧ m.total = m.shots + 1) ∧
    (∃ (s : Machine.State) (t : Fin 1056) (m : Tdc) (b : Nat), s.tdc ↑t = some m ∧ s.get (Reg.TM_STAT.STATE ↑t) = 3 ∧ m.timeout = some b ∧ b ≤ s.now ∧ (¬(m.stale = true ∧ m.shots = 0)) ∧ m.owner = none) ∧
    (∃ (s : Machine.State) (t : Fin 1056) (m : Tdc) (a : Nat), s.tdc ↑t = some m ∧ s.get (Reg.TM_STAT.STATE ↑t) = 3 ∧ BitVec.toNat m.cfg % 4 = 2 ∧ m.gate + BitVec.toNat m.cfg / 2 ^ 48 % 2 ^ 24 ≤ s.now ∧ m.first = some a ∧ 0 < m.count ∧ m.shots + 1 + m.missing < m.total) :=
  ⟨⟨siteSt Mode.RUN 63 Site.ARMED [(Reg.TM_SRC.START 5, 6), (Reg.TM_SRC.STOP 5, 6)], 5, 0xFFFF1#128, by decide +kernel, by decide +kernel, fun n h => by have e := Option.some.inj (h.symm.trans (show _ = some 5 by decide +kernel)); subst e; decide +kernel⟩,
   ⟨siteSt Mode.RUN 63 Site.RUNNING [], 5, 0x11#128, by decide +kernel, by decide +kernel⟩,
   ⟨{ tdcSt 3 tdc0 [] with regs := (stIn Mode.RUN []).regs }, 1055, tdc0, by decide +kernel, by decide +kernel, by decide +kernel⟩,
   ⟨{ tdcSt 1 tdc0 [] with beat := 2 }, 1055, ⟨34816, 68608⟩, tdc0, by decide +kernel, by decide +kernel, by decide +kernel, by decide +kernel⟩,
   ⟨{ tdcSt 1 tdc0 [] with beat := 2 }, 1055, ⟨34817, 68609⟩, tdc0, by decide +kernel, by decide +kernel, by decide +kernel, by decide +kernel, by decide +kernel⟩,
   ⟨tdcSt 3 { tdc0 with src := src6 } [(Reg.TM_STAT.STALE 1055, 1)], 1055, 1, 0xFFFF, { tdc0 with src := src6 }, by decide +kernel, by decide +kernel, by decide +kernel, by decide +kernel, by decide +kernel, by decide +kernel, by decide +kernel⟩,
   ⟨tdcSt 3 { tdc0 with src := src6, skip0 := 1 } [], 1055, 0xFFFF, { tdc0 with src := src6, skip0 := 1 }, by decide +kernel, by decide +kernel, by decide +kernel, by decide +kernel, by decide +kernel, by decide +kernel, by decide +kernel, by decide +kernel⟩,
   ⟨tdcSt 3 { tdc0 with src := src6 } [], 1055, 0xFFFF, { tdc0 with src := src6 }, by decide +kernel, by decide +kernel, by decide +kernel, by decide +kernel, by decide +kernel, by decide +kernel, by decide +kernel, by decide +kernel, by decide +kernel, by decide +kernel⟩,
   ⟨tdcSt 3 { tdc0 with src := src6, cap0 := some 5, terms := some (0, 0) } [], 1055, 0xFFFF, { tdc0 with src := src6, cap0 := some 5, terms := some (0, 0) }, 5, by decide +kernel, by decide +kernel, by decide +kernel, by decide +kernel, by decide +kernel, by decide +kernel, by decide +kernel, by decide +kernel, by decide +kernel, by decide +kernel, by decide +kernel, by decide +kernel, by decide +kernel⟩,
   ⟨tdcSt 3 { tdc0 with timeout := some 0 } [], 1055, { tdc0 with timeout := some 0 }, 0, by decide +kernel, by decide +kernel, by decide +kernel, by decide +kernel, by decide +kernel, by decide +kernel⟩,
   ⟨tdcSt 3 { tdc0 with cfg := 2, first := some 9, count := 1, total := 2 } [], 1055, { tdc0 with cfg := 2, first := some 9, count := 1, total := 2 }, 9, by decide +kernel, by decide +kernel, by decide +kernel, by decide +kernel, by decide +kernel, by decide +kernel, by decide +kernel⟩⟩

/-- Premises of LevelPassages, clause by clause. -/
theorem wit_LevelPassages :
    (∃ (s : Machine.State) (c : Fin 1024) (k : Fin 8) (b : Nat), (s.dac ↑c ↑k).step = some b ∧ b ≤ s.now) ∧
    (∃ (s : Machine.State) (c : Fin 1024) (k : Fin 8) (b : Nat), (s.dac ↑c ↑k).step = some b ∧ s.now < b) ∧
    (∃ (s : Machine.State) (c : Fin 1024) (k : Fin 8) (b : Nat), (s.dac ↑c ↑k).t0 = some b ∧ (s.dac ↑c ↑k).switched = false ∧ (s.dac ↑c ↑k).span < 2 ∧ b + 2 ≤ s.now) ∧
    (∃ (s : Machine.State) (c : Fin 1024) (k : Fin 8) (b : Nat), (s.dac ↑c ↑k).t0 = some b ∧ (s.dac ↑c ↑k).switched = false ∧ (s.dac ↑c ↑k).span < 2 ∧ s.now < b + 2) ∧
    (∃ (s : Machine.State) (c : Fin 1024) (k : Fin 8) (b : Nat), (s.dac ↑c ↑k).t0 = some b ∧ (s.dac ↑c ↑k).switched = true ∧ (s.dac ↑c ↑k).loaded = false ∧ (s.dac ↑c ↑k).span < 2 ∧ b + 102 ≤ s.now) ∧
    (∃ (s : Machine.State) (c : Fin 1024) (k : Fin 8) (b : Nat), (s.dac ↑c ↑k).t0 = some b ∧ (s.dac ↑c ↑k).switched = true ∧ (s.dac ↑c ↑k).loaded = false ∧ (s.dac ↑c ↑k).span < 2 ∧ s.now < b + 102) ∧
    (∃ (s : Machine.State) (c : Fin 1024) (k : Fin 8) (b : Nat), (s.dac ↑c ↑k).t0 = some b ∧ (s.dac ↑c ↑k).loaded = true ∧ b + 104 ≤ s.now ∧ bitOf (s.get (Reg.CH_LVLSTAT.DEFER ↑c)) ↑k = false) ∧
    (∃ (s : Machine.State) (c : Fin 1024) (k : Fin 8) (b : Nat), (s.dac ↑c ↑k).t0 = some b ∧ (s.dac ↑c ↑k).loaded = true ∧ b + 104 ≤ s.now ∧ bitOf (s.get (Reg.CH_LVLSTAT.DEFER ↑c)) ↑k = true ∧ k ≠ 7 ∧ s.get (Reg.CH_LVL.SPAN ↑c ↑k) = s.get (Reg.CH_LVL.OUT_SPAN ↑c ↑k)) ∧
    (∃ (s : Machine.State) (c : Fin 1024) (k : Fin 8) (b : Nat), (s.dac ↑c ↑k).t0 = some b ∧ (s.dac ↑c ↑k).loaded = true ∧ s.now < b + 104) ∧
    (∃ (s : Machine.State) (c : Fin 1024) (b : Nat), (s.pmu ↑c).connectAt = some b ∧ b ≤ s.now ∧ s.flag (Reg.CH_CTRL.OUT_ARM ↑c) = true ∧ s.flag (Reg.CH_STAT.TRIPPED ↑c) = false ∧ (s.pmu ↑c).mode ≠ 0 ∧ (s.pmu ↑c).t0 = none ∧ s.refRunning ↑c = false) ∧
    (∃ (s : Machine.State) (c : Fin 1024) (b : Nat), (s.pmu ↑c).connectAt = some b ∧ s.now < b) ∧
    (∃ (s : Machine.State) (c : Fin 1024) (b : Nat), (s.pmu ↑c).t0 = some b ∧ b + 104 ≤ s.now ∧ (s.pmu ↑c).deferred = false ∧ bitOf (s.get (Reg.CH_LVLSTAT.DEFER ↑c)) 7 = false) ∧
    (∃ (s : Machine.State) (c : Fin 1024) (b : Nat), (s.pmu ↑c).t0 = some b ∧ s.now < b + 104) :=
  ⟨⟨dacSt { Dac.init with step := some 1 } 1 [], 1023, 7, 1, by decide +kernel, by decide +kernel⟩,
   ⟨dacSt { Dac.init with step := some 1 } 0 [], 1023, 7, 1, by decide +kernel, by decide +kernel⟩,
   ⟨dacSt { Dac.init with t0 := some 0, span := 1 } 2 [], 1023, 7, 0, by decide +kernel, by decide +kernel, by decide +kernel, by decide +kernel⟩,
   ⟨dacSt { Dac.init with t0 := some 0, span := 1 } 1 [], 1023, 7, 0, by decide +kernel, by decide +kernel, by decide +kernel, by decide +kernel⟩,
   ⟨dacSt { Dac.init with t0 := some 0, span := 1, switched := true } 102 [], 1023, 7, 0, by decide +kernel, by decide +kernel, by decide +kernel, by decide +kernel, by decide +kernel⟩,
   ⟨dacSt { Dac.init with t0 := some 0, switched := true } 101 [], 1023, 7, 0, by decide +kernel, by decide +kernel, by decide +kernel, by decide +kernel, by decide +kernel⟩,
   ⟨dacSt { Dac.init with t0 := some 0, loaded := true } 104 [], 1023, 7, 0, by decide +kernel, by decide +kernel, by decide +kernel, by decide +kernel⟩,
   ⟨{ (st [(Reg.CH_LVLSTAT.DEFER 1023, 2 ^ 6)]).setDac 1023 6 { Dac.init with t0 := some 0, loaded := true } with beat := 104 }, 1023, 6, 0, by decide +kernel, by decide +kernel, by decide +kernel, by decide +kernel, by decide +kernel, by decide +kernel⟩,
   ⟨dacSt { Dac.init with t0 := some 0, loaded := true } 103 [], 1023, 7, 0, by decide +kernel, by decide +kernel, by decide +kernel⟩,
   ⟨pmuSt { Pmu.init with mode := 1, connectAt := some 1 } 1 [(Reg.CH_CTRL.OUT_ARM 1023, 1)], 1023, 1, by decide +kernel, by decide +kernel, by decide +kernel, by decide +kernel, by decide +kernel, by decide +kernel, by decide +kernel⟩,
   ⟨pmuSt { Pmu.init with connectAt := some 1 } 0 [], 1023, 1, by decide +kernel, by decide +kernel⟩,
   ⟨pmuSt { Pmu.init with t0 := some 0 } 104 [], 1023, 0, by decide +kernel, by decide +kernel, by decide +kernel, by decide +kernel⟩,
   ⟨pmuSt { Pmu.init with t0 := some 0 } 103 [], 1023, 0, by decide +kernel, by decide +kernel⟩⟩

/-- Premises of ParametricMeasurements, clause by clause. -/
theorem wit_ParametricMeasurements :
    (∃ (s : Machine.State) (c : Fin 1024) (w : Word), s.mode ≠ Mode.RESET ∧ s.pmuCmdOk ↑c = true ∧ BitVec.toNat w / 2 ^ 48 % 2 ^ 16 ≠ 0 ∧ s.isMember ↑c = false) ∧
    (∃ (s : Machine.State) (c : Fin 1024) (w : Word), s.mode ≠ Mode.RESET ∧ (s.pmuCmdOk ↑c = false ∨ BitVec.toNat w / 2 ^ 48 % 2 ^ 16 = 0)) ∧
    (∃ (s : Machine.State) (c : Fin 1024) (m : Meas), s.mode ≠ Mode.RESET ∧ s.pmuMeasOf ↑c = some m ∧ m.owner = none) ∧
    (∃ (s : Machine.State) (c : Fin 1024) (m : Meas), s.pmuMeasOf ↑c = some m ∧ m.sampling = false ∧ m.due ≤ s.now ∧ (s.pmu ↑c).t0 = none) ∧
    (∃ (s : Machine.State) (d : Fin 1024) (m : Meas), ↑d < 64 ∧ s.dpsMeasOf ↑d = some m ∧ m.sampling = false ∧ m.due ≤ s.now) ∧
    (∃ (s : Machine.State) (c : Fin 1024) (m : Meas), s.pmuMeasOf ↑c = some m ∧ m.sampling = true ∧ m.due ≤ s.now ∧ s.flag (Reg.CH_PMUSTAT.STALE ↑c) = false ∧ 1 < m.left) ∧
    (∃ (s : Machine.State) (c : Fin 1024) (m : Meas), s.pmuMeasOf ↑c = some m ∧ m.sampling = true ∧ m.due ≤ s.now ∧ s.flag (Reg.CH_PMUSTAT.STALE ↑c) = false ∧ m.left = 1 ∧ m.owner = none) ∧
    (∃ (s : Machine.State) (d : Fin 1024) (m : Meas), ↑d < 64 ∧ s.dpsMeasOf ↑d = some m ∧ m.sampling = true ∧ m.due ≤ s.now ∧ s.flag (Reg.DPS_STAT.STALE ↑d) = false ∧ m.left = 1 ∧ m.owner = none) ∧
    (∃ (s : Machine.State) (c : Fin 1024), s.flag (Reg.CH_PMUSTAT.CONN ↑c) = false) ∧
    (∃ (s : Machine.State) (c : Fin 1024) (k : BitVec 2), s.flag (Reg.CH_PMUSTAT.CONN ↑c) = true ∧ k ≠ 0 ∧ s.flag (Reg.CH_PMUSTAT.COMPLY ↑c) = false) ∧
    (∃ (s : Machine.State) (d : Fin 64), s.flag (Reg.DPS_STAT.CONN ↑d) = false) ∧
    (∃ (s : Machine.State) (d : Fin 64) (k : BitVec 2), s.flag (Reg.DPS_STAT.CONN ↑d) = true ∧ k ≠ 0 ∧ s.flag (Reg.DPS_STAT.COMPLY ↑d) = false) ∧
    (∃ (s : Machine.State) (d : Fin 64) (w : Word), s.mode ≠ Mode.RESET ∧ s.dpsCmdOk ↑d = true ∧ BitVec.toNat w / 2 ^ 48 % 2 ^ 16 ≠ 0) ∧
    (∃ (s : Machine.State) (d : Fin 64) (w : Word), s.mode ≠ Mode.RESET ∧ (s.dpsCmdOk ↑d = false ∨ BitVec.toNat w / 2 ^ 48 % 2 ^ 16 = 0)) ∧
    (∃ (s : Machine.State) (d : Fin 64) (m : Meas), s.mode ≠ Mode.RESET ∧ s.dpsMeasOf ↑d = some m ∧ m.owner = none) :=
  ⟨⟨siteSt Mode.RUN 63 Site.LOADED [(Reg.CH_CTRL.OUT_ARM 5, 1), (Reg.CH_PMU.MODE 5, 1)], 5, BitVec.ofNat 128 (2 ^ 48), by decide +kernel, by decide +kernel, by decide +kernel, by decide +kernel⟩,
   ⟨siteSt Mode.RUN 63 Site.LOADED [(Reg.CH_CTRL.OUT_ARM 5, 1), (Reg.CH_PMU.MODE 5, 1)], 5, 0, by decide +kernel, by decide +kernel⟩,
   ⟨{ stIn Mode.RUN [] with pmuMeas := [(1023, meas0 false 1)] }, 1023, meas0 false 1, by decide +kernel, by decide +kernel, by decide +kernel⟩,
   ⟨{ st [] with pmuMeas := [(1023, meas0 false 1)] }, 1023, meas0 false 1, by decide +kernel, by decide +kernel, by decide +kernel, by decide +kernel⟩,
   ⟨{ st [] with dpsMeas := [(63, meas0 false 1)] }, 63, meas0 false 1, by decide +kernel, by decide +kernel, by decide +kernel, by decide +kernel⟩,
   ⟨{ st [] with pmuMeas := [(1023, meas0 true 2)] }, 1023, meas0 true 2, by decide +kernel, by decide +kernel, by decide +kernel, by decide +kernel, by decide +kernel⟩,
   ⟨{ st [] with pmuMeas := [(1023, meas0 true 1)] }, 1023, meas0 true 1, by decide +kernel, by decide +kernel, by decide +kernel, by decide +kernel, by decide +kernel, by decide +kernel⟩,
   ⟨{ st [] with dpsMeas := [(63, meas0 true 1)] }, 63, meas0 true 1, by decide +kernel, by decide +kernel, by decide +kernel, by decide +kernel, by decide +kernel, by decide +kernel, by decide +kernel⟩,
   ⟨st [], 1023, by decide +kernel⟩,
   ⟨st [(Reg.CH_PMUSTAT.CONN 1023, 1)], 1023, 3, by decide +kernel, by decide +kernel, by decide +kernel⟩,
   ⟨st [], 63, by decide +kernel⟩,
   ⟨st [(Reg.DPS_STAT.CONN 63, 1)], 63, 3, by decide +kernel, by decide +kernel, by decide +kernel⟩,
   ⟨siteSt Mode.RUN 63 Site.ARMED [(Reg.DPS_STAT.CONN 0, 1)], 0, BitVec.ofNat 128 (2 ^ 64 - 1), by decide +kernel, by decide +kernel, by decide +kernel⟩,
   ⟨siteSt Mode.RUN 63 Site.ARMED [], 0, BitVec.ofNat 128 (2 ^ 64 - 1), by decide +kernel, by decide +kernel⟩,
   ⟨{ stIn Mode.RUN [] with dpsMeas := [(63, meas0 false 1)] }, 63, meas0 false 1, by decide +kernel, by decide +kernel, by decide +kernel⟩⟩

/-- Premises of WaveformSources, clause by clause. -/
theorem wit_WaveformSources :
    (∃ (s : Machine.State) (i : Fin 32), BitVec.toNat (s.wf ↑i).ctrl % 4 = 0) ∧
    (∃ (s : Machine.State) (i : Fin 32) (p : Nat) (w : Int), (s.wf ↑i).t0 = none ∧ (BitVec.toNat (s.wf ↑i).ctrl % 4 = 1 ∧ p = (s.wf ↑i).phase ∧ w = 0 ∨ BitVec.toNat (s.wf ↑i).ctrl % 4 = 2 ∧ (p = if (s.wf ↑i).load = true then BitVec.toNat (s.wf ↑i).freq / 2 ^ 64 % 2 ^ 48 else (s.wf ↑i).phase) ∧ w = sineValue p)) ∧
    (∃ (s : Machine.State) (i : Fin 32) (b : Nat), (s.wf ↑i).connectAt = some b ∧ b ≤ s.now) ∧
    (∃ (s : Machine.State) (i : Fin 32) (b : Nat), (s.wf ↑i).connectAt = some b ∧ s.now < b) ∧
    (∃ (s : Machine.State) (i : Fin 32) (b : Nat), (s.wf ↑i).t0 = some b ∧ b + 104 ≤ s.now ∧ s.flag (Reg.WF_STAT.DEFER ↑i) = false) ∧
    (∃ (s : Machine.State) (i : Fin 32) (b : Nat), (s.wf ↑i).t0 = some b ∧ s.now < b + 104) ∧
    (∃ (s : Machine.State) (i : Fin 32), s.mode ≠ Mode.RESET ∧ s.mode ≠ Mode.SAFE ∧ s.mode ≠ Mode.SHUTDOWN ∧ s.flag Reg.PM_STAT.READY = true ∧ s.get (Reg.WF_STAT.TABLE ↑i) ≠ 1 ∧ s.get (Reg.WF_CTRL.MODE ↑i) ≠ 3 ∧ s.clauseActs (Reg.WF_CTRL.word ↑i) = false) ∧
    (∃ (s : Machine.State) (i : Fin 32), s.mode ≠ Mode.RESET ∧ (s.mode = Mode.SAFE ∨ s.mode = Mode.SHUTDOWN ∨ s.flag Reg.PM_STAT.READY = false ∨ s.get (Reg.WF_STAT.TABLE ↑i) = 1 ∨ s.get (Reg.WF_CTRL.MODE ↑i) = 3 ∨ s.clauseActs (Reg.WF_CTRL.word ↑i) = true)) ∧
    (∃ (s : Machine.State) (i : Fin 32) (a : Nat) (k : Nat), (↑i, a, k) ∈ s.wfLoads ∧ (∀ q ∈ s.wfLoads, q.1 = ↑i → q.2 = (a, k)) ∧ s.anyUncorr a 131072 = false) :=
  ⟨⟨st [], 31, by decide +kernel⟩,
   ⟨wfSt { Wf.init with ctrl := 1, phase := 2 ^ 48 - 1 } 0 [], 31, 2 ^ 48 - 1, 0, by decide +kernel, by decide +kernel⟩,
   ⟨wfSt { Wf.init with connectAt := some 1 } 1 [], 31, 1, by decide +kernel, by decide +kernel⟩,
   ⟨wfSt { Wf.init with connectAt := some 1 } 0 [], 31, 1, by decide +kernel, by decide +kernel⟩,
   ⟨wfSt { Wf.init with t0 := some 0 } 104 [], 31, 0, by decide +kernel, by decide +kernel, by decide +kernel⟩,
   ⟨wfSt { Wf.init with t0 := some 0 } 103 [], 31, 0, by decide +kernel, by decide +kernel⟩,
   ⟨stIn Mode.RUN [(Reg.PM_STAT.READY, 1)], 31, by decide +kernel, by decide +kernel, by decide +kernel, by decide +kernel, by decide +kernel, by decide +kernel, by decide +kernel⟩,
   ⟨stIn Mode.SAFE [(Reg.PM_STAT.READY, 1)], 31, by decide +kernel, by decide +kernel⟩,
   ⟨{ st [] with wfLoads := [(31, (pmSize - 131072, 3))] }, 31, pmSize - 131072, 3, by decide +kernel, by decide +kernel, by decide +kernel⟩⟩

/-- Premises of SupplyRamps, clause by clause. -/
theorem wit_SupplyRamps :
    (∃ (s : Machine.State) (d : Fin 64) (b : Nat), (s.dps ↑d).delay = some b ∧ b ≤ s.now) ∧
    (∃ (s : Machine.State) (d : Fin 64), (s.dps ↑d).delay = none ∧ (s.dps ↑d).target ≠ (s.dps ↑d).goal ∧ (s.dps ↑d).next ≤ s.now) ∧
    (∃ (s : Machine.State) (d : Fin 64) (v : Int), (s.dps ↑d).offAt ≠ none ∧ v ≤ 50) ∧
    (∃ (s : Machine.State) (d : Fin 64) (v : Int), ((s.dps ↑d).offAt = none ∨ 50 < v)) ∧
    (∃ (s : Machine.State) (d : Fin 64) (b : Nat), (s.dps ↑d).offAt = some b ∧ b + 10000 ≤ s.now) ∧
    (∃ (s : Machine.State) (d : Fin 64) (b : Nat), (s.dps ↑d).offAt = some b ∧ s.now < b + 10000 ∧ s.tb.refPresent = true) ∧
    (∃ (s : Machine.State) (d : Fin 64), s.mode ≠ Mode.RESET ∧ s.gangChans ↑d = [↑d] ∧ s.checkCmdOk ↑d = true) ∧
    (∃ (s : Machine.State) (d : Fin 64), s.mode ≠ Mode.RESET ∧ s.gangChans ↑d = [↑d] ∧ s.checkCmdOk ↑d = false) ∧
    (∃ (s : Machine.State) (d : Fin 64), s.gangChans ↑d = [↑d] ∧ (s.dps ↑d).check ≠ none) :=
  ⟨⟨dpsSt { Dps.init with delay := some 0 } 0 [], 63, 0, by decide +kernel, by decide +kernel⟩,
   ⟨dpsSt { Dps.init with goal := 1 } 0 [], 63, by decide +kernel, by decide +kernel, by decide +kernel⟩,
   ⟨dpsSt { Dps.init with offAt := some 0 } 0 [], 63, 50, by decide +kernel, by decide +kernel⟩,
   ⟨dpsSt { Dps.init with offAt := some 0 } 0 [], 63, 51, by decide +kernel⟩,
   ⟨dpsSt { Dps.init with offAt := some 0 } 10000 [], 63, 0, by decide +kernel, by decide +kernel⟩,
   ⟨dpsSt { Dps.init with offAt := some 0 } 9999 [], 63, 0, by decide +kernel, by decide +kernel, by decide +kernel⟩,
   ⟨siteSt Mode.STANDBY 63 Site.LOADED [], 0, by decide +kernel, by decide +kernel, by decide +kernel⟩,
   ⟨siteSt Mode.SHAPE 63 Site.LOADED [], 0, by decide +kernel, by decide +kernel, by decide +kernel⟩,
   ⟨dpsSt { Dps.init with check := some 0 } 0 [], 63, by decide +kernel, by decide +kernel⟩⟩

/-- Premises of GuardTrips, clause by clause. -/
theorem wit_GuardTrips :
    (∃ (s : Machine.State) (c : Fin 1024) (k : Fin 6), s.guardActs ↑c ↑k = true ∧ s.compChans ↑c = [↑c] ∧ s.leadOf ↑c = ↑c ∧ s.flag (Reg.CH_GCFG.QUAL ↑c) = false ∧ s.flag (Reg.CH_GCFG.DPS_LINK ↑c) = false ∧ s.tdcs = [] ∧ s.pmuMeas = [] ∧ (∀ (n : Nat), s.chanSite ↑c = some n → n < 64 ∧ (s.seq n).clause = none)) ∧
    (∃ (s : Machine.State) (c : Fin 1024) (k : Fin 6), (s.guardActs ↑c ↑k = false ∨ s.flag (Reg.CH_GCFG.QUAL (s.leadOf ↑c)) = true)) ∧
    (∃ (s : Machine.State) (d : Fin 1024) (k : Fin 6), ↑d < 64 ∧ ↑k < 2 ∧ s.dpsGuardActs ↑d ↑k = true ∧ s.gangChans ↑d = [↑d] ∧ s.gangLead ↑d = ↑d ∧ s.flag (Reg.GD_DCFG.QUAL ↑d) = false ∧ s.flag (Reg.GD_DCFG.CH_LINK ↑d) = false ∧ s.dpsMeas = [] ∧ s.tdcs = [] ∧ s.pmuMeas = [] ∧ (∀ (n : Nat), s.dpsSite ↑d = some n → n < 64 ∧ (s.seq n).clause = none)) ∧
    (∃ (s : Machine.State) (d : Fin 1024) (k : Fin 6), ↑d < 64 ∧ ↑k < 2 ∧ s.dpsGuardActs ↑d ↑k = false) ∧
    (∃ (s : Machine.State) (c : Fin 1024) (k : Fin 6), ↑k < 2 ∧ s.chEffMode ↑c = 0 ∧ s.get (Reg.CH_GCFG.BLANK (s.leadOf ↑c)) ≠ 0) ∧
    (∃ (s : Machine.State) (c : Fin 1024) (k : Fin 6), (2 ≤ ↑k ∨ s.chEffMode ↑c ≠ 0 ∨ s.get (Reg.CH_GCFG.BLANK (s.leadOf ↑c)) = 0)) ∧
    (∃ (s : Machine.State) (d : Fin 64) (i : Instr × Nat), i ∈ [(Instr.negvTrip d, 4), (Instr.senseTrip d, 8)] ∧ s.flag (Reg.DPS_STAT.CONN ↑d) = false) ∧
    (∃ (s : Machine.State) (d : Fin 64) (i : Instr × Nat), i ∈ [(Instr.negvTrip d, 4), (Instr.senseTrip d, 8)] ∧ s.flag (Reg.DPS_STAT.CONN ↑d) = true ∧ s.gangChans ↑d = [↑d] ∧ s.gangLead ↑d = ↑d ∧ s.flag (Reg.GD_DCFG.CH_LINK ↑d) = false ∧ s.dpsMeas = [] ∧ s.tdcs = [] ∧ s.pmuMeas = [] ∧ (∀ (n : Nat), s.dpsSite ↑d = some n → n < 64 ∧ (s.seq n).clause = none)) ∧
    (∃ (s : Machine.State) (c : Fin 1024), s.now % 10 ^ s.get (Reg.CH_GCFG.RATE (s.leadOf ↑c)) ≠ 0) ∧
    (∃ (s : Machine.State) (c : Fin 1024), s.now % 10 ^ s.get (Reg.CH_GCFG.RATE (s.leadOf ↑c)) = 0 ∧ s.flag (Reg.CH_GCFG.QUAL (s.leadOf ↑c)) = false ∧ s.get (Reg.CH_GSTAT.UNRES ↑c) = 0 ∧ (s.chan ↑c).unresHi = false ∧ (s.chan ↑c).unresLo = false) :=
  ⟨⟨siteSt Mode.RUN 63 Site.LOADED [(Reg.CH_GSTAT.UNRES 5, 0)], 5, 5, by decide +kernel, by decide +kernel, by decide +kernel, by decide +kernel, by decide +kernel, by decide +kernel, by decide +kernel, fun n h => by have e := Option.some.inj (h.symm.trans (show _ = some 63 by decide +kernel)); subst e; decide +kernel⟩,
   ⟨st [], 1023, 5, by decide +kernel⟩,
   ⟨siteSt Mode.RUN 63 Site.LOADED [(Reg.GD_DSTAT.UNRES 0, 0), (Reg.GD_DCFG.EN_IH 0, 1), (Reg.GD_DCFG.EN_IL 0, 1)], 0, 1, by decide +kernel, by decide +kernel, by decide +kernel, by decide +kernel, by decide +kernel, by decide +kernel, by decide +kernel, by decide +kernel, by decide +kernel, by decide +kernel, fun n h => by have e := Option.some.inj (h.symm.trans (show _ = some 63 by decide +kernel)); subst e; decide +kernel⟩,
   ⟨st [], 63, 1, by decide +kernel, by decide +kernel, by decide +kernel⟩,
   ⟨siteSt Mode.RUN 63 Site.RUNNING [(Reg.CH_GCFG.BLANK 5, 1)], 5, 1, by decide +kernel, by decide +kernel, by decide +kernel⟩,
   ⟨siteSt Mode.RUN 63 Site.RUNNING [(Reg.CH_GCFG.BLANK 5, 1)], 5, 2, by decide +kernel⟩,
   ⟨st [], 63, (.senseTrip 63, 8), by decide +kernel, by decide +kernel⟩,
   ⟨siteSt Mode.RUN 63 Site.LOADED [(Reg.DPS_STAT.CONN 0, 1)], 0, (.negvTrip 0, 4), by decide +kernel, by decide +kernel, by decide +kernel, by decide +kernel, by decide +kernel, by decide +kernel, by decide +kernel, by decide +kernel, fun n h => by have e := Option.some.inj (h.symm.trans (show _ = some 63 by decide +kernel)); subst e; decide +kernel⟩,
   ⟨{ st [(Reg.CH_GCFG.RATE 1023, 1)] with beat := 1 }, 1023, by decide +kernel⟩,
   ⟨(st [(Reg.CH_GCFG.RATE 1023, 3), (Reg.CH_GSTAT.UNRES 1023, 0)]).setChan 1023 { Chan.init with unresHi := false, unresLo := false }, 1023, by decide +kernel, by decide +kernel, by decide +kernel, by decide +kernel, by decide +kernel⟩⟩

/-- Premises of GuardClears, clause by clause. -/
theorem wit_GuardClears :
    (∃ (s : Machine.State) (c : Fin 1024), s.mode ≠ Mode.RESET ∧ s.allClearable (s.compChans ↑c) [] = true ∧ s.compChans ↑c = [↑c]) ∧
    (∃ (s : Machine.State) (c : Fin 1024), s.mode ≠ Mode.RESET ∧ s.allClearable (s.compChans ↑c) [] = false) ∧
    (∃ (s : Machine.State) (d : Fin 64), s.mode ≠ Mode.RESET ∧ s.allClearable [] (s.gangChans ↑d) = true ∧ s.gangChans ↑d = [↑d] ∧ s.get (Reg.GD_DSTAT.CAUSE ↑d) ≠ 0) ∧
    (∃ (s : Machine.State) (d : Fin 64), s.mode ≠ Mode.RESET ∧ s.allClearable [] (s.gangChans ↑d) = false) ∧
    (∃ (s : Machine.State) (n : Fin 64), s.mode ≠ Mode.RESET ∧ (∀ c ∈ s.siteChans ↑n, c < 1024) ∧ (∀ d ∈ s.siteSupplies ↑n, d < 64) ∧ s.allClearable (s.siteChans ↑n) (s.siteSupplies ↑n) = true) ∧
    (∃ (s : Machine.State) (n : Fin 64), s.mode ≠ Mode.RESET ∧ (∀ c ∈ s.siteChans ↑n, c < 1024) ∧ (∀ d ∈ s.siteSupplies ↑n, d < 64) ∧ s.allClearable (s.siteChans ↑n) (s.siteSupplies ↑n) = false) :=
  ⟨⟨stIn Mode.RUN [(Reg.CH_GSTAT.CAUSE 1023, 32)], 1023, by decide +kernel, by decide +kernel, by decide +kernel⟩,
   ⟨stIn Mode.RUN [(Reg.CH_GSTAT.CAUSE 1023, 64)], 1023, by decide +kernel, by decide +kernel⟩,
   ⟨stIn Mode.RUN [(Reg.GD_DSTAT.CAUSE 63, 8)], 63, by decide +kernel, by decide +kernel, by decide +kernel, by decide +kernel⟩,
   ⟨{ stIn Mode.RUN [(Reg.GD_DSTAT.CAUSE 63, 8)] with dpss := [(63, { Dps.init with cond := 2 })] }, 63, by decide +kernel, by decide +kernel⟩,
   ⟨siteSt Mode.RUN 63 Site.TRIPPED [(Reg.CH_GSTAT.CAUSE 5, 1), (Reg.CH_GSTAT.CAUSE 6, 128)], 63, by decide +kernel, by decide +kernel, by decide +kernel, by decide +kernel⟩,
   ⟨siteSt Mode.RUN 63 Site.TRIPPED [(Reg.CH_GSTAT.CAUSE 5, 64)], 63, by decide +kernel, by decide +kernel, by decide +kernel, by decide +kernel⟩⟩

/-- Premises of SelfAndContactChecks, clause by clause. -/
theorem wit_SelfAndContactChecks :
    (∃ (s : Machine.State) (c : Fin 1024), s.mode ≠ Mode.RESET ∧ s.selfcheckOk ↑c = true) ∧
    (∃ (s : Machine.State) (c : Fin 1024), s.mode ≠ Mode.RESET ∧ s.selfcheckOk ↑c = false) ∧
    (∃ (s : Machine.State) (c : Fin 1024) (b : Nat), (s.gd ↑c).selfDue = some b ∧ s.now < b) ∧
    (∃ (s : Machine.State) (c : Fin 1024) (b : Nat), (s.gd ↑c).selfDue = some b ∧ b ≤ s.now ∧ s.get (Reg.CH_GSTAT.CAUSE ↑c) = 64 ∧ s.siteRetired (s.chanSite ↑c) = false) ∧
    (∃ (s : Machine.State) (c : Fin 1024) (g : BitVec 8) (b : Nat), (s.gd ↑c).selfDue = some b ∧ b ≤ s.now ∧ g ≠ 255 ∧ s.chanSite ↑c = none ∧ s.compChans ↑c = [↑c] ∧ s.leadOf ↑c = ↑c ∧ s.tdcs = [] ∧ s.pmuMeas = []) ∧
    (∃ (s : Machine.State), s.mode ≠ Mode.RESET ∧ s.mode = Mode.CONTACT ∧ s.contact = none ∧ (∀ c ∈ s.contactChans, c < 1024) ∧ (∀ d ∈ s.contactSupplies, d < 64 ∧ s.gangChans d = [d])) ∧
    (∃ (s : Machine.State), s.mode ≠ Mode.RESET ∧ (s.mode ≠ Mode.CONTACT ∨ s.contact ≠ none)) ∧
    (∃ (s : Machine.State) (k : Contact) (o : List ContactObs), s.contact = some k ∧ (s.now < k.due ∨ (∃ d ∈ k.supplies, (s.dps d).check ≠ none) ∨ ∃ c ∈ k.chans, ∀ x ∈ o, ↑x.chan ≠ c)) ∧
    (∃ (s : Machine.State) (k : Contact) (o : ContactObs), s.contact = some k ∧ k.due ≤ s.now ∧ k.supplies = [] ∧ k.chans = [↑o.chan]) :=
  ⟨⟨stIn Mode.SAFE [], 1023, by decide +kernel, by decide +kernel⟩,
   ⟨siteSt Mode.RUN 63 Site.ARMED [], 5, by decide +kernel, by decide +kernel⟩,
   ⟨{ st [] with gds := [(1023, { Gd.init with selfDue := some 1 })] }, 1023, 1, by decide +kernel, by decide +kernel⟩,
   ⟨{ st [(Reg.CH_GSTAT.CAUSE 1023, 64)] with gds := [(1023, { Gd.init with selfDue := some 0 })] }, 1023, 0, by decide +kernel, by decide +kernel, by decide +kernel, by decide +kernel⟩,
   ⟨{ st [] with gds := [(1023, { Gd.init with selfDue := some 0 })] }, 1023, 254, 0, by decide +kernel, by decide +kernel, by decide +kernel, by decide +kernel, by decide +kernel, by decide +kernel, by decide +kernel, by decide +kernel⟩,
   ⟨siteSt Mode.CONTACT 63 Site.LOADED [], by decide +kernel, by decide +kernel, by decide +kernel, by decide +kernel, by decide +kernel⟩,
   ⟨stIn Mode.RUN [], by decide +kernel, by decide +kernel⟩,
   ⟨{ stIn Mode.CONTACT [] with contact := some ⟨[5], [], 0, 1⟩ }, ⟨[5], [], 0, 1⟩, [], by decide +kernel, by decide +kernel⟩,
   ⟨{ stIn Mode.CONTACT [] with contact := some ⟨[1023], [], 0, 0⟩ }, ⟨[1023], [], 0, 0⟩, ⟨1023, 255, 0, [], none, 0⟩, by decide +kernel, by decide +kernel, by decide +kernel, by decide +kernel⟩⟩

/-- A restore of quadrant 3. -/
def restoreRun : CalRun := ⟨4, 8, false, 0, 0, [], []⟩
/-- A restore is in progress; of the byte at `k` both copies hold `x`. -/
def nvmSt (k : Nat) (x : Byte) : State :=
  { State.reset with cal := { CalSt.init with run := some restoreRun }, nvm := [(k, x), (65536 + k, x)] }

theorem nvmSt_bytes (a n : Nat) (x : Byte) (c : Nat) (hc : c < 2) (h : a + n < 65536) :
    (nvmSt (a + n) x).nvmBytes c a (n + 1) = List.replicate n 0xFF ++ [x] := by
  unfold State.nvmBytes
  rw [List.range_succ, List.map_append]
  have e1 : (List.range n).map (fun i => (nvmSt (a + n) x).nvmByte c (a + i)) = List.replicate n 0xFF := by
    apply List.eq_replicate_iff.2
    refine ⟨by simp, fun b hb => ?_⟩
    obtain ⟨i, hi, rfl⟩ := List.mem_map.1 hb
    have := List.mem_range.1 hi
    have h1 : c * 65536 + (a + i) % 65536 ≠ a + n := by omega
    have h2 : c * 65536 + (a + i) % 65536 ≠ 65536 + (a + n) := by omega
    simp only [State.nvmByte, nvmSt, sget, if_neg h1, if_neg h2]
  have e2 : (nvmSt (a + n) x).nvmByte c (a + n) = x := by
    have h1 : (a + n) % 65536 = a + n := by omega
    simp only [State.nvmByte, nvmSt, sget, h1]
    obtain rfl | rfl : c = 0 ∨ c = 1 := by omega
    · rw [if_pos (by omega)]
    · rw [if_neg (by omega), if_pos (by omega)]
  rw [e1, List.map_singleton, e2]

/-- Of two records that differ in their last byte, one has a bad CRC. -/
theorem crc_differs (l : List Byte) (h : 3 ≤ l.length) (hx : crcGood (l ++ [0]) = true) : crcGood (l ++ [1]) = false := by
  unfold crcGood at *
  have e : ∀ y : Byte, (l ++ [y]).length - 4 = l.length - 3 := by simp
  simp only [e, beq_iff_eq, beq_eq_false_iff_ne, ne_eq] at *
  rw [List.take_append_of_le_length (by omega), List.drop_append_of_le_length (by omega)] at *
  rw [hx]
  generalize List.drop (l.length - 3) l = d
  have : ∀ d : List Byte, leNat (d ++ [0]) ≠ leNat (d ++ [1]) := by
    intro d
    induction d with
    | nil => decide
    | cons b t ih => simp only [List.cons_append, leNat]; omega
  exact this d

/-- Some state has no record of quadrant 3 to restore. -/
theorem nothing_stored : ∃ s : State, s.cal.run = some restoreRun ∧ s.calStored 3 = none := by
  have hb := fun x c hc => nvmSt_bytes (0x3200 * 3) 0x3103 x c hc (by omega)
  have key : ∀ x, crcGood (List.replicate 0x3103 0xFF ++ [x]) = false → (nvmSt (0x3200 * 3 + 0x3103) x).calStored 3 = none := by
    intro x hx
    unfold State.calStored State.nvmRecord
    rw [hb x 0 (by omega), hb x 1 (by omega), hx]
    rfl
  cases h : crcGood (List.replicate 0x3103 0xFF ++ [0]) with
  | false => exact ⟨nvmSt _ 0, rfl, key 0 h⟩
  | true => exact ⟨nvmSt _ 1, rfl, key 1 (crc_differs _ (by rw [List.length_replicate]; omega) h)⟩
/-- A reference calibration, of all quadrants, due at beat 1. -/
def refRun : CalRun := ⟨1, 15, false, 0, 1, [], []⟩
/-- What it finds of the references: `v` µV, a divisor of 1 and the device offset `o`. -/
def refObs (v o : Int) : RefRun := ⟨v, some 1, o, [], [], [], []⟩
/-- It is in progress in the device with a voltage reference of 100 µV; the beat is `b`. -/
def calSt (r : CalRun) (b : Nat) : State :=
  { stIn Mode.REFCAL [(Reg.CAL_STAT.BUSY, 1), (Reg.CAL_REF.CALV_UV, 100), (Reg.CAL_REF.CALT_DIV, 1)] with cal := { CalSt.init with run := some r }, beat := BitVec.ofNat 64 b }
/-- Quadrant `q` holds `k`. -/
def quadSt (q : Nat) (k : CalQ) (b : Nat) (l : List (Fld × Nat)) : State :=
  { siteSt Mode.RUN 63 Site.RUNNING l with cal := { CalSt.init with quads := [(q, k)] }, beat := BitVec.ofNat 64 b }
/-- A training block of 128 bits with the given 80 bits between its mark and its CRC (R408). -/
def lineOf (body : Nat) : Word := BitVec.ofNat 128 (blockMark * 2 ^ 96 + body * 2 ^ 16 + crcNat 16 0x1021 80 body 0xFFFF)
/-- Lane 31 is in state `v`, phase `p`, and holds `k`; the beat is `b`. -/
def laneSt (v p : Nat) (k : Lane) (b : Nat) (l : List (Fld × Nat)) : State :=
  { st ([(Reg.DL_STAT.STATE 31, v), (Reg.DL_STAT.PHASE 31, p)] ++ l) with lanes := [(31, k)], beat := BitVec.ofNat 64 b }
/-- A tile's identity record as far as its kind goes. -/
def tileRec : List Byte := [0, 0, 0, 0, 0, 0, 1]

/-- Premises of CalibrationCommands, clause by clause. -/
theorem wit_CalibrationCommands :
    (∃ (s : Machine.State) (p : Port) (w : Word) (i : Instr × Nat × Nat × Nat), s.mode ≠ Mode.RESET ∧ i ∈ [(Instr.refcalRun p w, 1, 4, 4698112), (Instr.restore p w, 4, 5, 102400)] ∧ s.refcalOk (BitVec.toNat w / 2 ^ 8 % 16) (if i.2.1 = 1 then [Mode.REFCAL] else [Mode.REFCAL, Mode.STANDBY]) = true) ∧
    (∃ (s : Machine.State) (p : Port) (w : Word) (i : Instr × Nat × Nat × Nat), s.mode ≠ Mode.RESET ∧ i ∈ [(Instr.refcalRun p w, 1, 4, 4698112), (Instr.restore p w, 4, 5, 102400)] ∧ s.refcalOk (BitVec.toNat w / 2 ^ 8 % 16) (if i.2.1 = 1 then [Mode.REFCAL] else [Mode.REFCAL, Mode.STANDBY]) = true) ∧
    (∃ (s : Machine.State) (w : Word), s.mode ≠ Mode.RESET ∧ s.refcalOk (BitVec.toNat w / 2 ^ 8 % 16) [Mode.REFCAL] = false) ∧
    (∃ (s : Machine.State) (w : Word), s.mode ≠ Mode.RESET ∧ s.refcalOk (BitVec.toNat w / 2 ^ 8 % 16) [Mode.REFCAL, Mode.STANDBY] = false) ∧
    (∃ (s : Machine.State) (r : CalRun), s.mode ≠ Mode.RESET ∧ s.cal.run = some r ∧ r.cmd = 1 ∧ s.now < r.due) ∧
    (∃ (s : Machine.State) (r : CalRun), s.mode ≠ Mode.RESET ∧ s.cal.run = some r ∧ (r.cmd ≠ 1 ∨ r.due ≤ s.now)) ∧
    (∃ (s : Machine.State), s.mode ≠ Mode.RESET ∧ s.flag Reg.CAL_STAT.BUSY = true) ∧
    (∃ (s : Machine.State) (w : Word), s.mode ≠ Mode.RESET ∧ s.mode ≠ Mode.SAFE ∧ s.mode ≠ Mode.SHUTDOWN ∧ s.flag Reg.CAL_STAT.BUSY = false ∧ (∀ (q : Fin 4), bitOf (BitVec.toNat w / 2 ^ 8 % 16) ↑q = true → s.calibrated ↑q = true)) ∧
    (∃ (s : Machine.State) (r : CalRun) (q : Nat) (qs : List Nat), s.cal.run = some r ∧ r.cmd = 3 ∧ r.left = q :: qs) ∧
    (∃ (s : Machine.State) (r : CalRun) (q : Fin 4), s.cal.run = some r ∧ r.cmd = 4 ∧ bitOf r.qmask ↑q = true ∧ s.calStored ↑q = none) ∧
    (∃ (s : Machine.State) (r : CalRun) (o : RefRun), s.cal.run = some r ∧ r.cmd = 1 ∧ s.get Reg.CAL_REF.CALV_UV * 2 < 100 * (o.calv - ↑(s.get Reg.CAL_REF.CALV_UV)).natAbs) ∧
    (∃ (s : Machine.State) (r : CalRun) (o : RefRun), s.cal.run = some r ∧ r.cmd = 1 ∧ 100 * (o.calv - ↑(s.get Reg.CAL_REF.CALV_UV)).natAbs ≤ s.get Reg.CAL_REF.CALV_UV * 2 ∧ o.calt ≠ some (s.get Reg.CAL_REF.CALT_DIV)) ∧
    (∃ (s : Machine.State) (r : CalRun) (o : RefRun), s.cal.run = some r ∧ r.cmd = 1 ∧ 100 * (o.calv - ↑(s.get Reg.CAL_REF.CALV_UV)).natAbs ≤ s.get Reg.CAL_REF.CALV_UV * 2 ∧ o.calt = some (s.get Reg.CAL_REF.CALT_DIV) ∧ s.now < r.due) ∧
    (∃ (s : Machine.State) (r : CalRun) (o : RefRun), s.cal.run = some r ∧ r.cmd = 1 ∧ 100 * (o.calv - ↑(s.get Reg.CAL_REF.CALV_UV)).natAbs ≤ s.get Reg.CAL_REF.CALV_UV * 2 ∧ o.calt = some (s.get Reg.CAL_REF.CALT_DIV) ∧ r.due ≤ s.now ∧ (o.devOfs < -1024 ∨ 1023 < o.devOfs)) ∧
    (∃ (s : Machine.State) (r : CalRun) (o : RefRun), s.cal.run = some r ∧ r.cmd = 1 ∧ 100 * (o.calv - ↑(s.get Reg.CAL_REF.CALV_UV)).natAbs ≤ s.get Reg.CAL_REF.CALV_UV * 2 ∧ o.calt = some (s.get Reg.CAL_REF.CALT_DIV) ∧ r.due ≤ s.now ∧ -1024 ≤ o.devOfs ∧ o.devOfs ≤ 1023) :=
  ⟨⟨stIn Mode.REFCAL [(Reg.TB_STAT.PLL_LOCK, 1), (Reg.MP_STAT.LIM_VALID, 1)], .cp, 0xF00, (.refcalRun .cp 0xF00, 1, 4, 4698112), by decide +kernel, by decide +kernel, by decide +kernel⟩,
   ⟨stIn Mode.STANDBY [(Reg.TB_STAT.PLL_LOCK, 1), (Reg.MP_STAT.LIM_VALID, 1)], .cp, 0xF00, (.restore .cp 0xF00, 4, 5, 102400), by decide +kernel, by decide +kernel, by decide +kernel⟩,
   ⟨stIn Mode.STANDBY [(Reg.TB_STAT.PLL_LOCK, 1), (Reg.MP_STAT.LIM_VALID, 1)], 0xF00, by decide +kernel, by decide +kernel⟩,
   ⟨stIn Mode.RUN [(Reg.TB_STAT.PLL_LOCK, 1), (Reg.MP_STAT.LIM_VALID, 1)], 0xF00, by decide +kernel, by decide +kernel⟩,
   ⟨calSt refRun 0, refRun, by decide +kernel, by decide +kernel, by decide +kernel, by decide +kernel⟩,
   ⟨calSt refRun 1, refRun, by decide +kernel, by decide +kernel, by decide +kernel⟩,
   ⟨calSt refRun 1, by decide +kernel, by decide +kernel⟩,
   ⟨stIn Mode.RUN [(Reg.CAL_Q.STATE 3, 1)], 0x800, by decide +kernel, by decide +kernel, by decide +kernel, by decide +kernel, by decide +kernel⟩,
   ⟨calSt { refRun with cmd := 3, left := [3] } 0, { refRun with cmd := 3, left := [3] }, 3, [], by decide +kernel, by decide +kernel, by decide +kernel⟩,
   (by obtain ⟨s, h1, h2⟩ := nothing_stored; exact ⟨s, restoreRun, 3, h1, by decide, by decide, h2⟩),
   ⟨calSt refRun 1, refRun, refObs 103 0, by decide +kernel, by decide +kernel, by decide +kernel⟩,
   ⟨calSt refRun 1, refRun, { refObs 102 0 with calt := some 2 }, by decide +kernel, by decide +kernel, by decide +kernel, by decide +kernel⟩,
   ⟨calSt refRun 0, refRun, refObs 98 0, by decide +kernel, by decide +kernel, by decide +kernel, by decide +kernel, by decide +kernel⟩,
   ⟨calSt refRun 1, refRun, refObs 102 1024, by decide +kernel, by decide +kernel, by decide +kernel, by decide +kernel, by decide +kernel, by decide +kernel⟩,
   ⟨calSt refRun 1, refRun, refObs 102 (-1024), by decide +kernel, by decide +kernel, by decide +kernel, by decide +kernel, by decide +kernel, by decide +kernel, by decide +kernel⟩⟩

/-- Premises of LiveCalibration, clause by clause. -/
theorem wit_LiveCalibration :
    (∃ (s : Machine.State) (q : Fin 4) (b : Nat) (k : Nat), (s.calQ ↑q).pend = some (b, k) ∧ s.now < b) ∧
    (∃ (s : Machine.State) (q : Fin 4) (b : Nat) (k : Nat), (s.calQ ↑q).pend = some (b, k) ∧ b ≤ s.now ∧ s.liveOk ↑q = true ∧ s.get (Reg.CAL_Q.STATE ↑q) = 1) ∧
    (∃ (s : Machine.State) (q : Fin 4) (b : Nat) (k : Nat), (s.calQ ↑q).pend = some (b, k) ∧ b ≤ s.now ∧ s.liveOk ↑q = false) ∧
    (∃ (s : Machine.State) (q : Fin 4), (s.get (Reg.CAL_Q.STATE ↑q) ≠ 2 ∨ s.now < (s.calQ ↑q).start + 102400)) ∧
    (∃ (s : Machine.State) (q : Fin 4) (o : TransferObs), s.get (Reg.CAL_Q.STATE ↑q) = 2 ∧ (s.calQ ↑q).start + 102400 ≤ s.now ∧ o.kind = 0 ∧ o.unit < 1024 ∧ o.unit / 256 = ↑q ∧ 2 ^ 20 < 1000 * (o.gain - (s.calCh o.unit).gainRef).natAbs) ∧
    (∃ (s : Machine.State) (c : Fin 1024) (o : List (Fin 1024 × Int)) (n : Nat) (r : TRun), s.get (Reg.CAL_Q.STATE (↑c / 256)) = 3 ∧ s.chanSite ↑c = some n ∧ (s.calQ (↑c / 256)).counts (s.streamOf n) s.now = true ∧ (s.calQ (↑c / 256)).times = [r] ∧ r.chan = ↑c ∧ r.fin = false ∧ o.Nodup ∧ (∀ p ∈ o, p.1 ≠ c ∧ groupIn (s.calQ (↑c / 256)).groups ↑p.1 = groupIn (s.calQ (↑c / 256)).groups ↑c ∧ ↑p.1 / 256 ≠ ↑c / 256) ∧ Reg.CAL_CTRL.MIN_REF.of (s.calQ (↑c / 256)).ctrl ≤ o.length ∧ r.n + 1 < Reg.CAL_CTRL.MIN_EDGES.of (s.calQ (↑c / 256)).ctrl) ∧
    (∃ (s : Machine.State) (c : Fin 1024), s.slotDue ↑c = false) ∧
    (∃ (s : Machine.State) (c : Fin 1024) (n : Nat), s.slotDue ↑c = true ∧ s.chanSite ↑c = some n ∧ s.flag (Reg.SO_SITE_STAT.IN_STREAM n) = true ∧ s.get (Reg.CAL_Q.STATE (↑c / 256)) ≠ 3) ∧
    (∃ (s : Machine.State) (q : Fin 4), s.get (Reg.CAL_Q.STATE ↑q) ≠ 2 ∧ s.get (Reg.CAL_Q.STATE ↑q) ≠ 3) ∧
    (∃ (s : Machine.State) (q : Fin 4), (s.get (Reg.CAL_Q.STATE ↑q) = 2 ∨ s.get (Reg.CAL_Q.STATE ↑q) = 3) ∧ s.liveOk ↑q = false) ∧
    (∃ (s : Machine.State) (q : Fin 4), s.get (Reg.CAL_Q.STATE ↑q) = 3 ∧ s.liveOk ↑q = true ∧ (s.calQ ↑q).winEnd ≤ s.now ∧ (∀ r ∈ (s.calQ ↑q).levels, r.own = false) ∧ (∀ r ∈ (s.calQ ↑q).times, r.fin = true)) :=
  ⟨⟨quadSt 3 { CalQ.init with pend := some (1, 0) } 0 [], 3, 1, 0, by decide +kernel, by decide +kernel⟩,
   ⟨quadSt 3 { CalQ.init with pend := some (1, 0) } 1 [(Reg.CAL_CTRL.LIVE_EN, 1), (Reg.CAL_Q.STATE 3, 1)], 3, 1, 0, by decide +kernel, by decide +kernel, by decide +kernel, by decide +kernel⟩,
   ⟨quadSt 3 { CalQ.init with pend := some (1, 0) } 1 [], 3, 1, 0, by decide +kernel, by decide +kernel, by decide +kernel⟩,
   ⟨quadSt 3 CalQ.init 102399 [(Reg.CAL_Q.STATE 3, 2)], 3, by decide +kernel⟩,
   ⟨quadSt 3 CalQ.init 102400 [(Reg.CAL_Q.STATE 3, 2)], 3, ⟨0, 1023, 1049, 0, []⟩, by decide +kernel, by decide +kernel, by decide +kernel, by decide +kernel, by decide +kernel, by decide +kernel⟩,
   ⟨quadSt 0 { CalQ.init with counting := [(63, 0)], times := [⟨5, 0, 0, 0, false⟩] } 0 [(Reg.CAL_Q.STATE 0, 3)], 5, (List.range 16).map (fun i => (⟨1008 + i % 16, by omega⟩, 0)), 63, ⟨5, 0, 0, 0, false⟩, by decide +kernel, by decide +kernel, by decide +kernel, by decide +kernel, by decide +kernel, by decide +kernel, by decide +kernel, by decide +kernel, by decide +kernel, by decide +kernel⟩,
   ⟨st [], 1023, by decide +kernel⟩,
   ⟨quadSt 0 CalQ.init 1 [(Reg.SO_SITE_STAT.IN_STREAM 63, 1)], 5, 63, by decide +kernel, by decide +kernel, by decide +kernel, by decide +kernel⟩,
   ⟨st [(Reg.CAL_Q.STATE 3, 1)], 3, by decide +kernel, by decide +kernel⟩,
   ⟨st [(Reg.CAL_Q.STATE 3, 3)], 3, by decide +kernel, by decide +kernel⟩,
   ⟨quadSt 3 CalQ.init 0 [(Reg.CAL_CTRL.LIVE_EN, 1), (Reg.CAL_Q.STATE 3, 3)], 3, by decide +kernel, by decide +kernel, by decide +kernel, by decide +kernel, by decide +kernel⟩⟩

/-- Premises of LedgerRecords, clause by clause. -/
theorem wit_LedgerRecords :
    (∃ (s : Machine.State) (r : PendRec) (rs : List PendRec), s.gapDrops = 0 ∧ s.pendRecs = r :: rs ∧ r.due ≤ s.now ∧ s.lgFull = false) ∧
    (∃ (s : Machine.State) (r : PendRec) (rs : List PendRec), s.pendRecs = r :: rs ∧ r.due ≤ s.now ∧ s.lgFull = true ∧ measKind (wget r.word 101 98) = false) ∧
    (∃ (s : Machine.State), s.gapDrops ≠ 0 ∧ s.lgFull = false) ∧
    (∃ (s : Machine.State), (s.gapDrops = 0 ∨ s.lgFull = true) ∧ (∀ r ∈ s.pendRecs, s.now < r.due)) ∧
    (∃ (s : Machine.State), s.burst = none ∧ s.flag Reg.LG_OVF.EN = true ∧ s.lgMig + 256 ≤ s.lgHead + s.ringCap ∧ s.lgMig + s.get Reg.LG_CFG.MIG_WM ≤ s.lgTail) ∧
    (∃ (s : Machine.State), s.burst = none ∧ s.flag Reg.LG_OVF.EN = true ∧ s.lgMig + 256 ≤ s.lgHead + s.ringCap ∧ s.lgTail < s.lgMig + s.get Reg.LG_CFG.MIG_WM) ∧
    (∃ (s : Machine.State), (s.burst ≠ none ∨ s.flag Reg.LG_OVF.EN = false ∨ s.lgHead + s.ringCap < s.lgMig + 256)) ∧
    (∃ (s : Machine.State) (start : Nat) (k : Nat), s.burst = some (start, k) ∧ k ≤ s.ringCap ∧ s.get Reg.LG_OVF.BASE + 16 * s.ringCap ≤ 2 ^ 35) :=
  ⟨⟨{ st [] with pendRecs := [⟨0, 0, 0⟩] }, ⟨0, 0, 0⟩, [], by decide +kernel, by decide +kernel, by decide +kernel, by decide +kernel⟩,
   ⟨{ st [(Reg.LG_SEQ.TAIL, lgSlots)] with pendRecs := [⟨0, 0, 0⟩] }, ⟨0, 0, 0⟩, [], by decide +kernel, by decide +kernel, by decide +kernel, by decide +kernel⟩,
   ⟨{ st [(Reg.LG_SEQ.TAIL, lgSlots - 1)] with gap := true, gapDrops := 1 }, by decide +kernel, by decide +kernel⟩,
   ⟨{ st [] with pendRecs := [⟨1, 0, 0⟩] }, by decide +kernel, by decide +kernel⟩,
   ⟨st [(Reg.LG_OVF.EN, 1), (Reg.LG_OVF.SIZE, 1), (Reg.LG_CFG.MIG_WM, 256), (Reg.LG_SEQ.TAIL, 256)], by decide +kernel, by decide +kernel, by decide +kernel, by decide +kernel⟩,
   ⟨st [(Reg.LG_OVF.EN, 1), (Reg.LG_OVF.SIZE, 1), (Reg.LG_CFG.MIG_WM, 256), (Reg.LG_SEQ.TAIL, 255)], by decide +kernel, by decide +kernel, by decide +kernel, by decide +kernel⟩,
   ⟨st [(Reg.LG_OVF.EN, 1), (Reg.LG_OVF.SIZE, 1), (Reg.LG_SEQ.MIG, 1)], by decide +kernel⟩,
   ⟨{ st [(Reg.LG_OVF.EN, 1), (Reg.LG_OVF.SIZE, 1), (Reg.LG_OVF.BASE, 2 ^ 35 - 4096)] with burst := some (0, 256) }, 0, 256, by decide +kernel, by decide +kernel, by decide +kernel⟩⟩

/-- Premises of LedgerPointersAndRing, clause by clause. -/
theorem wit_LedgerPointersAndRing :
    (∃ (s : Machine.State) (w : Word), s.mode ≠ Mode.RESET ∧ s.lgHead ≤ BitVec.toNat w % 2 ^ 64 ∧ BitVec.toNat w % 2 ^ 64 ≤ s.lgTail) ∧
    (∃ (s : Machine.State) (w : Word), (BitVec.toNat w % 2 ^ 64 < s.lgHead ∨ s.lgTail < BitVec.toNat w % 2 ^ 64 ∨ s.mode = Mode.RESET)) ∧
    (∃ (s : Machine.State) (w : Word), s.mode ≠ Mode.RESET ∧ s.lgMig = s.lgHead ∧ Reg.LG_OVF.EN.of w = 1 ∧ s.flag Reg.LG_OVF.EN = false ∧ Reg.LG_OVF.BASE.of w % 4096 = 0 ∧ (s.regionOf 3 (Reg.LG_OVF.BASE.of w) (Reg.LG_OVF.SIZE.of w * 4096)).isSome = true) ∧
    (∃ (s : Machine.State) (w : Word), s.mode ≠ Mode.RESET ∧ s.lgMig = s.lgHead ∧ Reg.LG_OVF.EN.of w = 0) ∧
    (∃ (s : Machine.State) (w : Word), (s.mode = Mode.RESET ∨ s.lgMig ≠ s.lgHead ∨ Reg.LG_OVF.EN.of w = 1 ∧ (s.flag Reg.LG_OVF.EN = true ∨ Reg.LG_OVF.BASE.of w % 4096 ≠ 0 ∨ (s.regionOf 3 (Reg.LG_OVF.BASE.of w) (Reg.LG_OVF.SIZE.of w * 4096)).isSome = false))) ∧
    (∃ (s : Machine.State) (p : Port) (i : Instr), s.mode = Mode.RESET ∧ i ∈ [Instr.lgCmdClear p, Instr.lgCmdRelease p]) :=
  ⟨⟨stIn Mode.RUN [(Reg.LG_SEQ.TAIL, 5)], 5, by decide +kernel, by decide +kernel, by decide +kernel⟩,
   ⟨stIn Mode.RUN [(Reg.LG_SEQ.TAIL, 5)], 6, by decide +kernel⟩,
   ⟨stIn Mode.RUN [(Reg.PM_RGN.VALID 0, 1), (Reg.PM_RGN.KIND 0, 3), (Reg.PM_RGN.SIZE 0, 1)], 0x10001, by decide +kernel, by decide +kernel, by decide +kernel, by decide +kernel, by decide +kernel, by decide +kernel⟩,
   ⟨stIn Mode.RUN [], 0, by decide +kernel, by decide +kernel, by decide +kernel⟩,
   ⟨stIn Mode.RUN [], 0x10001, by decide +kernel⟩,
   ⟨st [], .cp, .lgCmdRelease .cp, by decide +kernel, by decide +kernel⟩⟩

/-- Premises of Snapshots, clause by clause. -/
theorem wit_Snapshots :
    (∃ (s : Machine.State) (w : Word), s.mode ≠ Mode.RESET ∧ s.snapsPending < 8 ∧ Reg.LG_SNAP.MULTI.of w = 0 ∧ s.cntValid = true ∧ s.now + 2 ≤ Reg.LG_SNAP.BEAT.of w) ∧
    (∃ (s : Machine.State) (w : Word), s.mode ≠ Mode.RESET ∧ s.snapsPending < 8 ∧ Reg.LG_SNAP.MULTI.of w = 1 ∧ s.role = Role.ROOT ∧ s.locked = true ∧ Reg.LG_SNAP.TAG.of w ≠ 0 ∧ s.cntValid = true ∧ s.now + (128 + 64 * (s.get Reg.TB_STAT.HOP + 1)) ≤ Reg.LG_SNAP.BEAT.of w) ∧
    (∃ (s : Machine.State) (w : Word), (s.mode = Mode.RESET ∨ 8 ≤ s.snapsPending ∨ s.cntValid = false ∨ Reg.LG_SNAP.BEAT.of w < s.now + 2 ∨ Reg.LG_SNAP.MULTI.of w = 1 ∧ (s.role ≠ Role.ROOT ∨ s.locked = false ∨ Reg.LG_SNAP.TAG.of w = 0))) ∧
    (∃ (s : Machine.State) (f : BitVec 64) (x : BitVec 64) (off : Fin 64), s.Receives f off Fk.SNAPSHOT x ∧ s.tb.snapOrigin = [] ∧ s.locked = true ∧ s.snapsPending < 8) ∧
    (∃ (s : Machine.State) (f : BitVec 64) (x : BitVec 64) (off : Fin 64), s.Receives f off Fk.SNAPSHOT x ∧ s.tb.snapOrigin = [] ∧ s.locked = false) ∧
    (∃ (s : Machine.State) (p : PendSnap), List.filter (fun q => decide (q.beat ≤ s.hkReadings.now)) s.hkReadings.snaps = [p] ∧ p.tag < 2 ^ 16 ∧ s.hkReadings.flag Reg.LG_SNAPSTAT.LOCKED = false) ∧
    (∃ (s : Machine.State) (p : PendSnap), List.filter (fun q => decide (q.beat ≤ s.hkReadings.now)) s.hkReadings.snaps = [p] ∧ p.tag < 2 ^ 16 ∧ s.hkReadings.flag Reg.LG_SNAPSTAT.LOCKED = true) ∧
    (∃ (s : Machine.State) (p : PendSnap) (q : PendSnap), List.filter (fun q => decide (q.beat ≤ s.hkReadings.now)) s.hkReadings.snaps = [p, q] ∧ p.tag < 2 ^ 16 ∧ q.tag < 2 ^ 16 ∧ s.hkReadings.flag Reg.LG_SNAPSTAT.LOCKED = false) ∧
    (∃ (s : Machine.State), (∀ p ∈ s.hkReadings.snaps, s.hkReadings.now < p.beat)) :=
  ⟨⟨stIn Mode.RUN [(Reg.TB_STAT.CNT_VALID, 1)], BitVec.ofNat 128 (2 * 2 ^ 64), by decide +kernel, by decide +kernel, by decide +kernel, by decide +kernel, by decide +kernel⟩,
   ⟨stIn Mode.RUN [(Reg.TB_STAT.CNT_VALID, 1), (Reg.TB_CTRL.ROLE, 2), (Reg.TB_STAT.LOCK, 2)], BitVec.ofNat 128 (192 * 2 ^ 64 + 2 ^ 32 + 3), by decide +kernel, by decide +kernel, by decide +kernel, by decide +kernel, by decide +kernel, by decide +kernel, by decide +kernel, by decide +kernel⟩,
   ⟨stIn Mode.RUN [(Reg.TB_STAT.CNT_VALID, 1)], BitVec.ofNat 128 (2 ^ 64), by decide +kernel⟩,
   ⟨stIn Mode.RUN [(Reg.TB_CTRL.ROLE, 1), (Reg.TB_CTRL.SYNC_EN, 1), (Reg.TB_STAT.LOCK, 2)], mkFrame Fk.SNAPSHOT (7 * 2 ^ 24 + 200), mkFrame Fk.SNAPSHOT (7 * 2 ^ 24 + 200), 0, by unfold State.Receives; decide +kernel, by decide +kernel, by decide +kernel, by decide +kernel⟩,
   ⟨stIn Mode.RUN [(Reg.TB_CTRL.ROLE, 1), (Reg.TB_CTRL.SYNC_EN, 1), (Reg.TB_STAT.LOCK, 1)], mkFrame Fk.SNAPSHOT (7 * 2 ^ 24 + 200), mkFrame Fk.SNAPSHOT (7 * 2 ^ 24 + 200), 0, by unfold State.Receives; decide +kernel, by decide +kernel, by decide +kernel⟩,
   ⟨{ stIn Mode.RUN [] with snaps := [⟨0, 65535, true⟩] }, ⟨0, 65535, true⟩, by decide +kernel, by decide +kernel, by decide +kernel⟩,
   ⟨{ stIn Mode.RUN [(Reg.LG_SNAPSTAT.LOCKED, 1)] with snaps := [⟨0, 65535, true⟩] }, ⟨0, 65535, true⟩, by decide +kernel, by decide +kernel, by decide +kernel⟩,
   ⟨{ stIn Mode.RUN [] with snaps := [⟨0, 1, true⟩, ⟨0, 65535, false⟩] }, ⟨0, 1, true⟩, ⟨0, 65535, false⟩, by decide +kernel, by decide +kernel, by decide +kernel, by decide +kernel⟩,
   ⟨{ stIn Mode.RUN [] with snaps := [⟨1, 0, false⟩] }, by decide +kernel⟩⟩

/-- Premises of LaneTraining, clause by clause. -/
theorem wit_LaneTraining :
    (∃ (s : Machine.State) (l : Fin 32), (s.laneState ↑l ≠ Ln.TRAIN ∨ (s.lane ↑l).retryAt ≠ none)) ∧
    (∃ (s : Machine.State) (l : Fin 32) (raw : Word), s.laneState ↑l = Ln.TRAIN ∧ (s.lane ↑l).retryAt = none ∧ (s.lane ↑l).aligned = false ∧ blockOk (s.lineBlock (↑l) raw) = true) ∧
    (∃ (s : Machine.State) (l : Fin 32) (raw : Word), s.laneState ↑l = Ln.TRAIN ∧ (s.lane ↑l).retryAt = none ∧ (s.lane ↑l).aligned = false ∧ blockOk (s.lineBlock (↑l) raw) = false ∧ (s.flag (Reg.DL_CTRL.AUTO_POL ↑l) = false ∨ blockOk (~~~s.lineBlock (↑l) raw) = false)) ∧
    (∃ (s : Machine.State) (l : Fin 32) (raw : Word), s.laneState ↑l = Ln.TRAIN ∧ (s.lane ↑l).retryAt = none ∧ (s.lane ↑l).aligned = false ∧ blockOk (s.lineBlock (↑l) raw) = false ∧ s.flag (Reg.DL_CTRL.AUTO_POL ↑l) = true ∧ blockOk (~~~s.lineBlock (↑l) raw) = true ∧ (s.lane ↑l).runInv = 3) ∧
    (∃ (s : Machine.State) (l : Fin 32) (raw : Word) (p : Nat), s.trains (↑l) p ∧ (s.lane ↑l).aligned = true ∧ (blockOk (s.lineBlock (↑l) raw) = false ∨ wget (s.lineBlock (↑l) raw) 95 92 = 0 ∨ 6 < wget (s.lineBlock (↑l) raw) 95 92 ∨ 7 < wget (s.lineBlock (↑l) raw) 91 88)) ∧
    (∃ (s : Machine.State) (l : Fin 32) (raw : Word) (p : Nat), s.trains (↑l) p ∧ (s.lane ↑l).aligned = true ∧ blockOk (s.lineBlock (↑l) raw) = true ∧ 1 ≤ wget (s.lineBlock (↑l) raw) 95 92 ∧ wget (s.lineBlock (↑l) raw) 95 92 ≤ 6 ∧ wget (s.lineBlock (↑l) raw) 91 88 ≤ 7) ∧
    (∃ (s : Machine.State) (l : Fin 32), s.trains (↑l) 3 ∧ (s.lane ↑l).cd ≠ 0) ∧
    (∃ (s : Machine.State) (l : Fin 32), s.trains (↑l) 3 ∧ (s.lane ↑l).cd = 0) ∧
    (∃ (s : Machine.State) (l : Fin 32), (s.laneState ↑l ≠ Ln.TRAIN ∨ s.get (Reg.DL_STAT.PHASE ↑l) ≠ 3)) ∧
    (∃ (s : Machine.State) (l : Fin 32) (r : Nat), s.trains (↑l) 4 ∧ (s.lane ↑l).next = some r ∧ r < 8 ∧ (s.lane ↑l).gapEnd ≤ s.now) ∧
    (∃ (s : Machine.State) (l : Fin 32) (r : Nat), s.trains (↑l) 4 ∧ (s.lane ↑l).next = some r ∧ r < 8 ∧ s.now < (s.lane ↑l).gapEnd) ∧
    (∃ (s : Machine.State) (l : Fin 32), s.trains (↑l) 1 ∧ (s.lane ↑l).eqAt + wget (s.lane ↑l).trnWord 63 32 ≤ s.now) ∧
    (∃ (s : Machine.State) (l : Fin 32), s.trains (↑l) 1 ∧ s.now < (s.lane ↑l).eqAt + wget (s.lane ↑l).trnWord 63 32) :=
  ⟨⟨laneSt 1 0 { Lane.init with retryAt := some 0 } 0 [], 31, by decide +kernel⟩,
   ⟨laneSt 1 0 Lane.init 0 [], 31, lineOf 0, by decide +kernel, by decide +kernel, by decide +kernel, by decide +kernel⟩,
   ⟨laneSt 1 0 Lane.init 0 [(Reg.DL_CTRL.AUTO_POL 31, 0)], 31, ~~~(lineOf 0), by decide +kernel, by decide +kernel, by decide +kernel, by decide +kernel, by decide +kernel⟩,
   ⟨laneSt 1 0 { Lane.init with runInv := 3 } 0 [(Reg.DL_CTRL.AUTO_POL 31, 1)], 31, ~~~(lineOf 0), by decide +kernel, by decide +kernel, by decide +kernel, by decide +kernel, by decide +kernel, by decide +kernel, by decide +kernel⟩,
   ⟨laneSt 1 0 { Lane.init with aligned := true } 0 [], 31, lineOf (7 * 2 ^ 76), 0, by unfold State.trains; decide +kernel, by decide +kernel, by decide +kernel⟩,
   ⟨laneSt 1 4 { Lane.init with aligned := true } 0 [], 31, lineOf (6 * 2 ^ 76 + 7 * 2 ^ 72), 4, by unfold State.trains; decide +kernel, by decide +kernel, by decide +kernel, by decide +kernel, by decide +kernel, by decide +kernel⟩,
   ⟨laneSt 1 3 { Lane.init with cd := 1 } 0 [], 31, by unfold State.trains; decide +kernel, by decide +kernel⟩,
   ⟨laneSt 1 3 Lane.init 0 [], 31, by unfold State.trains; decide +kernel, by decide +kernel⟩,
   ⟨laneSt 1 2 Lane.init 0 [], 31, by decide +kernel⟩,
   ⟨laneSt 1 4 { Lane.init with next := some 7, gapEnd := 5 } 5 [], 31, 7, by unfold State.trains; decide +kernel, by decide +kernel, by decide +kernel, by decide +kernel⟩,
   ⟨laneSt 1 4 { Lane.init with next := some 7, gapEnd := 5 } 4 [], 31, 7, by unfold State.trains; decide +kernel, by decide +kernel, by decide +kernel, by decide +kernel⟩,
   ⟨laneSt 1 1 { Lane.init with eqAt := 5 } 5 [], 31, by unfold State.trains; decide +kernel, by decide +kernel⟩,
   ⟨laneSt 1 1 { Lane.init with eqAt := 5 } 4 [], 31, by unfold State.trains; decide +kernel, by decide +kernel⟩⟩

/-- Premises of LaneFailures, clause by clause. -/
theorem wit_LaneFailures :
    (∃ (s : Machine.State) (l : Fin 32) (b : Nat), s.laneState ↑l = Ln.TRAIN ∧ s.get (Reg.DL_STAT.PHASE ↑l) ≤ 1 ∧ (s.lane ↑l).deadline = some b ∧ b ≤ s.now ∧ s.get (Reg.DL_STAT.RATE ↑l) = 0 ∧ (s.lane ↑l).anyGood = false) ∧
    (∃ (s : Machine.State) (l : Fin 32) (b : Nat) (c : Instr × Fld × Nat), s.laneState ↑l = Ln.TRAIN ∧ (s.lane ↑l).retryAt = none ∧ c ∈ [(Instr.trainWinExpiry l, Reg.DL_STAT.STEPFAIL ↑l, Ev.LANE_STEPFAIL), (Instr.ackWinExpiry l, Reg.DL_STAT.STEPFAIL ↑l, Ev.LANE_STEPFAIL), (Instr.laneLost l, Reg.DL_STAT.LOST ↑l, Ev.LANE_LOST)] ∧ (c.1 = Instr.trainWinExpiry l → s.get (Reg.DL_STAT.PHASE ↑l) ≤ 1 ∧ (s.lane ↑l).deadline = some b ∧ b ≤ s.now ∧ (s.get (Reg.DL_STAT.RATE ↑l) ≠ 0 ∨ (s.lane ↑l).anyGood = true)) ∧ (c.1 = Instr.ackWinExpiry l → s.get (Reg.DL_STAT.PHASE ↑l) = 2 ∧ (s.lane ↑l).deadline = some b ∧ b ≤ s.now) ∧ (c.1 = Instr.laneLost l → (s.lane ↑l).anyGood = true ∧ s.flag (Reg.DL_STAT.LOS ↑l) = true ∧ (s.lane ↑l).losAt + 100 ≤ s.now ∧ ∀ (e : Nat), (s.lane ↑l).swEnd = some e → e + 300 ≤ s.now)) ∧
    (∃ (s : Machine.State) (l : Fin 32) (b : Nat) (c : Instr × Fld × Nat), s.laneState ↑l = Ln.TRAIN ∧ (s.lane ↑l).retryAt = none ∧ c ∈ [(Instr.trainWinExpiry l, Reg.DL_STAT.STEPFAIL ↑l, Ev.LANE_STEPFAIL), (Instr.ackWinExpiry l, Reg.DL_STAT.STEPFAIL ↑l, Ev.LANE_STEPFAIL), (Instr.laneLost l, Reg.DL_STAT.LOST ↑l, Ev.LANE_LOST)] ∧ (c.1 = Instr.trainWinExpiry l → s.get (Reg.DL_STAT.PHASE ↑l) ≤ 1 ∧ (s.lane ↑l).deadline = some b ∧ b ≤ s.now ∧ (s.get (Reg.DL_STAT.RATE ↑l) ≠ 0 ∨ (s.lane ↑l).anyGood = true)) ∧ (c.1 = Instr.ackWinExpiry l → s.get (Reg.DL_STAT.PHASE ↑l) = 2 ∧ (s.lane ↑l).deadline = some b ∧ b ≤ s.now) ∧ (c.1 = Instr.laneLost l → (s.lane ↑l).anyGood = true ∧ s.flag (Reg.DL_STAT.LOS ↑l) = true ∧ (s.lane ↑l).losAt + 100 ≤ s.now ∧ ∀ (e : Nat), (s.lane ↑l).swEnd = some e → e + 300 ≤ s.now)) ∧
    (∃ (s : Machine.State) (l : Fin 32) (b : Nat) (c : Instr × Fld × Nat), s.laneState ↑l = Ln.TRAIN ∧ (s.lane ↑l).retryAt = none ∧ c ∈ [(Instr.trainWinExpiry l, Reg.DL_STAT.STEPFAIL ↑l, Ev.LANE_STEPFAIL), (Instr.ackWinExpiry l, Reg.DL_STAT.STEPFAIL ↑l, Ev.LANE_STEPFAIL), (Instr.laneLost l, Reg.DL_STAT.LOST ↑l, Ev.LANE_LOST)] ∧ (c.1 = Instr.trainWinExpiry l → s.get (Reg.DL_STAT.PHASE ↑l) ≤ 1 ∧ (s.lane ↑l).deadline = some b ∧ b ≤ s.now ∧ (s.get (Reg.DL_STAT.RATE ↑l) ≠ 0 ∨ (s.lane ↑l).anyGood = true)) ∧ (c.1 = Instr.ackWinExpiry l → s.get (Reg.DL_STAT.PHASE ↑l) = 2 ∧ (s.lane ↑l).deadline = some b ∧ b ≤ s.now) ∧ (c.1 = Instr.laneLost l → (s.lane ↑l).anyGood = true ∧ s.flag (Reg.DL_STAT.LOS ↑l) = true ∧ (s.lane ↑l).losAt + 100 ≤ s.now ∧ ∀ (e : Nat), (s.lane ↑l).swEnd = some e → e + 300 ≤ s.now)) ∧
    (∃ (s : Machine.State) (l : Fin 32) (i : Instr), (s.laneState ↑l ≠ Ln.TRAIN ∨ (s.lane ↑l).deadline = none ∧ s.flag (Reg.DL_STAT.LOS ↑l) = false) ∧ i ∈ [Instr.trainWinExpiry l, Instr.ackWinExpiry l, Instr.laneLost l]) ∧
    (∃ (s : Machine.State) (l : Fin 32) (b : Nat), s.laneState ↑l = Ln.TRAIN ∧ (s.lane ↑l).retryAt = some b ∧ b ≤ s.now) ∧
    (∃ (s : Machine.State) (l : Fin 32) (b : Nat), s.laneState ↑l = Ln.TRAIN ∧ (s.lane ↑l).retryAt = some b ∧ s.now < b) ∧
    (∃ (s : Machine.State) (l : Fin 32), s.laneState ↑l ≠ Ln.OFF ∧ s.laneState ↑l ≠ Ln.PARKED) ∧
    (∃ (s : Machine.State) (l : Fin 32), s.laneState ↑l = Ln.OFF) ∧
    (∃ (s : Machine.State) (l : Fin 32), (s.laneState ↑l = Ln.OFF ∨ s.laneState ↑l = Ln.PARKED)) ∧
    (∃ (s : Machine.State) (l : Fin 32), s.laneState ↑l = Ln.UP ∧ (s.flag (Reg.DL_STAT.LOS ↑l) = true ∧ (s.lane ↑l).losAt + 100 ≤ s.now ∨ s.flag (Reg.DL_STAT.LOL ↑l) = true ∧ (s.lane ↑l).lolAt + 100 ≤ s.now)) ∧
    (∃ (s : Machine.State) (l : Fin 32), s.laneState ↑l = Ln.UP ∧ (s.flag (Reg.DL_STAT.LOS ↑l) = true ∧ (s.lane ↑l).losAt + 100 ≤ s.now ∨ s.flag (Reg.DL_STAT.LOL ↑l) = true ∧ (s.lane ↑l).lolAt + 100 ≤ s.now)) ∧
    (∃ (s : Machine.State) (l : Fin 32), (s.laneState ↑l ≠ Ln.UP ∨ s.flag (Reg.DL_STAT.LOS ↑l) = false ∧ s.flag (Reg.DL_STAT.LOL ↑l) = false)) ∧
    (∃ (s : Machine.State) (l : Fin 32), s.laneState ↑l = Ln.LOCKING ∧ s.flag (Reg.DL_STAT.LOL ↑l) = false ∧ (s.lane ↑l).lolAt + 100 ≤ s.now) ∧
    (∃ (s : Machine.State) (l : Fin 32), s.laneState ↑l = Ln.LOCKING ∧ s.flag (Reg.DL_STAT.LOL ↑l) = false ∧ s.now < (s.lane ↑l).lolAt + 100) :=
  ⟨⟨laneSt 1 1 { Lane.init with deadline := some 5 } 5 [(Reg.DL_STAT.RATE 31, 0)], 31, 5, by decide +kernel, by decide +kernel, by decide +kernel, by decide +kernel, by decide +kernel, by decide +kernel⟩,
   ⟨laneSt 1 1 { Lane.init with deadline := some 5, anyGood := true } 5 [], 31, 5, (.trainWinExpiry 31, Reg.DL_STAT.STEPFAIL 31, Ev.LANE_STEPFAIL), by decide +kernel, by decide +kernel, by decide +kernel, by decide +kernel, by decide +kernel, fun h => absurd h (by decide +kernel)⟩,
   ⟨laneSt 1 2 { Lane.init with deadline := some 5 } 5 [], 31, 5, (.ackWinExpiry 31, Reg.DL_STAT.STEPFAIL 31, Ev.LANE_STEPFAIL), by decide +kernel, by decide +kernel, by decide +kernel, by decide +kernel, by decide +kernel, fun h => absurd h (by decide +kernel)⟩,
   ⟨laneSt 1 1 { Lane.init with anyGood := true } 100 [(Reg.DL_STAT.LOS 31, 1)], 31, 5, (.laneLost 31, Reg.DL_STAT.LOST 31, Ev.LANE_LOST), by decide +kernel, by decide +kernel, by decide +kernel, by decide +kernel, by decide +kernel, fun _ => ⟨by decide +kernel, by decide +kernel, by decide +kernel, fun n h => absurd (h.symm.trans (show _ = none by decide +kernel)) (by simp)⟩⟩,
   ⟨laneSt 1 1 Lane.init 0 [], 31, .laneLost 31, by decide +kernel, by decide +kernel⟩,
   ⟨laneSt 1 0 { Lane.init with retryAt := some 5 } 5 [], 31, 5, by decide +kernel, by decide +kernel, by decide +kernel⟩,
   ⟨laneSt 1 0 { Lane.init with retryAt := some 5 } 4 [], 31, 5, by decide +kernel, by decide +kernel, by decide +kernel⟩,
   ⟨laneSt 4 0 Lane.init 0 [], 31, by decide +kernel, by decide +kernel⟩,
   ⟨laneSt 0 0 Lane.init 0 [], 31, by decide +kernel⟩,
   ⟨laneSt 3 0 Lane.init 0 [], 31, by decide +kernel⟩,
   ⟨laneSt 2 0 Lane.init 100 [(Reg.DL_STAT.LOS 31, 1)], 31, by decide +kernel, by decide +kernel⟩,
   ⟨laneSt 2 0 Lane.init 100 [(Reg.DL_STAT.LOL 31, 1)], 31, by decide +kernel, by decide +kernel⟩,
   ⟨laneSt 2 0 Lane.init 100 [(Reg.DL_STAT.LOS 31, 0), (Reg.DL_STAT.LOL 31, 0)], 31, by decide +kernel⟩,
   ⟨laneSt 4 0 Lane.init 100 [(Reg.DL_STAT.LOL 31, 0)], 31, by decide +kernel, by decide +kernel, by decide +kernel⟩,
   ⟨laneSt 4 0 Lane.init 99 [(Reg.DL_STAT.LOL 31, 0)], 31, by decide +kernel, by decide +kernel, by decide +kernel⟩⟩

/-- Premises of LaneAdaptationAndChecker, clause by clause. -/
theorem wit_LaneAdaptationAndChecker :
    (∃ (s : Machine.State) (l : Fin 32), s.adapts ↑l = false) ∧
    (∃ (s : Machine.State) (l : Fin 32), s.adapts ↑l = true ∧ (s.flag (Reg.DL_EQ.SNAP_VALID ↑l) = false ∨ (s.lane ↑l).cmpLeft = 0)) ∧
    (∃ (s : Machine.State) (l : Fin 32) (o : AdaptObs), s.adapts ↑l = true ∧ s.flag (Reg.DL_EQ.SNAP_VALID ↑l) = true ∧ (s.lane ↑l).cmpLeft ≠ 0 ∧ s.excursion (↑l) o.ctle.toNat (List.foldl (fun m i => m + fieldOf 8 (o.taps.getD i 0) * 2 ^ (8 * i)) 0 (List.range 5)) = 0) ∧
    (∃ (s : Machine.State) (l : Fin 32) (o : AdaptObs), s.adapts ↑l = true ∧ s.flag (Reg.DL_EQ.SNAP_VALID ↑l) = true ∧ (s.lane ↑l).cmpLeft ≠ 0 ∧ s.excursion (↑l) o.ctle.toNat (List.foldl (fun m i => m + fieldOf 8 (o.taps.getD i 0) * 2 ^ (8 * i)) 0 (List.range 5)) ≠ 0) ∧
    (∃ (s : Machine.State) (l : Fin 32), s.flag (Reg.DL_STAT.FROZEN ↑l) = false) ∧
    (∃ (s : Machine.State) (l : Fin 32), s.flag (Reg.DL_STAT.FROZEN ↑l) = true) ∧
    (∃ (s : Machine.State) (l : Fin 32), s.laneState ↑l = Ln.UP ∧ s.get (Reg.DL_RX.CHK_PAT ↑l) ≠ 0 ∧ s.flag (Reg.DL_STAT.SYNC ↑l) = true) ∧
    (∃ (s : Machine.State) (l : Fin 32), (s.laneState ↑l ≠ Ln.UP ∨ s.get (Reg.DL_RX.CHK_PAT ↑l) = 0) ∧ s.flag (Reg.DL_STAT.SYNC ↑l) = false) ∧
    (∃ (s : Machine.State) (l : Fin 32), (s.laneState ↑l ≠ Ln.UP ∨ s.get (Reg.DL_RX.CHK_PAT ↑l) = 0) ∧ s.ltests = []) ∧
    (∃ (s : Machine.State) (l : Fin 32) (x : LTest), s.ltests = [(↑l, x)] ∧ x.owner < 64 ∧ x.due ≤ s.now) ∧
    (∃ (s : Machine.State) (l : Fin 32) (x : LTest), s.ltests = [(↑l, x)] ∧ x.owner < 64 ∧ s.now < x.due ∧ s.laneState ↑l ≠ Ln.UP) :=
  ⟨⟨laneSt 2 0 Lane.init 0 [(Reg.DL_RX.ADAPT 31, 0)], 31, by decide +kernel⟩,
   ⟨laneSt 2 0 Lane.init 0 [(Reg.DL_RX.ADAPT 31, 1), (Reg.DL_STAT.FROZEN 31, 0)], 31, by decide +kernel, by decide +kernel⟩,
   ⟨laneSt 2 0 { Lane.init with cmpLeft := 1 } 0 [(Reg.DL_RX.ADAPT 31, 1), (Reg.DL_STAT.FROZEN 31, 0), (Reg.DL_EQ.SNAP_VALID 31, 1), (Reg.DL_EQSET.EXC_CTLE 31, 2), (Reg.DL_EQSET.EXC_TAP 31, 2)], 31, ⟨2, [2, -2, 0, 0, 0]⟩, by decide +kernel, by decide +kernel, by decide +kernel, by decide +kernel⟩,
   ⟨laneSt 2 0 { Lane.init with cmpLeft := 1 } 0 [(Reg.DL_RX.ADAPT 31, 1), (Reg.DL_STAT.FROZEN 31, 0), (Reg.DL_EQ.SNAP_VALID 31, 1), (Reg.DL_EQSET.EXC_CTLE 31, 2), (Reg.DL_EQSET.EXC_TAP 31, 2)], 31, ⟨3, [3, -3, 0, 0, 0]⟩, by decide +kernel, by decide +kernel, by decide +kernel, by decide +kernel⟩,
   ⟨laneSt 2 0 Lane.init 0 [(Reg.DL_STAT.FROZEN 31, 0)], 31, by decide +kernel⟩,
   ⟨laneSt 2 0 Lane.init 0 [(Reg.DL_STAT.FROZEN 31, 1)], 31, by decide +kernel⟩,
   ⟨laneSt 2 0 Lane.init 0 [(Reg.DL_RX.CHK_PAT 31, 1), (Reg.DL_STAT.SYNC 31, 1)], 31, by decide +kernel, by decide +kernel, by decide +kernel⟩,
   ⟨laneSt 1 0 Lane.init 0 [], 31, by decide +kernel, by decide +kernel⟩,
   ⟨laneSt 2 0 Lane.init 0 [(Reg.DL_RX.CHK_PAT 31, 0)], 31, by decide +kernel, by decide +kernel⟩,
   ⟨{ laneSt 2 0 Lane.init 5 [] with ltests := [(31, ⟨63, 5, 0, 0, none⟩)] }, 31, ⟨63, 5, 0, 0, none⟩, by decide +kernel, by decide +kernel, by decide +kernel⟩,
   ⟨{ laneSt 1 0 Lane.init 4 [] with ltests := [(31, ⟨63, 5, 0, 0, none⟩)] }, 31, ⟨63, 5, 0, 0, none⟩, by decide +kernel, by decide +kernel, by decide +kernel, by decide +kernel⟩⟩

/-- Premises of ModulePort, clause by clause. -/
theorem wit_ModulePort :
    (∃ (s : Machine.State) (w : Word), s.mode ≠ Mode.RESET ∧ s.mode ≠ Mode.SHUTDOWN ∧ s.flag Reg.MP_STAT.BUSY = false ∧ Reg.MP_XFER.LEN.of w ≤ 4096) ∧
    (∃ (s : Machine.State) (w : Word), (s.mode = Mode.RESET ∨ s.mode = Mode.SHUTDOWN ∨ s.flag Reg.MP_STAT.BUSY = true ∨ 4096 < Reg.MP_XFER.LEN.of w)) ∧
    (∃ (s : Machine.State), s.mode = Mode.DISCOVER ∧ s.flag Reg.MP_STAT.BUSY = false) ∧
    (∃ (s : Machine.State), (s.mode ≠ Mode.DISCOVER ∨ s.flag Reg.MP_STAT.BUSY = true)) ∧
    (∃ (s : Machine.State) (w : Word), s.mode ≠ Mode.RESET ∧ s.mpOp = some (MpOp.xfer w)) ∧
    (∃ (s : Machine.State) (ks : List Nat) (h : Option (List Byte × Bool)) (ms : List (Nat × List Byte)), s.mode ≠ Mode.RESET ∧ s.mpOp = some (MpOp.discover ks h ms)) ∧
    (∃ (s : Machine.State), s.mode ≠ Mode.RESET ∧ s.mpOp = none) ∧
    (∃ (s : Machine.State) (w : Word) (bs : List Byte), s.mpOp = some (MpOp.xfer w) ∧ Reg.MP_XFER.LEN.of w ≤ 4096 ∧ bs.length = Reg.MP_XFER.LEN.of w) ∧
    (∃ (s : Machine.State) (k : Fin 8) (todo : List Nat) (mods : List (Nat × List Byte)) (d1 : List Byte) (d2 : List Byte), s.mpOp = some (MpOp.discover (↑k :: todo) none mods) ∧ d1.length = 32 ∧ d2.length = 32) ∧
    (∃ (s : Machine.State) (k : Fin 8) (todo : List Nat) (h : List Byte) (rev : Bool) (mods : List (Nat × List Byte)) (data : List Byte), s.mpOp = some (MpOp.discover (↑k :: todo) (some (h, rev)) mods) ∧ data.length = u32 (imgOf h) 8 - 32) ∧
    (∃ (s : Machine.State) (h : Option (List Byte × Bool)) (mods : List (Nat × List Byte)) (kt : Nat) (tile : Img), s.mpOp = some (MpOp.discover [] h mods) ∧ modOf mods 1 = some (kt, tile) ∧ conflicts mods = [] ∧ kt < 8 ∧ s.get (Reg.MP_MOD.STATUS kt) = Mod.OK ∧ (∀ k < 8, s.get (Reg.MP_MOD.STATUS k) ≤ Mod.ABSENT)) ∧
    (∃ (s : Machine.State) (h : Option (List Byte × Bool)) (mods : List (Nat × List Byte)), s.mpOp = some (MpOp.discover [] h mods) ∧ modOf mods 1 = none) ∧
    (∃ (s : Machine.State), (∀ (h : Option (List Byte × Bool)) (ms : List (Nat × List Byte)), s.mpOp ≠ some (MpOp.discover [] h ms))) :=
  ⟨⟨stIn Mode.RUN [], (BitVec.ofNat 128 (4096 * 2 ^ 80 + 1)), by decide +kernel, by decide +kernel, by decide +kernel, by decide +kernel⟩,
   ⟨stIn Mode.RUN [], BitVec.ofNat 128 (4097 * 2 ^ 80 + 1), by decide +kernel⟩,
   ⟨stIn Mode.DISCOVER [], by decide +kernel, by decide +kernel⟩,
   ⟨stIn Mode.SHAPE [], by decide +kernel⟩,
   ⟨{ stIn Mode.DISCOVER [] with mpOp := some (.xfer 1) }, 1, by decide +kernel, by decide +kernel⟩,
   ⟨{ stIn Mode.DISCOVER [] with mpOp := some (.discover [7] none []) }, [7], none, [], by decide +kernel, by decide +kernel⟩,
   ⟨stIn Mode.RUN [], by decide +kernel, by decide +kernel⟩,
   ⟨{ stIn Mode.DISCOVER [] with mpOp := some (.xfer (BitVec.ofNat 128 (4096 * 2 ^ 80 + 1))) }, (BitVec.ofNat 128 (4096 * 2 ^ 80 + 1)), List.replicate 4096 0, by decide +kernel, by decide +kernel, by decide +kernel⟩,
   ⟨{ stIn Mode.DISCOVER [] with mpOp := some (.discover [7] none []) }, 7, [], [], List.replicate 32 0xFF, List.replicate 32 0, by decide +kernel, by decide +kernel, by decide +kernel⟩,
   ⟨{ stIn Mode.DISCOVER [] with mpOp := some (.discover [7] (some (0 :: 0 :: 0 :: 0 :: 0 :: 0 :: 1 :: 0 :: 64 :: List.replicate 23 0, false)) []) }, 7, [], 0 :: 0 :: 0 :: 0 :: 0 :: 0 :: 1 :: 0 :: 64 :: List.replicate 23 0, false, [], List.replicate 32 0, by decide +kernel, by decide +kernel⟩,
   ⟨{ stIn Mode.DISCOVER [(Reg.MP_MOD.STATUS 7, 1)] with mpOp := some (.discover [] none [(7, tileRec)]) }, none, [(7, tileRec)], 7, imgOf tileRec, by decide +kernel, rfl, by decide +kernel, by decide +kernel, by decide +kernel, by decide +kernel⟩,
   ⟨{ stIn Mode.DISCOVER [] with mpOp := some (.discover [] none []) }, none, [], by decide +kernel, by decide +kernel⟩,
   ⟨State.reset, nofun⟩⟩

/-- Premises of ControlPortFramesAndBoundaryScan, clause by clause. -/
theorem wit_ControlPortFramesAndBoundaryScan :
    (∃ (s : Machine.State) (u : Machine.State) (a : BitVec 24) (w : Word) (c : BitVec 16), exec Instr.cpNop s = Host.Outcome.next u ∧ c.toNat = frameCrc a [w]) ∧
    (∃ (s : Machine.State) (u : Machine.State) (a : BitVec 24), exec Instr.cpNop s = Host.Outcome.next u ∧ a.toNat < 16777215) ∧
    (∃ (s : Machine.State) (u : Machine.State) (a : BitVec 24), exec Instr.cpNop s = Host.Outcome.next u ∧ a.toNat = 16777215) ∧
    (∃ (s : Machine.State) (u : Machine.State) (a : BitVec 24) (ws : List Word) (c : BitVec 16), exec Instr.cpNop s = Host.Outcome.next u ∧ 1 ≤ ws.length ∧ ws.length ≤ 16 ∧ c.toNat = frameCrc a ws) ∧
    (∃ (s : Machine.State) (u : Machine.State) (a : BitVec 24) (ws : List Word) (c : BitVec 16), exec Instr.cpNop s = Host.Outcome.next u ∧ 1 ≤ ws.length ∧ ws.length ≤ 16 ∧ c.toNat ≠ frameCrc a ws) ∧
    (∃ (s : Machine.State) (u : Machine.State) (a : BitVec 24) (c : BitVec 16) (i : Instr), exec Instr.cpNop s = Host.Outcome.next u ∧ i ∈ [Instr.frameErr, Instr.cpWriteCrc a [] c, Instr.cpWrite a [] true]) ∧
    (∃ (s : Machine.State) (u : Machine.State) (a : BitVec 24), exec Instr.cpNop s = Host.Outcome.next u ∧ isHole a.toNat = false) ∧
    (∃ (s : Machine.State) (u : Machine.State) (a : BitVec 24), exec Instr.cpNop s = Host.Outcome.next u ∧ isHole a.toNat = true) ∧
    (∃ (s : Machine.State), (s.mode = Mode.RESET ∨ s.mode = Mode.SAFE)) ∧
    (∃ (s : Machine.State), s.mode ≠ Mode.RESET ∧ s.mode ≠ Mode.SAFE) :=
  ⟨⟨State.reset, State.reset.cpBegin, 0xFFFFFF, 0, BitVec.ofNat 16 (frameCrc 0xFFFFFF [0]), rfl, by decide +kernel⟩,
   ⟨State.reset, State.reset.cpBegin, 0xFFFFFE, rfl, by decide +kernel⟩,
   ⟨State.reset, State.reset.cpBegin, 0xFFFFFF, rfl, by decide +kernel⟩,
   ⟨State.reset, State.reset.cpBegin, 0, [2 ^ 127], BitVec.ofNat 16 (frameCrc 0 [2 ^ 127]), rfl, by decide +kernel, by decide +kernel, by decide +kernel⟩,
   ⟨State.reset, State.reset.cpBegin, 0, [2 ^ 127], BitVec.ofNat 16 (frameCrc 0 [2 ^ 127]) ^^^ 1, rfl, by decide +kernel, by decide +kernel, by decide +kernel⟩,
   ⟨State.reset, State.reset.cpBegin, 0, 0, .frameErr, rfl, by decide +kernel⟩,
   ⟨State.reset, State.reset.cpBegin, 0x001001, rfl, by decide +kernel⟩,
   ⟨State.reset, State.reset.cpBegin, 0xFFFFFF, rfl, by decide +kernel⟩,
   ⟨State.reset, by decide +kernel⟩,
   ⟨stIn Mode.DISCOVER [], by decide +kernel, by decide +kernel⟩⟩

/-- A round of readings `t` (in 0.01 °C) of every sensor, started at beat 0, judged or not; the beat is `b`. -/
def hkSt (m : Nat) (t : Option Int) (j : Bool) (b : Nat) (l : List (Fld × Nat)) : State :=
  { stIn m l with hk := { HkSt.init with round := some (0, List.replicate 28 t, List.replicate 36 5), judged := j }, beat := BitVec.ofNat 64 b }
def hkTs (t : Option Int) : List (Option Int) := List.replicate 28 t
def hkMs : List Int := List.replicate 36 5
/-- A shutdown in phase `p`. -/
def shutSt (p b : Nat) : Shut := ⟨b, List.replicate 32 0, 0, p⟩

/-- Premises of HostLinkAccess, clause by clause. -/
theorem wit_HostLinkAccess :
    (∃ (s : Machine.State), s.link.d3 = true) ∧
    (∃ (s : Machine.State) (a : Nat) (j : Nat) (w : Word), s.link.d3 = false ∧ a < 2 ^ 24 ∧ 1 ≤ j ∧ j ≤ 3 ∧ s.link.rd = some (a, w)) ∧
    (∃ (s : Machine.State) (a : Nat) (j : Nat), s.link.d3 = false ∧ a < 2 ^ 24 ∧ 1 ≤ j ∧ j ≤ 3 ∧ isHole a = false ∧ (∀ (x : Word), s.link.rd ≠ some (a, x))) ∧
    (∃ (s : Machine.State) (a : Nat), s.link.d3 = false ∧ a < 2 ^ 24 ∧ isHole a = true) ∧
    (∃ (s : Machine.State) (a : Nat) (j : Nat), s.link.d3 = false ∧ a < 2 ^ 24 ∧ s.link.wr = none ∧ j < 3) ∧
    (∃ (s : Machine.State) (a : Nat) (j : Nat), s.link.d3 = false ∧ a < 2 ^ 24 ∧ s.link.wr = none ∧ j ≤ 3) ∧
    (∃ (s : Machine.State) (a : Nat) (b : Nat), s.link.d3 = false ∧ a < 2 ^ 24 ∧ b < 2 ^ 24 ∧ s.link.wr = none) ∧
    (∃ (s : Machine.State) (a : Nat) (b : Nat) (l : List (Option (BitVec 32))), s.link.d3 = false ∧ a < 2 ^ 24 ∧ b < 2 ^ 24 ∧ s.link.wr = some (b, l) ∧ b ≠ a) ∧
    (∃ (s : Machine.State) (w : Word), s.mode ≠ Mode.RESET ∧ BitVec.toNat w % 4 ≠ 3 ∧ BitVec.toNat w / 2 ^ 64 % 2 ^ 40 < if BitVec.getLsbD w 4 = true then 16777216 else 2 ^ 35) ∧
    (∃ (s : Machine.State) (w : Word), s.mode ≠ Mode.RESET ∧ BitVec.toNat w % 4 ≠ 3 ∧ BitVec.toNat w / 2 ^ 64 % 2 ^ 40 < if BitVec.getLsbD w 4 = true then 16777216 else 2 ^ 35) ∧
    (∃ (s : Machine.State) (w : Word), (s.mode = Mode.RESET ∨ BitVec.toNat w % 4 = 3 ∨ (if BitVec.getLsbD w 4 = true then 16777216 else 2 ^ 35) ≤ BitVec.toNat w / 2 ^ 64 % 2 ^ 40)) ∧
    (∃ (s : Machine.State) (w : Word), (s.mode = Mode.RESET ∨ BitVec.toNat w % 4 = 3 ∨ (if BitVec.getLsbD w 4 = true then 16777216 else 2 ^ 35) ≤ BitVec.toNat w / 2 ^ 64 % 2 ^ 40)) :=
  ⟨⟨{ st [] with link := { LinkSt.init with d3 := true } }, by decide +kernel⟩,
   ⟨{ st [] with link := { LinkSt.init with rd := some (2 ^ 24 - 1, 5) } }, 2 ^ 24 - 1, 3, 5, by decide +kernel, by decide +kernel, by decide +kernel, by decide +kernel, by decide +kernel⟩,
   ⟨State.reset, 0x001001, 3, by decide +kernel, by decide +kernel, by decide +kernel, by decide +kernel, by decide +kernel, nofun⟩,
   ⟨State.reset, 2 ^ 24 - 1, by decide +kernel, by decide +kernel, by decide +kernel⟩,
   ⟨State.reset, 2 ^ 24 - 1, 2, by decide +kernel, by decide +kernel, by decide +kernel, by decide +kernel⟩,
   ⟨State.reset, 2 ^ 24 - 1, 3, by decide +kernel, by decide +kernel, by decide +kernel, by decide +kernel⟩,
   ⟨State.reset, 0, 2 ^ 24 - 1, by decide +kernel, by decide +kernel, by decide +kernel, by decide +kernel⟩,
   ⟨{ st [] with link := { LinkSt.init with wr := some (1, []) } }, 0, 1, [], by decide +kernel, by decide +kernel, by decide +kernel, by decide +kernel, by decide +kernel⟩,
   ⟨stIn Mode.RUN [], BitVec.ofNat 128 ((2 ^ 35 - 1) * 2 ^ 64 + 2), by decide +kernel, by decide +kernel, by decide +kernel⟩,
   ⟨stIn Mode.RUN [], BitVec.ofNat 128 (16777215 * 2 ^ 64 + 2 ^ 4 + 1), by decide +kernel, by decide +kernel, by decide +kernel⟩,
   ⟨stIn Mode.RUN [], BitVec.ofNat 128 (2 ^ 35 * 2 ^ 64 + 2), by decide +kernel⟩,
   ⟨stIn Mode.RUN [], BitVec.ofNat 128 (16777216 * 2 ^ 64 + 2 ^ 4 + 1), by decide +kernel⟩⟩

/-- Premises of HostLinkState, clause by clause. -/
theorem wit_HostLinkState :
    (∃ (s : Machine.State), s.flag Reg.HL_LINK.UP = false) ∧
    (∃ (i : Instr), i ∈ [Instr.hotReset, Instr.functionLevelReset]) ∧
    (∃ (s : Machine.State) (v : Nat), v < 32 ∧ bitOf s.msix v = true ∧ s.vecMasked v = false ∧ (∀ u < v, bitOf s.msix u = false ∨ s.vecMasked u = true) ∧ s.flag Reg.HL_LINK.UP = true ∧ s.link.d3 = false ∧ s.link.msixOn = true ∧ s.link.msixMask = false) ∧
    (∃ (s : Machine.State) (v : Nat), v < 32 ∧ bitOf s.msix v = true ∧ s.vecMasked v = false ∧ (∀ u < v, bitOf s.msix u = false ∨ s.vecMasked u = true) ∧ (s.flag Reg.HL_LINK.UP = false ∨ s.link.d3 = true ∨ s.link.msixOn = false ∨ s.link.msixMask = true)) ∧
    (∃ (s : Machine.State), (∀ v < 32, bitOf s.msix v = false ∨ s.vecMasked v = true)) ∧
    (∃ (s : Machine.State) (v : Nat), v < 32 ∧ s.msix = 0) ∧
    (∃ (s : Machine.State) (v : Nat), v < 32 ∧ s.flag Reg.HL_LINK.UP = true ∧ s.link.d3 = false ∧ s.link.msixOn = false ∧ s.msix = 2 ^ v ∧ s.vecMasked v = false) ∧
    (∃ (s : Machine.State), s.link.d3 = true) :=
  ⟨⟨State.reset, by decide +kernel⟩,
   ⟨.functionLevelReset, by decide +kernel⟩,
   ⟨{ st [(Reg.HL_LINK.UP, 1)] with msix := 2 ^ 31, link := { LinkSt.init with table := [(127, 0)], msixOn := true } }, 31, by decide +kernel, by decide +kernel, by decide +kernel, by decide +kernel, by decide +kernel, by decide +kernel, by decide +kernel, by decide +kernel⟩,
   ⟨{ st [(Reg.HL_LINK.UP, 1)] with msix := 2 ^ 31, link := { LinkSt.init with table := [(127, 0)] } }, 31, by decide +kernel, by decide +kernel, by decide +kernel, by decide +kernel, by decide +kernel⟩,
   ⟨{ st [] with msix := 2 ^ 31 }, by decide +kernel⟩,
   ⟨st [], 31, by decide +kernel, by decide +kernel⟩,
   ⟨{ st [(Reg.HL_LINK.UP, 1)] with msix := 2 ^ 31, link := { LinkSt.init with table := [(127, 0)] } }, 31, by decide +kernel, by decide +kernel, by decide +kernel, by decide +kernel, by decide +kernel, by decide +kernel⟩,
   ⟨{ st [] with link := { LinkSt.init with d3 := true } }, by decide +kernel⟩⟩

/-- Premises of ModeTable, clause by clause. -/
theorem wit_ModeTable :
    (∃ (s : Machine.State), s.mayLeave ∧ s.mode ≠ Mode.SAFE) ∧
    (∃ (s : Machine.State), s.mayLeave ∧ s.mode ≠ Mode.DISCOVER) ∧
    (∃ (s : Machine.State), s.mayLeave ∧ s.mode ≠ Mode.SHAPE) ∧
    (∃ (s : Machine.State), s.mayLeave ∧ s.mode ≠ Mode.REFCAL) ∧
    (∃ (s : Machine.State), s.mayLeave ∧ s.mode ≠ Mode.STANDBY) ∧
    (∃ (s : Machine.State), s.mayLeave ∧ s.mode ≠ Mode.READY) ∧
    (∃ (s : Machine.State), s.mayLeave ∧ s.mode ≠ Mode.CONTACT) ∧
    (∃ (s : Machine.State), s.mayLeave ∧ s.mode ≠ Mode.RUN) ∧
    (∃ (s : Machine.State) (m : Nat), m ≠ s.mode ∧ (s.mode = Mode.SAFE ∧ (s.flag Reg.TB_STAT.PLL_LOCK = false ∨ s.cntValid = false) ∨ s.mode = Mode.REFCAL ∧ Option.any (fun r => r.cmd == 1) s.cal.run = true)) ∧
    (∃ (s : Machine.State) (m : Nat), m ≠ s.mode ∧ (s.mode = Mode.SAFE ∧ (s.flag Reg.TB_STAT.PLL_LOCK = false ∨ s.cntValid = false) ∨ s.mode = Mode.REFCAL ∧ Option.any (fun r => r.cmd == 1) s.cal.run = true)) ∧
    (∃ (m : Nat), (m ∈ [Mode.RESET, Mode.THROTTLE, Mode.SHUTDOWN] ∨ 11 < m)) ∧
    (∃ (m : Nat), (m ∈ [Mode.RESET, Mode.THROTTLE, Mode.SHUTDOWN] ∨ 11 < m)) ∧
    (∃ (s : Machine.State) (m : Nat), s.mode = Mode.SELFTEST ∧ m ∉ [Mode.RESET, Mode.THROTTLE, Mode.SHUTDOWN, Mode.SELFTEST] ∧ m ≤ 11) :=
  ⟨⟨stIn Mode.DISCOVER [(Reg.TB_STAT.PLL_LOCK, 1), (Reg.TB_STAT.CNT_VALID, 1)], by unfold State.mayLeave; decide +kernel, by decide +kernel⟩,
   ⟨stIn Mode.SAFE [(Reg.TB_STAT.PLL_LOCK, 1), (Reg.TB_STAT.CNT_VALID, 1)], by unfold State.mayLeave; decide +kernel, by decide +kernel⟩,
   ⟨stIn Mode.SAFE [(Reg.TB_STAT.PLL_LOCK, 1), (Reg.TB_STAT.CNT_VALID, 1)], by unfold State.mayLeave; decide +kernel, by decide +kernel⟩,
   ⟨stIn Mode.SAFE [(Reg.TB_STAT.PLL_LOCK, 1), (Reg.TB_STAT.CNT_VALID, 1)], by unfold State.mayLeave; decide +kernel, by decide +kernel⟩,
   ⟨stIn Mode.SAFE [(Reg.TB_STAT.PLL_LOCK, 1), (Reg.TB_STAT.CNT_VALID, 1)], by unfold State.mayLeave; decide +kernel, by decide +kernel⟩,
   ⟨stIn Mode.SAFE [(Reg.TB_STAT.PLL_LOCK, 1), (Reg.TB_STAT.CNT_VALID, 1)], by unfold State.mayLeave; decide +kernel, by decide +kernel⟩,
   ⟨stIn Mode.SAFE [(Reg.TB_STAT.PLL_LOCK, 1), (Reg.TB_STAT.CNT_VALID, 1)], by unfold State.mayLeave; decide +kernel, by decide +kernel⟩,
   ⟨stIn Mode.SAFE [(Reg.TB_STAT.PLL_LOCK, 1), (Reg.TB_STAT.CNT_VALID, 1)], by unfold State.mayLeave; decide +kernel, by decide +kernel⟩,
   ⟨stIn Mode.SAFE [], Mode.DISCOVER, by decide +kernel, by decide +kernel⟩,
   ⟨{ stIn Mode.REFCAL [] with cal := { CalSt.init with run := some ⟨1, 0, false, 0, 0, [], []⟩ } }, Mode.SAFE, by decide +kernel, by decide +kernel⟩,
   ⟨12, by decide +kernel⟩,
   ⟨Mode.SHUTDOWN, by decide +kernel⟩,
   ⟨stIn Mode.SELFTEST [], Mode.READY, by decide +kernel, by decide +kernel, by decide +kernel⟩⟩

/-- Premises of ModeRequests, clause by clause. -/
theorem wit_ModeRequests :
    (∃ (s : Machine.State) (p : Port) (r : Instr × Nat), ModeRow p none r ∧ s.mode ≠ Mode.RESET ∧ s.modeAllows r.2 = true ∧ r.2 ≠ s.mode) ∧
    (∃ (s : Machine.State) (p : Port) (r : Instr × Nat), ModeRow p none r ∧ s.mode ≠ Mode.RESET ∧ r.2 = s.mode) ∧
    (∃ (s : Machine.State) (p : Port) (r : Instr × Nat) (req : BitVec 4), (ModeRow p none r ∨ r = (Instr.modeReqForbidden p req none, req.toNat)) ∧ (s.mode = Mode.RESET ∨ s.modeAllows r.2 = false)) ∧
    (∃ (s : Machine.State) (p : Port) (r : Instr × Nat) (req : BitVec 4), (ModeRow p none r ∨ r = (Instr.modeReqForbidden p req none, req.toNat)) ∧ (s.mode = Mode.RESET ∨ s.modeAllows r.2 = false)) ∧
    (∃ (s : Machine.State) (p : Port) (b : BitVec 64) (r : Instr × Nat) (req : BitVec 4), (ModeRow p (some b) r ∨ r = (Instr.modeReqForbidden p req (some b), req.toNat)) ∧ s.mode ≠ Mode.RESET ∧ s.sched = none ∧ s.cntValid = true ∧ s.now + 2 ≤ b.toNat) ∧
    (∃ (s : Machine.State) (p : Port) (b : BitVec 64) (r : Instr × Nat) (req : BitVec 4), (ModeRow p (some b) r ∨ r = (Instr.modeReqForbidden p req (some b), req.toNat)) ∧ s.mode ≠ Mode.RESET ∧ s.sched = none ∧ s.cntValid = true ∧ s.now + 2 ≤ b.toNat) ∧
    (∃ (s : Machine.State) (p : Port) (b : BitVec 64) (r : Instr × Nat) (req : BitVec 4), (ModeRow p (some b) r ∨ r = (Instr.modeReqForbidden p req (some b), req.toNat)) ∧ (s.mode = Mode.RESET ∨ s.sched ≠ none ∨ s.cntValid = false ∨ b.toNat < s.now + 2)) ∧
    (∃ (s : Machine.State) (b : Nat) (m : Nat), s.sched = some (b, m) ∧ b ≤ s.now ∧ s.modeAllows m = true ∧ m ≠ s.mode) ∧
    (∃ (s : Machine.State) (b : Nat) (m : Nat), s.sched = some (b, m) ∧ b ≤ s.now ∧ s.modeAllows m = false) ∧
    (∃ (s : Machine.State), (∀ (b m : Nat), s.sched = some (b, m) → s.now < b)) :=
  ⟨⟨stIn Mode.CONTACT [], .cp, (.modeReqRun .cp none, Mode.RUN), by unfold ModeRow; decide +kernel, by decide +kernel, by decide +kernel, by decide +kernel⟩,
   ⟨stIn Mode.RUN [], .cp, (.modeReqRun .cp none, Mode.RUN), by unfold ModeRow; decide +kernel, by decide +kernel, by decide +kernel⟩,
   ⟨stIn Mode.STANDBY [], .cp, (.modeReqRun .cp none, Mode.RUN), 0, by unfold ModeRow; decide +kernel, by decide +kernel⟩,
   ⟨stIn Mode.STANDBY [], .cp, (.modeReqForbidden .cp 12 none, 12), 12, by unfold ModeRow; decide +kernel, by decide +kernel⟩,
   ⟨stIn Mode.CONTACT [(Reg.TB_STAT.CNT_VALID, 1)], .cp, 2, (.modeReqRun .cp (some 2), Mode.RUN), 0, by unfold ModeRow; decide +kernel, by decide +kernel, by decide +kernel, by decide +kernel, by decide +kernel⟩,
   ⟨stIn Mode.CONTACT [(Reg.TB_STAT.CNT_VALID, 1)], .cp, 2, (.modeReqForbidden .cp 0 (some 2), 0), 0, by unfold ModeRow; decide +kernel, by decide +kernel, by decide +kernel, by decide +kernel, by decide +kernel⟩,
   ⟨stIn Mode.CONTACT [(Reg.TB_STAT.CNT_VALID, 1)], .cp, 1, (.modeReqRun .cp (some 1), Mode.RUN), 0, by unfold ModeRow; decide +kernel, by decide +kernel⟩,
   ⟨{ stIn Mode.CONTACT [] with sched := some (0, Mode.RUN) }, 0, Mode.RUN, by decide +kernel, by decide +kernel, by decide +kernel, by decide +kernel⟩,
   ⟨{ stIn Mode.STANDBY [] with sched := some (0, Mode.RUN) }, 0, Mode.RUN, by decide +kernel, by decide +kernel, by decide +kernel⟩,
   ⟨stIn Mode.RUN [], fun b m h => absurd (h.symm.trans (show _ = none by decide +kernel)) (by simp)⟩⟩

/-- Premises of SoftResetSelfTestAndStart, clause by clause. -/
theorem wit_SoftResetSelfTestAndStart :
    (∃ (s : Machine.State), s.Canonical ∧ s.softOk = true ∧ s.mode ≠ Mode.DISCOVER ∧ s.mode ≠ Mode.CONTACT ∧ (∀ q < 4, s.get (Reg.CAL_Q.STATE q) ≤ 1)) ∧
    (∃ (s : Machine.State), (s.softOk = false ∨ s.mode = Mode.RESET)) ∧
    (∃ (s : Machine.State) (m : Nat) (o : SelfTestObs), s.selfTest = some m ∧ m < 16 ∧ o.chans = [] ∧ o.tdcs = []) ∧
    (∃ (s : Machine.State), s.selfTest = none) ∧
    (∃ (s : Machine.State), s.mode = Mode.RESET ∧ s.brown = false) ∧
    (∃ (s : Machine.State), (s.mode ≠ Mode.RESET ∨ s.brown = true)) :=
  ⟨⟨stIn Mode.STANDBY [], ⟨by decide +kernel, by decide +kernel, by decide +kernel, by decide +kernel, by decide +kernel, by decide +kernel, by decide +kernel⟩, by decide +kernel, by decide +kernel, by decide +kernel, by decide +kernel⟩,
   ⟨stIn Mode.RUN [], by decide +kernel⟩,
   ⟨{ stIn Mode.SELFTEST [] with selfTest := some 15 }, 15, ⟨[], [], true, true⟩, by decide +kernel, by decide +kernel, by decide +kernel, by decide +kernel⟩,
   ⟨State.reset, by decide +kernel⟩,
   ⟨State.reset, by decide +kernel, by decide +kernel⟩,
   ⟨{ State.reset with brown := true }, by decide +kernel⟩⟩

/-- Premises of RefclkLost, clause by clause. -/
theorem wit_RefclkLost :
    (∃ (s : Machine.State), (s.mode = Mode.RESET ∨ s.mode = Mode.SHUTDOWN)) :=
   ⟨stIn Mode.SHUTDOWN [], by decide +kernel⟩

/-- Premises of LeavingOperation, clause by clause. -/
theorem wit_LeavingOperation :
    (∃ (s : Machine.State), s.mode ≠ Mode.RESET ∧ s.mode ≠ Mode.SHUTDOWN ∧ s.Unengaged) ∧
    (∃ (s : Machine.State) (src : Nat) (cause : Nat), s.hkReadings.hk.round ≠ none ∧ s.hkReadings.hk.judged = true ∧ s.hkReadings.hk.fatal = some (src, cause) ∧ s.hkReadings.mode ≠ Mode.RESET ∧ s.hkReadings.mode ≠ Mode.SHUTDOWN ∧ s.hkReadings.Unengaged) :=
  ⟨⟨stIn Mode.RUN [], by decide +kernel, by decide +kernel, by unfold State.Unengaged; decide +kernel⟩,
   ⟨{ stIn Mode.RUN [] with hk := { HkSt.init with round := some (0, [], []), judged := true, fatal := some (3, 4) } }, 3, 4, by decide +kernel, by decide +kernel, by decide +kernel, by decide +kernel, by decide +kernel, by unfold State.Unengaged; decide +kernel⟩⟩

/-- Premises of HousekeepingRounds, clause by clause. -/
theorem wit_HousekeepingRounds :
    (∃ (s : Machine.State), (s.cntValid = false ∨ s.now % 100000 = 0)) ∧
    (∃ (s : Machine.State), s.cntValid = true ∧ s.now % 100000 ≠ 0) ∧
    (∃ (s : Machine.State), s.hk.round = none) ∧
    (∃ (s : Machine.State) (b : Nat) (ts : List (Option Int)) (ms : List Int), s.hk.round = some (b, ts, ms) ∧ s.hk.judged = false ∧ s.cntValid = true ∧ b ≤ s.now ∧ s.now < b + 64) ∧
    (∃ (s : Machine.State) (b : Nat) (ts : List (Option Int)) (ms : List Int) (i : Nat) (v : Int), s.hk.round = some (b, ts, ms) ∧ s.hk.judged = false ∧ b + 64 ≤ s.now ∧ i < 28 ∧ ts[i]? = some (some v) ∧ -32768 ≤ v ∧ v ≤ 32767) ∧
    (∃ (s : Machine.State) (b : Nat) (ts : List (Option Int)) (ms : List Int) (i : Nat), s.hk.round = some (b, ts, ms) ∧ s.hk.judged = false ∧ b + 64 ≤ s.now ∧ i < 28 ∧ (ts[i]?.join = none ∨ ∃ v, ts[i]? = some (some v) ∧ (v < -4000 ∨ 15000 < v)) ∧ s.get (Reg.HK_TS.STATUS i) = 0) ∧
    (∃ (s : Machine.State) (b : Nat) (ts : List (Option Int)) (ms : List Int) (m : Nat) (v : Int), s.hk.round = some (b, ts, ms) ∧ s.hk.judged = false ∧ b + 64 ≤ s.now ∧ m < 36 ∧ ms[m]? = some v ∧ -32768 ≤ v ∧ v ≤ 32767) ∧
    (∃ (s : Machine.State) (b : Nat) (ts : List (Option Int)) (ms : List Int), s.hk.round = some (b, ts, ms) ∧ s.hk.judged = false ∧ b + 64 ≤ s.now ∧ s.flag Reg.HK_STAT.THROTTLED = false ∧ (∃ p ∈ s.hkReadings.tsValues, ↑(s.hkReadings.get Reg.HK_CTRL.THR_T) ≤ p.2)) ∧
    (∃ (s : Machine.State), s.hkReadings.hk.round ≠ none ∧ s.hkReadings.hk.judged = true ∧ s.hkReadings.hk.fatal = none ∧ s.hkReadings.clones = [] ∧ s.hkReadings.mode = Mode.RUN ∧ s.hkReadings.flag Reg.HK_STAT.THROTTLED = true) ∧
    (∃ (s : Machine.State), s.hkReadings.hk.round ≠ none ∧ s.hkReadings.hk.judged = true ∧ s.hkReadings.hk.fatal = none ∧ s.hkReadings.clones = [] ∧ s.hkReadings.mode = Mode.THROTTLE ∧ s.hkReadings.flag Reg.HK_STAT.THROTTLED = false ∧ s.hkReadings.hk.paused = []) ∧
    (∃ (s : Machine.State) (n : Nat), s.hkReadings.hk.round ≠ none ∧ s.hkReadings.hk.judged = true ∧ s.hkReadings.hk.fatal = none ∧ s.hkReadings.clones = [] ∧ s.hkReadings.mode = Mode.THROTTLE ∧ s.hkReadings.flag Reg.HK_STAT.THROTTLED = true ∧ s.hkReadings.hk.paused = [] ∧ s.hkReadings.flag Reg.HK_CTRL.PAUSE_EN = true ∧ (s.hkReadings.hk.since + 1) % s.hkReadings.get Reg.HK_CTRL.PAUSE_ROUNDS = 0 ∧ (∃ p ∈ s.hkReadings.tsValues, ↑(s.hkReadings.get Reg.HK_CTRL.THR_T) ≤ p.2) ∧ List.find? (fun k => decide (k < 64) && s.hkReadings.siteState k == Site.RUNNING) s.hkReadings.pauseOrder = some n) ∧
    (∃ (s : Machine.State) (n : Nat), s.hkReadings.hk.round ≠ none ∧ s.hkReadings.hk.judged = true ∧ s.hkReadings.hk.fatal = none ∧ s.hkReadings.clones = [] ∧ n < 64 ∧ s.hkReadings.mode = Mode.RUN ∧ s.hkReadings.flag Reg.HK_STAT.THROTTLED = false ∧ s.hkReadings.hk.paused = [n] ∧ s.hkReadings.siteState n = Site.HELD ∧ bitOf (s.hkReadings.get (Reg.SQ_STAT.CAUSES n)) Cause.THERMAL = true ∧ bitOf (s.hkReadings.get (Reg.SQ_STAT.CAUSES n)) Cause.HOST = true) ∧
    (∃ (s : Machine.State) (i : BitVec 5), s.mode ≠ Mode.RESET ∧ i.toNat < 28 ∧ s.tsRetirable i.toNat = true) ∧
    (∃ (s : Machine.State) (i : BitVec 5), s.mode ≠ Mode.RESET ∧ i.toNat < 28 ∧ s.tsRestorable i.toNat = true) ∧
    (∃ (s : Machine.State) (i : BitVec 5), (s.mode = Mode.RESET ∨ 28 ≤ i.toNat ∨ s.tsRetirable i.toNat = false)) ∧
    (∃ (s : Machine.State) (i : BitVec 5), (s.mode = Mode.RESET ∨ 28 ≤ i.toNat ∨ s.tsRestorable i.toNat = false)) :=
  ⟨⟨{ st [(Reg.TB_STAT.CNT_VALID, 1)] with beat := 100000 }, by decide +kernel⟩,
   ⟨{ st [(Reg.TB_STAT.CNT_VALID, 1)] with beat := 99999 }, by decide +kernel, by decide +kernel⟩,
   ⟨st [], by decide +kernel⟩,
   ⟨hkSt Mode.RUN (some 2500) false 63 [(Reg.TB_STAT.CNT_VALID, 1)], 0, hkTs (some 2500), hkMs, by decide +kernel, by decide +kernel, by decide +kernel, by decide +kernel, by decide +kernel⟩,
   ⟨hkSt Mode.RUN (some (-32768)) false 64 [(Reg.TB_STAT.CNT_VALID, 1)], 0, hkTs (some (-32768)), hkMs, 27, -32768, by decide +kernel, by decide +kernel, by decide +kernel, by decide +kernel, by decide +kernel, by decide +kernel, by decide +kernel⟩,
   ⟨hkSt Mode.RUN (some 15001) false 64 [(Reg.TB_STAT.CNT_VALID, 1)], 0, hkTs (some 15001), hkMs, 27, by decide +kernel, by decide +kernel, by decide +kernel, by decide +kernel, Or.inr ⟨15001, by decide +kernel, by decide +kernel⟩, by decide +kernel⟩,
   ⟨hkSt Mode.RUN (none) false 64 [(Reg.TB_STAT.CNT_VALID, 1)], 0, hkTs none, hkMs, 35, 5, by decide +kernel, by decide +kernel, by decide +kernel, by decide +kernel, by decide +kernel, by decide +kernel, by decide +kernel⟩,
   ⟨hkSt Mode.RUN (some 9500) false 64 [(Reg.TB_STAT.CNT_VALID, 1), (Reg.HK_CTRL.THR_T, 9500)], 0, hkTs (some 9500), hkMs, by decide +kernel, by decide +kernel, by decide +kernel, by decide +kernel, by decide +kernel⟩,
   ⟨{ stIn Mode.RUN [(Reg.HK_STAT.THROTTLED, 1)] with hk := { HkSt.init with round := some (0, [], []), judged := true } }, by decide +kernel, by decide +kernel, by decide +kernel, by decide +kernel, by decide +kernel, by decide +kernel⟩,
   ⟨{ stIn Mode.THROTTLE [] with hk := { HkSt.init with round := some (0, [], []), judged := true } }, by decide +kernel, by decide +kernel, by decide +kernel, by decide +kernel, by decide +kernel, by decide +kernel, by decide +kernel⟩,
   ⟨{ stIn Mode.THROTTLE [(Reg.HK_STAT.THROTTLED, 1), (Reg.HK_CTRL.PAUSE_EN, 1), (Reg.HK_CTRL.PAUSE_ROUNDS, 1), (Reg.HK_CTRL.THR_T, 0), (Reg.HK_TS.STATUS 0, 0), (Reg.HK_ORDER.SITES 0, 0xFF3F), (Reg.SQ_STAT.STATE 63, Site.RUNNING)] with hk := { HkSt.init with round := some (0, [], []), judged := true } }, 63, by decide +kernel, by decide +kernel, by decide +kernel, by decide +kernel, by decide +kernel, by decide +kernel, by decide +kernel, by decide +kernel, by decide +kernel, by decide +kernel, by decide +kernel⟩,
   ⟨{ stIn Mode.RUN [(Reg.SQ_STAT.STATE 63, Site.HELD), (Reg.SQ_STAT.CAUSES 63, 2 ^ 8 + 1)] with hk := { HkSt.init with round := some (0, [], []), judged := true, paused := [63] } }, 63, by decide +kernel, by decide +kernel, by decide +kernel, by decide +kernel, by decide +kernel, by decide +kernel, by decide +kernel, by decide +kernel, by decide +kernel, by decide +kernel, by decide +kernel⟩,
   ⟨stIn Mode.RUN [(Reg.HK_TS.STATUS 0, Ts.FAILED), (Reg.HK_TS.STATUS 1, Ts.GOOD)], 0, by decide +kernel, by decide +kernel, by decide +kernel⟩,
   ⟨stIn Mode.RUN [(Reg.HK_TS.STATUS 27, Ts.RETIRED)], 27, by decide +kernel, by decide +kernel, by decide +kernel⟩,
   ⟨stIn Mode.RUN [], 28, by decide +kernel⟩,
   ⟨stIn Mode.RUN [], 28, by decide +kernel⟩⟩

/-- Premises of ShutdownStepsAndTroubleLog, clause by clause. -/
theorem wit_ShutdownStepsAndTroubleLog :
    (∃ (s : Machine.State) (k : Shut), s.shut = some k ∧ k.phase = 0 ∧ (k.start + 1000000 ≤ s.now ∨ s.tb.refPresent = false ∨ ∀ d < 64, s.flag (Reg.DPS_STAT.CONN d) = false)) ∧
    (∃ (s : Machine.State) (k : Shut), s.shut = some k ∧ k.phase = 0 ∧ (k.start + 1000000 ≤ s.now ∨ s.tb.refPresent = false ∨ ∀ d < 64, s.flag (Reg.DPS_STAT.CONN d) = false)) ∧
    (∃ (s : Machine.State) (k : Shut), s.shut = some k ∧ k.phase = 0 ∧ s.now < k.start + 1000000 ∧ s.tb.refPresent = true ∧ (∃ d < 64, s.flag (Reg.DPS_STAT.CONN d) = true)) ∧
    (∃ (s : Machine.State) (k : Shut), s.shut = some k ∧ k.phase = 1 ∧ k.body.length = 32) ∧
    (∃ (s : Machine.State), (∀ (k : Shut), s.shut = some k → k.phase ≠ 1)) ∧
    (∃ (s : Machine.State), (∀ (k : Shut), s.shut = some k → k.phase ≠ 0)) ∧
    (∃ (s : Machine.State) (e : LogWait) (es : List LogWait), s.logWait = e :: es) ∧
    (∃ (s : Machine.State), s.logWait = []) ∧
    (∃ (s : Machine.State), s.mode ≠ Mode.RESET) :=
  ⟨⟨{ stIn Mode.SHUTDOWN [(Reg.DPS_STAT.CONN 63, 1)] with shut := some (shutSt 0 0), beat := 1000000 }, shutSt 0 0, by decide +kernel, by decide +kernel, by decide +kernel⟩,
   ⟨{ stIn Mode.SHUTDOWN [] with shut := some (shutSt 0 0) }, shutSt 0 0, by decide +kernel, by decide +kernel, by decide +kernel⟩,
   ⟨{ stIn Mode.SHUTDOWN [(Reg.DPS_STAT.CONN 63, 1)] with shut := some (shutSt 0 0), beat := 999999 }, shutSt 0 0, by decide +kernel, by decide +kernel, by decide +kernel, by decide +kernel, by decide +kernel⟩,
   ⟨{ stIn Mode.SHUTDOWN [] with shut := some (shutSt 1 0) }, shutSt 1 0, by decide +kernel, by decide +kernel, by decide +kernel⟩,
   ⟨State.reset, fun n h => absurd (h.symm.trans (show _ = none by decide +kernel)) (by simp)⟩,
   ⟨State.reset, fun n h => absurd (h.symm.trans (show _ = none by decide +kernel)) (by simp)⟩,
   ⟨{ st [] with logWait := [⟨0, 0, 0⟩] }, ⟨0, 0, 0⟩, [], by decide +kernel⟩,
   ⟨State.reset, by decide +kernel⟩,
   ⟨stIn Mode.SAFE [], by decide +kernel⟩⟩

/-- Premises of RegisterWrites, clause by clause. -/
theorem wit_RegisterWrites :
    (∃ (s : Machine.State) (a : BitVec 24), s.mode = Mode.RESET ∧ a.toNat ≠ Reg.TB_CTRL.word ∧ a.toNat ≠ Reg.CP_CFG.word) ∧
    (∃ (s : Machine.State) (a : BitVec 24), s.mode ≠ Mode.RESET ∧ (isHole a.toNat = true ∨ 1048576 ≤ a.toNat)) ∧
    (∃ (s : Machine.State) (a : BitVec 24), s.mode ≠ Mode.RESET ∧ (isHole a.toNat = true ∨ 1048576 ≤ a.toNat)) ∧
    (∃ (s : Machine.State) (a : BitVec 24), s.mode ≠ Mode.RESET ∧ isHole a.toNat = false ∧ (5 ≤ a.toNat ∧ a.toNat < 4096 ∨ 20480 ≤ a.toNat ∧ a.toNat < 20496 ∨ a.toNat = Reg.CP_STAT.word ∨ a.toNat = Reg.LG_STAT.word ∨ a.toNat = Reg.LOG_STAT.word ∨ a.toNat = Reg.TB_STAT.word ∨ a.toNat = Reg.HK_STAT.word)) ∧
    (∃ (s : Machine.State) (a : BitVec 24), s.mode ≠ Mode.RESET ∧ isHole a.toNat = false ∧ (5 ≤ a.toNat ∧ a.toNat < 4096 ∨ 20480 ≤ a.toNat ∧ a.toNat < 20496 ∨ a.toNat = Reg.CP_STAT.word ∨ a.toNat = Reg.LG_STAT.word ∨ a.toNat = Reg.LOG_STAT.word ∨ a.toNat = Reg.TB_STAT.word ∨ a.toNat = Reg.HK_STAT.word)) ∧
    (∃ (s : Machine.State) (a : BitVec 24), s.mode ≠ Mode.RESET ∧ isHole a.toNat = false ∧ (5 ≤ a.toNat ∧ a.toNat < 4096 ∨ 20480 ≤ a.toNat ∧ a.toNat < 20496 ∨ a.toNat = Reg.CP_STAT.word ∨ a.toNat = Reg.LG_STAT.word ∨ a.toNat = Reg.LOG_STAT.word ∨ a.toNat = Reg.TB_STAT.word ∨ a.toNat = Reg.HK_STAT.word)) ∧
    (∃ (s : Machine.State) (a : BitVec 24) (w : Word), s.mode ≠ Mode.RESET ∧ isHole a.toNat = false ∧ (4352 ≤ a.toNat ∧ a.toNat < 8192 ∨ 720896 ≤ a.toNat ∧ a.toNat < 786432) ∧ accMask Acc.cl a.toNat ≠ 0 ∧ s.clRefused a.toNat w = true) ∧
    (∃ (s : Machine.State) (a : BitVec 24) (w : Word), s.mode ≠ Mode.RESET ∧ isHole a.toNat = false ∧ (4352 ≤ a.toNat ∧ a.toNat < 8192 ∨ 720896 ≤ a.toNat ∧ a.toNat < 786432) ∧ accMask Acc.cl a.toNat ≠ 0 ∧ s.clRefused a.toNat w = false ∧ s.unowned a.toNat = true) ∧
    (∃ (s : Machine.State) (w : Word) (x : Nat × Bool), s.mode ≠ Mode.RESET ∧ (x ∈ [(Reg.HK_CTRL.word, hkCtrlBad w), (Reg.HK_RATE.word, hkRateBad w), (Reg.LG_CFG.word, lgCfgBad w), (Reg.CP_CFG.word, decide (Reg.CP_CFG.DUMMY.of w < 6 ∨ Reg.CP_CFG.LANES.of w = 3)), (Reg.MP_SEL.word 0, mpSelBad 0 w), (Reg.MP_SEL.word 7, mpSelBad 7 w), (Reg.CAL_CTRL.word, calCtrlBad w), (Reg.CAL_REF.word, calRefBad w), (Reg.SO_CTRL.word, decide (Reg.SO_CTRL.PD_IDLE.of w < 64))]) ∧ x.2 = true) ∧
    (∃ (s : Machine.State) (w : Word) (x : Nat × Bool), s.mode ≠ Mode.RESET ∧ (x ∈ [(Reg.HK_CTRL.word, hkCtrlBad w), (Reg.HK_RATE.word, hkRateBad w), (Reg.LG_CFG.word, lgCfgBad w), (Reg.CP_CFG.word, decide (Reg.CP_CFG.DUMMY.of w < 6 ∨ Reg.CP_CFG.LANES.of w = 3)), (Reg.MP_SEL.word 0, mpSelBad 0 w), (Reg.MP_SEL.word 7, mpSelBad 7 w), (Reg.CAL_CTRL.word, calCtrlBad w), (Reg.CAL_REF.word, calRefBad w), (Reg.SO_CTRL.word, decide (Reg.SO_CTRL.PD_IDLE.of w < 64))]) ∧ x.2 = true) ∧
    (∃ (s : Machine.State) (w : Word) (x : Nat × Bool), s.mode ≠ Mode.RESET ∧ (x ∈ [(Reg.HK_CTRL.word, hkCtrlBad w), (Reg.HK_RATE.word, hkRateBad w), (Reg.LG_CFG.word, lgCfgBad w), (Reg.CP_CFG.word, decide (Reg.CP_CFG.DUMMY.of w < 6 ∨ Reg.CP_CFG.LANES.of w = 3)), (Reg.MP_SEL.word 0, mpSelBad 0 w), (Reg.MP_SEL.word 7, mpSelBad 7 w), (Reg.CAL_CTRL.word, calCtrlBad w), (Reg.CAL_REF.word, calRefBad w), (Reg.SO_CTRL.word, decide (Reg.SO_CTRL.PD_IDLE.of w < 64))]) ∧ x.2 = true) ∧
    (∃ (s : Machine.State) (w : Word) (x : Nat × Bool), s.mode ≠ Mode.RESET ∧ (x ∈ [(Reg.HK_CTRL.word, hkCtrlBad w), (Reg.HK_RATE.word, hkRateBad w), (Reg.LG_CFG.word, lgCfgBad w), (Reg.CP_CFG.word, decide (Reg.CP_CFG.DUMMY.of w < 6 ∨ Reg.CP_CFG.LANES.of w = 3)), (Reg.MP_SEL.word 0, mpSelBad 0 w), (Reg.MP_SEL.word 7, mpSelBad 7 w), (Reg.CAL_CTRL.word, calCtrlBad w), (Reg.CAL_REF.word, calRefBad w), (Reg.SO_CTRL.word, decide (Reg.SO_CTRL.PD_IDLE.of w < 64))]) ∧ x.2 = true) ∧
    (∃ (s : Machine.State) (w : Word) (x : Nat × Bool), s.mode ≠ Mode.RESET ∧ (x ∈ [(Reg.HK_CTRL.word, hkCtrlBad w), (Reg.HK_RATE.word, hkRateBad w), (Reg.LG_CFG.word, lgCfgBad w), (Reg.CP_CFG.word, decide (Reg.CP_CFG.DUMMY.of w < 6 ∨ Reg.CP_CFG.LANES.of w = 3)), (Reg.MP_SEL.word 0, mpSelBad 0 w), (Reg.MP_SEL.word 7, mpSelBad 7 w), (Reg.CAL_CTRL.word, calCtrlBad w), (Reg.CAL_REF.word, calRefBad w), (Reg.SO_CTRL.word, decide (Reg.SO_CTRL.PD_IDLE.of w < 64))]) ∧ x.2 = true) ∧
    (∃ (s : Machine.State) (w : Word) (x : Nat × Bool), s.mode ≠ Mode.RESET ∧ (x ∈ [(Reg.HK_CTRL.word, hkCtrlBad w), (Reg.HK_RATE.word, hkRateBad w), (Reg.LG_CFG.word, lgCfgBad w), (Reg.CP_CFG.word, decide (Reg.CP_CFG.DUMMY.of w < 6 ∨ Reg.CP_CFG.LANES.of w = 3)), (Reg.MP_SEL.word 0, mpSelBad 0 w), (Reg.MP_SEL.word 7, mpSelBad 7 w), (Reg.CAL_CTRL.word, calCtrlBad w), (Reg.CAL_REF.word, calRefBad w), (Reg.SO_CTRL.word, decide (Reg.SO_CTRL.PD_IDLE.of w < 64))]) ∧ x.2 = true) ∧
    (∃ (s : Machine.State) (w : Word) (x : Nat × Bool), s.mode ≠ Mode.RESET ∧ (x ∈ [(Reg.HK_CTRL.word, hkCtrlBad w), (Reg.HK_RATE.word, hkRateBad w), (Reg.LG_CFG.word, lgCfgBad w), (Reg.CP_CFG.word, decide (Reg.CP_CFG.DUMMY.of w < 6 ∨ Reg.CP_CFG.LANES.of w = 3)), (Reg.MP_SEL.word 0, mpSelBad 0 w), (Reg.MP_SEL.word 7, mpSelBad 7 w), (Reg.CAL_CTRL.word, calCtrlBad w), (Reg.CAL_REF.word, calRefBad w), (Reg.SO_CTRL.word, decide (Reg.SO_CTRL.PD_IDLE.of w < 64))]) ∧ x.2 = true) ∧
    (∃ (s : Machine.State) (w : Word) (x : Nat × Bool), s.mode ≠ Mode.RESET ∧ (x ∈ [(Reg.HK_CTRL.word, hkCtrlBad w), (Reg.HK_RATE.word, hkRateBad w), (Reg.LG_CFG.word, lgCfgBad w), (Reg.CP_CFG.word, decide (Reg.CP_CFG.DUMMY.of w < 6 ∨ Reg.CP_CFG.LANES.of w = 3)), (Reg.MP_SEL.word 0, mpSelBad 0 w), (Reg.MP_SEL.word 7, mpSelBad 7 w), (Reg.CAL_CTRL.word, calCtrlBad w), (Reg.CAL_REF.word, calRefBad w), (Reg.SO_CTRL.word, decide (Reg.SO_CTRL.PD_IDLE.of w < 64))]) ∧ x.2 = true) ∧
    (∃ (s : Machine.State) (w : Word) (x : Nat × Bool), s.mode ≠ Mode.RESET ∧ (x ∈ [(Reg.HK_CTRL.word, hkCtrlBad w), (Reg.HK_RATE.word, hkRateBad w), (Reg.LG_CFG.word, lgCfgBad w), (Reg.CP_CFG.word, decide (Reg.CP_CFG.DUMMY.of w < 6 ∨ Reg.CP_CFG.LANES.of w = 3)), (Reg.MP_SEL.word 0, mpSelBad 0 w), (Reg.MP_SEL.word 7, mpSelBad 7 w), (Reg.CAL_CTRL.word, calCtrlBad w), (Reg.CAL_REF.word, calRefBad w), (Reg.SO_CTRL.word, decide (Reg.SO_CTRL.PD_IDLE.of w < 64))]) ∧ x.2 = true) :=
  ⟨⟨State.reset, 0xFFFFFF, by decide +kernel, by decide +kernel, by decide +kernel⟩,
   ⟨stIn Mode.RUN [], 0x100000, by decide +kernel, by decide +kernel⟩,
   ⟨stIn Mode.RUN [], 0x000FFF, by decide +kernel, by decide +kernel⟩,
   ⟨stIn Mode.RUN [], 5, by decide +kernel, by decide +kernel, by decide +kernel⟩,
   ⟨stIn Mode.RUN [], 0x005000, by decide +kernel, by decide +kernel, by decide +kernel⟩,
   ⟨stIn Mode.RUN [], 0x001002, by decide +kernel, by decide +kernel, by decide +kernel⟩,
   ⟨siteSt Mode.RUN 0 Site.RUNNING [], 0x001100, 0, by decide +kernel, by decide +kernel, by decide +kernel, by decide +kernel, by decide +kernel⟩,
   ⟨stIn Mode.RUN [], 0x0B0000, 0, by decide +kernel, by decide +kernel, by decide +kernel, by decide +kernel, by decide +kernel, by decide +kernel⟩,
   ⟨stIn Mode.RUN [], 0, (Reg.HK_CTRL.word, true), by decide +kernel, by decide +kernel, by decide +kernel⟩,
   ⟨stIn Mode.RUN [], 0, (Reg.HK_RATE.word, true), by decide +kernel, by decide +kernel, by decide +kernel⟩,
   ⟨stIn Mode.RUN [], 0, (Reg.CP_CFG.word, true), by decide +kernel, by decide +kernel, by decide +kernel⟩,
   ⟨stIn Mode.RUN [], 0, (Reg.CAL_REF.word, true), by decide +kernel, by decide +kernel, by decide +kernel⟩,
   ⟨stIn Mode.RUN [], 0, (Reg.SO_CTRL.word, true), by decide +kernel, by decide +kernel, by decide +kernel⟩,
   ⟨stIn Mode.RUN [], BitVec.ofNat 128 (2 ^ 128 - 1), (Reg.LG_CFG.word, true), by decide +kernel, by decide +kernel, by decide +kernel⟩,
   ⟨stIn Mode.RUN [], 0, (Reg.MP_SEL.word 0, true), by decide +kernel, by decide +kernel, by decide +kernel⟩,
   ⟨stIn Mode.RUN [], 0, (Reg.MP_SEL.word 7, true), by decide +kernel, by decide +kernel, by decide +kernel⟩,
   ⟨stIn Mode.RUN [], BitVec.ofNat 128 (2 ^ 128 - 1), (Reg.CAL_CTRL.word, true), by decide +kernel, by decide +kernel, by decide +kernel⟩⟩

/-- Premises of RowsAreDirectWrites, clause by clause. -/
theorem wit_RowsAreDirectWrites :
    (∃ (s : Machine.State) (p : Port) (w : Word) (x : Nat × Instr), s.mode ≠ Mode.RESET ∧ x ∈ [(Reg.LG_HEAD.word, Instr.lgHeadWrite p w), (Reg.LG_OVF.word, Instr.lgOvfWrite p w), (Reg.LG_SNAP.word, Instr.lgSnapWrite p w)]) ∧
    (∃ (s : Machine.State) (w : Word), s.mode ≠ Mode.RESET ∧ Reg.MP_XFER.OP.of w = 1) ∧
    (∃ (s : Machine.State) (w : Word), s.mode ≠ Mode.RESET ∧ Reg.MP_XFER.OP.of w = 2) ∧
    (∃ (s : Machine.State) (w : Word), s.mode ≠ Mode.RESET ∧ Reg.MP_XFER.OP.of w = 3) ∧
    (∃ (s : Machine.State) (w : Word), s.mode ≠ Mode.RESET ∧ Reg.SI_CMD.OP.of w = 1) ∧
    (∃ (s : Machine.State) (w : Word), s.mode ≠ Mode.RESET ∧ Reg.SI_CMD.OP.of w = 3) ∧
    (∃ (s : Machine.State) (w : Word), s.mode ≠ Mode.RESET ∧ Reg.LX_CMD.CMD.of w = 1) ∧
    (∃ (s : Machine.State) (w : Word), s.mode ≠ Mode.RESET ∧ Reg.LX_CMD.CMD.of w = 2) ∧
    (∃ (s : Machine.State) (w : Word), s.mode ≠ Mode.RESET ∧ Reg.LX_CMD.CMD.of w = 3) ∧
    (∃ (s : Machine.State) (w : Word) (n : Fin 64), s.mode ≠ Mode.RESET ∧ (Reg.SQ_CMD.CMD ↑n).of w = 1) ∧
    (∃ (s : Machine.State) (w : Word) (k : Fin 16), s.mode ≠ Mode.RESET ∧ (Reg.CL_CMD.CMD ↑k).of w = 1) ∧
    (∃ (s : Machine.State) (w : Word), s.mode ≠ Mode.RESET ∧ Reg.CAL_CMD.CMD.of w = 5) :=
  ⟨⟨stIn Mode.RUN [], .bar0, 5, (Reg.LG_SNAP.word, .lgSnapWrite .bar0 5), by decide +kernel, by decide +kernel⟩,
   ⟨stIn Mode.RUN [], 1, by decide +kernel, by decide +kernel⟩,
   ⟨stIn Mode.RUN [], 2, by decide +kernel, by decide +kernel⟩,
   ⟨stIn Mode.RUN [], 3, by decide +kernel, by decide +kernel⟩,
   ⟨stIn Mode.RUN [], 1, by decide +kernel, by decide +kernel⟩,
   ⟨stIn Mode.RUN [], 3, by decide +kernel, by decide +kernel⟩,
   ⟨stIn Mode.RUN [], 1, by decide +kernel, by decide +kernel⟩,
   ⟨stIn Mode.RUN [], 2, by decide +kernel, by decide +kernel⟩,
   ⟨stIn Mode.RUN [], 3, by decide +kernel, by decide +kernel⟩,
   ⟨stIn Mode.RUN [], 1, 63, by decide +kernel, by decide +kernel⟩,
   ⟨stIn Mode.RUN [], 1, 15, by decide +kernel, by decide +kernel⟩,
   ⟨stIn Mode.RUN [], 5, by decide +kernel, by decide +kernel⟩⟩

/-- Premises of BulkAccessPastTheEnd, clause by clause. -/
theorem wit_BulkAccessPastTheEnd :
    (∃ (s : Machine.State) (c : Fin 4) (o : BitVec 20) (len : Nat), s.link.d3 = false ∧ s.get (Reg.HL_BULK.MODE ↑c) ≠ 0 ∧ (if s.get (Reg.HL_BULK.TARGET ↑c) = 0 then 2 ^ 35 else 16777216) < (s.get (Reg.HL_BULK.PTR ↑c) + if s.get (Reg.HL_BULK.MODE ↑c) = 1 then 0 else o.toNat) + len) ∧
    (∃ (s : Machine.State) (c : Fin 4) (o : BitVec 20) (len : Nat), s.link.d3 = false ∧ s.get (Reg.HL_BULK.MODE ↑c) ≠ 0 ∧ (if s.get (Reg.HL_BULK.TARGET ↑c) = 0 then 2 ^ 35 else 16777216) < (s.get (Reg.HL_BULK.PTR ↑c) + if s.get (Reg.HL_BULK.MODE ↑c) = 1 then 0 else o.toNat) + len) ∧
    (∃ (s : Machine.State) (c : Fin 4) (o : BitVec 20) (data : List ByteLane), s.link.d3 = false ∧ s.get (Reg.HL_BULK.MODE ↑c) ≠ 0 ∧ (if s.get (Reg.HL_BULK.TARGET ↑c) = 0 then 2 ^ 35 else 16777216) < (s.get (Reg.HL_BULK.PTR ↑c) + if s.get (Reg.HL_BULK.MODE ↑c) = 1 then 0 else o.toNat) + data.length) :=
  ⟨⟨st [(Reg.HL_BULK.MODE 3, 1), (Reg.HL_BULK.PTR 3, pmSize)], 3, 0, 1, by decide +kernel, by decide +kernel, by decide +kernel⟩,
   ⟨st [(Reg.HL_BULK.MODE 3, 2), (Reg.HL_BULK.TARGET 3, 1), (Reg.HL_BULK.PTR 3, 16777216 - 2 ^ 20 + 1)], 3, 0xFFFFF, 1, by decide +kernel, by decide +kernel, by decide +kernel⟩,
   ⟨st [(Reg.HL_BULK.MODE 3, 2), (Reg.HL_BULK.PTR 3, pmSize)], 3, 0, [some 0], by decide +kernel, by decide +kernel, by decide +kernel⟩⟩

/-- Premises of StepTakesTheFrontCommand, clause by clause. -/
theorem wit_StepTakesTheFrontCommand :
    (∃ (c : Instr) (q : List Instr) (s : Machine.State), s.pending = c :: q) ∧
    (∃ (s : Machine.State), s.pending = [] ∧ s.pmus = [] ∧ s.tb.holds = [] ∧ s.tb.refPresent = true ∧ s.tb.load = none) ∧
    (∃ (s : Machine.State) (b : Nat), s.pending = [] ∧ s.pmus = [] ∧ s.tb.holds = [] ∧ s.tb.refPresent = true ∧ s.tb.load = some b) ∧
    (∃ (s : Machine.State), s.pending = [] ∧ s.pmus = [] ∧ s.tb.holds = [] ∧ s.tb.refPresent = false) :=
  ⟨⟨.cpNop, [], { State.reset with pending := [.cpNop] }, by decide +kernel⟩,
   ⟨State.reset, by decide +kernel, by decide +kernel, by decide +kernel, by decide +kernel, by decide +kernel⟩,
   ⟨{ State.reset with tb := { State.reset.tb with load := some 7 } }, 7, by decide +kernel, by decide +kernel, by decide +kernel, by decide +kernel, by decide +kernel⟩,
   ⟨{ State.reset with tb := { State.reset.tb with refPresent := false } }, by decide +kernel, by decide +kernel, by decide +kernel, by decide +kernel⟩⟩

/-- Premises of ResetState, clause by clause. -/
theorem wit_ResetState :
    (∃ (n : Nat), n < 64) ∧
    (∃ (c : Nat), c < 2) :=
  ⟨⟨63, by decide +kernel⟩,
   ⟨1, by decide +kernel⟩⟩

/-- Premises of EveryStepKeepsCanonicalStorage, clause by clause. -/
theorem wit_EveryStepKeepsCanonicalStorage :
    (∃ (s : Machine.State) (t : Machine.State), s.Canonical ∧ step s = Host.Outcome.next t) ∧
    (∃ (s : Machine.State) (t : Machine.State), s.Canonical ∧ t.Canonical ∧ (∀ (a : Nat), s.reg a = t.reg a ∧ s.shadowReg a = t.shadowReg a ∧ s.heldReg a = t.heldReg a) ∧ (∀ (a : Nat), s.byte a = t.byte a)) :=
  ⟨⟨{ State.reset with pending := [.cpNop] }, State.reset.cpBegin, ⟨by decide +kernel, by decide +kernel, by decide +kernel, by decide +kernel, by decide +kernel, by decide +kernel, by decide +kernel⟩, rfl⟩,
   ⟨State.reset, State.reset, ⟨by decide +kernel, by decide +kernel, by decide +kernel, by decide +kernel, by decide +kernel, by decide +kernel, by decide +kernel⟩, ⟨by decide +kernel, by decide +kernel, by decide +kernel, by decide +kernel, by decide +kernel, by decide +kernel, by decide +kernel⟩, fun _ => ⟨rfl, rfl, rfl⟩, fun _ => rfl⟩⟩

/-- Premises of OnlyTheseCommandsChangeIt, clause by clause. -/
theorem wit_OnlyTheseCommandsChangeIt :
    (∃ (i : Instr) (s : Machine.State) (t : Machine.State), exec i s = Host.Outcome.next t ∧ storesMemory i = false) ∧
    (∃ (i : Instr) (s : Machine.State) (t : Machine.State), exec i s = Host.Outcome.next t ∧ storesNvm i = false) ∧
    (∃ (i : Instr) (s : Machine.State) (t : Machine.State), exec i s = Host.Outcome.next t ∧ storesControl i = false) ∧
    (∃ (i : Instr) (s : Machine.State) (t : Machine.State), exec i s = Host.Outcome.next t ∧ changesStructure i = false) :=
  ⟨⟨.cpNop, State.reset, State.reset.cpBegin, rfl, by decide +kernel⟩,
   ⟨.cpNop, State.reset, State.reset.cpBegin, rfl, by decide +kernel⟩,
   ⟨.cpNop, State.reset, State.reset.cpBegin, rfl, by decide +kernel⟩,
   ⟨.cpNop, State.reset, State.reset.cpBegin, rfl, by decide +kernel⟩⟩

/-! ### More worked cases, over the states of the premises -/

/-- Sequencer: the fields of statement 8, BRS EQ 0x04 to 30, in its value. -/
theorem test_brs_word : 
    let i := Stmt.of 0x040000000000001E0000000000000004#128; i.op = 4 ∧ i.target = 30 ∧ i.cc = 0 ∧ i.imm = 4 := by decide +kernel

/-- Sequencer: LDI X3, -100,000 and LDI.H X3, 100,000 leave 0x0001_86A0_FFFF_FFFF_FFFE_7960 in X3. -/
theorem test_ldi : let a := after (.stmtLdi 63) (runs ⟨16, 3, 0, 0, 0, 2 ^ 64 - 100000⟩ [])
    let b := (after (.stmtLdi 63) ((runs ⟨16, 3, 0, 0, 1, 100000⟩ []).setX 63 3 (a.getX 63 3)))
    b.getX 63 3 = 0x186A0FFFFFFFFFFFE7960#128 := by decide +kernel

/-- Control store: the fields of SETM's word 0xC10F. -/
theorem test_microword : let w : MicroWord := 0x6C10D14050004000000000000000000000000000000000000000000000000000#256
    w.comma = false ∧ w.nxt = 6 ∧ w.na = 0xC10D ∧ w.cond = 5 ∧ w.cinv = false ∧ w.srcA = 0xA ∧ w.dst = 4 := by decide +kernel

/-- Control port: frame 1 opens slot 3, frame 2 stages the action, frame 3 commits with a lead of 153 beats, and the full stop 10,400 writes VOH. -/
theorem test_stage_clause : let s0 := { stIn Mode.STANDBY [(Reg.TB_STAT.CNT_VALID, 1), (Reg.MP_LIMCH.NEEDLE 40, 1)] with beat := 10077, maps := [(2, ⟨[⟨40, 0, 0⟩], [], [], 1⟩)] }
    let s1 := after (.cpWrite 0x006130 [1, BitVec.ofNat 128 (10400 * 2 ^ 64)] false) s0
    let s2 := after (.cpWriteCrc 0x006132 [0x1AB85, 0x1FFFF, 0x080A13] (BitVec.ofNat 16 (frameCrc 0x006132 [0x1AB85, 0x1FFFF, 0x080A13]))) s1
    let s3 := after (.cpWrite 0x006130 [2] false) { s2 with beat := 10247 }
    let s4 := after (.prepareComplete 3) { s3 with beat := 10252 }
    let s5 := after .fullStop { s4 with beat := 10400 }
    (s1.get (Reg.CL_SLOT_STAT.STATE 3), s2.get (Reg.CL_SLOT_STAT.ACTIONS 3), s3.get (Reg.CL_SLOT_STAT.STATE 3), s4.get (Reg.CL_SLOT_STAT.STATE 3)) = (1, 1, 2, 3) ∧
      (s2.get Reg.CP_STAT.LAST, s3.get Reg.CP_STAT.LAST) = (2, 2) ∧ (s5.get (Reg.CL_SLOT_STAT.STATE 3), s5.get (Reg.CL_SLOT_STAT.RESULT 3)) = (4, 0) ∧
      wget (s5.readWord 0x080A13) 16 0 = 0x1AB85 := by decide +kernel

/-- Levels: the span passage of PMUF, from the full stop at 820,000: OUT 0x3000, then 0x4000 at the switch, then 0xB333. -/
theorem test_passage : let s0 := { stIn Mode.RUN [(Reg.CH_LVL.SPAN 192 7, 1), (Reg.CH_LVL.CODE 192 7, 0xB333)] with beat := 820000 }.levelCommit 192 7
    let s1 := after (.passageSpanSwitch 192 7) { s0 with beat := 820002 }
    let s2 := after (.passageCodeLoad 192 7) { s1 with beat := 820102 }
    (s0.get (Reg.CH_LVL.OUT 192 7), s1.get (Reg.CH_LVL.OUT 192 7), s2.get (Reg.CH_LVL.OUT 192 7)) = (0x3000, 0x4000, 0xB333) := by decide +kernel

end Sys2Proof.Tests
end

section
/-! SUPPORT. Every command keeps what the primitive operations that it is built from keep; the canonical form of the storage is such a property. -/

namespace Sys2Proof.Machine

/-! ### Every command keeps a kept property -/

/-- R498, R520: the commands that reset the whole device. -/
def resetsDevice (i : Instr) : Bool := match i with
  | .resetN => true
  | .powerOn => true
  | .brownOut _ => true
  | _ => false

/-- What the command `i` asks of a property beside `Keeps`: to be kept by the stores, the changes of structure and the resets that `i` can do. -/
structure KeepsUnder (P : State → Prop) (i : Instr) : Prop where
  mem : storesMemory i = true → KeepsMem P
  nvm : storesNvm i = true → KeepsNvm P
  cs : storesControl i = true → KeepsCs P
  maps : changesStructure i = true → KeepsMaps P
  reset : resetsDevice i = true → KeepsReset P

/-- Each command keeps a property that the primitive operations it uses keep: one case a command, by the lemma of its meaning. -/
theorem exec_kept {P : State → Prop} [Keeps P] (i : Instr) (hk : KeepsUnder P i) {s : State} (h : P s) : Out.All P (exec i s) := by
  cases i with
  | pllLock => exact execPllLock_kept h
  | refclkLost => have := hk.maps rfl; exact execRefclkLost_kept h
  | tbLoad => exact execTbLoad_kept _ _ h
  | tbCtrlWrite => exact execTbCtrlWrite_kept _ _ h
  | epochFrame => exact execEpochFrame_kept _ _ h
  | idleFrame => exact execIdleFrame_kept _ _ h
  | commitFrame => exact execCommitFrame_kept _ _ h
  | abortFrame => exact execAbortFrame_kept _ _ h
  | snapshotFrame => exact execSnapshotFrame_kept _ _ _ h
  | holdFrame => exact execHoldFrame_kept _ _ h
  | releaseFrame => exact execReleaseFrame_kept _ _ h
  | reservedFrame => exact execReservedFrame_kept _ _ h
  | badSyncFrame => exact execBadSyncFrame_kept _ _ h
  | refclkInverted => exact execRefclkInverted_kept _ h
  | syncFrameLaunch => exact execSyncFrameLaunch_kept _ h
  | statusFrameLaunch => exact execStatusFrameLaunch_kept _ h
  | tbRootCmdHold => exact execTbRootCmdHold_kept _ _ h
  | tbRootCmdRelease => exact execTbRootCmdRelease_kept _ _ h
  | followEdge => exact execFollowEdge_kept _ _ _ h
  | followStall => exact execFollowStall_kept _ h
  | siCmdLoad => exact execSiCmdLoad_kept _ h
  | siCmdReshape => exact execSiCmdReshape_kept _ _ h
  | siCmdCheck => exact execSiCmdCheck_kept _ h
  | siCmdClear => exact execSiCmdClear_kept _ h
  | loadComplete => have := hk.maps rfl; exact execLoadComplete_kept h
  | reshapeComplete => have := hk.maps rfl; exact execReshapeComplete_kept h
  | checkComplete => exact execCheckComplete_kept h
  | vectorStart => exact execVectorStart_kept _ h
  | strobe c o k => have := hk.mem rfl; exact execStrobe_kept c o k h
  | comparatorResolved => exact execComparatorResolved_kept _ _ _ _ h
  | clampHit => exact execClampHit_kept _ h
  | busSwitchClose => exact execBusSwitchClose_kept _ h
  | busSwitchDzEnd => exact execBusSwitchDzEnd_kept _ h
  | eeTwrWrite => exact execEeTwrWrite_kept _ _ _ h
  | switchOver => exact execSwitchOver_kept h
  | pmReady => exact execPmReady_kept h
  | pmRgnWrite => exact execPmRgnWrite_kept _ _ _ h
  | bulkWrite => have := hk.mem rfl; exact execBulkWrite_kept _ _ _ h
  | bulkRead => exact execBulkRead_kept _ _ _ h
  | descriptorRead => exact execDescriptorRead_kept _ h
  | frameFetchComplete => exact execFrameFetchComplete_kept _ h
  | frameBoundary => exact execFrameBoundary_kept _ h
  | streamStart => exact execStreamStart_kept _ h
  | stackPowerDown => exact execStackPowerDown_kept _ h
  | soFcCfgWrite => exact execSoFcCfgWrite_kept _ _ _ h
  | soFcPtrWrite => exact execSoFcPtrWrite_kept _ _ _ h
  | clrFail => exact execClrFail_kept _ _ h
  | stmtNop => exact execStmtNop_kept _ h
  | stmtEnd => exact execStmtEnd_kept _ h
  | endComplete => exact execEndComplete_kept _ h
  | stmtJmp => exact execStmtJmp_kept _ h
  | stmtBr => exact execStmtBr_kept _ h
  | stmtBrs => exact execStmtBrs_kept _ h
  | stmtCall => exact execStmtCall_kept _ h
  | stmtRet => exact execStmtRet_kept _ h
  | stmtLoop => exact execStmtLoop_kept _ h
  | stmtHold => exact execStmtHold_kept _ h
  | stmtLdi => exact execStmtLdi_kept _ h
  | stmtAdd => exact execStmtAdd_kept _ h
  | stmtSub => exact execStmtSub_kept _ h
  | stmtAnd => exact execStmtAnd_kept _ h
  | stmtOr => exact execStmtOr_kept _ h
  | stmtXor => exact execStmtXor_kept _ h
  | stmtShl => exact execStmtShl_kept _ h
  | stmtShr => exact execStmtShr_kept _ h
  | stmtSar => exact execStmtSar_kept _ h
  | stmtLdp => exact execStmtLdp_kept _ h
  | stmtRdw => exact execStmtRdw_kept _ h
  | stmtNow => exact execStmtNow_kept _ h
  | stmtWaitb => exact execStmtWaitb_kept _ h
  | waitbTarget => exact execWaitbTarget_kept _ h
  | stmtWaitf => exact execStmtWaitf_kept _ h
  | waitfTimeout => exact execWaitfTimeout_kept _ h
  | stmtWaitp => exact execStmtWaitp_kept _ h
  | waitpComplete => exact execWaitpComplete_kept _ h
  | waitpTimeout => exact execWaitpTimeout_kept _ h
  | stmtClo => exact execStmtClo_kept _ h
  | cloWaitEnd => exact execCloWaitEnd_kept _ h
  | stmtCla => exact execStmtCla_kept _ h
  | stmtClt => exact execStmtClt_kept _ h
  | stmtClc => exact execStmtClc_kept _ h
  | clcDecision => exact execClcDecision_kept _ h
  | stmtCld => exact execStmtCld_kept _ h
  | stmtPlay => exact execStmtPlay_kept _ h
  | stmtMeas => exact execStmtMeas_kept _ h
  | stmtTmeas => exact execStmtTmeas_kept _ h
  | stmtLtest => exact execStmtLtest_kept _ h
  | stmtRec => exact execStmtRec_kept _ h
  | stmtBin => exact execStmtBin_kept _ h
  | stmtAcc => exact execStmtAcc_kept _ h
  | customerOpcode => exact execCustomerOpcode_kept _ h
  | sqCmdArm => exact execSqCmdArm_kept _ _ h
  | sqCmdDisarm => exact execSqCmdDisarm_kept _ _ h
  | sqCmdHold => exact execSqCmdHold_kept _ _ h
  | sqCmdResume => exact execSqCmdResume_kept _ _ _ h
  | sqCmdStop => exact execSqCmdStop_kept _ _ h
  | stopComplete => exact execStopComplete_kept _ h
  | commaStarve => exact execCommaStarve_kept _ h
  | microword => exact execMicroword_kept _ h
  | extClopen => exact execExtClopen_kept _ h
  | extClact => exact execExtClact_kept _ h
  | extCltab => exact execExtCltab_kept _ h
  | extClcommit => exact execExtClcommit_kept _ h
  | extCldiscard => exact execExtCldiscard_kept _ h
  | extRdreg => exact execExtRdreg_kept _ h
  | extRdprog => exact execExtRdprog_kept _ h
  | extRec => exact execExtRec_kept _ h
  | extPlay => exact execExtPlay_kept _ h
  | extMeas => exact execExtMeas_kept _ h
  | extTmeas => exact execExtTmeas_kept _ h
  | extLtest => exact execExtLtest_kept _ h
  | extAcc => exact execExtAcc_kept _ h
  | extHold => exact execExtHold_kept _ h
  | extEnd => exact execExtEnd_kept _ h
  | extArmb => exact execExtArmb_kept _ h
  | extArmf => exact execExtArmf_kept _ h
  | extArmp => exact execExtArmp_kept _ h
  | extPushpc => exact execExtPushpc_kept _ h
  | extPoppc => exact execExtPoppc_kept _ h
  | extFault => exact execExtFault_kept _ h
  | loadVendor => exact execLoadVendor_kept _ h
  | vendorLoadDone => have := hk.cs rfl; exact execVendorLoadDone_kept h
  | loadCustomer => exact execLoadCustomer_kept _ h
  | customerLoadDone => have := hk.cs rfl; exact execCustomerLoadDone_kept h
  | swap => exact execSwap_kept _ h
  | keyWrite => exact execKeyWrite_kept _ _ h
  | keyRevoke => exact execKeyRevoke_kept _ _ h
  | keyCommandDone => have := hk.nvm rfl; exact execKeyCommandDone_kept _ h
  | clCmdOpen => exact execClCmdOpen_kept _ _ h
  | clCmdCommit => exact execClCmdCommit_kept _ _ h
  | clCmdDiscard => exact execClCmdDiscard_kept _ _ h
  | clCmdFree => exact execClCmdFree_kept _ _ h
  | clSetWrite => exact execClSetWrite_kept _ _ _ h
  | clAddrWrite => exact execClAddrWrite_kept _ _ _ h
  | prepareComplete => exact execPrepareComplete_kept _ h
  | fullStop => exact execFullStop_kept h
  | decisionDeadline => exact execDecisionDeadline_kept _ h
  | tmCmdArm => exact execTmCmdArm_kept _ _ _ h
  | tmCmdCancel => exact execTmCmdCancel_kept _ _ h
  | tmSelfcal => exact execTmSelfcal_kept _ _ h
  | tdcCapture => exact execTdcCapture_kept _ _ _ h
  | tmTimeout => exact execTmTimeout_kept _ h
  | gateEnd => exact execGateEnd_kept _ h
  | deglitchStep => exact execDeglitchStep_kept _ _ h
  | passageSpanSwitch => exact execPassageSpanSwitch_kept _ _ h
  | passageCodeLoad => exact execPassageCodeLoad_kept _ _ h
  | passageEnd => exact execPassageEnd_kept _ _ h
  | pmuConnect => exact execPmuConnect_kept _ h
  | pmuPassageEnd => exact execPmuPassageEnd_kept _ h
  | pmuCompliance => exact execPmuCompliance_kept _ _ h
  | pmuSettleEnd => exact execPmuSettleEnd_kept _ _ h
  | pmuSampleEnd => exact execPmuSampleEnd_kept _ _ _ h
  | chPmucmdMeasure => exact execChPmucmdMeasure_kept _ _ _ h
  | chPmucmdCancel => exact execChPmucmdCancel_kept _ _ h
  | wfSample => exact execWfSample_kept _ h
  | wfConnect => exact execWfConnect_kept _ h
  | wfPassageEnd => exact execWfPassageEnd_kept _ h
  | wfTcmdLoad => exact execWfTcmdLoad_kept _ _ h
  | wfTableLoadDone => exact execWfTableLoadDone_kept _ h
  | dpsDelayEnd => exact execDpsDelayEnd_kept _ h
  | dpsRampStep => exact execDpsRampStep_kept _ h
  | dpsSwitchOpen => exact execDpsSwitchOpen_kept _ _ h
  | dpsOpenHigh => exact execDpsOpenHigh_kept _ h
  | dpsCompliance => exact execDpsCompliance_kept _ _ h
  | dpsCmdMeasure => exact execDpsCmdMeasure_kept _ _ _ h
  | dpsCmdCancel => exact execDpsCmdCancel_kept _ _ h
  | dpsCmdCheck => exact execDpsCmdCheck_kept _ _ h
  | senseCheckDone => exact execSenseCheckDone_kept _ _ h
  | negvTrip => exact execNegvTrip_kept _ h
  | senseTrip => exact execSenseTrip_kept _ h
  | guardTrip => exact execGuardTrip_kept _ _ _ _ h
  | blankEnd => exact execBlankEnd_kept _ _ _ h
  | filterSample => exact execFilterSample_kept _ _ _ h
  | clearCh => exact execClearCh_kept _ _ h
  | clearDps => exact execClearDps_kept _ _ h
  | clearSite => exact execClearSite_kept _ _ h
  | clearAll => exact execClearAll_kept _ h
  | selfcheck => exact execSelfcheck_kept _ _ h
  | selfcheckDone => exact execSelfcheckDone_kept _ _ h
  | contactRun => exact execContactRun_kept _ h
  | contactCheckDone => exact execContactCheckDone_kept _ h
  | refcalRun => exact execRefcalRun_kept _ _ h
  | refcalComplete => exact execRefcalComplete_kept _ h
  | calAbort => exact execCalAbort_kept _ h
  | qcal => exact execQcal_kept _ _ h
  | save => exact execSave_kept _ _ h
  | saveDone => have := hk.nvm rfl; exact execSaveDone_kept _ h
  | restore => exact execRestore_kept _ _ h
  | restoreDone => exact execRestoreDone_kept _ h
  | liveCycleStart => exact execLiveCycleStart_kept _ h
  | transferPhaseEnd => exact execTransferPhaseEnd_kept _ _ h
  | shadowCapture => exact execShadowCapture_kept _ _ _ h
  | calibrationSlot => exact execCalibrationSlot_kept _ h
  | liveCycleEnd => exact execLiveCycleEnd_kept _ h
  | recordWrite => exact execRecordWrite_kept h
  | migrationStart => exact execMigrationStart_kept h
  | migrationBurstDone => have := hk.mem rfl; exact execMigrationBurstDone_kept h
  | lgHeadWrite => exact execLgHeadWrite_kept _ _ h
  | lgOvfWrite => exact execLgOvfWrite_kept _ _ h
  | lgCmdClear => exact execLgCmdClear_kept _ h
  | lgCmdRelease => exact execLgCmdRelease_kept _ h
  | lgSnapWrite => exact execLgSnapWrite_kept _ _ h
  | snapshot => exact execSnapshot_kept h
  | trainingBlock => exact execTrainingBlock_kept _ _ h
  | blockSent => exact execBlockSent_kept _ h
  | gapEnd => exact execGapEnd_kept _ h
  | eqTimeExpiry => exact execEqTimeExpiry_kept _ h
  | trainWinExpiry => exact execTrainWinExpiry_kept _ h
  | ackWinExpiry => exact execAckWinExpiry_kept _ h
  | laneLost => exact execLaneLost_kept _ h
  | retryGapEnd => exact execRetryGapEnd_kept _ h
  | losChange => exact execLosChange_kept _ _ h
  | lolChange => exact execLolChange_kept _ _ h
  | laneDown => exact execLaneDown_kept _ h
  | directLock => exact execDirectLock_kept _ h
  | adaptUpdate => exact execAdaptUpdate_kept _ _ h
  | adaptFreeze => exact execAdaptFreeze_kept _ h
  | ltestCountEnd => exact execLtestCountEnd_kept _ _ _ h
  | mpXferXfer => exact execMpXferXfer_kept _ _ h
  | mpXferDiscover => exact execMpXferDiscover_kept _ h
  | mpXferAbort => exact execMpXferAbort_kept _ h
  | mpFrameDone => exact execMpFrameDone_kept _ h
  | discoveryDone => exact execDiscoveryDone_kept h
  | cpNop => exact execCpNop_kept h
  | cpWrite => have := hk.maps rfl; exact execCpWrite_kept _ _ _ h
  | cpRead => exact execCpRead_kept _ _ _ h
  | cpWriteCrc => have := hk.maps rfl; exact execCpWriteCrc_kept _ _ _ h
  | frameErr => exact execFrameErr_kept h
  | resetN => have := hk.reset rfl; exact execResetN_kept h
  | bar0Read => exact execBar0Read_kept _ _ h
  | bar0Write => have := hk.maps rfl; exact execBar0Write_kept _ _ h
  | hlBulkWrite => exact execHlBulkWrite_kept _ _ _ h
  | linkUp => exact execLinkUp_kept _ _ _ _ h
  | linkRecovery => exact execLinkRecovery_kept h
  | linkDown => exact execLinkDown_kept h
  | hotReset => exact execHotReset_kept h
  | functionLevelReset => exact execFunctionLevelReset_kept h
  | msixMessage => exact execMsixMessage_kept h
  | housekeepingRound => exact execHousekeepingRound_kept _ _ h
  | roundEvaluation => have := hk.maps rfl; exact execRoundEvaluation_kept h
  | stackSelfRefresh => exact execStackSelfRefresh_kept h
  | shutdownRecordDone => have := hk.nvm rfl; exact execShutdownRecordDone_kept _ h
  | hkCmdRetire => exact execHkCmdRetire_kept _ _ h
  | hkCmdRestore => exact execHkCmdRestore_kept _ _ h
  | logCmdClear => exact execLogCmdClear_kept _ h
  | logEntryWrite => exact execLogEntryWrite_kept h
  | modeReqSafe => have := hk.maps rfl; exact execModeReqSafe_kept _ _ h
  | modeReqDiscover => have := hk.maps rfl; exact execModeReqDiscover_kept _ _ h
  | modeReqShape => have := hk.maps rfl; exact execModeReqShape_kept _ _ h
  | modeReqRefcal => have := hk.maps rfl; exact execModeReqRefcal_kept _ _ h
  | modeReqStandby => have := hk.maps rfl; exact execModeReqStandby_kept _ _ h
  | modeReqReady => have := hk.maps rfl; exact execModeReqReady_kept _ _ h
  | modeReqContact => have := hk.maps rfl; exact execModeReqContact_kept _ _ h
  | modeReqRun => have := hk.maps rfl; exact execModeReqRun_kept _ _ h
  | modeReqSelftest => have := hk.maps rfl; exact execModeReqSelftest_kept _ _ h
  | modeReqForbidden => have := hk.maps rfl; exact execModeReqForbidden_kept _ _ _ h
  | scheduledModeRequest => have := hk.maps rfl; exact execScheduledModeRequest_kept h
  | devCmdSoftReset => have := hk.maps rfl; exact execDevCmdSoftReset_kept _ h
  | devCmdCancelMode => exact execDevCmdCancelMode_kept _ h
  | devSvcSpare => exact execDevSvcSpare_kept _ _ _ h
  | devSvcRetire => exact execDevSvcRetire_kept _ _ h
  | devSvcCancel => exact execDevSvcCancel_kept _ h
  | selftestDone => have := hk.maps rfl; exact execSelftestDone_kept _ h
  | powerOn => have := hk.reset rfl; exact execPowerOn_kept h
  | initDone => have := hk.maps rfl; exact execInitDone_kept h
  | brownOut => have := hk.reset rfl; exact execBrownOut_kept _ h
  | brownOutEnd => exact execBrownOutEnd_kept h
  | trstN => exact execTrstN_kept h
  | jtagExtest => exact execJtagExtest_kept _ _ h
  | jtagSamplePreload => exact execJtagSamplePreload_kept _ _ h
  | jtagIdcode => exact execJtagIdcode_kept h
  | jtagBypass => exact execJtagBypass_kept h
  | registerWrite => have := hk.maps rfl; exact execRegisterWrite_kept _ _ _ h
  | reservedOpcode => exact execReservedOpcode_kept _ h
  | checkerSync => exact execCheckerSync_kept _ _ _ h
  | checkerSyncLoss => exact execCheckerSyncLoss_kept _ _ _ h
  | adaptRestart => exact execAdaptRestart_kept _ h
  | vetoEnd => exact execVetoEnd_kept _ h
  | configWrite => exact execConfigWrite_kept _ h
  | msixTableWrite => exact execMsixTableWrite_kept _ _ _ h

/-- A step, of a command or of a beat, keeps a property that every primitive operation keeps and that does not depend on the queue. -/
theorem step_kept {P : State → Prop} [Keeps P] (hk : ∀ i, KeepsUnder P i) (hq : ∀ {s : State} (q : List Instr), P s → P { s with pending := q })
    {s : State} (h : P s) : Out.All P (step s) := by
  unfold step
  split
  · exact State.tick_kept h
  · exact exec_kept _ (hk _) (hq _ h)

/-! ### The primitive operations keep the canonical form -/

/-- R393: a run of writes keeps the canonical form. -/
theorem swf_foldl_sset {α β : Type} [DecidableEq α] (d : Nat → α) (key : β → Nat) (v : β → α) (l : List β) {m : List (Nat × α)}
    (h : swf d m = true) : swf d (l.foldl (fun m b => sset d m (key b) (v b)) m) = true := by
  induction l generalizing m with
  | nil => exact h
  | cons b l ih => exact ih (swf_sset d m _ _ h)

/-- The keys of the words that a soft reset leaves are keys from before. -/
theorem skeysAbove_softRegs {k : Nat} {m : List (Nat × Word)} (h : skeysAbove k m) : skeysAbove k (softRegs m) := by
  intro p hp
  obtain ⟨q, hq, he⟩ := List.mem_filterMap.1 hp
  have hkey : p.1 = q.1 := by
    split at he
    · dsimp only at he
      split at he
      · cases he
      · cases he; rfl
    · cases he; rfl
  exact hkey ▸ h q hq

/-- R498: a soft reset keeps the canonical form: it drops each word that it brings to its reset value. -/
theorem swf_softRegs {m : List (Nat × Word)} (h : swf resetWord m = true) : swf resetWord (softRegs m) = true := by
  induction m with
  | nil => rfl
  | cons q m ih =>
    obtain ⟨j, a⟩ := q
    obtain ⟨ha, hj, hm⟩ := (swf_cons resetWord j a m).1 h
    have hrest := ih hm
    have habove := skeysAbove_softRegs hj
    unfold softRegs at hrest habove ⊢
    rw [List.filterMap_cons]
    split
    next => exact hrest
    next b hb =>
      split at hb
      · dsimp only at hb
        split at hb
        · cases hb
        next hne => cases hb; exact (swf_cons _ _ _ _).2 ⟨hne, habove, hrest⟩
      · cases hb; exact (swf_cons _ _ _ _).2 ⟨ha, habove, hrest⟩

theorem keeps_canonical : Keeps State.Canonical where
  upd h1 h2 h3 h4 h5 h6 _ _ _ _ h := by unfold State.Canonical; rw [h1, h2, h3, h4, h5, h6]; exact h
  setReg a w h := { h with regsWf := swf_sset _ _ a w h.regsWf }
  setShadow a w h := { h with shadowWf := swf_sset _ _ a w h.shadowWf }
  latch h := { h with heldWf := swf_foldl_sset resetWord id _ _ h.heldWf }
  dropRegs f h := { h with regsWf := swf_filter _ _ f h.regsWf }
  dropHeld f h := { h with heldWf := swf_filter _ _ f h.heldWf }
  soft h := { h with regsWf := swf_softRegs h.regsWf, shadowWf := swf_filter _ _ _ h.shadowWf, heldWf := swf_filter _ _ _ h.heldWf }

/-- R131: a store inside pattern memory keeps its form and its bounds; past the end nothing is stored. -/
theorem keepsMem_canonical : KeepsMem State.Canonical where
  setByte {s} a b h := by
    unfold State.setByte
    split
    next ha =>
      refine { h with memWf := swf_sset _ _ a b h.memWf, inside := fun p hp => ?_ }
      rcases mem_of_mem_sset hp with rfl | hp
      · exact ha
      · exact h.inside p hp
    next => exact h

theorem keepsNvm_canonical : KeepsNvm State.Canonical where
  nvmPut {s} copy a bs h := by
    induction bs generalizing s a with
    | nil => exact h
    | cons b bs ih => exact ih _ { h with nvmWf := swf_sset _ _ _ b h.nvmWf }

theorem keepsCs_canonical : KeepsCs State.Canonical where
  csFill _ _ _ _ _ h :=
    State.forN_kept _ _ (fun _ _ ht => { ht with csWf := swf_sset _ _ _ _ ht.csWf }) { h with csWf := swf_filter _ _ _ h.csWf }

theorem keepsMaps_canonical : KeepsMaps State.Canonical where
  setMaps _ _ _ h := h

/-- R498: a reset leaves no word but those of the non-volatile memory, and, where pattern memory is kept, its bytes. -/
theorem keepsReset_canonical : KeepsReset State.Canonical where
  hardReset h := ⟨rfl, rfl, rfl, rfl, by simp [State.hardReset, State.reset], h.nvmWf, rfl⟩
  keepMem hs ht := { hs with memWf := ht.memWf, inside := ht.inside }

theorem keepsUnder_canonical (i : Instr) : KeepsUnder State.Canonical i :=
  ⟨fun _ => keepsMem_canonical, fun _ => keepsNvm_canonical, fun _ => keepsCs_canonical, fun _ => keepsMaps_canonical, fun _ => keepsReset_canonical⟩

/-- The invariant: a step leads from a canonical state to a canonical one. -/
theorem step_canonical {s t : State} (h : s.Canonical) (hs : step s = .next t) : t.Canonical := by
  have := keeps_canonical
  have hall : Out.All State.Canonical (step s) := step_kept keepsUnder_canonical (fun _ h => h) h
  rw [hs] at hall
  exact hall

/-! ### Canonical storage that reads alike is equal -/

section Extensionality
variable {α : Type} [DecidableEq α] {d : Nat → α}

/-- Of two canonical maps that read alike, neither begins before the other. -/
theorem head_le_of_sget_eq {i j : Nat} {a b : α} {m n : List (Nat × α)} (hm : swf d ((i, a) :: m) = true) (hn : swf d ((j, b) :: n) = true)
    (h : ∀ k, sget d ((i, a) :: m) k = sget d ((j, b) :: n) k) : j ≤ i := by
  obtain ⟨ha, -, -⟩ := (swf_cons d i a m).1 hm
  obtain ⟨-, hj, -⟩ := (swf_cons d j b n).1 hn
  by_contra hlt
  have habove : skeysAbove i ((j, b) :: n) := by
    rintro p (_ | ⟨_, hp⟩)
    · simpa using hlt
    · exact lt_trans (not_le.1 hlt) (hj p hp)
  have hi := h i
  rw [sget_skeysAbove d _ i i habove le_rfl] at hi
  exact ha (by simpa [sget] using hi)

/-- A canonical map that reads as the empty one is empty. -/
theorem eq_nil_of_sget_eq {m : List (Nat × α)} (hm : swf d m = true) (h : ∀ k, sget d m k = d k) : m = [] := by
  cases m with
  | nil => rfl
  | cons p m =>
    obtain ⟨i, a⟩ := p
    exact absurd (by simpa [sget] using h i) ((swf_cons d i a m).1 hm).1

/-- The canonical form is unique: canonical maps that read alike at every key are the same list. -/
theorem swf_ext {m n : List (Nat × α)} (hm : swf d m = true) (hn : swf d n = true) (h : ∀ k, sget d m k = sget d n k) : m = n := by
  induction m generalizing n with
  | nil => exact (eq_nil_of_sget_eq hn (fun k => (h k).symm)).symm
  | cons p m ih =>
    obtain ⟨i, a⟩ := p
    cases n with
    | nil => exact eq_nil_of_sget_eq hm h
    | cons q n =>
      obtain ⟨j, b⟩ := q
      obtain rfl : i = j := le_antisymm (head_le_of_sget_eq hn hm (fun k => (h k).symm)) (head_le_of_sget_eq hm hn h)
      obtain rfl : a = b := by simpa [sget] using h i
      obtain ⟨-, him, hm'⟩ := (swf_cons d i a m).1 hm
      obtain ⟨-, hin, hn'⟩ := (swf_cons d i a n).1 hn
      rw [ih hm' hn']
      intro k
      by_cases hk : k = i
      · rw [hk, sget_skeysAbove d m i i him le_rfl, sget_skeysAbove d n i i hin le_rfl]
      · simpa [sget, hk] using h k

end Extensionality

/-- Settles O59: the canonical form is an invariant of `step`, and it is unique. -/
theorem everyStepKeepsCanonicalStorage : Obligations.EveryStepKeepsCanonicalStorage := by
  unfold Obligations.EveryStepKeepsCanonicalStorage
  refine ⟨fun s t h hs => step_canonical h hs, fun s t hs ht hregs hmem => ⟨?_, ?_, ?_, ?_⟩⟩
  · exact swf_ext hs.regsWf ht.regsWf (fun a => (hregs a).1)
  · exact swf_ext hs.shadowWf ht.shadowWf (fun a => (hregs a).2.1)
  · exact swf_ext hs.heldWf ht.heldWf (fun a => (hregs a).2.2)
  · exact swf_ext hs.memWf ht.memWf hmem

end Sys2Proof.Machine
end

section
/-! SUPPORT. The state after power-on reset. -/

namespace Sys2Proof.Machine

/-- R10: nothing is stored after reset, so the storage is in canonical form. -/
theorem reset_canonical : State.reset.Canonical := ⟨rfl, rfl, rfl, rfl, by simp [State.reset], rfl, rfl⟩

@[simp] theorem reset_reg (a : Nat) : State.reset.reg a = resetWord a := rfl

@[simp] theorem reset_shadowReg (a : Nat) : State.reset.shadowReg a = resetWord a := rfl

theorem reset_siteState : ∀ n < 64, State.reset.siteState n = Site.EMPTY := by decide

theorem reset_mode : State.reset.mode = Mode.RESET := by decide

/-- R381: HEAD, MIG and TAIL of the ledger. -/
theorem reset_ledger : State.reset.lgHead = 0 ∧ State.reset.lgMig = 0 ∧ State.reset.lgTail = 0 := by decide

/-- Settles O58: what is stored is empty, so every word reads its reset word, which the register table gives. -/
theorem resetState : Obligations.ResetState := by
  unfold Obligations.ResetState
  obtain ⟨hHead, hMig, hTail⟩ := reset_ledger
  refine ⟨reset_canonical, rfl, rfl, reset_mode, rfl, reset_siteState, hHead, hMig, hTail, reset_reg, reset_shadowReg, fun _ => rfl, fun _ _ _ => rfl, ?_⟩
  decide

end Sys2Proof.Machine
end

section
/-! SUPPORT. Direct writes: where a write of a word goes, what a rejection and the report of a hole change, and what the plain and the clause words take. -/

namespace Sys2Proof.Machine

/-! ### Reports and rejections -/

/-- R443, R445, R461, R483: the words that the report of a rejection may change: those of the two ports and the trouble log's count of drops. -/
def reportWords : List Nat := [Reg.CP_STAT.word, Reg.CP_CNT.word, Reg.HL_STAT.word, Reg.HL_LAST.word, Reg.LOG_STAT.word]

section Reports
variable (s : State) (p : Port) (a : Nat)

theorem State.hlLast_sameWords (code : Nat) {ws : List Nat} (h : Reg.HL_LAST.word ∈ ws) : s.SameWords ws (s.hlLast code a) :=
  ((State.SameWords.set _ _ h).snoc (State.SameWords.set _ _ h)).snoc (State.SameWords.set _ _ h)

theorem State.reportReject_sameWords : s.SameWords reportWords (s.reportReject p a) := by
  cases p with
  | cp =>
    have hset : s.SameWords reportWords ((s.set Reg.CP_STAT.STATE_REJECT 1).inc Reg.CP_CNT.REJECTS) :=
      (State.SameWords.set _ _ (by decide)).snoc (State.SameWords.set _ _ (by decide))
    exact hset.snoc (State.SameWords.of_regs rfl)
  | bar0 => exact (State.SameWords.set _ _ (by decide)).snoc (State.hlLast_sameWords _ a 1 (by decide))

theorem State.log_sameWords (src code det cls : Nat) : s.SameWords reportWords (s.log src code det cls) := by
  unfold State.log
  split
  · exact State.SameWords.set _ _ (by decide)
  · exact State.SameWords.of_regs rfl

/-- R535: a rejected write changes no register but the reports. -/
theorem State.reject_sameWords (src code idx : Nat) : s.SameWords reportWords (s.reject p a src code idx) :=
  (s.reportReject_sameWords p a).snoc (State.log_sameWords _ _ _ _ _)

/-- R535: beside registers, a rejected write changes the entries that wait for the trouble log and the status of the control-port frame. -/
theorem State.reject_frame (src code idx : Nat) :
    s.reject p a src code idx = { s with regs := (s.reject p a src code idx).regs, logWait := (s.reject p a src code idx).logWait,
                                         cpFrame := (s.reject p a src code idx).cpFrame } := by
  unfold State.reject State.log
  cases p <;> split <;> rfl

theorem State.refuse_sameWords (code : Nat) : s.SameWords reportWords (s.refuse p a code) := s.reject_sameWords p a _ _ _

theorem State.refuse_frame (code : Nat) :
    s.refuse p a code = { s with regs := (s.refuse p a code).regs, logWait := (s.refuse p a code).logWait, cpFrame := (s.refuse p a code).cpFrame } :=
  s.reject_frame p a _ _ _

theorem State.refuse_shadow (code : Nat) : (s.refuse p a code).shadow = s.shadow := by rw [s.refuse_frame p a code]

/-- R448, R461, R512: the report of a hole changes the status of its port alone. -/
theorem State.reportHole_sameWords : s.SameWords [Reg.CP_STAT.word, Reg.HL_STAT.word, Reg.HL_LAST.word] (s.reportHole p a) := by
  cases p with
  | cp => exact (State.SameWords.set Reg.CP_STAT.HOLE 1 (by decide)).snoc (State.SameWords.of_regs rfl)
  | bar0 => exact (State.SameWords.set _ _ (by decide)).snoc (State.hlLast_sameWords _ a 2 (by decide))

theorem State.reportHole_frame : s.reportHole p a = { s with regs := (s.reportHole p a).regs, cpFrame := (s.reportHole p a).cpFrame } := by
  cases p <;> rfl

theorem State.reportHole_cp_hole : (s.reportHole .cp a).flag Reg.CP_STAT.HOLE = true := by
  have h : (s.set Reg.CP_STAT.HOLE 1).get Reg.CP_STAT.HOLE = 1 := State.get_set_same Reg.CP_STAT.HOLE 1 (by decide) (by decide)
  have hflag : (s.set Reg.CP_STAT.HOLE 1).flag Reg.CP_STAT.HOLE = true := by simp [State.flag, h]
  exact hflag

theorem State.hlLast_get_code (code : Nat) : (s.hlLast code a).get Reg.HL_LAST.CODE = code % 4 := by
  unfold State.hlLast
  rw [State.get_set_other Reg.HL_LAST.WORD Reg.HL_LAST.CODE _ (by decide) (by decide) (by decide), State.get_set_same _ _ (by decide) (by decide)]
  rfl

theorem State.hlLast_get_word (code : Nat) : (s.hlLast code a).get Reg.HL_LAST.WORD = a % 2 ^ 24 :=
  State.get_set_same Reg.HL_LAST.WORD a (by decide) (by decide)

theorem State.reportHole_bar0_hole : (s.reportHole .bar0 a).flag Reg.HL_STAT.HOLE = true := by
  have hlast : (s.reportHole .bar0 a).get Reg.HL_STAT.HOLE = (s.set Reg.HL_STAT.HOLE 1).get Reg.HL_STAT.HOLE :=
    (State.hlLast_sameWords _ a 2 (List.mem_singleton_self _)).get (by decide)
  have hset : (s.set Reg.HL_STAT.HOLE 1).get Reg.HL_STAT.HOLE = 1 := State.get_set_same Reg.HL_STAT.HOLE 1 (by decide) (by decide)
  simp [State.flag, hlast, hset]

end Reports

/-! ### Where a write goes -/

section Routes
variable {s : State} {p : Port} {a : Nat} {w : Word}

theorem exec_registerWrite (s : State) (p : Port) (b : BitVec 24) (w : Word) : exec (.registerWrite p b w) s = .next (s.directWrite p b.toNat w) := rfl

/-- R500: in RESET only TB_CTRL and CP_CFG are written. -/
theorem State.directWrite_in_reset (hm : s.mode = Mode.RESET) (h1 : a ≠ Reg.TB_CTRL.word) (h2 : a ≠ Reg.CP_CFG.word) :
    s.directWrite p a w = s.refuse p a := if_pos ⟨hm, h1, h2⟩

/-- R512: a hole, and the ledger window, take no write. -/
theorem State.directWrite_hole (hm : s.mode ≠ Mode.RESET) (h : isHole a = true ∨ 0x100000 ≤ a) : s.directWrite p a w = s.reportHole p a := by
  rw [State.directWrite, if_neg (fun hc => hm hc.1), if_pos h]

/-- R8: any other word goes to its block. -/
theorem State.directWrite_word (hm : s.mode ≠ Mode.RESET) (hh : isHole a = false) (ha : a < 0x100000) : s.directWrite p a w = s.wordWrite p a w := by
  rw [State.directWrite, if_neg (fun hc => hm hc.1), if_neg (by simp [hh, ha])]

theorem exec_registerWrite_ofNat (hm : s.mode ≠ Mode.RESET) (hh : isHole a = false) (ha : a < 0x100000) :
    exec (.registerWrite p (BitVec.ofNat 24 a) w) s = .next (s.wordWrite p a w) := by
  have haddr : (BitVec.ofNat 24 a).toNat = a := by rw [BitVec.toNat_ofNat, Nat.mod_eq_of_lt (by omega)]
  rw [exec_registerWrite, haddr, State.directWrite_word hm hh ha]

end Routes

/-! ### Words that take their fields plainly (R8) -/

section PlainWords
variable {s : State} {p : Port} {a : Nat} {w : Word}

/-- R501, R510: the words of DEV beyond those of modes and commands. -/
theorem State.wordWrite_dev_plain (h1 : 0x000005 ≤ a) (h2 : a < 0x001000) : s.wordWrite p a w = s.plain a w := by
  have hmode : a ≠ Reg.DEV_MODE.word := by simp only [Reg.DEV_MODE.word]; omega
  have hcmd : a ≠ Reg.DEV_CMD.word := by simp only [Reg.DEV_CMD.word]; omega
  have hsvc : a ≠ Reg.DEV_SVC.word := by simp only [Reg.DEV_SVC.word]; omega
  rw [State.wordWrite, if_pos h2, State.wrDev, if_neg hmode, if_neg hcmd, if_neg hsvc]

/-- R462: the words of HL before the bulk channels. -/
theorem State.wordWrite_hl_plain (h1 : 0x005000 ≤ a) (h2 : a < 0x005010) : s.wordWrite p a w = s.plain a w := by
  simp (disch := omega) only [State.wordWrite, State.wrHl, if_neg, if_pos]

/-- R8: the words of the blocks' statuses that no command lies in. -/
theorem State.wordWrite_stat_plain (h : a ∈ [Reg.CP_STAT.word, Reg.LG_STAT.word, Reg.LOG_STAT.word, Reg.TB_STAT.word, Reg.HK_STAT.word]) :
    s.wordWrite p a w = s.plain a w := by
  simp only [List.mem_cons, List.not_mem_nil, or_false] at h
  rcases h with rfl | rfl | rfl | rfl | rfl <;> rfl

end PlainWords

/-! ### Clause words (R9) -/

section ClauseWords
variable {s : State} {p : Port} {a : Nat} {w : Word}

/-- R9: the CL words of the follow counters and of the lanes. -/
theorem State.wordWrite_clause (hr : (0x001100 ≤ a ∧ a < 0x002000) ∨ (0x0B0000 ≤ a ∧ a < 0x0C0000)) (hc : accMask .cl a ≠ 0) :
    s.wordWrite p a w = s.clDirect p a w := by
  rcases hr with ⟨h1, h2⟩ | ⟨h1, h2⟩
  · simp (disch := omega) only [State.wordWrite, if_neg, if_pos hc, if_pos]
  · simp (disch := omega) only [State.wordWrite, if_neg, if_pos hc, if_pos]

theorem State.clDirect_refused (h : s.clRefused a w = true) : s.clDirect p a w = s.refuse p a := if_pos h

/-- R54: on a unit that no site owns no other word follows, and the value goes to both copies. -/
theorem State.applyValues_unowned (h : s.unowned a = true) (v m : Word) : s.applyValues ⟨a, v, m⟩ = s.putCl a v m := by
  unfold State.unowned at h
  unfold State.applyValues State.followWords
  split at h
  next hw => simp [hw]
  next hw => simp [hw]
  next => cases h

theorem State.clDirect_unowned (h : s.clRefused a w = false) (hu : s.unowned a = true) : s.clDirect p a w = s.putCl a w (BitVec.allOnes 128) := by
  rw [State.clDirect, if_neg (by simp [h]), if_pos hu, State.applyValues_unowned hu]

/-- R9, R233: a whole write of a CL word gives its CL fields their values in the active copy and in the shadow copy. -/
theorem State.putCl_all_reg : (s.putCl a w (BitVec.allOnes 128)).reg a = (s.reg a &&& ~~~(clStored a)) ||| (w &&& clStored a) := by
  simp only [State.putCl, State.setShadow_reg, State.reg_setReg_same, BitVec.allOnes_and]

theorem State.putCl_all_shadowReg :
    (s.putCl a w (BitVec.allOnes 128)).shadowReg a = (s.shadowReg a &&& ~~~(clStored a)) ||| (w &&& clStored a) := by
  simp only [State.putCl, State.shadowReg, State.setShadow, sget_sset_same, State.setReg_shadow, BitVec.allOnes_and]

theorem State.putCl_sameWords (v m : Word) {ws : List Nat} (h : a ∈ ws) : s.SameWords ws (s.putCl a v m) :=
  (State.SameWords.setReg a _ h).snoc (State.SameWords.of_regs rfl)

end ClauseWords

/-! ### Values out of range (R535) -/

/-- The words whose range the obligation names, each with the test that its value is out of range. -/
def rangeTests (w : Word) : List (Nat × Bool) :=
  [(Reg.HK_CTRL.word, hkCtrlBad w), (Reg.HK_RATE.word, hkRateBad w), (Reg.LG_CFG.word, lgCfgBad w),
   (Reg.CP_CFG.word, decide (Reg.CP_CFG.DUMMY.of w < 6 ∨ Reg.CP_CFG.LANES.of w = 3)), (Reg.MP_SEL.word 0, mpSelBad 0 w), (Reg.MP_SEL.word 7, mpSelBad 7 w),
   (Reg.CAL_CTRL.word, calCtrlBad w), (Reg.CAL_REF.word, calRefBad w), (Reg.SO_CTRL.word, decide (Reg.SO_CTRL.PD_IDLE.of w < 64))]

/-- The words of these tests are no holes, lie below the ledger window and are no reports. -/
theorem rangeTests_word {w : Word} {x : Nat × Bool} (hx : x ∈ rangeTests w) : isHole x.1 = false ∧ x.1 < 0x100000 ∧ x.1 ∉ reportWords := by
  have hall : ∀ a ∈ (rangeTests w).map Prod.fst, isHole a = false ∧ a < 0x100000 ∧ a ∉ reportWords := by
    simp only [rangeTests, List.map_cons, List.map_nil]
    decide
  exact hall _ (List.mem_map_of_mem hx)

/-- R389, R426, R440, R489, R535: the block of such a word refuses the write. -/
theorem State.wordWrite_out_of_range {s : State} {p : Port} {w : Word} {x : Nat × Bool} (hx : x ∈ rangeTests w) (hbad : x.2 = true) :
    s.wordWrite p x.1 w = s.refuse p x.1 := by
  simp only [rangeTests, List.mem_cons, List.not_mem_nil, or_false] at hx
  rcases hx with rfl | rfl | rfl | rfl | rfl | rfl | rfl | rfl | rfl
  · simp (disch := decide) only [State.wordWrite, State.wrHk, if_neg, if_pos]
    exact if_pos (.inl ⟨trivial, hbad⟩)
  · simp (disch := decide) only [State.wordWrite, State.wrHk, if_neg, if_pos]
    exact if_pos (.inr ⟨trivial, hbad⟩)
  · simp (disch := decide) only [State.wordWrite, State.wrLg, if_neg, if_pos]
    exact if_pos hbad
  · simp (disch := decide) only [State.wordWrite, State.wrCp, if_neg, if_pos]
    exact if_pos (of_decide_eq_true hbad)
  · simp (disch := decide) only [State.wordWrite, State.wrMp, if_neg, if_pos]
    exact if_pos (.inr hbad)
  · simp (disch := decide) only [State.wordWrite, State.wrMp, if_neg, if_pos]
    exact if_pos (.inr hbad)
  · simp (disch := decide) only [State.wordWrite, State.wrCal, if_neg, if_pos]
    exact if_pos (.inl ⟨trivial, hbad⟩)
  · simp (disch := decide) only [State.wordWrite, State.wrCal, if_neg]
    exact if_pos (.inr ⟨trivial, hbad⟩)
  · simp (disch := decide) only [State.wordWrite, State.wrSo, if_neg, if_pos]
    exact if_pos (of_decide_eq_true hbad)

/-! ### The obligation -/

/-- Settles O54: each write goes to a rejection, a report of a hole, the plain fields or the clause fields of its word. -/
theorem registerWrites : Obligations.RegisterWrites := by
  unfold Obligations.RegisterWrites
  refine ⟨fun s p a w hm h1 h2 => ?reset, fun s p a w hm hh => ?hole, fun s p a w hm hh ha => ?plain, fun s p a w hm hh hr hc => ?clause,
    fun s p w x hm hx hbad => ?range⟩
  case reset =>
    exact ⟨_, by rw [exec_registerWrite, State.directWrite_in_reset hm h1 h2], s.refuse_sameWords p _ _, s.refuse_frame p _ _⟩
  case hole =>
    refine ⟨_, by rw [exec_registerWrite, State.directWrite_hole hm hh], ?_, ?_, s.reportHole_sameWords p _, s.reportHole_frame p _⟩
    · rintro rfl
      exact s.reportHole_cp_hole _
    · rintro rfl
      refine ⟨s.reportHole_bar0_hole _, State.hlLast_get_code _ _ 2, (State.hlLast_get_word _ _ 2).trans (Nat.mod_eq_of_lt a.isLt)⟩
  case plain =>
    have hplain : s.wordWrite p a.toNat w = s.plain a.toNat w := by
      rcases ha with ⟨h1, h2⟩ | ⟨h1, h2⟩ | hstat
      · exact State.wordWrite_dev_plain h1 h2
      · exact State.wordWrite_hl_plain h1 h2
      · exact State.wordWrite_stat_plain (by simpa using hstat)
    have hlow : a.toNat < 0x100000 := by
      simp only [Reg.CP_STAT.word, Reg.LG_STAT.word, Reg.LOG_STAT.word, Reg.TB_STAT.word, Reg.HK_STAT.word] at ha
      omega
    exact ⟨s.plain a.toNat w, by rw [exec_registerWrite, State.directWrite_word hm hh hlow, hplain], State.reg_setReg_same _ _,
      State.SameWords.setReg _ _ (List.mem_singleton_self _), rfl⟩
  case clause =>
    have hexec : exec (.registerWrite p a w) s = .next (s.clDirect p a.toNat w) := by
      rw [exec_registerWrite, State.directWrite_word hm hh (by omega), State.wordWrite_clause hr hc]
    refine ⟨fun href => ?_, fun href hu => ?_⟩
    · have hout : ∀ b ∈ reportWords, ¬ ((0x001100 ≤ b ∧ b < 0x002000) ∨ (0x0B0000 ≤ b ∧ b < 0x0C0000)) := by decide
      have hword : a.toNat ∉ reportWords := fun hmem => hout _ hmem hr
      exact ⟨_, by rw [hexec, State.clDirect_refused href], s.refuse_sameWords p _ _ _ hword, s.refuse_shadow p _ _, s.refuse_frame p _ _⟩
    · exact ⟨_, by rw [hexec, State.clDirect_unowned href hu], State.putCl_all_reg, State.putCl_all_shadowReg,
        State.putCl_sameWords _ _ (List.mem_cons_self ..), rfl⟩
  case range =>
    obtain ⟨hh, hlow, hword⟩ := rangeTests_word hx
    exact ⟨_, by rw [exec_registerWrite_ofNat hm hh hlow, State.wordWrite_out_of_range hx hbad], s.refuse_sameWords p _ _ _ hword,
      s.refuse_frame p _ _⟩

end Sys2Proof.Machine
end

section
/-! SUPPORT. The direct write of a command register is the row of its command: where the word lies, and what its command field selects there. -/

namespace Sys2Proof.Machine

section Rows
variable {s : State} {p : Port} {w : Word}

/-- R500: outside RESET a row of the host is what it runs. -/
theorem State.host_out_of_reset (hm : s.mode ≠ Mode.RESET) (a src idx : Nat) (run : State → State) : s.host p a src idx run = run s := if_neg hm

/-- The rule of the rows: where the write of the word does what the row runs, the direct write is the row. -/
theorem exec_registerWrite_eq_host {a b src idx : Nat} {run : State → State} (hm : s.mode ≠ Mode.RESET) (hh : isHole a = false) (ha : a < 0x100000)
    (hrun : s.wordWrite p a w = run s) : exec (.registerWrite p (BitVec.ofNat 24 a) w) s = .next (s.host p b src idx run) := by
  rw [exec_registerWrite_ofNat hm hh ha, hrun, State.host_out_of_reset hm]

/-! ### What the words of the blocks run -/

/-- The low 64 bits of a 64-bit value laid in a word are the value. -/
theorem wget_setWidth_low (b : BitVec 64) : wget (b.setWidth 128) 63 0 = b.toNat := by
  have hb := b.isLt
  simp only [wget, bitsOf, BitVec.toNat_setWidth, Nat.shiftRight_zero]
  omega

theorem State.wordWrite_mpXfer_xfer (h : Reg.MP_XFER.OP.of w = 1) : s.wordWrite p Reg.MP_XFER.word w = s.mpXfer p w := by
  simp (disch := decide) only [State.wordWrite, State.wrMp, if_neg, if_pos, h]

theorem State.wordWrite_mpXfer_discover (h : Reg.MP_XFER.OP.of w = 2) : s.wordWrite p Reg.MP_XFER.word w = s.mpDiscover p := by
  simp (disch := decide) only [State.wordWrite, State.wrMp, if_neg, if_pos, h]

theorem State.wordWrite_mpXfer_abort (h : Reg.MP_XFER.OP.of w = 3) : s.wordWrite p Reg.MP_XFER.word w = s.mpAbort := by
  simp (disch := decide) only [State.wordWrite, State.wrMp, if_neg, if_pos, h]

theorem State.wordWrite_siCmd_load (h : Reg.SI_CMD.OP.of w = 1) : s.wordWrite p Reg.SI_CMD.word w = s.siLoad p := by
  simp (disch := decide) only [State.wordWrite, State.wrSi, if_neg, if_pos, h]

theorem State.wordWrite_siCmd_check (h : Reg.SI_CMD.OP.of w = 3) : s.wordWrite p Reg.SI_CMD.word w = s.siCheck p := by
  simp (disch := decide) only [State.wordWrite, State.wrSi, if_neg, if_pos, h]

theorem State.wordWrite_lxCmd_loadVendor (h : Reg.LX_CMD.CMD.of w = 1) : s.wordWrite p Reg.LX_CMD.word w = s.loadStart p false := by
  simp (disch := decide) only [State.wordWrite, State.wrLx, if_neg, if_pos, h]

theorem State.wordWrite_lxCmd_loadCustomer (h : Reg.LX_CMD.CMD.of w = 2) : s.wordWrite p Reg.LX_CMD.word w = s.loadStart p true := by
  simp (disch := decide) only [State.wordWrite, State.wrLx, if_neg, if_pos, h]

theorem State.wordWrite_lxCmd_swap (h : Reg.LX_CMD.CMD.of w = 3) : s.wordWrite p Reg.LX_CMD.word w = s.swapBanks p := by
  simp (disch := decide) only [State.wordWrite, State.wrLx, if_neg, if_pos, h]

theorem State.wordWrite_calCmd_abort (h : Reg.CAL_CMD.CMD.of w = 5) : s.wordWrite p Reg.CAL_CMD.word w = s.calAbort p := by
  simp (disch := decide) only [State.wordWrite, State.wrCal, if_neg, if_pos, h]

theorem State.wordWrite_sqCmd_arm (n : Fin 64) (h : (Reg.SQ_CMD.CMD n).of w = 1) : s.wordWrite p (Reg.SQ_CMD.word n) w = s.arm p n := by
  have hn : (Reg.SQ_CMD.word n - 0x031000) / 0x40 = n := by simp only [Reg.SQ_CMD.word]; omega
  have hk : Reg.SQ_CMD.word n % 0x40 = 0x21 := by simp only [Reg.SQ_CMD.word]; omega
  have hlo : 0x031000 ≤ Reg.SQ_CMD.word n := by simp only [Reg.SQ_CMD.word]; omega
  have hhi : Reg.SQ_CMD.word n < 0x040000 := by simp only [Reg.SQ_CMD.word]; omega
  simp (disch := omega) only [State.wordWrite, State.wrSq, if_neg, if_pos, hn, h]

theorem State.wordWrite_clCmd_open (k : Fin 16) (h : (Reg.CL_CMD.CMD k).of w = 1) : s.wordWrite p (Reg.CL_CMD.word k) w = s.hostOpen p k := by
  have hstat : Reg.CL_CMD.word k ≠ Reg.CL_STAT.word := by simp only [Reg.CL_CMD.word, Reg.CL_STAT.word]; omega
  have hin : 0x006100 ≤ Reg.CL_CMD.word k ∧ Reg.CL_CMD.word k < 0x006200 := by simp only [Reg.CL_CMD.word]; omega
  have hk : (Reg.CL_CMD.word k - 0x006100) / 0x10 = k := by simp only [Reg.CL_CMD.word]; omega
  have hj : Reg.CL_CMD.word k % 0x10 = 0 := by simp only [Reg.CL_CMD.word]; omega
  simp (disch := omega) only [State.wordWrite, State.wrCl, if_neg, if_pos hin, if_pos, hk, hj, h]

theorem State.wordWrite_clAddr (k : Fin 16) : s.wordWrite p (Reg.CL_ADDR.word k) w = s.clAddrWrite p k w := by
  have hstat : Reg.CL_ADDR.word k ≠ Reg.CL_STAT.word := by simp only [Reg.CL_ADDR.word, Reg.CL_STAT.word]; omega
  have hin : 0x006100 ≤ Reg.CL_ADDR.word k ∧ Reg.CL_ADDR.word k < 0x006200 := by simp only [Reg.CL_ADDR.word]; omega
  have hk : (Reg.CL_ADDR.word k - 0x006100) / 0x10 = k := by simp only [Reg.CL_ADDR.word]; omega
  have hj : Reg.CL_ADDR.word k % 0x10 = 4 := by simp only [Reg.CL_ADDR.word]; omega
  simp (disch := omega) only [State.wordWrite, State.wrCl, if_neg, if_pos hin, if_pos, hk, hj]

end Rows

/-! ### The words are no holes -/

theorem isHole_sqCmd : ∀ n : Fin 64, isHole (Reg.SQ_CMD.word n) = false := by decide

theorem isHole_clCmd : ∀ k : Fin 16, isHole (Reg.CL_CMD.word k) = false := by decide

theorem isHole_clAddr : ∀ k : Fin 16, isHole (Reg.CL_ADDR.word k) = false := by decide

/-- Settles O55: the write of each word runs what the row of its command runs, and outside RESET a row runs it at once. -/
theorem rowsAreDirectWrites : Obligations.RowsAreDirectWrites := by
  unfold Obligations.RowsAreDirectWrites
  intro s p w hm
  refine ⟨fun x hx => ?ledgerWords,
    exec_registerWrite_eq_host hm (by decide) (by decide) rfl,
    exec_registerWrite_eq_host hm (by decide) (by decide) rfl,
    exec_registerWrite_eq_host hm (by decide) (by decide) rfl,
    exec_registerWrite_eq_host hm (by decide) (by decide) rfl,
    exec_registerWrite_eq_host hm (by decide) (by decide) rfl,
    exec_registerWrite_eq_host hm (by decide) (by decide) rfl,
    fun b => ?tbLoad,
    fun h => exec_registerWrite_eq_host hm (by decide) (by decide) (State.wordWrite_mpXfer_xfer h),
    fun h => exec_registerWrite_eq_host hm (by decide) (by decide) (State.wordWrite_mpXfer_discover h),
    fun h => exec_registerWrite_eq_host hm (by decide) (by decide) (State.wordWrite_mpXfer_abort h),
    fun h => exec_registerWrite_eq_host hm (by decide) (by decide) (State.wordWrite_siCmd_load h),
    fun h => exec_registerWrite_eq_host hm (by decide) (by decide) (State.wordWrite_siCmd_check h),
    fun h => exec_registerWrite_eq_host hm (by decide) (by decide) (State.wordWrite_lxCmd_loadVendor h),
    fun h => exec_registerWrite_eq_host hm (by decide) (by decide) (State.wordWrite_lxCmd_loadCustomer h),
    fun h => exec_registerWrite_eq_host hm (by decide) (by decide) (State.wordWrite_lxCmd_swap h),
    fun n h => exec_registerWrite_eq_host hm (isHole_sqCmd n) ?sqAddr (State.wordWrite_sqCmd_arm n h),
    fun k h => exec_registerWrite_eq_host hm (isHole_clCmd k) ?clCmdAddr (State.wordWrite_clCmd_open k h),
    fun k => exec_registerWrite_eq_host hm (isHole_clAddr k) ?clAddrAddr (State.wordWrite_clAddr k),
    fun h => exec_registerWrite_eq_host hm (by decide) (by decide) (State.wordWrite_calCmd_abort h)⟩
  case ledgerWords =>
    simp only [List.mem_cons, List.not_mem_nil, or_false] at hx
    rcases hx with rfl | rfl | rfl
    · exact exec_registerWrite_eq_host (a := Reg.LG_HEAD.word) hm (by decide) (by decide) rfl
    · exact exec_registerWrite_eq_host (a := Reg.LG_OVF.word) hm (by decide) (by decide) rfl
    · exact exec_registerWrite_eq_host (a := Reg.LG_SNAP.word) hm (by decide) (by decide) rfl
  case tbLoad =>
    refine exec_registerWrite_eq_host hm (by decide) (by decide) ?_
    rw [← wget_setWidth_low b]
    rfl
  case sqAddr => simp only [Reg.SQ_CMD.word]; omega
  case clCmdAddr => simp only [Reg.CL_CMD.word]; omega
  case clAddrAddr => simp only [Reg.CL_ADDR.word]; omega

end Sys2Proof.Machine
end

section
/-! SUPPORT. Which storages each command can change: the frame over all commands, from the primitive operations that each of them is built from. -/

namespace Sys2Proof.Machine

/-- From `s` to `t` the command `i` has left alone the queue and every storage that is not its own to change. A reset of the device is left out for
pattern memory: it clears the memory and, on the pin, puts it back. -/
structure State.FramedBy (i : Instr) (s t : State) : Prop where
  pending : t.pending = s.pending
  mem : storesMemory i = false → resetsDevice i = false → t.mem = s.mem
  nvm : storesNvm i = false → t.nvm = s.nvm
  cs : storesControl i = false → t.cs = s.cs
  maps : changesStructure i = false → t.maps = s.maps ∧ t.clones = s.clones ∧ t.routes = s.routes

variable {i : Instr} {s t u : State}

theorem State.FramedBy.refl : s.FramedBy i s := ⟨rfl, fun _ _ => rfl, fun _ => rfl, fun _ => rfl, fun _ => ⟨rfl, rfl, rfl⟩⟩

/-- An operation that changes none of these storages keeps the frame. -/
theorem State.FramedBy.of_same (h : s.FramedBy i t) (hpending : u.pending = t.pending) (hmem : u.mem = t.mem) (hnvm : u.nvm = t.nvm) (hcs : u.cs = t.cs)
    (hmaps : u.maps = t.maps) (hclones : u.clones = t.clones) (hroutes : u.routes = t.routes) : s.FramedBy i u where
  pending := hpending.trans h.pending
  mem h1 h2 := hmem.trans (h.mem h1 h2)
  nvm h1 := hnvm.trans (h.nvm h1)
  cs h1 := hcs.trans (h.cs h1)
  maps h1 := by rw [hmaps, hclones, hroutes]; exact h.maps h1

/-! ### The primitive operations -/

theorem keeps_framedBy (i : Instr) (s : State) : Keeps (State.FramedBy i s) where
  upd _ _ _ hmem hnvm hcs hmaps hclones hroutes hpending h := h.of_same hpending hmem hnvm hcs hmaps hclones hroutes
  setReg _ _ h := h.of_same rfl rfl rfl rfl rfl rfl rfl
  setShadow _ _ h := h.of_same rfl rfl rfl rfl rfl rfl rfl
  latch h := h.of_same rfl rfl rfl rfl rfl rfl rfl
  dropRegs _ h := h.of_same rfl rfl rfl rfl rfl rfl rfl
  dropHeld _ h := h.of_same rfl rfl rfl rfl rfl rfl rfl
  soft h := h.of_same rfl rfl rfl rfl rfl rfl rfl

/-- R131: a store to pattern memory changes nothing else. -/
theorem keepsMem_framedBy (hi : storesMemory i = true) : KeepsMem (State.FramedBy i s) where
  setByte a b h := by
    unfold State.setByte
    split
    · exact { h with mem := fun h1 => absurd (hi.symm.trans h1) (by decide) }
    · exact h

/-- R17: a store to the non-volatile memory changes nothing else. -/
theorem keepsNvm_framedBy (hi : storesNvm i = true) : KeepsNvm (State.FramedBy i s) where
  nvmPut {t} copy a bs h := by
    induction bs generalizing t a with
    | nil => exact h
    | cons b bs ih => exact ih _ { h with nvm := fun h1 => absurd (hi.symm.trans h1) (by decide) }

/-- R206: a load of the control store changes nothing else. -/
theorem keepsCs_framedBy (hi : storesControl i = true) : KeepsCs (State.FramedBy i s) where
  csFill _ _ _ _ _ h :=
    have hno {p : Prop} : storesControl i = false → p := fun h1 => absurd (hi.symm.trans h1) (by decide)
    State.forN_kept _ _ (fun _ _ ht => { ht with cs := hno }) { h with cs := hno }

/-- R54: new site maps, clone groups and routes change nothing else. -/
theorem keepsMaps_framedBy (hi : changesStructure i = true) : KeepsMaps (State.FramedBy i s) where
  setMaps _ _ _ h := { h with maps := fun h1 => absurd (hi.symm.trans h1) (by decide) }

theorem storesControl_of_resetsDevice (hi : resetsDevice i = true) : storesControl i = true := by
  unfold resetsDevice at hi
  split at hi
  case h_4 => cases hi
  all_goals rfl

theorem changesStructure_of_resetsDevice (hi : resetsDevice i = true) : changesStructure i = true := by
  unfold resetsDevice at hi
  split at hi
  case h_4 => cases hi
  all_goals rfl

/-- R498: a reset of the device keeps the non-volatile memory and the queue. -/
theorem keepsReset_framedBy (hi : resetsDevice i = true) : KeepsReset (State.FramedBy i s) where
  hardReset h :=
    { pending := h.pending, nvm := h.nvm
      mem := fun _ h1 => absurd (hi.symm.trans h1) (by decide)
      cs := fun h1 => absurd ((storesControl_of_resetsDevice hi).symm.trans h1) (by decide)
      maps := fun h1 => absurd ((changesStructure_of_resetsDevice hi).symm.trans h1) (by decide) }
  keepMem h _ := { h with mem := fun _ h1 => absurd (hi.symm.trans h1) (by decide) }

theorem keepsUnder_framedBy (i : Instr) (s : State) : KeepsUnder (State.FramedBy i s) i :=
  ⟨keepsMem_framedBy, keepsNvm_framedBy, keepsCs_framedBy, keepsMaps_framedBy, keepsReset_framedBy⟩

/-- The frame over all commands: one property that every command keeps, by the primitive operations it uses. -/
theorem exec_framedBy (h : exec i s = .next t) : s.FramedBy i t := by
  have := keeps_framedBy i s
  have hall : Out.All (State.FramedBy i s) (exec i s) := exec_kept i (keepsUnder_framedBy i s) State.FramedBy.refl
  rw [h] at hall
  exact hall

/-- R132, R498: the reset on the pin puts pattern memory back. -/
theorem State.pinReset_mem (s : State) : s.pinReset.mem = s.mem := rfl

/-- Of the commands that reset the device only the pin's stores nothing to pattern memory, and it keeps the memory. -/
theorem exec_mem_of_resetsDevice (hr : resetsDevice i = true) (hi : storesMemory i = false) (h : exec i s = .next t) : t.mem = s.mem := by
  unfold resetsDevice at hr
  split at hr
  case h_1 => cases h; exact s.pinReset_mem
  case h_2 => cases hi
  case h_3 => cases hi
  case h_4 => cases hr

/-- Settles O60: the frame over all commands, with the memory of the reset pin beside it. -/
theorem onlyTheseCommandsChangeIt : Obligations.OnlyTheseCommandsChangeIt := by
  unfold Obligations.OnlyTheseCommandsChangeIt
  intro i s t h
  have hf := exec_framedBy h
  refine ⟨hf.pending, fun hi => ?_, hf.nvm, hf.cs, hf.maps⟩
  cases hr : resetsDevice i with
  | false => exact hf.mem hi hr
  | true => exact exec_mem_of_resetsDevice hr hi h

end Sys2Proof.Machine
end

section
/-! SUPPORT. The table of mode requests: the conditions it tests, and the row of each target. -/

namespace Sys2Proof.Machine

section ModeConditions
variable {s : State} {l : List Nat}

theorem State.anySite_eq_false : s.anySite l = false ↔ ∀ n < 64, s.siteState n ∉ l := by
  simp [State.anySite]

/-- R493: the quiet-mode conditions. -/
theorem State.quietOk_iff : s.quietOk = true ↔
    (∀ n < 64, s.siteState n ∉ [Site.ARMED, Site.RUNNING, Site.HELD, Site.TRIPPED, Site.RESHAPING]) ∧ s.flag Reg.SI_STAT.BUSY = false ∧
    (∀ c < 1024, s.flag (Reg.CH_CTRL.OUT_ARM c) = false) ∧ (∀ d < 64, s.flag (Reg.DPS_STAT.CONN d) = false) ∧ (∀ l < 32, s.laneState l = Ln.OFF) := by
  simp only [State.quietOk, Bool.and_eq_true, Bool.not_eq_true', State.anySite_eq_false, List.all_eq_true, List.mem_range, beq_iff_eq, and_assoc]
  rfl

/-- R24: the conditions of STANDBY. -/
theorem State.standbyOk_iff : s.standbyOk = true ↔
    (∀ n < 64, s.siteState n ∈ [Site.EMPTY, Site.LOADED, Site.RETIRED]) ∧ ∀ d < 64, s.flag (Reg.DPS_STAT.CONN d) = false := by
  simp only [State.standbyOk, Bool.and_eq_true, Bool.not_eq_true', List.all_eq_true, List.mem_range, List.contains_iff_mem]

end ModeConditions

section ModeRows
variable {s : State} {m : Nat}

/-- R492: the codes that no request may name. -/
theorem State.modeAllows_forbidden (hm : m ∈ [Mode.RESET, Mode.THROTTLE, Mode.SHUTDOWN] ∨ 0xB < m) : s.modeAllows m = false := by
  unfold State.modeAllows
  exact if_pos (by simpa using hm)

/-- R28, R492: from SAFE without its clock, and from REFCAL in a reference run, no other mode is accepted. -/
theorem State.modeAllows_kept (hne : m ≠ s.mode) (h : (s.mode = Mode.SAFE ∧ (s.flag Reg.TB_STAT.PLL_LOCK = false ∨ s.cntValid = false)) ∨
    (s.mode = Mode.REFCAL ∧ s.cal.run.any (fun r => r.cmd == 1) = true)) : s.modeAllows m = false := by
  have hself : s.mode ≠ Mode.SELFTEST := by
    rcases h with ⟨h, -⟩ | ⟨h, -⟩ <;> rw [h] <;> decide
  simp only [State.modeAllows, if_neg hne, if_neg hself]
  rcases h with ⟨hm, hc | hc⟩ | ⟨hm, hr⟩
  · simp [hm, hc]
  · simp [hm, hc]
  · simp [hm, hr]

/-- R497: during the self-test only the mode it was entered from is accepted. -/
theorem State.modeAllows_selftest (hs : s.mode = Mode.SELFTEST) (hm : m ∉ [Mode.RESET, Mode.THROTTLE, Mode.SHUTDOWN, Mode.SELFTEST]) (hle : m ≤ 0xB) :
    s.modeAllows m = true ↔ s.selfTest = some m := by
  simp only [List.mem_cons, List.not_mem_nil, or_false, not_or] at hm
  obtain ⟨h1, h2, h3, h4⟩ := hm
  simp [State.modeAllows, hs, h1, h2, h3, h4, Nat.not_lt.2 hle]

end ModeRows

/-! ### The rows of the table -/

section TableRows
variable {s : State} (hl : s.mayLeave)
include hl

/-- Where nothing keeps the device in its mode, the test of R28 and R492 passes. -/
theorem State.mayLeave_passes : ((s.mode != Mode.SAFE || (s.flag Reg.TB_STAT.PLL_LOCK && s.cntValid)) &&
    (s.mode != Mode.REFCAL || !s.cal.run.any (fun r => r.cmd == 1))) = true := by
  obtain ⟨-, hsafe, hrefcal⟩ := hl
  simp only [Bool.and_eq_true, Bool.or_eq_true, bne_iff_ne, Bool.not_eq_true', ← imp_iff_not_or]
  exact ⟨hsafe, hrefcal⟩

end TableRows

/-- Settles O47: the conditions are what their tests say, and in each row the definition comes down to the row of its target. -/
theorem modeTable : Obligations.ModeTable := by
  unfold Obligations.ModeTable
  refine ⟨fun s => State.quietOk_iff, fun s hl => ?rows, fun s m hne h => State.modeAllows_kept hne h, fun s m hm => State.modeAllows_forbidden hm,
    fun s m hs hm hle => State.modeAllows_selftest hs hm hle⟩
  case rows =>
    have hpass := State.mayLeave_passes hl
    obtain ⟨hself, -, -⟩ := hl
    have hne := hself
    refine ⟨fun hne => ?_, fun hne => ?_, fun hne => ?_, fun hne => ?_, fun hne => ?_, fun hne => ?_, fun hne => ?_, fun hne => ?_, ?_⟩
    all_goals
      simp (disch := decide) only [State.modeAllows, hpass, if_neg hne.symm, if_neg hself, if_neg, if_pos, Bool.true_and, Bool.and_eq_true,
        Bool.not_eq_true', beq_iff_eq, List.contains_iff_mem, State.anySite_eq_false, State.standbyOk_iff, and_assoc]

end Sys2Proof.Machine
end

section
/-! SUPPORT. The steps of a shutdown and the trouble log: what a write of the non-volatile memory stores, and what each step changes. -/

namespace Sys2Proof.Machine

/-! ### Writes of the non-volatile memory (R17) -/

section NvmWrites
variable {s : State} {c c' a a' : Nat} {bs : List Byte}

theorem State.nvmPut_cons (b : Byte) : s.nvmPut c a (b :: bs) =
    ({ s with nvm := sset (fun _ => 0xFF) s.nvm (c * 65536 + a % 65536) b } : State).nvmPut c (a + 1) bs := rfl

/-- A byte after one byte of a copy is written. -/
theorem State.nvmByte_putByte (b : Byte) (ha : a < 0x10000) (ha' : a' < 0x10000) :
    ({ s with nvm := sset (fun _ => 0xFF) s.nvm (c * 65536 + a % 65536) b } : State).nvmByte c' a' =
      if c' = c ∧ a' = a then b else s.nvmByte c' a' := by
  simp only [State.nvmByte, sget_sset]
  exact if_congr (by omega) rfl rfl

/-- The bytes of another copy, and those outside the span written, stay. -/
theorem State.nvmByte_nvmPut_outside (hfit : a + bs.length ≤ 0x10000) (ha' : a' < 0x10000) (h : c' ≠ c ∨ a' < a ∨ a + bs.length ≤ a') :
    (s.nvmPut c a bs).nvmByte c' a' = s.nvmByte c' a' := by
  induction bs generalizing s a with
  | nil => rfl
  | cons b bs ih =>
    simp only [List.length_cons] at hfit h
    rw [State.nvmPut_cons, ih (by omega) (by omega), State.nvmByte_putByte b (by omega) ha', if_neg (by omega)]

theorem State.nvmBytes_nvmPut_other (hfit : a + bs.length ≤ 0x10000) {k : Nat} (hk : a' + k ≤ 0x10000) (h : c' ≠ c) :
    (s.nvmPut c a bs).nvmBytes c' a' k = s.nvmBytes c' a' k := by
  unfold State.nvmBytes
  refine List.map_congr_left (fun i hi => ?_)
  have := List.mem_range.1 hi
  exact State.nvmByte_nvmPut_outside hfit (by omega) (.inl h)

/-- The span written reads what was written to it. -/
theorem State.nvmBytes_nvmPut_same (hfit : a + bs.length ≤ 0x10000) : (s.nvmPut c a bs).nvmBytes c a bs.length = bs := by
  induction bs generalizing s a with
  | nil => rfl
  | cons b bs ih =>
    simp only [List.length_cons] at hfit
    have hhead : (s.nvmPut c a (b :: bs)).nvmByte c a = b := by
      rw [State.nvmPut_cons, State.nvmByte_nvmPut_outside (by omega) (by omega) (by omega), State.nvmByte_putByte b (by omega) (by omega),
        if_pos ⟨rfl, rfl⟩]
    have htail : (s.nvmPut c a (b :: bs)).nvmBytes c (a + 1) bs.length = bs := by
      rw [State.nvmPut_cons]
      exact ih (by omega)
    rw [State.nvmBytes, List.length_cons, List.range_succ_eq_map, List.map_cons, Nat.add_zero, hhead, List.map_map]
    refine congrArg (b :: ·) (Eq.trans (List.map_congr_left (fun i _ => ?_)) htail)
    rw [Function.comp_apply, Nat.succ_eq_add_one, Nat.add_assoc, Nat.add_comm 1 i]

theorem State.nvmPut_frame : s.nvmPut c a bs = { s with nvm := (s.nvmPut c a bs).nvm } := by
  induction bs generalizing s a with
  | nil => rfl
  | cons b bs ih =>
    rw [State.nvmPut_cons, ih]

end NvmWrites

/-- R17: a write whose read-backs match goes to both copies. -/
theorem State.nvmWrite_both (s : State) (a : Nat) (bs : List Byte) : (s.nvmWrite a bs ⟨none, none⟩).1 = (s.nvmPut 0 a bs).nvmPut 1 a bs := rfl

section BothCopies
variable {s : State} {c a : Nat} {bs : List Byte}

theorem State.nvmBytes_both (hfit : a + bs.length ≤ 0x10000) (hc : c < 2) : ((s.nvmPut 0 a bs).nvmPut 1 a bs).nvmBytes c a bs.length = bs := by
  obtain rfl | rfl : c = 0 ∨ c = 1 := by omega
  · rw [State.nvmBytes_nvmPut_other hfit hfit (by decide), State.nvmBytes_nvmPut_same hfit]
  · exact State.nvmBytes_nvmPut_same hfit

theorem State.nvmByte_both_outside (hfit : a + bs.length ≤ 0x10000) {a' : Nat} (ha' : a' < 0x10000) (h : a' < a ∨ a + bs.length ≤ a') :
    ((s.nvmPut 0 a bs).nvmPut 1 a bs).nvmByte c a' = s.nvmByte c a' := by
  rw [State.nvmByte_nvmPut_outside hfit ha' (.inr h), State.nvmByte_nvmPut_outside hfit ha' (.inr h)]

end BothCopies

/-! ### The steps of a shutdown (R481) -/

/-- R481, step 3: both stacks in self-refresh. -/
def State.stacksAsleep (s : State) : State := (s.set Reg.SO_STAT.STACK0 2).set Reg.SO_STAT.STACK1 2

section ShutdownSteps
variable {s : State} {k : Shut} {e : NvmEnd}

theorem State.selfRefresh_due (hk : s.shut = some k) (h0 : k.phase = 0)
    (h : k.start + 1000000 ≤ s.now ∨ s.tb.refPresent = false ∨ ∀ d < 64, s.flag (Reg.DPS_STAT.CONN d) = false) :
    s.selfRefresh = { s.stacksAsleep with shut := some { k with phase := 1 } } := by
  simp only [State.selfRefresh, hk]
  exact if_pos ⟨h0, by simpa using h⟩

/-- R481: while a supply is connected, its time runs and REFCLK is there, the stacks go on. -/
theorem State.selfRefresh_early (hk : s.shut = some k) (h1 : s.now < k.start + 1000000) (h2 : s.tb.refPresent = true)
    (h3 : ∃ d < 64, s.flag (Reg.DPS_STAT.CONN d) = true) : s.selfRefresh = s := by
  simp only [State.selfRefresh, hk]
  refine if_neg (fun ⟨_, h⟩ => ?_)
  rcases h with h | h | h
  · omega
  · simp [h2] at h
  · obtain ⟨d, hd, hconn⟩ := h3
    have := List.all_eq_true.1 h d (List.mem_range.2 hd)
    simp [hconn] at this

theorem State.selfRefresh_idle (h : ∀ k, s.shut = some k → k.phase ≠ 0) : s.selfRefresh = s := by
  unfold State.selfRefresh
  split
  next k hk => exact if_neg (fun hc => h k hk hc.1)
  next => rfl

theorem State.recordShut_due (hk : s.shut = some k) (h1 : k.phase = 1) :
    s.recordShut e = { (s.nvmWrite (0xD000 + 32 * (k.seq % 256)) k.body e).1 with shut := some { k with phase := 2 } } := by
  simp only [State.recordShut, hk, if_pos h1]

theorem State.recordShut_idle (h : ∀ k, s.shut = some k → k.phase ≠ 1) : s.recordShut e = s := by
  unfold State.recordShut
  split
  next k hk => exact if_neg (h k hk)
  next => rfl

end ShutdownSteps

section Stacks
variable {s : State}

theorem State.stacksAsleep_stack0 : s.stacksAsleep.get Reg.SO_STAT.STACK0 = 2 := by
  rw [State.stacksAsleep, State.get_set_other _ _ _ (by decide) (by decide) (by decide)]
  exact State.get_set_same _ 2 (by decide) (by decide)

theorem State.stacksAsleep_stack1 : s.stacksAsleep.get Reg.SO_STAT.STACK1 = 2 := State.get_set_same _ 2 (by decide) (by decide)

theorem State.stacksAsleep_sameFields : s.SameFields [Reg.SO_STAT.STACK0, Reg.SO_STAT.STACK1] s.stacksAsleep :=
  (State.SameFields.set _ _ (by decide) (by decide) (by simp)).snoc (State.SameFields.set _ _ (by decide) (by decide) (by simp))

end Stacks

/-! ### The trouble log (R483, R487) -/

section TroubleLog
variable {s : State} {e : LogWait} {es : List LogWait}

/-- The slot of the oldest waiting entry, and what waits after it. -/
def State.logTaken (s : State) (e : LogWait) (es : List LogWait) : State :=
  { s with logWait := es, logRing := sset (fun _ => 0) s.logRing (s.get Reg.LOG_STAT.TAIL % 4096) e.word }

/-- WRAPPED as the write of an entry leaves it. -/
def State.logWrapped (s : State) : State := if 4096 ≤ s.get Reg.LOG_STAT.TAIL then s.set Reg.LOG_STAT.WRAPPED 1 else s

theorem State.logWrite_eq (h : s.logWait = e :: es) :
    s.logWrite = (s.logTaken e es).logWrapped.set Reg.LOG_STAT.TAIL (s.get Reg.LOG_STAT.TAIL + 1) := by
  simp only [State.logWrite, h]
  rfl

theorem State.logWrite_empty (h : s.logWait = []) : s.logWrite = s := by simp only [State.logWrite, h]

theorem State.logWrapped_frame : s.logWrapped = { s with regs := s.logWrapped.regs } := by
  unfold State.logWrapped
  split <;> rfl

theorem State.logWrapped_flag :
    s.logWrapped.flag Reg.LOG_STAT.WRAPPED = (s.flag Reg.LOG_STAT.WRAPPED || decide (4096 ≤ s.get Reg.LOG_STAT.TAIL)) := by
  unfold State.logWrapped
  split
  next h =>
    have hset : (s.set Reg.LOG_STAT.WRAPPED 1).get Reg.LOG_STAT.WRAPPED = 1 := State.get_set_same _ 1 (by decide) (by decide)
    simp [State.flag, hset, h]
  next h => simp [h]

theorem State.logWrapped_sameFields : s.SameFields [Reg.LOG_STAT.TAIL, Reg.LOG_STAT.WRAPPED] s.logWrapped := by
  unfold State.logWrapped
  split
  · exact State.SameFields.set _ _ (by decide) (by decide) (by simp)
  · exact State.SameFields.refl

end TroubleLog

/-! ### The rows -/

section Rows
variable (s : State)

theorem exec_stackSelfRefresh : exec .stackSelfRefresh s = .next s.selfRefresh := rfl

theorem exec_shutdownRecordDone (e : NvmEnd) : exec (.shutdownRecordDone e) s = .next (s.recordShut e) := rfl

theorem exec_logEntryWrite : exec .logEntryWrite s = .next s.logWrite := rfl

theorem exec_logCmdClear {p : Port} (hm : s.mode ≠ Mode.RESET) : exec (.logCmdClear p) s = .next s.logClear :=
  congrArg Host.Outcome.next (State.host_out_of_reset hm _ _ _ _)

end Rows

/-- Settles O53: each step by the equation of its meaning, the record by what the writes of the two copies store. -/
theorem shutdownStepsAndTroubleLog : Obligations.ShutdownStepsAndTroubleLog := by
  unfold Obligations.ShutdownStepsAndTroubleLog
  refine ⟨fun s k hk h0 => ⟨fun h => ?refresh, fun h1 h2 h3 => by rw [exec_stackSelfRefresh, State.selfRefresh_early hk h1 h2 h3]⟩,
    fun s k hk h1 hlen => ?record, fun s e h => by rw [exec_shutdownRecordDone, State.recordShut_idle h],
    fun s h => by rw [exec_stackSelfRefresh, State.selfRefresh_idle h], fun s e es h => ?write,
    fun s h => by rw [exec_logEntryWrite, State.logWrite_empty h], fun s p hm => ?clear⟩
  case refresh =>
    exact ⟨_, (exec_stackSelfRefresh s).trans (congrArg Host.Outcome.next (State.selfRefresh_due hk h0 h)), State.stacksAsleep_stack0, State.stacksAsleep_stack1, rfl,
      State.stacksAsleep_sameFields, rfl⟩
  case record =>
    have hfit : 0xD000 + 32 * (k.seq % 256) + k.body.length ≤ 0x10000 := by omega
    refine ⟨_, by rw [exec_shutdownRecordDone, State.recordShut_due hk h1], rfl, fun c hc => ?_, fun c hc a ha hout => ?_, ?_⟩
    · have := State.nvmBytes_both (s := s) hfit hc
      rwa [hlen] at this
    · exact State.nvmByte_both_outside hfit ha (by omega)
    · rw [State.nvmWrite_both]
      generalize 0xD000 + 32 * (k.seq % 256) = a
      rw [State.nvmPut_frame (s := s.nvmPut 0 a k.body), State.nvmPut_frame (s := s)]
  case write =>
    have hframe := State.logWrapped_frame (s := s.logTaken e es)
    refine ⟨_, by rw [exec_logEntryWrite, State.logWrite_eq h], ?_, ?_, fun j hj => ?_, State.get_set_same _ _ (by decide) (by decide), ?_, ?_, ?_⟩
    · rw [hframe]; rfl
    · rw [hframe]; exact sget_sset_same _ _ _ _
    · rw [hframe]; exact sget_sset_other _ _ _ _ _ hj
    · have hwrapped := State.logWrapped_flag (s := s.logTaken e es)
      have htail := State.get_set_other Reg.LOG_STAT.TAIL Reg.LOG_STAT.WRAPPED (s := (s.logTaken e es).logWrapped) (s.get Reg.LOG_STAT.TAIL + 1)
        (by decide) (by decide) (by decide)
      rw [State.flag, htail]
      exact hwrapped
    · have hstep := State.logWrapped_sameFields (s := s.logTaken e es)
      exact (State.SameFields.snoc (State.SameFields.of_regs rfl) hstep).snoc (State.SameFields.set _ _ (by decide) (by decide) (by simp))
    · rw [hframe]; rfl
  case clear =>
    exact ⟨_, exec_logCmdClear s hm, State.reg_setReg_same Reg.LOG_STAT.word 0, rfl, State.SameWords.setReg Reg.LOG_STAT.word 0 (by simp), rfl⟩

end Sys2Proof.Machine
end

section
/-! SUPPORT. Reading a field that an operation leaves alone, and what the operations on one site and its sequencer do: the waits, the issue and the end
of a statement, the fault, the hold, the move of a site to a state and its return to LOADED. -/

namespace Sys2Proof.Machine

/-! ### Fields apart from those that change -/

/-- The field `f` shares no bit with a field of `fs`. -/
def Fld.Apart (f : Fld) (fs : List Fld) : Prop := f.lo ≤ f.hi ∧ ∀ g ∈ fs, f.addr ≠ g.addr ∨ f.hi < g.lo ∨ g.hi < f.lo

section Apart
variable {f g : Fld} {fs gs : List Fld} {s t : State} {n k : Nat}

theorem Fld.apart_nil : f.Apart [] ↔ f.lo ≤ f.hi := by simp [Fld.Apart]

theorem Fld.apart_cons : f.Apart (g :: fs) ↔ (f.addr ≠ g.addr ∨ f.hi < g.lo ∨ g.hi < f.lo) ∧ f.Apart fs := by
  simp only [Fld.Apart, List.forall_mem_cons]
  exact and_left_comm

/-- R179: what lies outside the X registers of a site is apart from each of them. -/
theorem Fld.apart_xFields (hf : f.lo ≤ f.hi) (hk : k < 32) (h : f.addr < 0x031000 + 0x40 * n ∨ 0x031020 + 0x40 * n ≤ f.addr) : f.Apart (xFields n k) := by
  refine ⟨hf, fun g hg => .inl ?_⟩
  unfold xFields at hg
  split at hg
  · cases hg
  · rw [List.mem_singleton.1 hg]
    simp only [Reg.SQ_XREG.VALUE]
    omega

theorem State.SameFields.get (h : s.SameFields fs t) (hf : f.Apart fs) : t.get f = s.get f := h f hf.1 hf.2

theorem State.SameFields.flag (h : s.SameFields fs t) (hf : f.Apart fs) : t.flag f = s.flag f := by rw [State.flag, State.flag, h.get hf]

/-- A word is its field of all bits. -/
theorem wget_all (w : Word) : wget w 127 0 = w.toNat := by
  have := w.isLt
  simp only [wget, bitsOf, Nat.shiftRight_zero]
  omega

/-- Past bit 127 a word has no bits. -/
theorem wget_past (w : Word) {hi lo : Nat} (h : 128 ≤ lo) : wget w hi lo = 0 := by
  have hw : w.toNat < 2 ^ lo := w.isLt.trans_le (Nat.pow_le_pow_right (by decide) h)
  simp [wget, bitsOf, Nat.shiftRight_eq_div_pow, Nat.div_eq_of_lt hw]

/-- Writing a whole word changes the fields of that word. -/
theorem State.SameFields.setReg (a : Nat) (w : Word) (ha : ⟨a, 127, 0⟩ ∈ fs) : s.SameFields fs (s.setReg a w) := fun f _ hd => by
  rcases hd _ ha with h | h | h
  · exact State.get_setReg_other _ _ _ h
  · exact absurd h (Nat.not_lt_zero _)
  · simp only [State.get, wget_past _ h]

/-- A word in which no field changes stays. -/
theorem State.SameFields.reg (h : s.SameFields fs t) {a : Nat} (ha : ∀ g ∈ fs, a ≠ g.addr) : t.reg a = s.reg a := by
  have hall := h ⟨a, 127, 0⟩ (Nat.zero_le _) (fun g hg => .inl (ha g hg))
  simp only [State.get, wget_all] at hall
  exact BitVec.eq_of_toNat_eq hall

theorem State.SameFields.getX (h : s.SameFields fs t) (ha : ∀ g ∈ fs, Reg.SQ_XREG.word n k ≠ g.addr) : t.getX n k = s.getX n k := by
  simp only [State.getX, h.reg ha]

end Apart

/-! ### Sequencers -/

section Seqs
variable {s : State} {n m : Nat} {q : Seq}

@[simp] theorem State.seq_setSeq_same : (s.setSeq n q).seq n = q := sget_sset_same _ _ _ _

theorem State.seq_setSeq_other (h : m ≠ n) : (s.setSeq n q).seq m = s.seq m := sget_sset_other _ _ _ _ _ h

@[simp] theorem State.set_seq (f : Fld) (v : Nat) : (s.set f v).seq n = s.seq n := rfl

end Seqs

/-! ### X registers, status and PC (R179, R186) -/

section StatementEnd
variable {s : State} {n k v st : Nat} {w : Word}

theorem State.setX_frame : s.setX n k w = { s with regs := (s.setX n k w).regs } := by
  unfold State.setX
  split <;> rfl

theorem State.setX_sameFields : s.SameFields (xFields n k) (s.setX n k w) := by
  unfold State.setX xFields
  split
  · exact State.SameFields.refl
  · exact State.SameFields.setReg _ _ (by simp [Reg.SQ_XREG.VALUE, Reg.SQ_XREG.word])

theorem State.getX_setX : (s.setX n k w).getX n k = if k = 0 then 0 else w := by
  unfold State.setX State.getX
  split
  · rfl
  · exact State.reg_setReg_same _ _

theorem State.setSt_sameFields : s.SameFields [Reg.SQ_STAT.ST n] (s.setSt n st) :=
  State.SameFields.set _ _ (Nat.le_of_ble_eq_true rfl) (Nat.le_of_ble_eq_true rfl) (by simp)

theorem State.setPc_sameFields : s.SameFields [Reg.SQ_STAT.PC n] (s.setPc n v) :=
  State.SameFields.set _ _ (Nat.le_of_ble_eq_true rfl) (Nat.le_of_ble_eq_true rfl) (by simp)

theorem State.pc_setPc : (s.setPc n v).pc n = v % 2 ^ 20 :=
  (State.get_set_same (Reg.SQ_STAT.PC n) (v % 2 ^ 20) (Nat.le_of_ble_eq_true rfl) (Nat.le_of_ble_eq_true rfl)).trans (Nat.mod_mod _ _)

theorem State.retire_sameFields : s.SameFields [Reg.SQ_STAT.PC n] (s.retire n) := State.setPc_sameFields

theorem State.pc_retire : (s.retire n).pc n = (s.pc n + 1) % 2 ^ 20 := State.pc_setPc

/-- What a statement that loads `w` into Xk with status `st` leaves: R179, R186. -/
def State.ended (s : State) (n k : Nat) (w : Word) (st : Nat) : State := ((s.setX n k w).setSt n st).retire n

theorem State.ended_frame : s.ended n k w st = { s with regs := (s.ended n k w st).regs } := by
  unfold State.ended
  rw [State.setX_frame]
  rfl

theorem State.ended_sameFields : s.SameFields (Reg.SQ_STAT.PC n :: Reg.SQ_STAT.ST n :: xFields n k) (s.ended n k w st) :=
  ((State.setX_sameFields.mono (by simp +contextual)).snoc (State.setSt_sameFields.mono (by simp))).snoc (State.retire_sameFields.mono (by simp))

theorem State.ended_getX (hk : k < 32) : (s.ended n k w st).getX n k = if k = 0 then 0 else w := by
  have hst : (s.setX n k w).SameFields [Reg.SQ_STAT.ST n, Reg.SQ_STAT.PC n] (s.ended n k w st) :=
    (State.setSt_sameFields.mono (by simp)).snoc (State.retire_sameFields.mono (by simp))
  rw [hst.getX ?_, State.getX_setX]
  simp only [List.forall_mem_cons, Reg.SQ_XREG.word, Reg.SQ_STAT.ST, Reg.SQ_STAT.PC, List.not_mem_nil, false_imp_iff, implies_true, and_true]
  omega

theorem State.ended_st (hst : st < 2 ^ 8) : (s.ended n k w st).get (Reg.SQ_STAT.ST n) = st := by
  have hpc : (s.ended n k w st).get (Reg.SQ_STAT.ST n) = ((s.setX n k w).setSt n st).get (Reg.SQ_STAT.ST n) :=
    State.retire_sameFields.get (by simp [Fld.apart_cons, Fld.apart_nil, Reg.SQ_STAT.ST, Reg.SQ_STAT.PC])
  rw [hpc]
  exact (State.get_set_same (Reg.SQ_STAT.ST n) st (Nat.le_of_ble_eq_true rfl) (Nat.le_of_ble_eq_true rfl)).trans (Nat.mod_eq_of_lt hst)

theorem State.ended_pc (hk : k < 32) : (s.ended n k w st).pc n = (s.pc n + 1) % 2 ^ 20 := by
  have hx : ((s.setX n k w).setSt n st).pc n = (s.setX n k w).pc n :=
    State.setSt_sameFields.get (by simp [Fld.apart_cons, Fld.apart_nil, Reg.SQ_STAT.ST, Reg.SQ_STAT.PC])
  have hpc : (s.setX n k w).pc n = s.pc n := State.setX_sameFields.get (Fld.apart_xFields (Nat.le_of_ble_eq_true rfl) hk (by simp only [Reg.SQ_STAT.PC]; omega))
  rw [State.ended, State.pc_retire, hx, hpc]

end StatementEnd

/-! ### Waits (R188, R189, R194) -/

section Waits
variable {s : State} {n m : Nat}

@[simp] theorem State.seq_setWait {w : Wait} : (s.setWait n w).seq n = { s.seq n with wait := w } := State.seq_setSeq_same

/-- A statement's wait ends: its value and status are loaded and it retires. -/
theorem State.finishWait_statement (h : (s.seq n).verb.running = false) (xd : Nat) (v : Word) (st : Nat) (ok : Bool) :
    s.finishWait n xd v st ok = (s.setWait n .none).ended n xd v st := by
  unfold State.finishWait
  exact if_neg (by simp [h])

theorem State.finishBeat_statement (h : (s.seq n).verb.running = false) : s.finishBeat n = (s.setWait n .none).retire n := by
  unfold State.finishBeat
  exact if_neg (by simp [h])

end Waits

/-! ### Issue (R179 to R187) -/

section Issue
variable {s : State} {n : Nat} {i : Stmt} {ops : List Nat} {bad : Stmt → State → Option (Nat × Nat)} {run : Stmt → State → State}

theorem State.Issues.idle (h : s.Issues n i) : s.siteState n = Site.RUNNING ∧ (s.seq n).wait = .none ∧ (s.seq n).verb.running = false := by
  obtain ⟨hcan, -, -, -⟩ := h
  simp only [State.canIssue, Bool.and_eq_true, beq_iff_eq, Bool.not_eq_true'] at hcan
  obtain ⟨⟨⟨⟨hrun, -⟩, -⟩, hwait⟩, hverb⟩ := hcan
  exact ⟨hrun, hwait, hverb⟩

/-- R182: the fields of a statement word are no wider than the word gives them. -/
theorem State.Issues.bounds (h : s.Issues n i) : i.op < 2 ^ 8 ∧ i.xd < 32 ∧ i.xa < 32 := by
  obtain ⟨-, -, rfl, -⟩ := h
  exact ⟨Nat.mod_lt _ (by decide), Nat.mod_lt _ (by decide), Nat.mod_lt _ (by decide)⟩

/-- R179 to R183: a statement that issues runs, or faults where its operands do. -/
theorem State.Issues.issue (h : s.Issues n i) (hop : i.op ∈ ops) (bad : Stmt → State → Option (Nat × Nat)) (run : Stmt → State → State) :
    s.issue n ops bad run = match bad i s with
      | some (r, v) => s.fault n r v
      | none => run i (s.began n i.op) := by
  obtain ⟨hcan, hfetch, rfl, hval⟩ := h
  simp only [State.issue, hcan, hfetch, hval, List.contains_iff_mem.2 hop]
  rfl

theorem State.Issues.runs (h : s.Issues n i) (hop : i.op ∈ ops) (hbad : bad i s = none) : s.issue n ops bad run = run i (s.began n i.op) := by
  rw [h.issue hop, hbad]

theorem State.Issues.faults (h : s.Issues n i) (hop : i.op ∈ ops) {r v : Nat} (hbad : bad i s = some (r, v)) : s.issue n ops bad run = s.fault n r v := by
  rw [h.issue hop, hbad]

end Issue

/-! ### What the issue of a statement changes (R165, R205) -/

/-- From `s` to `t` nothing but registers and the beats of the stacks' requests has changed. -/
def State.IssueFrame (s t : State) : Prop := t = { s with regs := t.regs, stackReq := t.stackReq }

section Began
variable {s t : State} {n op pc : Nat} {i : Stmt} {fs : List Fld}

theorem State.IssueFrame.set (h : s.IssueFrame t) (f : Fld) (v : Nat) : s.IssueFrame (t.set f v) := by
  unfold State.IssueFrame at h ⊢
  rw [h]
  rfl

theorem State.IssueFrame.request (h : s.IssueFrame t) (r : List (Nat × Nat)) : s.IssueFrame { t with stackReq := r } := by
  unfold State.IssueFrame at h ⊢
  rw [h]

/-- R165: from `s` to `t` requests have reached the stacks, and have woken those that they reached. -/
structure State.Requested (s t : State) : Prop where
  frame : s.IssueFrame t
  fields : s.SameFields [Reg.SO_STAT.STACK0, Reg.SO_STAT.STACK1] t

theorem State.Requested.request (h : s.Requested t) (r : List (Nat × Nat)) : s.Requested { t with stackReq := r } :=
  ⟨h.frame.request r, h.fields.snoc (State.SameFields.of_regs rfl)⟩

theorem State.Requested.wake (h : s.Requested t) {f : Fld} (hf : f = Reg.SO_STAT.STACK0 ∨ f = Reg.SO_STAT.STACK1) : s.Requested (t.set f 0) := by
  refine ⟨h.frame.set f 0, h.fields.snoc ?_⟩
  rcases hf with rfl | rfl <;> exact State.SameFields.set _ _ (by decide) (by decide) (by simp)

theorem State.memReq_requested (s : State) (a k : Nat) : s.Requested (s.memReq a k) := by
  refine State.forL_kept _ _ (fun j t ht => ite_kept (fun _ => (ht.request _).wake ?_) (fun _ => ht.request _)) ⟨rfl, State.SameFields.refl⟩
  split
  · exact .inl rfl
  · exact .inr rfl

/-- The fields that the issue of a statement writes before the statement acts. -/
def beganFields (n : Nat) : List Fld := [Reg.SQ_STAT.OP n, Reg.SQ_CNT.ISSUED n, Reg.SO_STAT.STACK0, Reg.SO_STAT.STACK1]

theorem State.began_issueFrame : s.IssueFrame (s.began n op) := ((State.memReq_requested s _ _).frame.set _ _).set _ _

theorem State.began_sameFields : s.SameFields (beganFields n) (s.began n op) :=
  (((State.memReq_requested s _ _).fields.mono (by simp +contextual [beganFields])).snoc
    (State.SameFields.set (Reg.SQ_STAT.OP n) _ (Nat.le_of_ble_eq_true rfl) (Nat.le_of_ble_eq_true rfl) (by simp [beganFields]))).snoc
    (State.SameFields.set (Reg.SQ_CNT.ISSUED n) _ (Nat.le_of_ble_eq_true rfl) (Nat.le_of_ble_eq_true rfl) (by simp [beganFields]))

@[simp] theorem State.began_seq (m : Nat) : (s.began n op).seq m = s.seq m := by rw [State.began_issueFrame]; rfl

@[simp] theorem State.began_now : (s.began n op).now = s.now := by rw [State.began_issueFrame]; rfl

@[simp] theorem State.began_pc : (s.began n op).pc n = s.pc n := by
  refine State.began_sameFields.get ?_
  simp only [beganFields, Fld.apart_cons, Fld.apart_nil, Reg.SO_STAT.STACK0, Reg.SO_STAT.STACK1, Reg.SQ_STAT.PC, Reg.SQ_STAT.OP, Reg.SQ_CNT.ISSUED]
  omega

theorem State.began_getX (hn : n < 64) {k : Nat} (hk : k < 32) : (s.began n op).getX n k = s.getX n k := by
  refine State.began_sameFields.getX ?_
  simp only [beganFields, List.forall_mem_cons, Reg.SQ_XREG.word, Reg.SO_STAT.STACK0, Reg.SO_STAT.STACK1, Reg.SQ_STAT.OP, Reg.SQ_CNT.ISSUED,
    List.not_mem_nil, false_imp_iff, implies_true, and_true]
  omega

theorem State.began_op (hop : op < 2 ^ 8) : (s.began n op).get (Reg.SQ_STAT.OP n) = op := by
  unfold State.began State.inc State.add
  rw [State.get_set_addr _ _ _ (by simp [Reg.SQ_STAT.OP, Reg.SQ_CNT.ISSUED]),
    State.get_set_same _ _ (Nat.le_of_ble_eq_true rfl) (Nat.le_of_ble_eq_true rfl)]
  exact Nat.mod_eq_of_lt hop

theorem State.began_issued : (s.began n op).get (Reg.SQ_CNT.ISSUED n) = (s.get (Reg.SQ_CNT.ISSUED n) + 1) % 2 ^ 64 := by
  unfold State.began State.inc State.add
  rw [State.get_set_same _ _ (Nat.le_of_ble_eq_true rfl) (Nat.le_of_ble_eq_true rfl),
    State.get_set_addr _ _ _ (by simp [Reg.SQ_STAT.OP, Reg.SQ_CNT.ISSUED]), (State.memReq_requested s _ _).fields.get ?_]
  · rfl
  · simp only [Fld.apart_cons, Fld.apart_nil, Reg.SO_STAT.STACK0, Reg.SO_STAT.STACK1, Reg.SQ_CNT.ISSUED]
    omega

/-- R179, R205: a statement that has issued and then changes only PC and the fields of `fs` has moved to the PC that it leaves. -/
theorem State.Issues.moved (h : s.Issues n i) (ht : (s.began n i.op).SameFields (Reg.SQ_STAT.PC n :: fs) t) (hop : (Reg.SQ_STAT.OP n).Apart fs)
    (hissued : (Reg.SQ_CNT.ISSUED n).Apart fs) (hpc : t.pc n = pc % 2 ^ 20) : s.Moved t n pc fs := by
  obtain ⟨hop8, -, -⟩ := h.bounds
  refine ⟨hpc, ?_, ?_, ?_⟩
  · rw [ht.get (Fld.apart_cons.2 ⟨by simp [Reg.SQ_STAT.OP, Reg.SQ_STAT.PC], hop⟩), State.began_op hop8, h.2.2.1]
  · rw [ht.get (Fld.apart_cons.2 ⟨by simp [Reg.SQ_CNT.ISSUED, Reg.SQ_STAT.PC], hissued⟩), State.began_issued]
  · exact (State.began_sameFields.mono (by simp +contextual [beganFields, issueFields])).snoc (ht.mono (by simp +contextual [issueFields]))

end Began
end Sys2Proof.Machine
end

section
/-! SUPPORT. The statements that wait (R188 to R190, R194): how each wait begins, and what its target, its timeout and its condition leave. -/

namespace Sys2Proof.Machine

/-! ### The frame of a wait -/

/-- From `s` to `t` nothing but registers, the beats of the stacks' requests and the sequencers has changed. -/
def State.WaitFrame (s t : State) : Prop := t = { s with regs := t.regs, stackReq := t.stackReq, seqs := t.seqs }

section Frame
variable {s t : State} {n op : Nat}

theorem State.IssueFrame.waits (h : s.IssueFrame t) : s.WaitFrame t := by
  unfold State.IssueFrame at h
  unfold State.WaitFrame
  rw [h]

theorem State.WaitFrame.set (h : s.WaitFrame t) (f : Fld) (v : Nat) : s.WaitFrame (t.set f v) := by
  unfold State.WaitFrame at h ⊢
  rw [h]
  rfl

theorem State.WaitFrame.setWait (h : s.WaitFrame t) (n : Nat) (w : Wait) : s.WaitFrame (t.setWait n w) := by
  unfold State.WaitFrame at h ⊢
  rw [h]
  rfl

theorem State.began_waitFrame : s.WaitFrame (s.began n op) := State.began_issueFrame.waits

/-- A sequencer that waits for nothing is as it is when its wait is ended. -/
theorem Seq.wait_none {q : Seq} (h : q.wait = .none) : { q with wait := .none } = q := by rw [← h]

end Frame

/-! ### WAITB (R188) -/

section Waitb
variable {s : State} {n g : Nat} {i : Stmt}

/-- R188: the target of WAITB by the obligation's formula. -/
theorem State.waitbTarget_eq : s.waitbTarget n i = if bitOf i.aux 0 = true then
    (((s.getX n i.xa).toNat / 2 ^ 16 % 2 ^ 64 : Nat) + (BitVec.ofNat 64 i.imm).toInt).toNat else s.now + i.imm := by
  simp only [State.waitbTarget, State.opA, wget, bitsOf, Nat.shiftRight_eq_div_pow, signedOf, BitVec.toInt, BitVec.toNat_ofNat]

theorem State.began_waitbTarget (h : s.Issues n i) (hn : n < 64) : (s.began n i.op).waitbTarget n i = s.waitbTarget n i := by
  obtain ⟨-, -, hxa⟩ := h.bounds
  simp only [State.waitbTarget, State.opA, State.began_getX hn hxa, State.began_now]

/-- R188: a target that is not ahead ends the wait at once. -/
theorem State.waitBeat_reached (hv : (s.seq n).verb.running = false) (hg : g ≤ s.now) :
    s.waitBeat n g = ((s.setWait n (.beat g)).setWait n .none).retire n :=
  (if_pos hg).trans (State.finishBeat_statement (by rw [State.seq_setWait]; exact hv))

theorem State.waitBeat_ahead (hg : ¬ g ≤ s.now) : s.waitBeat n g = s.setWait n (.beat g) := if_neg hg

theorem State.beatTarget_due (hw : (s.seq n).wait = .beat g) (hc : s.canEnd n = true) (hv : (s.seq n).verb.running = false) (hg : g ≤ s.now) :
    s.beatTarget n = (s.setWait n .none).retire n := by
  simp only [State.beatTarget, hw, hc, hg, true_and, if_true, State.finishBeat_statement hv]

end Waitb

/-! ### WAITF (R189) -/

section Waitf
variable {s : State} {n xd g d : Nat} {i : Stmt}

/-- R189: a count is at its target, or past it by less than half its range. -/
theorem reached_eq_false {c g : Nat} (hg : g < 2 ^ 48) (h : 2 ^ 47 ≤ (c + 2 ^ 48 - g) % 2 ^ 48) : reached c g = false := by
  rw [reached, Nat.mod_eq_of_lt hg]
  exact decide_eq_false (Nat.not_lt.2 h)

theorem reached_self {g : Nat} (hg : g < 2 ^ 48) : reached g g = true := by
  rw [reached, Nat.mod_eq_of_lt hg, Nat.add_sub_cancel_left]
  decide

theorem State.waitFollow_ahead (h : reached (s.get (Reg.TB_FOLLOW_CNT.COUNT n)) g = false) : s.waitFollow n xd g d = s.setWait n (.follow xd g d none) := by
  simp only [State.waitFollow, h]
  rfl

/-- R189: the matching edge has come already: its stamp is the value. -/
theorem State.waitFollow_match (hv : (s.seq n).verb.running = false) (hg : g < 2 ^ 48) (hc : s.get (Reg.TB_FOLLOW_CNT.COUNT n) = g) :
    s.waitFollow n xd g d = (((s.setWait n (.follow xd g d none)).setWait n .none).ended n xd
      (BitVec.ofNat 128 (s.get (Reg.TB_FOLLOW_CNT.LAST_EDGE n))) St.OK).bumpFree := by
  simp only [State.waitFollow, hc, reached_self hg, if_true]
  rw [State.finishWait_statement (by rw [State.seq_setWait]; exact hv)]

theorem State.followTimeout_due (hw : (s.seq n).wait = .follow xd g d none) (hc : s.canEnd n = true) (hv : (s.seq n).verb.running = false) (hd : 0 < d)
    (hdue : d ≤ s.now) : s.followTimeout n = (s.setWait n .none).ended n xd 0 St.TIMEOUT := by
  simp only [State.followTimeout, hw, State.finishWait_statement hv]
  exact if_pos ⟨hc, hd.ne', hdue⟩

/-- R189: the follow counter of a site stands apart from what the issue of its statement writes. -/
theorem State.began_followCnt (hn : n < 64) {op hi lo : Nat} (h : lo ≤ hi) : (s.began n op).get ⟨Reg.TB_FOLLOW_CNT.word n, hi, lo⟩ = s.get ⟨Reg.TB_FOLLOW_CNT.word n, hi, lo⟩ := by
  refine State.began_sameFields.get ?_
  simp only [beganFields, Fld.apart_cons, Fld.apart_nil, Reg.SO_STAT.STACK0, Reg.SO_STAT.STACK1, Reg.TB_FOLLOW_CNT.word, Reg.SQ_STAT.OP, Reg.SQ_CNT.ISSUED]
  omega

end Waitf

/-! ### WAITP (R194) -/

section Waitp
variable {s : State} {n xd d : Nat} {rec : Bool}

theorem mem_insertRec (r : PendRec) (l : List PendRec) : r ∈ insertRec r l := by
  induction l with
  | nil => exact List.mem_singleton_self r
  | cons x xs ih =>
    unfold insertRec
    split
    · exact List.mem_cons_self
    · exact List.mem_cons_of_mem _ ih

/-- R194: the flags of the PASSFAIL record but for those that the device adds. -/
def State.passFailFlags (s : State) (n : Nat) : Nat :=
  (if (s.seq n).failBase = 0 then 0 else Flag.FAIL) ||| (if (s.stream (s.streamOf n)).lateSeen.contains n then Flag.LATE else 0) |||
    (if (s.seq n).cmpStale then Flag.STALE else 0)

/-- R194: the state with the PASSFAIL record fixed, when WAITP asks for one. -/
def State.passFail (s : State) (n : Nat) (rec : Bool) : State :=
  if rec then (s.recordRaw n Kind.PASSFAIL (s.passFailFlags n) 0 (s.seq n).failBase).inc (Reg.SQ_CNT.RECORDS n) else s

@[simp] theorem State.passFail_seq : (s.passFail n rec).seq n = s.seq n := by
  cases rec <;> rfl

theorem State.patternDone_due (hw : (s.seq n).wait = .pattern xd d rec) (hc : s.canEnd n = true) (hv : (s.seq n).verb.running = false)
    (hp : s.patternHolds n = true) : s.patternDone n = ((s.passFail n rec).setWait n .none).ended n xd
      (BitVec.ofNat 128 ((s.seq n).failBase % 2 ^ 48)) (if (s.seq n).failBase = 0 then St.OK else St.FAIL) := by
  rw [← State.finishWait_statement (by rw [State.passFail_seq]; exact hv) xd _ _ ((s.seq n).failBase == 0)]
  simp only [State.patternDone, hw]
  exact if_pos ⟨hc, hp⟩

theorem State.patternTimeout_due (hw : (s.seq n).wait = .pattern xd d rec) (hc : s.canEnd n = true) (hv : (s.seq n).verb.running = false)
    (hp : s.patternHolds n = false) (hd : 0 < d) (hdue : d ≤ s.now) : s.patternTimeout n = (s.setWait n .none).ended n xd 0 St.TIMEOUT := by
  simp only [State.patternTimeout, hw, State.finishWait_statement hv]
  exact if_pos ⟨hc, hd.ne', hdue, by simp [hp]⟩

theorem State.passFail_sameFields : s.SameFields [Reg.SQ_CNT.RECORDS n] (s.passFail n rec) := by
  unfold State.passFail
  split
  · exact State.SameFields.snoc (State.SameFields.of_regs rfl)
      (State.SameFields.set (Reg.SQ_CNT.RECORDS n) _ (Nat.le_of_ble_eq_true rfl) (Nat.le_of_ble_eq_true rfl) (by simp))
  · exact State.SameFields.refl

theorem State.passFail_frame : s.passFail n rec = { s with regs := (s.passFail n rec).regs, pendRecs := (s.passFail n rec).pendRecs } := by
  cases rec <;> rfl

theorem State.passFail_records : s.Records (s.passFail n true) n Kind.PASSFAIL (s.passFailFlags n ||| s.siteFlags n) 0 (s.seq n).failBase :=
  mem_insertRec _ _

/-- R194, R383: FAIL is set in the record when a vector has failed, and only then. -/
theorem State.passFailFlags_fail : bitOf (s.passFailFlags n ||| s.siteFlags n) 0 = true ↔ (s.seq n).failBase ≠ 0 := by
  have hlate : bitOf (if (s.stream (s.streamOf n)).lateSeen.contains n then Flag.LATE else 0) 0 = false := by split <;> rfl
  have hstale : bitOf (if (s.seq n).cmpStale then Flag.STALE else 0) 0 = false := by split <;> rfl
  have hsite : bitOf (s.siteFlags n) 0 = false := by unfold State.siteFlags; split <;> rfl
  have hfail : bitOf (if (s.seq n).failBase = 0 then 0 else Flag.FAIL) 0 = decide ((s.seq n).failBase ≠ 0) := by
    split
    next h => simp [h, bitOf]
    next h => simp [h, bitOf, Flag.FAIL]
  simp only [bitOf] at *
  simp only [State.passFailFlags, Nat.testBit_or, hlate, hstale, hsite, hfail, Bool.or_false, decide_eq_true_eq]

end Waitp
end Sys2Proof.Machine
end

section
/-! SUPPORT. The moves of a site (R187, R198 to R203): the interrupt of a source, the move to a state, the hold, the fault, and the return to LOADED. -/

namespace Sys2Proof.Machine

/-- R466: the pending bit of an interrupt source. -/
def intrField (src : Nat) : Fld := ⟨0x005004, src, src⟩

/-- From `s` to `t` nothing but registers and pending messages has changed. -/
def State.MsixFrame (s t : State) : Prop := t = { s with regs := t.regs, msix := t.msix }

section Interrupts
variable {s t u : State} {src : Nat}

theorem State.MsixFrame.refl : s.MsixFrame s := rfl

theorem State.MsixFrame.set (h : s.MsixFrame t) (f : Fld) (v : Nat) : s.MsixFrame (t.set f v) := by
  unfold State.MsixFrame at h ⊢
  rw [h]
  rfl

/-- R466: the pending messages become `m`. -/
def State.setMsix (s : State) (m : Nat) : State := { s with msix := m }

theorem State.setMsix_self : s.setMsix s.msix = s := rfl

theorem State.setMsix_regs (m : Nat) : (s.setMsix m).regs = s.regs := rfl

theorem State.setMsix_get (m : Nat) (f : Fld) : (s.setMsix m).get f = s.get f := rfl

theorem State.MsixFrame.setMsix (h : s.MsixFrame t) (m : Nat) : s.MsixFrame (t.setMsix m) := by
  unfold State.MsixFrame at h ⊢
  rw [h]
  rfl

/-- R466: a pending bit that is not set yet is set, and its message may become pending. -/
theorem State.intr_cases (s : State) (src : Nat) : s.intr src = s ∧ s.flag (intrField src) = true ∨
    ∃ m, s.intr src = (s.set (intrField src) 1).setMsix m := by
  unfold State.intr
  dsimp only
  split
  next h => exact .inl ⟨rfl, h⟩
  next =>
    refine .inr ?_
    split
    · exact ⟨_, rfl⟩
    · exact ⟨_, (State.setMsix_self (s := s.set (intrField src) 1)).symm⟩

theorem State.MsixFrame.intr (h : s.MsixFrame t) (src : Nat) : s.MsixFrame (t.intr src) := by
  rcases t.intr_cases src with ⟨heq, -⟩ | ⟨m, heq⟩
  · rwa [heq]
  · rw [heq]
    exact (h.set _ _).setMsix m

theorem State.intr_sameFields (hsrc : src < 128) : s.SameFields [intrField src] (s.intr src) := by
  rcases s.intr_cases src with ⟨heq, -⟩ | ⟨m, heq⟩
  · rw [heq]
    exact State.SameFields.refl
  · rw [heq]
    exact (State.SameFields.set (intrField src) 1 hsrc le_rfl (by simp)).snoc (State.SameFields.of_regs (State.setMsix_regs m))

theorem State.intr_flag (hsrc : src < 128) : (s.intr src).flag (intrField src) = true := by
  rcases s.intr_cases src with ⟨heq, h⟩ | ⟨m, heq⟩
  · rw [heq, h]
  · rw [heq, State.flag, State.setMsix_get, State.get_set_same _ _ hsrc le_rfl]
    simp [Fld.width, intrField]

end Interrupts

/-! ### The move of a site to a state (R198, R205, R466) -/

section Moves
variable {s : State} {n m st : Nat}

theorem State.siteState_set (hst : st < 8) : (s.set (Reg.SQ_STAT.STATE n) st).siteState n = st :=
  (State.get_set_same (Reg.SQ_STAT.STATE n) st (Nat.le_of_ble_eq_true rfl) (Nat.le_of_ble_eq_true rfl)).trans (Nat.mod_eq_of_lt hst)

theorem State.setSite_msixFrame : s.MsixFrame (s.setSite n st) := by
  have h1 : s.MsixFrame (s.set (Reg.SQ_STAT.STATE n) st) := State.MsixFrame.refl.set _ _
  have h2 {t : State} (h : s.MsixFrame t) (c : Prop) [Decidable c] : s.MsixFrame (if c then t.inc (Reg.SQ_CNT.HOLDS n) else t) :=
    ite_kept (fun _ => h.set _ _) (fun _ => h)
  have h3 {t : State} (h : s.MsixFrame t) (c : Prop) [Decidable c] (src : Nat) : s.MsixFrame (if c then t.intr src else t) :=
    ite_kept (fun _ => h.intr _) (fun _ => h)
  exact h3 (h3 (h2 h1 _) _ _) _ _

/-- The fields that a move of site `n` to a state other than LOADED may write. -/
def moveFields (n : Nat) : List Fld := [Reg.SQ_STAT.STATE n, Reg.SQ_CNT.HOLDS n, intrField Intr.SITE_HELD]

/-- The step that counts a hold or reports it changes neither the state of a site nor the report of an end. -/
theorem State.setSite_cases (s : State) (n st : Nat) : ∃ t : State, (s.set (Reg.SQ_STAT.STATE n) st).SameFields [Reg.SQ_CNT.HOLDS n, intrField Intr.SITE_HELD] t ∧
    s.setSite n st = if st = Site.LOADED ∧ (s.siteState n = Site.RUNNING ∨ s.siteState n = Site.HELD ∨ s.siteState n = Site.TRIPPED)
      then t.intr Intr.SITE_END else t := by
  refine ⟨_, ?_, rfl⟩
  refine ite_kept (fun _ => State.SameFields.snoc ?_ ((State.intr_sameFields (by decide)).mono (by simp))) (fun _ => ?_)
  all_goals
    exact ite_kept (fun _ => State.SameFields.set (Reg.SQ_CNT.HOLDS n) _ (Nat.le_of_ble_eq_true rfl) (Nat.le_of_ble_eq_true rfl) (by simp))
      (fun _ => State.SameFields.refl)

theorem State.set_state_sameFields {fs : List Fld} (h : Reg.SQ_STAT.STATE n ∈ fs) : s.SameFields fs (s.set (Reg.SQ_STAT.STATE n) st) :=
  State.SameFields.set _ _ (Nat.le_of_ble_eq_true rfl) (Nat.le_of_ble_eq_true rfl) h

theorem State.setSite_sameFields (hst : st ≠ Site.LOADED) : s.SameFields (moveFields n) (s.setSite n st) := by
  obtain ⟨t, ht, heq⟩ := s.setSite_cases n st
  rw [heq, if_neg (fun h => hst h.1)]
  exact (State.set_state_sameFields (by simp [moveFields])).snoc (ht.mono (by simp +contextual [moveFields]))

/-- A move to LOADED may report the end of the site beside. -/
theorem State.setSite_sameFields_end : s.SameFields (intrField Intr.SITE_END :: moveFields n) (s.setSite n st) := by
  obtain ⟨t, ht, heq⟩ := s.setSite_cases n st
  have hall : s.SameFields (intrField Intr.SITE_END :: moveFields n) t :=
    (State.set_state_sameFields (by simp [moveFields])).snoc (ht.mono (by simp +contextual [moveFields]))
  rw [heq]
  exact ite_kept (fun _ => hall.snoc ((State.intr_sameFields (by decide)).mono (by simp))) (fun _ => hall)

/-- R198: the site is in the state that it was moved to. -/
theorem State.siteState_setSite (hst : st < 8) : (s.setSite n st).siteState n = st := by
  obtain ⟨t, ht, heq⟩ := s.setSite_cases n st
  have hsame : (s.set (Reg.SQ_STAT.STATE n) st).SameFields [Reg.SQ_CNT.HOLDS n, intrField Intr.SITE_HELD, intrField Intr.SITE_END] (s.setSite n st) := by
    rw [heq]
    exact ite_kept (fun _ => (ht.mono (by simp +contextual)).snoc ((State.intr_sameFields (by decide)).mono (by simp)))
      (fun _ => ht.mono (by simp +contextual))
  refine (hsame.get ?_).trans (State.siteState_set hst)
  simp only [Fld.apart_cons, Fld.apart_nil, Reg.SQ_STAT.STATE, Reg.SQ_CNT.HOLDS, intrField]
  omega

/-- R466: the end of a site that was running, held or tripped is reported. -/
theorem State.setSite_end (h : s.siteState n = Site.RUNNING ∨ s.siteState n = Site.HELD ∨ s.siteState n = Site.TRIPPED) :
    (s.setSite n Site.LOADED).flag (intrField Intr.SITE_END) = true := by
  obtain ⟨t, -, heq⟩ := s.setSite_cases n Site.LOADED
  rw [heq, if_pos ⟨rfl, h⟩]
  exact State.intr_flag (by decide)

end Moves

/-! ### Holds and faults (R187, R200, R201) -/

section Holds
variable {s : State} {n cause : Nat}

/-- A sequencer that waits for nothing has nothing to stop. -/
theorem State.stopIssue_idle (h : (s.seq n).wait = .none) : s.stopIssue n = s := by
  simp only [State.stopIssue, h]

theorem State.get_lt (f : Fld) : s.get f < 2 ^ f.width := Nat.mod_lt _ (Nat.two_pow_pos _)

@[simp] theorem State.setSite_seq {m st : Nat} : (s.setSite n st).seq m = s.seq m := by rw [State.setSite_msixFrame]; rfl

/-- R200: the first cause takes a running site to HELD; the others stay. -/
theorem State.hold_running (h : s.siteState n = Site.RUNNING) :
    s.hold n cause = ((s.set (Reg.SQ_STAT.CAUSES n) (s.get (Reg.SQ_STAT.CAUSES n) ||| 2 ^ cause)).setSite n Site.HELD).stopIssue n := if_pos h

theorem State.hold_other (h : s.siteState n ≠ Site.RUNNING) :
    s.hold n cause = s.set (Reg.SQ_STAT.CAUSES n) (s.get (Reg.SQ_STAT.CAUSES n) ||| 2 ^ cause) := if_neg h

/-- The causes with one more, of the ten that there are. -/
theorem State.causes_set (hc : cause < 16) :
    (s.set (Reg.SQ_STAT.CAUSES n) (s.get (Reg.SQ_STAT.CAUSES n) ||| 2 ^ cause)).get (Reg.SQ_STAT.CAUSES n) = s.get (Reg.SQ_STAT.CAUSES n) ||| 2 ^ cause := by
  refine (State.get_set_same _ _ (Nat.le_of_ble_eq_true rfl) (Nat.le_of_ble_eq_true rfl)).trans (Nat.mod_eq_of_lt ?_)
  exact Nat.or_lt_two_pow (State.get_lt _) (Nat.pow_lt_pow_right (by decide) hc)

theorem State.set_causes_sameFields {v : Nat} {fs : List Fld} (h : Reg.SQ_STAT.CAUSES n ∈ fs) : s.SameFields fs (s.set (Reg.SQ_STAT.CAUSES n) v) :=
  State.SameFields.set _ _ (Nat.le_of_ble_eq_true rfl) (Nat.le_of_ble_eq_true rfl) h

end Holds

section Faults
variable {s t : State} {n code v reason : Nat}

theorem State.event_regs : (s.event n code v).regs = s.regs := rfl

theorem State.event_get (f : Fld) : (s.event n code v).get f = s.get f := rfl

theorem State.event_seq (m : Nat) : (s.event n code v).seq m = s.seq m := rfl

/-- R386: an event reads of its site the state and the PC. -/
theorem State.event_written (hstate : t.siteState n = s.siteState n) (hpc : t.pc n = s.pc n) (hnow : t.now = s.now) :
    s.Written (t.event n code v) n code v := by
  have hstmt : t.stmtOf n = s.stmtOf n := by
    simp only [State.stmtOf, hstate]
    rw [← State.pc, ← State.pc, hpc]
  have hflags : t.siteFlags n = s.siteFlags n := by simp only [State.siteFlags, hstate]
  unfold State.Written
  rw [← hstmt, ← hflags, ← hnow]
  exact mem_insertRec _ _

/-- R187: FAULT and FAULTED of a site tell the reason of a fault. -/
def State.faultTold (s : State) (n reason : Nat) : State := (s.set (Reg.SQ_STAT.FAULT n) reason).set (Reg.SQ_STAT.FAULTED n) 1

theorem State.faultTold_sameFields : s.SameFields [Reg.SQ_STAT.FAULT n, Reg.SQ_STAT.FAULTED n] (s.faultTold n reason) :=
  (State.SameFields.set _ _ (Nat.le_of_ble_eq_true rfl) (Nat.le_of_ble_eq_true rfl) (by simp)).snoc
    (State.SameFields.set _ _ (Nat.le_of_ble_eq_true rfl) (Nat.le_of_ble_eq_true rfl) (by simp))

theorem State.faultTold_fault (hr : reason < 2 ^ 8) : (s.faultTold n reason).get (Reg.SQ_STAT.FAULT n) = reason := by
  unfold State.faultTold
  rw [State.get_set_other _ _ _ (Nat.le_of_ble_eq_true rfl) (Nat.le_of_ble_eq_true rfl) (.inr (Nat.le_of_ble_eq_true rfl))]
  exact (State.get_set_same _ _ (Nat.le_of_ble_eq_true rfl) (Nat.le_of_ble_eq_true rfl)).trans (Nat.mod_eq_of_lt hr)

theorem State.faultTold_faulted : (s.faultTold n reason).flag (Reg.SQ_STAT.FAULTED n) = true := by
  have h : (s.faultTold n reason).get (Reg.SQ_STAT.FAULTED n) = 1 :=
    State.get_set_same _ _ (Nat.le_of_ble_eq_true rfl) (Nat.le_of_ble_eq_true rfl)
  rw [State.flag, h]
  rfl

/-- The state of a site whose statement has faulted, before what follows in its beat. -/
def State.faulted (s : State) (n reason : Nat) : State :=
  let t := (s.faultTold n reason).event n Ev.STMT_FAULT reason
  (t.set (Reg.SQ_STAT.CAUSES n) (t.get (Reg.SQ_STAT.CAUSES n) ||| 2 ^ Cause.FAULT)).setSite n Site.HELD

/-- R187: the fault of a statement that no verb executes. -/
theorem State.faultBy_statement {report : State → State} (h : ((report (s.faultTold n reason)).seq n).verb.running = false) :
    s.faultBy n reason report = ((report (s.faultTold n reason)).hold n Cause.FAULT).follow := by
  unfold State.faultTold at h ⊢
  simp only [State.faultBy, h, Bool.false_eq_true, if_false]

theorem State.fault_eq (hrun : s.siteState n = Site.RUNNING) (hwait : (s.seq n).wait = .none) (hverb : (s.seq n).verb.running = false)
    (hr : reason ≠ Reason.UNCORR) : s.fault n reason reason = (s.faulted n reason).follow := by
  have hstate : ((s.faultTold n reason).event n Ev.STMT_FAULT reason).siteState n = Site.RUNNING := by
    rw [State.siteState, State.event_get, State.faultTold_sameFields.get ?_]
    · exact hrun
    · simp [Fld.apart_cons, Fld.apart_nil, Reg.SQ_STAT.FAULT, Reg.SQ_STAT.FAULTED, Reg.SQ_STAT.STATE]
  have hseq : ((s.faultTold n reason).event n Ev.STMT_FAULT reason).seq n = s.seq n := State.event_seq n
  unfold State.fault
  simp only [if_neg hr]
  rw [State.faultBy_statement (by rw [hseq]; exact hverb), State.hold_running hstate,
    State.stopIssue_idle (by rw [State.setSite_seq, State.set_seq, hseq]; exact hwait), State.faulted]

/-- R187, R200: the hold after a fault changes none of what tells the fault. -/
theorem State.faulted_sameFields : (s.faultTold n reason).SameFields (Reg.SQ_STAT.CAUSES n :: moveFields n) (s.faulted n reason) := by
  have hevent : (s.faultTold n reason).SameFields [Reg.SQ_STAT.CAUSES n] ((s.faultTold n reason).event n Ev.STMT_FAULT reason) :=
    State.SameFields.of_regs State.event_regs
  exact ((hevent.snoc (State.set_causes_sameFields (by simp))).mono (by simp)).snoc
    ((State.setSite_sameFields (by decide)).mono (by simp +contextual))

theorem State.faulted_causes : (s.faulted n reason).get (Reg.SQ_STAT.CAUSES n) = s.get (Reg.SQ_STAT.CAUSES n) ||| 2 ^ Cause.FAULT := by
  unfold State.faulted
  rw [(State.setSite_sameFields (by decide)).get ?move, State.causes_set (by decide), State.event_get, State.faultTold_sameFields.get ?told]
  case move =>
    simp only [moveFields, Fld.apart_cons, Fld.apart_nil, Reg.SQ_STAT.STATE, Reg.SQ_STAT.CAUSES, Reg.SQ_CNT.HOLDS, intrField]
    omega
  case told => simp [Fld.apart_cons, Fld.apart_nil, Reg.SQ_STAT.FAULT, Reg.SQ_STAT.FAULTED, Reg.SQ_STAT.CAUSES]

theorem State.faulted_frame : s.faulted n reason =
    { s with regs := (s.faulted n reason).regs, pendRecs := (s.faulted n reason).pendRecs, msix := (s.faulted n reason).msix } := by
  unfold State.faulted
  rw [State.setSite_msixFrame]
  rfl

theorem State.faulted_pendRecs : (s.faulted n reason).pendRecs = ((s.faultTold n reason).event n Ev.STMT_FAULT reason).pendRecs := by
  unfold State.faulted
  rw [State.setSite_msixFrame]
  rfl

/-- R187: the fault of a statement of a running site. -/
theorem State.faulted_faults (hr : reason < 2 ^ 8) : s.Faults (s.faulted n reason) n reason := by
  have hfields := State.faulted_sameFields (s := s) (n := n) (reason := reason)
  have hall : s.SameFields (holdFields n) (s.faulted n reason) :=
    (State.faultTold_sameFields.mono (by simp +contextual [holdFields])).snoc
      (hfields.mono (by simp +contextual [holdFields, moveFields, intrField]))
  refine ⟨State.siteState_setSite (by decide), ?fault, ?faulted, State.faulted_causes, hall.get ?pc, ?written, hall, State.faulted_frame⟩
  case fault =>
    rw [hfields.get ?_, State.faultTold_fault hr]
    simp only [moveFields, Fld.apart_cons, Fld.apart_nil, Reg.SQ_STAT.FAULT, Reg.SQ_STAT.CAUSES, Reg.SQ_STAT.STATE, Reg.SQ_CNT.HOLDS, intrField]
    omega
  case faulted =>
    rw [hfields.flag ?_, State.faultTold_faulted]
    simp only [moveFields, Fld.apart_cons, Fld.apart_nil, Reg.SQ_STAT.FAULTED, Reg.SQ_STAT.CAUSES, Reg.SQ_STAT.STATE, Reg.SQ_CNT.HOLDS, intrField]
    omega
  case pc =>
    simp only [holdFields, Fld.apart_cons, Fld.apart_nil, Reg.SQ_STAT.FAULT, Reg.SQ_STAT.FAULTED, Reg.SQ_STAT.CAUSES, Reg.SQ_STAT.STATE,
      Reg.SQ_CNT.HOLDS, Reg.SQ_STAT.PC]
    omega
  case written =>
    unfold State.Written
    rw [State.faulted_pendRecs]
    refine State.event_written (State.faultTold_sameFields.get ?_) (State.faultTold_sameFields.get ?_) rfl
    · simp [Fld.apart_cons, Fld.apart_nil, Reg.SQ_STAT.FAULT, Reg.SQ_STAT.FAULTED, Reg.SQ_STAT.STATE]
    · simp [Fld.apart_cons, Fld.apart_nil, Reg.SQ_STAT.FAULT, Reg.SQ_STAT.FAULTED, Reg.SQ_STAT.PC]

end Faults
end Sys2Proof.Machine
end

section
/-! SUPPORT. The return of a site to LOADED (R23, R154, R200): what ends with it, and what is left. -/

namespace Sys2Proof.Machine

/-! ### Measurements of a site (R201, R298) -/

section Units
variable {s : State} {n : Nat}

/-- The measurements of the statements of site `n` are gone. -/
def State.dropUnits (s : State) (n : Nat) : State :=
  { s with
    pmuMeas := s.pmuMeas.filter (fun p => p.2.owner != some n)
    dpsMeas := s.dpsMeas.filter (fun p => p.2.owner != some n)
    tdcs := s.tdcs.filter (fun p => p.2.owner != some n)
    ltests := s.ltests.filter (fun p => p.2.owner != n) }

/-- R298: where no unit measures for the site no unit becomes free. -/
theorem State.cancelUnits_noUnits (h : s.NoUnits n) : s.cancelUnits n = s.dropUnits n := by
  obtain ⟨hpmu, htdc⟩ := h
  have h1 : s.pmuMeas.filter (fun p => p.2.owner == some n) = [] := List.filter_eq_nil_iff.2 (fun p hp => by simpa using hpmu p hp)
  have h2 : s.tdcs.filter (fun p => p.2.owner == some n) = [] := List.filter_eq_nil_iff.2 (fun p hp => by simpa using htdc p hp)
  simp only [State.cancelUnits, h1, h2, List.map_nil, State.forL_nil]
  rfl

theorem State.dropUnits_regs : (s.dropUnits n).regs = s.regs := rfl

end Units

/-! ### The frame buffer of a stream (R154) -/

/-- The fields that the release of a stream's allocation writes. -/
def bufferFields (x : Nat) : List Fld := [Reg.SO_STR_STAT.ALLOC x, Reg.SO_FB.USED_BLK, Reg.SO_FB.FREE_BLK]

section Buffer
variable {s : State} {x : Nat}

theorem State.releaseFb_sameFields : s.SameFields (bufferFields x) (s.releaseFb x) := by
  refine ite_kept (fun _ => ?_) (fun _ => State.SameFields.refl)
  exact ((State.SameFields.set (Reg.SO_STR_STAT.ALLOC x) _ (Nat.le_of_ble_eq_true rfl) (Nat.le_of_ble_eq_true rfl) (by simp [bufferFields])).snoc
    (State.SameFields.set _ _ (by decide) (by decide) (by simp [bufferFields]))).snoc
    (State.SameFields.set _ _ (by decide) (by decide) (by simp [bufferFields]))

theorem State.releaseFb_frame : s.releaseFb x = { s with regs := (s.releaseFb x).regs } := by
  unfold State.releaseFb
  split <;> rfl

end Buffer

/-! ### LOADED -/

/-- R23: the causes of a site, its stop and its token are cleared. -/
def State.settled (s : State) (n : Nat) : State := ((s.set (Reg.SQ_STAT.CAUSES n) 0).set (Reg.SQ_STAT.STOPPING n) 0).clearToken n

/-- The fields that this clears. -/
def settledFields (n : Nat) : List Fld := [Reg.SQ_STAT.CAUSES n, Reg.SQ_STAT.STOPPING n, Reg.SQ_STAT.TOKEN n, ⟨Reg.SQ_TOKEN.word n, 127, 0⟩]

/-- R154, R201: the units, the sequencer and the frame buffer of a site are given back. -/
def State.released (s : State) (n : Nat) : State :=
  let t := (s.cancelUnits n).setSeq n { Seq.init with failBase := (s.seq n).failBase, cmpStale := (s.seq n).cmpStale }
  t.releaseFb (t.streamOf n)

/-- R23: the state of a site that has returned to LOADED, before the leases and what follows in the beat. -/
def State.loaded (s : State) (n : Nat) : State := ((s.setSite n Site.LOADED).settled n).released n

theorem State.toLoaded_eq (s : State) (n : Nat) : s.toLoaded n = (s.loaded n).refreshLeases.follow := rfl

section Loaded
variable {s : State} {n : Nat}

theorem State.clearToken_sameFields : s.SameFields [Reg.SQ_STAT.TOKEN n, ⟨Reg.SQ_TOKEN.word n, 127, 0⟩] (s.clearToken n) :=
  (State.SameFields.setReg _ _ (by simp)).snoc (State.SameFields.set _ _ (Nat.le_of_ble_eq_true rfl) (Nat.le_of_ble_eq_true rfl) (by simp))

theorem State.clearToken_token : (s.clearToken n).get (Reg.SQ_STAT.TOKEN n) = 0 :=
  State.get_set_same _ _ (Nat.le_of_ble_eq_true rfl) (Nat.le_of_ble_eq_true rfl)

theorem State.settled_sameFields : s.SameFields (settledFields n) (s.settled n) :=
  ((State.set_causes_sameFields (by simp [settledFields])).snoc
    (State.SameFields.set (Reg.SQ_STAT.STOPPING n) _ (Nat.le_of_ble_eq_true rfl) (Nat.le_of_ble_eq_true rfl) (by simp [settledFields]))).snoc
    (State.clearToken_sameFields.mono (by simp +contextual [settledFields]))

theorem State.settled_frame : s.settled n = { s with regs := (s.settled n).regs } := rfl

theorem State.settled_token : (s.settled n).get (Reg.SQ_STAT.TOKEN n) = 0 := State.clearToken_token

theorem State.settled_stopping : (s.settled n).get (Reg.SQ_STAT.STOPPING n) = 0 := by
  unfold State.settled
  rw [State.clearToken_sameFields.get ?_]
  · exact State.get_set_same _ _ (Nat.le_of_ble_eq_true rfl) (Nat.le_of_ble_eq_true rfl)
  · simp [Fld.apart_cons, Fld.apart_nil, Reg.SQ_STAT.TOKEN, Reg.SQ_STAT.STOPPING, Reg.SQ_TOKEN.word]

theorem State.settled_causes : (s.settled n).get (Reg.SQ_STAT.CAUSES n) = 0 := by
  unfold State.settled
  rw [State.clearToken_sameFields.get ?_, State.get_set_other _ _ _ (Nat.le_of_ble_eq_true rfl) (Nat.le_of_ble_eq_true rfl) (.inr (Nat.le_of_ble_eq_true rfl))]
  · exact State.get_set_same _ _ (Nat.le_of_ble_eq_true rfl) (Nat.le_of_ble_eq_true rfl)
  · simp [Fld.apart_cons, Fld.apart_nil, Reg.SQ_STAT.TOKEN, Reg.SQ_STAT.CAUSES, Reg.SQ_TOKEN.word]

theorem State.released_eq (h : s.NoUnits n) : s.released n = ((s.dropUnits n).setSeq n
    { Seq.init with failBase := (s.seq n).failBase, cmpStale := (s.seq n).cmpStale }).releaseFb (s.streamOf n) := by
  unfold State.released
  rw [State.cancelUnits_noUnits h]
  rfl

theorem State.released_sameFields (h : s.NoUnits n) : s.SameFields (bufferFields (s.streamOf n)) (s.released n) := by
  rw [State.released_eq h]
  exact State.SameFields.snoc ((State.SameFields.of_regs State.dropUnits_regs).snoc (State.SameFields.of_regs (State.setSeq_regs _ _ _))) State.releaseFb_sameFields

theorem State.released_seq (h : s.NoUnits n) :
    (s.released n).seq n = { Seq.init with failBase := (s.seq n).failBase, cmpStale := (s.seq n).cmpStale } := by
  rw [State.released_eq h, State.releaseFb_frame]
  exact State.seq_setSeq_same

theorem State.released_mem (h : s.NoUnits n) : (s.released n).mem = s.mem := by
  rw [State.released_eq h, State.releaseFb_frame]
  rfl

theorem State.released_pendRecs (h : s.NoUnits n) : (s.released n).pendRecs = s.pendRecs := by
  rw [State.released_eq h, State.releaseFb_frame]
  rfl

/-- R154: the words below those of the streams are apart from what the release of an allocation writes. -/
theorem Fld.apart_bufferFields {f : Fld} {x : Nat} (hl : f.lo ≤ f.hi) (ha : f.addr < 0x040000) : f.Apart (bufferFields x) := by
  simp only [bufferFields, Fld.apart_cons, Fld.apart_nil, Reg.SO_STR_STAT.ALLOC, Reg.SO_FB.USED_BLK, Reg.SO_FB.FREE_BLK]
  omega

/-- The site in LOADED and settled, before its units, sequencer and frame buffer are given back. -/
def State.landed (s : State) (n : Nat) : State := (s.setSite n Site.LOADED).settled n

theorem State.landed_frame : s.landed n = { s with regs := (s.landed n).regs, msix := (s.landed n).msix } := by
  unfold State.landed
  rw [State.settled_frame, State.setSite_msixFrame]

theorem State.landed_noUnits (h : s.NoUnits n) : (s.landed n).NoUnits n := by
  rw [State.landed_frame]
  exact h

theorem State.landed_seq (m : Nat) : (s.landed n).seq m = s.seq m := by
  rw [State.landed_frame]
  rfl

theorem State.landed_siteState : (s.landed n).siteState n = Site.LOADED := by
  unfold State.landed
  rw [State.siteState, State.settled_sameFields.get ?_]
  · exact State.siteState_setSite (by decide)
  · simp [settledFields, Fld.apart_cons, Fld.apart_nil, Reg.SQ_STAT.STATE, Reg.SQ_STAT.CAUSES, Reg.SQ_STAT.STOPPING, Reg.SQ_STAT.TOKEN, Reg.SQ_TOKEN.word]

end Loaded

/-! What the site in LOADED reads. -/

section Reads
variable {s : State} {n : Nat} (h : s.NoUnits n) (hn : n < 64)
include h

theorem State.loaded_fields : (s.landed n).SameFields (bufferFields ((s.landed n).streamOf n)) (s.loaded n) :=
  State.released_sameFields (State.landed_noUnits h)

theorem State.loaded_seq : (s.loaded n).seq n = { Seq.init with failBase := (s.seq n).failBase, cmpStale := (s.seq n).cmpStale } := by
  have hseq := State.released_seq (State.landed_noUnits h)
  rw [State.landed_seq] at hseq
  exact hseq

theorem State.loaded_mem : (s.loaded n).mem = s.mem := by
  have hland : (s.landed n).mem = s.mem := by rw [State.landed_frame]
  exact (State.released_mem (State.landed_noUnits h)).trans hland

theorem State.loaded_pendRecs : (s.loaded n).pendRecs = s.pendRecs := by
  have hland : (s.landed n).pendRecs = s.pendRecs := by rw [State.landed_frame]
  exact (State.released_pendRecs (State.landed_noUnits h)).trans hland

include hn

/-- A field of the site's own status reads as it does before its units are given back. -/
theorem State.loaded_get_stat (hi lo : Nat) (hl : lo ≤ hi) : (s.loaded n).get ⟨Reg.SQ_STAT.word n, hi, lo⟩ = (s.landed n).get ⟨Reg.SQ_STAT.word n, hi, lo⟩ :=
  (State.loaded_fields h).get (Fld.apart_bufferFields hl (by simp only [Reg.SQ_STAT.word]; omega))

theorem State.loaded_siteState : (s.loaded n).siteState n = Site.LOADED :=
  (State.loaded_get_stat h hn 2 0 (by decide)).trans State.landed_siteState

theorem State.loaded_causes : (s.loaded n).get (Reg.SQ_STAT.CAUSES n) = 0 :=
  (State.loaded_get_stat h hn 47 32 (by decide)).trans State.settled_causes

theorem State.loaded_token : (s.loaded n).flag (Reg.SQ_STAT.TOKEN n) = false := by
  have hget := (State.loaded_get_stat h hn 7 7 (by decide)).trans State.settled_token
  exact decide_eq_false (not_not.2 hget)

theorem State.loaded_stopping : (s.loaded n).flag (Reg.SQ_STAT.STOPPING n) = false := by
  have hget := (State.loaded_get_stat h hn 6 6 (by decide)).trans State.settled_stopping
  exact decide_eq_false (not_not.2 hget)

/-- R23: the X registers stay. -/
theorem State.loaded_getX {k : Nat} (hk : k < 32) : (s.loaded n).getX n k = s.getX n k := by
  have hx : Reg.SQ_XREG.word n k < 0x040000 := by simp only [Reg.SQ_XREG.word]; omega
  rw [(State.loaded_fields h).getX ?buffer, State.landed, State.settled_sameFields.getX ?settled, State.setSite_sameFields_end.getX ?move]
  case buffer =>
    simp only [bufferFields, List.forall_mem_cons, Reg.SO_STR_STAT.ALLOC, Reg.SO_FB.USED_BLK, Reg.SO_FB.FREE_BLK, List.not_mem_nil, false_imp_iff,
      implies_true, and_true]
    omega
  case settled =>
    simp only [settledFields, List.forall_mem_cons, Reg.SQ_XREG.word, Reg.SQ_STAT.CAUSES, Reg.SQ_STAT.STOPPING, Reg.SQ_STAT.TOKEN, Reg.SQ_TOKEN.word,
      List.not_mem_nil, false_imp_iff, implies_true, and_true]
    omega
  case move =>
    simp only [moveFields, List.forall_mem_cons, Reg.SQ_XREG.word, Reg.SQ_STAT.STATE, Reg.SQ_CNT.HOLDS, intrField, List.not_mem_nil, false_imp_iff,
      implies_true, and_true]
    omega

omit hn in
/-- R466: the end of a running site is reported. -/
theorem State.loaded_end (hrun : s.siteState n = Site.RUNNING ∨ s.siteState n = Site.HELD ∨ s.siteState n = Site.TRIPPED) :
    (s.loaded n).flag (intrField Intr.SITE_END) = true := by
  rw [(State.loaded_fields h).flag (Fld.apart_bufferFields le_rfl (by decide)), State.landed, State.settled_sameFields.flag ?_]
  · exact State.setSite_end hrun
  · simp only [settledFields, Fld.apart_cons, Fld.apart_nil, intrField, Reg.SQ_STAT.CAUSES, Reg.SQ_STAT.STOPPING, Reg.SQ_STAT.TOKEN, Reg.SQ_TOKEN.word]
    omega

end Reads
end Sys2Proof.Machine
end

section
/-! SUPPORT. The statements that wait, and the end of a program, in each of their cases. -/

namespace Sys2Proof.Machine

section Waiting
variable {s : State} {n m : Nat} {i : Stmt} {w : Wait}

theorem State.setWait_regs : (s.setWait n w).regs = s.regs := rfl

theorem State.setWait_pc : (s.setWait n w).pc m = s.pc m := rfl

theorem State.seq_setWait_other (h : m ≠ n) : (s.setWait n w).seq m = s.seq m := State.seq_setSeq_other h

@[simp] theorem State.retire_seq : (s.retire n).seq m = s.seq m := rfl

theorem State.bumpFree_pc : s.bumpFree.pc n = s.pc n := rfl

theorem State.bumpFree_getX (k : Nat) : s.bumpFree.getX n k = s.getX n k := rfl

theorem State.bumpFree_seq : s.bumpFree.seq m = s.seq m := rfl

theorem State.WaitFrame.retire {t : State} (h : s.WaitFrame t) (n : Nat) : s.WaitFrame (t.retire n) := h.set (Reg.SQ_STAT.PC n) _

theorem State.pc_mod : s.pc n % 2 ^ 20 = s.pc n := Nat.mod_eq_of_lt (State.get_lt (Reg.SQ_STAT.PC n))

theorem State.ended_seq {k st : Nat} {v : Word} : (s.ended n k v st).seq m = s.seq m := by rw [State.ended_frame]; rfl

/-- R179: a statement that has issued and waits keeps its place. -/
theorem State.Issues.moved_wait (h : s.Issues n i) (w : Wait) : s.Moved ((s.began n i.op).setWait n w) n (s.pc n) [] :=
  h.moved (State.SameFields.of_regs State.setWait_regs) (Fld.apart_nil.2 (Nat.le_of_ble_eq_true rfl)) (Fld.apart_nil.2 (Nat.le_of_ble_eq_true rfl))
    (by rw [State.setWait_pc, State.began_pc, State.pc_mod])

/-- A statement that has issued and retires at once goes to the next place. -/
theorem State.Issues.moved_retire (h : s.Issues n i) (w : Wait) : s.Moved ((((s.began n i.op).setWait n w).setWait n .none).retire n) n (s.pc n + 1) [] :=
  h.moved (State.SameFields.snoc ((State.SameFields.of_regs State.setWait_regs).snoc (State.SameFields.of_regs State.setWait_regs)) State.retire_sameFields)
    (Fld.apart_nil.2 (Nat.le_of_ble_eq_true rfl)) (Fld.apart_nil.2 (Nat.le_of_ble_eq_true rfl))
    (by rw [State.pc_retire, State.setWait_pc, State.setWait_pc, State.began_pc])

/-- A statement that has issued and ends with a value and a status goes to the next place. -/
theorem State.Issues.moved_ended (h : s.Issues n i) (w : Wait) {k st : Nat} (hk : k < 32) (v : Word) :
    s.Moved (((((s.began n i.op).setWait n w).setWait n .none).ended n k v st).bumpFree) n (s.pc n + 1) (Reg.SQ_STAT.ST n :: xFields n k) := by
  have hsame : (s.began n i.op).SameFields (Reg.SQ_STAT.PC n :: Reg.SQ_STAT.ST n :: xFields n k)
      (((((s.began n i.op).setWait n w).setWait n .none).ended n k v st).bumpFree) :=
    (State.SameFields.snoc ((State.SameFields.of_regs State.setWait_regs).snoc (State.SameFields.of_regs State.setWait_regs)) State.ended_sameFields).snoc
      (State.SameFields.of_regs (State.bumpFree_regs _))
  refine h.moved hsame (Fld.apart_cons.2 ⟨?_, Fld.apart_xFields (Nat.le_of_ble_eq_true rfl) hk ?_⟩)
    (Fld.apart_cons.2 ⟨?_, Fld.apart_xFields (Nat.le_of_ble_eq_true rfl) hk ?_⟩) ?_
  · simp [Reg.SQ_STAT.OP, Reg.SQ_STAT.ST]
  · simp only [Reg.SQ_STAT.OP]; omega
  · simp [Reg.SQ_CNT.ISSUED, Reg.SQ_STAT.ST]
  · simp only [Reg.SQ_CNT.ISSUED]; omega
  · rw [State.bumpFree_pc, State.ended_pc hk, State.setWait_pc, State.setWait_pc, State.began_pc]

/-- R189: the beat of a timeout that a statement asks for as it issues. -/
theorem State.began_timeoutBeat {op t : Nat} : (s.began n op).timeoutBeat t = if t = 0 then 0 else s.now + t := by
  rw [State.timeoutBeat, State.began_now]

/-- R189: the target of WAITF is the low 48 bits of its operand. -/
theorem State.Issues.followTarget (h : s.Issues n i) (hn : n < 64) : wget ((s.began n i.op).opA n i) 47 0 = (s.getX n i.xa).toNat % 2 ^ 48 := by
  obtain ⟨-, -, hxa⟩ := h.bounds
  rw [State.opA, State.began_getX hn hxa]
  simp only [wget, bitsOf, Nat.shiftRight_zero]

/-- R189, R194: a wait that its timeout ends leaves 0 and TIMEOUT. -/
def State.timedOut (s : State) (n xd : Nat) : State := (s.setWait n .none).ended n xd 0 St.TIMEOUT

theorem State.timedOut_leaves {xd : Nat} (hxd : xd < 32) :
    (s.timedOut n xd).getX n xd = 0 ∧ (s.timedOut n xd).get (Reg.SQ_STAT.ST n) = St.TIMEOUT ∧ (s.timedOut n xd).pc n = (s.pc n + 1) % 2 ^ 20 ∧
    (s.timedOut n xd).seq n = { s.seq n with wait := .none } ∧
    s.SameFields (Reg.SQ_STAT.PC n :: Reg.SQ_STAT.ST n :: xFields n xd) (s.timedOut n xd) ∧
    s.timedOut n xd = { s with regs := (s.timedOut n xd).regs, seqs := (s.timedOut n xd).seqs } := by
  unfold State.timedOut
  refine ⟨?_, State.ended_st (by decide), State.ended_pc hxd, State.ended_seq.trans State.seq_setWait,
    State.SameFields.snoc (State.SameFields.of_regs State.setWait_regs) State.ended_sameFields, ?_⟩
  · rw [State.ended_getX hxd, ite_self]
  · rw [State.ended_frame]
    rfl

end Waiting

section
variable {s : State} {n : Fin 64} {i : Stmt}

/-- R235: the clause of an open slot ends and the seat of its site is empty. -/
theorem State.discardOpen_seat (s : State) (n : Nat) : ((s.discardOpen n).seq n).clause = none := by
  unfold State.discardOpen
  split
  next h => exact h
  next => rw [State.setOpen, State.set_seq, State.seq_setSeq_same]

theorem State.discardOpen_none {n : Nat} (h : (s.seq n).clause = none) : s.discardOpen n = s := by
  simp only [State.discardOpen, h]

theorem State.endComplete_due (hw : (s.seq n).wait = .finish) (hrun : s.siteState n = Site.RUNNING) (hstop : s.flag (Reg.SQ_STAT.STOPPING n) = false)
    (hsus : (s.seq n).suspended = false) (hp : s.patternHolds n = true) : s.endComplete n = s.toLoaded n := by
  simp only [State.endComplete, hw, hrun, hstop, hsus, hp]
  rfl

end

/-! ### The rows -/

section Rows
variable (s : State) (n : Fin 64)

theorem exec_stmtWaitb : exec (.stmtWaitb n) s = .next (s.issue n [0x20] noBad (fun i t => t.waitBeat n (t.waitbTarget n i))) := rfl

theorem exec_waitbTarget : exec (.waitbTarget n) s = .next (s.beatTarget n) := rfl

theorem exec_stmtWaitf : exec (.stmtWaitf n) s = .next (s.issue n [0x21] (fun _ t => t.followOff n)
    (fun i t => t.waitFollow n i.xd (wget (t.opA n i) 47 0) (t.timeoutBeat (i.imm % 2 ^ 32)))) := rfl

theorem exec_waitfTimeout : exec (.waitfTimeout n) s = .next (s.followTimeout n) := rfl

theorem exec_stmtWaitp : exec (.stmtWaitp n) s =
    .next (s.issue n [0x22] noBad (fun i t => t.setWait n (.pattern i.xd (t.timeoutBeat (i.imm % 2 ^ 32)) (bitOf i.aux 0)))) := rfl

theorem exec_waitpComplete : exec (.waitpComplete n) s = .next (s.patternDone n) := rfl

theorem exec_waitpTimeout : exec (.waitpTimeout n) s = .next (s.patternTimeout n) := rfl

theorem exec_stmtEnd : exec (.stmtEnd n) s = .next (s.issue n [0x01] noBad (fun _ t => (t.discardOpen n).setWait n .finish)) := rfl

theorem exec_endComplete : exec (.endComplete n) s = .next (s.endComplete n) := rfl

end Rows

/-- Settles O15: a statement that issues waits or ends, and each wait ends with the value and the status that its event gives; the fault and the return
to LOADED are those of every site. -/
theorem waitStatements : Obligations.WaitStatements := by
  unfold Obligations.WaitStatements
  refine ⟨fun s n i g h hop hg => ?waitb, fun s n g hw hc hv hg => ?target, fun s n i g c h hop hg hc => ⟨fun hoff => ?off, fun hon hlt => ?ahead,
    fun hon heq => ?hit⟩, fun s n xd g d hxd hw hc hv hd hdue => ?timeout, fun s n i h hop => ?waitp, fun s n xd d k rec hxd hw hc hv hp hk => ?complete,
    fun s n xd d rec hxd hw hc hv hp hd hdue => ?late, fun s n i h hop hcl => ?finish, fun s n i h hop => ?discard,
    fun s n hw hrun hstop hsus hp hx hpmu htdc => ?ended⟩
  case waitb =>
    obtain ⟨-, hwait, hverb⟩ := h.idle
    have hrun : exec (.stmtWaitb n) s = .next ((s.began n i.op).waitBeat n g) := by
      have htarget : (s.began n i.op).waitbTarget n i = g := (State.began_waitbTarget h n.isLt).trans (State.waitbTarget_eq.trans hg.symm)
      rw [exec_stmtWaitb, h.runs (List.mem_singleton.2 hop) rfl, htarget]
    by_cases hle : g ≤ s.now
    · rw [State.waitBeat_reached (by rw [State.began_seq]; exact hverb) (by rw [State.began_now]; exact hle)] at hrun
      refine ⟨_, hrun, ?_, ?_, fun m hm => ?_, ((State.began_waitFrame.setWait _ _).setWait _ _).retire _⟩
      · rw [if_pos hle]
        exact h.moved_retire _
      · rw [if_pos hle, State.retire_seq, State.seq_setWait, State.seq_setWait, State.began_seq]
        exact Seq.wait_none hwait
      · rw [State.retire_seq, State.seq_setWait_other hm, State.seq_setWait_other hm, State.began_seq]
    · rw [State.waitBeat_ahead (by rw [State.began_now]; exact hle)] at hrun
      refine ⟨_, hrun, ?_, ?_, fun m hm => ?_, State.began_waitFrame.setWait _ _⟩
      · rw [if_neg hle]
        exact h.moved_wait _
      · rw [if_neg hle, State.seq_setWait, State.began_seq]
      · rw [State.seq_setWait_other hm, State.began_seq]
  case target =>
    refine ⟨(s.setWait n .none).retire n, by rw [exec_waitbTarget, State.beatTarget_due hw hc hv hg], State.pc_retire, State.seq_setWait,
      State.SameFields.snoc (State.SameFields.of_regs State.setWait_regs) State.retire_sameFields, rfl⟩
  case off =>
    obtain ⟨hstate, hwait, hverb⟩ := h.idle
    have hbad : s.followOff n = some (Reason.OPERAND, Reason.OPERAND) := by simp [State.followOff, hoff, operandBad]
    exact ⟨_, by rw [exec_stmtWaitf, h.faults (List.mem_singleton.2 hop) hbad, State.fault_eq hstate hwait hverb (by decide)],
      State.faulted_faults (by decide)⟩
  case ahead =>
    have hcount : (s.began n i.op).get (Reg.TB_FOLLOW_CNT.COUNT n) = c := (State.began_followCnt n.isLt (by decide)).trans hc.symm
    have hahead : reached ((s.began n i.op).get (Reg.TB_FOLLOW_CNT.COUNT n)) g = false := by
      rw [hcount]
      exact reached_eq_false (hg ▸ Nat.mod_lt _ (by decide)) hlt
    have hbad : s.followOff n = none := by simp [State.followOff, hon, operandBad]
    refine ⟨_, by rw [exec_stmtWaitf, h.runs (List.mem_singleton.2 hop) hbad, h.followTarget n.isLt, ← hg, State.waitFollow_ahead hahead,
      State.began_timeoutBeat], h.moved_wait _, ?_, State.began_waitFrame.setWait _ _⟩
    rw [State.seq_setWait]
  case hit =>
    obtain ⟨-, hwait, hverb⟩ := h.idle
    obtain ⟨-, hxd, -⟩ := h.bounds
    have hcount : (s.began n i.op).get (Reg.TB_FOLLOW_CNT.COUNT n) = g := ((State.began_followCnt n.isLt (by decide)).trans hc.symm).trans heq
    have hlast : (s.began n i.op).get (Reg.TB_FOLLOW_CNT.LAST_EDGE n) = s.get (Reg.TB_FOLLOW_CNT.LAST_EDGE n) :=
      State.began_followCnt n.isLt (by decide)
    have hbad : s.followOff n = none := by simp [State.followOff, hon, operandBad]
    refine ⟨_, by rw [exec_stmtWaitf, h.runs (List.mem_singleton.2 hop) hbad, h.followTarget n.isLt, ← hg,
      State.waitFollow_match (by rw [State.began_seq]; exact hverb) (hg ▸ Nat.mod_lt _ (by decide)) hcount, hlast], ?_, ?_, h.moved_ended _ hxd _, ?_⟩
    · rw [State.bumpFree_getX, State.ended_getX hxd]
    · rw [State.bumpFree_get, State.ended_st (by decide)]
    · rw [State.bumpFree_seq, State.ended_seq, State.seq_setWait, State.seq_setWait, State.began_seq]
      exact Seq.wait_none hwait
  case timeout =>
    exact ⟨s.timedOut n xd, by rw [exec_waitfTimeout, State.followTimeout_due hw hc hv hd hdue, State.timedOut], State.timedOut_leaves hxd⟩
  case waitp =>
    refine ⟨_, by rw [exec_stmtWaitp, h.runs (List.mem_singleton.2 hop) rfl, State.began_timeoutBeat], h.moved_wait _, ?_,
      State.began_waitFrame.setWait _ _⟩
    rw [State.seq_setWait, State.began_seq]
  case complete =>
    subst hk
    have hst : (if (s.seq n).failBase = 0 then St.OK else St.FAIL) < 2 ^ 8 := by split <;> decide
    have hpend : (((s.passFail n rec).setWait n .none).ended n xd (BitVec.ofNat 128 ((s.seq n).failBase % 2 ^ 48))
        (if (s.seq n).failBase = 0 then St.OK else St.FAIL)).pendRecs = (s.passFail n rec).pendRecs := by
      rw [State.ended_frame]
      rfl
    refine ⟨_, by rw [exec_waitpComplete, State.patternDone_due hw hc hv hp], State.ended_getX hxd, State.ended_st hst, ?_, ?_, fun hrec => ?_,
      fun hrec => ⟨s.passFailFlags n ||| s.siteFlags n, ?_, State.passFailFlags_fail⟩, ?_, ?_⟩
    · rw [State.ended_pc hxd, State.setWait_pc]
      exact congrArg (fun x => (x + 1) % 2 ^ 20) (State.passFail_sameFields.get (by simp [Fld.apart_cons, Fld.apart_nil, Reg.SQ_STAT.PC, Reg.SQ_CNT.RECORDS]))
    · rw [State.ended_seq, State.seq_setWait, State.passFail_seq]
    · rw [hpend, hrec]
      rfl
    · unfold State.Records
      rw [hpend, hrec]
      exact State.passFail_records
    · exact State.SameFields.snoc ((State.passFail_sameFields.mono (by simp)).snoc (State.SameFields.of_regs State.setWait_regs))
        (State.ended_sameFields.mono (by simp +contextual))
    · rw [State.ended_frame, State.passFail_frame]
      rfl
  case late =>
    exact ⟨s.timedOut n xd, by rw [exec_waitpTimeout, State.patternTimeout_due hw hc hv hp hd hdue, State.timedOut], State.timedOut_leaves hxd⟩
  case finish =>
    have hnone : (s.began n i.op).discardOpen n = s.began n i.op := State.discardOpen_none (by rw [State.began_seq]; exact hcl)
    refine ⟨_, by rw [exec_stmtEnd, h.runs (List.mem_singleton.2 hop) rfl, hnone], h.moved_wait _, ?_, State.began_waitFrame.setWait _ _⟩
    rw [State.seq_setWait, State.began_seq]
  case discard =>
    refine ⟨_, by rw [exec_stmtEnd, h.runs (List.mem_singleton.2 hop) rfl], ?_, ?_⟩
    · rw [State.seq_setWait]
    · rw [State.seq_setWait]
      exact State.discardOpen_seat _ _
  case ended =>
    have hfree : s.NoUnits n := ⟨hpmu, htdc⟩
    have hseq := State.loaded_seq hfree
    refine ⟨s.loaded n, by rw [exec_endComplete, State.endComplete_due hw hrun hstop hsus hp, State.toLoaded_eq], State.loaded_siteState hfree n.isLt,
      State.loaded_causes hfree n.isLt, State.loaded_token hfree n.isLt, by rw [hseq]; rfl, by rw [hseq]; rfl,
      fun k hk => State.loaded_getX hfree n.isLt hk, State.loaded_end hfree (.inl hrun), State.loaded_mem hfree⟩

end Sys2Proof.Machine
end

section
/-! SUPPORT. The host's commands to a site (R198 to R203, R538). -/

namespace Sys2Proof.Machine

/-! ### A rejected command -/

section Rejected
variable {s t : State} {n : Fin 64}

/-- R199: no site, no sequencer and no byte of pattern memory has changed. -/
def State.SitesStay (s t : State) : Prop := (∀ m : Fin 64, t.siteState m = s.siteState m) ∧ t.seqs = s.seqs ∧ t.mem = s.mem

theorem State.reject_sitesStay (s : State) (p : Port) (a src code idx : Nat) : s.SitesStay (s.reject p a src code idx) := by
  have hout : ∀ m : Fin 64, (Reg.SQ_STAT.STATE m).addr ∉ reportWords := by decide
  refine ⟨fun m => (s.reject_sameWords p a src code idx).get (hout m), ?_, ?_⟩
  · rw [s.reject_frame p a]
  · rw [s.reject_frame p a]

end Rejected

/-! ### ARM (R538) -/

section Arm
variable {s : State} {n c d x : Nat}

/-- Pattern memory and the streams, which the end of a measurement leaves alone. -/
def State.memStreams (s : State) : List Host.Cell × List (Nat × Stream) := (s.mem, s.streams)

theorem State.pmuCancel_memStreams : (s.pmuCancel c).memStreams = s.memStreams := by
  unfold State.pmuCancel
  split
  · split <;> rfl
  · rfl

theorem State.tdcCancel_memStreams : (s.tdcCancel c).memStreams = s.memStreams := by
  unfold State.tdcCancel
  split
  · split <;> rfl
  · rfl

theorem State.dpsCancel_memStreams : (s.dpsCancel d).memStreams = s.memStreams := by
  unfold State.dpsCancel
  split
  · split <;> rfl
  · rfl

theorem State.cancelHost_memStreams : (s.cancelHost n).memStreams = s.memStreams := by
  unfold State.cancelHost
  rw [State.forL_keeps State.memStreams _ _ (fun d _ t => State.dpsCancel_memStreams),
    State.forL_keeps State.memStreams _ _ (fun c _ t => State.tdcCancel_memStreams.trans State.pmuCancel_memStreams)]

theorem State.allocFb_memStreams : (s.allocFb x).memStreams = s.memStreams := by
  unfold State.allocFb
  split <;> rfl

theorem State.setSite_memStreams {st : Nat} : (s.setSite n st).memStreams = s.memStreams := by
  rw [State.setSite_msixFrame]
  rfl

/-- R21, R538: the state of an armed site, before the leases. -/
def State.armed (s : State) (n : Nat) : State :=
  (((s.allocFb (s.streamOf n)).setSeq n { s.seq n with region := s.regionOf 1 (s.get (Reg.SQ_CTRL.BASE n) + 16 * s.get (Reg.SQ_CTRL.ENTRY n)) 16 }).cancelHost
    n).setSite n Site.ARMED

theorem State.arm_none {p : Port} (h : s.armRefusal n = none) : s.arm p n = (s.armed n).refreshLeases := by
  simp only [State.arm, h]
  rfl

theorem State.arm_some {p : Port} (h : s.armRefusal n = some c) : s.arm p n = s.reject p (Reg.SQ_CMD.word n) Src.SQ c n := by
  simp only [State.arm, h]

theorem State.armed_memStreams : (s.armed n).memStreams = s.memStreams := by
  unfold State.armed
  rw [State.setSite_memStreams, State.cancelHost_memStreams]
  exact State.allocFb_memStreams

/-- A test that refuses has not refused: its condition fails, and the tests after it do not refuse. -/
theorem none_of_test {a : Nat} {p : Prop} [Decidable p] {rest : Option Nat} (h : (if p then some a else rest) = none) : ¬ p ∧ rest = none := by
  split at h
  next => cases h
  next hp => exact ⟨hp, h⟩

/-- R538: what holds of a site that can be armed. -/
theorem State.armRefusal_none (h : s.armRefusal n = none) : s.siteState n = Site.LOADED ∧ (s.mode = Mode.CONTACT ∨ s.mode = Mode.RUN) ∧
    s.contact = none ∧ s.get Reg.LX_VEND.STATE = 2 ∧ s.get (Reg.SQ_CTRL.BASE n) + 16 * s.get (Reg.SQ_CTRL.ENTRY n) < pmSize := by
  obtain ⟨hstate, h⟩ := none_of_test h
  obtain ⟨-, h⟩ := none_of_test h
  obtain ⟨hcontact, h⟩ := none_of_test h
  obtain ⟨hstart, h⟩ := none_of_test h
  obtain ⟨hvendor, -⟩ := none_of_test h
  simp only [not_or, not_not, not_and_or] at hstate
  simp only [not_or, not_le] at hstart
  exact ⟨hstate.1, hstate.2, by simpa using hcontact, not_not.1 hvendor, hstart.2⟩

end Arm

/-! ### HOLD (R199 to R201) -/

section Hold
variable {s : State} {n cause : Nat}

/-- The fields of the token of a site. -/
def tokenFields (n : Nat) : List Fld := [Reg.SQ_STAT.TOKEN n, ⟨Reg.SQ_TOKEN.word n, 127, 0⟩]

theorem State.storeToken_eq {mwa : Nat} : ∃ w, s.storeToken n mwa = (s.setReg (Reg.SQ_TOKEN.word n) w).set (Reg.SQ_STAT.TOKEN n) 1 := by
  unfold State.storeToken
  exact ⟨_, rfl⟩

/-- R201: the token of a statement stopped in place. -/
def State.suspend (s : State) (n : Nat) : State := (s.storeToken n (s.freeVal.toNat % 65536)).bumpFree

theorem State.SameFields.bumpFree {t : State} {fs : List Fld} (h : s.SameFields fs t) : s.SameFields fs t.bumpFree :=
  h.snoc (State.SameFields.of_regs (State.bumpFree_regs t))

theorem State.SameFields.setSeq {t : State} {fs : List Fld} {m : Nat} {q : Seq} (h : s.SameFields fs t) : s.SameFields fs (t.setSeq m q) :=
  h.snoc (State.SameFields.of_regs (State.setSeq_regs t m q))

theorem State.SameFields.dropUnits {t : State} {fs : List Fld} {m : Nat} (h : s.SameFields fs t) : s.SameFields fs (t.dropUnits m) :=
  h.snoc (State.SameFields.of_regs State.dropUnits_regs)

theorem State.dropUnits_mem : (s.dropUnits n).mem = s.mem := rfl

/-- The token and the count of microwords are all that changes. -/
theorem State.suspend_eq : ∃ w, s.suspend n = ((s.setReg (Reg.SQ_TOKEN.word n) w).set (Reg.SQ_STAT.TOKEN n) 1).bumpFree := by
  unfold State.suspend
  obtain ⟨w, hw⟩ := State.storeToken_eq (s := s) (n := n) (mwa := s.freeVal.toNat % 65536)
  exact ⟨w, congrArg State.bumpFree hw⟩

theorem State.suspend_sameFields : s.SameFields (tokenFields n) (s.suspend n) := by
  obtain ⟨w, hw⟩ := State.suspend_eq (s := s) (n := n)
  rw [hw]
  exact ((State.SameFields.setReg _ _ (by simp [tokenFields])).snoc
    (State.SameFields.set _ _ (Nat.le_of_ble_eq_true rfl) (Nat.le_of_ble_eq_true rfl) (by simp [tokenFields]))).bumpFree

theorem State.suspend_noUnits (h : s.NoUnits n) : (s.suspend n).NoUnits n := by
  obtain ⟨w, hw⟩ := State.suspend_eq (s := s) (n := n)
  rw [hw]
  exact h

theorem State.suspend_mem : (s.suspend n).mem = s.mem := by
  obtain ⟨w, hw⟩ := State.suspend_eq (s := s) (n := n)
  rw [hw]
  rfl

/-- R201: a site that leaves RUNNING stays where it is, or its statement leaves a token and its units. -/
theorem State.stopIssue_cases (s : State) (n : Nat) :
    s.stopIssue n = s ∨ (∃ q, s.stopIssue n = ((s.suspend n).cancelUnits n).setSeq n q) ∨ ∃ q, s.stopIssue n = (s.suspend n).setSeq n q := by
  unfold State.stopIssue State.suspend
  dsimp only
  split
  · exact .inl rfl
  · split
    · exact .inl rfl
    · exact .inr (.inl ⟨_, rfl⟩)
  · split
    · exact .inl rfl
    · exact .inr (.inr ⟨_, rfl⟩)

/-- R201: what the sequencer does when its site leaves RUNNING changes the token alone, and no byte of pattern memory. -/
theorem State.stopIssue_fields (h : s.NoUnits n) : s.SameFields (tokenFields n) (s.stopIssue n) ∧ (s.stopIssue n).mem = s.mem := by
  obtain hstay | ⟨q, hunits⟩ | ⟨q, hwait⟩ := s.stopIssue_cases n
  · rw [hstay]
    exact ⟨State.SameFields.refl, rfl⟩
  · rw [hunits, State.cancelUnits_noUnits (State.suspend_noUnits h)]
    exact ⟨State.suspend_sameFields.dropUnits.setSeq, (State.setSeq_mem _ _ _).trans (State.dropUnits_mem.trans State.suspend_mem)⟩
  · rw [hwait]
    exact ⟨State.suspend_sameFields.setSeq, (State.setSeq_mem _ _ _).trans State.suspend_mem⟩

end Hold
end Sys2Proof.Machine
end

section
/-! SUPPORT. The host's commands to a site, one by one (R198 to R203, R538). -/

namespace Sys2Proof.Machine

/-! ### HOLD (R199) -/

section HostHold
variable {s : State} {n cause : Nat}

/-- The fields that a hold may write. -/
def heldFields (n : Nat) : List Fld := Reg.SQ_STAT.CAUSES n :: (moveFields n ++ tokenFields n)

theorem State.setSite_noUnits {st : Nat} (h : s.NoUnits n) : (s.setSite n st).NoUnits n := by
  rw [State.setSite_msixFrame]
  exact h

theorem State.setSite_mem {st : Nat} : (s.setSite n st).mem = s.mem := by
  rw [State.setSite_msixFrame]

/-- The fields of a site's status that a move to a state leaves. -/
theorem State.setSite_get_stat {st hi lo : Nat} (hst : st ≠ Site.LOADED) (hl : lo ≤ hi) (h2 : 2 < lo) :
    (s.setSite n st).get ⟨Reg.SQ_STAT.word n, hi, lo⟩ = s.get ⟨Reg.SQ_STAT.word n, hi, lo⟩ := by
  refine (State.setSite_sameFields hst).get ?_
  simp only [moveFields, Fld.apart_cons, Fld.apart_nil, Reg.SQ_STAT.word, Reg.SQ_STAT.STATE, Reg.SQ_CNT.HOLDS, intrField]
  omega

/-- The fields of a site's status that lie apart from its token. -/
theorem apart_tokenFields {hi lo : Nat} (hl : lo ≤ hi) (h7 : hi < 7 ∨ 7 < lo) : Fld.Apart ⟨Reg.SQ_STAT.word n, hi, lo⟩ (tokenFields n) := by
  simp only [tokenFields, Fld.apart_cons, Fld.apart_nil, Reg.SQ_STAT.word, Reg.SQ_STAT.TOKEN, Reg.SQ_TOKEN.word]
  omega

/-- R200: a RUNNING or HELD site is HELD under one more cause. -/
theorem State.hold_held (hlive : s.siteState n = Site.RUNNING ∨ s.siteState n = Site.HELD) (hc : cause < 16) (h : s.NoUnits n) :
    s.SameFields (heldFields n) (s.hold n cause) ∧ (s.hold n cause).siteState n = Site.HELD ∧
      (s.hold n cause).get (Reg.SQ_STAT.CAUSES n) = s.get (Reg.SQ_STAT.CAUSES n) ||| 2 ^ cause ∧ (s.hold n cause).mem = s.mem := by
  have hset : s.SameFields (heldFields n) (s.set (Reg.SQ_STAT.CAUSES n) (s.get (Reg.SQ_STAT.CAUSES n) ||| 2 ^ cause)) :=
    State.set_causes_sameFields (List.mem_cons_self ..)
  have hcause := State.causes_set (s := s) (n := n) hc
  by_cases hrun : s.siteState n = Site.RUNNING
  case pos =>
    rw [State.hold_running hrun]
    generalize hv : s.set (Reg.SQ_STAT.CAUSES n) (s.get (Reg.SQ_STAT.CAUSES n) ||| 2 ^ cause) = v at *
    have hunits : (v.setSite n Site.HELD).NoUnits n := State.setSite_noUnits (by rw [← hv]; exact h)
    have hmem : v.mem = s.mem := by rw [← hv]; exact State.set_mem _ _ _
    obtain ⟨hstop, hstopMem⟩ := State.stopIssue_fields hunits
    refine ⟨(hset.snoc ((State.setSite_sameFields (by decide)).mono fun f hf => ?_)).snoc (hstop.mono fun f hf => ?_), ?_, ?_, ?_⟩
    · exact List.mem_cons_of_mem _ (List.mem_append_left _ hf)
    · exact List.mem_cons_of_mem _ (List.mem_append_right _ hf)
    · exact (hstop.get (apart_tokenFields (by decide) (.inl (by decide)))).trans (State.siteState_setSite (by decide))
    · exact (hstop.get (apart_tokenFields (by decide) (.inr (by decide)))).trans ((State.setSite_get_stat (by decide) (by decide) (by decide)).trans hcause)
    · exact hstopMem.trans (State.setSite_mem.trans hmem)
  case neg =>
    rw [State.hold_other hrun]
    refine ⟨hset, ?_, hcause, State.set_mem _ _ _⟩
    exact (State.get_set_other _ _ _ (Nat.le_of_ble_eq_true rfl) (Nat.le_of_ble_eq_true rfl) (.inl (Nat.le_of_ble_eq_true rfl))).trans (hlive.resolve_left hrun)

/-- R199: a hold leaves the statement where it is. -/
theorem apart_heldFields_pc : (Reg.SQ_STAT.PC n).Apart (heldFields n) := by
  simp only [heldFields, moveFields, tokenFields, List.cons_append, List.nil_append, Fld.apart_cons, Fld.apart_nil, Reg.SQ_STAT.PC, Reg.SQ_STAT.STATE,
    Reg.SQ_STAT.CAUSES, Reg.SQ_CNT.HOLDS, Reg.SQ_STAT.TOKEN, Reg.SQ_TOKEN.word, intrField]
  omega

end HostHold

/-! ### RESUME (R200) -/

section Resume
variable {s : State} {n mask c : Nat}

theorem resume_mask_mod (m : Nat) : (m &&& resumeMask) % 1024 = m &&& resumeMask :=
  Nat.mod_eq_of_lt (Nat.and_lt_two_pow m (n := 10) (by decide))

theorem State.clearCauses_left (hc : s.get (Reg.SQ_STAT.CAUSES n) &&& (0x3FF ^^^ (mask % 1024)) = c) (h0 : c ≠ 0) :
    s.clearCauses n mask = s.set (Reg.SQ_STAT.CAUSES n) c := by
  simp only [State.clearCauses, hc, h0, and_false, if_false]

/-- R200, R201: what a site with no cause and no token becomes, before its stream goes on. -/
def State.resumed (s : State) (n : Nat) : State :=
  ((s.set (Reg.SQ_STAT.CAUSES n) 0).setSite n Site.RUNNING).setSeq n { s.seq n with suspended := false }

theorem State.resumed_sameFields : s.SameFields (Reg.SQ_STAT.CAUSES n :: moveFields n) (s.resumed n) :=
  ((State.set_causes_sameFields (List.mem_cons_self ..)).snoc ((State.setSite_sameFields (by decide)).mono (fun _ => List.mem_cons_of_mem _))).setSeq

theorem State.resumed_frame : s.resumed n = { s with regs := (s.resumed n).regs, msix := (s.resumed n).msix, seqs := (s.resumed n).seqs } := by
  unfold State.resumed
  rw [State.setSite_msixFrame]
  rfl

theorem State.resumed_causes : (s.resumed n).get (Reg.SQ_STAT.CAUSES n) = 0 :=
  (State.setSite_get_stat (by decide) (by decide) (by decide)).trans
    (State.get_set_same _ _ (Nat.le_of_ble_eq_true rfl) (Nat.le_of_ble_eq_true rfl))

theorem State.resumed_siteState : (s.resumed n).siteState n = Site.RUNNING := State.siteState_setSite (by decide)

theorem State.resumed_seq : (s.resumed n).seq n = { s.seq n with suspended := false } := State.seq_setSeq_same

theorem State.resumeSeq_no_token (h : s.get (Reg.SQ_STAT.TOKEN n) = 0) : s.resumeSeq n = s.setSeq n { s.seq n with suspended := false } := if_pos h

theorem State.clearCauses_none (hheld : s.siteState n = Site.HELD) (hc : s.get (Reg.SQ_STAT.CAUSES n) &&& (0x3FF ^^^ (mask % 1024)) = 0)
    (htoken : s.get (Reg.SQ_STAT.TOKEN n) = 0) : s.clearCauses n mask = (s.resumed n).releaseStream n := by
  have hno : ((s.set (Reg.SQ_STAT.CAUSES n) 0).setSite n Site.RUNNING).get (Reg.SQ_STAT.TOKEN n) = 0 :=
    (State.setSite_get_stat (by decide) (by decide) (by decide)).trans
      ((State.get_set_other _ _ _ (Nat.le_of_ble_eq_true rfl) (Nat.le_of_ble_eq_true rfl) (.inl (Nat.le_of_ble_eq_true rfl))).trans htoken)
  have hseq : ((s.set (Reg.SQ_STAT.CAUSES n) 0).setSite n Site.RUNNING).seq n = s.seq n := State.setSite_seq
  simp only [State.clearCauses, hc, hheld, and_self, if_true, State.resumeSeq_no_token hno, hseq]
  rfl

theorem State.releaseStream_frame : s.releaseStream n = { s with streams := (s.releaseStream n).streams } := by
  unfold State.releaseStream
  dsimp only
  split <;> rfl

theorem State.releaseStream_get (f : Fld) : (s.releaseStream n).get f = s.get f := by
  rw [State.releaseStream_frame]
  rfl

/-- R163: a paused stream with no start goes on from the next beat. -/
theorem State.releaseStream_start (hp : s.streamState (s.streamOf n) = Str.PAUSED) (h0 : (s.stream (s.streamOf n)).start = none) :
    ((s.releaseStream n).stream (s.streamOf n)).start = some ((s.now + 1) * 65536) := by
  simp only [State.releaseStream, hp, h0, Option.isNone_none, and_self, if_true]
  simp only [State.stream, State.setStream, sget_sset_same]

end Resume

/-! ### STOP (R203) -/

section Stop
variable {s : State} {n : Nat}

/-- R203: the site is stopping, its token gone. -/
def State.stopping (s : State) (n : Nat) : State := (s.set (Reg.SQ_STAT.STOPPING n) 1).clearToken n

theorem State.stopping_frame : s.stopping n = { s with regs := (s.stopping n).regs } := rfl

theorem State.stopping_noUnits (h : s.NoUnits n) : (s.stopping n).NoUnits n := by
  rw [State.stopping_frame]
  exact h

theorem State.stopping_stopping : (s.stopping n).flag (Reg.SQ_STAT.STOPPING n) = true := by
  have hget : (s.stopping n).get (Reg.SQ_STAT.STOPPING n) = 1 :=
    (State.clearToken_sameFields.get (apart_tokenFields (by decide) (.inl (by decide)))).trans
      (State.get_set_same _ _ (Nat.le_of_ble_eq_true rfl) (Nat.le_of_ble_eq_true rfl))
  rw [State.flag, hget]
  rfl

theorem State.stopping_token : (s.stopping n).flag (Reg.SQ_STAT.TOKEN n) = false := by
  have hget : (s.stopping n).get (Reg.SQ_STAT.TOKEN n) = 0 := State.clearToken_token
  rw [State.flag, hget]
  rfl

/-- The fields of a site's status but STOPPING and TOKEN stay. -/
theorem State.stopping_get_stat {hi lo : Nat} (hl : lo ≤ hi) (h6 : hi < 6 ∨ 7 < lo) :
    (s.stopping n).get ⟨Reg.SQ_STAT.word n, hi, lo⟩ = s.get ⟨Reg.SQ_STAT.word n, hi, lo⟩ := by
  have hset : (s.set (Reg.SQ_STAT.STOPPING n) 1).get ⟨Reg.SQ_STAT.word n, hi, lo⟩ = s.get ⟨Reg.SQ_STAT.word n, hi, lo⟩ :=
    State.get_set_other _ _ _ (Nat.le_of_ble_eq_true rfl) (Nat.le_of_ble_eq_true rfl) (by simp only [Reg.SQ_STAT.STOPPING]; omega)
  exact (State.clearToken_sameFields.get (apart_tokenFields hl (by omega))).trans hset

/-- R203: the units and the sequencer of a site whose statement stops within the beat. -/
def State.halted (s : State) (n : Nat) : State :=
  (s.dropUnits n).setSeq n { s.seq n with wait := .none, verb := Verb.init, suspended := false }

/-- R203: a stopping site, its sequencer halted unless a verb runs on to its comma point. -/
def State.stopBegun (s : State) (n : Nat) : State :=
  if (s.seq n).verb.running && !(s.seq n).suspended then s.stopping n else (s.stopping n).halted n

theorem State.stopBegun_regs : (s.stopBegun n).regs = (s.stopping n).regs := by
  unfold State.stopBegun
  split <;> rfl

theorem State.stopBegun_get (f : Fld) : (s.stopBegun n).get f = (s.stopping n).get f := by
  simp only [State.get, State.reg, State.stopBegun_regs]

theorem State.stopBegun_memStreams : (s.stopBegun n).memStreams = s.memStreams := by
  unfold State.stopBegun
  split <;> rfl

theorem State.stopBegun_seq (h : (s.seq n).verb.running = false ∨ (s.seq n).suspended = true) :
    ((s.stopBegun n).seq n).wait = .none ∧ ((s.stopBegun n).seq n).verb = Verb.init := by
  have hno : ((s.seq n).verb.running && !(s.seq n).suspended) = false := by
    rcases h with h | h <;> simp only [h, Bool.false_and, Bool.not_true, Bool.and_false]
  have hseq : (s.stopBegun n).seq n = { s.seq n with wait := .none, verb := Verb.init, suspended := false } := by
    unfold State.stopBegun
    rw [hno]
    exact State.seq_setSeq_same
  rw [hseq]
  exact ⟨rfl, rfl⟩

theorem State.stopStream_playing (hx : s.streamOf n < 64) (hp : s.streamState (s.streamOf n) = Str.PLAYING) : s.stopStream n = s := by
  unfold State.stopStream
  dsimp only
  rw [if_pos hx, if_pos hp]

theorem State.stopBegun_streamOf : (s.stopBegun n).streamOf n = s.streamOf n := by
  unfold State.stopBegun
  split <;> rfl

/-- R152: the state of a stream lies apart from the words of a site's sequencer. -/
theorem State.stopping_streamState {x : Nat} : (s.stopping n).streamState x = s.streamState x := by
  have hset : (s.set (Reg.SQ_STAT.STOPPING n) 1).streamState x = s.streamState x :=
    State.get_set_addr _ _ _ (by simp only [Reg.SO_STR_STAT.STATE, Reg.SQ_STAT.STOPPING]; omega)
  refine (State.clearToken_sameFields.get ?_).trans hset
  simp only [Fld.apart_cons, Fld.apart_nil, Reg.SO_STR_STAT.STATE, Reg.SQ_STAT.TOKEN, Reg.SQ_TOKEN.word]
  omega

/-- R203: STOP of a live site whose stream plays and that has no open clause. -/
theorem State.hostStop_live {p : Port} (hlive : s.siteLive n = true) (hstop : s.flag (Reg.SQ_STAT.STOPPING n) = false)
    (hx : s.streamOf n < 64) (hp : s.streamState (s.streamOf n) = Str.PLAYING) (hclause : (s.seq n).clause = none) (h : s.NoUnits n) :
    s.hostStop p n = (s.stopBegun n).follow := by
  have hplay : (s.stopBegun n).stopStream n = s.stopBegun n := by
    refine State.stopStream_playing (by rw [State.stopBegun_streamOf]; exact hx) ?_
    rw [State.stopBegun_streamOf, State.streamState, State.stopBegun_get]
    exact State.stopping_streamState.trans hp
  have hbegun : State.follow (State.stopStream (if ((s.stopping n).seq n).verb.running && !((s.stopping n).seq n).suspended then s.stopping n
      else ((s.stopping n).cancelUnits n).setSeq n { (s.stopping n).seq n with wait := .none, verb := Verb.init, suspended := false }) n) =
      (s.stopBegun n).follow := by
    rw [State.cancelUnits_noUnits (State.stopping_noUnits h)]
    exact congrArg State.follow hplay
  unfold State.hostStop
  dsimp only
  rw [hlive, hstop, State.discardOpen_none hclause]
  exact hbegun

end Stop

/-! ### The rows -/

section Rows
variable {s : State} {p : Port} {n : Fin 64} (hm : s.mode ≠ Mode.RESET)
include hm

theorem exec_sqCmdArm : exec (.sqCmdArm p n) s = .next (s.arm p n) := congrArg Host.Outcome.next (State.host_out_of_reset hm _ _ _ _)

theorem exec_sqCmdDisarm : exec (.sqCmdDisarm p n) s = .next (s.disarm p n) := congrArg Host.Outcome.next (State.host_out_of_reset hm _ _ _ _)

theorem exec_sqCmdHold : exec (.sqCmdHold p n) s = .next (s.hostHold p n) := congrArg Host.Outcome.next (State.host_out_of_reset hm _ _ _ _)

theorem exec_sqCmdResume {k : BitVec 10} : exec (.sqCmdResume p n k) s = .next (s.hostResume p n k.toNat) :=
  congrArg Host.Outcome.next (State.host_out_of_reset hm _ _ _ _)

theorem exec_sqCmdStop : exec (.sqCmdStop p n) s = .next (s.hostStop p n) := congrArg Host.Outcome.next (State.host_out_of_reset hm _ _ _ _)

end Rows

theorem exec_stopComplete (s : State) (n : Fin 64) : exec (.stopComplete n) s = .next (s.stopComplete n) := rfl

/-! ### The commands that are refused -/

section Refused
variable {s : State} {p : Port} {n k : Nat}

theorem State.disarm_refused (h : s.siteState n ≠ Site.ARMED ∨ s.clauseNames [Slot.PREPARED] n = true) : s.disarm p n = s.sqReject p n := if_pos h

theorem State.disarm_armed (harmed : s.siteState n = Site.ARMED) (hclause : s.clauseNames [Slot.PREPARED] n = false) : s.disarm p n = s.toLoaded n := by
  refine if_neg ?_
  rw [hclause]
  simpa using harmed

theorem State.hostHold_live (h : s.siteState n = Site.RUNNING ∨ s.siteState n = Site.HELD) : s.hostHold p n = (s.hold n Cause.HOST).follow := if_pos h

theorem State.hostHold_refused (hrun : s.siteState n ≠ Site.RUNNING) (hheld : s.siteState n ≠ Site.HELD) : s.hostHold p n = s.sqReject p n :=
  if_neg (not_or.2 ⟨hrun, hheld⟩)

theorem State.hostResume_refused (h : s.siteState n ≠ Site.HELD) : s.hostResume p n k = s.sqReject p n := if_pos h

theorem State.hostResume_held (h : s.siteState n = Site.HELD) :
    s.hostResume p n k = (s.clearCauses n ((if k = 0 then 0x3FF else k) &&& resumeMask)).follow := if_neg (not_not.2 h)

theorem State.hostStop_refused (h : s.siteLive n = false) : s.hostStop p n = s.sqReject p n := by
  unfold State.hostStop
  rw [h]
  rfl

theorem State.stopComplete_due (hstop : s.flag (Reg.SQ_STAT.STOPPING n) = true) (hdone : s.stopped n = true) :
    s.stopComplete n = (s.event n Ev.STOPPED 0).toLoaded n := if_pos ⟨hstop, hdone⟩

end Refused

/-! ### Each command -/

section Commands
variable {s : State} {p : Port} {n : Fin 64}

theorem State.sqReject_stays : ∃ t : State, (Host.Outcome.next (s.sqReject p n) : Out) = .next t ∧ s.SitesStay t :=
  ⟨_, rfl, s.reject_sitesStay p _ _ _ _⟩

/-- R199, R201: the effect of HOLD. -/
theorem exec_sqCmdHold_held (hm : s.mode ≠ Mode.RESET) (hlive : s.siteState n = Site.RUNNING ∨ s.siteState n = Site.HELD) (h : s.NoUnits n) :
    ∃ u : State, exec (.sqCmdHold p n) s = .next u.follow ∧ u.siteState n = Site.HELD ∧
      u.get (Reg.SQ_STAT.CAUSES n) = s.get (Reg.SQ_STAT.CAUSES n) ||| 1 ∧ u.pc n = s.pc n ∧ u.mem = s.mem := by
  obtain ⟨hsame, hstate, hcauses, hmem⟩ := State.hold_held (cause := Cause.HOST) hlive (by decide) h
  refine ⟨s.hold n Cause.HOST, ?_, hstate, hcauses, hsame.get apart_heldFields_pc, hmem⟩
  rw [exec_sqCmdHold hm, State.hostHold_live hlive]

/-- The mask of RESUME, as a number. -/
theorem resume_mask_toNat (k : BitVec 10) : (if k.toNat = 0 then 0x3FF else k.toNat) = if k = 0 then 0x3FF else k.toNat :=
  if_congr (BitVec.toNat_eq (y := 0)).symm rfl rfl

/-- R200: RESUME with causes left. -/
theorem exec_sqCmdResume_left {k : BitVec 10} {c : Nat} (hm : s.mode ≠ Mode.RESET) (hheld : s.siteState n = Site.HELD)
    (hc : c = s.get (Reg.SQ_STAT.CAUSES n) &&& (0x3FF ^^^ ((if k = 0 then 0x3FF else k.toNat) &&& resumeMask))) (h0 : c ≠ 0) :
    ∃ u : State, exec (.sqCmdResume p n k) s = .next u.follow ∧ u.siteState n = Site.HELD ∧ u.get (Reg.SQ_STAT.CAUSES n) = c ∧
      s.SameFields [Reg.SQ_STAT.CAUSES n] u ∧ u = { s with regs := u.regs } := by
  have hlt : c < 2 ^ 16 := hc ▸ Nat.lt_of_le_of_lt Nat.and_le_left (State.get_lt (Reg.SQ_STAT.CAUSES n))
  refine ⟨s.set (Reg.SQ_STAT.CAUSES n) c, ?_, ?_, ?_, State.set_causes_sameFields (List.mem_singleton_self _), rfl⟩
  · rw [exec_sqCmdResume hm, State.hostResume_held hheld, resume_mask_toNat, State.clearCauses_left (by rw [resume_mask_mod, hc]) h0]
  · exact (State.get_set_other _ _ _ (Nat.le_of_ble_eq_true rfl) (Nat.le_of_ble_eq_true rfl) (.inl (Nat.le_of_ble_eq_true rfl))).trans hheld
  · exact (State.get_set_same _ _ (Nat.le_of_ble_eq_true rfl) (Nat.le_of_ble_eq_true rfl)).trans (Nat.mod_eq_of_lt hlt)

/-- The state of a stream and the PC of the site lie apart from what the resumption writes. -/
theorem apart_resumed_pc {n : Nat} : (Reg.SQ_STAT.PC n).Apart (Reg.SQ_STAT.CAUSES n :: moveFields n) := by
  simp only [moveFields, Fld.apart_cons, Fld.apart_nil, Reg.SQ_STAT.PC, Reg.SQ_STAT.STATE, Reg.SQ_STAT.CAUSES, Reg.SQ_CNT.HOLDS, intrField]
  omega

theorem apart_resumed_stream {n x : Nat} : (Reg.SO_STR_STAT.STATE x).Apart (Reg.SQ_STAT.CAUSES n :: moveFields n) := by
  simp only [moveFields, Fld.apart_cons, Fld.apart_nil, Reg.SO_STR_STAT.STATE, Reg.SQ_STAT.STATE, Reg.SQ_STAT.CAUSES, Reg.SQ_CNT.HOLDS, intrField]
  omega

/-- R163, R200, R201: RESUME with no cause left and no token. -/
theorem exec_sqCmdResume_runs {k : BitVec 10} (hm : s.mode ≠ Mode.RESET) (hheld : s.siteState n = Site.HELD)
    (hc : 0 = s.get (Reg.SQ_STAT.CAUSES n) &&& (0x3FF ^^^ ((if k = 0 then 0x3FF else k.toNat) &&& resumeMask)))
    (htoken : s.get (Reg.SQ_STAT.TOKEN n) = 0) :
    ∃ u : State, exec (.sqCmdResume p n k) s = .next u.follow ∧ u.siteState n = Site.RUNNING ∧
      u.get (Reg.SQ_STAT.CAUSES n) = 0 ∧ u.pc n = s.pc n ∧ u.seq n = { s.seq n with suspended := false } ∧
      (s.streamState (s.streamOf n) = Str.PAUSED → (s.stream (s.streamOf n)).start = none →
        (u.stream (s.streamOf n)).start = some ((s.now + 1) * 65536)) ∧ u.mem = s.mem := by
  have hstream : (s.resumed n).streamOf n = s.streamOf n := by rw [State.resumed_frame]; rfl
  have hbeside (x : Nat) : (s.resumed n).stream x = s.stream x := by rw [State.resumed_frame]; rfl
  have hnow : (s.resumed n).now = s.now := by rw [State.resumed_frame]; rfl
  refine ⟨(s.resumed n).releaseStream n, ?_, ?_, ?_, ?_, ?_, fun hp h0 => ?_, ?_⟩
  · rw [exec_sqCmdResume hm, State.hostResume_held hheld, resume_mask_toNat, State.clearCauses_none hheld (by rw [resume_mask_mod, hc]) htoken]
  · exact (State.releaseStream_get _).trans State.resumed_siteState
  · exact (State.releaseStream_get _).trans State.resumed_causes
  · exact (State.releaseStream_get _).trans (State.resumed_sameFields.get apart_resumed_pc)
  · rw [State.releaseStream_frame]
    exact State.resumed_seq
  · have hstart := State.releaseStream_start (s := s.resumed n) (n := n)
    rw [hstream, hbeside, hnow] at hstart
    exact hstart ((State.resumed_sameFields.get apart_resumed_stream).trans hp) h0
  · rw [State.releaseStream_frame, State.resumed_frame]

/-- R203, R220: the effect of STOP. -/
theorem exec_sqCmdStop_live (hm : s.mode ≠ Mode.RESET) (hlive : s.siteLive n = true) (hstop : s.flag (Reg.SQ_STAT.STOPPING n) = false)
    (hx : s.streamOf n < 64) (hp : s.streamState (s.streamOf n) = Str.PLAYING) (hclause : (s.seq n).clause = none) (h : s.NoUnits n) :
    ∃ u : State, exec (.sqCmdStop p n) s = .next u.follow ∧ u.flag (Reg.SQ_STAT.STOPPING n) = true ∧ u.flag (Reg.SQ_STAT.TOKEN n) = false ∧
      u.siteState n = s.siteState n ∧ u.pc n = s.pc n ∧ u.streams = s.streams ∧ u.mem = s.mem ∧
      (((s.seq n).verb.running = false ∨ (s.seq n).suspended = true) → (u.seq n).wait = .none ∧ (u.seq n).verb = Verb.init) := by
  have hms : (s.stopBegun n).mem = s.mem ∧ (s.stopBegun n).streams = s.streams := Prod.mk.inj (State.stopBegun_memStreams (s := s) (n := n))
  obtain ⟨hmem, hstreams⟩ := hms
  refine ⟨s.stopBegun n, ?_, ?_, ?_, ?_, ?_, hstreams, hmem, State.stopBegun_seq⟩
  · rw [exec_sqCmdStop hm, State.hostStop_live hlive hstop hx hp hclause h]
  · rw [State.flag, State.stopBegun_get]
    exact State.stopping_stopping
  · rw [State.flag, State.stopBegun_get]
    exact State.stopping_token
  · exact (State.stopBegun_get _).trans (State.stopping_get_stat (by decide) (.inl (by decide)))
  · exact (State.stopBegun_get _).trans (State.stopping_get_stat (by decide) (.inr (by decide)))

/-- R203: the end of a stop. -/
theorem exec_stopComplete_loaded (hstop : s.flag (Reg.SQ_STAT.STOPPING n) = true) (hdone : s.stopped n = true) (h : s.NoUnits n) :
    ∃ u : State, exec (.stopComplete n) s = .next u.refreshLeases.follow ∧ u.siteState n = Site.LOADED ∧ u.flag (Reg.SQ_STAT.STOPPING n) = false ∧
      s.Written u n Ev.STOPPED 0 ∧ (u.seq n).wait = .none ∧ (u.seq n).verb = Verb.init ∧ u.mem = s.mem := by
  have hunits : (s.event n Ev.STOPPED 0).NoUnits n := h
  have hwritten : s.Written (s.event n Ev.STOPPED 0) n Ev.STOPPED 0 := State.event_written rfl rfl rfl
  have hseq := State.loaded_seq hunits
  refine ⟨(s.event n Ev.STOPPED 0).loaded n, ?_, State.loaded_siteState hunits n.isLt, State.loaded_stopping hunits n.isLt, ?_, ?_, ?_,
    (State.loaded_mem hunits).trans rfl⟩
  · rw [exec_stopComplete, State.stopComplete_due hstop hdone, State.toLoaded_eq]
  · unfold State.Written at hwritten ⊢
    rw [State.loaded_pendRecs hunits]
    exact hwritten
  · rw [hseq]
    rfl
  · rw [hseq]
    rfl

end Commands

/-- Settles O19, command by command. -/
theorem siteCommands : Obligations.SiteCommands := by
  unfold Obligations.SiteCommands
  refine ⟨fun s p n hm hc => ?_, fun s n hc => State.armRefusal_none hc, fun s p n c hm hc => ?_, fun s p n hm harmed hclause h _ => ?_,
    fun s p n hm hno => ?_, fun s p n hm hlive h => exec_sqCmdHold_held hm hlive h, fun s p n hm hrun hheld => ?_,
    fun s p n k c hm hheld hc => ⟨fun h0 => exec_sqCmdResume_left hm hheld hc h0, fun h0 htoken => exec_sqCmdResume_runs hm hheld (h0 ▸ hc) htoken⟩,
    by decide, fun s p n k hm hheld => ?_,
    fun s p n hm hlive hstop hx hp hclause h => exec_sqCmdStop_live hm hlive hstop hx hp hclause h, fun s p n hm _ => ?_, fun s p n hm hlive => ?_,
    fun s n hstop hdone h _ => exec_stopComplete_loaded hstop hdone h⟩
  case refine_1 =>
    have hms : (s.armed n).mem = s.mem ∧ (s.armed n).streams = s.streams := Prod.mk.inj (State.armed_memStreams (s := s) (n := n))
    exact ⟨s.armed n, (exec_sqCmdArm hm).trans (congrArg _ (State.arm_none hc)), State.siteState_setSite (by decide), hms⟩
  case refine_2 =>
    rw [exec_sqCmdArm hm, State.arm_some hc]
    exact ⟨_, rfl, s.reject_sitesStay p _ _ _ _⟩
  case refine_3 =>
    exact ⟨s.loaded n, by rw [exec_sqCmdDisarm hm, State.disarm_armed harmed hclause, State.toLoaded_eq], State.loaded_siteState h n.isLt,
      State.loaded_causes h n.isLt, State.loaded_mem h⟩
  case refine_4 =>
    rw [exec_sqCmdDisarm hm, State.disarm_refused hno]
    exact State.sqReject_stays
  case refine_5 =>
    rw [exec_sqCmdHold hm, State.hostHold_refused hrun hheld]
    exact State.sqReject_stays
  case refine_6 =>
    rw [exec_sqCmdResume hm, State.hostResume_refused hheld]
    exact State.sqReject_stays
  case refine_7 =>
    exact ⟨_, exec_sqCmdStop hm, (exec_framedBy (exec_sqCmdStop (p := p) hm)).mem rfl rfl⟩
  case refine_8 =>
    rw [exec_sqCmdStop hm, State.hostStop_refused hlive]
    exact State.sqReject_stays

end Sys2Proof.Machine
end

section
/-! SUPPORT. The clears of trips (R25, R198, R327, R343): what each of them changes, unit by unit. -/

namespace Sys2Proof.Machine

/-! ### Doing a thing for every element of a list -/

section Loops
variable {α : Type} {s : State} {l : List α} {f : α → State → State} {P Q : State → Prop}

theorem State.forL_kept_mem (hf : ∀ a ∈ l, ∀ t, P t → P (f a t)) (h : P s) : P (s.forL l f) :=
  List.foldlRecOn l _ h (fun t ht a ha => hf a ha t ht)

/-- What the turn of `a` brings about, the turns before it preparing it and none undoing it. -/
theorem State.forL_reaches {a : α} (ha : a ∈ l) (hP : ∀ b ∈ l, b ≠ a → ∀ t, P t → P (f b t)) (hPQ : ∀ t, P t → Q (f a t))
    (hQ : ∀ b ∈ l, ∀ t, Q t → Q (f b t)) (h : P s) : Q (s.forL l f) := by
  induction l generalizing s with
  | nil => cases ha
  | cons b l ih =>
    rw [State.forL_cons]
    by_cases hb : b = a
    case pos =>
      subst hb
      exact State.forL_kept_mem (fun x hx => hQ x (List.mem_cons_of_mem _ hx)) (hPQ s h)
    case neg =>
      exact ih ((List.mem_cons.1 ha).resolve_left (Ne.symm hb)) (fun x hx => hP x (List.mem_cons_of_mem _ hx)) (fun x hx => hQ x (List.mem_cons_of_mem _ hx))
        (hP b (List.mem_cons_self ..) hb s h)

end Loops

/-! ### A channel (R25, R343) -/

section Channel
variable {s t : State} {c : Nat} {fs : List Fld}

theorem State.SameFields.setChan {k : Chan} (h : s.SameFields fs t) : s.SameFields fs (t.setChan c k) := h.snoc (State.SameFields.of_regs rfl)

/-- The bits of CH_STAT that follow the slice, and CONN and COMPLY of the PMU. -/
def sliceFields (c : Nat) : List Fld := [⟨Reg.CH_STAT.word c, 30, 23⟩, Reg.CH_PMUSTAT.CONN c, Reg.CH_PMUSTAT.COMPLY c]

theorem State.refreshChan_sameFields : s.SameFields (sliceFields c) (s.refreshChan c) := fun f hl hd => by
  obtain haddr | hspan := hd _ (List.mem_cons_self ..)
  · exact State.get_setReg_other _ _ _ haddr
  · by_cases haddr : f.addr = Reg.CH_STAT.word c
    case neg => exact State.get_setReg_other _ _ _ haddr
    case pos =>
      unfold State.refreshChan State.get
      dsimp only at hspan ⊢
      rw [haddr, State.reg_setReg_same]
      iterate 7 refine (wget_wput_other _ _ _ _ _ _ (by decide) (by decide) (by omega)).trans ?_
      rfl

theorem State.SameFields.refreshChan (h : s.SameFields (sliceFields c) t) : s.SameFields (sliceFields c) (t.refreshChan c) :=
  h.snoc State.refreshChan_sameFields

/-- R103: BUS is one of the bits of CH_STAT that follow the slice. -/
theorem State.set_bus_sameFields {v : Nat} : s.SameFields (sliceFields c) (s.set (Reg.CH_STAT.BUS c) v) := fun f hl hd => by
  have hspan := hd _ (List.mem_cons_self ..)
  refine (State.SameFields.set (s := s) (fs := [Reg.CH_STAT.BUS c]) _ v (Nat.le_of_ble_eq_true rfl) (Nat.le_of_ble_eq_true rfl) (List.mem_cons_self ..)) f hl ?_
  simp only [List.mem_singleton, forall_eq, Reg.CH_STAT.BUS, Reg.CH_STAT.word] at hspan ⊢
  omega

theorem State.busTrigger_sameFields : s.SameFields (sliceFields c) (s.busTrigger c) := by
  unfold State.busTrigger
  dsimp only
  refine ite_kept (fun _ => ite_kept (fun _ => State.SameFields.refl) (fun _ => ?closes))
    (fun _ => ite_kept (fun _ => ?opens) (fun _ => State.SameFields.refl))
  case closes => exact State.SameFields.refl.setChan.setChan.refreshChan
  case opens => exact (State.SameFields.refl.setChan.snoc State.set_bus_sameFields).refreshChan

theorem State.refreshPmu_sameFields : s.SameFields (sliceFields c) (s.refreshPmu c) := by
  have hconn (v : Nat) : s.SameFields (sliceFields c) (s.set (Reg.CH_PMUSTAT.CONN c) v) :=
    State.SameFields.set _ _ (Nat.le_of_ble_eq_true rfl) (Nat.le_of_ble_eq_true rfl) (by simp [sliceFields])
  unfold State.refreshPmu
  dsimp only
  exact ite_kept (fun _ => hconn _) (fun _ => (hconn _).snoc
    (State.SameFields.set _ _ (Nat.le_of_ble_eq_true rfl) (Nat.le_of_ble_eq_true rfl) (by simp [sliceFields])))

theorem State.presentIdle_sameFields : s.SameFields (sliceFields c) (s.presentIdle c) := by
  unfold State.presentIdle
  split
  · exact State.SameFields.refl
  · exact ite_kept (fun _ => State.SameFields.refl.setChan.refreshChan) (fun _ => State.SameFields.refl)

/-- R343: the trip itself is gone; the slice has not followed yet. -/
def State.untripped (s : State) (c : Nat) : State :=
  ((s.set (Reg.CH_GSTAT.CAUSE c) 0).set (Reg.CH_GSTAT.TRIPPED c) 0).set (Reg.CH_STAT.TRIPPED c) 0

/-- The fields that this clears. -/
def tripFields (c : Nat) : List Fld := [Reg.CH_GSTAT.CAUSE c, Reg.CH_GSTAT.TRIPPED c, Reg.CH_STAT.TRIPPED c]

theorem State.untripped_sameFields : s.SameFields (tripFields c) (s.untripped c) :=
  ((State.SameFields.set _ _ (Nat.le_of_ble_eq_true rfl) (Nat.le_of_ble_eq_true rfl) (by simp [tripFields])).snoc
    (State.SameFields.set _ _ (Nat.le_of_ble_eq_true rfl) (Nat.le_of_ble_eq_true rfl) (by simp [tripFields]))).snoc
    (State.SameFields.set _ _ (Nat.le_of_ble_eq_true rfl) (Nat.le_of_ble_eq_true rfl) (by simp [tripFields]))

theorem State.untripped_cleared : ∀ f ∈ tripFields c, (s.untripped c).get f = 0 := by
  have hcause : (s.untripped c).get (Reg.CH_GSTAT.CAUSE c) = 0 := by
    unfold State.untripped
    rw [State.get_set_addr _ _ _ (by simp only [Reg.CH_GSTAT.CAUSE, Reg.CH_STAT.TRIPPED]; omega),
      State.get_set_other _ _ _ (Nat.le_of_ble_eq_true rfl) (Nat.le_of_ble_eq_true rfl) (.inr (Nat.le_of_ble_eq_true rfl))]
    exact State.get_set_same _ _ (Nat.le_of_ble_eq_true rfl) (Nat.le_of_ble_eq_true rfl)
  have htrip : (s.untripped c).get (Reg.CH_GSTAT.TRIPPED c) = 0 := by
    unfold State.untripped
    rw [State.get_set_addr _ _ _ (by simp only [Reg.CH_GSTAT.TRIPPED, Reg.CH_STAT.TRIPPED]; omega)]
    exact State.get_set_same _ _ (Nat.le_of_ble_eq_true rfl) (Nat.le_of_ble_eq_true rfl)
  simp only [tripFields, List.forall_mem_cons, List.not_mem_nil, false_imp_iff, implies_true, and_true]
  exact ⟨hcause, htrip, State.get_set_same _ _ (Nat.le_of_ble_eq_true rfl) (Nat.le_of_ble_eq_true rfl)⟩

theorem State.clearChanTrip_none (h : s.get (Reg.CH_GSTAT.CAUSE c) = 0) : s.clearChanTrip c = s := if_pos h

/-- R25, R343: what follows the trip's end is the slice's alone. -/
theorem State.clearChanTrip_slice (h : s.get (Reg.CH_GSTAT.CAUSE c) ≠ 0) : (s.untripped c).SameFields (sliceFields c) (s.clearChanTrip c) := by
  have hslice := ((State.refreshChan_sameFields (s := s.untripped c) (c := c)).snoc State.busTrigger_sameFields).snoc State.refreshPmu_sameFields
  unfold State.clearChanTrip
  rw [if_neg h]
  exact hslice.snoc State.presentIdle_sameFields

theorem State.clearChanTrip_sameFields : s.SameFields (tripFields c ++ sliceFields c) (s.clearChanTrip c) := by
  by_cases h : s.get (Reg.CH_GSTAT.CAUSE c) = 0
  case pos => rw [State.clearChanTrip_none h]; exact State.SameFields.refl
  case neg =>
    exact (State.untripped_sameFields.mono fun f hf => List.mem_append_left _ hf).snoc
      ((State.clearChanTrip_slice h).mono fun f hf => List.mem_append_right _ hf)

theorem apart_sliceFields : ∀ f ∈ tripFields c, f.Apart (sliceFields c) := by
  simp only [tripFields, List.forall_mem_cons, List.not_mem_nil, false_imp_iff, implies_true, and_true, sliceFields, Fld.apart_cons, Fld.apart_nil,
    Reg.CH_GSTAT.CAUSE, Reg.CH_GSTAT.TRIPPED, Reg.CH_STAT.TRIPPED, Reg.CH_STAT.word, Reg.CH_PMUSTAT.CONN, Reg.CH_PMUSTAT.COMPLY]
  omega

/-- R343: the trip of a channel with a cause is gone after its clear. -/
theorem State.clearChanTrip_cleared (h : s.get (Reg.CH_GSTAT.CAUSE c) ≠ 0) : ∀ f ∈ tripFields c, (s.clearChanTrip c).get f = 0 := fun f hf =>
  ((State.clearChanTrip_slice h).get (apart_sliceFields f hf)).trans (State.untripped_cleared f hf)

theorem State.clearChanTrip_cause : (s.clearChanTrip c).get (Reg.CH_GSTAT.CAUSE c) = 0 := by
  by_cases h : s.get (Reg.CH_GSTAT.CAUSE c) = 0
  case pos => rw [State.clearChanTrip_none h]; exact h
  case neg => exact State.clearChanTrip_cleared h _ (List.mem_cons_self ..)

/-- The fields of other channels' causes and of the sites' sequencers lie apart from what the clear of a channel writes. -/
theorem apart_chan_cause {x : Nat} (h : x ≠ c) : (Reg.CH_GSTAT.CAUSE x).Apart (tripFields c ++ sliceFields c) := by
  simp only [tripFields, sliceFields, List.cons_append, List.nil_append, Fld.apart_cons, Fld.apart_nil,
    Reg.CH_GSTAT.CAUSE, Reg.CH_GSTAT.TRIPPED, Reg.CH_STAT.TRIPPED, Reg.CH_STAT.word, Reg.CH_PMUSTAT.CONN, Reg.CH_PMUSTAT.COMPLY]
  omega

theorem apart_chan_state {n : Nat} : (Reg.SQ_STAT.STATE n).Apart (tripFields c ++ sliceFields c) := by
  simp only [tripFields, sliceFields, List.cons_append, List.nil_append, Fld.apart_cons, Fld.apart_nil, Reg.SQ_STAT.STATE,
    Reg.CH_GSTAT.CAUSE, Reg.CH_GSTAT.TRIPPED, Reg.CH_STAT.TRIPPED, Reg.CH_STAT.word, Reg.CH_PMUSTAT.CONN, Reg.CH_PMUSTAT.COMPLY]
  omega

end Channel

/-! ### A supply (R327, R343) -/

section Supply
variable {s t : State} {d : Nat} {fs : List Fld}

theorem State.SameFields.setDps {p : Dps} (h : s.SameFields fs t) : s.SameFields fs (t.setDps d p) := h.snoc (State.SameFields.of_regs rfl)

/-- The fields of DPS_STAT and DPS_CNT that follow a ramp. -/
def rampFields (d : Nat) : List Fld := [Reg.DPS_STAT.TARGET d, Reg.DPS_STAT.RAMPING d, Reg.DPS_STAT.AT_SET d, Reg.DPS_CNT.RAMPS d]

theorem State.refreshDps_sameFields : s.SameFields (rampFields d) (s.refreshDps d) :=
  ((State.SameFields.set (Reg.DPS_STAT.TARGET d) _ (Nat.le_of_ble_eq_true rfl) (Nat.le_of_ble_eq_true rfl) (by simp [rampFields])).snoc
    (State.SameFields.set (Reg.DPS_STAT.RAMPING d) _ (Nat.le_of_ble_eq_true rfl) (Nat.le_of_ble_eq_true rfl) (by simp [rampFields]))).snoc
    (State.SameFields.set (Reg.DPS_STAT.AT_SET d) _ (Nat.le_of_ble_eq_true rfl) (Nat.le_of_ble_eq_true rfl) (by simp [rampFields]))

theorem State.refreshDps_dpss : (s.refreshDps d).dpss = s.dpss := rfl

theorem State.rampBegin_sameFields : s.SameFields (rampFields d) (s.rampBegin d) := by
  unfold State.rampBegin
  refine State.SameFields.snoc (State.SameFields.setDps ?_) State.refreshDps_sameFields
  exact ite_kept (fun _ => State.SameFields.set _ _ (Nat.le_of_ble_eq_true rfl) (Nat.le_of_ble_eq_true rfl) (by simp [rampFields]))
    (fun _ => State.SameFields.refl)

/-- R320: the begin of a ramp keeps where it starts and where it goes. -/
theorem State.rampBegin_ends : ((s.rampBegin d).dps d).target = (s.dps d).target ∧ ((s.rampBegin d).dps d).goal = (s.dps d).goal := by
  unfold State.rampBegin
  simp only [State.dps, State.refreshDps_dpss, State.setDps, sget_sset_same, and_self]

/-- R327: the supply connected at 0 V, before its ramp begins. -/
def State.reconnected (s : State) (d : Nat) : State :=
  let t := s.set (Reg.DPS_STAT.CONN d) 1
  t.setDps d { t.dps d with target := 0, goal := t.dpsGoal d, slew := t.get (Reg.DPS_SET.SLEW d), delay := none, offAt := none }

theorem State.reconnected_sameFields : s.SameFields [Reg.DPS_STAT.CONN d] (s.reconnected d) :=
  (State.SameFields.set _ _ (Nat.le_of_ble_eq_true rfl) (Nat.le_of_ble_eq_true rfl) (by simp)).setDps

theorem State.dpsReconnect_conn (h : s.flag (Reg.DPS_SET.CONN d) = true) : s.dpsReconnect d = (s.reconnected d).rampBegin d := if_pos h

theorem State.dpsReconnect_sameFields : s.SameFields (Reg.DPS_STAT.CONN d :: rampFields d) (s.dpsReconnect d) := by
  have hafter {t u : State} (h : t.SameFields (rampFields d) u) : t.SameFields (Reg.DPS_STAT.CONN d :: rampFields d) u :=
    h.mono (fun f => List.mem_cons_of_mem _)
  by_cases h : s.flag (Reg.DPS_SET.CONN d) = true
  case pos =>
    rw [State.dpsReconnect_conn h]
    exact (State.reconnected_sameFields.mono (by simp)).snoc (hafter State.rampBegin_sameFields)
  case neg =>
    rw [State.dpsReconnect, if_neg h]
    exact hafter State.refreshDps_sameFields

/-- R327: a supply with CONN = 1 is connected again at 0 V and its goal is SET. -/
theorem State.dpsReconnect_from_zero (h : s.flag (Reg.DPS_SET.CONN d) = true) : (s.dpsReconnect d).flag (Reg.DPS_STAT.CONN d) = true ∧
    ((s.dpsReconnect d).dps d).target = 0 ∧ ((s.dpsReconnect d).dps d).goal = s.get (Reg.DPS_SET.SET d) * 125 := by
  obtain ⟨htarget, hgoal⟩ := State.rampBegin_ends (s := s.reconnected d) (d := d)
  rw [State.dpsReconnect_conn h]
  refine ⟨?_, htarget.trans ?_, hgoal.trans ?_⟩
  · have hconn : (s.reconnected d).get (Reg.DPS_STAT.CONN d) = 1 := State.get_set_same _ _ (Nat.le_of_ble_eq_true rfl) (Nat.le_of_ble_eq_true rfl)
    rw [State.rampBegin_sameFields.flag ?_, State.flag, hconn]
    · rfl
    · simp only [rampFields, Fld.apart_cons, Fld.apart_nil, Reg.DPS_STAT.CONN, Reg.DPS_STAT.TARGET, Reg.DPS_STAT.RAMPING, Reg.DPS_STAT.AT_SET,
        Reg.DPS_CNT.RAMPS]
      omega
  · simp only [State.reconnected, State.dps, State.setDps, sget_sset_same]
  · have hset (f : Fld) (hf : f.addr = Reg.DPS_SET.word d) : (s.set (Reg.DPS_STAT.CONN d) 1).get f = s.get f :=
      State.get_set_addr _ _ _ (by rw [hf]; simp only [Reg.DPS_SET.word, Reg.DPS_STAT.CONN]; omega)
    have hflag : (s.set (Reg.DPS_STAT.CONN d) 1).flag (Reg.DPS_SET.CONN d) = true := by
      rw [State.flag, hset _ rfl]
      exact h
    simp only [State.reconnected, State.dps, State.setDps, sget_sset_same]
    rw [State.dpsGoal, hflag, hset _ rfl]
    rfl

/-- R343: the trip itself of a supply is gone. -/
def State.untrippedDps (s : State) (d : Nat) : State :=
  ((s.set (Reg.GD_DSTAT.CAUSE d) 0).set (Reg.GD_DSTAT.TRIPPED d) 0).set (Reg.DPS_STAT.TRIPPED d) 0

/-- The fields that this clears. -/
def dpsTripFields (d : Nat) : List Fld := [Reg.GD_DSTAT.CAUSE d, Reg.GD_DSTAT.TRIPPED d, Reg.DPS_STAT.TRIPPED d]

theorem State.untrippedDps_sameFields : s.SameFields (dpsTripFields d) (s.untrippedDps d) :=
  ((State.SameFields.set _ _ (Nat.le_of_ble_eq_true rfl) (Nat.le_of_ble_eq_true rfl) (by simp [dpsTripFields])).snoc
    (State.SameFields.set _ _ (Nat.le_of_ble_eq_true rfl) (Nat.le_of_ble_eq_true rfl) (by simp [dpsTripFields]))).snoc
    (State.SameFields.set _ _ (Nat.le_of_ble_eq_true rfl) (Nat.le_of_ble_eq_true rfl) (by simp [dpsTripFields]))

theorem State.untrippedDps_cleared (hd : d < 64) : ∀ f ∈ dpsTripFields d, (s.untrippedDps d).get f = 0 := by
  have hcause : (s.untrippedDps d).get (Reg.GD_DSTAT.CAUSE d) = 0 := by
    unfold State.untrippedDps
    rw [State.get_set_addr _ _ _ (by simp only [Reg.GD_DSTAT.CAUSE, Reg.DPS_STAT.TRIPPED]; omega),
      State.get_set_other _ _ _ (Nat.le_of_ble_eq_true rfl) (Nat.le_of_ble_eq_true rfl) (.inr (Nat.le_of_ble_eq_true rfl))]
    exact State.get_set_same _ _ (Nat.le_of_ble_eq_true rfl) (Nat.le_of_ble_eq_true rfl)
  have htrip : (s.untrippedDps d).get (Reg.GD_DSTAT.TRIPPED d) = 0 := by
    unfold State.untrippedDps
    rw [State.get_set_addr _ _ _ (by simp only [Reg.GD_DSTAT.TRIPPED, Reg.DPS_STAT.TRIPPED]; omega)]
    exact State.get_set_same _ _ (Nat.le_of_ble_eq_true rfl) (Nat.le_of_ble_eq_true rfl)
  simp only [dpsTripFields, List.forall_mem_cons, List.not_mem_nil, false_imp_iff, implies_true, and_true]
  exact ⟨hcause, htrip, State.get_set_same _ _ (Nat.le_of_ble_eq_true rfl) (Nat.le_of_ble_eq_true rfl)⟩

theorem State.clearDpsTrip_none (h : s.get (Reg.GD_DSTAT.CAUSE d) = 0) : s.clearDpsTrip d = s := if_pos h

theorem State.clearDpsTrip_tripped (h : s.get (Reg.GD_DSTAT.CAUSE d) ≠ 0) : s.clearDpsTrip d = (s.untrippedDps d).dpsReconnect d := if_neg h

/-- The fields that the clear of a supply may write. -/
def dpsClearFields (d : Nat) : List Fld := dpsTripFields d ++ Reg.DPS_STAT.CONN d :: rampFields d

theorem State.clearDpsTrip_sameFields : s.SameFields (dpsClearFields d) (s.clearDpsTrip d) := by
  by_cases h : s.get (Reg.GD_DSTAT.CAUSE d) = 0
  case pos => rw [State.clearDpsTrip_none h]; exact State.SameFields.refl
  case neg =>
    rw [State.clearDpsTrip_tripped h]
    exact (State.untrippedDps_sameFields.mono fun f hf => List.mem_append_left _ hf).snoc
      (State.dpsReconnect_sameFields.mono fun f hf => List.mem_append_right _ hf)

theorem apart_rampFields (hd : d < 64) : ∀ f ∈ dpsTripFields d, f.Apart (Reg.DPS_STAT.CONN d :: rampFields d) := by
  simp only [dpsTripFields, List.forall_mem_cons, List.not_mem_nil, false_imp_iff, implies_true, and_true, rampFields, Fld.apart_cons, Fld.apart_nil,
    Reg.GD_DSTAT.CAUSE, Reg.GD_DSTAT.TRIPPED, Reg.DPS_STAT.TRIPPED, Reg.DPS_STAT.CONN, Reg.DPS_STAT.TARGET, Reg.DPS_STAT.RAMPING, Reg.DPS_STAT.AT_SET,
    Reg.DPS_CNT.RAMPS]
  omega

/-- R343: the trip of a supply with a cause is gone after its clear. -/
theorem State.clearDpsTrip_cleared (hd : d < 64) (h : s.get (Reg.GD_DSTAT.CAUSE d) ≠ 0) : ∀ f ∈ dpsTripFields d, (s.clearDpsTrip d).get f = 0 := by
  rw [State.clearDpsTrip_tripped h]
  exact fun f hf => (State.dpsReconnect_sameFields.get (apart_rampFields hd f hf)).trans (State.untrippedDps_cleared hd f hf)

theorem State.clearDpsTrip_cause (hd : d < 64) : (s.clearDpsTrip d).get (Reg.GD_DSTAT.CAUSE d) = 0 := by
  by_cases h : s.get (Reg.GD_DSTAT.CAUSE d) = 0
  case pos => rw [State.clearDpsTrip_none h]; exact h
  case neg => exact State.clearDpsTrip_cleared hd h _ (List.mem_cons_self ..)

/-- R327: a tripped supply with CONN = 1 starts again at 0 V. -/
theorem State.clearDpsTrip_from_zero (hd : d < 64) (h : s.get (Reg.GD_DSTAT.CAUSE d) ≠ 0) (hconn : s.flag (Reg.DPS_SET.CONN d) = true) :
    (s.clearDpsTrip d).flag (Reg.DPS_STAT.CONN d) = true ∧ ((s.clearDpsTrip d).dps d).target = 0 ∧
      ((s.clearDpsTrip d).dps d).goal = s.get (Reg.DPS_SET.SET d) * 125 := by
  have hset (hi lo : Nat) (hl : lo ≤ hi) : (s.untrippedDps d).get ⟨Reg.DPS_SET.word d, hi, lo⟩ = s.get ⟨Reg.DPS_SET.word d, hi, lo⟩ := by
    refine State.untrippedDps_sameFields.get ?_
    simp only [dpsTripFields, Fld.apart_cons, Fld.apart_nil, Reg.GD_DSTAT.CAUSE, Reg.GD_DSTAT.TRIPPED, Reg.DPS_STAT.TRIPPED, Reg.DPS_SET.word]
    omega
  have hflag : (s.untrippedDps d).get (Reg.DPS_SET.CONN d) = s.get (Reg.DPS_SET.CONN d) := hset 32 32 (by decide)
  have hgoal : (s.untrippedDps d).get (Reg.DPS_SET.SET d) = s.get (Reg.DPS_SET.SET d) := hset 15 0 (by decide)
  have hzero := State.dpsReconnect_from_zero (s := s.untrippedDps d) (d := d)
  rw [State.flag, hflag, ← State.flag, hgoal] at hzero
  rw [State.clearDpsTrip_tripped h]
  exact hzero hconn

/-- The causes of other supplies, and those of channels, lie apart from what the clear of a supply writes. -/
theorem apart_dps_cause {x : Nat} (hx : x < 64) (hd : d < 64) (h : x ≠ d) : (Reg.GD_DSTAT.CAUSE x).Apart (dpsClearFields d) := by
  simp only [dpsClearFields, dpsTripFields, rampFields, List.cons_append, List.nil_append, Fld.apart_cons, Fld.apart_nil,
    Reg.GD_DSTAT.CAUSE, Reg.GD_DSTAT.TRIPPED, Reg.DPS_STAT.TRIPPED, Reg.DPS_STAT.CONN, Reg.DPS_STAT.TARGET, Reg.DPS_STAT.RAMPING, Reg.DPS_STAT.AT_SET,
    Reg.DPS_CNT.RAMPS]
  omega

theorem apart_dps_chan {c : Nat} (hc : c < 1024) : (Reg.CH_GSTAT.CAUSE c).Apart (dpsClearFields d) := by
  simp only [dpsClearFields, dpsTripFields, rampFields, List.cons_append, List.nil_append, Fld.apart_cons, Fld.apart_nil, Reg.CH_GSTAT.CAUSE,
    Reg.GD_DSTAT.CAUSE, Reg.GD_DSTAT.TRIPPED, Reg.DPS_STAT.TRIPPED, Reg.DPS_STAT.CONN, Reg.DPS_STAT.TARGET, Reg.DPS_STAT.RAMPING, Reg.DPS_STAT.AT_SET,
    Reg.DPS_CNT.RAMPS]
  omega

end Supply

end Sys2Proof.Machine
end

section
/-! SUPPORT. The clear commands (R198, R343). -/

namespace Sys2Proof.Machine

/-! ### The sites that leave TRIPPED (R198) -/

section Leave
variable {s : State} {n m c : Nat}

/-- The fields that a site leaving TRIPPED may write. -/
def leaveFields (n : Nat) : List Fld := Reg.SQ_STAT.CAUSES n :: moveFields n

/-- R198: a site that leaves TRIPPED is HELD under cause HOST. -/
def State.left (s : State) (n : Nat) : State := (s.setSite n Site.HELD).set (Reg.SQ_STAT.CAUSES n) (s.get (Reg.SQ_STAT.CAUSES n) ||| 1)

theorem State.leaveTripped_cases (s : State) (n : Nat) : s.leaveTripped n = s ∨ s.leaveTripped n = s.left n := by
  unfold State.leaveTripped State.left
  split
  · exact .inr rfl
  · exact .inl rfl

theorem State.left_sameFields : s.SameFields (leaveFields n) (s.left n) :=
  ((State.setSite_sameFields (by decide)).mono (fun _ => List.mem_cons_of_mem _)).snoc (State.set_causes_sameFields (List.mem_cons_self ..))

theorem State.leaveTripped_sameFields : s.SameFields (leaveFields n) (s.leaveTripped n) := by
  rcases s.leaveTripped_cases n with h | h <;> rw [h]
  · exact State.SameFields.refl
  · exact State.left_sameFields

theorem State.left_msixFrame : s.MsixFrame (s.left n) := State.setSite_msixFrame.set _ _

theorem State.leaveTripped_dpss : (s.leaveTripped n).dpss = s.dpss := by
  rcases s.leaveTripped_cases n with h | h <;> rw [h]
  rw [State.left_msixFrame]

theorem State.leaveTripped_maps : (s.leaveTripped n).maps = s.maps := by
  rcases s.leaveTripped_cases n with h | h <;> rw [h]
  rw [State.left_msixFrame]

theorem State.left_siteState : (s.left n).siteState n = Site.HELD :=
  (State.get_set_other _ _ _ (Nat.le_of_ble_eq_true rfl) (Nat.le_of_ble_eq_true rfl) (.inl (Nat.le_of_ble_eq_true rfl))).trans
    (State.siteState_setSite (by decide))

theorem State.left_host : bitOf ((s.left n).get (Reg.SQ_STAT.CAUSES n)) 0 = true := by
  have hcauses : (s.setSite n Site.HELD).get (Reg.SQ_STAT.CAUSES n) = s.get (Reg.SQ_STAT.CAUSES n) :=
    State.setSite_get_stat (by decide) (by decide) (by decide)
  have hset := State.causes_set (s := s.setSite n Site.HELD) (n := n) (cause := 0) (by decide)
  rw [hcauses, pow_zero] at hset
  have hleft : (s.left n).get (Reg.SQ_STAT.CAUSES n) = s.get (Reg.SQ_STAT.CAUSES n) ||| 1 := hset
  rw [hleft, bitOf, Nat.testBit_or, show Nat.testBit 1 0 = true from rfl, Bool.or_true]

/-- R198: a TRIPPED site whose only unit is a channel with no cause leaves TRIPPED. -/
theorem State.leaveTripped_single (hst : s.siteState n = Site.TRIPPED) (hchans : s.siteChans n = [c]) (hdps : s.siteSupplies n = [])
    (hc : s.get (Reg.CH_GSTAT.CAUSE c) = 0) : s.leaveTripped n = s.left n :=
  if_pos ⟨hst, by rw [hchans]; simpa using hc, by rw [hdps]; rfl⟩

theorem State.leaveTripped_held (hst : s.siteState n = Site.HELD) : s.leaveTripped n = s := by
  refine if_neg (fun h => ?_)
  rw [hst] at h
  exact absurd h.1 (by decide)

/-- What the other sites' leaving writes lies apart from a site's status, from the causes of channels and from those of supplies. -/
theorem apart_leaveFields_stat {hi lo : Nat} (hl : lo ≤ hi) (h : n ≠ m) : Fld.Apart ⟨Reg.SQ_STAT.word n, hi, lo⟩ (leaveFields m) := by
  simp only [leaveFields, moveFields, Fld.apart_cons, Fld.apart_nil, Reg.SQ_STAT.word, Reg.SQ_STAT.STATE, Reg.SQ_STAT.CAUSES, Reg.SQ_CNT.HOLDS, intrField]
  omega

/-- The registers of the slice and of the supplies lie above those of the sequencers. -/
theorem apart_leaveFields {f : Fld} (hl : f.lo ≤ f.hi) (ha : 0x080000 ≤ f.addr) (hm : m < 64) : f.Apart (leaveFields m) := by
  simp only [leaveFields, moveFields, Fld.apart_cons, Fld.apart_nil, Reg.SQ_STAT.STATE, Reg.SQ_STAT.CAUSES, Reg.SQ_CNT.HOLDS, intrField]
  omega

/-- The sites in turn: what they leave alone. -/
theorem State.leaveAll_get {f : Fld} (hl : f.lo ≤ f.hi) (ha : 0x080000 ≤ f.addr) : (s.forN 64 (fun n t => t.leaveTripped n)).get f = s.get f :=
  State.forN_keeps (fun t => t.get f) 64 _ (fun _ hm _ => State.leaveTripped_sameFields.get (apart_leaveFields hl ha hm))

theorem State.leaveAll_dpss : (s.forN 64 (fun n t => t.leaveTripped n)).dpss = s.dpss :=
  State.forN_keeps State.dpss 64 _ (fun _ _ _ => State.leaveTripped_dpss)

/-- R198: the site of a single channel, tripped until then, is held. -/
theorem State.leaveAll_single (hn : n < 64) (hst : s.siteState n = Site.TRIPPED) (hchans : s.siteChans n = [c]) (hdps : s.siteSupplies n = [])
    (hc : s.get (Reg.CH_GSTAT.CAUSE c) = 0) : (s.forN 64 (fun n t => t.leaveTripped n)).siteState n = Site.HELD ∧
      bitOf ((s.forN 64 (fun n t => t.leaveTripped n)).get (Reg.SQ_STAT.CAUSES n)) 0 = true := by
  refine State.forL_reaches (P := fun t => t.siteState n = Site.TRIPPED ∧ t.get (Reg.CH_GSTAT.CAUSE c) = 0 ∧ t.maps = s.maps)
    (Q := fun t => t.siteState n = Site.HELD ∧ bitOf (t.get (Reg.SQ_STAT.CAUSES n)) 0 = true) (List.mem_range.2 hn)
    (fun m hm hmn t => ?others) (fun t => ?own) (fun m _ t => ?after) ⟨hst, hc, rfl⟩
  case others =>
    rintro ⟨hst, hc, hmaps⟩
    refine ⟨?_, ?_, State.leaveTripped_maps.trans hmaps⟩
    · exact (State.leaveTripped_sameFields.get (apart_leaveFields_stat (by decide) hmn.symm)).trans hst
    · exact (State.leaveTripped_sameFields.get (apart_leaveFields (Nat.le_of_ble_eq_true rfl) (Nat.le_add_right_of_le (by decide)) (List.mem_range.1 hm))).trans hc
  case own =>
    rintro ⟨hst, hc, hmaps⟩
    have hmap : t.map n = s.map n := by rw [State.map, hmaps, ← State.map]
    rw [State.leaveTripped_single hst (by rw [State.siteChans, hmap]; exact hchans) (by rw [State.siteSupplies, hmap]; exact hdps) hc]
    exact ⟨State.left_siteState, State.left_host⟩
  case after =>
    rintro ⟨hst, hhost⟩
    by_cases hmn : n = m
    case pos =>
      rw [← hmn, State.leaveTripped_held hst]
      exact ⟨hst, hhost⟩
    case neg =>
      have hstat {hi lo : Nat} (hl : lo ≤ hi) := (State.leaveTripped_sameFields (s := t) (n := m)).get (apart_leaveFields_stat hl hmn)
      refine ⟨(hstat (by decide)).trans hst, ?_⟩
      exact (congrArg (bitOf · 0) (hstat (by decide))).trans hhost

end Leave

/-! ### The clear of some units -/

section Units
variable {s : State} {cs ds : List Nat}

/-- The units, before the sites that have no trip left leave TRIPPED. -/
def State.untrippedUnits (s : State) (cs ds : List Nat) : State := (s.forL cs (fun c t => t.clearChanTrip c)).forL ds (fun d t => t.clearDpsTrip d)

theorem State.clearUnits_eq : s.clearUnits cs ds = (s.untrippedUnits cs ds).forN 64 (fun n t => t.leaveTripped n) := rfl

theorem State.clearUnits_chan {c : Nat} (hc : c < 1024) :
    (s.clearUnits cs ds).get (Reg.CH_GSTAT.CAUSE c) = (s.forL cs (fun c t => t.clearChanTrip c)).get (Reg.CH_GSTAT.CAUSE c) := by
  rw [State.clearUnits_eq, State.leaveAll_get (Nat.le_of_ble_eq_true rfl) (Nat.le_add_right_of_le (by decide))]
  exact State.forL_keeps (fun t => t.get (Reg.CH_GSTAT.CAUSE c)) ds _ (fun _ _ _ => State.clearDpsTrip_sameFields.get (apart_dps_chan hc))

/-- R343: the channels that are cleared have no cause. -/
theorem State.clearUnits_chan_mem {c : Nat} (hc : c < 1024) (hmem : c ∈ cs) : (s.clearUnits cs ds).get (Reg.CH_GSTAT.CAUSE c) = 0 := by
  rw [State.clearUnits_chan hc]
  refine State.forL_reaches (P := fun _ => True) (Q := fun t => t.get (Reg.CH_GSTAT.CAUSE c) = 0) hmem (fun _ _ _ _ _ => trivial)
    (fun _ _ => State.clearChanTrip_cause) (fun b _ t h => ?_) trivial
  by_cases hb : c = b
  case pos => rw [hb]; exact State.clearChanTrip_cause
  case neg => exact (State.clearChanTrip_sameFields.get (apart_chan_cause hb)).trans h

/-- R343: the others keep their causes. -/
theorem State.clearUnits_chan_not_mem {c : Nat} (hc : c < 1024) (hmem : c ∉ cs) :
    (s.clearUnits cs ds).get (Reg.CH_GSTAT.CAUSE c) = s.get (Reg.CH_GSTAT.CAUSE c) := by
  rw [State.clearUnits_chan hc]
  exact State.forL_keeps (fun t => t.get (Reg.CH_GSTAT.CAUSE c)) cs _ (fun b hb _ =>
    State.clearChanTrip_sameFields.get (apart_chan_cause (fun h => hmem (h ▸ hb))))

/-- R343: the supplies that are cleared have no cause. -/
theorem State.clearUnits_dps_mem {d : Nat} (hds : ∀ d ∈ ds, d < 64) (hmem : d ∈ ds) : (s.clearUnits cs ds).get (Reg.GD_DSTAT.CAUSE d) = 0 := by
  have hd := hds d hmem
  rw [State.clearUnits_eq, State.leaveAll_get (Nat.le_of_ble_eq_true rfl) (Nat.le_add_right_of_le (by decide))]
  refine State.forL_reaches (P := fun _ => True) (Q := fun t => t.get (Reg.GD_DSTAT.CAUSE d) = 0) hmem (fun _ _ _ _ _ => trivial)
    (fun _ _ => State.clearDpsTrip_cause hd) (fun b hb t h => ?_) trivial
  by_cases heq : d = b
  case pos => rw [← heq]; exact State.clearDpsTrip_cause hd
  case neg => exact (State.clearDpsTrip_sameFields.get (apart_dps_cause hd (hds b hb) heq)).trans h

theorem State.clearCmd_clears {p : Port} {idx : Nat} (h : s.allClearable cs ds = true) : s.clearCmd p cs ds idx = s.clearUnits cs ds := if_pos h

theorem State.clearCmd_refused {p : Port} {idx : Nat} (h : s.allClearable cs ds = false) :
    s.clearCmd p cs ds idx = s.reject p Reg.GD_CMD.word Src.GD Lc.TRIP_ACTIVE idx := if_neg (by rw [h]; decide)

end Units

/-! ### The rows -/

section Rows
variable {s : State} {p : Port} (hm : s.mode ≠ Mode.RESET)
include hm

theorem exec_clearCh {c : Fin 1024} : exec (.clearCh p c) s = .next (s.clearCmd p (s.compChans c) [] c).follow :=
  congrArg (fun t : State => Host.Outcome.next t.follow) (State.host_out_of_reset hm _ _ _ _)

theorem exec_clearDps {d : Fin 64} : exec (.clearDps p d) s = .next (s.clearCmd p [] (s.gangChans d) d).follow :=
  congrArg (fun t : State => Host.Outcome.next t.follow) (State.host_out_of_reset hm _ _ _ _)

theorem exec_clearSite {n : Fin 64} : exec (.clearSite p n) s = .next (s.clearCmd p (s.siteChans n) (s.siteSupplies n) n).follow :=
  congrArg (fun t : State => Host.Outcome.next t.follow) (State.host_out_of_reset hm _ _ _ _)

theorem exec_clearAll : exec (.clearAll p) s = .next (s.clearWhatCan (List.range 1024) (List.range 64)).follow :=
  congrArg (fun t : State => Host.Outcome.next t.follow) (State.host_out_of_reset hm _ _ _ _)

end Rows

/-! ### Each command -/

section Commands
variable {s : State} {p : Port}

/-- R343: a clear that is refused leaves the words of the guards, the slices and the supplies. -/
theorem State.reject_guards (a src code idx : Nat) :
    (∀ x : Nat, (s.reject p a src code idx).reg (Reg.CH_GSTAT.word x) = s.reg (Reg.CH_GSTAT.word x)) ∧
      (∀ x : Nat, (s.reject p a src code idx).reg (Reg.GD_DSTAT.word x) = s.reg (Reg.GD_DSTAT.word x)) ∧
      (s.reject p a src code idx).chans = s.chans ∧ (s.reject p a src code idx).dpss = s.dpss := by
  have hlow : ∀ b ∈ reportWords, b < 0x080000 := by decide
  have hword {b : Nat} (hb : 0x080000 ≤ b) : (s.reject p a src code idx).reg b = s.reg b :=
    s.reject_sameWords p a src code idx b (fun h => absurd (hlow b h) (Nat.not_lt.2 hb))
  refine ⟨fun x => hword (Nat.le_add_right_of_le (by decide)), fun x => hword (Nat.le_add_right_of_le (by decide)), ?_, ?_⟩
  · rw [s.reject_frame p a]
  · rw [s.reject_frame p a]

theorem State.flag_of_get {t : State} {f : Fld} (h : t.get f = 0) : t.flag f = false := by
  rw [State.flag, h]
  rfl

/-- Every operation but a change of the structure keeps the site maps. -/
theorem keeps_maps (s : State) : Keeps (fun t => t.maps = s.maps) where
  upd _ _ _ _ _ _ hmaps _ _ _ h := hmaps.trans h
  setReg _ _ h := h
  setShadow _ _ h := h
  latch h := h
  dropRegs _ h := h
  dropHeld _ h := h
  soft h := h

theorem State.clearChanTrip_maps (c : Nat) : (s.clearChanTrip c).maps = s.maps := by
  have := keeps_maps s
  exact State.clearChanTrip_kept (P := fun t => t.maps = s.maps) rfl c

/-- R25, R198, R343: CLEAR_CH of a channel that is its own compound. -/
theorem State.clearUnits_single (c : Fin 1024) : (s.clearUnits [c.val] []).get (Reg.CH_GSTAT.CAUSE c) = 0 ∧
    (s.get (Reg.CH_GSTAT.CAUSE c) ≠ 0 → (s.clearUnits [c.val] []).flag (Reg.CH_GSTAT.TRIPPED c) = false ∧
      (s.clearUnits [c.val] []).flag (Reg.CH_STAT.TRIPPED c) = false) ∧
    (∀ n : Fin 64, s.siteChans n = [c.val] → s.siteSupplies n = [] → s.siteState n = Site.TRIPPED →
      (s.clearUnits [c.val] []).siteState n = Site.HELD ∧ bitOf ((s.clearUnits [c.val] []).get (Reg.SQ_STAT.CAUSES n)) 0 = true) := by
  have heq : s.clearUnits [c.val] [] = (s.clearChanTrip c).forN 64 (fun n t => t.leaveTripped n) := rfl
  have hget {f : Fld} (hf : f ∈ tripFields c) (hl : f.lo ≤ f.hi) (ha : 0x080000 ≤ f.addr) (h : s.get (Reg.CH_GSTAT.CAUSE c) ≠ 0) :
      (s.clearUnits [c.val] []).get f = 0 := by
    rw [heq, State.leaveAll_get hl ha]
    exact State.clearChanTrip_cleared h f hf
  refine ⟨State.clearUnits_chan_mem c.isLt (List.mem_singleton_self _), fun h => ⟨?_, ?_⟩, fun n hchans hdps hst => ?_⟩
  · exact State.flag_of_get (hget (by simp [tripFields]) (Nat.le_of_ble_eq_true rfl) (Nat.le_add_right_of_le (by decide)) h)
  · exact State.flag_of_get (hget (by simp [tripFields]) (Nat.le_of_ble_eq_true rfl) (Nat.le_add_right_of_le (by decide)) h)
  · have hmap : (s.clearChanTrip c).map n = s.map n := by rw [State.map, State.clearChanTrip_maps, ← State.map]
    rw [heq]
    exact State.leaveAll_single n.isLt ((State.clearChanTrip_sameFields.get apart_chan_state).trans hst)
      (by rw [State.siteChans, hmap]; exact hchans) (by rw [State.siteSupplies, hmap]; exact hdps) State.clearChanTrip_cause

/-- R327, R343: CLEAR_DPS of a supply that is its own gang. -/
theorem State.clearUnits_single_dps (d : Fin 64) (h : s.get (Reg.GD_DSTAT.CAUSE d) ≠ 0) :
    (s.clearUnits [] [d.val]).get (Reg.GD_DSTAT.CAUSE d) = 0 ∧ (s.clearUnits [] [d.val]).flag (Reg.GD_DSTAT.TRIPPED d) = false ∧
      (s.clearUnits [] [d.val]).flag (Reg.DPS_STAT.TRIPPED d) = false ∧
      (s.flag (Reg.DPS_SET.CONN d) = true → (s.clearUnits [] [d.val]).flag (Reg.DPS_STAT.CONN d) = true ∧
        ((s.clearUnits [] [d.val]).dps d).target = 0 ∧ ((s.clearUnits [] [d.val]).dps d).goal = s.get (Reg.DPS_SET.SET d) * 125) := by
  have heq : s.clearUnits [] [d.val] = (s.clearDpsTrip d).forN 64 (fun n t => t.leaveTripped n) := rfl
  have hget {f : Fld} (hl : f.lo ≤ f.hi) (ha : 0x080000 ≤ f.addr) : (s.clearUnits [] [d.val]).get f = (s.clearDpsTrip d).get f := by
    rw [heq, State.leaveAll_get hl ha]
  have hdps : (s.clearUnits [] [d.val]).dps d = (s.clearDpsTrip d).dps d := by rw [heq, State.dps, State.leaveAll_dpss, ← State.dps]
  have hzero := State.clearDpsTrip_cleared d.isLt h
  refine ⟨?_, State.flag_of_get ?_, State.flag_of_get ?_, fun hconn => ?_⟩
  · exact (hget (Nat.le_of_ble_eq_true rfl) (Nat.le_add_right_of_le (by decide))).trans (hzero _ (by simp [dpsTripFields]))
  · exact (hget (Nat.le_of_ble_eq_true rfl) (Nat.le_add_right_of_le (by decide))).trans (hzero _ (by simp [dpsTripFields]))
  · exact (hget (Nat.le_of_ble_eq_true rfl) (Nat.le_add_right_of_le (by decide))).trans (hzero _ (by simp [dpsTripFields]))
  · rw [hdps, State.flag, hget (Nat.le_of_ble_eq_true rfl) (Nat.le_add_right_of_le (by decide)), ← State.flag]
    exact State.clearDpsTrip_from_zero d.isLt h hconn

/-- R343, R344: which channels CLEAR_ALL clears. -/
theorem State.clearWhatCan_chan (c : Fin 1024) :
    (s.chClearable c = true → bitOf (s.get (Reg.CH_GSTAT.CAUSE c)) 7 = false →
      (s.clearWhatCan (List.range 1024) (List.range 64)).get (Reg.CH_GSTAT.CAUSE c) = 0) ∧
    (s.chClearable c = false → (s.clearWhatCan (List.range 1024) (List.range 64)).get (Reg.CH_GSTAT.CAUSE c) = s.get (Reg.CH_GSTAT.CAUSE c)) := by
  unfold State.clearWhatCan
  dsimp only
  refine ⟨fun hclear hlink => ?_, fun hclear => State.clearUnits_chan_not_mem c.isLt (by simp [hclear])⟩
  by_cases h0 : s.get (Reg.CH_GSTAT.CAUSE c) = 0
  case pos => exact (State.clearUnits_chan_not_mem c.isLt (by simp [h0])).trans h0
  case neg => exact State.clearUnits_chan_mem c.isLt (by simp [hclear, hlink, h0])

end Commands

/-- Settles O33, command by command. -/
theorem guardClears : Obligations.GuardClears := by
  unfold Obligations.GuardClears
  refine ⟨fun s p c hm => ⟨fun hall hown => ?_, fun hall => ?_⟩, fun s p d hm => ⟨fun hall hown h => ?_, fun hall => ?_⟩,
    fun s p n hm hcs hds => ⟨fun hall => ?_, fun hall => ?_⟩, fun s p hm => ⟨_, exec_clearAll hm, State.clearWhatCan_chan⟩⟩
  case refine_1 =>
    rw [exec_clearCh hm, State.clearCmd_clears hall, hown]
    exact ⟨_, rfl, State.clearUnits_single c⟩
  case refine_2 =>
    rw [exec_clearCh hm, State.clearCmd_refused hall]
    obtain ⟨hch, -, hchans, hdpss⟩ := State.reject_guards (s := s) (p := p) Reg.GD_CMD.word Src.GD Lc.TRIP_ACTIVE c
    exact ⟨_, rfl, fun x => hch x, hchans, hdpss⟩
  case refine_3 =>
    rw [exec_clearDps hm, State.clearCmd_clears hall, hown]
    exact ⟨_, rfl, State.clearUnits_single_dps d h⟩
  case refine_4 =>
    rw [exec_clearDps hm, State.clearCmd_refused hall]
    obtain ⟨-, hgd, -, hdpss⟩ := State.reject_guards (s := s) (p := p) Reg.GD_CMD.word Src.GD Lc.TRIP_ACTIVE d
    exact ⟨_, rfl, fun x => hgd x, hdpss⟩
  case refine_5 =>
    rw [exec_clearSite hm, State.clearCmd_clears hall]
    exact ⟨_, rfl, fun c hc => State.clearUnits_chan_mem (hcs c hc) hc, fun d hd => State.clearUnits_dps_mem hds hd⟩
  case refine_6 =>
    rw [exec_clearSite hm, State.clearCmd_refused hall]
    obtain ⟨hch, -, -, hdpss⟩ := State.reject_guards (s := s) (p := p) Reg.GD_CMD.word Src.GD Lc.TRIP_ACTIVE n
    exact ⟨_, rfl, fun x => hch x, hdpss⟩

end Sys2Proof.Machine
end

section
/-! SUPPORT. What a report changes: an entry of the trouble log, a cause of ALERT_N. -/

namespace Sys2Proof.Machine

section
variable {s t : State} {src code det cls i : Nat}

/-- The field of the cause `i` of ALERT_N. -/
def alertField (i : Nat) : Fld := ⟨0x004002, i, i⟩

theorem State.log_sameFields : s.SameFields [Reg.LOG_STAT.DROPPED] (s.log src code det cls) := by
  unfold State.log
  exact ite_kept (fun _ => State.SameFields.set _ _ (by decide) (by decide) (by simp)) fun _ => State.SameFields.of_regs rfl

theorem State.log_frame : s.log src code det cls = { s with regs := (s.log src code det cls).regs, logWait := (s.log src code det cls).logWait } := by
  unfold State.log
  split <;> rfl

/-- What a cause of ALERT_N does: it is pending, and with it the interrupt unless a mask holds it. -/
theorem State.alert_cases (s : State) (i : Nat) : s.alert i = s ∧ s.flag (alertField i) = true ∨
    s.alert i = s.set (alertField i) 1 ∨ s.alert i = (s.set (alertField i) 1).intr i := by
  unfold State.alert
  dsimp only
  split
  next h => exact .inl ⟨rfl, h⟩
  next =>
    split
    · exact .inr (.inl rfl)
    · exact .inr (.inr rfl)

theorem State.alert_sameFields (hi : i < 128) : s.SameFields [alertField i, intrField i] (s.alert i) := by
  have hset : s.SameFields [alertField i, intrField i] (s.set (alertField i) 1) := State.SameFields.set _ _ hi le_rfl (by simp)
  obtain ⟨heq, _⟩ | heq | heq := s.alert_cases i
  · rw [heq]; exact State.SameFields.refl
  · rw [heq]; exact hset
  · rw [heq]; exact hset.snoc ((State.intr_sameFields hi).mono (by simp))

theorem State.setMsix_reg (m a : Nat) : (s.setMsix m).reg a = s.reg a := rfl

/-- A word other than CP_ALERT and HL_INT stays. -/
theorem State.alert_word {a : Nat} (halert : a ≠ Reg.CP_ALERT.word) (hint : a ≠ Reg.HL_INT.word) : (s.alert i).reg a = s.reg a := by
  have hset : (s.set (alertField i) 1).reg a = s.reg a := State.reg_set_other (f := alertField i) 1 halert
  obtain ⟨heq, _⟩ | heq | heq := s.alert_cases i
  · rw [heq]
  · rw [heq, hset]
  · obtain ⟨h, _⟩ | ⟨m, h⟩ := (s.set (alertField i) 1).intr_cases i
    · rw [heq, h, hset]
    · rw [heq, h, State.setMsix_reg, State.reg_set_other (f := intrField i) 1 hint, hset]

theorem State.alert_msixFrame : s.MsixFrame (s.alert i) := by
  obtain ⟨heq, _⟩ | heq | heq := s.alert_cases i
  · rw [heq]; exact State.MsixFrame.refl
  · rw [heq]; exact State.MsixFrame.refl.set _ _
  · rw [heq]; exact (State.MsixFrame.refl.set _ _).intr _

theorem State.flag_of_ne {f : Fld} (h : t.get f ≠ 0) : t.flag f = true := by rw [State.flag, decide_eq_true h]

theorem State.flag_set_one (f : Fld) (hh : f.hi < 128) (hl : f.lo ≤ f.hi) : (s.set f 1).flag f = true := by
  have hwidth : 1 < 2 ^ f.width := Nat.one_lt_two_pow (by rw [Fld.width]; omega)
  exact State.flag_of_ne (by rw [State.get_set_same _ _ hh hl, Nat.mod_eq_of_lt hwidth]; decide)

theorem State.alert_flag (hi : i < 128) : (s.alert i).flag (alertField i) = true := by
  have hone := State.flag_set_one (s := s) (alertField i) hi le_rfl
  obtain ⟨heq, h⟩ | heq | heq := s.alert_cases i
  · rw [heq, h]
  · rw [heq, hone]
  · rw [heq, ((State.intr_sameFields hi).flag ?_), hone]
    simp only [Fld.apart_cons, Fld.apart_nil, alertField, intrField]
    omega

theorem State.bitOf_get (a hi lo k : Nat) (h : lo + k ≤ hi) : bitOf (s.get ⟨a, hi, lo⟩) k = s.flag ⟨a, lo + k, lo + k⟩ := by
  have hk : k < hi + 1 - lo := by omega
  have hwidth : lo + k + 1 - (lo + k) = 1 := by omega
  simp only [bitOf, State.flag, State.get, wget, bitsOf, Nat.testBit_mod_two_pow, hk, decide_true, Bool.true_and, Nat.testBit_shiftRight, hwidth, pow_one]
  rw [Nat.testBit_eq_decide_div_mod_eq, Nat.shiftRight_eq_div_pow]
  rcases Nat.mod_two_eq_zero_or_one ((s.reg a).toNat / 2 ^ (lo + k)) with h | h <;> simp [h]

theorem State.alertPending_eq (hi : i < 6) : s.alertPending i = s.flag (alertField i) := by
  rw [State.alertPending, Reg.CP_ALERT.PEND, State.bitOf_get 0x004002 5 0 i (by omega), Nat.zero_add]
  rfl
end
end Sys2Proof.Machine
end

section
/-! SUPPORT. What the outputs of the device, its loops and its calibration leave alone while it leaves operation or changes its mode: the words of the
device's mode, the causes of ALERT_N, the states of the sites, the arming of the channels, and what runs beside them. -/

namespace Sys2Proof.Machine

/-- The clock, the structural operation and the scheduled request. -/
def State.bearings (s : State) : Word64 × Option SiOp × Option (Nat × Nat) := (s.beat, s.siOp, s.sched)

/-- No committed action waits, and neither a PMU nor a TDC measures. -/
def State.Idle (s : State) : Prop := s.pendActs = [] ∧ s.pmuMeas = [] ∧ s.tdcs = []

/-- From `s` to `t` the words of `W` stay, and so does what runs beside the registers. -/
structure State.Steady (W : Nat → Bool) (s t : State) : Prop where
  words : ∀ a, W a = true → t.reg a = s.reg a
  bearings : t.bearings = s.bearings
  idle : s.Idle → t.Idle
  port : s.mpOp = none → t.mpOp = none

/-- The words of the mode of the device: DEV_MODE, DEV_STAT and the words up to DEV_STST. -/
def devWord (a : Nat) : Bool := decide (a < 7)

/-- The words of the mode, CP_ALERT, MP_STAT, SQ_STAT of every site and CH_CTRL of every channel. -/
def standWord (a : Nat) : Bool :=
  decide (a < 7 ∨ a = 0x004002 ∨ a = 0x004801 ∨ (0x031000 ≤ a ∧ a < 0x032000 ∧ a % 0x40 = 0x22) ∨ (0x080000 ≤ a ∧ a < 0x090000 ∧ a % 0x40 = 0))

/-- The words of `W` but `a`. -/
def exceptWord (W : Nat → Bool) (a b : Nat) : Bool := W b && b != a

section
variable {W V : Nat → Bool} {s t u : State} {α : Type}

theorem State.Steady.refl (s : State) : s.Steady W s := ⟨fun _ _ => rfl, rfl, id, id⟩

theorem State.Steady.trans (h : s.Steady W t) (h' : t.Steady W u) : s.Steady W u :=
  ⟨fun a ha => (h'.words a ha).trans (h.words a ha), h'.bearings.trans h.bearings, h'.idle ∘ h.idle, h'.port ∘ h.port⟩

theorem State.Steady.mono (h : s.Steady W t) (hV : ∀ a, V a = true → W a = true) : s.Steady V t := ⟨fun a ha => h.words a (hV a ha), h.bearings, h.idle, h.port⟩

/-- An update that touches no register. -/
theorem State.Steady.upd (h : s.Steady W t) (hr : u.regs = t.regs) (hb : u.bearings = t.bearings) (hi : t.Idle → u.Idle)
    (hp : t.mpOp = none → u.mpOp = none) : s.Steady W u :=
  h.trans ⟨fun _ _ => by rw [State.reg, hr]; rfl, hb, hi, hp⟩

theorem State.Steady.setReg (h : s.Steady W t) {a : Nat} (ha : W a = false) (w : Word) : s.Steady W (t.setReg a w) :=
  h.trans ⟨fun b hb => State.reg_setReg_other _ (fun hab => by simp [← hab, hb] at ha), rfl, id, id⟩

theorem State.Steady.set (h : s.Steady W t) {f : Fld} (ha : W f.addr = false) (v : Nat) : s.Steady W (t.set f v) := h.setReg ha _

theorem State.Steady.inc (h : s.Steady W t) {f : Fld} (ha : W f.addr = false) : s.Steady W (t.inc f) := h.set ha _

theorem State.Steady.forL (h : s.Steady W t) {l : List α} {f : α → State → State} (hf : ∀ a ∈ l, ∀ u, s.Steady W u → s.Steady W (f a u)) :
    s.Steady W (t.forL l f) := State.forL_kept_mem hf h

theorem State.Steady.forN (h : s.Steady W t) {k : Nat} {f : Nat → State → State} (hf : ∀ i < k, ∀ u, s.Steady W u → s.Steady W (f i u)) :
    s.Steady W (t.forN k f) := h.forL fun i hi => hf i (List.mem_range.1 hi)

theorem State.Steady.now (h : s.Steady W t) : t.now = s.now := congrArg (fun b => b.1.toNat) h.bearings

theorem State.Steady.siOp (h : s.Steady W t) : t.siOp = s.siOp := congrArg (fun b => b.2.1) h.bearings
theorem State.Steady.sched (h : s.Steady W t) : t.sched = s.sched := congrArg (fun b => b.2.2) h.bearings

theorem State.Steady.get (h : s.Steady W t) {f : Fld} (ha : W f.addr = true) : t.get f = s.get f := by rw [State.get, h.words _ ha]; rfl

theorem State.Steady.flag (h : s.Steady W t) {f : Fld} (ha : W f.addr = true) : t.flag f = s.flag f := by rw [State.flag, h.get ha]; rfl

theorem exceptWord_le (a b : Nat) : exceptWord W a b = true → W b = true := fun h => (Bool.and_eq_true _ _ ▸ h).1

theorem exceptWord_self (a : Nat) : exceptWord W a a = false := by simp [exceptWord]

theorem exceptWord_of_false {a b : Nat} (h : W b = false) : exceptWord W a b = false := by simp [exceptWord, h]

theorem exceptWord_of_ne {a b : Nat} (h : W b = true) (hab : b ≠ a) : exceptWord W a b = true := by simp [exceptWord, h, hab]
end

/-! ### What is stored beside the registers -/

/-- Pattern memory, the non-volatile memory and the control store stay. -/
def State.SameStore (s t : State) : Prop := t.mem = s.mem ∧ t.nvm = s.nvm ∧ t.cs = s.cs

theorem keeps_sameStore (s : State) : Keeps s.SameStore where
  upd _ _ _ hmem hnvm hcs _ _ _ _ h := ⟨hmem.trans h.1, hnvm.trans h.2.1, hcs.trans h.2.2⟩
  setReg _ _ h := h
  setShadow _ _ h := h
  latch h := h
  dropRegs _ h := h
  dropHeld _ h := h
  soft h := h

theorem keepsMaps_sameStore (s : State) : KeepsMaps s.SameStore where
  setMaps _ _ _ h := h

/-- No clone group exists. -/
def State.Cloneless (s : State) : Prop := s.clones = []

theorem keeps_cloneless : Keeps State.Cloneless where
  upd _ _ _ _ _ _ _ hclones _ _ h := hclones.trans h
  setReg _ _ h := h
  setShadow _ _ h := h
  latch h := h
  dropRegs _ h := h
  dropHeld _ h := h
  soft h := h

/-! ### The words of the blocks -/

section
variable (i : Nat)

theorem devWord_of_le {a : Nat} (h : 7 ≤ a) : devWord a = false := decide_eq_false (by omega)
theorem standWord_of_devWord {a : Nat} (h : devWord a = true) : standWord a = true := by
  simp only [devWord, standWord, decide_eq_true_eq] at h ⊢
  exact .inl h

theorem standWord_SQ_STAT {n : Nat} (hn : n < 64) : standWord (Reg.SQ_STAT.word n) = true := decide_eq_true (by simp only [Reg.SQ_STAT.word]; omega)
theorem standWord_CH_CTRL {c : Nat} (hc : c < 1024) : standWord (Reg.CH_CTRL.word c) = true := decide_eq_true (by simp only [Reg.CH_CTRL.word]; omega)

theorem standWord_CL_SLOT_STAT : standWord (Reg.CL_SLOT_STAT.word i) = false := decide_eq_false (by simp only [Reg.CL_SLOT_STAT.word]; omega)
theorem standWord_SQ_TOKEN : standWord (Reg.SQ_TOKEN.word i) = false := decide_eq_false (by simp only [Reg.SQ_TOKEN.word]; omega)
theorem standWord_SO_STR_STAT : standWord (Reg.SO_STR_STAT.word i) = false := decide_eq_false (by simp only [Reg.SO_STR_STAT.word]; omega)
theorem standWord_SO_SITE_STAT : standWord (Reg.SO_SITE_STAT.word i) = false := decide_eq_false (by simp only [Reg.SO_SITE_STAT.word]; omega)
theorem standWord_PM_LEASE (hi : i < 256) : standWord (Reg.PM_LEASE.word i) = false := decide_eq_false (by simp only [Reg.PM_LEASE.word]; omega)
theorem standWord_EE_STAT : standWord (Reg.EE_STAT.word i) = false := decide_eq_false (by simp only [Reg.EE_STAT.word]; omega)
theorem standWord_TM_STAT : standWord (Reg.TM_STAT.word i) = false := decide_eq_false (by simp only [Reg.TM_STAT.word]; omega)
theorem standWord_CH_STAT : standWord (Reg.CH_STAT.word i) = false := decide_eq_false (by simp only [Reg.CH_STAT.word]; omega)
theorem standWord_CH_CAPT : standWord (Reg.CH_CAPT.word i) = false := decide_eq_false (by simp only [Reg.CH_CAPT.word]; omega)
theorem standWord_CH_LVLSTAT : standWord (Reg.CH_LVLSTAT.word i) = false := decide_eq_false (by simp only [Reg.CH_LVLSTAT.word]; omega)
theorem standWord_CH_PMUSTAT : standWord (Reg.CH_PMUSTAT.word i) = false := decide_eq_false (by simp only [Reg.CH_PMUSTAT.word]; omega)
theorem standWord_CH_GSTAT : standWord (Reg.CH_GSTAT.word i) = false := decide_eq_false (by simp only [Reg.CH_GSTAT.word]; omega)
theorem standWord_CH_GCHK : standWord (Reg.CH_GCHK.word i) = false := decide_eq_false (by simp only [Reg.CH_GCHK.word]; omega)
/-- The supplies, the sources, the guards, the lanes and calibration have their words past the channels. -/
theorem standWord_of_le {a : Nat} (h : 0x0A0000 ≤ a) : standWord a = false := decide_eq_false (by omega)
theorem standWord_DPS_SET : standWord (Reg.DPS_SET.word i) = false := standWord_of_le (by simp only [Reg.DPS_SET.word]; omega)
theorem standWord_DPS_STAT : standWord (Reg.DPS_STAT.word i) = false := standWord_of_le (by simp only [Reg.DPS_STAT.word]; omega)
theorem standWord_DPS_CNT : standWord (Reg.DPS_CNT.word i) = false := standWord_of_le (by simp only [Reg.DPS_CNT.word]; omega)
theorem standWord_WF_STAT : standWord (Reg.WF_STAT.word i) = false := standWord_of_le (by simp only [Reg.WF_STAT.word]; omega)
theorem standWord_DL_CTRL : standWord (Reg.DL_CTRL.word i) = false := standWord_of_le (by simp only [Reg.DL_CTRL.word]; omega)
theorem standWord_DL_STAT : standWord (Reg.DL_STAT.word i) = false := standWord_of_le (by simp only [Reg.DL_STAT.word]; omega)
theorem standWord_GD_CSTAT : standWord Reg.GD_CSTAT.word = false := standWord_of_le (by decide)

end

/-! ### Channels -/

section
variable {s t : State}


theorem State.Steady.refreshChan (h : s.Steady standWord t) (c : Nat) : s.Steady standWord (t.refreshChan c) := h.setReg (standWord_CH_STAT c) _

theorem State.Steady.setChan {W : Nat → Bool} (h : s.Steady W t) (c : Nat) (k : Chan) : s.Steady W (t.setChan c k) := h.upd rfl rfl id id

theorem State.Steady.driveOff (h : s.Steady standWord t) (c : Nat) : s.Steady standWord (t.driveOff c) := (h.setChan c _).refreshChan c

theorem State.Steady.busTrigger (h : s.Steady standWord t) (c : Nat) : s.Steady standWord (t.busTrigger c) :=
  ite_kept (fun _ => ite_kept (fun _ => h) fun _ => (h.setChan c _).driveOff c)
    fun _ => ite_kept (fun _ => ((h.setChan c _).set (standWord_CH_STAT c) 0).refreshChan c) fun _ => h

theorem State.Steady.refreshPmu (h : s.Steady standWord t) (c : Nat) : s.Steady standWord (t.refreshPmu c) :=
  ite_kept (fun _ => h.set (standWord_CH_PMUSTAT c) _) fun _ => (h.set (standWord_CH_PMUSTAT c) _).set (standWord_CH_PMUSTAT c) 0

theorem State.Steady.presentIdle (h : s.Steady standWord t) (c : Nat) : s.Steady standWord (t.presentIdle c) := by
  unfold State.presentIdle
  split
  · exact h
  · exact ite_kept (fun _ => (h.setChan c _).refreshChan c) fun _ => h

theorem State.Steady.armHook (h : s.Steady standWord t) (was : Bool) (c : Nat) : s.Steady standWord (t.armHook was c) :=
  have h1 : s.Steady standWord (if t.flag (Reg.CH_CTRL.OUT_ARM c) && !was then
      (t.setChan c { t.chan c with driveMem := false, level := 0, edges := [], shape := 0, keep := 4 }).set (Reg.CH_CAPT.COUNT c) 0
    else if !t.flag (Reg.CH_CTRL.OUT_ARM c) && was then t.setChan c { t.chan c with level := 0, edges := [], shape := 0, keep := 4 } else t) :=
    ite_kept (fun _ => (h.setChan c _).set (standWord_CH_CAPT c) 0) fun _ => ite_kept (fun _ => h.setChan c _) fun _ => h
  (((h1.busTrigger c).refreshChan c).refreshPmu c).presentIdle c
end

/-! ### Supplies, sources, lanes and contact checks -/

section
variable {s t : State}

theorem State.Steady.setDps {W : Nat → Bool} (h : s.Steady W t) (d : Nat) (p : Dps) : s.Steady W (t.setDps d p) := h.upd rfl rfl id id

theorem State.Steady.refreshDps (h : s.Steady standWord t) (d : Nat) : s.Steady standWord (t.refreshDps d) :=
  ((h.set (standWord_DPS_STAT d) _).set (standWord_DPS_STAT d) _).set (standWord_DPS_STAT d) _

theorem State.Steady.refreshDpsBusy (h : s.Steady standWord t) (d : Nat) : s.Steady standWord (t.refreshDpsBusy d) := h.set (standWord_DPS_STAT d) _

theorem State.Steady.rampBegin (h : s.Steady standWord t) (d : Nat) : s.Steady standWord (t.rampBegin d) :=
  State.Steady.refreshDps (State.Steady.setDps (ite_kept (fun _ => h.set (standWord_DPS_CNT d) _) fun _ => h) d _) d

theorem State.Steady.dpsForceOff (h : s.Steady standWord t) (d : Nat) : s.Steady standWord (t.dpsForceOff d) :=
  have h1 : s.Steady standWord ((t.setReg (Reg.DPS_SET.word d) (wput (t.reg (Reg.DPS_SET.word d)) 32 32 0)).setShadow (Reg.DPS_SET.word d)
      (wput (t.shadowReg (Reg.DPS_SET.word d)) 32 32 0)) := (h.setReg (standWord_DPS_SET d) _).upd rfl rfl id id
  (h1.setDps d _).rampBegin d

theorem State.Steady.refreshBus (h : s.Steady standWord t) (i : Nat) : s.Steady standWord (t.refreshBus i) := h.forL fun c _ _ hu => hu.refreshChan c

theorem State.Steady.wfOff (h : s.Steady standWord t) (i : Nat) : s.Steady standWord (t.wfOff i) :=
  have h1 : s.Steady standWord (t.setWf i { t.wf i with connectAt := none, t0 := none, deferLoad := false, ctrl := wput (t.wf i).ctrl 1 0 0 }) :=
    h.upd rfl rfl id id
  (((h1.set (standWord_WF_STAT i) 0).set (standWord_WF_STAT i) 0).set (standWord_WF_STAT i) 0).refreshBus i

theorem State.Steady.setLaneState (h : s.Steady standWord t) (l st : Nat) : s.Steady standWord (t.setLaneState l st) :=
  have h1 : s.Steady standWord (t.ltestFreeze l) := h.upd rfl rfl id id
  have h2 := ite_kept (P := s.Steady standWord) (c := t.laneState l = Ln.UP ∧ st ≠ Ln.UP) (fun _ => h1.set (f := Reg.DL_STAT.SYNC l) (standWord_DL_STAT l) 0) fun _ => h
  State.Steady.set (ite_kept (fun _ => h2.set (standWord_DL_STAT l) 0) fun _ => h2) (standWord_DL_STAT l) st

theorem State.Steady.laneStop (h : s.Steady standWord t) (l : Nat) : s.Steady standWord (t.laneStop l) :=
  have h1 : s.Steady standWord ((t.setLaneState l Ln.OFF).setLane l Lane.init) := (h.setLaneState l Ln.OFF).upd rfl rfl id id
  ((((h1.set (standWord_DL_STAT l) 0).set (standWord_DL_STAT l) 0).set (standWord_DL_STAT l) 0).set (standWord_DL_STAT l) 0).set (standWord_DL_STAT l) 0

theorem State.Steady.laneOff (h : s.Steady standWord t) (l : Nat) : s.Steady standWord (t.laneOff l) :=
  have h1 : s.Steady standWord ((t.setReg (Reg.DL_CTRL.word l) (wput (t.reg (Reg.DL_CTRL.word l)) 1 0 0)).setShadow (Reg.DL_CTRL.word l)
      (wput (t.shadowReg (Reg.DL_CTRL.word l)) 1 0 0)) := (h.setReg (standWord_DL_CTRL l) _).upd rfl rfl id id
  h1.laneStop l

theorem State.Steady.contactRelease (h : s.Steady standWord t) (cs : List Nat) : s.Steady standWord (t.contactRelease cs) :=
  have h1 : s.Steady standWord { t with contact := none } := h.upd rfl rfl id id
  h1.forL fun c _ _ hu => ((((hu.set (standWord_CH_GSTAT c) 0).refreshChan c).busTrigger c).refreshPmu c).presentIdle c

theorem State.Steady.contactAbort (h : s.Steady standWord t) : s.Steady standWord t.contactAbort := by
  unfold State.contactAbort
  split
  · exact h
  · next k _ =>
    have hpins := (h.contactRelease k.chans).forL (l := (t.contactRelease k.chans).maps)
      (f := fun p t => t.forL (p.2.pins.map Pin.chan) (fun c u => u.set (Reg.CH_GCHK.RESULT c) 0xFF))
      fun _ _ _ hu => hu.forL fun c _ _ hv => hv.set (standWord_CH_GCHK c) _
    exact (State.Steady.set (State.Steady.forL hpins fun d _ u hu => hu.forL fun m _ _ hv => (hv.setDps m _).refreshDpsBusy m) standWord_GD_CSTAT _).set
      standWord_GD_CSTAT _

theorem State.Steady.checkStart (h : s.Steady standWord t) (d : Nat) (host : Bool) : s.Steady standWord (t.checkStart d host) :=
  h.forL fun m _ _ hu => (hu.setDps m _).refreshDpsBusy m

theorem State.Steady.contactStart (h : s.Steady standWord t) : s.Steady standWord t.contactStart :=
  have h1 : s.Steady standWord { t with contact := some ⟨t.contactChans, t.contactSupplies, t.now + t.get Reg.GD_CONTACT.CSETTLE, t.now + t.contactBeats⟩ } :=
    h.upd rfl rfl id id
  State.Steady.forL ((h1.setReg standWord_GD_CSTAT _).forL fun c _ _ hu => ((hu.set (standWord_CH_GSTAT c) 1).refreshChan c).refreshPmu c)
    fun d _ _ hu => hu.checkStart d false

end

/-! ### Reports, clauses and streams -/

section
variable {W : Nat → Bool} {s t : State}

theorem State.Steady.setMsix (h : s.Steady W t) (m : Nat) : s.Steady W (t.setMsix m) := h.upd rfl rfl id id

theorem State.Steady.intr (h : s.Steady W t) (hW : W (intrField 0).addr = false) (src : Nat) : s.Steady W (t.intr src) := by
  obtain ⟨heq, _⟩ | ⟨m, heq⟩ := t.intr_cases src
  · rw [heq]; exact h
  · rw [heq]; exact (h.set (f := intrField src) hW 1).setMsix m

theorem State.Steady.log (h : s.Steady W t) (hW : W Reg.LOG_STAT.word = false) (src code det cls : Nat) : s.Steady W (t.log src code det cls) :=
  by unfold State.log; exact ite_kept (fun _ => h.set hW _) fun _ => h.upd rfl rfl id id

theorem standWord_HL_INT : standWord (intrField 0).addr = false := rfl
theorem standWord_LOG_STAT : standWord Reg.LOG_STAT.word = false := rfl

theorem State.Steady.setSeq (h : s.Steady W t) (n : Nat) (q : Seq) : s.Steady W (t.setSeq n q) := h.upd rfl rfl id id
theorem State.Steady.setStream (h : s.Steady W t) (x : Nat) (q : Stream) : s.Steady W (t.setStream x q) := h.upd rfl rfl id id

theorem State.Steady.countResult (h : s.Steady standWord t) (result : Nat) : s.Steady standWord (t.countResult result) :=
  ite_kept (fun _ => h.set rfl _) fun _ => ite_kept (fun _ => h.set rfl _) fun _ => ite_kept (fun _ => h.set rfl _) fun _ => h

theorem State.Steady.tellOwner (h : s.Steady standWord t) (k result : Nat) : s.Steady standWord (t.tellOwner k result) := by
  unfold State.tellOwner
  split
  · exact h
  · split
    · exact ite_kept (fun _ => h.setSeq _ _) fun _ => h
    · exact h

theorem State.Steady.setSlot (h : s.Steady W t) (k : Nat) (c : ClSlot) : s.Steady W (t.setSlot k c) := h.upd rfl rfl id id

theorem State.Steady.freeSlot (h : s.Steady standWord t) (k : Nat) : s.Steady standWord (t.freeSlot k) :=
  (h.setReg (standWord_CL_SLOT_STAT k) 0).setSlot k _

theorem State.Steady.endClause (h : s.Steady standWord t) (k result : Nat) : s.Steady standWord (t.endClause k result) := by
  have h1 := ite_kept (P := s.Steady standWord) (c := result = Cl.OK) (fun _ => h) fun _ => (show s.Steady standWord (t.restoreTenses k) from h.upd rfl rfl id id)
  have h2 := (ite_kept (P := s.Steady standWord) (c := (t.slot k).dec.isNone = true)
    (fun _ => h1.set (f := Reg.CL_SLOT_STAT.DEC_BEAT k) (standWord_CL_SLOT_STAT k) (t.now % 2 ^ 32)) fun _ => h1).countResult result
  have h3 := ite_kept (P := s.Steady standWord) (c := result = Cl.OK) (fun _ => h2) fun _ =>
    h2.log standWord_LOG_STAT Src.CL (Lc.clause result) (clauseDetail k (t.slotTag k) (t.get (Reg.CL_SLOT_STAT.FIRST_BAD k))) 5
  rw [State.endClause]
  split
  · exact (h3.tellOwner k result).freeSlot k
  · have h4 := (h3.set (f := Reg.CL_SLOT_STAT.RESULT k) (standWord_CL_SLOT_STAT k) result).set (f := Reg.CL_SLOT_STAT.STATE k) (standWord_CL_SLOT_STAT k) Slot.DONE
    exact (h4.setSlot k { t.slot k with undo := [] }).intr standWord_HL_INT Intr.CLAUSE_DONE

theorem State.Steady.dropPend (h : s.Steady W t) (p : PendAct) : s.Steady W (t.dropPend p) := by
  unfold State.dropPend
  split <;> exact h.upd rfl rfl id id

end

/-- The words of `standWord` but SQ_STAT. -/
def deviceWord (a : Nat) : Bool := standWord a && !(decide (0x031000 ≤ a ∧ a < 0x032000))

section
variable {W : Nat → Bool} {s t : State}

theorem standWord_of_deviceWord {a : Nat} (h : deviceWord a = true) : standWord a = true := (Bool.and_eq_true _ _ ▸ h).1

theorem deviceWord_SQ_STAT {n : Nat} (hn : n < 64) : deviceWord (Reg.SQ_STAT.word n) = false := by
  have hsq : decide (0x031000 ≤ Reg.SQ_STAT.word n ∧ Reg.SQ_STAT.word n < 0x032000) = true := decide_eq_true (by simp only [Reg.SQ_STAT.word]; omega)
  rw [deviceWord, hsq, Bool.not_true, Bool.and_false]

/-- R9: the clauses that a site has open are forgotten; the site stays in its state. -/
theorem State.siteState_setOpen (n m : Nat) (k : Option Nat) (span : Bool) : (t.setOpen n k span).siteState m = t.siteState m :=
  State.get_set_other (Reg.SQ_STAT.CLAUSE n) (Reg.SQ_STAT.STATE m) _ (Nat.le_of_ble_eq_true rfl) (Nat.le_of_ble_eq_true rfl) (.inl (Nat.le_of_ble_eq_true rfl))

theorem State.Steady.setOpen (h : s.Steady deviceWord t) {n : Nat} (hn : n < 64) (k : Option Nat) (span : Bool) :
    s.Steady deviceWord (t.setOpen n k span) := (h.setSeq n _).set (deviceWord_SQ_STAT hn) _

theorem State.Steady.refreshPending (h : s.Steady standWord t) : s.Steady standWord t.refreshPending :=
  h.forN fun n _ _ hu => hu.set (standWord_SO_SITE_STAT n) _

theorem State.Steady.dropActs (h : s.Steady W t) : s.Steady W { t with pendActs := [], watches := [], rootQ := [] } :=
  h.upd rfl rfl (fun hi => ⟨rfl, hi.2⟩) id

/-- R236: the clauses of the device are lost. -/
theorem State.Steady.loseClauses (h : s.Steady deviceWord t) : s.Steady deviceWord t.loseClauses := by
  have h1 := h.forL (l := (List.range 16).filter (fun k => [Slot.OPEN, Slot.PREPARING, Slot.PREPARED].contains (t.slotState k)))
    (f := fun k u => u.endClause k Cl.LOST) fun k _ _ hu => hu.trans (((State.Steady.refl _).endClause k Cl.LOST).mono fun _ => standWord_of_deviceWord)
  have h2 := h1.forN (k := 64) (f := fun n u => if (u.seq n).clause.isSome then u.setOpen n none false else u)
    fun n hn _ hu => ite_kept (fun _ => hu.setOpen hn _ _) fun _ => hu
  exact (State.Steady.dropActs (h2.forL fun p _ _ hu => hu.dropPend p)).trans
    (((State.Steady.refl _).refreshPending).mono fun _ => standWord_of_deviceWord)

/-- Losing the clauses leaves the sites in their states. -/
theorem State.siteState_loseClauses {n : Nat} (hn : n < 64) : t.loseClauses.siteState n = t.siteState n := by
  rw [State.loseClauses]
  refine ((State.Steady.refl _).refreshPending.get (f := Reg.SQ_STAT.STATE n) (standWord_SQ_STAT hn)).trans ?_
  refine (((State.Steady.refl _).forL fun p _ _ hu => hu.dropPend p).dropActs.get (f := Reg.SQ_STAT.STATE n) (standWord_SQ_STAT hn)).trans ?_
  refine (State.forN_keeps (fun u => u.siteState n) 64 _ fun m _ u => ?_).trans
    (((State.Steady.refl t).forL fun k _ _ hu => hu.endClause k Cl.LOST).get (f := Reg.SQ_STAT.STATE n) (standWord_SQ_STAT hn))
  split
  · exact State.siteState_setOpen m n none false
  · rfl

end

/-! ### Streams -/

section
variable {W : Nat → Bool} {s t : State}

theorem State.firePends_nil (h : t.pendActs = []) (sel : PendAct → Bool) : t.firePends sel = t := by
  rw [State.firePends, h]
  show ({ t with pendActs := [] } : State) = t
  rw [← h]

theorem State.Steady.setStreamState (h : s.Steady standWord t) (hi : s.Idle) (x st : Nat) : s.Steady standWord (t.setStreamState x st) := by
  have h1 := h.set (f := Reg.SO_STR_STAT.STATE x) (standWord_SO_STR_STAT x) st
  have h2 := ite_kept (P := s.Steady standWord) (c := t.streamState x = Str.PLAYING ∧ st ≠ Str.PLAYING)
    (fun _ => (State.firePends_nil (h1.idle hi).1 (fun p => p.stream == x)).symm ▸ h1) fun _ => h1
  exact ite_kept (fun _ => h2) fun _ => h2.forL fun e _ _ hu => hu.set (standWord_EE_STAT e) 0

theorem State.Steady.idlePins (h : s.Steady standWord t) (n : Nat) : s.Steady standWord (t.idlePins n) := h.forL fun c _ _ hu => hu.presentIdle c

theorem State.Steady.releaseFb (h : s.Steady standWord t) (x : Nat) : s.Steady standWord (t.releaseFb x) :=
  ite_kept (fun _ => ((h.set (standWord_SO_STR_STAT x) 0).set rfl _).set rfl _) fun _ => h

theorem State.Steady.endStream (h : s.Steady standWord t) (hi : s.Idle) (x : Nat) : s.Steady standWord (t.endStream x) :=
  State.Steady.releaseFb (State.Steady.setStream ((h.setStreamState hi x Str.IDLE).forL fun n _ _ hu =>
    (hu.set (standWord_SO_SITE_STAT n) 0).idlePins n) x _) x

theorem State.follow_nil (h : t.clones = []) : t.follow = t := by
  have h1 : t.tripLeave = t := by rw [State.tripLeave, h]; rfl
  rw [State.follow, h1, State.cloneStreams, h]
  rfl

end

/-! ### Outputs and sites -/

section
variable {W : Nat → Bool} {s t : State} {c n : Nat}

/-- R87: a channel is disarmed, and the other words stay. -/
theorem State.Steady.outOff (h : s.Steady (exceptWord standWord (Reg.CH_CTRL.word c)) t) :
    s.Steady (exceptWord standWord (Reg.CH_CTRL.word c)) (t.outOff c) := by
  refine ite_kept (fun _ => h) fun _ => ?_
  have h1 : s.Steady (exceptWord standWord (Reg.CH_CTRL.word c)) ((t.setReg (Reg.CH_CTRL.word c) (wput (t.reg (Reg.CH_CTRL.word c)) 0 0 0)).setShadow
      (Reg.CH_CTRL.word c) (wput (t.shadowReg (Reg.CH_CTRL.word c)) 0 0 0)) := (h.setReg (exceptWord_self _) _).upd rfl rfl id id
  exact h1.trans ((((State.Steady.refl _).armHook _ c).setChan c _).mono (exceptWord_le _))

theorem State.outOff_disarmed {c : Nat} (hc : c < 1024) : (t.outOff c).flag (Reg.CH_CTRL.OUT_ARM c) = false := by
  rw [State.outOff]
  split
  next hoff => simpa using hoff.1
  next =>
    refine ((((State.Steady.refl _).armHook _ c).setChan c _).flag (f := Reg.CH_CTRL.OUT_ARM c) (standWord_CH_CTRL hc)).trans ?_
    exact State.flag_of_get (State.get_set_same (s := t) (Reg.CH_CTRL.OUT_ARM c) 0 (Nat.le_of_ble_eq_true rfl) le_rfl)

theorem State.Steady.refreshLeases (h : s.Steady standWord t) : s.Steady standWord t.refreshLeases :=
  h.forN fun i hi _ hu => ite_kept (fun _ => hu.setReg (standWord_PM_LEASE i hi) _) fun _ => hu

theorem State.Steady.cancelUnits (h : s.Steady standWord t) (n : Nat) : s.Steady standWord (t.cancelUnits n) := by
  have h1 := (h.forL (l := (t.pmuMeas.filter (fun p => p.2.owner == some n)).map Prod.fst) (f := fun c t => t.set (Reg.CH_PMUSTAT.BUSY c) 0)
    fun c _ _ hu => hu.set (standWord_CH_PMUSTAT c) 0).forL (l := (t.tdcs.filter (fun p => p.2.owner == some n)).map Prod.fst)
    (f := fun k t => t.set (Reg.TM_STAT.STATE k) 0) fun k _ _ hu => hu.set (standWord_TM_STAT k) 0
  exact h1.upd rfl rfl (fun hi => ⟨hi.1, congrArg (List.filter _) hi.2.1, congrArg (List.filter _) hi.2.2⟩) id

theorem standWord_SQ_CNT (n : Nat) : standWord (Reg.SQ_CNT.word n) = false := decide_eq_false (by simp only [Reg.SQ_CNT.word]; omega)

theorem State.Steady.setSite (h : s.Steady (exceptWord standWord (Reg.SQ_STAT.word n)) t) (st : Nat) :
    s.Steady (exceptWord standWord (Reg.SQ_STAT.word n)) (t.setSite n st) := by
  have h1 := h.set (f := Reg.SQ_STAT.STATE n) (exceptWord_self _) st
  have h2 := ite_kept (P := s.Steady (exceptWord standWord (Reg.SQ_STAT.word n))) (c := st = Site.HELD ∧ t.siteState n ≠ Site.HELD)
    (fun _ => h1.inc (f := Reg.SQ_CNT.HOLDS n) (exceptWord_of_false (standWord_SQ_CNT n))) fun _ => h1
  have hint : exceptWord standWord (Reg.SQ_STAT.word n) (intrField 0).addr = false := exceptWord_of_false rfl
  have h3 := ite_kept (P := s.Steady (exceptWord standWord (Reg.SQ_STAT.word n))) (c := (st = Site.HELD ∨ st = Site.TRIPPED) ∧ t.siteState n ≠ st)
    (fun _ => h2.intr hint Intr.SITE_HELD) fun _ => h2
  exact ite_kept (fun _ => h3.intr hint Intr.SITE_END) fun _ => h3

/-- R203: the landing of a site, its clone group left aside. -/
theorem State.Steady.loaded (h : s.Steady (exceptWord standWord (Reg.SQ_STAT.word n)) t) :
    s.Steady (exceptWord standWord (Reg.SQ_STAT.word n)) (t.loaded n).refreshLeases := by
  have h1 := ((h.setSite Site.LOADED).set (f := Reg.SQ_STAT.CAUSES n) (exceptWord_self _) 0).set (f := Reg.SQ_STAT.STOPPING n) (exceptWord_self _) 0
  have h2 : s.Steady (exceptWord standWord (Reg.SQ_STAT.word n)) ((t.setSite n Site.LOADED).settled n) :=
    (h1.setReg (exceptWord_of_false (standWord_SQ_TOKEN n)) 0).set (f := Reg.SQ_STAT.TOKEN n) (exceptWord_self _) 0
  exact h2.trans ((((((State.Steady.refl _).cancelUnits n).setSeq n _).releaseFb _).refreshLeases).mono (exceptWord_le _))

theorem State.loaded_cloneless (hc : t.Cloneless) : ((t.loaded n).refreshLeases).Cloneless := by
  have := keeps_cloneless
  exact State.refreshLeases_kept (State.releaseFb_kept (State.setSeq_kept (State.cancelUnits_kept (State.clearToken_kept
    (State.set_kept (State.set_kept (State.setSite_kept hc n Site.LOADED) _ _) _ _) n) n) n _) _)

theorem State.Steady.toLoaded (h : s.Steady (exceptWord standWord (Reg.SQ_STAT.word n)) t) (hc : t.Cloneless) :
    s.Steady (exceptWord standWord (Reg.SQ_STAT.word n)) (t.toLoaded n) := by
  rw [State.toLoaded_eq, State.follow_nil (State.loaded_cloneless hc)]
  exact h.loaded

theorem State.Idle.noUnits (h : t.Idle) (n : Nat) : t.NoUnits n := by
  obtain ⟨_, hpmu, htdc⟩ := h
  constructor <;> simp [hpmu, htdc]

theorem State.toLoaded_siteState (h : t.Idle) (hc : t.Cloneless) (hn : n < 64) : (t.toLoaded n).siteState n = Site.LOADED := by
  rw [State.toLoaded_eq, State.follow_nil (State.loaded_cloneless hc)]
  exact ((State.Steady.refl (t.loaded n)).refreshLeases.get (f := Reg.SQ_STAT.STATE n) (standWord_SQ_STAT hn)).trans (State.loaded_siteState (h.noUnits n) hn)

end

/-! ### Calibration -/

section
variable {W : Nat → Bool} {s t : State}

theorem standWord_CAL_STAT : standWord Reg.CAL_STAT.word = false := standWord_of_le (by decide)
theorem standWord_CAL_Q (q : Nat) : standWord (Reg.CAL_Q.word q) = false := standWord_of_le (by simp only [Reg.CAL_Q.word]; omega)
theorem standWord_CAL_QCNT (q : Nat) : standWord (Reg.CAL_QCNT.word q) = false := standWord_of_le (by simp only [Reg.CAL_QCNT.word]; omega)
theorem standWord_CAL_CHS (c : Nat) : standWord (Reg.CAL_CHS.word c) = false := standWord_of_le (by simp only [Reg.CAL_CHS.word]; omega)

theorem State.Steady.setS (h : s.Steady W t) {f : Fld} (ha : W f.addr = false) (v : Int) : s.Steady W (t.setS f v) := h.set ha _

theorem State.Steady.setCalQ (h : s.Steady W t) (q : Nat) (k : CalQ) : s.Steady W (t.setCalQ q k) := h.upd rfl rfl id id
theorem State.Steady.setCalCh (h : s.Steady W t) (c : Nat) (k : CalCh) : s.Steady W (t.setCalCh c k) := h.upd rfl rfl id id
theorem State.Steady.setCalDps (h : s.Steady W t) (d : Nat) (k : CalTerm) : s.Steady W (t.setCalDps d k) := h.upd rfl rfl id id
theorem State.Steady.setCalWf (h : s.Steady W t) (i : Nat) (k : CalTerm) : s.Steady W (t.setCalWf i k) := h.upd rfl rfl id id

/-- A TDC that measures is replaced; where none measures there is none to replace. -/
theorem State.Steady.setTdc (h : s.Steady W t) {e : Nat} (hm : t.tdc e ≠ none) (m : Option Tdc) : s.Steady W (t.setTdc e m) :=
  h.upd rfl rfl (fun hi => absurd (by rw [State.tdc, hi.2.2]; rfl) hm) id

theorem State.Steady.refreshCal (h : s.Steady standWord t) (c : Nat) : s.Steady standWord (t.refreshCal c) := by
  unfold State.refreshCal
  extract_lets k e drv rcv st stale s1 s2 s3
  have h1 : s.Steady standWord s1 :=
    (((h.setS (standWord_CAL_CHS c) _).setS (standWord_CAL_CHS c) _).setS (standWord_CAL_CHS c) _).setS (standWord_CAL_CHS c) _
  have h2 : s.Steady standWord s2 := ((h1.set (standWord_CH_LVLSTAT c) _).set (standWord_CAL_CHS c) _).set (standWord_CAL_CHS c) _
  have h3 : s.Steady standWord s3 := h2.set (standWord_TM_STAT e) _
  split
  next m hm => exact ite_kept (fun _ => h3.setTdc (by simp [hm]) _) fun _ => h3
  next => exact h3

theorem State.Steady.adcStale (h : s.Steady standWord t) (q : Nat) (on : Bool) : s.Steady standWord (t.adcStale q on) :=
  State.Steady.forL (h.forL fun c _ _ hu => hu.set (standWord_CH_PMUSTAT c) _) fun d _ _ hu => hu.set (standWord_DPS_STAT d) _

theorem State.Steady.quadOutputs (h : s.Steady standWord t) (q : Nat) : s.Steady standWord (t.quadOutputs q) :=
  State.Steady.forL (h.forL fun c _ _ hu => (hu.refreshChan c).refreshPmu c) fun i _ _ hu => (hu.set (standWord_WF_STAT i) _).refreshBus i

theorem State.Steady.calRelease (h : s.Steady standWord t) (r : CalRun) (fin : Bool) : s.Steady standWord (t.calRelease r fin) :=
  ite_kept (fun _ => h.forL fun q _ _ hu =>
    have h1 := ite_kept (P := s.Steady standWord) (c := fin = true) (fun _ => hu.set (f := Reg.CAL_Q.STATE q) (standWord_CAL_Q q) 1)
      fun _ => (hu.set (f := Reg.CAL_Q.STATE q) (standWord_CAL_Q q) (r.prev.getD q (0, 0)).1).set (f := Reg.CAL_Q.CAUSE q) (standWord_CAL_Q q)
        (r.prev.getD q (0, 0)).2
    ((h1.quadOutputs q).adcStale q false).forL fun c _ _ hv => hv.refreshCal c) fun _ => h

theorem State.Steady.endRun (h : s.Steady W t) : s.Steady W { t with cal := { t.cal with run := none } } := h.upd rfl rfl id id

theorem State.Steady.calEnd (h : s.Steady standWord t) (cmd result : Nat) : s.Steady standWord (t.calEnd cmd result) :=
  have h1 := ((h.set (f := Reg.CAL_STAT.LAST_CMD) standWord_CAL_STAT cmd).set (f := Reg.CAL_STAT.RESULT) standWord_CAL_STAT result).set
    (f := Reg.CAL_STAT.BUSY) standWord_CAL_STAT 0
  ((h1.set (f := Reg.CAL_STAT.DONE) standWord_CAL_STAT 1).endRun).intr standWord_HL_INT _

theorem State.Steady.calAbandon (h : s.Steady standWord t) (r : CalRun) (cmd result : Nat) : s.Steady standWord (t.calAbandon r cmd result) :=
  (h.calRelease r false).calEnd cmd result

theorem State.Steady.refreshWfCal (h : s.Steady standWord t) (i : Nat) : s.Steady standWord (t.refreshWfCal i) := h.set (standWord_WF_STAT i) _

theorem State.Steady.liveDrop (h : s.Steady standWord t) (q : Nat) : s.Steady standWord (t.liveDrop q) :=
  ((((h.setCalQ q _).set (standWord_CAL_Q q) 1).adcStale q false)).forL fun c _ _ hu => hu.refreshCal c

theorem State.Steady.unqueue (h : s.Steady standWord t) (q : Nat) : s.Steady standWord (t.unqueue q) :=
  ite_kept (fun _ => (h.setCalQ q _).set (standWord_CAL_Q q) 0) fun _ => h

theorem State.Steady.calOvertake (h : s.Steady standWord t) : s.Steady standWord t.calOvertake := by
  have h1 : s.Steady standWord (match t.cal.run with
      | some r => t.calAbandon r r.cmd 7
      | none => t) := by
    split
    · exact h.calAbandon _ _ _
    · exact h
  refine State.Steady.forN h1 fun q _ u hu => ?_
  have h2 := (hu.setCalQ q { u.calQ q with pend := none }).set (f := Reg.CAL_Q.QUEUED q) (standWord_CAL_Q q) 0
  refine ite_kept (fun _ => State.Steady.liveDrop ?_ q) fun _ => h2
  exact State.Steady.forL (State.Steady.forL (h2.forL fun c _ _ hv => hv.setCalCh c _) fun d _ _ hv => hv.setCalDps d _)
    fun i _ _ hv => (hv.setCalWf i _).refreshWfCal i

end

/-! ### Leaving operation -/

/-- R30: every stream ends. -/
def State.streamsEnded (s : State) : State := s.forL (s.streams.map Prod.fst) (fun x t => t.endStream x)

/-- R30, R87: every channel, supply, source and lane is turned off. -/
def State.outputsOff (s : State) : State :=
  (((s.forN 1024 (fun c t => t.outOff c)).forN 64 (fun d t => t.dpsForceOff d)).forN 32 (fun i t => t.wfOff i)).forN 32 (fun l t => t.laneOff l)

/-- R30: site `n` comes to LOADED if it is in use. -/
def State.land (n : Nat) (t : State) : State := if t.siteState n = Site.EMPTY ∨ t.siteState n = Site.RETIRED then t else t.toLoaded n

/-- A self-test that runs is aborted. -/
def State.abortTest (s : State) : State := if s.selfTest.isSome then s.set Reg.DEV_STST.ABORTED 1 else s

/-- The words of `standWord` before the channels. -/
def innerWord (a : Nat) : Bool := standWord a && decide (a < 0x080000)

/-- DEV_MODE, DEV_STAT and CP_ALERT. -/
def reportWord (a : Nat) : Bool := decide (a = 1 ∨ a = 2 ∨ a = 0x004002)

section
variable {s t u : State} {n c : Nat}

theorem innerWord_iff {a : Nat} : innerWord a = true ↔ standWord a = true ∧ a < 0x080000 := by simp [innerWord]
theorem deviceWord_iff {a : Nat} : deviceWord a = true ↔ standWord a = true ∧ (a < 0x031000 ∨ 0x032000 ≤ a) := by
  rw [deviceWord, Bool.and_eq_true, Bool.not_eq_true', decide_eq_false_iff_not]
  exact and_congr_right fun _ => by omega

theorem exceptWord_of_innerWord {a : Nat} (h : innerWord a = true) (c : Nat) : exceptWord standWord (Reg.CH_CTRL.word c) a = true := by
  obtain ⟨hst, hlt⟩ := innerWord_iff.1 h
  exact exceptWord_of_ne hst (by simp only [Reg.CH_CTRL.word]; omega)

theorem exceptWord_of_deviceWord {a : Nat} (h : deviceWord a = true) (hn : n < 64) : exceptWord standWord (Reg.SQ_STAT.word n) a = true := by
  obtain ⟨hst, hsq⟩ := deviceWord_iff.1 h
  exact exceptWord_of_ne hst (by simp only [Reg.SQ_STAT.word]; omega)

theorem reportWord_stands {a : Nat} (h : reportWord a = true) : deviceWord a = true ∧ innerWord a = true := by
  have ha := of_decide_eq_true h
  have hst : standWord a = true := decide_eq_true (by omega)
  exact ⟨deviceWord_iff.2 ⟨hst, by omega⟩, innerWord_iff.2 ⟨hst, by omega⟩⟩

theorem innerWord_SQ_STAT (hn : n < 64) : innerWord (Reg.SQ_STAT.word n) = true :=
  innerWord_iff.2 ⟨standWord_SQ_STAT hn, by simp only [Reg.SQ_STAT.word]; omega⟩

theorem deviceWord_CH_CTRL (hc : c < 1024) : deviceWord (Reg.CH_CTRL.word c) = true :=
  deviceWord_iff.2 ⟨standWord_CH_CTRL hc, by simp only [Reg.CH_CTRL.word]; omega⟩

theorem State.Steady.streamsEnded (h : s.Steady standWord t) (hi : s.Idle) : s.Steady standWord t.streamsEnded :=
  h.forL fun x _ _ hu => hu.endStream hi x

theorem State.Steady.restOff (h : s.Steady standWord t) : s.Steady standWord
    (((t.forN 64 (fun d u => u.dpsForceOff d)).forN 32 (fun i u => u.wfOff i)).forN 32 (fun l u => u.laneOff l)) :=
  State.Steady.forN (State.Steady.forN (h.forN fun d _ _ hu => hu.dpsForceOff d) fun i _ _ hu => hu.wfOff i) fun l _ _ hu => hu.laneOff l

theorem State.Steady.outputsOff (h : s.Steady innerWord t) : s.Steady innerWord t.outputsOff :=
  (h.forN fun c _ _ hu => hu.trans (((State.Steady.refl _).outOff).mono fun _ ha => exceptWord_of_innerWord ha c)).trans
    ((State.Steady.refl _).restOff.mono fun _ ha => (innerWord_iff.1 ha).1)

/-- R87: a channel that is disarmed stays so while others are turned off. -/
theorem State.outOff_disarmed_other (hc : c < 1024) (b : Nat) (h : t.flag (Reg.CH_CTRL.OUT_ARM c) = false) :
    (t.outOff b).flag (Reg.CH_CTRL.OUT_ARM c) = false := by
  by_cases hb : Reg.CH_CTRL.word c = Reg.CH_CTRL.word b
  · obtain rfl : c = b := by simp only [Reg.CH_CTRL.word] at hb; omega
    exact State.outOff_disarmed hc
  · exact ((State.Steady.refl t).outOff.flag (f := Reg.CH_CTRL.OUT_ARM c) (exceptWord_of_ne (standWord_CH_CTRL hc) hb)).trans h

theorem State.outputsOff_disarmed (hc : c < 1024) : s.outputsOff.flag (Reg.CH_CTRL.OUT_ARM c) = false :=
  ((State.Steady.refl _).restOff.flag (f := Reg.CH_CTRL.OUT_ARM c) (standWord_CH_CTRL hc)).trans
    (State.forL_reaches (P := fun _ => True) (Q := fun u => u.flag (Reg.CH_CTRL.OUT_ARM c) = false) (List.mem_range.2 hc) (fun _ _ _ _ _ => trivial)
      (fun _ _ => State.outOff_disarmed hc) (fun b _ _ hu => State.outOff_disarmed_other hc b hu) trivial)

/-- A state in which no unit measures, no action waits and no clone group exists, so that a site that lands leaves the others alone. -/
def State.Resting (t : State) : Prop := t.Idle ∧ t.Cloneless

theorem State.Resting.land (h : t.Resting) (n : Nat) : (t.land n).Resting := by
  have := keeps_cloneless
  exact ite_kept (fun _ => h) fun _ => ⟨((State.Steady.refl t).toLoaded h.2).idle h.1, State.toLoaded_kept h.2 n⟩

theorem State.Resting.land_steady (h : t.Resting) (n : Nat) : t.Steady (exceptWord standWord (Reg.SQ_STAT.word n)) (t.land n) :=
  ite_kept (fun _ => State.Steady.refl t) fun _ => (State.Steady.refl t).toLoaded h.2

theorem State.Resting.lands (h : t.Resting) (hn : n < 64) (hin : t.siteState n ≠ Site.EMPTY ∧ t.siteState n ≠ Site.RETIRED) :
    (t.land n).siteState n = Site.LOADED := by
  rw [State.land, if_neg (not_or.2 hin), State.toLoaded_siteState h.1 h.2 hn]

theorem State.Resting.siteState_land (h : t.Resting) (hn : n < 64) {m : Nat} (hm : m ≠ n) : (t.land m).siteState n = t.siteState n :=
  (h.land_steady m).get (f := Reg.SQ_STAT.STATE n) (exceptWord_of_ne (standWord_SQ_STAT hn) (by simp only [Reg.SQ_STAT.STATE, Reg.SQ_STAT.word]; omega))

theorem State.Resting.land_loop (h : t.Resting) : (t.forN 64 State.land).Resting ∧ t.Steady deviceWord (t.forN 64 State.land) :=
  State.forL_kept_mem (P := fun u => u.Resting ∧ t.Steady deviceWord u)
    (fun m hm _ hu => ⟨hu.1.land m, hu.2.trans ((hu.1.land_steady m).mono fun _ ha => exceptWord_of_deviceWord ha (List.mem_range.1 hm))⟩)
    ⟨h, State.Steady.refl t⟩

/-- Every site in use comes to LOADED. -/
theorem State.Resting.land_all (h : t.Resting) (hn : n < 64) (hin : t.siteState n ≠ Site.EMPTY ∧ t.siteState n ≠ Site.RETIRED) :
    (t.forN 64 State.land).siteState n = Site.LOADED := by
  refine (State.forL_reaches (P := fun u => u.Resting ∧ u.siteState n = t.siteState n) (Q := fun u => u.Resting ∧ u.siteState n = Site.LOADED)
    (List.mem_range.2 hn) (fun m _ hm u hu => ⟨hu.1.land m, (hu.1.siteState_land hn hm).trans hu.2⟩)
    (fun u hu => ⟨hu.1.land n, hu.1.lands hn (hu.2 ▸ hin)⟩) (fun m _ u hu => ⟨hu.1.land m, ?_⟩) ⟨h, rfl⟩).2
  by_cases hm : m = n
  · exact hm ▸ hu.1.lands (hm ▸ hn) (by rw [hm, hu.2]; decide)
  · exact (hu.1.siteState_land hn hm).trans hu.2

theorem State.abortTest_steady (t : State) : t.Steady (exceptWord standWord Reg.DEV_STST.word) t.abortTest :=
  ite_kept (fun _ => (State.Steady.refl t).set (f := Reg.DEV_STST.ABORTED) (exceptWord_self _) 1) fun _ => State.Steady.refl t
end

section
variable {s : State} {n c : Nat}

/-- R30: the device before its sites land: no clause and no stream is left, and every output is off. -/
def State.quieted (s : State) : State := s.loseClauses.streamsEnded.outputsOff

theorem State.quieted_steady (hi : s.Idle) : s.Steady reportWord s.quieted := by
  have h1 : s.Steady deviceWord s.loseClauses := (State.Steady.refl s).loseClauses
  have h2 : s.loseClauses.Steady standWord s.loseClauses.streamsEnded := (State.Steady.refl _).streamsEnded (h1.idle hi)
  exact (h1.mono fun _ ha => (reportWord_stands ha).1).trans ((h2.mono fun _ ha => (innerWord_iff.1 (reportWord_stands ha).2).1).trans
    ((State.Steady.refl _).outputsOff.mono fun _ ha => (reportWord_stands ha).2))

theorem State.quieted_siteState (hi : s.Idle) (hn : n < 64) : s.quieted.siteState n = s.siteState n := by
  have h2 : s.loseClauses.Steady standWord s.loseClauses.streamsEnded := (State.Steady.refl _).streamsEnded ((State.Steady.refl s).loseClauses.idle hi)
  calc s.quieted.siteState n
      = s.loseClauses.streamsEnded.siteState n := (State.Steady.refl _).outputsOff.get (f := Reg.SQ_STAT.STATE n) (innerWord_SQ_STAT hn)
    _ = s.loseClauses.siteState n := h2.get (f := Reg.SQ_STAT.STATE n) (standWord_SQ_STAT hn)
    _ = s.siteState n := State.siteState_loseClauses hn

theorem State.outputsOff_kept {P : State → Prop} [Keeps P] (h : P s) : P s.outputsOff := by
  unfold State.outputsOff
  refine State.forN_kept _ _ (fun _ _ hu => State.laneOff_kept hu _) (State.forN_kept _ _ (fun _ _ hu => State.wfOff_kept hu _) ?_)
  exact State.forN_kept _ _ (fun _ _ hu => State.dpsForceOff_kept hu _) (State.forN_kept _ _ (fun _ _ hu => State.outOff_kept hu _) h)

theorem State.quieted_resting (hi : s.Idle) (hc : s.Cloneless) : s.quieted.Resting := by
  have := keeps_cloneless
  have h1 : s.loseClauses.streamsEnded.Cloneless := State.forL_kept _ _ (fun _ _ hu => State.endStream_kept hu _) (State.loseClauses_kept hc)
  exact ⟨(State.quieted_steady hi).idle hi, State.outputsOff_kept h1⟩

theorem State.leaveOperation_eq (h : s.siOp = none) : s.leaveOperation = ((s.quieted.forN 64 State.land).abortTest).calOvertake := by
  have hid : s.siAbandon = s := by rw [State.siAbandon, h]
  show ((s.siAbandon.quieted.forN 64 State.land).abortTest).calOvertake = _
  rw [hid]

section
variable (hi : s.Idle) (hc : s.Cloneless) (hsi : s.siOp = none)
include hi hc hsi

/-- What leaving operation leaves alone. -/
theorem State.leaveOperation_steady : s.Steady reportWord s.leaveOperation := by
  rw [State.leaveOperation_eq hsi]
  have hland := (State.quieted_resting hi hc).land_loop.2.mono fun _ ha => (reportWord_stands ha).1
  refine ((State.quieted_steady hi).trans hland).trans (((State.abortTest_steady _).mono fun a ha => ?_).trans
    ((State.Steady.refl _).calOvertake.mono fun _ ha => (innerWord_iff.1 (reportWord_stands ha).2).1))
  exact exceptWord_of_ne (innerWord_iff.1 (reportWord_stands ha).2).1 (by rintro rfl; revert ha; decide)

theorem State.leaveOperation_disarmed (hn : c < 1024) : s.leaveOperation.flag (Reg.CH_CTRL.OUT_ARM c) = false := by
  have hst := exceptWord_of_ne (standWord_CH_CTRL hn) (a := Reg.DEV_STST.word) (by simp only [Reg.CH_CTRL.word, Reg.DEV_STST.word]; omega)
  rw [State.leaveOperation_eq hsi]
  calc (((s.quieted.forN 64 State.land).abortTest).calOvertake).flag (Reg.CH_CTRL.OUT_ARM c)
      = ((s.quieted.forN 64 State.land).abortTest).flag (Reg.CH_CTRL.OUT_ARM c) := (State.Steady.refl _).calOvertake.flag (standWord_CH_CTRL hn)
    _ = (s.quieted.forN 64 State.land).flag (Reg.CH_CTRL.OUT_ARM c) := (State.abortTest_steady _).flag hst
    _ = s.quieted.flag (Reg.CH_CTRL.OUT_ARM c) := (State.quieted_resting hi hc).land_loop.2.flag (deviceWord_CH_CTRL hn)
    _ = false := State.outputsOff_disarmed hn

theorem State.leaveOperation_lands (hn : n < 64) (hin : s.siteState n ≠ Site.EMPTY ∧ s.siteState n ≠ Site.RETIRED) :
    s.leaveOperation.siteState n = Site.LOADED := by
  have hst := exceptWord_of_ne (standWord_SQ_STAT hn) (a := Reg.DEV_STST.word) (by simp only [Reg.SQ_STAT.word, Reg.DEV_STST.word]; omega)
  rw [State.leaveOperation_eq hsi]
  calc (((s.quieted.forN 64 State.land).abortTest).calOvertake).siteState n
      = ((s.quieted.forN 64 State.land).abortTest).siteState n := (State.Steady.refl _).calOvertake.get (f := Reg.SQ_STAT.STATE n) (standWord_SQ_STAT hn)
    _ = (s.quieted.forN 64 State.land).siteState n := (State.abortTest_steady _).get (f := Reg.SQ_STAT.STATE n) hst
    _ = Site.LOADED := (State.quieted_resting hi hc).land_all hn (by rwa [State.quieted_siteState hi hn])

end
end

/-! ### A change of mode -/

section
variable {s t : State}

theorem State.Steady.calResult (h : s.Steady standWord t) (q : Nat) (ok : Bool) : s.Steady standWord (t.calResult q ok) :=
  ite_kept (fun _ => h.inc (standWord_CAL_QCNT q)) fun _ => (h.inc (standWord_CAL_QCNT q)).set standWord_CAL_STAT 1

theorem State.Steady.levelResult (h : s.Steady standWord t) (c code : Nat) : s.Steady standWord (t.levelResult c code) :=
  (h.set (standWord_CAL_CHS c) _).calResult _ _

theorem State.Steady.targetTrim (h : s.Steady standWord t) (c i : Nat) (v : Int) : s.Steady standWord (t.targetTrim c i v) := h.setCalCh c _

theorem State.Steady.timeTake (h : s.Steady standWord t) (q : Nat) (r : TRun) : s.Steady standWord (t.timeTake q r) := by
  have hgive : ∀ u code, s.Steady standWord u → s.Steady standWord (((u.set (Reg.CAL_CHS.LIVE_T r.chan) code).setCalQ q
      { (u.set (Reg.CAL_CHS.LIVE_T r.chan) code).calQ q with
        times := ((u.set (Reg.CAL_CHS.LIVE_T r.chan) code).calQ q).times.map (fun x => if x.chan = r.chan then { x with fin := true } else x) }).calResult
      q (code == 1)) := fun u code hu => ((hu.set (standWord_CAL_CHS r.chan) code).setCalQ q _).calResult q _
  exact ite_kept (fun _ => hgive t 4 h) fun _ => ite_kept (fun _ => hgive t 2 h) fun _ => ite_kept (fun _ => hgive t 3 h) fun _ =>
    ite_kept (fun _ => hgive t 5 h) fun _ => hgive _ 1 ((h.setCalCh _ _).set (standWord_CAL_CHS r.chan) 2)

theorem State.Steady.levelTake (h : s.Steady standWord t) (q : Nat) (last : Bool) (r : LRun) : s.Steady standWord (t.levelTake q last r) := by
  unfold State.levelTake
  extract_lets c i k span put refs ready
  clear_value refs
  split
  next s1 r1 heq1 =>
    have h1 : s.Steady standWord s1 := by
      rw [show s1 = (s1, r1).1 from rfl, ← heq1]
      refine ite_fst_kept (fun _ => fst_kept h) fun _ => ?_
      split
      · exact ite_fst_kept (fun _ => fst_kept (h.levelResult c 3)) fun _ => fst_kept (h.levelResult c 2)
      · exact ite_fst_kept (fun _ => fst_kept (h.levelResult c 2)) fun _ => fst_kept ((h.targetTrim c i _).levelResult c _)
      · exact ite_fst_kept (fun _ => fst_kept (h.levelResult c 4)) fun _ => fst_kept h
    split
    next s2 r2 heq2 =>
      suffices h2 : s.Steady standWord s2 from h2.setCalQ q _
      rw [show s2 = (s2, r2).1 from rfl, ← heq2]
      refine ite_fst_kept (fun _ => fst_kept h1) fun _ => ?_
      split
      · exact fst_kept ((h1.setCalCh c _).levelResult c 1)
      · exact fst_kept (h1.levelResult c _)
      · exact ite_fst_kept (fun _ => fst_kept (h1.levelResult c 4)) fun _ => fst_kept h1

theorem State.Steady.liveEnd (h : s.Steady standWord t) (q : Nat) : s.Steady standWord (t.liveEnd q) := by
  unfold State.liveEnd
  extract_lets st k s1 s2 s3 s4
  refine ite_kept (fun _ => h) fun _ => ite_kept (fun _ => (h.liveDrop q).unqueue q) fun _ => ite_kept (fun _ => h) fun _ => ?_
  have h2 : s.Steady standWord s2 := State.Steady.forL (h.forL fun r _ _ hu => hu.levelTake q true r) fun r _ _ hu => hu.timeTake q r
  have h3 : s.Steady standWord s3 := h2.forL fun c _ _ hu => (hu.set (standWord_CAL_CHS c) 6).set (standWord_CAL_CHS c) 6
  have h4 : s.Steady standWord s4 := (((h3.setS (standWord_CAL_Q q) _).set (standWord_CAL_Q q) _).inc (standWord_CAL_QCNT q)).liveDrop q
  exact (h4.setCalQ q _).unqueue q

theorem State.Steady.dropCycles (h : s.Steady standWord t) : s.Steady standWord t.dropCycles :=
  h.forN fun q _ _ hu => ite_kept (fun _ => hu) fun _ => hu.liveEnd q

/-- R494: what goes on in a mode and ends with it. -/
def State.ceased (s : State) : State := if s.mode = Mode.DISCOVER then s.discAbort else if s.mode = Mode.CONTACT then s.contactAbort else s

/-- R490, R510: the fields of the change. -/
def State.stamped (s : State) (old m cause beat : Nat) : State :=
  (((s.set Reg.DEV_MODE.CUR m).set Reg.DEV_STAT.PREV old).set Reg.DEV_STAT.CAUSE cause).set Reg.DEV_STAT.MODE_BEAT beat

/-- R490, R497, R526: the change of mode itself. -/
def State.turned (s : State) (old m cause beat : Nat) : State :=
  { s.stamped old m cause beat with
    selfTest := if m = Mode.SELFTEST then some old else none
    jtag := { (s.stamped old m cause beat).jtag with drives := (s.stamped old m cause beat).jtag.ir == 0 && m == Mode.SAFE } }

theorem State.setMode_eq (s : State) (m cause : Nat) : s.setMode m cause = (s.ceased.turned s.mode m cause s.now).dropCycles.enterMode m := rfl

theorem State.Steady.mpDone {W : Nat → Bool} (h : s.Steady W t) {f : Fld} (hf : W f.addr = false) (hint : W (intrField 0).addr = false) :
    s.Steady W (t.mpDone f) := ite_kept (fun _ => h) fun _ => (h.set hf 1).intr hint _

theorem State.Steady.dropPort {W : Nat → Bool} (h : s.Steady W t) : s.Steady W { t with mpOp := none } := h.upd rfl rfl id fun _ => rfl

theorem exceptWord_MP_CNT : exceptWord standWord Reg.MP_STAT.word Reg.MP_CNT.word = false := rfl
theorem exceptWord_HL_INT : exceptWord standWord Reg.MP_STAT.word (intrField 0).addr = false := rfl

theorem State.Steady.discEnd (h : s.Steady (exceptWord standWord Reg.MP_STAT.word) t) (result : Nat) :
    s.Steady (exceptWord standWord Reg.MP_STAT.word) (t.discEnd result) :=
  have h1 := ((h.set (f := Reg.MP_STAT.RESULT) (exceptWord_self _) result).set (f := Reg.MP_STAT.BUSY) (exceptWord_self _) 0).set
    (f := Reg.MP_STAT.DONE_BEAT) (exceptWord_self _) t.now
  ((h1.inc (f := Reg.MP_CNT.DISCOVERIES) exceptWord_MP_CNT).dropPort).mpDone (f := Reg.MP_STAT.DONE) (exceptWord_self _) exceptWord_HL_INT

theorem State.Steady.discAbort (h : s.Steady (exceptWord standWord Reg.MP_STAT.word) t) :
    s.Steady (exceptWord standWord Reg.MP_STAT.word) t.discAbort := by
  unfold State.discAbort
  split
  · exact (h.set (f := Reg.MP_STAT.LIM_VALID) (exceptWord_self _) 0).discEnd 3
  · exact h

theorem State.ceased_steady (s : State) : s.Steady (exceptWord standWord Reg.MP_STAT.word) s.ceased :=
  ite_kept (fun _ => (State.Steady.refl s).discAbort) fun _ => ite_kept (fun _ => (State.Steady.refl s).contactAbort.mono fun _ => exceptWord_le _ _)
    fun _ => State.Steady.refl s

end

/-! ### Clearing the structure -/

section
variable {s t : State}

theorem devWord_add {b x : Nat} (hb : 7 ≤ b) : devWord (b + x) = false := devWord_of_le (by omega)

/-- What leaves the words of `standWord` alone leaves those of the mode alone. -/
theorem State.Steady.then {u : State} (h : s.Steady devWord t) (h' : t.Steady standWord u) : s.Steady devWord u :=
  h.trans (h'.mono fun _ => standWord_of_devWord)

theorem State.Steady.setRegShadow {W : Nat → Bool} (h : s.Steady W t) {a : Nat} (ha : W a = false) (w v : Word) :
    s.Steady W ((t.setReg a w).setShadow a v) := (h.setReg ha w).upd rfl rfl id id

theorem State.Steady.setDac {W : Nat → Bool} (h : s.Steady W t) (c k : Nat) (d : Dac) : s.Steady W (t.setDac c k d) := h.upd rfl rfl id id
theorem State.Steady.setPmu {W : Nat → Bool} (h : s.Steady W t) (c : Nat) (p : Pmu) : s.Steady W (t.setPmu c p) := h.upd rfl rfl id id

theorem State.Steady.setPmuMeas {W : Nat → Bool} (h : s.Steady W t) {c : Nat} (hm : t.pmuMeasOf c ≠ none) (m : Option Meas) :
    s.Steady W (t.setPmuMeas c m) := h.upd rfl rfl (fun hi => absurd (by rw [State.pmuMeasOf, hi.2.1]; rfl) hm) id

theorem State.Steady.measPassage {W : Nat → Bool} (h : s.Steady W t) (c : Nat) : s.Steady W (t.measPassage c) := by
  unfold State.measPassage
  split
  next m hm => exact ite_kept (fun _ => h.setPmuMeas (by simp [hm]) _) fun _ => h
  next => exact h

theorem State.Steady.pmuPassage (h : s.Steady devWord t) (c : Nat) : s.Steady devWord (t.pmuPassage c) := by
  unfold State.pmuPassage
  extract_lets p s1 s2 s3
  have h1 : s.Steady devWord s1 := ite_kept (fun _ => h) fun _ => h.inc (devWord_add (by omega))
  have h2 : s.Steady devWord s2 := (h1.setPmu c _).set (devWord_add (by omega)) 1
  have h3 : s.Steady devWord s3 := (h2.then ((State.Steady.refl _).refreshPmu c)).measPassage c
  exact ite_kept (fun _ => h3.then ((State.Steady.refl _).driveOff c)) fun _ => h3

theorem State.Steady.loadOut (h : s.Steady devWord t) (c k span code : Nat) : s.Steady devWord (t.loadOut c k span code) := by
  have h1 := (h.set (f := Reg.CH_LVL.OUT c k) (devWord_add (by omega)) code).set (f := Reg.CH_LVL.OUT_SPAN c k) (devWord_add (by omega)) span
  exact ite_kept (fun _ => h1.setDac c k _) fun _ => h1.setDac c k _

theorem State.Steady.levelTrigger (h : s.Steady devWord t) (c k : Nat) : s.Steady devWord (t.levelTrigger c k) := by
  unfold State.levelTrigger
  extract_lets span code d old s1 src s2 s3
  have h1 : s.Steady devWord s1 := h.loadOut c k _ _
  have h2 : s.Steady devWord s2 := h1.setDac c k _
  have h3 : s.Steady devWord s3 := (h2.set (f := Reg.CH_LVLSTAT.PASSAGE c) (devWord_add (by omega)) _).then ((State.Steady.refl _).refreshChan c)
  exact ite_kept (fun _ => h.set (devWord_add (by omega)) _) fun _ => ite_kept (fun _ => ite_kept (fun _ => h3.pmuPassage c) fun _ => h3)
    fun _ => h.loadOut c k _ _

theorem State.Steady.describe (h : s.Steady devWord t) (c : Nat) : s.Steady devWord (t.describe c) := by
  unfold State.describe
  extract_lets base
  split
  · exact h.setReg (devWord_add (by omega)) _
  · split
    split
    exact h.setReg (devWord_add (by omega)) _

theorem State.Steady.spreadLeads (h : s.Steady devWord t) (m : SiteMap) : s.Steady devWord (t.spreadLeads m) := by
  unfold State.spreadLeads
  extract_lets copy s1
  have hcopy : ∀ a b u, 7 ≤ b → s.Steady devWord u → s.Steady devWord (copy a b u) := fun a b u hb hu => hu.setRegShadow (devWord_of_le hb) _ _
  have h1 : s.Steady devWord s1 := h.forL fun k _ u hu => hu.forL fun c _ v hv => by
    refine State.Steady.forN (hv.forL fun w _ r hr => hcopy _ _ r (by simp only [Reg.CH_CTRL.word]; omega) hr) fun i _ r hr => ?_
    exact ite_kept (fun _ => ((hr.set (devWord_add (by omega)) _).set (devWord_add (by omega)) _).levelTrigger c i) fun _ => hr
  refine h1.forL fun p _ u hu => hu.forL fun i _ v hv => ?_
  refine hcopy _ _ _ ?_ (hcopy _ _ _ ?_ (hcopy _ _ _ ?_ (hcopy _ _ _ ?_ hv)))
  all_goals
    simp only [Reg.DPS_SET.word, Reg.DPS_CFG.word, Reg.GD_DWIN.word, Reg.GD_DCFG.word]
    omega

theorem State.Steady.pmuCancel (h : s.Steady devWord t) (c : Nat) : s.Steady devWord (t.pmuCancel c) := by
  unfold State.pmuCancel
  split
  next m hm => exact ite_kept (fun _ => (h.setPmuMeas (by simp [hm]) none).set (devWord_add (by omega)) 0) fun _ => h
  next => exact h

theorem State.Steady.tdcCancel (h : s.Steady devWord t) (e : Nat) : s.Steady devWord (t.tdcCancel e) := by
  unfold State.tdcCancel
  split
  next m hm => exact ite_kept (fun _ => (h.setTdc (by simp [hm]) none).set (devWord_add (by omega)) 0) fun _ => h
  next => exact h

theorem State.Steady.releaseChan (h : s.Steady devWord t) (c : Nat) : s.Steady devWord (t.releaseChan c) := by
  have h1 := (h.setRegShadow (a := Reg.CH_CTRL.word c) (devWord_add (by omega)) (wput (t.reg (Reg.CH_CTRL.word c)) 0 0 0)
    (wput (t.shadowReg (Reg.CH_CTRL.word c)) 0 0 0)).pmuCancel c
  exact ((h1.tdcCancel _).then ((State.Steady.refl _).armHook _ c)).setChan c _

theorem State.Steady.setDpsMeas {W : Nat → Bool} (h : s.Steady W t) (d : Nat) (m : Option Meas) : s.Steady W (t.setDpsMeas d m) := h.upd rfl rfl id id

theorem State.Steady.dpsCancel (h : s.Steady devWord t) (d : Nat) : s.Steady devWord (t.dpsCancel d) := by
  unfold State.dpsCancel
  split
  · exact ite_kept (fun _ => (h.setDpsMeas d none).then ((State.Steady.refl _).refreshDpsBusy d)) fun _ => h
  · exact h

theorem State.Steady.releaseDps (h : s.Steady devWord t) (d : Nat) : s.Steady devWord (t.releaseDps d) := by
  have h1 := (h.setRegShadow (a := Reg.DPS_SET.word d) (devWord_add (by omega)) (wput (t.reg (Reg.DPS_SET.word d)) 32 32 0)
    (wput (t.shadowReg (Reg.DPS_SET.word d)) 32 32 0)).dpsCancel d
  exact ((((h1.setDps d _).setDps d _).set (devWord_add (by omega)) 0).set (devWord_add (by omega)) 0).then ((State.Steady.refl _).refreshDps d)

theorem State.Steady.install (h : s.Steady devWord t) (maps : List (Nat × SiteMap)) (clones routes : List (Nat × Nat)) :
    s.Steady devWord (t.install maps clones routes) := by
  unfold State.install
  extract_lets u lost t1 t2 t3 t4 t5 t6
  have hu : s.Steady devWord u := h.upd rfl rfl id id
  have h1 : s.Steady devWord t1 := hu.forN fun c _ _ hv => hv.describe c
  have h2 : s.Steady devWord t2 := h1.forL fun p _ _ hv => hv.spreadLeads p.2
  have h3 : s.Steady devWord t3 := h2.forL fun c _ _ hv => hv.releaseChan c
  have h4 : s.Steady devWord t4 := h3.forL fun d _ _ hv => hv.releaseDps d
  have h5 : s.Steady devWord t5 := h4.forL fun l _ _ hv => hv.then ((State.Steady.refl _).laneOff l)
  have h6 : s.Steady devWord t6 := h5.forL fun i _ _ hv => hv.then ((State.Steady.refl _).wfOff i)
  exact h6.forN fun c _ _ hv => hv.then (((State.Steady.refl _).refreshChan c).refreshPmu c)

theorem State.Steady.unroute (h : s.Steady devWord t) (e role : Nat) : s.Steady devWord (t.unroute e role) := by
  have h1 := h.set (f := Reg.EE_STAT.ROLE e) (devWord_add (by omega)) role
  exact ite_kept (fun _ => h1.setReg (devWord_add (by omega)) 0) fun _ => h1

theorem State.Steady.route (h : s.Steady devWord t) (c f role : Nat) : s.Steady devWord (t.route c f role) := by
  unfold State.route
  extract_lets s1 s2 s3
  have h1 : s.Steady devWord s1 := ((h.set (devWord_add (by omega)) f).set (devWord_add (by omega)) role).set (devWord_add (by omega)) c
  have h2 : s.Steady devWord s2 := (h1.set (devWord_add (by omega)) _).set (devWord_add (by omega)) _
  have h3 : s.Steady devWord s3 := ite_kept (fun _ => (h2.set (devWord_add (by omega)) 1).set (devWord_add (by omega)) c) fun _ => h2
  exact h3.setCalCh c _

theorem State.Steady.bumpFree {W : Nat → Bool} (h : s.Steady W t) : s.Steady W t.bumpFree := h.upd rfl rfl id id

theorem State.Steady.takeOver (h : s.Steady devWord t) (c f : Nat) : s.Steady devWord (t.takeOver c f) := by
  unfold State.takeOver
  extract_lets e s1 s2 s3 s4
  have h1 : s.Steady devWord s1 := h.upd rfl rfl id id
  have h2 : s.Steady devWord s2 := h1.setRegShadow (devWord_add (by omega)) _ _
  have h3 : s.Steady devWord s3 := (h2.set (devWord_add (by omega)) _).set (devWord_add (by omega)) _
  have h4 : s.Steady devWord s4 := (h3.bumpFree.unroute e 3).route c f 2
  exact ite_kept (fun _ => h4.set (devWord_add (by omega)) 1) fun _ => h4

theorem State.Steady.crossbar (h : s.Steady devWord t) (spares : List (Nat × Nat)) : s.Steady devWord (t.crossbar spares) := by
  unfold State.crossbar
  extract_lets stays s1 s2
  have h1 : s.Steady devWord s1 := h.forN fun k _ _ hu => ite_kept (fun _ => hu) fun _ => hu.unroute _ 0
  have h2 : s.Steady devWord s2 := h1.forL fun c _ _ hu =>
    ite_kept (fun _ => (hu.set (devWord_add (by omega)) 1).set (devWord_add (by omega)) c) fun _ => hu.route c c 1
  exact h2.forL fun p _ _ hu => hu.takeOver p.2 _

theorem devWord_SQ_STAT {a n : Nat} (h : devWord a = true) : exceptWord standWord (Reg.SQ_STAT.word n) a = true :=
  exceptWord_of_ne (standWord_of_devWord h) (by have := of_decide_eq_true h; simp only [Reg.SQ_STAT.word]; omega)

theorem State.Steady.clearToken (h : s.Steady devWord t) (n : Nat) : s.Steady devWord (t.clearToken n) :=
  (h.setReg (a := Reg.SQ_TOKEN.word n) (devWord_add (by omega)) 0).set (f := Reg.SQ_STAT.TOKEN n) (devWord_add (by omega)) 0

theorem State.Steady.freshSite (h : s.Steady devWord t) (n st : Nat) : s.Steady devWord (t.freshSite n st) := by
  have h1 := h.trans (((State.Steady.refl t).setSite (n := n) st).mono fun _ => devWord_SQ_STAT)
  exact ((h1.set (f := Reg.SQ_STAT.CAUSES n) (devWord_add (by omega)) 0).clearToken n).setSeq n _

theorem State.Steady.clearStructure (h : s.Steady devWord t) : s.Steady devWord t.clearStructure :=
  State.Steady.setReg (State.Steady.forN ((h.install [] [] []).crossbar []) fun n _ _ hu => (hu.freshSite n _).setReg (devWord_add (by omega)) 0) rfl 0

end

/-! ### What a change of mode leaves and what it writes -/

section
variable {s t : State} {m cause : Nat}

/-- The words of `standWord` but those that a change of mode writes. -/
def changeWord : Nat → Bool := exceptWord (exceptWord (exceptWord standWord Reg.MP_STAT.word) Reg.DEV_MODE.word) Reg.DEV_STAT.word

theorem standWord_of_changeWord {a : Nat} (h : changeWord a = true) : standWord a = true := exceptWord_le _ _ (exceptWord_le _ _ (exceptWord_le _ _ h))

theorem State.Steady.turned (h : s.Steady changeWord t) (old m cause beat : Nat) : s.Steady changeWord (t.turned old m cause beat) := by
  have hmode : changeWord Reg.DEV_MODE.word = false := rfl
  have hstat : changeWord Reg.DEV_STAT.word = false := rfl
  have h1 : s.Steady changeWord (t.stamped old m cause beat) :=
    (((h.set (f := Reg.DEV_MODE.CUR) hmode m).set (f := Reg.DEV_STAT.PREV) hstat old).set (f := Reg.DEV_STAT.CAUSE) hstat cause).set
      (f := Reg.DEV_STAT.MODE_BEAT) hstat beat
  exact h1.upd rfl rfl id id

theorem State.enterMode_steady (hm : m ≠ Mode.DISCOVER) : s.Steady standWord (s.enterMode m) := by
  rw [State.enterMode, if_neg hm]
  exact ite_kept (fun _ => (State.Steady.refl s).contactStart) fun _ => ite_kept (fun _ => (State.Steady.refl s).upd rfl rfl id id) fun _ => State.Steady.refl s

/-- A change of mode, to another mode than DISCOVER, leaves the sites, the arming of the channels and the causes of ALERT_N alone. -/
theorem State.setMode_steady (hm : m ≠ Mode.DISCOVER) : s.Steady changeWord (s.setMode m cause) := by
  rw [State.setMode_eq]
  have h1 : s.Steady changeWord s.ceased := s.ceased_steady.mono fun _ ha => exceptWord_le _ _ (exceptWord_le _ _ ha)
  exact (h1.turned s.mode m cause s.now).trans (((State.Steady.refl _).dropCycles.trans (State.enterMode_steady hm)).mono fun _ => standWord_of_changeWord)

theorem State.Steady.dropPads {W : Nat → Bool} (h : s.Steady W t) : s.Steady W { t with pads := [], boosts := [], tileDps := [], cold := [] } :=
  h.upd rfl rfl id id

theorem State.Steady.clearLimits (h : s.Steady devWord t) : s.Steady devWord t.clearLimits := by
  unfold State.clearLimits
  extract_lets s1 s2 s3
  have h1 : s.Steady devWord s1 := h.forN fun c _ _ hu => hu.setReg (devWord_add (by omega)) _
  have h2 : s.Steady devWord s2 := h1.forN fun d _ _ hu => hu.setReg (devWord_add (by omega)) _
  have h3 : s.Steady devWord s3 := h2.forN fun e _ _ hu => (hu.set (devWord_add (by omega)) 0).set (devWord_add (by omega)) 0
  exact ((h3.setReg (a := Reg.MP_TILE.word) rfl 0).set (f := Reg.MP_STAT.LIM_VALID) rfl 0).dropPads

/-- What is the same of the mode and the scheduled request. -/
def State.SameMode (s t : State) : Prop := (∀ a, devWord a = true → t.reg a = s.reg a) ∧ t.sched = s.sched

theorem State.Steady.sameMode (h : s.Steady devWord t) : s.SameMode t := ⟨h.words, h.sched⟩

theorem State.SameMode.setPort (h : s.SameMode t) (o : Option MpOp) : s.SameMode { t with mpOp := o } := h

theorem State.discover_sameMode (s : State) : s.SameMode s.discover := by
  have h1 : s.Steady devWord ((s.clearLimits.set Reg.MP_STAT.BUSY 1).forN 8 (fun k t => t.setReg (Reg.MP_MOD.word k) 0)) :=
    ((State.Steady.refl s).clearLimits.set (f := Reg.MP_STAT.BUSY) rfl 1).forN fun k _ _ hu => hu.setReg (devWord_add (by omega)) 0
  exact h1.sameMode.setPort _

theorem State.enterMode_sameMode (s : State) (m : Nat) : s.SameMode (s.enterMode m) := by
  by_cases hm : m = Mode.DISCOVER
  · rw [State.enterMode, if_pos hm]
    have h1 := (State.Steady.refl s).clearStructure.sameMode
    refine ite_kept (P := s.SameMode) (fun _ => ?_) fun _ => h1
    have h2 := s.clearStructure.discover_sameMode
    exact ⟨fun a ha => (h2.1 a ha).trans (h1.1 a ha), h2.2.trans h1.2⟩
  · exact ((State.enterMode_steady hm).mono fun _ => standWord_of_devWord).sameMode

/-- The words of the mode once the device has changed it. -/
theorem State.setMode_sameMode (s : State) (m cause : Nat) : (s.ceased.turned s.mode m cause s.now).SameMode (s.setMode m cause) := by
  rw [State.setMode_eq]
  have h1 := ((State.Steady.refl (s.ceased.turned s.mode m cause s.now)).dropCycles.mono fun _ => standWord_of_devWord).sameMode
  have h2 := (s.ceased.turned s.mode m cause s.now).dropCycles.enterMode_sameMode m
  exact ⟨fun a ha => (h2.1 a ha).trans (h1.1 a ha), h2.2.trans h1.2⟩

theorem State.setMode_sched (s : State) (m cause : Nat) : (s.setMode m cause).sched = s.sched :=
  (s.setMode_sameMode m cause).2.trans s.ceased_steady.sched

/-- The fields that a change of mode writes. -/
def turnFields : List Fld := [Reg.DEV_MODE.CUR, Reg.DEV_STAT.PREV, Reg.DEV_STAT.CAUSE, Reg.DEV_STAT.MODE_BEAT]

theorem State.stamped_sameFields (s : State) (old m cause beat : Nat) : s.SameFields turnFields (s.stamped old m cause beat) := by
  have h1 : s.SameFields turnFields (s.set Reg.DEV_MODE.CUR m) := State.SameFields.set _ _ (by decide) (by decide) (by decide)
  exact ((h1.snoc (State.SameFields.set Reg.DEV_STAT.PREV _ (by decide) (by decide) (by decide))).snoc
    (State.SameFields.set Reg.DEV_STAT.CAUSE _ (by decide) (by decide) (by decide))).snoc
    (State.SameFields.set Reg.DEV_STAT.MODE_BEAT _ (by decide) (by decide) (by decide))

theorem State.setMode_get_turned {f : Fld} (h : devWord f.addr = true) :
    (s.setMode m cause).get f = (s.ceased.stamped s.mode m cause s.now).get f := by
  rw [State.get, (s.setMode_sameMode m cause).1 _ h]
  rfl

/-- Every other field of the words of the device stays. -/
theorem State.setMode_get {f : Fld} (h : devWord f.addr = true) (hf : f.Apart turnFields) : (s.setMode m cause).get f = s.get f := by
  rw [State.setMode_get_turned h, (s.ceased.stamped_sameFields s.mode m cause s.now).get hf]
  exact s.ceased_steady.get (exceptWord_of_ne (standWord_of_devWord h) (by rintro heq; rw [heq] at h; cases h))

theorem State.setMode_mode (hm : m < 16) : (s.setMode m cause).mode = m := by
  rw [State.mode, State.setMode_get_turned rfl, State.stamped, State.get_set_addr _ _ _ (by decide), State.get_set_addr _ _ _ (by decide),
    State.get_set_addr _ _ _ (by decide), State.get_set_same _ _ (by decide) (by decide)]
  exact Nat.mod_eq_of_lt hm

theorem State.mode_lt (s : State) : s.mode < 16 := State.get_lt Reg.DEV_MODE.CUR

/-- R490, R510: the device has entered the mode, and its stores stand. -/
theorem State.setMode_enters (hm : m < 16) (hc : cause < 16) : s.Enters (s.setMode m cause) m cause := by
  have := keeps_sameStore s
  have := keepsMaps_sameStore s
  refine ⟨State.setMode_mode hm, ?prev, ?cause, ?beat, State.setMode_kept (P := s.SameStore) ⟨rfl, rfl, rfl⟩ m cause⟩
  all_goals rw [State.setMode_get_turned rfl, State.stamped]
  case prev =>
    rw [State.get_set_other _ _ _ (by decide) (by decide) (by decide), State.get_set_other _ _ _ (by decide) (by decide) (by decide),
      State.get_set_same _ _ (by decide) (by decide)]
    exact Nat.mod_eq_of_lt s.mode_lt
  case cause =>
    rw [State.get_set_other _ _ _ (by decide) (by decide) (by decide), State.get_set_same _ _ (by decide) (by decide)]
    exact Nat.mod_eq_of_lt hc
  case beat => exact State.get_set_same _ _ (by decide) (by decide)

end
end Sys2Proof.Machine
end

section
/-! SUPPORT. The loss of the framing of SYNC_IN, and the loss of REFCLK (R30, R45). -/

namespace Sys2Proof.Machine

section
variable {s t : State} {W : Nat → Bool}

/-- R30: what the loss of REFCLK does to the timebase. -/
def State.clockLost (s : State) : State :=
  let t := (((s.set Reg.TB_STAT.REFCLK_LOST 1).set Reg.TB_STAT.PLL_LOCK 0).set Reg.TB_STAT.CNT_VALID 0).unframe
  { t with tb := { t.tb with refPresent := false, load := none, snapOrigin := [] }, snaps := [] }

/-- R30: the report of the loss. -/
def State.lossReported (s : State) : State := (s.alert Alert.TIMEBASE).log Src.TB Lc.REFCLK_LOST 0 1

/-- R30: the device after the loss, its clone groups left aside. -/
def State.lost (s : State) : State :=
  State.clockLost (if s.mode = Mode.RESET ∨ s.mode = Mode.SHUTDOWN then s.lossReported else s.lossReported.leaveOperation.setMode Mode.SAFE 3)

theorem exec_refclkLost : exec .refclkLost s = .next s.lost.follow := rfl

theorem State.unframe_sameFields : s.SameFields [Reg.TB_STAT.SYNC_LOST, Reg.TB_STAT.LOCK, Reg.LOG_STAT.DROPPED] s.unframe := by
  unfold State.unframe
  extract_lets s1
  have h1 : s.SameFields [Reg.TB_STAT.SYNC_LOST, Reg.TB_STAT.LOCK, Reg.LOG_STAT.DROPPED] s1 := ite_kept
    (fun _ => (State.SameFields.set Reg.TB_STAT.SYNC_LOST 1 (by decide) (by decide) (by simp)).snoc (State.log_sameFields.mono (by simp)))
    fun _ => State.SameFields.refl
  exact (h1.snoc (State.SameFields.set Reg.TB_STAT.LOCK 0 (by decide) (by decide) (by simp))).snoc (State.SameFields.of_regs rfl)

theorem State.unframe_lock : s.unframe.get Reg.TB_STAT.LOCK = 0 := State.get_set_same Reg.TB_STAT.LOCK 0 (by decide) (by decide)

theorem State.Steady.unframe (h : s.Steady W t) (htb : W Reg.TB_STAT.word = false) (hlog : W Reg.LOG_STAT.word = false) : s.Steady W t.unframe := by
  unfold State.unframe
  extract_lets s1
  have h1 : s.Steady W s1 := ite_kept (fun _ => (h.set (f := Reg.TB_STAT.SYNC_LOST) htb 1).log hlog _ _ _ _) fun _ => h
  exact (h1.set (f := Reg.TB_STAT.LOCK) htb 0).upd rfl rfl id id

theorem State.Steady.dropClock (h : s.Steady W t) (tb : TbSt) : s.Steady W { t with tb := tb, snaps := [] } := h.upd rfl rfl id id

theorem State.Steady.clockLost (h : s.Steady W t) (htb : W Reg.TB_STAT.word = false) (hlog : W Reg.LOG_STAT.word = false) : s.Steady W t.clockLost :=
  ((((h.set (f := Reg.TB_STAT.REFCLK_LOST) htb 1).set (f := Reg.TB_STAT.PLL_LOCK) htb 0).set (f := Reg.TB_STAT.CNT_VALID) htb 0).unframe htb hlog).dropClock _

/-- The flags of TB_STAT before the framing is lost. -/
theorem State.clockLost_flag {f : Fld} (hf : f.Apart [Reg.TB_STAT.SYNC_LOST, Reg.TB_STAT.LOCK, Reg.LOG_STAT.DROPPED]) :
    s.clockLost.flag f = (((s.set Reg.TB_STAT.REFCLK_LOST 1).set Reg.TB_STAT.PLL_LOCK 0).set Reg.TB_STAT.CNT_VALID 0).flag f :=
  State.unframe_sameFields.flag hf

theorem State.clockLost_refclkLost : s.clockLost.flag Reg.TB_STAT.REFCLK_LOST = true := by
  rw [State.clockLost_flag (by unfold Fld.Apart; decide), State.flag, State.get_set_other _ _ _ (by decide) (by decide) (by decide),
    State.get_set_other _ _ _ (by decide) (by decide) (by decide)]
  exact State.flag_set_one _ (by decide) (by decide)

theorem State.clockLost_pllLock : s.clockLost.flag Reg.TB_STAT.PLL_LOCK = false := by
  rw [State.clockLost_flag (by unfold Fld.Apart; decide), State.flag, State.get_set_other _ _ _ (by decide) (by decide) (by decide)]
  exact State.flag_of_get (State.get_set_same _ _ (by decide) (by decide))

theorem State.clockLost_cntValid : s.clockLost.cntValid = false := by
  rw [State.cntValid, State.clockLost_flag (by unfold Fld.Apart; decide)]
  exact State.flag_of_get (State.get_set_same _ _ (by decide) (by decide))

theorem State.clockLost_lock : s.clockLost.get Reg.TB_STAT.LOCK = 0 := State.unframe_lock

theorem State.clockLost_kept {P : State → Prop} [Keeps P] (h : P s) : P s.clockLost := by
  unfold State.clockLost
  extract_lets u
  have hu : P u := State.unframe_kept (State.set_kept (State.set_kept (State.set_kept h _ _) _ _) _ _)
  exact kept_upd hu

theorem State.turned_kept {P : State → Prop} [Keeps P] (h : P s) (old m cause beat : Nat) : P (s.turned old m cause beat) := by
  have h1 : P (s.stamped old m cause beat) := State.set_kept (State.set_kept (State.set_kept (State.set_kept h _ _) _ _) _ _) _ _
  exact kept_upd h1

/-- A change of mode, to another mode than DISCOVER, keeps the structure too. -/
theorem State.setMode_plain_kept {P : State → Prop} [Keeps P] (h : P s) {m : Nat} (hm : m ≠ Mode.DISCOVER) (cause : Nat) : P (s.setMode m cause) := by
  have h1 : P s.ceased := ite_kept (fun _ => State.discAbort_kept h) fun _ => ite_kept (fun _ => State.contactAbort_kept h) fun _ => h
  have h2 : P (s.ceased.turned s.mode m cause s.now).dropCycles := State.dropCycles_kept (State.turned_kept h1 _ _ _ _)
  rw [State.setMode_eq, State.enterMode, if_neg hm]
  exact ite_kept (fun _ => State.contactStart_kept h2) fun _ => ite_kept (fun _ => kept_upd h2) fun _ => h2

/-- R30: what the loss of REFCLK keeps. -/
theorem State.lost_kept {P : State → Prop} [Keeps P] (h : P s) : P s.lost := by
  have h0 : P s.lossReported := State.log_kept (State.alert_kept h _) _ _ _ _
  exact State.clockLost_kept (ite_kept (fun _ => h0) fun _ => State.setMode_plain_kept (State.leaveOperation_kept h0) (by decide) 3)

/-- R30, R450: the report leaves the mode of the device and its outputs alone. -/
theorem State.lossReported_sameWords (s : State) : s.SameWords [Reg.TB_STAT.word, Reg.CP_ALERT.word, Reg.HL_INT.word, Reg.LOG_STAT.word] s.lossReported := by
  have halert : s.SameWords [Reg.TB_STAT.word, Reg.CP_ALERT.word, Reg.HL_INT.word, Reg.LOG_STAT.word] (s.alert Alert.TIMEBASE) := fun a ha => by
    simp only [List.mem_cons, List.not_mem_nil, or_false, not_or] at ha
    exact State.alert_word ha.2.1 ha.2.2.1
  refine halert.snoc ?_
  unfold State.lossReported State.log
  exact ite_kept (fun _ => State.SameWords.set _ _ (by decide)) fun _ => State.SameWords.of_regs rfl

theorem State.lossReported_pending (s : State) : s.lossReported.alertPending Alert.TIMEBASE = true := by
  rw [State.alertPending_eq (by decide), State.lossReported, State.log_sameFields.flag (by unfold Fld.Apart; decide)]
  exact State.alert_flag (by decide)

end

section

variable {s : State}

/-- R30: in RESET and SHUTDOWN there is nothing to leave. -/
theorem State.lost_idle (h : s.mode = Mode.RESET ∨ s.mode = Mode.SHUTDOWN) : s.lost = s.lossReported.clockLost := by rw [State.lost, if_pos h]

theorem State.clockLost_sameWords (s : State) : s.SameWords [Reg.TB_STAT.word, Reg.LOG_STAT.word] s.clockLost := fun a ha =>
  (State.Steady.clockLost (W := fun b => decide (b ∉ [Reg.TB_STAT.word, Reg.LOG_STAT.word])) (State.Steady.refl s) (by decide) (by decide)).words a
    (decide_eq_true ha)

end
/-- Settles O50: the loss is the report, leaving operation and the change to SAFE where there is something to leave, and then the loss of the clock
itself, which writes TB_STAT and drops the snapshots and the value that waits to load. -/
theorem refclkLost : Obligations.RefclkLost := by
  unfold Obligations.RefclkLost
  refine ⟨fun s => ?_, fun s hm => ?_⟩
  · have := keeps_sameStore s
    have := keeps_maps s
    obtain ⟨hmem, hnvm, hcs⟩ : s.SameStore s.lost := State.lost_kept ⟨rfl, rfl, rfl⟩
    have hmaps : s.lost.maps = s.maps := State.lost_kept (P := fun t => t.maps = s.maps) rfl
    exact ⟨s.lost, exec_refclkLost, State.clockLost_refclkLost, State.clockLost_pllLock, State.clockLost_cntValid, State.clockLost_lock, rfl, rfl, rfl,
      hmem, hnvm, hcs, hmaps⟩
  · have hclock := s.lossReported.clockLost_sameWords
    refine ⟨s.lost, exec_refclkLost, ?_⟩
    rw [State.lost_idle hm]
    refine ⟨(hclock.get (by decide)).trans (s.lossReported_sameWords.get (by decide)), ?_, s.lossReported_sameWords.snoc fun a ha => hclock a ?_⟩
    · exact (congrArg (bitOf · Alert.TIMEBASE) (hclock.get (f := Reg.CP_ALERT.PEND) (by decide))).trans s.lossReported_pending
    · revert ha
      simp +contextual

end Sys2Proof.Machine
end

section
/-! SUPPORT. What REFCLK_LOST and a shutdown do to a device in operation (R30, R481). -/

namespace Sys2Proof.Machine

section
variable {s s' t u : State} {W : Nat → Bool} {m cause : Nat}

theorem State.SameStore.refl (s : State) : s.SameStore s := ⟨rfl, rfl, rfl⟩

theorem State.SameStore.trans (h : s.SameStore t) (h' : t.SameStore u) : s.SameStore u :=
  ⟨h'.1.trans h.1, h'.2.1.trans h.2.1, h'.2.2.trans h.2.2⟩

/-- A mode is entered as well when steps before it leave the mode and the clock alone. -/
theorem State.Enters.of_before (h : s'.Enters t m cause) (hmode : s'.mode = s.mode) (hnow : s'.now = s.now) (hs : s.SameStore s') : s.Enters t m cause := by
  obtain ⟨hm, hprev, hcause, hbeat, hstore⟩ := h
  exact ⟨hm, hprev.trans hmode, hcause, hnow ▸ hbeat, hs.trans hstore⟩

/-- Steps after the change that leave the words of the mode alone leave it entered. -/
theorem State.Enters.of_after (h : s.Enters t m cause) (hword : ∀ a, a = Reg.DEV_MODE.word ∨ a = Reg.DEV_STAT.word → u.reg a = t.reg a)
    (ht : t.SameStore u) : s.Enters u m cause := by
  obtain ⟨hm, hprev, hcause, hbeat, hstore⟩ := h
  have hget : ∀ f : Fld, f.addr = Reg.DEV_MODE.word ∨ f.addr = Reg.DEV_STAT.word → u.get f = t.get f := fun f hf => by
    rw [State.get, hword _ hf]
    rfl
  exact ⟨(hget _ (.inl rfl)).trans hm, (hget _ (.inr rfl)).trans hprev, (hget _ (.inr rfl)).trans hcause, (hget _ (.inr rfl)).trans hbeat, State.SameStore.trans (s := s) hstore ht⟩

theorem State.Steady.alert (h : s.Steady W t) (hW : W Reg.CP_ALERT.word = false) (hint : W (intrField 0).addr = false) (i : Nat) : s.Steady W (t.alert i) := by
  have h1 : s.Steady W (t.set (alertField i) 1) := h.set (f := alertField i) hW 1
  obtain ⟨heq, _⟩ | heq | heq := t.alert_cases i
  · rw [heq]; exact h
  · rw [heq]; exact h1
  · rw [heq]; exact h1.intr hint i

theorem State.lossReported_steady (s : State) : s.Steady (exceptWord standWord Reg.CP_ALERT.word) s.lossReported :=
  ((State.Steady.refl s).alert (exceptWord_self _) rfl Alert.TIMEBASE).log rfl _ _ _ _

theorem State.lossReported_store (s : State) : s.SameStore s.lossReported := by
  have := keeps_sameStore s
  exact State.log_kept (State.alert_kept (State.SameStore.refl s) _) _ _ _ _

/-- The words that a change of mode leaves, of those that leaving operation reads or writes. -/
theorem changeWord_SQ_STAT {n : Nat} (hn : n < 64) : changeWord (Reg.SQ_STAT.word n) = true := by
  refine exceptWord_of_ne (exceptWord_of_ne (exceptWord_of_ne (standWord_SQ_STAT hn) ?_) ?_) ?_
  all_goals
    simp only [Reg.SQ_STAT.word, Reg.MP_STAT.word, Reg.DEV_MODE.word, Reg.DEV_STAT.word]
    omega

theorem changeWord_CH_CTRL {c : Nat} (hc : c < 1024) : changeWord (Reg.CH_CTRL.word c) = true := by
  refine exceptWord_of_ne (exceptWord_of_ne (exceptWord_of_ne (standWord_CH_CTRL hc) ?_) ?_) ?_
  all_goals
    simp only [Reg.CH_CTRL.word, Reg.MP_STAT.word, Reg.DEV_MODE.word, Reg.DEV_STAT.word]
    omega

/-- A device that no unit, action, operation or clone group holds has left operation once it is disarmed and its sites have landed. -/
theorem State.leaveOperation_leaves (hi : s.Idle) (hc : s.Cloneless) (hsi : s.siOp = none) : s.LeavesOperation s.leaveOperation :=
  ⟨fun _ hn => State.leaveOperation_disarmed hi hc hsi hn, fun _ hn hempty hret => State.leaveOperation_lands hi hc hsi hn ⟨hempty, hret⟩⟩

theorem State.LeavesOperation.of_before (h : s'.LeavesOperation t) (hsites : ∀ n < 64, s'.siteState n = s.siteState n) : s.LeavesOperation t :=
  ⟨h.1, fun n hn hempty hret => h.2 n hn (hsites n hn ▸ hempty) (hsites n hn ▸ hret)⟩

theorem State.LeavesOperation.of_after (h : s.LeavesOperation t) (hsites : ∀ n < 64, u.siteState n = t.siteState n)
    (harms : ∀ c < 1024, u.flag (Reg.CH_CTRL.OUT_ARM c) = t.flag (Reg.CH_CTRL.OUT_ARM c)) : s.LeavesOperation u :=
  ⟨fun c hc => (harms c hc).trans (h.1 c hc), fun n hn hempty hret => (hsites n hn).trans (h.2 n hn hempty hret)⟩

/-- A device leaves operation for a mode other than DISCOVER. -/
theorem State.leaveOperation_setMode (hi : s.Idle) (hc : s.Cloneless) (hsi : s.siOp = none) (hm : m < 16) (hcause : cause < 16) (hdisc : m ≠ Mode.DISCOVER) :
    s.Enters (s.leaveOperation.setMode m cause) m cause ∧ s.LeavesOperation (s.leaveOperation.setMode m cause) ∧
    s.Steady (fun a => a == Reg.CP_ALERT.word) (s.leaveOperation.setMode m cause) := by
  have := keeps_sameStore s
  have hleave := State.leaveOperation_steady hi hc hsi
  have hset : s.leaveOperation.Steady changeWord (s.leaveOperation.setMode m cause) := State.setMode_steady hdisc
  refine ⟨(State.setMode_enters hm hcause).of_before (hleave.get (f := Reg.DEV_MODE.CUR) rfl) hleave.now (State.leaveOperation_kept (State.SameStore.refl s)),
    (State.leaveOperation_leaves hi hc hsi).of_after (fun n hn => hset.get (f := Reg.SQ_STAT.STATE n) (changeWord_SQ_STAT hn))
      fun c hc => hset.flag (f := Reg.CH_CTRL.OUT_ARM c) (changeWord_CH_CTRL hc), (hleave.mono ?_).trans (hset.mono ?_)⟩
  all_goals
    intro a ha
    obtain rfl : a = Reg.CP_ALERT.word := by simpa using ha
    rfl

/-! ### The loss of REFCLK -/

theorem State.lost_running (h : s.mode ≠ Mode.RESET) (h' : s.mode ≠ Mode.SHUTDOWN) :
    s.lost = (s.lossReported.leaveOperation.setMode Mode.SAFE 3).clockLost := by
  rw [State.lost, if_neg (not_or.2 ⟨h, h'⟩)]

theorem State.Unengaged.idle (h : s.Unengaged) : s.Idle ∧ s.Cloneless ∧ s.siOp = none := by
  obtain ⟨htdc, hpmu, _, hclones, hacts, hsi⟩ := h
  exact ⟨⟨hacts, hpmu, htdc⟩, hclones, hsi⟩

theorem State.lossReported_cloneless (h : s.Cloneless) : s.lossReported.Cloneless := by
  have := keeps_cloneless
  exact State.log_kept (State.alert_kept h _) _ _ _ _

theorem State.lost_leaves (h : s.mode ≠ Mode.RESET) (h' : s.mode ≠ Mode.SHUTDOWN) (hun : s.Unengaged) :
    s.Enters s.lost Mode.SAFE 3 ∧ s.LeavesOperation s.lost ∧ s.lost.alertPending Alert.TIMEBASE = true ∧ s.lost.pendActs = [] ∧ s.lost.siOp = none := by
  obtain ⟨hi, hc, hsi⟩ := hun.idle
  have hrep := s.lossReported_steady
  have hsi0 : s.lossReported.siOp = none := hrep.siOp.trans hsi
  obtain ⟨henters, hleaves, halert⟩ := State.leaveOperation_setMode (m := Mode.SAFE) (cause := 3) (hrep.idle hi) (State.lossReported_cloneless hc) hsi0
    (by decide) (by decide) (by decide)
  rw [State.lost_running h h']
  generalize s.lossReported.leaveOperation.setMode Mode.SAFE 3 = t at henters hleaves halert
  have hclock : t.Steady standWord t.clockLost := (State.Steady.refl t).clockLost rfl rfl
  have := keeps_sameStore t
  refine ⟨?enters, ?leaves, ?alert, ?idle⟩
  case enters =>
    refine (henters.of_before (hrep.get (f := Reg.DEV_MODE.CUR) rfl) hrep.now s.lossReported_store).of_after ?_
      (State.clockLost_kept (State.SameStore.refl t))
    rintro a (rfl | rfl) <;> exact hclock.words _ rfl
  case leaves =>
    exact (hleaves.of_before fun n hn => hrep.get (f := Reg.SQ_STAT.STATE n) (exceptWord_of_ne (standWord_SQ_STAT hn) (by
      simp only [Reg.SQ_STAT.STATE, Reg.CP_ALERT.word]; omega))).of_after (fun n hn => hclock.get (f := Reg.SQ_STAT.STATE n) (standWord_SQ_STAT hn))
      fun c hc => hclock.flag (f := Reg.CH_CTRL.OUT_ARM c) (standWord_CH_CTRL hc)
  case alert =>
    have hpend := (hclock.get (f := Reg.CP_ALERT.PEND) rfl).trans (halert.get (f := Reg.CP_ALERT.PEND) rfl)
    exact (congrArg (bitOf · Alert.TIMEBASE) hpend).trans s.lossReported_pending
  case idle =>
    exact ⟨(hclock.idle (halert.idle (hrep.idle hi))).1,
      (hclock.siOp.trans halert.siOp).trans hsi0⟩

/-! ### The start of a shutdown -/

theorem leBytes_length (k n : Nat) : (leBytes k n).length = k := by
  induction k generalizing n with
  | zero => rfl
  | succ k ih => rw [leBytes, List.length_cons, ih]

/-- R482: the record of a shutdown takes 32 bytes. -/
theorem shutBody_length (s : State) (seq src cause : Nat) : (withCrc (s.shutBody seq src cause)).length = 32 := by
  simp only [withCrc, State.shutBody, List.length_append, leBytes_length]

/-- R481: the report of a shutdown. -/
def State.shutReported (s : State) (c det : Nat) : State := (s.alert (if c = 3 then Alert.OTHER else Alert.THERMAL)).log Src.HK Lc.SHUTDOWN det

/-- R482: the shutdown in hand. -/
def State.setShut (s : State) (k : Shut) : State := { s with shut := some k }

theorem State.shutdown_eq (s : State) (src c : Nat) : ∃ (det : Nat) (k : Shut), k.phase = 0 ∧ k.start = s.now ∧ k.body.length = 32 ∧
    s.shutdown src c = ((s.leaveOperation.setMode Mode.SHUTDOWN 4).shutReported c det).setShut k :=
  ⟨_, ⟨_, _, _, _⟩, rfl, rfl, shutBody_length s _ src c, rfl⟩

theorem State.Steady.shutReported (h : s.Steady (exceptWord standWord Reg.CP_ALERT.word) t) (c det : Nat) :
    s.Steady (exceptWord standWord Reg.CP_ALERT.word) (t.shutReported c det) := (h.alert (exceptWord_self _) rfl _).log rfl _ _ _ _

theorem State.shutReported_kept {P : State → Prop} [Keeps P] (h : P s) (c det : Nat) : P (s.shutReported c det) :=
  State.log_kept (State.alert_kept h _) _ _ _ _

theorem State.setShut_kept {P : State → Prop} [Keeps P] (h : P s) (k : Shut) : P (s.setShut k) := kept_upd h

theorem State.setShut_shut (s : State) (k : Shut) : (s.setShut k).shut = some k := rfl

theorem State.Steady.setShut (h : s.Steady W t) (k : Shut) : s.Steady W (t.setShut k) := h.upd rfl rfl id id

/-- R481: a shutdown takes the device out of operation, and its record is begun. -/
theorem State.shutdown_leaves (src c : Nat) (hun : s.Unengaged) : s.Enters (s.shutdown src c) Mode.SHUTDOWN 4 ∧ s.LeavesOperation (s.shutdown src c) ∧
    (∃ k, (s.shutdown src c).shut = some k ∧ k.phase = 0 ∧ k.start = s.now ∧ k.body.length = 32) ∧ (s.shutdown src c).Cloneless := by
  obtain ⟨hi, hc, hsi⟩ := hun.idle
  obtain ⟨henters, hleaves, -⟩ := State.leaveOperation_setMode (m := Mode.SHUTDOWN) (cause := 4) hi hc hsi (by decide) (by decide) (by decide)
  have hnone : (s.leaveOperation.setMode Mode.SHUTDOWN 4).Cloneless := by
    have := keeps_cloneless
    exact State.setMode_plain_kept (State.leaveOperation_kept hc) (by decide) 4
  obtain ⟨det, k, hphase, hstart, hlen, heq⟩ := s.shutdown_eq src c
  rw [heq]
  generalize s.leaveOperation.setMode Mode.SHUTDOWN 4 = t at henters hleaves hnone
  have hrep : t.Steady (exceptWord standWord Reg.CP_ALERT.word) ((t.shutReported c det).setShut k) := ((State.Steady.refl t).shutReported c det).setShut k
  have hstore : t.SameStore ((t.shutReported c det).setShut k) := by
    have := keeps_sameStore t
    exact State.setShut_kept (State.shutReported_kept (State.SameStore.refl t) c det) k
  have hclones : ((t.shutReported c det).setShut k).Cloneless := by
    have := keeps_cloneless
    exact State.setShut_kept (State.shutReported_kept hnone c det) k
  refine ⟨henters.of_after ?_ hstore, hleaves.of_after ?_ ?_, ⟨k, State.setShut_shut _ k, hphase, hstart, hlen⟩, hclones⟩
  · rintro a (rfl | rfl) <;> exact hrep.words _ rfl
  · exact fun n hn => hrep.get (f := Reg.SQ_STAT.STATE n) (exceptWord_of_ne (standWord_SQ_STAT hn) (by
      simp only [Reg.SQ_STAT.STATE, Reg.CP_ALERT.word]; omega))
  · exact fun n hn => hrep.flag (f := Reg.CH_CTRL.OUT_ARM n) (exceptWord_of_ne (standWord_CH_CTRL hn) (by
      simp only [Reg.CH_CTRL.OUT_ARM, Reg.CP_ALERT.word]; omega))

/-- R470: the round in hand is closed. -/
def State.closeRound (s : State) : State := { s with hk := { s.hk with round := none, judged := false, fatal := none } }

theorem State.Enters.closeRound (h : s.Enters t m cause) : s.Enters t.closeRound m cause := h
theorem State.LeavesOperation.closeRound (h : s.LeavesOperation t) : s.LeavesOperation t.closeRound := h
theorem State.closeRound_shut (s : State) : s.closeRound.shut = s.shut := rfl
theorem State.closeRound_round (s : State) : s.closeRound.hk.round = none := rfl

/-- R470: an evaluation that finds a fatal cause starts a shutdown. -/
theorem exec_roundEvaluation_fatal {r : State} {src c : Nat} (hr : r = s.hkReadings) (hround : r.hk.round ≠ none) (hjudged : r.hk.judged = true)
    (hfatal : r.hk.fatal = some (src, c)) (h : r.mode ≠ Mode.RESET) (h' : r.mode ≠ Mode.SHUTDOWN) (hclones : (r.shutdown src c).Cloneless) :
    exec .roundEvaluation s = .next (r.shutdown src c).closeRound := by
  have hact : r.hkActions = r.shutdown src c := by
    rw [State.hkActions, if_neg (not_or.2 ⟨h, h'⟩), hfatal]
  have hdue : r.hk.round.isSome = true ∧ r.hk.judged = true := ⟨Option.isSome_iff_ne_none.2 hround, hjudged⟩
  have heval : s.evaluate = r.hkActions.follow.closeRound := by
    rw [State.evaluate, ← hr]
    exact if_pos hdue
  have hexec : exec .roundEvaluation s = .next s.evaluate := rfl
  rw [hexec, heval, hact, State.follow_nil hclones]

end
/-- Settles O51: what stands before the event is disarmed and lands loop by loop, each loop leaving alone what the ones before it brought about, and the
change of mode after it touches neither the sites nor the channels. -/
theorem leavingOperation : Obligations.LeavingOperation := by
  unfold Obligations.LeavingOperation
  refine ⟨fun s h h' hun => ?_, fun s r src c hr hround hjudged hfatal h h' hun => ?_⟩
  · exact ⟨s.lost, exec_refclkLost, State.lost_leaves h h' hun⟩
  · obtain ⟨henters, hleaves, hshut, hclones⟩ := State.shutdown_leaves src c hun
    rw [← State.closeRound_shut] at hshut
    exact ⟨_, exec_roundEvaluation_fatal hr hround hjudged hfatal h h' hclones, henters.closeRound, hleaves.closeRound, hshut, State.closeRound_round _⟩

end Sys2Proof.Machine
end

section
/-! SUPPORT. Mode requests (R491, R494, R497): a request as it is written, as it is taken, and as it is refused. -/

namespace Sys2Proof.Machine

/-! ### The word of a request -/

section
variable {m : Nat} {b : BitVec 64}

theorem wget_ofNat (n hi lo : Nat) (hn : n < 2 ^ 128) : wget (BitVec.ofNat 128 n) hi lo = n / 2 ^ lo % 2 ^ (hi + 1 - lo) := by
  rw [wget, bitsOf, BitVec.toNat_ofNat, Nat.mod_eq_of_lt hn, Nat.shiftRight_eq_div_pow]

theorem modeWord_none (hm : m < 16) : Reg.DEV_MODE.REQ.of (modeWord m none) = m ∧ Reg.DEV_MODE.AT_EN.of (modeWord m none) = 0 := by
  have h (hi lo : Nat) := wget_ofNat m hi lo (by omega)
  simp only [Fld.of, modeWord, Reg.DEV_MODE.REQ, Reg.DEV_MODE.AT_EN, h]
  omega

theorem modeWord_some (hm : m < 16) : Reg.DEV_MODE.REQ.of (modeWord m (some b)) = m ∧ Reg.DEV_MODE.AT_EN.of (modeWord m (some b)) = 1 ∧
    Reg.DEV_MODE.AT.of (modeWord m (some b)) = b.toNat := by
  have hb := b.isLt
  have h (hi lo : Nat) := wget_ofNat (b.toNat * 2 ^ 64 + 16 + m) hi lo (by omega)
  simp only [Fld.of, modeWord, Reg.DEV_MODE.REQ, Reg.DEV_MODE.AT_EN, Reg.DEV_MODE.AT, h]
  omega

end

/-! ### The rows -/

section
variable {s : State} {p : Port} {x : Option (BitVec 64)} {r : Instr × Nat} {m : Nat}

theorem ModeRow.exec_eq (h : ModeRow p x r) (s : State) : exec r.1 s = .next (s.modeReq p r.2 x) := by
  simp only [ModeRow, List.mem_cons, List.not_mem_nil, or_false] at h
  obtain rfl | rfl | rfl | rfl | rfl | rfl | rfl | rfl | rfl := h <;> rfl

theorem ModeRow.named (h : ModeRow p x r) : r.2 ∉ [Mode.RESET, Mode.THROTTLE, Mode.SHUTDOWN] ∧ r.2 ≤ 0xB := by
  simp only [ModeRow, List.mem_cons, List.not_mem_nil, or_false] at h
  obtain rfl | rfl | rfl | rfl | rfl | rfl | rfl | rfl | rfl := h <;> (dsimp only; decide)

/-- A row of a request, one for a mode that no host may ask for among them. -/
theorem modeRequest_exec {req : BitVec 4} (h : ModeRow p x r ∨ r = (.modeReqForbidden p req x, req.toNat)) (s : State) :
    exec r.1 s = .next (s.modeReq p r.2 x) ∧ r.2 < 16 := by
  obtain h | rfl := h
  · exact ⟨h.exec_eq s, Nat.lt_of_le_of_lt h.named.2 (by decide)⟩
  · exact ⟨rfl, req.isLt⟩

/-! ### What a request writes -/

/-- The fields of a request. -/
def requestFields : List Fld := [Reg.DEV_MODE.AT, Reg.DEV_MODE.AT_EN, Reg.DEV_MODE.REQ]

theorem State.modeFields_sameFields (w : Word) : s.SameFields requestFields (s.modeFields w) :=
  ((State.SameFields.set Reg.DEV_MODE.AT _ (by decide) (by decide) (by decide)).snoc
    (State.SameFields.set Reg.DEV_MODE.AT_EN _ (by decide) (by decide) (by decide))).snoc
    (State.SameFields.set Reg.DEV_MODE.REQ _ (by decide) (by decide) (by decide))

theorem State.modeFields_frame (w : Word) : s.modeFields w = { s with regs := (s.modeFields w).regs } := rfl

theorem State.modeFields_req (w : Word) : (s.modeFields w).get Reg.DEV_MODE.REQ = Reg.DEV_MODE.REQ.of w := by
  rw [State.modeFields, State.get_set_same _ _ (by decide) (by decide)]
  exact Nat.mod_eq_of_lt (Nat.mod_lt _ (by decide))

theorem State.modeFields_mode (w : Word) : (s.modeFields w).mode = s.mode := (State.modeFields_sameFields w).get (by unfold Fld.Apart; decide)

/-! ### A request that is taken -/

/-- The mode that a request for `m` enters. -/
def State.modeEntered (s : State) (m : Nat) : Nat :=
  if s.mode ≠ Mode.SELFTEST ∧ m = Mode.RUN ∧ s.flag Reg.HK_STAT.THROTTLED = true then Mode.THROTTLE else m

/-- R497: a request during the self-test aborts it. -/
def State.testAborted (s : State) : State := if s.mode = Mode.SELFTEST then s.set Reg.DEV_STST.ABORTED 1 else s

theorem State.modeTake_eq (h : m ≠ s.mode) (cause : Nat) : s.modeTake m cause = s.testAborted.setMode (s.modeEntered m) cause := by
  rw [State.modeTake, if_neg h, State.testAborted, State.modeEntered]
  by_cases ht : s.mode = Mode.SELFTEST
  · rw [if_pos ht, if_pos ht, if_neg (fun hx => hx.1 ht)]
  · rw [if_neg ht, if_neg ht]
    by_cases hr : m = Mode.RUN ∧ s.flag Reg.HK_STAT.THROTTLED = true
    · rw [if_pos hr, if_pos ⟨ht, hr⟩]
    · rw [if_neg hr, if_neg (fun hx => hr hx.2)]

theorem State.testAborted_sameFields : s.SameFields [Reg.DEV_STST.ABORTED] s.testAborted :=
  ite_kept (fun _ => State.SameFields.set _ _ (by decide) (by decide) (by decide)) fun _ => State.SameFields.refl

theorem State.testAborted_frame : s.testAborted = { s with regs := s.testAborted.regs } := by
  unfold State.testAborted
  split <;> rfl

theorem State.modeEntered_lt (hm : m < 16) : s.modeEntered m < 16 := by
  unfold State.modeEntered
  split
  · decide
  · exact hm

theorem State.modeEntered_discover : s.modeEntered m = Mode.DISCOVER ↔ m = Mode.DISCOVER := by
  unfold State.modeEntered
  split
  next h =>
    obtain ⟨_, rfl, _⟩ := h
    decide
  next => rfl

/-- What the taking of a request brings about. -/
theorem State.modeTake_enters (h : m ≠ s.mode) (hm : m < 16) {cause : Nat} (hc : cause < 16) : s.Enters (s.modeTake m cause) (s.modeEntered m) cause := by
  rw [State.modeTake_eq h]
  refine (State.setMode_enters (State.modeEntered_lt hm) hc).of_before (State.testAborted_sameFields.get (by unfold Fld.Apart; decide)) ?_ ?_
  · rw [State.testAborted_frame]
    rfl
  · rw [State.testAborted_frame]
    exact State.SameStore.refl s

theorem State.modeTake_get (h : m ≠ s.mode) {cause : Nat} {f : Fld} (hdev : devWord f.addr = true) (hf : f.Apart turnFields)
    (hstst : f.Apart [Reg.DEV_STST.ABORTED]) : (s.modeTake m cause).get f = s.get f := by
  rw [State.modeTake_eq h, State.setMode_get hdev hf, State.testAborted_sameFields.get hstst]

theorem State.modeTake_sched (h : m ≠ s.mode) (cause : Nat) : (s.modeTake m cause).sched = s.sched := by
  rw [State.modeTake_eq h, State.setMode_sched, State.testAborted_frame]

theorem State.modeTake_aborted (h : m ≠ s.mode) (cause : Nat) (ht : s.mode = Mode.SELFTEST) : (s.modeTake m cause).flag Reg.DEV_STST.ABORTED = true := by
  have hset := State.flag_set_one (s := s) Reg.DEV_STST.ABORTED (by decide) (by decide)
  rw [State.modeTake_eq h, State.flag, State.setMode_get rfl (by unfold Fld.Apart; decide), State.testAborted, if_pos ht]
  exact hset

/-! ### Entry to DISCOVER, and the end of a discovery -/

/-- R494: no site owns anything, and no clone group exists. -/
def State.Bare (s : State) : Prop := s.maps = [] ∧ s.clones = []

theorem keeps_bare : Keeps State.Bare where
  upd _ _ _ _ _ _ hmaps hclones _ _ h := ⟨hmaps.trans h.1, hclones.trans h.2⟩
  setReg _ _ h := h
  setShadow _ _ h := h
  latch h := h
  dropRegs _ h := h
  dropHeld _ h := h
  soft h := h

theorem State.install_nil_bare (s : State) : (s.install [] [] []).Bare := by
  have := keeps_bare
  unfold State.install
  extract_lets t lost t1 t2 t3 t4 t5 t6
  have ht : t.Bare := ⟨rfl, rfl⟩
  have h1 : t1.Bare := State.forN_kept _ _ (fun _ _ hu => State.describe_kept hu _) ht
  have h2 : t2.Bare := State.forL_kept _ _ (fun _ _ hu => State.spreadLeads_kept hu _) h1
  have h3 : t3.Bare := State.forL_kept _ _ (fun _ _ hu => State.releaseChan_kept hu _) h2
  have h4 : t4.Bare := State.forL_kept _ _ (fun _ _ hu => State.releaseDps_kept hu _) h3
  have h5 : t5.Bare := State.forL_kept _ _ (fun _ _ hu => State.laneOff_kept hu _) h4
  have h6 : t6.Bare := State.forL_kept _ _ (fun _ _ hu => State.wfOff_kept hu _) h5
  exact State.forN_kept _ _ (fun _ _ hu => State.refreshPmu_kept (State.refreshChan_kept hu _) _) h6

theorem State.clearStructure_bare (s : State) : s.clearStructure.Bare := by
  have := keeps_bare
  have h1 : ((s.install [] [] []).crossbar []).Bare := State.crossbar_kept s.install_nil_bare _
  exact State.setReg_kept (State.forN_kept _ _ (fun _ _ hu => State.setReg_kept (State.freshSite_kept hu _ _) _ _) h1) _ _

theorem State.setMode_discover_bare (s : State) (cause : Nat) : (s.setMode Mode.DISCOVER cause).Bare := by
  have := keeps_bare
  rw [State.setMode_eq, State.enterMode, if_pos rfl]
  exact ite_kept (fun _ => State.discover_kept (State.clearStructure_bare _)) fun _ => State.clearStructure_bare _

theorem State.modeTake_bare (h : m ≠ s.mode) (hm : m = Mode.DISCOVER) (cause : Nat) : (s.modeTake m cause).Bare := by
  rw [State.modeTake_eq h, State.modeEntered_discover.2 hm]
  exact State.setMode_discover_bare _ cause

theorem State.mpDone_keeps (s : State) (f : Fld) : (s.mpDone f).mpOp = s.mpOp := by
  unfold State.mpDone
  split
  · rfl
  · obtain ⟨heq, _⟩ | ⟨k, heq⟩ := (s.set f 1).intr_cases Intr.MP_DONE <;> rw [heq] <;> rfl

theorem State.mpDone_result (s : State) : (s.mpDone Reg.MP_STAT.DONE).get Reg.MP_STAT.RESULT = s.get Reg.MP_STAT.RESULT := by
  unfold State.mpDone
  split
  · rfl
  · rw [(State.intr_sameFields (by decide)).get (by unfold Fld.Apart; decide), State.get_set_other _ _ _ (by decide) (by decide) (by decide)]

/-- R432: a discovery ends with its result. -/
theorem State.discEnd_result (s : State) : (s.discEnd 3).get Reg.MP_STAT.RESULT = 3 ∧ (s.discEnd 3).mpOp = none := by
  refine ⟨(State.mpDone_result _).trans ?_, State.mpDone_keeps _ _⟩
  have hres : (s.set Reg.MP_STAT.RESULT 3).get Reg.MP_STAT.RESULT = 3 := State.get_set_same _ _ (by decide) (by decide)
  have hinc (t : State) : (t.inc Reg.MP_CNT.DISCOVERIES).get Reg.MP_STAT.RESULT = t.get Reg.MP_STAT.RESULT := State.get_set_addr _ _ _ (by decide)
  refine (hinc _).trans ?_
  rw [State.get_set_other _ _ _ (by decide) (by decide) (by decide), State.get_set_other _ _ _ (by decide) (by decide) (by decide), hres]

/-- R494: a discovery that goes on when the device leaves DISCOVER ends with RESULT 3. -/
theorem State.setMode_discovery {cause : Nat} (hm : m ≠ Mode.DISCOVER) (hmode : s.mode = Mode.DISCOVER) {todo : List Nat}
    {head : Option (List Byte × Bool)} {mods : List (Nat × List Byte)} (hop : s.mpOp = some (.discover todo head mods)) :
    (s.setMode m cause).get Reg.MP_STAT.RESULT = 3 ∧ (s.setMode m cause).mpOp = none := by
  have hceased : s.ceased = (s.set Reg.MP_STAT.LIM_VALID 0).discEnd 3 := by rw [State.ceased, if_pos hmode, State.discAbort, hop]
  obtain ⟨hres, hnone⟩ := (s.set Reg.MP_STAT.LIM_VALID 0).discEnd_result
  rw [← hceased] at hres hnone
  have hturned : (s.ceased.turned s.mode m cause s.now).get Reg.MP_STAT.RESULT = s.ceased.get Reg.MP_STAT.RESULT :=
    (s.ceased.stamped_sameFields s.mode m cause s.now).get (by unfold Fld.Apart; decide)
  have hlast := (State.Steady.refl (s.ceased.turned s.mode m cause s.now)).dropCycles.trans (State.enterMode_steady hm)
  rw [State.setMode_eq]
  exact ⟨(hlast.get (f := Reg.MP_STAT.RESULT) rfl).trans (hturned.trans hres), hlast.port hnone⟩

theorem State.modeTake_discovery {cause : Nat} (h : m ≠ s.mode) (hmode : s.mode = Mode.DISCOVER) (hop : s.mpOp ≠ none)
    (hxfer : ∀ w, s.mpOp ≠ some (.xfer w)) (hcold : s.mpOp ≠ some .cold) :
    (s.modeTake m cause).get Reg.MP_STAT.RESULT = 3 ∧ (s.modeTake m cause).mpOp = none := by
  have hself : s.testAborted = s := by rw [State.testAborted, if_neg (by rw [hmode]; decide)]
  rw [State.modeTake_eq h, hself]
  have hentered : s.modeEntered m ≠ Mode.DISCOVER := fun hx => h ((State.modeEntered_discover.1 hx).trans hmode.symm)
  match hmp : s.mpOp with
  | none => exact absurd hmp hop
  | some (.xfer w) => exact absurd hmp (hxfer w)
  | some .cold => exact absurd hmp hcold
  | some (.discover todo head mods) => exact State.setMode_discovery hentered hmode hmp

/-! ### A request that waits for its beat -/

/-- R492: what a request is judged by: the mode, the fields beside DEV_MODE, calibration and the self-test. -/
theorem State.modeAllows_congr {t : State} (hmode : t.mode = s.mode) (hget : ∀ f : Fld, f.addr ≠ Reg.DEV_MODE.word → t.get f = s.get f)
    (hcal : t.cal = s.cal) (htest : t.selfTest = s.selfTest) (m : Nat) : t.modeAllows m = s.modeAllows m := by
  have hflag : ∀ f : Fld, f.addr ≠ Reg.DEV_MODE.word → t.flag f = s.flag f := fun f hf => by rw [State.flag, hget f hf]; rfl
  have hsite : ∀ n, t.siteState n = s.siteState n := fun n => hget _ (by simp only [Reg.SQ_STAT.STATE, Reg.DEV_MODE.word]; omega)
  have harm : ∀ c, t.flag (Reg.CH_CTRL.OUT_ARM c) = s.flag (Reg.CH_CTRL.OUT_ARM c) := fun c =>
    hflag _ (by simp only [Reg.CH_CTRL.OUT_ARM, Reg.DEV_MODE.word]; omega)
  have hconn : ∀ d, t.flag (Reg.DPS_STAT.CONN d) = s.flag (Reg.DPS_STAT.CONN d) := fun d =>
    hflag _ (by simp only [Reg.DPS_STAT.CONN, Reg.DEV_MODE.word]; omega)
  have hlane : ∀ l, t.get (Reg.DL_STAT.STATE l) = s.get (Reg.DL_STAT.STATE l) := fun l => hget _ (by
    simp only [Reg.DL_STAT.STATE, Reg.DEV_MODE.word]; omega)
  simp only [State.modeAllows, State.quietOk, State.standbyOk, State.anySite, State.cntValid, hmode, hcal, htest, hsite, harm, hconn, hlane,
    hflag Reg.MP_STAT.LIM_VALID (by decide), hflag Reg.TB_STAT.PLL_LOCK (by decide), hflag Reg.TB_STAT.CNT_VALID (by decide),
    hflag Reg.SI_STAT.BUSY (by decide), hflag Reg.CAL_STAT.BUSY (by decide)]

/-- R491: no request waits. -/
theorem State.cancelMode_sameFields : s.SameFields [Reg.DEV_MODE.PENDING] s.cancelMode :=
  (State.SameFields.set Reg.DEV_MODE.PENDING 0 (by decide) (by decide) (by decide)).snoc (State.SameFields.of_regs rfl)

theorem State.cancelMode_pending : s.cancelMode.flag Reg.DEV_MODE.PENDING = false :=
  State.flag_of_get (State.get_set_same (s := s) Reg.DEV_MODE.PENDING 0 (by decide) (by decide))

theorem State.cancelMode_frame : s.cancelMode = { s with regs := s.cancelMode.regs, sched := none } := rfl

theorem State.cancelMode_mode : s.cancelMode.mode = s.mode := State.cancelMode_sameFields.get (by unfold Fld.Apart; decide)

theorem State.cancelMode_allows (m : Nat) : s.cancelMode.modeAllows m = s.modeAllows m :=
  State.modeAllows_congr State.cancelMode_mode (fun _ hf => State.get_set_addr _ _ _ hf) rfl rfl m

theorem State.modeDue_taken {b : Nat} (h : s.sched = some (b, m)) (hb : b ≤ s.now) (ha : s.modeAllows m = true) :
    s.modeDue = (s.cancelMode.modeTake m 1).follow := by
  have hpos : s.cancelMode.modeAllows m = true := (State.cancelMode_allows m).trans ha
  rw [State.modeDue, h]
  exact (if_neg (by omega)).trans (if_pos hpos)

theorem State.modeDue_refused {b : Nat} (h : s.sched = some (b, m)) (hb : b ≤ s.now) (ha : s.modeAllows m = false) :
    s.modeDue = (s.cancelMode.set Reg.DEV_STAT.MODE_REJ 1).log Src.DEV Lc.STATE_REJECT (detail Reg.DEV_MODE.word m) := by
  have hneg : ¬ s.cancelMode.modeAllows m = true := by rw [State.cancelMode_allows, ha]; decide
  rw [State.modeDue, h]
  exact (if_neg (by omega)).trans (if_neg hneg)

/-- R491: what the refusal of a request at its beat leaves. -/
theorem State.modeRejected_spec {det : Nat} {t : State} (ht : t = (s.cancelMode.set Reg.DEV_STAT.MODE_REJ 1).log Src.DEV Lc.STATE_REJECT det) :
    t.sched = none ∧ t.flag Reg.DEV_STAT.MODE_REJ = true ∧ s.SameFields [Reg.DEV_MODE.PENDING, Reg.DEV_STAT.MODE_REJ, Reg.LOG_STAT.DROPPED] t ∧
    t = { s with regs := t.regs, sched := none, logWait := t.logWait } := by
  have hframe := (s.cancelMode.set Reg.DEV_STAT.MODE_REJ 1).log_frame (src := Src.DEV) (code := Lc.STATE_REJECT) (det := det) (cls := 7)
  have hset : (s.cancelMode.set Reg.DEV_STAT.MODE_REJ 1).flag Reg.DEV_STAT.MODE_REJ = true := State.flag_set_one _ (by decide) (by decide)
  have hcancel : s.SameFields [Reg.DEV_MODE.PENDING, Reg.DEV_STAT.MODE_REJ, Reg.LOG_STAT.DROPPED] s.cancelMode :=
    State.cancelMode_sameFields.mono (by simp)
  subst ht
  refine ⟨by rw [hframe]; rfl, ?_, ?_, hframe⟩
  · rw [State.log_sameFields.flag (by unfold Fld.Apart; decide), hset]
  · exact (hcancel.snoc (State.SameFields.set Reg.DEV_STAT.MODE_REJ 1 (by decide) (by decide) (by simp))).snoc (State.log_sameFields.mono (by simp))

theorem State.modeAllows_lt (h : s.modeAllows m = true) : m < 16 := by
  by_contra hm
  rw [State.modeAllows_forbidden (.inr (by omega))] at h
  cases h

/-- R491: a request for the mode in force is accepted. -/
theorem State.modeAllows_self (h : m = s.mode) (hm : m ∉ [Mode.RESET, Mode.THROTTLE, Mode.SHUTDOWN] ∧ m ≤ 0xB) : s.modeAllows m = true := by
  have hnot : ¬ ([Mode.RESET, Mode.THROTTLE, Mode.SHUTDOWN].contains m = true ∨ 0xB < m) := by
    rw [List.contains_iff_mem]
    exact not_or.2 ⟨hm.1, by omega⟩
  rw [State.modeAllows, if_neg hnot, if_pos h]

theorem State.modeDue_waiting (h : ∀ b m, s.sched = some (b, m) → s.now < b) : s.modeDue = s := by
  unfold State.modeDue
  split
  next b m hs => exact if_pos (h b m hs)
  next => rfl


/-! ### What a write of DEV_MODE does -/

/-- R491: a request that is not accepted is reported. -/
def State.modeRefused (s : State) (p : Port) (m code : Nat) : State := s.reject p Reg.DEV_MODE.word Src.DEV code m

theorem State.modeRefused_stays (code : Nat) : (s.modeRefused p m code).reg Reg.DEV_MODE.word = s.reg Reg.DEV_MODE.word ∧
    s.modeRefused p m code = { s with regs := (s.modeRefused p m code).regs, logWait := (s.modeRefused p m code).logWait,
                                      cpFrame := (s.modeRefused p m code).cpFrame } :=
  ⟨s.reject_sameWords p Reg.DEV_MODE.word Src.DEV code m _ (by decide), s.reject_frame p Reg.DEV_MODE.word Src.DEV code m⟩

theorem State.modeReq_reset (h : s.mode = Mode.RESET) : s.modeReq p m x = s.modeRefused p m Lc.STATE_REJECT := if_pos h

theorem State.modeReq_running (h : s.mode ≠ Mode.RESET) : s.modeReq p m x = s.modeWrite p (modeWord m x) := if_neg h

theorem State.modeWrite_now (hm : m < 16) (ha : s.modeAllows m = true) :
    s.modeWrite p (modeWord m none) = ((s.modeFields (modeWord m none)).modeTake m 0).follow := by
  obtain ⟨hreq, hen⟩ := modeWord_none hm
  rw [State.modeWrite, hreq, if_pos hen, if_pos ha]

theorem State.modeWrite_refused (hm : m < 16) (ha : s.modeAllows m = false) :
    s.modeWrite p (modeWord m none) = s.modeRefused p m Lc.STATE_REJECT := by
  obtain ⟨hreq, hen⟩ := modeWord_none hm
  rw [State.modeWrite, hreq, if_pos hen, if_neg (by rw [ha]; decide)]
  rfl

theorem State.schedFault_none {b lead : Nat} (h : s.cntValid = true) (hb : s.now + lead ≤ b) : s.schedFault b lead = none := by
  rw [State.schedFault, h, if_neg (by decide), if_neg (by omega)]

theorem State.schedFault_some {b lead : Nat} (h : s.cntValid = false ∨ b < s.now + lead) : ∃ c, s.schedFault b lead = some c := by
  unfold State.schedFault
  split
  · exact ⟨_, rfl⟩
  next hv =>
    rw [if_pos (h.resolve_left fun hf => hv (by rw [hf]; rfl))]
    exact ⟨_, rfl⟩

/-- R491: the registers of a request that waits for its beat. -/
def State.modeWaits (s : State) (w : Word) : State := (s.modeFields w).set Reg.DEV_MODE.PENDING 1

/-- R491: a request for a beat waits for it. -/
def State.modeScheduled (s : State) (w : Word) (b m : Nat) : State := { s.modeWaits w with sched := some (b, m) }

theorem State.modeScheduled_reg (w : Word) (b a : Nat) : (s.modeScheduled w b m).reg a = (s.modeWaits w).reg a := rfl
theorem State.modeScheduled_frame (w : Word) (b : Nat) :
    s.modeScheduled w b m = { s with regs := (s.modeScheduled w b m).regs, sched := (s.modeScheduled w b m).sched } := rfl

theorem State.modeWrite_scheduled {b : BitVec 64} (hm : m < 16) (hs : s.sched = none) (hv : s.cntValid = true) (hb : s.now + 2 ≤ b.toNat) :
    s.modeWrite p (modeWord m (some b)) = s.modeScheduled (modeWord m (some b)) b.toNat m := by
  obtain ⟨hreq, hen, hat⟩ := modeWord_some (b := b) hm
  rw [State.modeWrite, hreq, hen, hat, if_neg (by decide), hs, if_neg (by decide), State.schedFault_none hv hb]
  rfl

theorem State.modeWrite_unscheduled {b : BitVec 64} (hm : m < 16) (h : s.sched ≠ none ∨ s.cntValid = false ∨ b.toNat < s.now + 2) :
    ∃ code, s.modeWrite p (modeWord m (some b)) = s.modeRefused p m code := by
  obtain ⟨hreq, hen, hat⟩ := modeWord_some (b := b) hm
  rw [State.modeWrite, hreq, hen, hat, if_neg (by decide)]
  by_cases hs : s.sched.isSome = true
  · rw [if_pos hs]
    exact ⟨_, rfl⟩
  · rw [if_neg hs]
    obtain ⟨c, hc⟩ := State.schedFault_some (h.resolve_left fun hne => hs (Option.isSome_iff_ne_none.2 hne))
    rw [hc]
    exact ⟨c, rfl⟩

theorem State.modeWaits_get (w : Word) {f : Fld} (hf : 12 < f.lo ∨ f.hi < 12) : (s.modeWaits w).get f = (s.modeFields w).get f :=
  State.get_set_other Reg.DEV_MODE.PENDING f 1 (by decide) (by decide) hf.symm

theorem State.modeFields_at (w : Word) : (s.modeFields w).get Reg.DEV_MODE.AT = Reg.DEV_MODE.AT.of w := by
  rw [State.modeFields, State.get_set_other _ _ _ (by decide) (by decide) (by decide), State.get_set_other _ _ _ (by decide) (by decide) (by decide),
    State.get_set_same _ _ (by decide) (by decide)]
  exact Nat.mod_eq_of_lt (Nat.mod_lt _ (by decide))

theorem State.modeFields_atEn (w : Word) : (s.modeFields w).get Reg.DEV_MODE.AT_EN = Reg.DEV_MODE.AT_EN.of w := by
  rw [State.modeFields, State.get_set_other _ _ _ (by decide) (by decide) (by decide), State.get_set_same _ _ (by decide) (by decide)]
  exact Nat.mod_eq_of_lt (Nat.mod_lt _ (by decide))

theorem State.modeWaits_sameWords (w : Word) : s.SameWords [Reg.DEV_MODE.word] (s.modeWaits w) :=
  (((State.SameWords.set Reg.DEV_MODE.AT _ (by decide)).snoc (State.SameWords.set Reg.DEV_MODE.AT_EN _ (by decide))).snoc
    (State.SameWords.set Reg.DEV_MODE.REQ _ (by decide))).snoc (State.SameWords.set Reg.DEV_MODE.PENDING 1 (by decide))

/-- The registers of a request for mode `m` at beat `b`. -/
theorem State.modeWaits_fields {b : BitVec 64} {t : State} (hm : m < 16) (ht : t.reg Reg.DEV_MODE.word = (s.modeWaits (modeWord m (some b))).reg Reg.DEV_MODE.word) :
    t.flag Reg.DEV_MODE.PENDING = true ∧ t.get Reg.DEV_MODE.AT = b.toNat ∧ t.get Reg.DEV_MODE.AT_EN = 1 ∧ t.get Reg.DEV_MODE.REQ = m ∧ t.mode = s.mode := by
  obtain ⟨hreq, hen, hat⟩ := modeWord_some (b := b) hm
  have hget : ∀ f : Fld, f.addr = Reg.DEV_MODE.word → t.get f = (s.modeWaits (modeWord m (some b))).get f := fun f hf => by
    rw [State.get, hf, ht, ← hf]
    rfl
  refine ⟨?_, ?_, ?_, ?_, ?_⟩
  · rw [State.flag, hget _ rfl]
    exact State.flag_set_one _ (by decide) (by decide)
  · rw [hget _ rfl, State.modeWaits_get _ (by decide), State.modeFields_at, hat]
  · rw [hget _ rfl, State.modeWaits_get _ (by decide), State.modeFields_atEn, hen]
  · rw [hget _ rfl, State.modeWaits_get _ (by decide), State.modeFields_req, hreq]
  · exact (hget _ rfl).trans ((State.modeWaits_get _ (by decide)).trans (State.modeFields_mode _))

end

/-- Settles O48, request by request. -/
theorem modeRequests : Obligations.ModeRequests := by
  unfold Obligations.ModeRequests
  refine ⟨fun s p r hr hm ha hne => ?_, fun s p r hr hm heq => ?_, fun s p r req hr h => ?_, fun s p b r req hr => ⟨fun hm hs hv hb => ?_, fun h => ?_⟩,
    fun s b m hs hb => ⟨fun ha hne => ?_, fun ha => ?_⟩, fun s h => ?_, fun s p hm => ?_⟩
  case refine_1 =>
    have hlt : r.2 < 16 := Nat.lt_of_le_of_lt hr.named.2 (by decide)
    have hmode := s.modeFields_mode (modeWord r.2 none)
    have hne' : r.2 ≠ (s.modeFields (modeWord r.2 none)).mode := hmode ▸ hne
    have hthr : (s.modeFields (modeWord r.2 none)).flag Reg.HK_STAT.THROTTLED = s.flag Reg.HK_STAT.THROTTLED :=
      (State.modeFields_sameFields _).flag (by unfold Fld.Apart; decide)
    have henters := (State.modeTake_enters hne' hlt (cause := 0) (by decide)).of_before hmode rfl (State.SameStore.refl s)
    rw [State.modeEntered, hmode, hthr] at henters
    refine ⟨(s.modeFields (modeWord r.2 none)).modeTake r.2 0, ?_, henters, ?_, fun ht => State.modeTake_aborted hne' 0 (hmode.trans ht),
      fun hd => State.modeTake_bare hne' hd 0, fun hd hop hxfer hcold => State.modeTake_discovery hne' (hmode.trans hd) hop hxfer hcold⟩
    · rw [hr.exec_eq, State.modeReq_running hm, State.modeWrite_now hlt ha]
    · rw [State.modeTake_get hne' rfl (by unfold Fld.Apart; decide) (by unfold Fld.Apart; decide), State.modeFields_req, (modeWord_none hlt).1]
  case refine_2 =>
    have hlt : r.2 < 16 := Nat.lt_of_le_of_lt hr.named.2 (by decide)
    have hmode := s.modeFields_mode (modeWord r.2 none)
    have hself : (s.modeFields (modeWord r.2 none)).modeTake r.2 0 = s.modeFields (modeWord r.2 none) := by
      rw [State.modeTake, if_pos (heq.trans hmode.symm)]
    have hallow : s.modeAllows r.2 = true := State.modeAllows_self heq hr.named
    refine ⟨s.modeFields (modeWord r.2 none), ?_, hmode, State.modeFields_sameFields _, State.modeFields_frame _⟩
    rw [hr.exec_eq, State.modeReq_running hm, State.modeWrite_now hlt hallow, hself]
  case refine_3 =>
    obtain ⟨hexec, hlt⟩ := modeRequest_exec hr s
    rw [hexec]
    by_cases hm : s.mode = Mode.RESET
    · exact ⟨_, by rw [State.modeReq_reset hm], State.modeRefused_stays _⟩
    · exact ⟨_, by rw [State.modeReq_running hm, State.modeWrite_refused hlt (h.resolve_left hm)], State.modeRefused_stays _⟩
  case refine_4 =>
    obtain ⟨hexec, hlt⟩ := modeRequest_exec hr s
    obtain ⟨hpend, hat, hen, hreq, hmode⟩ := State.modeWaits_fields (s := s) (b := b) hlt (State.modeScheduled_reg _ b.toNat _)
    exact ⟨_, by rw [hexec, State.modeReq_running hm, State.modeWrite_scheduled hlt hs hv hb], rfl, hpend, hat, hen, hreq, hmode,
      fun a ha => (State.modeScheduled_reg _ _ a).trans (State.modeWaits_sameWords _ a ha), State.modeScheduled_frame _ _⟩
  case refine_5 =>
    obtain ⟨hexec, hlt⟩ := modeRequest_exec hr s
    rw [hexec]
    by_cases hm : s.mode = Mode.RESET
    · exact ⟨_, by rw [State.modeReq_reset hm], State.modeRefused_stays _⟩
    · obtain ⟨code, hcode⟩ := State.modeWrite_unscheduled (s := s) (p := p) hlt (h.resolve_left hm)
      exact ⟨_, by rw [State.modeReq_running hm, hcode], State.modeRefused_stays _⟩
  case refine_6 =>
    have hne' : m ≠ s.cancelMode.mode := fun h => hne (h.trans State.cancelMode_mode)
    have hthr : s.cancelMode.flag Reg.HK_STAT.THROTTLED = s.flag Reg.HK_STAT.THROTTLED := State.cancelMode_sameFields.flag (by unfold Fld.Apart; decide)
    have henters := (State.modeTake_enters hne' (State.modeAllows_lt ha) (cause := 1) (by decide)).of_before State.cancelMode_mode rfl (State.SameStore.refl s)
    rw [State.modeEntered, State.cancelMode_mode, hthr] at henters
    have hexec : exec .scheduledModeRequest s = .next s.modeDue := rfl
    refine ⟨s.cancelMode.modeTake m 1, by rw [hexec, State.modeDue_taken hs hb ha], State.modeTake_sched hne' 1, ?_, henters⟩
    rw [State.flag, State.modeTake_get hne' rfl (by unfold Fld.Apart; decide) (by unfold Fld.Apart; decide)]
    exact State.cancelMode_pending
  case refine_7 =>
    have hexec : exec .scheduledModeRequest s = .next s.modeDue := rfl
    obtain ⟨hsched, hrej, hfields, hframe⟩ := State.modeRejected_spec (s := s) rfl
    exact ⟨_, by rw [hexec, State.modeDue_refused hs hb ha], hsched, hrej, hfields, hframe⟩
  case refine_8 =>
    have hexec : exec .scheduledModeRequest s = .next s.modeDue := rfl
    rw [hexec, State.modeDue_waiting h]
  case refine_9 =>
    have hexec : exec (.devCmdCancelMode p) s = .next s.cancelMode := congrArg _ (State.host_out_of_reset hm Reg.DEV_CMD.word Src.DEV 0 State.cancelMode)
    exact ⟨s.cancelMode, hexec, rfl, State.cancelMode_pending, State.cancelMode_sameFields, State.cancelMode_frame⟩

end Sys2Proof.Machine
end

section
/-! SUPPORT. A step: the command at the front of the queue, or a beat with none waiting (assumption 4). -/

namespace Sys2Proof.Machine

section
variable {s : State}

theorem State.setCounter_sameFields (b : Nat) : s.SameFields [Reg.TB_STAT.CNT_VALID] (s.setCounter b) :=
  (State.SameFields.set Reg.TB_STAT.CNT_VALID 1 (by decide) (by decide) (by simp)).snoc (State.SameFields.of_regs rfl)

theorem State.setCounter_valid (b : Nat) : (s.setCounter b).cntValid = true := State.flag_set_one (s := s) Reg.TB_STAT.CNT_VALID (by decide) (by decide)

theorem State.step_command {c : Instr} {q : List Instr} (h : s.pending = c :: q) : step s = exec c { s with pending := q } := by rw [step, h]

theorem State.step_idle (h : s.pending = []) : step s = .next s.tick := by rw [step, h]

theorem State.tick_stopped (h : s.tb.refPresent = false) : s.tick = s := by rw [State.tick, h, Bool.not_false, if_pos rfl]

theorem State.dzEnds_nil (h : s.pmus = []) : s.dzEnds = s := by rw [State.dzEnds, h]; rfl

theorem State.advance_pmus : s.advance.pmus = s.pmus := by unfold State.advance; split <;> rfl

theorem State.advance_holds : s.advance.tb.holds = s.tb.holds := by unfold State.advance; split <;> rfl

/-- With no PMU in use and no hold to come, all that a beat does is to advance the counter. -/
theorem State.tick_counts (h : s.tb.refPresent = true) (hp : s.pmus = []) (hh : s.tb.holds = []) : s.tick = s.advance := by
  have hdz : s.advance.dzEnds = s.advance := State.dzEnds_nil (State.advance_pmus.trans hp)
  have hnone : s.advance.tb.holds.any (fun p => decide (p.beat ≤ s.advance.now)) = false := by rw [State.advance_holds, hh]; rfl
  rw [State.tick, h, Bool.not_true, if_neg (by decide), hdz]
  exact if_neg (by rw [hnone]; decide)

theorem State.advance_load {b : Nat} (h : s.tb.load = some b) : s.advance = ({ s with tb := { s.tb with load := none } } : State).setCounter b := by
  rw [State.advance, h]

theorem State.advance_count (h : s.tb.load = none) : s.advance = { s with beat := s.beat + 1 } := by rw [State.advance, h]

end

/-- Settles O57. -/
theorem stepTakesTheFrontCommand : Obligations.StepTakesTheFrontCommand := by
  unfold Obligations.StepTakesTheFrontCommand
  refine ⟨fun c q s h => State.step_command h, fun s h hp hh => ⟨fun href hload => ?_, fun b href hload => ?_, fun href => ?_⟩, fun n w s => ⟨rfl, rfl⟩⟩
  · rw [State.step_idle h, State.tick_counts href hp hh, State.advance_count hload]
  · refine ⟨s.advance, by rw [State.step_idle h, State.tick_counts href hp hh], ?_⟩
    rw [State.advance_load hload]
    have hfields := State.setCounter_sameFields (s := { s with tb := { s.tb with load := none } }) b
    exact ⟨rfl, State.setCounter_valid b, rfl, hfields⟩
  · rw [State.step_idle h, State.tick_stopped href]

end Sys2Proof.Machine
end

section
/-! SUPPORT. The registers of the timebase: PLL_LOCK, TB_LOAD, TB_CTRL and the phase of REFCLK (R28, R29, R35, R43). -/

namespace Sys2Proof.Machine

section
variable {s t : State} {p : Port} {w : Word}

/-- A field that a mask lets through. -/
theorem wget_and_mask (w m : Word) (hi lo : Nat) (h : wget m hi lo = 2 ^ (hi + 1 - lo) - 1) : wget (w &&& m) hi lo = wget w hi lo := by
  simp only [wget, bitsOf] at h ⊢
  rw [BitVec.toNat_and, Nat.shiftRight_and_distrib, Nat.and_mod_two_pow, h, Nat.and_two_pow_sub_one_eq_mod, Nat.mod_mod]

theorem accMask_TB_CTRL : accMask .rw Reg.TB_CTRL.word = 0xFFFF000F#128 := by decide

/-- What a write of TB_CTRL gives the register. -/
def tbCtrlWord (w : Word) : Word := w &&& accMask .rw Reg.TB_CTRL.word

theorem of_tbCtrlWord {f : Fld} (hf : f ∈ [Reg.TB_CTRL.ROLE, Reg.TB_CTRL.DEVNUM, Reg.TB_CTRL.REF_INV_AUTO, Reg.TB_CTRL.SYNC_INV_AUTO, Reg.TB_CTRL.UP_EN,
    Reg.TB_CTRL.SYNC_EN]) : f.of (tbCtrlWord w) = f.of w := by
  refine wget_and_mask _ _ _ _ ?_
  rw [accMask_TB_CTRL]
  revert f
  decide

/-- R35: the register and the queues of the role once the write is accepted. -/
def State.tbCtrlTaken (s : State) (w : Word) : State :=
  let t := s.setReg Reg.TB_CTRL.word (tbCtrlWord w)
  if (Reg.TB_CTRL.ROLE.of (tbCtrlWord w) != Reg.TB_CTRL.ROLE.of (s.reg Reg.TB_CTRL.word)) = true then
    { t with tb := { t.tb with queue := [], snapOrigin := [] }, rootQ := [] }
  else t

/-- R35: the role or the enable of SYNC_IN changes. -/
def State.receiverMoves (s : State) (w : Word) : Prop :=
  (Reg.TB_CTRL.ROLE.of (tbCtrlWord w) != Reg.TB_CTRL.ROLE.of (s.reg Reg.TB_CTRL.word)) = true ∨
  (Reg.TB_CTRL.SYNC_EN.of (tbCtrlWord w) != Reg.TB_CTRL.SYNC_EN.of (s.reg Reg.TB_CTRL.word)) = true

theorem State.receiverMoves_iff : s.receiverMoves w ↔ Reg.TB_CTRL.ROLE.of w ≠ s.role ∨ Reg.TB_CTRL.SYNC_EN.of w ≠ s.get Reg.TB_CTRL.SYNC_EN := by
  rw [State.receiverMoves, of_tbCtrlWord (by simp), of_tbCtrlWord (by simp), bne_iff_ne, bne_iff_ne]
  rfl

theorem State.tbCtrlWrite_taken (hrole : Reg.TB_CTRL.ROLE.of w ≠ 3) (hm : s.mode = Mode.RESET ∨ s.mode = Mode.SAFE ∨ s.mode = Mode.DISCOVER) :
    s.receiverMoves w ∧ s.tbCtrlWrite p w = (s.tbCtrlTaken w).unframe ∨ ¬ s.receiverMoves w ∧ s.tbCtrlWrite p w = s.tbCtrlTaken w := by
  have hmode : [Mode.RESET, Mode.SAFE, Mode.DISCOVER].contains s.mode = true := by simpa using hm
  have hbad : ¬ (Reg.TB_CTRL.ROLE.of w = 3 ∨ (((Reg.TB_CTRL.ROLE.of (tbCtrlWord w) != Reg.TB_CTRL.ROLE.of (s.reg Reg.TB_CTRL.word)) = true ∨
      (Reg.TB_CTRL.DEVNUM.of (tbCtrlWord w) != Reg.TB_CTRL.DEVNUM.of (s.reg Reg.TB_CTRL.word)) = true) ∧
      (!([Mode.RESET, Mode.SAFE, Mode.DISCOVER].contains s.mode)) = true)) := by
    rw [hmode]
    simp [hrole]
  by_cases h : s.receiverMoves w
  · exact .inl ⟨h, (if_neg hbad).trans (if_pos h)⟩
  · exact .inr ⟨h, (if_neg hbad).trans (if_neg h)⟩

theorem State.tbCtrlTaken_reg : (s.tbCtrlTaken w).regs = (s.setReg Reg.TB_CTRL.word (tbCtrlWord w)).regs := by
  unfold State.tbCtrlTaken
  dsimp only
  split <;> rfl

theorem State.tbCtrlTaken_frame : s.tbCtrlTaken w = { s with regs := (s.tbCtrlTaken w).regs, tb := (s.tbCtrlTaken w).tb, rootQ := (s.tbCtrlTaken w).rootQ } := by
  unfold State.tbCtrlTaken
  dsimp only
  split <;> rfl

theorem State.unframe_frame : s.unframe = { s with regs := s.unframe.regs, tb := s.unframe.tb, logWait := s.unframe.logWait } := by
  unfold State.unframe
  dsimp only
  split
  · rw [State.log_frame]
    rfl
  · rfl

theorem State.unframe_sameWords : s.SameWords [Reg.TB_STAT.word, Reg.LOG_STAT.word] s.unframe := fun a ha =>
  (State.Steady.unframe (W := fun b => decide (b ∉ [Reg.TB_STAT.word, Reg.LOG_STAT.word])) (State.Steady.refl s) (by decide) (by decide)).words a
    (decide_eq_true ha)

theorem State.tbCtrlTaken_get {f : Fld} (hf : f ∈ [Reg.TB_CTRL.ROLE, Reg.TB_CTRL.DEVNUM, Reg.TB_CTRL.REF_INV_AUTO, Reg.TB_CTRL.SYNC_INV_AUTO,
    Reg.TB_CTRL.UP_EN, Reg.TB_CTRL.SYNC_EN]) : (s.tbCtrlTaken w).get f = f.of w := by
  have haddr : f.addr = Reg.TB_CTRL.word := by revert f; decide
  rw [State.get, State.reg, State.tbCtrlTaken_reg, haddr]
  exact (congrArg (fun v => wget v f.hi f.lo) (State.reg_setReg_same _ _)).trans (of_tbCtrlWord hf)

/-- R35: what a write that is accepted leaves. -/
theorem State.tbCtrlWrite_spec (hrole : Reg.TB_CTRL.ROLE.of w ≠ 3) (hm : s.mode = Mode.RESET ∨ s.mode = Mode.SAFE ∨ s.mode = Mode.DISCOVER)
    (ht : t = s.tbCtrlWrite p w) :
    (∀ f ∈ [Reg.TB_CTRL.ROLE, Reg.TB_CTRL.DEVNUM, Reg.TB_CTRL.REF_INV_AUTO, Reg.TB_CTRL.SYNC_INV_AUTO, Reg.TB_CTRL.UP_EN, Reg.TB_CTRL.SYNC_EN],
      t.get f = f.of w) ∧
    (s.receiverMoves w → t.get Reg.TB_STAT.LOCK = 0) ∧ s.SameWords [Reg.TB_CTRL.word, Reg.TB_STAT.word, Reg.LOG_STAT.word] t ∧
    t = { s with regs := t.regs, tb := t.tb, rootQ := t.rootQ, logWait := t.logWait } := by
  have htaken : s.SameWords [Reg.TB_CTRL.word, Reg.TB_STAT.word, Reg.LOG_STAT.word] (s.tbCtrlTaken w) :=
    (State.SameWords.setReg Reg.TB_CTRL.word _ (by decide)).snoc (State.SameWords.of_regs State.tbCtrlTaken_reg)
  have hframe := State.tbCtrlTaken_frame (s := s) (w := w)
  obtain ⟨hmove, heq⟩ | ⟨hstay, heq⟩ := State.tbCtrlWrite_taken (p := p) hrole hm
  · have hun := State.unframe_frame (s := s.tbCtrlTaken w)
    rw [heq] at ht
    subst ht
    refine ⟨fun f hf => ?_, fun _ => State.unframe_lock, htaken.snoc fun a ha => State.unframe_sameWords a ?_, ?_⟩
    · have haddr : f.addr = Reg.TB_CTRL.word := by revert f; decide
      rw [State.unframe_sameWords.get (by rw [haddr]; decide), State.tbCtrlTaken_get hf]
    · revert ha
      simp +contextual
    · rw [hun, hframe]
  · rw [heq] at ht
    subst ht
    refine ⟨fun f hf => State.tbCtrlTaken_get hf, fun h => absurd h hstay, htaken, ?_⟩
    rw [hframe]

/-! ### The phase of REFCLK -/

/-- R43: an arrival in the second half of the cycle inverts REFCLK. -/
def State.refInverted (s : State) (phase : Nat) : State :=
  ((s.set Reg.TB_STAT.SYNC_PHASE phase).set Reg.TB_STAT.REF_INV (1 - s.get Reg.TB_STAT.REF_INV)).set Reg.TB_STAT.PLL_LOCK 0

theorem State.phaseCheck_inverted {phase : Nat} (hl : s.listening = true) (ha : s.flag Reg.TB_CTRL.REF_INV_AUTO = true) (h1 : 1126 ≤ phase)
    (h2 : phase ≤ 1843) (hm : s.mode = Mode.RESET ∨ s.mode = Mode.SAFE ∨ s.mode = Mode.DISCOVER) :
    s.phaseCheck phase = (s.refInverted phase).log Src.TB Lc.REFCLK_INVERTED 0 2 := by
  have hmode : [Mode.RESET, Mode.SAFE, Mode.DISCOVER].contains s.mode = true := by simpa using hm
  rw [State.phaseCheck, hl, Bool.not_true, if_neg (by decide)]
  exact (if_neg (by omega)).trans ((if_pos ⟨h1, h2⟩).trans (if_pos ⟨ha, hmode⟩))

theorem State.refInverted_sameFields (phase : Nat) :
    s.SameFields [Reg.TB_STAT.REF_INV, Reg.TB_STAT.PLL_LOCK, Reg.TB_STAT.SYNC_PHASE, Reg.LOG_STAT.DROPPED] (s.refInverted phase) :=
  ((State.SameFields.set Reg.TB_STAT.SYNC_PHASE _ (by decide) (by decide) (by decide)).snoc
    (State.SameFields.set Reg.TB_STAT.REF_INV _ (by decide) (by decide) (by decide))).snoc
    (State.SameFields.set Reg.TB_STAT.PLL_LOCK _ (by decide) (by decide) (by decide))

theorem State.refInverted_get {phase : Nat} (hp : phase < 2048) : (s.refInverted phase).get Reg.TB_STAT.REF_INV = 1 - s.get Reg.TB_STAT.REF_INV ∧
    (s.refInverted phase).get Reg.TB_STAT.PLL_LOCK = 0 ∧ (s.refInverted phase).get Reg.TB_STAT.SYNC_PHASE = phase := by
  refine ⟨?_, State.get_set_same _ _ (by decide) (by decide), ?_⟩
  · rw [State.refInverted, State.get_set_other _ _ _ (by decide) (by decide) (by decide), State.get_set_same _ _ (by decide) (by decide)]
    exact Nat.mod_eq_of_lt (Nat.lt_of_le_of_lt (Nat.sub_le 1 _) (by decide))
  · rw [State.refInverted, State.get_set_other _ _ _ (by decide) (by decide) (by decide), State.get_set_other _ _ _ (by decide) (by decide) (by decide),
      State.get_set_same _ _ (by decide) (by decide)]
    exact Nat.mod_eq_of_lt hp

end

/-- Settles O1, command by command. -/
theorem timebaseCommandsComplete : Obligations.TimebaseCommandsComplete := by
  unfold Obligations.TimebaseCommandsComplete
  refine ⟨fun s => ?_, fun s p b hm hr => ?_, fun s p w hrole hm => ?_, fun s p hl ha h1 h2 hm => ?_⟩
  · have hset : s.SameFields [Reg.TB_STAT.PLL_LOCK] (s.set Reg.TB_STAT.PLL_LOCK 1) := State.SameFields.set _ _ (by decide) (by decide) (by simp)
    exact ⟨s.pllLock, rfl, State.get_set_same (s := s) Reg.TB_STAT.PLL_LOCK 1 (by decide) (by decide), hset, rfl⟩
  · have hhost : exec (.tbLoad p b) s = .next (s.tbLoadWrite p b.toNat) := congrArg _ (State.host_out_of_reset (by rw [hm]; decide) _ _ _ _)
    refine ⟨{ s with tb := { s.tb with load := some b.toNat } }, ?_, rfl, rfl⟩
    rw [hhost, State.tbLoadWrite, if_pos ⟨hr, hm⟩]
  · have hexec : exec (.tbCtrlWrite p w) s = .next (s.tbCtrlWrite p w) := rfl
    obtain ⟨hget, hlock, hwords, hframe⟩ := State.tbCtrlWrite_spec (s := s) (p := p) hrole hm rfl
    exact ⟨_, hexec, hget _ (by simp), hget _ (by simp), hget _ (by simp), hget _ (by simp), hget _ (by simp), hget _ (by simp),
      fun h => hlock (State.receiverMoves_iff.2 h), hwords, hframe⟩
  · have hexec : exec (.refclkInverted p) s = .next (s.phaseCheck p) := rfl
    obtain ⟨hinv, hpll, hphase⟩ := State.refInverted_get (s := s) p.isLt
    refine ⟨_, by rw [hexec, State.phaseCheck_inverted hl ha h1 h2 hm], ?_, ?_, ?_, (State.refInverted_sameFields _).snoc (State.log_sameFields.mono (by simp)), ?_⟩
    · rw [State.log_sameFields.get (by unfold Fld.Apart; decide), hinv]
    · rw [State.log_sameFields.get (by unfold Fld.Apart; decide), hpll]
    · rw [State.log_sameFields.get (by unfold Fld.Apart; decide), hphase]
    · rw [State.log_frame]
      rfl

end Sys2Proof.Machine
end

section
/-! SUPPORT. A stall of a follow counter, evaluated (R48). -/

namespace Sys2Proof.Machine

/-- A device in reset whose follow counter 0 is enabled with a stall limit of one beat, at beat 1: the stall is due, and no record is fixed yet. -/
def stalling : State := { (State.reset.set (Reg.TB_FOLLOW_CFG.EN 0) 1).set (Reg.TB_FOLLOW_CFG.STALL 0) 1 with beat := 1 }

theorem stalling_due : stalling.flag (Reg.TB_FOLLOW_CFG.EN 0) = true ∧ stalling.get (Reg.TB_FOLLOW_CFG.STALL 0) = 1 ∧
    (stalling.followSt 0).stalled = false ∧ (stalling.followSt 0).since = 0 ∧ stalling.now = 1 ∧ stalling.pendRecs = [] := by decide +kernel

/-- Refutes O4: its last clause asks for the record of the stall among the records of the state before the stall (`t.Written s …` where `s.Written t …` is
meant), and in `stalling` there are none. -/
theorem not_holdFramesAndFollowCounters : ¬ Obligations.HoldFramesAndFollowCounters := by
  unfold Obligations.HoldFramesAndFollowCounters
  rintro ⟨_, _, _, hstall⟩
  obtain ⟨hen, hlimit, hstalled, hsince, hnow, hrecs⟩ := stalling_due
  obtain ⟨t, v, _, hwritten, _⟩ := hstall stalling 0 hen (hlimit ▸ Nat.one_ne_zero) hstalled (by rw [Fin.val_zero, hsince, hlimit, hnow])
  rw [State.Written, hrecs] at hwritten
  exact List.not_mem_nil hwritten

end Sys2Proof.Machine
end

section
/-! SUPPORT. What the receiver of SYNC_IN does with a frame before it acts on it (R41, R42, R53). -/

namespace Sys2Proof.Machine

section
variable {s : State} {f x : BitVec 64} {off : Fin 64} {kind : Nat} {ks : List Nat} {act : BitVec 64 → State → State}

theorem fr_lt (f : BitVec 64) (hi lo : Nat) : fr f hi lo < 2 ^ (hi + 1 - lo) := Nat.mod_lt _ (Nat.two_pow_pos _)

/-- R42: the frame's inversion is taken over if its complement is the good one. -/
def State.oriented (s : State) (f : BitVec 64) : State := if frameOk (s.rxBits f) then s else s.invertSync

/-- R37, R53: a good frame is counted. -/
def State.counted (s : State) (f x : BitVec 64) : State :=
  let t := (s.oriented f).set Reg.TB_STAT.HOP (fr x 51 48)
  { t.inc Reg.TB_SYNC_ERR.FRAMES_OK with tb := { t.tb with bad := 0 } }

/-- The fields that the count of a good frame writes. -/
def countFields : List Fld := [Reg.TB_STAT.HOP, Reg.TB_STAT.SYNC_INV, Reg.TB_SYNC_ERR.FRAMES_OK, Reg.LOG_STAT.DROPPED]

theorem State.rxFrame_counted (h : s.Receives f off kind x) (hk : kind ∈ ks) : s.rxFrame f off ks act = act x (s.counted f x) := by
  obtain ⟨hlisten, hlock, hoff, hgood, hkind⟩ := h
  have hin : ks.contains (fr x 55 52) = true := by rw [hkind]; exact List.contains_iff_mem.2 hk
  have hframed : (s.get Reg.TB_STAT.LOCK != 0) = true := bne_iff_ne.2 hlock
  have hsame : (off.val != s.tb.offset) = false := by rw [hoff]; exact bne_self_eq_false _
  unfold State.rxFrame
  simp only [hlisten, hframed, hsame, hgood, hin, Bool.not_true, Bool.and_false, Bool.or_self, Bool.false_eq_true, if_false]
  rfl

theorem State.oriented_sameFields : s.SameFields [Reg.TB_STAT.SYNC_INV, Reg.LOG_STAT.DROPPED] (s.oriented f) :=
  ite_kept (fun _ => State.SameFields.refl) fun _ =>
    (State.SameFields.set Reg.TB_STAT.SYNC_INV _ (by decide) (by decide) (by simp)).snoc (State.log_sameFields.mono (by simp))

theorem State.oriented_frame : s.oriented f = { s with regs := (s.oriented f).regs, logWait := (s.oriented f).logWait } := by
  unfold State.oriented State.invertSync
  split
  · rfl
  · rw [State.log_frame]
    rfl

theorem State.counted_sameFields : s.SameFields countFields (s.counted f x) := by
  have h1 : s.SameFields countFields (s.oriented f) := State.oriented_sameFields.mono (by decide)
  exact ((h1.snoc (State.SameFields.set Reg.TB_STAT.HOP _ (by decide) (by decide) (by decide))).snoc
    (State.SameFields.set Reg.TB_SYNC_ERR.FRAMES_OK _ (by decide) (by decide) (by decide))).snoc (State.SameFields.of_regs rfl)

theorem State.counted_frame : s.counted f x = { s with regs := (s.counted f x).regs, tb := { s.tb with bad := 0 }, logWait := (s.counted f x).logWait } := by
  have h := s.oriented_frame (f := f)
  unfold State.counted
  rw [h]
  rfl

theorem State.counted_hop : (s.counted f x).get Reg.TB_STAT.HOP = fr x 51 48 := by
  have hset : ((s.oriented f).set Reg.TB_STAT.HOP (fr x 51 48)).get Reg.TB_STAT.HOP = fr x 51 48 :=
    (State.get_set_same _ _ (by decide) (by decide)).trans (Nat.mod_eq_of_lt (fr_lt x 51 48))
  exact (State.get_set_addr Reg.TB_SYNC_ERR.FRAMES_OK Reg.TB_STAT.HOP _ (by decide)).trans hset

theorem State.counted_framesOk : (s.counted f x).get Reg.TB_SYNC_ERR.FRAMES_OK = (s.get Reg.TB_SYNC_ERR.FRAMES_OK + 1) % 2 ^ 32 := by
  have hbefore : ((s.oriented f).set Reg.TB_STAT.HOP (fr x 51 48)).get Reg.TB_SYNC_ERR.FRAMES_OK = s.get Reg.TB_SYNC_ERR.FRAMES_OK :=
    (State.get_set_addr _ _ _ (by decide)).trans (State.oriented_sameFields.get (by unfold Fld.Apart; decide))
  exact (State.get_set_same Reg.TB_SYNC_ERR.FRAMES_OK _ (by decide) (by decide)).trans (congrArg (fun k => (k + 1) % 2 ^ 32) hbefore)

theorem State.counted_now : (s.counted f x).now = s.now := by rw [State.counted_frame]; rfl
theorem State.counted_tb : (s.counted f x).tb = { s.tb with bad := 0 } := by rw [State.counted_frame]
theorem State.counted_cntValid : (s.counted f x).cntValid = s.cntValid := State.counted_sameFields.flag (by unfold Fld.Apart; decide)
theorem State.counted_lock : (s.counted f x).get Reg.TB_STAT.LOCK = s.get Reg.TB_STAT.LOCK := State.counted_sameFields.get (by unfold Fld.Apart; decide)
theorem State.counted_role : (s.counted f x).role = s.role := State.counted_sameFields.get (by unfold Fld.Apart; decide)
theorem State.counted_siteState (n : Nat) : (s.counted f x).siteState n = s.siteState n := by
  refine State.counted_sameFields.get ?_
  simp only [countFields, Fld.apart_cons, Fld.apart_nil, Reg.SQ_STAT.STATE, Reg.TB_STAT.HOP, Reg.TB_STAT.SYNC_INV, Reg.TB_SYNC_ERR.FRAMES_OK,
    Reg.LOG_STAT.DROPPED]
  omega

end
end Sys2Proof.Machine
end

section
/-! SUPPORT. EPOCH and IDLE frames, frames that are not good, and the framing (R41, R44, R45). -/

namespace Sys2Proof.Machine

section
variable {s t : State} {f x : BitVec 64} {off : Fin 64} {kind : Nat} {ks : List Nat} {act : BitVec 64 → State → State}

/-! ### The counter -/

theorem State.onEpoch_first (h : s.role = Role.LEAF) (hv : s.cntValid = false) :
    s.onEpoch x = (s.set Reg.TB_STAT.LOCK 2).setCounter (fr x 47 8 * 2 ^ 20 + 64 * (fr x 51 48 + 1)) := by
  rw [State.onEpoch, hv, Bool.not_false, if_pos rfl, if_pos h]

theorem State.onIdle_agrees (h : bitsOf (s.now - 64 * (fr x 51 48 + 1)) 6 40 = fr x 47 8) : s.onIdle x = s := if_pos (.inr h)

/-- R44: the beat that an IDLE frame gives for the present one. -/
def State.idleBeat (s : State) (x : BitVec 64) : Nat :=
  (s.now - 64 * (fr x 51 48 + 1)) / 2 ^ 46 * 2 ^ 46 + fr x 47 8 * 64 + 64 * (fr x 51 48 + 1)

theorem State.onIdle_differs (hv : s.cntValid = true) (h : bitsOf (s.now - 64 * (fr x 51 48 + 1)) 6 40 ≠ fr x 47 8) :
    s.onIdle x = s.slip (s.idleBeat x) := if_neg (by rw [hv]; exact not_or.2 ⟨by decide, h⟩)

/-- The counter that takes this beat agrees with the frame. -/
theorem idleBeat_agrees (hnow : s.now < 2 ^ 63) : s.idleBeat x < 2 ^ 64 ∧ bitsOf (s.idleBeat x - 64 * (fr x 51 48 + 1)) 6 40 = fr x 47 8 := by
  have hp : fr x 47 8 < 2 ^ 40 := fr_lt x 47 8
  have hh : fr x 51 48 < 2 ^ 4 := fr_lt x 51 48
  rw [State.idleBeat, bitsOf, Nat.shiftRight_eq_div_pow]
  generalize fr x 47 8 = p at *
  generalize fr x 51 48 = hop at *
  omega

/-- R44: a slip with no site in motion. -/
def State.slipReported (s : State) : State := ((s.set Reg.TB_STAT.SLIP 1).log Src.TB Lc.SYNC_SLIP 0 2).alert Alert.TIMEBASE

theorem State.slip_still (h : s.anySite [Site.RUNNING, Site.HELD] = false) (b : Nat) : s.slip b = s.slipReported.setCounter b :=
  if_neg (by rw [h]; decide)

/-- The words of the reports of the timebase. -/
def tbWords : List Nat := [Reg.TB_STAT.word, Reg.TB_SYNC_ERR.word, Reg.LOG_STAT.word, Reg.CP_ALERT.word, Reg.HL_INT.word]

theorem State.log_tbWords {src code det cls : Nat} : s.SameWords tbWords (s.log src code det cls) := by
  unfold State.log
  exact ite_kept (fun _ => State.SameWords.set _ _ (by decide)) fun _ => State.SameWords.of_regs rfl

theorem State.alert_tbWords {i : Nat} : s.SameWords tbWords (s.alert i) := fun a ha => by
  simp only [tbWords, List.mem_cons, List.not_mem_nil, or_false, not_or] at ha
  exact State.alert_word ha.2.2.2.1 ha.2.2.2.2

theorem State.slipReported_words : s.SameWords tbWords s.slipReported :=
  ((State.SameWords.set Reg.TB_STAT.SLIP 1 (by decide)).snoc State.log_tbWords).snoc State.alert_tbWords

theorem State.alert_frame (s : State) (i : Nat) : s.alert i = { s with regs := (s.alert i).regs, msix := (s.alert i).msix } := State.alert_msixFrame

theorem State.slipReported_frame : s.slipReported = { s with regs := s.slipReported.regs, logWait := s.slipReported.logWait, msix := s.slipReported.msix } := by
  rw [State.slipReported, State.alert_frame, State.log_frame]
  rfl

theorem State.slipReported_slip : s.slipReported.get Reg.TB_STAT.SLIP = 1 := by
  rw [State.slipReported, (State.alert_sameFields (by decide)).get (by unfold Fld.Apart; decide), State.log_sameFields.get (by unfold Fld.Apart; decide),
    State.get_set_same _ _ (by decide) (by decide)]
  rfl

theorem State.slipReported_pending : s.slipReported.flag (alertField Alert.TIMEBASE) = true := State.alert_flag (by decide)

theorem State.anySite_congr (h : ∀ n, t.siteState n = s.siteState n) (l : List Nat) : t.anySite l = s.anySite l := by simp only [State.anySite, h]

/-! ### Frames that are not good -/

theorem State.rxFrame_bad (hl : s.listening = true) (hlock : s.get Reg.TB_STAT.LOCK ≠ 0) (hoff : off.val = s.tb.offset) (hg : s.rxGood f = none) :
    s.rxFrame f off ks act = s.badFrame (s.rxBits f) := by
  have hframed : (s.get Reg.TB_STAT.LOCK != 0) = true := bne_iff_ne.2 hlock
  have hsame : (off.val != s.tb.offset) = false := by rw [hoff]; exact bne_self_eq_false _
  unfold State.rxFrame
  simp only [hl, hframed, hsame, hg, Bool.not_true, Bool.and_false, Bool.or_self, Bool.false_eq_true, if_false]

/-- R41: the second bad frame in a row loses the framing; the first is remembered. -/
def State.badTaken (s : State) (bad : Nat) : State := if 1 ≤ bad then s.loseFraming else { s with tb := { s.tb with bad := bad + 1 } }

/-- R41: the count of a bad frame slot. -/
def State.badCounted (s : State) (x : BitVec 64) : State :=
  if startOk x then s.inc Reg.TB_SYNC_ERR.CRC_ERR else if fr x 63 56 = 0x2D then s else s.inc Reg.TB_SYNC_ERR.START_ERR

theorem State.badFrame_eq (hlock : s.get Reg.TB_STAT.LOCK ≠ 0) (hk : ¬ (startOk x = true ∧ fr x 55 52 = Fk.SNAPSHOT)) :
    s.badFrame x = (s.badCounted x).badTaken s.tb.bad := by
  have heq : s.badFrame x = (if startOk x = true ∧ fr x 55 52 = Fk.SNAPSHOT then (s.badCounted x).snapMissed (frTag x) else s.badCounted x).badTaken s.tb.bad :=
    if_neg hlock
  rw [heq, if_neg hk]

theorem State.badFrame_crc (hlock : s.get Reg.TB_STAT.LOCK ≠ 0) (hst : startOk x = true) (hk : fr x 55 52 ≠ Fk.SNAPSHOT) :
    s.badFrame x = (s.inc Reg.TB_SYNC_ERR.CRC_ERR).badTaken s.tb.bad := by
  rw [State.badFrame_eq hlock fun h => hk h.2, State.badCounted, if_pos hst]

theorem State.badFrame_start (hlock : s.get Reg.TB_STAT.LOCK ≠ 0) (hst : ¬ startOk x = true) (hk : fr x 63 56 ≠ 0x2D) :
    s.badFrame x = (s.inc Reg.TB_SYNC_ERR.START_ERR).badTaken s.tb.bad := by
  rw [State.badFrame_eq hlock fun h => hst h.1, State.badCounted, if_neg hst, if_neg hk]

theorem State.loseFraming_words : s.SameWords tbWords s.loseFraming := by
  have hun : s.SameWords tbWords s.unframe := fun a ha => State.unframe_sameWords a (by revert ha; simp +contextual [tbWords])
  exact ite_kept (fun _ => hun.snoc State.alert_tbWords) fun _ => hun

theorem State.loseFraming_frame : s.loseFraming =
    { s with regs := s.loseFraming.regs, tb := s.loseFraming.tb, logWait := s.loseFraming.logWait, msix := s.loseFraming.msix } := by
  unfold State.loseFraming
  split
  · rw [State.alert_frame, State.unframe_frame]
  · rw [State.unframe_frame]

theorem State.loseFraming_lock : s.loseFraming.get Reg.TB_STAT.LOCK = 0 :=
  ite_kept (P := fun u => u.get Reg.TB_STAT.LOCK = 0)
    (fun _ => ((State.alert_sameFields (by decide)).get (by unfold Fld.Apart; decide)).trans State.unframe_lock) fun _ => State.unframe_lock

theorem State.loseFraming_pending (h : s.outstanding = true) : s.loseFraming.alertPending Alert.TIMEBASE = true := by
  rw [State.loseFraming, if_pos h, State.alertPending_eq (by decide)]
  exact State.alert_flag (by decide)

theorem State.loseFraming_syncErr {g : Fld} (hg : g.addr = Reg.TB_SYNC_ERR.word) : s.loseFraming.get g = s.get g := by
  have hun : s.unframe.get g = s.get g := State.unframe_sameWords.get (by rw [hg]; decide)
  refine ite_kept (P := fun u => u.get g = s.get g) (fun _ => ?_) fun _ => hun
  rw [State.get, State.alert_word (by rw [hg]; decide) (by rw [hg]; decide)]
  exact hun

/-- A count of bad frames says nothing about the commands that are outstanding. -/
theorem State.inc_outstanding {g : Fld} (hg : g.addr = Reg.TB_SYNC_ERR.word) : (s.inc g).outstanding = s.outstanding := by
  have hget : ∀ h : Fld, h.addr ≠ g.addr → (s.inc g).get h = s.get h := fun h hne => State.get_set_addr g h _ hne
  have hstate : ∀ k, (s.inc g).slotState k = s.slotState k := fun k => hget _ (by rw [hg]; simp only [Reg.CL_SLOT_STAT.STATE, Reg.TB_SYNC_ERR.word]; omega)
  have hmulti : ∀ k, (s.inc g).slotMulti k = s.slotMulti k := fun k => by
    rw [State.slotMulti, State.flag, hget _ (by rw [hg]; simp only [Reg.CL_SET.MULTI, Reg.TB_SYNC_ERR.word]; omega)]
    rfl
  have hslot : ∀ k, (s.inc g).slot k = s.slot k := fun _ => rfl
  simp only [State.outstanding, hstate, hmulti, hslot]
  rfl

/-! ### Framing -/

theorem State.rxFrame_unframed (hl : s.listening = true) (hlock : s.get Reg.TB_STAT.LOCK = 0) (hok : frameOk (s.rxBits f) = true)
    (hk : fr (s.rxBits f) 55 52 ∈ ks) (hns : fr (s.rxBits f) 55 52 ≠ Fk.SNAPSHOT) :
    s.rxFrame f off ks act = (s.set Reg.TB_STAT.HOP (fr (s.rxBits f) 51 48)).framing off := by
  have hframed : (s.get Reg.TB_STAT.LOCK != 0) = false := by rw [hlock]; rfl
  have hgood : s.rxGood f = some (s.rxBits f) := if_pos hok
  have hin : ks.contains (fr (s.rxBits f) 55 52) = true := List.contains_iff_mem.2 hk
  unfold State.rxFrame
  simp only [hl, hframed, hgood, hin, hok, hns, Bool.not_true, Bool.not_false, Bool.false_and, Bool.or_self, Bool.false_eq_true, if_true, if_false]

/-- The good frames in a row at this offset, the present one among them. -/
def State.goodRun (s : State) (off : Nat) : Nat := if off = s.tb.offset then s.tb.good + 1 else 1

theorem State.framing_framed {o : Nat} (h : 4 ≤ s.goodRun o) :
    s.framing o = { s.set Reg.TB_STAT.LOCK 1 with tb := { s.tb with good := 0, bad := 0, offset := o } } := if_pos h

theorem State.framing_waits {o : Nat} (h : ¬ 4 ≤ s.goodRun o) : s.framing o = { s with tb := { s.tb with good := s.goodRun o, offset := o } } := if_neg h

theorem State.goodRun_iff {o : Nat} : 4 ≤ s.goodRun o ↔ o = s.tb.offset ∧ 3 ≤ s.tb.good := by
  unfold State.goodRun
  split <;> omega

end
end Sys2Proof.Machine
end

section
/-! Frames that arrive on SYNC_IN while it is framed, and the framing itself (O2). -/

namespace Sys2Proof.Machine

section
variable {s : State} {f x : BitVec 64} {off : Fin 64}

theorem State.SameFields.sameWords {fs : List Fld} {ws : List Nat} {t : State} (h : s.SameFields fs t) (hs : ∀ g ∈ fs, g.addr ∈ ws) : s.SameWords ws t :=
  fun _ ha => h.reg fun g hg he => ha (he ▸ hs g hg)

theorem epochFrame_first (h : s.Receives f off Fk.EPOCH x) (hrole : s.role = Role.LEAF) (hv : s.cntValid = false) :
    ∃ t : State, exec (.epochFrame f off) s = .next t ∧ t.beat = BitVec.ofNat 64 (fr x 47 8 * 2 ^ 20 + 64 * (fr x 51 48 + 1)) ∧
      t.cntValid = true ∧ t.get Reg.TB_STAT.LOCK = 2 ∧ t.get Reg.TB_STAT.HOP = fr x 51 48 ∧
      s.SameFields [Reg.TB_STAT.CNT_VALID, Reg.TB_STAT.LOCK, Reg.TB_STAT.HOP, Reg.TB_STAT.SYNC_INV, Reg.TB_SYNC_ERR.FRAMES_OK, Reg.LOG_STAT.DROPPED] t ∧
      t = { s with regs := t.regs, tb := t.tb, beat := t.beat, logWait := t.logWait } := by
  have hexec : exec (.epochFrame f off) s = .next (s.rxFrame f off [Fk.EPOCH] fun x t => t.onEpoch x) := rfl
  rw [State.rxFrame_counted h (List.mem_singleton_self _),
    State.onEpoch_first (State.counted_role.trans hrole) (State.counted_cntValid.trans hv)] at hexec
  have hset : (s.counted f x).SameFields [Reg.TB_STAT.LOCK] ((s.counted f x).set Reg.TB_STAT.LOCK 2) :=
    State.SameFields.set _ _ (by decide) (by decide) (by simp)
  refine ⟨_, hexec, rfl, State.setCounter_valid _, ?_, ?_, ?_, ?_⟩
  · exact ((State.setCounter_sameFields _).get (by unfold Fld.Apart; decide)).trans (State.get_set_same _ _ (by decide) (by decide))
  · exact (((State.setCounter_sameFields _).get (by unfold Fld.Apart; decide)).trans (hset.get (by unfold Fld.Apart; decide))).trans State.counted_hop
  · exact ((State.counted_sameFields.mono (by decide)).snoc (hset.mono (by decide))).snoc ((State.setCounter_sameFields _).mono (by decide))
  · rw [State.counted_frame]
    rfl

theorem counted_meets {t : State} (h : t = s.counted f x) :
    t.get Reg.TB_STAT.HOP = fr x 51 48 ∧ t.get Reg.TB_SYNC_ERR.FRAMES_OK = (s.get Reg.TB_SYNC_ERR.FRAMES_OK + 1) % 2 ^ 32 ∧
      s.SameFields [Reg.TB_STAT.HOP, Reg.TB_STAT.SYNC_INV, Reg.TB_SYNC_ERR.FRAMES_OK, Reg.LOG_STAT.DROPPED] t ∧
      t = { s with regs := t.regs, tb := t.tb, logWait := t.logWait } := by
  subst h
  refine ⟨State.counted_hop, State.counted_framesOk, State.counted_sameFields, ?_⟩
  rw [State.counted_frame]

theorem idleFrame_agrees (h : s.Receives f off Fk.IDLE x) (hagree : bitsOf (s.now - 64 * (fr x 51 48 + 1)) 6 40 = fr x 47 8) :
    exec (.idleFrame f off) s = .next (s.counted f x) := by
  have hexec : exec (.idleFrame f off) s = .next (s.rxFrame f off [Fk.IDLE] fun x t => t.onIdle x) := rfl
  rwa [State.rxFrame_counted h (List.mem_singleton_self _), State.onIdle_agrees (by rw [State.counted_now]; exact hagree)] at hexec

theorem reservedFrame_counted (h : s.Receives f off (fr x 55 52) x) (hk : 7 ≤ fr x 55 52) :
    exec (.reservedFrame f off) s = .next (s.counted f x) := by
  have hexec : exec (.reservedFrame f off) s = .next (s.rxFrame f off [7, 8, 9, 10, 11, 12, 13, 14, 15] fun _ t => t) := rfl
  have hin : fr x 55 52 ∈ [7, 8, 9, 10, 11, 12, 13, 14, 15] := by
    have hlt : fr x 55 52 < 2 ^ 4 := fr_lt x 55 52
    simp only [List.mem_cons, List.not_mem_nil, or_false]
    omega
  rwa [State.rxFrame_counted h hin] at hexec

theorem idleFrame_slips (h : s.Receives f off Fk.IDLE x) (hv : s.cntValid = true) (hnow : s.now < 2 ^ 63)
    (hdiff : bitsOf (s.now - 64 * (fr x 51 48 + 1)) 6 40 ≠ fr x 47 8) (hstill : s.anySite [Site.RUNNING, Site.HELD] = false) :
    ∃ t : State, exec (.idleFrame f off) s = .next t ∧ t.get Reg.TB_STAT.SLIP = 1 ∧ t.cntValid = true ∧
      bitsOf (t.now - 64 * (fr x 51 48 + 1)) 6 40 = fr x 47 8 ∧ t.alertPending Alert.TIMEBASE = true ∧
      s.SameWords [Reg.TB_STAT.word, Reg.TB_SYNC_ERR.word, Reg.LOG_STAT.word, Reg.CP_ALERT.word, Reg.HL_INT.word] t ∧
      t = { s with regs := t.regs, tb := t.tb, beat := t.beat, logWait := t.logWait, msix := t.msix } := by
  have hexec : exec (.idleFrame f off) s = .next (s.rxFrame f off [Fk.IDLE] fun x t => t.onIdle x) := rfl
  have hstill' : (s.counted f x).anySite [Site.RUNNING, Site.HELD] = false := (State.anySite_congr State.counted_siteState _).trans hstill
  rw [State.rxFrame_counted h (List.mem_singleton_self _),
    State.onIdle_differs (State.counted_cntValid.trans hv) (by rw [State.counted_now]; exact hdiff), State.slip_still hstill'] at hexec
  have hagree := idleBeat_agrees (s := s.counted f x) (x := x) (by rw [State.counted_now]; exact hnow)
  have hcounted : s.SameWords tbWords (s.counted f x) := State.counted_sameFields.sameWords (by decide)
  have hcounter : (s.counted f x).slipReported.SameWords tbWords ((s.counted f x).slipReported.setCounter ((s.counted f x).idleBeat x)) :=
    (State.setCounter_sameFields _).sameWords (by decide)
  refine ⟨_, hexec, ?_, State.setCounter_valid _, ?_, ?_, ?_, ?_⟩
  · exact ((State.setCounter_sameFields _).get (by unfold Fld.Apart; decide)).trans State.slipReported_slip
  · have hbeat : ((s.counted f x).slipReported.setCounter ((s.counted f x).idleBeat x)).now = (s.counted f x).idleBeat x :=
      (BitVec.toNat_ofNat _ _).trans (Nat.mod_eq_of_lt hagree.1)
    rw [hbeat]
    exact hagree.2
  · rw [State.alertPending_eq (by decide)]
    exact ((State.setCounter_sameFields _).flag (by unfold Fld.Apart; decide)).trans State.slipReported_pending
  · exact (hcounted.snoc State.slipReported_words).snoc hcounter
  · rw [State.slipReported_frame, State.counted_frame]
    rfl

theorem syncErr_shape : ∀ g ∈ [Reg.TB_SYNC_ERR.CRC_ERR, Reg.TB_SYNC_ERR.START_ERR], g.addr = Reg.TB_SYNC_ERR.word ∧ g.hi < 128 ∧ g.lo ≤ g.hi := by decide

/-- What a frame slot that is not good leaves, by its place in the row of such slots. -/
theorem badTaken_meets {g : Fld} (hg : g ∈ [Reg.TB_SYNC_ERR.CRC_ERR, Reg.TB_SYNC_ERR.START_ERR]) {t : State} (h : t = (s.inc g).badTaken s.tb.bad) :
    t.get g = (s.get g + 1) % 2 ^ (g.hi + 1 - g.lo) ∧
      (s.tb.bad = 0 → t.get Reg.TB_STAT.LOCK = s.get Reg.TB_STAT.LOCK ∧ t.tb.bad = 1) ∧
      (1 ≤ s.tb.bad → t.get Reg.TB_STAT.LOCK = 0 ∧ (s.outstanding = true → t.alertPending Alert.TIMEBASE = true)) ∧
      s.SameWords tbWords t ∧ t = { s with regs := t.regs, tb := t.tb, logWait := t.logWait, msix := t.msix } := by
  obtain ⟨haddr, hhi, hlo⟩ := syncErr_shape g hg
  have hcount : (s.inc g).get g = (s.get g + 1) % 2 ^ (g.hi + 1 - g.lo) := State.get_set_same _ _ hhi hlo
  have hwords : s.SameWords tbWords (s.inc g) := State.SameWords.set _ _ (by rw [haddr]; decide)
  by_cases hbad : 1 ≤ s.tb.bad
  · rw [State.badTaken, if_pos hbad] at h
    subst h
    refine ⟨(State.loseFraming_syncErr haddr).trans hcount, fun h0 => absurd h0 (by omega), fun _ => ⟨State.loseFraming_lock, fun hout => ?_⟩,
      hwords.snoc State.loseFraming_words, ?_⟩
    · exact State.loseFraming_pending ((State.inc_outstanding haddr).trans hout)
    · rw [State.loseFraming_frame]
      rfl
  · rw [State.badTaken, if_neg hbad] at h
    subst h
    refine ⟨hcount, fun h0 => ⟨?_, congrArg (· + 1) h0⟩, fun h1 => absurd h1 hbad, hwords.snoc (State.SameWords.of_regs rfl), rfl⟩
    exact State.get_set_addr g _ _ (by rw [haddr]; decide)

theorem badSyncFrame_eq (hl : s.listening = true) (hlock : s.get Reg.TB_STAT.LOCK ≠ 0) (hoff : off.val = s.tb.offset) (hg : s.rxGood f = none) :
    exec (.badSyncFrame f off) s = .next (s.badFrame (s.rxBits f)) := by
  have hexec : exec (.badSyncFrame f off) s = .next (s.rxFrame f off [] fun _ t => t) := rfl
  rwa [State.rxFrame_bad hl hlock hoff hg] at hexec

theorem idleFrame_unframed (hl : s.listening = true) (hlock : s.get Reg.TB_STAT.LOCK = 0) (hok : frameOk (s.rxBits f) = true)
    (hk : fr (s.rxBits f) 55 52 = Fk.IDLE) :
    ∃ t : State, exec (.idleFrame f off) s = .next t ∧ t.get Reg.TB_STAT.LOCK = (if off.val = s.tb.offset ∧ 3 ≤ s.tb.good then 1 else 0) ∧
      (off.val = s.tb.offset → s.tb.good < 3 → t.tb.good = s.tb.good + 1) ∧
      s.SameFields [Reg.TB_STAT.HOP, Reg.TB_STAT.LOCK] t ∧ t = { s with regs := t.regs, tb := t.tb } := by
  have hexec : exec (.idleFrame f off) s = .next (s.rxFrame f off [Fk.IDLE] fun x t => t.onIdle x) := rfl
  rw [State.rxFrame_unframed hl hlock hok (by rw [hk]; exact List.mem_singleton_self _) (by rw [hk]; decide)] at hexec
  generalize hh : s.set Reg.TB_STAT.HOP (fr (s.rxBits f) 51 48) = hopped at hexec
  have hframe : hopped = { s with regs := hopped.regs } := by rw [← hh]; rfl
  have htb : hopped.tb = s.tb := by rw [hframe]
  have hhop : s.SameFields [Reg.TB_STAT.HOP, Reg.TB_STAT.LOCK] hopped := by
    rw [← hh]
    exact State.SameFields.set _ _ (by decide) (by decide) (by simp)
  have hunlocked : hopped.get Reg.TB_STAT.LOCK = 0 := by
    rw [← hh]
    exact ((State.SameFields.set (fs := [Reg.TB_STAT.HOP]) Reg.TB_STAT.HOP _ (by decide) (by decide) (by simp)).get (by unfold Fld.Apart; decide)).trans hlock
  have hrun : 4 ≤ hopped.goodRun off ↔ off.val = s.tb.offset ∧ 3 ≤ s.tb.good := by rw [State.goodRun_iff, htb]
  by_cases h : 4 ≤ hopped.goodRun off
  · rw [State.framing_framed h] at hexec
    refine ⟨_, hexec, ?_, fun _ hlt => absurd (hrun.1 h).2 (by omega), ?_, ?_⟩
    · rw [if_pos (hrun.1 h)]
      exact State.get_set_same Reg.TB_STAT.LOCK _ (by decide) (by decide)
    · exact (hhop.snoc (State.SameFields.set Reg.TB_STAT.LOCK _ (by decide) (by decide) (by simp))).snoc (State.SameFields.of_regs rfl)
    · rw [hframe]
      rfl
  · rw [State.framing_waits h] at hexec
    refine ⟨_, hexec, ?_, fun hoff _ => ?_, hhop.snoc (State.SameFields.of_regs rfl), ?_⟩
    · rw [if_neg (mt hrun.2 h)]
      exact hunlocked
    · exact (if_pos (by rw [htb]; exact hoff)).trans (by rw [htb])
    · rw [hframe]

end

/-- Settles O2: a good frame is counted before it acts, and one that is not good takes the place of the last in the row of bad ones. -/
theorem syncFramesReceived : Obligations.SyncFramesReceived := by
  unfold Obligations.SyncFramesReceived
  refine ⟨fun s f x off => epochFrame_first, fun s f x off h _ hagree => ?_, fun s f x off => idleFrame_slips, fun s f x off h hk => ?_,
    fun s f off hl hlock hoff hg hst hk => ?_, fun s f off hl hlock hoff hg hst hk => ?_, fun s f off => idleFrame_unframed⟩
  · exact ⟨_, idleFrame_agrees h hagree, counted_meets rfl⟩
  · exact ⟨_, reservedFrame_counted h hk, counted_meets rfl⟩
  · have hexec := badSyncFrame_eq hl hlock hoff hg
    rw [State.badFrame_crc hlock hst hk] at hexec
    exact ⟨_, hexec, badTaken_meets (by simp) rfl⟩
  · have hexec := badSyncFrame_eq hl hlock hoff hg
    rw [State.badFrame_start hlock (by rw [hst]; decide) hk] at hexec
    obtain ⟨hcount, -, hlost, -, hframe⟩ := badTaken_meets (s := s) (g := Reg.TB_SYNC_ERR.START_ERR) (by simp) rfl
    exact ⟨_, hexec, hcount, fun hbad => (hlost hbad).1, hframe⟩

end Sys2Proof.Machine
end

section
/-! The data statements of a site's program (O14): loads of an X register, records and the accumulator. -/

namespace Sys2Proof.Machine

/-! ### Loads of an X register (R179, R184, R185) -/

section
variable {s : State} {n k : Nat} {i : Stmt} {w v : Word}

theorem getX_apart_pc : Reg.SQ_XREG.word n k ≠ (Reg.SQ_STAT.PC n).addr ∨ 32 ≤ k := by
  simp only [Reg.SQ_XREG.word, Reg.SQ_STAT.PC]
  omega

theorem State.getX_retire (hk : k < 32) : (s.retire n).getX n k = s.getX n k :=
  State.retire_sameFields.getX fun _ hg => (List.mem_singleton.1 hg) ▸ getX_apart_pc.resolve_right (by omega)

theorem State.setX_pc (hk : k < 32) : (s.setX n k w).pc n = s.pc n :=
  State.setX_sameFields.get (Fld.apart_xFields (Nat.le_of_ble_eq_true rfl) hk (by simp only [Reg.SQ_STAT.PC]; omega))

/-- R179, R205: OP and ISSUED lie outside the X registers. -/
theorem apart_xFields_issue (hk : k < 32) : (Reg.SQ_STAT.OP n).Apart (xFields n k) ∧ (Reg.SQ_CNT.ISSUED n).Apart (xFields n k) :=
  ⟨Fld.apart_xFields (Nat.le_of_ble_eq_true rfl) hk (by simp only [Reg.SQ_STAT.OP]; omega),
    Fld.apart_xFields (Nat.le_of_ble_eq_true rfl) hk (by simp only [Reg.SQ_CNT.ISSUED]; omega)⟩

/-- R179: a statement that loads an X register and retires. -/
def State.gives (s : State) (n k : Nat) (v : Word) : State := (s.setX n k v).retire n

theorem State.gives_frame : s.gives n k v = { s with regs := (s.gives n k v).regs } := by
  unfold State.gives
  rw [State.setX_frame]
  rfl

theorem State.Issues.loads (h : s.Issues n i) : s.Loads ((s.began n i.op).gives n i.xd v) n i.xd v := by
  obtain ⟨-, hxd, -⟩ := h.bounds
  obtain ⟨hop, hissued⟩ := apart_xFields_issue (n := n) hxd
  refine ⟨(State.getX_retire hxd).trans State.getX_setX, h.moved ?_ hop hissued ?_, ?_⟩
  · exact (State.setX_sameFields.mono (by simp +contextual)).snoc (State.retire_sameFields.mono (by simp))
  · rw [State.gives, State.pc_retire, State.setX_pc hxd, State.began_pc]
  · rw [State.gives_frame, State.began_issueFrame]

theorem State.Loads.bumpFree {t : State} (h : s.Loads t n k v) : s.Loads t.bumpFree n k v := by
  obtain ⟨hx, hmoved, hframe⟩ := h
  refine ⟨hx, hmoved, ?_⟩
  rw [State.bumpFree, hframe]

/-- R182: the low bits of the operand A of a statement that has issued. -/
theorem State.Issues.opA_low (h : s.Issues n i) (hn : n < 64) (hi : Nat) :
    wget ((s.began n i.op).opA n i) hi 0 = (s.getX n i.xa).toNat % 2 ^ (hi + 1) := by
  obtain ⟨-, -, hxa⟩ := h.bounds
  rw [State.opA, State.began_getX hn hxa]
  simp only [wget, bitsOf, Nat.shiftRight_zero, Nat.sub_zero]

/-! ### The addresses and the values of the loads -/

theorem wput_upper (w : Word) (v : Nat) : wput w 127 64 v = BitVec.ofNat 128 (v % 2 ^ 64 * 2 ^ 64 + w.toNat % 2 ^ 64) := by
  have hw : (w &&& ~~~(fieldMask 127 64)).toNat = w.toNat % 2 ^ 64 := by
    have hmask : ~~~(fieldMask 127 64) = BitVec.ofNat 128 (2 ^ 64 - 1) := by decide
    rw [hmask, BitVec.toNat_and, BitVec.toNat_ofNat, Nat.mod_eq_of_lt (by decide), Nat.and_two_pow_sub_one_eq_mod]
  have hlow : w.toNat % 2 ^ 64 < 2 ^ 64 := Nat.mod_lt _ (by decide)
  have hshift : (BitVec.ofNat 128 (v % 2 ^ (127 + 1 - 64)) <<< 64).toNat = (v % 2 ^ 64) <<< 64 := by
    rw [BitVec.toNat_shiftLeft, BitVec.toNat_ofNat, Nat.shiftLeft_eq, Nat.shiftLeft_eq]
    omega
  refine BitVec.eq_of_toNat_eq ?_
  rw [wput, BitVec.toNat_or, hw, hshift, Nat.or_comm, ← Nat.shiftLeft_add_eq_or_of_lt hlow, BitVec.toNat_ofNat, Nat.shiftLeft_eq]
  omega

theorem Stmt.immS_eq (i : Stmt) : i.immS = (BitVec.ofNat 64 i.imm).signExtend 128 := by
  rw [Stmt.immS, BitVec.signExtend, signedOf, BitVec.toInt, BitVec.toNat_ofNat]

theorem State.Issues.ldpAddr (h : s.Issues n i) (hn : n < 64) :
    (s.began n i.op).stmtAddr n ((s.began n i.op).ldpIndex n i) = s.stmtAddr n (((s.getX n i.xa).toNat + i.imm) % 2 ^ 20) := by
  rw [State.ldpIndex, h.opA_low hn, State.stmtAddr, State.began_seq, Nat.mod_add_mod]
  rfl

theorem State.ldpAddr_eq : s.stmtAddr n (s.ldpIndex n i) = s.stmtAddr n (((s.getX n i.xa).toNat + i.imm) % 2 ^ 20) := by
  simp only [State.ldpIndex, State.opA, wget, bitsOf, Nat.shiftRight_zero, Nat.sub_zero, Nat.mod_add_mod]

theorem State.Issues.rdwAddr (h : s.Issues n i) (hn : n < 64) : (s.began n i.op).rdwAddr n i = ((s.getX n i.xa).toNat + i.imm) % 2 ^ 24 := by
  rw [State.rdwAddr, h.opA_low hn, Nat.mod_add_mod]

theorem State.began_mem16 {op a : Nat} : (s.began n op).mem16 a = BitVec.ofNat 128 (leNat (s.bytes a 16)) := by
  rw [State.began_issueFrame]
  rfl

theorem State.began_captureTime {op : Nat} : (s.began n op).captureTime = s.captureTime := by
  rw [State.began_issueFrame]
  rfl

end

/-! ### Records (R196, R382) -/

section
variable {s : State} {n kind sub value op : Nat} {fail : Bool} {i : Stmt}

/-- The record of a statement, and its retirement. -/
def State.records (s : State) (n kind sub : Nat) (fail : Bool) (value : Nat) : State := (s.ownRecord n kind sub fail value).retire n

theorem State.began_siteState : (s.began n op).siteState n = s.siteState n := by
  refine State.began_sameFields.get ?_
  simp only [beganFields, Fld.apart_cons, Fld.apart_nil, Reg.SO_STAT.STACK0, Reg.SO_STAT.STACK1, Reg.SQ_STAT.STATE, Reg.SQ_STAT.OP, Reg.SQ_CNT.ISSUED]
  omega

theorem State.records_pendRecs : (s.records n kind sub fail value).pendRecs = insertRec ⟨s.now + 2, s.now,
    recWord n (s.stmtOf n) kind ((if fail = true then Flag.FAIL else 0) ||| s.siteFlags n) s.now sub value⟩ s.pendRecs := rfl

theorem State.recordRaw_eq {flags : Nat} : s.recordRaw n kind flags sub value =
    { s with pendRecs := insertRec ⟨s.now + 2, s.now, recWord n (s.stmtOf n) kind (flags ||| s.siteFlags n) s.now sub value⟩ s.pendRecs } := rfl

theorem State.records_frame : s.records n kind sub fail value =
    { s with regs := (s.records n kind sub fail value).regs, pendRecs := (s.records n kind sub fail value).pendRecs } := by
  obtain ⟨f, v, g, w, flags, heq⟩ : ∃ f v g w flags, s.records n kind sub fail value = ((s.recordRaw n kind flags sub value).set f v).set g w :=
    ⟨_, _, _, _, _, rfl⟩
  rw [heq, State.recordRaw_eq]
  generalize insertRec _ _ = recs
  rfl

theorem State.ownRecord_sameFields : s.SameFields [Reg.SQ_CNT.RECORDS n] (s.ownRecord n kind sub fail value) :=
  State.SameFields.snoc (State.SameFields.of_regs rfl)
    (State.SameFields.set (Reg.SQ_CNT.RECORDS n) _ (Nat.le_of_ble_eq_true rfl) (Nat.le_of_ble_eq_true rfl) (by simp))

theorem State.ownRecord_records : (s.ownRecord n kind sub fail value).get (Reg.SQ_CNT.RECORDS n) = (s.get (Reg.SQ_CNT.RECORDS n) + 1) % 2 ^ 32 :=
  State.get_set_same (Reg.SQ_CNT.RECORDS n) _ (Nat.le_of_ble_eq_true rfl) (Nat.le_of_ble_eq_true rfl)

/-- R382: the record of a running site tells the statement at its PC and carries no flag of the device. -/
theorem State.Issues.recorded (h : s.Issues n i) : s.Records ((s.began n i.op).records n kind sub fail value) n kind (if fail = true then Flag.FAIL else 0) sub value := by
  obtain ⟨hrun, -, -⟩ := h.idle
  have hstate : (s.began n i.op).siteState n = s.siteState n := State.began_siteState
  have hstmt : (s.began n i.op).stmtOf n = s.stmtOf n := by
    rw [State.stmtOf, State.stmtOf, hstate, ← State.pc, ← State.pc, State.began_pc]
  have hflags : (s.began n i.op).siteFlags n = 0 := by
    rw [State.siteFlags, hstate, hrun]
    rfl
  rw [State.Records, State.records_pendRecs, hflags, Nat.or_zero, hstmt, State.began_now]
  exact mem_insertRec _ _

theorem State.Issues.records (h : s.Issues n i) : s.Moved ((s.began n i.op).records n kind sub fail value) n (s.pc n + 1) [Reg.SQ_CNT.RECORDS n] ∧
    ((s.began n i.op).records n kind sub fail value).get (Reg.SQ_CNT.RECORDS n) = (s.get (Reg.SQ_CNT.RECORDS n) + 1) % 2 ^ 32 ∧
    s.Records ((s.began n i.op).records n kind sub fail value) n kind (if fail = true then Flag.FAIL else 0) sub value ∧
    (s.began n i.op).records n kind sub fail value = { s with
      regs := ((s.began n i.op).records n kind sub fail value).regs
      stackReq := ((s.began n i.op).records n kind sub fail value).stackReq
      pendRecs := ((s.began n i.op).records n kind sub fail value).pendRecs } := by
  have hcount : (s.began n i.op).SameFields [Reg.SQ_CNT.RECORDS n] ((s.began n i.op).ownRecord n kind sub fail value) := State.ownRecord_sameFields
  refine ⟨h.moved ((hcount.mono (by simp)).snoc (State.retire_sameFields.mono (by simp))) ?_ ?_ ?_, ?_, h.recorded, ?_⟩
  · simp [Fld.apart_cons, Fld.apart_nil, Reg.SQ_STAT.OP, Reg.SQ_CNT.RECORDS]
  · simp [Fld.apart_cons, Fld.apart_nil, Reg.SQ_CNT.ISSUED, Reg.SQ_CNT.RECORDS]
  · have hpc : ((s.began n i.op).ownRecord n kind sub fail value).pc n = (s.began n i.op).pc n :=
      hcount.get (by simp [Fld.apart_cons, Fld.apart_nil, Reg.SQ_STAT.PC, Reg.SQ_CNT.RECORDS])
    rw [State.records, State.pc_retire, hpc, State.began_pc]
  · have hbefore : (s.began n i.op).get (Reg.SQ_CNT.RECORDS n) = s.get (Reg.SQ_CNT.RECORDS n) := by
      refine State.began_sameFields.get ?_
      simp only [beganFields, Fld.apart_cons, Fld.apart_nil, Reg.SO_STAT.STACK0, Reg.SO_STAT.STACK1, Reg.SQ_CNT.RECORDS, Reg.SQ_STAT.OP, Reg.SQ_CNT.ISSUED]
      omega
    rw [State.records, State.retire_sameFields.get (by simp [Fld.apart_cons, Fld.apart_nil, Reg.SQ_STAT.PC, Reg.SQ_CNT.RECORDS]),
      State.ownRecord_records, hbefore]
  · rw [State.records_frame, State.began_issueFrame]

end

/-! ### The accumulator (R196) -/

section
variable {s : State} {n k sel : Nat} {i : Stmt}

/-- R196: the accumulator read, reset if asked, and the statement's retirement. -/
def State.accTaken (s : State) (n k sel : Nat) (reset : Bool) : State :=
  let u := s.setX n k (s.accValue n sel)
  (if reset then u.accReset n else u).retire n

/-- The word of the accumulator of a site. -/
def accWord (n : Nat) : Fld := ⟨Reg.SQ_ACC.word n, 127, 0⟩

theorem State.accReset_sameFields : s.SameFields [accWord n] (s.accReset n) := State.SameFields.setReg _ _ (by simp [accWord])

theorem State.resetIf_sameFields {reset : Bool} : s.SameFields [accWord n] (if reset then s.accReset n else s) :=
  ite_kept (fun _ => State.accReset_sameFields) fun _ => State.SameFields.refl

theorem accValue_congr {t : State} (h : t.reg (Reg.SQ_ACC.word n) = s.reg (Reg.SQ_ACC.word n)) : t.accValue n sel = s.accValue n sel := by
  have hget : ∀ hi lo, t.get ⟨Reg.SQ_ACC.word n, hi, lo⟩ = s.get ⟨Reg.SQ_ACC.word n, hi, lo⟩ := fun hi lo => by rw [State.get, State.get, h]
  unfold State.accValue State.getS
  split
  · exact h
  · exact congrArg (fun v => BitVec.ofInt 128 (signedOf _ v)) (hget _ _)
  · exact congrArg (fun v => BitVec.ofInt 128 (signedOf _ v)) (hget _ _)
  · exact congrArg (BitVec.ofNat 128) (hget _ _)

theorem State.began_acc (hn : n < 64) {op : Nat} : (s.began n op).reg (Reg.SQ_ACC.word n) = s.reg (Reg.SQ_ACC.word n) := by
  refine State.began_sameFields.reg ?_
  simp only [beganFields, List.forall_mem_cons, Reg.SQ_ACC.word, Reg.SO_STAT.STACK0, Reg.SO_STAT.STACK1, Reg.SQ_STAT.OP, Reg.SQ_CNT.ISSUED,
    List.not_mem_nil, false_imp_iff, implies_true, and_true]
  omega

theorem State.accTaken_reg {reset : Bool} (hk : k < 32) : (s.accTaken n k sel reset).reg (Reg.SQ_ACC.word n) =
    if reset = true then resetWord (Reg.SQ_ACC.word n) else s.reg (Reg.SQ_ACC.word n) := by
  have hx : (s.setX n k (s.accValue n sel)).reg (Reg.SQ_ACC.word n) = s.reg (Reg.SQ_ACC.word n) := by
    refine State.setX_sameFields.reg fun g hg => ?_
    unfold xFields at hg
    split at hg
    · cases hg
    · rw [List.mem_singleton.1 hg]
      simp only [Reg.SQ_XREG.VALUE, Reg.SQ_ACC.word]
      omega
  refine (State.retire_sameFields.reg fun g hg => ?_).trans ?_
  · rw [List.mem_singleton.1 hg]
    simp only [Reg.SQ_ACC.word, Reg.SQ_STAT.PC]
    omega
  · cases reset
    · exact hx
    · exact State.reg_setReg_same _ _

theorem State.accTaken_getX {reset : Bool} (hk : k < 32) : (s.accTaken n k sel reset).getX n k = if k = 0 then 0 else s.accValue n sel := by
  refine (State.getX_retire hk).trans ((State.resetIf_sameFields.getX fun g hg => ?_).trans State.getX_setX)
  rw [List.mem_singleton.1 hg]
  simp only [accWord, Reg.SQ_XREG.word, Reg.SQ_ACC.word]
  omega

theorem State.accTaken_frame {reset : Bool} : s.accTaken n k sel reset = { s with regs := (s.accTaken n k sel reset).regs } := by
  unfold State.accTaken
  rw [State.setX_frame]
  cases reset <;> rfl

theorem State.Issues.accumulated (h : s.Issues n i) {reset : Bool} :
    s.Moved ((s.began n i.op).accTaken n i.xd sel reset) n (s.pc n + 1) (accWord n :: xFields n i.xd) := by
  obtain ⟨-, hxd, -⟩ := h.bounds
  obtain ⟨hop, hissued⟩ := apart_xFields_issue (n := n) hxd
  have hpcAcc : (Reg.SQ_STAT.PC n).Apart [accWord n] := by simp [Fld.apart_cons, Fld.apart_nil, Reg.SQ_STAT.PC, accWord, Reg.SQ_ACC.word]
  refine h.moved ?_ (Fld.apart_cons.2 ⟨?_, hop⟩) (Fld.apart_cons.2 ⟨?_, hissued⟩) ?_
  · exact ((State.setX_sameFields.mono (by simp +contextual)).snoc (State.resetIf_sameFields.mono (by simp))).snoc (State.retire_sameFields.mono (by simp))
  · simp [Reg.SQ_STAT.OP, accWord, Reg.SQ_ACC.word]
  · simp [Reg.SQ_CNT.ISSUED, accWord, Reg.SQ_ACC.word]
  · refine State.pc_retire.trans (congrArg (fun x => (x + 1) % 2 ^ 20) ?_)
    exact (State.resetIf_sameFields.get hpcAcc).trans ((State.setX_pc hxd).trans State.began_pc)

/-- The four values of ACC by their selector. -/
theorem State.accValue_eq : s.accValue n sel = if sel = 0 then s.reg (Reg.SQ_ACC.word n) else if sel = 1 then BitVec.ofInt 128 (s.getS (Reg.SQ_ACC.MIN n))
    else if sel = 2 then BitVec.ofInt 128 (s.getS (Reg.SQ_ACC.MAX n)) else BitVec.ofNat 128 (s.get (Reg.SQ_ACC.NFAIL n)) := by
  unfold State.accValue
  split
  · rfl
  · rfl
  · rfl
  next h0 h1 h2 => rw [if_neg h0, if_neg h1, if_neg h2]

end

/-! ### The rows -/

section
variable {s : State} {n : Fin 64} {i : Stmt}

theorem operandBad_recKind {k : Nat} : operandBad (!recKind k) = if recKind k = true then none else some (Reason.OPERAND, Reason.OPERAND) := by
  unfold operandBad
  cases recKind k <;> rfl

theorem State.Issues.faulted (h : s.Issues n i) {reason : Nat} (hr : reason ≠ Reason.UNCORR) : s.fault n reason reason = (s.faulted n reason).follow := by
  obtain ⟨hstate, hwait, hverb⟩ := h.idle
  exact State.fault_eq hstate hwait hverb hr

theorem stmtLdi_loads (h : s.Issues n i) (hop : i.op = 0x10) :
    ∃ t : State, exec (.stmtLdi n) s = .next t ∧ s.Loads t n i.xd (if bitOf i.aux 0 = true
      then BitVec.ofNat 128 (i.imm % 2 ^ 64 * 2 ^ 64 + (s.getX n i.xd).toNat % 2 ^ 64) else (BitVec.ofNat 64 i.imm).signExtend 128) := by
  have hexec : exec (.stmtLdi n) s = .next (s.issue n [0x10] noBad fun i t =>
      t.gives n i.xd (if bitOf i.aux 0 then wput (t.getX n i.xd) 127 64 i.imm else i.immS)) := rfl
  obtain ⟨-, hxd, -⟩ := h.bounds
  rw [h.runs (List.mem_singleton.2 hop) rfl, State.began_getX n.isLt hxd, wput_upper, Stmt.immS_eq] at hexec
  exact ⟨_, hexec, h.loads⟩

theorem stmtLdp_exec : exec (.stmtLdp n) s = .next (s.issue n [0x19] (fun i t => t.progBad n (t.stmtAddr n (t.ldpIndex n i)) 16) fun i t =>
    t.gives n i.xd (t.mem16 (t.stmtAddr n (t.ldpIndex n i)))) := rfl

theorem stmtRdw_loads (h : s.Issues n i) (hop : i.op = 0x1A) :
    ∃ t : State, exec (.stmtRdw n) s = .next t ∧ s.Loads t n i.xd ((s.began n i.op).readWord (((s.getX n i.xa).toNat + i.imm) % 2 ^ 24)) := by
  have hexec : exec (.stmtRdw n) s = .next (s.issue n [0x1A] noBad fun i t => (t.gives n i.xd (t.readWord (t.rdwAddr n i))).bumpFree) := rfl
  rw [h.runs (List.mem_singleton.2 hop) rfl, h.rdwAddr n.isLt] at hexec
  exact ⟨_, hexec, h.loads.bumpFree⟩

theorem stmtNow_loads (h : s.Issues n i) (hop : i.op = 0x1B) :
    ∃ t : State, exec (.stmtNow n) s = .next t ∧ s.Loads t n i.xd (BitVec.ofNat 128 (s.captureTime % 2 ^ 80)) := by
  have hexec : exec (.stmtNow n) s = .next (s.issue n [0x1B] noBad fun i t => (t.gives n i.xd (BitVec.ofNat 128 (t.captureTime % 2 ^ 80))).bumpFree) := rfl
  rw [h.runs (List.mem_singleton.2 hop) rfl, State.began_captureTime] at hexec
  exact ⟨_, hexec, h.loads.bumpFree⟩

theorem stmtRec_exec : exec (.stmtRec n) s = .next (s.issue n [0x60] (fun i _ => operandBad (!recKind (i.aux % 16))) fun i t =>
    t.records n (i.aux % 16) (bitsOf i.aux 4 10) (bitOf i.aux 14) (wget (t.opA n i) 47 0)) := rfl

theorem bitsOf_eq (v lo len : Nat) : bitsOf v lo len = v / 2 ^ lo % 2 ^ len := by rw [bitsOf, Nat.shiftRight_eq_div_pow]

end

/-- Settles O14: each statement that issues loads, records or reads the accumulator, and then retires. -/
theorem dataStatements : Obligations.DataStatements := by
  unfold Obligations.DataStatements
  refine ⟨fun s n i => stmtLdi_loads, fun s n i a h hop ha => ⟨fun hok => ?ldp, fun hbad => ?region⟩, fun s n i => stmtRdw_loads,
    fun s n i => stmtNow_loads, fun s n i h hop => ⟨fun hkind => ?rec, fun hkind => ?operand⟩, fun s n i h hop => ?bin, fun s n i k h hop hk => ?acc⟩
  case ldp =>
    have hexec := stmtLdp_exec (s := s) (n := n)
    rw [ha, ← State.ldpAddr_eq] at hok
    rw [h.runs (List.mem_singleton.2 hop) hok, h.ldpAddr n.isLt, State.began_mem16, ← ha] at hexec
    exact ⟨_, hexec, h.loads⟩
  case region =>
    have hexec := stmtLdp_exec (s := s) (n := n)
    rw [ha, ← State.ldpAddr_eq] at hbad
    rw [h.faults (List.mem_singleton.2 hop) hbad, h.faulted (by decide)] at hexec
    exact ⟨_, hexec, State.faulted_faults (by decide)⟩
  case rec =>
    have hexec := stmtRec_exec (s := s) (n := n)
    rw [h.runs (List.mem_singleton.2 hop) (operandBad_recKind.trans (if_pos hkind)), h.opA_low n.isLt, bitsOf_eq] at hexec
    exact ⟨_, hexec, h.records⟩
  case operand =>
    have hexec := stmtRec_exec (s := s) (n := n)
    rw [h.faults (List.mem_singleton.2 hop) (operandBad_recKind.trans (if_neg (by rw [hkind]; decide))), h.faulted (by decide)] at hexec
    exact ⟨_, hexec, State.faulted_faults (by decide)⟩
  case bin =>
    have hexec : exec (.stmtBin n) s = .next (s.issue n [0x61] noBad fun i t => t.records n Kind.BIN 0 false (i.imm % 2 ^ 48)) := rfl
    rw [h.runs (List.mem_singleton.2 hop) rfl] at hexec
    exact ⟨_, hexec, h.records⟩
  case acc =>
    have hexec : exec (.stmtAcc n) s = .next (s.issue n [0x62] noBad fun i t => t.accTaken n i.xd (bitsOf i.aux 1 2) (bitOf i.aux 0)) := rfl
    obtain ⟨-, hxd, -⟩ := h.bounds
    rw [h.runs (List.mem_singleton.2 hop) rfl, bitsOf_eq, show i.aux / 2 ^ 1 % 2 ^ 2 = k from hk.symm] at hexec
    refine ⟨_, hexec, ?_, ?_, h.accumulated, ?_⟩
    · rw [State.accTaken_getX hxd, accValue_congr (State.began_acc n.isLt), State.accValue_eq]
    · rw [State.accTaken_reg hxd, State.began_acc n.isLt]
    · rw [State.accTaken_frame, State.began_issueFrame]

end Sys2Proof.Machine
end

section
/-! SUPPORT. How a clause ends, how a split is reported, and how a decision reaches its slot (R235, R244, R246). -/

namespace Sys2Proof.Machine

section
variable {s t : State} {k j result tag fs : Nat}

/-! ### Slots -/

theorem State.slot_setSlot_same {c : ClSlot} : (s.setSlot k c).slot k = c := sget_sset_same _ _ _ _

theorem State.slot_setSlot_other {c : ClSlot} (h : j ≠ k) : (s.setSlot k c).slot j = s.slot j := sget_sset_other _ _ _ _ _ h

/-- The slots stay. -/
def State.SameSlots (s t : State) : Prop := t.slots = s.slots

theorem State.SameSlots.slot (h : s.SameSlots t) (j : Nat) : t.slot j = s.slot j := by rw [State.slot, State.slot, h]

theorem State.SameSlots.trans {u : State} (h : s.SameSlots t) (h' : t.SameSlots u) : s.SameSlots u := Eq.trans h' h

theorem State.log_slots {src code det cls : Nat} : s.SameSlots (s.log src code det cls) := by
  rw [State.log_frame]
  rfl

theorem State.alert_slots {i : Nat} : s.SameSlots (s.alert i) := by
  rw [State.alert_frame]
  rfl

theorem State.intr_slots {i : Nat} : s.SameSlots (s.intr i) := by
  rw [State.MsixFrame.refl.intr i]
  rfl

/-! ### The end of a clause of the host (R235) -/

/-- The fields that the end of a clause writes before its result. -/
def endFields (k : Nat) : List Fld :=
  [Reg.CL_SLOT_STAT.DEC_BEAT k, Reg.CL_CNT.COMMITTED, Reg.CL_CNT.ABORTED, Reg.CL_CNT.REFUSED, Reg.LOG_STAT.DROPPED]

theorem State.countResult_sameFields : s.SameFields (endFields k) (s.countResult result) := by
  have hinc (f : Fld) (hf : f ∈ [Reg.CL_CNT.COMMITTED, Reg.CL_CNT.ABORTED, Reg.CL_CNT.REFUSED]) : s.SameFields (endFields k) (s.inc f) := by
    have hshape : ∀ f ∈ [Reg.CL_CNT.COMMITTED, Reg.CL_CNT.ABORTED, Reg.CL_CNT.REFUSED], f.hi < 128 ∧ f.lo ≤ f.hi := by decide
    refine State.SameFields.set f _ (hshape f hf).1 (hshape f hf).2 ?_
    simp only [List.mem_cons, List.not_mem_nil, or_false] at hf
    rcases hf with rfl | rfl | rfl <;> simp [endFields]
  exact ite_kept (fun _ => hinc _ (by simp)) fun _ => ite_kept (fun _ => hinc _ (by simp)) fun _ =>
    ite_kept (fun _ => hinc _ (by simp)) fun _ => State.SameFields.refl

theorem State.countResult_slots : s.SameSlots (s.countResult result) :=
  ite_kept (fun _ => rfl) fun _ => ite_kept (fun _ => rfl) fun _ => ite_kept (fun _ => rfl) fun _ => rfl

/-- The result of a clause of the host and the state of its slot. -/
def State.slotDone (s : State) (k result : Nat) (c : ClSlot) : State :=
  (((s.set (Reg.CL_SLOT_STAT.RESULT k) result).set (Reg.CL_SLOT_STAT.STATE k) Slot.DONE).setSlot k c).intr Intr.CLAUSE_DONE

/-- What the end of a clause of the host comes to: its counts and reports, then its result. -/
theorem State.endClause_host (h : s.slotOwner k = none) : ∃ u c, s.SameFields (endFields k) u ∧ s.SameSlots u ∧ s.endClause k result = u.slotDone k result c := by
  have hrestore : s.SameFields (endFields k) (if result = Cl.OK then s else s.restoreTenses k) ∧
      s.SameSlots (if result = Cl.OK then s else s.restoreTenses k) :=
    ite_kept (P := fun u => s.SameFields (endFields k) u ∧ s.SameSlots u) (fun _ => ⟨State.SameFields.refl, rfl⟩)
      fun _ => ⟨State.SameFields.of_regs rfl, rfl⟩
  generalize hs1 : (if result = Cl.OK then s else s.restoreTenses k) = s1 at hrestore
  have hbeat : s.SameFields (endFields k) (if (s.slot k).dec.isNone then s1.set (Reg.CL_SLOT_STAT.DEC_BEAT k) (s.now % 2 ^ 32) else s1) ∧
      s.SameSlots (if (s.slot k).dec.isNone then s1.set (Reg.CL_SLOT_STAT.DEC_BEAT k) (s.now % 2 ^ 32) else s1) := by
    refine ite_kept (P := fun u => s.SameFields (endFields k) u ∧ s.SameSlots u) (fun _ => ⟨hrestore.1.snoc ?_, hrestore.2⟩) fun _ => hrestore
    exact State.SameFields.set (Reg.CL_SLOT_STAT.DEC_BEAT k) _ (Nat.le_of_ble_eq_true rfl) (Nat.le_of_ble_eq_true rfl) (by simp [endFields])
  generalize hs2 : (if (s.slot k).dec.isNone then s1.set (Reg.CL_SLOT_STAT.DEC_BEAT k) (s.now % 2 ^ 32) else s1) = s2 at hbeat
  have hcount : s.SameFields (endFields k) (s2.countResult result) ∧ s.SameSlots (s2.countResult result) :=
    ⟨hbeat.1.snoc State.countResult_sameFields, hbeat.2.trans State.countResult_slots⟩
  have hlog : s.SameFields (endFields k) (if result = Cl.OK then s2.countResult result else (s2.countResult result).log Src.CL (Lc.clause result)
        (clauseDetail k (s.slotTag k) (s.get (Reg.CL_SLOT_STAT.FIRST_BAD k))) 5) ∧
      s.SameSlots (if result = Cl.OK then s2.countResult result else (s2.countResult result).log Src.CL (Lc.clause result)
        (clauseDetail k (s.slotTag k) (s.get (Reg.CL_SLOT_STAT.FIRST_BAD k))) 5) :=
    ite_kept (P := fun u => s.SameFields (endFields k) u ∧ s.SameSlots u) (fun _ => hcount)
      fun _ => ⟨hcount.1.snoc (State.log_sameFields.mono (by simp [endFields])), hcount.2.trans State.log_slots⟩
  refine ⟨_, { s.slot k with undo := [] }, hlog.1, hlog.2, ?_⟩
  rw [State.endClause, h, hs1, hs2]
  rfl

theorem State.slotDone_slot {c : ClSlot} (h : j ≠ k) : (s.slotDone k result c).slot j = s.slot j := by
  rw [State.slotDone, State.intr_slots.slot, State.slot_setSlot_other h]
  rfl

/-- The fields that the result of a clause and the state of its slot stand in. -/
def doneFields (k : Nat) : List Fld := [Reg.CL_SLOT_STAT.RESULT k, Reg.CL_SLOT_STAT.STATE k, intrField Intr.CLAUSE_DONE]

theorem State.SameFields.setSlot {fs : List Fld} {c : ClSlot} (h : s.SameFields fs t) : s.SameFields fs (t.setSlot k c) :=
  h.snoc (State.SameFields.of_regs rfl)

theorem State.slotDone_sameFields {c : ClSlot} : s.SameFields (doneFields k) (s.slotDone k result c) := by
  have hresult : s.SameFields (doneFields k) (s.set (Reg.CL_SLOT_STAT.RESULT k) result) :=
    State.SameFields.set _ _ (Nat.le_of_ble_eq_true rfl) (Nat.le_of_ble_eq_true rfl) (by simp [doneFields])
  have hstate {u : State} : u.SameFields (doneFields k) (u.set (Reg.CL_SLOT_STAT.STATE k) Slot.DONE) :=
    State.SameFields.set _ _ (Nat.le_of_ble_eq_true rfl) (Nat.le_of_ble_eq_true rfl) (by simp [doneFields])
  exact ((hresult.snoc hstate).setSlot).snoc ((State.intr_sameFields (by decide)).mono (by simp [doneFields]))

theorem State.setSlot_get {c : ClSlot} (f : Fld) : (s.setSlot k c).get f = s.get f := rfl

theorem State.slotDone_state {c : ClSlot} : (s.slotDone k result c).slotState k = Slot.DONE := by
  have hintr : (Reg.CL_SLOT_STAT.STATE k).Apart [intrField Intr.CLAUSE_DONE] := by
    simp only [Fld.apart_cons, Fld.apart_nil, Reg.CL_SLOT_STAT.STATE, intrField]
    omega
  rw [State.slotState, State.slotDone, (State.intr_sameFields (by decide)).get hintr, State.setSlot_get]
  exact State.get_set_same _ _ (Nat.le_of_ble_eq_true rfl) (Nat.le_of_ble_eq_true rfl)

theorem State.slotDone_result {c : ClSlot} (hr : result < 2 ^ 8) : (s.slotDone k result c).get (Reg.CL_SLOT_STAT.RESULT k) = result := by
  have hintr : (Reg.CL_SLOT_STAT.RESULT k).Apart [intrField Intr.CLAUSE_DONE] := by
    simp only [Fld.apart_cons, Fld.apart_nil, Reg.CL_SLOT_STAT.RESULT, intrField]
    omega
  have hstate : ((s.set (Reg.CL_SLOT_STAT.RESULT k) result).set (Reg.CL_SLOT_STAT.STATE k) Slot.DONE).get (Reg.CL_SLOT_STAT.RESULT k) =
      (s.set (Reg.CL_SLOT_STAT.RESULT k) result).get (Reg.CL_SLOT_STAT.RESULT k) :=
    State.get_set_other _ _ _ (Nat.le_of_ble_eq_true rfl) (Nat.le_of_ble_eq_true rfl) (.inr (Nat.le_of_ble_eq_true rfl))
  rw [State.slotDone, (State.intr_sameFields (by decide)).get hintr, State.setSlot_get, hstate,
    State.get_set_same _ _ (Nat.le_of_ble_eq_true rfl) (Nat.le_of_ble_eq_true rfl)]
  exact Nat.mod_eq_of_lt hr

/-- R235: a clause of the host that ends is DONE with its result, and no other slot changes. -/
theorem State.endClause_done (h : s.slotOwner k = none) (hr : result < 2 ^ 8) : (s.endClause k result).slotState k = Slot.DONE ∧
    (s.endClause k result).get (Reg.CL_SLOT_STAT.RESULT k) = result ∧ ∀ j, j ≠ k → (s.endClause k result).slot j = s.slot j := by
  obtain ⟨u, c, -, hslots, heq⟩ := s.endClause_host (result := result) h
  rw [heq]
  exact ⟨State.slotDone_state, State.slotDone_result hr, fun j hj => (State.slotDone_slot hj).trans (hslots.slot j)⟩

/-- What stands below the slots' words but CL_CNT, LOG_STAT and the interrupts stays. -/
theorem State.endClause_flag {f : Fld} (h : s.slotOwner k = none) (hl : f.lo ≤ f.hi) (ha : f.addr = Reg.CL_CFG.word) : (s.endClause k result).flag f = s.flag f := by
  obtain ⟨u, c, hfields, -, heq⟩ := s.endClause_host (result := result) h
  have h1 : f.Apart (doneFields k) := by
    simp only [doneFields, Fld.apart_cons, Fld.apart_nil, ha, Reg.CL_CFG.word, Reg.CL_SLOT_STAT.RESULT, Reg.CL_SLOT_STAT.STATE, intrField]
    omega
  have h2 : f.Apart (endFields k) := by
    simp only [endFields, Fld.apart_cons, Fld.apart_nil, ha, Reg.CL_CFG.word, Reg.CL_SLOT_STAT.DEC_BEAT, Reg.CL_CNT.COMMITTED, Reg.CL_CNT.ABORTED,
      Reg.CL_CNT.REFUSED, Reg.LOG_STAT.DROPPED]
    omega
  rw [heq, State.slotDone_sameFields.flag h1, hfields.flag h2]

/-! ### The report of a split (R246, R250) -/

/-- R246: the report of a split but for the hold of the sites. -/
def State.splitTold (s : State) (k tag fs : Nat) : State :=
  ((((s.set Reg.CL_STAT.SPLIT 1).set Reg.CL_STAT.SPLIT_TAG tag).inc Reg.CL_CNT.SPLIT).alert Alert.CLAUSE).log Src.CL Lc.CLAUSE_SPLIT (clauseDetail k tag fs) 2

/-- The fields that the report of a split writes. -/
def splitFields : List Fld :=
  [Reg.CL_STAT.SPLIT, Reg.CL_STAT.SPLIT_TAG, Reg.CL_CNT.SPLIT, alertField Alert.CLAUSE, intrField Alert.CLAUSE, Reg.LOG_STAT.DROPPED]

theorem State.splitTold_sameFields : s.SameFields splitFields (s.splitTold k tag fs) :=
  ((((State.SameFields.set Reg.CL_STAT.SPLIT _ (by decide) (by decide) (by simp [splitFields])).snoc
    (State.SameFields.set Reg.CL_STAT.SPLIT_TAG _ (by decide) (by decide) (by simp [splitFields]))).snoc
    (State.SameFields.set Reg.CL_CNT.SPLIT _ (by decide) (by decide) (by simp [splitFields]))).snoc
    ((State.alert_sameFields (by decide)).mono (by simp [splitFields]))).snoc (State.log_sameFields.mono (by simp [splitFields]))

theorem State.splitTold_slots : s.SameSlots (s.splitTold k tag fs) :=
  ((show s.SameSlots (((s.set Reg.CL_STAT.SPLIT 1).set Reg.CL_STAT.SPLIT_TAG tag).inc Reg.CL_CNT.SPLIT) from rfl).trans State.alert_slots).trans State.log_slots

/-- R250: without SPLIT_HOLD no site is held. -/
theorem State.splitReport_told {sites : List Nat} (h : s.flag Reg.CL_CFG.SPLIT_HOLD = false) : s.splitReport k tag fs sites = s.splitTold k tag fs := by
  refine if_neg ?_
  have hflag : (s.splitTold k tag fs).flag Reg.CL_CFG.SPLIT_HOLD = false := (State.splitTold_sameFields.flag (by unfold Fld.Apart; decide)).trans h
  exact fun hon => Bool.false_ne_true (hflag.symm.trans hon)

/-- What a split says in CL_STAT and CP_ALERT. -/
theorem State.splitTold_says (htag : tag < 2 ^ 16) : (s.splitTold k tag fs).flag Reg.CL_STAT.SPLIT = true ∧
    (s.splitTold k tag fs).get Reg.CL_STAT.SPLIT_TAG = tag ∧ (s.splitTold k tag fs).alertPending Alert.CLAUSE = true := by
  have hafter {u : State} : u.SameFields [Reg.CL_CNT.SPLIT, alertField Alert.CLAUSE, intrField Alert.CLAUSE, Reg.LOG_STAT.DROPPED]
      (((u.inc Reg.CL_CNT.SPLIT).alert Alert.CLAUSE).log Src.CL Lc.CLAUSE_SPLIT (clauseDetail k tag fs) 2) :=
    ((State.SameFields.set Reg.CL_CNT.SPLIT _ (by decide) (by decide) (by simp)).snoc ((State.alert_sameFields (by decide)).mono (by simp))).snoc
      (State.log_sameFields.mono (by simp))
  refine ⟨?_, ?_, ?_⟩
  · refine (hafter.flag (by unfold Fld.Apart; decide)).trans ?_
    refine ((State.SameFields.set (fs := [Reg.CL_STAT.SPLIT_TAG]) Reg.CL_STAT.SPLIT_TAG _ (by decide) (by decide) (by simp)).flag
      (by unfold Fld.Apart; decide)).trans ?_
    exact State.flag_set_one _ (by decide) (by decide)
  · refine (hafter.get (by unfold Fld.Apart; decide)).trans ?_
    exact (State.get_set_same Reg.CL_STAT.SPLIT_TAG _ (by decide) (by decide)).trans (Nat.mod_eq_of_lt htag)
  · rw [State.alertPending_eq (by decide)]
    exact (State.log_sameFields.flag (by unfold Fld.Apart; decide)).trans (State.alert_flag (by decide))

/-! ### The decision on the clause of a slot (R246) -/

/-- R246: the first decision on a clause. -/
def State.decided (s : State) (k : Nat) (commit : Bool) : State :=
  (s.setSlot k { s.slot k with dec := some commit }).set (Reg.CL_SLOT_STAT.DEC_BEAT k) (s.now % 2 ^ 32)

section
variable {commit : Bool}

theorem State.decided_sameFields : s.SameFields [Reg.CL_SLOT_STAT.DEC_BEAT k] (s.decided k commit) :=
  State.SameFields.refl.setSlot.snoc (State.SameFields.set _ _ (Nat.le_of_ble_eq_true rfl) (Nat.le_of_ble_eq_true rfl) (by simp))

/-- DEC_BEAT stands in the upper half of its word. -/
theorem State.decided_get {f : Fld} (hl : f.lo ≤ f.hi) (h : f.hi < 64) : (s.decided k commit).get f = s.get f :=
  State.decided_sameFields.get (Fld.apart_cons.2 ⟨.inr (.inl h), Fld.apart_nil.2 hl⟩)

theorem State.decided_slot : (s.decided k commit).slot k = { s.slot k with dec := some commit } := State.slot_setSlot_same

theorem State.decided_slot_other (h : j ≠ k) : (s.decided k commit).slot j = s.slot j := State.slot_setSlot_other h

theorem State.decided_state : (s.decided k commit).slotState k = s.slotState k := State.decided_get (Nat.le_of_ble_eq_true rfl) (Nat.le_of_ble_eq_true rfl)

theorem State.decided_owner : (s.decided k commit).slotOwner k = s.slotOwner k := by
  have hseq : (s.decided k commit).get (Reg.CL_SLOT_STAT.SEQ k) = s.get (Reg.CL_SLOT_STAT.SEQ k) :=
    State.decided_get (Nat.le_of_ble_eq_true rfl) (Nat.le_of_ble_eq_true rfl)
  have hsite : (s.decided k commit).get (Reg.CL_SLOT_STAT.SITE k) = s.get (Reg.CL_SLOT_STAT.SITE k) :=
    State.decided_get (Nat.le_of_ble_eq_true rfl) (Nat.le_of_ble_eq_true rfl)
  rw [State.slotOwner, State.slotOwner, State.flag, State.flag, hseq, hsite]

theorem State.decided_beat : (s.decided k commit).get (Reg.CL_SLOT_STAT.DEC_BEAT k) = s.now % 2 ^ 32 :=
  (State.get_set_same (s := s.setSlot k _) (Reg.CL_SLOT_STAT.DEC_BEAT k) _ (Nat.le_of_ble_eq_true rfl) (Nat.le_of_ble_eq_true rfl)).trans (Nat.mod_mod _ _)

theorem State.tellOwner_host (h : s.slotOwner k = none) : s.tellOwner k result = s := by simp only [State.tellOwner, h]

theorem State.decideSlot_first (hdec : (s.slot k).dec = none) (hst : s.slotState k ≠ Slot.PREPARED) : s.decideSlot k commit = s.decided k commit := by
  simp only [State.decideSlot, hdec, if_pos hst]
  rfl

theorem State.decideSlot_commit (hdec : (s.slot k).dec = none) (hst : s.slotState k = Slot.PREPARED) (ho : s.slotOwner k = none) :
    s.decideSlot k true = s.decided k true := by
  have heq : s.decideSlot k true = (s.decided k true).tellOwner k Cl.OK := by
    simp only [State.decideSlot, hdec, hst, ne_eq, not_true_eq_false, if_false, if_true]
    rfl
  rw [heq, State.tellOwner_host (State.decided_owner.trans ho)]

/-- The watch on a clause that has ended is added. -/
def State.addWatch (s : State) (w : Watch) : State := { s with watches := s.watches ++ [w] }

theorem State.decideSlot_abort (hdec : (s.slot k).dec = none) (hst : s.slotState k = Slot.PREPARED) :
    ∃ w, s.decideSlot k false = ((s.decided k false).endClause k Cl.ABORTED).addWatch w := by
  refine ⟨(s.decided k false).watchOf k (some false) false false, ?_⟩
  simp only [State.decideSlot, hdec, hst, ne_eq, not_true_eq_false, if_false]
  rfl

theorem State.decideSlot_split (hdec : (s.slot k).dec = some (!commit)) (hsplit : (s.slot k).split = false)
    (hhold : s.flag Reg.CL_CFG.SPLIT_HOLD = false) :
    s.decideSlot k commit = (s.setSlot k { s.slot k with split := true }).splitTold k (s.slotTag k) (s.slotFs k) := by
  have hne : ¬ ((!commit) = commit ∨ (s.slot k).split = true) := by
    rw [hsplit]
    cases commit <;> decide
  simp only [State.decideSlot, hdec, if_neg hne]
  exact State.splitReport_told hhold

/-- R246: the clause that a decision with this tag and full stop meets. -/
def State.Meets (s : State) (k : Fin 16) (tag b24 : Nat) : Prop :=
  (s.slotState k = Slot.PREPARING ∨ s.slotState k = Slot.PREPARED) ∧ s.slotMulti k = true ∧ s.slotTag k = tag ∧ s.slotFs k % 2 ^ 24 = b24 % 2 ^ 24 ∧
  s.watches = [] ∧ ∀ j : Fin 16, s.slotMulti j = true → s.slotTag j = tag → s.slotFs j % 2 ^ 24 = b24 % 2 ^ 24 → j = k

theorem filter_range_only {n : Nat} {p : Nat → Bool} (hk : k < n) (hp : ∀ j < n, p j = true ↔ j = k) : (List.range n).filter p = [k] := by
  have hcongr : (List.range n).filter p = (List.range n).filter (· == k) :=
    List.filter_congr fun j hj => Bool.eq_iff_iff.2 ((hp j (List.mem_range.1 hj)).trans beq_iff_eq.symm)
  rw [hcongr, List.filter_beq, List.count_eq_one_of_mem List.nodup_range (List.mem_range.2 hk)]
  rfl

theorem State.Meets.decision {k : Fin 16} {b24 : Nat} (h : s.Meets k tag b24) : s.decision commit tag b24 = s.decideSlot k commit := by
  obtain ⟨hst, hm, ht, hf, hw, huniq⟩ := h
  have hmine : (List.range 16).filter (fun k => (s.slotState k == Slot.PREPARING || s.slotState k == Slot.PREPARED) && s.slotMulti k
      && s.slotTag k == tag && s.slotFs k % 2 ^ 24 == b24 % 2 ^ 24) = [k.val] := by
    refine filter_range_only k.isLt fun j hj => ?_
    simp only [Bool.and_eq_true, Bool.or_eq_true, beq_iff_eq]
    constructor
    · rintro ⟨⟨⟨-, hmulti⟩, htag⟩, hstop⟩
      exact congrArg Fin.val (huniq ⟨j, hj⟩ hmulti htag hstop)
    · rintro rfl
      exact ⟨⟨⟨hst, hm⟩, ht⟩, hf⟩
  simp only [State.decision, hmine, hw]
  rfl

end
end
end Sys2Proof.Machine
end

section
/-! The COMMIT and ABORT frames and the deadline of a decision (O26). -/

namespace Sys2Proof.Machine

section
variable {s : State} {f x : BitVec 64} {off : Fin 64} {k : Fin 16} {commit : Bool} {tag b24 j : Nat}

/-! ### The count of a frame leaves the clauses alone -/

theorem State.counted_get_clause {g : Fld} (hl : g.lo ≤ g.hi) (ha : 0x006000 ≤ g.addr) : (s.counted f x).get g = s.get g := by
  refine State.counted_sameFields.get ?_
  simp only [countFields, Fld.apart_cons, Fld.apart_nil, Reg.TB_STAT.HOP, Reg.TB_STAT.SYNC_INV, Reg.TB_SYNC_ERR.FRAMES_OK, Reg.LOG_STAT.DROPPED]
  omega

theorem State.counted_slots : s.SameSlots (s.counted f x) := by
  unfold State.SameSlots
  rw [State.counted_frame]

theorem State.counted_watches : (s.counted f x).watches = s.watches := by rw [State.counted_frame]

theorem State.counted_mem : (s.counted f x).mem = s.mem := by rw [State.counted_frame]

theorem State.counted_slotState (j : Nat) : (s.counted f x).slotState j = s.slotState j :=
  State.counted_get_clause (Nat.le_of_ble_eq_true rfl) (by simp only [Reg.CL_SLOT_STAT.STATE]; omega)

theorem State.counted_slotMulti (j : Nat) : (s.counted f x).slotMulti j = s.slotMulti j := by
  rw [State.slotMulti, State.flag, State.counted_get_clause le_rfl (by simp only [Reg.CL_SET.MULTI]; omega)]
  rfl

theorem State.counted_slotTag (j : Nat) : (s.counted f x).slotTag j = s.slotTag j :=
  State.counted_get_clause (Nat.le_of_ble_eq_true rfl) (by simp only [Reg.CL_SET.TAG]; omega)

theorem State.counted_slotFs (j : Nat) : (s.counted f x).slotFs j = s.slotFs j :=
  State.counted_get_clause (Nat.le_of_ble_eq_true rfl) (by simp only [Reg.CL_SET.FULL_STOP]; omega)

theorem State.counted_slotOwner (j : Nat) : (s.counted f x).slotOwner j = s.slotOwner j := by
  have hseq : (s.counted f x).get (Reg.CL_SLOT_STAT.SEQ j) = s.get (Reg.CL_SLOT_STAT.SEQ j) :=
    State.counted_get_clause le_rfl (by simp only [Reg.CL_SLOT_STAT.SEQ]; omega)
  have hsite : (s.counted f x).get (Reg.CL_SLOT_STAT.SITE j) = s.get (Reg.CL_SLOT_STAT.SITE j) :=
    State.counted_get_clause (Nat.le_of_ble_eq_true rfl) (by simp only [Reg.CL_SLOT_STAT.SITE]; omega)
  rw [State.slotOwner, State.slotOwner, State.flag, State.flag, hseq, hsite]

theorem State.counted_locked : (s.counted f x).locked = s.locked := by rw [State.locked, State.locked, State.counted_lock]

theorem State.counted_splitHold : (s.counted f x).flag Reg.CL_CFG.SPLIT_HOLD = s.flag Reg.CL_CFG.SPLIT_HOLD := by
  rw [State.flag, State.flag, State.counted_get_clause (by decide) (by decide)]

theorem State.Meets.counted (h : s.Meets k tag b24) : (s.counted f x).Meets k tag b24 := by
  obtain ⟨hst, hm, ht, hf, hw, huniq⟩ := h
  refine ⟨?_, ?_, ?_, ?_, State.counted_watches.trans hw, fun j => ?_⟩
  · rwa [State.counted_slotState]
  · rwa [State.counted_slotMulti]
  · rwa [State.counted_slotTag]
  · rwa [State.counted_slotFs]
  · rw [State.counted_slotMulti, State.counted_slotTag, State.counted_slotFs]
    exact huniq j

/-! ### The two frames -/

/-- The kind of the frame that carries a decision. -/
def decisionKind (commit : Bool) : Nat := if commit = true then Fk.COMMIT else Fk.ABORT

/-- The command of the frame that carries a decision. -/
def decisionFrame (commit : Bool) (f : BitVec 64) (off : Fin 64) : Instr := if commit = true then .commitFrame f off else .abortFrame f off

theorem exec_decisionFrame : exec (decisionFrame commit f off) s = .next (s.rxFrame f off [decisionKind commit] fun x t => t.onDecision commit x) := by
  cases commit <;> rfl

theorem State.onDecision_locked (h : s.get Reg.TB_STAT.LOCK = 2) : s.onDecision commit x = (s.decision commit (frTag x) (frBeat x)).follow :=
  if_pos (beq_iff_eq.2 h)

theorem State.onDecision_unlocked (h : s.get Reg.TB_STAT.LOCK ≠ 2) : s.onDecision commit x = s :=
  if_neg fun hl => h (beq_iff_eq.1 hl)

/-- R244: a decision received while LOCKED reaches the one clause that it names. -/
theorem decisionFrame_decides (h : s.Receives f off (decisionKind commit) x) (hlock : s.get Reg.TB_STAT.LOCK = 2) (hm : s.Meets k (frTag x) (frBeat x)) :
    exec (decisionFrame commit f off) s = .next ((s.counted f x).decideSlot k commit).follow := by
  rw [exec_decisionFrame, State.rxFrame_counted h (List.mem_singleton_self _), State.onDecision_locked (State.counted_lock.trans hlock), hm.counted.decision]

theorem decisionFrame_unlocked (h : s.Receives f off (decisionKind commit) x) (hlock : s.get Reg.TB_STAT.LOCK ≠ 2) :
    exec (decisionFrame commit f off) s = .next (s.counted f x) := by
  rw [exec_decisionFrame, State.rxFrame_counted h (List.mem_singleton_self _), State.onDecision_unlocked (by rw [State.counted_lock]; exact hlock)]

/-- What a decision that comes while not LOCKED leaves. -/
theorem counted_keepsClauses : (s.counted f x).slots = s.slots ∧ (s.counted f x).watches = s.watches ∧ (s.counted f x).mem = s.mem ∧
    s.SameWords [Reg.TB_STAT.word, Reg.TB_SYNC_ERR.word, Reg.LOG_STAT.word] (s.counted f x) :=
  ⟨State.counted_slots, State.counted_watches, State.counted_mem, State.counted_sameFields.sameWords (by decide)⟩

theorem commit_prepared (hst : s.slotState k = Slot.PREPARED) (hdec : (s.slot k).dec = none) (ho : s.slotOwner k = none) {u : State}
    (hu : u = (s.counted f x).decideSlot k true) : u.slotState k = Slot.PREPARED ∧ u.slot k = { s.slot k with dec := some true } ∧
      u.get (Reg.CL_SLOT_STAT.DEC_BEAT k) = s.now % 2 ^ 32 ∧ ∀ j, j ≠ k.val → u.slot j = s.slot j := by
  rw [State.decideSlot_commit (by rw [State.counted_slots.slot]; exact hdec) ((State.counted_slotState _).trans hst) ((State.counted_slotOwner _).trans ho)] at hu
  subst hu
  refine ⟨State.decided_state.trans ((State.counted_slotState _).trans hst), ?_, ?_, fun j hj => ?_⟩
  · rw [State.decided_slot, State.counted_slots.slot]
  · rw [State.decided_beat, State.counted_now]
  · rw [State.decided_slot_other hj, State.counted_slots.slot]

theorem State.addWatch_slots {w : Watch} : s.SameSlots (s.addWatch w) := rfl

theorem abort_prepared (hst : s.slotState k = Slot.PREPARED) (hdec : (s.slot k).dec = none) (ho : s.slotOwner k = none) {u : State}
    (hu : u = (s.counted f x).decideSlot k false) : u.slotState k = Slot.DONE ∧ u.get (Reg.CL_SLOT_STAT.RESULT k) = Cl.ABORTED ∧
      ∀ j, j ≠ k.val → u.slot j = s.slot j := by
  obtain ⟨w, heq⟩ := State.decideSlot_abort (s := s.counted f x) (k := k) (by rw [State.counted_slots.slot]; exact hdec) ((State.counted_slotState _).trans hst)
  obtain ⟨hdone, hresult, hother⟩ := State.endClause_done (s := (s.counted f x).decided k false) (k := k) (result := Cl.ABORTED)
    (State.decided_owner.trans ((State.counted_slotOwner _).trans ho)) (by decide)
  rw [heq] at hu
  subst hu
  refine ⟨hdone, hresult, fun j hj => ?_⟩
  rw [State.addWatch_slots.slot, hother j hj, State.decided_slot_other hj, State.counted_slots.slot]

theorem decide_preparing (hst : s.slotState k = Slot.PREPARING) (hdec : (s.slot k).dec = none) {u : State} (hu : u = (s.counted f x).decideSlot k commit) :
    u.slot k = { s.slot k with dec := some commit } ∧ u.slotState k = Slot.PREPARING := by
  have hstate : (s.counted f x).slotState k = Slot.PREPARING := (State.counted_slotState _).trans hst
  rw [State.decideSlot_first (by rw [State.counted_slots.slot]; exact hdec) (by rw [hstate]; decide)] at hu
  subst hu
  refine ⟨?_, State.decided_state.trans hstate⟩
  rw [State.decided_slot, State.counted_slots.slot]

/-- R246: a decision that contradicts the one taken splits the clause. -/
theorem decide_split (hdec : (s.slot k).dec = some (!commit)) (hsplit : (s.slot k).split = false) (hhold : s.flag Reg.CL_CFG.SPLIT_HOLD = false)
    (htag : s.slotTag k = frTag x) {u : State} (hu : u = (s.counted f x).decideSlot k commit) : (u.slot k).split = true ∧
      u.flag Reg.CL_STAT.SPLIT = true ∧ u.get Reg.CL_STAT.SPLIT_TAG = frTag x ∧ u.alertPending Alert.CLAUSE = true := by
  rw [State.decideSlot_split (by rw [State.counted_slots.slot]; exact hdec) (by rw [State.counted_slots.slot]; exact hsplit)
    (State.counted_splitHold.trans hhold), State.counted_slotTag, htag] at hu
  subst hu
  refine ⟨?_, State.splitTold_says (fr_lt x 47 32)⟩
  rw [State.splitTold_slots.slot, State.slot_setSlot_same]

/-! ### The deadline -/

theorem exec_decisionDeadline : exec (.decisionDeadline k) s = .next (s.deadline k).follow := rfl

theorem deadline_due (hst : s.slotState k = Slot.PREPARED) (hm : s.slotMulti k = true) (hdec : (s.slot k).dec = none) (hdue : s.slotFs k ≤ s.now + 64)
    (ho : s.slotOwner k = none) (hhold : s.flag Reg.CL_CFG.SPLIT_HOLD = false) :
    s.deadline k = (s.endClause k Cl.SPLIT).splitTold k (s.slotTag k) (s.slotFs k) := by
  have hnone : (s.slot k).dec.isNone = true := by rw [hdec]; rfl
  exact (if_pos ⟨hst, hm, hnone, hdue⟩).trans (State.splitReport_told ((State.endClause_flag ho (by decide) rfl).trans hhold))

theorem deadline_passed (h : s.slotState k ≠ Slot.PREPARED ∨ s.slotMulti k = false ∨ (s.slot k).dec ≠ none ∨ s.now + 64 < s.slotFs k) : s.deadline k = s := by
  refine if_neg ?_
  rintro ⟨hst, hm, hdec, hdue⟩
  rcases h with h | h | h | h
  · exact h hst
  · exact Bool.false_ne_true (h.symm.trans hm)
  · exact h (Option.isNone_iff_eq_none.1 hdec)
  · omega

/-- R246: the clause that its deadline ends. -/
theorem deadline_splits (ho : s.slotOwner k = none) {u : State} (hu : u = (s.endClause k Cl.SPLIT).splitTold k (s.slotTag k) (s.slotFs k)) :
    u.slotState k = Slot.DONE ∧ u.get (Reg.CL_SLOT_STAT.RESULT k) = Cl.SPLIT ∧ u.flag Reg.CL_STAT.SPLIT = true ∧ u.alertPending Alert.CLAUSE = true ∧
      ∀ j, j ≠ k.val → u.slot j = s.slot j := by
  subst hu
  obtain ⟨hdone, hresult, hother⟩ := State.endClause_done (result := Cl.SPLIT) ho (by decide)
  have htag : s.slotTag k < 2 ^ 16 := State.get_lt (Reg.CL_SET.TAG k)
  obtain ⟨hsplit, -, halert⟩ := State.splitTold_says (s := s.endClause k Cl.SPLIT) (k := k) (fs := s.slotFs k) htag
  have happart : ∀ hi lo, lo ≤ hi → Fld.Apart ⟨Reg.CL_SLOT_STAT.word k, hi, lo⟩ splitFields := fun hi lo hl => by
    simp only [splitFields, Fld.apart_cons, Fld.apart_nil, Reg.CL_SLOT_STAT.word, Reg.CL_STAT.SPLIT, Reg.CL_STAT.SPLIT_TAG, Reg.CL_CNT.SPLIT, alertField,
      intrField, Reg.LOG_STAT.DROPPED]
    omega
  refine ⟨(State.splitTold_sameFields.get (happart 2 0 (by decide))).trans hdone, (State.splitTold_sameFields.get (happart 31 24 (by decide))).trans hresult,
    hsplit, halert, fun j hj => ?_⟩
  rw [State.splitTold_slots.slot, hother j hj]

end

/-- Settles O26: a decision received while LOCKED reaches the one clause that it names, and the deadline ends a clause without one. -/
theorem decisionsOfTheGroup : Obligations.DecisionsOfTheGroup := by
  unfold Obligations.DecisionsOfTheGroup
  refine ⟨fun s f x off k h hlock hw huniq hst hm ht hf hdec ho => ?commit, fun s f x off k h hlock hw huniq hst hm ht hf hdec ho => ?abort,
    fun s f x off k c hc h hlock hw huniq hm ht hf => ?either, fun s f x off c hc h hlock => ?unlocked,
    fun s k hst hm hdec hdue ho hhold => ?deadline, fun s k h => ?passed⟩
  case commit => exact ⟨_, decisionFrame_decides (commit := true) h hlock ⟨.inr hst, hm, ht, hf, hw, huniq⟩, commit_prepared hst hdec ho rfl⟩
  case abort => exact ⟨_, decisionFrame_decides (commit := false) h hlock ⟨.inr hst, hm, ht, hf, hw, huniq⟩, abort_prepared hst hdec ho rfl⟩
  case either =>
    have hrow : c.1 = decisionFrame c.2 f off := by
      simp only [List.mem_cons, List.not_mem_nil, or_false] at hc
      rcases hc with rfl | rfl <;> rfl
    rw [hrow]
    refine ⟨fun hst hdec => ?_, fun hst hdec hsplit hhold => ?_⟩
    · exact ⟨_, decisionFrame_decides h hlock ⟨.inl hst, hm, ht, hf, hw, huniq⟩, decide_preparing hst hdec rfl⟩
    · exact ⟨_, decisionFrame_decides h hlock ⟨hst, hm, ht, hf, hw, huniq⟩, decide_split hdec hsplit hhold ht rfl⟩
  case unlocked =>
    have hrow : ∃ commit, c.1 = decisionFrame commit f off ∧ c.2 = decisionKind commit := by
      simp only [List.mem_cons, List.not_mem_nil, or_false] at hc
      rcases hc with rfl | rfl
      · exact ⟨true, rfl, rfl⟩
      · exact ⟨false, rfl, rfl⟩
    obtain ⟨commit, hrow, hkind⟩ := hrow
    rw [hkind] at h
    rw [hrow]
    exact ⟨_, decisionFrame_unlocked h hlock, counted_keepsClauses⟩
  case deadline =>
    exact ⟨_, by rw [exec_decisionDeadline, deadline_due hst hm hdec hdue ho hhold], deadline_splits ho rfl⟩
  case passed => rw [exec_decisionDeadline, deadline_passed h]

end Sys2Proof.Machine
end

section
/-! SUPPORT. Snapshots: the shadows of the HR fields, LG_SNAPSTAT, and the records of the sites (R393 to R398). -/

namespace Sys2Proof.Machine

/-! ### The shadows (R393) -/

section
variable {α : Type} {d : Nat → α}

theorem sget_of_not_mem (m : List (Nat × α)) {k : Nat} (h : k ∉ m.map Prod.fst) : sget d m k = d k := by
  induction m with
  | nil => rfl
  | cons x m ih =>
    simp only [List.map_cons, List.mem_cons, not_or] at h
    exact (if_neg h.1).trans (ih h.2)

/-- Storing a value for each of some keys gives those keys their values and leaves the others. -/
theorem sget_store [DecidableEq α] (g : Nat → α) (keys : List Nat) (m : List (Nat × α)) (a : Nat) :
    sget d (keys.foldl (fun m b => sset d m b (g b)) m) a = if a ∈ keys then g a else sget d m a := by
  induction keys generalizing m with
  | nil => rfl
  | cons b keys ih =>
    rw [List.foldl_cons, ih]
    by_cases hk : a ∈ keys
    · rw [if_pos hk, if_pos (List.mem_cons_of_mem _ hk)]
    · rw [if_neg hk]
      by_cases hb : a = b
      · subst hb
        rw [sget_sset_same, if_pos List.mem_cons_self]
      · rw [sget_sset_other _ _ _ _ _ hb, if_neg (by simp [hb, hk])]

end

theorem masked_merge (x y m : Word) : ((x &&& ~~~m) ||| (y &&& m)) &&& m = y &&& m := by
  ext i hi
  simp only [BitVec.getElem_and, BitVec.getElem_or, BitVec.getElem_not]
  cases m[i] <;> simp

section
variable {s t u : State} {n tag tag2 : Nat} {p q : PendSnap} {due : List PendSnap}

/-- R393: the words that a latch stores. -/
def State.latchKeys (s : State) : List Nat := (s.regs.map Prod.fst ++ s.held.map Prod.fst).eraseDups.filter fun a => accMask .hr a != 0

theorem State.latchShadows_heldReg (a : Nat) : s.latchShadows.heldReg a =
    if a ∈ s.latchKeys then (resetWord a &&& ~~~(accMask .hr a)) ||| (s.reg a &&& accMask .hr a) else s.heldReg a := sget_store _ _ _ _

/-- R393: after a latch the shadow of each HR field is its live value. -/
theorem State.latchShadows_hr (a : Nat) : s.latchShadows.heldReg a &&& accMask .hr a = s.reg a &&& accMask .hr a := by
  rw [State.latchShadows_heldReg]
  by_cases h : a ∈ s.latchKeys
  · rw [if_pos h, masked_merge]
  · rw [if_neg h]
    by_cases hm : accMask .hr a = 0
    · simp [hm]
    · have hnot : ¬ (a ∈ s.regs.map Prod.fst ∨ a ∈ s.held.map Prod.fst) := fun hmem =>
        h (List.mem_filter.2 ⟨List.mem_eraseDups.2 (List.mem_append.2 hmem), bne_iff_ne.2 hm⟩)
      rw [not_or] at hnot
      rw [State.heldReg, State.reg, sget_of_not_mem _ hnot.1, sget_of_not_mem _ hnot.2]

/-! ### LG_SNAPSTAT (R393, R397) -/

/-- R393: LG_SNAPSTAT and the interrupt tell a latch. -/
def State.snapTold (s : State) (tag tag2 : Nat) : State :=
  ((((s.set Reg.LG_SNAPSTAT.BEAT s.now).set Reg.LG_SNAPSTAT.TAG tag).set Reg.LG_SNAPSTAT.TAG2 tag2).inc Reg.LG_SNAPSTAT.SEQ).intr Intr.SNAP_TAKEN

/-- R397: the shadows are locked if LG_SNAPCFG asks for it. -/
def State.snapLock (s : State) : State := if s.flag Reg.LG_SNAPCFG.LOCK then s.set Reg.LG_SNAPSTAT.LOCKED 1 else s

/-- The fields that a latch tells itself in. -/
def snapFields : List Fld :=
  [Reg.LG_SNAPSTAT.BEAT, Reg.LG_SNAPSTAT.TAG, Reg.LG_SNAPSTAT.TAG2, Reg.LG_SNAPSTAT.SEQ, intrField Intr.SNAP_TAKEN]

theorem State.snapTold_sameFields : s.SameFields snapFields (s.snapTold tag tag2) :=
  ((((State.SameFields.set Reg.LG_SNAPSTAT.BEAT _ (by decide) (by decide) (by simp [snapFields])).snoc
    (State.SameFields.set Reg.LG_SNAPSTAT.TAG _ (by decide) (by decide) (by simp [snapFields]))).snoc
    (State.SameFields.set Reg.LG_SNAPSTAT.TAG2 _ (by decide) (by decide) (by simp [snapFields]))).snoc
    (State.SameFields.set Reg.LG_SNAPSTAT.SEQ _ (by decide) (by decide) (by simp [snapFields]))).snoc
    ((State.intr_sameFields (by decide)).mono (by simp [snapFields]))

/-- What LG_SNAPSTAT reads after a latch. -/
theorem State.snapTold_reads (htag : tag < 2 ^ 16) (htag2 : tag2 < 2 ^ 16) : (s.snapTold tag tag2).get Reg.LG_SNAPSTAT.BEAT = s.now ∧
    (s.snapTold tag tag2).get Reg.LG_SNAPSTAT.TAG = tag ∧ (s.snapTold tag tag2).get Reg.LG_SNAPSTAT.TAG2 = tag2 ∧
    (s.snapTold tag tag2).get Reg.LG_SNAPSTAT.SEQ = (s.get Reg.LG_SNAPSTAT.SEQ + 1) % 2 ^ 16 ∧
    (s.snapTold tag tag2).flag (intrField Intr.SNAP_TAKEN) = true := by
  have hset (f g : Fld) (hf : f ∈ snapFields) (hg : g.Apart [f]) (v : State) (k : Nat) : (v.set f k).get g = v.get g := by
    have hshape : ∀ f ∈ snapFields, f.hi < 128 ∧ f.lo ≤ f.hi := by decide
    exact (State.SameFields.set f k (hshape f hf).1 (hshape f hf).2 (by simp)).get hg
  have hintr {v : State} {g : Fld} (hg : g.Apart [intrField Intr.SNAP_TAKEN]) : (v.intr Intr.SNAP_TAKEN).get g = v.get g :=
    (State.intr_sameFields (by decide)).get hg
  refine ⟨?_, ?_, ?_, ?_, State.intr_flag (by decide)⟩
  · rw [State.snapTold, hintr (by unfold Fld.Apart; decide), State.inc, State.add, hset _ _ (by simp [snapFields]) (by unfold Fld.Apart; decide),
      hset _ _ (by simp [snapFields]) (by unfold Fld.Apart; decide), hset _ _ (by simp [snapFields]) (by unfold Fld.Apart; decide),
      State.get_set_same _ _ (by decide) (by decide)]
    exact Nat.mod_eq_of_lt s.beat.isLt
  · rw [State.snapTold, hintr (by unfold Fld.Apart; decide), State.inc, State.add, hset _ _ (by simp [snapFields]) (by unfold Fld.Apart; decide),
      hset _ _ (by simp [snapFields]) (by unfold Fld.Apart; decide), State.get_set_same _ _ (by decide) (by decide)]
    exact Nat.mod_eq_of_lt htag
  · rw [State.snapTold, hintr (by unfold Fld.Apart; decide), State.inc, State.add, hset _ _ (by simp [snapFields]) (by unfold Fld.Apart; decide),
      State.get_set_same _ _ (by decide) (by decide)]
    exact Nat.mod_eq_of_lt htag2
  · rw [State.snapTold, hintr (by unfold Fld.Apart; decide), State.inc, State.add, State.get_set_same _ _ (by decide) (by decide),
      hset _ _ (by simp [snapFields]) (by unfold Fld.Apart; decide), hset _ _ (by simp [snapFields]) (by unfold Fld.Apart; decide),
      hset _ _ (by simp [snapFields]) (by unfold Fld.Apart; decide)]
    rfl

theorem State.snapTold_frame : s.MsixFrame (s.snapTold tag tag2) := ((((State.MsixFrame.refl.set _ _).set _ _).set _ _).set _ _).intr _

theorem State.snapLock_sameFields : s.SameFields [Reg.LG_SNAPSTAT.LOCKED] s.snapLock :=
  ite_kept (fun _ => State.SameFields.set _ _ (by decide) (by decide) (by simp)) fun _ => State.SameFields.refl

theorem State.snapLock_frame : s.snapLock = { s with regs := s.snapLock.regs } := by
  unfold State.snapLock
  split <;> rfl

theorem State.snapLock_locked (h : s.flag Reg.LG_SNAPSTAT.LOCKED = false) : s.snapLock.flag Reg.LG_SNAPSTAT.LOCKED = s.flag Reg.LG_SNAPCFG.LOCK := by
  unfold State.snapLock
  split
  next hl => rw [hl]; exact State.flag_set_one _ (by decide) (by decide)
  next hl => rw [h]; exact (Bool.eq_false_iff.2 hl).symm

/-! ### The records of the sites (R398) -/

/-- From `s` to `t` records have been fixed, and nothing else has changed. -/
structure State.RecordsOnto (s t : State) : Prop where
  frame : t = { s with pendRecs := t.pendRecs }
  stay : ∀ r ∈ s.pendRecs, r ∈ t.pendRecs

theorem State.RecordsOnto.refl : s.RecordsOnto s := ⟨rfl, fun _ h => h⟩

theorem mem_insertRec_of_mem {r x : PendRec} {l : List PendRec} (h : r ∈ l) : r ∈ insertRec x l := by
  induction l with
  | nil => cases h
  | cons y l ih =>
    unfold insertRec
    split
    · exact List.mem_cons_of_mem _ h
    · rcases List.mem_cons.1 h with rfl | h
      · exact List.mem_cons_self
      · exact List.mem_cons_of_mem _ (ih h)

theorem State.RecordsOnto.record (h : s.RecordsOnto t) (n kind flags sub value : Nat) : s.RecordsOnto (t.recordRaw n kind flags sub value) := by
  refine ⟨?_, fun r hr => mem_insertRec_of_mem (h.stay r hr)⟩
  rw [State.recordRaw_eq, h.frame]

/-- R398: the SNAPSHOT record of a site. -/
def State.siteSnap (s : State) (tag n : Nat) : State :=
  if s.siteState n = Site.EMPTY then s else s.recordRaw n Kind.SNAPSHOT Flag.DEVICE 0 (tag % 2 ^ 16 * 2 ^ 32 + s.now / 2 ^ 32 % 2 ^ 32)

theorem State.snapRecords_eq : s.snapRecords tag = s.forL (List.range 64) fun n t => t.siteSnap tag n := rfl

theorem State.RecordsOnto.siteSnap (h : s.RecordsOnto t) (n : Nat) : s.RecordsOnto (t.siteSnap tag n) :=
  ite_kept (fun _ => h) fun _ => h.record _ _ _ _ _

theorem State.RecordsOnto.snapRecords (h : s.RecordsOnto t) : s.RecordsOnto (t.snapRecords tag) := by
  rw [State.snapRecords_eq]
  exact State.forL_kept_mem (fun _ _ _ ht => ht.siteSnap _) h

theorem State.RecordsOnto.get (h : s.RecordsOnto t) (f : Fld) : t.get f = s.get f := by rw [h.frame]; rfl

theorem State.RecordsOnto.now (h : s.RecordsOnto t) : t.now = s.now := by rw [h.frame]; rfl

theorem State.RecordsOnto.stmtOf (h : s.RecordsOnto t) : t.stmtOf n = s.stmtOf n := by
  rw [State.stmtOf, State.stmtOf, State.siteState, State.siteState, h.get, h.get]

theorem State.RecordsOnto.siteFlags (h : s.RecordsOnto t) : t.siteFlags n = s.siteFlags n := by
  rw [State.siteFlags, State.siteFlags, State.siteState, State.siteState, h.get]

theorem State.siteSnap_records (h : s.RecordsOnto t) (hst : s.siteState n ≠ Site.EMPTY) (htag : tag < 2 ^ 16) :
    s.Records (t.siteSnap tag n) n Kind.SNAPSHOT (Flag.DEVICE ||| s.siteFlags n) 0 (tag * 2 ^ 32 + s.now / 2 ^ 32 % 2 ^ 32) := by
  have hstate : t.siteState n ≠ Site.EMPTY := by rwa [State.siteState, h.get]
  rw [State.siteSnap, if_neg hstate, State.recordRaw_eq, State.Records, h.stmtOf, h.siteFlags, h.now, Nat.mod_eq_of_lt htag]
  exact mem_insertRec _ _

/-- A record that the turn of site `n` fixes stands in the end. -/
theorem State.snapRecords_of {kind flags sub value : Nat} (hn : n < 64) (h : ∀ t, s.RecordsOnto t → s.Records (t.siteSnap tag n) n kind flags sub value) :
    s.Records (s.snapRecords tag) n kind flags sub value := by
  rw [State.snapRecords_eq]
  exact State.forL_reaches (Q := fun t => s.Records t n kind flags sub value) (List.mem_range.2 hn) (fun b _ _ t ht => ht.siteSnap b) h
    (fun b _ t ht => (State.RecordsOnto.refl.siteSnap b).stay _ ht) State.RecordsOnto.refl

/-- R398: each site that is not EMPTY has its SNAPSHOT record. -/
theorem State.snapRecords_records (hn : n < 64) (hst : s.siteState n ≠ Site.EMPTY) (htag : tag < 2 ^ 16) :
    s.Records (s.snapRecords tag) n Kind.SNAPSHOT (Flag.DEVICE ||| s.siteFlags n) 0 (tag * 2 ^ 32 + s.now / 2 ^ 32 % 2 ^ 32) :=
  State.snapRecords_of hn fun _ ht => State.siteSnap_records ht hst htag

/-! ### The snapshots that are due (R393, R396, R397) -/

/-- The snapshots due in the present beat are taken from those that are pending. -/
def State.dropDue (s : State) : State := { s with snaps := s.snaps.filter (fun p => !decide (p.beat ≤ s.now)) }

/-- R396: the snapshots due in the present beat, by their tags. -/
def State.dueSnaps (s : State) : List PendSnap := (s.snaps.filter (fun p => decide (p.beat ≤ s.now))).mergeSort fun a b => a.tag ≤ b.tag

/-- R396: the tag of the last of the other snapshots in the beat. -/
def lastTag : List PendSnap → Nat
  | [] => 0
  | ps => (ps.getLast?.map PendSnap.tag).getD 0

/-- R393: the latch itself, and what tells it. -/
def State.latched (s : State) (tag tag2 : Nat) : State := s.dropDue.latchShadows.snapTold tag tag2

/-- R398: the records that the snapshots of the beat ask for. -/
def State.snapsRecorded (s : State) (due : List PendSnap) : State := s.forL (due.filter fun d => d.record) fun d t => t.snapRecords d.tag

/-- R397: one snapshot is skipped. -/
def State.snapSkipped (s : State) (d : PendSnap) : State :=
  ((s.set Reg.LG_SNAPSTAT.MISSED 1).set Reg.LG_SNAPSTAT.SKIPPED 1).log Src.LG Lc.SNAPSHOT_SKIPPED (detail 0 d.tag) 4

theorem State.snapshot_none (h : s.dueSnaps = []) : s.snapshot = s := by
  unfold State.dueSnaps at h
  unfold State.snapshot
  simp only [h]

theorem State.snapshot_skips {ps : List PendSnap} (h : s.dueSnaps = p :: ps) (hl : s.flag Reg.LG_SNAPSTAT.LOCKED = true) :
    s.snapshot = s.dropDue.forL (p :: ps) fun d t => t.snapSkipped d := by
  unfold State.dueSnaps at h
  unfold State.snapshot
  simp only [h, hl, if_true]
  rfl

theorem State.snapshot_latches {ps : List PendSnap} (h : s.dueSnaps = p :: ps) (hl : s.flag Reg.LG_SNAPSTAT.LOCKED = false) :
    s.snapshot = ((s.latched p.tag (lastTag ps)).snapsRecorded (p :: ps)).snapLock := by
  unfold State.dueSnaps at h
  unfold State.snapshot
  simp only [h, hl, Bool.false_eq_true, if_false]
  cases ps <;> rfl

theorem State.snapsRecorded_onto : s.RecordsOnto (s.snapsRecorded due) := State.forL_kept_mem (fun _ _ _ h => h.snapRecords) State.RecordsOnto.refl

theorem State.latched_frame : s.latched tag tag2 = { s with
    regs := (s.latched tag tag2).regs
    held := s.latchShadows.held
    snaps := s.snaps.filter (fun p => !decide (p.beat ≤ s.now))
    msix := (s.latched tag tag2).msix } := by
  unfold State.latched
  rw [State.snapTold_frame]
  rfl

theorem State.latched_sameFields : s.SameFields snapFields (s.latched tag tag2) := by
  have hlatch : s.SameFields snapFields s.dropDue.latchShadows := State.SameFields.of_regs rfl
  exact hlatch.snoc State.snapTold_sameFields

end
end Sys2Proof.Machine
end

section
/-! Requests for a snapshot, SNAPSHOT frames, and the snapshot at its beat (O39). -/

namespace Sys2Proof.Machine

/-! ### The snapshot at its beat (R393, R396 to R398) -/

section
variable {s u : State} {n tag tag2 : Nat} {p q : PendSnap} {due : List PendSnap}

theorem State.dueSnaps_one (h : u.snaps.filter (fun q => decide (q.beat ≤ u.now)) = [p]) : u.dueSnaps = [p] := by
  rw [State.dueSnaps, h]
  exact List.mergeSort_singleton _

/-- R396: two snapshots of one beat go by their tags. -/
theorem State.dueSnaps_two (h : u.snaps.filter (fun q => decide (q.beat ≤ u.now)) = [p, q]) : u.dueSnaps = if p.tag ≤ q.tag then [p, q] else [q, p] := by
  rw [State.dueSnaps, h]
  by_cases hle : p.tag ≤ q.tag <;> simp [List.mergeSort, List.MergeSort.Internal.splitInTwo, hle]

theorem State.dueSnaps_none (h : ∀ p ∈ u.snaps, u.now < p.beat) : u.dueSnaps = [] := by
  have hnone : u.snaps.filter (fun q => decide (q.beat ≤ u.now)) = [] :=
    List.filter_eq_nil_iff.2 fun q hq => by simpa using h q hq
  rw [State.dueSnaps, hnone, List.mergeSort_nil]

/-- The state after the latch, its records and its lock. -/
def State.snapTaken (u : State) (due : List PendSnap) (tag tag2 : Nat) : State := ((u.latched tag tag2).snapsRecorded due).snapLock

theorem State.snapTaken_frame : u.snapTaken due tag tag2 = { u with
    regs := (u.snapTaken due tag tag2).regs
    held := u.latchShadows.held
    snaps := u.snaps.filter (fun q => !decide (q.beat ≤ u.now))
    pendRecs := ((u.latched tag tag2).snapsRecorded due).pendRecs
    msix := (u.latched tag tag2).msix } := by
  unfold State.snapTaken
  rw [State.snapLock_frame, State.snapsRecorded_onto.frame, State.latched_frame]

theorem State.snapTaken_hr (a : Nat) : (u.snapTaken due tag tag2).heldReg a &&& accMask .hr a = u.reg a &&& accMask .hr a := by
  have hheld : (u.snapTaken due tag tag2).heldReg a = u.latchShadows.heldReg a := by
    rw [State.heldReg, State.snapTaken_frame]
    rfl
  rw [hheld, State.latchShadows_hr]

theorem State.snapTaken_fields : (u.latched tag tag2).SameFields [Reg.LG_SNAPSTAT.LOCKED] (u.snapTaken due tag tag2) := by
  have hrec : (u.latched tag tag2).SameFields [Reg.LG_SNAPSTAT.LOCKED] ((u.latched tag tag2).snapsRecorded due) :=
    fun f _ _ => State.snapsRecorded_onto.get f
  exact hrec.snoc State.snapLock_sameFields

/-- R393, R396: what the host reads after a snapshot. -/
theorem State.snapTaken_reads (htag : tag < 2 ^ 16) (htag2 : tag2 < 2 ^ 16) : (u.snapTaken due tag tag2).get Reg.LG_SNAPSTAT.BEAT = u.now ∧
    (u.snapTaken due tag tag2).get Reg.LG_SNAPSTAT.TAG = tag ∧ (u.snapTaken due tag tag2).get Reg.LG_SNAPSTAT.TAG2 = tag2 ∧
    (u.snapTaken due tag tag2).get Reg.LG_SNAPSTAT.SEQ = (u.get Reg.LG_SNAPSTAT.SEQ + 1) % 2 ^ 16 ∧
    (u.snapTaken due tag tag2).flag (intrField Intr.SNAP_TAKEN) = true := by
  obtain ⟨hbeat, htag, htag2, hseq, hintr⟩ := State.snapTold_reads (s := u.dropDue.latchShadows) htag htag2
  refine ⟨(State.snapTaken_fields.get ?_).trans hbeat, (State.snapTaken_fields.get ?_).trans htag, (State.snapTaken_fields.get ?_).trans htag2,
    (State.snapTaken_fields.get ?_).trans hseq, (State.snapTaken_fields.flag ?_).trans hintr⟩
  all_goals
    unfold Fld.Apart
    decide

theorem State.snapTaken_locked (h : u.flag Reg.LG_SNAPSTAT.LOCKED = false) :
    (u.snapTaken due tag tag2).flag Reg.LG_SNAPSTAT.LOCKED = u.flag Reg.LG_SNAPCFG.LOCK := by
  have hflag {f : Fld} (hf : f.Apart snapFields) : ((u.latched tag tag2).snapsRecorded due).flag f = u.flag f := by
    rw [State.flag, State.snapsRecorded_onto.get, State.latched_sameFields.get hf]
    rfl
  rw [State.snapTaken, State.snapLock_locked ((hflag (by unfold Fld.Apart; decide)).trans h), hflag (by unfold Fld.Apart; decide)]

theorem State.snapTaken_words : u.SameWords [Reg.LG_SNAPSTAT.word, Reg.HL_INT.word] (u.snapTaken due tag tag2) := by
  have hlatched : u.SameWords [Reg.LG_SNAPSTAT.word, Reg.HL_INT.word] (u.latched tag tag2) := State.latched_sameFields.sameWords (by decide)
  exact hlatched.snoc (State.snapTaken_fields.sameWords (by decide))

theorem State.latched_now : (u.latched tag tag2).now = u.now := by rw [State.latched_frame]; rfl

theorem State.latched_siteStat (hi lo : Nat) (hl : lo ≤ hi) : (u.latched tag tag2).get ⟨Reg.SQ_STAT.word n, hi, lo⟩ = u.get ⟨Reg.SQ_STAT.word n, hi, lo⟩ := by
  refine State.latched_sameFields.get ?_
  simp only [snapFields, Fld.apart_cons, Fld.apart_nil, Reg.SQ_STAT.word, Reg.LG_SNAPSTAT.BEAT, Reg.LG_SNAPSTAT.TAG, Reg.LG_SNAPSTAT.TAG2,
    Reg.LG_SNAPSTAT.SEQ, intrField]
  omega

theorem State.latched_siteState : (u.latched tag tag2).siteState n = u.siteState n := State.latched_siteStat 2 0 (by decide)

theorem State.latched_stmtOf : (u.latched tag tag2).stmtOf n = u.stmtOf n := by
  have hpc : (u.latched tag tag2).get (Reg.SQ_STAT.PC n) = u.get (Reg.SQ_STAT.PC n) := State.latched_siteStat _ _ (Nat.le_of_ble_eq_true rfl)
  rw [State.stmtOf, State.stmtOf, State.latched_siteState, hpc]

theorem State.latched_siteFlags : (u.latched tag tag2).siteFlags n = u.siteFlags n := by rw [State.siteFlags, State.siteFlags, State.latched_siteState]

/-- R398: the records of a snapshot with RECORD are those of the state before it. -/
theorem State.latched_records {v : State} {kind flags sub value : Nat} (h : (u.latched tag tag2).Records v n kind flags sub value) :
    ⟨u.now + 2, u.now, recWord n (u.stmtOf n) kind flags u.now sub value⟩ ∈ v.pendRecs := by
  rwa [State.Records, State.latched_now, State.latched_stmtOf] at h

theorem State.snapTaken_pendRecs : (u.snapTaken due tag tag2).pendRecs = ((u.latched tag tag2).snapsRecorded due).pendRecs := by
  rw [State.snapTaken, State.snapLock_frame]

theorem State.latched_pendRecs : (u.latched tag tag2).pendRecs = u.pendRecs := by rw [State.latched_frame]

theorem State.snapsRecorded_one (hrec : p.record = true) : s.snapsRecorded [p] = s.snapRecords p.tag := by
  rw [State.snapsRecorded, List.filter_cons_of_pos hrec, List.filter_nil, State.forL_cons, State.forL_nil]

theorem State.snapsRecorded_none (hrec : p.record = false) : s.snapsRecorded [p] = s := by
  rw [State.snapsRecorded, List.filter_cons_of_neg (by rw [hrec]; decide), List.filter_nil, State.forL_nil]

theorem State.snapTaken_records (hn : n < 64) (hst : u.siteState n ≠ Site.EMPTY) (hrec : p.record = true) (htag : p.tag < 2 ^ 16) :
    u.Records (u.snapTaken [p] tag tag2) n Kind.SNAPSHOT (Flag.DEVICE ||| u.siteFlags n) 0 (p.tag * 2 ^ 32 + u.now / 2 ^ 32 % 2 ^ 32) := by
  have h := State.snapRecords_records (s := u.latched tag tag2) hn (by rw [State.latched_siteState]; exact hst) htag
  rw [State.latched_siteFlags, State.latched_now] at h
  rw [State.Records, State.snapTaken_pendRecs, State.snapsRecorded_one hrec]
  exact State.latched_records h

theorem State.snapTaken_quiet (hrec : p.record = false) : (u.snapTaken [p] tag tag2).pendRecs = u.pendRecs := by
  rw [State.snapTaken_pendRecs, State.snapsRecorded_none hrec, State.latched_pendRecs]

/-! ### A snapshot that is skipped (R397) -/

theorem State.snapSkipped_sameFields : s.SameFields [Reg.LG_SNAPSTAT.MISSED, Reg.LG_SNAPSTAT.SKIPPED, Reg.LOG_STAT.DROPPED] (s.snapSkipped p) :=
  ((State.SameFields.set Reg.LG_SNAPSTAT.MISSED _ (by decide) (by decide) (by simp)).snoc
    (State.SameFields.set Reg.LG_SNAPSTAT.SKIPPED _ (by decide) (by decide) (by simp))).snoc (State.log_sameFields.mono (by simp))

theorem State.snapSkipped_frame : s.snapSkipped p = { s with regs := (s.snapSkipped p).regs, logWait := (s.snapSkipped p).logWait } := by
  unfold State.snapSkipped
  rw [State.log_frame]
  rfl

theorem State.snapSkipped_flags : (s.snapSkipped p).flag Reg.LG_SNAPSTAT.MISSED = true ∧ (s.snapSkipped p).flag Reg.LG_SNAPSTAT.SKIPPED = true := by
  have hskip {v : State} : v.SameFields [Reg.LG_SNAPSTAT.SKIPPED] (v.set Reg.LG_SNAPSTAT.SKIPPED 1) := State.SameFields.set _ _ (by decide) (by decide) (by simp)
  refine ⟨?_, ?_⟩
  · rw [State.snapSkipped, State.log_sameFields.flag (by unfold Fld.Apart; decide), hskip.flag (by unfold Fld.Apart; decide)]
    exact State.flag_set_one _ (by decide) (by decide)
  · rw [State.snapSkipped, State.log_sameFields.flag (by unfold Fld.Apart; decide)]
    exact State.flag_set_one _ (by decide) (by decide)

theorem exec_snapshot : exec .snapshot s = .next s.hkReadings.snapshot := rfl

theorem snapshot_skipped (hu : u = s.hkReadings) (h : u.dueSnaps = [p]) (hl : u.flag Reg.LG_SNAPSTAT.LOCKED = true) :
    ∃ t : State, exec .snapshot s = .next t ∧ t.held = u.held ∧ t.flag Reg.LG_SNAPSTAT.MISSED = true ∧
      t.flag Reg.LG_SNAPSTAT.SKIPPED = true ∧ t.pendRecs = u.pendRecs ∧ t.snaps = u.snaps.filter (fun q => !decide (q.beat ≤ u.now)) ∧
      u.SameFields [Reg.LG_SNAPSTAT.MISSED, Reg.LG_SNAPSTAT.SKIPPED, Reg.LOG_STAT.DROPPED] t := by
  have hexec : exec .snapshot s = .next (u.dropDue.snapSkipped p) := by
    rw [exec_snapshot, ← hu, State.snapshot_skips h hl]
    rfl
  obtain ⟨hmissed, hskipped⟩ := State.snapSkipped_flags (s := u.dropDue) (p := p)
  have hdrop : u.SameFields [Reg.LG_SNAPSTAT.MISSED, Reg.LG_SNAPSTAT.SKIPPED, Reg.LOG_STAT.DROPPED] u.dropDue := State.SameFields.of_regs rfl
  refine ⟨_, hexec, ?_, hmissed, hskipped, ?_, ?_, hdrop.snoc State.snapSkipped_sameFields⟩ <;> rw [State.snapSkipped_frame] <;> rfl

theorem snapshot_taken {ps : List PendSnap} (hu : u = s.hkReadings) (h : u.dueSnaps = p :: ps) (hl : u.flag Reg.LG_SNAPSTAT.LOCKED = false) :
    exec .snapshot s = .next (u.snapTaken (p :: ps) p.tag (lastTag ps)) := by
  rw [exec_snapshot, ← hu, State.snapshot_latches h hl]
  rfl

end

/-! ### Requests for a snapshot (R394) -/

section
variable {s : State} {p : Port} {w : Word}

theorem exec_lgSnapWrite : exec (.lgSnapWrite p w) s = .next (s.host p Reg.LG_SNAP.word Src.LG 0 fun t => t.snapWrite p w) := rfl

theorem State.snapWrite_local (hp : s.snapsPending < 8) (hm : Reg.LG_SNAP.MULTI.of w = 0) (hv : s.cntValid = true) (hb : s.now + 2 ≤ Reg.LG_SNAP.BEAT.of w) :
    s.snapWrite p w = s.schedule (Reg.LG_SNAP.BEAT.of w) (Reg.LG_SNAP.TAG.of w) (Reg.LG_SNAP.RECORD.of w == 1) := by
  unfold State.snapWrite
  simp only [if_neg (Nat.not_le.2 hp), if_pos hm, State.schedFault_none hv hb]

/-- R394: a request of the root waits in its queue and for its own frame. -/
def State.snapQueued (s : State) (w : Word) : State :=
  { s with tb := { s.tb with
      queue := s.tb.queue ++ [⟨Fk.SNAPSHOT, cmdPayload (Reg.LG_SNAP.TAG.of w) (Reg.LG_SNAP.BEAT.of w)⟩]
      snapOrigin := s.tb.snapOrigin ++ [⟨Reg.LG_SNAP.BEAT.of w, Reg.LG_SNAP.TAG.of w, Reg.LG_SNAP.RECORD.of w == 1⟩] } }

theorem State.snapWrite_multi (hp : s.snapsPending < 8) (hm : Reg.LG_SNAP.MULTI.of w = 1) (hr : s.role = Role.ROOT) (hl : s.locked = true)
    (ht : Reg.LG_SNAP.TAG.of w ≠ 0) (hv : s.cntValid = true) (hb : s.now + (128 + 64 * (s.get Reg.TB_STAT.HOP + 1)) ≤ Reg.LG_SNAP.BEAT.of w) :
    s.snapWrite p w = s.snapQueued w := by
  have hmulti : Reg.LG_SNAP.MULTI.of w ≠ 0 := by rw [hm]; decide
  have hrole : ¬ (s.role ≠ Role.ROOT ∨ (!s.locked) = true ∨ Reg.LG_SNAP.TAG.of w = 0) := by simp [hr, hl, ht]
  unfold State.snapWrite
  simp only [if_neg (Nat.not_le.2 hp), if_neg hmulti, if_neg hrole, State.schedFault_none hv hb]
  rfl

theorem State.snapQueued_pending (h : s.now ≤ Reg.LG_SNAP.BEAT.of w) : (s.snapQueued w).snapsPending = s.snapsPending + 1 := by
  have hdue : decide (s.now ≤ Reg.LG_SNAP.BEAT.of w) = true := decide_eq_true h
  have heq : (s.snapQueued w).snapsPending = s.snaps.length + ((s.tb.snapOrigin ++ [(⟨Reg.LG_SNAP.BEAT.of w, Reg.LG_SNAP.TAG.of w,
      Reg.LG_SNAP.RECORD.of w == 1⟩ : PendSnap)]).filter fun p => decide (s.now ≤ p.beat)).length := rfl
  rw [heq, List.filter_append, List.filter_cons_of_pos (p := fun p : PendSnap => decide (s.now ≤ p.beat)) hdue, List.length_append, ← Nat.add_assoc]
  rfl

/-- R394: a request that may not be is rejected. -/
theorem State.snapWrite_rejects (h : 8 ≤ s.snapsPending ∨ s.cntValid = false ∨ Reg.LG_SNAP.BEAT.of w < s.now + 2 ∨
      (Reg.LG_SNAP.MULTI.of w = 1 ∧ (s.role ≠ Role.ROOT ∨ s.locked = false ∨ Reg.LG_SNAP.TAG.of w = 0))) :
    ∃ c, s.snapWrite p w = s.reject p Reg.LG_SNAP.word Src.LG c := by
  unfold State.snapWrite
  dsimp only
  split
  next => exact ⟨_, rfl⟩
  next hp =>
    split
    next hm =>
      have hfault : s.cntValid = false ∨ Reg.LG_SNAP.BEAT.of w < s.now + 2 := by
        rcases h with h | h | h | ⟨h, -⟩
        · exact absurd h hp
        · exact .inl h
        · exact .inr h
        · rw [hm] at h
          exact absurd h (by decide)
      obtain ⟨c, hc⟩ := State.schedFault_some hfault
      rw [hc]
      exact ⟨c, rfl⟩
    next hm =>
      split
      next => exact ⟨_, rfl⟩
      next hr =>
        have hfault : s.cntValid = false ∨ Reg.LG_SNAP.BEAT.of w < s.now + (128 + 64 * (s.get Reg.TB_STAT.HOP + 1)) := by
          rcases h with h | h | h | ⟨-, h⟩
          · exact absurd h hp
          · exact .inl h
          · exact .inr (by omega)
          · exact absurd (h.imp_right (Or.imp_left fun hl => by rw [hl]; rfl)) hr
        obtain ⟨c, hc⟩ := State.schedFault_some hfault
        rw [hc]
        exact ⟨c, rfl⟩

theorem lgSnapWrite_rejects (h : s.mode = Mode.RESET ∨ 8 ≤ s.snapsPending ∨ s.cntValid = false ∨ Reg.LG_SNAP.BEAT.of w < s.now + 2 ∨
      (Reg.LG_SNAP.MULTI.of w = 1 ∧ (s.role ≠ Role.ROOT ∨ s.locked = false ∨ Reg.LG_SNAP.TAG.of w = 0))) :
    ∃ t : State, exec (.lgSnapWrite p w) s = .next t ∧ t.snaps = s.snaps ∧ t.tb = s.tb ∧
      t = { s with regs := t.regs, logWait := t.logWait, cpFrame := t.cpFrame } := by
  have hreject : ∃ c, s.host p Reg.LG_SNAP.word Src.LG 0 (fun t => t.snapWrite p w) = s.reject p Reg.LG_SNAP.word Src.LG c := by
    by_cases hm : s.mode = Mode.RESET
    · exact ⟨_, if_pos hm⟩
    · rw [State.host_out_of_reset hm]
      exact State.snapWrite_rejects (h.resolve_left hm)
  obtain ⟨c, hc⟩ := hreject
  have hframe := State.reject_frame (s := s) (p := p) (a := Reg.LG_SNAP.word) Src.LG c 0
  refine ⟨_, by rw [exec_lgSnapWrite, hc], ?_, ?_, hframe⟩ <;> rw [hframe]

end

/-! ### SNAPSHOT frames (R395) -/

section
variable {s : State} {f x : BitVec 64} {off : Fin 64} {record : Bool} {tag : Nat}

theorem exec_snapshotFrame : exec (.snapshotFrame f off record) s = .next (s.rxFrame f off [Fk.SNAPSHOT] fun x t => t.onSnapshot record x) := rfl

/-- A device that is not the origin of a snapshot keeps no request of its own. -/
theorem State.onSnapshot_foreign (h : s.tb.snapOrigin = []) : s.onSnapshot record x =
    if (!s.locked) = true ∨ 8 ≤ s.snapsPending then s.snapMissed (frTag x) else s.schedule (resolve24 s.now (frBeat x)) (frTag x) record := by
  have hself : ({ s with tb := { s.tb with snapOrigin := [] } } : State) = s := by
    rw [← h]
  unfold State.onSnapshot
  simp only [h, List.filter_nil, List.isEmpty_nil, if_true, hself]

theorem State.counted_snapsPending : (s.counted f x).snapsPending = s.snapsPending := by
  rw [State.snapsPending, State.snapsPending, State.counted_tb, State.counted_now, State.counted_frame]

theorem State.counted_origin : (s.counted f x).tb.snapOrigin = s.tb.snapOrigin := by rw [State.counted_tb]

theorem State.counted_snaps : (s.counted f x).snaps = s.snaps := by rw [State.counted_frame]

theorem snapshotFrame_schedules (h : s.Receives f off Fk.SNAPSHOT x) (ho : s.tb.snapOrigin = []) (hl : s.locked = true) (hp : s.snapsPending < 8) :
    ∃ t : State, exec (.snapshotFrame f off record) s = .next t ∧ t.snaps = s.snaps ++ [⟨resolve24 s.now (fr x 31 8), fr x 47 32, record⟩] ∧
      s.SameFields [Reg.TB_STAT.HOP, Reg.TB_STAT.SYNC_INV, Reg.TB_SYNC_ERR.FRAMES_OK, Reg.LOG_STAT.DROPPED] t := by
  have hacts : ¬ ((!(s.counted f x).locked) = true ∨ 8 ≤ (s.counted f x).snapsPending) := by
    rw [State.counted_locked, State.counted_snapsPending, hl]
    simpa using hp
  have hexec := exec_snapshotFrame (s := s) (f := f) (off := off) (record := record)
  rw [State.rxFrame_counted h (List.mem_singleton_self _), State.onSnapshot_foreign (State.counted_origin.trans ho), if_neg hacts] at hexec
  refine ⟨_, hexec, ?_, State.SameFields.snoc State.counted_sameFields (State.SameFields.of_regs rfl)⟩
  rw [State.schedule, State.counted_snaps, State.counted_now]
  rfl

theorem State.snapMissed_frame : s.snapMissed tag =
    { s with regs := (s.snapMissed tag).regs, logWait := (s.snapMissed tag).logWait, msix := (s.snapMissed tag).msix } := by
  unfold State.snapMissed
  rw [State.alert_frame, State.log_frame]
  rfl

theorem State.snapMissed_tells : (s.snapMissed tag).flag Reg.LG_SNAPSTAT.MISSED = true ∧ (s.snapMissed tag).alertPending Alert.SNAPSHOT = true := by
  refine ⟨?_, ?_⟩
  · rw [State.snapMissed, (State.alert_sameFields (by decide)).flag (by unfold Fld.Apart; decide)]
    exact State.flag_set_one _ (by decide) (by decide)
  · rw [State.alertPending_eq (by decide)]
    exact State.alert_flag (by decide)

theorem snapshotFrame_missed (h : s.Receives f off Fk.SNAPSHOT x) (ho : s.tb.snapOrigin = []) (hl : s.locked = false) :
    ∃ t : State, exec (.snapshotFrame f off record) s = .next t ∧ t.snaps = s.snaps ∧ t.flag Reg.LG_SNAPSTAT.MISSED = true ∧
      t.alertPending Alert.SNAPSHOT = true := by
  have hmiss : (!(s.counted f x).locked) = true ∨ 8 ≤ (s.counted f x).snapsPending := .inl (by rw [State.counted_locked, hl]; rfl)
  have hexec := exec_snapshotFrame (s := s) (f := f) (off := off) (record := record)
  rw [State.rxFrame_counted h (List.mem_singleton_self _), State.onSnapshot_foreign (State.counted_origin.trans ho), if_pos hmiss] at hexec
  refine ⟨_, hexec, ?_, State.snapMissed_tells⟩
  rw [State.snapMissed_frame, State.counted_snaps]

end

/-- Settles O39: a request is scheduled, queued or rejected; a frame is scheduled or missed; and the snapshots of a beat share one latch. -/
theorem snapshots : Obligations.Snapshots := by
  unfold Obligations.Snapshots
  refine ⟨fun s p w hm hp hmulti hv hb => ?alone, fun s p w hm hp hmulti hr hl ht hv hb => ?root, fun s p w h => lgSnapWrite_rejects h,
    fun s f x off record h ho => ⟨snapshotFrame_schedules h ho, snapshotFrame_missed h ho⟩,
    fun s u p hu hdue htag => ⟨fun hl => ?taken, snapshot_skipped hu (State.dueSnaps_one hdue)⟩, fun s u p q hu hdue hp hq hl => ?two,
    fun s u hu h => ?none⟩
  case alone =>
    rw [exec_lgSnapWrite, State.host_out_of_reset hm, State.snapWrite_local hp hmulti hv hb]
    rfl
  case root =>
    refine ⟨s.snapQueued w, by rw [exec_lgSnapWrite, State.host_out_of_reset hm, State.snapWrite_multi hp hmulti hr hl ht hv hb], rfl, rfl,
      State.snapQueued_pending (by omega), rfl⟩
  case taken =>
    obtain ⟨hbeat, htag', htag2, hseq, hintr⟩ := State.snapTaken_reads (u := u) (due := [p]) (tag2 := lastTag []) htag (by decide)
    refine ⟨_, snapshot_taken hu (State.dueSnaps_one hdue) hl, State.snapTaken_hr, hbeat, htag', htag2, hseq, State.snapTaken_locked hl, hintr, ?_,
      fun hrec n hn hst => State.snapTaken_records hn hst hrec htag, State.snapTaken_quiet, State.snapTaken_words, ?_⟩ <;> rw [State.snapTaken_frame]
  case two =>
    by_cases hle : p.tag ≤ q.tag
    · obtain ⟨-, htag, htag2, hseq, -⟩ := State.snapTaken_reads (u := u) (due := [p, q]) hp hq
      rw [min_eq_left hle, max_eq_right hle]
      exact ⟨_, snapshot_taken hu ((State.dueSnaps_two hdue).trans (if_pos hle)) hl, State.snapTaken_hr, htag, htag2, hseq⟩
    · obtain ⟨-, htag, htag2, hseq, -⟩ := State.snapTaken_reads (u := u) (due := [q, p]) hq hp
      rw [min_eq_right (Nat.le_of_not_le hle), max_eq_left (Nat.le_of_not_le hle)]
      exact ⟨_, snapshot_taken hu ((State.dueSnaps_two hdue).trans (if_neg hle)) hl, State.snapTaken_hr, htag, htag2, hseq⟩
  case none =>
    rw [exec_snapshot, ← hu, State.snapshot_none (State.dueSnaps_none h)]

end Sys2Proof.Machine
end

section
/-! SUPPORT. A frame boundary of a clone stream with a member that no site is, evaluated (R155, R171). -/

namespace Sys2Proof.Machine

/-- A descriptor of nothing, and its frame. -/
def blankDesc : Desc := ⟨0, 1, false, false, false, 0, 0, 0, 0, 0, 0, 0, []⟩
def blankHalf : Half := ⟨blankDesc, [], [], none⟩

/-- The group 2 whose mask names the site 1040 only. -/
def strayGroup : List (Nat × Nat) := [(2, 2 ^ 1040)]

/-- A stream that plays its last frame, with one more fetched; its member is 1040. -/
def strayStream : Stream :=
  { Stream.init with cur := some blankHalf, phase := .frame, queue := [blankDesc], inc := some blankHalf, members := [1040] }

/-- A device whose clone stream 66 plays with the member 1040. The word that SQ_STAT has for a site 1040 is SO_STR_POS of stream 66: BOUNDARY reads as the
state of that site. -/
def strayed : State :=
  { ((State.reset.set (Reg.SO_STR_STAT.STATE 66) Str.PLAYING).set (Reg.SO_STR_POS.BOUNDARY 66) Site.RUNNING).setStream 66 strayStream with clones := strayGroup }

theorem strayed_sites : strayed.streamSites 66 = [] := by decide +kernel

theorem strayed_quiet : strayed.streamState 66 = Str.PLAYING ∧ strayed.stream 66 = strayStream ∧ strayed.pendActs = [] ∧
    strayed.flag Reg.DEV_SVCSTAT.PENDING = false ∧ strayed.cal.quads = [] ∧ strayed.tb.holds = [] ∧ strayed.playing 1040 = true ∧
    strayed.throttleHolds = 0 ∧ strayed.replayable 66 blankDesc = false ∧ strayed.frameRefusal 66 blankDesc (some blankHalf) = none := by decide +kernel

/-- The boundary writes BOUNDARY, so that its member no longer plays: the stream ends. -/
theorem strayed_ends : (strayed.boundary 66).follow.streamState 66 = Str.IDLE := by decide +kernel

/-! ### What the outcome of a boundary tells of the state before `follow` and `settle` -/

section
variable {s t : State} {L : List (Nat × Nat)} {x : Nat} {f : Fld}

/-- The clone groups are those of `L`. -/
def State.Groups (L : List (Nat × Nat)) (s : State) : Prop := s.clones = L

theorem keeps_groups (L : List (Nat × Nat)) : Keeps (State.Groups L) where
  upd _ _ _ _ _ _ _ hclones _ _ h := hclones.trans h
  setReg _ _ h := h
  setShadow _ _ h := h
  latch h := h
  dropRegs _ h := h
  dropHeld _ h := h
  soft h := h

theorem State.follow_settle_clones (s : State) : s.follow.settle.clones = s.clones := by
  have := keeps_groups s.clones
  exact State.settle_kept (State.follow_kept (P := State.Groups s.clones) rfl)

theorem strayed_clones : (strayed.boundary 66).clones = strayGroup := by
  have := keeps_groups strayGroup
  exact State.boundary_kept (P := State.Groups strayGroup) (s := strayed) rfl 66

/-- The group names none of the 64 sites. -/
theorem strayGroup_sites : strayGroup.flatMap (fun g => maskList g.2 64) = [] := by decide +kernel

/-- A PLAYING stream of a group without sites is not followed by anything. -/
theorem State.follow_stray (hc : s.clones = strayGroup) (hp : s.streamState 66 = Str.PLAYING) : s.follow = s := by
  have htrip : s.tripLeave = s := by
    rw [State.tripLeave, hc, strayGroup_sites, State.forL_nil]
  have hbarrier : s.barrier 66 = s := if_neg fun h => by
    rw [hp] at h
    exact absurd h.1 (by decide)
  have hpause : ¬ (s.streamState 66 = Str.PAUSED ∧ s.noneCanRejoin 66 = true) := fun h => by
    rw [hp] at h
    exact absurd h.1 (by decide)
  rw [State.follow, htrip, State.cloneStreams, hc]
  exact (if_neg hpause).trans hbarrier

/-- The field `f` has the value `k`. -/
def State.Reads (f : Fld) (k : Nat) (s : State) : Prop := s.get f = k

/-- The leases and the pending bits of the sites stand apart from the status of the streams. -/
theorem State.settle_streamState (hx : x < 80) : s.settle.streamState x = s.streamState x := by
  have hlease : s.refreshLeases.streamState x = s.streamState x :=
    State.forL_kept_mem (l := List.range 256) (P := State.Reads (Reg.SO_STR_STAT.STATE x) (s.streamState x))
      (fun i _ u hu => ite_kept (fun _ => (State.get_setReg_other _ _ _ (by simp only [Reg.SO_STR_STAT.STATE, Reg.PM_LEASE.word]; omega)).trans hu)
        fun _ => hu) rfl
  have hpending : s.refreshLeases.refreshPending.streamState x = s.refreshLeases.streamState x :=
    State.forL_kept_mem (l := List.range 64) (P := State.Reads (Reg.SO_STR_STAT.STATE x) (s.refreshLeases.streamState x))
      (fun n _ u hu => (State.get_set_addr _ _ _ (by simp only [Reg.SO_STR_STAT.STATE, Reg.SO_SITE_STAT.PENDING]; omega)).trans hu) rfl
  exact hpending.trans hlease

end

theorem strayed_boundary : exec (.frameBoundary 66) strayed = .next (strayed.boundary 66).follow.settle := by
  obtain ⟨hplay, hstream, -⟩ := strayed_quiet
  have hdue : (strayed.stream 66).endAt ≤ strayed.now * 65536 + 65535 := by rw [hstream]; exact Nat.zero_le _
  have hexec : exec (.frameBoundary 66) strayed = .next (if strayed.streamState 66 = Str.PLAYING then
      (if (strayed.stream 66).endAt ≤ strayed.now * 65536 + 65535 then (strayed.boundary 66).follow.settle else strayed)
    else if strayed.streamState 66 = Str.PAUSED then (strayed.resumeStream 66).follow.settle else strayed) := rfl
  rw [hexec, if_pos hplay, if_pos hdue]

theorem strayed_quietBoundary : strayed.QuietBoundary 66 := by
  obtain ⟨hplay, hstream, hpend, hsvc, hquads, hholds, hmember, hth, -, -⟩ := strayed_quiet
  refine ⟨hplay, ?_, ?_, ?_, hpend, hsvc, ?_, hholds, ?_, ?_, ?_, hth, ?_⟩
  · rw [hstream]; rfl
  · rw [hstream]; exact Nat.zero_le _
  · rw [hstream]; rfl
  · rw [hquads]; exact fun _ h => absurd h List.not_mem_nil
  · rw [hstream]; exact List.cons_ne_nil _ _
  · rw [hstream]
    exact fun n hn => (List.mem_singleton.1 hn) ▸ hmember
  · rw [hstream]; rfl
  · rw [strayed_sites]; exact fun _ h => absurd h List.not_mem_nil

/-- Refutes O9: its clause on the next frame of a pattern lets the members of a stream be any numbers. In `strayed` the member 1040 of the clone stream 66 has
no words of its own: the boundary itself, writing SO_STR_POS.BOUNDARY, changes what its state reads, so that it leaves, and the stream goes IDLE where the
clause asks for PLAYING. -/
theorem not_streamsPlay : ¬ Obligations.StreamsPlay := by
  unfold Obligations.StreamsPlay
  rintro ⟨-, -, -, -, -, hnext, -⟩
  obtain ⟨-, hstream, -, -, -, -, -, -, hrep, href⟩ := strayed_quiet
  obtain ⟨u, hexec, hplay, -⟩ := hnext strayed 66 blankHalf blankHalf blankDesc [] strayed_quietBoundary (congrArg Stream.cur hstream)
    ((congrArg Stream.left hstream).trans_le (Nat.zero_le 1)) (congrArg Stream.queue hstream) (congrArg Stream.inc hstream) rfl hrep href rfl
    (congrArg Stream.under hstream)
  have heq : (strayed.boundary 66).follow.settle = u.follow.settle := by
    rw [strayed_boundary] at hexec
    injection hexec
  have hclones : u.clones = strayGroup := by
    rw [← State.follow_settle_clones, ← heq, State.follow_settle_clones, strayed_clones]
  have hidle : u.follow.settle.streamState 66 = Str.IDLE := by
    rw [← heq, State.settle_streamState (by decide), strayed_ends]
  rw [State.follow_stray hclones hplay, State.settle_streamState (by decide)] at hidle
  exact absurd (hplay.symm.trans hidle) (by decide)

end Sys2Proof.Machine
end

section
/-! SUPPORT. The commands of SI_CMD (R72 to R74, R79): what starts an operation, what its end without an error tells, and what CLEAR leaves of the image. -/

namespace Sys2Proof.Machine

/-! ### Entries left out of a map -/

/-- Where the entries of some keys are left out, those keys read the default and the others what they read before. -/
theorem sget_filter_keys {α : Type} (d : Nat → α) (m : List (Nat × α)) (keep : Nat → Bool) (k : Nat) :
    sget d (m.filter (fun p => keep p.1)) k = if keep k then sget d m k else d k := by
  induction m with
  | nil => simp [sget]
  | cons q m ih =>
    obtain ⟨j, a⟩ := q
    by_cases hk : k = j
    · subst hk
      cases h : keep k <;> simp [sget, h, ih]
    · cases h : keep j <;> simp [sget, h, hk, ih]

section StructuralCommands
variable {s : State} {p : Port} {n op site prev image code : Nat}

/-! ### The start of an operation -/

theorem State.siBegin_busy : (s.siBegin op site prev).flag Reg.SI_STAT.BUSY = true :=
  State.flag_set_one (s := s) Reg.SI_STAT.BUSY (by decide) (by decide)

theorem State.siBegin_sameFields : s.SameFields [Reg.SI_STAT.BUSY] (s.siBegin op site prev) :=
  State.SameFields.snoc (State.SameFields.set Reg.SI_STAT.BUSY 1 (by decide) (by decide) (by simp)) (State.SameFields.of_regs rfl)

/-- R503: no substitution bars an operation while none is pending. -/
theorem State.sparePending_idle {o : Option Nat} (h : s.flag Reg.DEV_SVCSTAT.PENDING = false) : s.sparePending o = false := by
  rw [State.sparePending, h, Bool.false_and]

/-- R73: a whole load is accepted. -/
theorem State.siLoad_begins (hmode : s.mode = Mode.SHAPE) (hbusy : s.flag Reg.SI_STAT.BUSY = false) (hspare : s.flag Reg.DEV_SVCSTAT.PENDING = false)
    (hwhole : Img.partialFlag s.img = false) (hsites : s.anySite [Site.ARMED, Site.RUNNING, Site.HELD, Site.TRIPPED, Site.RESHAPING] = false) :
    s.siLoad p = s.siBegin 1 0 0 := by
  rw [State.siLoad, if_neg (by simp [hbusy, State.sparePending_idle hspare]), if_neg (by simp [hmode, hwhole, hsites])]

/-- R79: a check is accepted. -/
theorem State.siCheck_begins (hreset : s.mode ≠ Mode.RESET) (hsafe : s.mode ≠ Mode.SAFE) (hshut : s.mode ≠ Mode.SHUTDOWN)
    (hbusy : s.flag Reg.SI_STAT.BUSY = false) : s.siCheck p = s.siBegin 3 0 0 := by
  rw [State.siCheck, if_neg (by simp [hbusy]), if_neg (by simp [hreset, hsafe, hshut])]

/-- R74: no action of an open clause stands on a resource that site `n` has, or would have. -/
def State.Unclaimed (s : State) (n : Nat) : Prop := ∀ k ∈ s.openSlots, ∀ x ∈ (s.slot k).acts, s.actsIn (s.map n) x.addr = false ∧
  s.actsIn ((Img.part s.img 0).siteMap s.img) x.addr = false

/-- R74: the reshape of site `n` begins: the site is RESHAPING from the same beat on. -/
def State.reshapeBegun (s : State) (n : Nat) : State := (s.siBegin 2 n (s.siteState n)).set (Reg.SQ_STAT.STATE n) Site.RESHAPING

/-- R74: a reshape is accepted. -/
theorem State.siReshape_begins (hbusy : s.flag Reg.SI_STAT.BUSY = false) (hspare : s.sparePending (some n) = false)
    (hmode : s.mode ∈ [Mode.SHAPE, Mode.STANDBY, Mode.READY, Mode.CONTACT, Mode.RUN]) (hstate : s.siteState n ∈ [Site.EMPTY, Site.LOADED, Site.RETIRED])
    (hlease : ∀ i < 64, s.holds n i = false) (hclause : s.clauseNames [Slot.OPEN, Slot.PREPARING, Slot.PREPARED] n = false) (hacts : s.Unclaimed n) :
    s.siReshape p n = s.reshapeBegun n := by
  have hstart : ¬ (s.flag Reg.SI_STAT.BUSY = true ∨ s.sparePending (some n) = true) := by simp [hbusy, hspare]
  have hplace : ¬ (!([Mode.SHAPE, Mode.STANDBY, Mode.READY, Mode.CONTACT, Mode.RUN].contains s.mode)
      || !([Site.EMPTY, Site.LOADED, Site.RETIRED].contains (s.siteState n))) = true := by
    rw [List.contains_iff_mem.2 hmode, List.contains_iff_mem.2 hstate]
    decide
  have hleases : (List.range 64).any (fun i => s.holds n i) = false := List.any_eq_false.2 fun i hi => by simp [hlease i (List.mem_range.1 hi)]
  have hactions : s.openSlots.any (fun k => (s.slot k).acts.any (fun x => s.actsIn (s.map n) x.addr || s.actsIn ((Img.part s.img 0).siteMap s.img) x.addr))
      = false := List.any_eq_false.2 fun k hk => by
    rw [Bool.not_eq_true]
    exact List.any_eq_false.2 fun x hx => by simp [hacts k hk x hx]
  rw [State.siReshape, if_neg hstart, if_neg hplace, if_neg (by simp only [hleases, hclause, hactions]; decide)]
  rfl

theorem State.reshapeBegun_busy : (s.reshapeBegun n).flag Reg.SI_STAT.BUSY = true := by
  have hstate : (s.siBegin 2 n (s.siteState n)).SameFields [Reg.SQ_STAT.STATE n] (s.reshapeBegun n) := State.set_state_sameFields (by simp)
  have happart : Reg.SI_STAT.BUSY.Apart [Reg.SQ_STAT.STATE n] := by
    simp only [Fld.apart_cons, Fld.apart_nil, Reg.SI_STAT.BUSY, Reg.SQ_STAT.STATE]
    omega
  rw [hstate.flag happart, State.siBegin_busy]

theorem State.reshapeBegun_sameFields : s.SameFields [Reg.SI_STAT.BUSY, Reg.SQ_STAT.STATE n] (s.reshapeBegun n) :=
  (State.siBegin_sameFields.mono (by simp)).snoc (State.set_state_sameFields (by simp))

/-- None of the modes that allow a reshape is RESET. -/
theorem State.mode_ne_reset_of_reshape (h : s.mode ∈ [Mode.SHAPE, Mode.STANDBY, Mode.READY, Mode.CONTACT, Mode.RUN]) : s.mode ≠ Mode.RESET :=
  fun hr => absurd (hr ▸ h) (by decide)

/-! ### The end of an operation without an error (R70, R79, R466) -/

/-- SI_STAT tells of an operation that has ended, and none is in progress. -/
def State.siReported (s : State) (op image code : Nat) : State :=
  { (((s.set Reg.SI_STAT.BUSY 0).set Reg.SI_STAT.RESULT code).set Reg.SI_STAT.LAST_OP op).set Reg.SI_STAT.IMAGE_ID image with siOp := none }

theorem State.siReported_get (f : Fld) : (s.siReported op image code).get f =
    ((((s.set Reg.SI_STAT.BUSY 0).set Reg.SI_STAT.RESULT code).set Reg.SI_STAT.LAST_OP op).set Reg.SI_STAT.IMAGE_ID image).get f := rfl

theorem State.siReported_tells : (s.siReported op image code).flag Reg.SI_STAT.BUSY = false ∧
    (s.siReported op image code).get Reg.SI_STAT.RESULT = code % 2 ^ 8 ∧ (s.siReported op image code).get Reg.SI_STAT.LAST_OP = op % 2 ^ 4 ∧
    (s.siReported op image code).get Reg.SI_STAT.IMAGE_ID = image % 2 ^ 32 := by
  refine ⟨State.flag_of_get ?_, ?_, ?_, ?_⟩ <;> rw [State.siReported_get]
  · rw [State.get_set_other _ _ _ (by decide) (by decide) (by decide), State.get_set_other _ _ _ (by decide) (by decide) (by decide),
      State.get_set_other _ _ _ (by decide) (by decide) (by decide), State.get_set_same _ _ (by decide) (by decide), Nat.zero_mod]
  · rw [State.get_set_other _ _ _ (by decide) (by decide) (by decide), State.get_set_other _ _ _ (by decide) (by decide) (by decide),
      State.get_set_same _ _ (by decide) (by decide)]
    rfl
  · rw [State.get_set_other _ _ _ (by decide) (by decide) (by decide), State.get_set_same _ _ (by decide) (by decide)]
    rfl
  · rw [State.get_set_same _ _ (by decide) (by decide)]
    rfl

theorem State.siReported_sameWords : s.SameWords [Reg.SI_STAT.word] (s.siReported op image code) :=
  ((((State.SameWords.set _ _ (by decide)).snoc (State.SameWords.set _ _ (by decide))).snoc (State.SameWords.set _ _ (by decide))).snoc
    (State.SameWords.set _ _ (by decide))).snoc (State.SameWords.of_regs rfl)

/-- An end without an error is reported, with the interrupt unless DONE stands already, and DONE is set. -/
theorem State.siEnd_none : s.siEnd op image none =
    (if (s.siReported op image Si.OK).flag Reg.SI_STAT.DONE then s.siReported op image Si.OK else (s.siReported op image Si.OK).intr Intr.SI_DONE).set
      Reg.SI_STAT.DONE 1 := rfl

theorem State.siEnd_none_done : (s.siEnd op image none).flag Reg.SI_STAT.DONE = true := by
  rw [State.siEnd_none]
  exact State.flag_set_one _ (by decide) (by decide)

theorem State.siEnd_none_sameFields :
    (s.siReported op image Si.OK).SameFields [intrField Intr.SI_DONE, Reg.SI_STAT.DONE] (s.siEnd op image none) := by
  rw [State.siEnd_none]
  refine State.SameFields.snoc ?_ (State.SameFields.set _ _ (by decide) (by decide) (by simp))
  exact ite_kept (fun _ => State.SameFields.refl) fun _ => (State.intr_sameFields (by decide)).mono (by simp)

/-- R70, R79: SI_STAT after an end without an error. -/
theorem State.siEnd_none_tells : (s.siEnd op image none).flag Reg.SI_STAT.BUSY = false ∧ (s.siEnd op image none).flag Reg.SI_STAT.DONE = true ∧
    (s.siEnd op image none).get Reg.SI_STAT.LAST_OP = op % 2 ^ 4 ∧ (s.siEnd op image none).get Reg.SI_STAT.RESULT = Si.OK ∧
    (s.siEnd op image none).get Reg.SI_STAT.IMAGE_ID = image % 2 ^ 32 := by
  obtain ⟨hbusy, hresult, hop, himage⟩ := State.siReported_tells (s := s) (op := op) (image := image) (code := Si.OK)
  have hkept {f : Fld} (hf : f.Apart [intrField Intr.SI_DONE, Reg.SI_STAT.DONE]) : (s.siEnd op image none).get f = (s.siReported op image Si.OK).get f :=
    State.siEnd_none_sameFields.get hf
  refine ⟨?_, State.siEnd_none_done, ?_, ?_, ?_⟩
  · rw [State.flag, hkept (by unfold Fld.Apart; decide)]
    exact hbusy
  · rw [hkept (by unfold Fld.Apart; decide), hop]
  · rw [hkept (by unfold Fld.Apart; decide), hresult]
    rfl
  · rw [hkept (by unfold Fld.Apart; decide), himage]

theorem State.siEnd_none_sameWords : s.SameWords [Reg.SI_STAT.word, Reg.HL_INT.word] (s.siEnd op image none) := by
  have hreport : s.SameWords [Reg.SI_STAT.word, Reg.HL_INT.word] (s.siReported op image Si.OK) := fun a ha =>
    State.siReported_sameWords a fun h => ha (List.mem_cons.2 (.inl (List.mem_singleton.1 h)))
  exact hreport.snoc (State.siEnd_none_sameFields.sameWords (by decide))

theorem State.siEnd_none_frame : s.siEnd op image none = { s with regs := (s.siEnd op image none).regs, siOp := none, msix := (s.siEnd op image none).msix } := by
  have hframe : (s.siReported op image Si.OK).MsixFrame (s.siEnd op image none) := by
    rw [State.siEnd_none]
    exact State.MsixFrame.set (ite_kept (fun _ => State.MsixFrame.refl) fun _ => State.MsixFrame.refl.intr _) _ _
  exact hframe

/-! ### CLEAR (R79) -/

/-- Every word of SI_IMG is at its reset value. -/
def State.imageCleared (s : State) : State :=
  { s with regs := s.regs.filter (fun p => !(Reg.SI_IMG.word 0 ≤ p.1 && p.1 < Reg.SI_IMG.word 4096)) }

theorem State.imageCleared_reg (a : Nat) :
    s.imageCleared.reg a = if Reg.SI_IMG.word 0 ≤ a ∧ a < Reg.SI_IMG.word 4096 then resetWord a else s.reg a := by
  refine (sget_filter_keys resetWord s.regs (fun k => !(Reg.SI_IMG.word 0 ≤ k && k < Reg.SI_IMG.word 4096)) a).trans ?_
  by_cases h : Reg.SI_IMG.word 0 ≤ a ∧ a < Reg.SI_IMG.word 4096
  · simp [h]
  · rw [if_neg h, if_pos (by simpa [Decidable.imp_iff_not_or] using h)]
    rfl

theorem State.siClear_ends (hbusy : s.flag Reg.SI_STAT.BUSY = false) : s.siClear p = s.imageCleared.siEnd 4 0 none :=
  if_neg (by simp [hbusy])

/-- R79: after CLEAR each word of SI_IMG reads its reset value. -/
theorem State.cleared_image {w : Nat} (hw : w < 4096) :
    (s.imageCleared.siEnd op image none).reg (Reg.SI_IMG.word w) = resetWord (Reg.SI_IMG.word w) := by
  have hout : Reg.SI_IMG.word w ∉ [Reg.SI_STAT.word, Reg.HL_INT.word] := by
    simp only [Reg.SI_IMG.word, Reg.SI_STAT.word, Reg.HL_INT.word, List.mem_cons, List.not_mem_nil, or_false]
    omega
  have hin : Reg.SI_IMG.word 0 ≤ Reg.SI_IMG.word w ∧ Reg.SI_IMG.word w < Reg.SI_IMG.word 4096 := by
    simp only [Reg.SI_IMG.word]
    omega
  rw [State.siEnd_none_sameWords _ hout, State.imageCleared_reg, if_pos hin]

/-- R79: CLEAR changes no word outside SI_IMG but SI_STAT and the pending interrupts. -/
theorem State.cleared_else {a : Nat} (hout : a < Reg.SI_IMG.word 0 ∨ Reg.SI_IMG.word 4096 ≤ a) (hstat : a ≠ Reg.SI_STAT.word)
    (hint : a ≠ Reg.HL_INT.word) : (s.imageCleared.siEnd op image none).reg a = s.reg a := by
  rw [State.siEnd_none_sameWords a (by simp [hstat, hint]), State.imageCleared_reg, if_neg (by omega)]

/-! ### What the commands run -/

/-- R500: a command whose run is a rejection is rejected in every mode. -/
theorem State.host_rejected {a src idx code : Nat} {run : State → State} (h : run s = s.reject p a src code idx) :
    ∃ c, s.host p a src idx run = s.reject p a src c idx :=
  ite_kept (P := fun t => ∃ c, t = s.reject p a src c idx) (fun _ => ⟨_, rfl⟩) fun _ => ⟨code, h⟩

/-- R72: where a command of SI_CMD is rejected, the operation in progress goes on. -/
theorem next_host_rejected_busy {src idx code : Nat} {run : State → State} (hbusy : s.flag Reg.SI_STAT.BUSY = true)
    (h : run s = s.reject p Reg.SI_CMD.word src code idx) :
    ∃ t : State, (Host.Outcome.next (s.host p Reg.SI_CMD.word src idx run) : Out) = .next t ∧ t.flag Reg.SI_STAT.BUSY = true ∧ t.siOp = s.siOp ∧
      t.maps = s.maps := by
  obtain ⟨c, hc⟩ := State.host_rejected h
  refine ⟨_, congrArg _ hc, ?_, ?_, ?_⟩
  · rw [State.flag, (s.reject_sameWords p _ _ _ _).get (by decide)]
    exact hbusy
  · rw [s.reject_frame p]
  · rw [s.reject_frame p]

theorem exec_siCmdLoad (hm : s.mode ≠ Mode.RESET) : exec (.siCmdLoad p) s = .next (s.siLoad p) :=
  congrArg Host.Outcome.next (State.host_out_of_reset hm _ _ _ _)

theorem exec_siCmdReshape {n : Fin 64} (hm : s.mode ≠ Mode.RESET) : exec (.siCmdReshape p n) s = .next (s.siReshape p n) :=
  congrArg Host.Outcome.next (State.host_out_of_reset hm _ _ _ _)

theorem exec_siCmdCheck (hm : s.mode ≠ Mode.RESET) : exec (.siCmdCheck p) s = .next (s.siCheck p) :=
  congrArg Host.Outcome.next (State.host_out_of_reset hm _ _ _ _)

theorem exec_siCmdClear (hm : s.mode ≠ Mode.RESET) : exec (.siCmdClear p) s = .next (s.siClear p) :=
  congrArg Host.Outcome.next (State.host_out_of_reset hm _ _ _ _)

end StructuralCommands

/-- Settles O5: LOAD, RESHAPE and CHECK begin an operation, CLEAR clears the image and ends at once, and while an operation is in progress the first three
are rejected. -/
theorem structuralCommandsAccepted : Obligations.StructuralCommandsAccepted := by
  unfold Obligations.StructuralCommandsAccepted
  refine ⟨fun s p hmode hbusy hspare hwhole hsites => ?load, fun s p n hbusy hspare hmode hstate hlease hclause hacts => ?reshape,
    fun s p hreset hsafe hshut hbusy => ?check, fun s p hreset hbusy => ?clear, fun s p n hbusy => ⟨?_, ?_, ?_⟩⟩
  case load =>
    have hreset : s.mode ≠ Mode.RESET := by rw [hmode]; decide
    exact ⟨s.siBegin 1 0 0, by rw [exec_siCmdLoad hreset, State.siLoad_begins hmode hbusy hspare hwhole hsites], State.siBegin_busy, rfl,
      State.siBegin_sameFields, rfl⟩
  case reshape =>
    exact ⟨s.reshapeBegun n, by rw [exec_siCmdReshape (State.mode_ne_reset_of_reshape hmode),
        State.siReshape_begins hbusy hspare hmode hstate hlease hclause hacts], State.reshapeBegun_busy, State.siteState_set (by decide), rfl,
      State.reshapeBegun_sameFields, rfl⟩
  case check =>
    exact ⟨s.siBegin 3 0 0, by rw [exec_siCmdCheck hreset, State.siCheck_begins hreset hsafe hshut hbusy], State.siBegin_busy, rfl,
      State.siBegin_sameFields, rfl⟩
  case clear =>
    obtain ⟨hidle, hdone, hop, hresult, himage⟩ := State.siEnd_none_tells (s := s.imageCleared) (op := 4) (image := 0)
    exact ⟨s.imageCleared.siEnd 4 0 none, by rw [exec_siCmdClear hreset, State.siClear_ends hbusy], fun w hw => State.cleared_image hw, hidle, hdone, hop,
      hresult, himage, fun a hout hstat hint => State.cleared_else hout hstat hint, State.siEnd_none_frame⟩
  · exact next_host_rejected_busy hbusy (if_pos (.inl hbusy))
  · exact next_host_rejected_busy hbusy (if_pos (.inl hbusy))
  · exact next_host_rejected_busy hbusy (if_pos hbusy)

end Sys2Proof.Machine
end

section
/-! SUPPORT. The events at a pin slice (R96 to R99, R101, R104, R109, R172): what the sample of a strobe leaves, what a capture and a failing compare count,
and that a fail capture touches no slice. -/

namespace Sys2Proof.Machine

/-! ### Beside the pin slices -/

/-- From `s` to `t` no pin slice changes, and of the registers the fields of `fs` alone. -/
structure State.Beside (fs : List Fld) (s t : State) : Prop where
  chans : t.chans = s.chans
  fields : s.SameFields fs t

section Beside
variable {s t u : State} {fs gs : List Fld}

theorem State.Beside.refl : s.Beside fs s := ⟨rfl, State.SameFields.refl⟩

theorem State.Beside.trans (h : s.Beside fs t) (k : t.Beside fs u) : s.Beside fs u := ⟨k.chans.trans h.chans, h.fields.snoc k.fields⟩

theorem State.Beside.mono (h : s.Beside fs t) (hs : ∀ g ∈ fs, g ∈ gs) : s.Beside gs t := ⟨h.chans, h.fields.mono hs⟩

/-- An update of neither the registers nor the slices. -/
theorem State.Beside.upd (h : s.Beside fs t) (hregs : u.regs = t.regs) (hchans : u.chans = t.chans) : s.Beside fs u :=
  h.trans ⟨hchans, State.SameFields.of_regs hregs⟩

theorem State.Beside.set (h : s.Beside fs t) (f : Fld) (v : Nat) (hhi : f.hi < 128) (hlo : f.lo ≤ f.hi) (hf : f ∈ fs) : s.Beside fs (t.set f v) :=
  h.trans ⟨rfl, State.SameFields.set f v hhi hlo hf⟩

theorem State.Beside.chan (h : s.Beside fs t) (c : Nat) : t.chan c = s.chan c := by rw [State.chan, h.chans]; rfl

end Beside

/-! ### The writes of fail capture (R172 to R174) -/

/-- R133, R165: the fields that a write into pattern memory reports in. -/
def memoryFields : List Fld := [Reg.SO_STAT.STACK0, Reg.SO_STAT.STACK1, Reg.PM_CNT.UNCORR, Reg.PM_STAT.UNCORR]

/-- R173, R174: the fields that an entry of a site's fail-capture ring reports in. -/
def ringFields (n : Nat) : List Fld := [Reg.SO_FC_PTR.WR n, Reg.SO_FC_CNT.WRITTEN n, Reg.SO_FC_CNT.DROPPED n, Reg.SO_STAT.FC_DROP] ++ memoryFields

/-- R172: the fields that a fail of channel `c` of site `n` changes beside the channel's count. -/
def failFields (n c : Nat) : List Fld := [Reg.CH_FAILCNT.FIRST_VEC c, Reg.SO_FC_CNT.FAIL_VEC n] ++ ringFields n

section FailCapture
variable {s t : State} {fs : List Fld} {n c pin : Nat} {w : Win}

theorem State.Beside.writeLanes {a : Nat} {bs : List ByteLane} (h : s.Beside fs t) : s.Beside fs (t.writeLanes a bs) := by
  induction bs generalizing a t with
  | nil => exact h
  | cons b bs ih =>
    cases b with
    | none => exact ih h
    | some b => exact ih (ite_kept (fun _ => h.upd rfl rfl) fun _ => h)

theorem State.memReq_beside {a k : Nat} : s.Beside memoryFields (s.memReq a k) where
  chans := by rw [(State.memReq_requested s a k).frame]
  fields := (State.memReq_requested s a k).fields.mono (by decide)

theorem State.Beside.uncorrMet (h : s.Beside memoryFields t) : s.Beside memoryFields t.uncorrMet :=
  (h.set Reg.PM_CNT.UNCORR _ (by decide) (by decide) (by decide)).set Reg.PM_STAT.UNCORR 1 (by decide) (by decide) (by decide)

theorem State.memWrite_beside {a : Nat} {bs : List ByteLane} : s.Beside memoryFields (s.memWrite a bs) :=
  have hbytes : s.Beside memoryFields ((s.memReq a bs.length).writeLanes a bs) := State.memReq_beside.writeLanes
  have hmarks {us : List Nat} : s.Beside memoryFields { (s.memReq a bs.length).writeLanes a bs with uncorr := us } := hbytes.upd rfl rfl
  ite_kept (fun _ => hmarks.uncorrMet) fun _ => hmarks

/-- R174: an entry of the ring, written or dropped. -/
theorem State.fcWrite_beside : s.Beside (ringFields n) (s.fcWrite n w pin).1 := by
  have hmem {a : Nat} {bs : List ByteLane} : s.Beside (ringFields n) (s.memWrite a bs) := State.memWrite_beside.mono fun _ => List.mem_append_right _
  have hdropped : s.Beside (ringFields n) ((s.inc (Reg.SO_FC_CNT.DROPPED n)).set Reg.SO_STAT.FC_DROP 1) :=
    (State.Beside.refl.set (Reg.SO_FC_CNT.DROPPED n) _ (Nat.le_of_ble_eq_true rfl) (Nat.le_of_ble_eq_true rfl) (by simp [ringFields])).set
      Reg.SO_STAT.FC_DROP 1 (by decide) (by decide) (by simp [ringFields])
  unfold State.fcWrite
  extract_lets e cap wr rd x s1 a head mask s2
  refine ite_fst_kept (fun _ => ite_fst_kept (fun _ => hdropped) fun _ => hdropped.upd rfl rfl) fun _ => ?written
  exact (hmem.set (Reg.SO_FC_PTR.WR n) _ (Nat.le_of_ble_eq_true rfl) (Nat.le_of_ble_eq_true rfl) (by simp [ringFields])).set
    (Reg.SO_FC_CNT.WRITTEN n) _ (Nat.le_of_ble_eq_true rfl) (Nat.le_of_ble_eq_true rfl) (by simp [ringFields])

/-- R172: a fail counts in its channel; what else it changes lies beside the slices. -/
theorem State.countFail_beside : (s.inc (Reg.CH_FAILCNT.COUNT c)).Beside (failFields n c) (s.countFail n c pin w) := by
  unfold State.countFail
  extract_lets s1 s2 q s3
  have hring {u v : State} (h : u.Beside (ringFields n) v) : u.Beside (failFields n c) v := h.mono fun _ => List.mem_append_right _
  have hfirst : s1.Beside (failFields n c) s2 :=
    ite_kept (fun _ => State.Beside.refl.set (Reg.CH_FAILCNT.FIRST_VEC c) _ (Nat.le_of_ble_eq_true rfl) (Nat.le_of_ble_eq_true rfl) (by simp [failFields]))
      fun _ => State.Beside.refl
  have hvec : s1.Beside (failFields n c) s3 :=
    (hfirst.set (Reg.SO_FC_CNT.FAIL_VEC n) _ (Nat.le_of_ble_eq_true rfl) (Nat.le_of_ble_eq_true rfl) (by simp [failFields])).upd rfl rfl
  split
  case h_1 m _ =>
    split
    · exact hfirst.trans (hring (State.memWrite_beside.mono fun _ => List.mem_append_right _))
    · exact hfirst
  case h_2 =>
    refine State.Beside.upd (t := (if s.flag (Reg.SO_FC_CFG.EN n) then s3.fcWrite n w pin else (s3, none)).1) ?_ rfl rfl
    exact ite_fst_kept (fun _ => hvec.trans (hring State.fcWrite_beside)) fun _ => hvec

/-- The words with the indices 6 and 7 of their block lie apart from what a fail changes, but for FIRST_VEC. -/
theorem apart_failFields {f : Fld} (hlo : f.lo ≤ f.hi) (hf : f.addr % 16 = 6 ∨ f.addr % 16 = 7 ∧ f.hi < 80) : f.Apart (failFields n c) := by
  simp only [failFields, ringFields, memoryFields, List.cons_append, List.nil_append, Fld.apart_cons, Fld.apart_nil, Reg.CH_FAILCNT.FIRST_VEC,
    Reg.SO_FC_CNT.FAIL_VEC, Reg.SO_FC_PTR.WR, Reg.SO_FC_CNT.WRITTEN, Reg.SO_FC_CNT.DROPPED, Reg.SO_STAT.FC_DROP, Reg.SO_STAT.STACK0,
    Reg.SO_STAT.STACK1, Reg.PM_CNT.UNCORR, Reg.PM_STAT.UNCORR]
  omega

theorem apart_failCount : (Reg.CH_FAILCNT.COUNT c).Apart (failFields n c) :=
  apart_failFields (Nat.zero_le _) (.inr ⟨by simp only [Reg.CH_FAILCNT.COUNT]; omega, Nat.le_of_ble_eq_true rfl⟩)

theorem apart_captCount : (Reg.CH_CAPT.COUNT c).Apart (failFields n c) :=
  apart_failFields (Nat.le_of_ble_eq_true rfl) (.inl (by simp only [Reg.CH_CAPT.COUNT]; omega))

theorem State.countFail_chan : (s.countFail n c pin w).chan c = s.chan c := State.countFail_beside.chan c

/-- R172: one fail more. -/
theorem State.countFail_count : (s.countFail n c pin w).get (Reg.CH_FAILCNT.COUNT c) = (s.get (Reg.CH_FAILCNT.COUNT c) + 1) % 2 ^ 64 :=
  (State.countFail_beside.fields.get apart_failCount).trans (State.get_set_same _ _ (Nat.le_of_ble_eq_true rfl) (Nat.le_of_ble_eq_true rfl))

theorem State.countFail_captCount : (s.countFail n c pin w).get (Reg.CH_CAPT.COUNT c) = s.get (Reg.CH_CAPT.COUNT c) :=
  (State.countFail_beside.fields.get apart_captCount).trans
    (State.get_set_addr _ _ _ (by simp only [Reg.CH_CAPT.COUNT, Reg.CH_FAILCNT.COUNT]; omega))

end FailCapture

/-! ### Changes of one slice -/

/-- From `s` to `t` nothing but registers and pin slices has changed, and of the registers the words of `ws` alone. -/
structure State.SliceStep (ws : List Nat) (s t : State) : Prop where
  words : s.SameWords ws t
  frame : t = { s with regs := t.regs, chans := t.chans }

section Slice
variable {s t : State} {ws vs : List Nat} {c : Nat}

@[simp] theorem State.chan_setChan_same {k : Chan} : (s.setChan c k).chan c = k := sget_sset_same _ _ _ _

@[simp] theorem State.chan_refreshChan {d : Nat} : (s.refreshChan c).chan d = s.chan d := rfl

theorem State.SliceStep.refl : s.SliceStep ws s := ⟨State.SameWords.refl, rfl⟩

theorem State.SliceStep.mono (h : s.SliceStep ws t) (hs : ∀ a ∈ ws, a ∈ vs) : s.SliceStep vs t :=
  ⟨fun a ha => h.words a fun hmem => ha (hs a hmem), h.frame⟩

theorem State.SliceStep.setChan (h : s.SliceStep ws t) (d : Nat) (k : Chan) : s.SliceStep ws (t.setChan d k) where
  words := h.words.snoc (State.SameWords.of_regs rfl)
  frame := by rw [h.frame]; rfl

theorem State.SliceStep.setReg (h : s.SliceStep ws t) (a : Nat) (w : Word) (ha : a ∈ ws) : s.SliceStep ws (t.setReg a w) where
  words := h.words.snoc (State.SameWords.setReg _ _ ha)
  frame := by rw [h.frame]; rfl

theorem State.SliceStep.set (h : s.SliceStep ws t) (f : Fld) (v : Nat) (hf : f.addr ∈ ws) : s.SliceStep ws (t.set f v) := h.setReg _ _ hf

theorem State.SliceStep.refreshChan (h : s.SliceStep [Reg.CH_STAT.word c] t) : s.SliceStep [Reg.CH_STAT.word c] (t.refreshChan c) :=
  h.setReg _ _ (List.mem_singleton_self _)

theorem State.SliceStep.presentIdle (h : s.SliceStep [Reg.CH_STAT.word c] t) : s.SliceStep [Reg.CH_STAT.word c] (t.presentIdle c) := by
  unfold State.presentIdle
  split
  · exact h
  · exact ite_kept (fun _ => (h.setChan c _).refreshChan) fun _ => h

/-- R104: CH_STAT follows its slice in all but BUS, which the bus switch sets. -/
theorem State.refreshChan_bus : (s.refreshChan c).get (Reg.CH_STAT.BUS c) = s.get (Reg.CH_STAT.BUS c) := by
  unfold State.refreshChan State.get
  dsimp only [Reg.CH_STAT.BUS, Reg.CH_STAT.word]
  rw [State.reg_setReg_same]
  iterate 7 refine (wget_wput_other _ _ _ _ _ _ (by decide) (by decide) (by decide)).trans ?_
  rfl

/-- R88: the idle state sets the level of a slice and leaves its bus switch alone. -/
theorem State.presentIdle_busDz : ((s.presentIdle c).chan c).busDz = (s.chan c).busDz := by
  unfold State.presentIdle
  split
  · rfl
  · exact ite_kept (P := fun t => (t.chan c).busDz = (s.chan c).busDz) (fun _ => by simp) fun _ => rfl

end Slice

/-! ### The sample of a strobe (R96, R99) -/

/-- R99: what the comparator pair shows where an unresolved comparator shows 0. -/
def Chan.shows (k : Chan) (o : Strobe) : Strobe :=
  { o with hi := o.hi && !k.unresHi, lo := o.lo && !k.unresLo, hiAlways := o.hiAlways && !k.unresHi, loNever := o.loNever || k.unresLo,
           mid := o.mid && !k.unresLo }

/-- R96: the window `w` of channel `c` is evaluated: it is in flight no longer, and the slice shows the sampled pair. -/
def State.sampled (s : State) (c : Nat) (o : Strobe) (w : Win) : State :=
  (s.setChan c { s.chan c with wins := (s.chan c).wins.erase w, rawHi := o.hi, rawLo := o.lo }).refreshChan c

/-- R369, R376: the sweeps and the STALE mark of calibration take in the compare of window `w`. -/
def State.calTold (s : State) (n c : Nat) (o : Strobe) (w : Win) : State :=
  (if w.code = 4 ∨ w.code = 5 then s.calStrobe c w.start o else s).calCompare n c

section Strobe
variable {s : State} {c n i : Nat} {o : Strobe} {w : Win} {p : Pin}

theorem Chan.shows_resolved {k : Chan} (hhi : k.unresHi = false) (hlo : k.unresLo = false) : k.shows o = o := by simp [Chan.shows, hhi, hlo]

theorem State.sampled_step : s.SliceStep [Reg.CH_STAT.word c] (s.sampled c o w) := (State.SliceStep.refl.setChan c _).refreshChan

theorem State.sampled_wins : ((s.sampled c o w).chan c).wins = (s.chan c).wins.erase w := by simp [State.sampled]

/-- A word of the channel beside CH_STAT stays. -/
theorem State.sampled_get {f : Fld} (hf : f.addr ≠ Reg.CH_STAT.word c) : (s.sampled c o w).get f = s.get f :=
  State.sampled_step.words.get (by simpa using hf)

theorem State.calStrobe_beside {start : Nat} : s.Beside [] (s.calStrobe c start o) := by
  unfold State.calStrobe
  split
  · exact State.Beside.refl
  · exact State.forL_kept _ _ (fun _ _ ht => ht.upd rfl rfl) State.Beside.refl

theorem State.calTold_beside : s.Beside [] (s.calTold n c o w) :=
  have hsweep : s.Beside [] (if w.code = 4 ∨ w.code = 5 then s.calStrobe c w.start o else s) :=
    ite_kept (fun _ => State.calStrobe_beside) fun _ => State.Beside.refl
  ite_kept (fun _ => hsweep) fun _ => hsweep.upd rfl rfl

theorem State.calTold_get {f : Fld} (hf : f.lo ≤ f.hi) : (s.calTold n c o w).get f = s.get f :=
  State.calTold_beside.fields.get (Fld.apart_nil.2 hf)

/-- Window `w` is due at channel `c`, which is pin `i` of site `n`, and neither has tripped. -/
structure State.Due (s : State) (c n i : Nat) (w : Win) : Prop where
  due : s.dueWin (s.chan c) = some w
  pin : ∃ p, s.chanPin c = some (i, p)
  site : s.chanSite c = some n
  untripped : s.siteState n ≠ Site.TRIPPED
  chanUntripped : s.flag (Reg.CH_STAT.TRIPPED c) = false

theorem State.Due.strobe_eq (h : s.Due c n i w) : s.strobe c o =
    if s.inPassage c then (s.sampled c o w).set (Reg.CH_STAT.CMP_SUPPR c) 1
    else if w.code = 0xA then (s.sampled c o w).capture c (w.openAt / 65536).toNat (o.hi && !(s.chan c).unresHi) (o.lo && !(s.chan c).unresLo)
    else if w.code = 0xB then s.sampled c o w
    else if w.subst then ((s.sampled c o w).calTold n c o w).countFail n c i w
    else if s.flag (Reg.CH_CMP.MASK c) ∨ comparePass w.code w.window ((s.chan c).shows o) then (s.sampled c o w).calTold n c o w
    else ((s.sampled c o w).calTold n c o w).countFail n c i w := by
  obtain ⟨hdue, ⟨p, hpin⟩, hsite, huntripped, hchan⟩ := h
  have hlive : ¬ (s.siteState n = Site.TRIPPED ∨ s.flag (Reg.CH_STAT.TRIPPED c) = true) := by simp [huntripped, hchan]
  unfold State.strobe
  simp only [hdue, hpin, hsite, if_neg hlive]
  rfl

/-- R109: while a passage runs the strobe only sets CMP_SUPPR. -/
theorem State.Due.suppressed (h : s.Due c n i w) (hpass : s.inPassage c = true) : s.strobe c o = (s.sampled c o w).set (Reg.CH_STAT.CMP_SUPPR c) 1 := by
  rw [h.strobe_eq, if_pos hpass]

/-- R98: code S captures the pair. -/
theorem State.Due.captures (h : s.Due c n i w) (hpass : s.inPassage c = false) (hcode : w.code = 0xA) :
    s.strobe c o = (s.sampled c o w).capture c (w.openAt / 65536).toNat (o.hi && !(s.chan c).unresHi) (o.lo && !(s.chan c).unresLo) := by
  rw [h.strobe_eq, if_neg (by simp [hpass]), if_pos hcode]

/-- R96, R97: a compare of a resolved pair counts a fail where it neither passes nor is masked. -/
theorem State.Due.compares (h : s.Due c n i w) (hpass : s.inPassage c = false) (hcode : w.code = 4 ∨ w.code = 5 ∨ w.code = 6)
    (hhi : (s.chan c).unresHi = false) (hlo : (s.chan c).unresLo = false) (hsubst : w.subst = false) :
    s.strobe c o = if s.flag (Reg.CH_CMP.MASK c) = true ∨ comparePass w.code w.window o = true then (s.sampled c o w).calTold n c o w
      else ((s.sampled c o w).calTold n c o w).countFail n c i w := by
  rw [h.strobe_eq, if_neg (by simp [hpass]), if_neg (by omega), if_neg (by omega), if_neg (by simp [hsubst]), Chan.shows_resolved hhi hlo]

end Strobe

/-! ### Captures (R98) -/

section Capture
variable {s : State} {c b : Nat} {hi lo : Bool}

theorem State.capture_chan {d : Nat} : (s.capture c b hi lo).chan d = s.chan d := rfl

theorem State.capture_samples : (s.capture c b hi lo).get (Reg.CH_CAPT.SAMPLES c) = (s.get (Reg.CH_CAPT.SAMPLES c) * 4 + b2n hi * 2 + b2n lo) % 2 ^ 64 := by
  unfold State.capture State.inc State.add
  rw [State.get_set_other _ _ _ (Nat.le_of_ble_eq_true rfl) (Nat.le_of_ble_eq_true rfl) (.inl (Nat.le_of_ble_eq_true rfl)),
    State.get_set_other _ _ _ (Nat.le_of_ble_eq_true rfl) (Nat.le_of_ble_eq_true rfl) (.inl (Nat.le_of_ble_eq_true rfl)),
    State.get_set_same _ _ (Nat.le_of_ble_eq_true rfl) (Nat.le_of_ble_eq_true rfl)]
  rfl

theorem State.capture_count : (s.capture c b hi lo).get (Reg.CH_CAPT.COUNT c) = (s.get (Reg.CH_CAPT.COUNT c) + 1) % 2 ^ 32 := by
  unfold State.capture State.inc State.add
  rw [State.get_set_other _ _ _ (Nat.le_of_ble_eq_true rfl) (Nat.le_of_ble_eq_true rfl) (.inl (Nat.le_of_ble_eq_true rfl)),
    State.get_set_same _ _ (Nat.le_of_ble_eq_true rfl) (Nat.le_of_ble_eq_true rfl),
    State.get_set_other _ _ _ (Nat.le_of_ble_eq_true rfl) (Nat.le_of_ble_eq_true rfl) (.inr (Nat.le_of_ble_eq_true rfl))]
  rfl

theorem State.capture_stamp : (s.capture c b hi lo).get (Reg.CH_CAPT.STAMP c) = b % 2 ^ 32 :=
  State.get_set_same _ _ (Nat.le_of_ble_eq_true rfl) (Nat.le_of_ble_eq_true rfl)

theorem State.SliceStep.capture {t : State} {ws : List Nat} (h : s.SliceStep ws t) (hc : Reg.CH_CAPT.word c ∈ ws) : s.SliceStep ws (t.capture c b hi lo) :=
  ((h.set (Reg.CH_CAPT.SAMPLES c) _ hc).set (Reg.CH_CAPT.COUNT c) _ hc).set (Reg.CH_CAPT.STAMP c) _ hc

end Capture

/-! ### The rows -/

section Rows
variable {s : State} {c : Fin 1024} {n i : Nat} {o : Strobe} {tick : BitVec 16} {w : Win} {b : Nat} {above : Bool}

theorem exec_strobe : exec (.strobe c o tick) s = .next (s.strobe c o) := rfl

theorem exec_comparatorResolved_hi : exec (.comparatorResolved false c 6 above) s = .next (s.resolveChan c 6 above).follow := rfl

/-- R99: CMP_HI resolves: the slice shows where the pin lies. -/
theorem State.resolveChan_hi {c : Nat} (h : (s.chan c).unresHi = true) :
    s.resolveChan c 6 above = (s.setChan c { s.chan c with unresHi := false, rawHi := above }).refreshChan c := by
  unfold State.resolveChan
  simp [h]

theorem exec_clampHit (harm : s.flag (Reg.CH_CTRL.OUT_ARM c) = true) (htrip : s.flag (Reg.CH_STAT.TRIPPED c) = false) (hpass : s.inPassage c = false)
    (hmember : s.pmuMember c = false) : exec (.clampHit c) s = .next (s.set (Reg.CH_STAT.CLAMP_HIT c) 1) :=
  congrArg Host.Outcome.next (if_pos (by simp [harm, htrip, hpass, hmember]))

theorem exec_busSwitchClose (h : (s.chan c).busClose = some b) (hb : b ≤ s.now) :
    exec (.busSwitchClose c) s = .next (((s.setChan c { s.chan c with busClose := none }).set (Reg.CH_STAT.BUS c) 1).refreshChan c) :=
  congrArg Host.Outcome.next (if_pos (by simp [h, hb]))

theorem exec_busSwitchDzEnd (h : (s.chan c).busDz = some b) (hb : b ≤ s.now) :
    exec (.busSwitchDzEnd c) s = .next ((s.setChan c { s.chan c with busDz := none }).presentIdle c) :=
  congrArg Host.Outcome.next (if_pos (by simp [h, hb]))

/-- R98: what a strobe of code S leaves. -/
theorem State.Due.strobe_capture (h : s.Due c n i w) (hpass : s.inPassage c = false) (hcode : w.code = 0xA) :
    ∃ t : State, exec (.strobe c o tick) s = .next t ∧
      t.get (Reg.CH_CAPT.SAMPLES c) = (s.get (Reg.CH_CAPT.SAMPLES c) * 4 + b2n (o.hi && !(s.chan c).unresHi) * 2
        + b2n (o.lo && !(s.chan c).unresLo)) % 2 ^ 64 ∧
      t.get (Reg.CH_CAPT.COUNT c) = (s.get (Reg.CH_CAPT.COUNT c) + 1) % 2 ^ 32 ∧
      t.get (Reg.CH_CAPT.STAMP c) = (w.openAt / 65536).toNat % 2 ^ 32 ∧ (t.chan c).wins = (s.chan c).wins.erase w ∧
      s.SameWords [Reg.CH_STAT.word c, Reg.CH_CAPT.word c] t ∧ t = { s with regs := t.regs, chans := t.chans } := by
  have hword : Reg.CH_CAPT.word c ≠ Reg.CH_STAT.word c := by simp only [Reg.CH_CAPT.word, Reg.CH_STAT.word]; omega
  have hsample : s.SliceStep [Reg.CH_STAT.word c, Reg.CH_CAPT.word c] (s.sampled c o w) := State.sampled_step.mono (by simp)
  have hstep := hsample.capture (c := c) (b := (w.openAt / 65536).toNat) (hi := o.hi && !(s.chan c).unresHi) (lo := o.lo && !(s.chan c).unresLo) (by simp)
  refine ⟨_, exec_strobe.trans (congrArg _ (h.captures hpass hcode)), ?_, ?_, State.capture_stamp, ?_, hstep.words, hstep.frame⟩
  · rw [State.capture_samples, State.sampled_get hword]
  · rw [State.capture_count, State.sampled_get hword]
  · rw [State.capture_chan, State.sampled_wins]

/-- R172: what a strobe that compares leaves. -/
theorem State.Due.strobe_compare (h : s.Due c n i w) (hpass : s.inPassage c = false) (hcode : w.code = 4 ∨ w.code = 5 ∨ w.code = 6)
    (hhi : (s.chan c).unresHi = false) (hlo : (s.chan c).unresLo = false) (hsubst : w.subst = false) :
    ∃ t : State, exec (.strobe c o tick) s = .next t ∧ (t.chan c).wins = (s.chan c).wins.erase w ∧
      t.get (Reg.CH_FAILCNT.COUNT c) = (s.get (Reg.CH_FAILCNT.COUNT c)
        + (if s.flag (Reg.CH_CMP.MASK c) = true ∨ comparePass w.code w.window o = true then 0 else 1)) % 2 ^ 64 ∧
      t.get (Reg.CH_CAPT.COUNT c) = s.get (Reg.CH_CAPT.COUNT c) := by
  have hwins : (((s.sampled c o w).calTold n c o w).chan c).wins = (s.chan c).wins.erase w := by
    rw [State.calTold_beside.chan, State.sampled_wins]
  have hfails : ((s.sampled c o w).calTold n c o w).get (Reg.CH_FAILCNT.COUNT c) = s.get (Reg.CH_FAILCNT.COUNT c) := by
    rw [State.calTold_get (f := Reg.CH_FAILCNT.COUNT c) (Nat.zero_le _), State.sampled_get (by simp only [Reg.CH_FAILCNT.COUNT, Reg.CH_STAT.word]; omega)]
  have hcapt : ((s.sampled c o w).calTold n c o w).get (Reg.CH_CAPT.COUNT c) = s.get (Reg.CH_CAPT.COUNT c) := by
    rw [State.calTold_get (f := Reg.CH_CAPT.COUNT c) (Nat.le_of_ble_eq_true rfl), State.sampled_get (by simp only [Reg.CH_CAPT.COUNT, Reg.CH_STAT.word]; omega)]
  refine ⟨_, exec_strobe.trans (congrArg _ (h.compares hpass hcode hhi hlo hsubst)), ?_⟩
  split
  · exact ⟨hwins, hfails.trans (Nat.mod_eq_of_lt (State.get_lt (Reg.CH_FAILCNT.COUNT c))).symm, hcapt⟩
  · exact ⟨by rw [State.countFail_chan, hwins], by rw [State.countFail_count, hfails], by rw [State.countFail_captCount, hcapt]⟩

/-- R109: what a strobe in a passage leaves. -/
theorem State.Due.strobe_suppressed (h : s.Due c n i w) (hpass : s.inPassage c = true) :
    ∃ t : State, exec (.strobe c o tick) s = .next t ∧ t.flag (Reg.CH_STAT.CMP_SUPPR c) = true ∧ t.reg (Reg.CH_CAPT.word c) = s.reg (Reg.CH_CAPT.word c) ∧
      t.reg (Reg.CH_FAILCNT.word c) = s.reg (Reg.CH_FAILCNT.word c) := by
  have hwords : s.SameWords [Reg.CH_STAT.word c] ((s.sampled c o w).set (Reg.CH_STAT.CMP_SUPPR c) 1) :=
    State.sampled_step.words.snoc (State.SameWords.set _ _ (List.mem_singleton_self _))
  refine ⟨_, exec_strobe.trans (congrArg _ (h.suppressed hpass)), State.flag_set_one _ (Nat.le_of_ble_eq_true rfl) (Nat.le_of_ble_eq_true rfl),
    hwords _ ?_, hwords _ ?_⟩
  · simp only [List.mem_singleton, Reg.CH_CAPT.word, Reg.CH_STAT.word]
    omega
  · simp only [List.mem_singleton, Reg.CH_FAILCNT.word, Reg.CH_STAT.word]
    omega

end Rows

/-- Settles O8: a strobe that is due captures, compares or is suppressed, and the comparator, the clamp and the bus switch of a channel change its slice
and its CH_STAT alone. -/
theorem strobesAndPinEvents : Obligations.StrobesAndPinEvents := by
  unfold Obligations.StrobesAndPinEvents
  refine ⟨fun s c o tick w n p hdue hcode hpin hsite hstate htrip hpass => ?capture,
    fun s c o tick w n p hdue hcode hpin hsite hstate htrip hpass hhi hlo hsubst => ?compare,
    fun s c o tick w n p hdue hpin hsite hstate htrip hpass => ?suppressed, fun s c above hunres => ?resolved,
    fun s c harm htrip hpass hmember => ?clamp, fun s c b hclose hb => ?close, fun s c b hdz hb => ?dzEnd⟩
  case capture => exact State.Due.strobe_capture ⟨hdue, ⟨p.2, hpin⟩, hsite, hstate, htrip⟩ hpass hcode
  case compare => exact State.Due.strobe_compare ⟨hdue, ⟨p.2, hpin⟩, hsite, hstate, htrip⟩ hpass hcode hhi hlo hsubst
  case suppressed => exact State.Due.strobe_suppressed ⟨hdue, ⟨p.2, hpin⟩, hsite, hstate, htrip⟩ hpass
  case resolved =>
    have hstep : s.SliceStep [Reg.CH_STAT.word c] ((s.setChan c { s.chan c with unresHi := false, rawHi := above }).refreshChan c) :=
      (State.SliceStep.refl.setChan c _).refreshChan
    exact ⟨_, by rw [exec_comparatorResolved_hi, State.resolveChan_hi hunres], by simp, by simp, by simp, hstep.words, hstep.frame⟩
  case clamp =>
    exact ⟨_, exec_clampHit harm htrip hpass hmember, State.flag_set_one _ (Nat.le_of_ble_eq_true rfl) (Nat.le_of_ble_eq_true rfl),
      State.SameFields.set _ _ (Nat.le_of_ble_eq_true rfl) (Nat.le_of_ble_eq_true rfl) (List.mem_singleton_self _), rfl⟩
  case close =>
    have hstep : s.SliceStep [Reg.CH_STAT.word c] (((s.setChan c { s.chan c with busClose := none }).set (Reg.CH_STAT.BUS c) 1).refreshChan c) :=
      ((State.SliceStep.refl.setChan c _).set (Reg.CH_STAT.BUS c) 1 (List.mem_singleton_self _)).refreshChan
    refine ⟨_, exec_busSwitchClose hclose hb, ?_, ?_, hstep.words, hstep.frame⟩
    · rw [State.flag, State.refreshChan_bus]
      exact State.flag_set_one _ (Nat.le_of_ble_eq_true rfl) (Nat.le_of_ble_eq_true rfl)
    · exact congrArg Chan.busClose State.chan_setChan_same
  case dzEnd =>
    have hstep : s.SliceStep [Reg.CH_STAT.word c] ((s.setChan c { s.chan c with busDz := none }).presentIdle c) := (State.SliceStep.refl.setChan c _).presentIdle
    exact ⟨_, exec_busSwitchDzEnd hdz hb, by rw [State.presentIdle_busDz, State.chan_setChan_same], hstep.words, hstep.frame⟩

end Sys2Proof.Machine
end

section
/-! SUPPORT. Tense items, regions of pattern memory, fail-capture rings and the memory stacks, as direct writes and their events change them
(R118, R132, R136, R165, R172, R174). -/

namespace Sys2Proof.Machine

/-! ### Steps that change registers alone -/

/-- From `s` to `t` nothing but registers has changed, and of the registers the words of `ws` alone. -/
structure State.WordStep (ws : List Nat) (s t : State) : Prop where
  words : s.SameWords ws t
  frame : t = { s with regs := t.regs }

section WordSteps
variable {s t : State} {ws : List Nat}

theorem State.WordStep.refl : s.WordStep ws s := ⟨State.SameWords.refl, rfl⟩

theorem State.WordStep.setReg (h : s.WordStep ws t) (a : Nat) (w : Word) (ha : a ∈ ws) : s.WordStep ws (t.setReg a w) where
  words := h.words.snoc (State.SameWords.setReg _ _ ha)
  frame := by rw [h.frame]; rfl

theorem State.WordStep.set (h : s.WordStep ws t) (f : Fld) (v : Nat) (hf : f.addr ∈ ws) : s.WordStep ws (t.set f v) := h.setReg _ _ hf

end WordSteps

/-! ### Tense items (R116, R118) -/

section TenseItems
variable {s : State} {p : Port} {b c : Bool} {e f j k i m v : Nat} {w : Word}

theorem tenseKey_inj (hj : j < 64) (hk : k < 64) (hi : i < 6) (hm : m < 6) : tenseKey e j i = tenseKey f k m ↔ e = f ∧ j = k ∧ i = m := by
  simp only [tenseKey]
  omega

theorem State.tenseItem_setItem :
    (s.setItem b e j i v).tenseItem c f k m = if c = b ∧ tenseKey f k m = tenseKey e j i then v else s.tenseItem c f k m := by
  cases b <;> cases c <;> simp [State.setItem, State.tenseItem, sget_sset]

/-- R118: the item that a value of the tense port names, stored in both banks. -/
def State.itemStored (s : State) (e : Nat) (w : Word) : State := (s.tenseWrite false e w).tenseWrite true e w

theorem State.itemStored_tenseItem : (s.itemStored e w).tenseItem b f k m =
    if tenseKey f k m = tenseKey e (wget w 75 70) (wget w 67 64) then wget w 63 0 else s.tenseItem b f k m := by
  rw [State.itemStored, State.tenseWrite, State.tenseWrite, State.tenseItem_setItem, State.tenseItem_setItem]
  cases b <;> simp

theorem wget_item_lt (h : tenseWriteBad w = false) : wget w 67 64 < 6 := by
  simp only [tenseWriteBad, Bool.or_eq_false_iff, decide_eq_false_iff_not] at h
  omega

theorem State.eeTwrWrite_stores (hword : s.wordRefused (Reg.EE_TWR.word e) = false) (hvalue : tenseWriteBad w = false) :
    s.eeTwrWrite p e w = s.itemStored e w := if_neg (by simp [hword, hvalue])

end TenseItems

/-! ### Leases and the refusal of a region (R136, R144) -/

section Regions
variable {s : State} {p : Port} {n i v x a : Nat} {w : Word}

theorem PM_RGN_ne_PM_STAT (i : Nat) : Reg.PM_RGN.word i ≠ Reg.PM_STAT.word := by
  simp only [Reg.PM_RGN.word, Reg.PM_STAT.word]
  omega

theorem PM_RGN_not_reported (i : Nat) : Reg.PM_RGN.word i ∉ reportWords := by
  simp only [reportWords, Reg.PM_RGN.word, List.mem_cons, List.not_mem_nil, or_false, not_or, Reg.CP_STAT.word, Reg.CP_CNT.word, Reg.HL_STAT.word,
    Reg.HL_LAST.word, Reg.LOG_STAT.word]
  omega

/-- PM_STAT is no word that tells of regions or of what holds them. -/
theorem State.get_lastIndex {f : Fld} (hf : f.addr ≠ Reg.PM_STAT.word) : (s.set Reg.PM_STAT.LAST_INDEX v).get f = s.get f :=
  State.get_set_addr _ _ _ hf

theorem State.rgnLo_lastIndex : (s.set Reg.PM_STAT.LAST_INDEX v).rgnLo i = s.rgnLo i :=
  congrArg (· * 4096) (State.get_lastIndex (f := Reg.PM_RGN.BASE i) (PM_RGN_ne_PM_STAT i))

theorem State.rgnHi_lastIndex : (s.set Reg.PM_STAT.LAST_INDEX v).rgnHi i = s.rgnHi i :=
  congrArg₂ (fun base size => (base + size) * 4096) (State.get_lastIndex (f := Reg.PM_RGN.BASE i) (PM_RGN_ne_PM_STAT i))
    (State.get_lastIndex (f := Reg.PM_RGN.SIZE i) (PM_RGN_ne_PM_STAT i))

theorem State.flag_lastIndex {f : Fld} (hf : f.addr ≠ Reg.PM_STAT.word) : (s.set Reg.PM_STAT.LAST_INDEX v).flag f = s.flag f := by
  rw [State.flag, State.flag, State.get_lastIndex hf]

theorem State.rgnValid_lastIndex : (s.set Reg.PM_STAT.LAST_INDEX v).rgnValid i = s.rgnValid i := State.flag_lastIndex (PM_RGN_ne_PM_STAT i)

theorem State.rgnKind_lastIndex : (s.set Reg.PM_STAT.LAST_INDEX v).rgnKind i = s.rgnKind i :=
  State.get_lastIndex (PM_RGN_ne_PM_STAT i)

theorem State.inRgn_lastIndex : (s.set Reg.PM_STAT.LAST_INDEX v).inRgn i a = s.inRgn i a := by
  rw [State.inRgn, State.inRgn, State.rgnLo_lastIndex, State.rgnHi_lastIndex]

theorem Desc.inRgn_lastIndex (d : Desc) : d.inRgn (s.set Reg.PM_STAT.LAST_INDEX v) i = d.inRgn s i := by
  simp only [Desc.inRgn, State.inRgn_lastIndex]

theorem State.streamUses_lastIndex : (s.set Reg.PM_STAT.LAST_INDEX v).streamUses x i = s.streamUses x i := by
  have hstate : (s.set Reg.PM_STAT.LAST_INDEX v).streamState x = s.streamState x :=
    State.get_lastIndex (f := Reg.SO_STR_STAT.STATE x) (by simp only [Reg.SO_STR_STAT.STATE, Reg.PM_STAT.word]; omega)
  simp only [State.streamUses, hstate, State.inRgn_lastIndex, Desc.inRgn_lastIndex]
  rfl

theorem State.holds_lastIndex (hn : n < 64) : (s.set Reg.PM_STAT.LAST_INDEX v).holds n i = s.holds n i := by
  have hlive : (s.set Reg.PM_STAT.LAST_INDEX v).siteLive n = s.siteLive n :=
    congrArg _ (State.get_lastIndex (f := Reg.SQ_STAT.STATE n) (by simp only [Reg.SQ_STAT.STATE, Reg.PM_STAT.word]; omega))
  have hring : Reg.SO_FC_CFG.word n ≠ Reg.PM_STAT.word := by simp only [Reg.SO_FC_CFG.word, Reg.PM_STAT.word]; omega
  simp only [State.holds, State.rgnValid_lastIndex, State.rgnKind_lastIndex, State.streamUses_lastIndex, hlive,
    State.flag_lastIndex (f := Reg.SO_FC_CFG.EN n) hring, State.get_lastIndex (f := Reg.SO_FC_CFG.BASE n) hring, State.inRgn_lastIndex]
  rfl

theorem State.leased_lastIndex : (s.set Reg.PM_STAT.LAST_INDEX v).leased i = s.leased i := by
  have hholders : (s.set Reg.PM_STAT.LAST_INDEX v).holders i = s.holders i :=
    List.filter_congr fun n hn => State.holds_lastIndex (List.mem_range.1 hn)
  have hovf : Reg.LG_OVF.word ≠ Reg.PM_STAT.word := by decide
  simp only [State.leased, hholders, State.rgnValid_lastIndex, State.rgnKind_lastIndex, State.flag_lastIndex (f := Reg.LG_OVF.EN) hovf,
    State.get_lastIndex (f := Reg.LG_OVF.BASE) hovf, State.inRgn_lastIndex]

/-- R136: whether a region write is refused does not hang on LAST_INDEX, which it has written before. -/
theorem State.rgnRefusal_lastIndex : (s.set Reg.PM_STAT.LAST_INDEX v).rgnRefusal i w = s.rgnRefusal i w := by
  have hcur : (s.set Reg.PM_STAT.LAST_INDEX v).reg (Reg.PM_RGN.word i) = s.reg (Reg.PM_RGN.word i) := State.reg_set_other _ (PM_RGN_ne_PM_STAT i)
  simp only [State.rgnRefusal, hcur, State.leased_lastIndex, State.rgnValid_lastIndex, State.rgnLo_lastIndex, State.rgnHi_lastIndex]

/-! ### The write of a region -/

/-- R136: PM_STAT once a region write has told its index and its result. -/
def State.rgnReported (s : State) (i c : Nat) : State := (s.set Reg.PM_STAT.LAST_INDEX i).set Reg.PM_STAT.LAST_RESULT c

theorem State.rgnReported_index (hi : i < 256) {c : Nat} : (s.rgnReported i c).get Reg.PM_STAT.LAST_INDEX = i := by
  rw [State.rgnReported, State.get_set_other _ _ _ (by decide) (by decide) (by decide), State.get_set_same _ _ (by decide) (by decide)]
  exact Nat.mod_eq_of_lt hi

theorem State.rgnReported_result {c : Nat} (hc : c < 256) : (s.rgnReported i c).get Reg.PM_STAT.LAST_RESULT = c := by
  rw [State.rgnReported, State.get_set_same _ _ (by decide) (by decide)]
  exact Nat.mod_eq_of_lt hc

theorem State.rgnReported_sameWords {c : Nat} : s.SameWords [Reg.PM_STAT.word] (s.rgnReported i c) :=
  (State.SameWords.set Reg.PM_STAT.LAST_INDEX _ (List.mem_singleton_self _)).snoc (State.SameWords.set Reg.PM_STAT.LAST_RESULT _ (List.mem_singleton_self _))

/-- R136, R144: the region as it is stored, and its lease. -/
def State.rgnStored (s : State) (i : Nat) (w : Word) : State := ((s.rgnReported i 0).setReg (Reg.PM_RGN.word i) w).refreshLease i

theorem State.rgnWrite_stores (h : (s.set Reg.PM_STAT.LAST_INDEX i).rgnRefusal i (w &&& rgnMask) = none) :
    s.rgnWrite p i w = s.rgnStored i (w &&& rgnMask) := by
  rw [State.rgnRefusal_lastIndex] at h
  simp only [State.rgnWrite, h]
  rfl

theorem State.rgnWrite_refused {c : Nat} (h : (s.set Reg.PM_STAT.LAST_INDEX i).rgnRefusal i (w &&& rgnMask) = some c) :
    s.rgnWrite p i w = (s.rgnReported i c).reject p (Reg.PM_RGN.word i) Src.PM (Lc.region c) i := by
  rw [State.rgnRefusal_lastIndex] at h
  simp only [State.rgnWrite, h]
  rfl

theorem State.rgnStored_reg : (s.rgnStored i w).reg (Reg.PM_RGN.word i) = w :=
  (State.reg_setReg_other _ (by simp only [Reg.PM_RGN.word, Reg.PM_LEASE.word]; omega)).trans (State.reg_setReg_same _ _)

theorem State.rgnStored_beside : (s.rgnReported i 0).SameWords [Reg.PM_RGN.word i, Reg.PM_LEASE.word i] (s.rgnStored i w) :=
  (State.SameWords.setReg _ _ (by simp)).snoc (State.SameWords.setReg _ _ (by simp))

theorem State.rgnStored_get {f : Fld} (hf : f.addr = Reg.PM_STAT.word) : (s.rgnStored i w).get f = (s.rgnReported i 0).get f :=
  State.rgnStored_beside.get (by
    rw [hf]
    simp only [Reg.PM_STAT.word, Reg.PM_RGN.word, Reg.PM_LEASE.word, List.mem_cons, List.not_mem_nil, or_false]
    omega)

theorem State.rgnStored_step : s.WordStep [Reg.PM_RGN.word i, Reg.PM_LEASE.word i, Reg.PM_STAT.word] (s.rgnStored i w) :=
  (((State.WordStep.refl.set Reg.PM_STAT.LAST_INDEX i (List.mem_cons_of_mem _ (List.mem_cons_of_mem _ (List.mem_singleton_self _)))).set Reg.PM_STAT.LAST_RESULT 0
    (List.mem_cons_of_mem _ (List.mem_cons_of_mem _ (List.mem_singleton_self _)))).setReg _ _ (by simp)).setReg _ _ (by simp)

end Regions

/-! ### The ring and the counts of fail capture (R172, R174) -/

section FailRing
variable {s : State} {p : Port} {n cap : Nat} {w : Word}

/-- R174: a ring as it is configured, with WR and RD at 0 and `cap` for CAP. -/
def State.fcConfigured (s : State) (n cap : Nat) (w : Word) : State :=
  ((s.setReg (Reg.SO_FC_CFG.word n) (w &&& accMask .rw (Reg.SO_FC_CFG.word n))).setReg (Reg.SO_FC_PTR.word n) 0).set (Reg.SO_FC_PTR.CAP n) cap

theorem State.fcCfgWrite_stores (hlive : s.siteLive n = false) (hbase : (Reg.SO_FC_CFG.BASE n).of w % 4096 = 0) (hsize : (Reg.SO_FC_CFG.SIZE n).of w ≠ 0) :
    ∃ cap, s.fcCfgWrite p n w = s.fcConfigured n cap w :=
  ⟨_, if_neg (by simp [hlive, hbase, hsize])⟩

theorem accMask_SO_FC_CFG : ∀ n : Fin 64, accMask .rw (Reg.SO_FC_CFG.word n) = accMask .rw (Reg.SO_FC_CFG.word 0) := by decide

/-- R174: a field of SO_FC_CFG reads what the write gave it. -/
theorem State.fcConfigured_cfg {hi lo : Nat} (n : Fin 64) (hmask : wget (accMask .rw (Reg.SO_FC_CFG.word 0)) hi lo = 2 ^ (hi + 1 - lo) - 1) :
    (s.fcConfigured n cap w).get ⟨Reg.SO_FC_CFG.word n, hi, lo⟩ = wget w hi lo := by
  have hne : Reg.SO_FC_CFG.word n ≠ Reg.SO_FC_PTR.word n := by simp only [Reg.SO_FC_CFG.word, Reg.SO_FC_PTR.word]; omega
  have hreg : (s.fcConfigured n cap w).reg (Reg.SO_FC_CFG.word n) = w &&& accMask .rw (Reg.SO_FC_CFG.word 0) := by
    rw [State.fcConfigured, State.reg_set_other (f := Reg.SO_FC_PTR.CAP n) cap hne, State.reg_setReg_other _ hne, State.reg_setReg_same, accMask_SO_FC_CFG n]
  rw [State.get, hreg, wget_and_mask _ _ _ _ hmask]

/-- R174: a field of SO_FC_PTR apart from CAP is 0. -/
theorem State.fcConfigured_ptr {f : Fld} (hf : f.addr = Reg.SO_FC_PTR.word n) (hcap : f.hi < 64) : (s.fcConfigured n cap w).get f = 0 := by
  rw [State.fcConfigured, State.get_set_other _ _ _ (Nat.le_of_ble_eq_true rfl) (Nat.le_of_ble_eq_true rfl) (.inl hcap), State.get, hf, State.reg_setReg_same]
  simp [wget, bitsOf]

theorem State.fcConfigured_step : s.WordStep [Reg.SO_FC_CFG.word n, Reg.SO_FC_PTR.word n] (s.fcConfigured n cap w) :=
  ((State.WordStep.refl.setReg _ _ (by simp)).setReg _ _ (by simp)).set (Reg.SO_FC_PTR.CAP n) cap (List.mem_cons_of_mem _ (List.mem_singleton_self _))

/-- R172: the count of the site is 0. -/
theorem State.resetFails_site {cs : List Nat} : (s.resetFails n cs).reg (Reg.SO_FC_CNT.word n) = 0 := by
  refine (State.forL_keeps (fun t => t.reg (Reg.SO_FC_CNT.word n)) cs _ fun c _ t => State.reg_setReg_other _ ?_).trans (State.reg_setReg_same (s := s) _ _)
  simp only [Reg.SO_FC_CNT.word, Reg.CH_FAILCNT.word]
  omega

/-- R172: the count of each channel is at its reset value. -/
theorem State.resetFails_chan {cs : List Nat} {c : Nat} (hc : c ∈ cs) :
    (s.resetFails n cs).reg (Reg.CH_FAILCNT.word c) = resetWord (Reg.CH_FAILCNT.word c) := by
  refine State.forL_reaches (P := fun _ => True) (Q := fun t => t.reg (Reg.CH_FAILCNT.word c) = resetWord (Reg.CH_FAILCNT.word c)) hc
    (fun _ _ _ _ _ => trivial) (fun _ _ => State.reg_setReg_same _ _) (fun d _ t ht => ?_) trivial
  rw [State.reg_setReg]
  split
  next hword => rw [hword]
  next => exact ht

theorem State.resetFails_sameWords {cs : List Nat} : s.SameWords (Reg.SO_FC_CNT.word n :: cs.map Reg.CH_FAILCNT.word) (s.resetFails n cs) :=
  State.forL_kept_mem (P := s.SameWords (Reg.SO_FC_CNT.word n :: cs.map Reg.CH_FAILCNT.word))
    (fun _ hc _ ht => ht.snoc (State.SameWords.setReg _ _ (List.mem_cons_of_mem _ (List.mem_map_of_mem hc))))
    (State.SameWords.setReg (s := s) _ _ List.mem_cons_self)

theorem State.resetFails_frame {cs : List Nat} : s.resetFails n cs = { s with regs := (s.resetFails n cs).regs, failMarks := (s.resetFails n cs).failMarks } :=
  State.forL_kept_mem (P := fun t => t = { s with regs := t.regs, failMarks := t.failMarks })
    (fun _ _ t ht => by rw [ht]; rfl) rfl

end FailRing

/-! ### The memory stacks (R165) -/

/-- The field of SO_STAT that tells the state of a stack. -/
def stackField (k : Fin 2) : Fld := if k = 0 then Reg.SO_STAT.STACK0 else Reg.SO_STAT.STACK1

theorem stackField_bits (k : Fin 2) : (stackField k).hi < 128 ∧ (stackField k).lo ≤ (stackField k).hi ∧ (stackField k).width = 2 := by
  revert k; decide

theorem State.stackDown_idle {s : State} (k : Fin 2) (hen : s.flag Reg.SO_CTRL.PD_EN = true) (hup : s.get (stackField k) = 0)
    (hidle : ((s.stackReq.find? (fun p => p.1 == k.val)).map Prod.snd).getD 0 + s.get Reg.SO_CTRL.PD_IDLE ≤ s.now) :
    s.stackDown k = s.set (stackField k) 1 := by
  have hfield : (if k.val = 0 then Reg.SO_STAT.STACK0 else Reg.SO_STAT.STACK1) = stackField k := by rw [stackField]; congr 1; exact propext Fin.val_eq_zero_iff
  rw [State.stackDown, hfield]
  exact if_pos ⟨hen, hup, hidle⟩

/-! ### The rows -/

section Rows
variable {s : State} {p : Port} {w : Word}

theorem exec_eeTwrWrite {e : Fin 1056} (hm : s.mode ≠ Mode.RESET) : exec (.eeTwrWrite p e w) s = .next (s.eeTwrWrite p e w) :=
  congrArg Host.Outcome.next (State.host_out_of_reset hm _ _ _ _)

theorem exec_pmRgnWrite {i : Fin 256} (hm : s.mode ≠ Mode.RESET) : exec (.pmRgnWrite p i w) s = .next (s.rgnWrite p i w) :=
  congrArg Host.Outcome.next (State.host_out_of_reset hm _ _ _ _)

theorem exec_soFcCfgWrite {n : Fin 64} (hm : s.mode ≠ Mode.RESET) : exec (.soFcCfgWrite p n w) s = .next (s.fcCfgWrite p n w) :=
  congrArg Host.Outcome.next (State.host_out_of_reset hm _ _ _ _)

theorem exec_soFcPtrWrite {n : Fin 64} (hm : s.mode ≠ Mode.RESET) (hrd : (Reg.SO_FC_PTR.RD n).of w < s.fcCap n) :
    exec (.soFcPtrWrite p n w) s = .next (s.set (Reg.SO_FC_PTR.RD n) ((Reg.SO_FC_PTR.RD n).of w)) :=
  congrArg Host.Outcome.next ((State.host_out_of_reset hm _ _ _ _).trans (if_neg (Nat.not_le.2 hrd)))

theorem exec_clrFail {n : Fin 64} (hm : s.mode ≠ Mode.RESET) (hrun : s.siteState n ≠ Site.RUNNING) (hheld : s.siteState n ≠ Site.HELD) :
    exec (.clrFail p n) s = .next (s.resetFails n (s.map n).chans) :=
  congrArg Host.Outcome.next ((State.host_out_of_reset hm _ _ _ _).trans (if_neg (not_or.2 ⟨hrun, hheld⟩)))

theorem exec_pmReady (hlock : s.flag Reg.TB_STAT.PLL_LOCK = true) : exec .pmReady s = .next (s.set Reg.PM_STAT.READY 1) :=
  congrArg Host.Outcome.next (if_pos hlock)

theorem exec_stackPowerDown {k : Fin 2} : exec (.stackPowerDown k) s = .next (s.stackDown k) := rfl

end Rows

/-- Settles O10: a direct write that nothing refuses stores what it says and nothing else, a refused region write tells its code, and PM_READY and the
power-down of a stack write their one field. -/
theorem scanOutAndRegionWrites : Obligations.ScanOutAndRegionWrites := by
  unfold Obligations.ScanOutAndRegionWrites
  refine ⟨fun s p e w hmode hword hvalue => ?tense, fun s p i w hmode hnone => ?region, fun s p i w c hmode hc hsome => ?refused,
    fun s p n w hmode hlive hbase hsize => ?ring, fun s p n w hmode hrd => ?pointer, fun s p n hmode hrun hheld => ?fails, fun s hlock => ?ready,
    fun s k hen hup hidle => ?stack⟩
  case tense =>
    refine ⟨s.itemStored e w, by rw [exec_eeTwrWrite hmode, State.eeTwrWrite_stores hword hvalue], fun b => ?_, fun b f j i hj hi hne => ?_, rfl⟩
    · rw [State.itemStored_tenseItem, if_pos rfl]
    · have hkey := tenseKey_inj (e := f) (f := e.val) (k := wget w 75 70) hj (Nat.mod_lt _ (by decide)) hi (wget_item_lt hvalue)
      rw [State.itemStored_tenseItem, if_neg fun h => hne (hkey.1 h)]
  case region =>
    exact ⟨s.rgnStored i (w &&& rgnMask), by rw [exec_pmRgnWrite hmode, State.rgnWrite_stores hnone], State.rgnStored_reg,
      (State.rgnStored_get rfl).trans (State.rgnReported_result (by decide)), (State.rgnStored_get rfl).trans (State.rgnReported_index i.isLt),
      State.rgnStored_step.words, State.rgnStored_step.frame⟩
  case refused =>
    have hstat := State.reject_sameWords (s.rgnReported i c) p (Reg.PM_RGN.word i) Src.PM (Lc.region c) i
    have hbits : Reg.PM_STAT.word ∉ reportWords := by decide
    refine ⟨_, by rw [exec_pmRgnWrite hmode, State.rgnWrite_refused hsome], ?_,
      (hstat.get (f := Reg.PM_STAT.LAST_RESULT) hbits).trans (State.rgnReported_result (by omega)),
      (hstat.get (f := Reg.PM_STAT.LAST_INDEX) hbits).trans (State.rgnReported_index i.isLt)⟩
    rw [hstat _ (PM_RGN_not_reported i), State.rgnReported_sameWords _ (by simp [PM_RGN_ne_PM_STAT])]
  case ring =>
    obtain ⟨cap, hcap⟩ := State.fcCfgWrite_stores (p := p) hlive hbase hsize
    exact ⟨s.fcConfigured n cap w, by rw [exec_soFcCfgWrite hmode, hcap],
      State.fcConfigured_cfg n (hi := 98) (lo := 64) (by decide), State.fcConfigured_cfg n (hi := 39) (lo := 16) (by decide),
      State.fcConfigured_cfg n (hi := 0) (lo := 0) (by decide),
      State.fcConfigured_ptr rfl (Nat.le_of_ble_eq_true rfl), State.fcConfigured_ptr rfl (Nat.le_of_ble_eq_true rfl), State.fcConfigured_step.words,
      State.fcConfigured_step.frame⟩
  case pointer =>
    refine ⟨_, exec_soFcPtrWrite hmode hrd, ?_,
      State.SameFields.set _ _ (Nat.le_of_ble_eq_true rfl) (Nat.zero_le _) (List.mem_singleton_self _), rfl⟩
    rw [State.get_set_same _ _ (Nat.le_of_ble_eq_true rfl) (Nat.zero_le _)]
    exact Nat.mod_eq_of_lt (Nat.mod_lt _ (Nat.two_pow_pos _))
  case fails =>
    exact ⟨_, exec_clrFail hmode hrun hheld, State.resetFails_site, fun c hc => State.resetFails_chan hc, State.resetFails_sameWords, State.resetFails_frame⟩
  case ready =>
    exact ⟨_, exec_pmReady hlock, State.flag_set_one _ (by decide) (by decide),
      State.SameFields.set _ _ (by decide) (by decide) (List.mem_singleton_self _), rfl⟩
  case stack =>
    obtain ⟨hhi, hlo, hwidth⟩ := stackField_bits k
    refine ⟨s.set (stackField k) 1, by rw [exec_stackPowerDown, State.stackDown_idle k hen hup hidle], ?_,
      State.SameFields.set _ _ hhi hlo (List.mem_singleton_self _), rfl⟩
    exact (State.get_set_same _ _ hhi hlo).trans (by rw [hwidth]; rfl)

end Sys2Proof.Machine
end

section
/-! SUPPORT. What a soft reset clears and what it leaves (R498, R510). -/

namespace Sys2Proof.Machine

/-! ### The words of the blocks that are cleared -/

section SoftWords
variable {a hi lo : Nat} {m : List (Nat × Word)} {r k w : Word}

/-- R498: what a soft reset makes of the word `w` at `a`. -/
def softWord (a : Nat) (w : Word) : Word := if softBlock a then (resetWord a &&& ~~~(calBits a)) ||| (w &&& calBits a) else w

theorem softWord_resetWord : softWord a (resetWord a) = resetWord a := by
  unfold softWord
  split
  · ext i hi
    simp only [BitVec.getElem_or, BitVec.getElem_and, BitVec.getElem_not]
    cases (resetWord a)[i] <;> cases (calBits a)[i] <;> rfl
  · rfl

theorem softWord_reset (hblock : softBlock a = true) (hcal : calBits a = 0) : softWord a w = resetWord a := by
  have hall : ~~~(0 : Word) = BitVec.allOnes 128 := rfl
  have hnone : w &&& 0 = 0 := BitVec.and_zero
  rw [softWord, if_pos hblock, hcal, hall, BitVec.and_allOnes, hnone]
  exact BitVec.or_zero

theorem softWord_outside (hblock : softBlock a = false) : softWord a w = w := by simp [softWord, hblock]

/-- A range of the mask shows the second word of a merge. -/
theorem wget_merge (hmask : wget k hi lo = 2 ^ (hi + 1 - lo) - 1) : wget ((r &&& ~~~k) ||| (w &&& k)) hi lo = wget w hi lo := by
  have hbit (i : Nat) (hi' : i < hi + 1 - lo) : k.getLsbD (lo + i) = true := by
    have h := congrArg (fun n => n.testBit i) hmask
    simpa [wget, bitsOf, hi', Nat.testBit_two_pow_sub_one, ← BitVec.getLsbD.eq_1] using h
  apply Nat.eq_of_testBit_eq
  intro i
  simp only [wget, bitsOf, Nat.testBit_mod_two_pow, Nat.testBit_shiftRight, ← BitVec.getLsbD.eq_1, BitVec.getLsbD_or, BitVec.getLsbD_and, BitVec.getLsbD_not]
  by_cases h : i < hi + 1 - lo
  · simp [h, hbit i h]
  · simp [h]

/-- The first entry of a map of registers after a soft reset. -/
theorem sget_softRegs_cons {j : Nat} (habove : skeysAbove j m) :
    sget resetWord (softRegs ((j, w) :: m)) a = if a = j then softWord j w else sget resetWord (softRegs m) a := by
  have hrest : sget resetWord (softRegs m) j = resetWord j := sget_skeysAbove _ _ j j (skeysAbove_softRegs habove) le_rfl
  unfold softRegs at hrest ⊢
  rw [List.filterMap_cons]
  unfold softWord
  split
  next hnone =>
    split at hnone
    next hblock =>
      dsimp only at hnone hblock
      split at hnone
      next hreset =>
        rw [if_pos hblock, hreset]
        split
        next ha => rw [ha, hrest]
        next => rfl
      next => cases hnone
    next => cases hnone
  next b hsome =>
    split at hsome
    next hblock =>
      dsimp only at hsome hblock
      split at hsome
      next => cases hsome
      next => cases hsome; rw [if_pos hblock]; rfl
    next hblock => cases hsome; rw [if_neg hblock]; rfl

/-- R498: a word after a soft reset. -/
theorem sget_softRegs (hm : swf resetWord m = true) (a : Nat) : sget resetWord (softRegs m) a = softWord a (sget resetWord m a) := by
  induction m with
  | nil => exact softWord_resetWord.symm
  | cons q m ih =>
    obtain ⟨j, w⟩ := q
    obtain ⟨_, hj, hm⟩ := (swf_cons resetWord j w m).1 hm
    rw [sget_softRegs_cons hj, sget]
    split
    next ha => rw [ha]
    next => exact ih hm

end SoftWords

/-! ### The blocks at their reset values -/

section SoftReset
variable {s t : State} {a hi lo : Nat} {f : Fld}

/-- R498: the blocks at their reset values, before the trace terms of the limits table come back to the engines. -/
def State.blocksCleared (s : State) : State :=
  ({ s with
      regs := softRegs s.regs
      shadow := s.shadow.filter (fun p => !softBlock p.1)
      held := s.held.filter (fun p => !softBlock p.1)
      siOp := none, seqs := [], chans := [], tenses := [], tensesShadow := [], streams := []
      pendActs := [], slots := [], watches := [], failMarks := [], dacs := [], pmus := [], wfs := [], wfTables := [], wfLoads := []
      dpss := [], gds := [], dgds := [], contact := none, pmuMeas := [], dpsMeas := [], tdcs := [], ltests := [], lanes := []
      stackReq := [] } : State).setMaps [] [] []

theorem State.softClear_eq (s : State) : s.softClear = s.blocksCleared.ownTraces := rfl

theorem State.blocksCleared_reg (hs : s.Canonical) (a : Nat) : s.blocksCleared.reg a = softWord a (s.reg a) := sget_softRegs hs.regsWf a

/-- R127: the trace terms are the only registers that the limits table brings back. -/
theorem State.ownTraces_step : s.WordStep ((List.range 1024).map Reg.EE_DESKEW.word) s.ownTraces :=
  State.forL_kept_mem (P := s.WordStep ((List.range 1024).map Reg.EE_DESKEW.word))
    (fun c hc _ ht => (ht.set (Reg.EE_DESKEW.TRACE_DRV c) _ (List.mem_map_of_mem hc)).set (Reg.EE_DESKEW.TRACE_RCV c) _ (List.mem_map_of_mem hc))
    State.WordStep.refl

/-- The calibration terms of an engine lie apart from its trace terms. -/
theorem State.ownTraces_get (hf : f.hi < 64) : s.ownTraces.get f = s.get f := by
  refine State.forL_keeps (fun t => t.get f) (List.range 1024) _ fun c _ t => ?_
  rw [State.get_set_other _ _ _ (Nat.le_of_ble_eq_true rfl) (Nat.le_of_ble_eq_true rfl) (.inl hf),
    State.get_set_other _ _ _ (Nat.le_of_ble_eq_true rfl) (Nat.le_of_ble_eq_true rfl) (.inl (Nat.lt_of_lt_of_le hf (Nat.le_of_ble_eq_true rfl)))]

theorem calBits_EE_DESKEW {e : Nat} (he : e < 1056) : calBits (Reg.EE_DESKEW.word e) = fieldMask 51 32 ||| fieldMask 19 0 :=
  if_pos (by simp only [Reg.EE_DESKEW.word]; omega)

theorem softBlock_EE_DESKEW {e : Nat} (he : e < 1056) : softBlock (Reg.EE_DESKEW.word e) = true := by
  simp only [softBlock, Bool.or_eq_true, Bool.and_eq_true, decide_eq_true_eq]
  simp only [Reg.EE_DESKEW.word]
  omega

/-- A word that holds no calibration term, or lies in no block that is cleared, holds no trace term. -/
theorem State.softClear_reg (hs : s.Canonical) (ha : softBlock a = false ∨ calBits a = 0) : s.softClear.reg a = softWord a (s.reg a) := by
  rw [State.softClear_eq, State.ownTraces_step.words a, State.blocksCleared_reg hs]
  intro hmem
  obtain ⟨e, he, rfl⟩ := List.mem_map.1 hmem
  have he : e < 1056 := (List.mem_range.1 he).trans (by decide)
  rw [softBlock_EE_DESKEW he, calBits_EE_DESKEW he] at ha
  revert ha
  decide

/-- R498: a calibration term of an engine stays. -/
theorem State.softClear_cal (hs : s.Canonical) {e : Nat} (he : e < 1056) (hhi : hi < 64)
    (hmask : wget (fieldMask 51 32 ||| fieldMask 19 0) hi lo = 2 ^ (hi + 1 - lo) - 1) :
    s.softClear.get ⟨Reg.EE_DESKEW.word e, hi, lo⟩ = s.get ⟨Reg.EE_DESKEW.word e, hi, lo⟩ := by
  rw [State.softClear_eq, State.ownTraces_get hhi, State.get, State.blocksCleared_reg hs, softWord, if_pos (softBlock_EE_DESKEW he), calBits_EE_DESKEW he]
  exact wget_merge hmask

/-! ### The device's own words (R510) -/

/-- The fields of the device's own words that a soft reset writes. -/
def restartFields : List Fld := [Reg.DEV_MODE.PENDING, Reg.DEV_MODE.AT_EN, ⟨Reg.DEV_SVCSTAT.word, 127, 0⟩, Reg.DEV_STAT.LAST_RESET]

/-- R498, R510: the blocks are cleared, and the device tells of the reset. -/
def State.restarted (s : State) : State := s.softClear.devReset.set Reg.DEV_STAT.LAST_RESET 2

/-- What a soft reset leaves beside the registers: the structure, the clock, the records of the ledger and the log, and what is stored. -/
def State.standing (s : State) :
    List (Nat × SiteMap) × Word64 × List PendRec × List (Nat × Word) × List Host.Cell × List (Nat × Byte) × List (Nat × BitVec 256) :=
  (s.maps, s.beat, s.pendRecs, s.logRing, s.mem, s.nvm, s.cs)

theorem State.standing_regs (regs : List (Nat × Word)) : ({ s with regs := regs } : State).standing = s.standing := rfl

theorem State.ownTraces_standing : s.ownTraces.standing = s.standing := by rw [State.ownTraces_step.frame, State.standing_regs]

theorem State.devReset_standing : (s.devReset.set Reg.DEV_STAT.LAST_RESET 2).standing = s.standing := rfl

theorem State.restarted_standing : s.restarted.standing = ([], s.beat, s.pendRecs, s.logRing, s.mem, s.nvm, s.cs) :=
  calc s.restarted.standing = s.softClear.standing := State.devReset_standing
    _ = s.blocksCleared.standing := State.ownTraces_standing
    _ = ([], s.beat, s.pendRecs, s.logRing, s.mem, s.nvm, s.cs) := rfl

theorem State.restarted_beside : s.restarted.maps = [] ∧ s.restarted.beat = s.beat ∧ s.restarted.pendRecs = s.pendRecs ∧
    s.restarted.logRing = s.logRing ∧ s.restarted.mem = s.mem ∧ s.restarted.nvm = s.nvm ∧ s.restarted.cs = s.cs := by
  simpa only [State.standing, Prod.mk.injEq] using s.restarted_standing

theorem State.devReset_sched : (s.devReset.set Reg.DEV_STAT.LAST_RESET 2).sched = none := rfl

theorem State.devReset_sameFields : s.SameFields restartFields (s.devReset.set Reg.DEV_STAT.LAST_RESET 2) := by
  have hcancel : s.SameFields restartFields s.cancelMode :=
    (State.SameFields.set Reg.DEV_MODE.PENDING 0 (by decide) (by decide) (by decide)).snoc (State.SameFields.of_regs rfl)
  exact ((hcancel.snoc (State.SameFields.set Reg.DEV_MODE.AT_EN 0 (by decide) (by decide) (by decide))).snoc
    (State.SameFields.setReg _ _ (by decide))).snoc (State.SameFields.set Reg.DEV_STAT.LAST_RESET 2 (by decide) (by decide) (by decide))

theorem State.restarted_reg (ha : a ∉ [Reg.DEV_MODE.word, Reg.DEV_STAT.word, Reg.DEV_SVCSTAT.word]) : s.restarted.reg a = s.softClear.reg a := by
  simp only [List.mem_cons, List.not_mem_nil, or_false, not_or] at ha
  obtain ⟨hmode, hstat, hsvc⟩ := ha
  exact State.devReset_sameFields.reg (List.forall_mem_cons.2 ⟨hmode, List.forall_mem_cons.2 ⟨hmode, List.forall_mem_cons.2 ⟨hsvc,
    List.forall_mem_singleton.2 hstat⟩⟩⟩)

/-- A field of DEV_MODE or DEV_STAT that a soft reset does not write stays. -/
theorem State.restarted_get (hs : s.Canonical) (hf : f.Apart restartFields) (hblock : softBlock f.addr = false) : s.restarted.get f = s.get f := by
  rw [State.restarted, State.devReset_sameFields.get hf, State.get, State.softClear_reg hs (.inl hblock), softWord_outside hblock]
  rfl

theorem softBlock_device (h : a ∈ [Reg.DEV_MODE.word, Reg.DEV_STAT.word, Reg.DEV_SVCSTAT.word]) : softBlock a = false := by
  revert a
  decide

/-- R498: a word of a block that is cleared is at its reset value, if it holds no calibration term. -/
theorem State.restarted_reset (hs : s.Canonical) (hblock : softBlock a = true) (hcal : calBits a = 0) : s.restarted.reg a = resetWord a := by
  rw [State.restarted_reg fun h => by simp [softBlock_device h] at hblock, State.softClear_reg hs (.inr hcal), softWord_reset hblock hcal]

/-- R498: a word of another block stays. -/
theorem State.restarted_outside (hs : s.Canonical) (hblock : softBlock a = false) (ha : a ∉ [Reg.DEV_MODE.word, Reg.DEV_STAT.word, Reg.DEV_SVCSTAT.word]) :
    s.restarted.reg a = s.reg a := by
  rw [State.restarted_reg ha, State.softClear_reg hs (.inl hblock), softWord_outside hblock]

theorem State.restarted_cal (hs : s.Canonical) {e : Nat} (he : e < 1056) (hhi : hi < 64)
    (hmask : wget (fieldMask 51 32 ||| fieldMask 19 0) hi lo = 2 ^ (hi + 1 - lo) - 1) :
    s.restarted.get ⟨Reg.EE_DESKEW.word e, hi, lo⟩ = s.get ⟨Reg.EE_DESKEW.word e, hi, lo⟩ := by
  have hblock := softBlock_EE_DESKEW he
  rw [State.get, State.restarted_reg fun h => by simp [softBlock_device h] at hblock]
  exact State.softClear_cal hs he hhi hmask

theorem State.restarted_lastReset : s.restarted.get Reg.DEV_STAT.LAST_RESET = 2 := State.get_set_same _ _ (by decide) (by decide)

theorem State.restarted_enters {m cause : Nat} (h : s.Enters t m cause) (ht : t.Canonical) : s.Enters t.restarted m cause := by
  obtain ⟨hmode, hprev, hcause, hbeat, hmem, hnvm, hcs⟩ := h
  obtain ⟨_, _, _, _, hmem', hnvm', hcs'⟩ := t.restarted_beside
  exact ⟨(State.restarted_get (f := Reg.DEV_MODE.CUR) ht (by unfold Fld.Apart; decide) rfl).trans hmode,
    (State.restarted_get (f := Reg.DEV_STAT.PREV) ht (by unfold Fld.Apart; decide) rfl).trans hprev,
    (State.restarted_get (f := Reg.DEV_STAT.CAUSE) ht (by unfold Fld.Apart; decide) rfl).trans hcause,
    (State.restarted_get (f := Reg.DEV_STAT.MODE_BEAT) ht (by unfold Fld.Apart; decide) rfl).trans hbeat,
    hmem'.trans hmem, hnvm'.trans hnvm, hcs'.trans hcs⟩

/-! ### The change to SAFE -/

/-- The words of the mode are the first of the register space. -/
theorem not_mode_word (h : 3 ≤ a) : a ∉ [Reg.DEV_MODE.word, Reg.DEV_STAT.word] := by
  simp only [Reg.DEV_MODE.word, Reg.DEV_STAT.word, List.mem_cons, List.not_mem_nil, or_false]
  omega

/-- R366: where no live cycle measures, none ends. -/
theorem State.dropCycles_idle (h : ∀ q < 4, s.get (Reg.CAL_Q.STATE q) ≤ 1) : s.dropCycles = s := by
  refine State.forL_kept_mem (P := fun t => t = s) (fun q hq t ht => ?_) rfl
  have hstate := h q (List.mem_range.1 hq)
  have hend : s.liveEnd q = s := if_pos (by omega)
  rw [ht, hend, ite_self]

/-- A change of mode itself writes DEV_MODE and DEV_STAT. -/
theorem State.turned_sameWords (s : State) (old m cause beat : Nat) : s.SameWords [Reg.DEV_MODE.word, Reg.DEV_STAT.word] (s.turned old m cause beat) :=
  ((((State.SameWords.set Reg.DEV_MODE.CUR _ (by decide)).snoc (State.SameWords.set Reg.DEV_STAT.PREV _ (by decide))).snoc
    (State.SameWords.set Reg.DEV_STAT.CAUSE _ (by decide))).snoc (State.SameWords.set Reg.DEV_STAT.MODE_BEAT _ (by decide))).snoc (State.SameWords.of_regs rfl)

theorem State.enterMode_safe : s.enterMode Mode.SAFE = s := rfl

/-- Where nothing goes on that ends with the mode, entry to SAFE writes the words of the mode and no other. -/
theorem State.setMode_safe {cause : Nat} (hdisc : s.mode ≠ Mode.DISCOVER) (hcont : s.mode ≠ Mode.CONTACT) (hcycles : ∀ q < 4, s.get (Reg.CAL_Q.STATE q) ≤ 1) :
    s.setMode Mode.SAFE cause = s.turned s.mode Mode.SAFE cause s.now := by
  have hceased : s.ceased = s := by rw [State.ceased, if_neg hdisc, if_neg hcont]
  have hidle : (s.turned s.mode Mode.SAFE cause s.now).dropCycles = s.turned s.mode Mode.SAFE cause s.now :=
    State.dropCycles_idle fun q hq => ((s.turned_sameWords s.mode Mode.SAFE cause s.now).get (f := Reg.CAL_Q.STATE q)
      (not_mode_word (by simp only [Reg.CAL_Q.STATE]; omega))).trans_le (hcycles q hq)
  rw [State.setMode_eq, hceased, hidle, State.enterMode_safe]

end SoftReset

end Sys2Proof.Machine
end

section
/-! SUPPORT. The end of the self-test, the resets of the whole device and the end of its internal start (R482, R497 to R500, R520). -/

namespace Sys2Proof.Machine

/-! ### The self-test (R497) -/

section SelfTest
variable {s t : State} {o : SelfTestObs} {m : Nat}

/-- R346: channel `c` has matched. -/
def selfMatched (o : SelfTestObs) (c : Nat) : Bool := (o.chans.find? (fun p => p.1.val == c)).all (fun p => p.2 == 0xFF)

/-- R497: the device once the steps of the self-test have run, before it tells of them. -/
def State.testsRun (s : State) (o : SelfTestObs) : State :=
  let checked := (s.forN 1024 (fun c t => t.selfOutcome c (selfMatched o c))).forL o.tdcs
    (fun p t => if selfPasses p.2 then t.selfWrite p.1 p.2 else t.selfBad p.1)
  if s.get Reg.LG_SEQ.TAIL == s.get Reg.LG_HEAD.HEAD then checked.lgMarched else checked

/-- R497: DEV_STST as the self-test leaves it. -/
def State.testTold (s : State) (chFail tdcFail fb ledger nvmBad beat : Nat) : State :=
  ((((((s.set Reg.DEV_STST.CH_FAIL chFail).set Reg.DEV_STST.TDC_FAIL tdcFail).set Reg.DEV_STST.FB fb).set Reg.DEV_STST.LEDGER ledger).set
    Reg.DEV_STST.NVM_BAD nvmBad).set Reg.DEV_STST.BEAT beat).set Reg.DEV_STST.DONE 1

/-- R497: the device once the self-test has told of its steps. -/
def State.tested (s : State) (o : SelfTestObs) : State :=
  (s.testsRun o).testTold ((List.range 1024).filter (fun c => !selfMatched o c)).length (o.tdcs.filter (fun p => !selfPasses p.2)).length
    (marchResult (decide (s.get Reg.SO_FB.USED_BLK = 0)) o.fb) (marchResult (s.get Reg.LG_SEQ.TAIL == s.get Reg.LG_HEAD.HEAD) o.ledger)
    (min 255 s.nvmBad) s.now

theorem State.selfTestDone_idle (h : s.selfTest = none) : s.selfTestDone o = s := by simp only [State.selfTestDone, h]

theorem State.selfTestDone_returns (h : s.selfTest = some m) : s.selfTestDone o = ((s.tested o).setMode m 6).follow := by
  simp only [State.selfTestDone, h]
  rfl

/-- R346: with no channel told of, every channel has matched. -/
theorem selfMatched_all (h : o.chans = []) : ((List.range 1024).filter (fun c => !selfMatched o c)).length = 0 := by
  simp [selfMatched, h]

theorem State.testsRun_sameStore : s.SameStore (s.testsRun o) := by
  have := keeps_sameStore s
  have hchecked : s.SameStore ((s.forN 1024 (fun c t => t.selfOutcome c (selfMatched o c))).forL o.tdcs
      (fun p t => if selfPasses p.2 then t.selfWrite p.1 p.2 else t.selfBad p.1)) :=
    State.forL_kept _ _ (fun _ _ ht => ite_kept (fun _ => State.selfWrite_kept ht _ _) fun _ => State.selfBad_kept ht _)
      (State.forN_kept _ _ (fun _ _ ht => State.selfOutcome_kept ht _ _) ⟨rfl, rfl, rfl⟩)
  exact ite_kept (fun _ => hchecked) fun _ => hchecked

theorem State.testTold_tells {chFail tdcFail fb ledger nvmBad beat : Nat} {t : State} (ht : t = s.testTold chFail tdcFail fb ledger nvmBad beat) :
    t.get Reg.DEV_STST.CH_FAIL = chFail % 2 ^ 11 ∧ t.get Reg.DEV_STST.TDC_FAIL = tdcFail % 2 ^ 11 ∧ t.get Reg.DEV_STST.FB = fb % 2 ^ 2 ∧
    t.get Reg.DEV_STST.LEDGER = ledger % 2 ^ 2 ∧ t.get Reg.DEV_STST.BEAT = beat % 2 ^ 32 ∧ t.flag Reg.DEV_STST.DONE = true := by
  refine ⟨?_, ?_, ?_, ?_, ?_, ht ▸ State.flag_set_one _ (by decide) (by decide)⟩
  all_goals
    rw [ht, State.testTold]
    simp (disch := decide) only [State.get_set_other, State.get_set_same]
    rfl

theorem State.tested_sameStore (s : State) (o : SelfTestObs) : s.SameStore (s.tested o) := by
  have := keeps_sameStore s
  exact State.set_kept (State.set_kept (State.set_kept (State.set_kept (State.set_kept (State.set_kept (State.set_kept State.testsRun_sameStore _ _) _ _) _ _)
    _ _) _ _) _ _) _ _

/-- R497: which march tests run, and what they give. -/
theorem marchResult_mod (run pass : Bool) : marchResult run pass % 2 ^ 2 = if run = false then 2 else if pass then 0 else 1 := by
  revert run pass
  decide

/-- R497: what DEV_STST shows where every channel has matched and no TDC is told of. -/
theorem State.tested_tells (hchans : o.chans = []) (htdcs : o.tdcs = []) :
    (s.tested o).get Reg.DEV_STST.CH_FAIL = 0 ∧ (s.tested o).get Reg.DEV_STST.TDC_FAIL = 0 ∧
    (s.tested o).get Reg.DEV_STST.FB = (if s.get Reg.SO_FB.USED_BLK ≠ 0 then 2 else if o.fb then 0 else 1) ∧
    (s.tested o).get Reg.DEV_STST.LEDGER = (if s.lgTail ≠ s.lgHead then 2 else if o.ledger then 0 else 1) ∧
    (s.tested o).get Reg.DEV_STST.BEAT = s.now % 2 ^ 32 ∧ (s.tested o).flag Reg.DEV_STST.DONE = true := by
  obtain ⟨hch, htdc, hfb, hledger, hbeat, hdone⟩ := State.testTold_tells (t := s.tested o) rfl
  refine ⟨?_, ?_, ?_, ?_, hbeat, hdone⟩
  · rw [hch, selfMatched_all hchans, Nat.zero_mod]
  · rw [htdc, htdcs, List.filter_nil, List.length_nil, Nat.zero_mod]
  · rw [hfb, marchResult_mod]
    simp only [decide_eq_false_iff_not, ne_eq]
  · rw [hledger, marchResult_mod]
    simp only [beq_eq_false_iff_ne, State.lgTail, State.lgHead]
    rfl

/-- DEV_STST lies apart from the fields that a change of mode writes. -/
theorem apart_turnFields {f : Fld} (hf : f.addr = Reg.DEV_STST.word) (hlo : f.lo ≤ f.hi) : f.Apart turnFields := by
  have hmode : f.addr ≠ Reg.DEV_MODE.word := by rw [hf]; decide
  have hstat : f.addr ≠ Reg.DEV_STAT.word := by rw [hf]; decide
  exact ⟨hlo, List.forall_mem_cons.2 ⟨.inl hmode, List.forall_mem_cons.2 ⟨.inl hstat, List.forall_mem_cons.2 ⟨.inl hstat,
    List.forall_mem_singleton.2 (.inl hstat)⟩⟩⟩⟩

end SelfTest

/-! ### Resets of the device (R498, R520) -/

section Resets
variable {s : State}

theorem State.hardReset_reg (a : Nat) : s.hardReset.reg a = resetWord a := rfl

theorem State.mode_reset (h : s.reg Reg.DEV_MODE.word = resetWord Reg.DEV_MODE.word) : s.mode = Mode.RESET := by
  rw [← reset_mode, State.mode, State.mode, State.get, State.get, reset_reg]
  exact congrArg (fun w => wget w 11 8) h

theorem State.hardReset_byte (a : Nat) : s.hardReset.byte a = 0 := rfl

theorem State.pinReset_sameWords : s.hardReset.SameWords [Reg.TB_STAT.word, Reg.DEV_STAT.word] s.pinReset :=
  ((State.SameWords.of_regs (t := s.hardReset.keepMem s) rfl).snoc (State.SameWords.set Reg.TB_STAT.PLL_LOCK _ (by decide))).snoc
    ((State.SameWords.set Reg.DEV_STAT.LAST_RESET 1 (by decide)).snoc (State.SameWords.of_regs rfl))

/-- R498: every word but TB_STAT and DEV_STAT is at its reset value. -/
theorem State.pinReset_reg {a : Nat} (htb : a ≠ Reg.TB_STAT.word) (hdev : a ≠ Reg.DEV_STAT.word) : s.pinReset.reg a = resetWord a :=
  State.pinReset_sameWords a (by simp [htb, hdev])

/-- The state of a pin reset before the clock, the boundary scan and the supply, which it leaves alone. -/
def State.pinCleared (s : State) : State :=
  ((s.hardReset.keepMem s).set Reg.TB_STAT.PLL_LOCK (s.get Reg.TB_STAT.PLL_LOCK)).set Reg.DEV_STAT.LAST_RESET 1

theorem State.pinReset_get (f : Fld) : s.pinReset.get f = s.pinCleared.get f := rfl

theorem State.pinReset_lastReset : s.pinReset.get Reg.DEV_STAT.LAST_RESET = 1 := State.get_set_same (s := _) Reg.DEV_STAT.LAST_RESET 1 (by decide) (by decide)

theorem State.pinReset_lock : s.pinReset.get Reg.TB_STAT.PLL_LOCK = s.get Reg.TB_STAT.PLL_LOCK := by
  rw [State.pinReset_get, State.pinCleared, State.get_set_addr _ _ _ (by decide), State.get_set_same _ _ (by decide) (by decide)]
  exact Nat.mod_eq_of_lt (State.get_lt Reg.TB_STAT.PLL_LOCK)

/-- R520: a brown-out keeps pattern memory as told and holds the start off. -/
theorem State.brownOut_tells (kept : Bool) : (s.brownOut kept).brown = true ∧ (∀ a, (s.brownOut kept).reg a = resetWord a) ∧
    (s.brownOut kept).mem = (if kept then s.mem else []) ∧ (s.brownOut kept).nvm = s.nvm := by
  cases kept <;> exact ⟨rfl, fun _ => rfl, rfl, rfl⟩

end Resets

/-! ### The internal start (R482, R500) -/

section Start
variable {s t : State} {k a m cause : Nat}

theorem State.nvmBytes_nvm (h : t.nvm = s.nvm) : t.nvmBytes = s.nvmBytes := by
  funext c a k
  simp only [State.nvmBytes, State.nvmByte, h]

theorem State.keyState_nvm (h : t.nvm = s.nvm) : t.keyState k = s.keyState k := by
  unfold State.keyState State.keyCopies
  rw [State.nvmBytes_nvm h]

theorem State.shutSeqs_nvm (h : t.nvm = s.nvm) : t.shutSeqs = s.shutSeqs := by
  unfold State.shutSeqs State.nvmRecord
  rw [State.nvmBytes_nvm h]

/-- R229: the state of slot `k` as it is derived again. -/
def State.keyDerived (k : Nat) (s : State) : State := match s.keyState k with
  | some st => s.setReg (Reg.LX_KEY.word k) (BitVec.ofNat 128 st)
  | none => (s.setReg (Reg.LX_KEY.word k) (BitVec.ofNat 128 (4 + 2))).log Src.LX Lc.NVM_LOST (detail 0 k)

theorem State.deriveKeys_eq (s : State) : s.deriveKeys = s.forL (List.range 4) State.keyDerived := by
  rw [State.deriveKeys, State.forN]
  exact congrArg (s.forL (List.range 4)) (funext fun k => funext fun t => rfl)

theorem State.keyDerived_some {st : Nat} (h : s.keyState k = some st) : State.keyDerived k s = s.setReg (Reg.LX_KEY.word k) (BitVec.ofNat 128 st) := by
  simp only [State.keyDerived, h]

theorem State.keyDerived_sameStore (h : s.SameStore t) : s.SameStore (State.keyDerived k t) := by
  have := keeps_sameStore s
  unfold State.keyDerived
  split
  · exact State.setReg_kept h _ _
  · exact State.log_kept (State.setReg_kept h _ _) _ _ _ _

theorem standWord_LX_KEY (hk : k < 4) : standWord (Reg.LX_KEY.word k) = false := decide_eq_false (by simp only [Reg.LX_KEY.word]; omega)

theorem State.Steady.keyDerived (h : s.Steady standWord t) (hk : k < 4) : s.Steady standWord (State.keyDerived k t) := by
  unfold State.keyDerived
  split
  · exact h.setReg (standWord_LX_KEY hk) _
  · exact (h.setReg (standWord_LX_KEY hk) _).log standWord_LOG_STAT _ _ _ _

/-- The derivation of another slot leaves a slot's state alone. -/
theorem State.keyDerived_other {j : Nat} (hj : j ≠ k) : (State.keyDerived j s).get (Reg.LX_KEY.STATE k) = s.get (Reg.LX_KEY.STATE k) := by
  have hword : Reg.LX_KEY.word k ≠ Reg.LX_KEY.word j := by simp only [Reg.LX_KEY.word]; omega
  have hlog : Reg.LOG_STAT.word ≠ Reg.LX_KEY.word k := by simp only [Reg.LX_KEY.word, Reg.LOG_STAT.word]; omega
  unfold State.keyDerived
  split
  · exact State.get_setReg_other (Reg.LX_KEY.STATE k) _ _ hword
  · exact (State.log_sameFields.get ⟨Nat.zero_le _, List.forall_mem_singleton.2 (.inl hlog.symm)⟩).trans (State.get_setReg_other (Reg.LX_KEY.STATE k) _ _ hword)

/-- R229: a slot that is not lost shows its state. -/
theorem State.keyDerived_state {st : Nat} (hst : st < 8) (h : s.keyState k = some st) : (State.keyDerived k s).get (Reg.LX_KEY.STATE k) = st % 4 := by
  have hword : (State.keyDerived k s).reg (Reg.LX_KEY.word k) = BitVec.ofNat 128 st := by rw [State.keyDerived_some h, State.reg_setReg_same]
  calc (State.keyDerived k s).get (Reg.LX_KEY.STATE k)
      = wget (BitVec.ofNat 128 st) 1 0 := congrArg (fun w => wget w 1 0) hword
    _ = st / 2 ^ 0 % 2 ^ (1 + 1 - 0) := wget_ofNat st 1 0 (hst.trans (by decide))
    _ = st % 4 := by norm_num

/-- The stores stay, and slot `k` shows `st`. -/
def State.ShowsKey (s : State) (k st : Nat) (t : State) : Prop := s.SameStore t ∧ t.get (Reg.LX_KEY.STATE k) = st % 4

theorem State.ShowsKey.derived {st : Nat} (hst : st < 8) (h : s.keyState k = some st) (ht : s.SameStore t) : s.ShowsKey k st (State.keyDerived k t) :=
  ⟨State.keyDerived_sameStore ht, State.keyDerived_state hst ((State.keyState_nvm ht.2.1).trans h)⟩

theorem State.deriveKeys_shows (hk : k < 4) {st : Nat} (hst : st < 8) (h : s.keyState k = some st) : s.ShowsKey k st s.deriveKeys := by
  rw [State.deriveKeys_eq]
  refine State.forL_reaches (P := s.SameStore) (List.mem_range.2 hk) (fun _ _ _ _ ht => State.keyDerived_sameStore ht)
    (fun t ht => State.ShowsKey.derived hst h ht) (fun j _ t ht => ?_) ⟨rfl, rfl, rfl⟩
  by_cases hj : j = k
  · rw [hj]
    exact State.ShowsKey.derived hst h ht.1
  · exact ⟨State.keyDerived_sameStore ht.1, (State.keyDerived_other hj).trans ht.2⟩

theorem State.deriveKeys_steady (s : State) : s.Steady standWord s.deriveKeys := by
  rw [State.deriveKeys_eq]
  exact (State.Steady.refl s).forL fun _ hk _ ht => ht.keyDerived (List.mem_range.1 hk)

theorem State.deriveKeys_sameStore (s : State) : s.SameStore s.deriveKeys := by
  rw [State.deriveKeys_eq]
  exact State.forL_kept _ _ (fun _ _ ht => State.keyDerived_sameStore ht) ⟨rfl, rfl, rfl⟩

/-- R482: the newest shutdown record is told of. -/
def State.shutTold (s : State) : State := match s.shutSeqs with
  | [] => s
  | q :: qs => (s.set Reg.HK_STAT.SD_SEQ (qs.foldl max q)).set Reg.HK_STAT.SD_VALID 1

theorem State.shutTold_none (h : s.shutSeqs = []) : s.shutTold = s := by simp only [State.shutTold, h]

theorem State.shutTold_some {q : Nat} {qs : List Nat} (h : s.shutSeqs = q :: qs) :
    s.shutTold = (s.set Reg.HK_STAT.SD_SEQ (qs.foldl max q)).set Reg.HK_STAT.SD_VALID 1 := by
  simp only [State.shutTold, h]

theorem State.shutTold_cases (s : State) : s.shutTold = s ∨ ∃ v, s.shutTold = (s.set Reg.HK_STAT.SD_SEQ v).set Reg.HK_STAT.SD_VALID 1 := by
  cases h : s.shutSeqs with
  | nil => exact .inl (State.shutTold_none h)
  | cons q qs => exact .inr ⟨_, State.shutTold_some h⟩

theorem State.Steady.shutTold (h : s.Steady standWord t) : s.Steady standWord t.shutTold := by
  obtain heq | ⟨v, heq⟩ := t.shutTold_cases
  · rw [heq]; exact h
  · rw [heq]; exact (h.set rfl v).set rfl 1

theorem State.shutTold_sameStore (h : s.SameStore t) : s.SameStore t.shutTold := by
  have := keeps_sameStore s
  obtain heq | ⟨v, heq⟩ := t.shutTold_cases
  · rw [heq]; exact h
  · rw [heq]; exact State.set_kept (State.set_kept h _ _) _ _

/-- The shutdown records leave the key slots alone. -/
theorem State.shutTold_key : s.shutTold.get (Reg.LX_KEY.STATE k) = s.get (Reg.LX_KEY.STATE k) := by
  have hword : Reg.LX_KEY.word k ≠ Reg.HK_STAT.word := by simp only [Reg.LX_KEY.word, Reg.HK_STAT.word]; omega
  obtain heq | ⟨v, heq⟩ := s.shutTold_cases
  · rw [heq]
  · rw [heq, State.get_set_addr Reg.HK_STAT.SD_VALID (Reg.LX_KEY.STATE k) 1 hword, State.get_set_addr Reg.HK_STAT.SD_SEQ (Reg.LX_KEY.STATE k) v hword]

theorem State.shutTold_tells {q : Nat} {qs : List Nat} (h : s.shutSeqs = q :: qs) :
    s.shutTold.flag Reg.HK_STAT.SD_VALID = true ∧ s.shutTold.get Reg.HK_STAT.SD_SEQ = qs.foldl max q % 2 ^ 32 := by
  rw [State.shutTold_some h]
  refine ⟨State.flag_set_one _ (by decide) (by decide), ?_⟩
  rw [State.get_set_other _ _ _ (by decide) (by decide) (by decide), State.get_set_same _ _ (by decide) (by decide)]
  rfl

/-- R482, R500: what the internal start finds in the non-volatile memory. -/
def State.scanned (s : State) : State := s.deriveKeys.shutTold

/-- The device once the internal start has completed. -/
def State.started (s : State) : State := (s.setMode Mode.SAFE 5).set Reg.DEV_STAT.INIT_DONE 1

theorem State.initDone_starts (hm : s.mode = Mode.RESET) (hb : s.brown = false) : s.initDone = s.scanned.started := by
  rw [State.initDone, if_neg (by simp [hm, hb]), State.started, State.scanned]
  cases h : s.deriveKeys.shutSeqs with
  | nil => simp only [h, State.shutTold_none h]
  | cons q qs => simp only [h, State.shutTold_some h]

theorem State.initDone_idle (h : s.mode ≠ Mode.RESET ∨ s.brown = true) : s.initDone = s := if_pos h

theorem State.scanned_steady (s : State) : s.Steady standWord s.scanned := s.deriveKeys_steady.shutTold

theorem State.scanned_sameStore (s : State) : s.SameStore s.scanned := State.shutTold_sameStore s.deriveKeys_sameStore

theorem State.scanned_key (hk : k < 4) {st : Nat} (hst : st < 8) (h : s.keyState k = some st) : s.scanned.get (Reg.LX_KEY.STATE k) = st % 4 :=
  State.shutTold_key.trans (State.deriveKeys_shows hk hst h).2

theorem State.scanned_shut {q : Nat} {qs : List Nat} (h : s.shutSeqs = q :: qs) :
    s.scanned.flag Reg.HK_STAT.SD_VALID = true ∧ s.scanned.get Reg.HK_STAT.SD_SEQ = qs.foldl max q % 2 ^ 32 :=
  State.shutTold_tells ((State.shutSeqs_nvm s.deriveKeys_sameStore.2.1).trans h)

/-! ### Entry to SAFE leaves the words before the edge engines alone, but those of the mode -/

/-- The words before the edge engines stay. -/
def State.SameLow (s t : State) : Prop := ∀ a < 0x050000, t.reg a = s.reg a

theorem State.SameLow.set (h : s.SameLow t) {f : Fld} (hf : 0x050000 ≤ f.addr) (v : Nat) : s.SameLow (t.set f v) := fun a ha =>
  (State.reg_set_other v (by omega)).trans (h a ha)

theorem State.SameLow.setS (h : s.SameLow t) {f : Fld} (hf : 0x050000 ≤ f.addr) (v : Int) : s.SameLow (t.setS f v) := h.set hf _

theorem State.SameLow.setTdc (h : s.SameLow t) (e : Nat) (m : Option Tdc) : s.SameLow (t.setTdc e m) := h

theorem State.SameLow.refreshCal (h : s.SameLow t) (c : Nat) : s.SameLow (t.refreshCal c) := by
  have hchs : 0x050000 ≤ Reg.CAL_CHS.word c := by simp only [Reg.CAL_CHS.word]; omega
  have hlvl : 0x050000 ≤ Reg.CH_LVLSTAT.word c := by simp only [Reg.CH_LVLSTAT.word]; omega
  have htm (e : Nat) : 0x050000 ≤ Reg.TM_STAT.word e := by simp only [Reg.TM_STAT.word]; omega
  unfold State.refreshCal
  extract_lets k e drv rcv st stale s1 s2 s3
  have h1 : s.SameLow s1 := (((h.setS (f := Reg.CAL_CHS.PEND_DRV c) hchs _).setS (f := Reg.CAL_CHS.PEND_RCV c) hchs _).setS
    (f := Reg.CAL_CHS.PEND_VOH c) hchs _).setS (f := Reg.CAL_CHS.PEND_VOL c) hchs _
  have h2 : s.SameLow s2 := ((h1.set (f := Reg.CH_LVLSTAT.STALE c) hlvl _).set (f := Reg.CAL_CHS.STALE_L c) hchs _).set (f := Reg.CAL_CHS.STALE_T c) hchs _
  have h3 : s.SameLow s3 := h2.set (f := Reg.TM_STAT.STALE e) (htm e) _
  clear_value s3
  split
  · exact ite_kept (P := s.SameLow) (fun _ => h3.setTdc e _) fun _ => h3
  · exact h3

theorem State.SameLow.adcStale (h : s.SameLow t) (q : Nat) (on : Bool) : s.SameLow (t.adcStale q on) :=
  State.forL_kept _ _ (fun d _ hu => hu.set (by simp only [Reg.DPS_STAT.STALE]; omega) _)
    (State.forL_kept _ _ (fun c _ hu => hu.set (by simp only [Reg.CH_PMUSTAT.STALE]; omega) _) h)

theorem State.SameLow.liveDrop (h : s.SameLow t) (q : Nat) : s.SameLow (t.liveDrop q) := by
  have hcal : s.SameLow ((t.setCalQ q { t.calQ q with levels := [], times := [], counting := [] }).set (Reg.CAL_Q.STATE q) 1) :=
    State.SameLow.set h (by simp only [Reg.CAL_Q.STATE]; omega) 1
  exact State.forL_kept _ _ (fun c _ hu => hu.refreshCal c) (hcal.adcStale q false)

theorem State.SameLow.unqueue (h : s.SameLow t) (q : Nat) : s.SameLow (t.unqueue q) :=
  ite_kept (fun _ => State.SameLow.set (t := t.setCalQ q _) h (by simp only [Reg.CAL_Q.QUEUED]; omega) 0) fun _ => h

/-- R366: a cycle whose mode has gone ends with nothing. -/
theorem State.SameLow.liveEnd (h : s.SameLow t) {q : Nat} (hq : t.liveOk q = false) : s.SameLow (t.liveEnd q) := by
  unfold State.liveEnd
  extract_lets st k
  exact ite_kept (fun _ => h) fun _ => ite_kept (fun _ => (h.liveDrop q).unqueue q) fun hn => absurd (by rw [hq]; rfl) hn

theorem State.SameLow.dropCycles (h : s.SameLow t) (hs : s.mode = Mode.SAFE) : s.SameLow t.dropCycles :=
  State.forN_kept _ _ (fun q u hu => ite_kept (fun _ => hu) fun _ => hu.liveEnd (by
    have hmode : u.mode = Mode.SAFE := (congrArg (fun w => wget w 11 8) (hu Reg.DEV_MODE.word (by decide))).trans hs
    rw [State.liveOk, hmode]
    exact Bool.and_false _)) h

theorem State.ceased_reset (hm : s.mode = Mode.RESET) : s.ceased = s := by
  rw [State.ceased, if_neg (by rw [hm]; decide), if_neg (by rw [hm]; decide)]

theorem State.turned_mode (old beat : Nat) (hm : m < 16) : (s.turned old m cause beat).mode = m := by
  have hregs : (s.stamped old m cause beat).SameWords [] (s.turned old m cause beat) := State.SameWords.of_regs rfl
  rw [State.mode, hregs.get List.not_mem_nil, State.stamped, State.get_set_addr _ _ _ (by decide), State.get_set_addr _ _ _ (by decide), State.get_set_addr _ _ _ (by decide),
    State.get_set_same _ _ (by decide) (by decide)]
  exact Nat.mod_eq_of_lt hm

theorem State.SameLow.refl : s.SameLow s := fun _ _ => rfl

theorem State.setMode_safe_low (hm : s.mode = Mode.RESET) (ha : a < 0x050000) (hmode : a ≠ Reg.DEV_MODE.word) (hstat : a ≠ Reg.DEV_STAT.word) :
    (s.setMode Mode.SAFE cause).reg a = s.reg a := by
  have hlow := State.SameLow.refl.dropCycles (s.turned_mode (cause := cause) s.mode s.now (show Mode.SAFE < 16 by decide))
  rw [State.setMode_eq, State.ceased_reset hm, State.enterMode_safe, hlow a ha]
  exact s.turned_sameWords _ _ _ _ a (by simp [hmode, hstat])

/-- A field before the edge engines, apart from the words of the mode, stays. -/
theorem State.started_get {f : Fld} (hm : s.mode = Mode.RESET) (hlow : f.addr < 0x050000) (hmode : f.addr ≠ Reg.DEV_MODE.word)
    (hstat : f.addr ≠ Reg.DEV_STAT.word) : s.started.get f = s.get f :=
  (State.get_set_addr Reg.DEV_STAT.INIT_DONE f 1 hstat).trans (congrArg (fun w => wget w f.hi f.lo) (State.setMode_safe_low hm hlow hmode hstat))

/-- INIT_DONE tells nothing of the mode. -/
theorem State.Enters.set_initDone (h : s.Enters t m cause) : s.Enters (t.set Reg.DEV_STAT.INIT_DONE 1) m cause := by
  obtain ⟨hmode, hprev, hcause, hbeat, hstore⟩ := h
  exact ⟨(State.get_set_addr Reg.DEV_STAT.INIT_DONE Reg.DEV_MODE.CUR 1 (by decide)).trans hmode,
    (State.get_set_other _ _ _ (by decide) (by decide) (by decide)).trans hprev, (State.get_set_other _ _ _ (by decide) (by decide) (by decide)).trans hcause,
    (State.get_set_other _ _ _ (by decide) (by decide) (by decide)).trans hbeat, hstore⟩

theorem State.started_enters : s.Enters s.started Mode.SAFE 5 := (State.setMode_enters (by decide) (by decide)).set_initDone

/-- What a state enters, one enters that was in its mode at its beat with its stores. -/
theorem State.Enters.of_same {u : State} (h : t.Enters u m cause) (hmode : t.mode = s.mode) (hnow : t.now = s.now) (hstore : s.SameStore t) :
    s.Enters u m cause := by
  obtain ⟨hcur, hprev, hcause, hbeat, hmem, hnvm, hcs⟩ := h
  obtain ⟨hmem', hnvm', hcs'⟩ := hstore
  exact ⟨hcur, hprev.trans hmode, hcause, hnow ▸ hbeat, hmem.trans hmem', hnvm.trans hnvm', hcs.trans hcs'⟩

end Start

/-! ### The rows -/

section Rows
variable {s : State} {p : Port} {o : SelfTestObs}

theorem State.mode_ne_reset_of_softOk (h : s.softOk = true) : s.mode ≠ Mode.RESET := by
  intro hreset
  rw [State.softOk, hreset] at h
  cases h

theorem exec_devCmdSoftReset (h : s.softOk = true) : exec (.devCmdSoftReset p) s = .next (s.setMode Mode.SAFE 7).restarted :=
  congrArg Host.Outcome.next ((State.host_out_of_reset (State.mode_ne_reset_of_softOk h) _ _ _ _).trans (if_pos h))

theorem exec_devCmdSoftReset_rejected (h : s.softOk = false ∨ s.mode = Mode.RESET) :
    ∃ c, exec (.devCmdSoftReset p) s = .next (s.reject p Reg.DEV_CMD.word Src.DEV c 0) := by
  obtain hok | hreset := h
  · obtain ⟨c, hc⟩ := State.host_rejected (s := s) (p := p) (a := Reg.DEV_CMD.word) (src := Src.DEV) (idx := 0) (run := fun t => t.softReset p)
      (if_neg (by simp [hok]))
    exact ⟨c, congrArg Host.Outcome.next hc⟩
  · exact ⟨_, congrArg Host.Outcome.next (if_pos hreset)⟩

theorem exec_selftestDone : exec (.selftestDone o) s = .next (s.selfTestDone o) := rfl

theorem exec_initDone : exec .initDone s = .next s.initDone := rfl

end Rows

/-- Settles O49: a soft reset clears its blocks and keeps their calibration terms, the self-test returns to the mode it came from, the resets of the device
put its words at their reset values, and the internal start ends in SAFE. -/
theorem softResetSelfTestAndStart : Obligations.SoftResetSelfTestAndStart := by
  unfold Obligations.SoftResetSelfTestAndStart
  refine ⟨fun s p hs hok hdisc hcont hcycles => ?soft, fun s p h => ?rejected, fun s m o htest hm hchans htdcs => ?tested,
    fun s o htest => ?untested, fun s => ?pin, fun s => ?power, fun s kept => ?brown, fun s => rfl, fun s hmode hbrown => ?start, fun s h => ?started⟩
  case soft =>
    have := keeps_canonical
    have := keepsMaps_canonical
    have hsafe : (s.setMode Mode.SAFE 7).Canonical := State.setMode_kept hs _ _
    have hword (e : Nat) : 3 ≤ Reg.EE_DESKEW.word e := by simp only [Reg.EE_DESKEW.word]; omega
    have hturned := State.setMode_safe (cause := 7) hdisc hcont hcycles
    have hsame : s.SameWords [Reg.DEV_MODE.word, Reg.DEV_STAT.word] (s.setMode Mode.SAFE 7) := hturned ▸ s.turned_sameWords _ _ _ _
    obtain ⟨hmaps, hbeat, hrecs, hring, _⟩ := (s.setMode Mode.SAFE 7).restarted_beside
    refine ⟨_, exec_devCmdSoftReset hok, State.restarted_enters (State.setMode_enters (by decide) (by decide)) hsafe, State.restarted_lastReset,
      fun a hblock hcal => ?_, fun e he => ⟨?_, ?_⟩, fun a hblock ha => ?_, hmaps, ?_, ?_, ?_, State.devReset_sched⟩
    · exact State.restarted_reset hsafe hblock hcal
    · exact (State.restarted_cal (hi := 51) (lo := 32) hsafe he (by decide) (by decide)).trans (hsame.get (not_mode_word (hword e)))
    · exact (State.restarted_cal (hi := 19) (lo := 0) hsafe he (by decide) (by decide)).trans (hsame.get (not_mode_word (hword e)))
    · exact (State.restarted_outside hsafe hblock ha).trans (hsame a fun h => ha (List.mem_of_mem_take (i := 2) h))
    · rw [hbeat, hturned]; rfl
    · rw [hrecs, hturned]; rfl
    · rw [hring, hturned]; rfl
  case rejected =>
    obtain ⟨c, hc⟩ := exec_devCmdSoftReset_rejected (p := p) h
    exact ⟨_, hc, s.reject_sameWords p _ _ _ _ _ (by decide), s.reject_frame p _ _ _ _⟩
  case tested =>
    obtain ⟨hmode, _, hcause, _, hmem, hnvm, _⟩ := State.setMode_enters (s := s.tested o) (m := m) (cause := 6) hm (by decide)
    have hstore := s.tested_sameStore o
    obtain ⟨hch, htdc, hfb, hledger, hbeat, hdone⟩ := State.tested_tells (s := s) hchans htdcs
    have hstst {f : Fld} (hf : f.addr = Reg.DEV_STST.word) (hlo : f.lo ≤ f.hi) : ((s.tested o).setMode m 6).get f = (s.tested o).get f :=
      State.setMode_get (by rw [hf]; rfl) (apart_turnFields hf hlo)
    refine ⟨(s.tested o).setMode m 6, by rw [exec_selftestDone, State.selfTestDone_returns htest], hmode, hcause, ?_, (hstst rfl (by decide)).trans hbeat,
      (hstst rfl (by decide)).trans hch, (hstst rfl (by decide)).trans htdc, (hstst rfl (by decide)).trans hfb, (hstst rfl (by decide)).trans hledger,
      hmem.trans hstore.1, hnvm.trans hstore.2.1⟩
    rw [State.flag, hstst rfl (by decide)]
    exact hdone
  case untested => rw [exec_selftestDone, State.selfTestDone_idle htest]
  case pin =>
    refine ⟨s.pinReset, rfl, State.mode_reset (State.pinReset_reg (by decide) (by decide)), State.pinReset_lastReset, fun a htb hdev => State.pinReset_reg htb hdev,
      State.pinReset_lock, rfl, rfl, rfl, rfl, rfl, rfl, rfl, rfl⟩
  case power =>
    exact ⟨s.hardReset, rfl, State.mode_reset (State.hardReset_reg _), State.hardReset_reg, State.hardReset_byte, rfl, rfl, rfl, rfl, rfl⟩
  case brown =>
    obtain ⟨hbrown, hregs, hmem, hnvm⟩ := s.brownOut_tells kept
    exact ⟨s.brownOut kept, rfl, State.mode_reset (hregs _), hbrown, hregs, hmem, hnvm, by rw [exec_initDone, State.initDone_idle (.inr hbrown)]⟩
  case start =>
    have hreset : s.scanned.mode = Mode.RESET := (s.scanned_steady.get (f := Reg.DEV_MODE.CUR) rfl).trans hmode
    refine ⟨s.scanned.started, by rw [exec_initDone, State.initDone_starts hmode hbrown],
      State.started_enters.of_same (hreset.trans hmode.symm) s.scanned_steady.now s.scanned_sameStore, State.flag_set_one _ (by decide) (by decide),
      fun q qs hq => ⟨?_, ?_⟩, fun k hk st hst hkey => ?_⟩
    · rw [State.flag, State.started_get hreset (by decide) (by decide) (by decide)]
      exact (State.scanned_shut hq).1
    · exact (State.started_get hreset (by decide) (by decide) (by decide)).trans (State.scanned_shut hq).2
    · have hlow : Reg.LX_KEY.word k < 0x050000 ∧ Reg.LX_KEY.word k ≠ Reg.DEV_MODE.word ∧ Reg.LX_KEY.word k ≠ Reg.DEV_STAT.word := by
        simp only [Reg.LX_KEY.word, Reg.DEV_MODE.word, Reg.DEV_STAT.word]
        omega
      exact (State.started_get hreset hlow.1 hlow.2.1 hlow.2.2).trans (State.scanned_key hk hst hkey)
  case started => rw [exec_initDone, State.initDone_idle h]

end Sys2Proof.Machine
end

section
/-! SUPPORT. The fetch of a statement (R133, R181, R187): the rows that fetch, what they do at a site that cannot issue, and what a fetch that fails
leaves. -/

namespace Sys2Proof.Machine

/-! ### The rows that fetch -/

/-- The rows of the statements and of the opcodes of customer verbs: each issues the statement at PC. -/
def issuingRows (n : Fin 64) : List Instr :=
  [.stmtNop n, .stmtEnd n, .stmtJmp n, .stmtBr n, .stmtBrs n, .stmtCall n, .stmtRet n, .stmtLoop n, .stmtHold n, .stmtLdi n, .stmtAdd n, .stmtSub n,
   .stmtAnd n, .stmtOr n, .stmtXor n, .stmtShl n, .stmtShr n, .stmtSar n, .stmtLdp n, .stmtRdw n, .stmtNow n, .stmtWaitb n, .stmtWaitf n, .stmtWaitp n,
   .stmtClo n, .stmtCla n, .stmtClt n, .stmtClc n, .stmtCld n, .stmtPlay n, .stmtMeas n, .stmtTmeas n, .stmtLtest n, .stmtRec n, .stmtBin n, .stmtAcc n,
   .customerOpcode n]

/-- The row `c` looks at the site before the statement: it does nothing where the site cannot issue, and faults where the fetch fails. -/
structure FetchesFirst (n : Nat) (c : Instr) : Prop where
  idle : ∀ s : State, s.canIssue n = false → exec c s = .next s
  bad : ∀ (s : State) (r v : Nat), s.canIssue n = true → s.fetchBad n = some (r, v) → exec c s = .next (s.fault n r v)

section Fetch
variable {s : State} {n : Nat} {ops : List Nat} {bad : Stmt → State → Option (Nat × Nat)} {run : Stmt → State → State}

theorem State.issue_idle (h : s.canIssue n = false) : s.issue n ops bad run = s := if_pos (by rw [h]; rfl)

theorem State.issue_fetchBad {r v : Nat} (hcan : s.canIssue n = true) (h : s.fetchBad n = some (r, v)) : s.issue n ops bad run = s.fault n r v := by
  simp only [State.issue, hcan, h, Bool.not_true, Bool.false_eq_true, if_false]

theorem State.badOp_idle (h : s.canIssue n = false) : s.badOp n = s := if_pos (by rw [h]; rfl)

theorem State.badOp_fetchBad {r v : Nat} (hcan : s.canIssue n = true) (h : s.fetchBad n = some (r, v)) : s.badOp n = s.fault n r v := by
  simp only [State.badOp, hcan, h, Bool.not_true, Bool.false_eq_true, if_false]

/-- R183: a statement of an opcode that no verb executes. -/
theorem State.badOp_faults (hcan : s.canIssue n = true) (h : s.fetchBad n = none)
    (hop : ((Stmt.of (s.stmtWord n)).op < 0xC0 ∧ (Stmt.of (s.stmtWord n)).op ∉ vendorOps) ∨ s.opValid (Stmt.of (s.stmtWord n)).op = false) :
    s.badOp n = s.fault n Reason.BAD_OP Reason.BAD_OP := by
  have hbad : ((Stmt.of (s.stmtWord n)).op < 0xC0 ∧ !vendorOps.contains (Stmt.of (s.stmtWord n)).op) ∨ !s.opValid (Stmt.of (s.stmtWord n)).op := by
    simpa using hop
  simp only [State.badOp, hcan, h, Bool.not_true, Bool.false_eq_true, if_false]
  exact if_pos hbad

theorem exec_issuingRows {n : Fin 64} : ∀ c ∈ issuingRows n, ∀ s, ∃ ops bad run, exec c s = .next (s.issue n ops bad run) := by
  simp only [issuingRows, List.forall_mem_cons, List.not_mem_nil, false_imp_iff, implies_true, and_true]
  and_intros
  all_goals exact fun s => ⟨_, _, _, rfl⟩

theorem fetchesFirst_of_issuingRows {n : Fin 64} {c : Instr} (hc : c ∈ issuingRows n) : FetchesFirst n c where
  idle s h := by
    obtain ⟨ops, bad, run, hexec⟩ := exec_issuingRows c hc s
    rw [hexec, State.issue_idle h]
  bad s r v hcan h := by
    obtain ⟨ops, bad, run, hexec⟩ := exec_issuingRows c hc s
    rw [hexec, State.issue_fetchBad hcan h]

theorem exec_reservedOpcode {n : Fin 64} : exec (.reservedOpcode n) s = .next (s.badOp n) := rfl

theorem fetchesFirst_reservedOpcode {n : Fin 64} : FetchesFirst n (.reservedOpcode n) where
  idle s h := by rw [exec_reservedOpcode, State.badOp_idle h]
  bad s r v hcan h := by rw [exec_reservedOpcode, State.badOp_fetchBad hcan h]

theorem fetchesFirst_statement {n : Fin 64} {c : Instr} (hc : c ∈ issuingRows n ++ [.reservedOpcode n]) : FetchesFirst n c := by
  rcases List.mem_append.1 hc with hissue | hreserved
  · exact fetchesFirst_of_issuingRows hissue
  · obtain rfl := List.mem_singleton.1 hreserved
    exact fetchesFirst_reservedOpcode

/-- R198, R201: a site that can issue runs, and neither a statement nor a verb of it is in execution. -/
theorem State.idle_of_canIssue (h : s.canIssue n = true) :
    s.siteState n = Site.RUNNING ∧ s.flag (Reg.SQ_STAT.STOPPING n) = false ∧ (s.seq n).wait = .none ∧ (s.seq n).verb.running = false := by
  simp only [State.canIssue, Bool.and_eq_true, beq_iff_eq, Bool.not_eq_true'] at h
  obtain ⟨⟨⟨⟨hrun, hstop⟩, -⟩, hwait⟩, hverb⟩ := h
  exact ⟨hrun, hstop, hwait, hverb⟩

theorem State.canIssue_false (h : s.siteState n ≠ Site.RUNNING ∨ s.flag (Reg.SQ_STAT.STOPPING n) = true ∨ (s.seq n).wait ≠ .none ∨
    (s.seq n).verb.running = true) : s.canIssue n = false := by
  refine Bool.eq_false_iff.2 fun hcan => ?_
  obtain ⟨hrun, hstop, hwait, hverb⟩ := State.idle_of_canIssue hcan
  simp [hrun, hstop, hwait, hverb] at h

/-- R187: a fault of a statement that could be issued. -/
theorem State.fault_of_canIssue (hcan : s.canIssue n = true) {reason : Nat} (hr : reason ≠ Reason.UNCORR) :
    s.fault n reason reason = (s.faulted n reason).follow := by
  obtain ⟨hrun, -, hwait, hverb⟩ := State.idle_of_canIssue hcan
  exact State.fault_eq hrun hwait hverb hr

end Fetch

/-! ### An uncorrectable fetch (R133, R187) -/

section UncorrectableFetch
variable {s t u : State} {n a : Nat}

/-- R133, R187: FAULT and FAULTED of a site tell an uncorrectable error, and the error is counted. -/
def State.uncorrTold (s : State) (n : Nat) : State := (s.faultTold n Reason.UNCORR).uncorrMet

/-- The state of a site whose fetch has met an uncorrectable error, before what follows in its beat. -/
def State.uncorrFaulted (s : State) (n a : Nat) : State :=
  let t := (s.uncorrTold n).event n Ev.PM_UNCORR a
  (t.set (Reg.SQ_STAT.CAUSES n) (t.get (Reg.SQ_STAT.CAUSES n) ||| 2 ^ Cause.FAULT)).setSite n Site.HELD

theorem State.uncorrMet_sameFields : s.SameFields [Reg.PM_CNT.UNCORR, Reg.PM_STAT.UNCORR] s.uncorrMet :=
  (State.SameFields.set Reg.PM_CNT.UNCORR _ (by decide) (by decide) (by simp)).snoc
    (State.SameFields.set Reg.PM_STAT.UNCORR 1 (by decide) (by decide) (by simp))

theorem State.uncorrTold_get {f : Fld} (hf : f.Apart [Reg.SQ_STAT.FAULT n, Reg.SQ_STAT.FAULTED n, Reg.PM_CNT.UNCORR, Reg.PM_STAT.UNCORR]) :
    (s.uncorrTold n).get f = s.get f :=
  State.SameFields.get ((State.faultTold_sameFields.mono (by simp +contextual)).snoc (State.uncorrMet_sameFields.mono (by simp +contextual))) hf

theorem State.uncorrTold_siteState : (s.uncorrTold n).siteState n = s.siteState n := by
  refine State.uncorrTold_get ?_
  simp only [Fld.apart_cons, Fld.apart_nil, Reg.SQ_STAT.FAULT, Reg.SQ_STAT.FAULTED, Reg.SQ_STAT.STATE, Reg.PM_CNT.UNCORR, Reg.PM_STAT.UNCORR]
  omega

theorem State.uncorrTold_pc : (s.uncorrTold n).pc n = s.pc n := by
  refine State.uncorrTold_get ?_
  simp only [Fld.apart_cons, Fld.apart_nil, Reg.SQ_STAT.FAULT, Reg.SQ_STAT.FAULTED, Reg.SQ_STAT.PC, Reg.PM_CNT.UNCORR, Reg.PM_STAT.UNCORR]
  omega

theorem State.uncorrTold_fault : (s.uncorrTold n).get (Reg.SQ_STAT.FAULT n) = Reason.UNCORR := by
  refine (State.uncorrMet_sameFields.get ?_).trans (State.faultTold_fault (by decide))
  simp only [Fld.apart_cons, Fld.apart_nil, Reg.SQ_STAT.FAULT, Reg.PM_CNT.UNCORR, Reg.PM_STAT.UNCORR]
  omega

theorem State.uncorrTold_uncorr : (s.uncorrTold n).flag Reg.PM_STAT.UNCORR = true := State.flag_set_one _ (by decide) (by decide)

theorem State.uncorrTold_written : s.Written ((s.uncorrTold n).event n Ev.PM_UNCORR a) n Ev.PM_UNCORR a :=
  State.event_written State.uncorrTold_siteState State.uncorrTold_pc rfl

/-- R187, R200: the record and the hold change none of what tells the fault. -/
theorem State.uncorrFaulted_sameFields : (s.uncorrTold n).SameFields (Reg.SQ_STAT.CAUSES n :: moveFields n) (s.uncorrFaulted n a) :=
  have hevent : (s.uncorrTold n).SameFields (Reg.SQ_STAT.CAUSES n :: moveFields n) ((s.uncorrTold n).event n Ev.PM_UNCORR a) :=
    State.SameFields.of_regs State.event_regs
  (hevent.snoc (State.set_causes_sameFields (by simp))).snoc ((State.setSite_sameFields (by decide)).mono (by simp +contextual))

theorem State.MsixFrame.trans (h : s.MsixFrame t) (h' : t.MsixFrame u) : s.MsixFrame u := by
  unfold State.MsixFrame at h h' ⊢
  rw [h', h]

theorem State.MsixFrame.mem (h : s.MsixFrame t) : t.mem = s.mem := by
  unfold State.MsixFrame at h
  rw [h]

theorem State.MsixFrame.seqs (h : s.MsixFrame t) : t.seqs = s.seqs := by
  unfold State.MsixFrame at h
  rw [h]

theorem State.MsixFrame.pendRecs (h : s.MsixFrame t) : t.pendRecs = s.pendRecs := by
  unfold State.MsixFrame at h
  rw [h]

theorem State.uncorrFaulted_frame : ((s.uncorrTold n).event n Ev.PM_UNCORR a).MsixFrame (s.uncorrFaulted n a) := by
  unfold State.uncorrFaulted
  exact (State.MsixFrame.refl.set _ _).trans State.setSite_msixFrame

theorem State.uncorrFaulted_written : s.Written (s.uncorrFaulted n a) n Ev.PM_UNCORR a := by
  unfold State.Written
  rw [State.uncorrFaulted_frame.pendRecs]
  exact State.uncorrTold_written

/-- R133, R187: the fault of a statement that cannot be fetched for an uncorrectable error. -/
theorem State.fault_uncorr (hcan : s.canIssue n = true) : s.fault n Reason.UNCORR a = (s.uncorrFaulted n a).follow := by
  obtain ⟨hrun, -, hwait, hverb⟩ := State.idle_of_canIssue hcan
  have hstate : ((s.uncorrTold n).event n Ev.PM_UNCORR a).siteState n = Site.RUNNING :=
    (State.event_get _).trans (State.uncorrTold_siteState.trans hrun)
  have hseq : ((s.uncorrTold n).event n Ev.PM_UNCORR a).seq n = s.seq n := State.event_seq n
  have hfault : s.fault n Reason.UNCORR a = (((s.uncorrTold n).event n Ev.PM_UNCORR a).hold n Cause.FAULT).follow :=
    State.faultBy_statement (report := fun t => t.uncorrMet.event n Ev.PM_UNCORR a) hverb
  rw [hfault, State.hold_running hstate, State.stopIssue_idle (by rw [State.setSite_seq, State.set_seq, hseq, hwait]), State.uncorrFaulted]

/-- What an uncorrectable fetch leaves. -/
theorem State.uncorrFaulted_tells : (s.uncorrFaulted n a).siteState n = Site.HELD ∧
    (s.uncorrFaulted n a).get (Reg.SQ_STAT.FAULT n) = Reason.UNCORR ∧ (s.uncorrFaulted n a).pc n = s.pc n ∧
    s.Written (s.uncorrFaulted n a) n Ev.PM_UNCORR a ∧ (s.uncorrFaulted n a).flag Reg.PM_STAT.UNCORR = true ∧
    (s.uncorrFaulted n a).mem = s.mem ∧ (s.uncorrFaulted n a).seqs = s.seqs := by
  have hfields := State.uncorrFaulted_sameFields (s := s) (n := n) (a := a)
  refine ⟨State.siteState_setSite (by decide), (hfields.get ?fault).trans State.uncorrTold_fault, (hfields.get ?pc).trans State.uncorrTold_pc,
    State.uncorrFaulted_written, (hfields.flag ?uncorr).trans State.uncorrTold_uncorr, State.uncorrFaulted_frame.mem, State.uncorrFaulted_frame.seqs⟩
  all_goals
    simp only [moveFields, Fld.apart_cons, Fld.apart_nil, Reg.SQ_STAT.FAULT, Reg.SQ_STAT.PC, Reg.SQ_STAT.CAUSES, Reg.SQ_STAT.STATE, Reg.SQ_CNT.HOLDS,
      intrField, Reg.PM_STAT.UNCORR]
    omega

end UncorrectableFetch

/-- Settles O18: a fetch that fails and an opcode that no verb executes are faults, and a site that cannot issue does nothing. -/
theorem fetchAndOpcodeFaults : Obligations.FetchAndOpcodeFaults := by
  unfold Obligations.FetchAndOpcodeFaults
  refine ⟨fun s n hcan hregion c hc => ?region, fun s n a hcan huncorr c hc => ?uncorr, fun s n i hcan hfetch hi hop => ?opcode,
    fun s n hidle c hc => ?idle⟩
  case region =>
    refine ⟨s.faulted n Reason.REGION, ?_, State.faulted_faults (by decide)⟩
    rw [(fetchesFirst_statement hc).bad s _ _ hcan hregion, State.fault_of_canIssue hcan (by decide)]
  case uncorr =>
    refine ⟨s.uncorrFaulted n a, ?_, State.uncorrFaulted_tells⟩
    rw [(fetchesFirst_statement hc).bad s _ _ hcan huncorr, State.fault_uncorr hcan]
  case opcode =>
    subst hi
    refine ⟨s.faulted n Reason.BAD_OP, ?_, State.faulted_faults (by decide)⟩
    rw [exec_reservedOpcode, State.badOp_faults hcan hfetch hop, State.fault_of_canIssue hcan (by decide)]
  case idle => exact (fetchesFirst_statement hc).idle s (State.canIssue_false hidle)

end Sys2Proof.Machine
end

section
/-! SUPPORT. The bulk port on pattern memory (R133, R145, R146, R462 to R464): the bytes that a write stores, the regions and leases that it meets, the
pointer of its channel, and what a read answers. -/

namespace Sys2Proof.Machine

/-! ### The bytes of a write -/

section Bytes
variable {s t : State} {a b : Nat} {data : List ByteLane}

theorem State.byte_of_mem (h : t.mem = s.mem) : t.byte b = s.byte b := by rw [State.byte, h, State.byte]

/-- R464: each enabled lane is stored at its place, and every other byte stays. -/
theorem State.writeLanes_byte (hin : a + data.length ≤ pmSize) :
    (s.writeLanes a data).byte b = if a ≤ b then (data[b - a]?.join).getD (s.byte b) else s.byte b := by
  induction data generalizing s a with
  | nil => simp [State.writeLanes]
  | cons lane data ih =>
    have hlen : a + 1 + data.length ≤ pmSize := by rw [List.length_cons] at hin; omega
    have hfirst : (s.writeLanes a (lane :: data)).byte b =
        if a + 1 ≤ b then (data[b - (a + 1)]?.join).getD (s.byte b) else if b = a then lane.getD (s.byte b) else s.byte b := by
      cases lane with
      | none => simp [State.writeLanes, ih hlen]
      | some v =>
        rw [State.writeLanes, ih hlen, State.byte_setByte _ _ _ (by omega)]
        split
        next hlt => rw [if_neg (by omega)]
        next => rfl
    rw [hfirst]
    rcases Nat.lt_trichotomy b a with hlt | rfl | hgt
    · rw [if_neg (by omega), if_neg (by omega), if_neg (by omega)]
    · simp
    · obtain ⟨k, rfl⟩ := Nat.exists_eq_add_of_lt hgt
      simp [show a + k + 1 - a = k + 1 by omega, show a + k + 1 - (a + 1) = k by omega, show a + 1 ≤ a + k + 1 by omega, show a ≤ a + k + 1 by omega]

/-- From `s` to `t` the bytes from `a` on are those of the enabled lanes of `data`; every other byte stays. -/
def State.Stores (s : State) (a : Nat) (data : List ByteLane) (t : State) : Prop :=
  ∀ b, t.byte b = if a ≤ b then (data[b - a]?.join).getD (s.byte b) else s.byte b

theorem State.Stores.enabled (h : s.Stores a data t) {j : Nat} {v : Byte} (hj : data[j]? = some (some v)) : t.byte (a + j) = v := by
  rw [h, if_pos (Nat.le_add_right _ _), Nat.add_sub_cancel_left, hj]
  rfl

theorem State.Stores.disabled (h : s.Stores a data t) {j : Nat} (hj : data[j]? = some none) : t.byte (a + j) = s.byte (a + j) := by
  rw [h, if_pos (Nat.le_add_right _ _), Nat.add_sub_cancel_left, hj]
  rfl

theorem State.Stores.outside (h : s.Stores a data t) (hb : b < a ∨ a + data.length ≤ b) : t.byte b = s.byte b := by
  rw [h]
  split
  next hle => rw [List.getElem?_eq_none (by omega)]; rfl
  next => rfl

theorem State.writeLanes_stores (hin : a + data.length ≤ pmSize) : s.Stores a data (s.writeLanes a data) := fun _ => State.writeLanes_byte hin

/-- What is stored over a state with the same memory is stored over it. -/
theorem State.Stores.of_mem {u : State} (h : u.Stores a data t) (hu : u.mem = s.mem) : s.Stores a data t := fun b => by rw [h b, State.byte_of_mem hu]

/-- An operation that keeps the memory keeps what was stored. -/
theorem State.Stores.to_mem {u : State} (h : s.Stores a data t) (hu : u.mem = t.mem) : s.Stores a data u := fun b => by rw [State.byte_of_mem hu, h b]

theorem State.memReq_mem {k : Nat} : (s.memReq a k).mem = s.mem := by rw [(State.memReq_requested s a k).frame]

theorem State.memWrite_stores (hin : a + data.length ≤ pmSize) : s.Stores a data (s.memWrite a data) := by
  have hlanes : s.Stores a data ((s.memReq a data.length).writeLanes a data) := (State.writeLanes_stores hin).of_mem State.memReq_mem
  exact ite_kept (fun _ => hlanes) fun _ => hlanes

end Bytes

/-! ### The leases that a write meets (R145, R146) -/

section Violations
variable {s : State} {a i : Nat} {data : List ByteLane}

/-- R145: a violation reports, and stops streams and sites, but stores nothing. -/
theorem State.violated_sameStore (prot viol : List Nat) (first : Nat → Nat) : s.SameStore
    ((s.forL prot fun i t => ((t.violRecord i (first i)).set Reg.PM_STAT.VIOL_DROP 1).intr Intr.LEASE).forL viol fun i t =>
      ((((t.violRecord i (first i)).set Reg.PM_STAT.VIOLATION 1).intr Intr.LEASE).violStreams i (first i)).violSites i (first i)) := by
  have := keeps_sameStore s
  refine State.forL_kept _ _ (fun i t ht => ?_) (State.forL_kept _ _ (fun i t ht => ?_) (State.SameStore.refl _))
  · exact State.violSites_kept (State.violStreams_kept (State.intr_kept (State.set_kept (State.violRecord_kept ht _ _) _ _) _) _ _) _ _
  · exact State.intr_kept (State.set_kept (State.violRecord_kept ht _ _) _ _) _

/-- R146: the leased FAILCAP and OVERFLOW regions that a write reaches. -/
def State.protectedRgns (s : State) (a k : Nat) : List Nat :=
  ((s.rgnsReached a k).filter fun i => s.leased i).filter fun i => 2 ≤ s.rgnKind i

theorem State.mem_protectedRgns {k : Nat} : i ∈ s.protectedRgns a k ↔ (i ∈ s.rgnsReached a k ∧ s.leased i = true) ∧ 2 ≤ s.rgnKind i := by
  simp only [State.protectedRgns, List.mem_filter, decide_eq_true_eq]

/-- R145, R146: a write reports its violations; then it stores, unless it reaches a protected region. -/
theorem State.bulkStore_cases : ∃ u, s.SameStore u ∧
    s.bulkStore a data = if (s.protectedRgns a data.length).isEmpty then (u.memWrite a data, false) else (u, true) :=
  ⟨_, State.violated_sameStore _ _ _, rfl⟩

/-- R145: a write that reaches no protected region stores. -/
theorem State.bulkPm_stores (hin : a + data.length ≤ pmSize) (h : s.protectedRgns a data.length = []) : s.Stores a data (s.bulkPm a data) := by
  obtain ⟨u, hu, hstore⟩ := s.bulkStore_cases (a := a) (data := data)
  have hwrite : s.Stores a data (u.memWrite a data) := (State.memWrite_stores hin).of_mem hu.1
  have := keeps_sameStore (u.memWrite a data)
  have hkept : (u.memWrite a data).SameStore (s.bulkPm a data) := by
    simp only [State.bulkPm, hstore, h, List.isEmpty_nil, if_true, Bool.false_eq_true, if_false]
    exact State.follow_kept (ite_kept (fun _ => State.set_kept (State.SameStore.refl _) _ _) fun _ => State.SameStore.refl _)
  exact hwrite.to_mem hkept.1

/-- R146: a write that reaches a protected region is dropped whole, and reported. -/
theorem State.bulkPm_drops (h : s.protectedRgns a data.length ≠ []) :
    ∃ u : State, s.bulkPm a data = u.follow ∧ u.mem = s.mem ∧ u.flag Reg.HL_STAT.VIOL_DROP = true := by
  obtain ⟨u, hu, hstore⟩ := s.bulkStore_cases (a := a) (data := data)
  refine ⟨u.set Reg.HL_STAT.VIOL_DROP 1, ?_, hu.1, State.flag_set_one _ (by decide) (by decide)⟩
  have hne : (s.protectedRgns a data.length).isEmpty = false := List.isEmpty_eq_false_iff.2 h
  simp only [State.bulkPm, hstore, hne, Bool.false_eq_true, if_false, if_true]

end Violations

/-! ### Regions and leases beside the host link (R134, R144) -/

/-- From `s` to `t` only registers of the block of the host link have changed. -/
structure State.LinkStep (s t : State) : Prop where
  words : ∀ b, b < 0x005000 ∨ 0x006000 ≤ b → t.reg b = s.reg b
  frame : t = { s with regs := t.regs }

section Leases
variable {s t : State} {i n x a k : Nat} (h : s.LinkStep t)
include h

theorem State.LinkStep.mem : t.mem = s.mem := by rw [h.frame]

theorem State.LinkStep.bytes : t.bytes a k = s.bytes a k := by simp only [State.bytes, State.byte_of_mem h.mem]

theorem State.LinkStep.anyUncorr : t.anyUncorr a k = s.anyUncorr a k := by rw [h.frame]; rfl

theorem State.LinkStep.get {f : Fld} (hf : f.addr < 0x005000 ∨ 0x006000 ≤ f.addr) : t.get f = s.get f := by rw [State.get, h.words _ hf, State.get]

theorem State.LinkStep.flag {f : Fld} (hf : f.addr < 0x005000 ∨ 0x006000 ≤ f.addr) : t.flag f = s.flag f := by rw [State.flag, h.get hf, State.flag]

theorem State.LinkStep.rgn {hi lo : Nat} : t.get ⟨0x048100 + i, hi, lo⟩ = s.get ⟨0x048100 + i, hi, lo⟩ := h.get (.inr (by simp only; omega))

theorem State.LinkStep.rgnLo : t.rgnLo i = s.rgnLo i := congrArg (· * 4096) h.rgn

theorem State.LinkStep.rgnHi : t.rgnHi i = s.rgnHi i := congrArg₂ (fun base size => (base + size) * 4096) h.rgn h.rgn

theorem State.LinkStep.rgnKind : t.rgnKind i = s.rgnKind i := h.rgn

theorem State.LinkStep.rgnValid : t.rgnValid i = s.rgnValid i := congrArg (fun v : Nat => decide (v ≠ 0)) h.rgn

theorem State.LinkStep.inRgn : t.inRgn i a = s.inRgn i a := by rw [State.inRgn, State.inRgn, h.rgnLo, h.rgnHi]

theorem State.LinkStep.desc (d : Desc) : d.inRgn t i = d.inRgn s i := by simp only [Desc.inRgn, h.inRgn]

theorem State.LinkStep.streamUses : t.streamUses x i = s.streamUses x i := by
  have hstream : t.stream x = s.stream x := by rw [h.frame]; rfl
  have hstate : t.streamState x = s.streamState x := h.get (.inr (by simp only [Reg.SO_STR_STAT.STATE]; omega))
  simp only [State.streamUses, hstream, hstate, h.inRgn, h.desc]

theorem State.LinkStep.holds : t.holds n i = s.holds n i := by
  have hseq : t.seq n = s.seq n := by rw [h.frame]; rfl
  have hstream : t.streamOf n = s.streamOf n := by rw [h.frame]; rfl
  have hlive : t.siteLive n = s.siteLive n := congrArg _ (h.get (f := Reg.SQ_STAT.STATE n) (.inr (by simp only [Reg.SQ_STAT.STATE]; omega)))
  have hring {hi lo : Nat} : (⟨0x042000 + 0x10 * n, hi, lo⟩ : Fld).addr < 0x005000 ∨ 0x006000 ≤ (⟨0x042000 + 0x10 * n, hi, lo⟩ : Fld).addr :=
    .inr (by simp only; omega)
  simp only [State.holds, hseq, hstream, hlive, h.rgnValid, h.rgnKind, h.streamUses, h.inRgn, h.flag (f := Reg.SO_FC_CFG.EN n) hring,
    h.get (f := Reg.SO_FC_CFG.BASE n) hring]

theorem State.LinkStep.leased : t.leased i = s.leased i := by
  simp only [State.leased, State.holders, h.holds, h.rgnValid, h.rgnKind, h.inRgn, h.flag (f := Reg.LG_OVF.EN) (.inl (by decide)),
    h.get (f := Reg.LG_OVF.BASE) (.inl (by decide))]

theorem State.LinkStep.rgnsReached : t.rgnsReached a k = s.rgnsReached a k := by simp only [State.rgnsReached, h.rgnValid, h.rgnLo, h.rgnHi]

theorem State.LinkStep.protectedRgns : t.protectedRgns a k = s.protectedRgns a k := by
  simp only [State.protectedRgns, h.rgnsReached, h.leased, h.rgnKind]

end Leases

/-! ### Requests within the target (R462) -/

section Requests
variable {s : State} {ch : Fin 4} {off : BitVec 20} {data : List ByteLane} {a len : Nat}

/-- R462: a STREAM request within pattern memory moves the pointer past its bytes; another leaves it. -/
theorem State.bulkTake_within (htarget : s.get (Reg.HL_BULK.TARGET ch) = 0) (hin : s.bulkBase ch off.toNat + len ≤ pmSize) :
    s.bulkTake ch off.toNat len =
      if s.get (Reg.HL_BULK.MODE ch) = 1 then s.set (Reg.HL_BULK.PTR ch) (s.bulkBase ch off.toNat + len) else s := by
  have hsize : s.bulkSize ch = pmSize := if_pos htarget
  simp only [State.bulkTake, hsize, if_neg (Nat.not_lt.2 hin), Nat.min_eq_right hin]

theorem State.bulkTake_step (htarget : s.get (Reg.HL_BULK.TARGET ch) = 0) (hin : s.bulkBase ch off.toNat + len ≤ pmSize) :
    s.LinkStep (s.bulkTake ch off.toNat len) := by
  rw [State.bulkTake_within htarget hin]
  refine ite_kept (fun _ => ⟨fun b hb => State.reg_set_other _ ?_, rfl⟩) fun _ => ⟨fun _ _ => rfl, rfl⟩
  simp only [Reg.HL_BULK.PTR]
  omega

theorem exec_bulkWrite (hd3 : s.link.d3 = false) (hmode : s.get (Reg.HL_BULK.MODE ch) ≠ 0) (htarget : s.get (Reg.HL_BULK.TARGET ch) = 0)
    (hdata : data ≠ []) (hin : s.bulkBase ch off.toNat + data.length ≤ pmSize) :
    exec (.bulkWrite ch off data) s = .next ((s.bulkTake ch off.toNat data.length).bulkPm (s.bulkBase ch off.toNat) data) := by
  have hsize : s.bulkSize ch = pmSize := if_pos htarget
  have htake : data.take (s.bulkSize ch - s.bulkBase ch off.toNat) = data := List.take_of_length_le (by omega)
  show execBulkWrite ch off data s = _
  simp only [execBulkWrite, hd3, hmode, htarget, htake, hdata, Bool.false_eq_true, if_false, Nat.zero_ne_one]

theorem exec_bulkRead (hd3 : s.link.d3 = false) (hmode : s.get (Reg.HL_BULK.MODE ch) ≠ 0) (htarget : s.get (Reg.HL_BULK.TARGET ch) = 0)
    (hin : s.bulkBase ch off.toNat + len ≤ pmSize) :
    exec (.bulkRead ch off len) s = .next ((s.bulkTake ch off.toNat len).bulkPmRead (s.bulkBase ch off.toNat) len 0) := by
  have hsize : s.bulkSize ch = pmSize := if_pos htarget
  have hlen : min len (s.bulkSize ch - s.bulkBase ch off.toNat) = len := Nat.min_eq_left (by omega)
  show execBulkRead ch off len s = _
  simp only [execBulkRead, hd3, hmode, htarget, hlen, Bool.false_eq_true, if_false, Nat.zero_ne_one, Nat.sub_self]

/-- R462: where the pointer of a channel stands after a request within pattern memory. -/
theorem State.bulkTake_ptr (htarget : s.get (Reg.HL_BULK.TARGET ch) = 0) (hin : s.bulkBase ch off.toNat + len ≤ pmSize) :
    (s.bulkTake ch off.toNat len).get (Reg.HL_BULK.PTR ch) =
      if s.get (Reg.HL_BULK.MODE ch) = 1 then (s.bulkBase ch off.toNat + len) % 2 ^ 40 else s.get (Reg.HL_BULK.PTR ch) := by
  rw [State.bulkTake_within htarget hin]
  split
  · exact State.get_set_same _ _ (Nat.le_of_ble_eq_true rfl) (Nat.le_of_ble_eq_true rfl)
  · rfl

end Requests

/-! ### What a read answers (R133, R464) -/

section Reads
variable {s : State} {ch : Fin 4} {a k pad : Nat}

theorem State.bulkPmRead_bulk : (s.bulkPmRead a k pad).link.bulk = (s.bytes a k ++ List.replicate pad 0, s.anyUncorr a k) := rfl

theorem State.bulkPmRead_mem : (s.bulkPmRead a k pad).mem = s.mem := by
  have := keeps_sameStore s
  exact (State.bulkPmRead_kept (State.SameStore.refl s) a k pad).1

/-- R133, R165: a read reports in the states of the stacks and in what tells uncorrectable errors alone. -/
theorem State.bulkPmRead_sameFields : s.SameFields (Reg.HL_STAT.UNCORR :: memoryFields) (s.bulkPmRead a k pad) := by
  have hreq : s.Beside memoryFields (s.memReq a k) := State.memReq_beside
  have hmono {t : State} (h : s.Beside memoryFields t) : s.SameFields (Reg.HL_STAT.UNCORR :: memoryFields) t :=
    h.fields.mono fun _ => List.mem_cons_of_mem _
  refine State.SameFields.snoc (t := if s.anyUncorr a k then (s.memReq a k).uncorrMet.set Reg.HL_STAT.UNCORR 1 else s.memReq a k) ?_
    (State.SameFields.of_regs rfl)
  exact ite_kept (fun _ => (hmono hreq.uncorrMet).snoc (State.SameFields.set _ _ (by decide) (by decide) List.mem_cons_self)) fun _ => hmono hreq

theorem State.bulkPmRead_ptr : (s.bulkPmRead a k pad).get (Reg.HL_BULK.PTR ch) = s.get (Reg.HL_BULK.PTR ch) := by
  refine State.bulkPmRead_sameFields.get ?_
  simp only [memoryFields, Fld.apart_cons, Fld.apart_nil, Reg.HL_BULK.PTR, Reg.HL_STAT.UNCORR, Reg.SO_STAT.STACK0, Reg.SO_STAT.STACK1, Reg.PM_CNT.UNCORR,
    Reg.PM_STAT.UNCORR]
  omega

end Reads

/-- Settles O11: a bulk write stores its enabled bytes, or none where it reaches a leased region that only the device writes, and a bulk read answers the
bytes and moves the pointer of a STREAM channel. -/
theorem bulkPortMovesBytes : Obligations.BulkPortMovesBytes := by
  unfold Obligations.BulkPortMovesBytes
  refine ⟨fun s ch off data a hd3 hmode htarget ha hdata hin hfree => ?stores,
    fun s ch off data a i hd3 hmode htarget ha hdata hin hreach hlease hkind => ?drops,
    fun s ch off len a hd3 hmode htarget ha hin => ?reads⟩ <;> subst ha
  case stores =>
    have hstep := State.bulkTake_step htarget hin
    have hnone : s.protectedRgns (s.bulkBase ch off.toNat) data.length = [] := List.eq_nil_iff_forall_not_mem.2 fun i hi => by
      obtain ⟨⟨hreach, hlease⟩, hkind⟩ := State.mem_protectedRgns.1 hi
      have := hfree i hreach hlease
      omega
    have hstored : s.Stores (s.bulkBase ch off.toNat) data ((s.bulkTake ch off.toNat data.length).bulkPm (s.bulkBase ch off.toNat) data) :=
      (State.bulkPm_stores hin (hstep.protectedRgns.trans hnone)).of_mem hstep.mem
    exact ⟨_, exec_bulkWrite hd3 hmode htarget hdata hin, fun _ _ => hstored.enabled, fun _ => hstored.disabled, fun _ => hstored.outside⟩
  case drops =>
    have hstep := State.bulkTake_step htarget hin
    have hsome : s.protectedRgns (s.bulkBase ch off.toNat) data.length ≠ [] :=
      List.ne_nil_of_mem (State.mem_protectedRgns.2 ⟨⟨hreach, hlease⟩, hkind⟩)
    obtain ⟨u, hdrop, hmem, hflag⟩ := State.bulkPm_drops (hstep.protectedRgns.trans_ne hsome)
    exact ⟨u, by rw [exec_bulkWrite hd3 hmode htarget hdata hin, hdrop], hmem.trans hstep.mem, hflag⟩
  case reads =>
    have hstep := State.bulkTake_step htarget hin
    refine ⟨_, exec_bulkRead hd3 hmode htarget hin, ?_, State.bulkPmRead_mem.trans hstep.mem, fun hstream => ?_, fun hwindow => ?_⟩
    · rw [State.bulkPmRead_bulk, hstep.bytes, hstep.anyUncorr, List.replicate_zero, List.append_nil]
    · rw [State.bulkPmRead_ptr, State.bulkTake_ptr htarget hin, if_pos hstream]
    · rw [State.bulkPmRead_ptr, State.bulkTake_ptr htarget hin, if_neg hwindow]

end Sys2Proof.Machine
end

section
/-! SUPPORT. What the end of a clause leaves alone, beside its slot and its reports (R235, R242). -/

namespace Sys2Proof.Machine

/-- From `s` to `t` nothing but registers, clause slots, the shadow bank of tense items, waiting log entries and pending messages has changed. -/
def State.ClauseFrame (s t : State) : Prop :=
  t = { s with regs := t.regs, tensesShadow := t.tensesShadow, slots := t.slots, logWait := t.logWait, msix := t.msix }

section
variable {s t u : State} {k result : Nat}

theorem State.ClauseFrame.refl : s.ClauseFrame s := rfl

theorem State.ClauseFrame.trans (h : s.ClauseFrame t) (h' : t.ClauseFrame u) : s.ClauseFrame u := by
  unfold State.ClauseFrame at h h' ⊢
  rw [h', h]

theorem State.ClauseFrame.set (h : s.ClauseFrame t) (f : Fld) (v : Nat) : s.ClauseFrame (t.set f v) := h.trans rfl

theorem State.ClauseFrame.setSlot (h : s.ClauseFrame t) (k : Nat) (c : ClSlot) : s.ClauseFrame (t.setSlot k c) := h.trans rfl

theorem State.ClauseFrame.restoreTenses (h : s.ClauseFrame t) (k : Nat) : s.ClauseFrame (t.restoreTenses k) := h.trans rfl

theorem State.ClauseFrame.log (h : s.ClauseFrame t) (src code det cls : Nat) : s.ClauseFrame (t.log src code det cls) := by
  refine h.trans ?_
  rw [State.log_frame]
  rfl

theorem State.ClauseFrame.intr (h : s.ClauseFrame t) (src : Nat) : s.ClauseFrame (t.intr src) := by
  refine h.trans ?_
  rw [State.MsixFrame.refl.intr src]
  rfl

theorem State.ClauseFrame.countResult (h : s.ClauseFrame t) (result : Nat) : s.ClauseFrame (t.countResult result) :=
  ite_kept (fun _ => h.set _ _) fun _ => ite_kept (fun _ => h.set _ _) fun _ => ite_kept (fun _ => h.set _ _) fun _ => h

theorem State.ClauseFrame.mem (h : s.ClauseFrame t) : t.mem = s.mem := by
  unfold State.ClauseFrame at h
  rw [h]

theorem State.ClauseFrame.watches (h : s.ClauseFrame t) : t.watches = s.watches := by
  unfold State.ClauseFrame at h
  rw [h]

theorem State.ClauseFrame.pendActs (h : s.ClauseFrame t) : t.pendActs = s.pendActs := by
  unfold State.ClauseFrame at h
  rw [h]

theorem State.endClause_frame (h : s.slotOwner k = none) : s.ClauseFrame (s.endClause k result) := by
  have htenses : s.ClauseFrame (if result = Cl.OK then s else s.restoreTenses k) :=
    ite_kept (fun _ => State.ClauseFrame.refl) fun _ => State.ClauseFrame.refl.restoreTenses k
  have hbeat := ite_kept (c := (s.slot k).dec.isNone = true) (fun _ => htenses.set (Reg.CL_SLOT_STAT.DEC_BEAT k) (s.now % 2 ^ 32)) fun _ => htenses
  have hlog := ite_kept (c := result = Cl.OK) (fun _ => hbeat.countResult result) fun _ =>
    (hbeat.countResult result).log Src.CL (Lc.clause result) (clauseDetail k (s.slotTag k) (s.get (Reg.CL_SLOT_STAT.FIRST_BAD k))) 5
  rw [State.endClause, h]
  exact (((hlog.set _ _).set _ _).setSlot _ _).intr _

/-- The words of the time measurement system and of every unit above it stay. -/
theorem State.endClause_reg {a : Nat} (h : s.slotOwner k = none) (hk : k < 16) (ha : 0x058400 ≤ a) : (s.endClause k result).reg a = s.reg a := by
  obtain ⟨u, c, hfields, -, heq⟩ := s.endClause_host (result := result) h
  rw [heq, State.slotDone_sameFields.reg ?done, hfields.reg ?counts]
  case done =>
    simp only [doneFields, List.forall_mem_cons, Reg.CL_SLOT_STAT.RESULT, Reg.CL_SLOT_STAT.STATE, intrField]
    exact ⟨by omega, by omega, by omega, by simp⟩
  case counts =>
    simp only [endFields, List.forall_mem_cons, Reg.CL_SLOT_STAT.DEC_BEAT, Reg.CL_CNT.COMMITTED, Reg.CL_CNT.ABORTED, Reg.CL_CNT.REFUSED,
      Reg.LOG_STAT.DROPPED]
    exact ⟨by omega, by omega, by omega, by omega, by omega, by simp⟩

/-- R235, R253: a clause of the host that ends with OK is counted and has no log entry. -/
theorem State.endClause_ok_sameWords (h : s.slotOwner k = none) :
    s.SameWords [Reg.CL_SLOT_STAT.word k, Reg.CL_CNT.word, Reg.HL_INT.word] (s.endClause k Cl.OK) := by
  have hbeat : s.SameWords [Reg.CL_SLOT_STAT.word k, Reg.CL_CNT.word, Reg.HL_INT.word]
      (if (s.slot k).dec.isNone then s.set (Reg.CL_SLOT_STAT.DEC_BEAT k) (s.now % 2 ^ 32) else s) :=
    ite_kept (fun _ => State.SameWords.set _ _ List.mem_cons_self) fun _ => State.SameWords.refl
  have heq : s.endClause k Cl.OK = State.slotDone
      ((if (s.slot k).dec.isNone then s.set (Reg.CL_SLOT_STAT.DEC_BEAT k) (s.now % 2 ^ 32) else s).inc Reg.CL_CNT.COMMITTED) k Cl.OK
      { s.slot k with undo := [] } := by
    rw [State.endClause, h]
    rfl
  rw [heq]
  exact (hbeat.snoc (State.SameWords.set Reg.CL_CNT.COMMITTED _ (List.mem_cons_of_mem _ List.mem_cons_self))).snoc
    (State.slotDone_sameFields.sameWords (by simp [doneFields, Reg.CL_SLOT_STAT.RESULT, Reg.CL_SLOT_STAT.STATE, Reg.CL_SLOT_STAT.word, intrField,
      Reg.HL_INT.word]))

/-- A change apart from SEQ and SITE leaves a slot with its owner. -/
theorem State.SameFields.slotOwner {fs : List Fld} (h : s.SameFields fs t) (hseq : (Reg.CL_SLOT_STAT.SEQ k).Apart fs)
    (hsite : (Reg.CL_SLOT_STAT.SITE k).Apart fs) : t.slotOwner k = s.slotOwner k := by
  rw [State.slotOwner, State.slotOwner, h.flag hseq, h.get hsite]

end

end Sys2Proof.Machine
end

section
/-! SUPPORT. The completion of prepare (R238, R245). -/

namespace Sys2Proof.Machine

section
variable {s : State} {k r : Nat}

/-- R238: prepare of the clause in slot `k` is checked in the present beat. -/
def State.prepTimed (s : State) (k : Nat) : State :=
  (s.set (Reg.CL_SLOT_STAT.PREP_BEAT k) (s.now % 2 ^ 32)).setSlot k { s.slot k with prep := s.now }

/-- R238: the clause in slot `k` has passed every check of prepare. -/
def State.prepPassed (s : State) (k : Nat) : State := (s.prepTimed k).set (Reg.CL_SLOT_STAT.STATE k) Slot.PREPARED

theorem State.prepTimed_sameFields : s.SameFields [Reg.CL_SLOT_STAT.PREP_BEAT k] (s.prepTimed k) :=
  (State.SameFields.set _ _ (Nat.le_of_ble_eq_true rfl) (Nat.le_of_ble_eq_true rfl) (by simp)).setSlot

/-- PREP_BEAT is the highest field of its word. -/
theorem State.prepTimed_get {f : Fld} (hl : f.lo ≤ f.hi) (h : f.hi < 96) : (s.prepTimed k).get f = s.get f :=
  State.prepTimed_sameFields.get (Fld.apart_cons.2 ⟨.inr (.inl h), Fld.apart_nil.2 hl⟩)

theorem State.prepTimed_tag : (s.prepTimed k).slotTag k = s.slotTag k := State.prepTimed_get (Nat.le_of_ble_eq_true rfl) (Nat.le_of_ble_eq_true rfl)

theorem State.prepTimed_fullStop : (s.prepTimed k).slotFs k = s.slotFs k :=
  State.prepTimed_sameFields.get (Fld.apart_cons.2 ⟨.inl (by simp only [Reg.CL_SET.FULL_STOP, Reg.CL_SLOT_STAT.PREP_BEAT]; omega),
    Fld.apart_nil.2 (Nat.le_of_ble_eq_true rfl)⟩)

theorem State.prepTimed_owner : (s.prepTimed k).slotOwner k = s.slotOwner k :=
  State.prepTimed_sameFields.slotOwner (by simp [Fld.apart_cons, Fld.apart_nil, Reg.CL_SLOT_STAT.SEQ, Reg.CL_SLOT_STAT.PREP_BEAT])
    (by simp [Fld.apart_cons, Fld.apart_nil, Reg.CL_SLOT_STAT.SITE, Reg.CL_SLOT_STAT.PREP_BEAT])

theorem State.prepPassed_sameFields : s.SameFields [Reg.CL_SLOT_STAT.STATE k, Reg.CL_SLOT_STAT.PREP_BEAT k] (s.prepPassed k) :=
  (State.prepTimed_sameFields.mono (by simp)).snoc (State.SameFields.set _ _ (Nat.le_of_ble_eq_true rfl) (Nat.le_of_ble_eq_true rfl) (by simp))

theorem State.prepPassed_frame : s.prepPassed k = { s with regs := (s.prepPassed k).regs, slots := (s.prepPassed k).slots } := rfl

theorem State.prepPassed_state : (s.prepPassed k).slotState k = Slot.PREPARED :=
  State.get_set_same (s := s.prepTimed k) _ _ (Nat.le_of_ble_eq_true rfl) (Nat.le_of_ble_eq_true rfl)

theorem State.prepTimed_slot : (s.prepTimed k).slot k = { s.slot k with prep := s.now } := by
  rw [State.prepTimed, State.slot_setSlot_same]

theorem State.prepPassed_slots : (s.prepTimed k).SameSlots (s.prepPassed k) := State.set_slots _ _ _

theorem State.prepPassed_slot : (s.prepPassed k).slot k = { s.slot k with prep := s.now } := by
  rw [State.prepPassed_slots.slot, State.prepTimed_slot]

theorem State.prepPassed_prepBeat : (s.prepPassed k).get (Reg.CL_SLOT_STAT.PREP_BEAT k) = s.now % 2 ^ 32 := by
  have hstate : (s.prepPassed k).get (Reg.CL_SLOT_STAT.PREP_BEAT k) = (s.prepTimed k).get (Reg.CL_SLOT_STAT.PREP_BEAT k) :=
    State.get_set_other _ _ _ (Nat.le_of_ble_eq_true rfl) (Nat.le_of_ble_eq_true rfl) (.inr (Nat.le_of_ble_eq_true rfl))
  rw [hstate, State.prepTimed, State.setSlot_get, State.get_set_same _ _ (Nat.le_of_ble_eq_true rfl) (Nat.le_of_ble_eq_true rfl)]
  exact Nat.mod_mod _ _

theorem State.prepPassed_owner : (s.prepPassed k).slotOwner k = s.slotOwner k :=
  State.prepPassed_sameFields.slotOwner
    (by simp [Fld.apart_cons, Fld.apart_nil, Reg.CL_SLOT_STAT.SEQ, Reg.CL_SLOT_STAT.PREP_BEAT, Reg.CL_SLOT_STAT.STATE])
    (by simp [Fld.apart_cons, Fld.apart_nil, Reg.CL_SLOT_STAT.SITE, Reg.CL_SLOT_STAT.PREP_BEAT, Reg.CL_SLOT_STAT.STATE])

/-! ### What the completion comes to -/

theorem State.prepTimed_eq : (s.set (Reg.CL_SLOT_STAT.PREP_BEAT k) (s.now % 2 ^ 32)).setSlot k
    ⟨(s.slot k).acts, (s.slot k).refused, (s.slot k).dec, (s.slot k).split, (s.slot k).undo, s.now⟩ = s.prepTimed k := rfl

theorem State.prepPassed_eq : (s.prepTimed k).set (Reg.CL_SLOT_STAT.STATE k) Slot.PREPARED = s.prepPassed k := rfl

theorem State.prepPassed_decided : ((s.prepPassed k).set (Reg.CL_SLOT_STAT.DEC_BEAT k) (s.now % 2 ^ 32)).setSlot k
    { (s.prepTimed k).slot k with dec := some true } = (s.prepPassed k).decided k true := by
  rw [State.decided, State.prepPassed_slots.slot]
  rfl

section
variable (hst : s.slotState k = Slot.PREPARING)
include hst

theorem State.prepareComplete_single_passed (hm : s.slotMulti k = false) (hcode : (s.prepTimed k).prepareCode k = none) (ho : s.slotOwner k = none) :
    s.prepareComplete k = (s.prepPassed k).decided k true := by
  have heq : s.prepareComplete k = ((s.prepPassed k).decided k true).tellOwner k Cl.OK := by
    simp only [State.prepareComplete, hst, hm, ne_eq, not_true_eq_false, Bool.false_eq_true, false_and, if_false, Bool.not_false, if_true,
      State.prepTimed_eq, hcode, State.prepPassed_eq, ← State.prepPassed_decided]
  rw [heq, State.tellOwner_host (State.decided_owner.trans (State.prepPassed_owner.trans ho))]

theorem State.prepareComplete_single_failed (hm : s.slotMulti k = false) (hcode : (s.prepTimed k).prepareCode k = some r) :
    s.prepareComplete k = (s.prepTimed k).endClause k r := by
  simp only [State.prepareComplete, hst, hm, ne_eq, not_true_eq_false, Bool.false_eq_true, false_and, if_false, Bool.not_false, if_true,
    State.prepTimed_eq, hcode]

theorem State.prepareComplete_multi_passed (hm : s.slotMulti k = true) (hrole : s.get Reg.TB_CTRL.ROLE ≠ Role.ROOT) (hdec : (s.slot k).dec = none)
    (hcode : (s.prepTimed k).prepareCode k = none) : s.prepareComplete k = s.prepPassed k := by
  simp only [State.prepareComplete, hst, hm, hrole, ne_eq, not_true_eq_false, and_false, Bool.false_eq_true, if_false, Bool.not_true,
    State.prepTimed_eq, hcode, State.prepPassed_eq]
  rw [hdec]

/-- R245: a multi-device clause that fails a check ends, and is watched with the device's veto. -/
theorem State.prepareComplete_multi_failed (hm : s.slotMulti k = true) (hrole : s.get Reg.TB_CTRL.ROLE ≠ Role.ROOT) (hdec : (s.slot k).dec = none)
    (hcode : (s.prepTimed k).prepareCode k = some r) :
    s.prepareComplete k = ((s.prepTimed k).endClause k r).addWatch ((s.prepTimed k).watchOf k none true false) := by
  simp only [State.prepareComplete, hst, hm, hrole, ne_eq, not_true_eq_false, and_false, Bool.false_eq_true, if_false, Bool.not_true,
    State.prepTimed_eq, hcode]
  rw [hdec]
  rfl

end

theorem exec_prepareComplete {k : Fin 16} (hst : s.slotState k = Slot.PREPARING) : exec (.prepareComplete k) s = .next (s.prepareComplete k).follow :=
  congrArg Host.Outcome.next (if_pos hst)

theorem exec_prepareComplete_idle {k : Fin 16} (hst : s.slotState k ≠ Slot.PREPARING) : exec (.prepareComplete k) s = .next s :=
  congrArg Host.Outcome.next (if_neg hst)

end

end Sys2Proof.Machine
end

section
/-! SUPPORT. The full stop (R166, R240). -/

namespace Sys2Proof.Machine

section
variable {s : State} {x : Action} {acts : List Action} {a k n t : Nat}

/-! ### The application of actions -/

theorem ite_ne_of_ne {α : Type} {c : Prop} [Decidable c] {y z w : α} (hy : y ≠ w) (hz : z ≠ w) : (if c then y else z) ≠ w :=
  iteInduction (motive := (· ≠ w)) (fun _ => hy) fun _ => hz

/-- R233: the words of the TDCs lie above those of the clause slots and of the edge engines. -/
theorem clWord_tm_le (h : clWord a = .tm t n) : 0x058400 ≤ a := by
  by_contra hlow
  refine absurd h ?_
  rw [clWord, if_pos (Nat.lt_of_not_le hlow)]
  exact ite_ne_of_ne nofun (ite_ne_of_ne nofun (ite_ne_of_ne nofun (ite_ne_of_ne nofun (ite_ne_of_ne nofun nofun))))

/-- R231: an action on a TDC's word writes that word alone and starts no effect. -/
theorem State.applyActions_tm (h : clWord x.addr = .tm t n) : s.applyActions [x] = s.putCl x.addr x.value x.mask := by
  have hword : [x.addr].eraseDups = [x.addr] := rfl
  have hrank : hookRank x.addr = 2 := by simp only [hookRank, h]
  have htouched (u : State) : u.touchedBy x.addr = [] := by simp only [State.touchedBy, h]
  have hvalues (u : State) : u.applyValues x = u.putCl x.addr x.value x.mask := by simp only [State.applyValues, State.followWords, h, State.forL_nil]
  have hhook (u : State) (old v m : Word) : u.wordHook x.addr old v m = u := by simp only [State.wordHook, h]
  simp [State.applyActions, hword, hrank, htouched, hvalues, hhook]

theorem State.applyActions_nil : s.applyActions [] = s := rfl

/-- R231, R233: the CL fields under the mask take the value. -/
theorem State.putCl_reg_tm (h : clWord a = .tm t n) (v m : Word) :
    (s.putCl a v m).reg a = (s.reg a &&& ~~~(m &&& accMask .cl a)) ||| (v &&& (m &&& accMask .cl a)) := by
  simp only [State.putCl, State.setShadow_reg, State.reg_setReg_same, clStored, h]

/-- R166: an action that waits is taken in by the shadow copy alone. -/
theorem State.forL_shadowAction : ∃ m, s.forL acts (fun x t => t.shadowAction x) = { s with shadow := m } := by
  induction acts generalizing s with
  | nil => exact ⟨s.shadow, rfl⟩
  | cons x acts ih =>
    obtain ⟨m, hm⟩ := ih (s := s.shadowAction x)
    exact ⟨m, hm⟩

/-! ### The commit of one clause -/

/-- R240: the result of a clause that commits. -/
def fullStopResult (c : ClSlot) : Nat := if c.split = true then Cl.SPLIT else Cl.OK

theorem fullStopResult_lt (c : ClSlot) : fullStopResult c < 2 ^ 8 := by
  unfold fullStopResult
  split <;> decide

/-- The actions of the clause in slot `k` as they wait for a boundary of site `n`. -/
def State.pendOf (s : State) (k n : Nat) : List PendAct :=
  (s.slot k).acts.map fun x => ⟨n, s.streamOf n, s.slotFs k, (s.slot k).prep, false, k, x⟩

/-- R240: a clause with no action on a word of a site in play applies at once. -/
theorem State.commitSlot_now (h : ∀ x ∈ (s.slot k).acts, ∀ n, s.wordSite x.addr = some n → s.inPlay n = false) :
    s.commitSlot k = ((s.applyActions (s.slot k).acts).setSlot k { s.slot k with undo := [] }).endClause k (fullStopResult (s.slot k)) := by
  have hwaits : ∀ x ∈ (s.slot k).acts, (s.wordSite x.addr).any (fun n => s.inPlay n) = false := fun x hx => by
    cases hsite : s.wordSite x.addr with
    | none => rfl
    | some n => exact h x hx n hsite
  have hlater : (s.slot k).acts.filter (fun x => (s.wordSite x.addr).any fun n => s.inPlay n) = [] :=
    List.filter_eq_nil_iff.2 fun x hx => by simp [hwaits x hx]
  have hnow : (s.slot k).acts.filter (fun x => !(s.wordSite x.addr).any fun n => s.inPlay n) = (s.slot k).acts :=
    List.filter_eq_self.2 fun x hx => by simp [hwaits x hx]
  simp only [State.commitSlot, hlater, hnow, List.map_nil, List.append_nil, State.forL_nil]
  rfl

/-- R166: a clause whose actions all name words of a site in play waits for the boundary of its stream. -/
theorem State.commitSlot_waits (h : ∀ x ∈ (s.slot k).acts, s.wordSite x.addr = some n) (hplay : s.inPlay n = true) :
    ∃ m, s.commitSlot k = (({ s with pendActs := s.pendActs ++ s.pendOf k n, shadow := m } : State).setSlot k { s.slot k with undo := [] }).endClause k
      (fullStopResult (s.slot k)) := by
  have hwaits : ∀ x ∈ (s.slot k).acts, (s.wordSite x.addr).any (fun n => s.inPlay n) = true := fun x hx => by simp [h x hx, hplay]
  have hlater : (s.slot k).acts.filter (fun x => (s.wordSite x.addr).any fun n => s.inPlay n) = (s.slot k).acts :=
    List.filter_eq_self.2 hwaits
  have hnow : (s.slot k).acts.filter (fun x => !(s.wordSite x.addr).any fun n => s.inPlay n) = [] :=
    List.filter_eq_nil_iff.2 fun x hx => by simp [hwaits x hx]
  have hpend : (s.slot k).acts.map (fun x => (⟨(s.wordSite x.addr).getD 0, s.streamOf ((s.wordSite x.addr).getD 0), s.slotFs k, (s.slot k).prep, false, k,
      x⟩ : PendAct)) = s.pendOf k n := List.map_congr_left fun x hx => by rw [h x hx, Option.getD_some]
  obtain ⟨m, hm⟩ := State.forL_shadowAction (s := { s with pendActs := s.pendActs ++ s.pendOf k n }) (acts := (s.slot k).acts)
  refine ⟨m, ?_⟩
  simp only [State.commitSlot, hlater, hnow, hpend, State.applyActions_nil, hm]
  rfl

/-! ### The clauses that are due -/

/-- R245, R247: at beat `b` the watches but the vetoes, and the root's decisions, whose full stop has come are over. -/
def State.forgetPast (s : State) (b : Nat) : State :=
  { s with watches := s.watches.filter (fun w => w.veto || decide (b < w.fullStop)), rootQ := s.rootQ.filter (fun r => decide (b < r.fullStop)) }

theorem State.due_iff : (s.slotState k == Slot.PREPARED && decide (s.slotFs k ≤ s.now) && (s.slot k).dec == some true) = true ↔
    s.slotState k = Slot.PREPARED ∧ s.slotFs k ≤ s.now ∧ (s.slot k).dec = some true := by
  simp only [Bool.and_eq_true, beq_iff_eq, decide_eq_true_eq, and_assoc]

theorem State.fullStops_none (h : ∀ k : Fin 16, s.slotState k = Slot.PREPARED → (s.slot k).dec = some true → s.now < s.slotFs k) :
    s.fullStops = (s.forgetPast s.now).settle := by
  have hdue : (List.range 16).filter (fun k => s.slotState k == Slot.PREPARED && decide (s.slotFs k ≤ s.now) && (s.slot k).dec == some true) = [] :=
    List.filter_eq_nil_iff.2 fun j hj hd => by
      obtain ⟨hst, hfs, hdec⟩ := State.due_iff.1 hd
      exact absurd (h ⟨j, List.mem_range.1 hj⟩ hst hdec) (Nat.not_lt.2 hfs)
  simp only [State.fullStops, hdue]
  rfl

/-- R240: the clause in slot `k` is the one that is due. -/
def State.OnlyDue (s : State) (k : Fin 16) : Prop :=
  s.slotState k = Slot.PREPARED ∧ (s.slot k).dec = some true ∧ s.slotFs k ≤ s.now ∧
  ∀ j : Fin 16, j ≠ k → s.slotState j = Slot.PREPARED → (s.slot j).dec = some true → s.now < s.slotFs j

theorem State.OnlyDue.fullStops {k : Fin 16} (h : s.OnlyDue k) : s.fullStops = ((s.commitSlot k).forgetPast s.now).settle := by
  obtain ⟨hst, hdec, hfs, hother⟩ := h
  have hdue : (List.range 16).filter (fun k => s.slotState k == Slot.PREPARED && decide (s.slotFs k ≤ s.now) && (s.slot k).dec == some true) = [k.val] := by
    refine filter_range_only k.isLt fun j hj => State.due_iff.trans ⟨fun ⟨hst', hfs', hdec'⟩ => ?_, ?_⟩
    · by_contra hne
      exact absurd (hother ⟨j, hj⟩ (fun he => hne (congrArg Fin.val he)) hst' hdec') (Nat.not_lt.2 hfs')
    · rintro rfl
      exact ⟨hst, hfs, hdec⟩
  simp only [State.fullStops, hdue]
  rfl

theorem exec_fullStop_none (h : ∀ k : Fin 16, s.slotState k = Slot.PREPARED → (s.slot k).dec = some true → s.now < s.slotFs k) :
    exec .fullStop s = .next (s.forgetPast s.now).settle.follow := congrArg (fun t : State => Host.Outcome.next t.follow) (State.fullStops_none h)

theorem State.OnlyDue.exec_fullStop {k : Fin 16} (h : s.OnlyDue k) : exec .fullStop s = .next ((s.commitSlot k).forgetPast s.now).settle.follow :=
  congrArg (fun t : State => Host.Outcome.next t.follow) h.fullStops

end

end Sys2Proof.Machine
end

section
/-! The completion of prepare, the full stop and the end of a veto (O25). -/

namespace Sys2Proof.Machine

section
variable {s : State} {k : Fin 16} {r : Nat}

/-- R238: a clause of one device that passes every check is decided. -/
theorem prepare_single_passed {u : State} (hu : u = (s.prepPassed k).decided k true) : u.slotState k = Slot.PREPARED ∧ (u.slot k).dec = some true ∧
    (u.slot k).acts = (s.slot k).acts ∧ (u.slot k).prep = s.now ∧ u.get (Reg.CL_SLOT_STAT.PREP_BEAT k) = s.now % 2 ^ 32 ∧
    u.get (Reg.CL_SLOT_STAT.DEC_BEAT k) = s.now % 2 ^ 32 ∧
    s.SameFields [Reg.CL_SLOT_STAT.STATE k, Reg.CL_SLOT_STAT.PREP_BEAT k, Reg.CL_SLOT_STAT.DEC_BEAT k] u ∧ u = { s with regs := u.regs, slots := u.slots } := by
  subst hu
  have hbeat : (Reg.CL_SLOT_STAT.PREP_BEAT k).Apart [Reg.CL_SLOT_STAT.DEC_BEAT k] := by
    simp [Fld.apart_cons, Fld.apart_nil, Reg.CL_SLOT_STAT.PREP_BEAT, Reg.CL_SLOT_STAT.DEC_BEAT]
  have hslot : ((s.prepPassed k).decided k true).slot k = { s.slot k with prep := s.now, dec := some true } := by
    rw [State.decided_slot, State.prepPassed_slot]
  refine ⟨State.decided_state.trans State.prepPassed_state, by rw [hslot], by rw [hslot], by rw [hslot],
    (State.decided_sameFields.get hbeat).trans State.prepPassed_prepBeat, State.decided_beat, ?_, rfl⟩
  exact (State.prepPassed_sameFields.mono (by simp +contextual)).snoc (State.decided_sameFields.mono (by simp))

/-- R238, R245: a clause of the host that fails a check is DONE with the code of that check. -/
theorem prepare_failed (hr : r < 256) (ho : s.slotOwner k = none) : ((s.prepTimed k).endClause k r).slotState k = Slot.DONE ∧
    ((s.prepTimed k).endClause k r).get (Reg.CL_SLOT_STAT.RESULT k) = r ∧ s.ClauseFrame ((s.prepTimed k).endClause k r) := by
  have ho' : (s.prepTimed k).slotOwner k = none := State.prepTimed_owner.trans ho
  obtain ⟨hdone, hresult, -⟩ := State.endClause_done ho' (Nat.lt_of_lt_of_eq hr rfl)
  exact ⟨hdone, hresult, (State.ClauseFrame.refl.set _ _).setSlot _ _ |>.trans (State.endClause_frame ho')⟩

/-- R245: a multi-device clause that fails a check is vetoed until its full stop. -/
theorem prepare_vetoed (hr : r < 256) (ho : s.slotOwner k = none) {u : State}
    (hu : u = ((s.prepTimed k).endClause k r).addWatch ((s.prepTimed k).watchOf k none true false)) : u.slotState k = Slot.DONE ∧
      u.get (Reg.CL_SLOT_STAT.RESULT k) = r ∧
      ∃ v, u.watches = s.watches ++ [v] ∧ v.veto = true ∧ v.slot = k.val ∧ v.tag = s.slotTag k ∧ v.fullStop = s.slotFs k := by
  subst hu
  obtain ⟨hdone, hresult, hframe⟩ := prepare_failed hr ho
  exact ⟨hdone, hresult, _, congrArg (· ++ [(s.prepTimed k).watchOf k none true false]) hframe.watches, rfl, rfl, State.prepTimed_tag,
    State.prepTimed_fullStop⟩

/-- R231, R240: the one action of the clause, on a TDC's word, applies at once. -/
theorem fullStop_applies {x : Action} {t n : Nat} (ho : s.slotOwner k = none) (hacts : (s.slot k).acts = [x]) (hword : clWord x.addr = .tm t n)
    (hplay : ∀ m, s.wordSite x.addr = some m → s.inPlay m = false) {u : State} (hu : u = (s.commitSlot k).forgetPast s.now) : u.slotState k = Slot.DONE ∧
      u.get (Reg.CL_SLOT_STAT.RESULT k) = fullStopResult (s.slot k) ∧
      u.reg x.addr = (s.reg x.addr &&& ~~~(x.mask &&& accMask .cl x.addr)) ||| (x.value &&& (x.mask &&& accMask .cl x.addr)) ∧
      u.pendActs = s.pendActs ∧ u.mem = s.mem := by
  rw [State.commitSlot_now (by simpa [hacts] using hplay), hacts, State.applyActions_tm hword] at hu
  have hle := clWord_tm_le hword
  have hput : s.SameWords [x.addr] (s.putCl x.addr x.value x.mask) := State.putCl_sameWords _ _ (List.mem_singleton_self _)
  have howner : ((s.putCl x.addr x.value x.mask).setSlot k { s.slot k with undo := [] }).slotOwner k = none := by
    have hslotWord : Reg.CL_SLOT_STAT.word k ∉ [x.addr] := by
      simp only [List.mem_singleton, Reg.CL_SLOT_STAT.word]
      omega
    rw [State.slotOwner, State.flag, State.setSlot_get, State.setSlot_get, hput.get hslotWord, hput.get hslotWord]
    exact ho
  obtain ⟨hdone, hresult, -⟩ := State.endClause_done howner (fullStopResult_lt (s.slot k))
  have hframe := State.endClause_frame (result := fullStopResult (s.slot k)) howner
  subst hu
  exact ⟨hdone, hresult, (State.endClause_reg howner k.isLt hle).trans (State.putCl_reg_tm hword _ _), hframe.pendActs, hframe.mem⟩

/-- R166, R240: the actions on words of a site in play wait, and the clause ends all the same. -/
theorem fullStop_waits {n : Nat} (ho : s.slotOwner k = none) (hsplit : (s.slot k).split = false)
    (hsite : ∀ x ∈ (s.slot k).acts, s.wordSite x.addr = some n) (hplay : s.inPlay n = true) {u : State} (hu : u = (s.commitSlot k).forgetPast s.now) :
    u.slotState k = Slot.DONE ∧ u.get (Reg.CL_SLOT_STAT.RESULT k) = Cl.OK ∧ u.pendActs = s.pendActs ++ s.pendOf k n ∧
      s.SameWords [Reg.CL_SLOT_STAT.word k, Reg.CL_CNT.word, Reg.HL_INT.word] u ∧ u.mem = s.mem := by
  obtain ⟨m, heq⟩ := State.commitSlot_waits hsite hplay
  have hok : fullStopResult (s.slot k) = Cl.OK := if_neg (by simp [hsplit])
  rw [hok] at heq
  have howner : (({ s with pendActs := s.pendActs ++ s.pendOf k n, shadow := m } : State).setSlot k { s.slot k with undo := [] }).slotOwner k = none := ho
  obtain ⟨hdone, hresult, -⟩ := State.endClause_done howner (result := Cl.OK) (by decide)
  have hframe := State.endClause_frame (result := Cl.OK) howner
  rw [hu, heq]
  exact ⟨hdone, hresult, hframe.pendActs, (State.SameWords.of_regs rfl).snoc (State.endClause_ok_sameWords howner), hframe.mem⟩

/-- R245: the watches that the end of a veto leaves. -/
theorem mem_vetoEnd_watches {w : Watch} : w ∈ (s.vetoEnd k).watches ↔ w ∈ s.watches ∧ ¬(w.veto = true ∧ w.slot = k.val ∧ w.fullStop ≤ s.now) := by
  simp only [State.vetoEnd, List.mem_filter, Bool.not_eq_true', ← Bool.not_eq_true, Bool.and_eq_true, beq_iff_eq, decide_eq_true_eq, and_assoc]

end

/-- Settles O25: prepare ends in PREPARED or with the code of a check, at its full stop the one due clause applies its actions or has them wait, and a veto
ends at the full stop of its clause. -/
theorem prepareAndFullStop : Obligations.PrepareAndFullStop := by
  unfold Obligations.PrepareAndFullStop
  refine ⟨?single, ?multi, fun s k hst => exec_prepareComplete_idle hst, fun s h => ?noneDue,
    fun s k x t n hst hdec hfs hother ho hacts hword hplay => ?applies, fun s k n hst hdec hfs hother ho hsplit hsite hplay => ?waits,
    fun s k => ⟨_, rfl, fun w => mem_vetoEnd_watches, rfl⟩⟩
  case single =>
    rintro s _ k hst hm rfl
    refine ⟨fun hcode ho => ?_, fun r hcode hr _ ho => ?_⟩
    · exact ⟨_, by rw [exec_prepareComplete hst, State.prepareComplete_single_passed hst hm hcode ho], prepare_single_passed rfl⟩
    · obtain ⟨hdone, hresult, hframe⟩ := prepare_failed hr ho
      exact ⟨_, by rw [exec_prepareComplete hst, State.prepareComplete_single_failed hst hm hcode], hdone, hresult, hframe.watches, hframe.mem⟩
  case multi =>
    rintro s _ k hst hm hrole hdec rfl
    refine ⟨fun hcode => ?_, fun r hcode hr _ ho => ?_⟩
    · refine ⟨_, by rw [exec_prepareComplete hst, State.prepareComplete_multi_passed hst hm hrole hdec hcode], State.prepPassed_state, ?_,
        State.prepPassed_frame⟩
      rw [State.prepPassed_slot]
      exact hdec
    · exact ⟨_, by rw [exec_prepareComplete hst, State.prepareComplete_multi_failed hst hm hrole hdec hcode], prepare_vetoed hr ho rfl⟩
  case noneDue => exact ⟨_, exec_fullStop_none h, rfl, rfl, rfl⟩
  case applies =>
    have hdue : s.OnlyDue k := ⟨hst, hdec, hfs, hother⟩
    exact ⟨_, hdue.exec_fullStop, fullStop_applies ho hacts hword hplay rfl⟩
  case waits =>
    have hdue : s.OnlyDue k := ⟨hst, hdec, hfs, hother⟩
    exact ⟨_, hdue.exec_fullStop, fullStop_waits ho hsplit hsite hplay rfl⟩

end Sys2Proof.Machine
end

section
/-! The arithmetic statements and the branches of a site's program (O12). -/

namespace Sys2Proof.Machine

/-! ### Operands (R184) -/

section
variable {s t : State} {n : Nat} {i : Stmt} {A B : Word}

theorem State.Issues.xb_lt (h : s.Issues n i) : i.xb < 32 := by
  obtain ⟨-, -, rfl, -⟩ := h
  exact Nat.mod_lt _ (by decide)

/-- R184: the operands A and B of a statement. -/
def State.Operands (s : State) (n : Nat) (i : Stmt) (A B : Word) : Prop :=
  A = s.getX n i.xa ∧ B = s.getX n i.xb + (BitVec.ofNat 64 i.imm).signExtend 128

theorem State.Operands.opA (h : s.Operands n i A B) : s.opA n i = A := h.1.symm

theorem State.Operands.opB (h : s.Operands n i A B) : s.opB n i = B := by rw [State.opB, Stmt.immS_eq, h.2]

/-- The issue of a statement changes neither operand. -/
theorem State.Operands.began (h : s.Operands n i A B) (hi : s.Issues n i) (hn : n < 64) : (s.began n i.op).Operands n i A B := by
  obtain ⟨-, -, hxa⟩ := hi.bounds
  rw [State.Operands, State.began_getX hn hxa, State.began_getX hn hi.xb_lt]
  exact h

end

/-! ### ADD to SAR -/

section
variable {s : State} {n : Fin 64} {i : Stmt} {A B : Word} {op : Nat} {e : Instr}

/-- R184: an arithmetic statement loads the result of its operation. -/
theorem State.Issues.arith (h : s.Issues n i) (hexec : exec e s = .next (s.arithStmt n op)) (hab : s.Operands n i A B) (hop : i.op = op) :
    ∃ t : State, exec e s = .next t ∧ s.Loads t n i.xd (arith op A B) := by
  have hissue : s.arithStmt n op = s.issue n [op] noBad fun i t => t.gives n i.xd (Machine.arith op (t.opA n i) (t.opB n i)) := rfl
  have hab' := hab.began h n.isLt
  rw [hissue, h.runs (List.mem_singleton.2 hop) rfl, hab'.opA, hab'.opB] at hexec
  exact ⟨_, hexec, h.loads⟩

end

/-! ### BR -/

section
variable {s : State} {n : Fin 64} {i : Stmt} {A B : Word} {pc : Nat}

/-- A statement that goes to `pc` and changes no register beside. -/
theorem State.Issues.jumps (h : s.Issues n i) : s.Moved ((s.began n i.op).setPc n pc) n pc [] :=
  h.moved State.setPc_sameFields (Fld.apart_nil.2 (Nat.le_of_ble_eq_true rfl)) (Fld.apart_nil.2 (Nat.le_of_ble_eq_true rfl)) State.pc_setPc

theorem State.began_retire {op : Nat} : (s.began n op).retire n = (s.began n op).setPc n (s.pc n + 1) := by
  rw [State.retire, ← State.pc, State.began_pc]

theorem State.jumped_frame {op : Nat} : s.IssueFrame ((s.began n op).setPc n pc) := State.began_issueFrame.set _ _

theorem stmtBr_issue : exec (.stmtBr n) s = .next (s.issue n [0x03] (fun i t => operandBad (brCond i.cc (t.opA n i) (t.opB n i)).isNone)
    (fun i t => if (brCond i.cc (t.opA n i) (t.opB n i)).getD false then t.setPc n i.target else t.retire n)) := rfl

/-- R184: what BR does with operands A and B under the condition `cc`. -/
theorem stmtBr_exec (h : s.Issues n i) (hab : s.Operands n i A B) (hop : i.op = 0x03) {b : Bool} (hc : brCond i.cc A B = some b) :
    exec (.stmtBr n) s = .next ((s.began n i.op).setPc n (if b = true then i.target else s.pc n + 1)) := by
  have hab' := hab.began h n.isLt
  have hbad : operandBad (brCond i.cc (s.opA n i) (s.opB n i)).isNone = none := by rw [hab.opA, hab.opB, hc]; rfl
  rw [stmtBr_issue, h.runs (List.mem_singleton.2 hop) hbad, hab'.opA, hab'.opB, hc, Option.getD_some, State.began_retire]
  cases b <;> rfl

/-- R184: BR goes to TARGET where its condition holds and to the next statement where it does not. -/
theorem stmtBr_branches (h : s.Issues n i) (hab : s.Operands n i A B) (hop : i.op = 0x03) {b : Bool} (hc : brCond i.cc A B = some b)
    {P : Prop} (hP : P ↔ b = true) :
    ∃ t : State, exec (.stmtBr n) s = .next t ∧ (P → s.Moved t n i.target []) ∧ (¬P → s.Moved t n (s.pc n + 1) []) ∧
      t = { s with regs := t.regs, stackReq := t.stackReq } := by
  refine ⟨_, stmtBr_exec h hab hop hc, fun hp => ?_, fun hp => ?_, State.jumped_frame⟩
  · rw [if_pos (hP.1 hp)]
    exact h.jumps
  · rw [if_neg (mt hP.2 hp)]
    exact h.jumps

/-- R184: the conditions from 0x9 on are reserved. -/
theorem brCond_reserved {cc : Nat} (h : 9 ≤ cc) : brCond cc A B = none := by
  obtain ⟨k, rfl⟩ := Nat.exists_eq_add_of_le' h
  rfl

end

/-- Settles O12: each arithmetic statement loads the result of its operation, and BR branches on its condition. -/
theorem arithmeticAndBranches : Obligations.ArithmeticAndBranches := by
  unfold Obligations.ArithmeticAndBranches
  refine ⟨fun s n i hxb => ?zero, fun s n i A B h ha hb => h.arith rfl ⟨ha, hb⟩, fun s n i A B h ha hb => h.arith rfl ⟨ha, hb⟩,
    fun s n i A B h ha hb => h.arith rfl ⟨ha, hb⟩, fun s n i A B h ha hb => h.arith rfl ⟨ha, hb⟩, fun s n i A B h ha hb => h.arith rfl ⟨ha, hb⟩,
    fun s n i A B h ha hb => h.arith rfl ⟨ha, hb⟩, fun s n i A B h ha hb => h.arith rfl ⟨ha, hb⟩, fun s n i A B h ha hb => h.arith rfl ⟨ha, hb⟩,
    fun s n i A B h ha hb hop => ?br⟩
  case zero => rw [State.getX, if_pos hxb, zero_add]
  case br =>
    have hbr {b : Bool} (hc : brCond i.cc A B = some b) {P : Prop} (hP : P ↔ b = true) := stmtBr_branches h ⟨ha, hb⟩ hop hc hP
    refine ⟨fun hcc => hbr (by rw [hcc]; rfl) beq_iff_eq.symm, fun hcc => hbr (by rw [hcc]; rfl) bne_iff_ne.symm,
      fun hcc => hbr (by rw [hcc]; rfl) BitVec.slt_iff_toInt_lt.symm, fun hcc => hbr (by rw [hcc]; rfl) ?sge,
      fun hcc => hbr (by rw [hcc]; rfl) BitVec.ult_iff_toNat_lt.symm, fun hcc => hbr (by rw [hcc]; rfl) ?uge,
      fun hcc => hbr (by rw [hcc]; rfl) bne_iff_ne.symm, fun hcc => hbr (by rw [hcc]; rfl) beq_iff_eq.symm,
      fun hcc => hbr (by rw [hcc]; rfl) (iff_of_true trivial rfl), fun hcc => ?reserved⟩
    case sge => rw [Bool.not_eq_true', ← Bool.not_eq_true, BitVec.slt_iff_toInt_lt, not_lt]
    case uge => rw [Bool.not_eq_true', ← Bool.not_eq_true, BitVec.ult_iff_toNat_lt, not_lt]
    case reserved =>
      have hexec := stmtBr_issue (s := s) (n := n)
      have hbad : operandBad (brCond i.cc (s.opA n i) (s.opB n i)).isNone = some (Reason.OPERAND, Reason.OPERAND) := by
        rw [brCond_reserved hcc]
        rfl
      rw [h.faults (List.mem_singleton.2 hop) hbad, h.faulted (by decide)] at hexec
      exact ⟨_, hexec, State.faulted_faults (by decide)⟩

end Sys2Proof.Machine
end

section
/-! The flow statements of a site's program (O13). -/

namespace Sys2Proof.Machine

/-! ### The return stack (R179, R185) -/

section
variable {s : State} {n m : Nat} {l : List Nat}

/-- The return stack of a site, with its depth in SP. -/
def State.stacked (s : State) (n : Nat) (l : List Nat) : State := (s.setSeq n { s.seq n with stack := l }).set (Reg.SQ_STAT.SP n) l.length

theorem State.pushPc_eq {pc : Nat} : s.pushPc n pc = s.stacked n (pc % 2 ^ 20 :: (s.seq n).stack) := rfl

theorem State.popPc_eq {p : Nat} {ps : List Nat} (h : (s.seq n).stack = p :: ps) : s.popPc n = (p, s.stacked n ps) := by
  rw [State.popPc, h]
  rfl

theorem State.stacked_sameFields : s.SameFields [Reg.SQ_STAT.SP n] (s.stacked n l) :=
  State.SameFields.snoc (State.SameFields.of_regs (State.setSeq_regs _ _ _))
    (State.SameFields.set (Reg.SQ_STAT.SP n) _ (Nat.le_of_ble_eq_true rfl) (Nat.le_of_ble_eq_true rfl) (by simp))

theorem State.stacked_sp (h : l.length ≤ 16) : (s.stacked n l).get (Reg.SQ_STAT.SP n) = l.length :=
  (State.get_set_same (Reg.SQ_STAT.SP n) _ (Nat.le_of_ble_eq_true rfl) (Nat.le_of_ble_eq_true rfl)).trans (Nat.mod_eq_of_lt (h.trans_lt (Nat.le_of_ble_eq_true rfl)))

theorem State.stacked_seq : (s.stacked n l).seq n = { s.seq n with stack := l } := State.seq_setSeq_same

theorem State.stacked_seq_other (h : m ≠ n) : (s.stacked n l).seq m = s.seq m := State.seq_setSeq_other h

theorem State.stacked_frame : s.stacked n l = { s with regs := (s.stacked n l).regs, seqs := (s.stacked n l).seqs } := rfl

end

/-! ### CALL and RET -/

section
variable {s : State} {n : Fin 64} {i : Stmt} {l : List Nat} {pc : Nat}

/-- R185: what a statement that has issued, changed the return stack and gone to `pc` leaves. -/
theorem State.Issues.stacked (h : s.Issues n i) (hl : l.length ≤ 16) {t : State} (ht : t = ((s.began n i.op).stacked n l).setPc n pc) :
    s.Moved t n pc [Reg.SQ_STAT.SP n] ∧ t.seq n = { s.seq n with stack := l } ∧ t.get (Reg.SQ_STAT.SP n) = l.length ∧
      (∀ m, m ≠ n.val → t.seq m = s.seq m) ∧ t = { s with regs := t.regs, stackReq := t.stackReq, seqs := t.seqs } := by
  have hpc : (s.began n i.op).SameFields [Reg.SQ_STAT.PC n, Reg.SQ_STAT.SP n] t := by
    rw [ht]
    exact (State.stacked_sameFields.mono (by simp)).snoc (State.setPc_sameFields.mono (by simp))
  refine ⟨h.moved hpc ?_ ?_ ?_, ?_, ?_, fun m hm => ?_, ?_⟩
  · simp [Fld.apart_cons, Fld.apart_nil, Reg.SQ_STAT.OP, Reg.SQ_STAT.SP]
  · simp [Fld.apart_cons, Fld.apart_nil, Reg.SQ_CNT.ISSUED, Reg.SQ_STAT.SP]
  · rw [ht]
    exact State.pc_setPc
  · rw [ht, State.setPc, State.set_seq, State.stacked_seq, State.began_seq]
  · rw [ht, State.setPc_sameFields.get (by simp [Fld.apart_cons, Fld.apart_nil, Reg.SQ_STAT.SP, Reg.SQ_STAT.PC]), State.stacked_sp hl]
  · rw [ht, State.setPc, State.set_seq, State.stacked_seq_other hm, State.began_seq]
  · rw [ht, State.stacked_frame, State.began_issueFrame]
    rfl

end

/-! ### LOOP -/

section
variable {s : State} {n : Fin 64} {i : Stmt}

/-- R185: what LOOP leaves, by the value of Xd before it. -/
def State.looped (s : State) (n : Nat) (i : Stmt) : State :=
  (s.setX n i.xd (s.getX n i.xd - 1)).setPc n (if i.xd = 0 ∨ s.getX n i.xd = 1 then s.pc n + 1 else i.target)

theorem State.looped_eq (hxd : i.xd < 32) :
    (let u := s.setX n i.xd (s.getX n i.xd - 1); if u.getX n i.xd ≠ 0 then u.setPc n i.target else u.retire n) = s.looped n i := by
  have hzero : (s.setX n i.xd (s.getX n i.xd - 1)).getX n i.xd = 0 ↔ i.xd = 0 ∨ s.getX n i.xd = 1 := by
    rw [State.getX_setX]
    by_cases hx : i.xd = 0
    · exact iff_of_true (if_pos hx) (.inl hx)
    · rw [if_neg hx, sub_eq_zero, or_iff_right hx]
  dsimp only
  rw [State.looped, ite_not]
  simp only [hzero]
  split
  · rw [State.retire, ← State.pc, State.setX_pc hxd]
  · rfl

theorem State.looped_frame : s.looped n i = { s with regs := (s.looped n i).regs } := by
  unfold State.looped
  rw [State.setX_frame]
  rfl

theorem State.Issues.loops (h : s.Issues n i) : ((s.began n i.op).looped n i).getX n i.xd = (if i.xd = 0 then 0 else s.getX n i.xd - 1) ∧
    s.Moved ((s.began n i.op).looped n i) n (if i.xd = 0 ∨ s.getX n i.xd = 1 then s.pc n + 1 else i.target) (xFields n i.xd) ∧
    s.IssueFrame ((s.began n i.op).looped n i) := by
  obtain ⟨-, hxd, -⟩ := h.bounds
  obtain ⟨hop, hissued⟩ := apart_xFields_issue (n := n) hxd
  have hx : (s.began n i.op).getX n i.xd = s.getX n i.xd := State.began_getX n.isLt hxd
  refine ⟨?_, h.moved ?_ hop hissued ?_, ?_⟩
  · rw [← hx, State.looped, State.setPc_sameFields.getX fun _ hg => (List.mem_singleton.1 hg) ▸ getX_apart_pc.resolve_right (by omega)]
    exact State.getX_setX
  · exact (State.setX_sameFields.mono (by simp +contextual)).snoc (State.setPc_sameFields.mono (by simp))
  · rw [← hx, ← State.began_pc (s := s) (op := i.op)]
    exact State.pc_setPc
  · rw [State.IssueFrame, State.looped_frame, State.began_issueFrame]

end

/-! ### BRS -/

section
variable {s : State} {n : Fin 64} {i : Stmt}

theorem State.began_st {op : Nat} : (s.began n op).get (Reg.SQ_STAT.ST n) = s.get (Reg.SQ_STAT.ST n) := by
  refine State.began_sameFields.get ?_
  simp only [beganFields, Fld.apart_cons, Fld.apart_nil, Reg.SO_STAT.STACK0, Reg.SO_STAT.STACK1, Reg.SQ_STAT.ST, Reg.SQ_STAT.OP, Reg.SQ_CNT.ISSUED]
  omega

theorem stmtBrs_issue : exec (.stmtBrs n) s = .next (s.issue n [0x04] (fun i t => operandBad (brsCond i.cc (t.get (Reg.SQ_STAT.ST n)) i.imm).isNone)
    (fun i t => if (brsCond i.cc (t.get (Reg.SQ_STAT.ST n)) i.imm).getD false then t.setPc n i.target else t.retire n)) := rfl

/-- R185: the two conditions of BRS. -/
theorem brsCond_eq {cc st imm : Nat} (h : cc ≤ 1) : brsCond cc st imm = some (decide ((st = imm % 256) = (cc = 0))) := by
  obtain rfl | rfl := Nat.le_one_iff_eq_zero_or_eq_one.1 h
  · by_cases he : st = imm % 256 <;> simp [brsCond, he]
  · by_cases he : st = imm % 256 <;> simp [brsCond, he]

theorem brsCond_reserved {cc st imm : Nat} (h : 2 ≤ cc) : brsCond cc st imm = none := by
  obtain ⟨k, rfl⟩ := Nat.exists_eq_add_of_le' h
  rfl

theorem stmtBrs_exec (h : s.Issues n i) (hop : i.op = 0x04) (hcc : i.cc ≤ 1) : exec (.stmtBrs n) s = .next ((s.began n i.op).setPc n
    (if (s.get (Reg.SQ_STAT.ST n) = i.imm % 256) = (i.cc = 0) then i.target else s.pc n + 1)) := by
  have hbad : operandBad (brsCond i.cc (s.get (Reg.SQ_STAT.ST n)) i.imm).isNone = none := by rw [brsCond_eq hcc]; rfl
  rw [stmtBrs_issue, h.runs (List.mem_singleton.2 hop) hbad, State.began_st, brsCond_eq hcc, Option.getD_some, State.began_retire]
  simp only [decide_eq_true_eq]
  split <;> rfl

end

/-! ### HOLD (R185, R200) -/

section
variable {s t u : State} {n cause value kind flags sub v : Nat}

/-- R200: the first cause takes a running site that waits for nothing to HELD. -/
theorem State.hold_idle (hrun : s.siteState n = Site.RUNNING) (hwait : (s.seq n).wait = .none) :
    s.hold n cause = (s.set (Reg.SQ_STAT.CAUSES n) (s.get (Reg.SQ_STAT.CAUSES n) ||| 2 ^ cause)).setSite n Site.HELD := by
  rw [State.hold_running hrun, State.stopIssue_idle (by rw [State.setSite_seq, State.set_seq, hwait])]

theorem State.hold_idle_frame (hrun : s.siteState n = Site.RUNNING) (hwait : (s.seq n).wait = .none) : s.MsixFrame (s.hold n cause) := by
  rw [State.hold_idle hrun hwait, State.MsixFrame, State.setSite_msixFrame]
  rfl

theorem State.hold_idle_sameFields (hrun : s.siteState n = Site.RUNNING) (hwait : (s.seq n).wait = .none) :
    s.SameFields (Reg.SQ_STAT.CAUSES n :: moveFields n) (s.hold n cause) := by
  rw [State.hold_idle hrun hwait]
  exact (State.set_causes_sameFields (by simp)).snoc ((State.setSite_sameFields (by decide)).mono (by simp +contextual))

theorem State.hold_idle_siteState (hrun : s.siteState n = Site.RUNNING) (hwait : (s.seq n).wait = .none) : (s.hold n cause).siteState n = Site.HELD := by
  rw [State.hold_idle hrun hwait]
  exact State.siteState_setSite (by decide)

theorem State.hold_idle_causes (hrun : s.siteState n = Site.RUNNING) (hwait : (s.seq n).wait = .none) (hc : cause < 16) :
    (s.hold n cause).get (Reg.SQ_STAT.CAUSES n) = s.get (Reg.SQ_STAT.CAUSES n) ||| 2 ^ cause := by
  rw [State.hold_idle hrun hwait]
  exact (State.setSite_get_stat (by decide) (by decide) (by decide)).trans (State.causes_set hc)

/-- R382: what the record of a site tells of the state at its value: the beat and the statement. -/
theorem State.Records.congr (h : t.Records u n kind flags sub v) (hstate : t.siteState n = s.siteState n) (hpc : t.pc n = s.pc n) (hnow : t.now = s.now) :
    s.Records u n kind flags sub v := by
  have hstmt : t.stmtOf n = s.stmtOf n := by
    simp only [State.stmtOf, hstate]
    rw [← State.pc, ← State.pc, hpc]
  rwa [State.Records, hstmt, hnow] at h

/-- A record that is fixed stays so. -/
theorem State.Records.pendRecs (h : s.Records t n kind flags sub v) (hrecs : u.pendRecs = t.pendRecs) : s.Records u n kind flags sub v := by
  rw [State.Records, hrecs]
  exact h

theorem State.userHold_sameFields : s.SameFields [Reg.SQ_CNT.RECORDS n] (s.userHold n value) :=
  State.SameFields.snoc (State.SameFields.of_regs rfl)
    (State.SameFields.set (Reg.SQ_CNT.RECORDS n) _ (Nat.le_of_ble_eq_true rfl) (Nat.le_of_ble_eq_true rfl) (by simp))

theorem State.userHold_pendRecs : (s.userHold n value).pendRecs = insertRec ⟨s.now + 2, s.now,
    recWord n (s.stmtOf n) Kind.EVENT (s.siteFlags n) s.now 0 (Ev.USER_HOLD % 2 ^ 8 * 2 ^ 40 + value % 2 ^ 40)⟩ s.pendRecs := rfl

theorem State.userHold_seq {m : Nat} : (s.userHold n value).seq m = s.seq m := rfl

/-- R386: the USER_HOLD record of a running site keeps the low 40 bits of its value. -/
theorem State.userHold_records (hrun : s.siteState n = Site.RUNNING) :
    s.Records (s.userHold n value) n Kind.EVENT 0 0 (Ev.USER_HOLD * 2 ^ 40 + value % 2 ^ 40) := by
  have hflags : s.siteFlags n = 0 := by
    rw [State.siteFlags, hrun]
    rfl
  rw [State.Records, State.userHold_pendRecs, hflags, Nat.mod_eq_of_lt (show Ev.USER_HOLD < 2 ^ 8 by decide)]
  exact mem_insertRec _ _

theorem State.userHold_eq : s.userHold n value =
    { s with regs := (s.userHold n value).regs, pendRecs := (s.userHold n value).pendRecs } := by
  obtain ⟨f, v, w, heq⟩ : ∃ f v w, s.userHold n value = (s.pushRec w (s.now + 2) s.now).set f v := ⟨_, _, _, rfl⟩
  rw [heq]
  generalize insertRec _ _ = recs
  rfl

end

section
variable {s : State} {n : Fin 64} {i : Stmt} {value : Nat}

/-- R185: the record of HOLD, and its retirement. -/
def State.userHeld (s : State) (n value : Nat) : State := (s.userHold n value).retire n

theorem State.userHeld_sameFields : s.SameFields [Reg.SQ_STAT.PC n, Reg.SQ_CNT.RECORDS n] (s.userHeld n value) :=
  (State.userHold_sameFields.mono (by simp)).snoc (State.retire_sameFields.mono (by simp))

theorem State.userHeld_pc : (s.userHeld n value).pc n = (s.pc n + 1) % 2 ^ 20 := by
  have hpc : (s.userHold n value).pc n = s.pc n :=
    State.userHold_sameFields.get (by simp [Fld.apart_cons, Fld.apart_nil, Reg.SQ_STAT.PC, Reg.SQ_CNT.RECORDS])
  rw [State.userHeld, State.pc_retire, hpc]

/-- The status of a site beside its PC is as before its record and retirement. -/
theorem State.userHeld_stat {hi lo : Nat} (hl : lo ≤ hi) (hpc : hi < 108) :
    (s.userHeld n value).get ⟨Reg.SQ_STAT.word n, hi, lo⟩ = s.get ⟨Reg.SQ_STAT.word n, hi, lo⟩ := by
  refine State.userHeld_sameFields.get ?_
  simp only [Fld.apart_cons, Fld.apart_nil, Reg.SQ_STAT.word, Reg.SQ_STAT.PC, Reg.SQ_CNT.RECORDS]
  omega

theorem State.userHeld_seq {m : Nat} : (s.userHeld n value).seq m = s.seq m := rfl

theorem State.userHeld_pendRecs : (s.userHeld n value).pendRecs = (s.userHold n value).pendRecs := by
  rw [State.userHeld, State.retire, State.setPc, State.set_pendRecs]

theorem State.userHeld_eq : s.userHeld n value =
    { s with regs := (s.userHeld n value).regs, pendRecs := (s.userHeld n value).pendRecs } := by
  unfold State.userHeld
  rw [State.userHold_eq]
  rfl

/-- The status of a site beside its PC, its OP and its state. -/
theorem State.began_stat {op hi lo : Nat} (hl : lo ≤ hi) (hop : hi < 80) :
    (s.began n op).get ⟨Reg.SQ_STAT.word n, hi, lo⟩ = s.get ⟨Reg.SQ_STAT.word n, hi, lo⟩ := by
  refine State.began_sameFields.get ?_
  simp only [beganFields, Fld.apart_cons, Fld.apart_nil, Reg.SQ_STAT.word, Reg.SO_STAT.STACK0, Reg.SO_STAT.STACK1, Reg.SQ_STAT.OP, Reg.SQ_CNT.ISSUED]
  omega

/-- R185, R200: HOLD retires, writes its record and holds its site with cause USER. -/
theorem State.Issues.userHolds (h : s.Issues n i) {u : State} (hu : u = ((s.began n i.op).userHeld n value).hold n Cause.USER) :
    u.siteState n = Site.HELD ∧ u.get (Reg.SQ_STAT.CAUSES n) = s.get (Reg.SQ_STAT.CAUSES n) ||| 2 ^ Cause.USER ∧
      s.Moved u n (s.pc n + 1) (Reg.SQ_CNT.RECORDS n :: holdFields n) ∧ u.get (Reg.SQ_STAT.FAULT n) = s.get (Reg.SQ_STAT.FAULT n) ∧
      s.Records u n Kind.EVENT 0 0 (Ev.USER_HOLD * 2 ^ 40 + value % 2 ^ 40) ∧
      u = { s with regs := u.regs, stackReq := u.stackReq, pendRecs := u.pendRecs, msix := u.msix } := by
  obtain ⟨hrun, hwait, -⟩ := h.idle
  have hbegan : (s.began n i.op).siteState n = Site.RUNNING := State.began_siteState.trans hrun
  have hrun' : ((s.began n i.op).userHeld n value).siteState n = Site.RUNNING := (State.userHeld_stat (by decide) (by decide)).trans hbegan
  have hwait' : (((s.began n i.op).userHeld n value).seq n).wait = .none := by
    rw [State.userHeld_seq, State.began_seq, hwait]
  have hframe := State.hold_idle_frame (cause := Cause.USER) hrun' hwait'
  have hfields := State.hold_idle_sameFields (cause := Cause.USER) hrun' hwait'
  rw [← hu] at hframe hfields
  refine ⟨?state, ?causes, h.moved ?fields ?op ?issued ?pc, ?fault, ?records, ?frame⟩
  case state =>
    rw [hu]
    exact State.hold_idle_siteState hrun' hwait'
  case causes =>
    have hcauses : ((s.began n i.op).userHeld n value).get (Reg.SQ_STAT.CAUSES n) = s.get (Reg.SQ_STAT.CAUSES n) :=
      (State.userHeld_stat (by decide) (by decide)).trans (State.began_stat (by decide) (by decide))
    rw [hu, State.hold_idle_causes hrun' hwait' (by decide), hcauses]
  case fields =>
    exact (State.userHeld_sameFields.mono (by simp +contextual)).snoc (hfields.mono (by simp +contextual [holdFields, moveFields, intrField]))
  case op =>
    simp only [holdFields, Fld.apart_cons, Fld.apart_nil, Reg.SQ_STAT.OP, Reg.SQ_CNT.RECORDS, Reg.SQ_STAT.FAULT, Reg.SQ_STAT.FAULTED, Reg.SQ_STAT.CAUSES,
      Reg.SQ_STAT.STATE, Reg.SQ_CNT.HOLDS]
    omega
  case issued =>
    simp only [holdFields, Fld.apart_cons, Fld.apart_nil, Reg.SQ_CNT.ISSUED, Reg.SQ_CNT.RECORDS, Reg.SQ_STAT.FAULT, Reg.SQ_STAT.FAULTED,
      Reg.SQ_STAT.CAUSES, Reg.SQ_STAT.STATE, Reg.SQ_CNT.HOLDS]
    omega
  case pc =>
    have hpc : u.pc n = ((s.began n i.op).userHeld n value).pc n := by
      refine hfields.get ?_
      simp only [moveFields, Fld.apart_cons, Fld.apart_nil, Reg.SQ_STAT.PC, Reg.SQ_STAT.CAUSES, Reg.SQ_STAT.STATE, Reg.SQ_CNT.HOLDS, intrField]
      omega
    rw [hpc, State.userHeld_pc, State.began_pc]
  case fault =>
    have hfault : u.get (Reg.SQ_STAT.FAULT n) = ((s.began n i.op).userHeld n value).get (Reg.SQ_STAT.FAULT n) := by
      refine hfields.get ?_
      simp only [moveFields, Fld.apart_cons, Fld.apart_nil, Reg.SQ_STAT.FAULT, Reg.SQ_STAT.CAUSES, Reg.SQ_STAT.STATE, Reg.SQ_CNT.HOLDS, intrField]
      omega
    exact hfault.trans ((State.userHeld_stat (by decide) (by decide)).trans (State.began_stat (by decide) (by decide)))
  case records =>
    refine State.Records.congr (State.Records.pendRecs (State.userHold_records hbegan) ?_) State.began_siteState State.began_pc State.began_now
    rw [hframe, State.userHeld_pendRecs]
  case frame => rw [hframe, State.userHeld_eq, State.began_issueFrame]

end

/-- Settles O13: where each flow statement takes the PC, what it does to the return stack, and the hold. -/
theorem flowStatements : Obligations.FlowStatements := by
  unfold Obligations.FlowStatements
  refine ⟨fun s n i h hop => ?nop, fun s n i h hop => ?jmp, fun s n i h hop => ⟨fun hcc => ?brs, fun hcc => ?operand⟩,
    fun s n i h hop => ⟨fun hl => ?call, fun hl => ?full⟩, fun s n i h hop => ⟨fun p ps hps hl => ?ret, fun hnil => ?empty⟩, fun s n i h hop => ?loop,
    fun s n i h hop => ?hold⟩
  case nop =>
    have hexec : exec (.stmtNop n) s = .next (s.issue n [0x00] noBad fun _ t => t.retire n) := rfl
    rw [h.runs (List.mem_singleton.2 hop) rfl, State.began_retire] at hexec
    exact ⟨_, hexec, h.jumps, State.jumped_frame⟩
  case jmp =>
    have hexec : exec (.stmtJmp n) s = .next (s.issue n [0x02] noBad fun i t => t.setPc n i.target) := rfl
    rw [h.runs (List.mem_singleton.2 hop) rfl] at hexec
    exact ⟨_, hexec, h.jumps, State.jumped_frame⟩
  case brs => exact ⟨_, stmtBrs_exec h hop hcc, h.jumps, State.jumped_frame⟩
  case operand =>
    have hexec := stmtBrs_issue (s := s) (n := n)
    rw [h.faults (List.mem_singleton.2 hop) (by rw [brsCond_reserved hcc]; rfl), h.faulted (by decide)] at hexec
    exact ⟨_, hexec, State.faulted_faults (by decide)⟩
  case call =>
    have hexec : exec (.stmtCall n) s = .next (s.issue n [0x05] (fun _ t => stackBad (t.stackFull n)) fun i t => (t.pushPc n (t.pc n + 1)).setPc n i.target) := rfl
    rw [h.runs (List.mem_singleton.2 hop) (if_neg (by simpa [State.stackFull] using hl)), State.pushPc_eq, State.began_pc, State.began_seq] at hexec
    exact ⟨_, hexec, h.stacked (by simpa using hl) rfl⟩
  case full =>
    have hexec : exec (.stmtCall n) s = .next (s.issue n [0x05] (fun _ t => stackBad (t.stackFull n)) fun i t => (t.pushPc n (t.pc n + 1)).setPc n i.target) := rfl
    rw [h.faults (List.mem_singleton.2 hop) (if_pos (by simpa [State.stackFull] using hl)), h.faulted (by decide)] at hexec
    exact ⟨_, hexec, State.faulted_faults (by decide)⟩
  case ret =>
    have hexec : exec (.stmtRet n) s = .next (s.issue n [0x06] (fun _ t => stackBad (t.stackEmpty n)) fun _ t => (t.popPc n).2.setPc n (t.popPc n).1) := rfl
    rw [h.runs (List.mem_singleton.2 hop) (if_neg (by simp [State.stackEmpty, hps])),
      State.popPc_eq ((congrArg Seq.stack (State.began_seq _)).trans hps)] at hexec
    exact ⟨_, hexec, h.stacked hl.le rfl⟩
  case empty =>
    have hexec : exec (.stmtRet n) s = .next (s.issue n [0x06] (fun _ t => stackBad (t.stackEmpty n)) fun _ t => (t.popPc n).2.setPc n (t.popPc n).1) := rfl
    rw [h.faults (List.mem_singleton.2 hop) (if_pos (by simp [State.stackEmpty, hnil])), h.faulted (by decide)] at hexec
    exact ⟨_, hexec, State.faulted_faults (by decide)⟩
  case loop =>
    have hexec : exec (.stmtLoop n) s = .next (s.issue n [0x07] noBad fun i t =>
        let u := t.setX n i.xd (t.getX n i.xd - 1); if u.getX n i.xd ≠ 0 then u.setPc n i.target else u.retire n) := rfl
    obtain ⟨-, hxd, -⟩ := h.bounds
    rw [h.runs (List.mem_singleton.2 hop) rfl, State.looped_eq hxd] at hexec
    exact ⟨_, hexec, h.loops⟩
  case hold =>
    have hexec : exec (.stmtHold n) s = .next (s.issue n [0x08] noBad fun i t => ((t.userHeld n (i.imm % 2 ^ 48)).hold n Cause.USER).follow) := rfl
    rw [h.runs (List.mem_singleton.2 hop) rfl] at hexec
    rw [show i.imm % 2 ^ 40 = i.imm % 2 ^ 48 % 2 ^ 40 from (Nat.mod_mod_of_dvd _ (by decide)).symm]
    exact ⟨_, hexec, h.userHolds rfl⟩

end Sys2Proof.Machine
end

section
/-! SUPPORT. What the events of one lane change, and the events that a lane reports (R404, R419). -/

namespace Sys2Proof.Machine

section
variable {s t u : State} {l n : Nat} {k : Lane} {f : Fld} {v code cls : Nat}

/-! ### A lane beside its registers -/

@[simp] theorem State.lane_setLane_same : (s.setLane l k).lane l = k := sget_sset_same _ _ _ _

theorem State.lane_setLane_other {j : Nat} (h : j ≠ l) : (s.setLane l k).lane j = s.lane j := sget_sset_other _ _ _ _ _ h

@[simp] theorem State.set_lane (j : Nat) : (s.set f v).lane j = s.lane j := rfl

/-- The words of a lane that its events write, and the count of the trouble log. -/
def laneWords (l : Nat) : List Nat := [Reg.DL_STAT.word l, Reg.DL_EQ.word l, Reg.DL_CNT.word l, Reg.LOG_STAT.word]

theorem State.LaneOnly.refl : s.LaneOnly s l := ⟨State.SameWords.refl, fun _ _ => rfl, rfl⟩

theorem State.LaneOnly.set (h : s.LaneOnly t l) (hf : f.addr ∈ laneWords l) : s.LaneOnly (t.set f v) l := by
  obtain ⟨hwords, hlanes, hframe⟩ := h
  refine ⟨hwords.snoc (State.SameWords.set f v hf), hlanes, ?_⟩
  rw [hframe]
  rfl

theorem State.LaneOnly.setLane (h : s.LaneOnly t l) : s.LaneOnly (t.setLane l k) l := by
  obtain ⟨hwords, hlanes, hframe⟩ := h
  refine ⟨hwords.snoc (State.SameWords.of_regs (State.setLane_regs _ _ _)), fun j hj => (State.lane_setLane_other hj).trans (hlanes j hj), ?_⟩
  rw [hframe]
  rfl

/-! ### The events that a lane reports (R419) -/

/-- R386, R419: the record of a lane's event for the site that owns it. -/
def State.laneRecord (s : State) (l code v : Nat) : State := match s.laneSite l with
  | some n => s.event n code v l
  | none => s

theorem State.laneEvent_eq (h : code ≠ Ev.LANE_UP) : s.laneEvent l code v cls = (s.laneRecord l code v).log Src.DL (Lc.event code) (detail 0 l) cls := if_neg h

theorem State.laneRecord_frame : s.laneRecord l code v = { s with pendRecs := (s.laneRecord l code v).pendRecs } := by
  unfold State.laneRecord
  split <;> rfl

theorem State.laneEvent_sameFields (h : code ≠ Ev.LANE_UP) : s.SameFields [Reg.LOG_STAT.DROPPED] (s.laneEvent l code v cls) := by
  have hrecord : (s.laneRecord l code v).regs = s.regs := by rw [State.laneRecord_frame]
  rw [State.laneEvent_eq h]
  exact (State.SameFields.of_regs hrecord).snoc State.log_sameFields

theorem State.laneEvent_frame (h : code ≠ Ev.LANE_UP) : s.laneEvent l code v cls = { s with
    regs := (s.laneEvent l code v cls).regs, pendRecs := (s.laneRecord l code v).pendRecs, logWait := (s.laneEvent l code v cls).logWait } := by
  rw [State.laneEvent_eq h, State.log_frame, State.laneRecord_frame]

theorem State.LaneOnly.laneEvent (h : s.LaneOnly t l) (hc : code ≠ Ev.LANE_UP) : s.LaneOnly (t.laneEvent l code v cls) l := by
  obtain ⟨hwords, hlanes, hframe⟩ := h
  have hevent := State.laneEvent_frame (s := t) (l := l) (v := v) (cls := cls) hc
  have hwordsEvent : t.SameWords (laneWords l) (t.laneEvent l code v cls) := fun a ha => (State.laneEvent_sameFields hc).reg fun g hg hag =>
    ha (by rw [hag, List.mem_singleton.1 hg]; simp [laneWords, Reg.LOG_STAT.DROPPED, Reg.LOG_STAT.word])
  refine ⟨hwords.snoc hwordsEvent, fun j hj => Eq.trans ?_ (hlanes j hj), ?_⟩
  · rw [hevent]
    rfl
  · rw [hevent, hframe]

/-- R382: what the record of an event of a lane tells of its site: the beat, the statement and whether it has tripped. -/
theorem State.LaneEvent.congr (h : t.LaneEvent u l code v) (hstate : ∀ n < 64, t.siteState n = s.siteState n) (hpc : ∀ n < 64, t.pc n = s.pc n)
    (hnow : t.now = s.now) (hmaps : t.maps = s.maps) : s.LaneEvent u l code v := fun n hn hsite => by
  have hflags : t.siteFlags n = s.siteFlags n := by simp only [State.siteFlags, hstate n hn]
  have hrecord := h n hn (by rw [State.laneSite, hmaps]; exact hsite)
  rw [hflags] at hrecord
  exact hrecord.congr (hstate n hn) (hpc n hn) hnow

theorem State.LaneEvent.pendRecs (h : s.LaneEvent t l code v) (hrecs : u.pendRecs = t.pendRecs) : s.LaneEvent u l code v :=
  fun n hn hsite => (h n hn hsite).pendRecs hrecs

theorem State.laneEvent_reports (hc : code ≠ Ev.LANE_UP) (hcode : code < 2 ^ 8) (hv : v < 2 ^ 40) : s.LaneEvent (s.laneEvent l code v cls) l code v := by
  intro n _ hsite
  have hrecs : (s.laneEvent l code v cls).pendRecs = (s.event n code v l).pendRecs := by
    rw [State.laneEvent_frame hc, State.laneRecord, hsite]
  have hevent : (s.event n code v l).pendRecs = insertRec ⟨s.now + 2, s.now, recWord n (s.stmtOf n) Kind.EVENT (Flag.DEVICE ||| s.siteFlags n) s.now l
      (code % 2 ^ 8 * 2 ^ 40 + v % 2 ^ 40)⟩ s.pendRecs := rfl
  rw [State.Records, hrecs, hevent, Nat.mod_eq_of_lt hcode, Nat.mod_eq_of_lt hv]
  exact mem_insertRec _ _

/-- The words of a lane lie apart from the status of the sites. -/
theorem State.LaneOnly.stat (h : s.LaneOnly t l) (hn : n < 64) (hi lo : Nat) : t.get ⟨Reg.SQ_STAT.word n, hi, lo⟩ = s.get ⟨Reg.SQ_STAT.word n, hi, lo⟩ := by
  refine h.1.get ?_
  simp only [List.mem_cons, List.not_mem_nil, or_false, Reg.SQ_STAT.word, Reg.DL_STAT.word, Reg.DL_EQ.word, Reg.DL_CNT.word, Reg.LOG_STAT.word]
  omega

theorem State.LaneOnly.report (h : s.LaneOnly t l) (hr : t.LaneEvent u l code v) : s.LaneEvent u l code v := by
  obtain ⟨-, -, hframe⟩ := id h
  exact hr.congr (fun n hn => h.stat hn 2 0) (fun n hn => h.stat hn 127 108) (by rw [hframe]; rfl) (by rw [hframe])

end
end Sys2Proof.Machine
end

section
/-! SUPPORT. The adaptation of a lane: its updates, its freeze and its restart (R406 to R408). -/

namespace Sys2Proof.Machine

/-! ### Coefficients (R406 to R408) -/

section
variable {s t : State} {l c v e : Nat} {o : AdaptObs}

/-- R406: the TAPS field that an update gives. -/
def adaptTaps (o : AdaptObs) : Nat := (List.range 5).foldl (fun m i => m + fieldOf 8 (o.taps.getD i 0) * 2 ^ (8 * i)) 0

theorem fieldOf_lt (k : Nat) (z : Int) : fieldOf k z < 2 ^ k := by
  have hpos : (0 : Int) < (2 ^ k : Nat) := Int.natCast_pos.2 (Nat.two_pow_pos k)
  rw [fieldOf, Int.toNat_lt (Int.emod_nonneg _ hpos.ne')]
  exact Int.emod_lt_of_pos _ hpos

/-- Bytes put together are below the power of their number. -/
theorem foldl_bytes_lt (f : Nat → Nat) (hf : ∀ i, f i < 2 ^ 8) (k : Nat) : (List.range k).foldl (fun m i => m + f i * 2 ^ (8 * i)) 0 < 2 ^ (8 * k) := by
  induction k with
  | zero => exact Nat.one_pos
  | succ k ih =>
    have hbyte : f k * 2 ^ (8 * k) ≤ 255 * 2 ^ (8 * k) := Nat.mul_le_mul_right _ (Nat.le_of_lt_succ (hf k))
    rw [List.range_succ, List.foldl_append, List.foldl_cons, List.foldl_nil, Nat.mul_succ, Nat.pow_add]
    linarith

theorem adaptTaps_lt (o : AdaptObs) : adaptTaps o < 2 ^ 40 := foldl_bytes_lt _ (fun _ => fieldOf_lt 8 _) 5

/-- A fold that adds a power of two where a condition holds adds no more than all of them. -/
theorem foldl_flags_le (p : Nat → Prop) [DecidablePred p] (l : List Nat) (c : Nat) :
    l.foldl (fun m i => if p i then m + 2 ^ (i + 1) else m) c ≤ c + (l.map fun i => 2 ^ (i + 1)).sum := by
  induction l generalizing c with
  | nil => exact le_rfl
  | cons i l ih =>
    have hstep : (if p i then c + 2 ^ (i + 1) else c) ≤ c + 2 ^ (i + 1) := ite_le_sup _ _ _ |>.trans (sup_le le_rfl (Nat.le_add_right _ _))
    simp only [List.foldl_cons, List.map_cons, List.sum_cons]
    exact (ih _).trans (by omega)

/-- R408: an excursion is a mask of CTLE and five taps. -/
theorem State.excursion_lt : s.excursion l c v < 2 ^ 40 := by
  have hctle : (if s.get (Reg.DL_EQSET.EXC_CTLE l) < ((c : Int) - s.get (Reg.DL_EQ.SNAP_CTLE l)).natAbs then 1 else 0) ≤ 1 := by split <;> decide
  exact (foldl_flags_le _ _ _).trans_lt ((Nat.add_le_add_right hctle _).trans_lt (by decide))

/-- R406: the coefficients of a lane. -/
def State.setCoefs (s : State) (l c v : Nat) : State := (s.set (Reg.DL_EQ.CTLE l) c).set (Reg.DL_EQ.TAPS l) v

theorem State.setCoefs_sameFields : s.SameFields [Reg.DL_EQ.CTLE l, Reg.DL_EQ.TAPS l] (s.setCoefs l c v) :=
  (State.SameFields.set (Reg.DL_EQ.CTLE l) _ (Nat.le_of_ble_eq_true rfl) (Nat.le_of_ble_eq_true rfl) (by simp)).snoc
    (State.SameFields.set (Reg.DL_EQ.TAPS l) _ (Nat.le_of_ble_eq_true rfl) (Nat.le_of_ble_eq_true rfl) (by simp))

theorem State.setCoefs_ctle (hc : c < 2 ^ 4) : (s.setCoefs l c v).get (Reg.DL_EQ.CTLE l) = c := by
  rw [State.setCoefs, State.get_set_other _ _ _ (Nat.le_of_ble_eq_true rfl) (Nat.le_of_ble_eq_true rfl) (.inr (Nat.le_of_ble_eq_true rfl)),
    State.get_set_same _ _ (Nat.le_of_ble_eq_true rfl) (Nat.le_of_ble_eq_true rfl)]
  exact Nat.mod_eq_of_lt hc

theorem State.setCoefs_taps (hv : v < 2 ^ 40) : (s.setCoefs l c v).get (Reg.DL_EQ.TAPS l) = v :=
  (State.get_set_same _ _ (Nat.le_of_ble_eq_true rfl) (Nat.le_of_ble_eq_true rfl)).trans (Nat.mod_eq_of_lt hv)

theorem State.setCoefs_frame : s.setCoefs l c v = { s with regs := (s.setCoefs l c v).regs } := rfl

theorem State.LaneOnly.setCoefs (h : s.LaneOnly t l) : s.LaneOnly (t.setCoefs l c v) l :=
  (h.set (by simp [laneWords, Reg.DL_EQ.word, Reg.DL_EQ.CTLE])).set (by simp [laneWords, Reg.DL_EQ.word, Reg.DL_EQ.TAPS])

/-- R408: the coefficients of a lane return to its snapshot. -/
def State.restoreCoefs (s : State) (l : Nat) : State := s.setCoefs l (s.get (Reg.DL_EQ.SNAP_CTLE l)) (s.get (Reg.DL_EQ.SNAP_TAPS l))

theorem State.restoreCoefs_ctle : (s.restoreCoefs l).get (Reg.DL_EQ.CTLE l) = s.get (Reg.DL_EQ.SNAP_CTLE l) := State.setCoefs_ctle (State.get_lt _)

theorem State.restoreCoefs_taps : (s.restoreCoefs l).get (Reg.DL_EQ.TAPS l) = s.get (Reg.DL_EQ.SNAP_TAPS l) := State.setCoefs_taps (State.get_lt _)

end

/-! ### Updates -/

section
variable {s : State} {l c v e : Nat} {o : AdaptObs}

theorem State.adaptUpdate_idle (h : s.adapts l = false) : s.adaptUpdate l o = s := by
  unfold State.adaptUpdate
  rw [h]
  rfl

/-- What an update does in the comparison window that a restart opened, when it lies within the limits. -/
def State.kept (s : State) (l c v : Nat) : State :=
  let t := (s.setCoefs l c v).setLane l { s.lane l with cmpLeft := (s.lane l).cmpLeft - 1 }
  if (s.lane l).cmpLeft = 1 then t.set (Reg.DL_EQ.SNAP_VALID l) 0 else t

/-- What it does when `e` tells the coefficients that lie beyond them. -/
def State.reverted (s : State) (l e : Nat) : State :=
  (((s.restoreCoefs l).set (Reg.DL_STAT.REVERT l) 1).laneEvent l Ev.ADAPT_REVERT e 2).setLane l { s.lane l with cmpLeft := 1024 }

theorem State.adaptUpdate_eq (h : s.adapts l = true) : s.adaptUpdate l o =
    if s.flag (Reg.DL_EQ.SNAP_VALID l) ∧ (s.lane l).cmpLeft ≠ 0 then
      if s.excursion l o.ctle.toNat (adaptTaps o) ≠ 0 then s.reverted l (s.excursion l o.ctle.toNat (adaptTaps o))
      else s.kept l o.ctle.toNat (adaptTaps o)
    else s.setCoefs l o.ctle.toNat (adaptTaps o) := by
  unfold State.adaptUpdate
  rw [h]
  rfl

theorem State.flag_set_zero (f : Fld) (hh : f.hi < 128) (hl : f.lo ≤ f.hi) : (s.set f 0).flag f = false := by
  rw [State.flag, State.get_set_same _ _ hh hl, Nat.zero_mod]
  rfl

/-- R408: an update within the limits, with the updates that the window had left. -/
theorem State.kept_reads (hc : c < 2 ^ 4) (hv : v < 2 ^ 40) (hvalid : s.flag (Reg.DL_EQ.SNAP_VALID l) = true) :
    (s.kept l c v).get (Reg.DL_EQ.CTLE l) = c ∧ (s.kept l c v).get (Reg.DL_EQ.TAPS l) = v ∧ ((s.kept l c v).lane l).cmpLeft = (s.lane l).cmpLeft - 1 ∧
      (s.kept l c v).flag (Reg.DL_EQ.SNAP_VALID l) = decide ((s.lane l).cmpLeft ≠ 1) := by
  unfold State.kept
  dsimp only
  split
  next hlast =>
    have hsnap {t : State} : t.SameFields [Reg.DL_EQ.SNAP_VALID l] (t.set (Reg.DL_EQ.SNAP_VALID l) 0) :=
      State.SameFields.set _ _ (Nat.le_of_ble_eq_true rfl) (Nat.le_of_ble_eq_true rfl) (by simp)
    refine ⟨?_, ?_, by rw [State.set_lane, State.lane_setLane_same], ?_⟩
    · rw [hsnap.get (by simp [Fld.apart_cons, Fld.apart_nil, Reg.DL_EQ.CTLE, Reg.DL_EQ.SNAP_VALID]), State.setLane_get, State.setCoefs_ctle hc]
    · rw [hsnap.get (by simp [Fld.apart_cons, Fld.apart_nil, Reg.DL_EQ.TAPS, Reg.DL_EQ.SNAP_VALID]), State.setLane_get, State.setCoefs_taps hv]
    · rw [State.flag_set_zero _ (Nat.le_of_ble_eq_true rfl) (Nat.le_of_ble_eq_true rfl), hlast]
      rfl
  next hmore =>
    refine ⟨?_, ?_, by rw [State.lane_setLane_same], ?_⟩
    · rw [State.setLane_get, State.setCoefs_ctle hc]
    · rw [State.setLane_get, State.setCoefs_taps hv]
    · rw [decide_eq_true hmore, State.flag, State.setLane_get,
        State.setCoefs_sameFields.get (by simp [Fld.apart_cons, Fld.apart_nil, Reg.DL_EQ.CTLE, Reg.DL_EQ.TAPS, Reg.DL_EQ.SNAP_VALID]), ← State.flag, hvalid]

theorem State.kept_laneOnly : s.LaneOnly (s.kept l c v) l :=
  ite_kept (P := fun t => s.LaneOnly t l) (fun _ => State.LaneOnly.refl.setCoefs.setLane.set (by simp [laneWords, Reg.DL_EQ.word, Reg.DL_EQ.SNAP_VALID]))
    fun _ => State.LaneOnly.refl.setCoefs.setLane

theorem State.setCoefs_sameWords : s.SameWords [Reg.DL_EQ.word l] (s.setCoefs l c v) :=
  (State.SameWords.set (Reg.DL_EQ.CTLE l) _ (by simp [Reg.DL_EQ.word, Reg.DL_EQ.CTLE])).snoc
    (State.SameWords.set (Reg.DL_EQ.TAPS l) _ (by simp [Reg.DL_EQ.word, Reg.DL_EQ.TAPS]))

theorem State.kept_sameWords : s.SameWords [Reg.DL_EQ.word l] (s.kept l c v) := by
  have hcoefs (k : Lane) : s.SameWords [Reg.DL_EQ.word l] ((s.setCoefs l c v).setLane l k) :=
    State.setCoefs_sameWords.snoc (State.SameWords.of_regs (State.setLane_regs _ _ _))
  exact ite_kept (P := fun t => s.SameWords [Reg.DL_EQ.word l] t)
    (fun _ => (hcoefs _).snoc (State.SameWords.set _ _ (by simp [Reg.DL_EQ.word, Reg.DL_EQ.SNAP_VALID]))) fun _ => hcoefs _

/-- The coefficients at the snapshot, with REVERT: what a revert leaves before it is reported. -/
def State.marked (s : State) (l : Nat) : State := (s.restoreCoefs l).set (Reg.DL_STAT.REVERT l) 1

theorem State.marked_laneOnly : s.LaneOnly (s.marked l) l :=
  State.LaneOnly.refl.setCoefs.set (by simp [laneWords, Reg.DL_STAT.word, Reg.DL_STAT.REVERT])

theorem State.marked_sameFields : s.SameFields [Reg.DL_EQ.CTLE l, Reg.DL_EQ.TAPS l, Reg.DL_STAT.REVERT l] (s.marked l) :=
  (State.setCoefs_sameFields.mono (by simp +contextual)).snoc
    (State.SameFields.set _ _ (Nat.le_of_ble_eq_true rfl) (Nat.le_of_ble_eq_true rfl) (by simp))

theorem State.reverted_eq : s.reverted l e = ((s.marked l).laneEvent l Ev.ADAPT_REVERT e 2).setLane l { s.lane l with cmpLeft := 1024 } := rfl

theorem adaptRevert_ne_up : Ev.ADAPT_REVERT ≠ Ev.LANE_UP := by decide

/-- A field of a lane reads on after its revert is reported. -/
theorem State.reverted_get (f : Fld) (hf : f.Apart [Reg.LOG_STAT.DROPPED]) : (s.reverted l e).get f = (s.marked l).get f :=
  (State.laneEvent_sameFields adaptRevert_ne_up).get hf

/-- R408: an update beyond the limits. -/
theorem State.reverted_reads (he : e < 2 ^ 40) : (s.reverted l e).get (Reg.DL_EQ.CTLE l) = s.get (Reg.DL_EQ.SNAP_CTLE l) ∧
    (s.reverted l e).get (Reg.DL_EQ.TAPS l) = s.get (Reg.DL_EQ.SNAP_TAPS l) ∧ (s.reverted l e).flag (Reg.DL_STAT.REVERT l) = true ∧
    ((s.reverted l e).lane l).cmpLeft = 1024 ∧ s.LaneEvent (s.reverted l e) l Ev.ADAPT_REVERT e ∧
    s.SameFields [Reg.DL_EQ.CTLE l, Reg.DL_EQ.TAPS l, Reg.DL_STAT.REVERT l, Reg.LOG_STAT.DROPPED] (s.reverted l e) ∧ s.LaneOnly (s.reverted l e) l := by
  have hrevert {t : State} : t.SameFields [Reg.DL_STAT.REVERT l] (t.set (Reg.DL_STAT.REVERT l) 1) :=
    State.SameFields.set _ _ (Nat.le_of_ble_eq_true rfl) (Nat.le_of_ble_eq_true rfl) (by simp)
  have hdropped (f : Fld) (hl : f.lo ≤ f.hi) (ha : 0x0B0000 ≤ f.addr) : f.Apart [Reg.LOG_STAT.DROPPED] := by
    simp only [Fld.apart_cons, Fld.apart_nil, Reg.LOG_STAT.DROPPED]
    omega
  refine ⟨?ctle, ?taps, ?revert, by rw [State.reverted_eq, State.lane_setLane_same], ?event, ?fields, (State.marked_laneOnly.laneEvent adaptRevert_ne_up).setLane⟩
  case ctle =>
    rw [State.reverted_get _ (hdropped _ (Nat.le_of_ble_eq_true rfl) (Nat.le_add_right_of_le (by decide))), State.marked,
      hrevert.get (by simp [Fld.apart_cons, Fld.apart_nil, Reg.DL_EQ.CTLE, Reg.DL_STAT.REVERT]), State.restoreCoefs_ctle]
  case taps =>
    rw [State.reverted_get _ (hdropped _ (Nat.le_of_ble_eq_true rfl) (Nat.le_add_right_of_le (by decide))), State.marked,
      hrevert.get (by simp [Fld.apart_cons, Fld.apart_nil, Reg.DL_EQ.TAPS, Reg.DL_STAT.REVERT]), State.restoreCoefs_taps]
  case revert =>
    rw [State.flag, State.reverted_get _ (hdropped _ (Nat.le_of_ble_eq_true rfl) (Nat.le_add_right_of_le (by decide)))]
    exact State.flag_set_one _ (Nat.le_of_ble_eq_true rfl) (Nat.le_of_ble_eq_true rfl)
  case event =>
    exact State.marked_laneOnly.report ((State.laneEvent_reports adaptRevert_ne_up (by decide) he).pendRecs rfl)
  case fields =>
    exact (State.marked_sameFields.mono (by simp +contextual)).snoc (((State.laneEvent_sameFields adaptRevert_ne_up).mono (by simp)).snoc
      (State.SameFields.of_regs (State.setLane_regs _ _ _)))

end

/-! ### Freeze and restart (R407, R408) -/

section
variable {s : State} {l : Nat}

theorem State.adaptFreeze_idle (h : s.adapts l = false) : s.adaptFreeze l = s := by
  unfold State.adaptFreeze
  rw [h]
  rfl

/-- The coefficients of a lane become its snapshot. -/
def State.snapCoefs (s : State) (l : Nat) : State :=
  (s.set (Reg.DL_EQ.SNAP_CTLE l) (s.get (Reg.DL_EQ.CTLE l))).set (Reg.DL_EQ.SNAP_TAPS l) (s.get (Reg.DL_EQ.TAPS l))

/-- The snapshot is valid and the adaptation frozen. -/
def State.freeze (s : State) (l : Nat) : State := (s.set (Reg.DL_EQ.SNAP_VALID l) 1).set (Reg.DL_STAT.FROZEN l) 1

theorem State.adaptFreeze_eq (h : s.adapts l = true) :
    s.adaptFreeze l = ((s.snapCoefs l).freeze l).setLane l { s.lane l with cmpLeft := 0 } := by
  unfold State.adaptFreeze
  rw [h]
  rfl

theorem State.freeze_sameFields : s.SameFields [Reg.DL_EQ.SNAP_VALID l, Reg.DL_STAT.FROZEN l] (s.freeze l) :=
  (State.SameFields.set _ _ (Nat.le_of_ble_eq_true rfl) (Nat.le_of_ble_eq_true rfl) (by simp)).snoc
    (State.SameFields.set _ _ (Nat.le_of_ble_eq_true rfl) (Nat.le_of_ble_eq_true rfl) (by simp))

theorem State.freeze_frozen : (s.freeze l).flag (Reg.DL_STAT.FROZEN l) = true :=
  State.flag_set_one _ (Nat.le_of_ble_eq_true rfl) (Nat.le_of_ble_eq_true rfl)

theorem State.freeze_valid : (s.freeze l).flag (Reg.DL_EQ.SNAP_VALID l) = true := by
  have hfrozen {t : State} : t.SameFields [Reg.DL_STAT.FROZEN l] (t.set (Reg.DL_STAT.FROZEN l) 1) :=
    State.SameFields.set _ _ (Nat.le_of_ble_eq_true rfl) (Nat.le_of_ble_eq_true rfl) (by simp)
  rw [State.freeze, hfrozen.flag (by simp [Fld.apart_cons, Fld.apart_nil, Reg.DL_EQ.SNAP_VALID, Reg.DL_STAT.FROZEN])]
  exact State.flag_set_one _ (Nat.le_of_ble_eq_true rfl) (Nat.le_of_ble_eq_true rfl)

theorem State.snapCoefs_ctle : (s.snapCoefs l).get (Reg.DL_EQ.SNAP_CTLE l) = s.get (Reg.DL_EQ.CTLE l) := by
  rw [State.snapCoefs, State.get_set_other _ _ _ (Nat.le_of_ble_eq_true rfl) (Nat.le_of_ble_eq_true rfl) (.inr (Nat.le_of_ble_eq_true rfl)),
    State.get_set_same _ _ (Nat.le_of_ble_eq_true rfl) (Nat.le_of_ble_eq_true rfl)]
  exact Nat.mod_eq_of_lt (State.get_lt _)

theorem State.snapCoefs_taps : (s.snapCoefs l).get (Reg.DL_EQ.SNAP_TAPS l) = s.get (Reg.DL_EQ.TAPS l) :=
  (State.get_set_same _ _ (Nat.le_of_ble_eq_true rfl) (Nat.le_of_ble_eq_true rfl)).trans (Nat.mod_eq_of_lt (State.get_lt _))

theorem State.snapCoefs_sameFields : s.SameFields [Reg.DL_EQ.SNAP_CTLE l, Reg.DL_EQ.SNAP_TAPS l] (s.snapCoefs l) :=
  (State.SameFields.set _ _ (Nat.le_of_ble_eq_true rfl) (Nat.le_of_ble_eq_true rfl) (by simp)).snoc
    (State.SameFields.set _ _ (Nat.le_of_ble_eq_true rfl) (Nat.le_of_ble_eq_true rfl) (by simp))

/-- R407: a freeze keeps the coefficients as the snapshot, and the lane adapts no more. -/
theorem State.frozen_reads {t : State} (ht : t = ((s.snapCoefs l).freeze l).setLane l { s.lane l with cmpLeft := 0 }) :
    t.get (Reg.DL_EQ.SNAP_CTLE l) = s.get (Reg.DL_EQ.CTLE l) ∧ t.get (Reg.DL_EQ.SNAP_TAPS l) = s.get (Reg.DL_EQ.TAPS l) ∧
      t.flag (Reg.DL_EQ.SNAP_VALID l) = true ∧ t.flag (Reg.DL_STAT.FROZEN l) = true ∧ t.adapts l = false ∧
      s.SameFields [Reg.DL_EQ.SNAP_CTLE l, Reg.DL_EQ.SNAP_TAPS l, Reg.DL_EQ.SNAP_VALID l, Reg.DL_STAT.FROZEN l] t ∧ s.LaneOnly t l := by
  have hfreeze : (s.snapCoefs l).SameFields [Reg.DL_EQ.SNAP_VALID l, Reg.DL_STAT.FROZEN l] t := by
    rw [ht]
    exact State.freeze_sameFields.snoc (State.SameFields.of_regs (State.setLane_regs _ _ _))
  have hfrozen : t.flag (Reg.DL_STAT.FROZEN l) = true := by
    rw [ht, State.setLane_flag, State.freeze_frozen]
  refine ⟨?ctle, ?taps, ?valid, hfrozen, ?adapts, ?fields, ?only⟩
  case ctle => rw [hfreeze.get (by simp [Fld.apart_cons, Fld.apart_nil, Reg.DL_EQ.SNAP_CTLE, Reg.DL_EQ.SNAP_VALID, Reg.DL_STAT.FROZEN]), State.snapCoefs_ctle]
  case taps => rw [hfreeze.get (by simp [Fld.apart_cons, Fld.apart_nil, Reg.DL_EQ.SNAP_TAPS, Reg.DL_EQ.SNAP_VALID, Reg.DL_STAT.FROZEN]), State.snapCoefs_taps]
  case valid =>
    rw [ht, State.setLane_flag, State.freeze_valid]
  case adapts => rw [State.adapts, hfrozen, Bool.not_true, Bool.and_false, Bool.false_and]
  case fields => exact (State.snapCoefs_sameFields.mono (by simp +contextual)).snoc (hfreeze.mono (by simp +contextual))
  case only =>
    rw [ht]
    refine State.LaneOnly.setLane (State.LaneOnly.set (State.LaneOnly.set (State.LaneOnly.set (State.LaneOnly.set State.LaneOnly.refl ?_) ?_) ?_) ?_) <;>
      simp [laneWords, Reg.DL_STAT.word, Reg.DL_EQ.word, Reg.DL_EQ.SNAP_CTLE, Reg.DL_EQ.SNAP_TAPS, Reg.DL_EQ.SNAP_VALID, Reg.DL_STAT.FROZEN]

theorem State.adaptRestart_running (h : s.flag (Reg.DL_STAT.FROZEN l) = false) : s.adaptRestart l = s := if_neg (by rw [h]; decide)

theorem State.adaptRestart_frozen (h : s.flag (Reg.DL_STAT.FROZEN l) = true) :
    s.adaptRestart l = ((s.restoreCoefs l).set (Reg.DL_STAT.FROZEN l) 0).setLane l { s.lane l with cmpLeft := 1024 } := if_pos h

/-- R408: a restart takes the coefficients from the snapshot and opens a comparison window. -/
theorem State.restarted_reads {t : State} (ht : t = ((s.restoreCoefs l).set (Reg.DL_STAT.FROZEN l) 0).setLane l { s.lane l with cmpLeft := 1024 }) :
    t.get (Reg.DL_EQ.CTLE l) = s.get (Reg.DL_EQ.SNAP_CTLE l) ∧ t.get (Reg.DL_EQ.TAPS l) = s.get (Reg.DL_EQ.SNAP_TAPS l) ∧
      t.flag (Reg.DL_STAT.FROZEN l) = false ∧ (t.lane l).cmpLeft = 1024 ∧
      s.SameFields [Reg.DL_EQ.CTLE l, Reg.DL_EQ.TAPS l, Reg.DL_STAT.FROZEN l] t ∧ s.LaneOnly t l := by
  have hfrozen : (s.restoreCoefs l).SameFields [Reg.DL_STAT.FROZEN l] t := by
    rw [ht]
    exact State.SameFields.snoc (State.SameFields.set _ _ (Nat.le_of_ble_eq_true rfl) (Nat.le_of_ble_eq_true rfl) (by simp))
      (State.SameFields.of_regs (State.setLane_regs _ _ _))
  refine ⟨?ctle, ?taps, ?flag, by rw [ht, State.lane_setLane_same], ?fields, ?only⟩
  case ctle => rw [hfrozen.get (by simp [Fld.apart_cons, Fld.apart_nil, Reg.DL_EQ.CTLE, Reg.DL_STAT.FROZEN]), State.restoreCoefs_ctle]
  case taps => rw [hfrozen.get (by simp [Fld.apart_cons, Fld.apart_nil, Reg.DL_EQ.TAPS, Reg.DL_STAT.FROZEN]), State.restoreCoefs_taps]
  case flag =>
    rw [ht, State.setLane_flag, State.flag_set_zero _ (Nat.le_of_ble_eq_true rfl) (Nat.le_of_ble_eq_true rfl)]
  case fields => exact (State.setCoefs_sameFields.mono (by simp +contextual)).snoc (hfrozen.mono (by simp))
  case only =>
    rw [ht]
    exact (State.LaneOnly.refl.setCoefs.set (by simp [laneWords, Reg.DL_STAT.word, Reg.DL_STAT.FROZEN])).setLane

end
end Sys2Proof.Machine
end

section
/-! The adaptation of a lane, its checker and an LTEST on it (O42). -/

namespace Sys2Proof.Machine

/-! ### The checker (R417) -/

section
variable {s : State} {l bits errs e : Nat}

/-- R417: more bits and more errors of a lane are counted. -/
def State.laneCounted (s : State) (l bits e : Nat) : State := (s.add (Reg.DL_CNT.BITS l) bits).add (Reg.DL_CNT.ERRORS l) e

/-- R417: how many of the bits received are errors: the differing ones in sync, all of them out of sync. -/
def State.errorsOf (s : State) (l bits errs : Nat) : Nat := if s.flag (Reg.DL_STAT.SYNC l) then min errs bits else bits

/-- R417: the checker of a lane is on. -/
def State.Checks (s : State) (l : Nat) : Prop := s.laneState l = Ln.UP ∧ s.get (Reg.DL_RX.CHK_PAT l) ≠ 0

theorem State.countBits_on (h : s.Checks l) : s.countBits l bits errs = s.laneCounted l bits (s.errorsOf l bits errs) := if_pos h

theorem State.countBits_off (h : ¬s.Checks l) : s.countBits l bits errs = s := if_neg h

theorem State.laneCounted_bits : (s.laneCounted l bits e).get (Reg.DL_CNT.BITS l) = (s.get (Reg.DL_CNT.BITS l) + bits) % 2 ^ 64 := by
  rw [State.laneCounted, State.add, State.get_set_other _ _ _ (Nat.le_of_ble_eq_true rfl) (Nat.le_of_ble_eq_true rfl) (.inr (Nat.le_of_ble_eq_true rfl))]
  exact State.get_set_same _ _ (Nat.le_of_ble_eq_true rfl) (Nat.le_of_ble_eq_true rfl)

theorem State.laneCounted_errors : (s.laneCounted l bits e).get (Reg.DL_CNT.ERRORS l) = (s.get (Reg.DL_CNT.ERRORS l) + e) % 2 ^ 40 := by
  have hbits : (s.add (Reg.DL_CNT.BITS l) bits).get (Reg.DL_CNT.ERRORS l) = s.get (Reg.DL_CNT.ERRORS l) :=
    State.get_set_other _ _ _ (Nat.le_of_ble_eq_true rfl) (Nat.le_of_ble_eq_true rfl) (.inl (Nat.le_of_ble_eq_true rfl))
  rw [State.laneCounted, State.add, State.get_set_same _ _ (Nat.le_of_ble_eq_true rfl) (Nat.le_of_ble_eq_true rfl), hbits]
  rfl

theorem State.laneCounted_sameFields : s.SameFields [Reg.DL_CNT.BITS l, Reg.DL_CNT.ERRORS l] (s.laneCounted l bits e) :=
  (State.SameFields.set (Reg.DL_CNT.BITS l) _ (Nat.le_of_ble_eq_true rfl) (Nat.le_of_ble_eq_true rfl) (by simp)).snoc
    (State.SameFields.set (Reg.DL_CNT.ERRORS l) _ (Nat.le_of_ble_eq_true rfl) (Nat.le_of_ble_eq_true rfl) (by simp))

theorem State.checkerSync_on (h : s.Checks l) :
    s.checkerSync l bits errs = (s.laneCounted l bits (s.errorsOf l bits errs)).set (Reg.DL_STAT.SYNC l) 1 := by
  rw [← State.countBits_on h]
  exact if_pos h

theorem State.checkerSync_off (h : ¬s.Checks l) : s.checkerSync l bits errs = s := (if_neg h).trans (State.countBits_off h)

theorem State.checkerLoss_on (h : s.Checks l) (hsync : s.flag (Reg.DL_STAT.SYNC l) = true) :
    s.checkerLoss l bits errs = ((s.laneCounted l bits (min errs bits)).set (Reg.DL_STAT.SYNC l) 0).inc (Reg.DL_CNT.SYNC_LOSS l) := by
  have herrors : s.errorsOf l bits errs = min errs bits := if_pos hsync
  rw [← herrors, ← State.countBits_on h]
  exact if_pos hsync

theorem State.checkerLoss_off (h : ¬s.Checks l) (hsync : s.flag (Reg.DL_STAT.SYNC l) = false) : s.checkerLoss l bits errs = s :=
  (if_neg (by rw [hsync]; decide)).trans (State.countBits_off h)

/-- SYNC lies apart from the counts of a lane. -/
theorem sync_sameFields {v : Nat} : s.SameFields [Reg.DL_STAT.SYNC l] (s.set (Reg.DL_STAT.SYNC l) v) :=
  State.SameFields.set _ _ (Nat.le_of_ble_eq_true rfl) (Nat.le_of_ble_eq_true rfl) (by simp)

theorem cnt_apart_sync {hi lo : Nat} (h : lo ≤ hi) : Fld.Apart ⟨Reg.DL_CNT.word l, hi, lo⟩ [Reg.DL_STAT.SYNC l] := by
  simp [Fld.apart_cons, Fld.apart_nil, Reg.DL_CNT.word, Reg.DL_STAT.SYNC, h]

/-- R417: the checker gains sync. -/
theorem State.synced_reads {t : State} (ht : t = (s.laneCounted l bits e).set (Reg.DL_STAT.SYNC l) 1) :
    t.flag (Reg.DL_STAT.SYNC l) = true ∧ t.get (Reg.DL_CNT.BITS l) = (s.get (Reg.DL_CNT.BITS l) + bits) % 2 ^ 64 ∧
      t.get (Reg.DL_CNT.ERRORS l) = (s.get (Reg.DL_CNT.ERRORS l) + e) % 2 ^ 40 ∧
      s.SameFields [Reg.DL_STAT.SYNC l, Reg.DL_CNT.BITS l, Reg.DL_CNT.ERRORS l] t ∧ t = { s with regs := t.regs } := by
  rw [ht]
  refine ⟨State.flag_set_one _ (Nat.le_of_ble_eq_true rfl) (Nat.le_of_ble_eq_true rfl), ?_, ?_,
    (State.laneCounted_sameFields.mono (by simp +contextual)).snoc (sync_sameFields.mono (by simp)), rfl⟩
  · exact (sync_sameFields.get (cnt_apart_sync (by decide))).trans State.laneCounted_bits
  · exact (sync_sameFields.get (cnt_apart_sync (by decide))).trans State.laneCounted_errors

/-- R417: the checker loses sync. -/
theorem State.lost_reads {t : State} (ht : t = ((s.laneCounted l bits e).set (Reg.DL_STAT.SYNC l) 0).inc (Reg.DL_CNT.SYNC_LOSS l)) :
    t.flag (Reg.DL_STAT.SYNC l) = false ∧ t.get (Reg.DL_CNT.BITS l) = (s.get (Reg.DL_CNT.BITS l) + bits) % 2 ^ 64 ∧
      t.get (Reg.DL_CNT.ERRORS l) = (s.get (Reg.DL_CNT.ERRORS l) + e) % 2 ^ 40 ∧
      t.get (Reg.DL_CNT.SYNC_LOSS l) = (s.get (Reg.DL_CNT.SYNC_LOSS l) + 1) % 2 ^ 12 ∧
      s.SameFields [Reg.DL_STAT.SYNC l, Reg.DL_CNT.BITS l, Reg.DL_CNT.ERRORS l, Reg.DL_CNT.SYNC_LOSS l] t ∧ t = { s with regs := t.regs } := by
  have hloss : ((s.laneCounted l bits e).set (Reg.DL_STAT.SYNC l) 0).SameFields [Reg.DL_CNT.SYNC_LOSS l] t := by
    rw [ht]
    exact State.SameFields.set _ _ (Nat.le_of_ble_eq_true rfl) (Nat.le_of_ble_eq_true rfl) (by simp)
  refine ⟨?sync, ?bits, ?errors, ?loss, ?fields, by rw [ht]; rfl⟩
  case sync =>
    rw [hloss.flag (by simp [Fld.apart_cons, Fld.apart_nil, Reg.DL_STAT.SYNC, Reg.DL_CNT.SYNC_LOSS])]
    exact State.flag_set_zero _ (Nat.le_of_ble_eq_true rfl) (Nat.le_of_ble_eq_true rfl)
  case bits =>
    rw [hloss.get (by simp [Fld.apart_cons, Fld.apart_nil, Reg.DL_CNT.BITS, Reg.DL_CNT.SYNC_LOSS])]
    exact (sync_sameFields.get (cnt_apart_sync (by decide))).trans State.laneCounted_bits
  case errors =>
    rw [hloss.get (by simp [Fld.apart_cons, Fld.apart_nil, Reg.DL_CNT.ERRORS, Reg.DL_CNT.SYNC_LOSS])]
    exact (sync_sameFields.get (cnt_apart_sync (by decide))).trans State.laneCounted_errors
  case loss =>
    have hbefore : ((s.laneCounted l bits e).set (Reg.DL_STAT.SYNC l) 0).get (Reg.DL_CNT.SYNC_LOSS l) = s.get (Reg.DL_CNT.SYNC_LOSS l) :=
      (sync_sameFields.get (cnt_apart_sync (by decide))).trans
        (State.laneCounted_sameFields.get (by simp [Fld.apart_cons, Fld.apart_nil, Reg.DL_CNT.BITS, Reg.DL_CNT.ERRORS]))
    rw [ht, State.inc, State.add, State.get_set_same _ _ (Nat.le_of_ble_eq_true rfl) (Nat.le_of_ble_eq_true rfl), hbefore]
    rfl
  case fields =>
    exact ((State.laneCounted_sameFields.mono (by simp +contextual)).snoc (sync_sameFields.mono (by simp))).snoc (hloss.mono (by simp))

end

/-! ### The record of a measurement (R196, R205, R383) -/

section
variable {s : State} {n kind flags sub v : Nat} {z : Int} {fail : Bool}

/-- R383: a count below 2^47 is recorded as it is. -/
theorem State.record_small (hv : v < 2 ^ 47) : s.record n kind flags sub v = s.recordRaw n kind flags sub v := by
  have hsat : satValue v = ((v : Int), false) := by
    rw [satValue, if_neg (by omega), if_neg (by omega)]
  have hfield : fieldOf 48 (v : Int) = v := by
    rw [fieldOf]
    omega
  rw [State.record, hsat]
  simp only [hfield, Bool.false_eq_true, if_false, Nat.or_zero]
  rfl

/-- What a measurement record leaves in a site: its count, and its accumulator. -/
def State.Folded (s t : State) (n : Nat) : Prop :=
  t = { s with regs := t.regs } ∧ (s.inc (Reg.SQ_CNT.RECORDS n)).SameWords [Reg.SQ_ACC.word n] t

theorem State.Folded.set {t : State} (h : s.Folded t n) {f : Fld} (hf : f.addr = Reg.SQ_ACC.word n) (x : Nat) : s.Folded (t.set f x) n := by
  obtain ⟨hframe, hwords⟩ := h
  refine ⟨?_, hwords.snoc (State.SameWords.set f x (List.mem_singleton.2 hf))⟩
  rw [hframe]
  rfl

theorem State.Folded.incSat {t : State} (h : s.Folded t n) {f : Fld} (hf : f.addr = Reg.SQ_ACC.word n) : s.Folded (t.incSat f) n :=
  ite_kept (P := fun t => s.Folded t n) (fun _ => h.set hf _) fun _ => h

/-- R196: a measurement record is counted, and only the accumulator of its site changes beside. -/
theorem State.accFold_folded : s.Folded (s.accFold n z fail) n := by
  have h0 : s.Folded (s.inc (Reg.SQ_CNT.RECORDS n)) n := ⟨rfl, State.SameWords.refl⟩
  have h1 : s.Folded ((s.inc (Reg.SQ_CNT.RECORDS n)).incSat (Reg.SQ_ACC.NREC n)) n := h0.incSat rfl
  unfold State.accFold
  extract_lets x s1 s2 s3
  have h2 : s.Folded s2 n := ite_kept (P := fun t => s.Folded t n) (fun _ => h1.incSat rfl) fun _ => h1
  have h3 : s.Folded s3 n := ite_kept (P := fun t => s.Folded t n) (fun _ => h2.set rfl _) fun _ => h2
  exact ite_kept (P := fun t => s.Folded t n) (fun _ => h3.set rfl _) fun _ => h3

theorem State.Folded.records {t : State} (h : s.Folded t n) : t.get (Reg.SQ_CNT.RECORDS n) = (s.get (Reg.SQ_CNT.RECORDS n) + 1) % 2 ^ 32 :=
  (h.2.get (by simp [Reg.SQ_CNT.RECORDS, Reg.SQ_ACC.word])).trans (State.get_set_same _ _ (Nat.le_of_ble_eq_true rfl) (Nat.le_of_ble_eq_true rfl))

theorem State.unitDone_frame : s.unitDone n fail = { s with seqs := (s.unitDone n fail).seqs } := by
  unfold State.unitDone
  dsimp only
  split <;> rfl

end

/-! ### The end of an LTEST (R418) -/

section
variable {s t : State} {l n : Nat} {x : LTest}

/-- R418: the errors that an LTEST counts. -/
def State.ltestErrors (s : State) (l : Nat) (x : LTest) : Nat := x.frozen.getD ((s.get (Reg.DL_CNT.ERRORS l) + 2 ^ 40 - x.base) % 2 ^ 40)

/-- R418: an LTEST fails beyond its limit, or when the lane left UP. -/
def ltestFails (x : LTest) (v : Nat) : Bool := decide (x.limit < v) || x.frozen.isSome

/-- R418: the LTESTs but that of lane `l`. -/
def State.dropLtest (s : State) (l : Nat) : State := { s with ltests := serase s.ltests l }

/-- R418: the record of an LTEST that has ended, and what its site makes of it. -/
def State.ltestRecord (s : State) (l : Nat) (x : LTest) (v : Nat) : State :=
  ((s.record x.owner Kind.LANE_ERRORS (if ltestFails x v then Flag.FAIL else 0) l v).accFold x.owner v (ltestFails x v)).unitDone x.owner (ltestFails x v)

theorem State.ltestEnd_none {bits errs : Nat} (h : s.ltests = []) : s.ltestEnd l bits errs = s.countBits l bits errs := by
  rw [State.ltestEnd, h]
  rfl

theorem State.ltestEnd_of {bits errs : Nat} (h : s.ltests = [(l, x)]) : s.ltestEnd l bits errs =
    if s.now < x.due then s.countBits l bits errs
    else ((s.countBits l bits errs).dropLtest l).ltestRecord l x ((s.countBits l bits errs).ltestErrors l x) := by
  have hfind : (s.ltests.find? fun p => p.1 == l).map Prod.snd = some x := by simp [h]
  rw [State.ltestEnd, hfind]
  rfl

/-- Counting no bits changes no register field. -/
theorem State.countBits_zero_get (f : Fld) (hf : f.lo ≤ f.hi) (h : f.addr ≠ Reg.DL_CNT.word l ∨ f = Reg.DL_CNT.ERRORS l) :
    (s.countBits l 0 0).get f = s.get f := by
  by_cases hon : s.Checks l
  · rw [State.countBits_on hon]
    obtain h | rfl := h
    · exact State.laneCounted_sameFields.get (by
        simp only [Fld.apart_cons, Fld.apart_nil, Reg.DL_CNT.BITS, Reg.DL_CNT.ERRORS]
        exact ⟨.inl h, .inl h, hf⟩)
    · have hnone : s.errorsOf l 0 0 = 0 := by rw [State.errorsOf, Nat.min_self, ite_self]
      rw [State.laneCounted_errors, hnone, Nat.add_zero]
      exact Nat.mod_eq_of_lt (State.get_lt _)
  · rw [State.countBits_off hon]

theorem State.countBits_frame {bits errs : Nat} : s.countBits l bits errs = { s with regs := (s.countBits l bits errs).regs } := by
  by_cases hon : s.Checks l
  · rw [State.countBits_on hon]
    rfl
  · rw [State.countBits_off hon]

/-- R418: the record of an LTEST that counted fewer than 2^47 errors. -/
theorem State.ltestRecord_records {v : Nat} (hv : v < 2 ^ 47) : s.Records (s.ltestRecord l x v) x.owner Kind.LANE_ERRORS
      ((if x.limit < v ∨ x.frozen ≠ none then Flag.FAIL else 0) ||| s.siteFlags x.owner) l v ∧
    (s.ltestRecord l x v).get (Reg.SQ_CNT.RECORDS x.owner) = (s.get (Reg.SQ_CNT.RECORDS x.owner) + 1) % 2 ^ 32 := by
  have hfail : (if ltestFails x v = true then Flag.FAIL else 0) = if x.limit < v ∨ x.frozen ≠ none then Flag.FAIL else 0 := by
    simp only [ltestFails, Bool.or_eq_true, decide_eq_true_eq, Option.isSome_iff_ne_none]
  have hfold {t : State} := State.accFold_folded (s := t) (n := x.owner) (z := v) (fail := ltestFails x v)
  rw [State.ltestRecord, State.record_small hv, hfail]
  refine ⟨?_, ?_⟩
  · refine State.Records.pendRecs (t := s.recordRaw x.owner Kind.LANE_ERRORS (if x.limit < v ∨ x.frozen ≠ none then Flag.FAIL else 0) l v) ?_ ?_
    · rw [State.recordRaw_eq]
      exact mem_insertRec _ _
    · rw [State.unitDone_frame, hfold.1]
  · rw [State.unitDone_frame]
    exact hfold.records

theorem State.ltestRecord_frame {v : Nat} : (s.ltestRecord l x v).ltests = s.ltests ∧ (s.ltestRecord l x v).mem = s.mem := by
  have hfold {t : State} := State.accFold_folded (s := t) (n := x.owner) (z := v) (fail := ltestFails x v)
  obtain ⟨w, hrecord⟩ : ∃ w, s.record x.owner Kind.LANE_ERRORS (if ltestFails x v = true then Flag.FAIL else 0) l v = s.pushRec w (s.now + 2) s.now := ⟨_, rfl⟩
  rw [State.ltestRecord, State.unitDone_frame, hfold.1, hrecord]
  exact ⟨rfl, rfl⟩

/-- R418: what an LTEST that is due leaves. -/
theorem State.ltestEnd_due (h : s.ltests = [(l, x)]) (hn : x.owner < 64) (ht : t = s.ltestEnd l 0 0) (hdue : x.due ≤ s.now) : t.ltests = [] ∧
    (∀ v, v = s.ltestErrors l x → v < 2 ^ 47 →
      s.Records t x.owner Kind.LANE_ERRORS ((if x.limit < v ∨ x.frozen ≠ none then Flag.FAIL else 0) ||| s.siteFlags x.owner) l v ∧
      t.get (Reg.SQ_CNT.RECORDS x.owner) = (s.get (Reg.SQ_CNT.RECORDS x.owner) + 1) % 2 ^ 32) ∧ t.mem = s.mem := by
  have hcount (f : Fld) := State.countBits_zero_get (s := s) (l := l) f
  have hsite {hi lo : Nat} (hl : lo ≤ hi) {w : Nat} (hw : w < 0x032080) : (s.countBits l 0 0).get ⟨w, hi, lo⟩ = s.get ⟨w, hi, lo⟩ :=
    hcount ⟨w, hi, lo⟩ hl (.inl (by simp only [Reg.DL_CNT.word]; omega))
  have herrors : (s.countBits l 0 0).ltestErrors l x = s.ltestErrors l x := by
    rw [State.ltestErrors, hcount _ (Nat.le_of_ble_eq_true rfl) (.inr rfl)]
    rfl
  have hstat : Reg.SQ_STAT.word x.owner < 0x032080 := by simp only [Reg.SQ_STAT.word]; omega
  have hcnt : Reg.SQ_CNT.word x.owner < 0x032080 := by simp only [Reg.SQ_CNT.word]; omega
  have hstate : ((s.countBits l 0 0).dropLtest l).siteState x.owner = s.siteState x.owner := hsite (by decide) hstat
  have hflags : ((s.countBits l 0 0).dropLtest l).siteFlags x.owner = s.siteFlags x.owner := by simp only [State.siteFlags, hstate]
  obtain ⟨hltests, hmem⟩ := State.ltestRecord_frame (s := (s.countBits l 0 0).dropLtest l) (l := l) (x := x) (v := (s.countBits l 0 0).ltestErrors l x)
  rw [ht, State.ltestEnd_of h, if_neg (Nat.not_lt.2 hdue)]
  refine ⟨?ltests, fun v hv hsmall => ?record, ?mem⟩
  case ltests =>
    rw [hltests, State.dropLtest, State.countBits_frame, h]
    simp [serase]
  case record =>
    rw [herrors, ← hv]
    obtain ⟨hrecord, hrecords⟩ := State.ltestRecord_records (s := (s.countBits l 0 0).dropLtest l) (l := l) (x := x) hsmall
    rw [hflags] at hrecord
    refine ⟨hrecord.congr hstate (hsite (by decide) hstat) ?_, ?_⟩
    · rw [State.dropLtest, State.countBits_frame]
      rfl
    · rw [hrecords]
      exact congrArg (fun r => (r + 1) % 2 ^ 32) (hsite (by decide) hcnt)
  case mem => rw [hmem, State.dropLtest, State.countBits_frame]

end

/-- Settles O42: adaptation with its windows, freeze and restart, the checker's counts, and the end of an LTEST. -/
theorem laneAdaptationAndChecker : Obligations.LaneAdaptationAndChecker := by
  unfold Obligations.LaneAdaptationAndChecker
  have hup (s : State) (l : Fin 32) (o : AdaptObs) : exec (.adaptUpdate l o) s = .next (s.adaptUpdate l o) := rfl
  refine ⟨fun s l o h => ⟨?_, ?_⟩, fun s l o v h hv => ⟨fun hfree => ?free, fun hvalid hleft he => ?within, fun hvalid hleft he => ?beyond⟩,
    fun s l h => ?freeze, fun s l => ⟨fun h => ?running, fun h => ?restart⟩, fun s l bits errs hstate hpat => ⟨?sync, fun hsync => ?loss⟩,
    fun s l bits errs h => ⟨?syncOff, fun hsync => ?lossOff, fun hnone => ?countOff⟩, fun s l x h hn => ⟨fun hdue => ?due, fun hnow hstate => ?notDue⟩⟩
  · exact congrArg Host.Outcome.next (State.adaptUpdate_idle h)
  · exact congrArg Host.Outcome.next (State.adaptFreeze_idle h)
  case free =>
    have hwindow : ¬(s.flag (Reg.DL_EQ.SNAP_VALID l) = true ∧ (s.lane l).cmpLeft ≠ 0) := fun ⟨hvalid, hleft⟩ =>
      hfree.elim (fun hf => by rw [hf] at hvalid; cases hvalid) hleft
    refine ⟨_, (hup s l o).trans (congrArg Host.Outcome.next ((State.adaptUpdate_eq h).trans (if_neg hwindow))), State.setCoefs_ctle o.ctle.isLt, ?_,
      State.setCoefs_sameFields, State.setCoefs_frame⟩
    exact (State.setCoefs_taps (adaptTaps_lt o)).trans hv.symm
  case within =>
    have hv' : adaptTaps o = v := hv.symm
    have hexec := hup s l o
    rw [State.adaptUpdate_eq h, if_pos ⟨hvalid, hleft⟩, hv', if_neg (not_not.2 he)] at hexec
    obtain ⟨hctle, htaps, hcmp, hsnap⟩ := State.kept_reads (s := s) (l := l) o.ctle.isLt (hv' ▸ adaptTaps_lt o) hvalid
    exact ⟨_, hexec, hctle, htaps, hcmp, hsnap, State.kept_sameWords, State.kept_laneOnly⟩
  case beyond =>
    have hv' : adaptTaps o = v := hv.symm
    have hexec := hup s l o
    rw [State.adaptUpdate_eq h, if_pos ⟨hvalid, hleft⟩, hv', if_pos he] at hexec
    exact ⟨_, hexec, State.reverted_reads State.excursion_lt⟩
  case freeze => exact ⟨_, congrArg Host.Outcome.next (State.adaptFreeze_eq h), State.frozen_reads rfl⟩
  case running => exact congrArg Host.Outcome.next (State.adaptRestart_running h)
  case restart => exact ⟨_, congrArg Host.Outcome.next (State.adaptRestart_frozen h), State.restarted_reads rfl⟩
  case sync => exact ⟨_, congrArg Host.Outcome.next (State.checkerSync_on ⟨hstate, hpat⟩), State.synced_reads rfl⟩
  case loss => exact ⟨_, congrArg Host.Outcome.next (State.checkerLoss_on ⟨hstate, hpat⟩ hsync), State.lost_reads rfl⟩
  case syncOff => exact congrArg Host.Outcome.next (State.checkerSync_off fun hon => h.elim (· hon.1) hon.2)
  case lossOff => exact congrArg Host.Outcome.next (State.checkerLoss_off (fun hon => h.elim (· hon.1) hon.2) hsync)
  case countOff =>
    exact congrArg Host.Outcome.next ((State.ltestEnd_none hnone).trans (State.countBits_off fun hon => h.elim (· hon.1) hon.2))
  case due => exact ⟨_, rfl, State.ltestEnd_due h hn rfl hdue⟩
  case notDue =>
    exact congrArg Host.Outcome.next ((State.ltestEnd_of h).trans ((if_pos hnow).trans (State.countBits_off fun hon => hstate hon.1)))

end Sys2Proof.Machine
end

section
/-! SUPPORT. The commands of a verb (R213): how a command begins, how it completes, and what its fault leaves (R187). -/

namespace Sys2Proof.Machine

/-! ### A command that acts -/

section
variable {s t : State} {n code : Nat} {c : ExtCmd} {ok : Bool} {result : Word}

/-- R213: a verb with its command in execution. -/
def Verb.acting (v : Verb) : Verb := { v with busy := true }

/-- R213: the command of the verb of a site begins to act. -/
def State.acting (s : State) (n : Nat) : State := s.setVerb n (s.seq n).verb.acting

theorem State.issued_running (h : s.issued n code = some c) : (s.seq n).verb.running = true := by
  unfold State.issued at h
  dsimp only at h
  split at h
  next hrun => exact hrun.1
  next => cases h

theorem State.command_runs (h : s.issued n code = some c) {bad : ExtCmd → State → Option (Nat × Nat)} {run : ExtCmd → State → State}
    (hbad : bad c s = none) : s.command n code bad run = run c (s.acting n) := by
  rw [State.command, h]
  dsimp only
  rw [hbad]
  rfl

theorem State.command_faults (h : s.issued n code = some c) {bad : ExtCmd → State → Option (Nat × Nat)} {run : ExtCmd → State → State} {r v : Nat}
    (hbad : bad c s = some (r, v)) : s.command n code bad run = s.fault n r v := by
  rw [State.command, h]
  dsimp only
  rw [hbad]

theorem State.setVerb_seq {v : Verb} : (s.setVerb n v).seq n = { s.seq n with verb := v } := State.seq_setSeq_same

theorem State.acting_seq : (s.acting n).seq n = { s.seq n with verb := (s.seq n).verb.acting } := State.setVerb_seq

theorem State.acting_frame : s.acting n = { s with seqs := (s.acting n).seqs } := rfl

theorem State.acting_get (f : Fld) : (s.acting n).get f = s.get f := rfl

/-! ### A command that completes -/

/-- R213: a verb whose command has completed. -/
def Verb.completed (v : Verb) (ok : Bool) (result : Word) : Verb :=
  { v with done := true, ok := ok, result := result, cmd := none, busy := false, retire := false }

/-- R213: the command of the verb of a site has completed. -/
def State.completed (s : State) (n : Nat) (ok : Bool) (result : Word) : State := s.setVerb n ((s.seq n).verb.completed ok result)

theorem State.completed_seq : (s.completed n ok result).seq n = { s.seq n with verb := (s.seq n).verb.completed ok result } := State.setVerb_seq

theorem State.completed_frame : s.completed n ok result = { s with seqs := (s.completed n ok result).seqs } := rfl

/-- R213: where END does not wait for it, a completion leaves the verb to go on. -/
theorem State.cmdDone_eq (h : (s.seq n).verb.retire = false) : s.cmdDone n ok result = s.completed n ok result := by
  unfold State.cmdDone
  exact if_neg (by rw [h]; decide)

/-- R213: from `s` to `t` the command of the verb of site `n` has begun to act, and its verb is as it began. -/
def State.Acts (s t : State) (n : Nat) : Prop := (t.seq n).verb = (s.seq n).verb.acting

theorem State.acts_acting : s.Acts (s.acting n) n := by rw [State.Acts, State.acting_seq]

theorem State.Acts.of_seq {u : State} (h : s.Acts t n) (hseq : (u.seq n).verb = (t.seq n).verb) : s.Acts u n := hseq.trans h

/-- R213: a command that acts completes. -/
theorem State.Acts.completes (h : s.Acts t n) (hret : (s.seq n).verb.retire = false) :
    t.cmdDone n ok result = t.completed n ok result ∧ s.Completes (t.completed n ok result) n ok result := by
  refine ⟨State.cmdDone_eq (by rw [h]; exact hret), ?_⟩
  have hverb : (t.seq n).verb.completed ok result = (s.seq n).verb.acting.completed ok result := congrArg (·.completed ok result) h
  rw [State.Completes, State.completed_seq, hverb]
  rfl

end

/-! ### A command that faults (R187) -/

section
variable {s : State} {n reason : Nat}

/-- R187: the verb of a site ends, with what it had in progress for itself. -/
def State.verbEnded (s : State) (n : Nat) : State := (s.dropUnits n).setSeq n { s.seq n with wait := .none, verb := Verb.init }

/-- R187: the fault of a statement that a verb executes, where the site has no clause open and no unit measuring. -/
theorem State.faultBy_verb {report : State → State} {u : State} (hu : u = report (s.faultTold n reason)) (hrun : (u.seq n).verb.running = true)
    (hclause : (u.seq n).clause = none) (hunits : u.NoUnits n) : s.faultBy n reason report = ((u.verbEnded n).hold n Cause.FAULT).follow := by
  rw [State.faultTold] at hu
  rw [State.faultBy]
  dsimp only
  rw [← hu, if_pos hrun, State.discardOpen_none hclause, ite_self, State.cancelUnits_noUnits hunits, State.verbEnded]

/-- The state of a site whose verb has faulted, before what follows in its beat. -/
def State.verbFaulted (s : State) (n reason : Nat) : State :=
  (((s.faultTold n reason).event n Ev.STMT_FAULT reason).verbEnded n).hold n Cause.FAULT

theorem State.event_frame {code v sub : Nat} : s.event n code v sub = { s with pendRecs := (s.event n code v sub).pendRecs } := rfl

theorem State.faultTold_seq {m : Nat} : (s.faultTold n reason).seq m = s.seq m := rfl

/-- R187: the fault of a verb whose site is RUNNING. -/
theorem State.fault_verb (hr : reason ≠ Reason.UNCORR) (hrun : (s.seq n).verb.running = true) (hclause : (s.seq n).clause = none) (hunits : s.NoUnits n) :
    s.fault n reason reason = (s.verbFaulted n reason).follow := by
  have hseq : ((s.faultTold n reason).event n Ev.STMT_FAULT reason).seq n = s.seq n := (State.event_seq n).trans State.faultTold_seq
  unfold State.fault
  refine State.faultBy_verb (if_neg hr).symm ?_ ?_ hunits
  · rw [hseq, hrun]
  · rw [hseq, hclause]

theorem State.verbEnded_seq : (s.verbEnded n).seq n = { s.seq n with wait := .none, verb := Verb.init } := State.seq_setSeq_same

theorem State.verbEnded_frame : s.verbEnded n = { s with
    pmuMeas := (s.verbEnded n).pmuMeas, dpsMeas := (s.verbEnded n).dpsMeas, tdcs := (s.verbEnded n).tdcs, ltests := (s.verbEnded n).ltests
    seqs := (s.verbEnded n).seqs } := rfl

/-- What tells the fault of a verb, before its hold. -/
def State.verbTold (s : State) (n reason : Nat) : State := ((s.faultTold n reason).event n Ev.STMT_FAULT reason).verbEnded n

/-- What the fault of a verb tells leaves the status of its site beside FAULT and FAULTED. -/
theorem State.verbTold_stat {hi lo : Nat} (hl : lo ≤ hi) (h : hi < 8 ∨ (8 < lo ∧ hi < 64) ∨ 71 < lo) :
    (s.verbTold n reason).get ⟨Reg.SQ_STAT.word n, hi, lo⟩ = s.get ⟨Reg.SQ_STAT.word n, hi, lo⟩ := by
  refine State.faultTold_sameFields.get ?_
  simp only [Fld.apart_cons, Fld.apart_nil, Reg.SQ_STAT.word, Reg.SQ_STAT.FAULT, Reg.SQ_STAT.FAULTED]
  omega

/-- R187: what the fault of a verb leaves. -/
theorem State.verbFaulted_faults (hr : reason < 2 ^ 8) (hrun : s.siteState n = Site.RUNNING) : s.VerbFaults (s.verbFaulted n reason) n reason := by
  have hrun' : (s.verbTold n reason).siteState n = Site.RUNNING := (State.verbTold_stat (by decide) (.inl (by decide))).trans hrun
  have hseq : (s.verbTold n reason).seq n = { s.seq n with wait := .none, verb := Verb.init } := State.verbEnded_seq
  have hwait : ((s.verbTold n reason).seq n).wait = .none := congrArg Seq.wait hseq
  have hu : s.verbFaulted n reason = (s.verbTold n reason).hold n Cause.FAULT := rfl
  have hframe := State.hold_idle_frame (cause := Cause.FAULT) hrun' hwait
  have hfields := State.hold_idle_sameFields (cause := Cause.FAULT) hrun' hwait
  have hstat {hi lo : Nat} (hl : lo ≤ hi) (h : 2 < lo ∧ hi < 32 ∨ 47 < lo) : ((s.verbTold n reason).hold n Cause.FAULT).get ⟨Reg.SQ_STAT.word n, hi, lo⟩ =
      (s.verbTold n reason).get ⟨Reg.SQ_STAT.word n, hi, lo⟩ := by
    refine hfields.get ?_
    simp only [moveFields, Fld.apart_cons, Fld.apart_nil, Reg.SQ_STAT.word, Reg.SQ_STAT.CAUSES, Reg.SQ_STAT.STATE, Reg.SQ_CNT.HOLDS, intrField]
    omega
  rw [hu]
  refine ⟨State.hold_idle_siteState hrun' hwait, ?fault, ?faulted, ?causes, ?pc, ?written, ?verb, ?wait, ?mem⟩
  case fault => exact (hstat (by decide) (.inr (by decide))).trans (State.faultTold_fault hr)
  case faulted =>
    have hget := hstat (hi := 8) (lo := 8) le_rfl (.inl (by decide))
    exact (congrArg (fun v : Nat => decide (v ≠ 0)) hget).trans State.faultTold_faulted
  case causes =>
    rw [State.hold_idle_causes hrun' hwait (by decide)]
    exact congrArg (· ||| 2 ^ Cause.FAULT) (State.verbTold_stat (by decide) (.inr (.inl (by decide))))
  case pc => exact (hstat (by decide) (.inr (by decide))).trans (State.verbTold_stat (by decide) (.inr (.inr (by decide))))
  case written =>
    have hwritten : s.Written ((s.faultTold n reason).event n Ev.STMT_FAULT reason) n Ev.STMT_FAULT reason :=
      State.event_written (State.verbTold_stat (by decide) (.inl (by decide))) (State.verbTold_stat (by decide) (.inr (.inr (by decide)))) rfl
    rw [State.Written, hframe, State.verbTold, State.verbEnded_frame]
    exact hwritten
  case verb =>
    rw [hframe]
    exact congrArg Seq.verb hseq
  case wait =>
    rw [hframe]
    exact hwait
  case mem =>
    rw [hframe, State.verbTold, State.verbEnded_frame, State.event_frame]
    rfl

/-- R187: what the fault of a verb tells of the state before it began its command. -/
theorem State.VerbFaults.of_acting {u : State} (h : (s.acting n).VerbFaults u n reason) : s.VerbFaults u n reason := h

end
end Sys2Proof.Machine
end

section
/-! The clause commands of a verb (O21). -/

namespace Sys2Proof.Machine

/-! ### The open clause of a site (R191, R235) -/

section
variable {s t : State} {n k : Nat} {span : Bool}

theorem State.setOpen_seq {k : Option Nat} : (s.setOpen n k span).seq n = { s.seq n with clause := k, span := span } := State.seq_setSeq_same

theorem State.setOpen_sameFields {k : Option Nat} : s.SameFields [Reg.SQ_STAT.CLAUSE n] (s.setOpen n k span) :=
  State.SameFields.snoc (State.SameFields.of_regs (State.setSeq_regs _ _ _))
    (State.SameFields.set _ _ (Nat.le_of_ble_eq_true rfl) (Nat.le_of_ble_eq_true rfl) (by simp))

theorem State.setOpen_slots {k : Option Nat} : s.SameSlots (s.setOpen n k span) := rfl

/-- The words of the clause slots lie apart from the status of a site. -/
theorem slot_apart_clause {f : Fld} (hl : f.lo ≤ f.hi) (ha : f.addr < 0x007000) : f.Apart [Reg.SQ_STAT.CLAUSE n] := by
  simp only [Fld.apart_cons, Fld.apart_nil, Reg.SQ_STAT.CLAUSE]
  omega

/-- R235: the state and the owner of a slot are two fields of its status. -/
theorem State.SameFields.slotState {fs : List Fld} (h : s.SameFields fs t) (hst : (Reg.CL_SLOT_STAT.STATE k).Apart fs) : t.slotState k = s.slotState k :=
  h.get hst

/-! ### CLOPEN -/

/-- R235: the status of a slot that the sequencer of site `n` has opened. -/
def ownedWord (n : Nat) : Word := BitVec.ofNat 128 (2 ^ 23 + n % 64 * 2 ^ 17 + Slot.OPEN)

theorem State.openSlot_some : s.openSlot k (some n) =
    ((s.setReg (Reg.CL_SLOT_STAT.word k) (ownedWord n)).setSlot k ClSlot.init).setReg (Reg.CL_SET.word k) 0 := rfl

/-- R235: a field of the status of a slot that a sequencer has opened. -/
theorem State.openSlot_get {hi lo : Nat} :
    (s.openSlot k (some n)).get ⟨Reg.CL_SLOT_STAT.word k, hi, lo⟩ = (2 ^ 23 + n % 64 * 2 ^ 17 + Slot.OPEN) / 2 ^ lo % 2 ^ (hi + 1 - lo) := by
  have hne : Reg.CL_SLOT_STAT.word k ≠ Reg.CL_SET.word k := by simp [Reg.CL_SLOT_STAT.word, Reg.CL_SET.word]
  have hlt : 2 ^ 23 + n % 64 * 2 ^ 17 + Slot.OPEN < 2 ^ 128 := by simp only [Slot.OPEN]; omega
  rw [State.openSlot_some, State.get_setReg_other _ _ _ hne, State.setSlot_get, State.get, State.reg_setReg_same, ownedWord, wget_ofNat _ _ _ hlt]

theorem State.openSlot_state : (s.openSlot k (some n)).slotState k = Slot.OPEN := by
  refine (State.openSlot_get (hi := 2) (lo := 0)).trans ?_
  simp only [Slot.OPEN]
  omega

theorem State.openSlot_owner (hn : n < 64) : (s.openSlot k (some n)).slotOwner k = some n := by
  have hseq : (s.openSlot k (some n)).get (Reg.CL_SLOT_STAT.SEQ k) = 1 := by
    refine (State.openSlot_get (hi := 23) (lo := 23)).trans ?_
    simp only [Slot.OPEN]
    omega
  have hsite : (s.openSlot k (some n)).get (Reg.CL_SLOT_STAT.SITE k) = n := by
    refine (State.openSlot_get (hi := 22) (lo := 17)).trans ?_
    simp only [Slot.OPEN]
    omega
  rw [State.slotOwner, hsite, State.flag, hseq]
  rfl

theorem State.openSlot_slot : (s.openSlot k (some n)).slot k = ClSlot.init := by
  have hslot : (s.openSlot k (some n)).slot k = ((s.setReg (Reg.CL_SLOT_STAT.word k) (ownedWord n)).setSlot k ClSlot.init).slot k := rfl
  rw [hslot, State.slot_setSlot_same]

theorem State.freeSlotIndex_lt (h : s.freeSlotIndex = some k) : k < 16 := List.mem_range.1 (List.mem_of_find?_eq_some h)

theorem State.openSlot_seq {m : Nat} : (s.openSlot k (some n)).seq m = s.seq m := rfl

/-- R191, R235: what the clause that a sequencer has opened leaves. -/
theorem State.openClause_reads (hn : n < 64) (hk : k < 16) : (s.openClause n k span).seq n = { s.seq n with clause := some k, span := span } ∧
    (s.openClause n k span).slotState k = Slot.OPEN ∧ (s.openClause n k span).slotOwner k = some n ∧ (s.openClause n k span).slot k = ClSlot.init := by
  have hfields : (s.openSlot k (some n)).SameFields [Reg.SQ_STAT.CLAUSE n] (s.openClause n k span) := State.setOpen_sameFields
  have hapart (hi lo : Nat) (hl : lo ≤ hi) : Fld.Apart ⟨Reg.CL_SLOT_STAT.word k, hi, lo⟩ [Reg.SQ_STAT.CLAUSE n] :=
    slot_apart_clause hl (by simp only [Reg.CL_SLOT_STAT.word]; omega)
  refine ⟨?_, ?_, ?_, ?_⟩
  · rw [State.openClause, State.setOpen_seq, State.openSlot_seq]
  · exact (hfields.get (hapart 2 0 (by decide))).trans State.openSlot_state
  · exact (hfields.slotOwner (hapart 23 23 (by decide)) (hapart 22 17 (by decide))).trans (State.openSlot_owner hn)
  · rw [State.openClause, State.setOpen_slots.slot, State.openSlot_slot]

/-! ### CLACT and CLTAB (R236) -/

theorem State.stageTense_seqs {x : Action} : (s.stageTense k x).seqs = s.seqs := by
  unfold State.stageTense
  split <;> rfl

theorem State.stage_seqs {x : Action} : (s.stage k x).1.seqs = s.seqs := by
  unfold State.stage
  dsimp only
  split
  · rfl
  · split
    · rfl
    · exact State.stageTense_seqs

theorem State.stageOne_seqs {x : Action} : (s.stageOne n x).seqs = s.seqs := by
  unfold State.stageOne
  split
  · exact State.stage_seqs
  · rfl

theorem State.stageTable_seqs {i c : Nat} : (s.stageTable n i c).seqs = s.seqs :=
  State.forN_keeps State.seqs _ _ fun _ _ _ => State.stageOne_seqs

theorem State.seq_of_seqs (h : t.seqs = s.seqs) : t.seq n = s.seq n := by rw [State.seq, State.seq, h]

/-- R236: an action that no check refuses is staged behind the others. -/
theorem State.stage_acts {x : Action} (href : (s.slot k).refused = none) (hlen : (s.slot k).acts.length < 4096) (hpool : s.poolUsed < 65536)
    (hcode : s.stageCode (s.slotOwner k) x = none) : ((s.stage k x).1.slot k).acts = (s.slot k).acts ++ [x] := by
  have hlimit : ¬(4096 ≤ (s.slot k).acts.length ∨ 65536 ≤ s.poolUsed) := by omega
  unfold State.stage
  simp only [href, Option.isSome_none, Bool.false_eq_true, if_false, if_neg hlimit, hcode]
  exact congrArg ClSlot.acts State.slot_setSlot_same

/-! ### CLCOMMIT (R192, R237) -/

/-- R192: the settings of a clause as it closes. -/
def State.closing (s : State) (k fs tag : Nat) (multi : Bool) : State :=
  ((s.set (Reg.CL_SET.FULL_STOP k) fs).set (Reg.CL_SET.TAG k) tag).set (Reg.CL_SET.MULTI k) (b2n multi)

/-- R235, R237: the clause of slot `k` goes to prepare, and its sequencer waits for the decision. -/
def State.submitted (s : State) (n k fs : Nat) : State := ((s.beginPrepare k).setOpen n none false).setWait n (.clc 0 k fs none)

theorem State.closeClause_ok {fs tag : Nat} {multi : Bool} (hclause : (s.seq n).clause = some k) (hok : (s.closing k fs tag multi).request k = .ok) :
    s.closeClause n 0 fs multi tag = (s.closing k fs tag multi).submitted n k fs := by
  rw [State.closing] at hok
  simp only [State.closeClause, hclause, hok]
  rfl

theorem State.closing_reads {fs tag : Nat} {multi : Bool} (hfs : fs < 2 ^ 64) (htag : tag < 2 ^ 16) : (s.closing k fs tag multi).slotFs k = fs ∧
    (s.closing k fs tag multi).slotTag k = tag ∧ (s.closing k fs tag multi).slotMulti k = multi := by
  refine ⟨?_, ?_, ?_⟩
  · rw [State.slotFs, State.closing, State.get_set_other _ _ _ (Nat.le_of_ble_eq_true rfl) (Nat.le_of_ble_eq_true rfl) (.inr (Nat.le_of_ble_eq_true rfl)),
      State.get_set_other _ _ _ (Nat.le_of_ble_eq_true rfl) (Nat.le_of_ble_eq_true rfl) (.inr (Nat.le_of_ble_eq_true rfl)),
      State.get_set_same _ _ (Nat.le_of_ble_eq_true rfl) (Nat.le_of_ble_eq_true rfl)]
    exact Nat.mod_eq_of_lt hfs
  · rw [State.slotTag, State.closing, State.get_set_other _ _ _ (Nat.le_of_ble_eq_true rfl) (Nat.le_of_ble_eq_true rfl) (.inr (Nat.le_of_ble_eq_true rfl)),
      State.get_set_same _ _ (Nat.le_of_ble_eq_true rfl) (Nat.le_of_ble_eq_true rfl)]
    exact Nat.mod_eq_of_lt htag
  · cases multi
    · exact State.flag_set_zero _ (Nat.le_of_ble_eq_true rfl) (Nat.le_of_ble_eq_true rfl)
    · exact State.flag_set_one _ (Nat.le_of_ble_eq_true rfl) (Nat.le_of_ble_eq_true rfl)

theorem State.submitted_sameFields {fs : Nat} : s.SameFields [Reg.CL_SLOT_STAT.STATE k, Reg.SQ_STAT.CLAUSE n] (s.submitted n k fs) := by
  have hbegin : s.SameFields [Reg.CL_SLOT_STAT.STATE k, Reg.SQ_STAT.CLAUSE n] (s.beginPrepare k) :=
    State.SameFields.set _ _ (Nat.le_of_ble_eq_true rfl) (Nat.le_of_ble_eq_true rfl) (by simp)
  exact (hbegin.snoc (State.setOpen_sameFields.mono (by simp))).snoc (State.SameFields.of_regs (State.setSeq_regs _ _ _))

theorem State.submitted_state {fs : Nat} (hk : k < 16) : (s.submitted n k fs).slotState k = Slot.PREPARING := by
  have hopen : (s.beginPrepare k).SameFields [Reg.SQ_STAT.CLAUSE n] (s.submitted n k fs) :=
    State.setOpen_sameFields.snoc (State.SameFields.of_regs (State.setSeq_regs _ _ _))
  rw [hopen.slotState (slot_apart_clause (Nat.le_of_ble_eq_true rfl) (by simp only [Reg.CL_SLOT_STAT.STATE]; omega))]
  exact State.get_set_same _ _ (Nat.le_of_ble_eq_true rfl) (Nat.le_of_ble_eq_true rfl)

theorem State.submitted_seq {fs : Nat} :
    (s.submitted n k fs).seq n = { s.seq n with clause := none, span := false, wait := .clc 0 k fs none } := by
  rw [State.submitted, State.seq_setWait, State.setOpen_seq]
  rfl

/-- The settings of a slot read on as its clause is submitted. -/
theorem State.submitted_set {fs hi lo : Nat} (hk : k < 16) (hl : lo ≤ hi) :
    (s.submitted n k fs).get ⟨Reg.CL_SET.word k, hi, lo⟩ = s.get ⟨Reg.CL_SET.word k, hi, lo⟩ := by
  refine State.submitted_sameFields.get (Fld.apart_cons.2 ⟨.inl ?_, slot_apart_clause hl ?_⟩)
  · simp [Reg.CL_SET.word, Reg.CL_SLOT_STAT.STATE]
  · simp only [Reg.CL_SET.word]
    omega

/-! ### CLDISCARD (R191, R235) -/

/-- R235, R242: what the end of a clause of a sequencer without effect comes to: its reports, then its free slot. -/
theorem State.endClause_discarded (h : s.slotOwner k = some n) (hwait : (s.seq n).wait = .none) :
    ∃ u : State, u.seqs = s.seqs ∧ s.endClause k Cl.DISCARDED = u.freeSlot k := by
  have hbeat : s.SameFields (endFields k) (if (s.slot k).dec.isNone then (s.restoreTenses k).set (Reg.CL_SLOT_STAT.DEC_BEAT k) (s.now % 2 ^ 32)
      else s.restoreTenses k) ∧ (if (s.slot k).dec.isNone then (s.restoreTenses k).set (Reg.CL_SLOT_STAT.DEC_BEAT k) (s.now % 2 ^ 32)
      else s.restoreTenses k).seqs = s.seqs :=
    ite_kept (P := fun u => s.SameFields (endFields k) u ∧ u.seqs = s.seqs)
      (fun _ => ⟨State.SameFields.snoc (State.SameFields.of_regs rfl) (State.SameFields.set (Reg.CL_SLOT_STAT.DEC_BEAT k) _ (Nat.le_of_ble_eq_true rfl)
        (Nat.le_of_ble_eq_true rfl) (by simp [endFields])), rfl⟩) fun _ => ⟨State.SameFields.of_regs rfl, rfl⟩
  obtain ⟨u, hu⟩ : ∃ u, u = (if (s.slot k).dec.isNone then (s.restoreTenses k).set (Reg.CL_SLOT_STAT.DEC_BEAT k) (s.now % 2 ^ 32)
      else s.restoreTenses k) := ⟨_, rfl⟩
  rw [← hu] at hbeat
  obtain ⟨hfields, hseqs⟩ := hbeat
  have hend : s.endClause k Cl.DISCARDED = (((u.countResult Cl.DISCARDED).log Src.CL (Lc.clause Cl.DISCARDED)
      (clauseDetail k (s.slotTag k) (s.get (Reg.CL_SLOT_STAT.FIRST_BAD k))) 5).tellOwner k Cl.DISCARDED).freeSlot k := by
    rw [State.endClause, h, hu]
    rfl
  generalize hv : (u.countResult Cl.DISCARDED).log Src.CL (Lc.clause Cl.DISCARDED)
    (clauseDetail k (s.slotTag k) (s.get (Reg.CL_SLOT_STAT.FIRST_BAD k))) 5 = v at hend
  have hvseqs : v.seqs = s.seqs := by
    rw [← hv, State.log_frame]
    exact hseqs
  have hvfields : s.SameFields (endFields k) v := by
    rw [← hv]
    exact (hfields.snoc State.countResult_sameFields).snoc (State.log_sameFields.mono (by simp [endFields]))
  have hseq : (Reg.CL_SLOT_STAT.SEQ k).Apart (endFields k) := by
    simp only [endFields, Fld.apart_cons, Fld.apart_nil, Reg.CL_SLOT_STAT.SEQ, Reg.CL_SLOT_STAT.DEC_BEAT, Reg.CL_CNT.COMMITTED, Reg.CL_CNT.ABORTED,
      Reg.CL_CNT.REFUSED, Reg.LOG_STAT.DROPPED]
    omega
  have hsite : (Reg.CL_SLOT_STAT.SITE k).Apart (endFields k) := by
    simp only [endFields, Fld.apart_cons, Fld.apart_nil, Reg.CL_SLOT_STAT.SITE, Reg.CL_SLOT_STAT.DEC_BEAT, Reg.CL_CNT.COMMITTED, Reg.CL_CNT.ABORTED,
      Reg.CL_CNT.REFUSED, Reg.LOG_STAT.DROPPED]
    omega
  have htell : v.tellOwner k Cl.DISCARDED = v := by
    simp only [State.tellOwner, hvfields.slotOwner hseq hsite, h, State.seq_of_seqs hvseqs, hwait]
  rw [htell] at hend
  exact ⟨v, hvseqs, hend⟩

theorem State.freeSlot_state : (s.freeSlot k).slotState k = Slot.FREE := by
  rw [State.slotState, State.freeSlot, State.setSlot_get, State.get, show (Reg.CL_SLOT_STAT.STATE k).addr = Reg.CL_SLOT_STAT.word k from rfl,
    State.reg_setReg_same]
  rfl

/-- R191: the clause that a sequencer discards, with its slot free. -/
theorem State.discardOpen_frees (hk : k < 16) (hclause : (s.seq n).clause = some k) (howner : s.slotOwner k = some n) (hwait : (s.seq n).wait = .none) :
    (s.discardOpen n).seq n = { s.seq n with clause := none, span := false } ∧ (s.discardOpen n).slotState k = Slot.FREE ∧
      ((s.discardOpen n).slot k).acts = [] := by
  obtain ⟨u, hseqs, hend⟩ := State.endClause_discarded howner hwait
  have hdiscard : s.discardOpen n = (u.freeSlot k).setOpen n none false := by
    simp only [State.discardOpen, hclause, hend]
  have huseq : (u.freeSlot k).seq n = s.seq n := State.seq_of_seqs hseqs
  rw [hdiscard]
  refine ⟨by rw [State.setOpen_seq, huseq], ?_, ?_⟩
  · rw [State.setOpen_sameFields.slotState (slot_apart_clause (Nat.le_of_ble_eq_true rfl) (by simp only [Reg.CL_SLOT_STAT.STATE]; omega)), State.freeSlot_state]
  · rw [State.setOpen_slots.slot, State.freeSlot, State.slot_setSlot_same]
    rfl

end
end Sys2Proof.Machine
end

section
/-! The clause commands of a verb (O21). -/

namespace Sys2Proof.Machine

/-! ### Operands of a command (R213) -/

theorem wget_div (w : Word) (hi lo : Nat) : wget w hi lo = w.toNat / 2 ^ lo % 2 ^ (hi + 1 - lo) := bitsOf_eq _ _ _

theorem wget_mod (w : Word) (hi : Nat) : wget w hi 0 = w.toNat % 2 ^ (hi + 1) := by rw [wget_div, pow_zero, Nat.div_one, Nat.sub_zero]

section
variable {s t u : State} {n k code : Nat} {c : ExtCmd}

/-! ### A clause command that runs -/

theorem State.acting_clause : ((s.acting n).seq n).clause = (s.seq n).clause := by rw [State.acting_seq]

theorem State.extClauseBad_some (hclause : (s.seq n).clause = some k) : s.extClauseBad n = none := by
  rw [State.extClauseBad, hclause]
  rfl

theorem State.onClause_some {f : State → State} (hclause : (s.seq n).clause = some k) : s.onClause n f = f s := by
  rw [State.onClause, hclause]
  rfl

theorem State.onClause_none {f : State → State} (hclause : (s.seq n).clause = none) : s.onClause n f = s.cmdDone n false 0 := by
  rw [State.onClause, hclause]
  rfl

/-- R191, R213: a clause command of a site with a clause open acts on that clause. -/
theorem State.command_onClause {f : ExtCmd → State → State} (h : s.issued n code = some c) {bad : ExtCmd → State → Option (Nat × Nat)}
    (hbad : bad c s = none) (hclause : (s.seq n).clause = some k) :
    s.command n code bad (fun c t => t.onClause n (f c)) = f c (s.acting n) := by
  rw [State.command_runs h hbad, State.onClause_some (State.acting_clause.trans hclause)]

/-! ### A clause command without a clause (R220) -/

theorem State.extClauseBad_tripped (htrip : s.siteState n = Site.TRIPPED) : s.extClauseBad n = none := by
  rw [State.extClauseBad, htrip, bne_self_eq_false, Bool.and_false]
  rfl

theorem State.extClauseBad_running (hclause : (s.seq n).clause = none) (hrun : s.siteState n = Site.RUNNING) :
    s.extClauseBad n = some (Reason.OPERAND, Reason.OPERAND) := by
  rw [State.extClauseBad, hclause, hrun]
  rfl

theorem State.cltabBad_none (hclause : (s.seq n).clause = none) : s.cltabBad n c = s.extClauseBad n := by
  rw [State.cltabBad, hclause]
  rfl

/-- R220: after a trip a clause command completes with OK = 0 and no effect. -/
theorem State.command_noClause {f : ExtCmd → State → State} (h : s.issued n code = some c) {bad : ExtCmd → State → Option (Nat × Nat)}
    (hbad : bad c s = none) (hclause : (s.seq n).clause = none) (hret : (s.seq n).verb.retire = false) :
    s.command n code bad (fun c t => t.onClause n (f c)) = (s.acting n).completed n false 0 := by
  rw [State.command_runs h hbad, State.onClause_none (State.acting_clause.trans hclause), (State.acts_acting.completes hret).1]

/-- R187, R191: without a clause a clause command faults with OPERAND. -/
theorem State.command_clauseFaults {run : ExtCmd → State → State} (h : s.issued n code = some c) {bad : ExtCmd → State → Option (Nat × Nat)}
    (hbad : bad c s = s.extClauseBad n) (hclause : (s.seq n).clause = none) (hrun : s.siteState n = Site.RUNNING) (hunits : s.NoUnits n) :
    s.command n code bad run = (s.verbFaulted n Reason.OPERAND).follow := by
  rw [State.command_faults h (hbad.trans (State.extClauseBad_running hclause hrun)),
    State.fault_verb (by decide) (State.issued_running h) hclause hunits]

/-! ### CLACT and CLTAB -/

/-- R191: what a command that stages actions leaves of its site. -/
theorem State.staged_completes (hseqs : u.seqs = (s.acting n).seqs) (hret : (s.seq n).verb.retire = false) (hclause : (s.seq n).clause = some k) :
    u.cmdDone n true 0 = u.completed n true 0 ∧ s.Completes (u.completed n true 0) n true 0 ∧ ((u.completed n true 0).seq n).clause = some k := by
  have hseq : u.seq n = (s.acting n).seq n := State.seq_of_seqs hseqs
  have hacts : s.Acts u n := State.acts_acting.of_seq (congrArg Seq.verb hseq)
  obtain ⟨hdone, hcompletes⟩ := hacts.completes (ok := true) (result := 0) hret
  exact ⟨hdone, hcompletes, by rw [State.completed_seq, hseq, State.acting_clause, hclause]⟩

theorem State.stageOne_some {x : Action} (hclause : (s.seq n).clause = some k) : (s.acting n).stageOne n x = ((s.acting n).stage k x).1 := by
  rw [State.stageOne, State.acting_clause, hclause]

/-- R191, R213: without an open clause the four commands on a clause have one fault and one completion. -/
theorem clauseCommand_exec {n : Fin 64} {p : Nat × Instr} (hp : p ∈ [(0x02, Instr.extClact n), (0x03, .extCltab n), (0x04, .extClcommit n), (0x05, .extCldiscard n)])
    (hclause : (s.seq n).clause = none) : ∃ (bad : ExtCmd → State → Option (Nat × Nat)) (f : ExtCmd → State → State),
    exec p.2 s = .next (s.command n p.1 bad fun c t => t.onClause n (f c)) ∧ ∀ c, bad c s = s.extClauseBad n := by
  simp only [List.mem_cons, List.not_mem_nil, or_false] at hp
  rcases hp with rfl | rfl | rfl | rfl
  · exact ⟨_, _, rfl, fun _ => rfl⟩
  · exact ⟨_, _, rfl, fun _ => State.cltabBad_none hclause⟩
  · exact ⟨_, _, rfl, fun _ => rfl⟩
  · exact ⟨_, fun _ t => (t.discardOpen n).cmdDone n true 0, rfl, fun _ => rfl⟩

end

/-- Settles O21: a clause command that runs acts on the open clause and completes; without one it faults, or completes with OK = 0 after a trip. -/
theorem verbClauseCommands : Obligations.VerbClauseCommands := by
  unfold Obligations.VerbClauseCommands
  refine ⟨fun s n c h hret hclause k hfree => ?clopen, fun s n c h hclause hfree => ?waiting, fun s n c k h hret hclause => ?clact,
    fun s n c k h hret hclause hbad => ?cltab, fun s s1 n c k fs h hclause hfs hs1 hok => ?clcommit,
    fun s n c h hret k hclause howner hwait => ?cldiscard, fun s n p c hp h hret hclause htrip => ?tripped, fun s n p c hp h hclause hrun hunits => ?faults⟩
  case clopen =>
    have hfree' : (s.acting n).freeSlotIndex = some k := hfree
    have hexec : exec (.extClopen n) s = .next (s.command n 0x01 (fun _ t => t.clauseBad n false) fun c t => t.cmdClopen n c) := rfl
    rw [State.command_runs h (by rw [State.clauseBad, hclause]; rfl), State.cmdClopen, hfree'] at hexec
    obtain ⟨hseq, hstate, howner, hslot⟩ := State.openClause_reads (s := s.acting n) (span := c.bit 0) n.isLt (State.freeSlotIndex_lt hfree)
    have hacts : s.Acts ((s.acting n).openClause n k (c.bit 0)) n := State.acts_acting.of_seq ((congrArg Seq.verb hseq).trans rfl)
    obtain ⟨hdone, hcompletes⟩ := hacts.completes (ok := true) (result := 0) hret
    dsimp only at hexec
    rw [hdone] at hexec
    refine ⟨_, hexec, hcompletes, ?_, ?_, hstate, howner, congrArg ClSlot.acts hslot⟩
    · rw [State.completed_seq, hseq]
    · rw [State.completed_seq, hseq]
      rfl
  case waiting =>
    have hfree' : (s.acting n).freeSlotIndex = none := hfree
    have hexec : exec (.extClopen n) s = .next (s.command n 0x01 (fun _ t => t.clauseBad n false) fun c t => t.cmdClopen n c) := rfl
    rw [State.command_runs h (by rw [State.clauseBad, hclause]; rfl), State.cmdClopen, hfree'] at hexec
    refine ⟨_, hexec, ?_, ?_, rfl⟩
    · rw [State.seq_setWait]
    · rw [State.seq_setWait, State.acting_seq]
      rfl
  case clact =>
    have hexec : exec (.extClact n) s = .next (s.command n 0x02 (fun _ t => t.extClauseBad n) fun c t => t.onClause n fun t =>
        (t.stageOne n ⟨wget c.c 23 0, c.a, c.b⟩).cmdDone n true 0) := rfl
    rw [State.command_onClause h (State.extClauseBad_some hclause) hclause] at hexec
    obtain ⟨hdone, hcompletes, hopen⟩ := State.staged_completes (State.stageOne_seqs (s := s.acting n) (x := ⟨wget c.c 23 0, c.a, c.b⟩)) hret hclause
    rw [hdone] at hexec
    refine ⟨_, hexec, hcompletes, hopen, fun x hx href hlen hpool hcode => ?_⟩
    rw [wget_mod, ← hx, State.stageOne_some hclause]
    exact State.stage_acts (s := s.acting n) href hlen hpool hcode
  case cltab =>
    have hexec : exec (.extCltab n) s = .next (s.command n 0x03 (fun c t => t.cltabBad n c) fun c t => t.onClause n fun t =>
        (t.stageTable n (wget c.b 19 0) (wget c.a 12 0)).cmdDone n true 0) := rfl
    have hgood : s.cltabBad n c = none := by
      rw [State.cltabBad, hclause, wget_mod, wget_mod]
      exact hbad
    rw [State.command_onClause h hgood hclause, wget_mod, wget_mod] at hexec
    obtain ⟨hdone, hcompletes, hopen⟩ := State.staged_completes (State.stageTable_seqs (s := s.acting n)) hret hclause
    rw [hdone] at hexec
    exact ⟨_, hexec, hcompletes, hopen, rfl⟩
  case clcommit =>
    have hexec : exec (.extClcommit n) s = .next (s.command n 0x04 (fun _ t => t.extClauseBad n) fun c t => t.onClause n fun t =>
        t.closeClause n 0 (wget c.a 79 16) (c.bit 0) (wget c.b 15 0)) := rfl
    have hs1' : (s.acting n).closing k fs (c.b.toNat % 2 ^ 16) (c.bit 0) = s1 := hs1.symm
    rw [State.command_onClause h (State.extClauseBad_some hclause) hclause, wget_mod, wget_div, ← hfs,
      State.closeClause_ok (State.acting_clause.trans hclause) (by rw [hs1']; exact hok)] at hexec
    obtain ⟨hslotFs, hslotTag, hslotMulti⟩ := State.closing_reads (s := s.acting n) (k := k) (multi := c.bit 0)
      (show fs < 2 ^ 64 from hfs ▸ Nat.mod_lt _ (Nat.two_pow_pos _)) (show c.b.toNat % 2 ^ 16 < 2 ^ 16 from Nat.mod_lt _ (Nat.two_pow_pos _))
    have hverb : (((s.acting n).closing k fs (c.b.toNat % 2 ^ 16) (c.bit 0)).seq n).verb = (s.seq n).verb.acting := congrArg Seq.verb State.acting_seq
    refine ⟨_, hexec, State.submitted_state k.isLt, ?_, ?_, ?_, ?_, ?_, ?_⟩
    · exact (State.submitted_set k.isLt (by decide)).trans hslotFs
    · exact (State.submitted_set k.isLt (by decide)).trans hslotTag
    · exact (congrArg (fun v : Nat => decide (v ≠ 0)) (State.submitted_set k.isLt (by decide))).trans hslotMulti
    · rw [State.submitted_seq]
    · rw [State.submitted_seq]
    · rw [State.submitted_seq]
      exact congrArg Verb.busy hverb
  case cldiscard =>
    have hexec : exec (.extCldiscard n) s = .next (s.command n 0x05 (fun _ t => t.extClauseBad n) fun _ t => t.onClause n fun t =>
        (t.discardOpen n).cmdDone n true 0) := rfl
    rw [State.command_onClause h (State.extClauseBad_some hclause) hclause] at hexec
    have hwait' : ((s.acting n).seq n).wait = .none := (congrArg Seq.wait State.acting_seq).trans hwait
    obtain ⟨hseq, hstate, hslot⟩ := State.discardOpen_frees (s := s.acting n) k.isLt (State.acting_clause.trans hclause) howner hwait'
    have hacts : s.Acts ((s.acting n).discardOpen n) n := State.acts_acting.of_seq ((congrArg Seq.verb hseq).trans rfl)
    obtain ⟨hdone, hcompletes⟩ := hacts.completes (ok := true) (result := 0) hret
    rw [hdone] at hexec
    refine ⟨_, hexec, hcompletes, ?_, hstate, hslot⟩
    rw [State.completed_seq, hseq]
  case tripped =>
    obtain ⟨bad, f, hexec, hbad⟩ := clauseCommand_exec hp hclause
    rw [State.command_noClause h ((hbad c).trans (State.extClauseBad_tripped htrip)) hclause hret] at hexec
    exact ⟨_, hexec, (State.acts_acting.completes hret).2, rfl⟩
  case faults =>
    obtain ⟨bad, f, hexec, hbad⟩ := clauseCommand_exec hp hclause
    rw [State.command_clauseFaults h (hbad c) hclause hrun hunits] at hexec
    exact ⟨_, hexec, State.verbFaulted_faults (by decide) hrun⟩

end Sys2Proof.Machine
end

section
/-! The other commands of a verb (O22). -/

namespace Sys2Proof.Machine

section
variable {s t u : State} {n code : Nat} {c : ExtCmd}

theorem State.command_runs_always (h : s.issued n code = some c) {run : ExtCmd → State → State} :
    s.command n code (fun _ _ => none) run = run c (s.acting n) := State.command_runs h rfl

/-- R213: what changes no verb leaves the command to complete. -/
theorem State.completes_of_seq {ok : Bool} {result : Word} (hseq : t.seq n = (s.acting n).seq n) (hret : (s.seq n).verb.retire = false) :
    t.cmdDone n ok result = t.completed n ok result ∧ s.Completes (t.completed n ok result) n ok result :=
  (State.acts_acting.of_seq (congrArg Seq.verb hseq)).completes hret

/-! ### REC -/

/-- R382, R387: the record of a site that has not tripped carries no flag of the device. -/
theorem State.ownRecord_written {kind sub value : Nat} {fail : Bool} (hst : s.siteState n ≠ Site.TRIPPED) :
    s.Records (s.ownRecord n kind sub fail value) n kind (if fail = true then Flag.FAIL else 0) sub value := by
  refine State.Records.pendRecs (t := s.recordRaw n kind (if fail then Flag.FAIL else 0) sub value) ?_ (State.set_pendRecs _ _ _)
  rw [State.recordRaw_eq, State.siteFlags, if_neg hst, Nat.or_zero]
  exact mem_insertRec _ _

theorem State.ownRecord_frame {kind sub value : Nat} {fail : Bool} : s.ownRecord n kind sub fail value =
    { s with regs := (s.ownRecord n kind sub fail value).regs, pendRecs := (s.ownRecord n kind sub fail value).pendRecs } := rfl

/-! ### PLAY (R162, R193) -/

theorem State.streamSites_alone (hn : n < 64) (hgroup : s.groupOf n = none) : s.streamSites n = [n] := by
  rw [State.streamSites, if_pos hn, hgroup]
  rfl

theorem State.streamOf_alone (hgroup : s.groupOf n = none) : s.streamOf n = n := by rw [State.streamOf, hgroup]

/-- R162: the statement that starts the list `list` on the stream of one site. -/
def gatherOf (n list : Nat) (start : Option Nat) : Gather := ⟨n, false, list, start⟩

/-- R162: the stream of one site that has its start. -/
def Stream.started (n list : Nat) (start : Option Nat) : Stream :=
  { Stream.init with gather := [gatherOf n list start], rpos := list, list := list, start := start }

/-- R162: the barrier of a stream of one RUNNING site is complete with its start. -/
theorem State.barrier_alone {list : Nat} {start : Option Nat} (hsites : s.streamSites n = [n]) (hidle : s.streamState n = Str.IDLE)
    (hrun : s.siteState n = Site.RUNNING) (hgather : (s.stream n).gather = [gatherOf n list start]) :
    s.barrier n = (s.setStream n (Stream.started n list start)).setStreamState n Str.PRIMING := by
  have hdone : s.barrierDone n = true := by
    simp [State.barrierDone, hgather, hsites, gatherOf]
  have hpart : ([gatherOf n list start].filter fun g => !g.declined && s.siteState g.site == Site.RUNNING).mergeSort (fun a b => a.site ≤ b.site) =
      [gatherOf n list start] := by
    simp [gatherOf, hrun]
  unfold State.barrier
  simp only [hidle, hdone, and_self, if_true, hgather, hpart]
  simp [gatherOf, Stream.started]

theorem State.setStreamState_priming (hidle : s.streamState n = Str.IDLE) : s.setStreamState n Str.PRIMING =
    (s.set (Reg.SO_STR_STAT.STATE n) Str.PRIMING).forL ((s.set (Reg.SO_STR_STAT.STATE n) Str.PRIMING).streamEngines n)
      fun e t => t.set (Reg.EE_STAT.RUNNING e) 0 := by
  unfold State.setStreamState
  rw [hidle]
  rfl

/-- What the engines of a stream that primes leave beside their words. -/
theorem State.enginesStopped_frame {l : List Nat} : s.forL l (fun e t => t.set (Reg.EE_STAT.RUNNING e) 0) =
    { s with regs := (s.forL l fun e t => t.set (Reg.EE_STAT.RUNNING e) 0).regs } :=
  State.forL_kept_mem (P := fun t => t = { s with regs := t.regs }) (fun _ _ t ht => by rw [State.set, State.setReg, ht]) rfl

theorem State.streamPrimed_frame (hidle : s.streamState n = Str.IDLE) :
    s.setStreamState n Str.PRIMING = { s with regs := (s.setStreamState n Str.PRIMING).regs } := by
  rw [State.setStreamState_priming hidle, State.enginesStopped_frame]
  rfl

theorem State.streamPrimed_state (hidle : s.streamState n = Str.IDLE) : (s.setStreamState n Str.PRIMING).streamState n = Str.PRIMING := by
  rw [State.setStreamState_priming hidle]
  refine (State.forL_keeps (fun t => t.streamState n) _ _ fun e _ t => ?_).trans
    (State.get_set_same (Reg.SO_STR_STAT.STATE n) _ (Nat.le_of_ble_eq_true rfl) (Nat.le_of_ble_eq_true rfl))
  refine State.get_set_addr _ _ _ ?_
  simp only [Reg.SO_STR_STAT.STATE, Reg.EE_STAT.RUNNING]
  omega

/-- R193: the start of a list on the stream of one RUNNING site. -/
theorem State.play_alone {list start : Nat} {timed : Bool} (hn : n < 64) (hgroup : s.groupOf n = none) (hidle : s.streamState n = Str.IDLE)
    (hrun : s.siteState n = Site.RUNNING) (hgather : (s.stream n).gather = []) (hu : u = s.play n list timed false start) :
    u.streamState n = Str.PRIMING ∧ u.stream n = Stream.started n list (if timed = true then some start else none) ∧
      (u.seq n).verb = (s.seq n).verb ∧ u.mem = s.mem := by
  obtain ⟨x, hx⟩ : ∃ x : Option Nat, x = if timed = true then some start else none := ⟨_, rfl⟩
  obtain ⟨v, hv⟩ : ∃ v : State, v = (s.setStream n { s.stream n with gather := [gatherOf n list x] }).setSeq n { s.seq n with failBase := 0, cmpStale := false } :=
    ⟨_, rfl⟩
  have hplay : u = v.barrier n := by
    rw [hu, State.play, State.streamOf_alone hgroup, hgather, hv, hx]
    rfl
  have hvidle : v.streamState n = Str.IDLE := by rw [hv]; exact hidle
  have hvgather : (v.stream n).gather = [gatherOf n list x] := by
    rw [hv]
    exact congrArg Stream.gather (sget_sset_same _ _ _ _)
  rw [State.barrier_alone (by rw [hv]; exact State.streamSites_alone hn hgroup) hvidle (by rw [hv]; exact hrun) hvgather] at hplay
  have hstarted : (v.setStream n (Stream.started n list x)).streamState n = Str.IDLE := hvidle
  have hframe := State.streamPrimed_frame hstarted
  rw [← hplay] at hframe
  refine ⟨?_, ?_, ?_, ?_⟩
  · rw [hplay]
    exact State.streamPrimed_state hstarted
  · rw [hframe, ← hx]
    exact sget_sset_same _ _ _ _
  · rw [hframe]
    have hseq : v.seq n = { s.seq n with failBase := 0, cmpStale := false } := by rw [hv, State.seq_setSeq_same]
    exact (congrArg Seq.verb hseq).trans rfl
  · rw [hframe, hv]
    rfl

theorem State.playBad_idle {list start : Nat} {timed decline : Bool} (h : s.playBad n list timed decline start = false) (hgroup : s.groupOf n = none) :
    s.streamState n = Str.IDLE := by
  simp only [State.playBad, State.streamOf_alone hgroup, Bool.or_eq_false_iff, bne_eq_false_iff_eq] at h
  obtain ⟨⟨⟨⟨hidle, -⟩, -⟩, -⟩, -⟩ := h
  exact hidle

end
end Sys2Proof.Machine
end

section
/-! The other commands of a verb, settled (O22). -/

namespace Sys2Proof.Machine

section
variable {s t u : State} {n code : Nat} {c : ExtCmd} {value target : Nat}

theorem State.acting_sameFields {fs : List Fld} : s.SameFields fs (s.acting n) := State.SameFields.of_regs (State.setSeq_regs _ _ _)

theorem State.completed_sameFields {fs : List Fld} {ok : Bool} {result : Word} : s.SameFields fs (s.completed n ok result) :=
  State.SameFields.of_regs (State.setSeq_regs _ _ _)

theorem State.acting_bytes {a k : Nat} : (s.acting n).bytes ((s.acting n).stmtAddr n a) k = s.bytes (s.stmtAddr n a) k := by
  rw [State.bytes, State.bytes, State.stmtAddr, State.stmtAddr, State.acting_seq]
  rfl

/-- R213: the beat that an operand gives, above its 16 sub-beat bits. -/
theorem wget_beat (w : Word) : wget w 79 16 = w.toNat / 2 ^ 16 % 2 ^ 64 := wget_div _ _ _

/-! ### HOLD -/

/-- R200, R213: HOLD of a verb completes, writes its record and holds its site with cause USER. -/
theorem State.verbHolds (hret : (s.seq n).verb.retire = false) (hrun : s.siteState n = Site.RUNNING) (hwait : (s.seq n).wait = .none)
    (hu : u = (((s.acting n).userHold n value).cmdDone n true 0).hold n Cause.USER) :
    s.Completes u n true 0 ∧ u.siteState n = Site.HELD ∧ u.get (Reg.SQ_STAT.CAUSES n) = s.get (Reg.SQ_STAT.CAUSES n) ||| 2 ^ Cause.USER ∧
      s.Records u n Kind.EVENT 0 0 (Ev.USER_HOLD * 2 ^ 40 + value % 2 ^ 40) ∧ u.pc n = s.pc n ∧ u.mem = s.mem := by
  obtain ⟨hdone, hcompletes⟩ := State.completes_of_seq (t := (s.acting n).userHold n value) (ok := true) (result := 0) State.userHold_seq hret
  rw [hdone] at hu
  have hfields : (s.acting n).SameFields [Reg.SQ_CNT.RECORDS n] (((s.acting n).userHold n value).completed n true 0) :=
    State.userHold_sameFields.snoc State.completed_sameFields
  have hget {hi lo : Nat} (hl : lo ≤ hi) : (((s.acting n).userHold n value).completed n true 0).get ⟨Reg.SQ_STAT.word n, hi, lo⟩ =
      s.get ⟨Reg.SQ_STAT.word n, hi, lo⟩ := by
    refine hfields.get ?_
    simp only [Fld.apart_cons, Fld.apart_nil, Reg.SQ_STAT.word, Reg.SQ_CNT.RECORDS]
    omega
  have hrun' : (((s.acting n).userHold n value).completed n true 0).siteState n = Site.RUNNING := (hget (by decide)).trans hrun
  have hwait' : ((((s.acting n).userHold n value).completed n true 0).seq n).wait = .none := by
    rw [State.completed_seq, State.userHold_seq, State.acting_seq]
    exact hwait
  have hframe := State.hold_idle_frame (cause := Cause.USER) hrun' hwait'
  have hheld := State.hold_idle_sameFields (cause := Cause.USER) hrun' hwait'
  rw [← hu] at hframe hheld
  refine ⟨?completes, ?state, ?causes, ?records, ?pc, ?mem⟩
  case completes =>
    rw [hframe]
    exact hcompletes
  case state =>
    rw [hu]
    exact State.hold_idle_siteState hrun' hwait'
  case causes =>
    rw [hu, State.hold_idle_causes hrun' hwait' (by decide)]
    exact congrArg (· ||| 2 ^ Cause.USER) (hget (by decide))
  case records =>
    refine State.Records.pendRecs (State.userHold_records (s := s.acting n) hrun) ?_
    rw [hframe, State.completed_frame]
  case pc =>
    refine (hheld.get ?_).trans (hget (by decide))
    simp only [moveFields, Fld.apart_cons, Fld.apart_nil, Reg.SQ_STAT.PC, Reg.SQ_STAT.CAUSES, Reg.SQ_STAT.STATE, Reg.SQ_CNT.HOLDS, intrField]
    omega
  case mem =>
    rw [hframe, State.completed_frame, State.userHold_eq]
    rfl

/-! ### ARMB -/

theorem State.waitBeat_verb (hrun : (s.seq n).verb.running = true) (hnow : target ≤ s.now) :
    s.waitBeat n target = ((s.setWait n (.beat target)).setWait n .none).cmdDone n true 0 := by
  rw [State.waitBeat, if_pos hnow, State.finishBeat]
  refine if_pos ?_
  rw [State.seq_setWait, hrun]

theorem State.setSeq_seqs_frame {q : Seq} (h : t = { s with seqs := t.seqs }) : t.setSeq n q = { s with seqs := (t.setSeq n q).seqs } := by
  rw [h]
  rfl

theorem State.setWait_wait {w : Wait} : ((s.setWait n w).seq n).wait = w := by rw [State.seq_setWait]

theorem State.acting_running (h : s.issued n code = some c) : ((s.acting n).seq n).verb.running = true := by
  rw [State.acting_seq]
  exact State.issued_running h

/-- A command that changes the registers and its verb alone. -/
theorem State.completed_regs_frame {ok : Bool} {result : Word} (h : t = { s with regs := t.regs, seqs := t.seqs }) :
    t.completed n ok result = { s with regs := (t.completed n ok result).regs, seqs := (t.completed n ok result).seqs } := by
  rw [h]
  rfl

/-! ### The return stack -/

theorem State.acting_stacked_frame {l : List Nat} : (s.acting n).stacked n l =
    { s with regs := ((s.acting n).stacked n l).regs, seqs := ((s.acting n).stacked n l).seqs } := by
  rw [State.stacked_frame, State.acting_frame]

/-- R185, R213: what a command that works the return stack leaves. -/
theorem State.stackedBy_command {l : List Nat} {result : Word} (hret : (s.seq n).verb.retire = false) (hl : l.length ≤ 16) :
    ((s.acting n).stacked n l).cmdDone n true result = ((s.acting n).stacked n l).completed n true result ∧
      s.Completes (((s.acting n).stacked n l).completed n true result) n true result ∧
      ((((s.acting n).stacked n l).completed n true result).seq n).stack = l ∧
      (((s.acting n).stacked n l).completed n true result).get (Reg.SQ_STAT.SP n) = l.length ∧
      s.SameFields [Reg.SQ_STAT.SP n] (((s.acting n).stacked n l).completed n true result) := by
  have hacts : s.Acts ((s.acting n).stacked n l) n := State.acts_acting.of_seq ((congrArg Seq.verb State.stacked_seq).trans rfl)
  obtain ⟨hdone, hcompletes⟩ := hacts.completes (ok := true) (result := result) hret
  refine ⟨hdone, hcompletes, ?_, State.stacked_sp hl, ?_⟩
  · rw [State.completed_seq, State.stacked_seq]
  · exact (State.acting_sameFields.snoc State.stacked_sameFields).snoc State.completed_sameFields

/-! ### FAULT -/

/-- R213: the reasons that FAULT may give. -/
theorem faultReasonBad_iff {r : Nat} : faultReasonBad r = false ↔ (1 ≤ r ∧ r ≤ 6) ∨ 0x80 ≤ r := by
  simp only [faultReasonBad, Bool.not_eq_false', Bool.or_eq_true, Bool.and_eq_true, decide_eq_true_eq]

/-! ### The end of a verb (R212) -/

/-- R212: a completion that END waits for retires the statement. -/
theorem State.cmdDone_retires {ok : Bool} {result : Word} (hret : (s.seq n).verb.retire = true) (hspan : (s.seq n).span = true) :
    ((s.cmdDone n ok result).seq n).verb = Verb.init ∧ (s.cmdDone n ok result).pc n = (s.seq n).verb.nextPc.getD (s.pc n + 1) % 2 ^ 20 := by
  have hseq : (s.completed n ok result).seq n = { s.seq n with verb := (s.seq n).verb.completed ok result } := State.completed_seq
  have hdone : s.cmdDone n ok result = ((s.completed n ok result).setPc n ((s.seq n).verb.nextPc.getD (s.pc n + 1))).setSeq n
      { s.seq n with verb := Verb.init } := by
    unfold State.cmdDone
    refine (if_pos hret).trans ?_
    change (s.completed n ok result).verbRetire n = _
    unfold State.verbRetire
    rw [hseq]
    exact if_pos hspan
  rw [hdone]
  exact ⟨congrArg Seq.verb State.seq_setSeq_same, State.pc_setPc⟩

end

/-! ### What each command comes to -/

section
variable {s : State} {n : Fin 64} {c : ExtCmd} {r : Nat}

theorem extRdreg_exec (h : s.issued n 0x06 = some c) :
    exec (.extRdreg n) s = .next (((s.acting n).cmdDone n true ((s.acting n).readWord (c.a.toNat % 2 ^ 24))).bumpFree) := by
  have hexec : exec (.extRdreg n) s = .next (s.command n 0x06 (fun _ _ => none) fun c t => (t.cmdDone n true (t.readWord (wget c.a 23 0))).bumpFree) := rfl
  rwa [State.command_runs_always h, wget_mod] at hexec

theorem extRdprog_exec (h : s.issued n 0x07 = some c) (hbad : s.progBad n (s.stmtAddr n (c.a.toNat % 2 ^ 20)) 16 = none) :
    exec (.extRdprog n) s = .next ((s.acting n).cmdDone n true (BitVec.ofNat 128 (leNat (s.bytes (s.stmtAddr n (c.a.toNat % 2 ^ 20)) 16)))) := by
  have hexec : exec (.extRdprog n) s = .next (s.command n 0x07 (fun c t => t.progBad n (t.stmtAddr n (wget c.a 19 0)) 16) fun c t =>
      t.cmdDone n true (BitVec.ofNat 128 (leNat (t.bytes (t.stmtAddr n (wget c.a 19 0)) 16)))) := rfl
  rwa [State.command_runs h (by rw [wget_mod]; exact hbad), wget_mod, State.acting_bytes] at hexec

theorem extRec_exec (h : s.issued n 0x08 = some c) (hkind : recKind (c.c.toNat % 16) = true) : exec (.extRec n) s =
    .next (((s.acting n).ownRecord n (c.c.toNat % 16) (c.c.toNat / 16 % 1024) (bitOf c.c.toNat 14) (c.a.toNat % 2 ^ 48)).cmdDone n true 0) := by
  have hexec : exec (.extRec n) s = .next (s.command n 0x08 (fun c _ => operandBad (!recKind (wget c.c 3 0))) fun c t =>
      (t.ownRecord n (wget c.c 3 0) (wget c.c 13 4) (bitOf c.c.toNat 14) (wget c.a 47 0)).cmdDone n true 0) := rfl
  have hkindOf : wget c.c 3 0 = c.c.toNat % 16 := wget_mod _ _
  have hsub : wget c.c 13 4 = c.c.toNat / 16 % 1024 := wget_div _ _ _
  rwa [State.command_runs h (by rw [hkindOf, hkind]; rfl), hkindOf, hsub, wget_mod] at hexec

theorem extPlay_exec (h : s.issued n 0x09 = some c) (hdecline : bitOf c.c.toNat 1 = false)
    (hbad : s.playBad n (c.a.toNat % 2 ^ 35) (bitOf c.c.toNat 0) (bitOf c.c.toNat 1) (c.b.toNat % 2 ^ 80) = false) : exec (.extPlay n) s =
    .next (((s.acting n).play n (c.a.toNat % 2 ^ 35) (bitOf c.c.toNat 0) false (c.b.toNat % 2 ^ 80)).cmdDone n true 0) := by
  have hlist : c.list = c.a.toNat % 2 ^ 35 := wget_mod _ _
  have hstart : c.start = c.b.toNat % 2 ^ 80 := wget_mod _ _
  have hplay : s.cmdPlay n = ((s.acting n).play n (c.a.toNat % 2 ^ 35) (bitOf c.c.toNat 0) false (c.b.toNat % 2 ^ 80)).cmdDone n true 0 := by
    unfold State.cmdPlay
    rw [h]
    dsimp only
    rw [hlist, hstart, ← hdecline]
    exact if_neg (by rw [ExtCmd.bit, ExtCmd.bit, hbad]; decide)
  rw [← hplay]
  rfl

theorem extMeas_exec (h : s.issued n 0x0A = some c) (hbad : s.measBad n c.meas = false) :
    exec (.extMeas n) s = .next (((s.acting n).startMeas n c.meas).waitUnits n 0 c.meas.count) := by
  have hexec : exec (.extMeas n) s = .next (s.command n 0x0A (fun c t => operandBad (t.measBad n c.meas)) fun c t =>
      (t.startMeas n c.meas).waitUnits n 0 c.meas.count) := rfl
  rwa [State.command_runs h (by rw [hbad]; rfl)] at hexec

theorem extTmeas_exec (h : s.issued n 0x0B = some c) (hbad : s.tmeasBad n c.meas = false) :
    exec (.extTmeas n) s = .next (((s.acting n).startTmeas n c.meas).waitUnits n 0 c.meas.count) := by
  have hexec : exec (.extTmeas n) s = .next (s.command n 0x0B (fun c t => operandBad (t.tmeasBad n c.meas)) fun c t =>
      (t.startTmeas n c.meas).waitUnits n 0 c.meas.count) := rfl
  rwa [State.command_runs h (by rw [hbad]; rfl)] at hexec

theorem extLtest_exec (h : s.issued n 0x0C = some c) (hbad : s.ltestBad n (c.a.toNat % 32) = false) : exec (.extLtest n) s =
    .next (((s.acting n).ltestStart (c.a.toNat % 32) n (c.a.toNat / 2 ^ 64 % 2 ^ 48) (c.b.toNat % 2 ^ 48)).waitUnits n 0 1) := by
  have hexec : exec (.extLtest n) s = .next (s.command n 0x0C (fun c t => operandBad (t.ltestBad n (wget c.a 4 0))) fun c t =>
      (t.ltestStart (wget c.a 4 0) n (wget c.a 111 64) (wget c.b 47 0)).waitUnits n 0 1) := rfl
  have hlane : wget c.a 4 0 = c.a.toNat % 32 := wget_mod _ _
  have hdur : wget c.a 111 64 = c.a.toNat / 2 ^ 64 % 2 ^ 48 := wget_div _ _ _
  rwa [State.command_runs h (by rw [hlane, hbad]; rfl), hlane, hdur, wget_mod] at hexec

theorem extAcc_exec (h : s.issued n 0x0D = some c) : exec (.extAcc n) s = .next (if bitOf c.c.toNat 0 = true
    then ((s.acting n).cmdDone n true (s.accValue n (c.c.toNat / 2 % 4))).accReset n
    else (s.acting n).cmdDone n true (s.accValue n (c.c.toNat / 2 % 4))) := by
  have hexec : exec (.extAcc n) s = .next (s.command n 0x0D (fun _ _ => none) fun c t => if bitOf c.c.toNat 0 = true
      then (t.cmdDone n true (t.accValue n (wget c.c 2 1))).accReset n else t.cmdDone n true (t.accValue n (wget c.c 2 1))) := rfl
  have hsel : wget c.c 2 1 = c.c.toNat / 2 % 4 := wget_div _ _ _
  have hvalue : (s.acting n).accValue n (c.c.toNat / 2 % 4) = s.accValue n (c.c.toNat / 2 % 4) := accValue_congr rfl
  rwa [State.command_runs_always h, hsel, hvalue] at hexec

theorem State.accReset_regs_frame {t : State} (h : t = { s with regs := t.regs, seqs := t.seqs }) :
    t.accReset n = { s with regs := (t.accReset n).regs, seqs := (t.accReset n).seqs } := by
  rw [h]
  rfl

theorem extHold_exec (h : s.issued n 0x0E = some c) :
    exec (.extHold n) s = .next ((((s.acting n).userHold n (c.a.toNat % 2 ^ 48)).cmdDone n true 0).hold n Cause.USER).follow := by
  have hexec : exec (.extHold n) s = .next (s.command n 0x0E (fun _ _ => none) fun c t =>
      (((t.userHold n (wget c.a 47 0)).cmdDone n true 0).hold n Cause.USER).follow) := rfl
  rwa [State.command_runs_always h, wget_mod] at hexec

theorem extEnd_exec (h : s.issued n 0x0F = some c) : exec (.extEnd n) s = .next (((s.acting n).discardOpen n).setWait n .finish) := by
  have hexec : exec (.extEnd n) s = .next (s.command n 0x0F (fun _ _ => none) fun _ t => (t.discardOpen n).setWait n .finish) := rfl
  rwa [State.command_runs_always h] at hexec

theorem extArmb_exec (h : s.issued n 0x10 = some c) : exec (.extArmb n) s = .next ((s.acting n).waitBeat n (c.a.toNat / 2 ^ 16 % 2 ^ 64)) := by
  have hexec : exec (.extArmb n) s = .next (s.command n 0x10 (fun _ _ => none) fun c t => t.waitBeat n (wget c.a 79 16)) := rfl
  rwa [State.command_runs_always h, wget_beat] at hexec

theorem extArmf_exec (h : s.issued n 0x11 = some c) (hen : s.flag (Reg.TB_FOLLOW_CFG.EN n) = true) :
    exec (.extArmf n) s = .next ((s.acting n).waitFollow n 0 (c.a.toNat % 2 ^ 48) (c.b.toNat / 2 ^ 16 % 2 ^ 64)) := by
  have hexec : exec (.extArmf n) s = .next (s.command n 0x11 (fun _ t => t.followOff n) fun c t => t.waitFollow n 0 (wget c.a 47 0) (wget c.b 79 16)) := rfl
  rwa [State.command_runs h (by rw [State.followOff, hen]; rfl), wget_mod, wget_beat] at hexec

theorem extArmp_exec (h : s.issued n 0x12 = some c) :
    exec (.extArmp n) s = .next ((s.acting n).setWait n (.pattern 0 (c.b.toNat / 2 ^ 16 % 2 ^ 64) (bitOf c.c.toNat 0))) := by
  have hexec : exec (.extArmp n) s = .next (s.command n 0x12 (fun _ _ => none) fun c t => t.setWait n (.pattern 0 (wget c.b 79 16) (bitOf c.c.toNat 0))) := rfl
  rwa [State.command_runs_always h, wget_beat] at hexec

theorem State.acting_stack : ((s.acting n).seq n).stack = (s.seq n).stack := by rw [State.acting_seq]

theorem extPushpc_exec (h : s.issued n 0x13 = some c) (hl : (s.seq n).stack.length < 16) :
    exec (.extPushpc n) s = .next (((s.acting n).stacked n (c.a.toNat % 2 ^ 20 :: (s.seq n).stack)).cmdDone n true 0) := by
  have hexec : exec (.extPushpc n) s = .next (s.command n 0x13 (fun _ t => stackBad (t.stackFull n)) fun c t =>
      (t.pushPc n (wget c.a 19 0)).cmdDone n true 0) := rfl
  rwa [State.command_runs h (if_neg (by simpa [State.stackFull] using hl)), wget_mod, State.pushPc_eq, Nat.mod_mod, State.acting_stack] at hexec

theorem extPoppc_exec (h : s.issued n 0x14 = some c) {p : Nat} {ps : List Nat} (hps : (s.seq n).stack = p :: ps) :
    exec (.extPoppc n) s = .next (((s.acting n).stacked n ps).cmdDone n true (BitVec.ofNat 128 p)) := by
  have hexec : exec (.extPoppc n) s = .next (s.command n 0x14 (fun _ t => stackBad (t.stackEmpty n)) fun _ t =>
      (t.popPc n).2.cmdDone n true (BitVec.ofNat 128 (t.popPc n).1)) := rfl
  rwa [State.command_runs h (if_neg (by simp [State.stackEmpty, hps])), State.popPc_eq (State.acting_stack.trans hps)] at hexec

theorem extFault_command : exec (.extFault n) s =
    .next (s.command n 0x15 (fun c _ => operandBad (faultReasonBad (wget c.c 7 0))) fun c t => t.cmdFault n c) := rfl

/-- R187: FAULT ends its statement with the reason it gives. -/
theorem extFault_exec (h : s.issued n 0x15 = some c) (hr : wget c.c 7 0 = r) (hgood : (1 ≤ r ∧ r ≤ 6) ∨ 0x80 ≤ r) (hne : r ≠ Reason.UNCORR)
    (hclause : (s.seq n).clause = none) (hunits : s.NoUnits n) : exec (.extFault n) s = .next ((s.acting n).verbFaulted n r).follow := by
  have hfault : (s.acting n).cmdFault n c = (s.acting n).fault n r r := by
    unfold State.cmdFault
    rw [hr]
    exact if_neg hne
  rw [extFault_command, State.command_runs h (by rw [hr, faultReasonBad_iff.2 hgood]; rfl), hfault,
    State.fault_verb hne (State.acting_running h) (State.acting_clause.trans hclause) hunits]

/-- R187: FAULT with a reason it may not give faults with OPERAND. -/
theorem extFault_exec_bad (h : s.issued n 0x15 = some c) (hr : wget c.c 7 0 = r) (hbad : ¬((1 ≤ r ∧ r ≤ 6) ∨ 0x80 ≤ r))
    (hclause : (s.seq n).clause = none) (hunits : s.NoUnits n) : exec (.extFault n) s = .next (s.verbFaulted n Reason.OPERAND).follow := by
  have hfaults : operandBad (faultReasonBad (wget c.c 7 0)) = some (Reason.OPERAND, Reason.OPERAND) := by
    rw [hr, Bool.of_not_eq_false (mt faultReasonBad_iff.1 hbad)]
    rfl
  rw [extFault_command, State.command_faults h hfaults, State.fault_verb (by decide) (State.issued_running h) hclause hunits]

end

/-- Settles O22: what each command of a verb returns, records, waits for, holds or faults with. -/
theorem verbCommands : Obligations.VerbCommands := by
  unfold Obligations.VerbCommands
  refine ⟨fun s n c h hret => ?rdreg, fun s n c h hret hbad => ?rdprog, fun s n c h hret hkind hst => ?rec,
    fun s n c h hret hbad hgroup hgather hrun hdecline => ?play, fun s n c h hbad => ⟨_, extMeas_exec h hbad, congrArg Seq.wait State.seq_setSeq_same, rfl⟩,
    fun s n c h hbad => ⟨_, extTmeas_exec h hbad, congrArg Seq.wait State.seq_setSeq_same, rfl⟩,
    fun s n c h hbad => ⟨_, extLtest_exec h hbad, congrArg Seq.wait State.seq_setSeq_same, rfl⟩,
    fun s n c h hret => ?acc, fun s n c h hret hrun hwait => ?hold, fun s n c h => ⟨_, extEnd_exec h, State.setWait_wait, ?finish⟩,
    fun s n c h hnow => ?armb, fun s n c h hret hnow => ?armbDone, fun s n c h hen hcount => ?armf,
    fun s n c h => ⟨_, extArmp_exec h, State.setWait_wait, State.setSeq_seqs_frame State.acting_frame⟩, fun s n c h hret hl => ?pushpc,
    fun s n c h hret p ps hps hl => ?poppc, fun s n c r h hr hrun hclause hunits => ⟨fun hgood => ?fault, fun hbad => ?faultBad⟩,
    fun s n c h hret hspan => ?retire⟩
  case rdreg =>
    have hexec := extRdreg_exec h
    rw [(State.acts_acting.completes hret).1] at hexec
    exact ⟨_, hexec, (State.acts_acting.completes hret).2, rfl⟩
  case rdprog =>
    have hexec := extRdprog_exec h hbad
    rw [(State.acts_acting.completes hret).1] at hexec
    exact ⟨_, hexec, (State.acts_acting.completes hret).2, State.setSeq_seqs_frame State.acting_frame⟩
  case rec =>
    have hexec := extRec_exec h hkind
    obtain ⟨hdone, hcompletes⟩ := State.completes_of_seq
      (t := (s.acting n).ownRecord n (c.c.toNat % 16) (c.c.toNat / 16 % 1024) (bitOf c.c.toNat 14) (c.a.toNat % 2 ^ 48)) (ok := true) (result := 0) rfl hret
    rw [hdone] at hexec
    refine ⟨_, hexec, hcompletes, State.ownRecord_records (s := s.acting n), State.ownRecord_written (s := s.acting n) hst, ?_, ?_⟩
    · exact (State.acting_sameFields.snoc State.ownRecord_sameFields).snoc State.completed_sameFields
    · rw [State.completed_frame, State.ownRecord_frame]
      rfl
  case play =>
    have hexec := extPlay_exec h hdecline hbad
    obtain ⟨hstate, hstream, hverb, hmem⟩ := State.play_alone (s := s.acting n) (list := c.a.toNat % 2 ^ 35) (start := c.b.toNat % 2 ^ 80)
      (timed := bitOf c.c.toNat 0) n.isLt hgroup (State.playBad_idle hbad hgroup) hrun hgather rfl
    obtain ⟨hdone, hcompletes⟩ := (State.acts_acting.of_seq hverb).completes (ok := true) (result := 0) hret
    rw [hdone] at hexec
    exact ⟨_, hexec, hcompletes, hstate, congrArg Stream.list hstream, congrArg Stream.start hstream, hmem⟩
  case acc =>
    have hexec := extAcc_exec h
    obtain ⟨hdone, hcompletes⟩ := (State.acts_acting (s := s) (n := n)).completes (ok := true) (result := s.accValue n (c.c.toNat / 2 % 4)) hret
    rw [hdone] at hexec
    have hwords : s.SameWords [Reg.SQ_ACC.word n] ((s.acting n).completed n true (s.accValue n (c.c.toNat / 2 % 4))) := State.SameWords.of_regs rfl
    have hframe := State.completed_regs_frame (s := s) (t := s.acting n) (n := n) (ok := true) (result := s.accValue n (c.c.toNat / 2 % 4)) rfl
    cases hbit : bitOf c.c.toNat 0
    · rw [if_neg (by rw [hbit]; decide)] at hexec
      exact ⟨_, hexec, hcompletes, rfl, hwords, hframe⟩
    · rw [if_pos hbit] at hexec
      exact ⟨_, hexec, hcompletes, State.reg_setReg_same _ _, hwords.snoc (State.SameWords.setReg _ _ List.mem_cons_self), State.accReset_regs_frame hframe⟩
  case hold =>
    have hholds := State.verbHolds (value := c.a.toNat % 2 ^ 48) hret hrun hwait rfl
    rw [Nat.mod_mod_of_dvd _ (show 2 ^ 40 ∣ 2 ^ 48 by decide)] at hholds
    exact ⟨_, extHold_exec h, hholds⟩
  case finish =>
    rw [State.seq_setWait]
    exact State.discardOpen_seat _ _
  case armb =>
    have hexec := extArmb_exec h
    rw [State.waitBeat_ahead (s := s.acting n) (Nat.not_le.2 hnow)] at hexec
    exact ⟨_, hexec, State.setWait_wait, State.setSeq_seqs_frame State.acting_frame⟩
  case armbDone =>
    have hexec := extArmb_exec h
    have hacts : s.Acts (((s.acting n).setWait n (.beat (c.a.toNat / 2 ^ 16 % 2 ^ 64))).setWait n .none) n := by
      rw [State.Acts, State.seq_setWait, State.seq_setWait, State.acting_seq]
    obtain ⟨hdone, hcompletes⟩ := hacts.completes (ok := true) (result := 0) hret
    rw [State.waitBeat_verb (State.acting_running h) hnow, hdone] at hexec
    refine ⟨_, hexec, hcompletes, ?_, ?_⟩
    · rw [State.completed_seq, State.seq_setWait]
    · exact State.setSeq_seqs_frame (State.setSeq_seqs_frame (State.setSeq_seqs_frame State.acting_frame))
  case armf =>
    have hahead : reached ((s.acting n).get (Reg.TB_FOLLOW_CNT.COUNT n)) (c.a.toNat % 2 ^ 48) = false := by
      rw [reached, Nat.mod_mod, State.acting_get]
      exact decide_eq_false (Nat.not_lt.2 hcount)
    have hexec := extArmf_exec h hen
    rw [State.waitFollow_ahead hahead] at hexec
    exact ⟨_, hexec, State.setWait_wait, State.setSeq_seqs_frame State.acting_frame⟩
  case pushpc =>
    have hexec := extPushpc_exec h hl
    obtain ⟨hdone, hcompletes, hstack, hsp, hfields⟩ := State.stackedBy_command (l := c.a.toNat % 2 ^ 20 :: (s.seq n).stack) (result := 0) hret
      (by rw [List.length_cons]; exact hl)
    rw [hdone] at hexec
    exact ⟨_, hexec, hcompletes, hstack, hsp, hfields, State.completed_regs_frame State.acting_stacked_frame⟩
  case poppc =>
    have hexec := extPoppc_exec h hps
    obtain ⟨hdone, hcompletes, hstack, hsp, hfields⟩ := State.stackedBy_command (l := ps) (result := BitVec.ofNat 128 p) hret hl.le
    rw [hdone] at hexec
    exact ⟨_, hexec, hcompletes, hstack, hsp, hfields, State.completed_regs_frame State.acting_stacked_frame⟩
  case fault =>
    have hne : r ≠ Reason.UNCORR := by
      simp only [Reason.UNCORR] at hgood ⊢
      omega
    have hlt : r < 2 ^ 8 := hr ▸ Nat.mod_lt _ (by decide)
    exact ⟨_, extFault_exec h ((wget_mod _ _).trans hr.symm) (by omega) hne hclause hunits, (State.verbFaulted_faults (s := s.acting n) hlt hrun).of_acting⟩
  case faultBad =>
    exact ⟨_, extFault_exec_bad h ((wget_mod _ _).trans hr.symm) (by omega) hclause hunits, State.verbFaulted_faults (by decide) hrun⟩
  case retire =>
    have hseq := State.acting_seq (s := s) (n := n)
    obtain ⟨hverb, hpc⟩ := State.cmdDone_retires (s := s.acting n) (n := n) (ok := true) (result := (s.acting n).readWord (c.a.toNat % 2 ^ 24))
      (by rw [hseq]; exact hret) (by rw [hseq]; exact hspan)
    refine ⟨_, extRdreg_exec h, hverb, hpc.trans ?_⟩
    rw [hseq]
    rfl

end Sys2Proof.Machine
end

section
/-! SUPPORT. Guard trips (R198, R327, R338, R345): what a trip latches in a channel or a supply, and what it leaves of the rest. -/

namespace Sys2Proof.Machine

/-! ### What a trip keeps -/

section
variable {s t u : State} {n : Nat}

/-- What no trip changes, where no unit measures: the sites' maps, pattern memory, the beat, and that no unit measures. -/
structure State.TripKeeps (s t : State) : Prop where
  maps : t.maps = s.maps
  mem : t.mem = s.mem
  beat : t.beat = s.beat
  tdcs : s.tdcs = [] → t.tdcs = []
  pmuMeas : s.pmuMeas = [] → t.pmuMeas = []
  dpsMeas : s.dpsMeas = [] → t.dpsMeas = []

theorem State.TripKeeps.refl : s.TripKeeps s := ⟨rfl, rfl, rfl, id, id, id⟩

theorem State.TripKeeps.trans (h : s.TripKeeps t) (k : t.TripKeeps u) : s.TripKeeps u :=
  ⟨k.maps.trans h.maps, k.mem.trans h.mem, k.beat.trans h.beat, fun e => k.tdcs (h.tdcs e), fun e => k.pmuMeas (h.pmuMeas e), fun e => k.dpsMeas (h.dpsMeas e)⟩

theorem State.TripKeeps.set (h : s.TripKeeps t) (f : Fld) (v : Nat) : s.TripKeeps (t.set f v) := h.trans ⟨rfl, rfl, rfl, id, id, id⟩

theorem State.TripKeeps.setReg (h : s.TripKeeps t) (a : Nat) (w : Word) : s.TripKeeps (t.setReg a w) := h.trans ⟨rfl, rfl, rfl, id, id, id⟩

theorem State.TripKeeps.setSeq (h : s.TripKeeps t) (m : Nat) (q : Seq) : s.TripKeeps (t.setSeq m q) := h.trans ⟨rfl, rfl, rfl, id, id, id⟩

theorem State.TripKeeps.setChan (h : s.TripKeeps t) (c : Nat) (k : Chan) : s.TripKeeps (t.setChan c k) := h.trans ⟨rfl, rfl, rfl, id, id, id⟩

theorem State.TripKeeps.setDps (h : s.TripKeeps t) (d : Nat) (p : Dps) : s.TripKeeps (t.setDps d p) := h.trans ⟨rfl, rfl, rfl, id, id, id⟩

theorem State.TripKeeps.setGd (h : s.TripKeeps t) (c : Nat) (g : Gd) : s.TripKeeps (t.setGd c g) := h.trans ⟨rfl, rfl, rfl, id, id, id⟩

theorem State.TripKeeps.setDgd (h : s.TripKeeps t) (d : Nat) (g : Gd) : s.TripKeeps (t.setDgd d g) := h.trans ⟨rfl, rfl, rfl, id, id, id⟩

theorem State.TripKeeps.bumpFree (h : s.TripKeeps t) : s.TripKeeps t.bumpFree := h.trans ⟨rfl, rfl, rfl, id, id, id⟩

theorem State.TripKeeps.dropUnits (h : s.TripKeeps t) (m : Nat) : s.TripKeeps (t.dropUnits m) :=
  h.trans ⟨rfl, rfl, rfl, fun e => congrArg (List.filter _) e, fun e => congrArg (List.filter _) e, fun e => congrArg (List.filter _) e⟩

theorem State.TripKeeps.msix (h : s.TripKeeps t) (k : t.MsixFrame u) : s.TripKeeps u := by
  rw [k]
  exact h.trans ⟨rfl, rfl, rfl, id, id, id⟩

theorem State.TripKeeps.log (h : s.TripKeeps t) (src code det cls : Nat) : s.TripKeeps (t.log src code det cls) := by
  rw [State.log_frame]
  exact h.trans ⟨rfl, rfl, rfl, id, id, id⟩

theorem State.TripKeeps.now (h : s.TripKeeps t) : t.now = s.now := congrArg BitVec.toNat h.beat

theorem State.TripKeeps.chanSite (h : s.TripKeeps t) (c : Nat) : t.chanSite c = s.chanSite c := by rw [State.chanSite, State.chanSite, h.maps]

theorem State.TripKeeps.compOf (h : s.TripKeeps t) (c : Nat) : t.compOf c = s.compOf c := by
  simp only [State.compOf, h.chanSite, State.map, h.maps]

theorem State.TripKeeps.compChans (h : s.TripKeeps t) (c : Nat) : t.compChans c = s.compChans c := by rw [State.compChans, State.compChans, h.compOf]

theorem State.TripKeeps.leadOf (h : s.TripKeeps t) (c : Nat) : t.leadOf c = s.leadOf c := by rw [State.leadOf, State.leadOf, h.compOf]

theorem State.TripKeeps.dpsSite (h : s.TripKeeps t) (d : Nat) : t.dpsSite d = s.dpsSite d := by rw [State.dpsSite, State.dpsSite, h.maps]

theorem State.TripKeeps.gangOf (h : s.TripKeeps t) (d : Nat) : t.gangOf d = s.gangOf d := by
  simp only [State.gangOf, h.dpsSite, State.map, h.maps]

theorem State.TripKeeps.gangChans (h : s.TripKeeps t) (d : Nat) : t.gangChans d = s.gangChans d := by rw [State.gangChans, State.gangChans, h.gangOf]

theorem State.TripKeeps.gangLead (h : s.TripKeeps t) (d : Nat) : t.gangLead d = s.gangLead d := by rw [State.gangLead, State.gangLead, h.gangOf]

/-- The fields of the channels, supplies and guards. -/
def Fld.OfUnit (f : Fld) : Prop := f.lo ≤ f.hi ∧ 0x080000 ≤ f.addr

/-- From `s` to `t` every field of a channel, of a supply and of the guards stands. -/
def State.UnitsKept (s t : State) : Prop := ∀ f : Fld, f.OfUnit → t.get f = s.get f

theorem State.UnitsKept.refl : s.UnitsKept s := fun _ _ => rfl

theorem State.UnitsKept.of_sameFields {fs : List Fld} (h : s.SameFields fs t) (hfs : ∀ g ∈ fs, g.addr < 0x080000) : s.UnitsKept t := fun f hf => by
  obtain ⟨hl, ha⟩ := hf
  exact h f hl fun g hg => .inl (by have := hfs g hg; omega)

theorem State.UnitsKept.flag (h : s.UnitsKept t) {f : Fld} (hf : f.OfUnit) : t.flag f = s.flag f := by rw [State.flag, State.flag, h f hf]

/-! ### The site of a unit that trips (R198, R220) -/

theorem State.tripKeeps_stopIssue (h : s.NoUnits n) : s.TripKeeps (s.stopIssue n) := by
  have hsuspend : s.TripKeeps (s.suspend n) := by
    obtain ⟨w, hw⟩ := State.suspend_eq (s := s) (n := n)
    rw [hw]
    exact ((State.TripKeeps.refl.setReg _ _).set _ _).bumpFree
  obtain hstay | ⟨q, hunits⟩ | ⟨q, hwait⟩ := s.stopIssue_cases n
  · rw [hstay]
    exact State.TripKeeps.refl
  · rw [hunits, State.cancelUnits_noUnits (State.suspend_noUnits h)]
    exact (hsuspend.dropUnits n).setSeq n q
  · rw [hwait]
    exact hsuspend.setSeq n q

/-- The fields that the trip of a site may write. -/
def siteTripFields (n : Nat) : List Fld := moveFields n ++ tokenFields n

theorem State.tripSite_cases (hclause : (s.seq n).clause = none) :
    s.tripSite n = (s.setSite n Site.TRIPPED).stopIssue n ∨ s.tripSite n = s.setSite n Site.TRIPPED ∨
      (s.tripSite n = s ∧ ¬(s.siteState n = Site.RUNNING ∨ s.siteState n = Site.HELD)) := by
  rw [State.tripSite, State.discardOpen_none hclause]
  split
  next => exact .inl rfl
  next hrun =>
    split
    next => exact .inr (.inl rfl)
    next hheld => exact .inr (.inr ⟨rfl, not_or.2 ⟨hrun, hheld⟩⟩)

/-- R198: what the trip of a unit's site keeps. -/
theorem State.tripSite_leaves (hclause : (s.seq n).clause = none) (hunits : s.NoUnits n) :
    s.SameFields (siteTripFields n) (s.tripSite n) ∧ s.TripKeeps (s.tripSite n) := by
  have hset : s.SameFields (siteTripFields n) (s.setSite n Site.TRIPPED) :=
    (State.setSite_sameFields (by decide)).mono fun f hf => List.mem_append_left _ hf
  have hkeeps : s.TripKeeps (s.setSite n Site.TRIPPED) := State.TripKeeps.refl.msix State.setSite_msixFrame
  have hunits' : (s.setSite n Site.TRIPPED).NoUnits n := State.setSite_noUnits hunits
  obtain h | h | ⟨h, -⟩ := State.tripSite_cases hclause
  · rw [h]
    exact ⟨hset.snoc ((State.stopIssue_fields hunits').1.mono fun f hf => List.mem_append_right _ hf), hkeeps.trans (State.tripKeeps_stopIssue hunits')⟩
  · rw [h]
    exact ⟨hset, hkeeps⟩
  · rw [h]
    exact ⟨State.SameFields.refl, State.TripKeeps.refl⟩

/-- R198: the site of a unit that trips is TRIPPED if it was RUNNING or HELD. -/
theorem State.tripSite_tripped (hclause : (s.seq n).clause = none) (hunits : s.NoUnits n) (hst : s.siteState n = Site.RUNNING ∨ s.siteState n = Site.HELD) :
    (s.tripSite n).siteState n = Site.TRIPPED := by
  have hset : (s.setSite n Site.TRIPPED).siteState n = Site.TRIPPED := State.siteState_setSite (by decide)
  obtain h | h | ⟨-, h⟩ := State.tripSite_cases hclause
  · rw [h]
    refine ((State.stopIssue_fields (State.setSite_noUnits hunits)).1.get ?_).trans hset
    simp only [tokenFields, Fld.apart_cons, Fld.apart_nil, Reg.SQ_STAT.STATE, Reg.SQ_STAT.TOKEN, Reg.SQ_TOKEN.word]
    omega
  · rw [h]
    exact hset
  · exact absurd hst h

/-- R198, R220: the site of a unit, where it has one, trips. -/
def State.ownerTripped (s : State) (o : Option Nat) : State := match o with
  | some n => s.tripSite n
  | none => s

/-- The site of a unit, where it has one, has no clause open. -/
def State.OwnerIdle (s : State) (o : Option Nat) : Prop := ∀ n, o = some n → n < 64 ∧ (s.seq n).clause = none

theorem State.noUnits_of_nil (hpmu : s.pmuMeas = []) (htdc : s.tdcs = []) : s.NoUnits n := by
  rw [State.NoUnits, hpmu, htdc]
  exact ⟨fun p hp => absurd hp List.not_mem_nil, fun p hp => absurd hp List.not_mem_nil⟩

theorem State.ownerTripped_kept {o : Option Nat} (ho : s.OwnerIdle o) (hpmu : s.pmuMeas = []) (htdc : s.tdcs = []) :
    s.UnitsKept (s.ownerTripped o) ∧ s.TripKeeps (s.ownerTripped o) := by
  cases o with
  | none => exact ⟨State.UnitsKept.refl, State.TripKeeps.refl⟩
  | some n =>
    obtain ⟨hn, hclause⟩ := ho n rfl
    obtain ⟨hfields, hkeeps⟩ := State.tripSite_leaves hclause (State.noUnits_of_nil hpmu htdc)
    refine ⟨State.UnitsKept.of_sameFields hfields ?_, hkeeps⟩
    simp only [siteTripFields, moveFields, tokenFields, List.cons_append, List.nil_append, List.forall_mem_cons, List.not_mem_nil, false_imp_iff,
      implies_true, and_true, Reg.SQ_STAT.STATE, Reg.SQ_CNT.HOLDS, intrField, Reg.SQ_STAT.TOKEN, Reg.SQ_TOKEN.word]
    omega

/-! ### The report of a trip (R338 items 4 and 6) -/

/-- R338, R345: a trip is logged and raises its interrupt. -/
def State.tripTold (s : State) (dps : Bool) (u cause : Nat) : State := (s.log Src.GD (Lc.event Ev.GUARD_TRIP) (tripDetail dps u cause) 1).intr Intr.TRIP

theorem State.tripTold_sameFields {dps : Bool} {c cause : Nat} : s.SameFields [Reg.LOG_STAT.DROPPED, intrField Intr.TRIP] (s.tripTold dps c cause) :=
  (State.log_sameFields.mono (by simp)).snoc ((State.intr_sameFields (by decide)).mono (by simp))

theorem State.tripTold_unitsKept {dps : Bool} {c cause : Nat} : s.UnitsKept (s.tripTold dps c cause) := by
  refine State.UnitsKept.of_sameFields State.tripTold_sameFields ?_
  simp [Reg.LOG_STAT.DROPPED, intrField]

theorem State.tripTold_keeps {dps : Bool} {c cause : Nat} : s.TripKeeps (s.tripTold dps c cause) :=
  (State.TripKeeps.refl.log _ _ _ _).msix (State.MsixFrame.refl.intr _)

theorem State.tripTold_dpss {dps : Bool} {c cause : Nat} : (s.tripTold dps c cause).dpss = s.dpss := by
  have hintr := State.MsixFrame.refl.intr (s := s.log Src.GD (Lc.event Ev.GUARD_TRIP) (tripDetail dps c cause) 1) Intr.TRIP
  rw [State.tripTold, hintr, State.log_frame]

end

/-! ### A channel (R338) -/

section
variable {s t u : State} {c cause tick : Nat}

/-- R338: the cause of a trip with the stamp of the first. -/
def State.tripStamped (s : State) (c cause tick : Nat) : State :=
  let old := s.get (Reg.CH_GSTAT.CAUSE c)
  let s1 := s.set (Reg.CH_GSTAT.CAUSE c) (old ||| cause)
  if old = 0 then s1.setReg (Reg.CH_GTRIP.word c) (BitVec.ofNat 128 (s.tripTime tick % 2 ^ 80 * 2 ^ 48 + cause % 256 * 2 ^ 40)) else s1

/-- R338: a channel with its trip latched and counted, before its slice follows. -/
def State.tripLatched (s : State) (c cause tick : Nat) : State :=
  let s3 := (((s.tripStamped c cause tick).set (Reg.CH_GSTAT.TRIPPED c) 1).set (Reg.CH_STAT.TRIPPED c) 1).inc (Reg.CH_GCNT.TRIPS c)
  (s3.setGd c { s3.gd c with lastTrip := s.now + 1 }).set Reg.GD_STAT.TRIP_SEEN 1

theorem State.latchChan_eq : s.latchChan c cause tick =
    (((((s.tripLatched c cause tick).refreshChan c).busTrigger c).refreshPmu c).pmuMeasTrip c).tdcTrip c := by
  unfold State.latchChan State.tripLatched State.tripStamped
  rfl

theorem State.TripKeeps.refreshChan (h : s.TripKeeps t) (d : Nat) : s.TripKeeps (t.refreshChan d) := h.setReg _ _

theorem State.TripKeeps.busTrigger (h : s.TripKeeps t) (d : Nat) : s.TripKeeps (t.busTrigger d) := by
  unfold State.busTrigger
  dsimp only
  exact ite_kept (fun _ => ite_kept (fun _ => h) fun _ => ((h.setChan _ _).setChan _ _).refreshChan d)
    fun _ => ite_kept (fun _ => ((h.setChan _ _).set _ _).refreshChan d) fun _ => h

theorem State.TripKeeps.refreshPmu (h : s.TripKeeps t) (d : Nat) : s.TripKeeps (t.refreshPmu d) := by
  unfold State.refreshPmu
  dsimp only
  exact ite_kept (fun _ => h.set _ _) fun _ => (h.set _ _).set _ _

theorem State.pmuMeasTrip_idle (h : s.pmuMeas = []) : s.pmuMeasTrip c = s := by
  rw [State.pmuMeasTrip, State.pmuMeasOf, h]
  rfl

theorem State.tdcTrip_idle (h : s.tdcs = []) : s.tdcTrip c = s := by
  rw [State.tdcTrip, h]
  rfl

theorem State.tripStamped_keeps : s.TripKeeps (s.tripStamped c cause tick) :=
  ite_kept (fun _ => (State.TripKeeps.refl.set _ _).setReg _ _) fun _ => State.TripKeeps.refl.set _ _

theorem State.tripLatched_keeps : s.TripKeeps (s.tripLatched c cause tick) :=
  ((((State.tripStamped_keeps.set _ _).set _ _).set _ _).setGd _ _).set _ _

theorem State.tripStamped_sameFields : s.SameFields [Reg.CH_GSTAT.CAUSE c, ⟨Reg.CH_GTRIP.word c, 127, 0⟩] (s.tripStamped c cause tick) := by
  have hcause : s.SameFields [Reg.CH_GSTAT.CAUSE c, ⟨Reg.CH_GTRIP.word c, 127, 0⟩] (s.set (Reg.CH_GSTAT.CAUSE c) (s.get (Reg.CH_GSTAT.CAUSE c) ||| cause)) :=
    State.SameFields.set _ _ (Nat.le_of_ble_eq_true rfl) (Nat.le_of_ble_eq_true rfl) (by simp)
  exact ite_kept (fun _ => hcause.snoc (State.SameFields.setReg _ _ (by simp))) fun _ => hcause

/-- The fields that count and tell the trip of a channel. -/
def tripCountFields (c : Nat) : List Fld := [Reg.CH_GSTAT.TRIPPED c, Reg.CH_STAT.TRIPPED c, Reg.CH_GCNT.TRIPS c, Reg.GD_STAT.TRIP_SEEN]

theorem State.SameFields.setGd {fs : List Fld} {g : Gd} (h : s.SameFields fs t) : s.SameFields fs (t.setGd c g) := h.snoc (State.SameFields.of_regs rfl)

/-- A trip that is counted, told and stamped in its guard set. -/
theorem State.tripLatched_eq : ∃ g, s.tripLatched c cause tick =
    (((((s.tripStamped c cause tick).set (Reg.CH_GSTAT.TRIPPED c) 1).set (Reg.CH_STAT.TRIPPED c) 1).inc (Reg.CH_GCNT.TRIPS c)).setGd c g).set Reg.GD_STAT.TRIP_SEEN 1 :=
  ⟨_, rfl⟩

theorem State.tripLatched_sameFields : (s.tripStamped c cause tick).SameFields (tripCountFields c) (s.tripLatched c cause tick) := by
  obtain ⟨g, hg⟩ := State.tripLatched_eq (s := s) (c := c) (cause := cause) (tick := tick)
  rw [hg]
  have htrip : (s.tripStamped c cause tick).SameFields (tripCountFields c)
      (((s.tripStamped c cause tick).set (Reg.CH_GSTAT.TRIPPED c) 1).set (Reg.CH_STAT.TRIPPED c) 1) :=
    (State.SameFields.set _ _ (Nat.le_of_ble_eq_true rfl) (Nat.le_of_ble_eq_true rfl) (by simp [tripCountFields])).snoc
      (State.SameFields.set _ _ (Nat.le_of_ble_eq_true rfl) (Nat.le_of_ble_eq_true rfl) (by simp [tripCountFields]))
  exact (htrip.snoc (State.SameFields.set (Reg.CH_GCNT.TRIPS c) _ (Nat.le_of_ble_eq_true rfl) (Nat.le_of_ble_eq_true rfl) (by simp [tripCountFields]))).setGd.snoc
    (State.SameFields.set _ _ (Nat.le_of_ble_eq_true rfl) (Nat.le_of_ble_eq_true rfl) (by simp [tripCountFields]))

end
end Sys2Proof.Machine
end

section
/-! SUPPORT. The trip of a channel (R338). -/

namespace Sys2Proof.Machine

section
variable {s t u v : State} {c cause tick : Nat}

/-- R338: what the trip of a channel with a cause has latched, as against the state before it. -/
structure State.ChanLatched (s t : State) (c cause tick : Nat) : Prop where
  cause : t.get (Reg.CH_GSTAT.CAUSE c) = s.get (Reg.CH_GSTAT.CAUSE c) ||| cause
  tripped : t.flag (Reg.CH_GSTAT.TRIPPED c) = true
  status : t.flag (Reg.CH_STAT.TRIPPED c) = true
  seen : t.flag Reg.GD_STAT.TRIP_SEEN = true
  trips : t.get (Reg.CH_GCNT.TRIPS c) = (s.get (Reg.CH_GCNT.TRIPS c) + 1) % 2 ^ 32
  time : s.get (Reg.CH_GSTAT.CAUSE c) = 0 → t.get (Reg.CH_GTRIP.TIME c) = s.tripTime tick % 2 ^ 80

/-- The fields of a channel's trip are the channel's and the guards'. -/
theorem ofUnit_latch : (Reg.CH_GSTAT.CAUSE c).OfUnit ∧ (Reg.CH_GSTAT.TRIPPED c).OfUnit ∧ (Reg.CH_STAT.TRIPPED c).OfUnit ∧ Reg.GD_STAT.TRIP_SEEN.OfUnit ∧
    (Reg.CH_GCNT.TRIPS c).OfUnit ∧ (Reg.CH_GTRIP.TIME c).OfUnit := by
  simp only [Fld.OfUnit, Reg.CH_GSTAT.CAUSE, Reg.CH_GSTAT.TRIPPED, Reg.CH_STAT.TRIPPED, Reg.GD_STAT.TRIP_SEEN, Reg.CH_GCNT.TRIPS, Reg.CH_GTRIP.TIME]
  omega

/-- What comes after the latch leaves it. -/
theorem State.ChanLatched.then (h : s.ChanLatched t c cause tick) (k : t.UnitsKept u) : s.ChanLatched u c cause tick := by
  obtain ⟨hcause, htripped, hstatus, hseen, htrips, htime⟩ := ofUnit_latch (c := c)
  exact ⟨(k _ hcause).trans h.cause, (k.flag htripped).trans h.tripped, (k.flag hstatus).trans h.status, (k.flag hseen).trans h.seen,
    (k _ htrips).trans h.trips, fun h0 => (k _ htime).trans (h.time h0)⟩

/-- What comes before the latch and leaves the cause and the count. -/
theorem State.ChanLatched.after (h : t.ChanLatched u c cause tick) (hcause : t.get (Reg.CH_GSTAT.CAUSE c) = s.get (Reg.CH_GSTAT.CAUSE c))
    (htrips : t.get (Reg.CH_GCNT.TRIPS c) = s.get (Reg.CH_GCNT.TRIPS c)) (hnow : t.now = s.now) : s.ChanLatched u c cause tick := by
  have htick : t.tripTime tick = s.tripTime tick := by rw [State.tripTime, State.tripTime, hnow]
  refine ⟨by rw [← hcause]; exact h.cause, h.tripped, h.status, h.seen, by rw [← htrips]; exact h.trips, fun h0 => ?_⟩
  rw [← htick]
  exact h.time (hcause.trans h0)

theorem State.tripStamped_cause (hcause : cause < 2 ^ 8) :
    (s.tripStamped c cause tick).get (Reg.CH_GSTAT.CAUSE c) = s.get (Reg.CH_GSTAT.CAUSE c) ||| cause := by
  have hset : (s.set (Reg.CH_GSTAT.CAUSE c) (s.get (Reg.CH_GSTAT.CAUSE c) ||| cause)).get (Reg.CH_GSTAT.CAUSE c) = s.get (Reg.CH_GSTAT.CAUSE c) ||| cause := by
    have hwidth : (Reg.CH_GSTAT.CAUSE c).width = 8 := by simp [Fld.width, Reg.CH_GSTAT.CAUSE]
    have hold := State.get_lt (s := s) (Reg.CH_GSTAT.CAUSE c)
    rw [State.get_set_same (Reg.CH_GSTAT.CAUSE c) _ (Nat.le_of_ble_eq_true rfl) (Nat.le_of_ble_eq_true rfl), hwidth]
    rw [hwidth] at hold
    exact Nat.mod_eq_of_lt (Nat.or_lt_two_pow hold hcause)
  have haddr : (Reg.CH_GSTAT.CAUSE c).addr ≠ Reg.CH_GTRIP.word c := by
    simp only [Reg.CH_GSTAT.CAUSE, Reg.CH_GTRIP.word]
    omega
  exact ite_kept (P := fun u : State => u.get (Reg.CH_GSTAT.CAUSE c) = s.get (Reg.CH_GSTAT.CAUSE c) ||| cause)
    (fun _ => (State.get_setReg_other _ _ _ haddr).trans hset) fun _ => hset

/-- R338: the stamp of a trip over its first cause. -/
theorem wget_stamp {x y : Nat} (hx : x < 2 ^ 80) (hy : y < 256) : wget (BitVec.ofNat 128 (x * 2 ^ 48 + y * 2 ^ 40)) 127 48 = x := by
  rw [wget_ofNat _ _ _ (by omega)]
  omega

theorem State.tripStamped_word (h0 : s.get (Reg.CH_GSTAT.CAUSE c) = 0) :
    (s.tripStamped c cause tick).reg (Reg.CH_GTRIP.word c) = BitVec.ofNat 128 (s.tripTime tick % 2 ^ 80 * 2 ^ 48 + cause % 256 * 2 ^ 40) := by
  unfold State.tripStamped
  dsimp only
  rw [if_pos h0, State.reg_setReg_same]

theorem State.get_gtripTime : s.get (Reg.CH_GTRIP.TIME c) = wget (s.reg (Reg.CH_GTRIP.word c)) 127 48 := rfl

/-- R50, R338: the stamp of the first trip. -/
theorem State.tripStamped_time (h0 : s.get (Reg.CH_GSTAT.CAUSE c) = 0) :
    (s.tripStamped c cause tick).get (Reg.CH_GTRIP.TIME c) = s.tripTime tick % 2 ^ 80 := by
  rw [State.get_gtripTime, State.tripStamped_word h0]
  exact wget_stamp (Nat.mod_lt _ (Nat.two_pow_pos _)) (Nat.mod_lt _ (by decide))

theorem State.setGd_get {g : Gd} (f : Fld) : (s.setGd c g).get f = s.get f := rfl

theorem State.tripLatched_latched (hcause : cause < 2 ^ 8) : s.ChanLatched (s.tripLatched c cause tick) c cause tick := by
  have hstamped := State.tripStamped_sameFields (s := s) (c := c) (cause := cause) (tick := tick)
  have hrest := State.tripLatched_sameFields (s := s) (c := c) (cause := cause) (tick := tick)
  obtain ⟨g, hg⟩ := State.tripLatched_eq (s := s) (c := c) (cause := cause) (tick := tick)
  obtain ⟨b, hb⟩ : ∃ b, b = s.tripStamped c cause tick := ⟨_, rfl⟩
  rw [← hb] at hstamped hrest hg
  have hstat : ((b.set (Reg.CH_GSTAT.TRIPPED c) 1).set (Reg.CH_STAT.TRIPPED c) 1).SameFields [Reg.CH_GCNT.TRIPS c, Reg.GD_STAT.TRIP_SEEN] (s.tripLatched c cause tick) := by
    rw [hg]
    exact (State.SameFields.set (Reg.CH_GCNT.TRIPS c) _ (Nat.le_of_ble_eq_true rfl) (Nat.le_of_ble_eq_true rfl) (by simp)).setGd.snoc
      (State.SameFields.set _ _ (Nat.le_of_ble_eq_true rfl) (Nat.le_of_ble_eq_true rfl) (by simp))
  refine ⟨?cause, ?tripped, ?status, ?seen, ?trips, fun h0 => ?time⟩
  case cause =>
    refine (hrest.get ?_).trans (hb ▸ State.tripStamped_cause hcause)
    simp only [tripCountFields, Fld.apart_cons, Fld.apart_nil, Reg.CH_GSTAT.CAUSE, Reg.CH_GSTAT.TRIPPED, Reg.CH_STAT.TRIPPED, Reg.CH_GCNT.TRIPS, Reg.GD_STAT.TRIP_SEEN]
    omega
  case tripped =>
    refine (hstat.flag ?_).trans ?_
    · simp only [Fld.apart_cons, Fld.apart_nil, Reg.CH_GSTAT.TRIPPED, Reg.CH_GCNT.TRIPS, Reg.GD_STAT.TRIP_SEEN]
      omega
    · rw [State.flag, State.get_set_addr _ _ _ (by simp only [Reg.CH_GSTAT.TRIPPED, Reg.CH_STAT.TRIPPED]; omega)]
      exact State.flag_set_one _ (Nat.le_of_ble_eq_true rfl) (Nat.le_of_ble_eq_true rfl)
  case status =>
    refine (hstat.flag ?_).trans (State.flag_set_one _ (Nat.le_of_ble_eq_true rfl) (Nat.le_of_ble_eq_true rfl))
    simp only [Fld.apart_cons, Fld.apart_nil, Reg.CH_STAT.TRIPPED, Reg.CH_GCNT.TRIPS, Reg.GD_STAT.TRIP_SEEN]
    omega
  case seen =>
    rw [hg]
    exact State.flag_set_one _ (Nat.le_of_ble_eq_true rfl) (Nat.le_of_ble_eq_true rfl)
  case trips =>
    have hcount : ((b.set (Reg.CH_GSTAT.TRIPPED c) 1).set (Reg.CH_STAT.TRIPPED c) 1).get (Reg.CH_GCNT.TRIPS c) = s.get (Reg.CH_GCNT.TRIPS c) := by
      rw [State.get_set_addr _ _ _ (by simp only [Reg.CH_GCNT.TRIPS, Reg.CH_STAT.TRIPPED]; omega),
        State.get_set_addr _ _ _ (by simp only [Reg.CH_GCNT.TRIPS, Reg.CH_GSTAT.TRIPPED]; omega)]
      refine hstamped.get ?_
      simp only [Fld.apart_cons, Fld.apart_nil, Reg.CH_GCNT.TRIPS, Reg.CH_GSTAT.CAUSE, Reg.CH_GTRIP.word]
      omega
    have hwidth : (Reg.CH_GCNT.TRIPS c).width = 32 := by simp [Fld.width, Reg.CH_GCNT.TRIPS]
    rw [hg, State.get_set_addr _ _ _ (by simp only [Reg.CH_GCNT.TRIPS, Reg.GD_STAT.TRIP_SEEN]; omega), State.setGd_get, State.inc, State.add,
      State.get_set_same (Reg.CH_GCNT.TRIPS c) _ (Nat.le_of_ble_eq_true rfl) (Nat.le_of_ble_eq_true rfl), hcount, hwidth]
  case time =>
    refine (hrest.get ?_).trans (hb ▸ State.tripStamped_time h0)
    simp only [tripCountFields, Fld.apart_cons, Fld.apart_nil, Reg.CH_GTRIP.TIME, Reg.CH_GSTAT.TRIPPED, Reg.CH_STAT.TRIPPED, Reg.CH_GCNT.TRIPS, Reg.GD_STAT.TRIP_SEEN]
    omega

/-! ### The latch of a channel with its slice -/

theorem State.latchChan_idle (hpmu : s.pmuMeas = []) (htdc : s.tdcs = []) :
    s.latchChan c cause tick = (((s.tripLatched c cause tick).refreshChan c).busTrigger c).refreshPmu c := by
  have hkeeps : s.TripKeeps ((((s.tripLatched c cause tick).refreshChan c).busTrigger c).refreshPmu c) :=
    ((State.tripLatched_keeps.refreshChan c).busTrigger c).refreshPmu c
  rw [State.latchChan_eq, State.pmuMeasTrip_idle (hkeeps.pmuMeas hpmu), State.tdcTrip_idle (hkeeps.tdcs htdc)]

theorem State.latchChan_keeps (hpmu : s.pmuMeas = []) (htdc : s.tdcs = []) : s.TripKeeps (s.latchChan c cause tick) := by
  rw [State.latchChan_idle hpmu htdc]
  exact ((State.tripLatched_keeps.refreshChan c).busTrigger c).refreshPmu c

theorem State.latchChan_slice (hpmu : s.pmuMeas = []) (htdc : s.tdcs = []) : (s.tripLatched c cause tick).SameFields (sliceFields c) (s.latchChan c cause tick) := by
  rw [State.latchChan_idle hpmu htdc]
  exact (State.refreshChan_sameFields.snoc State.busTrigger_sameFields).snoc State.refreshPmu_sameFields

/-- The fields that the latch of a channel may write. -/
def latchFields (c : Nat) : List Fld := (Reg.CH_GSTAT.CAUSE c :: ⟨Reg.CH_GTRIP.word c, 127, 0⟩ :: tripCountFields c) ++ sliceFields c

theorem State.latchChan_sameFields (hpmu : s.pmuMeas = []) (htdc : s.tdcs = []) : s.SameFields (latchFields c) (s.latchChan c cause tick) := by
  refine ((State.tripStamped_sameFields.mono ?_).snoc (State.tripLatched_sameFields.mono ?_)).snoc
    ((State.latchChan_slice hpmu htdc).mono fun f hf => List.mem_append_right _ hf)
  · simp +contextual [latchFields]
  · simp +contextual [latchFields]

theorem State.latchChan_latched (hcause : cause < 2 ^ 8) (hpmu : s.pmuMeas = []) (htdc : s.tdcs = []) :
    s.ChanLatched (s.latchChan c cause tick) c cause tick := by
  have hslice := State.latchChan_slice (c := c) (cause := cause) (tick := tick) hpmu htdc
  have h := State.tripLatched_latched (s := s) (c := c) (tick := tick) hcause
  have hfields : ∀ f ∈ [Reg.CH_GSTAT.CAUSE c, Reg.CH_GSTAT.TRIPPED c, Reg.CH_STAT.TRIPPED c, Reg.GD_STAT.TRIP_SEEN, Reg.CH_GCNT.TRIPS c, Reg.CH_GTRIP.TIME c],
      f.Apart (sliceFields c) := by
    simp only [List.forall_mem_cons, List.not_mem_nil, false_imp_iff, implies_true, and_true, sliceFields, Fld.apart_cons, Fld.apart_nil,
      Reg.CH_GSTAT.CAUSE, Reg.CH_GSTAT.TRIPPED, Reg.CH_STAT.TRIPPED, Reg.GD_STAT.TRIP_SEEN, Reg.CH_GCNT.TRIPS, Reg.CH_GTRIP.TIME, Reg.CH_STAT.word,
      Reg.CH_PMUSTAT.CONN, Reg.CH_PMUSTAT.COMPLY]
    omega
  simp only [List.forall_mem_cons, List.not_mem_nil, false_imp_iff, implies_true, and_true] at hfields
  obtain ⟨hcauseF, htripped, hstatus, hseen, htrips, htime⟩ := hfields
  exact ⟨(hslice.get hcauseF).trans h.cause, (hslice.flag htripped).trans h.tripped, (hslice.flag hstatus).trans h.status, (hslice.flag hseen).trans h.seen,
    (hslice.get htrips).trans h.trips, fun h0 => (hslice.get htime).trans (h.time h0)⟩

/-! ### The trip of a channel alone in its compound -/

/-- R338: a channel that trips alone, before its record. -/
def State.chanTripped (s : State) (c cause tick : Nat) : State :=
  ((s.ownerTripped (s.chanSite c)).latchChan c cause tick).tripTold false c cause

/-- The records of a state become `p`. -/
def State.withRecs (s : State) (p : List PendRec) : State := { s with pendRecs := p }

theorem State.event_withRecs {n code value sub : Nat} : ∃ p, s.event n code value sub = s.withRecs p := ⟨_, rfl⟩

theorem State.withRecs_self : s.withRecs s.pendRecs = s := rfl

/-- R338: the record of a trip that has been told. -/
def State.tripRecorded (s : State) (c code : Nat) : State := match s.chanSite c, s.chanPin c with
  | some n, some (i, _) => s.event n Ev.GUARD_TRIP code i
  | _, _ => s

theorem State.tripRecorded_recs {code : Nat} : ∃ p, s.tripRecorded c code = s.withRecs p := by
  unfold State.tripRecorded
  split
  · exact State.event_withRecs
  · exact ⟨_, State.withRecs_self.symm⟩

/-- R338: a channel trips with its site and its compound, and its trip is told and recorded. -/
theorem State.tripCompound_eq : s.tripCompound c cause tick =
    ((((s.ownerTripped (s.chanSite c)).latchChan c cause tick).forL
      ((((s.ownerTripped (s.chanSite c)).latchChan c cause tick).compChans c).filter (· != c)) fun m t => t.latchChan m 0x80 tick).tripTold false c
        cause).tripRecorded c (if c = s.leadOf c then cause else 0x80) := by
  unfold State.tripCompound State.tripTold State.tripRecorded State.ownerTripped
  rfl

theorem State.tripCompound_alone (hcomp : s.compChans c = [c])
    (hkeeps : s.TripKeeps ((s.ownerTripped (s.chanSite c)).latchChan c cause tick)) : ∃ p, s.tripCompound c cause tick = (s.chanTripped c cause tick).withRecs p := by
  have hmembers : ((((s.ownerTripped (s.chanSite c)).latchChan c cause tick).compChans c).filter (· != c)) = [] := by
    rw [hkeeps.compChans, hcomp]
    simp
  rw [State.tripCompound_eq, hmembers, State.forL_nil]
  exact State.tripRecorded_recs

theorem State.tripChan_alone {p : List PendRec} (h : s.tripCompound c cause tick = (s.chanTripped c cause tick).withRecs p)
    (hlink : (s.chanTripped c cause tick).flag (Reg.CH_GCFG.DPS_LINK ((s.chanTripped c cause tick).leadOf c)) = false) :
    s.tripChan c cause tick = (s.chanTripped c cause tick).withRecs p := by
  have hlink' : ((s.chanTripped c cause tick).withRecs p).flag (Reg.CH_GCFG.DPS_LINK (((s.chanTripped c cause tick).withRecs p).leadOf c)) = false := hlink
  unfold State.tripChan
  dsimp only
  rw [h]
  split
  · exact if_neg (by rw [hlink']; decide)
  · rfl

end
end Sys2Proof.Machine
end

section
/-! The guards of a channel (O32): its trips, its blank and its filter. -/

namespace Sys2Proof.Machine

section
variable {s t u : State} {n c cause tick : Nat}

/-! ### The trip -/

theorem State.tripTold_intr {dps : Bool} : (s.tripTold dps c cause).flag (intrField Intr.TRIP) = true := State.intr_flag (by decide)

theorem State.tripTold_siteState {dps : Bool} : (s.tripTold dps c cause).siteState n = s.siteState n := by
  refine State.tripTold_sameFields.get ?_
  simp only [Fld.apart_cons, Fld.apart_nil, Reg.SQ_STAT.STATE, Reg.LOG_STAT.DROPPED, intrField]
  omega

theorem State.latchChan_siteState (hn : n < 64) (hpmu : s.pmuMeas = []) (htdc : s.tdcs = []) : (s.latchChan c cause tick).siteState n = s.siteState n := by
  refine (State.latchChan_sameFields hpmu htdc).get ?_
  simp only [latchFields, tripCountFields, sliceFields, List.cons_append, List.nil_append, Fld.apart_cons, Fld.apart_nil, Reg.SQ_STAT.STATE, Reg.CH_GSTAT.CAUSE,
    Reg.CH_GTRIP.word, Reg.CH_GSTAT.TRIPPED, Reg.CH_STAT.TRIPPED, Reg.CH_GCNT.TRIPS, Reg.GD_STAT.TRIP_SEEN, Reg.CH_STAT.word, Reg.CH_PMUSTAT.CONN,
    Reg.CH_PMUSTAT.COMPLY]
  omega

theorem State.latchChan_link (hpmu : s.pmuMeas = []) (htdc : s.tdcs = []) :
    (s.latchChan c cause tick).flag (Reg.CH_GCFG.DPS_LINK c) = s.flag (Reg.CH_GCFG.DPS_LINK c) := by
  refine (State.latchChan_sameFields hpmu htdc).flag ?_
  simp only [latchFields, tripCountFields, sliceFields, List.cons_append, List.nil_append, Fld.apart_cons, Fld.apart_nil, Reg.CH_GCFG.DPS_LINK, Reg.CH_GSTAT.CAUSE,
    Reg.CH_GTRIP.word, Reg.CH_GSTAT.TRIPPED, Reg.CH_STAT.TRIPPED, Reg.CH_GCNT.TRIPS, Reg.GD_STAT.TRIP_SEEN, Reg.CH_STAT.word, Reg.CH_PMUSTAT.CONN,
    Reg.CH_PMUSTAT.COMPLY]
  omega

/-- R338: a channel alone in its compound, without a link, trips with its site. -/
theorem State.tripChan_trips (hc : c < 1024) (hcause : cause < 2 ^ 8) (hcomp : s.compChans c = [c]) (hlead : s.leadOf c = c)
    (hlink : s.flag (Reg.CH_GCFG.DPS_LINK c) = false) (htdc : s.tdcs = []) (hpmu : s.pmuMeas = []) (ho : s.OwnerIdle (s.chanSite c))
    (hu : u = s.tripChan c cause tick) :
    s.ChanLatched u c cause tick ∧ u.flag (intrField Intr.TRIP) = true ∧
      (∀ n, s.chanSite c = some n → s.siteState n = Site.RUNNING ∨ s.siteState n = Site.HELD → u.siteState n = Site.TRIPPED) ∧ u.mem = s.mem := by
  obtain ⟨hunits, hkeeps⟩ := State.ownerTripped_kept ho hpmu htdc
  obtain ⟨w, hw⟩ : ∃ w, w = s.ownerTripped (s.chanSite c) := ⟨_, rfl⟩
  rw [← hw] at hunits hkeeps
  have hpmu' : w.pmuMeas = [] := hkeeps.pmuMeas hpmu
  have htdc' : w.tdcs = [] := hkeeps.tdcs htdc
  have hlatchKeeps : s.TripKeeps (w.latchChan c cause tick) := hkeeps.trans (State.latchChan_keeps hpmu' htdc')
  have htripped : s.chanTripped c cause tick = (w.latchChan c cause tick).tripTold false c cause := by rw [hw]; rfl
  have htoldKeeps : s.TripKeeps (s.chanTripped c cause tick) := by
    rw [htripped]
    exact hlatchKeeps.trans State.tripTold_keeps
  obtain ⟨hcauseF, -, -, -, htripsF, -⟩ := ofUnit_latch (c := c)
  have hlinkOf : (Reg.CH_GCFG.DPS_LINK c).OfUnit := by
    simp only [Fld.OfUnit, Reg.CH_GCFG.DPS_LINK]
    omega
  have hlinked : (s.chanTripped c cause tick).flag (Reg.CH_GCFG.DPS_LINK ((s.chanTripped c cause tick).leadOf c)) = false := by
    rw [htoldKeeps.leadOf, hlead, htripped, State.tripTold_unitsKept.flag hlinkOf, State.latchChan_link hpmu' htdc', hunits.flag hlinkOf, hlink]
  obtain ⟨p, hp⟩ := State.tripCompound_alone (s := s) (c := c) (cause := cause) (tick := tick) hcomp (by rw [← hw]; exact hlatchKeeps)
  rw [State.tripChan_alone hp hlinked, htripped] at hu
  have hlatched : s.ChanLatched (w.latchChan c cause tick) c cause tick :=
    (State.latchChan_latched hcause hpmu' htdc').after (hunits _ hcauseF) (hunits _ htripsF) hkeeps.now
  refine ⟨?_, ?_, fun n hn hst => ?_, ?_⟩
  · rw [hu]
    exact hlatched.then State.tripTold_unitsKept
  · rw [hu]
    exact State.tripTold_intr
  · obtain ⟨hlt, hclause⟩ := ho n hn
    have hstate : w.siteState n = Site.TRIPPED := by
      rw [hw, hn]
      exact State.tripSite_tripped hclause (State.noUnits_of_nil hpmu htdc) hst
    have hafter : ((w.latchChan c cause tick).tripTold false c cause).siteState n = Site.TRIPPED := by
      rw [State.tripTold_siteState, State.latchChan_siteState hlt hpmu' htdc', hstate]
    rw [hu]
    exact hafter
  · rw [hu, ← htripped]
    exact htoldKeeps.mem

/-! ### An excursion -/

/-- R335: the raw state of a comparator. -/
def State.rawSet (s : State) (c cmp : Nat) : State := s.set (Reg.CH_GSTAT.RAW c) (s.get (Reg.CH_GSTAT.RAW c) ||| 2 ^ cmp)

theorem State.rawSet_sameFields {cmp : Nat} : s.SameFields [Reg.CH_GSTAT.RAW c] (s.rawSet c cmp) :=
  State.SameFields.set _ _ (Nat.le_of_ble_eq_true rfl) (Nat.le_of_ble_eq_true rfl) (by simp)

theorem State.rawSet_raw {cmp : Nat} (hcmp : cmp < 8) : (s.rawSet c cmp).get (Reg.CH_GSTAT.RAW c) = s.get (Reg.CH_GSTAT.RAW c) ||| 2 ^ cmp := by
  have hwidth : (Reg.CH_GSTAT.RAW c).width = 8 := by simp [Fld.width, Reg.CH_GSTAT.RAW]
  have hold := State.get_lt (s := s) (Reg.CH_GSTAT.RAW c)
  rw [State.rawSet, State.get_set_same (Reg.CH_GSTAT.RAW c) _ (Nat.le_of_ble_eq_true rfl) (Nat.le_of_ble_eq_true rfl), hwidth]
  rw [hwidth] at hold
  exact Nat.mod_eq_of_lt (Nat.or_lt_two_pow hold (Nat.pow_lt_pow_right (by decide) hcmp))

theorem State.guardTrip_acts {cmp : Nat} (hacts : s.guardActs c cmp = true) (hqual : s.flag (Reg.CH_GCFG.QUAL (s.leadOf c)) = false) :
    s.guardTrip c cmp tick = (s.rawSet c cmp).tripChan c (2 ^ cmp) tick := by
  unfold State.guardTrip
  exact if_pos (by rw [hacts, hqual]; rfl)

theorem State.guardTrip_raw {cmp : Nat} (h : s.guardActs c cmp = false ∨ s.flag (Reg.CH_GCFG.QUAL (s.leadOf c)) = true) :
    s.guardTrip c cmp tick = s.rawSet c cmp := by
  unfold State.guardTrip
  refine if_neg ?_
  obtain h | h := h
  · rw [h, Bool.false_and]
    decide
  · rw [h, Bool.not_true, Bool.and_false]
    decide

theorem apart_raw : ∀ f ∈ [Reg.CH_GSTAT.CAUSE c, Reg.CH_GCNT.TRIPS c, Reg.CH_GCFG.DPS_LINK c], f.Apart [Reg.CH_GSTAT.RAW c] := by
  simp only [List.forall_mem_cons, List.not_mem_nil, false_imp_iff, implies_true, and_true, Fld.apart_cons, Fld.apart_nil, Reg.CH_GSTAT.CAUSE,
    Reg.CH_GCNT.TRIPS, Reg.CH_GCFG.DPS_LINK, Reg.CH_GSTAT.RAW]
  omega

theorem State.rawSet_siteState {cmp : Nat} : (s.rawSet c cmp).siteState n = s.siteState n := by
  refine State.rawSet_sameFields.get ?_
  simp only [Fld.apart_cons, Fld.apart_nil, Reg.SQ_STAT.STATE, Reg.CH_GSTAT.RAW]
  omega

/-! ### The filter (R340) -/

/-- R340: the guard set and the raw and filtered states of a channel after a sample. -/
def State.filtered (s : State) (c raw : Nat) (h : List Nat) (filt : Nat) : State :=
  ((s.setGd c { s.gd c with hist := h, filtCmp := filt / 64 }).set (Reg.CH_GSTAT.RAW c) (raw % 64)).set (Reg.CH_GSTAT.FILT c) (filt % 64)

/-- R340: comparators that disagreed without changing are counted. -/
def State.chattered (s : State) (c chat : Nat) : State :=
  if chat = 0 then s else (s.add (Reg.CH_GCNT.CHATTER c) chat).set (Reg.CH_GSTAT.CHATTER c) 1

/-- R342: what a sample's full windows resolve. -/
def State.windowed (s : State) (c raw win : Nat) (h : List Nat) : State :=
  s.forL ((List.range 8).filter fun i => windowAgrees h win i) fun i t => t.resolveChan c i (bitOf raw i)

theorem State.filterSample_eq {raw : Nat} {h : List Nat} {f : Nat × Nat} (hdue : s.now % 10 ^ s.get (Reg.CH_GCFG.RATE (s.leadOf c)) = 0)
    (hh : h = (raw :: (s.gd c).hist).take 7)
    (hf : f = filterStep h (s.get (Reg.CH_GCFG.WIN (s.leadOf c))) (s.get (Reg.CH_GSTAT.FILT c) + 64 * (s.gd c).filtCmp) 8)
    (ht : t = (((s.filtered c raw h f.1).chattered c f.2).windowed c raw (s.get (Reg.CH_GCFG.WIN (s.leadOf c))) h))
    (hqual : t.flag (Reg.CH_GCFG.QUAL (s.leadOf c)) = false) : s.filterSample c raw = t := by
  subst hh hf ht
  unfold State.filterSample
  exact (if_neg (not_not_intro hdue)).trans (if_neg fun h => absurd (hqual.symm.trans h) (by decide))

/-- The words that a sample of the filter may write. -/
def filterWords (c : Nat) : List Nat := [Reg.CH_GSTAT.word c, Reg.CH_GCNT.word c, Reg.CH_STAT.word c]

theorem State.filtered_sameFields {raw filt : Nat} {h : List Nat} : s.SameFields [Reg.CH_GSTAT.RAW c, Reg.CH_GSTAT.FILT c] (s.filtered c raw h filt) :=
  (State.SameFields.refl.setGd.snoc (State.SameFields.set _ _ (Nat.le_of_ble_eq_true rfl) (Nat.le_of_ble_eq_true rfl) (by simp))).snoc
    (State.SameFields.set _ _ (Nat.le_of_ble_eq_true rfl) (Nat.le_of_ble_eq_true rfl) (by simp))

theorem State.filtered_sameWords {raw filt : Nat} {h : List Nat} : s.SameWords (filterWords c) (s.filtered c raw h filt) :=
  ((State.SameWords.of_regs rfl).snoc (State.SameWords.set _ _ (by simp [filterWords, Reg.CH_GSTAT.RAW, Reg.CH_GSTAT.word]))).snoc
    (State.SameWords.set _ _ (by simp [filterWords, Reg.CH_GSTAT.FILT, Reg.CH_GSTAT.word]))

theorem State.chattered_sameFields {chat : Nat} : s.SameFields [Reg.CH_GCNT.CHATTER c, Reg.CH_GSTAT.CHATTER c] (s.chattered c chat) :=
  ite_kept (fun _ => State.SameFields.refl) fun _ =>
    (State.SameFields.set (Reg.CH_GCNT.CHATTER c) _ (Nat.le_of_ble_eq_true rfl) (Nat.le_of_ble_eq_true rfl) (by simp)).snoc
      (State.SameFields.set _ _ (Nat.le_of_ble_eq_true rfl) (Nat.le_of_ble_eq_true rfl) (by simp))

theorem State.chattered_sameWords {chat : Nat} : s.SameWords (filterWords c) (s.chattered c chat) :=
  ite_kept (fun _ => State.SameWords.refl) fun _ =>
    (State.SameWords.set (Reg.CH_GCNT.CHATTER c) _ (by simp [filterWords, Reg.CH_GCNT.CHATTER, Reg.CH_GCNT.word])).snoc
      (State.SameWords.set _ _ (by simp [filterWords, Reg.CH_GSTAT.CHATTER, Reg.CH_GSTAT.word]))

theorem State.chattered_gds {chat : Nat} : (s.chattered c chat).gds = s.gds := ite_kept (P := fun t : State => t.gds = s.gds) (fun _ => rfl) fun _ => rfl

theorem State.chattered_chans {chat : Nat} : (s.chattered c chat).chans = s.chans :=
  ite_kept (P := fun t : State => t.chans = s.chans) (fun _ => rfl) fun _ => rfl

/-- R342: nothing of channel `c` is unresolved. -/
def State.Resolved (s : State) (c : Nat) : Prop := s.get (Reg.CH_GSTAT.UNRES c) = 0 ∧ (s.chan c).unresHi = false ∧ (s.chan c).unresLo = false

/-- R342: where nothing is unresolved a resolution shows the slice as it is, at most. -/
theorem State.resolveChan_resolved {cmp : Nat} {st : Bool} (h : s.Resolved c) :
    s.resolveChan c cmp st = s ∨ s.resolveChan c cmp st = (s.setChan c (s.chan c)).refreshChan c := by
  obtain ⟨hunres, hhi, hlo⟩ := h
  unfold State.resolveChan
  by_cases hcmp : cmp < 6
  case pos =>
    refine .inl ((if_pos hcmp).trans (if_neg ?_))
    rw [hunres, bitOf, Nat.zero_testBit]
    decide
  case neg =>
    refine .inr ((if_neg hcmp).trans ?_)
    dsimp only
    rw [hhi, hlo]
    exact congrArg (fun k => (s.setChan c k).refreshChan c) (ite_self _)

/-- What the resolutions of a sample leave of a channel with nothing unresolved. -/
def State.Shown (s : State) (c : Nat) (t : State) : Prop := s.SameWords [Reg.CH_STAT.word c] t ∧ t.gds = s.gds ∧ t.Resolved c

theorem State.reshown_gds {k : Chan} : ((s.setChan c k).refreshChan c).gds = s.gds := rfl

theorem State.Shown.resolveChan {cmp : Nat} {st : Bool} (h : s.Shown c t) : s.Shown c (t.resolveChan c cmp st) := by
  obtain ⟨hwords, hgds, hres⟩ := h
  obtain heq | heq := State.resolveChan_resolved (cmp := cmp) (st := st) hres
  · rw [heq]
    exact ⟨hwords, hgds, hres⟩
  · obtain ⟨hunres, hhi, hlo⟩ := hres
    have hshown : t.SameWords [Reg.CH_STAT.word c] ((t.setChan c (t.chan c)).refreshChan c) :=
      (State.SameWords.of_regs rfl).snoc (State.SameWords.setReg _ _ (by simp))
    have hchan : ((t.setChan c (t.chan c)).refreshChan c).chan c = t.chan c := by rw [State.chan_refreshChan, State.chan_setChan_same]
    rw [heq]
    refine ⟨hwords.snoc hshown, State.reshown_gds.trans hgds, ?_, by rw [hchan, hhi], by rw [hchan, hlo]⟩
    refine (hshown.get ?_).trans hunres
    simp only [List.mem_singleton, Reg.CH_GSTAT.UNRES, Reg.CH_STAT.word]
    omega

theorem State.windowed_shown {raw win : Nat} {h : List Nat} (hres : s.Resolved c) : s.Shown c (s.windowed c raw win h) :=
  State.forL_kept_mem (P := fun t => s.Shown c t) (fun _ _ _ ht => ht.resolveChan) ⟨State.SameWords.refl, rfl, hres⟩

/-- R340, R342: what a sample of the filter leaves of a channel with nothing unresolved. -/
theorem State.filter_leaves {raw filt chat win : Nat} {h : List Nat} (hres : s.Resolved c)
    (ht : t = ((s.filtered c raw h filt).chattered c chat).windowed c raw win h) :
    t.get (Reg.CH_GSTAT.RAW c) = raw % 64 ∧ t.get (Reg.CH_GSTAT.FILT c) = filt % 64 ∧ (t.gd c).hist = h ∧
      t.get (Reg.CH_GSTAT.CAUSE c) = s.get (Reg.CH_GSTAT.CAUSE c) ∧ s.SameWords (filterWords c) t := by
  obtain ⟨hunres, hhi, hlo⟩ := hres
  have hunres' : ((s.filtered c raw h filt).chattered c chat).get (Reg.CH_GSTAT.UNRES c) = 0 := by
    rw [State.chattered_sameFields.get ?_, State.filtered_sameFields.get ?_, hunres]
    · simp [Fld.apart_cons, Fld.apart_nil, Reg.CH_GSTAT.UNRES, Reg.CH_GSTAT.RAW, Reg.CH_GSTAT.FILT]
    · simp only [Fld.apart_cons, Fld.apart_nil, Reg.CH_GSTAT.UNRES, Reg.CH_GCNT.CHATTER, Reg.CH_GSTAT.CHATTER]
      omega
  have hchan : ((s.filtered c raw h filt).chattered c chat).chan c = s.chan c := by rw [State.chan, State.chattered_chans]; rfl
  obtain ⟨hwords, hgds, -⟩ := State.windowed_shown (s := (s.filtered c raw h filt).chattered c chat) (raw := raw) (win := win) (h := h)
    ⟨hunres', by rw [hchan, hhi], by rw [hchan, hlo]⟩
  rw [← ht] at hwords hgds
  have hstat {hi lo : Nat} (hl : lo ≤ hi) (h0 : 0 < lo) : t.get ⟨Reg.CH_GSTAT.word c, hi, lo⟩ = (s.filtered c raw h filt).get ⟨Reg.CH_GSTAT.word c, hi, lo⟩ := by
    rw [hwords.get ?_, State.chattered_sameFields.get ?_]
    · simp only [Fld.apart_cons, Fld.apart_nil, Reg.CH_GSTAT.word, Reg.CH_GCNT.CHATTER, Reg.CH_GSTAT.CHATTER]
      omega
    · simp only [List.mem_singleton, Reg.CH_GSTAT.word, Reg.CH_STAT.word]
      omega
  have hmod (x : Nat) : x % 64 % 2 ^ 8 = x % 64 := Nat.mod_eq_of_lt ((Nat.mod_lt x (by decide)).trans (by decide))
  have hraw : (Reg.CH_GSTAT.RAW c).width = 8 := by simp [Fld.width, Reg.CH_GSTAT.RAW]
  have hfilt : (Reg.CH_GSTAT.FILT c).width = 8 := by simp [Fld.width, Reg.CH_GSTAT.FILT]
  have hbefore : s.SameWords (filterWords c) ((s.filtered c raw h filt).chattered c chat) := State.filtered_sameWords.snoc State.chattered_sameWords
  refine ⟨(hstat (by decide) (by decide)).trans ?raw, (hstat (by decide) (by decide)).trans ?filt, ?hist, (hstat (by decide) (by decide)).trans ?cause,
    hbefore.snoc fun a ha => hwords a fun hmem => ha ?words⟩
  case raw =>
    change (s.filtered c raw h filt).get (Reg.CH_GSTAT.RAW c) = raw % 64
    rw [State.filtered, State.get_set_other _ _ _ (Nat.le_of_ble_eq_true rfl) (Nat.le_of_ble_eq_true rfl) (.inr (Nat.le_of_ble_eq_true rfl)),
      State.get_set_same _ _ (Nat.le_of_ble_eq_true rfl) (Nat.le_of_ble_eq_true rfl), hraw, hmod]
  case filt =>
    change (s.filtered c raw h filt).get (Reg.CH_GSTAT.FILT c) = filt % 64
    rw [State.filtered, State.get_set_same _ _ (Nat.le_of_ble_eq_true rfl) (Nat.le_of_ble_eq_true rfl), hfilt, hmod]
  case hist =>
    have hgd : t.gd c = { s.gd c with hist := h, filtCmp := filt / 64 } := by
      rw [State.gd, hgds, State.chattered_gds]
      exact sget_sset_same _ _ _ _
    rw [hgd]
  case cause =>
    refine State.filtered_sameFields.get (f := Reg.CH_GSTAT.CAUSE c) ?_
    simp [Fld.apart_cons, Fld.apart_nil, Reg.CH_GSTAT.CAUSE, Reg.CH_GSTAT.RAW, Reg.CH_GSTAT.FILT]
  case words =>
    rw [List.mem_singleton.1 hmem]
    simp [filterWords]

end
end Sys2Proof.Machine
end

section
/-! SUPPORT. The trip of a supply (R327, R345). -/

namespace Sys2Proof.Machine

section
variable {s t u : State} {d cause tick n : Nat}

/-! ### The latch -/

/-- R327, R345: what the trip of a supply with a cause has latched, as against the state before it; the supply is off at 0 V. -/
structure State.DpsLatched (s t : State) (d cause : Nat) : Prop where
  cause : t.get (Reg.GD_DSTAT.CAUSE d) = s.get (Reg.GD_DSTAT.CAUSE d) ||| cause
  tripped : t.flag (Reg.GD_DSTAT.TRIPPED d) = true
  status : t.flag (Reg.DPS_STAT.TRIPPED d) = true
  off : t.flag (Reg.DPS_STAT.CONN d) = false
  target : (t.dps d).target = 0
  goal : (t.dps d).goal = 0

/-- The fields of a supply's trip are the supply's and the guards'. -/
theorem ofUnit_latchDps : (Reg.GD_DSTAT.CAUSE d).OfUnit ∧ (Reg.GD_DSTAT.TRIPPED d).OfUnit ∧ (Reg.DPS_STAT.TRIPPED d).OfUnit ∧ (Reg.DPS_STAT.CONN d).OfUnit := by
  simp only [Fld.OfUnit, Reg.GD_DSTAT.CAUSE, Reg.GD_DSTAT.TRIPPED, Reg.DPS_STAT.TRIPPED, Reg.DPS_STAT.CONN]
  omega

/-- What comes after the latch leaves it. -/
theorem State.DpsLatched.then (h : s.DpsLatched t d cause) (k : t.UnitsKept u) (hdpss : u.dpss = t.dpss) : s.DpsLatched u d cause := by
  obtain ⟨hcause, htripped, hstatus, hconn⟩ := ofUnit_latchDps (d := d)
  have hdps : u.dps d = t.dps d := by rw [State.dps, State.dps, hdpss]
  exact ⟨(k _ hcause).trans h.cause, (k.flag htripped).trans h.tripped, (k.flag hstatus).trans h.status, (k.flag hconn).trans h.off,
    by rw [hdps, h.target], by rw [hdps, h.goal]⟩

/-- What comes before the latch and leaves the cause. -/
theorem State.DpsLatched.after (h : t.DpsLatched u d cause) (hcause : t.get (Reg.GD_DSTAT.CAUSE d) = s.get (Reg.GD_DSTAT.CAUSE d)) : s.DpsLatched u d cause :=
  ⟨by rw [← hcause]; exact h.cause, h.tripped, h.status, h.off, h.target, h.goal⟩

/-- R345: the cause of a supply's trip with the stamp of the first. -/
def State.dpsStamped (s : State) (d cause tick : Nat) : State :=
  let old := s.get (Reg.GD_DSTAT.CAUSE d)
  let s1 := s.set (Reg.GD_DSTAT.CAUSE d) (old ||| cause)
  if old = 0 then s1.setReg (Reg.GD_DTRIP.word d) (BitVec.ofNat 128 (s.tripTime tick % 2 ^ 80 * 2 ^ 48 + cause % 256 * 2 ^ 40)) else s1

/-- R345: a supply with its trip told, before it is switched off. -/
def State.dpsTold (s : State) (d : Nat) : State := (s.set (Reg.GD_DSTAT.TRIPPED d) 1).set (Reg.DPS_STAT.TRIPPED d) 1

/-- R327: a supply off at 0 V. -/
def State.dpsOff (s : State) (d : Nat) : State :=
  (((s.setDps d { s.dps d with target := 0, goal := 0, delay := none, offAt := none }).set (Reg.DPS_STAT.CONN d) 0).set (Reg.DPS_STAT.COMPLY d) 0).refreshDps d

theorem State.dpsMeasTrip_idle (h : s.dpsMeas = []) : s.dpsMeasTrip d = s := by
  rw [State.dpsMeasTrip, State.dpsMeasOf, h]
  rfl

theorem State.dpsTripOff_idle (h : s.dpsMeas = []) : s.dpsTripOff d = s.dpsOff d := by
  unfold State.dpsTripOff State.dpsOff
  rw [State.dpsMeasTrip_idle h]

theorem State.latchDps_eq : ∃ g, s.latchDps d cause tick =
    ((((s.dpsStamped d cause tick).dpsTold d).setDgd d g).set Reg.GD_STAT.TRIP_SEEN 1).dpsTripOff d := by
  unfold State.latchDps State.dpsStamped State.dpsTold
  exact ⟨_, rfl⟩

theorem State.dpsStamped_keeps : s.TripKeeps (s.dpsStamped d cause tick) :=
  ite_kept (fun _ => (State.TripKeeps.refl.set _ _).setReg _ _) fun _ => State.TripKeeps.refl.set _ _

theorem State.TripKeeps.dpsTold (h : s.TripKeeps t) : s.TripKeeps (t.dpsTold d) := (h.set _ _).set _ _

theorem State.TripKeeps.dpsOff (h : s.TripKeeps t) : s.TripKeeps (t.dpsOff d) := (((((h.setDps _ _).set _ _).set _ _).set _ _).set _ _).set _ _

/-- R345: where no supply measures the latch of a supply is its cause, what tells it, and the switch. -/
theorem State.latchDps_idle (h : s.dpsMeas = []) : ∃ g, s.latchDps d cause tick =
    ((((s.dpsStamped d cause tick).dpsTold d).setDgd d g).set Reg.GD_STAT.TRIP_SEEN 1).dpsOff d := by
  obtain ⟨g, hg⟩ := State.latchDps_eq (s := s) (d := d) (cause := cause) (tick := tick)
  have hkeeps : s.TripKeeps ((((s.dpsStamped d cause tick).dpsTold d).setDgd d g).set Reg.GD_STAT.TRIP_SEEN 1) :=
    (State.dpsStamped_keeps.dpsTold.setDgd _ _).set _ _
  exact ⟨g, by rw [hg, State.dpsTripOff_idle (hkeeps.dpsMeas h)]⟩

theorem State.latchDps_keeps (h : s.dpsMeas = []) : s.TripKeeps (s.latchDps d cause tick) := by
  obtain ⟨g, hg⟩ := State.latchDps_idle (d := d) (cause := cause) (tick := tick) h
  rw [hg]
  exact ((State.dpsStamped_keeps.dpsTold.setDgd _ _).set _ _).dpsOff

theorem State.SameFields.setDgd {fs : List Fld} {g : Gd} (h : s.SameFields fs t) : s.SameFields fs (t.setDgd d g) := h.snoc (State.SameFields.of_regs rfl)

theorem State.dpsStamped_sameFields : s.SameFields [Reg.GD_DSTAT.CAUSE d, ⟨Reg.GD_DTRIP.word d, 127, 0⟩] (s.dpsStamped d cause tick) := by
  have hcause : s.SameFields [Reg.GD_DSTAT.CAUSE d, ⟨Reg.GD_DTRIP.word d, 127, 0⟩] (s.set (Reg.GD_DSTAT.CAUSE d) (s.get (Reg.GD_DSTAT.CAUSE d) ||| cause)) :=
    State.SameFields.set _ _ (Nat.le_of_ble_eq_true rfl) (Nat.le_of_ble_eq_true rfl) (by simp)
  exact ite_kept (fun _ => hcause.snoc (State.SameFields.setReg _ _ (by simp))) fun _ => hcause

theorem State.dpsTold_sameFields : s.SameFields [Reg.GD_DSTAT.TRIPPED d, Reg.DPS_STAT.TRIPPED d] (s.dpsTold d) :=
  (State.SameFields.set _ _ (Nat.le_of_ble_eq_true rfl) (Nat.le_of_ble_eq_true rfl) (by simp)).snoc
    (State.SameFields.set _ _ (Nat.le_of_ble_eq_true rfl) (Nat.le_of_ble_eq_true rfl) (by simp))

/-- The fields that the switch of a supply writes. -/
def offFields (d : Nat) : List Fld := Reg.DPS_STAT.CONN d :: Reg.DPS_STAT.COMPLY d :: rampFields d

theorem State.dpsOff_sameFields : s.SameFields (offFields d) (s.dpsOff d) :=
  ((State.SameFields.refl.setDps.snoc (State.SameFields.set _ _ (Nat.le_of_ble_eq_true rfl) (Nat.le_of_ble_eq_true rfl) (by simp [offFields]))).snoc
    (State.SameFields.set _ _ (Nat.le_of_ble_eq_true rfl) (Nat.le_of_ble_eq_true rfl) (by simp [offFields]))).snoc
    (State.refreshDps_sameFields.mono fun f hf => List.mem_cons_of_mem _ (List.mem_cons_of_mem _ hf))

theorem State.dpsStamped_cause (hcause : cause < 2 ^ 8) :
    (s.dpsStamped d cause tick).get (Reg.GD_DSTAT.CAUSE d) = s.get (Reg.GD_DSTAT.CAUSE d) ||| cause := by
  have hset : (s.set (Reg.GD_DSTAT.CAUSE d) (s.get (Reg.GD_DSTAT.CAUSE d) ||| cause)).get (Reg.GD_DSTAT.CAUSE d) = s.get (Reg.GD_DSTAT.CAUSE d) ||| cause := by
    have hwidth : (Reg.GD_DSTAT.CAUSE d).width = 8 := by simp [Fld.width, Reg.GD_DSTAT.CAUSE]
    have hold := State.get_lt (s := s) (Reg.GD_DSTAT.CAUSE d)
    rw [State.get_set_same (Reg.GD_DSTAT.CAUSE d) _ (Nat.le_of_ble_eq_true rfl) (Nat.le_of_ble_eq_true rfl), hwidth]
    rw [hwidth] at hold
    exact Nat.mod_eq_of_lt (Nat.or_lt_two_pow hold hcause)
  have haddr : (Reg.GD_DSTAT.CAUSE d).addr ≠ Reg.GD_DTRIP.word d := by
    simp only [Reg.GD_DSTAT.CAUSE, Reg.GD_DTRIP.word]
    omega
  exact ite_kept (P := fun u : State => u.get (Reg.GD_DSTAT.CAUSE d) = s.get (Reg.GD_DSTAT.CAUSE d) ||| cause)
    (fun _ => (State.get_setReg_other _ _ _ haddr).trans hset) fun _ => hset

theorem State.dpsTold_flags : (s.dpsTold d).flag (Reg.GD_DSTAT.TRIPPED d) = true ∧ (s.dpsTold d).flag (Reg.DPS_STAT.TRIPPED d) = true := by
  refine ⟨?_, State.flag_set_one _ (Nat.le_of_ble_eq_true rfl) (Nat.le_of_ble_eq_true rfl)⟩
  have haddr : (Reg.GD_DSTAT.TRIPPED d).addr ≠ (Reg.DPS_STAT.TRIPPED d).addr ∨ (Reg.GD_DSTAT.TRIPPED d).hi < (Reg.DPS_STAT.TRIPPED d).lo := by
    simp only [Reg.GD_DSTAT.TRIPPED, Reg.DPS_STAT.TRIPPED]
    omega
  have hapart : (Reg.GD_DSTAT.TRIPPED d).Apart [Reg.DPS_STAT.TRIPPED d] :=
    Fld.apart_cons.2 ⟨haddr.imp_right .inl, Fld.apart_nil.2 (Nat.le_of_ble_eq_true rfl)⟩
  have hset : (s.set (Reg.GD_DSTAT.TRIPPED d) 1).SameFields [Reg.DPS_STAT.TRIPPED d] (s.dpsTold d) :=
    State.SameFields.set _ _ (Nat.le_of_ble_eq_true rfl) (Nat.le_of_ble_eq_true rfl) (by simp)
  rw [hset.flag hapart]
  exact State.flag_set_one _ (Nat.le_of_ble_eq_true rfl) (Nat.le_of_ble_eq_true rfl)

/-- R327: a supply that is off is not connected, and stands at 0 V. -/
theorem State.dpsOff_off : (s.dpsOff d).flag (Reg.DPS_STAT.CONN d) = false ∧ ((s.dpsOff d).dps d).target = 0 ∧ ((s.dpsOff d).dps d).goal = 0 := by
  obtain ⟨t, ht⟩ : ∃ t, t = s.setDps d { s.dps d with target := 0, goal := 0, delay := none, offAt := none } := ⟨_, rfl⟩
  have hoff : s.dpsOff d = ((t.set (Reg.DPS_STAT.CONN d) 0).set (Reg.DPS_STAT.COMPLY d) 0).refreshDps d := by rw [ht]; rfl
  have hconn : (t.set (Reg.DPS_STAT.CONN d) 0).SameFields (Reg.DPS_STAT.COMPLY d :: rampFields d) (s.dpsOff d) := by
    rw [hoff]
    exact (State.SameFields.set _ _ (Nat.le_of_ble_eq_true rfl) (Nat.le_of_ble_eq_true rfl) (by simp)).snoc
      (State.refreshDps_sameFields.mono fun f hf => List.mem_cons_of_mem _ hf)
  have hdps : (s.dpsOff d).dps d = { s.dps d with target := 0, goal := 0, delay := none, offAt := none } := by
    rw [hoff, State.dps, State.refreshDps_dpss, ht]
    exact sget_sset_same _ _ _ _
  refine ⟨(hconn.flag ?_).trans (State.flag_set_zero _ (Nat.le_of_ble_eq_true rfl) (Nat.le_of_ble_eq_true rfl)), by rw [hdps], by rw [hdps]⟩
  simp only [rampFields, Fld.apart_cons, Fld.apart_nil, Reg.DPS_STAT.CONN, Reg.DPS_STAT.COMPLY, Reg.DPS_STAT.TARGET, Reg.DPS_STAT.RAMPING, Reg.DPS_STAT.AT_SET,
    Reg.DPS_CNT.RAMPS]
  omega

/-- The fields that the latch of a supply may write. -/
def latchDpsFields (d : Nat) : List Fld :=
  [Reg.GD_DSTAT.CAUSE d, ⟨Reg.GD_DTRIP.word d, 127, 0⟩, Reg.GD_DSTAT.TRIPPED d, Reg.DPS_STAT.TRIPPED d, Reg.GD_STAT.TRIP_SEEN] ++ offFields d

theorem State.latchDps_sameFields (h : s.dpsMeas = []) : s.SameFields (latchDpsFields d) (s.latchDps d cause tick) := by
  obtain ⟨g, hg⟩ := State.latchDps_idle (d := d) (cause := cause) (tick := tick) h
  rw [hg]
  refine ((((State.dpsStamped_sameFields.mono ?_).snoc (State.dpsTold_sameFields.mono ?_)).setDgd).snoc
    (State.SameFields.set _ _ (Nat.le_of_ble_eq_true rfl) (Nat.le_of_ble_eq_true rfl) ?_)).snoc (State.dpsOff_sameFields.mono fun f hf => List.mem_append_right _ hf)
  · simp +contextual [latchDpsFields]
  · simp +contextual [latchDpsFields]
  · simp [latchDpsFields]

theorem State.latchDps_latched (hd : d < 64) (hcause : cause < 2 ^ 8) (h : s.dpsMeas = []) : s.DpsLatched (s.latchDps d cause tick) d cause := by
  obtain ⟨g, hg⟩ := State.latchDps_idle (d := d) (cause := cause) (tick := tick) h
  obtain ⟨b, hb⟩ : ∃ b, b = s.dpsStamped d cause tick := ⟨_, rfl⟩
  rw [← hb] at hg
  have htold : (b.dpsTold d).SameFields (Reg.GD_STAT.TRIP_SEEN :: offFields d) (s.latchDps d cause tick) := by
    rw [hg]
    exact (State.SameFields.refl.setDgd.snoc (State.SameFields.set _ _ (Nat.le_of_ble_eq_true rfl) (Nat.le_of_ble_eq_true rfl) (by simp))).snoc
      (State.dpsOff_sameFields.mono fun f hf => List.mem_cons_of_mem _ hf)
  have hapart : ∀ f ∈ [Reg.GD_DSTAT.CAUSE d, Reg.GD_DSTAT.TRIPPED d, Reg.DPS_STAT.TRIPPED d], f.Apart (Reg.GD_STAT.TRIP_SEEN :: offFields d) := by
    simp only [List.forall_mem_cons, List.not_mem_nil, false_imp_iff, implies_true, and_true, offFields, rampFields, Fld.apart_cons, Fld.apart_nil,
      Reg.GD_DSTAT.CAUSE, Reg.GD_DSTAT.TRIPPED, Reg.DPS_STAT.TRIPPED, Reg.GD_STAT.TRIP_SEEN, Reg.DPS_STAT.CONN, Reg.DPS_STAT.COMPLY, Reg.DPS_STAT.TARGET,
      Reg.DPS_STAT.RAMPING, Reg.DPS_STAT.AT_SET, Reg.DPS_CNT.RAMPS]
    omega
  simp only [List.forall_mem_cons, List.not_mem_nil, false_imp_iff, implies_true, and_true] at hapart
  obtain ⟨hcauseF, htrippedF, hstatusF⟩ := hapart
  obtain ⟨htripped, hstatus⟩ := State.dpsTold_flags (s := b) (d := d)
  obtain ⟨hconn, htarget, hgoal⟩ := State.dpsOff_off (s := ((b.dpsTold d).setDgd d g).set Reg.GD_STAT.TRIP_SEEN 1) (d := d)
  rw [← hg] at hconn htarget hgoal
  refine ⟨(htold.get hcauseF).trans ?_, (htold.flag htrippedF).trans htripped, (htold.flag hstatusF).trans hstatus, hconn, htarget, hgoal⟩
  have hcauseT : (Reg.GD_DSTAT.CAUSE d).Apart [Reg.GD_DSTAT.TRIPPED d, Reg.DPS_STAT.TRIPPED d] := by
    simp only [Fld.apart_cons, Fld.apart_nil, Reg.GD_DSTAT.CAUSE, Reg.GD_DSTAT.TRIPPED, Reg.DPS_STAT.TRIPPED]
    omega
  rw [State.dpsTold_sameFields.get hcauseT, hb, State.dpsStamped_cause hcause]

/-! ### The trip of a supply alone in its gang -/

/-- R345: a supply that trips alone, before its record. -/
def State.dpsTripped (s : State) (d cause tick : Nat) : State := ((s.ownerTripped (s.dpsSite d)).latchDps d cause tick).tripTold true d cause

/-- R345: the record of a supply's trip that has been told. -/
def State.dpsTripRecorded (s : State) (d cause : Nat) : State := match s.dpsSite d with
  | some n => s.event n Ev.GUARD_TRIP (0x100 + (if d = s.gangLead d then cause else 0x80)) (s.dpsEntry d)
  | none => s

theorem State.dpsTripRecorded_recs : ∃ p, s.dpsTripRecorded d cause = s.withRecs p := by
  unfold State.dpsTripRecorded
  split
  · exact State.event_withRecs
  · exact ⟨_, State.withRecs_self.symm⟩

/-- R345: a supply trips with its site and its gang, and its trip is told and recorded. -/
theorem State.tripGang_eq : s.tripGang d cause tick =
    ((((s.ownerTripped (s.dpsSite d)).latchDps d cause tick).forL
      ((((s.ownerTripped (s.dpsSite d)).latchDps d cause tick).gangChans d).filter (· != d)) fun m t => t.latchDps m 0x80 tick).tripTold true d
        cause).dpsTripRecorded d cause := by
  unfold State.tripGang State.tripTold State.dpsTripRecorded State.ownerTripped
  rfl

theorem State.tripGang_alone (hgang : s.gangChans d = [d])
    (hkeeps : s.TripKeeps ((s.ownerTripped (s.dpsSite d)).latchDps d cause tick)) : ∃ p, s.tripGang d cause tick = (s.dpsTripped d cause tick).withRecs p := by
  have hmembers : ((((s.ownerTripped (s.dpsSite d)).latchDps d cause tick).gangChans d).filter (· != d)) = [] := by
    rw [hkeeps.gangChans, hgang]
    simp
  rw [State.tripGang_eq, hmembers, State.forL_nil]
  exact State.dpsTripRecorded_recs

theorem State.tripDps_alone {p : List PendRec} (h : s.tripGang d cause tick = (s.dpsTripped d cause tick).withRecs p)
    (hlink : (s.dpsTripped d cause tick).flag (Reg.GD_DCFG.CH_LINK ((s.dpsTripped d cause tick).gangLead d)) = false) :
    s.tripDps d cause tick = (s.dpsTripped d cause tick).withRecs p := by
  have hlink' : ((s.dpsTripped d cause tick).withRecs p).flag (Reg.GD_DCFG.CH_LINK (((s.dpsTripped d cause tick).withRecs p).gangLead d)) = false := hlink
  unfold State.tripDps
  dsimp only
  rw [h]
  split
  · exact if_neg (by rw [hlink']; decide)
  · rfl

theorem State.latchDps_siteState (hn : n < 64) (h : s.dpsMeas = []) : (s.latchDps d cause tick).siteState n = s.siteState n := by
  refine (State.latchDps_sameFields h).get ?_
  simp only [latchDpsFields, offFields, rampFields, List.cons_append, List.nil_append, Fld.apart_cons, Fld.apart_nil, Reg.SQ_STAT.STATE, Reg.GD_DSTAT.CAUSE,
    Reg.GD_DTRIP.word, Reg.GD_DSTAT.TRIPPED, Reg.DPS_STAT.TRIPPED, Reg.GD_STAT.TRIP_SEEN, Reg.DPS_STAT.CONN, Reg.DPS_STAT.COMPLY, Reg.DPS_STAT.TARGET,
    Reg.DPS_STAT.RAMPING, Reg.DPS_STAT.AT_SET, Reg.DPS_CNT.RAMPS]
  omega

theorem State.latchDps_link (hd : d < 64) (h : s.dpsMeas = []) : (s.latchDps d cause tick).flag (Reg.GD_DCFG.CH_LINK d) = s.flag (Reg.GD_DCFG.CH_LINK d) := by
  refine (State.latchDps_sameFields h).flag ?_
  simp only [latchDpsFields, offFields, rampFields, List.cons_append, List.nil_append, Fld.apart_cons, Fld.apart_nil, Reg.GD_DCFG.CH_LINK, Reg.GD_DSTAT.CAUSE,
    Reg.GD_DTRIP.word, Reg.GD_DSTAT.TRIPPED, Reg.DPS_STAT.TRIPPED, Reg.GD_STAT.TRIP_SEEN, Reg.DPS_STAT.CONN, Reg.DPS_STAT.COMPLY, Reg.DPS_STAT.TARGET,
    Reg.DPS_STAT.RAMPING, Reg.DPS_STAT.AT_SET, Reg.DPS_CNT.RAMPS]
  omega

/-- R345: a supply alone in its gang, without a link, trips with its site. -/
theorem State.tripDps_trips (hd : d < 64) (hcause : cause < 2 ^ 8) (hgang : s.gangChans d = [d]) (hlead : s.gangLead d = d)
    (hlink : s.flag (Reg.GD_DCFG.CH_LINK d) = false) (hdps : s.dpsMeas = []) (htdc : s.tdcs = []) (hpmu : s.pmuMeas = []) (ho : s.OwnerIdle (s.dpsSite d))
    (hu : u = s.tripDps d cause tick) :
    s.DpsLatched u d cause ∧
      (∀ n, s.dpsSite d = some n → s.siteState n = Site.RUNNING ∨ s.siteState n = Site.HELD → u.siteState n = Site.TRIPPED) ∧ u.mem = s.mem := by
  obtain ⟨hunits, hkeeps⟩ := State.ownerTripped_kept ho hpmu htdc
  obtain ⟨w, hw⟩ : ∃ w, w = s.ownerTripped (s.dpsSite d) := ⟨_, rfl⟩
  rw [← hw] at hunits hkeeps
  have hdps' : w.dpsMeas = [] := hkeeps.dpsMeas hdps
  have hlatchKeeps : s.TripKeeps (w.latchDps d cause tick) := hkeeps.trans (State.latchDps_keeps hdps')
  have htripped : s.dpsTripped d cause tick = (w.latchDps d cause tick).tripTold true d cause := by rw [hw]; rfl
  have htoldKeeps : s.TripKeeps (s.dpsTripped d cause tick) := by
    rw [htripped]
    exact hlatchKeeps.trans State.tripTold_keeps
  obtain ⟨hcauseF, -, -, -⟩ := ofUnit_latchDps (d := d)
  have hlinkOf : (Reg.GD_DCFG.CH_LINK d).OfUnit := by
    simp only [Fld.OfUnit, Reg.GD_DCFG.CH_LINK]
    omega
  have hlinked : (s.dpsTripped d cause tick).flag (Reg.GD_DCFG.CH_LINK ((s.dpsTripped d cause tick).gangLead d)) = false := by
    rw [htoldKeeps.gangLead, hlead, htripped, State.tripTold_unitsKept.flag hlinkOf, State.latchDps_link hd hdps', hunits.flag hlinkOf, hlink]
  obtain ⟨p, hp⟩ := State.tripGang_alone (s := s) (d := d) (cause := cause) (tick := tick) hgang (by rw [← hw]; exact hlatchKeeps)
  rw [State.tripDps_alone hp hlinked, htripped] at hu
  have hlatched : s.DpsLatched (w.latchDps d cause tick) d cause := (State.latchDps_latched hd hcause hdps').after (hunits _ hcauseF)
  refine ⟨?_, fun n hn hst => ?_, ?_⟩
  · rw [hu]
    exact hlatched.then State.tripTold_unitsKept State.tripTold_dpss
  · obtain ⟨hlt, hclause⟩ := ho n hn
    have hstate : w.siteState n = Site.TRIPPED := by
      rw [hw, hn]
      exact State.tripSite_tripped hclause (State.noUnits_of_nil hpmu htdc) hst
    have hafter : ((w.latchDps d cause tick).tripTold true d cause).siteState n = Site.TRIPPED := by
      rw [State.tripTold_siteState, State.latchDps_siteState hlt hdps', hstate]
    rw [hu]
    exact hafter
  · rw [hu, ← htripped]
    exact htoldKeeps.mem

end
end Sys2Proof.Machine
end

section
/-! Guard trips, the end of a blank and the majority filter (O32). -/

namespace Sys2Proof.Machine

section
variable {s : State} {c d cmp tick : Nat}

/-! ### An excursion of a channel -/

/-- R338: an excursion that acts is the trip of its channel. -/
theorem State.guardTrip_trips (hc : c < 1024) (hcmp : cmp < 6) (hacts : s.guardActs c cmp = true) (hcomp : s.compChans c = [c]) (hlead : s.leadOf c = c)
    (hqual : s.flag (Reg.CH_GCFG.QUAL c) = false) (hlink : s.flag (Reg.CH_GCFG.DPS_LINK c) = false) (htdc : s.tdcs = []) (hpmu : s.pmuMeas = [])
    (ho : s.OwnerIdle (s.chanSite c)) {u : State} (hu : u = s.guardTrip c cmp tick) :
    s.ChanLatched u c (2 ^ cmp) tick ∧ u.flag (intrField Intr.TRIP) = true ∧
      (∀ n, s.chanSite c = some n → s.siteState n = Site.RUNNING ∨ s.siteState n = Site.HELD → u.siteState n = Site.TRIPPED) ∧ u.mem = s.mem := by
  have hkeeps : s.TripKeeps (s.rawSet c cmp) := State.TripKeeps.refl.set _ _
  have hapart := apart_raw (c := c)
  simp only [List.forall_mem_cons, List.not_mem_nil, false_imp_iff, implies_true, and_true] at hapart
  obtain ⟨hcauseF, htripsF, hlinkF⟩ := hapart
  rw [State.guardTrip_acts hacts (by rw [hlead, hqual])] at hu
  obtain ⟨hlatched, hintr, hsite, hmem⟩ := State.tripChan_trips (s := s.rawSet c cmp) hc
    ((Nat.pow_lt_pow_right (by decide) hcmp).trans (by decide)) (by rw [hkeeps.compChans, hcomp]) (by rw [hkeeps.leadOf, hlead])
    (by rw [State.rawSet_sameFields.flag hlinkF, hlink]) (hkeeps.tdcs htdc) (hkeeps.pmuMeas hpmu) (by rw [hkeeps.chanSite]; exact ho) hu
  refine ⟨hlatched.after (State.rawSet_sameFields.get hcauseF) (State.rawSet_sameFields.get htripsF) hkeeps.now, hintr, fun n hn hst => ?_,
    hmem.trans hkeeps.mem⟩
  refine hsite n (by rw [hkeeps.chanSite, hn]) ?_
  rw [State.rawSet_siteState]
  exact hst

/-! ### An excursion of a supply -/

/-- R345: the raw state of a comparator of a supply. -/
def State.dpsRawSet (s : State) (d cmp : Nat) : State := s.set (Reg.GD_DSTAT.RAW d) (s.get (Reg.GD_DSTAT.RAW d) ||| 2 ^ cmp)

theorem State.dpsRawSet_sameFields : s.SameFields [Reg.GD_DSTAT.RAW d] (s.dpsRawSet d cmp) :=
  State.SameFields.set _ _ (Nat.le_of_ble_eq_true rfl) (Nat.le_of_ble_eq_true rfl) (by simp)

theorem State.dpsGuardTrip_acts (hcmp : cmp < 2) (hacts : s.dpsGuardActs d cmp = true) (hqual : s.flag (Reg.GD_DCFG.QUAL (s.gangLead d)) = false) :
    s.dpsGuardTrip d cmp tick = (s.dpsRawSet d cmp).tripDps d (2 ^ cmp) tick := by
  unfold State.dpsGuardTrip
  exact (if_neg (Nat.not_le.2 hcmp)).trans (if_pos (by rw [hacts, hqual]; rfl))

theorem State.dpsGuardTrip_raw (hcmp : cmp < 2) (hacts : s.dpsGuardActs d cmp = false) : s.dpsGuardTrip d cmp tick = s.dpsRawSet d cmp := by
  unfold State.dpsGuardTrip
  exact (if_neg (Nat.not_le.2 hcmp)).trans (if_neg (by rw [hacts, Bool.false_and]; decide))

theorem apart_dpsRaw : ∀ f ∈ [Reg.GD_DSTAT.CAUSE d, Reg.GD_DCFG.CH_LINK d], f.Apart [Reg.GD_DSTAT.RAW d] := by
  simp only [List.forall_mem_cons, List.not_mem_nil, false_imp_iff, implies_true, and_true, Fld.apart_cons, Fld.apart_nil, Reg.GD_DSTAT.CAUSE,
    Reg.GD_DCFG.CH_LINK, Reg.GD_DSTAT.RAW]
  omega

theorem State.dpsRawSet_siteState {n : Nat} : (s.dpsRawSet d cmp).siteState n = s.siteState n := by
  refine State.dpsRawSet_sameFields.get ?_
  simp only [Fld.apart_cons, Fld.apart_nil, Reg.SQ_STAT.STATE, Reg.GD_DSTAT.RAW]
  omega

/-- R345: an excursion that acts is the trip of its supply. -/
theorem State.dpsGuardTrip_trips (hd : d < 64) (hcmp : cmp < 2) (hacts : s.dpsGuardActs d cmp = true) (hgang : s.gangChans d = [d]) (hlead : s.gangLead d = d)
    (hqual : s.flag (Reg.GD_DCFG.QUAL d) = false) (hlink : s.flag (Reg.GD_DCFG.CH_LINK d) = false) (hdps : s.dpsMeas = []) (htdc : s.tdcs = [])
    (hpmu : s.pmuMeas = []) (ho : s.OwnerIdle (s.dpsSite d)) {u : State} (hu : u = s.dpsGuardTrip d cmp tick) :
    s.DpsLatched u d (2 ^ cmp) ∧
      ∀ n, s.dpsSite d = some n → s.siteState n = Site.RUNNING ∨ s.siteState n = Site.HELD → u.siteState n = Site.TRIPPED := by
  have hkeeps : s.TripKeeps (s.dpsRawSet d cmp) := State.TripKeeps.refl.set _ _
  have hapart := apart_dpsRaw (d := d)
  simp only [List.forall_mem_cons, List.not_mem_nil, false_imp_iff, implies_true, and_true] at hapart
  obtain ⟨hcauseF, hlinkF⟩ := hapart
  rw [State.dpsGuardTrip_acts hcmp hacts (by rw [hlead, hqual])] at hu
  obtain ⟨hlatched, hsite, -⟩ := State.tripDps_trips (s := s.dpsRawSet d cmp) hd
    ((Nat.pow_lt_pow_right (by decide) hcmp).trans (by decide)) (by rw [hkeeps.gangChans, hgang]) (by rw [hkeeps.gangLead, hlead])
    (by rw [State.dpsRawSet_sameFields.flag hlinkF, hlink]) (hkeeps.dpsMeas hdps) (hkeeps.tdcs htdc) (hkeeps.pmuMeas hpmu)
    (by rw [hkeeps.dpsSite]; exact ho) hu
  refine ⟨hlatched.after (State.dpsRawSet_sameFields.get hcauseF), fun n hn hst => hsite n (by rw [hkeeps.dpsSite, hn]) ?_⟩
  rw [State.dpsRawSet_siteState]
  exact hst

/-! ### NEGV and SENSE (R327) -/

/-- R327: a supply with a standing condition. -/
def State.dpsCond (s : State) (d bit : Nat) : State := s.setDps d { s.dps d with cond := (s.dps d).cond ||| 2 ^ (bit - 2) }

theorem State.supplyTrip_conn {bit : Nat} (hconn : s.flag (Reg.DPS_STAT.CONN d) = true) : s.supplyTrip d bit = (s.dpsCond d bit).tripDps d (2 ^ bit) 0 :=
  if_pos hconn

theorem State.supplyTrip_off {bit : Nat} (hconn : s.flag (Reg.DPS_STAT.CONN d) = false) : s.supplyTrip d bit = s := by
  unfold State.supplyTrip
  exact if_neg (by rw [hconn]; decide)

theorem State.dpsCond_get {bit : Nat} (f : Fld) : (s.dpsCond d bit).get f = s.get f := rfl

/-- R327: the condition of a connected supply is its trip. -/
theorem State.supplyTrip_trips {bit : Nat} (hd : d < 64) (hbit : bit < 8) (hconn : s.flag (Reg.DPS_STAT.CONN d) = true) (hgang : s.gangChans d = [d])
    (hlead : s.gangLead d = d) (hlink : s.flag (Reg.GD_DCFG.CH_LINK d) = false) (hdps : s.dpsMeas = []) (htdc : s.tdcs = []) (hpmu : s.pmuMeas = [])
    (ho : s.OwnerIdle (s.dpsSite d)) {u : State} (hu : u = s.supplyTrip d bit) : s.DpsLatched u d (2 ^ bit) ∧ u.mem = s.mem := by
  have hkeeps : s.TripKeeps (s.dpsCond d bit) := State.TripKeeps.refl.setDps _ _
  rw [State.supplyTrip_conn hconn] at hu
  obtain ⟨hlatched, -, hmem⟩ := State.tripDps_trips (s := s.dpsCond d bit) hd (Nat.pow_lt_pow_right (by decide) hbit)
    (by rw [hkeeps.gangChans, hgang]) (by rw [hkeeps.gangLead, hlead]) (by rw [State.flag, State.dpsCond_get]; exact hlink) (hkeeps.dpsMeas hdps)
    (hkeeps.tdcs htdc) (hkeeps.pmuMeas hpmu) (by rw [hkeeps.dpsSite]; exact ho) hu
  exact ⟨hlatched.after (State.dpsCond_get _), hmem.trans hkeeps.mem⟩

/-! ### The end of a blank (R337) -/

theorem State.blankEnd_acts (hcmp : cmp < 2) (hmode : s.chEffMode c = 0) (hblank : s.get (Reg.CH_GCFG.BLANK (s.leadOf c)) ≠ 0) :
    s.blankEnd c cmp = s.guardTrip c cmp 0 := if_pos ⟨hcmp, hmode, hblank⟩

theorem State.blankEnd_idle (h : 2 ≤ cmp ∨ s.chEffMode c ≠ 0 ∨ s.get (Reg.CH_GCFG.BLANK (s.leadOf c)) = 0) : s.blankEnd c cmp = s := by
  refine if_neg fun hall => ?_
  obtain ⟨hcmp, hmode, hblank⟩ := hall
  obtain h | h | h := h
  · omega
  · exact h hmode
  · exact hblank h

/-! ### The rows -/

theorem guardTrip_exec {c : Fin 1024} {k : Fin 6} {g : BitVec 16} : exec (.guardTrip false c k g) s = .next (s.guardTrip c k g.toNat).follow := rfl

theorem dpsGuardTrip_exec {d : Fin 1024} {k : Fin 6} {g : BitVec 16} (hd : d.val < 64) :
    exec (.guardTrip true d k g) s = .next (s.dpsGuardTrip d k g.toNat).follow := by
  have hexec : exec (.guardTrip true d k g) s = .next (if d.val < 64 then s.dpsGuardTrip d k g.toNat else s).follow := rfl
  rw [hexec, if_pos hd]

end

/-- Settles O32: an excursion that acts latches its trip in its unit and takes its site to TRIPPED; the rest changes its raw state at most. -/
theorem guardTrips : Obligations.GuardTrips := by
  unfold Obligations.GuardTrips
  refine ⟨fun s c k g hacts hcomp hlead hqual hlink htdc hpmu ho => ⟨_, guardTrip_exec, ?trip⟩, fun s c k g h => ⟨_, guardTrip_exec, ?raw⟩,
    fun s d k g hd hk => ⟨fun hacts hgang hlead hqual hlink hdps htdc hpmu ho => ⟨_, dpsGuardTrip_exec hd, ?supply⟩,
      fun hacts => ⟨_, dpsGuardTrip_exec hd, ?supplyRaw⟩⟩,
    fun s c k => ⟨fun hk hmode hblank => ⟨(s.guardTrip c k 0).follow, ?blank, guardTrip_exec⟩, fun h => ?noBlank⟩, fun s d i hi => ?conditions, fun s c w hdue => ?between,
    fun s c w h f hdue hqual hunres hhi hlo hh hf => ?sample⟩
  case trip =>
    obtain ⟨hlatched, hintr, hsite, hmem⟩ := State.guardTrip_trips (tick := g.toNat) c.isLt k.isLt hacts hcomp hlead hqual hlink htdc hpmu ho rfl
    refine ⟨hlatched.cause, hlatched.tripped, hlatched.status, hlatched.seen, hlatched.trips, hintr, fun h0 => ?_, hsite, hmem⟩
    rw [hlatched.time h0, State.tripTime, Nat.mod_eq_of_lt g.isLt]
  case raw =>
    rw [State.guardTrip_raw h]
    exact ⟨State.rawSet_raw (k.isLt.trans (by decide)), State.rawSet_sameFields, rfl⟩
  case supply =>
    obtain ⟨hlatched, hsite⟩ := State.dpsGuardTrip_trips (tick := g.toNat) hd hk hacts hgang hlead hqual hlink hdps htdc hpmu ho rfl
    exact ⟨hlatched.cause, hlatched.tripped, hlatched.status, hlatched.off, hlatched.target, hsite⟩
  case supplyRaw =>
    rw [State.dpsGuardTrip_raw hk hacts]
    exact ⟨State.dpsRawSet_sameFields, rfl⟩
  case blank =>
    have hexec : exec (.blankEnd false c k) s = .next (s.blankEnd c k).follow := rfl
    rw [hexec, State.blankEnd_acts hk hmode hblank]
  case noBlank =>
    have hexec : exec (.blankEnd false c k) s = .next (s.blankEnd c k).follow := rfl
    rw [hexec, State.blankEnd_idle h]
  case conditions =>
    suffices hrow : ∃ bit, bit < 8 ∧ i.2 = 2 ^ bit ∧ exec i.1 s = .next (s.supplyTrip d bit).follow by
      obtain ⟨bit, hbit, hcause, hexec⟩ := hrow
      refine ⟨fun hoff => by rw [hexec, State.supplyTrip_off hoff], fun hconn hgang hlead hlink hdps htdc hpmu ho => ⟨_, hexec, ?_⟩⟩
      obtain ⟨hlatched, hmem⟩ := State.supplyTrip_trips d.isLt hbit hconn hgang hlead hlink hdps htdc hpmu ho rfl
      rw [hcause]
      exact ⟨hlatched.cause, hlatched.tripped, hlatched.status, hlatched.off, hlatched.target, hlatched.goal, hmem⟩
    simp only [List.mem_cons, List.not_mem_nil, or_false] at hi
    obtain rfl | rfl := hi
    · exact ⟨2, by decide, rfl, rfl⟩
    · exact ⟨3, by decide, rfl, rfl⟩
  case between =>
    have hexec : exec (.filterSample false c w) s = .next (s.filterSample c w.toNat).follow := rfl
    have hsame : s.filterSample c w.toNat = s := by
      unfold State.filterSample
      exact if_pos hdue
    rw [hexec, hsame]
  case sample =>
    have hexec : exec (.filterSample false c w) s = .next (s.filterSample c w.toNat).follow := rfl
    obtain ⟨t, ht⟩ : ∃ t, t = ((s.filtered c w.toNat h f.1).chattered c f.2).windowed c w.toNat (s.get (Reg.CH_GCFG.WIN (s.leadOf c))) h := ⟨_, rfl⟩
    obtain ⟨hraw, hfilt, hhist, hcause, hwords⟩ := State.filter_leaves ⟨hunres, hhi, hlo⟩ ht
    have hqual' : t.flag (Reg.CH_GCFG.QUAL (s.leadOf c)) = false := by
      rw [State.flag, hwords.get ?_]
      · exact hqual
      · simp only [filterWords, List.mem_cons, List.not_mem_nil, or_false, Reg.CH_GCFG.QUAL, Reg.CH_GSTAT.word, Reg.CH_GCNT.word, Reg.CH_STAT.word]
        omega
    rw [State.filterSample_eq hdue hh hf ht hqual'] at hexec
    exact ⟨t, hexec, hraw, hfilt, hhist, hcause, hwords⟩

end Sys2Proof.Machine
end
